-- ==== Sys2Proof/Word.lean ====
section
/-! DEFINITION. The word types of the model: the widths the manual uses, and the plain table type. -/
namespace Sys2Proof

/-- One octet of a message, an image, a stored record or a brick. -/
abbrev Byte := BitVec 8
/-- A 16-bit field or code. -/
abbrev Half := BitVec 16
/-- A 32-bit object word (R448). -/
abbrev Word := BitVec 32
/-- A Q1.23 or Q4.20 value of the Loop Engine (R185). -/
abbrev W24 := BitVec 24
/-- The 56-bit accumulator of a lane (R185). -/
abbrev Acc := BitVec 56

/-- Sparse data by number: pairs in strictly rising order of the number, none equal to what an
unlisted number reads as.  Every operation over tables stands in `Machine/Ops.lean`. -/
abbrev Tbl (α : Type) := List (Nat × α)

end Sys2Proof
end

