-- ==== Sys2Proof/Syntax.lean ====
section
/-! DEFINITION. The commands: one constructor for each row of the table of operations and events, with its
operands.  The table gives no row any bits, so the operands are the model's (log entry 2). -/
namespace Sys2Proof

/-- The straps sampled at a release of reset (R543): `ROLE`, `ADDR2` to `ADDR0`, and `GPIO0`. -/
structure Straps where
  role  : Bool := false
  addr  : BitVec 3 := 0
  gpio0 : Bool := false
  deriving DecidableEq, Repr

/-- Which of the two conditions of `VCORE_LOW` persists (R376, R608). -/
inductive VcoreCond where
  | undervoltage | mismatch
  deriving DecidableEq, Repr

/-- A fault detail as it reaches the collector from inside a block (R371, R372). -/
structure FaultArg where
  code : Half := 0
  obj  : Half := 0
  aux  : Half := 0
  val  : Word := 0
  deriving DecidableEq, Repr

/-- What a wire fault's pair reads (R372). -/
inductive PairFault where
  | invalid | standing | absent
  deriving DecidableEq, Repr

/-- One OTP word's new readings at the three levels (R577). -/
structure OtpDrift where
  addr : Fin 512
  norm : BitVec 40
  lo   : BitVec 40
  hi   : BitVec 40
  deriving DecidableEq, Repr

/-- How the cells of an OTP word answer programming pulses (R582): the pulses each set bit of the encoded
word needs, in ascending bit order; the bits that then read otherwise at margin high or at normal level; and
the number of pulses after which the band, the supply or `PFAIL_N` fails, with the reason of Table 18.9. -/
structure FuseEnv where
  pulses : List Nat := []
  hiFlip : BitVec 40 := 0
  stop   : Option (Nat × Fin 9) := none
  deriving DecidableEq, Repr

/-- What the work of a boot stage meets outside the controller's own state (R550, R551, R592, R597). -/
structure StageEnv where
  /-- ROM self-check and lockstep check pass. -/
  romOk   : Bool := true
  lockOk  : Bool := true
  /-- Readings of OTP words that have changed since they were last read. -/
  drift   : List OtpDrift := []
  /-- Programming and erasing flash succeed. -/
  flashOk : Bool := true
  /-- Objects whose stored settings record the firmware does not know the format of. -/
  badSettings : List Half := []
  /-- Cells' answers to a zeroisation that is completed (R567). -/
  fuse    : FuseEnv := {}
  deriving DecidableEq, Repr

/-- What the controller observes at a bond boundary from outside: the self-test of the collector (R386),
the core regulator and supplies (R563, R610), standing `VCORE` conditions, flash (R437) and the cells' answer to
an anti-rollback step (R595). -/
structure BondEnv where
  selftestOk : Bool := true
  powerMw : Half := 0
  vinMv   : Half := 3300
  vddaMv  : Half := 1800
  vcoreLow : List VcoreCond := []
  vcoreIlim : Bool := false
  pfailN  : Bool := true
  /-- The activation word of the staged slot reads back (Table 13.14). -/
  sactOk  : Bool := true
  fuse    : FuseEnv := {}
  deriving DecidableEq, Repr

/-- What the receiver finds where a header or a brick holds no correct data group (R53, R54): a special code group
`Kx.y`, an invalid code group, or a data group of the wrong running disparity. -/
inductive GroupErr where
  | special (x : BitVec 5) (y : BitVec 3)
  | invalid | disparity
  deriving DecidableEq, Repr

/-- The fields of a VC command that a load sends (R249), but for its operation and `VCRC`; `contend` is
whether `VDIO` mismatches a response bit (R248). -/
structure VcCmd where
  railsel : BitVec 2 := 0
  tag     : BitVec 2 := 0
  contend : Bool := false
  deriving DecidableEq, Repr

/-- What carries a message (R460): the port (0 host serial, 1 two-wire target, 2 keeper core), its
session and its sequence number. -/
structure MsgHdr where
  port : Fin 3 := 0
  sess : BitVec 4 := 0
  seq  : BitVec 4 := 0
  deriving DecidableEq, Repr

/-- The fields of a mate link frame (R423) but its type; `crcOk` is whether `FCRC` passes. -/
structure MateHdr where
  flags : Byte := 0
  epoch : Half := 0
  seq   : Word := 0
  idx   : Half := 0
  data  : List Byte := []
  crcOk : Bool := true
  deriving DecidableEq, Repr

/-- How an initiator transfer ends (R501, R503). -/
inductive PiEnd where
  | done (data : List Byte) | nack | arbLost
  deriving DecidableEq, Repr

/-- A DBGAUTH exchange (R568): a request for a mode with its HMAC, or a close. -/
inductive DbgAuth where
  | nonce
  | request (mode : BitVec 2) (hmac : List Byte)
  | close
  deriving DecidableEq, Repr

/-- The memories that debug reaches (Table 1.5). -/
inductive MemSpace where
  | retention | cpu | loop | record | ring | flashA | flashB | flashC | rom
  deriving DecidableEq, Repr

/-- A debug access (R571, R572). -/
inductive DbgReq where
  | readObj (oid : Half) (word : Byte)
  | readD0
  | readOtp (level : Fin 3) (addr : Fin 512)
  | haltLane (lane : Fin 8)
  | resumeLane (lane : Fin 8)
  | stepLane (lane : Fin 8)
  | haltCores | resumeCores | stepCores
  | readLane (lane : Fin 8) (reg : Fin 16)
  | readTrace (ch : Fin 8) (entry : Nat)
  | readSample (entry : Nat)
  | readMem (space : MemSpace) (addr : Nat)
  | writeMem (space : MemSpace) (addr : Nat) (val : Word)
  deriving DecidableEq, Repr

/-- The fields of a library word under its opcode (Table 5.2). -/
structure PatFields where
  dst  : BitVec 4 := 0
  srca : BitVec 4 := 0
  srcb : BitVec 4 := 0
  pred : Bool := false
  imm  : BitVec 13 := 0
  deriving DecidableEq, Repr

/-- What a ring's receiver has seen: the ring, and what was wrong with the groups received. -/
structure RingSeen where
  ring : Fin 8
  errs : List GroupErr := []
  deriving DecidableEq, Repr

/-- What is wrong with the groups of a returned header, and with the fill and comma groups received since the last one. -/
structure HeaderErrs where
  header : List GroupErr := []
  fill   : List GroupErr := []
  deriving DecidableEq, Repr

/-- What a scrub pass finds (R39): the memories in which it corrected an error, and the uncorrected errors. -/
structure ScrubFound where
  corrected : List MemSpace := []
  errors    : List FaultArg := []
  deriving DecidableEq, Repr

/-- One command: a row of the table of operations and events. -/
inductive Instr where
  -- Start-up, power and timebase
  | powerOnReset (straps : Straps)
  | vinFall
  | resetAssert
  | resetRelease (straps : Straps)
  | wakeRequest
  | bootStageDone (env : StageEnv)
  | stagedShutdown
  | powerReturn
  | serviceIdleTimeout
  | refLoss
  | refReturn
  | domainDown (domain : Fin 8)
  | vcoreLow (cond : VcoreCond)
  | vcoreIlim
  -- Courses and bonds
  | courseStart (ring : Fin 8)
  | bondBoundary (env : BondEnv)
  | upBrickReceived (ring : Fin 8) (slot : Fin 32) (brick : BitVec 64) (errs : List GroupErr)
  | callBrick (ring : Fin 8)
  | upRetryReturn (ring : Fin 8)
  | downWindow (ring : Fin 8)
  | checkBrickReceived (ring : Fin 8) (brick : BitVec 48) (errs : List GroupErr)
  | headerReturn (ring : Fin 8) (header : BitVec 64) (errs : HeaderErrs) (delay : Nat)
  | rangeCountReturn (ring : Fin 8) (brick : BitVec 64) (errs : List GroupErr) (delay : Nat)
  | ringRangeFail (ring : Fin 8)
  | trainingAligned (seen : RingSeen)
  | ringTrainFail (seen : RingSeen)
  | trainingRestart (ring : Fin 8)
  | alignmentLost (seen : RingSeen)
  | commaDrift (ring : Fin 8)
  | ringSlotLoss (ring : Fin 8) (slot : Fin 32)
  -- Stations
  | buoyBrickReceived (ring : Fin 8) (brick : BitVec 64) (errs : List GroupErr)
  | mgmtReplyReceived (ring : Fin 8) (brick : BitVec 64) (errs : List GroupErr)
  | mgmtResend (stn : Fin 256)
  | mgmtUnanswered (stn : Fin 256)
  | stnIdentFail (stn : Fin 256)
  | sightAckRefresh (stn : Fin 256)
  | matchingPass
  | handoverCourse (tile : Fin 160)
  | stnHandoverFail (stn : Fin 256)
  | stnAdrift (stn : Fin 256)
  | stnUnstable (stn : Fin 256)
  -- Loop Engine
  | tileDispatch (lane : Fin 8)
  | tileCommit (lane : Fin 8)
  | tileDiscard (lane : Fin 8)
  | loopOverrun (tile : Fin 160)
  | loopStall (tile : Fin 160)
  | policyDispatch
  | loopPolicyLate
  | vcpinWrite (code : Byte)
  -- Pattern instructions, by the lane that executes them and the fields of the instruction word
  | opNop (lane : Fin 8) (f : PatFields)
  | opEnd (lane : Fin 8) (f : PatFields)
  | opMac (lane : Fin 8) (f : PatFields)
  | opMsu (lane : Fin 8) (f : PatFields)
  | opMul (lane : Fin 8) (f : PatFields)
  | opClra (lane : Fin 8) (f : PatFields)
  | opRnd (lane : Fin 8) (f : PatFields)
  | opAdd (lane : Fin 8) (f : PatFields)
  | opSub (lane : Fin 8) (f : PatFields)
  | opNeg (lane : Fin 8) (f : PatFields)
  | opAbs (lane : Fin 8) (f : PatFields)
  | opShl (lane : Fin 8) (f : PatFields)
  | opShr (lane : Fin 8) (f : PatFields)
  | opMov (lane : Fin 8) (f : PatFields)
  | opLdi (lane : Fin 8) (f : PatFields)
  | opLds (lane : Fin 8) (f : PatFields)
  | opSts (lane : Fin 8) (f : PatFields)
  | opLdc (lane : Fin 8) (f : PatFields)
  | opIn (lane : Fin 8) (f : PatFields)
  | opOut (lane : Fin 8) (f : PatFields)
  | opPub (lane : Fin 8) (f : PatFields)
  | opClamp (lane : Fin 8) (f : PatFields)
  | opMin (lane : Fin 8) (f : PatFields)
  | opMax (lane : Fin 8) (f : PatFields)
  | opCmplt (lane : Fin 8) (f : PatFields)
  | opCmpgt (lane : Fin 8) (f : PatFields)
  | opSel (lane : Fin 8) (f : PatFields)
  | opTrip (lane : Fin 8) (f : PatFields)
  | opRcrd (lane : Fin 8) (f : PatFields)
  | opRcwr (lane : Fin 8) (f : PatFields)
  | opTap (lane : Fin 8) (f : PatFields)
  | loopBadOp (lane : Fin 8) (word : Word)
  -- Rails
  | railCourseWork (rail : Fin 48)
  | railOv (rail : Fin 48)
  | railUv (rail : Fin 48)
  | fbtimeExpiry (rail : Fin 48)
  | hictimeExpiry (rail : Fin 48)
  | railSsFail (rail : Fin 48)
  | hiccntReset (rail : Fin 48)
  | railPhaseOpen (rail : Fin 48) (member : Fin 8)
  | railSenseFail (rail : Fin 48) (member : Fin 8)
  | phaseShed (rail : Fin 48)
  | rctlOn (rail : Fin 48)
  | rctlOff (rail : Fin 48)
  | rctlUnlatch (rail : Fin 48)
  | rctlRestore (rail : Fin 48) (pmask : Byte)
  | vsetWrite (rail : Fin 48) (vset : Half) (hslew : BitVec 3)
  -- Voltage command ports
  | setv (port : Fin 16) (c : VcCmd) (value : BitVec 12) (slew : BitVec 3)
  | getv (port : Fin 16) (c : VcCmd) (arg : Fin 3)
  | geti (port : Fin 16) (c : VcCmd) (arg : Fin 3)
  | getp (port : Fin 16) (c : VcCmd)
  | getstatRail (port : Fin 16) (c : VcCmd)
  | getstatSummary (port : Fin 16) (c : VcCmd)
  | ackcap (port : Fin 16) (c : VcCmd) (level : BitVec 5)
  | setmodeAuto (port : Fin 16) (c : VcCmd) (value : BitVec 12)
  | setmodeFull (port : Fin 16) (c : VcCmd) (value : BitVec 12)
  | setmodeEvmask (port : Fin 16) (c : VcCmd) (value : BitVec 12)
  | ping (port : Fin 16) (c : VcCmd) (sync : Bool)
  | vcFrameTimeout (port : Fin 16) (word : Option Word)
  | setvSettled (rail : Fin 48)
  | vcSettleFail (rail : Fin 48)
  | vcCapNoack (rail : Fin 48)
  | vcCrcBurst (port : Fin 16)
  | vcBankChange (bank : Fin 4) (millivolts : Nat) (inFrame : List (Fin 4 × Option Word))
  -- Power path
  | inputStage (input : Fin 64)
  | ppPairLost (input : Fin 64)
  | ppGuardRepeat (input : Fin 64)
  | gholdExpiry (input : Fin 64)
  | pfailLow
  | vbusLow
  | adcConversion (channel : Option (Fin 16)) (code : Half)
  | adcRange (channel : Fin 16)
  | cbusMeasure
  -- Battery gauge
  | fullAnchor (str : Fin 16)
  | emptyAnchor (str : Fin 16)
  | impedanceMeasure (str : Fin 16)
  | packMonitorRead (str : Fin 16)
  | capStale (str : Fin 16)
  | journalPeriod (str : Fin 16)
  | learnedRecordDone (str : Fin 16) (ok : Bool)
  | gcmdResetlearn (str : Fin 16)
  | xcmdStart (str : Fin 16)
  | xcmdAbort
  | exerciseTimeout
  -- Thermal
  | dieSensorRead (sixteenths : List Int)
  | pointUpdate (point : Fin 288)
  | airSensorRead (sensor : Fin 4)
  | scrubPass (found : ScrubFound)
  -- Fault collector
  | occurrenceTaken (d : Option FaultArg)
  | wireFault (code obj aux : Half) (reads : PairFault)
  | blockBack (block : Fin 16)
  | shadowWindowClose (block : Fin 16)
  | faultLogCopy
  | faultClear (h : MsgHdr) (code obj : Half)
  | safexit
  -- Keeper
  | heartbeatToggle
  | hbinEdge
  | heartbeatSilence
  | mateStatus (f : MateHdr)
  | kprMateDown
  | ckptData (f : MateHdr)
  | ckptAck (f : MateHdr)
  | ckptBlockTimeout (idx : Fin 30)
  | claimNotice (f : MateHdr)
  | imgData (f : MateHdr)
  | imgAck (f : MateHdr)
  | imageSyncTimeout
  | handoverReq (f : MateHdr)
  | handoverReady (f : MateHdr)
  | handoverGo (f : MateHdr)
  | kcmdHandover
  | kcmdAbort
  | kprHandoverFail
  | warmingDone
  | claimWaitExpiry
  | claimStart
  | claimWindowEnd
  | dmissAllSlots (ring : Fin 8)
  | commitComplete (flashOk : Bool)
  -- Messages
  | msgOpen (h : MsgHdr) (cls : BitVec 2)
  | msgAuth (h : MsgHdr) (hmac : List Byte)
  | msgClose (h : MsgHdr)
  | msgRead (h : MsgHdr) (obj : Half) (first count flags : Byte) (gen : List Byte)
  | msgWrite (h : MsgHdr) (obj : Half) (first : Byte) (words : List Word)
  | snapPin (h : MsgHdr)
  | snapRelease (h : MsgHdr) (gen : BitVec 48)
  | txnBegin (h : MsgHdr)
  | txnCommit (h : MsgHdr)
  | txnRollback (h : MsgHdr)
  | txnStatus (h : MsgHdr)
  | eventPoll (h : MsgHdr) (most : Byte)
  | counterRead (h : MsgHdr) (first count flags : Byte)
  | sampleRead (h : MsgHdr) (first : Half) (count : Byte)
  | recordRead (h : MsgHdr) (source which : Byte) (start : Word) (blocks : Byte)
  | imageWrite (h : MsgHdr) (offset : Word) (data : List Byte)
  | updateBlock (h : MsgHdr) (offset crc : Word) (data : List Byte)
  | updateSeal (h : MsgHdr)
  | updateArm (h : MsgHdr) (restart : Bool)
  | updateConfirm (h : MsgHdr) (env : FuseEnv)
  | updateStatus (h : MsgHdr)
  | recoveryEnter (h : MsgHdr)
  | recoveryBlock (h : MsgHdr) (offset crc : Word) (data : List Byte)
  | recoveryFinish (h : MsgHdr)
  | recoveryAbort (h : MsgHdr)
  | fuseProgram (h : MsgHdr) (addr : Fin 512) (val : Word) (env : FuseEnv)
  | fuseReburn (h : MsgHdr) (addr : Fin 512) (val : Word) (env : FuseEnv)
  | fuseReadNormal (h : MsgHdr) (addr : Fin 512)
  | fuseReadMarginLo (h : MsgHdr) (addr : Fin 512)
  | fuseReadMarginHi (h : MsgHdr) (addr : Fin 512)
  | fuseLock (h : MsgHdr) (region : Fin 8) (env : FuseEnv)
  | sessionAuthTimeout (sess : Fin 16)
  | sessionIdleTimeout (sess : Fin 16)
  | authLockEnd (port : Fin 3)
  | snapPinExpiry (gen : BitVec 48)
  | txnTimeout
  | disagreementListed (row : Fin 32) (obj : Half)
  -- Two-wire and host ports
  | twWriteTransfer (keeperAddr : Bool) (octets : List Byte)
  | twReadTransfer (keeperAddr : Bool) (count : Nat) (lastAcked : Bool)
  | twAddressMatch
  | twWakeFail
  | twSclTimeout
  | twSdaTimeout
  | hspWriteMessage (octets : List Byte)
  | hspReadMessage (count : Nat)
  | hspStatus (count : Nat)
  | hspReservedCmd (cmd : Byte) (count : Nat)
  | pi2cTransferStart (port : Fin 2) (arbLost : Bool)
  | pi2cTransferDone (port : Fin 2) (result : PiEnd)
  | pi2cTimeout (port : Fin 2)
  | busRecovery (port : Fin 2) (freed : Bool)
  -- Recorder
  | flushPage
  | flushPageDone (ok : Bool)
  | snapshotPageDone (ok : Bool)
  | recSnapFail
  | recNotArmed
  | captureFreeze (slot : Fin 4)
  | rcmdSnapnow
  | rcmdFlush
  | ccmdTrigger (slot : Fin 4)
  | ccmdRearm (slot : Fin 4)
  | tcmdArm (ch : Fin 8)
  | tcmdTrigger (ch : Fin 8)
  | tcmdStop (ch : Fin 8)
  | tracePulseEnd (ch : Fin 8)
  | sclockWrite (secs : Word)
  | shelfClockTick
  -- JTAG and debug
  | jtagIdcode
  | jtagBypass (bits : List Bool)
  | jtagSamplePreload (pins preload : List Bool)
  | jtagExtest (testEn : Bool) (preload : List Bool)
  | dbgauth (a : DbgAuth)
  | dbgacc (r : DbgReq)
  | trstLow
  -- Rows that the table lists last
  | vcBadCommand (port : Fin 16) (word : Word) (contend : Bool)
  | msgBadRequest (port : Fin 3) (frame : List Byte)
  | occupancySample (vcFrames : Byte)
  | dbgauthLockEnd
  | responderReady
  | snapshotAreaArmed (area : Fin 2)
  deriving DecidableEq, Repr

end Sys2Proof
end

