-- ==== Sys2Proof/Decode.lean ====
section
/-! DEFINITION. The commands that a word spells.  Every row of the table of operations and events has an empty
list of fields, so no row gives any bits and no word spells a command. -/
namespace Sys2Proof

/-- The command that a word of `nbits` bits spells by the bits the table gives its row: the table gives none. -/
def decodeTableWord (_nbits _w : Nat) : Option Instr := none

end Sys2Proof
end

