-- ==== Sys2Proof/Config.lean ====
section
/-! DEFINITION. What the manual leaves open and what a particular part fixes: constants without a body, so that
nothing can be proved of their values. -/
namespace Sys2Proof.Config

/-- A free value of `w` bits; the argument is the draw (`Live.free`). -/
opaque freeBits (w : Nat) (draw : Nat) : BitVec w
/-- A free natural number. -/
opaque freeNat (draw : Nat) : Nat
/-- A free fraction. -/
opaque freeRat (draw : Nat) : Rat

/-- The relative error of the floating-point form in which the thermal unit and the NTC conversion hold an exponential or a
logarithm (R352): at least 24 significant bits, so that `Machine.fpNear` holds it to 2^-24. -/
opaque fpError (x : Rat) : Rat
/-- A charge over an effective capacity of 0 (R321). -/
opaque noQuotient (a : Int) : Rat

/-- The 32-byte key of the boot ROM (R565). -/
opaque romKey : List Byte
/-- The octets of an image that WRITE requests made, and the offset of the record that carries a key in them; the manual
does not say how the controller cuts its records.  The argument lists what the image holds. -/
opaque madeOctets (content : List Nat) : List Byte
opaque madeOffset (content : List Nat) (key : Nat) : Nat

/-- The bus that a phase of a rail, or another converter, is placed under, and the bus that a BUS tile's converter feeds
(Table 1.6); the manual does not say where an image states them.  `kind` and `conv` are those of Table 1.6. -/
opaque busOf (image : List Byte) (kind conv phase : Nat) : Nat
opaque feedBus (image : List Byte) (tile : Nat) : Nat

/-- The word address in loop memory of each of the two copies of the lane schedules (R170); the manual gives none. -/
opaque schedAt (copy : Bool) : Nat

/-- What `IOUT` of a rail shows while I_rail is unknown (R233, Table 6.6). -/
opaque ioutUnknown (rail tick : Nat) : Word
/-- The header octets of a capture slot (R521), and what a snapshot page whose CRC fails reads as (R525). -/
opaque capHeader (slot i : Nat) : Byte
opaque badPage (page i : Nat) : Byte
/-- The octets of a bank into which flash failed to write a package (R592). -/
opaque badBank (package : List (BitVec 8)) : List (BitVec 8)
/-- The code of a conversion of the reference that the controller expects (R615); the manual does not give it. -/
opaque refCode : Nat

/-- Onwick's manufacturer identity in IDCODE (R620). -/
opaque onwickId : BitVec 11
/-- The mate protocol version of the running firmware (R423). -/
opaque mateVersion : BitVec 16
/-- The check bits of the extended Hamming code over the data of an OTP word that is not zero (R573); the
manual does not give the code's matrix. -/
opaque otpCheckBits (data : Word) : BitVec 8

end Sys2Proof.Config
end

