-- ==== Sys2Proof/Machine/State.lean ====
section
/-! DEFINITION. The machine's state: every register, table, buffer, counter, mode and queue that the manual
gives the controller, as plain data, and the machine right after power-on reset. -/
namespace Sys2Proof.Machine

/-! ## Rings (chapter "Courses and Wanum rings") -/

/-- The ring states of Table 2.17 and Table 2.21. -/
inductive RingSt where
  | off | training | ranging | running | overbooked
  deriving DecidableEq, Repr

/-- The fields of an up-brick that a tile can read (R67): `VMEAS`, `IMEAS`, `AUX`, and the flags
`DMISS`, `BUOYST`, `LIMIT`, `ALARM` in bits 3 to 0. -/
structure UpVals where
  vmeas : BitVec 14 := 0
  imeas : BitVec 14 := 0
  aux   : BitVec 12 := 0
  flags : BitVec 4 := 0
  deriving DecidableEq, Repr

/-- What has come of a slot's up-brick in the present course (R87, R91, R143). -/
inductive UpStat where
  | waiting | valid | failed | predicted | held
  deriving DecidableEq, Repr

/-- The fields the controller sets in a down-brick (R68). -/
structure Down where
  hold   : Bool := false
  duty   : BitVec 14 := 0
  phase  : BitVec 6 := 0
  en     : Bool := false
  buoy   : Bool := false
  auxsel : BitVec 2 := 0
  park   : Bool := false
  spec   : BitVec 3 := 0
  deriving DecidableEq, Repr

/-- What the framer keeps for one slot of one ring (R70, R91 to R93, R124, R125). -/
structure Slot where
  /-- The slot is active (R124). -/
  active   : Bool := false
  /-- Its station has answered ASSIGN with OK, so it becomes active at the next bond boundary. -/
  assigned : Bool := false
  up       : UpStat := .waiting
  /-- The values of the present course. -/
  cur      : UpVals := {}
  /-- The values received for the last course and for the one before (R92). -/
  xa       : Option UpVals := none
  xb       : Option UpVals := none
  /-- `AUXSEL` of the last down-brick sent, and the source of the `AUX` last received. -/
  auxSent  : BitVec 2 := 0
  auxSrc   : BitVec 2 := 0
  /-- A DUTY brick has been sent since the slot last became active, and what it carried. -/
  everDuty : Bool := false
  lastDuty : BitVec 14 := 0
  lastPhase : BitVec 6 := 0
  lastEn   : Bool := false
  /-- A DUTY or HOLD brick was sent in the course before, and in this one. -/
  sentPrev : Bool := false
  sentNow  : Bool := false
  /-- Consecutive lost courses (R93), and consecutive courses with a valid up-brick (R130). -/
  lost     : Nat := 0
  /-- `RING_SLOT_LOSS` has been raised for the present run of lost courses. -/
  lossDone : Bool := false
  validRun : Nat := 0
  /-- A valid up-brick of the present course carried `DMISS` = 1. -/
  dmiss    : Bool := false
  /-- The controller sends `BUOY` = 1 to the slot (R93, R99, R156). -/
  buoyed   : Bool := false
  /-- What the down window will send, once it is settled; and the brick sent. -/
  down     : Option Down := none
  sent     : BitVec 48 := 0
  /-- A `DST` 0x3 output not yet sent (R145). -/
  polDuty  : Option (BitVec 14) := none
  deriving DecidableEq, Repr

/-- One item the framer has put on the line in the present course, with its position: ns from the course's comma. -/
structure LineItem where
  at_   : Nat := 0
  bits  : Nat := 0
  data  : BitVec 64 := 0
  deriving DecidableEq, Repr

/-- One ring (R74, R95 to R99, R104). -/
structure Ring where
  st       : RingSt := .off
  /-- Ticks since the timebase started at which the ring entered this state or last began training. -/
  since    : Nat := 0
  /-- The transmitter is stopped: after a training failure, or while `REF_LOSS` stands (R34). -/
  silent   : Bool := false
  refSilent : Bool := false
  /-- A course is under way; its index in its bond, its number and its start tick. -/
  inCourse : Bool := false
  idx      : Nat := 0
  num      : BitVec 16 := 0
  start    : Nat := 0
  hdr      : BitVec 64 := 0
  hdrFails : Nat := 0
  /-- The present course began with the ring RUNNING, so it carries the items of Table 2.10 (R81). -/
  runCourse : Bool := false
  /-- The results of the last ranging, whether ranging has ever passed, the RANGE_COUNT of the pass before, whether
  that of the present pass is back, and the passes made. -/
  rangeGot : Bool := false
  ranged   : Bool := false
  hops     : BitVec 8 := 0
  acc      : BitVec 24 := 0
  dmeas    : Nat := 0
  lastPass : Option (BitVec 8 × BitVec 24 × Nat) := none
  passes   : Nat := 0
  /-- The layout: N, r, its band; a cooler band's layout waits for the bond boundary (R80). -/
  pairs    : Nat := 0
  retry    : Nat := 0
  lband    : Nat := 0
  /-- The next BOND header carries `COMMIT`. -/
  commit   : Bool := false
  /-- The last ranging did not use the image's per-link delays (R97). -/
  linkBad  : Bool := false
  reqmap   : BitVec 32 := 0
  failmap  : BitVec 32 := 0
  called   : Bool := false
  upFinal  : Bool := false
  downSent : Bool := false
  checked  : Bool := false
  /-- Courses in a row whose returning comma was out by more than 0.8 ns (R132). -/
  drift    : Nat := 0
  /-- Courses in a row in which every active slot carried `DMISS` (R419). -/
  dmissRun : Nat := 0
  line     : List LineItem := []
  /-- MGMT bricks waiting for the tail. -/
  mgmtq    : List (BitVec 64) := []
  deriving DecidableEq, Repr

/-! ## Stations (chapter "Stations and mooring") -/

/-- The states of Table 3.8 other than UNSEEN, which is the absence of a record. -/
inductive StnSt where
  | unseen | sighted | identified | matched | moored | adrift | barred
  deriving DecidableEq, Repr

/-- The reasons of Table 3.9. -/
inductive StnReason where
  | none | unplaced | rating | vendor | firmware | duplicate | mismatch | isolated
  deriving DecidableEq, Repr

/-- One MGMT request in flight to a station, or waiting to be sent (R113 to R116). -/
structure MgmtReq where
  mop     : BitVec 4 := 0
  hopaddr : Bool := true
  slot    : BitVec 5 := 0
  mtag    : BitVec 8 := 0
  mdata   : Word := 0
  deriving DecidableEq, Repr

/-- The lease a station reported (R412): the state code, the accepted epoch and the side. -/
structure LeaseRep where
  state : BitVec 2 := 0
  epoch : Half := 0
  side  : Bool := false
  bond  : Nat := 0
  deriving DecidableEq, Repr

/-- One station record (Table 3.8, Table 3.9). -/
structure Stn where
  st       : StnSt := .unseen
  reason   : StnReason := .none
  ring     : Nat := 0
  hop      : Nat := 0
  shash    : BitVec 24 := 0
  stype    : BitVec 4 := 0
  /-- The descriptor words read so far, lowest first. -/
  desc     : List Word := []
  dcrcFails : Nat := 0
  /-- The placement rule that binds it, its first slot, its brick count and tile. -/
  rule     : Option Nat := none
  slot     : Nat := 0
  bricks   : Nat := 0
  tile     : Option Nat := none
  member   : Nat := 0
  buoyst   : Bool := false
  alarm    : Bool := false
  /-- The outstanding request: sent last at, sent first at, BUSY replies, waits for the next bond. -/
  mseq     : BitVec 2 := 0
  req      : Option MgmtReq := none
  reqAt    : Nat := 0
  reqFirst : Nat := 0
  reqBusy  : Nat := 0
  reqDefer : Bool := false
  /-- The course start at which it was last offered a REPLY_SLOT (R115). -/
  offerAt  : Nat := 0
  unanswered : Nat := 0
  queue    : List MgmtReq := []
  /-- Consecutive silent courses; ASSIGN requests answered OK. -/
  silentRun : Nat := 0
  assigned : Nat := 0
  /-- An ASSIGN was answered other than OK, or was unanswered. -/
  assignBad : Bool := false
  /-- The last STATE_READ index 0 reply, whether it said parked, and the tick it came at. -/
  stateDuty : Option (BitVec 14) := none
  parked   : Bool := false
  stateAt  : Nat := 0
  /-- Handover: courses since it became due, a handover DUTY has been sent, no retry before the next bond. -/
  dueFor   : Nat := 0
  handed   : Bool := false
  /-- It was handed over alone, to a tile that was running (R131). -/
  alone    : Bool := false
  holdoff  : Bool := false
  /-- Bonds at which its tile was suspended under R93 (R129), newest first. -/
  suspends : List Nat := []
  ackAt    : Nat := 0
  /-- UNASSIGN is due at the next bond boundary. -/
  unassign : Bool := false
  /-- The lease it last reported; it has answered index 3, or left it unanswered, since WAITING began. -/
  lease    : LeaseRep := {}
  leaseSeen : Bool := false
  /-- It has answered with a lease record. -/
  leaseRep : Bool := false
  /-- `BUOYSET` as last written (R118), and `INLIM` written. -/
  buoyset  : Option (BitVec 14) := none
  inlim    : Option Half := none
  /-- Firmware relay (R134): the block that is sent; the controller parks it for FW_ACTIVATE (R598). -/
  fwBlock  : Nat := 0
  fwPark   : Bool := false
  /-- The whole image passed its FW_CHECK. -/
  fwChecked : Bool := false
  /-- It holds a slot for MGMT bricks only (R134). -/
  mgmtSlot : Bool := false
  /-- It has been MOORED since it was last bound. -/
  everMoored : Bool := false
  deriving DecidableEq, Repr

/-- The records by instance, the barred list (unique identifier and reason) and the station image
that is being relayed. -/
structure Moor where
  stns    : Tbl Stn := []
  barred  : List (BitVec 64 × StnReason) := []
  /-- Which fault barred an identifier, 65536 × code + object (R128). -/
  barBy   : List (BitVec 64 × Nat) := []
  /-- Ticks of the last matching pass. -/
  passAt  : Nat := 0
  /-- The verified station image open for relay: vendor, type, version and its octets (R134, R598). -/
  fwImage : List Byte := []
  fwType  : Byte := 0
  fwVendor : Half := 0
  fwVer   : Half := 0
  fwBusy  : Option Nat := none
  /-- Unique identifiers of stations that the present relay is through with (R598). -/
  fwTried : List (BitVec 64) := []
  /-- Stations told to activate a relayed image, with the version they should report. -/
  fwDone  : List (BitVec 64 × Half) := []
  deriving DecidableEq, Repr

/-! ## Loop Engine (chapters "Loop Engine" and "Pattern instruction set") -/

/-- The tile states of Table 4.1. -/
inductive TileSt where
  | unused | waiting | running | suspended
  deriving DecidableEq, Repr

/-- What the engine writes of a tile beside its slots and outputs (Table 4.1, R153, R173, R198). -/
structure Tile where
  st       : TileSt := .unused
  ovr      : Nat := 0
  /-- REBASE pending; in the decimation set; decimated in the present course, its inputs not latched yet (R162). -/
  rebase   : Bool := false
  decSet   : Bool := false
  decNow   : Bool := false
  decWait  : Bool := false
  /-- The next dispatch is the first under a changed record (R173). -/
  changed  : Bool := false
  /-- A handover course is due: the mean reported `DUTY` (R130). -/
  handover : Option (BitVec 14) := none
  /-- The members the handover hands over, by instance of their records; one that joins the running tile alone (R131). -/
  handing  : List Nat := []
  alone    : Bool := false
  everCommitted : Bool := false
  /-- It committed, or its evaluation was discarded, in the present course; the duty it committed. -/
  committed : Bool := false
  discarded : Bool := false
  duty     : BitVec 14 := 0
  /-- `LOOP_OVERRUN` has been raised for the present run of discards (R155). -/
  overrun  : Bool := false
  stalled  : Bool := false
  /-- Repetitive control: phase, period, locked, courses since the last sync, the last measured
  period, cleared in this course, a sync is waiting for the next course start. -/
  rcK      : Nat := 0
  rcM      : Nat := 0
  rcLocked : Bool := false
  rcCount  : Option Nat := none
  rcLast   : Option Nat := none
  rcCleared : Bool := false
  /-- A commit changed the table: it is cleared at the next course start (R199). -/
  rcDue    : Bool := false
  deriving DecidableEq, Repr

/-- One evaluation on a lane (R138, R151, R181). -/
structure Eval where
  tile     : Nat := 0
  /-- The ring whose course it belongs to, none for a POLICY tile, and that course's number. -/
  ring     : Option Nat := none
  num      : BitVec 16 := 0
  /-- The 64 words of the record in force for the evaluation, and the pattern library in force for it (R172). -/
  record   : Tbl Word := []
  lib      : Tbl Word := []
  pc       : Nat := 0
  inRebase : Bool := false
  ranRebase : Bool := false
  ended    : Bool := false
  dropped  : Bool := false
  bad      : Bool := false
  handover : Bool := false
  w        : Tbl W24 := []
  acc      : Acc := 0
  p        : Bool := false
  ins      : Tbl W24 := []
  sts      : List UpStat := []
  conts    : Tbl W24 := []
  /-- Slot values at dispatch, and the buffered effects. -/
  slots0   : Tbl Word := []
  slots    : Tbl Word := []
  slotSet  : List Nat := []
  outs     : Tbl W24 := []
  outSet   : List Nat := []
  pubs     : Tbl W24 := []
  pubSet   : List Nat := []
  taps     : Tbl W24 := []
  tapSet   : List Nat := []
  rc       : Option (BitVec 16) := none
  trips    : List (BitVec 8) := []
  frozen   : Bool := false
  /-- It is sampled (R534), and then the instructions it has executed: address, opcode, in REBASE, predicate false. -/
  sampled  : Bool := false
  trail    : List (Nat × Nat × Bool × Bool) := []
  startAt  : Nat := 0
  deriving DecidableEq, Repr

/-- One lane: its schedule (tile, course index), its cycle in ticks, the next entry, the tick its
present pass began, and the evaluation it runs (R149, R166, R170). -/
structure Lane where
  sched : List (Nat × Nat) := []
  cycle : Nat := 0
  pos   : Nat := 0
  base  : Nat := 0
  /-- The lanes have run again since this tick: entries of courses that began before it are passed over (Table 11.8). -/
  since : Nat := 0
  ev    : Option Eval := none
  deriving DecidableEq, Repr

/-- What the courses that start together read (R47, R142): committed outputs, suspended tiles,
policy registers, last conversions and caps as they stood at the course start. -/
structure Latch where
  outs  : Tbl W24 := []
  susp  : List Nat := []
  pol   : Tbl W24 := []
  adc   : Tbl Half := []
  adcOk : List Nat := []
  caps  : Tbl W24 := []
  setp  : Tbl Rat := []
  deriving DecidableEq, Repr

/-- The Loop Engine's shared state. -/
structure Loop where
  tiles   : Tbl Tile := []
  /-- State slots by 16 × tile + slot, outputs by 4 × tile + port, publications by 8 × tile + slot. -/
  slots   : Tbl Word := []
  outs    : Tbl W24 := []
  pubs    : Tbl W24 := []
  /-- The 256 policy registers and the repetitive-control pool. -/
  pol     : Tbl W24 := []
  rcPool  : Tbl Half := []
  /-- Input history: the latch taken at each ring's course start. -/
  latches : Tbl Latch := []
  lanes   : Tbl Lane := []
  /-- The pending copy of the lane schedules: cycle and entries of each lane, and the decimation set. -/
  pendSched : Tbl (Nat × List (Nat × Nat)) := []
  pendDec : List Nat := []
  /-- Which of the two schedule copies in loop memory is in force (R170). -/
  schedSel : Bool := false
  /-- The policy lane's queue of POLICY tiles left to run in this bond. -/
  polQueue : List Nat := []
  /-- POLICY tiles that were still in the queue when the next bond began (R176). -/
  polLate : List Nat := []
  /-- Engine word: band in force, decimation in force, present `VCORE` target code (Table 4.6). -/
  eband   : Nat := 1
  decact  : Bool := false
  vcnow   : Nat := 20
  deriving DecidableEq, Repr

/-! ## Rails (chapter "Rail regulation") -/

/-- The states of Table 6.3 and Table 6.6. -/
inductive RailSt where
  | idle | off | softstart | on | foldback | hiccup | latched | stopping
  deriving DecidableEq, Repr

/-- One member of a rail (R210, R229 to R236). -/
structure Member where
  removed  : Bool := false
  shed     : Bool := false
  senseF   : Bool := false
  /-- Courses for which it has been active, and the course stamp at which it was shed. -/
  activeFor : Nat := 0
  shedAt   : Nat := 0
  openCnt  : Nat := 0
  rangeCnt : Nat := 0
  implCnt  : Nat := 0
  stuckCnt : Nat := 0
  stuckCode : BitVec 14 := 0
  /-- Means of the other active members over the last 64 counted courses of the stuck code, newest first. -/
  stuckMeans : List Rat := []
  deriving DecidableEq, Repr

/-- A rail as its course work left it, for the responses of its port (R252): V in µV, V_eff in 1/16 µV, I_rail, R_rail and the cap
in force in µA. -/
structure RailSeen where
  v    : Rat := 0
  veff : Nat := 0
  i    : Option Rat := some 0
  rr   : Rat := 0
  cap  : Option Rat := none
  deriving DecidableEq, Repr

/-- One rail.  Voltages V_t, V_r, V_fb and V_eff are held in 1/16 µV (R214), V in µV and currents
in µA as exact fractions. -/
structure Rail where
  live     : Bool := false
  st       : RailSt := .idle
  intent   : Bool := false
  shedOrd  : Bool := false
  /-- What ends STOPPING early, since entry to it: 1 an OFF written, 2 a shed order given; 0 nothing. -/
  stopNow  : Nat := 0
  members  : Tbl Member := []
  rho      : Nat := 0
  vt       : Nat := 0
  slew     : Nat := 0
  /-- The last target taken under R215, restored by R260. -/
  vtLast   : Nat := 0
  slewLast : Nat := 0
  vr       : Nat := 0
  vrPrev   : Nat := 0
  vfb      : Option Nat := none
  /-- V_eff of the present course, and whether a ramp is in progress in it (R216, R217). -/
  veffC    : Nat := 0
  rampC    : Bool := false
  v        : Rat := 0
  i        : Option Rat := some 0
  iPrev    : Option Rat := none
  stepSeen : Bool := false
  rrail    : Rat := 0
  ilim     : Rat := 0
  window   : List Nat := []
  ovCnt    : Nat := 0
  uvCnt    : Nat := 0
  /-- Course-start ticks: fold-back entered, hiccup began, ON entered, V_r reached V_t, low current began. -/
  fbAt     : Nat := 0
  hicAt    : Nat := 0
  onAt     : Nat := 0
  reachedAt : Option Nat := none
  ssReached : Bool := false
  dwellAt  : Option Nat := none
  hiccnt   : Nat := 0
  cause    : Nat := 0
  /-- The Rail Manager's caps, of R231 and of R233 (µA). -/
  capOpen  : List Rat := []
  capLost  : Option Rat := none
  /-- The course of a pre-bias start: V_pre has been read and V_r is set at the next course start. -/
  prebias  : Option Rat := none
  /-- The course start whose work is under way or done, and how far it has come (R237); n_rot then; `RAIL_UV` and
  `RAIL_SENSE_LOST` were raised in the present run; members that the tile's commit of the course adds (R220). -/
  workAt   : Option Nat := none
  stage    : Nat := 0
  rotPrev  : Nat := 0
  uvRaised : Bool := false
  lostRaised : Bool := false
  addPend  : List Nat := []
  /-- What the latest complete course work left (R252). -/
  seen     : RailSeen := {}
  deriving DecidableEq, Repr

/-! ## Voltage command ports (chapter "Voltage command ports") -/

/-- An accepted SETV (R254 to R259). -/
structure SetvCmd where
  tag    : BitVec 2 := 0
  value  : Nat := 0
  slew   : Nat := 0
  at_    : Nat := 0
  /-- First course in which no ramp was in progress, courses in a row that met R257, SFAIL set. -/
  calmAt : Option Nat := none
  run    : Nat := 0
  failed : Bool := false
  deriving DecidableEq, Repr

/-- A SETMODE accepted and not yet taken (R265). -/
inductive ModeCmd where
  | auto | full | evmask (m : BitVec 2)
  deriving DecidableEq, Repr

/-- What a port keeps for one bound rail (Table 7.10, R256, R265 to R268); by rail number. -/
structure VcRail where
  set    : Bool := false
  stag   : BitVec 2 := 0
  sup    : Bool := false
  utag   : BitVec 2 := 0
  cap    : Bool := false
  kpr    : Bool := false
  down   : Bool := false
  sfail  : Bool := false
  full   : Bool := false
  mask   : BitVec 2 := 0
  level  : Nat := 16
  ack    : Nat := 16
  /-- Tick at which the grace timer started, when it runs. -/
  grace  : Option Nat := none
  outst  : Option SetvCmd := none
  queue  : List SetvCmd := []
  modes  : List (ModeCmd × Nat) := []
  /-- Courses in a row that met the two conditions of R257, whatever is outstanding (R258). -/
  calm   : Nat := 0
  deriving DecidableEq, Repr

/-- One port: the last good command word, BAD_CRC responses in this bond, and the
response it last drove (its width in bits, 0 when it drove none). -/
structure VcPort where
  lastCmd : Word := 0
  badCrc  : Nat := 0
  resp    : Word := 0
  respLen : Nat := 0
  /-- Frame-sync events not yet seen by the course starts of the rings, by ring. -/
  syncs   : List Nat := []
  deriving DecidableEq, Repr

/-! ## Power path (chapter "Power path: sharing, hold-up and capping") -/

/-- The input states of Table 8.2. -/
inductive InSt where
  | absent | dark | probing | sharing | guarded
  deriving DecidableEq, Repr

/-- One input.  Voltages in V, currents in A, powers in W, resistances in Ω, all exact fractions. -/
structure Input where
  live    : Bool := false
  st      : InSt := .absent
  /-- `R̂`, `V̂_s` and `P̂_max` when the estimate is valid, and `r_last` (R282, R283). -/
  rhat    : Option Rat := none
  vs      : Rat := 0
  pmax    : Rat := 0
  rlast   : Option Rat := none
  /-- How far k_h lies below `KH` (R289). -/
  khCut   : Nat := 0
  lfsr    : BitVec 15 := 0
  /-- The dither sign of this bond and of the one before: true is +1. -/
  sign    : Bool := false
  signPrev : Bool := false
  av      : Rat := 0
  ai      : Rat := 0
  n       : Nat := 0
  winBonds : Nat := 0
  badWins : Nat := 0
  /-- Sums over the second half of the bond, and the means of the last bond that was not void. -/
  sumV    : Rat := 0
  sumI    : Rat := 0
  nV      : Nat := 0
  nI      : Nat := 0
  minV    : Option Rat := none
  vbar    : Rat := 0
  ibar    : Rat := 0
  vbarPrev : Rat := 0
  ibarPrev : Rat := 0
  void    : Bool := true
  voidPrev : Bool := true
  vin     : Rat := 0
  icur    : Rat := 0
  kappa   : Rat := 0
  lowRun  : Nat := 0
  /-- What takes effect at the start of the next course: a guard trip (I_back, the factor on `o0`) or a pair loss. -/
  backOff : Option (Rat × Rat) := none
  lostNow : Bool := false
  /-- Bond numbers of guard trips in the last 1000 bonds, newest first; bonds since the last trip. -/
  trips   : List Nat := []
  tripAt  : Nat := 0
  /-- Trips that no repeat fault has used yet (R289). -/
  tripsNew : Nat := 0
  /-- The estimate comes from a checkpoint (R310); the course start whose work is done. -/
  restored : Bool := false
  workAt  : Option Nat := none
  probeBond : Nat := 0
  probeFails : Nat := 0
  probeV  : List Rat := []
  probeI  : List Rat := []
  probeVoid : Bool := false
  ceil    : Rat := 0
  iref    : Rat := 0
  pinned  : Bool := false
  deriving DecidableEq, Repr

/-- The supply states of Table 8.4. -/
inductive SupplySt where
  | normal | assist | capping | shedding | feedlost | holdup
  deriving DecidableEq, Repr

/-- One entry of the stack of cap steps and sheds (R296). -/
inductive PpEntry where
  | capStep (rail : Nat) | shed (rail : Nat)
  deriving DecidableEq, Repr

/-- A tug that stands (R308): the object, word and bit of the quantity, and the last bond it acted in. -/
structure Tug where
  obj  : Nat := 0
  word : Nat := 0
  bit  : Nat := 0
  win  : Nat := 0
  lose : Nat := 0
  last : Nat := 0
  deriving DecidableEq, Repr

/-- The Power Path Manager. -/
structure Power where
  inputs  : Tbl Input := []
  st      : SupplySt := .normal
  x       : Rat := 0
  f       : Rat := 0
  sumC    : Rat := 0
  pin     : Rat := 0
  vset    : Rat := 0
  vfloor  : Rat := 0
  /-- Bus conversions of this bond: their sum and number; the mean of the last bond that had one. -/
  busSum  : Rat := 0
  busN    : Nat := 0
  vbus    : Rat := 0
  vnow    : Rat := 0
  inow    : Rat := 0
  lowConv : Nat := 0
  /-- Every input ABSENT or DARK for this many bonds; Unmet in this bond and in the last. -/
  deadRun : Nat := 0
  dipNow  : Bool := false
  dipPrev : Bool := false
  surplus : Nat := 0
  levels  : Tbl Nat := []
  stack   : List PpEntry := []
  sinceCap : Nat := 0
  sinceShed : Nat := 0
  noCapRun : Nat := 0
  /-- Rails to shed at the next bond for an ignored cap (R299); rails shed so in this bond; rails that R302 has shed in HOLDUP. -/
  ignored : List Nat := []
  ignShed : List Nat := []
  hshed   : List Nat := []
  grants  : Tbl Rat := []
  allow   : Tbl Rat := []
  discharged : Bool := false
  final   : Bool := false
  energy  : Rat := 0
  cused   : Option Rat := none
  /-- Capacitance measurement: the tick and voltage at its start, and the energy delivered since. -/
  measAt  : Option Nat := none
  measV   : Rat := 0
  measE   : Rat := 0
  measT   : Nat := 0
  exitRun : Nat := 0
  tugs    : List Tug := []
  deriving DecidableEq, Repr

/-! ## Battery gauge (chapter "Battery gauge") -/

/-- A learned record as a flash slot holds it (Table 9.3); `fmtOk` is whether its format is known. -/
structure GaugeRec where
  fmt     : Half := 1
  str     : Nat := 0
  learned : Bool := false
  stale   : Bool := false
  uncert  : Bool := false
  seq     : Word := 0
  acc     : BitVec 64 := 0
  qcap    : Word := 0
  tlearn  : Word := 0
  rlearn  : Word := 0
  rnow    : Word := 0
  rnrm    : Word := 0
  twrite  : Word := 0
  nlearn  : Half := 0
  ifsrec  : Half := 0
  /-- `RCRC` passes. -/
  crcOk   : Bool := true
  deriving DecidableEq, Repr

/-- One string.  Resistances in Ω, voltages in V, currents in A; charge in the unit u of R320. -/
structure Str where
  live    : Bool := false
  a       : BitVec 64 := 0
  ifs     : Nat := 0
  counting : Bool := false
  rhat    : Rat := 0
  rn      : Rat := 0
  rlearn  : Rat := 0
  measured : Bool := false
  /-- Q_cap in mAh, F, and whether it has learned. -/
  qcap    : Rat := 0
  fade    : Rat := 1
  learned : Bool := false
  nlearn  : Nat := 0
  tlearn  : Nat := 0
  tcreate : Nat := 0
  socrep  : Rat := 0
  started : Bool := false
  fast    : Bool := false
  fulla   : Bool := false
  emptya  : Bool := false
  stale   : Bool := false
  uncert  : Bool := false
  chginh  : Bool := false
  dwin    : Bool := false
  heat    : Bool := false
  /-- Bond sums and the means of the last bond that was not void. -/
  sumV    : Rat := 0
  sumI    : Rat := 0
  sumT    : Rat := 0
  nSamp   : Nat := 0
  vbar    : Rat := 0
  ibar    : Rat := 0
  tbar    : Rat := 0
  void    : Bool := true
  fullRun : Nat := 0
  emptyRun : Nat := 0
  /-- The anchor event of the present run has been made. -/
  fullDone : Bool := false
  emptyDone : Bool := false
  cycle   : Bool := false
  cycleVoid : Bool := false
  seg     : Bool := false
  segVoid : Bool := false
  restRun : Nat := 0
  /-- The last samples (V, I, valid), newest first, and a step being measured: the course-start tick,
  I0, V0, whether it is still valid. -/
  hist    : List (Rat × Rat × Bool) := []
  stepAt  : Option Nat := none
  stepI0  : Rat := 0
  stepV0  : Rat := 0
  stepOk  : Bool := true
  /-- Pack monitor: last reading in °C, failed reads in a row, marked failed, the tick of the last read asked for. -/
  pk      : Option Rat := none
  pkFails : Nat := 0
  pkFailed : Bool := false
  pkAt    : Nat := 0
  pkBond  : Nat := 0
  auxT    : Option Rat := none
  auxBad  : Bool := false
  auxBond : Nat := 0
  tcell   : Rat := 150
  demand  : Rat := 0
  /-- The record write in progress (slot B, octets, second attempt), a second attempt that waits for its erase (R339), whether
  another write is due, the tick of the last write, which may lie before the present start, and the tick of creation. -/
  writing : Option (Bool × List Byte × Bool) := none
  retry   : Option (Bool × List Byte) := none
  due     : Bool := false
  afterAnchor : Bool := false
  wroteAt : Option Int := none
  madeAt  : Nat := 0
  lastAcc : BitVec 64 := 0
  reset   : Bool := false
  /-- A checkpoint's Ī and tick stamp, until the first counted course start (R343). -/
  resume  : Option (Rat × Nat) := none
  deriving DecidableEq, Repr

/-- The exercise states of Table 9.2. -/
inductive ExSt where
  | idle | due | running
  deriving DecidableEq, Repr

/-- The gauge object's state. -/
structure Gauge where
  strs   : Tbl Str := []
  /-- The learned-record region of flash bank C, by page: what is programmed at the page's start; an erased page is not
  listed (R337). -/
  flash  : Tbl (List Byte) := []
  /-- A commit of this boundary ends the exercise, unless an EMPTY anchor event falls in the same bond (R342). -/
  exStop : Bool := false
  ex     : ExSt := .idle
  exStr  : Nat := 0
  exHost : Bool := false
  exAt   : Nat := 0
  xlast  : Word := 0
  deriving DecidableEq, Repr

/-! ## Thermal model (chapter "Thermal model and temperature bands") -/

/-- One point (R351 to R363).  Temperatures in °C, power in mW, as exact fractions. -/
structure Point where
  run     : Bool := false
  d1      : Rat := 0
  d2      : Rat := 0
  d3      : Rat := 0
  k       : Rat := 0
  band    : Nat := 0
  /-- It stands in `T4` with θ ≤ 0.5 until its first valid reading after a reset of the unit. -/
  fresh   : Bool := false
  broken  : Bool := false
  cause   : Nat := 0
  ambfb   : Bool := false
  theta   : Nat := 256
  ths     : Rat := 0
  ploss   : Rat := 0
  tntc    : Option Rat := none
  tamb    : Rat := 0
  lastAt  : Nat := 0
  sumV    : Rat := 0
  sumI    : Rat := 0
  nSamp   : Nat := 0
  newNtc  : Bool := false
  everNtc : Bool := false
  openRun : Nat := 0
  stuckRun : Nat := 0
  lastNtc : Nat := 0
  thsLo   : Rat := 0
  thsHi   : Rat := 0
  implRun : Nat := 0
  okRun   : Nat := 0
  derated : Bool := false
  hot     : Bool := false
  /-- The station's place in the stepping of `AUXSEL` (R362): the value last taken. -/
  auxStep : Nat := 0
  /-- Values restored from a checkpoint wait for the point's first update (R368). -/
  restored : Bool := false
  /-- The update period in force; a change of band takes effect on it from the next update (R356). -/
  period  : Nat := 2000000
  deriving DecidableEq, Repr

/-- One of the eight die sensors (R349, R350). -/
structure DieSensor where
  t      : Rat := 0
  run    : Nat := 0
  broken : Bool := false
  bad    : Bool := false
  deriving DecidableEq, Repr

/-- One air sensor (R355). -/
structure AirSensor where
  t     : Rat := 0
  fails : Nat := 0
  broken : Bool := false
  read  : Bool := false
  askAt : Option Nat := none
  deriving DecidableEq, Repr

/-- The Thermal Manager. -/
structure Therm where
  points : Tbl Point := []
  die    : Tbl DieSensor := []
  air    : Tbl AirSensor := []
  /-- The die band and die temperature. -/
  dband  : Nat := 1
  tdie   : Rat := 0
  /-- Tick of the last scrub pass, and the corrected errors of each memory (R39). -/
  scrubAt : Nat := 0
  ecc    : Tbl Nat := []
  /-- Tick of the last read of the die sensors (R349). -/
  dieAt  : Option Nat := none
  /-- The waveform with which each flash operation in progress began: 0 cold, 1 normal, 2 hot (R365); by operation: 0 a page
  of the flush ring, 1 a snapshot, 16 + k the learned record of string k. -/
  waves  : Tbl Nat := []
  deriving DecidableEq, Repr

/-! ## Fault collector (chapter "Fault collector") -/

/-- The reaction classes of Table 11.4. -/
inductive Cls where
  | log | alert | derate | isolate | reset | safe
  deriving DecidableEq, Repr

/-- One detail word on its way to the collector (R372): code, object, second detail and value, and for a
`TRIP` the course it carries beside them (R195). -/
structure Detail where
  code : Half := 0
  obj  : Half := 0
  aux  : Half := 0
  val  : Word := 0
  course : Half := 0
  tick : Nat := 0
  deriving DecidableEq, Repr

/-- One occurrence (R371 to R374, R384, R390). -/
structure Occ where
  d      : Detail := {}
  cls    : Cls := .log
  wire   : Bool := false
  conseq : Bool := false
  cond   : Bool := false
  cleared : Bool := false
  nrep   : Nat := 0
  /-- The block whose window made it consequential; 16 once that window has closed. -/
  window : Nat := 0
  /-- Its sequence number once firmware has copied it to the log. -/
  seq    : Option Nat := none
  /-- Raised in this bond. -/
  newNow : Bool := true
  /-- The first course whose bricks its reaction changed: the ring and `COURSE_NUM` (R46). -/
  brick  : Option (Nat × Half) := none
  deriving DecidableEq, Repr

/-- One fault-log entry (Table 11.10); `held` while it may not be overwritten. -/
structure LogEntry where
  o    : Occ := {}
  boot : Half := 0
  seq  : Nat := 0
  used : Bool := false
  deriving DecidableEq, Repr

/-- One resettable block (R390 to R394). -/
structure Block where
  /-- Tick at which the open window closes. -/
  closeAt : Option Nat := none
  back    : Bool := false
  /-- Bonds of its resets, newest first. -/
  resets  : List Nat := []
  deriving DecidableEq, Repr

/-- The collector. -/
structure Fc where
  /-- Details that have arrived and wait to be taken, oldest first. -/
  details : List Detail := []
  /-- Uncleared and consequential occurrences, oldest first. -/
  table   : List Occ := []
  log     : Tbl LogEntry := []
  nextSeq : Nat := 0
  blocks  : Tbl Block := []
  safe    : Bool := false
  safeCode : Half := 0
  safeObj : Half := 0
  ovfl    : Bool := false
  full    : Bool := false
  /-- Lasting conditions reported from outside: power lost per domain, `VCORE` conditions 1 and 2,
  current limiting. -/
  domLost : List Nat := []
  vlow    : List Nat := []
  ilim    : Bool := false
  /-- A wire fault stands on one of the collector's own output pairs (R386). -/
  outWire : Bool := false
  /-- Occurrences that reacted and were not recorded (R374). -/
  lost    : List Occ := []
  /-- Objects the last activation changed, for R49, and the tick of its boundary. -/
  changed : List Nat := []
  changedAt : Nat := 0
  deriving DecidableEq, Repr

/-! ## Keeper (chapter "Keeper and failover") -/

/-- The keeper states of Table 12.3. -/
inductive KSt where
  | watch | warming | waiting | claiming | keeper | released
  deriving DecidableEq, Repr

/-- What a checkpoint's content carries (Table 12.8). -/
structure Ckpt where
  /-- Power path: inputs, loop term, supply state, stack (R310). -/
  inputs  : Tbl Input := []
  x       : Rat := 0
  supply  : SupplySt := .normal
  stack   : List PpEntry := []
  levels  : Tbl Nat := []
  /-- Gauge and exercise (R343), thermal points (R368), rails (R271, R422), ports. -/
  strs    : Tbl Str := []
  ex      : ExSt := .idle
  exStr   : Nat := 0
  exHost  : Bool := false
  exAt    : Nat := 0
  xlast   : Word := 0
  points  : Tbl Point := []
  rails   : Tbl Rail := []
  vcs     : Tbl VcRail := []
  counters : Tbl (Word × Bool) := []
  barred  : List (BitVec 64 × StnReason) := []
  barBy   : List (BitVec 64 × Nat) := []
  /-- Learned records that R339 holds back. -/
  held    : List (List Byte) := []
  /-- The shelf clock, which the firmware extension carries (R514). -/
  clkSec  : Word := 0
  deriving DecidableEq, Repr, Inhabited

/-- One checkpoint buffer of the retention SRAM (Table 12.7). -/
structure CkptBuf where
  state  : Nat := 0
  fmt    : Half := 0
  blk    : Nat := 0
  seq    : Word := 0
  bond   : Nat := 0
  gen    : Nat := 0
  tick   : Nat := 0
  epoch  : Half := 0
  log    : Word := 0
  len    : Nat := 0
  img    : List Byte := []
  lag    : Nat := 0
  rcv    : Nat := 0
  blocks : Tbl (List Byte) := []
  deriving DecidableEq, Repr

/-- A frame put on the mate link (Table 12.5), without its `FCRC`. -/
structure MateFrame where
  ftype  : Byte := 0
  flags  : Byte := 0
  epoch  : Half := 0
  seq    : Word := 0
  idx    : Half := 0
  data   : List Byte := []
  deriving DecidableEq, Repr

/-- A checkpoint the keeper is sending (R425, R426): its number, blocks, the blocks acknowledged, the
sends made of each block and the tick of the last. -/
structure CkptTx where
  seq    : Word := 0
  at_    : Nat := 0
  blocks : List (List Byte) := []
  acked  : List Nat := []
  sends  : Tbl Nat := []
  sentAt : Tbl Nat := []
  deriving DecidableEq, Repr

/-- The steps of a planned handover on the keeper's side (R431). -/
inductive HandSt where
  | none | asked (since : Nat) | ready | sending (seq : Word)
  deriving DecidableEq, Repr

/-- The keeper core. -/
structure Keeper where
  st      : KSt := .warming
  roleB   : Bool := false
  live    : Bool := false
  epoch   : Half := 0
  stored  : Half := 0
  /-- `HBOUT`, the tick of its last edge, the tick of the last counted `HBIN` edge, release from reset. -/
  hbout   : Bool := false
  hboutAt : Nat := 0
  hbinAt  : Option Nat := none
  resetAt : Nat := 0
  silence : Bool := false
  brokenRaised : Bool := false
  /-- Entry to WAITING in bonds, the wait of R413 is over, GO received, matching pass seen. -/
  waitBond : Nat := 0
  waited  : Bool := false
  goSeen  : Bool := false
  passSeen : Bool := false
  claimDue : Bool := false
  claimAt : Nat := 0
  /-- Rings on which a RELEASE header is due, and those on which a RELEASE course is under way; what follows once it has
  ended on every ring: 1 a keeper action's COLD, 2 the rest of a staged shutdown. -/
  releaseRings : List Nat := []
  releasing : List Nat := []
  coldAfter : Nat := 0
  /-- The bond count at a handover's release, until HANDOVER_GO carries it (R431). -/
  goBond  : Option Nat := none
  /-- Tl in units of 0.25 ms and `MATEEN`, as the last image in force gave them. -/
  tl      : Nat := 800
  mateen  : Bool := false
  /-- ROLE A waits for silence to reclaim after a tie (R418). -/
  tieWait : Bool := false
  nrefuse : Nat := 0
  fenceBond : Nat := 0
  /-- The mate's last STATUS. -/
  mateAt  : Option Nat := none
  mateState : Nat := 0
  mateB   : Bool := false
  mateLease : Bool := false
  mateSafe : Bool := false
  mateEpoch : Half := 0
  mateVer : Half := 0
  mateBond : Nat := 0
  incompat : Bool := false
  downRaised : Bool := false
  statusAt : Nat := 0
  frames  : Word := 0
  sent    : List MateFrame := []
  /-- Checkpoints. -/
  bufA    : CkptBuf := {}
  bufB    : CkptBuf := {}
  tx      : Option CkptTx := none
  ckSeq   : Word := 0
  /-- The number of the checkpoint last captured or received. -/
  ckNum   : Word := 0
  ckAt    : Option Nat := none
  ckOk    : Bool := false
  ckMissed : Nat := 0
  loaded  : Option CkptBuf := none
  /-- The controller runs the image that the loaded checkpoint names (R422). -/
  sameImg : Bool := true
  /-- Planned handover: our own, and as the standby. -/
  hand    : HandSt := .none
  handIn  : Bool := false
  readySent : Bool := false
  releaseDue : Bool := false
  /-- Rails whose V_t is to be read from their `VSENSE` member (R422). -/
  vtWait  : List Nat := []
  /-- Image blocks received from the mate. -/
  imgRx   : Tbl (List Byte) := []
  imgCount : Nat := 0
  imgTx   : List (List Byte) := []
  imgAcked : Nat := 0
  deriving DecidableEq, Repr

/-! ## Shelf image (chapter "Shelf image and Layout Descriptor Table") -/

/-- A placement rule (Table 3.7). -/
structure Rule where
  ring    : Nat := 0
  hopAny  : Bool := false
  vendAny : Bool := false
  hop     : Nat := 0
  stype   : BitVec 4 := 0
  bricks  : Nat := 1
  member  : Nat := 0
  vendor  : Nat := 0
  tile    : Nat := 0
  slot    : Nat := 0
  quorum  : Nat := 0
  vrmin   : Nat := 0
  irmin   : Nat := 0
  fwmin   : Nat := 0
  deriving DecidableEq, Repr

/-- A claim record (Table 13.6). -/
structure Claim where
  kind  : Nat := 0
  mode  : Nat := 0
  index : Nat := 0
  owner : Nat := 0
  deriving DecidableEq, Repr

/-- One record of a validator report (Table 13.13). -/
structure VRep where
  reason : Nat := 0
  band   : Nat := 0
  sect   : Nat := 0
  off    : Nat := 0
  obja   : Nat := 0
  flda   : Nat := 0
  objb   : Nat := 0
  fldb   : Nat := 0
  aux    : Nat := 0
  deriving DecidableEq, Repr

/-- An image as its records give it.  `words` is keyed by 256 × object + word and `given` lists the
keys the image carries; tiles stand under objects `0x3000` + n with words 0 to 63.  `offs` gives the
byte offset of the record that carries a key (R454), `libRecs` the first word and the count of each record of the
pattern library, `flaws` what stage 2 of the validator finds in records and the other fields do not hold.  `octets`
are the image's own octets; `made` says that WRITE requests made the image, so that the manual does not say how its
records are cut. -/
structure Image where
  words   : Tbl Word := []
  given   : List Nat := []
  offs    : Tbl Nat := []
  lib     : Tbl Word := []
  libRecs : List (Nat × Nat) := []
  rules   : List Rule := []
  routes  : Tbl Nat := []
  claims  : List Claim := []
  links   : Tbl (List Nat) := []
  schema  : Half := 0
  signed  : Bool := false
  hash    : List Byte := []
  octets  : List Byte := []
  made    : Bool := false
  flaws   : List VRep := []
  deriving DecidableEq, Repr

/-- One slot of the image store (Table 13.1). -/
structure StoreSlot where
  used   : Bool := false
  sseq   : Word := 0
  hash   : List Byte := []
  scrc   : Word := 0
  act    : Word := 0xFFFFFFFF
  img    : Image := {}
  deriving DecidableEq, Repr

/-- Transaction states of Table 14.7. -/
inductive TxnSt where
  | idle | opened | committing | pending
  deriving DecidableEq, Repr

/-- The transaction (R479 to R481), its shadow and its commit. -/
structure Txn where
  st      : TxnSt := .idle
  num     : Half := 0
  owner   : Nat := 0
  shadow  : Image := {}
  /-- Octets of a whole-image shadow, once one has begun (R478), and changes made over it by WRITE. -/
  raw     : Option (Tbl Byte) := none
  edited  : Bool := false
  edits   : Tbl Word := []
  lastAt  : Nat := 0
  outcome : Nat := 0
  actBond : Nat := 0
  lastAct : Nat := 0
  /-- The image that passed the validator, the mate has confirmed it, the tick its sending began. -/
  ready   : Image := {}
  mateOk  : Bool := false
  syncAt  : Nat := 0
  /-- The held TXN_COMMIT: port, `MSESS` octet. -/
  held    : Option (Nat × Byte) := none
  deriving DecidableEq, Repr

/-- The image in force, the store and the transaction. -/
structure Img where
  cur     : Image := {}
  /-- Slot in force, none when the controller runs with no image. -/
  slot    : Option Nat := none
  slots   : Tbl StoreSlot := []
  /-- An image loaded at start, which activates at the first bond boundary (R457). -/
  atStart : Option Image := none
  iactb   : Nat := 0
  lseq    : Word := 0
  /-- Slots whose activation word waits for a band in which flash is programmed (R365). -/
  sactDue : List Nat := []
  txn     : Txn := {}
  deriving DecidableEq, Repr

/-! ## Messages (chapter "Messages, sessions and coherent state") -/

/-- One session (R464 to R468). -/
structure Session where
  opened  : Bool := false
  pendg   : Bool := false
  cls     : Nat := 0
  port    : Nat := 0
  nonce   : List Byte := []
  openAt  : Nat := 0
  lastAt  : Nat := 0
  /-- Sequence number of the newest event it has read. -/
  ptr     : Nat := 0
  /-- The last request executed (sequence, opcode, `MCRC`) and its stored reply. -/
  last    : Option (BitVec 4 × Byte × Half) := none
  reply   : List Byte := []
  /-- Pinned generations with the tick of expiry. -/
  pins    : List (Nat × Nat) := []
  deriving DecidableEq, Repr

/-- What one message port holds (R492, R494, R505): the request in its inbox, the reply waiting. -/
structure MsgPort where
  inbox   : Option (List Byte) := none
  reply   : Option (List Byte) := none
  /-- Ticks of failed AUTH, newest first, and the end of a lock-out. -/
  fails   : List Nat := []
  lockEnd : Option Nat := none
  /-- What the port last put on the bus: the octets of the last read, and the acknowledge of each octet of the last write. -/
  out     : List Byte := []
  acks    : List Bool := []
  deriving DecidableEq, Repr

/-- A host event (Table 14.8). -/
structure HostEvent where
  seq  : Nat := 0
  kind : Nat := 0
  code : Half := 0
  obj  : Half := 0
  aux  : Half := 0
  tick : Nat := 0
  deriving DecidableEq, Repr

/-- A disagreement entry (Table 14.10). -/
structure Disagree where
  obj    : Half := 0
  word   : Byte := 0
  kind   : Nat := 0
  intent : Word := 0
  obs    : Word := 0
  since  : Word := 0
  deriving DecidableEq, Repr

/-- Sessions, events, disagreements and the numbering of generations. -/
structure Msgs where
  sess   : Tbl Session := []
  ports  : Tbl MsgPort := []
  events : List HostEvent := []
  evSeq  : Nat := 0
  dis    : Tbl Disagree := []
  /-- Bonds for which a case has stood, by 65536 × row + object. -/
  disRun : Tbl Nat := []
  dovfl  : Bool := false
  /-- Ports of the batch that is being taken (R483). -/
  batch  : List Nat := []
  gen    : Nat := 0
  /-- A generation has been published since D1 came on. -/
  published : Bool := false
  ngaps  : Nat := 0
  gbase  : Nat := 0
  glast  : Nat := 0
  deriving DecidableEq, Repr

/-! ## Two-wire and host ports -/

/-- Who asked for an initiator transfer (R501). -/
inductive Asker where
  | gauge (str : Nat) | air (sensor : Nat) | firmware (id : Nat)
  deriving DecidableEq, Repr

/-- A transfer on an initiator port (R318, R355): the 7-bit address, the octets written to it, and how many are then read
after a repeated START. -/
structure PiXfer where
  addr  : BitVec 7 := 0
  wr    : List Byte := []
  rd    : Nat := 0
  deriving DecidableEq, Repr

/-- One initiator port (Table 15.5). -/
structure Pi2c where
  due     : List Asker := []
  active  : Option Asker := none
  /-- What the active transfer puts on the bus; none for one of firmware, whose contents the manual does not give. -/
  xfer    : Option PiXfer := none
  stuck   : Bool := false
  dis     : Bool := false
  arbl    : Bool := false
  pto     : Bool := false
  recoverAt : Nat := 0
  recovering : Bool := false
  deriving DecidableEq, Repr

/-- The two-wire target and the initiator ports. -/
structure Ports where
  addr    : BitVec 3 := 0
  sclto   : Bool := false
  sdato   : Bool := false
  /-- The D0 matcher stretches SCL for a match, since this tick; the responder is ready. -/
  matchAt : Option Nat := none
  respReady : Bool := false
  /-- The responder's own session 1 is open (R498); the bus is in a transfer the responder serves. -/
  respOpen : Bool := false
  /-- Setting writes wait for the next idle of the port: 256 × object + word, and value. -/
  waiting : List (Nat × Word) := []
  pi      : Tbl Pi2c := []
  deriving DecidableEq, Repr

/-! ## Recorder and counters (chapter "Black box, trace and counters") -/

/-- One event record (R515), with its 32-bit record sequence number (R516). -/
structure EventRec where
  etype : Byte := 0
  flags : Byte := 0
  boot  : Half := 0
  tick  : Nat := 0
  secs  : Word := 0
  seq   : Nat := 0
  pay   : List Byte := []
  deriving DecidableEq, Repr

/-- One entry of a trace buffer (R527). -/
structure TraceEnt where
  tile   : Nat := 0
  mark   : Bool := false
  lane   : Nat := 0
  chan   : Nat := 0
  course : Half := 0
  value  : W24 := 0
  /-- The tick it was committed at, which orders the lanes of one tick (R196); no part of its octets. -/
  tick   : Nat := 0
  deriving DecidableEq, Repr

/-- One flash page of the flush ring (R518): events, or one page of a capture. -/
structure FlushPage where
  capture : Bool := false
  /-- Page index within the capture, and the capture's number. -/
  index  : Nat := 0
  capNum : Nat := 0
  slot   : Nat := 0
  boot   : Half := 0
  pseq   : Nat := 0
  recs   : List EventRec := []
  points : List (List Half) := []
  /-- `PMAGIC` and `PCRC` pass. -/
  ok     : Bool := true
  deriving DecidableEq, Repr

/-- A page that is being programmed (R519): its page number and contents, and whether it has failed read-back once. -/
structure FlushJob where
  pos     : Nat := 0
  page    : FlushPage := {}
  retried : Bool := false
  /-- The second attempt waits for a band in which flash is programmed (R365). -/
  wait    : Bool := false
  deriving DecidableEq, Repr

/-- One capture slot (R521, R522): `state` is `CSTATE`; `points` newest first. -/
structure CapSlot where
  state  : Nat := 0
  count  : Nat := 0
  points : List (List Half) := []
  post   : Nat := 0
  skip   : Nat := 0
  /-- The trigger's code and tick, and the page of it to flush next. -/
  trigCode : Half := 0
  trigAt : Nat := 0
  page   : Nat := 0
  first  : Nat := 0
  deriving DecidableEq, Repr

/-- The frozen content of a snapshot (R523, Table 16.5). -/
structure SnapContent where
  boot  : Word := 0
  tick  : Nat := 0
  secs  : Word := 0
  cause : Nat := 0
  words : List Word := []
  recs  : List EventRec := []
  occs  : List Occ := []
  cap   : Option (Nat × CapSlot) := none
  deriving DecidableEq, Repr

/-- One snapshot area (R525, R526). -/
structure SnapArea where
  erased  : Bool := true
  /-- `SMAGIC` and `SHCRC` pass. -/
  hdrOk   : Bool := false
  /-- Pages programmed whose `CRC` passes, and pages whose `CRC` fails. -/
  pages   : List Nat := []
  badPages : List Nat := []
  content : SnapContent := {}
  reported : Bool := false
  deriving DecidableEq, Repr

/-- A commit in progress (R524): the area, the next page (1 to 7, then 0) and the tick of the request. -/
structure SnapJob where
  area    : Nat := 0
  page    : Nat := 1
  askedAt : Nat := 0
  late    : Bool := false
  waiting : Bool := false
  content : SnapContent := {}
  deriving DecidableEq, Repr

/-- One trace channel (R527 to R529): `state` is `TSTATE`; `ents` newest first. -/
structure TraceCh where
  state : Nat := 0
  wrap  : Bool := false
  stored : Nat := 0
  ents  : List TraceEnt := []
  skip  : Nat := 0
  prev  : Option W24 := none
  post  : Nat := 0
  mark  : Bool := false
  /-- Tick at which its trigger GPIO pulse began. -/
  pulse : Option Nat := none
  deriving DecidableEq, Repr

/-- One performance counter (R530). -/
structure Counter where
  val : Word := 0
  ovf : Bool := false
  deriving DecidableEq, Repr

/-- One instruction sample (R534). -/
structure Sample where
  tile   : Nat := 0
  lane   : Nat := 0
  rebase : Bool := false
  pfalse : Bool := false
  discarded : Bool := false
  addr   : Half := 0
  opcode : Byte := 0
  latency : Half := 0
  course : Half := 0
  tick   : Nat := 0
  deriving DecidableEq, Repr

/-- The recorder, the counter hub and the shelf clock. -/
structure Recorder where
  /-- The event ring, newest first, and how many of its newest are not flushed. -/
  ring    : List EventRec := []
  unfl    : Nat := 0
  unflAt  : Nat := 0
  /-- Unflushed records that RCMD FLUSH still has to flush (R536). -/
  flushNow : Nat := 0
  dropRun : Bool := false
  /-- The D0 queue, oldest first, and the records lost at it since D6 last powered. -/
  d0q     : List EventRec := []
  d0lost  : Nat := 0
  rseq    : Nat := 0
  pseq    : Nat := 0
  bootcnt : Word := 0
  /-- Flush pages by page number (an absent one is erased), the page to program next, the page in progress. -/
  flash   : Tbl FlushPage := []
  wpos    : Nat := 16
  job     : Option FlushJob := none
  area0   : SnapArea := {}
  area1   : SnapArea := {}
  armed   : Option Nat := none
  /-- An area is to be erased and armed (R526); tick of the last occupancy sample (R531). -/
  armDue  : Bool := false
  occAt   : Option Nat := none
  /-- Tick since which the controller has been in RUN with no area armed. -/
  notArmed : Option Nat := none
  snap    : Option SnapJob := none
  /-- A commit asked for during a reset of the recorder starts when it is ready (R537). -/
  snapDue : Option Nat := none
  lastCap : Option Nat := none
  caps    : Tbl CapSlot := []
  traces  : Tbl TraceCh := []
  ctrs    : Tbl Counter := []
  /-- Instruction samples, newest first. -/
  samples : List Sample := []
  swrap   : Bool := false
  /-- Samples stored since the buffer was last cleared. -/
  sampled : Nat := 0
  sleft   : Nat := 0
  clkSet  : Bool := false
  clkSec  : Word := 0
  clkAt   : Nat := 0
  deriving DecidableEq, Repr

/-! ## Power states (chapter "Start-up and power states") -/

/-- The power states of Table 17.2. -/
inductive PwrSt where
  | off | held | boot | run | lean | holdup | cold
  deriving DecidableEq, Repr

/-- The power object `0xD200` and the state behind it. -/
structure Pwr where
  st      : PwrSt := .boot
  stage   : Nat := 1
  stageAt : Nat := 0
  /-- Service LEAN, and a service boot on its way to it. -/
  service : Bool := false
  svcBoot : Bool := false
  cause   : Byte := 0
  /-- `DOMON`: bit d, domain Dd on. -/
  on      : BitVec 8 := 1
  rgate   : BitVec 8 := 0
  vgate   : BitVec 4 := 0
  tgate   : BitVec 8 := 0
  pwrNow  : Half := 0
  vinNow  : Half := 0
  /-- `LEANEN` in force. -/
  leanen  : Bool := false
  /-- The straps as last sampled: `ROLE`, `ADDR0` to `ADDR2`, and `GPIO0`. -/
  strapRole : Bool := false
  strapAddr : BitVec 3 := 0
  strapRec  : Bool := false
  resetLow : Bool := false
  /-- `PFAIL_N`, and the tick at which it last rose. -/
  pfailN  : Bool := true
  pfailAt : Nat := 0
  /-- A staged shutdown has ended: COLD with the keeper core stopped (R558). -/
  shut    : Bool := false
  /-- A keeper action to COLD waits for the end of stage 3, or of the snapshot commit (R554, R562). -/
  coldDue : Bool := false
  /-- Tick since which no session has been open. -/
  idleAt  : Nat := 0
  refLoss : Bool := false
  timeEst : Bool := false
  /-- The recovery ROM runs (R587, R600). -/
  recovery : Bool := false
  /-- A release of reset with this cause follows within 1 ms of a reply (R596, R600). -/
  restart : Option Nat := none
  deriving DecidableEq, Repr

/-! ## Security, OTP and update -/

/-- One OTP word as it reads at normal level, at margin low and at margin high (R573, R577). -/
structure OtpWord where
  norm : BitVec 40 := 0
  lo   : BitVec 40 := 0
  hi   : BitVec 40 := 0
  deriving DecidableEq, Repr

/-- The boot record (Table 18.11). -/
structure BootRec where
  seq   : Word := 0
  bact  : Bool := false
  state : Nat := 0
  trial : Nat := 0
  plen  : Nat := 0
  deriving DecidableEq, Repr

/-- Update staging (R590, R591): `state` 0 IDLE, 1 LOADING, 2 SEALED; the octets received and the last block. -/
structure Staging where
  state  : Nat := 0
  owner  : Nat := 0
  bytes  : List Byte := []
  lastOff : Nat := 0
  lastLen : Nat := 0
  kind   : Nat := 0
  reason : Nat := 0
  /-- A kind 2 package is being relayed, or its relay is complete. -/
  relaying : Bool := false
  relayed : Bool := false
  relayLeft : List Nat := []
  deriving DecidableEq, Repr

/-- Debug access (R568 to R572): mode 0 CLOSED, 1 SCOPED, 2 OPEN; failures newest first. -/
structure Debug where
  mode    : Nat := 0
  fails   : List Nat := []
  lockEnd : Option Nat := none
  nonce   : List Byte := []
  /-- Lanes halted by debug, and lanes that may execute one instruction (R571). -/
  halted  : List Nat := []
  stepped : List Nat := []
  coresHalted : Bool := false
  deriving DecidableEq, Repr

/-- The Secure Core. -/
structure Sec where
  otp     : Tbl OtpWord := []
  /-- The intent record (R579). -/
  intent  : Option (Nat × BitVec 40) := none
  /-- `LCYCLE` as read in stage 2, the words found WEAK and the interrupted ones. -/
  lc      : Nat := 0
  weak    : List Nat := []
  intr    : List Nat := []
  /-- Object `0xE010`: region, cause, word, HELD. -/
  iregion : Nat := 0
  icause  : Nat := 0
  iword   : Nat := 0
  iheld   : Bool := false
  /-- Regions whose integrity check failed in stage 2 (R569). -/
  badRegions : List Nat := []
  dbg     : Debug := {}
  /-- The anti-rollback step that is to be reached (R595). -/
  arvGoal : Option Nat := none
  /-- The boot record, when a valid copy exists; the raw octets of each bank. -/
  boot    : Option BootRec := none
  /-- What flash holds of the boot record while a newer one waits for a band in which flash is programmed (R365). -/
  bootOld : Option (Option BootRec) := none
  bankA   : List Byte := []
  bankB   : List Byte := []
  /-- The running bank (true is B), when management firmware runs. -/
  running : Option Bool := none
  stg     : Staging := {}
  /-- Recovery: octets taken, the last block's offset and length. -/
  recBytes : List Byte := []
  recOff  : Nat := 0
  recLen  : Nat := 0
  /-- The shelf image store of the bank that is not `storeB` (R436): `img.slots` is the store of `storeB`. -/
  otherStore : Tbl StoreSlot := []
  storeB  : Bool := false
  jobs    : Nat := 0
  deriving DecidableEq, Repr

/-! ## Converters and pins -/

/-- The local sense front end (R615, R616). -/
structure Adc where
  codes : Tbl Half := []
  done  : List Nat := []
  /-- Conversions in a row at code 0 or 0xFFFF, by channel. -/
  runs  : Tbl Nat := []
  /-- Channels whose present run has raised `ADC_RANGE`. -/
  raised : List Nat := []
  /-- Tick of the last completed conversion, and the least channel that the round-robin takes next. -/
  lastAt : Nat := 0
  next  : Nat := 0
  refDue : Bool := false
  refOk : Bool := false
  /-- `VBOK`, `VB18`, `VDDAMV`. -/
  vbok  : BitVec 4 := 0
  vb18  : BitVec 4 := 0
  vdda  : Half := 0
  deriving DecidableEq, Repr

/-- What DBGACC answered last (R572): nothing yet, done, LEASE, or outside the reach of Table 18.4. -/
inductive DbgAns where
  | none | ok | lease | refused
  deriving DecidableEq, Repr

/-- The GPIO outputs, the JTAG port and the debug port. -/
structure Pins where
  gpioOut : Half := 0
  /-- The bits last shifted out of `TDO`, first bit first; the boundary-scan values; EXTEST drives them. -/
  tdo    : List Bool := []
  bsr    : List Bool := []
  extest : Bool := false
  /-- What DBGAUTH and DBGACC gave last, and the words written through DBGACC by memory and address. -/
  dbgOut : List Byte := []
  dbgAns : DbgAns := .none
  dbgMem : List (MemSpace × Nat × Word) := []
  deriving DecidableEq, Repr

/-! ## The whole controller -/

/-- All the state the manual gives the controller, but for the published generations and the queue. -/
structure Live where
  /-- Ticks of 5 ns since power-on reset (R4); the 48-bit tick of a stamp is its low 48 bits. -/
  now    : Nat := 0
  /-- The bond count, and the tick of the last bond boundary. -/
  bond   : Nat := 0
  bondAt : Nat := 0
  /-- Bonds run: the bond count has begun since the controller last entered RUN or LEAN as keeper (R420). -/
  bondOn : Bool := false
  pwr    : Pwr := {}
  rings  : Tbl Ring := []
  /-- Slots by 32 × ring + slot. -/
  slots  : Tbl Slot := []
  moor   : Moor := {}
  loop   : Loop := {}
  rails  : Tbl Rail := []
  vcp    : Tbl VcPort := []
  vcr    : Tbl VcRail := []
  pp     : Power := {}
  gauge  : Gauge := {}
  therm  : Therm := {}
  fc     : Fc := {}
  keeper : Keeper := {}
  img    : Img := {}
  msgs   : Msgs := {}
  ports  : Ports := {}
  recd   : Recorder := {}
  sec    : Sec := {}
  adc    : Adc := {}
  pins   : Pins := {}
  /-- Words that are written on the write or at a bond boundary (R11), by 256 × object + word. -/
  host   : Tbl Word := []
  /-- Bond-effect writes that wait for the next boundary, oldest first. -/
  bondWrites : List (Nat × Word) := []
  /-- For R18: by 32 × (256 × object + word) + bit, 1 + the number of the bond of the timebase in which the hardware last set
  the W1C bit. -/
  w1c    : Tbl Nat := []
  /-- The model's own count of free values drawn. -/
  free   : Nat := 0
  deriving DecidableEq, Repr

/-- The machine: the controller, the generations it keeps and the commands that wait. -/
structure State where
  live    : Live
  /-- The newest generation and the pinned ones, by generation number (R48, R473). -/
  gens    : Tbl Live
  pending : List Instr
  deriving DecidableEq, Repr

/-- Why a command stops the machine.  No command of this model does: every command has an effect.
`absent` is kept for a command whose subject the manual says does not exist; no meaning raises it. -/
inductive Fault where
  /-- Raised by nobody (safe). -/
  | absent (what : String)
  deriving DecidableEq, Repr

/-- Why a command is refused. -/
inductive Refusal where
  /-- Raised by `exec` for a command that has no meaning yet (safe). -/
  | notModelled (mnemonic : String)
  deriving DecidableEq, Repr

/-- The stored settings' values when no stored record exists (Reset columns of the tables named in
`notes/assumptions/8.md`): key 256 × object + word. -/
def resetHost : Tbl Word :=
  [ (0xD000 * 256, 0x3C0A03E8),
    (0xD100 * 256, 0x590F0000),
    (0xD102 * 256, 0x75900000), (0xD102 * 256 + 1, 0x1180AA3C), (0xD102 * 256 + 2, 0x08208200),
    (0xD102 * 256 + 3, 0x04600000),
    (0xD103 * 256, 0x75900000), (0xD103 * 256 + 1, 0x1180AA3C), (0xD103 * 256 + 2, 0x08208200),
    (0xD103 * 256 + 3, 0x04600000),
    (0xD200 * 256, 0x053C0000) ]

/-- The controller right after power-on reset (R4, R16, R540, R543). -/
def Live.reset : Live := { host := resetHost }

/-- The machine right after power-on reset: nothing published, nothing waiting. -/
def State.reset : State := { live := Live.reset, gens := [], pending := [] }

end Sys2Proof.Machine
end

