-- ==== Sys2Proof/Machine/Ops.lean ====
section
/-! DEFINITION. The named operations that every command shares: tables, time, configuration words, counters,
event records, fault details and free values. -/
namespace Sys2Proof.Machine

/-! ## Tables -/

/-- What a table holds for number `k`; `d` is what an unlisted number reads as. -/
def tget {α : Type} (d : α) : Tbl α → Nat → α
  | [], _ => d
  | (j, v) :: t, k => if k < j then d else if k = j then v else tget d t k

/-- The table with `v` at number `k`, in canonical form.  Entries that a table out of canonical form holds up to `k` behind
its entry `k` go with it, so that what is written reads back from every table. -/
def tput {α : Type} [DecidableEq α] (d : α) : Tbl α → Nat → α → Tbl α
  | [], k, v => if v = d then [] else [(k, v)]
  | (j, w) :: t, k, v =>
    if k < j then (if v = d then (j, w) :: t else (k, v) :: (j, w) :: t)
    else if k = j then (if v = d then t.dropWhile (fun p => p.1 ≤ k) else (k, v) :: t)
    else (j, w) :: tput d t k v

/-- Number `k` changed by `f`. -/
def tmod {α : Type} [DecidableEq α] (d : α) (t : Tbl α) (k : Nat) (f : α → α) : Tbl α :=
  tput d t k (f (tget d t k))

/-- Every listed number `k` is above `n`, the numbers rise, and no entry is the default. -/
def wfFrom {α : Type} [DecidableEq α] (d : α) : Option Nat → Tbl α → Bool
  | _, [] => true
  | n, (j, v) :: t => (match n with | none => true | some m => m < j) && v ≠ d && wfFrom d (some j) t

/-- The canonical form of a table. -/
def Tbl.wf {α : Type} [DecidableEq α] (d : α) (t : Tbl α) : Bool := wfFrom d none t

/-- A table with an entry that may be absent. -/
def tfind {α : Type} : Tbl α → Nat → Option α
  | [], _ => none
  | (j, v) :: t, k => if k = j then some v else tfind t k

/-- Set number `k`, whatever the value. -/
def tset {α : Type} : Tbl α → Nat → α → Tbl α
  | [], k, v => [(k, v)]
  | (j, w) :: t, k, v =>
    if k < j then (k, v) :: (j, w) :: t else if k = j then (k, v) :: t else (j, w) :: tset t k v

/-- Drop number `k`. -/
def tdrop {α : Type} (t : Tbl α) (k : Nat) : Tbl α := t.filter (fun p => p.1 ≠ k)

/-! ## Numbers and bit fields -/

/-- Bits [hi:lo] of a word as a number. -/
def fld (w : Word) (hi lo : Nat) : Nat := (w.toNat >>> lo) % 2 ^ (hi - lo + 1)

/-- One bit of a word. -/
def bit (w : Word) (n : Nat) : Bool := w.getLsbD n

/-- A field of `width` bits placed at bit `lo`. -/
def put (v lo width : Nat) : Word := BitVec.ofNat 32 ((v % 2 ^ width) <<< lo)

/-- A flag placed at bit `lo`. -/
def flag (b : Bool) (lo : Nat) : Word := if b then put 1 lo 1 else 0

/-- A two's complement reading of a number of `w` bits. -/
def sgn (v w : Nat) : Int := if v % 2 ^ w < 2 ^ (w - 1) then (v % 2 ^ w : Int) else (v % 2 ^ w : Int) - 2 ^ w

/-- A number clamped to a range. -/
def clampR (x lo hi : Rat) : Rat := if x < lo then lo else if hi < x then hi else x

/-- Truncation toward zero (R22). -/
def truncR (x : Rat) : Int := if x < 0 then -((-x).floor) else x.floor

/-- A non-negative fraction truncated and held to an upper bound. -/
def satNat (x : Rat) (top : Nat) : Nat := min (truncR x).toNat top

/-- A fraction truncated, held to `w` bits of two's complement, as a number. -/
def satInt (x : Rat) (w : Nat) : Nat :=
  let v := truncR x
  let v := if v < -(2 ^ (w - 1)) then -(2 ^ (w - 1)) else if v > 2 ^ (w - 1) - 1 then 2 ^ (w - 1) - 1 else v
  (v % 2 ^ w).toNat

/-- Octets of a number, little-endian (R9). -/
def leBytes (v n : Nat) : List Byte := (List.range n).map (fun i => BitVec.ofNat 8 (v >>> (8 * i)))

/-- The number that octets hold, little-endian (R9). -/
def leNat : List Byte → Nat
  | [] => 0
  | b :: t => b.toNat + 256 * leNat t

/-- Octets `a` to `a + n − 1` of a list. -/
def sliceB (l : List Byte) (a n : Nat) : List Byte := (l.drop a).take n

/-- Sum of a list of fractions. -/
def sumR (l : List Rat) : Rat := l.foldl (· + ·) 0

/-- Ceiling of a quotient. -/
def cdiv (a b : Nat) : Nat := if b = 0 then 0 else (a + b - 1) / b

/-! ## Checks (Table 2.9, R108) -/

/-- One step of a CRC of width `w`, most significant bit first. -/
def crcBit (w poly : Nat) (crc : Nat) (b : Bool) : Nat :=
  let top := (crc >>> (w - 1)) % 2
  let s := (crc <<< 1) % 2 ^ w
  if (top = 1) != b then s ^^^ poly else s

/-- The bits of a number, most significant of `n` first. -/
def bitsMsb (v : Nat) : Nat → List Bool
  | 0 => []
  | n + 1 => v.testBit n :: bitsMsb v n

/-- CRC-8 of Table 2.9 over `n` bits. -/
def crc8 (v n : Nat) : Nat := (bitsMsb v n).foldl (crcBit 8 0x07) 0

/-- CRC-16-CCITT of Table 2.9 over a list of bits. -/
def crc16Bits (l : List Bool) : Nat := l.foldl (crcBit 16 0x1021) 0xFFFF

/-- CRC-16-CCITT over `n` bits of a number. -/
def crc16 (v n : Nat) : Nat := crc16Bits (bitsMsb v n)

/-- CRC-16-CCITT over octets. -/
def crc16Bytes (l : List Byte) : Nat :=
  l.foldl (fun c b => (bitsMsb b.toNat 8).foldl (crcBit 16 0x1021) c) 0xFFFF

/-- One step of the reflected CRC-32 of R108. -/
def crc32Step (crc : Nat) : Nat := if crc % 2 = 1 then (crc >>> 1) ^^^ 0xEDB88320 else crc >>> 1

/-- CRC-32 of R108 over octets. -/
def crc32 (l : List Byte) : Nat :=
  (l.foldl (fun c b => (List.range 8).foldl (fun c _ => crc32Step c) (c ^^^ b.toNat)) 0xFFFFFFFF) ^^^ 0xFFFFFFFF

/-! ## Time -/

/-- Ticks in a bond (R4, R48): 1 ms. -/
def bondTicks : Nat := 200000

/-- Ticks in a second. -/
def secTicks : Nat := 200000000

/-- The 48-bit tick of a stamp (R4). -/
def Live.tick (l : Live) : Nat := l.now % 2 ^ 48

/-! ## Free values -/

/-- Draw a free value of `w` bits. -/
def Live.draw (l : Live) (w : Nat) : BitVec w × Live := (Config.freeBits w l.free, { l with free := l.free + 1 })

/-- Draw `n` free octets. -/
def Live.drawBytes (l : Live) (n : Nat) : List Byte × Live :=
  ((List.range n).map (fun i => Config.freeBits 8 (l.free + i)), { l with free := l.free + n })

/-- Draw a free number below `n`. -/
def Live.drawBelow (l : Live) (n : Nat) : Nat × Live := (Config.freeNat l.free % n, { l with free := l.free + 1 })

/-- Draw a free fraction. -/
def Live.drawRat (l : Live) : Rat × Live := (Config.freeRat l.free, { l with free := l.free + 1 })

/-! ## Parts of the state -/

def Live.ring (l : Live) (n : Nat) : Ring := tget {} l.rings n
def Live.modRing (l : Live) (n : Nat) (f : Ring → Ring) : Live := { l with rings := tmod {} l.rings n f }
def Live.slot (l : Live) (r s : Nat) : Slot := tget {} l.slots (32 * r + s)
def Live.modSlot (l : Live) (r s : Nat) (f : Slot → Slot) : Live := { l with slots := tmod {} l.slots (32 * r + s) f }
def Live.stn (l : Live) (n : Nat) : Stn := tget {} l.moor.stns n
def Live.modStn (l : Live) (n : Nat) (f : Stn → Stn) : Live :=
  { l with moor := { l.moor with stns := tmod {} l.moor.stns n f } }
def Live.tile (l : Live) (n : Nat) : Tile := tget {} l.loop.tiles n
def Live.modTile (l : Live) (n : Nat) (f : Tile → Tile) : Live :=
  { l with loop := { l.loop with tiles := tmod {} l.loop.tiles n f } }
def Live.lane (l : Live) (n : Nat) : Lane := tget {} l.loop.lanes n
def Live.modLane (l : Live) (n : Nat) (f : Lane → Lane) : Live :=
  { l with loop := { l.loop with lanes := tmod {} l.loop.lanes n f } }
def Live.rail (l : Live) (n : Nat) : Rail := tget {} l.rails n
def Live.modRail (l : Live) (n : Nat) (f : Rail → Rail) : Live := { l with rails := tmod {} l.rails n f }
def Live.vp (l : Live) (n : Nat) : VcPort := tget {} l.vcp n
def Live.modVp (l : Live) (n : Nat) (f : VcPort → VcPort) : Live := { l with vcp := tmod {} l.vcp n f }
def Live.vr (l : Live) (n : Nat) : VcRail := tget {} l.vcr n
def Live.modVr (l : Live) (n : Nat) (f : VcRail → VcRail) : Live := { l with vcr := tmod {} l.vcr n f }
def Live.inp (l : Live) (n : Nat) : Input := tget {} l.pp.inputs n
def Live.modInp (l : Live) (n : Nat) (f : Input → Input) : Live :=
  { l with pp := { l.pp with inputs := tmod {} l.pp.inputs n f } }
def Live.str (l : Live) (n : Nat) : Str := tget {} l.gauge.strs n
def Live.modStr (l : Live) (n : Nat) (f : Str → Str) : Live :=
  { l with gauge := { l.gauge with strs := tmod {} l.gauge.strs n f } }
def Live.point (l : Live) (n : Nat) : Point := tget {} l.therm.points n
def Live.modPoint (l : Live) (n : Nat) (f : Point → Point) : Live :=
  { l with therm := { l.therm with points := tmod {} l.therm.points n f } }
def Live.block (l : Live) (n : Nat) : Block := tget {} l.fc.blocks n
def Live.modBlock (l : Live) (n : Nat) (f : Block → Block) : Live :=
  { l with fc := { l.fc with blocks := tmod {} l.fc.blocks n f } }
def Live.sess (l : Live) (n : Nat) : Session := tget {} l.msgs.sess n
def Live.modSess (l : Live) (n : Nat) (f : Session → Session) : Live :=
  { l with msgs := { l.msgs with sess := tmod {} l.msgs.sess n f } }
def Live.mport (l : Live) (n : Nat) : MsgPort := tget {} l.msgs.ports n
def Live.modMport (l : Live) (n : Nat) (f : MsgPort → MsgPort) : Live :=
  { l with msgs := { l.msgs with ports := tmod {} l.msgs.ports n f } }
def Live.pi (l : Live) (n : Nat) : Pi2c := tget {} l.ports.pi n
def Live.modPi (l : Live) (n : Nat) (f : Pi2c → Pi2c) : Live :=
  { l with ports := { l.ports with pi := tmod {} l.ports.pi n f } }
def Live.capSlot (l : Live) (n : Nat) : CapSlot := tget {} l.recd.caps n
def Live.modCapSlot (l : Live) (n : Nat) (f : CapSlot → CapSlot) : Live :=
  { l with recd := { l.recd with caps := tmod {} l.recd.caps n f } }
def Live.trace (l : Live) (n : Nat) : TraceCh := tget {} l.recd.traces n
def Live.modTrace (l : Live) (n : Nat) (f : TraceCh → TraceCh) : Live :=
  { l with recd := { l.recd with traces := tmod {} l.recd.traces n f } }
def Live.otpw (l : Live) (n : Nat) : OtpWord := tget {} l.sec.otp n
def Live.ctr (l : Live) (n : Nat) : Counter := tget {} l.recd.ctrs n

/-- Change the keeper core's part. -/
def Live.modK (l : Live) (f : Keeper → Keeper) : Live := { l with keeper := f l.keeper }
/-- Change the power part. -/
def Live.modPwr (l : Live) (f : Pwr → Pwr) : Live := { l with pwr := f l.pwr }
/-- Change the Power Path Manager's part. -/
def Live.modPp (l : Live) (f : Power → Power) : Live := { l with pp := f l.pp }
/-- Change the recorder's part. -/
def Live.modRec (l : Live) (f : Recorder → Recorder) : Live := { l with recd := f l.recd }
/-- Change the collector's part. -/
def Live.modFc (l : Live) (f : Fc → Fc) : Live := { l with fc := f l.fc }
/-- Change the Secure Core's part. -/
def Live.modSec (l : Live) (f : Sec → Sec) : Live := { l with sec := f l.sec }
/-- Change the transaction. -/
def Live.modTxn (l : Live) (f : Txn → Txn) : Live := { l with img := { l.img with txn := f l.img.txn } }
/-- Change the Loop Engine's part. -/
def Live.modLoop (l : Live) (f : Loop → Loop) : Live := { l with loop := f l.loop }

/-- Fold a change over the numbers below `n`. -/
def Live.each (l : Live) (n : Nat) (f : Live → Nat → Live) : Live := (List.range n).foldl f l

/-- Fold a change over a list. -/
def Live.forL {α : Type} (l : Live) (xs : List α) (f : Live → α → Live) : Live := xs.foldl f l

/-! ## Configuration words -/

/-- The store's key of a word of an object. -/
def key (oid w : Nat) : Nat := 256 * oid + w

/-- A word of the image in force (commit effect). -/
def Live.cw (l : Live) (oid w : Nat) : Word := tget 0 l.img.cur.words (key oid w)

/-- The image in force carries the word. -/
def Live.given (l : Live) (oid w : Nat) : Bool := l.img.cur.given.contains (key oid w)

/-- A word that a host writes directly (bond effect or on the write). -/
def Live.hw (l : Live) (oid w : Nat) : Word := tget 0 l.host (key oid w)

/-- Store a directly written word. -/
def Live.setHw (l : Live) (oid w : Nat) (v : Word) : Live := { l with host := tput 0 l.host (key oid w) v }

/-- A field of the image in force. -/
def Live.cf (l : Live) (oid w hi lo : Nat) : Nat := fld (l.cw oid w) hi lo

/-- A flag of the image in force. -/
def Live.cb (l : Live) (oid w n : Nat) : Bool := bit (l.cw oid w) n

/-- Object identifiers (Table 13.7) by instance. -/
def oRing (n : Nat) : Nat := 0x1000 + n
def oStn (n : Nat) : Nat := 0x2000 + n
def oTile (n : Nat) : Nat := 0x3000 + n
def oRail (n : Nat) : Nat := 0x4000 + n
def oVc (n : Nat) : Nat := 0x5000 + n
def oInput (n : Nat) : Nat := 0x6000 + n
def oStr (n : Nat) : Nat := 0x7000 + n
def oPoint (n : Nat) : Nat := 0x8000 + n

/-! ## W1C bits (R13, R18) -/

/-- The hardware sets a W1C bit in this bond. -/
def Live.w1cSet (l : Live) (oid w b : Nat) : Live := { l with w1c := tput 0 l.w1c (32 * key oid w + b) (l.now / bondTicks + 1) }

/-- A written 1 clears the bit, unless the hardware has set it in the same bond (R18). -/
def Live.w1cClears (l : Live) (oid w b : Nat) (v : Word) : Bool := bit v b && tget 0 l.w1c (32 * key oid w + b) ≤ l.now / bondTicks

/-! ## Counters (R530, R531) -/

/-- The attributes an event brings to the filters of R531. -/
structure CntAttr where
  cls    : Option Nat := none
  req    : Option Nat := none
  obj    : Option Nat := none
  tclass : Option Nat := none
  deriving DecidableEq, Repr

/-- Word 2 or 3 of a counter object: the image's word, or its default (Table 16.9). -/
def Live.ctrWord (l : Live) (n w : Nat) : Word :=
  if l.given (0xC000 + n) w then l.cw (0xC000 + n) w
  else if w = 2 then 0x0F007F80 else if w = 3 then 0x0000FFFF else 0

/-- `CHAIN` acts on an even course-traffic counter (R530). -/
def Live.chained (l : Live) (n : Nat) : Bool := n < 64 && n % 2 = 0 && bit (l.ctrWord n 2) 30

/-- Set counter `n`. -/
def Live.setCtr (l : Live) (n : Nat) (c : Counter) : Live :=
  { l with recd := { l.recd with ctrs := tput {} l.recd.ctrs n c } }

/-- Add to one counter without chaining: it wraps and sets `OVF` (R530). -/
def Live.addCtr (l : Live) (n k : Nat) : Live :=
  let c := l.ctr n
  let s := c.val.toNat + k
  let wraps : Bool := 2 ^ 32 ≤ s
  let l := if wraps then l.w1cSet (0xC000 + n) 1 31 else l
  l.setCtr n { val := BitVec.ofNat 32 s, ovf := c.ovf || wraps }

/-- Add to counter `n`, carrying into n + 1 where it is chained (R530). -/
def Live.bumpCtr (l : Live) (n k : Nat) : Live :=
  if l.chained n then
    let s := (l.ctr n).val.toNat + k
    let l := l.setCtr n { l.ctr n with val := BitVec.ofNat 32 s }
    l.addCtr (n + 1) (s / 2 ^ 32)
  else if n % 2 = 1 && n < 64 && l.chained (n - 1) then l
  else l.addCtr n k

/-- An event passes every restricted filter of counter `n` (R531). -/
def Live.ctrPasses (l : Live) (n : Nat) (a : CntAttr) : Bool :=
  let w2 := l.ctrWord n 2
  let w3 := l.ctrWord n 3
  let okCls := fld w2 27 24 = 0xF || (match a.cls with | some c => bit w2 (24 + c) | none => false)
  let okReq := !bit w2 23 || a.req = some (fld w2 22 15)
  let okObj := (fld w3 31 16 = 0 && fld w3 15 0 = 0xFFFF) ||
    (match a.obj with | some o => fld w3 31 16 ≤ o && o ≤ fld w3 15 0 | none => false)
  let okT := fld w2 14 7 = 0xFF || (match a.tclass with | some t => bit w2 (7 + t) | none => false)
  okCls && okReq && okObj && okT

/-- The event of counter `n`'s table occurred `k` times; `alt` when it is the alternate event (R531). -/
def Live.countWith (l : Live) (n k : Nat) (a : CntAttr) : Live :=
  match fld (l.ctrWord n 2) 29 28 with
  | 0 => l.bumpCtr n k
  | 2 => if l.ctrPasses n a then l.bumpCtr n k else l
  | _ => l

/-- An event without attributes. -/
def Live.count (l : Live) (n : Nat) : Live := l.countWith n 1 {}

/-- An event of a counter whose table names an alternate: counted by `ALT` (R531). -/
def Live.countAlt (l : Live) (n k : Nat) (isAlt : Bool) : Live :=
  if bit (l.ctrWord n 2) 31 = isAlt then l.countWith n k {} else l

/-! ## Power state -/

/-- A domain is on. -/
def Live.dom (l : Live) (d : Nat) : Bool := l.pwr.on.getLsbD d

/-- The controller runs rings, tiles and bond work (R547, R549, R556): RUN, LEAN as keeper, or HOLDUP. -/
def Live.working (l : Live) : Bool :=
  l.pwr.st = .run || (l.pwr.st = .lean && !l.pwr.service) || l.pwr.st = .holdup

/-- Management firmware runs. -/
def Live.fwUp (l : Live) : Bool :=
  (l.pwr.st = .boot && l.pwr.stage = 4) || l.pwr.st = .run || l.pwr.st = .lean || l.pwr.st = .holdup

/-- The management cores run: what firmware does goes on (R26); it pauses while debug holds them. -/
def Live.coresUp (l : Live) : Bool := l.fwUp && !l.sec.dbg.coresHalted

/-- Management firmware does its other work too: HOLDUP leaves it fault logging, learned records and messages (R556). -/
def Live.fwWork (l : Live) : Bool := l.coresUp && l.pwr.st ≠ .holdup

/-- Flash may be programmed in the die band in force (Table 10.2). -/
def Live.flashProgram (l : Live) : Bool := l.therm.dband < 5

/-- A flash erase may start in the die band in force (Table 10.2). -/
def Live.flashErase (l : Live) : Bool := l.therm.dband < 4

/-- The waveform of a flash operation that starts now (Table 10.2): 0 cold, 1 normal, 2 hot. -/
def Live.flashWave (l : Live) : Nat := if l.therm.dband = 0 then 0 else if l.therm.dband < 3 then 1 else 2

/-- A flash operation begins with the band's waveform, and keeps it to its end (R365). -/
def Live.flashBegin (l : Live) (op : Nat) : Live := { l with therm := { l.therm with waves := tset l.therm.waves op l.flashWave } }
def Live.flashEnd (l : Live) (op : Nat) : Live := { l with therm := { l.therm with waves := tdrop l.therm.waves op } }

/-- The code of a power state (Table 17.7). -/
def PwrSt.code : PwrSt → Nat
  | .off => 0 | .held => 1 | .boot => 2 | .run => 3 | .lean => 4 | .holdup => 5 | .cold => 6


/-! ## Fault details (R371) -/

/-- A source raises its pair and sends its detail. -/
def Live.raise (l : Live) (code obj : Nat) (aux : Nat := 0) (val : Nat := 0) (course : Half := 0) : Live :=
  { l with fc := { l.fc with details := l.fc.details ++
      [{ code := BitVec.ofNat 16 code, obj := BitVec.ofNat 16 obj, aux := BitVec.ofNat 16 aux,
         val := BitVec.ofNat 32 val, course := course, tick := l.tick }] } }

/-- An occurrence stands: not cleared, and not a consequence whose window has closed (R373, R391). -/
def Occ.stands (o : Occ) : Bool := !o.cleared && o.window < 16

/-- An uncleared occurrence of a code and object stands. -/
def Live.stands (l : Live) (code obj : Nat) : Bool :=
  l.fc.table.any (fun o => o.d.code.toNat = code && o.d.obj.toNat = obj && o.stands)

/-- The occurrences whose routed reaction stands: recorded ones, and those that found no entry free (R374, R390). -/
def Live.reacting (l : Live) : List Occ := (l.fc.table ++ l.fc.lost).filter (fun o => o.stands && !o.conseq)

/-- Block 8 is being reset and its reload is not yet verified: the lanes are stopped (Table 11.8). -/
def Live.engineReset (l : Live) : Bool := (l.block 8).closeAt.isSome && !(l.block 8).back

/-- Raise unless such an occurrence stands or its detail waits. -/
def Live.raiseOnce (l : Live) (code obj : Nat) (aux : Nat := 0) (val : Nat := 0) : Live :=
  if l.stands code obj || l.fc.details.any (fun d => d.code.toNat = code && d.obj.toNat = obj) then l
  else l.raise code obj aux val

/-! ## Event records (R513 to R517) -/

/-- Write an event record: to the event ring, or to the D0 queue while D6 is off (R517). -/
def Live.record (l : Live) (etype : Nat) (pay : List Byte) : Live :=
  let r := l.recd
  let mk (queued : Bool) : EventRec :=
    { etype := BitVec.ofNat 8 etype,
      flags := BitVec.ofNat 8 ((if l.pwr.timeEst then 1 else 0) + (if r.clkSet then 2 else 0) + (if queued then 4 else 0)),
      boot := BitVec.ofNat 16 r.bootcnt.toNat, tick := l.tick, secs := r.clkSec, seq := (r.rseq + 1) % 2 ^ 32,
      pay := (pay ++ List.replicate 16 0).take 16 }
  if l.dom 6 then
    let lost := 1024 ≤ r.ring.length && 1024 ≤ r.unfl
    let r' := { r with ring := (mk false :: r.ring).take 1024, rseq := (r.rseq + 1) % 2 ^ 32,
                       unfl := min (r.unfl + 1) 1024, unflAt := if r.unfl = 0 then l.now else r.unflAt,
                       dropRun := lost }
    let l := ({ l with recd := r' }).count 112
    if lost then
      let l := l.count 114
      if r.dropRun then l else l.raise 0xE004 0xB000
    else l
  else if r.d0q.length < 8 then
    { l with recd := { r with d0q := r.d0q ++ [mk true], rseq := (r.rseq + 1) % 2 ^ 32 } }
  else { l with recd := { r with d0lost := r.d0lost + 1 } }

/-- A POWER_STATE record (Table 16.3, R561). -/
def Live.setPower (l : Live) (st : PwrSt) (cause : Nat) : Live :=
  if l.pwr.st = st then l
  else
    let l := l.record 0x04 [BitVec.ofNat 8 l.pwr.st.code, BitVec.ofNat 8 st.code, BitVec.ofNat 8 cause]
    { l with pwr := { l.pwr with st := st } }

/-! ## Host events (R482) -/

/-- Append a host event; the list keeps the newest 128. -/
def Live.hostEvent (l : Live) (kind code obj aux : Nat) : Live :=
  let e : HostEvent := { seq := l.msgs.evSeq + 1, kind := kind, code := BitVec.ofNat 16 code,
                         obj := BitVec.ofNat 16 obj, aux := BitVec.ofNat 16 aux, tick := l.tick }
  { l with msgs := { l.msgs with evSeq := l.msgs.evSeq + 1, events := (e :: l.msgs.events).take 128 } }

/-! ## A step of the machine -/

/-- One tick of the timebase with no command (log entry 1); a controller that is OFF has no timebase. -/
def Live.idleTick (l : Live) : Live := if l.pwr.st = .off then l else { l with now := l.now + 1 }

/-- The next state, with the controller's part changed. -/
def State.upd (s : State) (f : Live → Live) : Host.Outcome State Fault Refusal :=
  .next { s with live := f s.live }

/-- The command has no effect in this state (R20). -/
def State.same (s : State) : Host.Outcome State Fault Refusal := .next s

end Sys2Proof.Machine
end

