-- ==== Sys2Proof/Machine/Flags.lean ====
section
/-! DEFINITION. The arithmetic of pattern instructions: saturation, rounding, and how each instruction sets the
predicate flag P (R187 to R193). -/
namespace Sys2Proof.Machine

/-- An integer held to a two's complement range of `w` bits. -/
def satW (w : Nat) (v : Int) : Int :=
  if v < -(2 ^ (w - 1) : Int) then -(2 ^ (w - 1) : Int) else if (2 ^ (w - 1) : Int) - 1 < v then (2 ^ (w - 1) : Int) - 1 else v

/-- sat24, sat56 and sat16 of R187, as codes. -/
def sat24 (v : Int) : W24 := BitVec.ofInt 24 (satW 24 v)
def sat56 (v : Int) : Acc := BitVec.ofInt 56 (satW 56 v)
def sat16 (v : Int) : Half := BitVec.ofInt 16 (satW 16 v)

/-- v / 2^n to nearest, ties to even (R187). -/
def roundEven (v : Int) (n : Nat) : Int :=
  let q := v / (2 ^ n : Int)
  let r := v - q * (2 ^ n : Int)
  if (2 ^ n : Int) < 2 * r then q + 1
  else if 2 * r = (2 ^ n : Int) && q % 2 = 1 then q + 1
  else q

/-- prod of R187 with a coefficient (`BK` = 0) and with a register (`BK` = 1). -/
def prodC (a c : W24) : Int := a.toInt * c.toInt * 32
def prodW (a b : W24) : Int := a.toInt * b.toInt * 4

/-- rnd(acc, s) of R187. -/
def rndAcc (acc : Acc) (s : Nat) : W24 := sat24 (roundEven acc.toInt (25 - s))

/-- `RCWR`'s new entry from the old one and the error (R201). -/
def rcUpdate (rcq rcl : Nat) (old : Half) (wa : W24) : Half :=
  sat16 (roundEven ((rcq : Int) * old.toInt * 256 + (rcl : Int) * wa.toInt) 16)

/-- P after an `IN` with a status mode (Table 5.4). -/
def inP (mode : Nat) (st : UpStat) (p : Bool) : Bool :=
  match mode with
  | 1 => st = .valid
  | 2 => st = .valid || st = .predicted
  | 3 => st = .held
  | _ => p

/-- P after a compare (R193): its mode, the old P and the relation. -/
def cmpP (mode : Nat) (p r : Bool) : Bool :=
  match mode with
  | 0 => r
  | 1 => p && r
  | 2 => p || r
  | _ => !r

/-- `CLAMP`'s result and whether it limited (R192). -/
def clampW (a lo hi : Int) : Int × Bool := (min (max a lo) hi, a < lo || hi < a)

end Sys2Proof.Machine
end

