-- ==== Sys2Proof/Machine/Operands.lean ====
section
/-! DEFINITION. The forms that operands take: tile records and bindings (Table 4.1 to Table 4.4), placement
rules (Table 3.7), descriptors (Table 3.3), bricks and headers (Table 2.3 to Table 2.8). -/
namespace Sys2Proof.Machine

/-! ## Tile records (Table 4.1) -/

/-- A word, an octet and a 16-bit field of a record. -/
def rw (r : Tbl Word) (w : Nat) : Word := tget 0 r w
def rb (r : Tbl Word) (b : Nat) : Nat := fld (rw r (b / 4)) (8 * (b % 4) + 7) (8 * (b % 4))
def rh (r : Tbl Word) (b : Nat) : Nat := fld (rw r (b / 4)) (8 * (b % 4) + 15) (8 * (b % 4))

def recKind (r : Tbl Word) : Nat := rb r 0 % 8
def recZone (r : Tbl Word) : Nat := rb r 1 % 8
def recPmain (r : Tbl Word) : Nat := rh r 2
def recPrebase (r : Tbl Word) : Nat := rh r 4
def recPrio (r : Tbl Word) : Nat := rb r 6
def recDecim (r : Tbl Word) : Bool := bit (rw r 1) 24
def recBank (r : Tbl Word) : Bool := bit (rw r 1) 25
def recFresh (r : Tbl Word) : Bool := bit (rw r 1) 26
def recLane (r : Tbl Word) : Nat := rb r 8 % 16
def recRcen (r : Tbl Word) : Bool := bit (rw r 3) 26
def recRcBase (r : Tbl Word) : Nat := fld (rw r 3) 15 0
def recRcLen (r : Tbl Word) : Nat := fld (rw r 3) 25 16 + 1
def recSlot (r : Tbl Word) (i : Nat) : Word := rw r (4 + i)
/-- Coefficient `i` of the active bank. -/
def recCoef (r : Tbl Word) (i : Nat) : W24 := (rw r ((if recBank r then 36 else 20) + i)).setWidth 24
def recIn (r : Tbl Word) (i : Nat) : Nat := rh r (0xD0 + 2 * i)
def recOut (r : Tbl Word) (i : Nat) : Nat := rh r (0xE0 + 2 * i)
def recVunit (r : Tbl Word) : Nat := (rw r 58).toNat
def recIunit (r : Tbl Word) : Nat := (rw r 59).toNat
def recOmax (r : Tbl Word) : W24 := (rw r 60).setWidth 24
def recOmin (r : Tbl Word) : W24 := (rw r 61).setWidth 24
def recRcper (r : Tbl Word) : Nat := rh r 0xF8
def recRcsync (r : Tbl Word) : Nat := rb r 0xFA % 16
def recRclead (r : Tbl Word) : Nat := rb r 0xFB
def recRcq (r : Tbl Word) : Nat := rb r 0xFC
def recRcl (r : Tbl Word) : Nat := rb r 0xFD

/-- The source or destination code of a binding, and the fields of its argument. -/
def bindCode (b : Nat) : Nat := b / 4096
def bindRing (b : Nat) : Nat := b / 512 % 8
def bindSlot (b : Nat) : Nat := b / 16 % 32
def bindField (b : Nat) : Nat := b / 4 % 4
def bindTile (b : Nat) : Nat := b / 16 % 256

/-- A tile's record in the image in force. -/
def Image.record (i : Image) (t : Nat) : Tbl Word :=
  (List.range 64).foldl (fun r w => tput 0 r w (tget 0 i.words (key (oTile t) w))) []
def Live.record_ (l : Live) (t : Nat) : Tbl Word := l.img.cur.record t

/-- The image carries the tile. -/
def Image.hasTile (i : Image) (t : Nat) : Bool := i.given.contains (key (oTile t) 0)
def Live.hasTile (l : Live) (t : Nat) : Bool := l.img.cur.hasTile t

/-- Tiles of the image in force. -/
def Live.tiles (l : Live) : List Nat := (List.range 160).filter l.hasTile

def Live.tKind (l : Live) (t : Nat) : Nat := fld (l.cw (oTile t) 0) 2 0
def Live.tZone (l : Live) (t : Nat) : Nat := fld (l.cw (oTile t) 0) 10 8
def Live.tPrio (l : Live) (t : Nat) : Nat := fld (l.cw (oTile t) 1) 23 16
def Live.tIn (l : Live) (t i : Nat) : Nat := fld (l.cw (oTile t) (52 + i / 2)) (16 * (i % 2) + 15) (16 * (i % 2))
def Live.tOut (l : Live) (t i : Nat) : Nat := fld (l.cw (oTile t) (56 + i / 2)) (16 * (i % 2) + 15) (16 * (i % 2))
def Live.tVunit (l : Live) (t : Nat) : Nat := (l.cw (oTile t) 58).toNat
def Live.tIunit (l : Live) (t : Nat) : Nat := (l.cw (oTile t) 59).toNat

/-- A course tile of the image: any kind but POLICY. -/
def Live.courseTile (l : Live) (t : Nat) : Bool := l.hasTile t && l.tKind t ≠ 4

/-! ## Placement (Table 3.7) -/

/-- Rules with their numbers. -/
def numbered {α : Type} : Nat → List α → List (Nat × α)
  | _, [] => []
  | n, a :: t => (n, a) :: numbered (n + 1) t

/-- The rule that reserves a slot of a ring. -/
def rulesAt (rs : List Rule) (ring slot : Nat) : Option (Nat × Rule) :=
  (numbered 0 rs).find? (fun p => p.2.ring = ring && p.2.slot ≤ slot && slot < p.2.slot + p.2.bricks)
def Live.slotRule (l : Live) (ring slot : Nat) : Option (Nat × Rule) := rulesAt l.img.cur.rules ring slot

/-- The reserved slots of a ring, ascending (R124). -/
def reservedSlots (rs : List Rule) (ring : Nat) : List Nat := (List.range 32).filter (fun s => (rulesAt rs ring s).isSome)
def Live.ringSlots (l : Live) (ring : Nat) : List Nat := reservedSlots l.img.cur.rules ring

/-- The tile that owns a slot. -/
def Live.slotTile (l : Live) (ring slot : Nat) : Option Nat := (l.slotRule ring slot).map (fun p => p.2.tile)

/-- The rules that target a tile. -/
def Live.tileRules (l : Live) (t : Nat) : List Rule := l.img.cur.rules.filter (fun r => r.tile = t)

/-- The rings of a course tile (R146): those of the brick fields it binds, else those of its members' slots. -/
def Live.tileRings (l : Live) (t : Nat) : List Nat :=
  let b := ((List.range 8).map (l.tIn t)).filter (fun b => bindCode b = 1)
  (if b.isEmpty then (l.tileRules t).map (·.ring) else b.map bindRing).dedup

/-- The rings that carry a slot of a tile's members. -/
def Live.memberRings (l : Live) (t : Nat) : List Nat := ((l.tileRules t).map (·.ring)).dedup

/-! ## Stations -/

/-- The records in use, by instance. -/
def Live.stns (l : Live) : List (Nat × Stn) := l.moor.stns

/-- The station bound to a slot: MATCHED, MOORED or ADRIFT with that slot among its own. -/
def Live.slotStn (l : Live) (ring slot : Nat) : Option Nat :=
  (l.stns.find? (fun p => p.2.ring = ring && p.2.rule.isSome && p.2.slot ≤ slot && slot < p.2.slot + p.2.bricks)).map (·.1)

/-- The members of a tile: the stations bound to it, ascending `MEMBER`. -/
def Live.members (l : Live) (t : Nat) : List (Nat × Stn) :=
  (l.stns.filter (fun p => p.2.tile = some t && p.2.rule.isSome)).mergeSort (fun a b => a.2.member ≤ b.2.member)

/-- The station that is member `m` of a tile. -/
def Live.memberStn (l : Live) (t m : Nat) : Option (Nat × Stn) := (l.members t).find? (fun p => p.2.member = m)

/-- The record at a hop of a ring. -/
def Live.hopStn (l : Live) (ring hop : Nat) : Option Nat :=
  (l.stns.find? (fun p => p.2.ring = ring && p.2.hop = hop)).map (·.1)

/-- Descriptor octets of a station, and fields of Table 3.3. -/
def Stn.octets (s : Stn) : List Byte := s.desc.flatMap (fun w => leBytes w.toNat 4)
def Stn.num (s : Stn) (o n : Nat) : Nat := leNat (sliceB s.octets o n)
def Stn.uid (s : Stn) : BitVec 64 := BitVec.ofNat 64 (s.num 0 8)
def Stn.vendor (s : Stn) : Nat := s.num 8 2
def Stn.typeb (s : Stn) : Nat := s.num 10 1
def Stn.dtype (s : Stn) : Nat := s.typeb % 16
def Stn.dbricks (s : Stn) : Nat := s.typeb / 16 % 4 + 1
def Stn.fwver (s : Stn) : Nat := s.num 12 2
def Stn.vfs (s : Stn) : Nat := s.num 14 2
def Stn.ifs (s : Stn) : Nat := s.num 16 2
def Stn.vrate (s : Stn) : Nat := s.num 18 2
def Stn.irate (s : Stn) : Nat := s.num 20 2
def Stn.prate (s : Stn) : Nat := s.num 22 2
def Stn.tder (s : Stn) : Int := (s.num 46 1 : Int) - 64
def Stn.tmax (s : Stn) : Int := (s.num 47 1 : Int) - 64
/-- Source code of an `AUXSEL` value (Table 3.4): 0b00 is the hot-spot NTC. -/
def Stn.auxSource (s : Stn) (sel : Nat) : Nat :=
  match sel with
  | 1 => s.num 48 1 % 16
  | 2 => s.num 48 1 / 16
  | 3 => s.num 49 1 % 16
  | _ => 0
/-- The descriptor has been read. -/
def Stn.known (s : Stn) : Bool := s.desc.length = 16 && s.st ≠ .sighted && s.st ≠ .unseen

/-! ## Bricks (Table 2.5 to Table 2.8) -/

/-- A 64-bit brick and a 48-bit brick from the bits above `BCRC`. -/
def seal64 (v : Nat) : BitVec 64 := BitVec.ofNat 64 (v % 2 ^ 56 * 256 + crc8 (v % 2 ^ 56) 56)
def seal48 (v : Nat) : BitVec 48 := BitVec.ofNat 48 (v % 2 ^ 40 * 256 + crc8 (v % 2 ^ 40) 40)

/-- `BCRC` passes. -/
def ok64 (b : BitVec 64) : Bool := crc8 (b.toNat / 256) 56 = b.toNat % 256
def ok48 (b : BitVec 48) : Bool := crc8 (b.toNat / 256) 40 = b.toNat % 256

/-- Bits [hi:lo] of a number. -/
def nbits (v hi lo : Nat) : Nat := v / 2 ^ lo % 2 ^ (hi - lo + 1)

/-- The values of an up-brick. -/
def upVals (b : BitVec 64) : UpVals :=
  { vmeas := BitVec.ofNat 14 (nbits b.toNat 51 38), imeas := BitVec.ofNat 14 (nbits b.toNat 37 24),
    aux := BitVec.ofNat 12 (nbits b.toNat 23 12), flags := BitVec.ofNat 4 (nbits b.toNat 11 8) }

/-- A SAMPLE of a slot in a course: its type, slot, sequence and `BCRC` (R66, R87). -/
def upBrickOk (b : BitVec 64) (slot : Nat) (num : Half) : Bool :=
  ok64 b && nbits b.toNat 63 60 = 1 && nbits b.toNat 59 55 = slot && nbits b.toNat 54 52 = num.toNat % 8

/-- Flags of an up-brick. -/
def UpVals.dmissF (v : UpVals) : Bool := v.flags.getLsbD 3
def UpVals.buoyF (v : UpVals) : Bool := v.flags.getLsbD 2
def UpVals.limitF (v : UpVals) : Bool := v.flags.getLsbD 1
def UpVals.alarmF (v : UpVals) : Bool := v.flags.getLsbD 0

/-- The `CMD` octet of a down-brick (R68). -/
def Down.cmd (d : Down) : Nat :=
  (if d.en then 128 else 0) + (if d.buoy then 64 else 0) + d.auxsel.toNat * 16 + (if d.park then 8 else 0) + d.spec.toNat

/-- A DUTY or HOLD brick (Table 2.7). -/
def Down.brick (d : Down) (slot : Nat) (num : Half) : BitVec 48 :=
  seal48 ((if d.hold then 3 else 2) * 2 ^ 36 + slot % 32 * 2 ^ 31 + num.toNat % 8 * 2 ^ 28 + d.duty.toNat * 2 ^ 14 +
    d.phase.toNat * 2 ^ 8 + d.cmd)

/-- CALL and CHECK (Table 2.8). -/
def callBrickOf (reqmap : BitVec 32) : BitVec 48 := seal48 (6 * 2 ^ 36 + reqmap.toNat)
def checkBrickOf : BitVec 48 := seal48 (7 * 2 ^ 36)
/-- RETRY and IDLE (Table 2.8). -/
def retryBrickOf (slot : Nat) : BitVec 64 := seal64 (5 * 2 ^ 52 + slot % 32 * 2 ^ 47)
def idleBrickOf (slot : Nat) : BitVec 64 := seal64 (15 * 2 ^ 52 + slot % 32 * 2 ^ 47)
/-- MGMT (Table 2.8). -/
def mgmtBrickOf (slot : Nat) (hop : Bool) (mseq mop mdata mtag : Nat) : BitVec 64 :=
  seal64 (8 * 2 ^ 52 + slot % 32 * 2 ^ 47 + (if hop then 2 ^ 46 else 0) + mseq % 4 * 2 ^ 44 + mop % 16 * 2 ^ 40 +
    mdata % 2 ^ 32 * 2 ^ 8 + mtag % 256)

/-- The course header (Table 2.3). -/
def headerOf (num epoch left flags : Nat) : BitVec 64 :=
  let v := num % 65536 * 2 ^ 32 + epoch % 65536 * 2 ^ 16 + left % 256 * 2 ^ 8 + flags % 256
  BitVec.ofNat 64 (v * 65536 + crc16 v 48)

/-- The header's CRC passes. -/
def headerOk (h : BitVec 64) : Bool := crc16 (h.toNat / 65536) 48 = h.toNat % 65536

/-! ## Course rates and layout (Table 2.2, R74 to R77) -/

/-- Ticks per course of a `RATE` code. -/
def rateTicks : Nat → Nat
  | 0 => 200 | 1 => 250 | 2 => 400 | 3 => 500 | 4 => 800 | 5 => 1000 | 6 => 1250 | 7 => 1600 | 8 => 2000 | _ => 0

/-- Courses per bond of a `RATE` code. -/
def rateCourses (r : Nat) : Nat := if rateTicks r = 0 then 0 else bondTicks / rateTicks r

/-- G_b in ns and r_b (Table 2.11). -/
def bandGap : Nat → Nat
  | 0 => 280 | 1 => 300 | 2 => 340 | 3 => 400 | _ => 480
def bandRetry : Nat → Nat
  | 0 => 1 | 1 => 1 | 2 => 2 | 3 => 2 | _ => 0

/-- D_plan in ns from N and D_meas in units of 0.4 ns (R74). -/
def dPlan (n dmeas : Nat) : Nat := 4 * cdiv (max (10 * (4 * n + 12)) (4 * dmeas + 40)) 40

/-- T_need in ns (R76). -/
def tNeed (n lconv r dplan gap : Nat) : Nat := 164 + 4 * lconv + 72 * n + 56 * r + 4 * (dplan - (4 * n + 12)) + gap

/-- The largest r from 0 to 3 that gives a valid layout (R77), none where there is none. -/
def layoutR (n lconv dmeas band ticks : Nat) : Option Nat :=
  [3, 2, 1, 0].find? (fun r => tNeed n lconv r (dPlan n dmeas) (bandGap band) ≤ 5 * ticks)

/-- `RATE`, `DSLOTS` and `LCONV` of a ring (Table 2.22). -/
def Live.rate (l : Live) (n : Nat) : Nat := if l.given (oRing n) 1 then l.cf (oRing n) 1 31 28 else 0xF
def Live.dslots (l : Live) (n : Nat) : Nat := l.cf (oRing n) 1 27 24
def Live.lconv (l : Live) (n : Nat) : Nat := l.cf (oRing n) 1 23 16
/-- Course period of a ring in ticks, and its courses per bond. -/
def Live.period (l : Live) (n : Nat) : Nat := rateTicks (l.rate n)
def Live.perBond (l : Live) (n : Nat) : Nat := rateCourses (l.rate n)

/-- The course sequence of a tile: the first of its rings. -/
def Live.tileRing (l : Live) (t : Nat) : Option Nat := (l.tileRings t).head?

end Sys2Proof.Machine
end

