-- ==== Sys2Proof/Machine/Pattern.lean ====
section
/-! DEFINITION. The instructions that patterns are written in (chapter "Pattern instruction set"). -/
namespace Sys2Proof.Machine

/-! ## Encodings (Table 5.3, R207) -/

/-- The fields an opcode uses: `DST`, `SRCA`, `SRCB`, and the bits of `IMM`; none for a reserved opcode. -/
def patUses : Nat → Option (Bool × Bool × Bool × Nat)
  | 0x00 | 0x01 | 0x07 => some (false, false, false, 0)
  | 0x04 | 0x05 | 0x06 => some (false, true, true, 1)
  | 0x08 => some (true, false, false, 7)
  | 0x0C | 0x0D | 0x26 => some (true, true, true, 0)
  | 0x0E | 0x0F | 0x14 => some (true, true, false, 0)
  | 0x10 | 0x11 => some (true, true, false, 0x1F)
  | 0x15 => some (true, true, false, 0x1FFF)
  | 0x16 => some (true, false, false, 0x1F)
  | 0x17 => some (false, true, false, 0x1F)
  | 0x18 => some (true, false, false, 0xF)
  | 0x1C => some (true, false, false, 0x3F)
  | 0x1D => some (false, true, false, 3)
  | 0x1E => some (false, true, false, 7)
  | 0x20 => some (true, true, true, 7)
  | 0x21 | 0x22 => some (true, true, true, 4)
  | 0x24 | 0x25 => some (false, true, true, 0xF)
  | 0x28 => some (false, true, false, 0xFF)
  | 0x2C => some (true, false, false, 0)
  | 0x2D => some (false, true, false, 0)
  | 0x30 => some (false, true, false, 7)
  | _ => none

/-- The encoding is reserved (R207).  Compare form 2 takes zero `SRCA` and `SRCB` (R193). -/
def patReserved (op : Nat) (f : PatFields) : Bool :=
  match patUses op with
  | none => true
  | some (d, a, b, m) =>
    (!d && f.dst ≠ 0) || (!a && f.srca ≠ 0) || (!b && f.srcb ≠ 0) || (f.imm &&& BitVec.ofNat 13 m) ≠ f.imm ||
    (op ≤ 1 && f.pred) ||
    (op = 0x1C && 12 ≤ f.imm.toNat % 16) ||
    (op = 0x20 && (f.imm.toNat % 4 = 3 || (f.imm.toNat % 4 = 0 && f.srcb = 15))) ||
    ((op = 0x24 || op = 0x25) && (f.imm.toNat / 4 % 4 = 3 ||
      (f.imm.toNat / 4 % 4 = 2 && (f.srca ≠ 0 || f.srcb ≠ 0)))) ||
    ((op = 0x10 || op = 0x11) && 23 < f.imm.toNat % 32) ||
    (op = 0x15 && 11 < f.srca.toNat)

/-- The instruction word of Table 5.2. -/
def patWord (op : Nat) (f : PatFields) : Word :=
  put op 26 6 ||| put f.dst.toNat 22 4 ||| put f.srca.toNat 18 4 ||| put f.srcb.toNat 14 4 ||| flag f.pred 13 ||| put f.imm.toNat 0 13

/-! ## Registers of a lane -/

def Eval.wreg (e : Eval) (n : BitVec 4) : W24 := tget 0 e.w n.toNat
def Eval.setW (e : Eval) (n : BitVec 4) (v : W24) : Eval := { e with w := tput 0 e.w n.toNat v }

/-- Mark a buffered write. -/
def mark (k : Nat) (l : List Nat) : List Nat := if l.contains k then l else k :: l

/-- A state slot's word as `LDS` sees it (R182). -/
def Eval.slotWord (e : Eval) (n : Nat) : Word := if e.slotSet.contains n then tget 0 e.slots n else tget 0 e.slots0 n

/-- Coefficient of the bank in force (R203). -/
def Eval.coef (e : Eval) (n : BitVec 4) : W24 := recCoef e.record n.toNat

/-- The product term of `MAC`, `MSU` and `MUL` (R187). -/
def Eval.prod (e : Eval) (f : PatFields) : Int :=
  if f.imm.getLsbD 0 then prodW (e.wreg f.srca) (e.wreg f.srcb) else prodC (e.wreg f.srca) (e.coef f.srcb)

/-! ## The common part of every instruction -/

/-- The engine is being reset, or debug access holds the lane and has allowed no step (Table 11.8, R571). -/
def Live.laneHeld (l : Live) (lane : Nat) : Bool := l.engineReset || l.sec.dbg.halted.contains lane && !l.sec.dbg.stepped.contains lane

/-- Use the step that debug access allowed. -/
def Live.useStep (l : Live) (lane : Nat) : Live :=
  l.modSec fun s => { s with dbg := { s.dbg with stepped := s.dbg.stepped.filter (· ≠ lane) } }

/-- The evaluation moves on by one instruction. -/
def Eval.advance (e : Eval) : Eval := { e with pc := e.pc + 1 }

/-- An instruction sample's trail (R534). -/
def Eval.note (e : Eval) (op : Nat) (pfalse : Bool) : Eval :=
  if e.sampled then { e with trail := e.trail ++ [(e.pc, op, e.inRebase, pfalse)] } else e

/-- The library word that the evaluation is at (R181). -/
def Eval.word (e : Eval) : Word := tget 0 e.lib e.pc

/-- A reserved encoding executes: `LOOP_BAD_OP` and nothing else (R207). -/
def Live.patBad (l : Live) (lane : Nat) (e : Eval) : Live :=
  (l.modLane lane fun k => { k with ev := some { e with bad := true }.advance }).raise 0x3006 (oTile e.tile) lane

/-- One instruction on a lane: nothing on a lane with no evaluation under way, and nothing where the library word that the
evaluation is at is another one (R181); `LOOP_BAD_OP` for a reserved
encoding (R207); no effect under a false predicate (R185); otherwise the effect of the opcode. -/
def Live.patStep (l : Live) (lane op : Nat) (f : PatFields) (body : Live → Eval → Live × Eval) : Live :=
  match (l.lane lane).ev with
  | none => l
  | some e =>
    if e.ended || l.laneHeld lane || e.word ≠ patWord op f then l
    else
      let l := l.useStep lane
      let skip := f.pred && !e.p
      let e := e.note op skip
      if patReserved op f then l.patBad lane e
      else if skip then l.modLane lane fun k => { k with ev := some e.advance }
      else
        let r := body l e
        r.1.modLane lane fun k => { k with ev := some r.2 }

/-- An instruction whose effect lies in the evaluation alone. -/
def Live.patLocal (l : Live) (lane op : Nat) (f : PatFields) (body : Eval → Eval) : Live :=
  l.patStep lane op f fun l e => (l, (body e).advance)

/-! ## Instructions -/

/-- NOP. -/
def execOpNop (lane : Fin 8) (f : PatFields) (s : State) : Host.Outcome State Fault Refusal :=
  s.upd fun l => l.patLocal lane 0x00 f id

/-- The end of an entry point (R181): REBASE is followed by MAIN with registers zero again; MAIN ends the evaluation. -/
def Eval.endEntry (e : Eval) : Eval :=
  if e.inRebase then { e with inRebase := false, ranRebase := true, w := [], acc := 0, p := false, pc := recPmain e.record }
  else { e with ended := true }

/-- END (R181). -/
def execOpEnd (lane : Fin 8) (f : PatFields) (s : State) : Host.Outcome State Fault Refusal :=
  s.upd fun l => l.patStep lane 0x01 f fun l e => (if e.inRebase then l.count 5 else l, e.endEntry)

/-- MAC. -/
def execOpMac (lane : Fin 8) (f : PatFields) (s : State) : Host.Outcome State Fault Refusal :=
  s.upd fun l => l.patLocal lane 0x04 f fun e => { e with acc := sat56 (e.acc.toInt + e.prod f) }

/-- MSU. -/
def execOpMsu (lane : Fin 8) (f : PatFields) (s : State) : Host.Outcome State Fault Refusal :=
  s.upd fun l => l.patLocal lane 0x05 f fun e => { e with acc := sat56 (e.acc.toInt - e.prod f) }

/-- MUL. -/
def execOpMul (lane : Fin 8) (f : PatFields) (s : State) : Host.Outcome State Fault Refusal :=
  s.upd fun l => l.patLocal lane 0x06 f fun e => { e with acc := sat56 (e.prod f) }

/-- CLRA. -/
def execOpClra (lane : Fin 8) (f : PatFields) (s : State) : Host.Outcome State Fault Refusal :=
  s.upd fun l => l.patLocal lane 0x07 f fun e => { e with acc := 0 }

/-- RND. -/
def execOpRnd (lane : Fin 8) (f : PatFields) (s : State) : Host.Outcome State Fault Refusal :=
  s.upd fun l => l.patLocal lane 0x08 f fun e => e.setW f.dst (rndAcc e.acc (f.imm.toNat % 8))

/-- ADD. -/
def execOpAdd (lane : Fin 8) (f : PatFields) (s : State) : Host.Outcome State Fault Refusal :=
  s.upd fun l => l.patLocal lane 0x0C f fun e => e.setW f.dst (sat24 ((e.wreg f.srca).toInt + (e.wreg f.srcb).toInt))

/-- SUB. -/
def execOpSub (lane : Fin 8) (f : PatFields) (s : State) : Host.Outcome State Fault Refusal :=
  s.upd fun l => l.patLocal lane 0x0D f fun e => e.setW f.dst (sat24 ((e.wreg f.srca).toInt - (e.wreg f.srcb).toInt))

/-- NEG. -/
def execOpNeg (lane : Fin 8) (f : PatFields) (s : State) : Host.Outcome State Fault Refusal :=
  s.upd fun l => l.patLocal lane 0x0E f fun e => e.setW f.dst (sat24 (-(e.wreg f.srca).toInt))

/-- ABS. -/
def execOpAbs (lane : Fin 8) (f : PatFields) (s : State) : Host.Outcome State Fault Refusal :=
  s.upd fun l => l.patLocal lane 0x0F f fun e => e.setW f.dst (sat24 ((e.wreg f.srca).toInt.natAbs : Int))

/-- SHL. -/
def execOpShl (lane : Fin 8) (f : PatFields) (s : State) : Host.Outcome State Fault Refusal :=
  s.upd fun l => l.patLocal lane 0x10 f fun e => e.setW f.dst (sat24 ((e.wreg f.srca).toInt * 2 ^ (f.imm.toNat % 32)))

/-- SHR: toward minus infinity (R187). -/
def execOpShr (lane : Fin 8) (f : PatFields) (s : State) : Host.Outcome State Fault Refusal :=
  s.upd fun l => l.patLocal lane 0x11 f fun e =>
    e.setW f.dst (BitVec.ofInt 24 ((e.wreg f.srca).toInt / 2 ^ (f.imm.toNat % 32)))

/-- MOV. -/
def execOpMov (lane : Fin 8) (f : PatFields) (s : State) : Host.Outcome State Fault Refusal :=
  s.upd fun l => l.patLocal lane 0x14 f fun e => e.setW f.dst (e.wreg f.srca)

/-- LDI (R188). -/
def execOpLdi (lane : Fin 8) (f : PatFields) (s : State) : Host.Outcome State Fault Refusal :=
  s.upd fun l => l.patLocal lane 0x15 f fun e => e.setW f.dst (BitVec.ofInt 24 (f.imm.toInt * 2 ^ f.srca.toNat))

/-- LDS (R182). -/
def execOpLds (lane : Fin 8) (f : PatFields) (s : State) : Host.Outcome State Fault Refusal :=
  s.upd fun l => l.patLocal lane 0x16 f fun e =>
    let v := e.slotWord (f.imm.toNat % 16)
    let e := e.setW f.dst (v.setWidth 24)
    if f.imm.getLsbD 4 then { e with p := bit v 24 } else e

/-- A buffered write of a state slot: `INTEG` keeps its value (R204). -/
def Eval.storeSlot (e : Eval) (n : Nat) (v : W24) (sat : Bool) : Eval :=
  let w := (e.slotWord n &&& 0x02000000) ||| flag sat 24 ||| v.setWidth 32
  { e with slots := tput 0 e.slots n w, slotSet := mark n e.slotSet }

/-- STS. -/
def execOpSts (lane : Fin 8) (f : PatFields) (s : State) : Host.Outcome State Fault Refusal :=
  s.upd fun l => l.patLocal lane 0x17 f fun e =>
    e.storeSlot (f.imm.toNat % 16) (e.wreg f.srca) (f.imm.getLsbD 4 && e.p)

/-- LDC. -/
def execOpLdc (lane : Fin 8) (f : PatFields) (s : State) : Host.Outcome State Fault Refusal :=
  s.upd fun l => l.patLocal lane 0x18 f fun e =>
    e.setW f.dst (sat24 ((e.coef (f.imm.setWidth 4)).toInt * 8))

/-- What `IN` loads and the status it passes (R190, R191). -/
def Eval.inSel (e : Eval) (sel : Nat) : W24 × UpStat :=
  if sel < 8 then (tget 0 e.ins sel, e.sts.getD sel .valid) else (tget 0 e.conts (sel - 8), .valid)

/-- IN (R190, Table 5.4). -/
def execOpIn (lane : Fin 8) (f : PatFields) (s : State) : Host.Outcome State Fault Refusal :=
  s.upd fun l => l.patLocal lane 0x1C f fun e =>
    let v := e.inSel (f.imm.toNat % 16)
    { e.setW f.dst v.1 with p := inP (f.imm.toNat / 16 % 4) v.2 e.p }

/-- OUT (R194). -/
def execOpOut (lane : Fin 8) (f : PatFields) (s : State) : Host.Outcome State Fault Refusal :=
  s.upd fun l => l.patLocal lane 0x1D f fun e =>
    let n := f.imm.toNat % 4
    { e with outs := tput 0 e.outs n (e.wreg f.srca), outSet := mark n e.outSet }

/-- PUB (R194). -/
def execOpPub (lane : Fin 8) (f : PatFields) (s : State) : Host.Outcome State Fault Refusal :=
  s.upd fun l => l.patLocal lane 0x1E f fun e =>
    let n := f.imm.toNat % 8
    { e with pubs := tput 0 e.pubs n (e.wreg f.srca), pubSet := mark n e.pubSet }

/-- The bounds of `CLAMP` by form (R192). -/
def Eval.clampBounds (e : Eval) (f : PatFields) : Int × Int :=
  match f.imm.toNat % 4 with
  | 0 => ((e.wreg f.srcb).toInt, (e.wreg (f.srcb + 1)).toInt)
  | 1 => ((recOmin e.record).toInt, (recOmax e.record).toInt)
  | _ => let m := satW 24 ((e.wreg f.srcb).toInt.natAbs : Int); (-m, m)

/-- CLAMP (R192). -/
def execOpClamp (lane : Fin 8) (f : PatFields) (s : State) : Host.Outcome State Fault Refusal :=
  s.upd fun l => l.patLocal lane 0x20 f fun e =>
    let b := e.clampBounds f
    let r := clampW (e.wreg f.srca).toInt b.1 b.2
    let e := e.setW f.dst (BitVec.ofInt 24 r.1)
    if f.imm.getLsbD 2 then { e with p := r.2 } else e

/-- MIN (R189). -/
def execOpMin (lane : Fin 8) (f : PatFields) (s : State) : Host.Outcome State Fault Refusal :=
  s.upd fun l => l.patLocal lane 0x21 f fun e =>
    let a := e.wreg f.srca
    let b := e.wreg f.srcb
    let e := e.setW f.dst (if b.slt a then b else a)
    if f.imm.getLsbD 2 then { e with p := b.slt a } else e

/-- MAX (R189). -/
def execOpMax (lane : Fin 8) (f : PatFields) (s : State) : Host.Outcome State Fault Refusal :=
  s.upd fun l => l.patLocal lane 0x22 f fun e =>
    let a := e.wreg f.srca
    let b := e.wreg f.srcb
    let e := e.setW f.dst (if a.slt b then b else a)
    if f.imm.getLsbD 2 then { e with p := a.slt b } else e

/-- The two operands of a compare by form (R193). -/
def Eval.cmpOps (e : Eval) (f : PatFields) : Int × Int :=
  match f.imm.toNat / 4 % 4 with
  | 0 => ((e.wreg f.srca).toInt, (e.wreg f.srcb).toInt)
  | 1 => ((e.wreg f.srca).toInt, 0)
  | _ => (e.acc.toInt, 0)

/-- CMPLT (R193). -/
def execOpCmplt (lane : Fin 8) (f : PatFields) (s : State) : Host.Outcome State Fault Refusal :=
  s.upd fun l => l.patLocal lane 0x24 f fun e =>
    let o := e.cmpOps f
    { e with p := cmpP (f.imm.toNat % 4) e.p (o.1 < o.2) }

/-- CMPGT (R193). -/
def execOpCmpgt (lane : Fin 8) (f : PatFields) (s : State) : Host.Outcome State Fault Refusal :=
  s.upd fun l => l.patLocal lane 0x25 f fun e =>
    let o := e.cmpOps f
    { e with p := cmpP (f.imm.toNat % 4) e.p (o.2 < o.1) }

/-- SEL. -/
def execOpSel (lane : Fin 8) (f : PatFields) (s : State) : Host.Outcome State Fault Refusal :=
  s.upd fun l => l.patLocal lane 0x26 f fun e => e.setW f.dst (if e.p then e.wreg f.srca else e.wreg f.srcb)

/-- `TRIP` (R195): one fault for each code of an evaluation, carrying the lane, the course and the value. -/
def Live.tripOnce (l : Live) (lane : Nat) (e : Eval) (n : BitVec 8) (v : W24) : Live × Eval :=
  let l := l.count 7
  if e.trips.contains n then (l, e)
  else (l.raise (0x3100 + n.toNat) (oTile e.tile) lane (v.signExtend 32).toNat e.num, { e with trips := n :: e.trips })

/-- TRIP (R195). -/
def execOpTrip (lane : Fin 8) (f : PatFields) (s : State) : Host.Outcome State Fault Refusal :=
  s.upd fun l => l.patStep lane 0x28 f fun l e =>
    let r := l.tripOnce lane e (f.imm.setWidth 8) (e.wreg f.srca)
    (r.1, r.2.advance)

/-- The tile's table may be used: it has one, it is locked, and it is not cleared in this course (R197 to R199). -/
def Live.rcUsable (l : Live) (e : Eval) : Bool :=
  let t := l.tile e.tile
  recRcen e.record && recKind e.record ≠ 4 && t.rcLocked && !t.rcCleared && t.rcM ≠ 0

/-- Entry `j` of a tile's table. -/
def Live.rcEntry (l : Live) (e : Eval) (j : Nat) : Half := tget 0 l.loop.rcPool (recRcBase e.record + j)

/-- RCRD (R200): zero while the table is unlocked or is being cleared. -/
def execOpRcrd (lane : Fin 8) (f : PatFields) (s : State) : Host.Outcome State Fault Refusal :=
  s.upd fun l => l.patStep lane 0x2C f fun l e =>
    let t := l.tile e.tile
    let v : W24 := if l.rcUsable e then
      BitVec.ofInt 24 ((l.rcEntry e ((t.rcK + recRclead e.record) % t.rcM)).toInt * 256) else 0
    (l, (e.setW f.dst v).advance)

/-- RCWR (R201): buffered; no effect while learning is frozen (R202). -/
def execOpRcwr (lane : Fin 8) (f : PatFields) (s : State) : Host.Outcome State Fault Refusal :=
  s.upd fun l => l.patStep lane 0x2D f fun l e =>
    if l.rcUsable e && !e.frozen && !e.ranRebase && !e.inRebase then
      let old := e.rc.getD (l.rcEntry e (l.tile e.tile).rcK)
      (l, { e with rc := some (rcUpdate (recRcq e.record) (recRcl e.record) old (e.wreg f.srca)) }.advance)
    else (l, e.advance)

/-- TAP (R196). -/
def execOpTap (lane : Fin 8) (f : PatFields) (s : State) : Host.Outcome State Fault Refusal :=
  s.upd fun l => l.patLocal lane 0x30 f fun e =>
    let n := f.imm.toNat % 8
    { e with taps := tput 0 e.taps n (e.wreg f.srca), tapSet := mark n e.tapSet }

/-- LOOP_BAD_OP (R207): a library word with a reserved encoding executes.  A word that has an encoding of its
own is not this row's, and has no effect here. -/
def execLoopBadOp (lane : Fin 8) (word : Word) (s : State) : Host.Outcome State Fault Refusal :=
  s.upd fun l =>
    let f : PatFields := { dst := BitVec.ofNat 4 (fld word 25 22), srca := BitVec.ofNat 4 (fld word 21 18),
                           srcb := BitVec.ofNat 4 (fld word 17 14), pred := bit word 13, imm := BitVec.ofNat 13 (fld word 12 0) }
    if patReserved (fld word 31 26) f then l.patStep lane (fld word 31 26) f fun l e => (l, e) else l

end Sys2Proof.Machine
end

