-- ==== Sys2Proof/Machine/Code.lean ====
section
/-! DEFINITION. The line code of the rings (R51 to R54): code groups, their serial bits, and what counts as a code error.
The tables of IEEE 802.3 clause 36 are PRESUMED: the manual names that standard and does not repeat them (log entry 76). -/
namespace Sys2Proof.Machine

/-- One code group of clause 36: a data group `Dx.y`, by its octet, or a special group `Kx.y`. -/
inductive CodeGroup where
  | data (b : Byte)
  | special (x : BitVec 5) (y : BitVec 3)
  deriving DecidableEq, Repr

/-- The groups of Table 2.1, and `D16.2` of the training pattern. -/
def CodeGroup.comma : CodeGroup := .special 28 5
def CodeGroup.fill : CodeGroup := .special 28 0
def CodeGroup.error : CodeGroup := .special 30 7
def CodeGroup.trainData : CodeGroup := .data 0x50

/-- A special group that the ring uses (Table 2.1). -/
def ringSpecial (x : BitVec 5) (y : BitVec 3) : Bool := (x = 28 && (y = 5 || y = 0)) || (x = 30 && y = 7)

/-- A code error (R53, R54): an invalid group, a running-disparity error, `K30.7`, which stands for an invalid group, or
a special group that the ring does not use.  A comma or fill where a brick should be makes the brick fail without one. -/
def GroupErr.isCodeErr : GroupErr → Bool
  | .special x y => !ringSpecial x y || (x = 30 && y = 7)
  | _ => true

/-- How many of the groups are code errors. -/
def codeErrCount (es : List GroupErr) : Nat := (es.filter GroupErr.isCodeErr).length

/-- Six bits `abcdei` of `x` and four bits `fghj` of `y` at negative running disparity, `a` and `f` first. -/
def sixBits : Nat → Nat
  | 0 => 0b100111 | 1 => 0b011101 | 2 => 0b101101 | 3 => 0b110001 | 4 => 0b110101 | 5 => 0b101001 | 6 => 0b011001 | 7 => 0b111000
  | 8 => 0b111001 | 9 => 0b100101 | 10 => 0b010101 | 11 => 0b110100 | 12 => 0b001101 | 13 => 0b101100 | 14 => 0b011100 | 15 => 0b010111
  | 16 => 0b011011 | 17 => 0b100011 | 18 => 0b010011 | 19 => 0b110010 | 20 => 0b001011 | 21 => 0b101010 | 22 => 0b011010 | 23 => 0b111010
  | 24 => 0b110011 | 25 => 0b100110 | 26 => 0b010110 | 27 => 0b110110 | 28 => 0b001110 | 29 => 0b101110 | 30 => 0b011110 | _ => 0b101011
def fourBits : Nat → Nat
  | 0 => 0b1011 | 1 => 0b1001 | 2 => 0b0101 | 3 => 0b1100 | 4 => 0b1101 | 5 => 0b1010 | 6 => 0b0110 | _ => 0b1110
def fourBitsK : Nat → Nat
  | 0 => 0b1011 | 1 => 0b0110 | 2 => 0b1010 | 3 => 0b1100 | 4 => 0b1101 | 5 => 0b0101 | 6 => 0b1001 | _ => 0b0111

/-- The number of ones in the low `n` bits. -/
def onesIn (v n : Nat) : Nat := (bitsMsb v n).countP id

/-- A sub-block at a running disparity (`true` is positive): complemented there when it is unbalanced or `flip` says so; and
the running disparity behind it. -/
def subBlock (n v : Nat) (flip rd : Bool) : Nat × Bool :=
  let even : Bool := 2 * onesIn v n = n
  (if rd && (!even || flip) then 2 ^ n - 1 - v else v, if even then rd else !rd)

/-- The ten bits of a group, `a` first and `j` last, and the running disparity behind it. -/
def CodeGroup.bits (rd : Bool) : CodeGroup → BitVec 10 × Bool
  | .data b =>
    let x := b.toNat % 32
    let y := b.toNat / 32
    let six := subBlock 6 (sixBits x) (x = 7) rd
    let alt : Bool := y = 7 && (if six.2 then x = 11 || x = 13 || x = 14 else x = 17 || x = 18 || x = 20)
    let four := subBlock 4 (if alt then 0b0111 else fourBits y) (y = 3) six.2
    (BitVec.ofNat 10 (six.1 * 16 + four.1), four.2)
  | .special x y =>
    let six := subBlock 6 (if x = 28 then 0b001111 else sixBits x.toNat) false rd
    let four := subBlock 4 (fourBitsK y.toNat) true six.2
    (BitVec.ofNat 10 (six.1 * 16 + four.1), four.2)

/-- The special groups that clause 36 has. -/
def specials : List CodeGroup :=
  ((List.range 8).map fun y => .special 28 (BitVec.ofNat 3 y)) ++ [.special 23 7, .special 27 7, .special 29 7, .special 30 7]

/-- What ten received bits are at a running disparity: a group, or what is wrong with them. -/
def readGroup (rd : Bool) (v : BitVec 10) : CodeGroup ⊕ GroupErr :=
  let all : List CodeGroup := ((List.range 256).map fun b => .data (BitVec.ofNat 8 b)) ++ specials
  match all.find? (fun g => (g.bits rd).1 = v) with
  | some (.special x y) => if ringSpecial x y then .inl (.special x y) else .inr (.special x y)
  | some g => .inl g
  | none => .inr (if all.any (fun g => (g.bits (!rd)).1 = v) then .disparity else .invalid)

/-- The octets of an item of `n` bits, most significant first: bit 63 of an up-brick is bit 7 of its first octet (R52). -/
def octetsMsb (n : Nat) (v : BitVec 64) : List Byte :=
  (List.range (n / 8)).map fun i => BitVec.ofNat 8 (v.toNat >>> (n - 8 - 8 * i))

/-- The groups of an item on the line. -/
def LineItem.groups (i : LineItem) : List CodeGroup := (octetsMsb i.bits i.data).map .data

/-- The groups of a course of `n` group times from its comma: fill wherever no item stands (Table 2.1). -/
def courseGroups : Nat → Nat → List LineItem → List CodeGroup
  | at_, n, [] => List.replicate (n - at_) .fill
  | at_, n, i :: t => List.replicate (i.at_ / 4 - at_) .fill ++ i.groups ++ courseGroups (max at_ (i.at_ / 4) + i.bits / 8) n t

/-- Groups in serial order, with the running disparity they start at. -/
def serialBits : Bool → List CodeGroup → List Bool
  | _, [] => []
  | rd, g :: t => bitsMsb (g.bits rd).1.toNat 10 ++ serialBits (g.bits rd).2 t

/-- A ring's counter k (Table 2.20). -/
def Live.ringCount (l : Live) (n k times : Nat) : Live := if times = 0 then l else l.countWith (16 + 6 * n + k) times {}

/-- `CODE_ERR` of a ring (Table 2.20): the code and disparity errors among the groups received; a ring that is OFF receives
none. -/
def Live.codeErr (l : Live) (n : Nat) (errs : List GroupErr) : Live :=
  if (l.ring n).st = .off then l else l.ringCount n 5 (codeErrCount errs)

end Sys2Proof.Machine
end

