-- ==== Sys2Proof/Machine/Crypto.lean ====
section
/-! DEFINITION. SHA-256, HMAC-SHA-256 and ECDSA P-256, which the manual names by their standards (FIPS 180-4, FIPS 198-1,
FIPS 186-4): R439, R447, R466, R565, R568, R588 (PRESUMED, log entry 5: the manual does not write them out). -/
namespace Sys2Proof.Machine

/-! ## Octets and numbers, most significant first -/

/-- A number as `n` octets. -/
def beBytes (v : Nat) : Nat → List Byte
  | 0 => []
  | n + 1 => BitVec.ofNat 8 (v / 256 ^ n) :: beBytes v n
/-- Octets as a number. -/
def beNat (b : List Byte) : Nat := b.foldl (fun a x => 256 * a + x.toNat) 0

/-! ## SHA-256 -/

/-- The round constants and the initial hash value. -/
def shaRounds : List Word :=
  [0x428a2f98, 0x71374491, 0xb5c0fbcf, 0xe9b5dba5, 0x3956c25b, 0x59f111f1, 0x923f82a4, 0xab1c5ed5] ++
  [0xd807aa98, 0x12835b01, 0x243185be, 0x550c7dc3, 0x72be5d74, 0x80deb1fe, 0x9bdc06a7, 0xc19bf174] ++
  [0xe49b69c1, 0xefbe4786, 0x0fc19dc6, 0x240ca1cc, 0x2de92c6f, 0x4a7484aa, 0x5cb0a9dc, 0x76f988da] ++
  [0x983e5152, 0xa831c66d, 0xb00327c8, 0xbf597fc7, 0xc6e00bf3, 0xd5a79147, 0x06ca6351, 0x14292967] ++
  [0x27b70a85, 0x2e1b2138, 0x4d2c6dfc, 0x53380d13, 0x650a7354, 0x766a0abb, 0x81c2c92e, 0x92722c85] ++
  [0xa2bfe8a1, 0xa81a664b, 0xc24b8b70, 0xc76c51a3, 0xd192e819, 0xd6990624, 0xf40e3585, 0x106aa070] ++
  [0x19a4c116, 0x1e376c08, 0x2748774c, 0x34b0bcb5, 0x391c0cb3, 0x4ed8aa4a, 0x5b9cca4f, 0x682e6ff3] ++
  [0x748f82ee, 0x78a5636f, 0x84c87814, 0x8cc70208, 0x90befffa, 0xa4506ceb, 0xbef9a3f7, 0xc67178f2]
def shaStart : List Word := [0x6a09e667, 0xbb67ae85, 0x3c6ef372, 0xa54ff53a, 0x510e527f, 0x9b05688c, 0x1f83d9ab, 0x5be0cd19]

/-- The message schedule, newest word first. -/
def shaExpand : Nat → List Word → List Word
  | 0, w => w
  | n + 1, w =>
    let a := w.getD 14 0
    let b := w.getD 1 0
    shaExpand n ((w.getD 15 0 + (a.rotateRight 7 ^^^ a.rotateRight 18 ^^^ (a >>> 3)) + w.getD 6 0 +
      (b.rotateRight 17 ^^^ b.rotateRight 19 ^^^ (b >>> 10))) :: w)

/-- One round on the working variables a to h. -/
def shaRound (v : List Word) (kw : Word × Word) : List Word :=
  match v with
  | [a, b, c, d, e, f, g, h] =>
    let t1 := h + (e.rotateRight 6 ^^^ e.rotateRight 11 ^^^ e.rotateRight 25) + ((e &&& f) ^^^ (~~~e &&& g)) + kw.1 + kw.2
    let t2 := (a.rotateRight 2 ^^^ a.rotateRight 13 ^^^ a.rotateRight 22) + ((a &&& b) ^^^ (a &&& c) ^^^ (b &&& c))
    [t1 + t2, a, b, c, d + t1, e, f, g]
  | v => v

/-- The hash value after a block of 64 octets. -/
def shaBlock (h : List Word) (b : List Byte) : List Word :=
  let w := (List.range 16).map (fun i => BitVec.ofNat 32 (beNat ((b.drop (4 * i)).take 4)))
  (h.zip ((shaRounds.zip (shaExpand 48 w.reverse).reverse).foldl shaRound h)).map (fun p => p.1 + p.2)

/-- The hash value after `n` blocks. -/
def shaBlocks : Nat → List Word → List Byte → List Word
  | 0, h, _ => h
  | n + 1, h, b => shaBlocks n (shaBlock h (b.take 64)) (b.drop 64)

/-- The message with its padding. -/
def shaPad (m : List Byte) : List Byte :=
  m ++ [0x80] ++ List.replicate ((119 - m.length % 64) % 64) 0 ++ beBytes (8 * m.length) 8

/-- SHA-256. -/
@[irreducible] def sha256 (m : List Byte) : List Byte :=
  let p := shaPad m
  (List.range 8).flatMap (fun i => beBytes ((shaBlocks (p.length / 64) shaStart p).getD i 0).toNat 4)

/-! ## HMAC-SHA-256 -/

@[irreducible] def hmacSha256 (key msg : List Byte) : List Byte :=
  let k := if 64 < key.length then sha256 key else key
  let k := k ++ List.replicate (64 - k.length) 0
  sha256 (k.map (· ^^^ 0x5C) ++ sha256 (k.map (· ^^^ 0x36) ++ msg))

/-! ## ECDSA P-256 -/

/-- The field, the curve's b, the base point and its order. -/
def p256 : Nat := 0xffffffff00000001000000000000000000000000ffffffffffffffffffffffff
def p256B : Nat := 0x5ac635d8aa3a93e7b3ebbd55769886bc651d06b0cc53b0f63bce3c3e27d2604b
def p256N : Nat := 0xffffffff00000000ffffffffffffffffbce6faada7179e84f3b9cac2fc632551
def p256G : Option (Nat × Nat) :=
  some (0x6b17d1f2e12c4247f8bce6e563a440f277037d812deb33a0f4a13945d898c296,
        0x4fe342e2fe1a7f9b8ee7eb4a7c0f9e162bce33576b315ececbb6406837bf51f5)

/-- The bits of a 256-bit number, most significant first. -/
def bits256 (k : Nat) : List Bool := (List.range 256).reverse.map k.testBit
/-- b to the power e modulo m. -/
def powMod (m b e : Nat) : Nat := (bits256 e).foldl (fun a x => if x then a * a % m * b % m else a * a % m) (1 % m)
/-- The inverse modulo a prime. -/
def invMod (m a : Nat) : Nat := powMod m a (m - 2)

/-- The sum of two points; none is the point at infinity. -/
def p256Add : Option (Nat × Nat) → Option (Nat × Nat) → Option (Nat × Nat)
  | none, q => q
  | p, none => p
  | some (x1, y1), some (x2, y2) =>
    if x1 = x2 && (y1 + y2) % p256 = 0 then none
    else
      let s := if x1 = x2 then (3 * x1 * x1 + (p256 - 3)) * invMod p256 (2 * y1) % p256
        else (y2 + p256 - y1) * invMod p256 (x2 + p256 - x1) % p256
      let x := (s * s + 2 * p256 - x1 - x2) % p256
      some (x, (s * (x1 + p256 - x) + p256 - y1) % p256)
/-- A multiple of a point. -/
def p256Mul (k : Nat) (q : Option (Nat × Nat)) : Option (Nat × Nat) :=
  (bits256 k).foldl (fun a x => let d := p256Add a a; if x then p256Add d q else d) none

/-- The points of the curve whose x coordinate is r modulo the order. -/
def p256Lift (r : Nat) : List (Nat × Nat) :=
  ([r, r + p256N].filter (· < p256)).flatMap (fun x =>
    let c := (x * x * x + (p256 - 3) * x + p256B) % p256
    let y := powMod p256 c ((p256 + 1) / 4)
    if y * y % p256 = c then [(x, y), (x, (p256 - y) % p256)] else [])

/-- The signature (r, s) over the octets verifies under a public key whose digest is the slot's (R588): the keys under which
it verifies are r⁻¹ (s R − e G), for the points R that r stands for. -/
@[irreducible] def ecdsaVerify (slotDigest msg sig : List Byte) : Bool :=
  let r := beNat (sig.take 32)
  let s := beNat ((sig.drop 32).take 32)
  let e := beNat (sha256 msg) % p256N
  0 < r && r < p256N && 0 < s && s < p256N &&
    (p256Lift r).any (fun q =>
      let i := invMod p256N r
      match p256Add (p256Mul (i * s % p256N) (some q)) (p256Mul (i * (p256N - e) % p256N) p256G) with
      | none => false
      | some k => sha256 (beBytes k.1 32 ++ beBytes k.2 32) = slotDigest)

end Sys2Proof.Machine
end

