-- ==== Sys2Proof/Machine/Otp.lean ====
section
/-! DEFINITION. The one-time-programmable memory: words, regions, start-up integrity, keys and the
programming loop (chapter "Security, OTP and firmware update"). -/
namespace Sys2Proof.Machine

/-! ## Words (R573, R577) -/

/-- Check bits of a data word; zero data has zero check bits. -/
def otpCheck (d : Word) : BitVec 8 := if d = 0 then 0 else Config.otpCheckBits d

/-- The 40 bits of an encoded data word. -/
def otpEnc (d : Word) : BitVec 40 := otpCheck d ++ d

/-- All 40 bits burnt (R573). -/
def zeroisedWord : BitVec 40 := BitVec.allOnes 40

/-- The data and check bits of a word agree. -/
def otpGood (w : BitVec 40) : Bool := w = zeroisedWord || otpEnc (w.setWidth 32) = w

/-- A single flipped bit that makes a word good, lowest first. -/
def otpFix (w : BitVec 40) : Option (BitVec 40) :=
  ((List.range 40).map (fun b => w ^^^ BitVec.ofNat 40 (2 ^ b))).find? (fun v => otpEnc (v.setWidth 32) = v)

/-- The data of a reading and whether a bit was corrected; none where it is uncorrectable. -/
def otpDec (w : BitVec 40) : Option (Word × Bool) :=
  if otpGood w then some (w.setWidth 32, false) else (otpFix w).map (fun v => (v.setWidth 32, true))

/-- The class of a word (R577): 0 OK, 1 WEAK, 2 FAIL. -/
def OtpWord.cls (w : OtpWord) : Nat :=
  match otpDec w.norm with
  | none => 2
  | some (_, fixed) => if fixed || w.lo ≠ w.norm || w.hi ≠ w.norm then 1 else 0

/-- The data of a word at normal level, corrected where it can be. -/
def Live.otpData (l : Live) (a : Nat) : Word := match otpDec (l.otpw a).norm with | some (d, _) => d | none => 0

/-- A blank word (R573). -/
def Live.otpBlank (l : Live) (a : Nat) : Bool := (l.otpw a).norm = 0

/-- A zeroised word (R573). -/
def Live.otpZeroised (l : Live) (a : Nat) : Bool := (l.otpw a).norm = zeroisedWord

/-- `n` words from `a` as octets, little-endian. -/
def Live.otpBytes (l : Live) (a n : Nat) : List Byte :=
  (List.range n).flatMap (fun i => leBytes (l.otpData (a + i)).toNat 4)

/-- The 8-byte unique ID (Table 18.6). -/
def Live.uid (l : Live) : List Byte := l.otpBytes 0 2

/-! ## Regions (R574 to R576) -/

/-- First and last word of a region (Table 18.5). -/
def regionSpan : Nat → Nat × Nat
  | 0 => (0, 63) | 1 => (64, 127) | 2 => (128, 143) | 3 => (144, 207)
  | 4 => (208, 271) | 5 => (272, 367) | 6 => (368, 431) | _ => (432, 511)

/-- The region of a word. -/
def regionOf (a : Nat) : Nat :=
  if a < 64 then 0 else if a < 128 then 1 else if a < 144 then 2 else if a < 208 then 3
  else if a < 272 then 4 else if a < 368 then 5 else if a < 432 then 6 else 7

/-- The lock word of a lockable region (Table 18.6). -/
def lockWord : Nat → Option Nat
  | 0 => some 132 | 1 => some 133 | 3 => some 134 | 4 => some 135 | 6 => some 136 | 7 => some 137 | _ => none

/-- A region's lock pattern (Table 18.6). -/
def lockPattern (r : Nat) : Word := BitVec.ofNat 32 (0x4C4B0000 + r)

/-- A region is locked (R574). -/
def Live.locked (l : Live) (r : Nat) : Bool :=
  match lockWord r with | some a => l.otpData a = lockPattern r | none => false

/-- The CRC of R576 over the words of a region but its last. -/
def Live.regionCrc (l : Live) (r : Nat) : Nat :=
  let (a, b) := regionSpan r
  crc32 (l.otpBytes a (b - a))

/-- The pattern of lifecycle step `i`, 1 to 4. -/
def lcPattern (i : Nat) : Word := BitVec.ofNat 32 (0x4C430000 + i)

/-- The pattern of anti-rollback step `i`, 1 to 64. -/
def arvPattern (i : Nat) : Word := BitVec.ofNat 32 (0x52420000 + i)

/-- Length of the run of words from `a` that each hold their pattern (R575). -/
def Live.runLen (l : Live) (a n : Nat) (pat : Nat → Word) : Nat :=
  ((List.range n).takeWhile (fun i => l.otpData (a + i) = pat (i + 1) && !l.otpBlank (a + i))).length

/-- The lifecycle that OTP holds: 0 BLANK to 4 RETIRED (R564, R575). -/
def Live.lcNow (l : Live) : Nat := l.runLen 128 4 lcPattern

/-- The anti-rollback count N (R575). -/
def Live.arvN (l : Live) : Nat := l.runLen 272 64 arvPattern

/-- A valid boot configuration entry: its CRC-8 over [31:8] (R575). -/
def bootEntryOk (w : Word) : Bool := crc8 (w.toNat >>> 8) 24 = fld w 7 0

/-- The boot configuration entries that are programmed, from entry 0 without gaps. -/
def Live.bootEntries (l : Live) : List Word :=
  ((List.range 32).takeWhile (fun i => !l.otpBlank (336 + i))).map (fun i => l.otpData (336 + i))

/-- RECSTRAP: value [0] of the entry with the highest index (R575). -/
def Live.recstrap (l : Live) : Bool :=
  match (l.bootEntries.filter (fun w => fld w 31 28 = 1)).reverse with | [] => false | w :: _ => bit w 8

/-- REVOKE: revoked Onwick slots in bits [3:0], owner slots in [6:4] (R575). -/
def Live.revoked (l : Live) : Nat :=
  (l.bootEntries.filter (fun w => fld w 31 28 = 2)).foldl (fun a w => a ||| (fld w 27 8 % 128)) 0

/-- `FACTEN` and `REQSIG` (Table 18.7). -/
def Live.facten (l : Live) : Bool := bit (l.otpData 224) 1
def Live.reqsig (l : Live) : Bool := bit (l.otpData 224) 0

/-- An Onwick key slot is programmed and not revoked. -/
def Live.onwickSlot (l : Live) (i : Nat) : Bool :=
  i < 4 && (List.range 8).any (fun k => !l.otpBlank (144 + 8 * i + k)) && !l.revoked.testBit i

/-- An owner key slot is programmed and not revoked. -/
def Live.ownerSlot (l : Live) (i : Nat) : Bool :=
  i < 3 && (List.range 8).any (fun k => !l.otpBlank (176 + 8 * i + k)) && !l.revoked.testBit (4 + i)

/-! ## Start-up integrity (R578) -/

/-- A word is interrupted: it fails and an intent record names it (R578). -/
def Live.interrupted (l : Live) (a : Nat) : Bool :=
  (l.otpw a).cls = 2 && (match l.sec.intent with | some (b, _) => a = b | none => false)

/-- The integrity failure of a word, if it has one: its `ICAUSE` (Table 18.20). -/
def Live.otpCause (l : Live) (a : Nat) : Nat :=
  let w := l.otpData a
  let blank := l.otpBlank a
  let prev := if a = 128 || a = 272 || a = 336 then false else l.otpBlank (a - 1)
  if l.interrupted a then 0
  else if (l.otpw a).cls = 2 then 1
  else if 128 ≤ a && a ≤ 131 then (if !blank && (w ≠ lcPattern (a - 127) || prev) then 4 else 0)
  else if 132 ≤ a && a ≤ 137 then
    (match (List.range 8).find? (fun r => lockWord r = some a) with
     | some r => if blank || w = lockPattern r then 0 else 2
     | none => 0)
  else if (138 ≤ a && a ≤ 143) || (200 ≤ a && a ≤ 206) then (if blank then 0 else 2)
  else if 272 ≤ a && a ≤ 335 then (if !blank && (w ≠ arvPattern (a - 271) || prev) then 2 else 0)
  else if 336 ≤ a && a ≤ 367 then (if !blank && (!bootEntryOk w || prev) then 2 else 0)
  else
    let r := regionOf a
    if a = (regionSpan r).2 && l.locked r && !(r = 4 && 3 ≤ l.lcNow) then
      (if w.toNat = l.regionCrc r then 0 else 3)
    else 0

/-- Every integrity failure, in address order. -/
def Live.otpFailures (l : Live) : List (Nat × Nat) :=
  ((List.range 512).map (fun a => (a, l.otpCause a))).filter (fun p => p.2 ≠ 0)

/-- Words read WEAK, and words that are interrupted (R578). -/
def Live.otpWeak (l : Live) : List Nat := (List.range 512).filter (fun a => (l.otpw a).cls = 1)
def Live.otpIntr (l : Live) : List Nat := (List.range 512).filter (fun a => l.interrupted a)

/-! ## Keys (R564 to R566) -/

/-- A key's words are all blank, or zeroised: they grant nothing (R568). -/
def Live.keyMissing (l : Live) (a : Nat) : Bool :=
  (List.range 8).all (fun i => l.otpBlank (a + i)) || (List.range 8).any (fun i => l.otpZeroised (a + i))

/-- The transport key (R565). -/
def Live.transportKey (l : Live) : List Byte := hmacSha256 Config.romKey l.uid

/-- The owner authentication key that AUTH uses, where the lifecycle admits one (Table 18.1). -/
def Live.ownerKey (l : Live) : Option (List Byte) :=
  if l.sec.lc = 1 then
    (if (List.range 8).all (fun i => l.otpBlank (208 + i)) then some (List.replicate 32 0)
     else some (l.otpBytes 208 8))
  else if l.sec.lc = 2 then (if l.keyMissing 208 then none else some (l.otpBytes 208 8))
  else none

/-- The factory authentication key that AUTH uses (Table 18.1). -/
def Live.factoryKey (l : Live) : Option (List Byte) :=
  if l.sec.lc = 0 then some l.transportKey
  else if l.keyMissing 216 then none else some (l.otpBytes 216 8)

/-- The eight ASCII bytes "OPERATOR" (R466). -/
def operatorText : List Byte := [0x4F, 0x50, 0x45, 0x52, 0x41, 0x54, 0x4F, 0x52]

/-- The class key of R466, by session class. -/
def Live.classKey (l : Live) (cls : Nat) : Option (List Byte) :=
  match cls with
  | 1 => l.ownerKey.map (fun k => hmacSha256 k operatorText)
  | 2 => l.ownerKey
  | 3 => l.factoryKey
  | _ => none

/-- Table 18.1: a class may open in the lifecycle in force. -/
def Live.classOpens (l : Live) (cls : Nat) : Bool :=
  match l.sec.lc, cls with
  | _, 0 => true
  | 0, 3 => true
  | 1, _ => true
  | 2, 3 => l.facten
  | 2, _ => true
  | 3, 3 => true
  | 4, 3 => true
  | _, _ => false

/-! ## Programming (R579, R582) -/

/-- One word's programming: what it ends with. -/
structure Burn where
  result : Nat := 0
  reason : Nat := 0
  pulses : Nat := 0
  word   : OtpWord := {}
  deriving DecidableEq, Repr

/-- The loop of R582 over the set bits of the encoded word, in ascending order. -/
def burnBits (enc : BitVec 40) (env : FuseEnv) : List Nat → List Nat → Burn → Burn
  | [], _, r =>
    let w := { r.word with hi := (r.word.hi ||| enc) ^^^ env.hiFlip }
    { r with word := w, result := if w.norm = enc && w.lo = enc && w.hi = enc then 0 else 1 }
  | b :: bs, need, r =>
    if r.word.lo.getLsbD b then burnBits enc env bs need r
    else
      let n := max 1 (need.headD 1)
      let k := min n 8
      let cut := match env.stop with | some (m, _) => if m < r.pulses + k then some (m - r.pulses) else none | none => none
      match cut with
      | some c =>
        { r with result := 2, pulses := r.pulses + c, reason := match env.stop with | some (_, w) => w.val | none => 0 }
      | none =>
        let r := { r with pulses := r.pulses + k }
        if 8 < n then { r with result := 2, reason := 8 }
        else
          let m := BitVec.ofNat 40 (2 ^ b)
          burnBits enc env bs (need.drop 1)
            { r with word := { r.word with norm := r.word.norm ||| m, lo := r.word.lo ||| m } }

/-- Program the encoded value over a word (R582). -/
def burn (enc : BitVec 40) (env : FuseEnv) (w : OtpWord) : Burn :=
  burnBits enc env ((List.range 40).filter (fun b => enc.getLsbD b)) env.pulses { word := w }

/-- Program one word: the intent record first, and erased again unless the result is FAIL (R579, R582). -/
def Live.burnWord (l : Live) (a : Nat) (enc : BitVec 40) (env : FuseEnv) : Burn × Live :=
  let b := burn enc env (l.otpw a)
  let l := l.modSec fun s => { s with otp := tput {} s.otp a b.word, intent := if b.result = 2 then some (a, enc) else none }
  (b, l.countWith 124 b.pulses {})

/-- Programming may run now (R582): the reason of Table 18.9 that forbids it, 0 when none does. -/
def Live.fuseBar (l : Live) : Nat :=
  if !(l.therm.dband = 1 || l.therm.dband = 2) then 1
  else if l.pwr.vinNow.toNat < 3000 || !l.pwr.pfailN || l.pwr.st = .holdup then 2
  else 0

/-- Words that zeroisation burns (R567). -/
def zeroiseWords : List Nat := (List.range 8).map (· + 208) ++ (List.range 46).map (· + 225)

/-- Zeroise: burn every one of the 40 bits of those words (R567). -/
def Live.zeroise (l : Live) (env : FuseEnv) : Live :=
  zeroiseWords.foldl (fun l a => if l.otpZeroised a then l else (l.burnWord a zeroisedWord env).2) l

/-- RETURNED is programmed and a word that it zeroises is not yet so (R567). -/
def Live.zeroiseDue (l : Live) : Bool := 3 ≤ l.lcNow && zeroiseWords.any (fun a => !l.otpZeroised a)

/-! ## Permissions (Table 18.2, Table 18.10) -/

/-- A word's programming class and lifecycles, but for lifecycle steps, lock words and anti-rollback steps. -/
def Live.mayProgram (l : Live) (cls a : Nat) (val : Word) : Bool :=
  let lc := l.sec.lc
  if a < 128 || (368 ≤ a && a ≤ 431) || (144 ≤ a && a ≤ 175) || (216 ≤ a && a ≤ 223) then cls = 3 && lc = 0
  else if (176 ≤ a && a ≤ 199) || a = 207 || (208 ≤ a && a ≤ 271) then cls = 2 && lc = 1
  else if 432 ≤ a then cls = 2 && (lc = 1 || lc = 2)
  else if 336 ≤ a && a ≤ 367 then
    (if fld val 31 28 = 2 && fld val 11 8 ≠ 0 then cls = 3 && lc ≠ 4 else cls = 2 && (lc = 1 || lc = 2))
  else false

/-- Table 18.2: the class of a lifecycle target is admitted. -/
def Live.mayStep (l : Live) (cls step : Nat) : Bool :=
  match step with
  | 1 => cls = 3
  | 2 => cls = 2
  | 3 => cls = 2 || (cls = 3 && l.facten)
  | 4 => cls = 3
  | _ => false

/-- Table 18.2: the conditions of a lifecycle target hold; `leaseLive` is the keeper's. -/
def Live.stepReady (l : Live) (step : Nat) : Bool :=
  match step with
  | 1 => l.locked 0 && l.locked 1 && l.locked 6 && (List.range 4).any (fun i => (List.range 8).any (fun k => !l.otpBlank (144 + 8 * i + k)))
      && (List.range 8).any (fun i => l.otpData (216 + i) ≠ 0)
  | 2 => l.locked 3 && l.locked 4 && (List.range 8).any (fun i => l.otpData (208 + i) ≠ 0)
      && (List.range 3).any (fun i => (List.range 8).any (fun k => !l.otpBlank (176 + 8 * i + k)))
  | 3 => (l.pwr.st = .run || l.pwr.st = .lean) && !l.keeper.live
  | 4 => l.sec.lc = 3 || l.sec.lc = 1
  | _ => false

/-- A region may be locked by a class (Table 18.10). -/
def Live.mayLock (l : Live) (cls r : Nat) : Bool :=
  let lc := l.sec.lc
  match r with
  | 0 | 1 | 6 => cls = 3 && lc = 0
  | 3 | 4 => (cls = 2 && lc = 1) || (cls = 3 && lc = 0)
  | 7 => cls = 2 && (lc = 1 || lc = 2)
  | _ => false

/-- LOCK's condition (R584). -/
def Live.lockReady (l : Live) (r : Nat) : Bool :=
  let (a, b) := regionSpan r
  (l.otpw b).cls = 0 && (l.otpData b).toNat = l.regionCrc r &&
    (List.range (b - a + 1)).all (fun i => (l.otpw (a + i)).cls = 0)

end Sys2Proof.Machine
end

