-- ==== Sys2Proof/Machine/Update.lean ====
section
/-! DEFINITION. Update packages, firmware banks and the update state (R585 to R597). -/
namespace Sys2Proof.Machine

/-! ## Package fields (Table 18.12, Table 18.13) -/

/-- A little-endian number at an offset. -/
def numAt (b : List Byte) (o n : Nat) : Nat := leNat (sliceB b o n)

def pkgKind (b : List Byte) : Nat := numAt b 6 1
def pkgUarv (b : List Byte) : Nat := numAt b 7 1
def pkgUver (b : List Byte) : Nat := numAt b 8 4
def pkgUlen (b : List Byte) : Nat := numAt b 12 4
def pkgUrlen (b : List Byte) : Nat := numAt b 16 4
def pkgTarget (b : List Byte) : Nat := numAt b 132 2
def pkgStype (b : List Byte) : Nat := numAt b 134 1

/-- Range `i` of the header: 0 checkpoint format, 1 schema, 2 mate protocol, 3 station firmware. -/
def pkgInRange (b : List Byte) (i v : Nat) : Bool := numAt b (116 + 4 * i) 2 ≤ v && v ≤ numAt b (118 + 4 * i) 2

/-- `UMAGIC`, `UFMT` and `UHCRC` pass. -/
def pkgHeaderOk (b : List Byte) : Bool :=
  numAt b 0 4 = 0x474B5055 && numAt b 4 2 = 1 && crc32 (b.take 156) = numAt b 156 4

/-- The payload, and the signature block behind a payload or image of `n` octets. -/
def pkgPayload (b : List Byte) : List Byte := sliceB b 160 (pkgUlen b)
def pkgSig (b : List Byte) (n : Nat) : List Byte := sliceB b (160 + n) 136

/-- The Onwick signature verifies under its named slot (R585, R594). -/
def Live.onwickSigOk (l : Live) (b sig : List Byte) : Bool :=
  let s := numAt sig 0 1
  l.onwickSlot s && ecdsaVerify (l.otpBytes (144 + 8 * s) 8) (b.take 160) (sliceB sig 8 64)

/-- The owner countersignature verifies under its named slot. -/
def Live.ownerSigOk (l : Live) (b sig : List Byte) : Bool :=
  let s := numAt sig 1 1
  l.ownerSlot s && ecdsaVerify (l.otpBytes (176 + 8 * s) 8) (b.take 160) (sliceB sig 72 64)

/-! ## Banks (R585) -/

/-- The octets of a bank: true is B. -/
def Live.bank (l : Live) (b : Bool) : List Byte := if b then l.sec.bankB else l.sec.bankA

/-- A bank is valid. -/
def Live.bankValid (l : Live) (bk : Bool) : Bool :=
  let b := l.bank bk
  let n := pkgUrlen b
  let sig := pkgSig b n
  crc32 (b.take 156) = numAt b 156 4 && b.length = 296 + n && pkgTarget b = 0x4160 && l.onwickSigOk b sig &&
    (l.sec.lc ≠ 2 || l.ownerSigOk b sig) && l.arvN ≤ pkgUarv b &&
    sha256 (sliceB b 160 n) = sliceB b 52 32

/-- Signature verifications a bank's check makes (R604). -/
def Live.bankVerifies (l : Live) : Nat := if l.sec.lc = 2 then 2 else 1

/-- The boot record in force; without a valid copy, BSTATE IDLE on bank A. -/
def Live.bootRec (l : Live) : BootRec := l.sec.boot.getD {}

/-- Write a boot record: the next sequence number (R586).  In `T5` no flash operation starts: the record that flash holds stands
behind the new one until it can be programmed (R365). -/
def Live.setBoot (l : Live) (f : BootRec → BootRec) : Live :=
  let r := f l.bootRec
  l.modSec fun s =>
    { s with boot := some { r with seq := r.seq + 1 }, bootOld := if l.flashProgram then none else some (s.bootOld.getD s.boot) }

/-- The running bank's `UVER`, 0 in the recovery ROM. -/
def Live.runVer (l : Live) : Nat := match l.sec.running with | some b => pkgUver (l.bank b) | none => 0

/-! ## Update state (Table 18.14, Table 18.15) -/

/-- `USTATE`. -/
def Live.ustate (l : Live) : Nat := if l.sec.stg.state ≠ 0 then l.sec.stg.state else l.bootRec.state

/-- An UPDATE record when the update state has changed from `old` (R603). -/
def Live.updateRecord (l : Live) (old : Nat) : Live :=
  if l.ustate = old then l
  else l.record 0x0A ([BitVec.ofNat 8 old, BitVec.ofNat 8 l.ustate, BitVec.ofNat 8 l.sec.stg.kind,
    BitVec.ofNat 8 l.sec.stg.reason] ++ leBytes (pkgUver l.sec.stg.bytes) 4 ++ [BitVec.ofNat 8 l.arvN])

/-- Change the update state, with its record. -/
def Live.withUpdate (l : Live) (f : Live → Live) : Live := (f l).updateRecord l.ustate

/-- Discard staging: IDLE (R590). -/
def Live.stgDrop (l : Live) : Live :=
  if l.sec.stg.state = 0 then l
  else l.withUpdate fun l => (l.setBoot fun b => { b with state := 0 }).modSec fun s => { s with stg := { reason := s.stg.reason } }

/-- Staging of a session that closes is discarded (Table 18.14). -/
def Live.stgClose (l : Live) (sess : Nat) : Live := if l.sec.stg.owner = sess then l.stgDrop else l

/-- Countersignatures and signatures the check of a package makes. -/
def Live.pkgVerifies (l : Live) (b : List Byte) : Nat :=
  (if pkgKind b = 2 then 0 else 1) + (if pkgKind b = 2 || l.sec.lc = 2 then 1 else 0)

/-- The check of a package (R594): the first failure's reason (Table 18.17), 0 when all pass. -/
def Live.pkgCheck (l : Live) (b : List Byte) : Nat :=
  let k := pkgKind b
  let sig := pkgSig b (pkgUlen b)
  if !pkgHeaderOk b then 4
  else if b.length ≠ 296 + pkgUlen b || 131072 < b.length || (k = 1 && pkgUrlen b ≠ pkgUlen b) then 3
  else if 2 < k || (k ≠ 2 && pkgTarget b ≠ 0x4160) then 8
  else if sha256 (pkgPayload b) ≠ sliceB b 84 32 then 4
  else if k ≠ 2 && !l.onwickSigOk b sig then 5
  else if (k = 2 || l.sec.lc = 2) && !l.ownerSigOk b sig then 6
  else if k ≠ 2 && pkgUarv b < l.arvN then 7
  else 0

/-! ## Delta (R589) -/

/-- The octets a record takes after its head, padded to a multiple of 4. -/
def pad4 (n : Nat) : Nat := 4 * ((n + 3) / 4)

/-- Rebuild an image from a source and a delta; none where the delta is malformed. -/
def applyDelta (src : List Byte) : Nat → List Byte → List Byte → Option (List Byte)
  | 0, _, _ => none
  | fuel + 1, p, out =>
    match p with
    | [] => none
    | op :: _ =>
      let n := numAt p 1 3
      if op = 0x01 then
        (if p.length < 8 || src.length < numAt p 4 4 + n then none
         else applyDelta src fuel (p.drop 8) (out ++ sliceB src (numAt p 4 4) n))
      else if op = 0x02 then
        (if p.length < 4 + n then none else applyDelta src fuel (p.drop (4 + pad4 n)) (out ++ sliceB p 4 n))
      else if op = 0x03 then (if n = 0 && p.length = 4 then some out else none)
      else none

/-- The image that a package of kind 0 or 1 makes of the active bank's image. -/
def Live.pkgImage (l : Live) (b : List Byte) : Option (List Byte) :=
  let src := l.bank l.bootRec.bact
  let img := if pkgKind b = 1 then some (pkgPayload b)
             else applyDelta (sliceB src 160 (pkgUrlen src)) (pkgUlen b + 1) (pkgPayload b) []
  match img with
  | some i => if i.length = pkgUrlen b then some i else none
  | none => none

/-- Set a bank's octets. -/
def Live.setBank (l : Live) (bk : Bool) (b : List Byte) : Live :=
  l.modSec fun s => if bk then { s with bankB := b } else { s with bankA := b }

/-- The header that a bank receives (R585, R592).  DEDUCED: also from a delta it is the package's own, since the signatures that
the bank's check verifies cover its 160 octets (log entry 102). -/
def bankHeader (b : List Byte) : List Byte := b.take 160

/-- The ROM applies an ARMED package (R592): the new state and whether it was applied.  `flashOk` is whether
flash verifies. -/
def Live.applyUpdate (l : Live) (flashOk : Bool) : Live :=
  if !l.flashErase then l
  else
    let b := l.sec.stg.bytes
    let act := l.bootRec.bact
    let old := l.ustate
    let l := l.setBoot fun r => { r with state := 4 }
    let l := (l.updateRecord old)
    let l := l.countWith 125 (l.pkgVerifies b) {}
    let src := l.bank act
    let why :=
      let c := l.pkgCheck b
      if c ≠ 0 then c else if pkgKind b = 0 && sha256 (sliceB src 160 (pkgUrlen src)) ≠ sliceB b 20 32 then 9 else 0
    let revert (l : Live) (why : Nat) : Live :=
      (l.withUpdate fun l => (l.setBoot fun r => { r with state := 7, plen := 0 }).modSec fun s =>
        { s with stg := { s.stg with reason := why } }).raise 0xC005 0xE001 why
    if why ≠ 0 then revert l why
    else match l.pkgImage b with
      | none => revert (l.setBank (!act) (bankHeader b)) 10
      | some img =>
        if !flashOk then revert (l.setBank (!act) (Config.badBank b)) 15
        else
          let l := l.setBank (!act) (bankHeader b ++ img ++ pkgSig b (pkgUlen b))
          let l := l.modSec fun s => { s with otherStore := l.img.slots }
          let l := l.countWith 125 l.bankVerifies {}
          if l.bankValid (!act) then
            l.withUpdate fun l => l.setBoot fun r => { r with bact := !act, state := 5, trial := 0, plen := 0 }
          else revert l (if sha256 img ≠ sliceB b 52 32 then 10 else 15)

/-- The trial rule (R593). -/
def Live.trialRule (l : Live) : Live :=
  if l.bootRec.trial < 3 then l.setBoot fun r => { r with trial := r.trial + 1 }
  else
    (l.withUpdate fun l => l.setBoot fun r => { r with bact := !r.bact, state := 7, trial := 0 }).raise 0xC006 0xE001

/-- Banks that secure boot looks at: both where there is no boot record or the active one is not valid. -/
def Live.banksChecked (l : Live) : Nat := match l.sec.boot with | some r => if l.bankValid r.bact then 1 else 2 | none => 2

/-- Secure boot of a bank (R586, R587): the bank that runs, none for the recovery ROM. -/
def Live.secureBoot (l : Live) : Live :=
  let l := l.countWith 125 (l.bankVerifies * l.banksChecked) {}
  let a := l.bankValid false
  let b := l.bankValid true
  match l.sec.boot with
  | none =>
    if a || b then
      let pick := b && (!a || pkgUver (l.bank false) < pkgUver (l.bank true))
      (l.withUpdate fun l => l.setBoot fun r => { r with bact := pick, state := 6 }).modSec fun s => { s with running := some pick }
    else l.modSec fun s => { s with running := none }
  | some r =>
    if (if r.bact then b else a) then l.modSec fun s => { s with running := some r.bact }
    else if (if r.bact then a else b) then
      ((l.withUpdate fun l => l.setBoot fun r => { r with bact := !r.bact, state := 6 }).modSec fun s =>
        { s with running := some (!r.bact) }).raise 0xC007 0xE001
    else l.modSec fun s => { s with running := none }

/-! ## Anti-rollback steps (R595) -/

/-- Program the next anti-rollback step that is due, where R582 lets it (R595).  An interrupted step is completed. -/
def Live.arvStep (l : Live) (env : FuseEnv) : Live :=
  match l.sec.arvGoal with
  | none => l
  | some g =>
    let n := l.arvN
    let l :=
      if g ≤ n || 64 ≤ n || l.fuseBar ≠ 0 then l else (l.burnWord (272 + n) (otpEnc (arvPattern (n + 1))) env).2
    if g ≤ l.arvN then l.modSec fun s => { s with arvGoal := none } else l.raiseOnce 0xC008 0xE001

/-- A confirmed bank whose `UARV` exceeds N has steps that a reset cut short (Table 18.18; log entry 94). -/
def Live.arvResume (l : Live) : Live :=
  match l.sec.running with
  | some b => if l.bootRec.state = 6 && l.arvN < pkgUarv (l.bank b) then l.modSec fun s => { s with arvGoal := some (pkgUarv (l.bank b)) } else l
  | none => l

/-- All the steps up to the goal, one after another. -/
def Live.arvSteps (l : Live) (env : FuseEnv) : Nat → Live
  | 0 => l
  | k + 1 => (l.arvStep env).arvSteps env k

end Sys2Proof.Machine
end

