-- ==== Sys2Proof/Machine/Quantities.lean ====
section
/-! DEFINITION. Quantities that several chapters read: which rail, input or string a tile runs, the sets of a
rail's members, scaled measurements, rating, caps, and the alert line of a voltage command port. -/
namespace Sys2Proof.Machine

/-! ## Bindings -/

def Live.railTile (l : Live) (r : Nat) : Nat := l.cf (oRail r) 0 31 24
def Live.ncfg (l : Live) (r : Nat) : Nat := l.cf (oRail r) 0 23 20
def Live.nmin (l : Live) (r : Nat) : Nat := l.cf (oRail r) 0 19 16
/-- The rails of the image in force. -/
def Live.railNums (l : Live) : List Nat := (List.range 48).filter (fun r => l.given (oRail r) 0)
/-- The rail that a tile runs. -/
def Live.tileRail (l : Live) (t : Nat) : Option Nat := l.railNums.find? (fun r => l.railTile r = t)
/-- The strings of the image in force, and the string that a tile runs. -/
def Live.strNums (l : Live) : List Nat := (List.range 16).filter (fun k => l.given (oStr k) 0)
def Live.strTile (l : Live) (k : Nat) : Nat := l.cf (oStr k) 0 31 24
def Live.tileStr (l : Live) (t : Nat) : Option Nat := l.strNums.find? (fun k => l.strTile k = t)
/-- Input `j` is the INPUT tile whose `IN0` reads policy register `j` (R276). -/
def Live.inputTile (l : Live) (j : Nat) : Option Nat := l.tiles.find? (fun t => l.tKind t = 1 && l.tIn t 0 = 0x6000 + j)
def Live.tileInput (l : Live) (t : Nat) : Option Nat :=
  if l.hasTile t && l.tKind t = 1 && bindCode (l.tIn t 0) = 6 then some (l.tIn t 0 % 256) else none
/-- The inputs of the image in force. -/
def Live.inputNums (l : Live) : List Nat := (List.range 64).filter (fun j => (l.inputTile j).isSome)

/-! ## Path identifiers (R40 to R43) -/

/-- A bus code of Table 1.6. -/
def busCode (b : Nat) : Nat := if b ≤ 9 then b else 15

/-- The bus of a phase of a rail, by the image (log entry 80). -/
def Image.phaseBus (i : Image) (r m : Nat) : Nat := busCode (Config.busOf i.octets 3 r m)
/-- The buses that an image gives a rail: those of the phases that its rules place. -/
def Image.railBuses (i : Image) (r tile : Nat) : List Nat :=
  ((i.rules.filter (fun q => q.tile = tile)).map (fun q => i.phaseBus r q.member)).dedup
/-- The bus of a rail (R42): that of its lowest phase. -/
def Live.railBus (l : Live) (r : Nat) : Nat := ((l.img.cur.railBuses r (l.railTile r)).head?).getD (l.img.cur.phaseBus r 0)
/-- The bus that a BUS tile's converter feeds. -/
def Live.feedBus (l : Live) (t : Nat) : Nat := busCode (Config.feedBus l.img.cur.octets t)

/-- `KIND` and `CONV` of the converters of a tile, by the station type where a POLICY tile drives it (Table 1.6). -/
def Live.convOf (l : Live) (t : Nat) (stype : Nat) : Nat × Nat :=
  let rank (k : Nat) : Nat := ((l.tiles.filter (fun x => l.tKind x = k && x < t)).length)
  match l.tileRail t, l.tileInput t, l.tileStr t with
  | some r, _, _ => (3, r)
  | _, some j, _ => (0, j)
  | _, _, some k => (1, k)
  | _, _, _ =>
    if l.tKind t = 3 then (2, rank 3)
    else
      let before := (numbered 0 l.img.cur.rules).filter (fun p => p.2.stype.toNat = stype && p.2.tile < t)
      (if stype = 6 then 4 else 5, before.length)

/-- The data path identifier of a station's converter (Table 1.6): an input stands on the feed side, a string and a bus
converter on the 54 V bus, a rail under its own bus. -/
def Live.dataPath (l : Live) (s : Stn) (brick : Nat) : Half :=
  match s.tile with
  | none => 0xF000
  | some t =>
    let c := l.convOf t s.stype.toNat
    let bus := match c.1 with
      | 0 => 0 | 1 => 1 | 2 => 1 | 3 => l.railBus c.2 | k => busCode (Config.busOf l.img.cur.octets k c.2 brick)
    BitVec.ofNat 16 (bus * 4096 + c.1 * 512 + c.2 % 64 * 8 + (if c.1 = 3 then s.member % 8 else brick % 4))

/-- The control path identifier of a tile (Table 1.7). -/
def Live.controlPath (l : Live) (t : Nat) : Half := BitVec.ofNat 16 (l.tZone t * 8192 + t % 256)

/-- What the controller publishes of them (R40, R41): each tile's control path, and each bound station's data path, brick by
brick.  The manual gives them no object word (log entry 61). -/
def Live.controlPaths (l : Live) : List (Nat × Half) := l.tiles.map fun t => (oTile t, l.controlPath t)
def Live.dataPaths (l : Live) : List (Nat × Nat × Half) :=
  (l.stns.filter (fun p => p.2.tile.isSome)).flatMap fun p => (List.range p.2.bricks).map fun b => (oStn p.1, b, l.dataPath p.2 b)

/-- A tile's converters stand under the bus that a BUS tile feeds (Table 1.8). -/
def Live.underBus (l : Live) (b t : Nat) : Bool :=
  l.hasTile b && l.tKind b = 3 && (match l.tileRail t with | some r => l.railBus r = l.feedBus b | none => false)

/-- The station that a tile's member 0 is, when it is MOORED. -/
def Live.mooredStn (l : Live) (t : Nat) : Option (Nat × Stn) :=
  (l.members t).find? (fun p => p.2.st = .moored)

/-- The first slot of a tile's lowest member by its rules: ring and slot. -/
def Live.tileSlot (l : Live) (t : Nat) : Option (Nat × Nat) := ((l.tileRules t).head?).map (fun r => (r.ring, r.slot))

/-! ## Voltage command ports (Table 7.2) -/

/-- A port works: `PEN`, not isolated (Table 11.5), and its bank not down (R610). -/
def Live.pen (l : Live) (p : Nat) : Bool := l.cb (oVc p) 0 7 && !l.reacting.any (fun o => o.cls = .isolate && o.d.obj.toNat = oVc p) && l.adc.vbok.getLsbD (p / 4)
/-- The rail that `RAILSEL` k of a port names. -/
def Live.portRail (l : Live) (p k : Nat) : Option Nat :=
  let n := l.cf (oVc p) 0 (31 - 6 * k) (26 - 6 * k)
  if l.given (oVc p) 0 && n < 48 then some n else none
/-- The port that binds a rail, enabled or not (R244). -/
def Live.railBound (l : Live) (r : Nat) : Option Nat :=
  (List.range 16).find? (fun p => (List.range 4).any (fun k => l.portRail p k = some r))
/-- The port that serves a rail: enabled, with the rail among its own. -/
def Live.railPort (l : Live) (r : Nat) : Option Nat :=
  (List.range 16).find? (fun p => l.cb (oVc p) 0 7 && (List.range 4).any (fun k => l.portRail p k = some r))

/-- An unmasked event flag is set (R263, R265). -/
def VcRail.alerts (v : VcRail) : Bool :=
  (v.set && !v.mask.getLsbD 0) || (v.sup && !v.mask.getLsbD 1) || v.cap || v.kpr || v.down || v.sfail

/-- `MATEEN` of the image in force. -/
def Live.mateen (l : Live) : Bool := l.cb 0xA000 0 21

/-- `VALERT_Nn` is driven low (R263, R270, R272). -/
def Live.valert (l : Live) (p : Nat) : Bool :=
  l.pen p &&
    (if l.fc.safe then !l.mateen
     else l.keeper.live && (List.range 4).any (fun k => match l.portRail p k with | some r => (l.vr r).alerts | none => false))

/-! ## Measurements -/

/-- `VMEAS` in µV and `IMEAS` in µA, by a station's full scales (Table 3.3). -/
def vScale (s : Stn) (v : BitVec 14) : Rat := (v.toNat : Rat) * s.vfs * 10000 / 16383
def iScale (s : Stn) (v : BitVec 14) : Rat := (v.toInt : Rat) * s.ifs * 10000 / 8191

/-- A slot's values count: valid or predicted (R143). -/
def Slot.usable (k : Slot) : Bool := k.active && (k.up = .valid || k.up = .predicted)

/-! ## Rails (R209, R210) -/

def Live.mStn (l : Live) (r m : Nat) : Option (Nat × Stn) := l.memberStn (l.railTile r) m
def Live.mem (l : Live) (r m : Nat) : Member := tget {} (l.rail r).members m
def Live.modMem (l : Live) (r m : Nat) (f : Member → Member) : Live :=
  l.modRail r fun k => { k with members := tmod {} k.members m f }
def Live.mMoored (l : Live) (r m : Nat) : Bool := match l.mStn r m with | some p => p.2.st = .moored | none => false
/-- A member handed over alone joins in its handover course, before it is MOORED (R220). -/
def Live.mJoined (l : Live) (r m : Nat) : Bool :=
  match l.mStn r m with
  | some p =>
    let t := l.tile (l.railTile r)
    p.2.st = .matched && ((p.2.handed && p.2.alone) || (t.alone && t.committed && t.handing.contains p.1))
  | none => false
def Live.mRot (l : Live) (r m : Nat) : Bool := (l.mMoored r m || l.mJoined r m) && !(l.mem r m).removed
def Live.mAct (l : Live) (r m : Nat) : Bool := l.mRot r m && !(l.mem r m).shed
/-- Members in rotation, and active members, ascending. -/
def Live.rots (l : Live) (r : Nat) : List Nat := (List.range 8).filter (l.mRot r)
def Live.acts (l : Live) (r : Nat) : List Nat := (List.range 8).filter (l.mAct r)

/-- θ of a member's station as a fraction. -/
def Live.mTheta (l : Live) (r m : Nat) : Rat :=
  match l.mStn r m with | some p => ((l.point p.1).theta : Rat) / 256 | none => 1

/-- The rating `RATING` in µA, the phase share, and a percentage of it. -/
def Live.rating (l : Live) (r : Nat) : Rat := (l.cf (oRail r) 1 31 16 : Rat) * 10000
def Live.share (l : Live) (r : Nat) : Rat := if l.ncfg r = 0 then 0 else l.rating r / l.ncfg r

/-- No active member has healthy sense, with at least one active member (R233). -/
def Live.senseLost (l : Live) (r : Nat) : Bool :=
  !(l.acts r).isEmpty && (l.acts r).all (fun m => (l.mem r m).senseF)

/-- The rail rating R_rail (R230, R233). -/
def Live.railRating (l : Live) (r : Nat) : Rat :=
  let lost := l.senseLost r
  let w (m : Nat) : Rat := if !l.mRot r m then 0 else if lost || (l.mem r m).senseF then 4 / 5 else 1
  if l.ncfg r = 0 then 0 else l.rating r * sumR ((List.range 8).map (fun m => w m * l.mTheta r m)) / l.ncfg r

/-! ## Derates and caps (R235, R378, R379) -/

/-- The objects that a station, tile, rail, input or string stands for, as far as DERATE goes (Table 11.5). -/
def Live.derateTile (l : Live) (obj : Nat) : Option Nat :=
  if 0x2000 ≤ obj && obj < 0x2100 then (l.stn (obj - 0x2000)).tile
  else if 0x3000 ≤ obj && obj < 0x30A0 then some (obj - 0x3000)
  else if 0x4000 ≤ obj && obj < 0x4030 then some (l.railTile (obj - 0x4000))
  else if 0x6000 ≤ obj && obj < 0x6040 then l.inputTile (obj - 0x6000)
  else if 0x7000 ≤ obj && obj < 0x7010 then some (l.strTile (obj - 0x7000))
  else none

/-- A DERATE occurrence stands against a tile's rail, input or string. -/
def Live.derated (l : Live) (t : Nat) : Bool :=
  l.reacting.any (fun o => o.cls = .derate && l.derateTile o.d.obj.toNat = some t)

/-- δ of R378. -/
def Live.drf (l : Live) : Rat := (if l.given 0x9FFF 3 then (l.cf 0x9FFF 3 31 24 : Rat) else 192) / 256

/-- The factor that DERATE puts on a tile's input or string: δ, or 1 (R378, Table 11.5). -/
def Live.derFactor (l : Live) (t : Nat) : Rat := if l.derated t then l.drf else 1

/-- The Power Path Manager's cap level of a rail (R297). -/
def Live.ppLevel (l : Live) (r : Nat) : Nat := tget 16 l.pp.levels r

/-- The caps that stand against a rail, in µA (R235, R297, R378). -/
def Live.caps (l : Live) (r : Nat) : List Rat :=
  let k := l.rail r
  let post := (tget 0 l.loop.pol (192 + r)).toInt
  (k.capOpen ++ k.capLost.toList) ++
    (if l.ppLevel r < 16 then [(l.ppLevel r : Rat) * l.rating r / 16] else []) ++
    (if 0 < post then [(post : Rat) / 8388608 * l.rating r] else []) ++
    (if l.derated (l.railTile r) then [l.drf * k.rrail] else [])

/-- The cap in force on a rail (R235): the lowest that stands. -/
def Live.cap (l : Live) (r : Nat) : Option Rat := (l.caps r).min?

/-- The cap level L that the cap in force gives (R266). -/
def Live.capLevel (l : Live) (r : Nat) : Nat :=
  match l.cap r with
  | none => 16
  | some c => if l.rating r = 0 then 16 else min 16 (truncR (16 * c / l.rating r)).toNat

/-- V_eff in 1/16 µV (R216). -/
def Rail.veff (k : Rail) : Nat := match k.vfb with | some f => min k.vr f | none => k.vr

/-- A ramp is in progress (R216), as it stands at a course start; the course keeps it (R217). -/
def Rail.ramping (k : Rail) : Bool := k.vr ≠ k.vrPrev || k.veff < k.vr || k.st = .softstart || k.st = .stopping

/-! ## Isolation (Table 11.5, R380) -/

/-- An ISOLATE occurrence that stands holds the tile. -/
def Live.isolates (l : Live) (o : Occ) (t : Nat) : Bool :=
  let obj := o.d.obj.toNat
  o.cls = .isolate &&
    (obj = oTile t || (0x3000 ≤ obj && obj < 0x30A0 && l.underBus (obj - 0x3000) t) ||
     (obj = 0x3FFF && l.courseTile t && ((l.lane o.d.aux.toNat).sched.any (fun e => e.1 = t))) ||
     (0x4000 ≤ obj && obj < 0x4030 && l.railTile (obj - 0x4000) = t) ||
     (0x6000 ≤ obj && obj < 0x6040 && l.inputTile (obj - 0x6000) = some t) ||
     (0x7000 ≤ obj && obj < 0x7010 && l.strTile (obj - 0x7000) = t) ||
     (0x1000 ≤ obj && obj < 0x1008 && l.courseTile t && (l.memberRings t).contains (obj - 0x1000)))
def Live.isolated (l : Live) (t : Nat) : Bool := l.reacting.any (fun o => l.isolates o t)

/-- The rings whose bricks an ISOLATE on the object of a detail changes (R46, Table 11.5). -/
def Live.isolateRings (l : Live) (d : Detail) : List Nat :=
  let obj := d.obj.toNat
  if 0x1000 ≤ obj && obj < 0x1008 then ((l.tiles.filter (fun t => l.courseTile t && (l.memberRings t).contains (obj - 0x1000))).flatMap l.memberRings).dedup
  else if 0x2000 ≤ obj && obj < 0x2100 then [(l.stn (obj - 0x2000)).ring]
  else if obj = 0x3FFF then ((l.tiles.filter (fun t => l.courseTile t && (l.lane d.aux.toNat).sched.any (fun e => e.1 = t))).flatMap l.memberRings).dedup
  else match l.derateTile obj with | some t => ((t :: l.tiles.filter (l.underBus t)).flatMap l.memberRings).dedup | none => []

/-- A fault of class ALERT or higher stands uncleared against an object (R202).  DESIGN CHOICE: a consequential occurrence, which
needs no clear (R390), does not count (log entry 86). -/
def Live.alertOn (l : Live) (obj : Nat) : Bool :=
  l.fc.table.any (fun o => o.d.obj.toNat = obj && o.cls ≠ .log && !o.conseq && !o.cleared)

/-! ## Zones (Table 8.x, R43) -/

/-- The zone of a tile. -/
def Live.zoneOf (l : Live) (t : Nat) : Nat := l.tZone t

/-- `FAULT_N` is low (R383). -/
def Live.faultLow (l : Live) : Bool :=
  l.fc.safe || l.pwr.st = .held || l.fc.table.any (fun o => o.cls ≠ .log && !o.conseq && !o.cleared)

/-- A field of the power path object, with its default where the image gives no word. -/
def Live.ppf (l : Live) (w hi lo dflt : Nat) : Nat := if l.given 0x6FFF w then l.cf 0x6FFF w hi lo else dflt
/-- `KH`, code/200 (Table 8.9). -/
def Live.khSet (l : Live) : Nat := l.ppf 3 31 24 160

/-- k_h of an input, code/200: `KH`, lowered under R289 to no lower than 0.50 (R284). -/
def Live.khNow (l : Live) (j : Nat) : Nat :=
  let c := (l.inp j).khCut
  if c = 0 then l.khSet else max 100 (l.khSet - c)

end Sys2Proof.Machine
end

