-- ==== Sys2Proof/Machine/Objects.lean ====
section
/-! DEFINITION. Object words that a snapshot holds (Table 16.5) and the quantities they show. -/
namespace Sys2Proof.Machine

/-! ## Quantities -/

/-- Units u in 1 mAh at a member's `IFS` (R320): 3.6 A·s. -/
def unitsPerMah (ifs : Nat) : Rat := if ifs = 0 then 0 else 720000000 * 8191 * 100 / ifs

/-- Q_eff in mAh (R327). -/
def Str.qeff (s : Str) : Rat := s.qcap * s.fade
/-- Q_eff in units u. -/
def Str.qeffU (s : Str) : Rat := s.qeff * unitsPerMah s.ifs
/-- A in mAh. -/
def Str.mah (s : Str) : Rat := if unitsPerMah s.ifs = 0 then 0 else (s.a.toInt : Rat) / unitsPerMah s.ifs
/-- SOC_cnt (R321): an A of 0 is 1 whatever the unit; the manual states no quotient by a Q_eff of 0. -/
def Str.soc (s : Str) : Rat :=
  if s.qeff ≠ 0 && s.a = 0 then 1
  else if s.qeffU = 0 then clampR (1 - Config.noQuotient s.a.toInt) 0 1
  else clampR (1 - (s.a.toInt : Rat) / s.qeffU) 0 1


/-- The capacitance in use, in F, and bus settings in V (R301). -/
def Live.busC (l : Live) : Rat := l.pp.cused.getD ((l.cf 0x6FFF 2 31 16 : Rat) / 10000)
def Live.vminbus (l : Live) : Rat := (if l.given 0x6FFF 1 then (l.cf 0x6FFF 1 15 0 : Rat) else 40000) / 1000
def Live.etavin (l : Live) : Rat := (if l.given 0x6FFF 2 then (l.cf 0x6FFF 2 15 8 : Rat) else 80) / 100


/-- `MATEUP` (Table 12.9). -/
def Live.mateUp (l : Live) : Bool := match l.keeper.mateAt with | some t => l.now < t + 10 * bondTicks | none => false


/-- `PINMODE` in force: a member that is parked for a relay is excluded (R598). -/
def Live.pinmode (l : Live) (j : Nat) : Nat :=
  match (l.inputTile j).bind l.mooredStn with
  | some p => if p.2.fwPark then 1 else fld (l.hw (oInput j) 2) 31 30
  | none => fld (l.hw (oInput j) 2) 31 30
def Live.pinp (l : Live) (j : Nat) : Rat := (fld (l.hw (oInput j) 2) 15 0 : Rat)

/-! ## Codes -/

/-- Table 6.3. -/
def RailSt.code : RailSt → Nat
  | .idle => 0 | .off => 1 | .softstart => 2 | .on => 3 | .foldback => 4 | .hiccup => 5 | .latched => 6 | .stopping => 7
/-- Table 8.4. -/
def SupplySt.code : SupplySt → Nat
  | .normal => 0 | .assist => 1 | .capping => 2 | .shedding => 3 | .feedlost => 4 | .holdup => 5
/-- Table 8.2. -/
def InSt.code : InSt → Nat
  | .absent => 0 | .dark => 1 | .probing => 2 | .sharing => 3 | .guarded => 4
/-- The code of a reason (Table 3.9), and of an exercise state (Table 9.5). -/
def StnReason.code : StnReason → Nat
  | .none => 0 | .unplaced => 1 | .rating => 2 | .vendor => 3 | .firmware => 4 | .duplicate => 5 | .mismatch => 6 | .isolated => 7
def ExSt.code : ExSt → Nat
  | .idle => 0 | .due => 1 | .running => 2
/-- The code of a keeper state (Table 12.9). -/
def KSt.code : KSt → Nat
  | .watch => 0 | .warming => 1 | .waiting => 2 | .claiming => 3 | .keeper => 4 | .released => 5

/-- A bit for each number below `n` that satisfies `p`. -/
def maskN (n : Nat) (p : Nat → Bool) : Nat := (((List.range n).filter p).map (2 ^ ·)).sum

/-- A fraction in units of `u`, held to `w` bits. -/
def sat (w : Nat) (x u : Rat) : Nat := satNat (x / u) (2 ^ w - 1)

/-! ## Words -/

/-- Words 0 and 1 of the collector object (Table 11.11); `NSTAND` leaves out consequential occurrences, which need
no clear (R390). -/
def Live.wCollector (l : Live) : Nat → Word
  | 0 => flag l.fc.safe 31 ||| flag l.faultLow 30 ||| flag l.fc.ovfl 29 |||
         put (l.fc.table.filter (fun o => o.stands && o.cls ≠ .log && !o.conseq)).length 16 13 |||
         put (maskN 16 (fun b => (l.block b).closeAt.isSome)) 0 16
  | 1 => put l.fc.safeCode.toNat 16 16 ||| put l.fc.safeObj.toNat 0 16
  | _ => 0

/-- Status words of the keeper object (Table 12.9). -/
def Live.wKeeper (l : Live) : Nat → Word
  | 2 => put l.keeper.st.code 29 3 ||| flag l.keeper.roleB 28 ||| flag l.keeper.live 27 ||| flag l.mateUp 26 |||
         flag (match l.keeper.hbinAt with | some t => l.now ≤ t + 200000 | none => false) 25 ||| flag l.keeper.ckOk 24 |||
         put (min l.keeper.nrefuse 255) 16 8 ||| put l.keeper.epoch.toNat 0 16
  | 3 => l.keeper.ckSeq
  | 4 => match l.keeper.ckAt with | some t => BitVec.ofNat 32 (min ((l.now - t) / bondTicks) 0xFFFFFFFF) | none => 0
  | 5 => put l.keeper.mateVer.toNat 16 16 ||| put Config.mateVersion.toNat 0 16
  | 6 => BitVec.ofNat 32 l.bond
  | 7 => BitVec.ofNat 32 (l.bond / 2 ^ 32)
  | _ => 0

/-- Status words of the power path object (Table 8.7). -/
def Live.wPower (l : Live) : Nat → Word
  | 12 => put l.pp.st.code 29 3 ||| put (l.railNums.filter (fun r => l.ppLevel r < 16)).length 23 6 |||
          put (l.railNums.filter (fun r => (l.rail r).shedOrd)).length 17 6 ||| flag l.pp.final 16 |||
          put (sat 16 l.pp.f (1 / 32768)) 0 16
  | 13 => put (sat 16 l.pp.sumC 1) 16 16 ||| put (sat 16 l.pp.pin 1) 0 16
  | 14 => put (sat 16 l.pp.vbus (1 / 1000)) 16 16 ||| put (sat 16 (sumR (l.pp.grants.map (·.2))) 1) 0 16
  | 15 => put (if l.pp.st = .holdup then sat 16 l.pp.energy (1 / 100) else 0) 16 16 ||| put (sat 16 l.busC (1 / 10000)) 0 16
  | _ => 0

/-- The engine word (Table 4.6). -/
def Live.wEngine (l : Live) : Word :=
  (l.hw 0x3FFF 0 &&& 0xFF000000) ||| put l.loop.eband 21 3 ||| flag l.loop.decact 20 ||| put l.loop.vcnow 12 8

/-- Word 7 of the Thermal Manager object (Table 10.5). -/
def Live.wDie (l : Live) : Word :=
  put l.therm.dband 29 3 ||| put (maskN 8 (fun n => (tget {} l.therm.die n).broken)) 21 8 ||| put (satInt (l.therm.tdie * 100) 16) 0 16

/-- Status words of a rail (Table 6.6).  `IOUT` is free while I_rail is unknown (R233). -/
def Live.wRail (l : Live) (r : Nat) : Nat → Word
  | 9 =>
    let k := l.rail r
    let a := l.acts r
    put k.st.code 29 3 ||| put a.length 25 4 ||| put (l.rots r).length 21 4 |||
      put (if a.isEmpty then 0 else a.getD (k.rho % a.length) 0) 18 3 ||| flag k.rampC 17 |||
      flag (!k.capOpen.isEmpty || k.capLost.isSome) 16 ||| put (maskN 8 (fun m => (l.mem r m).removed)) 8 8 |||
      put (maskN 8 (fun m => (l.mem r m).senseF)) 0 8
  | 10 => BitVec.ofNat 32 ((l.rail r).vt / 16)
  | 11 => BitVec.ofNat 32 ((l.rail r).veffC / 16)
  | 12 => BitVec.ofNat 32 (sat 32 (l.rail r).v 1)
  | 13 => match (l.rail r).i with | some i => BitVec.ofNat 32 (satInt (i / 1000) 32) | none => Config.ioutUnknown r l.now
  | 14 => put (sat 16 (l.rail r).rrail 10000) 16 16 ||| put (sat 16 (l.rail r).ilim 10000) 0 16
  | 15 => put (maskN 8 (fun m => (l.mem r m).shed)) 24 8 ||| put (min (l.rail r).hiccnt 15) 20 4 ||| put (l.rail r).cause 16 4
  | _ => 0

/-- Status words of a string (Table 9.4). -/
def Live.wString (l : Live) (k : Nat) : Nat → Word
  | 12 => put (sat 16 (l.str k).socrep (1 / 10000)) 16 16 ||| put (sat 16 (l.str k).soc (1 / 10000)) 0 16
  | 13 => put (sat 16 (l.str k).qcap 10) 16 16 ||| put (sat 16 (l.str k).qeff 10) 0 16
  | 14 => BitVec.ofNat 32 (satInt (l.str k).mah 32)
  | 15 => put (sat 16 (l.str k).rhat (1 / 100000)) 16 16 ||| put (sat 16 (l.str k).rn (1 / 100000)) 0 16
  | 16 =>
    let s := l.str k
    flag s.fulla 31 ||| flag s.emptya 30 ||| flag s.stale 29 ||| flag s.uncert 28 ||| flag s.chginh 27 ||| flag s.dwin 26 |||
      flag s.heat 25 ||| flag s.cycle 24 ||| put (sat 8 s.fade (1 / 256)) 16 8 ||| put (sat 8 (s.tcell + 64) 1) 8 8
  | 17 => BitVec.ofNat 32 (l.str k).tlearn
  | _ => 0

/-- Status words of an input (Table 8.8). -/
def Live.wInput (l : Live) (j : Nat) : Nat → Word
  | 3 =>
    let i := l.inp j
    put i.st.code 29 3 ||| flag i.rhat.isSome 28 ||| flag i.pinned 27 ||| put (sat 8 i.kappa (1 / 200)) 16 8 |||
      put (min i.trips.length 255) 8 8 ||| put (l.khNow j) 0 8
  | 4 => match (l.inp j).rhat with
    | some x => put (sat 16 x (1 / 10)) 16 16 ||| put (sat 16 (l.inp j).vs (1 / 10)) 0 16
    | none => 0
  | 5 => put (if (l.inp j).rhat.isSome then sat 16 (l.inp j).pmax (1 / 10) else 0) 16 16 ||| put (sat 16 (l.inp j).ceil (1 / 10)) 0 16
  | 6 => put (sat 16 ((l.inp j).vbar * (l.inp j).ibar) (1 / 10)) 16 16 ||| put (sat 16 (l.inp j).iref (1 / 10000)) 0 16
  | _ => 0

/-- The object words of a snapshot's page 0, in the order of Table 16.5. -/
def Live.snapWords (l : Live) : List Word :=
  [0, 1].map l.wCollector ++ [2, 3, 4, 5, 6, 7].map l.wKeeper ++ [12, 13, 14, 15].map l.wPower ++ [l.wEngine, l.wDie] ++
    l.railNums.flatMap (fun r => [9, 12, 13].map (l.wRail r)) ++ l.strNums.flatMap (fun k => [12, 16].map (l.wString k)) ++
    l.inputNums.flatMap (fun j => [3, 6].map (l.wInput j))

end Sys2Proof.Machine
end

