-- ==== Sys2Proof/Machine/Recorder.lean ====
section
/-! DEFINITION. The recorder: flush ring, captures, power-fail snapshots, trace channels, the counter hub's
occupancy samples, instruction samples and the shelf clock (chapter "Black box, trace and counters"). -/
namespace Sys2Proof.Machine

/-- The recorder can work: D6 is on and block 11 is not being reset (R537). -/
def Live.recUp (l : Live) : Bool := l.dom 6 && ((l.block 11).closeAt.isNone || (l.block 11).back)

/-! ## Flush ring (R518 to R520) -/

/-- The page after page `p` of the flush ring, pages 16 to 127 (R518). -/
def nextPage (p : Nat) : Nat := if p ≥ 127 then 16 else p + 1

/-- A page of the flush ring is erased. -/
def Live.pageErased (l : Live) (p : Nat) : Bool := (tfind l.recd.flash p).isNone

/-- Erase a page where Table 10.2 allows it (R520). -/
def Live.erasePage (l : Live) (p : Nat) : Live :=
  if l.flashErase then l.modRec fun r => { r with flash := tdrop r.flash p } else l

/-- Keep the two pages after the write position erased (R520). -/
def Live.keepErased (l : Live) : Live :=
  (l.erasePage l.recd.wpos).erasePage (nextPage l.recd.wpos)

/-- A flush may start: no page in progress, no commit running (R524), the recorder is up, programming is
allowed, and an erased page is at the write position or can be made there (R520). -/
def Live.canFlush (l : Live) : Bool :=
  l.recUp && l.recd.job.isNone && l.recd.snap.isNone && l.flashProgram &&
    (l.pageErased l.recd.wpos || l.flashErase)

/-- Start programming `page` at the write position. -/
def Live.startPage (l : Live) (page : FlushPage) : Live :=
  let l := (l.erasePage l.recd.wpos).flashBegin 0
  l.modRec fun r =>
    let n := (r.pseq + 1) % 2 ^ 32
    { r with pseq := n, job := some { pos := r.wpos, page := { page with pseq := n, boot := BitVec.ofNat 16 r.bootcnt.toNat } } }

/-- The oldest unflushed records, at most 63, oldest first. -/
def Live.unflushed (l : Live) : List EventRec := ((l.recd.ring.take l.recd.unfl).reverse).take 63

/-- Start a page of events. -/
def Live.startEvents (l : Live) : Live :=
  if l.canFlush && l.recd.unfl ≠ 0 then l.startPage { recs := l.unflushed } else l

/-- The lowest capture slot that is being flushed. -/
def Live.flushingSlot (l : Live) : Option Nat := (List.range 4).find? (fun s => (l.capSlot s).state = 4)

/-- The points of page `i` of a capture: a page holds 2016 octets of the slot, whose first 64 are its header (R518, R521). -/
def capPage (points : List (List Half)) (i : Nat) : List (List Half) :=
  if i = 0 then points.take 244 else (points.drop (244 + 252 * (i - 1))).take 252

/-- Start the next capture page that waits (R522). -/
def Live.startCapture (l : Live) : Live :=
  match l.flushingSlot with
  | none => l
  | some s =>
    if l.canFlush then
      let c := l.capSlot s
      l.startPage { capture := true, index := c.page, capNum := c.count, slot := s,
                    points := capPage c.points.reverse c.page }
    else l

/-- `FLUSHT` has passed since the oldest unflushed record arrived, 63 records wait (R519), or RCMD FLUSH has asked (R536). -/
def Live.flushDue (l : Live) : Bool :=
  63 ≤ l.recd.unfl || (l.recd.unfl ≠ 0 && l.recd.flushNow ≠ 0) ||
    (l.recd.unfl ≠ 0 && l.recd.unflAt + (let f := l.cf 0xB000 0 31 24; if f = 0 then 60 else f) * secTicks ≤ l.now)

/-- FLUSH_PAGE (R519). -/
def execFlushPage (s : State) : Host.Outcome State Fault Refusal :=
  s.upd fun l => if l.flushDue then l.startEvents else l.startCapture

/-- The tick at which a record of tick stamp `t` was written. -/
def Live.whenTick (l : Live) (t : Nat) : Nat := l.now - (l.tick + 2 ^ 48 - t) % 2 ^ 48

/-- The page's contents are flash data: count them as flushed (R519, R522). -/
def Live.pageFlushed (l : Live) (p : FlushPage) : Live :=
  if p.capture then
    l.modCapSlot p.slot fun c =>
      let rearm := bit (l.cw (0xB200 + p.slot) 0) 25
      if p.index = 5 then
        (if rearm then { c with state := 1, points := [], page := 0 } else { c with state := 3, page := 0 })
      else { c with page := p.index + 1 }
  else
    l.modRec fun r =>
      let left := r.unfl - p.recs.length
      let at_ := match (r.ring.take left).reverse with | [] => l.now | e :: _ => l.whenTick e.tick
      { r with unfl := left, unflAt := at_, flushNow := r.flushNow - p.recs.length }

/-- FLUSH_PAGE_DONE (R519, R520): the page reads back, or it is programmed again on the next page, and a second
failure raises `REC_FLASH_FAIL`. -/
def execFlushPageDone (ok : Bool) (s : State) : Host.Outcome State Fault Refusal :=
  s.upd fun l =>
    match l.recd.job with
    | none => l
    | some j =>
      if j.wait && !l.flashProgram then l
      else
      let l := (l.modRec fun r =>
        { r with flash := tset r.flash j.pos { j.page with ok := ok }, wpos := nextPage j.pos, job := none }).flashEnd 0
      if ok then
        let l := (l.pageFlushed j.page).count 113
        l.keepErased.startCapture
      else if j.retried then l.keepErased.raise 0xE002 0xB000
      else
        let l := l.erasePage l.recd.wpos
        if l.pageErased l.recd.wpos then
          (l.modRec fun r => { r with job := some { pos := r.wpos, page := j.page, retried := true, wait := !l.flashProgram } }).flashBegin 0
        else l.raise 0xE002 0xB000

/-- RCMD FLUSH taken at a bond boundary: every record unflushed then is flushed at once, page after page (R536). -/
def Live.rcmdFlush (l : Live) : Live := (l.modRec fun r => { r with flushNow := r.unfl }).startEvents

/-! ## Captures (R521, R522) -/

/-- Enable or disable slots as the image in force configures them. -/
def Live.capApply (l : Live) : Live :=
  l.each 4 fun l s =>
    if l.cb (0xB200 + s) 0 31 then
      (if (l.capSlot s).state = 0 then l.modCapSlot s fun c => { c with state := 1, points := [] } else l)
    else l.modCapSlot s fun c => { c with state := 0, points := [], post := 0 }

/-- An armed slot triggers; a trigger at any other time, or in HOLDUP (R556), is ignored (R522). -/
def Live.capTrigger (l : Live) (s : Nat) (code : Half) : Live :=
  if (l.capSlot s).state = 1 && l.pwr.st ≠ .holdup then
    let l := l.modCapSlot s fun c =>
      { c with state := 2, post := l.cf (0xB200 + s) 1 15 0, trigCode := code, trigAt := l.tick }
    l.modRec fun r => { r with lastCap := some s }
  else l

/-- The severity of a class, for the test "class `CCLS` or higher". -/
def Cls.code : Cls → Nat
  | .log => 0 | .alert => 1 | .derate => 2 | .isolate => 3 | .reset => 4 | .safe => 5

/-- The collector took an occurrence: every armed slot it triggers (R522). -/
def Live.capOccurrence (l : Live) (code : Half) (cls : Cls) : Live :=
  l.each 4 fun l s =>
    let w := l.cw (0xB200 + s) 0
    let hit := match fld w 30 29 with
      | 0 => fld w 15 0 = code.toNat
      | 1 => fld w 28 26 ≤ cls.code
      | _ => false
    if bit w 31 && hit then l.capTrigger s code else l

/-- One point of a slot at a course start of its ring (R521): kept while armed, counted while triggered. -/
def Live.capPoint (l : Live) (s : Nat) (pt : List Half) : Live :=
  l.modCapSlot s fun c =>
    if c.skip + 1 < max 1 (l.cf (0xB200 + s) 2 31 24) then { c with skip := c.skip + 1 }
    else
      match c.state with
      | 1 => { c with skip := 0, points := (pt :: c.points).take (l.cf (0xB200 + s) 1 31 16) }
      | 2 => if c.post = 0 then { c with skip := 0 } else { c with skip := 0, points := pt :: c.points, post := c.post - 1 }
      | _ => { c with skip := 0 }

/-- CAPTURE_FREEZE (R522): the post window is full; the slot freezes, a CAPTURE record is written and the slot
is flushed as 6 pages. -/
def execCaptureFreeze (slot : Fin 4) (s : State) : Host.Outcome State Fault Refusal :=
  s.upd fun l =>
    let c := l.capSlot slot
    if c.state = 2 && c.post = 0 then
      let first := (l.recd.pseq + 1) % 2 ^ 32
      let l := l.modCapSlot slot fun c => { c with state := 4, count := c.count + 1, page := 0, first := first }
      let l := l.record 0x07 ([BitVec.ofNat 8 slot.val, 0] ++ leBytes c.trigCode.toNat 2 ++ leBytes first 4)
      l.startCapture
    else l

/-- CCMD TRIGGER taken (R522); the record's trigger code is 0 for a host trigger. -/
def Live.ccmdTrigger (l : Live) (slot : Nat) : Live := l.capTrigger slot 0

/-- CCMD REARM taken (R522): a frozen slot arms again. -/
def Live.ccmdRearm (l : Live) (slot : Nat) : Live :=
  if (l.capSlot slot).state = 3 then l.modCapSlot slot fun c => { c with state := 1, points := [], post := 0 } else l

/-! ## Power-fail snapshot (R523 to R526) -/

/-- One area. -/
def Live.area (l : Live) (a : Nat) : SnapArea := if a = 0 then l.recd.area0 else l.recd.area1

/-- Change one area. -/
def Live.modArea (l : Live) (a : Nat) (f : SnapArea → SnapArea) : Live :=
  l.modRec fun r => if a = 0 then { r with area0 := f r.area0 } else { r with area1 := f r.area1 }

/-- The area of the newest valid snapshot, by boot count and then tick (R525, R526). -/
def Recorder.newest (r : Recorder) : Option Nat :=
  match r.area0.hdrOk, r.area1.hdrOk with
  | false, false => none
  | true, false => some 0
  | false, true => some 1
  | true, true =>
    let a := r.area0.content
    let b := r.area1.content
    if a.boot.toNat > b.boot.toNat || (a.boot = b.boot && a.tick ≥ b.tick) then some 0 else some 1

/-- Keep the time since which RUN has had no armed area (R526). -/
def Live.armWatch (l : Live) : Live :=
  l.modRec fun r =>
    { r with notArmed := if l.pwr.st = .run && r.armed.isNone then (match r.notArmed with | none => some l.now | t => t)
                         else none }

/-- A commit is requested (R524): the content is frozen and pages follow; without effect when no area is armed
or a commit runs.  While block 11 is being reset it waits for it (R537). -/
def Live.snapRequest (l : Live) (cause : Nat) : Live :=
  if l.recd.snap.isSome then l
  else if l.dom 6 && !l.recUp then l.modRec fun r => { r with snapDue := some cause }
  else
    match l.recd.armed with
    | none => l
    | some a =>
      if l.recUp then
        let c : SnapContent :=
          { boot := l.recd.bootcnt, tick := l.tick, secs := l.recd.clkSec,
            cause := cause + (if l.therm.dband = 5 then 0x80 else 0), words := l.snapWords,
            recs := (l.recd.ring.take 252).reverse, occs := l.fc.table,
            cap := l.recd.lastCap.map (fun s => (s, { l.capSlot s with points := (l.capSlot s).points.take 504 })) }
        ((l.modRec fun r => { r with armed := none,
                                     snap := some { area := a, askedAt := l.now, content := c,
                                                    waiting := l.therm.dband = 5 } }).flashBegin 1).armWatch
      else l

/-- The die band has been judged: a waiting commit goes on at `T4` or cooler, and one that meets `T5` before its
first page waits and carries [7] (R525). -/
def Live.snapBand (l : Live) : Live :=
  match l.recd.snap with
  | none => l
  | some j =>
    if l.therm.dband = 5 then
      if j.page = 1 && !j.waiting then
        let c := { j.content with cause := j.content.cause % 0x80 + 0x80 }
        l.modRec fun r => { r with snap := some { j with waiting := true, content := c } }
      else l
    else if j.waiting then (l.modRec fun r => { r with snap := some { j with waiting := false } }).flashBegin 1
    else l

/-- REC_SNAP_FAIL (R538): the commit has not completed within 5 000 000 ticks. -/
def execRecSnapFail (s : State) : Host.Outcome State Fault Refusal :=
  s.upd fun l =>
    match l.recd.snap with
    | none => l
    | some j =>
      if !j.late && j.askedAt + 5000000 ≤ l.now then
        (l.modRec fun r => { r with snap := some { j with late := true } }).raise 0xE005 0xB000
      else l

/-- REC_NOT_ARMED (R526): no area has been armed for 1 s of RUN. -/
def execRecNotArmed (s : State) : Host.Outcome State Fault Refusal :=
  s.upd fun l =>
    match l.recd.notArmed with
    | some t => if l.pwr.st = .run && l.recd.armed.isNone && t + secTicks ≤ l.now then l.raiseOnce 0xE003 0xB000 else l
    | none => l

/-- The recorder starts, or the controller returns to RUN: an area is to be armed where none is (R526). -/
def Live.armAsk (l : Live) : Live := l.modRec fun r => { r with armDue := r.armed.isNone }

/-- SNAPSHOT_AREA_ARMED (R526): the erase of the area that does not hold the newest valid snapshot completes. -/
def execSnapshotAreaArmed (area : Fin 2) (s : State) : Host.Outcome State Fault Refusal :=
  s.upd fun l =>
    if l.recUp && l.recd.armDue && l.recd.snap.isNone && l.recd.armed.isNone && l.recd.newest ≠ some area.val && l.flashErase then
      ((l.modArea area fun _ => {}).modRec fun r => { r with armed := some area.val, armDue := false }).armWatch
    else l

/-- RCMD SNAPNOW taken at a bond boundary (R524): cause 3. -/
def Live.rcmdSnapnow (l : Live) : Live := l.snapRequest 3

/-! ## Trace channels (R527 to R529) -/

/-- Entries a channel's buffer holds: 512 to a unit (R512, R527). -/
def Live.traceCap (l : Live) (t : Nat) : Nat := 512 * l.cf (0xB100 + t) 0 15 10

/-- Enable or disable channels as the image in force configures them. -/
def Live.traceApply (l : Live) : Live :=
  l.each 8 fun l t =>
    if l.cb (0xB100 + t) 0 31 then
      (if (l.trace t).state = 0 then l.modTrace t fun _ => { state := 1 } else l)
    else l.modTrace t fun c => { pulse := c.pulse }

/-- Drive or release a GPIO output. -/
def Live.setGpio (l : Live) (n : Nat) (v : Bool) : Live :=
  { l with pins := { l.pins with gpioOut := if v then l.pins.gpioOut ||| BitVec.ofNat 16 (2 ^ n) else l.pins.gpioOut &&& ~~~(BitVec.ofNat 16 (2 ^ n)) } }

/-- A trigger's record and pulse (R529). -/
def Live.traceFire (l : Live) (t kind : Nat) (value : W24) : Live :=
  let l := l.record 0x0B ([BitVec.ofNat 8 t, BitVec.ofNat 8 kind, 0, 0] ++ leBytes value.toNat 3)
  if l.cb (0xB100 + t) 0 9 then
    (l.setGpio (l.cf (0xB100 + t) 0 8 5) true).modTrace t fun c => { c with pulse := some l.now }
  else l

/-- A channel's trigger on an entry (R529), before decimation. -/
def traceHit (kind : Nat) (level : W24) (prev : Option W24) (v : W24) : Bool :=
  match kind with
  | 1 => level.slt v
  | 2 => v.slt level
  | 3 => match prev with
    | none => false
    | some p => (decide (v.toInt - level.toInt < 0)) != (decide (p.toInt - level.toInt < 0))
  | _ => false

/-- Put an entry before those of higher lanes that were committed in the same tick; newest first (R196). -/
def traceIns (e : TraceEnt) : List TraceEnt → List TraceEnt
  | [] => [e]
  | x :: rest => if x.tick = e.tick && e.lane < x.lane then x :: traceIns e rest else e :: x :: rest

/-- Store one entry: the buffer wraps, or the channel stops when it is full (R527). -/
def Live.traceStore (l : Live) (t : Nat) (e : TraceEnt) : Live :=
  let cap := l.traceCap t
  let stop := l.cb (0xB100 + t) 0 30
  let l := l.modTrace t fun c =>
    let c := { c with ents := (traceIns e c.ents).take cap, stored := c.stored + 1, wrap := c.wrap || (!stop && cap ≤ c.ents.length) }
    if stop && cap ≤ c.ents.length then { c with state := 3 } else c
  l.count 115

/-- One committed TAP entry of a channel (R196, R527, R529). -/
def Live.traceEntry (l : Live) (t tile lane : Nat) (course : Half) (v : W24) : Live :=
  let c := l.trace t
  if !(l.cb (0xB100 + t) 0 31) || l.pwr.st = .holdup || !(c.state = 1 || c.state = 2) then l
  else
    let w1 := l.cw (0xB100 + t) 1
    let kind := fld w1 31 29
    let hit := c.state = 1 && traceHit kind (BitVec.ofNat 24 (fld w1 23 0)) c.prev v
    let mark := hit || c.mark
    let dec := max 1 (l.cf (0xB100 + t) 0 29 22)
    let keep := mark || dec ≤ c.skip + 1
    let l := l.modTrace t fun c => { c with prev := some v, skip := if keep then 0 else c.skip + 1 }
    let l := if hit then l.traceFire t kind v else l
    let l := if hit then l.modTrace t fun c => { c with state := 2, post := l.cf (0xB100 + t) 2 31 16 } else l
    if !keep then l
    else
      let l := l.traceStore t { tile := tile, mark := mark, lane := lane, chan := t, course := course, value := v, tick := l.now }
      l.modTrace t fun c' =>
        let c' := { c' with mark := false }
        if c'.state ≠ 2 then c'
        else if mark then (if c'.post = 0 then { c' with state := 3 } else c')
        else if c'.post ≤ 1 then { c' with post := 0, state := 3 } else { c' with post := c'.post - 1 }

/-- A trigger that no entry carries (kinds 4 and 5): the next entry is marked (R529). -/
def Live.traceAsk (l : Live) (t kind : Nat) : Live :=
  if l.cb (0xB100 + t) 0 31 && (l.trace t).state = 1 && l.cf (0xB100 + t) 1 31 29 = kind && l.pwr.st ≠ .holdup then
    (l.traceFire t kind 0).modTrace t fun c => { c with state := 2, mark := true, post := l.cf (0xB100 + t) 2 31 16 }
  else l

/-- The collector took a code: channels with `TTKIND` 4 and that `TCODE` (R529). -/
def Live.traceOccurrence (l : Live) (code : Half) : Live :=
  l.each 8 fun l t => if l.cf (0xB100 + t) 2 15 0 = code.toNat then l.traceAsk t 4 else l

/-- TCMD ARM taken: the buffer is emptied and the channel restarts (R529). -/
def Live.tcmdArm (l : Live) (t : Nat) : Live :=
  if l.cb (0xB100 + t) 0 31 then l.modTrace t fun c => { state := 1, pulse := c.pulse } else l

/-- TCMD TRIGGER taken (R529). -/
def Live.tcmdTrigger (l : Live) (t : Nat) : Live := l.traceAsk t 5

/-- TCMD STOP taken (R536). -/
def Live.tcmdStop (l : Live) (t : Nat) : Live :=
  l.modTrace t fun c => if c.state = 1 || c.state = 2 then { c with state := 3 } else c

/-- TRACE_PULSE_END (R529): the trigger GPIO falls `TGPW` µs after it rose. -/
def execTracePulseEnd (ch : Fin 8) (s : State) : Host.Outcome State Fault Refusal :=
  s.upd fun l =>
    match (l.trace ch).pulse with
    | some t =>
      if t + 200 * l.cf (0xB100 + ch.val) 3 31 24 ≤ l.now then
        (l.setGpio (l.cf (0xB100 + ch.val) 0 8 5) false).modTrace ch fun c => { c with pulse := none }
      else l
    | none => l

/-! ## Occupancy (R531) -/

/-- The occupancy of the block that owns counter `n`; `vcFrames` is the number of VC frames in progress. -/
def Live.occupancy (l : Live) (n vcFrames : Nat) : Nat :=
  if n < 16 then ((List.range 8).filter (fun k => (l.lane k).ev.isSome)).length
  else if n < 64 then (l.ring ((n - 16) / 6)).mgmtq.length
  else if n < 72 then vcFrames
  else if n < 88 then ((List.range 3).filter (fun p => (l.mport p).inbox.isSome)).length
  else if n < 96 then l.fc.table.length
  else if n < 104 then ((List.range 48).filter (fun r => (l.rail r).shedOrd || tget 16 l.pp.levels r < 16)).length
  else if n < 108 then ((List.range 288).filter (fun p => (l.point p).run && 3 ≤ (l.point p).band)).length
  else if n < 112 then ((List.range 16).filter (fun k => (l.str k).live && 0 < (l.str k).ibar)).length
  else if n < 116 then l.recd.unfl
  else if n < 120 then (match l.keeper.tx with | some t => t.blocks.length - t.acked.length | none => 0)
  else if n < 124 then (match l.img.txn.raw with | some b => b.length / 1024 | none => l.img.txn.shadow.octets.length / 1024)
  else l.sec.jobs

/-- The next occupancy sample is due (R531). -/
def Live.occDue (l : Live) : Bool := match l.recd.occAt with | none => true | some t => t + 200 ≤ l.now

/-- OCCUPANCY_SAMPLE (R531): every 200 ticks each MODE 1 counter whose block's occupancy is above `THRESH` gains 200. -/
def execOccupancySample (vcFrames : Byte) (s : State) : Host.Outcome State Fault Refusal :=
  s.upd fun l =>
    if l.dom 6 && l.occDue then
      (l.modRec fun r => { r with occAt := some l.now }).each 128 fun l n =>
        let w := l.ctrWord n 2
        if fld w 29 28 = 1 && fld w 6 0 < l.occupancy n vcFrames.toNat then l.bumpCtr n 200 else l
    else l

/-! ## Instruction samples (R534) -/

/-- The number of dispatches to the next sample: N + j, j free in −N/8 to N/8. -/
def Live.sampleGap (l : Live) : Nat × Live :=
  let n := let f := l.cf 0xB000 0 15 0; if f = 0 then 4096 else f
  let d := l.drawBelow (2 * (n / 8) + 1)
  (n - n / 8 + d.1, d.2)

/-- Count a dispatch; the answer says whether this one is sampled (R534). -/
def Live.sampleDispatch (l : Live) : Bool × Live :=
  if l.cb 0xB000 0 23 && l.pwr.st ≠ .holdup then
    if l.recd.sleft ≤ 1 then
      let g := l.sampleGap
      (true, g.2.modRec fun r => { r with sleft := g.1 })
    else (false, l.modRec fun r => { r with sleft := r.sleft - 1 })
  else (false, l)

/-- Store a sample: the buffer keeps the newest 512 and sets `SWRAP` (R534). -/
def Live.sampleStore (l : Live) (e : Sample) : Live :=
  l.modRec fun r => { r with samples := (e :: r.samples).take 512, swrap := r.swrap || 512 ≤ r.samples.length, sampled := r.sampled + 1 }

/-! ## Shelf clock (R514) -/

/-- SHELF_CLOCK_TICK (R514): one second, once every 200 000 000 ticks. -/
def execShelfClockTick (s : State) : Host.Outcome State Fault Refusal :=
  s.upd fun l =>
    if l.dom 0 && l.recd.clkAt + secTicks ≤ l.now then
      l.modRec fun r => { r with clkSec := r.clkSec + 1, clkAt := r.clkAt + secTicks }
    else l

/-- The shelf clock is set by host software, with a CLOCK_SET record (R514). -/
def Live.setClock (l : Live) (secs : Word) : Live :=
  let old := l.recd.clkSec
  (l.modRec fun r => { r with clkSec := secs, clkSet := true, clkAt := l.now }).record 0x09
    (leBytes old.toNat 4 ++ leBytes secs.toNat 4)

/-- SCLOCK_WRITE (R514, R536): it takes effect on the write. -/
def execSclockWrite (secs : Word) (s : State) : Host.Outcome State Fault Refusal :=
  s.upd fun l => if l.dom 1 then l.setClock secs else l

/-! ## Host commands that take effect at the next bond boundary (R536) -/

/-- A write that takes effect at the next bond boundary waits (R11). -/
def Live.pend (l : Live) (oid w : Nat) (v : Word) : Live :=
  { l with bondWrites := l.bondWrites ++ [(key oid w, v)] }

/-- RCMD_SNAPNOW (R524, R536). -/
def execRcmdSnapnow (s : State) : Host.Outcome State Fault Refusal := s.upd fun l => l.pend 0xB000 3 (put 1 30 2)
/-- RCMD_FLUSH (R536). -/
def execRcmdFlush (s : State) : Host.Outcome State Fault Refusal := s.upd fun l => l.pend 0xB000 3 (put 2 30 2)
/-- CCMD_TRIGGER (R522, R536). -/
def execCcmdTrigger (slot : Fin 4) (s : State) : Host.Outcome State Fault Refusal :=
  s.upd fun l => l.pend (0xB200 + slot.val) 6 (put 1 30 2)
/-- CCMD_REARM (R522, R536). -/
def execCcmdRearm (slot : Fin 4) (s : State) : Host.Outcome State Fault Refusal :=
  s.upd fun l => l.pend (0xB200 + slot.val) 6 (put 2 30 2)
/-- TCMD_ARM (R529, R536). -/
def execTcmdArm (ch : Fin 8) (s : State) : Host.Outcome State Fault Refusal :=
  s.upd fun l => l.pend (0xB100 + ch.val) 5 (put 1 30 2)
/-- TCMD_TRIGGER (R529, R536). -/
def execTcmdTrigger (ch : Fin 8) (s : State) : Host.Outcome State Fault Refusal :=
  s.upd fun l => l.pend (0xB100 + ch.val) 5 (put 2 30 2)
/-- TCMD_STOP (R536). -/
def execTcmdStop (ch : Fin 8) (s : State) : Host.Outcome State Fault Refusal :=
  s.upd fun l => l.pend (0xB100 + ch.val) 5 (put 3 30 2)

/-! ## Reset of the recorder (R537) -/

/-- A RESET of block 11: the page in progress is abandoned and erased before reuse, trace channels stop and
re-arm, the sample buffer is cleared. -/
def Live.recReset (l : Live) : Live :=
  let l := l.each 8 fun l t => l.tcmdArm t
  l.modRec fun r =>
    { r with job := none, samples := [], swrap := false, sampled := 0,
             wpos := match r.job with | some j => nextPage j.pos | none => r.wpos,
             flash := match r.job with | some j => tset r.flash j.pos { j.page with ok := false } | none => r.flash }

end Sys2Proof.Machine
end

