-- ==== Sys2Proof/Machine/Shared.lean ====
section
/-! DEFINITION. Changes that several chapters share: suspending a tile, a record leaving MOORED, a ring leaving
RUNNING, message replies, sessions and the transaction, loss of the lease, the safe latch and COLD. -/
namespace Sys2Proof.Machine

/-! ## Policy registers -/

def Live.pol (l : Live) (n : Nat) : W24 := tget 0 l.loop.pol n
def Live.setPol (l : Live) (n : Nat) (v : W24) : Live := l.modLoop fun e => { e with pol := tput 0 e.pol n v }

/-- A fraction of a unit as a Q1.23 code, truncated toward zero and saturated. -/
def q23 (x unit : Rat) : W24 := if unit = 0 then 0 else BitVec.ofNat 24 (satInt (x / unit * 8388608) 24)

/-- A committed output, and setting one. -/
def Live.outp (l : Live) (t k : Nat) : W24 := tget 0 l.loop.outs (4 * t + k)
def Live.setOut (l : Live) (t k : Nat) (v : W24) : Live := l.modLoop fun e => { e with outs := tput 0 e.outs (4 * t + k) v }

/-! ## Rails and inputs that a tile's suspension reaches -/

/-- The port sets `DOWN`, and the outstanding SETV is void (R260); so is one accepted and not yet taken, since a
rail in these states takes none (R254; log entry 33). -/
def Live.vcDown (l : Live) (r : Nat) : Live :=
  if (l.railBound r).isSome then l.modVr r fun v => { v with down := true, outst := none, queue := [] } else l

/-- SOFTSTART, ON and FOLDBACK: the states in which a rail regulates (R260). -/
def RailSt.regulates : RailSt → Bool
  | .softstart => true | .on => true | .foldback => true | _ => false

/-- A rail's state changes; leaving regulation voids its SETV (R260). -/
def Live.railTo (l : Live) (r : Nat) (st : RailSt) : Live :=
  let old := (l.rail r).st
  let l := l.modRail r fun k => { k with st := st }
  if old.regulates && !st.regulates then l.vcDown r else l

/-- Timers and counts of a rail stop (Table 6.3, first row). -/
def Rail.stopCounts (k : Rail) : Rail :=
  { k with ovCnt := 0, uvCnt := 0, dwellAt := none, reachedAt := none, vfb := none, prebias := none, stopNow := 0,
           ssReached := false }

/-- The rail enters IDLE because its tile is suspended (Table 6.3, first row). -/
def Live.railIdle (l : Live) (r : Nat) (cause : Nat) : Live :=
  if (l.rail r).st = .idle then l
  else (l.railTo r .idle).modRail r fun k => { k.stopCounts with cause := cause }

/-- The input's member leaves MOORED (Table 8.2, first row). -/
def Live.inputAbsent (l : Live) (j : Nat) : Live :=
  let st := (l.inp j).st
  if st = .absent then l
  else
    let l := (l.modInp j fun i => { i with st := .absent, rhat := none, iref := 0, vbar := 0, ibar := 0, probeBond := 0, backOff := none, lostNow := false }).setPol j 0
    if st = .dark then l.count 98 else l

/-! ## Station records (Table 3.8) -/

/-- What follows when a record leaves MOORED: its phase returns to health (R236), its input is ABSENT. -/
def Live.unmoored (l : Live) (s : Stn) : Live :=
  match s.tile with
  | none => l
  | some t =>
    let l := match l.tileRail t with
      | some r => l.modRail r fun k => { k with members := tput {} k.members s.member {} }
      | none => l
    match l.tileInput t with | some j => l.inputAbsent j | none => l

/-- A record's state changes; a thermal point runs while its station is MOORED (R351). -/
def Live.stnTo (l : Live) (i : Nat) (st : StnSt) : Live :=
  let s := l.stn i
  let l := l.modStn i fun s => { s with st := st }
  if s.st = .moored && st ≠ .moored then (l.unmoored s).modPoint i fun _ => {} else l

/-- `FAUX` of a mooring fault (R137). -/
def Stn.aux (s : Stn) : Nat := s.ring * 256 + s.hop

/-- Drop a record: UNSEEN. -/
def Live.stnDrop (l : Live) (i : Nat) : Live :=
  let l := l.stnTo i .unseen
  { l with moor := { l.moor with stns := tput {} l.moor.stns i {}, fwBusy := if l.moor.fwBusy = some i then none else l.moor.fwBusy } }

/-- Slots a record binds. -/
def Stn.slots (s : Stn) : List (Nat × Nat) :=
  if s.rule.isSome then (List.range s.bricks).map (fun b => (s.ring, s.slot + b)) else []

/-- The binding is undone, and UNASSIGN goes out at the next bond boundary. -/
def Stn.unbind (s : Stn) : Stn :=
  { s with rule := none, tile := none, slot := 0, member := 0, assigned := 0, unassign := true, dueFor := 0, handed := false }

/-- Send `BUOY` = 1 to the slots of a record from the next down window (R93). -/
def Live.buoyStn (l : Live) (s : Stn) : Live :=
  l.forL s.slots fun l p => l.modSlot p.1 p.2 fun k => { k with buoyed := k.active }

/-- Bar a record, with its reason; a fault code adds its identifier to the barred list, with the fault that clears it
from there (R128). -/
def Live.stnBar (l : Live) (i : Nat) (why : StnReason) (by_ : Option Nat) : Live :=
  let uid := (l.stn i).uid
  let l := (l.stnTo i .barred).modStn i fun s => { s with reason := why }
  match by_ with
  | some c => { l with moor := { l.moor with barred := l.moor.barred ++ [(uid, why)], barBy := l.moor.barBy ++ [(uid, 65536 * c + oStn i)] } }
  | none => l

/-! ## Tiles -/

/-- Suspend a tile (R93, R99, R156, R379): its members return to MATCHED and receive `BUOY` = 1, its rail goes
IDLE.  An evaluation that runs is not committed. -/
def Live.suspendTile (l : Live) (t : Nat) : Live :=
  if (l.tile t).st = .unused then l
  else
    let ms := l.members t
    let l := l.modTile t fun k => { k with st := .suspended, handover := none, handing := [], committed := false }
    let l := l.forL ms fun l p =>
      let l := if p.2.st = .moored then l.stnTo p.1 .matched else l
      let l := l.modStn p.1 fun s => { s with dueFor := 0, handed := false, holdoff := true }
      l.buoyStn p.2
    match l.tileRail t with | some r => l.railIdle r 7 | none => l

/-- Course tiles with a slot on a ring (R99). -/
def Live.ringTiles (l : Live) (n : Nat) : List Nat :=
  (((l.img.cur.rules.filter (fun r => r.ring = n)).map (·.tile)).dedup).filter l.courseTile

/-- A ring leaves RUNNING (R99): its course tiles are suspended, its station records dropped. -/
def Live.ringLeaves (l : Live) (n : Nat) : Live :=
  let l := l.forL (l.ringTiles n) fun l t => l.suspendTile t
  l.forL ((l.stns.filter (fun p => p.2.ring = n)).map (·.1)) fun l i => l.stnDrop i

/-- A ring's state changes; leaving RUNNING acts under R99.  OVERBOOKED is left and entered in the same way. -/
def Live.ringTo (l : Live) (n : Nat) (st : RingSt) : Live :=
  let old := (l.ring n).st
  let l := if old = .running && st ≠ .running then l.ringLeaves n else l
  let l := l.modRing n fun r =>
    { r with st := st, since := l.now, drift := 0, dmissRun := 0, hdrFails := 0,
             inCourse := if st = .running || st = .overbooked || st = .ranging then r.inCourse else false,
             mgmtq := if st = .running || st = .overbooked then r.mgmtq else [] }
  if st = .running then l
  else l.modK fun k => { k with releaseRings := k.releaseRings.filter (· ≠ n), releasing := k.releasing.filter (· ≠ n) }

/-- The ring starts training, and ranging is to be done again. -/
def Live.ringTrain (l : Live) (n : Nat) : Live :=
  (l.ringTo n .training).modRing n fun r => { r with passes := 0, lastPass := none, silent := false, refSilent := l.pwr.refLoss }

/-! ## Message replies (Table 14.1) -/

/-- A frame with its `MCRC`. -/
def msgFrame (msess mop : Byte) (body : List Byte) : List Byte :=
  let mid := [BitVec.ofNat 8 body.length, msess, mop] ++ body
  0x5A :: mid ++ leBytes (crc16Bytes mid) 2

/-- A reply's status is counted (Table 14.12). -/
def Live.countStatus (l : Live) (a : CntAttr) : Nat → Live
  | 0x02 => l.countWith 74 1 a
  | 0x03 => l.countWith 73 1 a
  | 0x08 => l.countWith 78 1 a
  | 0x0A => l.countWith 77 1 a
  | _ => l

/-- The port's reply, ready to be read. -/
def Live.reply (l : Live) (port : Nat) (msess mop : Byte) (status : Nat) (data : List Byte) : Live :=
  l.modMport port fun p => { p with reply := some (msgFrame msess mop (BitVec.ofNat 8 status :: data)), inbox := none }

/-- The message in a port is TORN (R494, R500, R506, R510): its octets go, and the reply says so. -/
def Live.torn (l : Live) (port : Nat) (got : List Byte) : Live :=
  let l := l.count (if port = 1 then 82 else 85)
  if 4 ≤ got.length then l.reply port (got.getD 2 0) (got.getD 3 0) 0x0B [] else l.reply port 0 0 0x0B []

/-- A port is reset, or its buffer fails ECC: the message in flight is TORN (Table 11.8, R510). -/
def Live.tornNow (l : Live) (port : Nat) : Live :=
  match (l.mport port).inbox, (l.mport port).reply with
  | some f, _ => l.torn port f
  | none, some f => l.torn port f
  | none, none => l

/-- The reply of a request that a session executed: kept for a repeat (R467). -/
def Live.replyKept (l : Live) (port sess : Nat) (msess mop : Byte) (status : Nat) (data : List Byte) : Live :=
  (l.reply port msess mop status data).modSess sess fun s =>
    if s.opened || s.pendg then { s with reply := msgFrame msess mop (BitVec.ofNat 8 status :: data) } else s

/-! ## The transaction (Table 14.7) -/

/-- The held TXN_COMMIT is answered (R480). -/
def Live.answerCommit (l : Live) (status : Nat) (data : List Byte) : Live :=
  match l.img.txn.held with
  | none => l
  | some (port, msess) =>
    let a : CntAttr := { cls := some (l.sess (msess.toNat / 16)).cls, req := some port, tclass := some 2 }
    let l := (l.countStatus a status).replyKept port (msess.toNat / 16) msess 0x21 status data
    l.modTxn fun t => { t with held := none }

/-- The transaction leaves OPEN, COMMITTING or PENDING with an outcome and a host event. -/
def Live.txnEnd (l : Live) (outcome kind : Nat) : Live :=
  let n := l.img.txn.num.toNat
  (l.modTxn fun t => { t with st := .idle, owner := 0, shadow := {}, raw := none, edited := false, edits := [], outcome := outcome, ready := {}, mateOk := false }).hostEvent kind n 0x0001 0

/-- Rolled back: 3 ROLLED_BACK or 4 TIMEOUT. -/
def Live.txnRollback (l : Live) (outcome : Nat) : Live :=
  if l.img.txn.st = .opened then (l.txnEnd outcome 5).count 122 else l

/-- Lease-live was cleared: any transaction under way ends ABORTED. -/
def Live.txnAbort (l : Live) : Live :=
  match l.img.txn.st with
  | .idle => l
  | .committing => ((l.answerCommit 0x08 []).txnEnd 5 5).count 122
  | _ => (l.txnEnd 5 5).count 122

/-- A pending activation is cancelled (R455). -/
def Live.txnCancel (l : Live) : Live :=
  if l.img.txn.st = .pending then (l.txnEnd 2 4).count 121 else l

/-! ## Sessions (R468) -/

/-- A session closes: its open transaction rolls back, its pins and pointer go, its staging is discarded. -/
def Live.closeSess (l : Live) (n : Nat) : Live :=
  let l := if l.img.txn.st = .opened && l.img.txn.owner = n then l.txnRollback 3 else l
  let l := l.stgClose n
  let l := if (l.sess n).opened then l.modPwr fun p => { p with idleAt := l.now } else l
  l.modSess n fun _ => {}

/-- Every open or pending session closes. -/
def Live.closeAll (l : Live) : Live :=
  l.each 16 fun l n => if (l.sess n).opened || (l.sess n).pendg then l.closeSess n else l

/-! ## Lease (R406) -/

/-- Lease-live is cleared: `HBOUT` falls, a transaction is aborted, a commit cancelled. -/
def Live.leaseClear (l : Live) : Live :=
  if l.keeper.live then (l.modK fun k => { k with live := false, hbout := false }).txnAbort else l

/-- Rings in a state. -/
def Live.ringsIn (l : Live) (st : RingSt) : List Nat := (List.range 8).filter (fun n => (l.ring n).st = st)

/-- The keeper core's state changes, with a KEEPER record (Table 16.3). -/
def Live.keeperTo (l : Live) (st : KSt) : Live :=
  if l.keeper.st = st then l
  else
    (l.record 0x05 ([BitVec.ofNat 8 l.keeper.st.code, BitVec.ofNat 8 st.code] ++ leBytes l.keeper.epoch.toNat 2)).modK fun k => { k with st := st }

/-- A `RELEASE` course is due on every RUNNING ring (R388, R418, R431, R558). -/
def Live.sendRelease (l : Live) : Live := l.modK fun k => { k with releaseRings := l.ringsIn .running }

/-! ## The safe latch (R387, R388) -/

/-- The safe latch is set: the safe state begins. -/
def Live.safeLatch (l : Live) (code obj : Nat) : Live :=
  if l.fc.safe then l
  else
    let l := l.modFc fun f => { f with safe := true, safeCode := BitVec.ofNat 16 code, safeObj := BitVec.ofNat 16 obj }
    let l := l.hostEvent 9 code obj 0
    let l := if l.pwr.refLoss then l else l.sendRelease
    let l := l.leaseClear.txnCancel
    let l := (l.keeperTo .released).modK fun k => { k with hand := .none, handIn := false }
    let l := l.forL l.railNums fun l r => l.railIdle r (l.rail r).cause
    l.snapRequest 2

/-! ## COLD and resets (R540, R542, R547, R554) -/

/-- Words kept in the settings region of flash bank C (R486). -/
def storedKey (k : Nat) : Bool := (0xD00000 ≤ k && k < 0xD30000) || k = 0xB00001

/-- What is left when every domain but D0 is off: the timebase, the keeper core and the retention SRAM, the safe
latch, the D0 queue and the shelf clock, with flash and OTP. -/
def Live.d0Only (l : Live) : Live :=
  let r := l.recd
  let s := l.sec
  { Live.reset with
    now := l.now, bond := l.bond, bondAt := l.bondAt, free := l.free, keeper := l.keeper,
    pwr := { l.pwr with on := 1, rgate := 0, vgate := 0, tgate := 0, leanen := false, recovery := false, coldDue := false },
    fc := { safe := l.fc.safe, safeCode := l.fc.safeCode, safeObj := l.fc.safeObj,
            details := l.fc.details.filter (fun d => d.code.toNat / 4096 = 0 || d.code.toNat / 4096 = 0xA) },
    img := { slots := l.img.slots },
    ports := { addr := l.ports.addr },
    adc := { vbok := l.adc.vbok, vb18 := l.adc.vb18 },
    host := (l.host.filter (fun p => storedKey p.1)),
    gauge := { flash := l.gauge.flash },
    recd := { d0q := r.d0q, d0lost := if l.dom 6 then 0 else r.d0lost, rseq := r.rseq, pseq := r.pseq, bootcnt := r.bootcnt,
              flash := (match r.job with | some j => tset r.flash j.pos { j.page with ok := false } | none => r.flash),
              wpos := (match r.job with | some j => nextPage j.pos | none => r.wpos), area0 := r.area0, area1 := r.area1,
              clkSet := r.clkSet, clkSec := r.clkSec, clkAt := r.clkAt },
    sec := { otp := s.otp, lc := s.lc, intent := s.intent, boot := s.bootOld.getD s.boot, bankA := s.bankA, bankB := s.bankB, stg := s.stg,
             otherStore := s.otherStore, storeB := s.storeB } }

/-- The controller enters COLD: sessions close, domains D2, D3, D4, D6, D1, D5 and D7 go off in the order of R558. -/
def Live.enterCold (l : Live) (cause : Nat) : Live :=
  l.closeAll.d0Only.setPower .cold cause

/-- A row of Table 12.3 whose action is power state COLD (R554, R562). -/
def Live.toCold (l : Live) : Live :=
  match l.pwr.st with
  | .boot => if l.pwr.stage = 3 then l.modPwr fun p => { p with coldDue := true } else l.enterCold 2
  | .holdup => if l.recd.snap.isSome then l.modPwr fun p => { p with coldDue := true } else l.enterCold 2
  | .run => l.enterCold 2
  | .lean => l.enterCold 2
  | _ => l

/-- SNAPSHOT_PAGE_DONE (R524, R525): pages 1 to 7 and then page 0, which makes the snapshot valid; nothing is
programmed before a flush page in progress has finished, nor while the commit waits for the band.
A keeper action to COLD that waited for the commit follows its end (R562). -/
def execSnapshotPageDone (ok : Bool) (s : State) : Host.Outcome State Fault Refusal :=
  s.upd fun l =>
    match l.recd.snap with
    | none => l
    | some j =>
      if j.waiting || l.recd.job.isSome then l
      else
        let l := l.modArea j.area fun a =>
          { a with erased := false, hdrOk := (if j.page = 0 then ok else a.hdrOk), content := j.content, reported := false,
                   pages := (if ok then a.pages ++ [j.page] else a.pages),
                   badPages := (if ok then a.badPages else a.badPages ++ [j.page]) }
        if j.page = 0 then
          let l := ((l.modRec fun r => { r with snap := none }).flashEnd 1).armWatch
          if l.pwr.st = .holdup && l.pwr.coldDue then l.enterCold 2 else l
        else (l.modRec fun r => { r with snap := some { j with page := if j.page = 7 then 0 else j.page + 1 } }).flashBegin 1

/-- The rest of a staged shutdown (R558, R562): COLD, with the keeper core stopped.  Its POWER_STATE record came first; power
return is judged from here. -/
def Live.shutdownEnd (l : Live) : Live := (l.closeAll.d0Only).modPwr fun p => { p with st := .cold, shut := true, pfailAt := l.now }

/-! ## Frames on the mate link (R416, R423, R431) -/

/-- The newer of two epochs (R416). -/
def newerEpoch (a b : Half) : Half := if (a - b).toNat < 32768 then a else b

/-- Put a frame on the mate link; the model keeps the newest 64. -/
def Live.mateSend (l : Live) (ftype : Nat) (epoch : Half) (seq : Word) (idx : Nat) (data : List Byte) : Live :=
  let f : MateFrame :=
    { ftype := BitVec.ofNat 8 ftype, epoch := epoch, seq := seq, idx := BitVec.ofNat 16 idx, data := data,
      flags := BitVec.ofNat 8 ((if l.keeper.roleB then 1 else 0) + (if l.keeper.live then 2 else 0) + (if l.fc.safe then 4 else 0)) }
  l.modK fun k => { k with sent := (f :: k.sent).take 64 }

/-- The newest epoch the controller knows. -/
def Live.knownEpoch (l : Live) : Half := newerEpoch l.keeper.stored l.keeper.epoch

/-- A frame whose `FSEQ` is the frame count. -/
def Live.mateNote (l : Live) (ftype : Nat) (epoch : Half) (data : List Byte) : Live :=
  let l := l.modK fun k => { k with frames := k.frames + 1 }
  l.mateSend ftype epoch l.keeper.frames 0 data

/-- HANDOVER_GO of a release (R431), behind its RELEASE courses. -/
def Live.goSend (l : Live) : Live :=
  match l.keeper.goBond with
  | some b => (l.mateNote 0x09 l.knownEpoch (leBytes b 8)).modK fun k => { k with goBond := none }
  | none => l

/-- What waits for the RELEASE courses follows once they have ended on every ring (R558, Table 12.3). -/
def Live.releaseCheck (l : Live) : Live :=
  if l.keeper.coldAfter = 0 || !l.keeper.releaseRings.isEmpty || !l.keeper.releasing.isEmpty then l
  else
    let n := l.keeper.coldAfter
    let l := l.modK fun k => { k with coldAfter := 0 }
    if n = 1 then l.goSend.toCold else l.shutdownEnd

/-- A course of a ring has ended: its RELEASE course, if it was one, is over. -/
def Live.releaseEnded (l : Live) (n : Nat) : Live :=
  if l.keeper.coldAfter = 0 then l else (l.modK fun k => { k with releasing := k.releasing.filter (· ≠ n) }).releaseCheck

end Sys2Proof.Machine
end

