-- ==== Sys2Proof/Machine/Rails.lean ====
section
/-! DEFINITION. The Rail Manager (chapter "Rail regulation"): setpoint ramp, firing order, rail states,
protection, phase failures and shedding. -/
namespace Sys2Proof.Machine

/-! ## Configuration (Table 6.4) -/

def Live.rcf (l : Live) (r w hi lo : Nat) : Nat := l.cf (oRail r) w hi lo
def Live.ssslew (l : Live) (r : Nat) : Nat := l.rcf r 0 12 10
def Live.fbslew (l : Live) (r : Nat) : Nat := l.rcf r 0 9 7
def Live.vsense (l : Live) (r : Nat) : Nat := l.rcf r 0 15 13
/-- Millivolts as 1/16 µV. -/
def mv16 (v : Nat) : Nat := v * 16000
/-- `FMIN` as a fraction. -/
def Live.fmin (l : Live) (r : Nat) : Rat := (l.rcf r 1 7 0 : Rat) / 256

/-- The ring of a rail's course sequence. -/
def Live.railRing (l : Live) (r : Nat) : Option Nat := l.tileRing (l.railTile r)
/-- The start tick of the rail's present course. -/
def Live.railStart (l : Live) (r : Nat) : Nat := match l.railRing r with | some n => (l.ring n).start | none => 0

/-- Slew step per course in 1/16 µV (R214). -/
def slewStep (s p : Nat) : Nat := 50 * 2 ^ s * p
def Live.railPeriod (l : Live) (r : Nat) : Nat := match l.railRing r with | some n => l.period n | none => 0

/-- The settle tolerance in µV (R244): of the port's words, or their defaults. -/
def Live.settleTol (l : Live) (r : Nat) : Rat :=
  let c := match l.railPort r with | some p => (l.cf (oVc p) 1 31 24, l.cf (oVc p) 1 23 16) | none => (10, 5)
  max ((c.1 : Rat) * ((l.rail r).vt : Rat) / 16000) ((c.2 : Rat) * 1000)

/-- Mode FULL is in force on the rail (R265). -/
def Live.vcFull (l : Live) (r : Nat) : Bool := (l.railPort r).isSome && (l.vr r).full

/-! ## Members' measurements -/

/-- The slot of a member's brick of index 0, if it has one. -/
def Live.mSlot (l : Live) (r m : Nat) : Option (Stn × Slot) :=
  match l.mStn r m with
  | some p => if p.2.rule.isSome then some (p.2, l.slot p.2.ring p.2.slot) else none
  | none => none

/-- A member's own current in µA, and its voltage in µV. -/
def Live.mCur (l : Live) (r m : Nat) : Rat := match l.mSlot r m with | some p => iScale p.1 p.2.cur.imeas | none => 0
def Live.mVolt (l : Live) (r m : Nat) : Rat := match l.mSlot r m with | some p => vScale p.1 p.2.cur.vmeas | none => 0
def Live.mUsable (l : Live) (r m : Nat) : Bool := match l.mSlot r m with | some p => p.2.usable | none => false
def Live.mValid (l : Live) (r m : Nat) : Bool := match l.mSlot r m with | some p => p.2.active && p.2.up = .valid | none => false
def Live.mLimit (l : Live) (r m : Nat) : Bool := match l.mSlot r m with | some p => p.2.cur.limitF | none => false
def Live.mCode (l : Live) (r m : Nat) : BitVec 14 := match l.mSlot r m with | some p => p.2.cur.imeas | none => 0

/-- Mean of a list. -/
def meanR (l : List Rat) : Option Rat := if l.isEmpty then none else some (sumR l / l.length)

/-- The estimate m of R233: the mean current of the active members with healthy sense. -/
def Live.estimate (l : Live) (r : Nat) : Option Rat :=
  meanR (((l.acts r).filter (fun m => !(l.mem r m).senseF)).map (l.mCur r))

/-- A member's current for use in the chapter (R233, R234). -/
def Live.mUse (l : Live) (r m : Nat) : Rat := if (l.mem r m).senseF then (l.estimate r).getD 0 else l.mCur r m

/-- I_rail in µA; none while unknown (R233, R234). -/
def Live.railCurrent (l : Live) (r : Nat) : Option Rat :=
  if l.senseLost r then none else some (sumR ((l.acts r).map (l.mUse r)))

/-- The rail voltage in µV (R623). -/
def Live.railVoltage (l : Live) (r : Nat) : Rat :=
  let s := l.vsense r
  if l.mRot r s && l.mUsable r s then l.mVolt r s
  else match l.rots r with
    | m :: _ => l.mVolt r m
    | [] =>
      if l.mUsable r s then l.mVolt r s
      else
        let hs := (l.members (l.railTile r)).filter (fun p => (l.tile (l.railTile r)).handing.contains p.1 || p.2.handed)
        match (hs.map (·.2.member)).min? with | some m => l.mVolt r m | none => (l.rail r).v

/-- The current limit in µA (R226). -/
def Live.railLimit (l : Live) (r : Nat) (v : Rat) (rr : Rat) : Rat :=
  let k := l.rail r
  let c := if k.vr = 0 then 1 else clampR (v / ((k.vr : Rat) / 16)) (l.fmin r) 1
  (l.rcf r 1 15 8 : Rat) / 128 * rr * c

/-! ## At a course start (R213 to R216, R223) -/

/-- The ramp generator moves V_r toward V_t by one step (R214). -/
def rampStep (vr vt d : Nat) : Nat := if vr < vt then min vt (vr + d) else max vt (vr - d)

/-- The states in which over-voltage is tested (R225). -/
def RailSt.ramps : RailSt → Bool
  | .softstart => true | .on => true | .foldback => true | .stopping => true | _ => false

/-- The second course of a pre-bias start (R223): V_r := V_pre, the committed `o0` holds it, REBASE is pending. -/
def Live.prebiasStart (l : Live) (r : Nat) (v : Rat) : Live :=
  let vr := if l.cb (oRail r) 0 2 then (truncR (max 0 v * 16)).toNat else 0
  let l := l.modRail r fun k => { k with vr := vr, vrPrev := vr, prebias := none }
  let t := l.railTile r
  (l.setOut t 0 (q23 ((vr : Rat) / 16) ((l.rcf r 3 15 0 : Rat) * 1000))).modTile t fun k => { k with rebase := true }

/-- The rotation index advances (R213). -/
def Live.rotate (l : Live) (r idx : Nat) : Live :=
  let n := (l.acts r).length
  let k := l.rail r
  if n = 0 then l.modRail r fun k => { k with stepSeen := false }
  else if !l.cb (oRail r) 0 6 || k.stepSeen || idx = 0 then l.modRail r fun k => { k with rho := (k.rho + 1) % n, stepSeen := false }
  else l.modRail r fun k => { k with rho := k.rho % n, stepSeen := false }

/-- A rail's part of a course start of its ring: V_r moves, and V_eff, the ramp and the windows of the course follow (R214, R216,
R225). -/
def Live.railCourseStart (l : Live) (r idx : Nat) : Live :=
  let k := l.rail r
  let l := match k.prebias with
    | some v => l.prebiasStart r v
    | none => l.modRail r fun k => { k with vrPrev := k.vr, vr := rampStep k.vr k.vt (slewStep k.slew (l.railPeriod r)) }
  let l := l.modRail r fun k =>
    let reached := if k.vr = k.vt && (k.st = .softstart) then (match k.reachedAt with | none => some (l.railStart r) | a => a) else none
    { k with veffC := k.veff, rampC := k.ramping, window := (k.veff :: k.window).take 64, reachedAt := reached,
             ssReached := k.ssReached || (k.st = .foldback && k.vr = k.vt) }
  l.rotate r idx

/-! ## Classification (R229, R232) -/

/-- Count one course against a member, when the course is counted for it. -/
def Live.countMember (l : Live) (r m : Nat) : Live :=
  let k := l.mem r m
  if !l.mAct r m then l.modMem r m fun k => { k with activeFor := 0 }
  else if !l.mValid r m || k.activeFor < 4 then l.modMem r m fun k => { k with activeFor := k.activeFor + 1 }
  else
    let sh := l.share r
    let others := (l.acts r).filter (· ≠ m)
    let mo := meanR (others.map (l.mUse r))
    let i := l.mUse r m
    let code := l.mCode r m
    let th := (l.rcf r 6 7 0 : Rat) / 100 * sh
    let isOpen : Bool := (if i < 0 then -i else i) < th && (match mo with | some x => 4 * th ≤ x | none => false)
    let healthy := (others.filter (fun p => !(l.mem r p).senseF)).map (l.mCur r)
    let canImpl : Bool := match meanR healthy with
      | some x => 2 ≤ healthy.length && healthy.all (fun y => (if y < x then x - y else y - x) ≤ sh / 5)
      | none => false
    let isImpl : Bool := match meanR healthy with | some x => sh / 2 < (if i < x then x - i else i - x) | none => false
    let means := match mo with
      | some x => if k.stuckCnt ≠ 0 && k.stuckCode = code then (x :: k.stuckMeans).take 64 else [x]
      | none => []
    l.modMem r m fun k =>
      { k with activeFor := k.activeFor + 1,
               openCnt := if isOpen then k.openCnt + 1 else 0,
               rangeCnt := if code = 8191 || code = 8192 then k.rangeCnt + 1 else 0,
               implCnt := if !canImpl then k.implCnt else if isImpl then k.implCnt + 1 else 0,
               stuckCnt := if k.stuckCnt ≠ 0 && k.stuckCode = code then k.stuckCnt + 1 else 1,
               stuckCode := code, stuckMeans := means }

/-- The stuck test of R232. -/
def Member.stuck (k : Member) (sh : Rat) : Bool :=
  64 ≤ k.stuckCnt && k.stuckMeans.length = 64 &&
    (match k.stuckMeans.max?, k.stuckMeans.min? with | some a, some b => sh / 10 ≤ a - b | _, _ => false)

/-- A member's sense has failed by one of the tests of R232. -/
def Live.senseBad (l : Live) (r m : Nat) : Bool :=
  let k := l.mem r m
  l.mAct r m && !k.senseF && k.openCnt < 16 && (k.stuck (l.share r) || 4 ≤ k.rangeCnt || 64 ≤ k.implCnt)

/-! ## Rating, limit, state rows -/

/-- Recompute R_rail and I_lim, and keep or withdraw the Rail Manager's caps (R230, R226, R233, R235). -/
def Live.railRate (l : Live) (r : Nat) : Live :=
  let rr := l.railRating r
  let v := (l.rail r).v
  let lost := l.senseLost r
  let lim := l.railLimit r v rr
  l.modRail r fun k =>
    { k with rrail := rr, ilim := lim,
             capOpen := k.capOpen.filter (fun c => rr ≤ c),
             capLost := if lost then (match k.capLost with | some c => some c | none => some (l.fmin r * rr)) else none }

/-- The fold-back condition (R227, R233). -/
def Live.foldCond (l : Live) (r : Nat) : Bool :=
  (match (l.rail r).i with | some i => (l.rail r).ilim < i | none => false) || (l.acts r).any (l.mLimit r)

/-- The ceiling V_fb in FOLDBACK (R228, R233). -/
def Live.foldUpdate (l : Live) (r : Nat) : Live :=
  let k := l.rail r
  let lim := (l.acts r).any (l.mLimit r)
  let d := slewStep (l.fbslew r) (l.railPeriod r)
  let f := k.vfb.getD k.vr
  let f' := match k.i with
    | none => if lim then f / 2 else f + d
    | some i =>
      if k.ilim < i then (truncR ((f : Rat) * max (k.ilim / i) (1 / 2))).toNat
      else if lim then f / 2
      else if i ≤ 9 / 10 * k.ilim then f + d else f
  l.modRail r fun k => { k with vfb := some f' }

/-- Enter FOLDBACK (Table 6.3): the ceiling is updated from this course on (R228, Table 6.8). -/
def Live.foldEnter (l : Live) (r : Nat) : Live :=
  let k := l.rail r
  (((l.railTo r .foldback).modRail r fun k' =>
    { k' with vfb := some k.veff, fbAt := l.railStart r, ssReached := k.st = .on || k.vr = k.vt }).foldUpdate r).raise 0x4003 (oRail r)

/-- The cause of a stop: 1 when the intent is cleared, 2 for a shed order. -/
def Rail.stopCause (k : Rail) : Nat := if !k.intent then 1 else 2

/-- OFF: `EN` 0 to all members. -/
def Live.railOff (l : Live) (r : Nat) (cause : Option Nat) : Live :=
  (l.railTo r .off).modRail r fun k => { k with vfb := none, stopNow := 0, dwellAt := none, cause := cause.getD k.cause }

/-- SOFTSTART with a pre-bias start: the target is restored (R260) and V_pre is read (R223). -/
def Live.railStartUp (l : Live) (r : Nat) : Live :=
  let v := l.railVoltage r
  (l.railTo r .softstart).modRail r fun k =>
    { k with vt := k.vtLast, slew := l.ssslew r, vfb := none, prebias := some v, reachedAt := none, ssReached := false }

/-- HICCUP or LATCHED after fold-back (Table 6.3). -/
def Live.railTrip (l : Live) (r cause : Nat) : Live :=
  let k := l.rail r
  let mx := l.rcf r 5 15 12
  if !l.cb (oRail r) 0 5 && (mx = 0 || k.hiccnt < mx) then
    ((l.railTo r .hiccup).modRail r fun k => { k with hiccnt := k.hiccnt + 1, cause := cause, vfb := none, hicAt := l.railStart r }).raise 0x4004 (oRail r)
  else ((l.railTo r .latched).modRail r fun k => { k with cause := cause, vfb := none }).raise 0x4005 (oRail r)

/-- V lies at or above the under-voltage limit, in µV (R225). -/
def Live.aboveUv (l : Live) (r : Nat) : Bool :=
  let k := l.rail r
  match k.window.min? with
  | some lo => (lo : Rat) / 16 * (1 - (l.rcf r 4 23 16 : Rat) / 200) ≤ k.v
  | none => true

/-- V exceeds an over-voltage window (R225). -/
def Live.overV (l : Live) (r : Nat) : Bool :=
  let k := l.rail r
  let w : Rat := 1 + (l.rcf r 4 31 24 : Rat) / 200
  (match k.window.max? with | some hi => (hi : Rat) / 16 * w < k.v | none => false) || (l.rcf r 2 31 16 : Rat) * 1000 * w < k.v

/-- LATCHED for over-voltage or for want of a phase (Table 6.3). -/
def Live.railLatch (l : Live) (r cause code : Nat) : Live :=
  ((l.railTo r .latched).modRail r fun k => { k with cause := cause, vfb := none, ovCnt := 0 }).raise code (oRail r)

/-- Row `n` of Table 6.3 among those that the course work judges, in the table's order: what it makes of the rail, or none where its
event is not there. -/
def Live.railRow (l : Live) (r n : Nat) : Option Live :=
  let k := l.rail r
  let stop := !k.intent || k.shedOrd
  let nrot := (l.rots r).length
  let t := l.railStart r
  let on (c : Bool) (l : Live) : Option Live := if c && k.st ≠ .idle then some l else none
  match n with
  | 0 => on (k.st.ramps && k.ovCnt ≠ 0 && l.rcf r 4 15 12 ≤ k.ovCnt) (l.railLatch r 4 0x4001)
  | 1 => on (k.st ≠ .latched && nrot = 0 && k.rotPrev ≠ 0) (l.railLatch r 5 0x4009)
  | 2 => on (k.st = .foldback && k.fbAt + l.rcf r 5 31 24 * bondTicks ≤ t) (l.railTrip r 3)
  | 3 =>
    on (k.st = .softstart && (match k.reachedAt with | some a => a + 2000000 ≤ t | none => false) && !l.aboveUv r)
      ((l.railTrip r 6).raise 0x400A (oRail r))
  | 4 =>
    on (k.st.regulates && stop && l.cb (oRail r) 0 4)
      ((l.railTo r .stopping).modRail r fun k => { k with vt := 0, slew := l.ssslew r, vfb := none, stopNow := 0, cause := k.stopCause })
  | 5 => on ((k.st.regulates || k.st = .hiccup) && stop) (l.railOff r (some k.stopCause))
  | 6 => on (k.st = .stopping && k.stopNow ≠ 0) (l.railOff r (some k.stopNow))
  | 7 => on (k.st = .stopping && k.vr = 0) (l.railOff r none)
  | 8 => on (k.st = .off && !stop && l.nmin r ≤ nrot && nrot ≠ 0) (l.railStartUp r)
  | 9 => on (k.st = .hiccup && !stop && k.hicAt + l.rcf r 5 23 16 * 10 * bondTicks ≤ t) (l.railStartUp r)
  | 10 =>
    on (k.st = .softstart && k.prebias.isNone && k.vr = k.vt && l.aboveUv r)
      ((l.railTo r .on).modRail r fun k => { k with onAt := t })
  | 11 => on ((k.st = .softstart || k.st = .on) && k.prebias.isNone && l.foldCond r) (l.foldEnter r)
  | 12 =>
    on (k.st = .foldback && k.vr ≤ k.vfb.getD 0)
      ((l.railTo r (if k.ssReached then .on else .softstart)).modRail r fun k' => { k' with vfb := none, onAt := if k.ssReached then t else k'.onAt })
  | _ => none

/-- The first row whose event is there is taken; the others are then judged against the new state, each once (R21). -/
def Live.railTake (r : Nat) : Nat → List Nat → Live → Live
  | 0, _, l => l
  | f + 1, ks, l =>
    match ks.find? (fun k => (l.railRow r k).isSome) with
    | some k => Live.railTake r f (ks.filter (· ≠ k)) ((l.railRow r k).getD l)
    | none => l

/-- The rows up to a given one. -/
def Live.railRows (l : Live) (r n : Nat) : Live := l.railTake r (n + 1) (List.range (n + 1))

/-! ## Shedding (R218 to R220) -/

/-- Shedding acts: state ON, `SHEDEN` and no mode FULL (R219, R265). -/
def Live.shedActs (l : Live) (r : Nat) : Bool := (l.rail r).st = .on && l.cb (oRail r) 0 3 && !l.vcFull r

/-- I_add(n) and I_shed(n) in µA (R218). -/
def Live.iAdd (l : Live) (r n : Nat) : Rat := (n : Rat) * (l.rcf r 6 31 24 : Rat) / 100 * l.share r
def Live.iShed (l : Live) (r n : Nat) : Rat :=
  ((n : Rat) - 1) * (l.rcf r 6 31 24 : Rat) / 100 * l.share r * (1 - (l.rcf r 6 23 16 : Rat) / 100)

/-- Shed members in rotation, the one shed longest first. -/
def Live.shedList (l : Live) (r : Nat) : List Nat :=
  ((l.rots r).filter (fun m => (l.mem r m).shed)).mergeSort (fun a b => (l.mem r a).shedAt ≤ (l.mem r b).shedAt)

/-- Which members the tile's commit of this course adds, and the dwell (R219, R220, R233). -/
def Live.shedWork (l : Live) (r : Nat) : Live :=
  let n := (l.acts r).length
  let sl := l.shedList r
  let t := l.railStart r
  let k := l.rail r
  if !l.shedActs r then l.modRail r fun k => { k with addPend := sl, dwellAt := none }
  else match k.i with
    | none => l.modRail r fun k => { k with addPend := sl.take 1, dwellAt := none }
    | some i =>
      if n < min (l.nmin r) (l.rots r).length then l.modRail r fun k => { k with addPend := sl.take 1, dwellAt := none }
      else if l.iAdd r n < i then l.modRail r fun k => { k with addPend := sl.take 1, dwellAt := none }
      else if i < l.iShed r n then
        l.modRail r fun k => { k with addPend := [], dwellAt := match k.dwellAt with | none => some t | a => a }
      else l.modRail r fun k => { k with addPend := [], dwellAt := none }

/-- The member that fires last in the course is shed when the dwell has passed (R219). -/
def Live.shedOne (l : Live) (r : Nat) : Live :=
  let k := l.rail r
  let xs := l.acts r
  let n := xs.length
  match k.dwellAt with
  | some a =>
    if l.shedActs r && l.nmin r < n && a + l.rcf r 5 11 0 * 20000 ≤ l.railStart r then
      match xs[(k.rho + n - 1) % n]? with
      | some m =>
        (l.modMem r m fun k => { k with shed := true, shedAt := l.railStart r, activeFor := 0 }).modRail r fun k =>
          { k with dwellAt := none, rho := k.rho % (n - 1) }
      | none => l
    else l
  | none => l

/-- Members are added in a course whose evaluation of the tile commits, whichever of the two comes first (R219, R220). -/
def Live.railCommitted (l : Live) (r : Nat) : Live :=
  let k := l.rail r
  let xs := if k.workAt = some (l.railStart r) && 5 ≤ k.stage && (l.tile (l.railTile r)).committed then k.addPend else []
  if xs.isEmpty then l
  else (l.forL xs fun l m => l.modMem r m fun k => { k with shed := false, activeFor := 0 }).modRail r fun k => { k with addPend := [], dwellAt := none }

/-! ## The course work (R217, R237) -/

/-- The tile's inputs are final (R147). -/
def Live.inputsFinal (l : Live) (t : Nat) : Bool :=
  let b := ((List.range 8).map (l.tIn t)).filter (fun b => bindCode b = 1)
  let rs := l.tileRings t
  (!b.isEmpty && b.all (fun x => (l.ring (bindRing x)).inCourse && (l.slot (bindRing x) (bindSlot x)).active && (l.slot (bindRing x) (bindSlot x)).up = .valid)) ||
    (!rs.isEmpty && rs.all (fun n => (l.ring n).upFinal))

/-- Settle counts of R257 and R258.  DEDUCED: the course in which the SETV is taken counts as one without a ramp where R216 finds
none in it, and `SETTO` then runs from it (R259, log entry 89). -/
def Live.settleWork (l : Live) (r : Nat) : Live :=
  if (l.railPort r).isNone then l
  else
    let k := l.rail r
    let dv := k.v - (k.vt : Rat) / 16
    let met := !k.rampC && (if dv < 0 then -dv else dv) ≤ l.settleTol r
    let at_ := l.railStart r
    l.modVr r fun v =>
      { v with calm := if met then v.calm + 1 else 0,
               outst := v.outst.map (fun c =>
                 { c with run := if met then c.run + 1 else 0, calmAt := if k.rampC then c.calmAt else (match c.calmAt with | none => some at_ | a => a) }) }

/-- The cap level L of a rail and the acknowledged level A (R266, R267).  `CAP`, the grace timer and counter 71 are those of the
port that binds the rail. -/
def Live.capWork (l : Live) (r : Nat) : Live :=
  let lv := l.capLevel r
  let v := l.vr r
  if lv = v.level then l
  else match l.railBound r with
    | none => l.modVr r fun v => { v with level := lv, ack := if v.ack ≤ lv then lv else v.ack }
    | some p =>
      (l.countWith 71 1 { req := some p }).modVr r fun v =>
        if v.ack ≤ lv then { v with level := lv, cap := true, ack := lv, grace := none }
        else { v with level := lv, cap := true, grace := if v.ack ≤ v.level then some l.now else v.grace }

/-- The work of the present course may be done: the inputs are final and the down window has not gone out (R45, R217). -/
def Live.railDue (l : Live) (r : Nat) : Bool :=
  match l.railRing r with
  | none => false
  | some n =>
    let g := l.ring n
    l.given (oRail r) 0 && l.working && !l.fc.safe && g.st = .running && g.inCourse && g.runCourse && !g.downSent && l.inputsFinal (l.railTile r)

/-- How far the work of the present course has come. -/
def Live.railStage (l : Live) (r : Nat) : Nat := if (l.rail r).workAt = some (l.railStart r) then (l.rail r).stage else 0

/-- `RAIL_SENSE_LOST` when no estimate exists any more, whatever took the last one away (R233). -/
def Live.lostCheck (l : Live) (r : Nat) : Live :=
  let lost := l.senseLost r
  let was := (l.rail r).lostRaised
  let l := l.modRail r fun k => { k with lostRaised := lost }
  if lost && !was then l.raise 0x4008 (oRail r) else l

/-- A member fails open (R231): it is removed and parked, positions and rating follow, and a cap at the new rating is posted. -/
def Live.phaseOpen (l : Live) (r m : Nat) : Live :=
  if l.mAct r m && 16 ≤ (l.mem r m).openCnt then
    let l := l.modMem r m fun _ => { removed := true }
    let n := (l.acts r).length
    let l := (l.modRail r fun k => { k with rho := if n = 0 then k.rho else k.rho % n }).railRate r
    (l.modRail r fun k => { k with capOpen := k.rrail :: k.capOpen }).raise 0x4006 (oRail r) m
  else l

/-- A member's current sense fails (R232): it stays in rotation with an estimated current (R233). -/
def Live.senseFail (l : Live) (r m : Nat) : Live :=
  if l.senseBad r m then (l.modMem r m fun k => { k with senseF := true }).raise 0x4007 (oRail r) m else l

/-- The rail's measurements of the course, its rating, limit and caps, the counts of the voltage windows, and the fold-back
ceiling (R225, R226, R228, R230, R233, R623). -/
def Live.railJudge (l : Live) (r : Nat) : Live :=
  let l := l.modRail r fun k => { k with v := l.railVoltage r, iPrev := k.i, i := l.railCurrent r }
  let l := (l.railRate r).lostCheck r
  let ov := l.overV r
  let uv := !l.aboveUv r
  let l := l.modRail r fun k =>
    { k with ovCnt := if ov && k.st.ramps then k.ovCnt + 1 else 0,
             uvCnt := if uv && k.st = .on then k.uvCnt + 1 else 0, uvRaised := k.uvRaised && uv && k.st = .on }
  if (l.rail r).st = .foldback then l.foldUpdate r else l

/-- `RAIL_UV` (R225): once in a run of courses; the state does not change. -/
def Live.uvCheck (l : Live) (r : Nat) : Live :=
  let k := l.rail r
  if k.st = .on && k.uvCnt ≠ 0 && l.rcf r 4 11 4 ≤ k.uvCnt && !k.uvRaised then
    (l.modRail r fun k => { k with uvRaised := true }).raise 0x4002 (oRail r)
  else l

/-- `HICCNT` returns to 0 after 1 s in ON without a break (R222). -/
def Live.hicCheck (l : Live) (r at_ : Nat) : Live :=
  if (l.rail r).st = .on && (l.rail r).onAt + secTicks ≤ at_ then l.modRail r fun k => { k with hiccnt := 0 } else l

/-- Every row of Table 6.3 that the course meets, and the load step of R213. -/
def Live.railJudged (l : Live) (r : Nat) : Live :=
  let l := (((l.uvCheck r).hicCheck r (l.railStart r)).railRows r 12)
  let k := l.rail r
  let step := match k.i, k.iPrev with
    | some a, some b => (l.rcf r 6 15 8 : Rat) / 128 * k.rrail ≤ (if a < b then b - a else a - b)
    | _, _ => false
  l.modRail r fun k => { k with rotPrev := (l.rots r).length, stepSeen := k.stepSeen || step }

/-- The end of the course work: settling, the cap level, and what the port answers from (R252). -/
def Live.railFinish (l : Live) (r : Nat) : Live :=
  let l := (((l.lostCheck r).settleWork r).capWork r)
  l.modRail r fun k => { k with seen := { v := k.v, veff := k.veff, i := k.i, rr := k.rrail, cap := l.cap r } }

/-- One part of the course work, in the order of R237: classification; open phases and sense failures; rating and limit; the rows
of Table 6.3; shedding; what follows from them. -/
def Live.railPart (l : Live) (r : Nat) : Nat → Live
  | 1 => l.each 8 fun l m => l.countMember r m
  | 2 => (l.each 8 fun l m => l.phaseOpen r m).each 8 fun l m => l.senseFail r m
  | 3 => l.railJudge r
  | 4 => l.railJudged r
  | 5 => ((l.shedWork r).shedOne r).railCommitted r
  | 6 => l.railFinish r
  | _ => l

/-- The course work up to a part: what of it has not been done in this course. -/
def Live.railUpTo (l : Live) (r n : Nat) : Live :=
  l.forL ((List.range (n + 1)).filter (fun k => l.railStage r < k)) fun l k =>
    let l := l.modRail r fun q => { q with workAt := some (l.railStart r), stage := k }
    l.railPart r k

/-- RAIL_COURSE_WORK (R217, R237): once for each course, with the tile's inputs final. -/
def Live.railWork (l : Live) (r : Nat) : Live := if l.railDue r then l.railUpTo r 6 else l

def execRailCourseWork (rail : Fin 48) (s : State) : Host.Outcome State Fault Refusal := s.upd fun l => l.railWork rail

/-- The part of the course work that a row's event belongs to, as far as it has not been done: the parts before it, and then the
event itself. -/
def Live.railEvent (l : Live) (r parts : Nat) (f : Live → Live) : Live :=
  if l.railDue r && l.railStage r ≤ parts then f (l.railUpTo r parts) else l

/-- RAIL_OV (R225): `OVN` consecutive courses latch the rail. -/
def execRailOv (rail : Fin 48) (s : State) : Host.Outcome State Fault Refusal :=
  s.upd fun l => l.railEvent rail 3 fun l => l.railRows rail 0

/-- RAIL_UV (R225): `UVN` consecutive courses in ON; the state does not change. -/
def execRailUv (rail : Fin 48) (s : State) : Host.Outcome State Fault Refusal :=
  s.upd fun l => l.railEvent rail 3 fun l => l.uvCheck rail

/-- FBTIME_EXPIRY (R222): fold-back has held for `FBTIME`, counted between course starts. -/
def execFbtimeExpiry (rail : Fin 48) (s : State) : Host.Outcome State Fault Refusal :=
  s.upd fun l => l.railEvent rail 3 fun l => l.railRows rail 2

/-- RAIL_SS_FAIL (R224): 10 ms after V_r reached V_t the rail is not in its window. -/
def execRailSsFail (rail : Fin 48) (s : State) : Host.Outcome State Fault Refusal :=
  s.upd fun l => l.railEvent rail 3 fun l => l.railRows rail 3

/-- HICTIME_EXPIRY (R222, R223): the hiccup off time has elapsed. -/
def execHictimeExpiry (rail : Fin 48) (s : State) : Host.Outcome State Fault Refusal :=
  s.upd fun l => l.railEvent rail 3 fun l => l.railRows rail 9

/-- HICCNT_RESET (R222): 1 s in ON without a break. -/
def execHiccntReset (rail : Fin 48) (s : State) : Host.Outcome State Fault Refusal := s.upd fun l => l.hicCheck rail l.now

/-- RAIL_PHASE_OPEN (R229, R231). -/
def execRailPhaseOpen (rail : Fin 48) (member : Fin 8) (s : State) : Host.Outcome State Fault Refusal :=
  s.upd fun l => l.railEvent rail 1 fun l => l.phaseOpen rail member

/-- RAIL_SENSE_FAIL (R232, R233); open phases are tested first. -/
def execRailSenseFail (rail : Fin 48) (member : Fin 8) (s : State) : Host.Outcome State Fault Refusal :=
  s.upd fun l => l.railEvent rail 1 fun l => (l.each 8 fun l m => l.phaseOpen rail m).senseFail rail member

/-- PHASE_SHED (R219): the course work up to shedding. -/
def execPhaseShed (rail : Fin 48) (s : State) : Host.Outcome State Fault Refusal :=
  s.upd fun l => if l.railDue rail then l.railUpTo rail 5 else l

/-! ## Handover of a rail's tile (Table 6.3, the IDLE row) -/

/-- The first member of an IDLE rail's tile has been handed over: V_r := V of the handover course. -/
def Live.railHandover (l : Live) (r : Nat) : Live :=
  if (l.rail r).st ≠ .idle then l
  else
    let k := l.rail r
    let dv := k.v - (k.vt : Rat) / 16
    let near := (if dv < 0 then -dv else dv) ≤ l.settleTol r
    let vr := (truncR (max 0 k.v * 16)).toNat
    (l.railTo r (if near then .on else .softstart)).modRail r fun k =>
      { k with vr := vr, vrPrev := vr, slew := l.ssslew r, vfb := none, prebias := none, reachedAt := none,
               ssReached := near, onAt := l.railStart r, rotPrev := 0, ovCnt := 0, uvCnt := 0, dwellAt := none }

/-- A member of a rail becomes MOORED: it joins as active and healthy, and the dwell restarts (R220, R236). -/
def Live.railMember (l : Live) (r m : Nat) : Live :=
  ((l.modMem r m fun _ => {}).modRail r fun k => { k with dwellAt := none }).railHandover r

/-! ## Firing order and bricks (R211, R212) -/

/-- `PHASE` of the member at position p of n (R212). -/
def phaseOf (p rho n : Nat) : Nat := if n = 0 then 0 else (p + n - rho % n) % n * 64 / n

/-- The position of a member among a list. -/
def posIn (m : Nat) : List Nat → Nat
  | [] => 0
  | x :: xs => if x = m then 0 else posIn m xs + 1

/-- What Table 6.1 gives a member in rotation or removed; `firing` lists the members that fire, `held` is whether the
tile committed nothing in the course.  `DUTY` and `PHASE` of a HOLD are the framer's (R70). -/
def Live.railDown (l : Live) (r m : Nat) (firing : List Nat) (rho : Nat) (held : Bool) (duty : BitVec 14) : Down :=
  let k := l.rail r
  let off := k.st = .off || k.st = .hiccup || k.st = .latched
  let d : Down :=
    if (l.mem r m).removed then { park := true }
    else if off then {}
    else if (l.mem r m).shed then { duty := duty }
    else { duty := duty, phase := BitVec.ofNat 6 (phaseOf (posIn m firing) rho firing.length), en := k.prebias.isNone }
  { d with hold := held }

/-! ## Host control (R221, R240) -/

/-- The write of word 7 taken at a bond boundary (Table 6.5). -/
def Live.rctl (l : Live) (r : Nat) (w : Word) : Live :=
  let st := (l.rail r).st
  let l := match fld w 31 30 with
    | 1 => l.modRail r fun k => { k with intent := true }
    | 2 => l.modRail r fun k => { k with intent := false, stopNow := if st = .stopping && k.stopNow = 0 then 1 else k.stopNow }
    | 3 => if st = .latched then (l.railTo r .off).modRail r fun k => { k with hiccnt := 0 } else l
    | _ => l
  if fld w 29 28 = 1 then
    l.each 8 fun l m =>
      if bit w (20 + m) then
        l.modMem r m fun k => { shed := if k.removed then st = .on else k.shed, shedAt := if k.removed then l.now else k.shedAt }
      else l
  else l

/-- A new target takes effect from the present V_r, at its own slew class (R215). -/
def Live.railTarget (l : Live) (r v slew : Nat) : Live := l.modRail r fun k => { k with vt := v, slew := slew, vtLast := v, slewLast := slew }

/-- The write of word 8 taken at a bond boundary: the target and its slew class, which the word reads back (R215, Table 6.5). -/
def Live.vsetTake (l : Live) (r : Nat) (w : Word) : Live :=
  let ok := (l.railPort r).isNone && l.rcf r 2 15 0 ≤ fld w 31 16 && fld w 31 16 ≤ l.rcf r 2 31 16
  if !ok then l else (l.railTarget r (mv16 (fld w 31 16)) (fld w 15 13)).setHw (oRail r) 8 (put (fld w 15 13) 13 3)

/-- RCTL_ON (R221, R240): the write waits for the next bond boundary. -/
def execRctlOn (rail : Fin 48) (s : State) : Host.Outcome State Fault Refusal := s.upd fun l => l.pend (oRail rail) 7 (put 1 30 2)
/-- RCTL_OFF (R221, R240). -/
def execRctlOff (rail : Fin 48) (s : State) : Host.Outcome State Fault Refusal := s.upd fun l => l.pend (oRail rail) 7 (put 2 30 2)
/-- RCTL_UNLATCH (R222, R240). -/
def execRctlUnlatch (rail : Fin 48) (s : State) : Host.Outcome State Fault Refusal := s.upd fun l => l.pend (oRail rail) 7 (put 3 30 2)
/-- RCTL_RESTORE (R236, R240). -/
def execRctlRestore (rail : Fin 48) (pmask : Byte) (s : State) : Host.Outcome State Fault Refusal :=
  s.upd fun l => l.pend (oRail rail) 7 (put 1 28 2 ||| put pmask.toNat 20 8)

/-- A host write to `VSET` is admitted: no port serves the rail, and the target lies in `VMIN` to `VMAX` (R215). -/
def Live.vsetOk (l : Live) (r v : Nat) : Bool := (l.railPort r).isNone && l.rcf r 2 15 0 ≤ v && v ≤ l.rcf r 2 31 16

/-- VSET_WRITE (R215, R240). -/
def execVsetWrite (rail : Fin 48) (vset : Half) (hslew : BitVec 3) (s : State) : Host.Outcome State Fault Refusal :=
  s.upd fun l =>
    if l.vsetOk rail vset.toNat then l.pend (oRail rail) 8 (put vset.toNat 16 16 ||| put hslew.toNat 13 3) else l

/-! ## Activation (R215, R221, R267) -/

/-- A rail that the activation creates.  DESIGN CHOICE: `VBOOT` is ramped to at `SSSLEW`, as soft-start is (log entry 87). -/
def Live.railCreate (l : Live) (r : Nat) : Live :=
  let l := l.modRail r fun _ => { live := true, intent := l.cb (oRail r) 0 1 }
  (l.railTarget r (mv16 (l.rcf r 3 31 16)) (l.ssslew r)).modVr r fun _ => {}

/-- `VBOOT` changed: the new target takes effect from the present V_r (R215), at `SSSLEW` (log entry 87). -/
def Live.railReboot (l : Live) (r : Nat) : Live := l.railTarget r (mv16 (l.rcf r 3 31 16)) (l.ssslew r)

end Sys2Proof.Machine
end

