-- ==== Sys2Proof/Machine/Mooring.lean ====
section
/-! DEFINITION. Stations and mooring (chapter "Stations and mooring"): MGMT requests and replies, identification,
the matching pass, handover, and the firmware relay. -/
namespace Sys2Proof.Machine

/-! ## Requests (R113 to R116) -/

/-- The keeper's `TLEASE`, default 80 (Table 12.9). -/
def Live.tlease (l : Live) : Nat := if l.given 0xA000 0 then l.cf 0xA000 0 31 22 else 80

/-- Tl × 1.05 + 2 ms in ticks (R413). -/
def Live.claimTicks (l : Live) : Nat := l.keeper.tl * 50000 * 105 / 100 + 400000

/-- A request that no reply answers: SIGHT_ACK, UNASSIGN and FW_DATA (Table 3.5). -/
def MgmtReq.quiet (q : MgmtReq) : Bool := q.mop = 4 || q.mop = 7 || q.mop = 0xB

/-- The brick of a request. -/
def MgmtReq.brick (q : MgmtReq) (mseq : BitVec 2) : BitVec 64 :=
  mgmtBrickOf q.slot.toNat q.hopaddr mseq.toNat q.mop.toNat q.mdata.toNat q.mtag.toNat

/-- A brick for the tail of the ring's courses. -/
def Live.tailBrick (l : Live) (n : Nat) (b : BitVec 64) : Live := l.modRing n fun r => { r with mgmtq := r.mgmtq ++ [b] }

/-- Send the requests that wait, up to and including the first that is to be answered (R115). -/
def Live.stnPump (l : Live) (i : Nat) : Nat → Live
  | 0 => l
  | k + 1 =>
    let s := l.stn i
    match s.req, s.queue with
    | none, q :: rest =>
      let seq := s.mseq + 1
      let l := l.tailBrick s.ring (q.brick seq)
      if q.quiet then (l.modStn i fun s => { s with mseq := seq, queue := rest }).stnPump i k
      else l.modStn i fun s => { s with mseq := seq, queue := rest, req := some q, reqAt := l.now, reqFirst := l.now, reqBusy := 0, reqDefer := false }
    | _, _ => l

/-- Give the station a request: it is sent now, or after those before it. -/
def Live.stnAsk (l : Live) (i : Nat) (q : MgmtReq) : Live :=
  let l := l.modStn i fun s => { s with queue := s.queue ++ [q] }
  l.stnPump i ((l.stn i).queue.length + 1)

/-- The outstanding request is done with. -/
def Live.stnDone (l : Live) (i : Nat) : Live :=
  let l := l.modStn i fun s => { s with req := none, reqBusy := 0, reqDefer := false }
  l.stnPump i ((l.stn i).queue.length + 1)

/-- Requests by hop and by slot. -/
def Stn.byHop (s : Stn) (mop : BitVec 4) (mdata : Nat) : MgmtReq :=
  { mop := mop, hopaddr := true, mtag := BitVec.ofNat 8 s.hop, mdata := BitVec.ofNat 32 mdata }
def Stn.bySlot (s : Stn) (mop : BitVec 4) (mtag mdata : Nat) : MgmtReq :=
  { mop := mop, hopaddr := false, slot := BitVec.ofNat 5 s.slot, mtag := BitVec.ofNat 8 mtag, mdata := BitVec.ofNat 32 mdata }

/-- SIGHT_ACK: `MDATA` [47:24] is `SHASH` (Table 3.5). -/
def Live.sightAck (l : Live) (i : Nat) : Live :=
  let s := l.stn i
  (l.stnAsk i (s.byHop 4 (s.shash.toNat * 256))).modStn i fun s => { s with ackAt := l.now }

/-- DESC_READ of a word: `MDATA` [47:44] (Table 3.5). -/
def Live.descRead (l : Live) (i w : Nat) : Live := l.stnAsk i ((l.stn i).byHop 5 (w * 2 ^ 28))

/-- ASSIGN of brick `b`: `MDATA` [47:43] slot, [42:41] brick index, [40] `MGMTONLY` (Table 3.5). -/
def Live.assignBrick (l : Live) (i b : Nat) (only : Bool) : Live :=
  let s := l.stn i
  l.stnAsk i (s.byHop 6 ((s.slot + b) % 32 * 2 ^ 27 + b % 4 * 2 ^ 25 + if only then 2 ^ 24 else 0))

/-- UNASSIGN. -/
def Live.sendUnassign (l : Live) (i : Nat) : Live := (l.stnAsk i ((l.stn i).byHop 7 0)).modStn i fun s => { s with unassign := false }

/-- STATE_READ of an index (Table 3.5, R412), unless one like it already waits. -/
def Live.stateRead (l : Live) (i w : Nat) : Live :=
  let s := l.stn i
  let like (q : MgmtReq) : Bool := q.mop = 8 && q.mtag.toNat = w
  if s.queue.any like || (match s.req with | some q => like q | none => false) then l else l.stnAsk i (s.bySlot 8 w 0)

/-- PARAM write (Table 3.5). -/
def Live.paramWrite (l : Live) (i idx v : Nat) : Live := l.stnAsk i ((l.stn i).bySlot 9 (128 + idx) v)
/-- PARAM read. -/
def Live.paramRead (l : Live) (i idx : Nat) : Live := l.stnAsk i ((l.stn i).bySlot 9 idx 0)

/-- The station holds a slot whose slot is active. -/
def Live.stnActive (l : Live) (s : Stn) : Bool := s.rule.isSome && !s.slots.isEmpty && s.slots.all (fun p => (l.slot p.1 p.2).active)

/-! ## Leases that stations report (R412, R416, R419) -/

/-- The last index 3 reply reports HELD at the keeper's epoch on the keeper's side (R417). -/
def Live.leaseOk (l : Live) (s : Stn) : Bool :=
  s.leaseSeen && s.lease.state = 1 && s.lease.epoch = l.keeper.epoch && s.lease.side = l.keeper.roleB

/-- It reports another epoch or side. -/
def Live.leaseOther (l : Live) (s : Stn) : Bool :=
  s.leaseRep && (s.lease.epoch ≠ l.keeper.epoch || s.lease.side ≠ l.keeper.roleB)

/-- Leave the tenure: lease-live cleared, WATCH, COLD (Table 12.3). -/
def Live.keeperYield (l : Live) : Live := ((l.leaseClear.txnCancel.keeperTo .watch).modK fun k => { k with hand := .none, handIn := false }).toCold

/-- What an index 3 reply does beside being kept: Table 12.3's rows for WAITING and KEEPER, and R419. -/
def Live.leaseReport (l : Live) (i : Nat) : Live :=
  let s := l.stn i
  match l.keeper.st with
  | .waiting =>
    if s.lease.state = 1 && s.lease.side ≠ l.keeper.roleB && !l.keeper.handIn then
      (l.raise 0xA005 0xA000 (max 1 l.keeper.nrefuse)).keeperYield
    else l
  | .keeper =>
    if l.leaseOther s then
      let l := match s.st, s.tile with | .moored, some t => l.suspendTile t | _, _ => l
      let held := l.stns.filter (fun p => p.2.rule.isSome && (p.2.st = .moored || p.2.everMoored))
      if s.everMoored && !held.isEmpty && held.all (fun p => l.leaseOther p.2) then (l.raise 0xA006 0xA000).keeperYield else l
    else l
  | _ => l

/-! ## Discovery (R128, first rows of Table 3.8) -/

/-- The lowest free instance. -/
def Live.freeStn (l : Live) : Option Nat := (List.range 256).find? (fun i => (l.stn i).st = .unseen)

/-- BUOY_BRICK_RECEIVED (R107, R110, R128): a valid announcement. -/
def execBuoyBrickReceived (ring : Fin 8) (brick : BitVec 64) (errs : List GroupErr) (s : State) : Host.Outcome State Fault Refusal :=
  s.upd fun l =>
    let b := brick.toNat
    let g := l.ring ring
    let l := l.codeErr ring errs
    let ty := nbits b 35 32
    let hop := nbits b 31 24
    let sh : BitVec 24 := BitVec.ofNat 24 (nbits b 59 36)
    if (g.st ≠ .running && g.st ≠ .overbooked) || !l.fwWork then l
    else if !(errs.isEmpty && ok64 brick && nbits b 63 60 = 4 && 1 ≤ ty && ty ≤ 7 && 1 ≤ hop && hop ≤ 63) then l
    else match l.hopStn ring hop with
      | some i =>
        if (l.stn i).shash = sh then l.sightAck i
        else
          let l := l.stnDrop i
          match l.freeStn with
          | some j =>
            (((l.modStn j fun _ => { st := .sighted, ring := ring, hop := hop, shash := sh, stype := BitVec.ofNat 4 ty }).sightAck j).descRead j 0)
          | none => l
      | none =>
        match l.freeStn with
        | some j =>
          (((l.modStn j fun _ => { st := .sighted, ring := ring, hop := hop, shash := sh, stype := BitVec.ofNat 4 ty }).sightAck j).descRead j 0)
        | none => l

/-! ## Identification (Table 3.8) -/

/-- The reason the barred list gives an identifier. -/
def Live.barredWhy (l : Live) (uid : BitVec 64) : Option StnReason := (l.moor.barred.find? (fun p => p.1 = uid)).map (·.2)

/-- `SHASH` of an identifier: the CRC-32 over its octets, most significant first (R108). -/
def shashOf (uid : BitVec 64) : BitVec 24 := BitVec.ofNat 24 (crc32 (leBytes uid.toNat 8).reverse)

/-- The ring's rate lies outside a descriptor's `RATES`: code numbers from the fastest to the slowest. -/
def Live.rateOutside (l : Live) (s : Stn) : Bool :=
  let r := l.rate s.ring
  r < s.num 56 1 % 16 || s.num 56 1 / 16 < r

/-- A relayed image is activated: the station reports the version it should (Table 3.10, R135). -/
def Live.fwReported (l : Live) (i : Nat) : Live :=
  let s := l.stn i
  match l.moor.fwDone.find? (fun p => p.1 = s.uid) with
  | some p =>
    let l := { l with moor := { l.moor with fwDone := l.moor.fwDone.filter (fun q => q.1 ≠ s.uid) } }
    if s.fwver ≠ p.2.toNat then l.raise 0x2008 (oStn i) s.aux else l
  | none => l

/-- All sixteen words are read and `DCRC` passes (Table 3.8, R364). -/
def Live.identify (l : Live) (i : Nat) : Live :=
  let s := l.stn i
  match l.barredWhy s.uid with
  | some why => l.stnBar i why none
  | none =>
    if shashOf s.uid ≠ s.shash || s.stype.toNat ≠ s.dtype || l.rateOutside s || s.tmax ≤ s.tder then
      (l.raise 0x2002 (oStn i) s.aux).stnBar i .mismatch (some 0x2002)
    else if l.stns.any (fun p => p.1 ≠ i && p.2.known && p.2.uid = s.uid) then
      (l.raise 0x2003 (oStn i) s.aux).stnBar i .duplicate (some 0x2003)
    else (l.stnTo i .identified).fwReported i

/-- A word of the descriptor has arrived. -/
def Live.descWord (l : Live) (i : Nat) (w : Word) : Live :=
  let l := l.modStn i fun s => { s with desc := s.desc ++ [w], unanswered := 0 }
  let s := l.stn i
  if s.desc.length < 16 then l.descRead i s.desc.length
  else if crc32 (s.octets.take 60) = s.num 60 4 then l.identify i
  else
    let l := l.modStn i fun s => { s with desc := [], dcrcFails := s.dcrcFails + 1 }
    if 3 ≤ (l.stn i).dcrcFails then l else l.descRead i 0

/-- The relay to a station ends. -/
def Live.fwStop (l : Live) (i : Nat) : Live :=
  let l := l.modStn i fun s => { s with fwPark := false, fwChecked := false }
  { l with moor := { l.moor with fwBusy := if l.moor.fwBusy = some i then none else l.moor.fwBusy } }

/-- The relay is through with a station, and goes on to the next. -/
def Live.fwOver (l : Live) (i : Nat) : Live :=
  let l := { l with moor := { l.moor with fwTried := l.moor.fwTried ++ [(l.stn i).uid] } }
  l.fwStop i

/-- A station that fails is reported (R598). -/
def Live.fwFail (l : Live) (i : Nat) : Live := (l.raise 0x2008 (oStn i) (l.stn i).aux).fwOver i

/-- A request went unanswered in this state (Table 3.8, R116). -/
def Live.stnUnanswered (l : Live) (i : Nat) (q : MgmtReq) : Live :=
  let l := l.modStn i fun s => { s with unanswered := s.unanswered + 1 }
  let s := l.stn i
  let l := if q.mop = 8 && q.mtag = 3 then l.modStn i fun s => { s with leaseSeen := true } else l
  let l := if q.mop = 6 && s.st = .matched then l.modStn i fun s => { s with assignBad := true } else l
  let l := if l.moor.fwBusy = some i && (q.mop = 0xA || q.mop = 0xC || q.mop = 0xD) then l.fwFail i else l
  if (s.st = .identified || s.st = .barred) && 8 ≤ s.unanswered then l.stnDrop i
  else
    let l := l.stnDone i
    if s.st = .sighted && s.unanswered < 8 then l.descRead i s.desc.length else l

/-! ## Firmware relay (R134, R135) -/

/-- Blocks of 1024 bytes in the image that is relayed. -/
def Live.fwBlocks (l : Live) : Nat := cdiv l.moor.fwImage.length 1024

/-- One block and its check.  DESIGN CHOICE: of the four image bytes of a word the lowest stands in the low octet of `MDATA`, and
a last block that is shorter than 1024 bytes is sent, and checked, as long as it is, a last word filled up with zeros
(log entry 78). -/
def Live.fwSend (l : Live) (i b : Nat) : Live :=
  let blk := sliceB l.moor.fwImage (1024 * b) 1024
  let s := l.stn i
  let l := l.forL (List.range (cdiv blk.length 4)) fun l w => l.stnAsk i (s.bySlot 0xB w (numAt blk (4 * w) 4))
  (l.modStn i fun s => { s with fwBlock := b }).stnAsk i (s.bySlot 0xC b (crc32 blk))

/-- The whole image has been sent. -/
def Live.fwWhole (l : Live) (i : Nat) : Live := l.stnAsk i ((l.stn i).bySlot 0xC 0xFF (crc32 l.moor.fwImage))

/-- The reply to a step of the relay. -/
def Live.fwReply (l : Live) (i : Nat) (q : MgmtReq) (rstat : Nat) : Live :=
  let s := l.stn i
  if q.mop = 0xA then (if rstat = 0 then l.fwSend i 0 else l.fwFail i)
  else if q.mop = 0xC && q.mtag ≠ 0xFF then
    if rstat = 0 then (if s.fwBlock + 1 < l.fwBlocks then l.fwSend i (s.fwBlock + 1) else l.fwWhole i)
    else if rstat = 4 then l.fwSend i s.fwBlock else l.fwFail i
  else if q.mop = 0xC then
    if rstat = 0 then (l.modStn i fun s => { s with fwChecked := true }).stateRead i 0 else l.fwFail i
  else if q.mop = 0xD then
    if rstat = 0 then { l with moor := { l.moor with fwDone := l.moor.fwDone ++ [(s.uid, l.moor.fwVer)] } }.fwOver i else l.fwFail i
  else l

/-- FW_ACTIVATE goes only to a parked station (R134). -/
def Live.fwParked (l : Live) (i : Nat) : Live :=
  let s := l.stn i
  if l.moor.fwBusy = some i && s.fwChecked && s.parked && !s.queue.any (fun q => q.mop = 0xD) then l.stnAsk i (s.bySlot 0xD 0 0)
  else l

/-- A slot of the ring that no rule reserves and no station holds, for a relay (R134). -/
def Live.spareSlot (l : Live) (n : Nat) : Option Nat :=
  (List.range 32).find? (fun k => (l.slotRule n k).isNone && !l.stns.any (fun p => p.2.ring = n && p.2.mgmtSlot && p.2.slot = k))

/-- The MOORED and IDENTIFIED stations of the open image's vendor and type that still have another version, in ring and
hop order (R598). -/
def Live.fwLeft (l : Live) : List Nat :=
  ((l.stns.filter (fun p => (p.2.st = .moored || p.2.st = .identified) && p.2.vendor = l.moor.fwVendor.toNat &&
      p.2.typeb % 16 = l.moor.fwType.toNat % 16 && p.2.fwver ≠ l.moor.fwVer.toNat && !l.moor.fwTried.contains p.2.uid)).mergeSort
    (fun a b => a.2.ring < b.2.ring || (a.2.ring = b.2.ring && a.2.hop ≤ b.2.hop))).map (·.1)

/-- The next of them that holds a slot or can be given one (R134). -/
def Live.fwNext (l : Live) : Option Nat :=
  l.fwLeft.find? (fun i => let s := l.stn i; s.rule.isSome || s.mgmtSlot || (l.spareSlot s.ring).isSome)

/-- Start the relay to the next station, when an image is open for it and none is under way. -/
def Live.fwStart (l : Live) : Live :=
  if l.moor.fwImage.isEmpty || l.moor.fwBusy.isSome then l
  else match l.fwNext with
    | none => l
    | some i =>
      let s := l.stn i
      let l := { l with moor := { l.moor with fwBusy := some i } }.modStn i fun s => { s with fwChecked := false, parked := false }
      let len := l.moor.fwImage.length
      if s.rule.isSome || s.mgmtSlot then l.stnAsk i (s.bySlot 0xA 0 len)
      else match l.spareSlot s.ring with
        | some k => l.stnAsk i (s.byHop 6 (k % 32 * 2 ^ 27 + 2 ^ 24))
        | none => l.fwStop i

/-! ## Replies (R114, R116) -/

/-- The reply to an ASSIGN: the slots count as assigned when every brick's has come with OK. -/
def Live.assignReply (l : Live) (i : Nat) (q : MgmtReq) (rstat : Nat) : Live :=
  if q.mdata.getLsbD 24 then
    if rstat = 0 then
      let l := l.modStn i fun s => { s with mgmtSlot := true, slot := q.mdata.toNat / 2 ^ 27 % 32 }
      l.stnAsk i ((l.stn i).bySlot 0xA 0 l.moor.fwImage.length)
    else l.fwStop i
  else if (l.stn i).st ≠ .matched then l
  else if rstat ≠ 0 then l.modStn i fun s => { s with assignBad := true }
  else
    let k := q.mdata.toNat / 2 ^ 27 % 32
    (l.modSlot (l.stn i).ring k fun p => { p with assigned := true }).modStn i fun s => { s with assigned := s.assigned + 1 }

/-- The reply to a STATE_READ (Table 3.5, R412). -/
def Live.stateReply (l : Live) (i : Nat) (q : MgmtReq) (rstat : Nat) (v : Word) : Live :=
  if q.mtag = 3 then
    let l := l.modStn i fun s =>
      if rstat = 0 then
        { s with
          leaseSeen := true, leaseRep := true,
          lease := { state := BitVec.ofNat 2 (fld v 15 14), epoch := BitVec.ofNat 16 (fld v 31 16), side := bit v 13, bond := l.bond } }
      else { s with leaseSeen := true }
    if rstat = 0 then l.leaseReport i else l
  else if q.mtag = 0 && rstat = 0 then
    (l.modStn i fun s => { s with stateDuty := some (BitVec.ofNat 14 (fld v 31 18)), parked := bit v 10, stateAt := l.now }).fwParked i
  else l

/-- V_t of a rail that waits for its `VSENSE` member's `BUOYSET` (R422). -/
def Live.vtRead (l : Live) (i : Nat) (v : Word) : Live :=
  let s := l.stn i
  match s.tile.bind l.tileRail with
  | some r =>
    if l.keeper.vtWait.contains r && l.cf (oRail r) 0 15 13 = s.member then
      let vt := (truncR (vScale s (v.setWidth 14) * 16)).toNat
      (l.modRail r fun k => { k with vt := vt, vtLast := vt }).modK fun k => { k with vtWait := k.vtWait.filter (· ≠ r) }
    else l
  | none => l

/-- The reply to a PARAM (R118, R422). -/
def Live.paramReply (l : Live) (i : Nat) (q : MgmtReq) (rstat : Nat) (v : Word) : Live :=
  if rstat = 0 && q.mtag.toNat % 128 = 0 then
    if q.mtag.getLsbD 7 then l.modStn i fun s => { s with buoyset := some (v.setWidth 14) }
    else l.vtRead i v
  else if rstat = 0 && q.mtag = 130 then l.modStn i fun s => { s with inlim := some (q.mdata.setWidth 16) }
  else l

/-- A reply that answers the outstanding request (R116). -/
def Live.stnReply (l : Live) (i : Nat) (q : MgmtReq) (rstat : Nat) (v : Word) : Live :=
  if rstat = 5 then
    if 8 ≤ (l.stn i).reqBusy + 1 then l.stnUnanswered i q
    else l.modStn i fun s => { s with reqBusy := s.reqBusy + 1, reqDefer := true }
  else
    let bad := (l.stn i).st = .sighted && q.mop = 5 && rstat ≠ 0
    let l := l.modStn i fun s => { s with unanswered := if bad then s.unanswered + 1 else 0 }
    let l := l.stnDone i
    if q.mop = 5 then
      if (l.stn i).st ≠ .sighted then l
      else if rstat = 0 then l.descWord i v
      else if (l.stn i).unanswered < 8 then l.descRead i (l.stn i).desc.length else l
    else if q.mop = 6 then l.assignReply i q rstat
    else if q.mop = 8 then l.stateReply i q rstat v
    else if q.mop = 9 then l.paramReply i q rstat v
    else l.fwReply i q rstat

/-- MGMT_REPLY_RECEIVED (R114, R116). -/
def execMgmtReplyReceived (ring : Fin 8) (brick : BitVec 64) (errs : List GroupErr) (s : State) : Host.Outcome State Fault Refusal :=
  s.upd fun l =>
    let b := brick.toNat
    let g := l.ring ring
    let l := l.codeErr ring errs
    if (g.st ≠ .running && g.st ≠ .overbooked) || !l.fwWork then l
    else if !(errs.isEmpty && ok64 brick && nbits b 63 60 = 8 && nbits b 54 54 = 1 && nbits b 51 48 ≠ 0) then l
    else match l.hopStn ring (nbits b 15 8) with
      | none => l
      | some i =>
        let st := l.stn i
        match st.req with
        | none => l
        | some q =>
          if nbits b 51 48 ≠ q.mop.toNat || nbits b 53 52 ≠ st.mseq.toNat || 5 < nbits b 59 55 || st.reqDefer then l
          else l.stnReply i q (nbits b 59 55) (BitVec.ofNat 32 (nbits b 47 16))

/-- MGMT_RESEND (R115): 20 000 ticks without a reply; the same `MSEQ`. -/
def execMgmtResend (stn : Fin 256) (s : State) : Host.Outcome State Fault Refusal :=
  s.upd fun l =>
    let st := l.stn stn
    match st.req with
    | some q =>
      if !st.reqDefer && st.reqAt + 20000 ≤ l.now && l.fwWork then (l.tailBrick st.ring (q.brick st.mseq)).modStn stn fun s => { s with reqAt := l.now } else l
    | none => l

/-- The time a request may take: 1 ms, or 2 s for FW_ACTIVATE and FW_CHECK of a whole image (R114, R115). -/
def MgmtReq.patience (q : MgmtReq) : Nat := if q.mop = 0xD || (q.mop = 0xC && q.mtag = 0xFF) then 400000000 else bondTicks

/-- MGMT_UNANSWERED (R115): no reply since it was first sent; a request that a BUSY reply has put off is not judged until it is sent again. -/
def execMgmtUnanswered (stn : Fin 256) (s : State) : Host.Outcome State Fault Refusal :=
  s.upd fun l =>
    let st := l.stn stn
    match st.req with
    | some q =>
      if !st.reqDefer && st.reqFirst + q.patience ≤ l.now && l.fwWork then
        l.stnUnanswered stn q
      else l
    | none => l

/-- Requests that a BUSY reply put off are sent again at the next bond (R116). -/
def Live.resendDeferred (l : Live) : Live :=
  l.forL (l.stns.map (·.1)) fun l i =>
    let s := l.stn i
    match s.req with
    | some q => if s.reqDefer then (l.tailBrick s.ring (q.brick s.mseq)).modStn i fun s => { s with reqDefer := false, reqAt := l.now, reqFirst := l.now } else l
    | none => l

/-- STN_IDENT_FAIL (Table 3.8): `DCRC` failed three times, or 8 consecutive requests unanswered. -/
def execStnIdentFail (stn : Fin 256) (s : State) : Host.Outcome State Fault Refusal :=
  s.upd fun l =>
    let st := l.stn stn
    if l.fwWork && st.st = .sighted && (3 ≤ st.dcrcFails || 8 ≤ st.unanswered) then (l.raise 0x2001 (oStn stn) st.aux).stnDrop stn else l

/-- SIGHT_ACK_REFRESH (R110): at least every 204 800 000 ticks to a tracked station that holds no slot. -/
def execSightAckRefresh (stn : Fin 256) (s : State) : Host.Outcome State Fault Refusal :=
  s.upd fun l =>
    let st := l.stn stn
    if l.fwWork && st.st ≠ .unseen && st.rule.isNone && st.ackAt + 204800000 ≤ l.now then l.sightAck stn else l

/-! ## The matching pass (R127) -/

/-- Ring, hop and type of a rule match a station, and no other station is bound by it. -/
def Live.ruleMatches (l : Live) (s : Stn) (n : Nat) (r : Rule) : Bool :=
  r.ring = s.ring && r.stype = s.stype && (r.hopAny || r.hop = s.hop) && !l.stns.any (fun p => p.2.rule = some n)

/-- The first check of a rule that a station fails. -/
def Rule.refuses (r : Rule) (s : Stn) : Option StnReason :=
  if r.bricks ≠ s.dbricks then some .mismatch
  else if s.vrate < r.vrmin || s.irate < r.irmin then some .rating
  else if !r.vendAny && r.vendor ≠ s.vendor then some .vendor
  else if s.fwver < r.fwmin then some .firmware
  else none

/-- Bind a station to a rule: MATCHED, and ASSIGN for each brick. -/
def Live.bindRule (l : Live) (i n : Nat) (r : Rule) : Live :=
  let l := (l.stnTo i .matched).modStn i fun s =>
    { s with reason := .none, rule := some n, slot := r.slot, bricks := r.bricks, tile := some r.tile, member := r.member, mgmtSlot := false,
             assigned := 0, assignBad := false, silentRun := 0, dueFor := 0, handed := false, holdoff := false, leaseSeen := false, leaseRep := false, everMoored := false,
             inlim := none, stateDuty := none }
  l.each r.bricks fun l b => l.assignBrick i b false

/-- A station's firmware lies outside the range that the running firmware accepts (R597). -/
def Live.fwForeign (l : Live) (s : Stn) : Bool :=
  match l.sec.running with | some b => !pkgInRange (l.bank b) 3 s.fwver | none => false

/-- One IDENTIFIED station in the pass. -/
def Live.matchStn (l : Live) (i : Nat) : Live :=
  let s := l.stn i
  if l.fwForeign s then (l.raise 0x2002 (oStn i) s.aux).stnBar i .firmware (some 0x2002)
  else
  let cand := (numbered 0 l.img.cur.rules).filter (fun p => l.ruleMatches s p.1 p.2)
  match cand.find? (fun p => (p.2.refuses s).isNone) with
  | some p => l.bindRule i p.1 p.2
  | none =>
    match cand.head? with
    | some p => (l.raise 0x2002 (oStn i) s.aux).stnBar i ((p.2.refuses s).getD .none) (some 0x2002)
    | none => l.modStn i fun s => { s with reason := .unplaced }

/-- MATCHING_PASS (R127): every 2 000 000 ticks of the timebase, at a bond boundary.  DEDUCED: the passes fall at its
multiples, as in Table 17.4 (log entry 21). -/
def execMatchingPass (s : State) : Host.Outcome State Fault Refusal :=
  s.upd fun l =>
    if l.working && l.fwWork && l.now = l.bondAt && l.now % 2000000 = 0 then
      let xs := (l.stns.filter (fun p => p.2.st = .identified)).mergeSort (fun a b => a.2.ring * 64 + a.2.hop ≤ b.2.ring * 64 + b.2.hop)
      let l := l.forL (xs.map (·.1)) fun l i => l.matchStn i
      let l := { l with moor := { l.moor with passAt := l.now } }
      let ready := (List.range 8).all (fun n => l.rate n = 0xF || (l.ring n).st = .running) || l.keeper.waitBond + 8 ≤ l.bond
      l.modK fun k => { k with passSeen := k.passSeen || (k.st = .waiting && ready) }
    else l

/-! ## Handover (R130, R131, R174) -/

/-- `INLIM` that a receiver must have before handover: the operator's pair current limit (R118). -/
def Live.inlimWant (l : Live) (s : Stn) : Option Half :=
  if s.stype = 1 then (match s.tile.bind l.tileInput with | some j => some (BitVec.ofNat 16 (l.cf (oInput j) 0 31 16)) | none => none) else none

/-- A member may be handed over in this course: MATCHED, its slots active, two valid courses, no wait for the next bond, and
a lease report that R417 accepts, and `INLIM` written. -/
def Live.memberDue (l : Live) (s : Stn) : Bool :=
  s.st = .matched && !s.handed && !s.holdoff && l.stnActive s && s.slots.all (fun p => 2 ≤ (l.slot p.1 p.2).validRun) && l.leaseOk s &&
    ((l.inlimWant s).isNone || s.inlim = l.inlimWant s)

/-- The controller holds the lease and may hand over. -/
def Live.mayHand (l : Live) : Bool := l.keeper.live && l.keeper.st = .keeper && !l.fc.safe

/-- `QUORUM` of a tile: 0 stands for every member the rules give it (Table 3.7). -/
def Live.quorum (l : Live) (t : Nat) : Nat :=
  let rs := l.tileRules t
  match rs.head? with | some r => if r.quorum = 0 then rs.length else r.quorum | none => 0

/-- The members that are due now. -/
def Live.dueMembers (l : Live) (t : Nat) : List (Nat × Stn) := (l.members t).filter (fun p => l.memberDue p.2)

/-- The tile has started, so that a member that becomes due joins it alone (R131): it runs, and, where it is a POLICY tile,
which runs before it has members, one of its members has been handed over. -/
def Live.tileStarted (l : Live) (t : Nat) : Bool :=
  (l.tile t).st = .running && (l.tKind t ≠ 4 || (l.members t).any (fun p => p.2.handed || p.2.st = .moored))

/-- Handover is due for a tile: to start it with its quorum, or for members that join it while it runs. -/
def Live.handDue (l : Live) (t : Nat) : Bool :=
  let due := l.dueMembers t
  l.hasTile t && l.mayHand && !l.isolated t && !due.isEmpty &&
    (l.tileStarted t || (((l.tile t).st = .waiting || (l.tile t).st = .suspended || l.tKind t = 4) && l.quorum t ≤ due.length))

/-- The start tick of a tile's present course, and its period. -/
def Live.tileStart (l : Live) (t : Nat) : Option Nat := match l.tileRing t with | some n => if (l.ring n).inCourse then some (l.ring n).start else none | none => none
def Live.tilePeriod (l : Live) (t : Nat) : Nat := match l.tileRing t with | some n => l.period n | none => 0

/-- A STATE_READ index 0 reply received within the 8 courses before the present one. -/
def Live.freshDuty (l : Live) (s : Stn) : Bool :=
  s.stateDuty.isSome && s.stateAt ≤ (l.ring s.ring).start && (l.ring s.ring).start ≤ s.stateAt + 8 * l.period s.ring

/-- The mean of reported duties, rounded to nearest, a half upward. -/
def meanDuty (ds : List (BitVec 14)) : BitVec 14 :=
  if ds.isEmpty then 0 else BitVec.ofNat 14 ((2 * (ds.map (·.toNat)).sum + ds.length) / (2 * ds.length))

/-- This course can be a handover course of the tile: handover is due, and the down-bricks of its members are still to come. -/
def Live.handReady (l : Live) (t : Nat) : Bool :=
  let k := l.tile t
  l.handDue t && l.working && !k.committed && !k.discarded && (l.members t).all (fun p => (l.ring p.2.ring).inCourse && !(l.ring p.2.ring).downSent)

/-- A member that joins a running tile is handed over alone (R131).  A rail's member joins as active and healthy, and the dwell
restarts (R220, R236). -/
def Live.handJoin (l : Live) (t : Nat) (xs : List (Nat × Stn)) : Live :=
  let l := l.modTile t fun k => { k with handing := xs.map (·.1), alone := true }
  match l.tileRail t with
  | some r => l.forL xs fun l p => (l.modMem r p.2.member fun _ => {}).modRail r fun k => { k with dwellAt := none }
  | none => l

/-- The handover that starts a tile (R130): its members are handed over, with the mean of the duties that they report. -/
def Live.handStart (l : Live) (t : Nat) : Live :=
  let xs := (l.dueMembers t).filter (fun p => l.freshDuty p.2)
  if l.handReady t && !l.tileStarted t && xs.length = (l.dueMembers t).length then
    let l := l.modTile t fun k => { k with handing := xs.map (·.1), handover := some (meanDuty (xs.filterMap (·.2.stateDuty))) }
    if l.tKind t = 4 then l.modLoop fun e => { e with polQueue := t :: e.polQueue.filter (· ≠ t) } else l
  else l

/-- HANDOVER_COURSE (R130, R131, R174): the present course of the tile is a handover course, of the members that start it, or of
one that joins it.  A POLICY tile's evaluation is put before the others of its bond (log entry 22).  A tile that the rules give
no members resumes with REBASE pending. -/
def execHandoverCourse (tile : Fin 160) (s : State) : Host.Outcome State Fault Refusal :=
  s.upd fun l =>
    let t := tile.toNat
    let xs := (l.dueMembers t).filter (fun p => l.freshDuty p.2)
    let k := l.tile t
    if l.hasTile t && l.mayHand && !l.isolated t && (l.tileRules t).isEmpty && k.st = .suspended && l.working then
      l.modTile t fun k => { k with st := .running, rebase := true }
    else if !l.handReady t || xs.isEmpty then l
    else if l.tileStarted t then l.handJoin t (xs.take 1)
    else l.handStart t

/-- STN_HANDOVER_FAIL (Table 3.8): an ASSIGN that was not answered OK, or 64 courses without handover. -/
def execStnHandoverFail (stn : Fin 256) (s : State) : Host.Outcome State Fault Refusal :=
  s.upd fun l =>
    let st := l.stn stn
    if st.st ≠ .matched then l
    else if st.assignBad then
      let l := l.forL st.slots fun l p => l.modSlot p.1 p.2 fun k => { k with assigned := false }
      let l := ((l.stnTo stn .identified).modStn stn fun s => { s.unbind with assignBad := false }).sendUnassign stn
      l.raise 0x2005 (oStn stn) st.aux
    else if 64 ≤ st.dueFor then
      (l.modStn stn fun s => { s with dueFor := 0, handed := false, holdoff := true }).raise 0x2005 (oStn stn) st.aux
    else l

/-- STN_ADRIFT (Table 3.8): 8 consecutive silent courses with active slots. -/
def execStnAdrift (stn : Fin 256) (s : State) : Host.Outcome State Fault Refusal :=
  s.upd fun l =>
    let st := l.stn stn
    if (st.st = .matched || st.st = .moored) && 8 ≤ st.silentRun then (l.stnTo stn .adrift).raise 0x2004 (oStn stn) st.aux else l

/-- STN_UNSTABLE (R129): its tile suspended under R93 four times within 1000 bonds. -/
def execStnUnstable (stn : Fin 256) (s : State) : Host.Outcome State Fault Refusal :=
  s.upd fun l =>
    let st := l.stn stn
    let xs := st.suspends.filter (fun b => l.bond < b + 1000)
    if st.st ≠ .unseen && 4 ≤ xs.length then (l.modStn stn fun s => { s with suspends := [] }).raise 0x2007 (oStn stn) st.aux else l

/-! ## At a bond boundary (Table 3.8, R124) -/

/-- Write `INLIM` to a matched receiver (R118). -/
def Live.inlimWork (l : Live) (i : Nat) : Live :=
  let s := l.stn i
  match l.inlimWant s with
  | some w =>
    if s.st = .matched && l.stnActive s && s.inlim ≠ some w && !s.queue.any (fun q => q.mop = 9) && !(match s.req with | some q => q.mop = 9 | none => false) then
      l.paramWrite i 2 w.toNat
    else l
  | none => l

/-- The setpoint at which a tile has settled, in µV (R118): the target of the rail that it runs, or of the rail that it reads as
its setpoint (Table 4.3), once that is ON without a ramp; V_set of an INPUT or STRING tile, whose members feed the bus (R294).
DEDUCED: the latter two (log entry 79). -/
def Live.settledSet (l : Live) (t : Nat) : Option Rat :=
  let rail (r : Nat) : Option Rat := let k := l.rail r
                                     if k.st = .on && !k.rampC then some ((k.vt : Rat) / 16) else none
  match l.tileRail t with
  | some r => rail r
  | none =>
    match ((List.range 8).map (l.tIn t)).find? (fun b => bindCode b = 4) with
    | some b => rail (b % 64)
    | none => if l.tKind t = 1 || l.tKind t = 2 then (if 0 < l.pp.vset then some (l.pp.vset * 1000000) else none) else none

/-- Write `BUOYSET` to a moored member of a tile whose setpoint has settled at a new value (R118). -/
def Live.buoysetWork (l : Live) (i : Nat) : Live :=
  let s := l.stn i
  match s.tile.bind l.settledSet with
  | some v =>
    let code : BitVec 14 := if s.vfs = 0 then 0 else BitVec.ofNat 14 (satNat (v * 16383 / (s.vfs * 10000)) 16383)
    if s.st = .moored && s.buoyset ≠ some code && !s.queue.any (fun q => q.mop = 9) &&
        !(match s.req with | some q => q.mop = 9 | none => false) then
      l.paramWrite i 0 code.toNat
    else l
  | none => l

/-- Slots become and stop being active (R124); ADRIFT records go; UNASSIGN that is due is sent; waits for the next bond end. -/
def Live.stnBond (l : Live) : Live :=
  let l := l.each 8 fun l n =>
    l.each 32 fun l k =>
      let p := l.slot n k
      let on : Bool := match l.slotStn n k with
        | some i => (p.active || p.assigned) && ((l.stn i).st = .matched || (l.stn i).st = .moored)
        | none => false
      if on then l.modSlot n k fun p => { p with active := true, assigned := false }
      else if p.active || p.assigned then l.modSlot n k fun _ => {} else l
  let l := l.forL (l.stns.map (·.1)) fun l i =>
    let s := l.stn i
    let l := if s.unassign then l.sendUnassign i else l
    let l := if s.st = .adrift then l.stnDrop i else l
    let l := l.modStn i fun s => { s with holdoff := false, suspends := s.suspends.filter (fun b => l.bond < b + 1000) }
    (l.inlimWork i).buoysetWork i
  let l := match l.moor.fwBusy with
    | some i => if (l.stn i).fwChecked && (l.stn i).req.isNone then l.stateRead i 0 else l
    | none => l
  l.resendDeferred.fwStart

end Sys2Proof.Machine
end

