-- ==== Sys2Proof/Machine/Rings.lean ====
section
/-! DEFINITION. The rings outside their courses (chapter "Courses and Wanum rings"): layout, training, ranging,
returned headers and lost slots. -/
namespace Sys2Proof.Machine

/-! ## Layout (R74 to R80) -/

/-- D_meas in units of 0.4 ns: from ranging, or the allowance 4 ns × N + 8 ns (R78). -/
def Live.dmeasOf (l : Live) (n : Nat) : Nat :=
  if (l.ring n).ranged then (l.ring n).dmeas else 10 * (l.ringSlots n).length + 20

/-- The layout of a ring for a band: r, none where even r = 0 gives none (R77). -/
def Live.layoutFor (l : Live) (n band : Nat) : Option Nat :=
  layoutR (l.ringSlots n).length (l.lconv n) (l.dmeasOf n) band (l.period n)

/-- Lay the ring out for the band in force (R77, R80, Table 2.17): a layout that is not valid even with r = 0 makes a
RUNNING ring OVERBOOKED; `fresh` is a new ranging or commit, which alone takes a ring back from there. -/
def Live.relayout (l : Live) (n : Nat) (fresh : Bool) : Live :=
  let b := min l.loop.eband 4
  let l := l.modRing n fun g => { g with pairs := (l.ringSlots n).length, lband := b }
  match l.layoutFor n b with
  | some r =>
    let l := if fresh && (l.ring n).st = .overbooked then l.ringTo n .running else l
    l.modRing n fun g => { g with retry := r }
  | none =>
    let l := if (l.ring n).st = .running then (l.raise 0x1005 (oRing n)).ringTo n .overbooked else l
    l.modRing n fun g => { g with retry := 0 }

/-! ## Positions in the present course (R57, R75, Table 2.10), in ns from its comma -/

/-- The comma offset of a course: 2 ns at 800 kHz and 160 kHz where `COURSE_NUM` is odd (R57). -/
def Live.commaOff (l : Live) (n : Nat) : Nat := if (l.rate n = 1 || l.rate n = 6) && (l.ring n).num.getLsbD 0 then 2 else 0
/-- Where the line is now. -/
def Live.linePos (l : Live) (n : Nat) : Nat := 5 * (l.now - (l.ring n).start) - l.commaOff n
/-- D_plan of the layout in force. -/
def Live.dplanNow (l : Live) (n : Nat) : Nat := dPlan (l.ring n).pairs (l.dmeasOf n)
def Live.upAt (l : Live) (n : Nat) : Nat := 36 + 4 * l.lconv n
def Live.callAt (l : Live) (n : Nat) : Nat := l.upAt n + 32 * (l.ring n).pairs + l.dplanNow n
def Live.retryAt (l : Live) (n : Nat) : Nat := l.callAt n + 24
/-- The last up-retry is back (R147): behind the wait that follows the retry positions, or, where the course has none, behind
the wait that follows the up window. -/
def Live.finalAt (l : Live) (n : Nat) : Nat :=
  if (l.ring n).retry = 0 then l.callAt n else l.retryAt n + 32 * (l.ring n).retry + l.dplanNow n
def Live.downAt (l : Live) (n : Nat) : Nat := l.retryAt n + 32 * (l.ring n).retry + l.dplanNow n + bandGap (l.ring n).lband
def Live.checkAt (l : Live) (n : Nat) : Nat := l.downAt n + 24 * (l.ring n).pairs
def Live.dretryAt (l : Live) (n : Nat) : Nat := l.checkAt n + 24 + l.dplanNow n
/-- The ring has courses (Table 2.17). -/
def Live.courseRing (l : Live) (n : Nat) : Bool :=
  let g := l.ring n
  (g.st = .ranging || g.st = .running || g.st = .overbooked) && !g.silent && !g.refSilent
/-- The tail: behind the down-retry positions, or right behind the header of a course that is header-only. -/
def Live.tailAt (l : Live) (n : Nat) : Nat := if (l.ring n).runCourse then l.dretryAt n + 24 * (l.ring n).retry else 36
/-- How many 64-bit bricks fit in the tail (R82). -/
def Live.tailRoom (l : Live) (n : Nat) : Nat := (5 * l.period n - l.tailAt n - l.commaOff n) / 32
/-- The line stands at or behind a position, and before another. -/
def Live.lineIn (l : Live) (n a b : Nat) : Bool := a ≤ l.linePos n && l.linePos n < b

/-- What stands on the line in a course, as code groups from the comma (R52, Table 2.1): fill behind what the items leave. -/
def Live.lineGroups (l : Live) (n : Nat) : List CodeGroup :=
  let next : Nat := if (l.rate n = 1 || l.rate n = 6) && !(l.ring n).num.getLsbD 0 then 2 else 0
  .comma :: courseGroups 1 ((5 * l.period n + next - l.commaOff n) / 4) (l.ring n).line
/-- The training pattern: K28.5 and D16.2 in turn (Table 2.17). -/
def trainGroups (k : Nat) : List CodeGroup := (List.range k).map fun i => if i % 2 = 0 then .comma else .trainData

/-! ## Training (Table 2.17) -/

/-- The receiver has lost comma alignment: `RING_DOWN` from RUNNING, and training. -/
def Live.ringLost (l : Live) (n : Nat) : Live :=
  match (l.ring n).st with
  | .running => (l.raise 0x1002 (oRing n)).ringTrain n
  | .ranging => l.ringTrain n
  | _ => l

/-- TRAINING_ALIGNED (Table 2.17): 1024 code groups in alignment; `seen` says what the receiver found wrong before them. -/
def execTrainingAligned (seen : RingSeen) (s : State) : Host.Outcome State Fault Refusal :=
  s.upd fun l =>
    let l := l.codeErr seen.ring seen.errs
    let g := l.ring seen.ring
    if g.st = .training && !g.silent && !g.refSilent then
      (l.ringTo seen.ring .ranging).modRing seen.ring fun g => { g with passes := 0, lastPass := none }
    else l

/-- RING_TRAIN_FAIL (Table 2.17): 2 ms without alignment; the transmitter stops. -/
def execRingTrainFail (seen : RingSeen) (s : State) : Host.Outcome State Fault Refusal :=
  s.upd fun l =>
    let l := l.codeErr seen.ring seen.errs
    let g := l.ring seen.ring
    if g.st = .training && !g.silent && !g.refSilent && g.since + 400000 ≤ l.now then
      (l.raise 0x1003 (oRing seen.ring)).modRing seen.ring fun g => { g with silent := true, since := l.now }
    else l

/-- TRAINING_RESTART (Table 2.17): the silence of 1 ms ends. -/
def execTrainingRestart (ring : Fin 8) (s : State) : Host.Outcome State Fault Refusal :=
  s.upd fun l =>
    let g := l.ring ring
    if g.st = .training && g.silent && !g.refSilent && g.since + 200000 ≤ l.now then
      l.modRing ring fun g => { g with silent := false, since := l.now }
    else l

/-- ALIGNMENT_LOST (Table 2.17). -/
def execAlignmentLost (seen : RingSeen) (s : State) : Host.Outcome State Fault Refusal :=
  s.upd fun l => (l.codeErr seen.ring seen.errs).ringLost seen.ring

/-- COMMA_DRIFT (R132): 16 courses with the returning comma out by more than 0.8 ns. -/
def execCommaDrift (ring : Fin 8) (s : State) : Host.Outcome State Fault Refusal :=
  s.upd fun l => if 16 ≤ (l.ring ring).drift then l.ringLost ring else l

/-! ## Returned headers (R65, R132) -/

/-- HEADER_RETURN: `errs` is what is wrong with the header's groups, and with the fill and comma groups received since the
last header; `delay` is the comma's, in units of 0.4 ns. -/
def execHeaderReturn (ring : Fin 8) (header : BitVec 64) (errs : HeaderErrs) (delay : Nat) (s : State) : Host.Outcome State Fault Refusal :=
  s.upd fun l =>
    let n := ring.toNat
    let g := l.ring n
    if !g.inCourse then l
    else
      let l := (l.codeErr n (errs.header ++ errs.fill)).ringCount n 5 (if header ≠ g.hdr then 1 else 0)
      let failed : Bool := !errs.header.isEmpty || !headerOk header
      let off : Bool := g.st ≠ .ranging && 2 < (if delay < g.dmeas then g.dmeas - delay else delay - g.dmeas)
      let l := l.modRing n fun g => { g with hdrFails := if failed then g.hdrFails + 1 else 0, drift := if off then g.drift + 1 else 0 }
      if g.st = .running && 3 ≤ (l.ring n).hdrFails then l.ringLost n else l

/-! ## Ranging (R95 to R98) -/

/-- A ring MGMT operation of Table 2.16 to all stations, and to one hop. -/
def rangeBrick (mop mdata : Nat) : BitVec 64 := mgmtBrickOf 0 false 0 mop mdata 0
def rangeHopBrick (mop hop mdata : Nat) : BitVec 64 := mgmtBrickOf 0 true 0 mop mdata hop

/-- RANGE_CUM to each hop: the running sum of the delays of the links up to it. -/
def cumBricks : Nat → Nat → List Nat → List (BitVec 64)
  | _, _, [] => []
  | h, acc, d :: t => rangeHopBrick 3 h (acc + d) :: cumBricks (h + 1) (acc + d) t

/-- What ranging sends to the stations (R97), in the tail of the next course. -/
def Live.rangeSend (l : Live) (n hop acc delay : Nat) : Live :=
  let total := 40 * delay - acc
  let links := hop + 1
  let l := l.modRing n fun g => { g with linkBad := false }
  let uniform (l : Live) : Live := l.tailBrick n (rangeBrick 2 (total / links))
  match tfind l.img.cur.links n with
  | none => uniform l
  | some ds =>
    let sum := ds.sum
    if ds.length = links && (if sum < total then total - sum else sum - total) ≤ 400 then
      l.forL (cumBricks 1 0 (ds.take hop)) fun l b => l.tailBrick n b
    else uniform ((l.raise 0x1007 (oRing n)).modRing n fun g => { g with linkBad := true })

/-- A RANGE_COUNT as it returns (Table 2.8, Table 2.16, R54): its groups and `BCRC` pass; its `HOP` and `ACC`. -/
def rangeCountOk (b : BitVec 64) (errs : List GroupErr) : Bool :=
  errs.isEmpty && ok64 b && nbits b.toNat 63 60 = 8 && nbits b.toNat 51 48 = 1
def rangeHop (b : BitVec 64) : BitVec 8 := BitVec.ofNat 8 (nbits b.toNat 47 40)
def rangeAcc (b : BitVec 64) : BitVec 24 := BitVec.ofNat 24 (nbits b.toNat 39 16)

/-- A ranging course has ended: one whose RANGE_COUNT did not come back intact is a pass without agreement, and the next has
none before it to agree with (R98). -/
def Ring.rangeEnd (g : Ring) : Ring :=
  if g.st = .ranging && g.inCourse && !g.rangeGot then { g with passes := g.passes + 1, lastPass := none } else g

/-- RANGE_COUNT_RETURN (R97, R98): `delay` in units of 0.4 ns. -/
def execRangeCountReturn (ring : Fin 8) (brick : BitVec 64) (errs : List GroupErr) (delay : Nat) (s : State) : Host.Outcome State Fault Refusal :=
  s.upd fun l =>
    let n := ring.toNat
    let g := l.ring n
    let l := l.codeErr n errs
    let hop := rangeHop brick
    let acc := rangeAcc brick
    if g.st ≠ .ranging || !g.inCourse || g.rangeGot || 8 ≤ g.passes || !rangeCountOk brick errs then l
    else
      let agree : Bool := match g.lastPass with
        | some (h, a, d) => h = hop && a = acc && (if d < delay then delay - d else d - delay) ≤ 2
        | none => false
      if agree then
        let l := l.modRing n fun g => { g with ranged := true, hops := hop, acc := acc, dmeas := delay, passes := 0, lastPass := none, rangeGot := true }
        let l := (l.ringTo n .running).relayout n true
        l.rangeSend n hop.toNat acc.toNat delay
      else l.modRing n fun g => { g with passes := g.passes + 1, lastPass := some (hop, acc, delay), rangeGot := true }

/-- RING_RANGE_FAIL (R98): eight passes without agreement; the ring retrains. -/
def execRingRangeFail (ring : Fin 8) (s : State) : Host.Outcome State Fault Refusal :=
  s.upd fun l =>
    if (l.ring ring).st = .ranging && 8 ≤ (l.ring ring).passes then (l.raise 0x1004 (oRing ring)).ringTrain ring else l

/-! ## Lost slots (R93, R129) -/

/-- RING_SLOT_LOSS (R93): three consecutive lost courses suspend the slot's tile; once for each run of lost courses. -/
def execRingSlotLoss (ring : Fin 8) (slot : Fin 32) (s : State) : Host.Outcome State Fault Refusal :=
  s.upd fun l =>
    match l.slotTile ring slot with
    | none => l
    | some t =>
      let k := l.slot ring slot
      if k.active && 3 ≤ k.lost && !k.lossDone then
        let ms := l.members t
        let again : Bool := (l.tile t).st = .suspended
        let l := (l.suspendTile t).raise 0x1001 (oTile t) ring slot
        let l := if again then l else l.forL ms fun l p => l.modStn p.1 fun s => { s with suspends := l.bond :: s.suspends }
        l.modSlot ring slot fun k => { k with lossDone := true }
      else l

end Sys2Proof.Machine
end

