-- ==== Sys2Proof/Machine/Loop.lean ====
section
/-! DEFINITION. The Loop Engine (chapter "Loop Engine"): input latch, dispatch, commit and discard, POLICY tiles,
core voltage. -/
namespace Sys2Proof.Machine

/-! ## Tile status (Table 4.1) -/

def TileSt.code : TileSt → Nat
  | .unused => 0 | .waiting => 1 | .running => 2 | .suspended => 3

/-- The `TSTATE` octet. -/
def Tile.tstate (k : Tile) : Nat :=
  k.st.code + (if k.rebase then 8 else 0) + (if k.decSet then 16 else 0) + if k.decNow then 32 else 0

/-- A committed state slot: `VALUE` and `SAT` as committed, `INTEG` of the record in force (Table 4.2, R173). -/
def Live.slotNow (l : Live) (t i : Nat) : Word :=
  (tget 0 l.loop.slots (16 * t + i) &&& 0x01FFFFFF) ||| (l.cw (oTile t) (4 + i) &&& 0x02000000)

/-- The lane that serves a tile. -/
def Live.laneOf (l : Live) (t : Nat) : Nat := ((List.range 8).find? (fun n => (l.lane n).sched.any (fun e => e.1 = t))).getD 0

/-- The policy lane: the highest-numbered lane that holds no course tile (R176). -/
def Live.policyLane (l : Live) : Option Nat := (List.range 8).reverse.find? (fun n => (l.lane n).sched.isEmpty)

/-! ## What a course start latches (R47, R142) -/

/-- The cap in force as a fraction of R_rail (R235); 1.0 saturated where none stands. -/
def Live.capCode (l : Live) (r : Nat) : W24 := match l.cap r with | none => 0x7FFFFF | some c => q23 c (l.rail r).rrail

/-- The latch of a course start or bond boundary. -/
def Live.latchNow (l : Live) : Latch :=
  { outs := l.loop.outs, susp := l.tiles.filter (fun t => (l.tile t).st = .suspended), pol := l.loop.pol,
    adc := l.adc.codes, adcOk := l.adc.done,
    caps := l.railNums.foldl (fun t r => tput 0 t r (l.capCode r)) [],
    setp := l.railNums.foldl (fun t r => tput 0 t r (((l.rail r).veff : Rat) / 16)) [] }

/-- Keep the latch of ring `n`; 8 is the bond's, which POLICY tiles read. -/
def Live.takeLatch (l : Live) (n : Nat) : Live := l.modLoop fun e => { e with latches := tput {} e.latches n l.latchNow }
def Live.latchOf (l : Live) (n : Nat) : Latch := tget {} l.loop.latches n

/-- `AUX` as the pattern sees it, by its source (Table 4.3). -/
def auxCode (a : BitVec 12) (src : Option Nat) : W24 :=
  match src with
  | some 0x2 => a.signExtend 24 <<< 12
  | some 0x3 => a.signExtend 24 <<< 12
  | some 0x5 => a.signExtend 24 <<< 12
  | some 0x1 => a.setWidth 24 <<< 11
  | some 0x4 => a.setWidth 24 <<< 11
  | _ => 0

/-- The `AUX` of a slot: `AUXSEL` 0b00 is the hot-spot NTC; the others are the descriptor's. -/
def Live.auxValue (l : Live) (ring slot : Nat) (v : UpVals) (sel : BitVec 2) : W24 :=
  match l.slotStn ring slot with
  | none => 0
  | some i =>
    let s := l.stn i
    if !s.known then 0 else if sel = 0 then v.aux.signExtend 24 <<< 12 else auxCode v.aux (some (s.auxSource sel.toNat))

/-- A brick field and its status (Table 4.3, R143). -/
def Live.brickIn (l : Live) (ring slot field : Nat) (policy : Bool) : W24 × UpStat :=
  let k := l.slot ring slot
  let now := !(policy && k.up = .waiting)
  let v : UpVals := if now then k.cur else k.xa.getD {}
  let st : UpStat := if !k.active then .held
    else if now then (if k.up = .valid then .valid else if k.up = .predicted then .predicted else .held)
    else (if k.xa.isSome then .valid else .held)
  if st = .held then (0, .held)
  else match field with
    | 0 => (v.vmeas.setWidth 24 <<< 9, st)
    | 1 => (v.imeas.signExtend 24 <<< 10, st)
    | 2 => (l.auxValue ring slot v k.auxSrc, st)
    | _ => (v.flags.setWidth 24, st)

/-- One input port's value and status (Table 4.3, R143). -/
def Live.latchInput (l : Live) (lt : Latch) (t b : Nat) (policy : Bool) : W24 × UpStat :=
  let a := b % 4096
  match bindCode b with
  | 1 => l.brickIn (bindRing b) (bindSlot b) (bindField b) policy
  | 2 => let c := a % 16
         if lt.adcOk.contains c then ((tget 0 lt.adc c).setWidth 24 <<< 7, .valid) else (0, .held)
  | 3 => (tget 0 lt.outs (4 * bindTile b + b % 4), if lt.susp.contains (bindTile b) then .held else .valid)
  | 4 => (q23 (tget 0 lt.setp (a % 64)) (l.tVunit t), .valid)
  | 5 => (tget 0 lt.caps (a % 64), .valid)
  | 6 => (tget 0 lt.pol (a % 256), .valid)
  | 7 => (BitVec.ofNat 24 (l.tile t).tstate, .valid)
  | _ => (0, .valid)

/-! ## The evaluation (R138, R173, R191, R202) -/

/-- `o0` is bound to a duty: `DST` 0x1 or 0x3. -/
def dutyBound (r : Tbl Word) : Bool := bindCode (recOut r 0) = 1 || bindCode (recOut r 0) = 3

/-- A code held to [`OMIN`, `OMAX`] of a record. -/
def clampOut (r : Tbl Word) (v : W24) : W24 := BitVec.ofInt 24 (clampW v.toInt (recOmin r).toInt (recOmax r).toInt).1

/-- Continuation values (R191).  DESIGN CHOICE: in a handover evaluation that is also the first of a changed tile with `FRESH`
= 1, where two clauses of R191 speak of `o0`, it is the handover's mean, and the others are zero (log entry 82). -/
def Live.contVals (l : Live) (t : Nat) (r : Tbl Word) (fresh : Bool) : Tbl W24 :=
  let k := l.tile t
  let raw (n : Nat) : W24 :=
    if n = 0 && k.handover.isSome then (k.handover.getD 0).setWidth 24 <<< 9
    else if fresh then 0 else if k.everCommitted then l.outp t n else 0
  (List.range 4).foldl (fun c n => tput 0 c n (if n = 0 && dutyBound r then clampOut r (raw 0) else raw n)) []

/-- Learning is frozen by what is known at dispatch (R202, items 2 to 5). -/
def Live.rcFrozen (l : Live) (t : Nat) (r : Tbl Word) (sts : List UpStat) : Bool :=
  let o := (l.outp t 0).toInt
  (match l.tileRail t with | some q => (l.rail q).rampC | none => false) ||
    (l.tile t).everCommitted && (o ≤ (recOmin r).toInt || (recOmax r).toInt ≤ o) ||
    sts.any (fun x => x = .predicted || x = .held) ||
    l.alertOn (oTile t) || (l.members t).any (fun p => l.alertOn (oStn p.1))

/-- Latch the inputs and start the evaluation of a tile on a lane (R138, R142, R163, R173). -/
def Live.startEval (l : Live) (lane t : Nat) (ring : Option Nat) (num : Half) : Live :=
  let k := l.tile t
  let r := l.record_ t
  let l := l.modTile t fun k => { k with rebase := k.rebase || k.changed }
  let lt := l.latchOf (ring.getD 8)
  let vs := (List.range 8).map (fun i => l.latchInput lt t (recIn r i) ring.isNone)
  let sts := vs.map (·.2)
  let fresh := k.changed && recFresh r
  let smp := l.sampleDispatch
  let l := smp.2
  let l := l.countWith 3 (sts.filter (· = .predicted)).length {}
  let rb := k.rebase || k.changed || k.handover.isSome
  let e : Eval :=
    { tile := t, ring := ring, num := num, record := r, lib := l.img.cur.lib, pc := if rb then recPrebase r else recPmain r, inRebase := rb,
      handover := k.handover.isSome, ins := (numbered 0 (vs.map (·.1))).foldl (fun c p => tput 0 c p.1 p.2) [], sts := sts,
      conts := l.contVals t r fresh, frozen := l.rcFrozen t r sts, sampled := smp.1, startAt := l.now,
      slots0 := (List.range 16).foldl (fun c i => tput 0 c i (if fresh then recSlot r i else l.slotNow t i)) [] }
  l.modLane lane fun n => { n with ev := some e }

/-! ## Dispatch (R149, R162, R163) -/

/-- A lane is free: no evaluation, or a discarded one that has reached its END (R154). -/
def Lane.free (n : Lane) : Bool := match n.ev with | none => true | some e => e.ended && e.dropped

/-- The tile is skipped in a course under decimation (R162), but for the courses that R163 exempts. -/
def Live.decimated (l : Live) (t n : Nat) (num : Half) : Bool :=
  let k := l.tile t
  l.loop.decact && k.decSet && num.getLsbD 0 && !k.rebase && !k.changed && k.handover.isNone &&
    !((l.ring n).num = num && (l.ring n).hdr.getLsbD 22)

/-- The inputs of a skipped tile are latched all the same (R162). -/
def Live.decLatch (l : Live) (t n : Nat) : Live :=
  let lt := l.latchOf n
  let k := ((List.range 8).filter (fun i => (l.latchInput lt t (l.tIn t i) false).2 = .predicted)).length
  (l.countWith 3 k {}).modTile t fun k => { k with decWait := false }

/-- A decimation skip, which waits for nothing: where the inputs are not final yet they are latched when they are (R162). -/
def Live.decSkip (l : Live) (t n : Nat) : Live :=
  let l := (l.count 4).modTile t fun k => { k with decNow := true, decWait := true }
  if l.inputsFinal t then l.decLatch t n else l

/-- The inputs of the skipped tiles of a ring have become final. -/
def Live.decFinal (l : Live) (n : Nat) : Live :=
  l.forL (l.tiles.filter (fun t => (l.tile t).decWait && l.tileRing t = some n && l.inputsFinal t)) fun l t => l.decLatch t n

/-- What becomes of the entry that a lane has come to: it waits, it is skipped, it is skipped under decimation, or it starts. -/
inductive EntryDo where
  | wait | skip
  | decim (ring : Nat)
  | start (ring : Nat) (num : Half)
  deriving DecidableEq, Repr

/-- The entry of tile `t` whose course starts at `at_` (R149).  An entry that the lane reaches after its course has ended is
dispatched all the same, and its evaluation is discarded (R153, log entry 83). -/
def Live.entryDo (l : Live) (t at_ : Nat) : EntryDo :=
  match l.tileRing t with
  | none => .skip
  | some n =>
    let g := l.ring n
    let k := l.tile t
    let free : Bool := !l.fc.safe && !l.isolated t
    if l.now < at_ then .wait
    else if g.start < at_ || !g.inCourse then (if l.now = at_ && l.courseRing n then .wait else .skip)
    else if g.start = at_ then
      (if !free then .skip
       else if k.st = .running || ((k.st = .waiting || k.st = .suspended) && k.handover.isSome) then
         (if l.decimated t n g.num then .decim n else if l.inputsFinal t || at_ + l.period n ≤ l.now then .start n g.num else .wait)
       else if l.handDue t && !l.inputsFinal t then .wait else .skip)
    else if free && k.st = .running then
      let num := g.num - BitVec.ofNat 16 ((g.start - at_) / l.period n)
      if l.decimated t n num then .skip else .start n num
    else .skip

/-- Go through the lane schedule from its present entry, cycle after cycle, as one sequence (R149). -/
def Live.laneRun (lane : Nat) : Nat → Live → Live
  | 0, l => l
  | f + 1, l =>
    let k := l.lane lane
    match k.sched[k.pos]? with
    | none => if k.sched.isEmpty || l.now < k.base + k.cycle then l
              else Live.laneRun lane f (l.modLane lane fun n => { n with pos := 0, base := n.base + n.cycle })
    | some (t, c) =>
      let at_ := k.base + c * l.tilePeriod t
      let l := if l.tileStart t = some at_ && l.inputsFinal t then l.handStart t else l
      let on (l : Live) : Live := l.modLane lane fun n => { n with pos := n.pos + 1 }
      match (if at_ < k.since then EntryDo.skip else l.entryDo t at_) with
      | .wait => l
      | .skip => Live.laneRun lane f (on l)
      | .decim n => Live.laneRun lane f (on (l.decSkip t n))
      | .start n num => (on l).startEval lane t (some n) num

/-- TILE_DISPATCH (R149).  Lane cycles in which no tile of the lane runs are passed over at once. -/
def execTileDispatch (lane : Fin 8) (s : State) : Host.Outcome State Fault Refusal :=
  s.upd fun l =>
    let n := l.lane lane
    if !l.working || !n.free || n.cycle = 0 || l.laneHeld lane then l
    else
      let idle : Bool := n.sched.all (fun e => (l.tile e.1).st ≠ .running)
      let now := n.base + (l.now - n.base) / n.cycle * n.cycle
      let l := l.modLane lane fun n => if idle && n.base < now then { n with ev := none, base := now, pos := 0 } else { n with ev := none }
      let k := l.lane lane
      l.laneRun lane (((l.now - k.base) / k.cycle + 2) * (k.sched.length + 1))

/-! ## The schedules in loop memory (R170, Table 4.7) -/

/-- The octets of a copy: per lane its cycle, the index of its first entry and their number, and then the entries. -/
def schedOctets (ls : List (Nat × List (Nat × Nat))) : List Byte :=
  let first (n : Nat) : Nat := ((ls.take n).map (fun p => p.2.length)).sum
  ((numbered 0 ls).flatMap fun p => leBytes p.2.1 4 ++ leBytes (first p.1) 2 ++ leBytes p.2.2.length 2) ++
    ls.flatMap fun p => p.2.flatMap fun e => leBytes (e.1 * 256 + e.2) 2

/-- The copy in force, and the copy that receives the schedules of a pending commit. -/
def Live.schedCopy (l : Live) (pending : Bool) : List Byte :=
  schedOctets ((List.range 8).map fun n => if pending then tget (0, []) l.loop.pendSched n else ((l.lane n).cycle, (l.lane n).sched))

/-- A word of loop memory that holds a part of one of the copies.  The spec gives no addresses: `Config.schedAt` (log entry 84). -/
def Live.schedWord (l : Live) (a : Nat) : Option Word :=
  [false, true].findSome? fun pending =>
    let at_ := Config.schedAt (l.loop.schedSel != pending)
    let bs := l.schedCopy pending
    if at_ ≤ a && a < at_ + 1024 then some (BitVec.ofNat 32 (leNat ((bs.drop (4 * (a - at_))).take 4))) else none

/-! ## Deadlines (R148, Table 2.10) -/

/-- Position of a slot among a ring's slots in use. -/
def Live.slotPos (l : Live) (n s : Nat) : Nat := ((l.ringSlots n).filter (· < s)).length

/-- The offset of a tile's deadline in its course, in ns from the comma; the end of the course where it has no down-brick. -/
def Live.deadlineNs (l : Live) (t : Nat) : Nat :=
  let xs := (l.tileRules t).map (fun r => l.downAt r.ring + 24 * l.slotPos r.ring r.slot)
  xs.min?.getD (5 * l.tilePeriod t)

/-- The deadline of an evaluation has come: its tick, or the down window that has gone out, or the end of its course;
for a POLICY tile, the next bond boundary. -/
def Live.late (l : Live) (e : Eval) : Bool :=
  match e.ring with
  | none => e.startAt < l.bondAt
  | some n =>
    let g := l.ring n
    !g.inCourse || g.num ≠ e.num || l.deadlineNs e.tile ≤ l.linePos n ||
      (l.memberRings e.tile).any (fun m => (l.ring m).downSent)

/-! ## Commit (R144, R145, R151) -/

/-- A sample of an evaluation that has been chosen (R534): one of its instructions, with a free latency. -/
def Live.sampleEval (l : Live) (lane : Nat) (e : Eval) (discarded : Bool) : Live :=
  if !e.sampled || e.trail.isEmpty then l
  else
    let d := l.drawBelow e.trail.length
    let lat := d.2.draw 16
    match e.trail[d.1]? with
    | some (a, op, rb, pf) =>
      lat.2.sampleStore { tile := e.tile, lane := lane, rebase := rb, pfalse := pf, discarded := discarded, addr := BitVec.ofNat 16 a,
                          opcode := BitVec.ofNat 8 op, latency := lat.1, course := e.num, tick := e.startAt % 2 ^ 48 }
    | none => l

/-- `DUTY` of a committed output: clamped to [`OMIN`, `OMAX`] on port 0, to [0, 16 383/16 384], then shifted (R145).  DEDUCED: the
output that stays committed is the one before this clamp (R202, log entry 106). -/
def dutyOf (r : Tbl Word) (port : Nat) (v : W24) : BitVec 14 :=
  let v := if port = 0 then (clampOut r v).toInt else v.toInt
  BitVec.ofNat 14 ((clampW v 0 (16383 * 512)).1.toNat / 512)

/-- Where a committed output goes beside the tile's own port (Table 4.4). -/
def Live.outGo (l : Live) (r : Tbl Word) (port : Nat) (v : W24) : Live :=
  let b := recOut r port
  match bindCode b with
  | 2 => l.setPol (b % 256) v
  | 3 => l.modSlot (bindRing b) (bindSlot b) fun k => { k with polDuty := some (dutyOf r port v) }
  | _ => l

/-- Every buffered effect of an evaluation, as one action (R151, R173, R183). -/
def Live.commitEval (l : Live) (lane : Nat) (e : Eval) : Live :=
  let t := e.tile
  let k := l.tile t
  let r := e.record
  let fresh := k.changed && recFresh r
  let l := l.each 16 fun l i =>
    if fresh || e.slotSet.contains i then
      l.modLoop fun p => { p with slots := tput 0 p.slots (16 * t + i) (e.slotWord i &&& 0x01FFFFFF) }
    else l
  let l := l.each 4 fun l i =>
    if e.outSet.contains i then (l.setOut t i (tget 0 e.outs i)).outGo r i (tget 0 e.outs i)
    else if fresh then l.setOut t i 0 else l
  let l := l.each 8 fun l i =>
    if e.pubSet.contains i then l.modLoop fun p => { p with pubs := tput 0 p.pubs (8 * t + i) (tget 0 e.pubs i) } else l
  let l := match e.rc with
    | some v => l.modLoop fun p => { p with rcPool := tput 0 p.rcPool (recRcBase r + k.rcK) v }
    | none => l
  let l := l.each 8 fun l c => if e.tapSet.contains c then l.traceEntry c t lane e.num (tget 0 e.taps c) else l
  let l := l.modTile t fun k =>
    { k with ovr := 0, overrun := false, stalled := false, rebase := k.rebase && !e.ranRebase, changed := k.changed && !e.ranRebase,
             everCommitted := true, committed := e.ring.isSome, discarded := false,
             st := if e.handover then .running else k.st, handover := if e.handover then none else k.handover }
  let l := l.modTile t fun k => { k with duty := dutyOf r 0 (l.outp t 0) }
  let l := (l.count 0).count (8 + lane)
  match l.tileRail t with | some q => l.railCommitted q | none => l

/-- TILE_COMMIT (R151): END has been executed and the deadline has not come. -/
def execTileCommit (lane : Fin 8) (s : State) : Host.Outcome State Fault Refusal :=
  s.upd fun l =>
    match (l.lane lane).ev with
    | some e =>
      if e.ended && !e.bad && !e.dropped && !l.late e && ((l.tile e.tile).st = .running || e.handover) && !l.isolated e.tile then
        let l := (l.commitEval lane e).sampleEval lane e false
        l.modLane lane fun n => { n with ev := none }
      else l
    | none => l

/-! ## Discard (R153, R154, R176) -/

/-- A POLICY tile's evaluation is discarded (R176). -/
def Live.policyDrop (l : Live) (t lane : Nat) : Live :=
  (((l.count 1).count 6).modTile t fun k => { k with ovr := min 255 (k.ovr + 1) }).raise 0x3005 (oTile t) lane

/-- The lane lets go of a discarded evaluation, at once when it has ended. -/
def Live.laneDrop (l : Live) (lane : Nat) (e : Eval) : Live :=
  l.modLane lane fun n => { n with ev := if e.ended then none else some { e with dropped := true } }

/-- A course tile's evaluation is discarded (R153).  A handover that it carried out has not taken place (R174). -/
def Live.courseDrop (l : Live) (e : Eval) : Live :=
  let mine : Bool := match e.ring with | some n => (l.ring n).num = e.num | none => false
  (l.count 1).modTile e.tile fun k =>
    { k with ovr := min 255 (k.ovr + 1), discarded := k.discarded || mine, handover := if e.handover then none else k.handover,
             handing := if e.handover then [] else k.handing }

/-- TILE_DISCARD (R153, R154): the deadline has come, the evaluation executed a reserved encoding (R207), or its tile
has been suspended, which is not a discard of R153. -/
def execTileDiscard (lane : Fin 8) (s : State) : Host.Outcome State Fault Refusal :=
  s.upd fun l =>
    match (l.lane lane).ev with
    | some e =>
      let k := l.tile e.tile
      let gone : Bool := !(k.st = .running || e.handover) || l.isolated e.tile || l.fc.safe
      if e.dropped then l
      else if l.late e || (e.ended && e.bad) then
        let l := if e.ring.isNone then l.policyDrop e.tile lane else l.courseDrop e
        (l.sampleEval lane e true).laneDrop lane e
      else if gone then (l.sampleEval lane e true).laneDrop lane e
      else l
    | none => l

/-- LOOP_OVERRUN (R155): once for each run of discards. -/
def execLoopOverrun (tile : Fin 160) (s : State) : Host.Outcome State Fault Refusal :=
  s.upd fun l =>
    let k := l.tile tile
    if l.courseTile tile && 2 ≤ k.ovr && !k.overrun then
      (l.modTile tile fun k => { k with overrun := true }).raise 0x3001 (oTile tile) (l.laneOf tile)
    else l

/-- LOOP_STALL (R156): the tile is suspended, and its members receive `BUOY` = 1; `OVR` stands until a commit (R153). -/
def execLoopStall (tile : Fin 160) (s : State) : Host.Outcome State Fault Refusal :=
  s.upd fun l =>
    let k := l.tile tile
    if l.courseTile tile && 8 ≤ k.ovr && !k.stalled then
      ((if k.st = .running then l.suspendTile tile else l).modTile tile fun k => { k with stalled := true }).raise 0x3002 (oTile tile) (l.laneOf tile)
    else l

/-! ## POLICY tiles (R176) -/

/-- POLICY tiles that may run, in descending `PRIO`, ties by number. -/
def Live.policyTiles (l : Live) : List Nat :=
  (l.tiles.filter (fun t => l.tKind t = 4 && (l.tile t).st = .running)).mergeSort (fun a b => l.tPrio b < l.tPrio a || (l.tPrio a = l.tPrio b && a ≤ b))

/-- POLICY_DISPATCH (R176): the next POLICY tile of the bond, on the policy lane. -/
def execPolicyDispatch (s : State) : Host.Outcome State Fault Refusal :=
  s.upd fun l =>
    match l.policyLane with
    | none => l
    | some n =>
      if !l.working || l.fc.safe || !(l.lane n).free || l.laneHeld n then l
      else
        match l.loop.polQueue.dropWhile (fun t => (l.tile t).st ≠ .running || l.isolated t) with
        | [] => l.modLoop fun e => { e with polQueue := [] }
        | t :: rest => (l.modLoop fun e => { e with polQueue := rest }).startEval n t none 0

/-- LOOP_POLICY_LATE (R176): what was not committed by the bond boundary is discarded. -/
def execLoopPolicyLate (s : State) : Host.Outcome State Fault Refusal :=
  s.upd fun l =>
    let n := l.policyLane.getD 7
    let l := match (l.lane n).ev with
      | some e => if e.ring.isNone && !e.dropped && e.startAt < l.bondAt then (((l.policyDrop e.tile n).sampleEval n e true).laneDrop n e) else l
      | none => l
    (l.forL l.loop.polLate fun l t => if (l.tile t).st = .running then l.policyDrop t n else l).modLoop fun e => { e with polLate := [] }

/-- At a bond boundary: what has not run is late, and the queue of the new bond is made. -/
def Live.policyBond (l : Live) : Live :=
  l.modLoop fun e => { e with polLate := e.polLate ++ e.polQueue, polQueue := l.policyTiles }

/-! ## Core voltage (R157 to R160) -/

/-- `VCORE` target code of a band, and the ends of its pin window (Table 4.5). -/
def vcTarget : Nat → Nat
  | 0 => 10 | 1 => 20 | 2 => 20 | 3 => 30 | _ => 40
def vcTop : Nat → Nat
  | 0 => 20 | 1 => 30 | 2 => 30 | _ => 40

/-- `VCPIN`, 0 where it pins nothing (Table 4.6). -/
def Live.vcpin (l : Live) : Nat :=
  let c := fld (l.hw 0x3FFF 0) 31 24
  if 10 ≤ c && c ≤ 40 then c else 0

/-- The target in force for a band. -/
def Live.vcFor (l : Live) (band : Nat) : Nat :=
  let p := l.vcpin
  if p = 0 then vcTarget band else max (vcTarget band) (min p (vcTop band))

/-- VCPIN_WRITE (R160): it acts from the next bond boundary. -/
def execVcpinWrite (code : Byte) (s : State) : Host.Outcome State Fault Refusal :=
  s.upd fun l => if l.dom 1 then l.pend 0x3FFF 0 (put code.toNat 24 8) else l

/-! ## Tugs (R308) -/

/-- A tug acts in this bond: it goes on where it has acted in this bond or the one before, and starts anew otherwise (R308). -/
def Live.tug (l : Live) (obj word lsb win lose asked applied : Nat) : Live :=
  let same (u : Tug) : Bool := u.obj = obj && u.word = word && u.bit = lsb && u.win = win && u.lose = lose
  let goes (u : Tug) : Bool := same u && l.bond ≤ u.last + 1
  if l.pp.tugs.any goes then l.modPp fun p => { p with tugs := p.tugs.map (fun u => if same u then { u with last := l.bond } else u) }
  else
    let l := l.modPp fun p =>
      { p with tugs := p.tugs.filter (fun u => !same u) ++ [{ obj := obj, word := word, bit := lsb, win := win, lose := lose, last := l.bond }] }
    (l.count 96).record 0x03 (leBytes obj 2 ++ [BitVec.ofNat 8 word, BitVec.ofNat 8 lsb, BitVec.ofNat 8 (16 * win + lose), 0, 0, 0] ++
      leBytes asked 4 ++ leBytes applied 4)

/-- Tugs that did not act for one whole bond have ended. -/
def Live.tugsEnd (l : Live) : Live := l.modPp fun p => { p with tugs := p.tugs.filter (fun u => l.bond ≤ u.last + 1) }

/-- The pin replaces the band's target, or is clamped to the band's window (R159). -/
def Live.vcoreTug (l : Live) (b : Nat) : Live :=
  let p := l.vcpin
  let c := l.vcFor b
  if p = 0 || p = vcTarget b then l
  else if c ≠ p then l.tug 0x3FFF 0 24 1 3 p c
  else l.tug 0x3FFF 0 24 3 4 (vcTarget b) c

/-- The core voltage at a bond boundary, with its tug (R158, R159). -/
def Live.vcoreBond (l : Live) : Live :=
  let b := l.loop.eband
  (l.modLoop fun e => { e with vcnow := l.vcFor b }).vcoreTug b

end Sys2Proof.Machine
end

