-- ==== Sys2Proof/Machine/Thermal.lean ====
section
/-! DEFINITION. The Thermal Manager (chapter "Thermal model and temperature bands"): die sensors and bands, point
networks, corrections, the `AUXSEL` schedule, air sensors and scrub passes. -/
namespace Sys2Proof.Machine

/-! ## Bands (R348) -/

/-- Rising threshold of a band in °C (Table 10.1). -/
def bandRise : Nat → Rat
  | 1 => -20 | 2 => 40 | 3 => 95 | 4 => 125 | _ => 150

/-- The hottest band whose rising threshold lies at or below a temperature. -/
def bandAt (t : Rat) : Nat := ([5, 4, 3, 2, 1].find? (fun b => bandRise b ≤ t)).getD 0

/-- The band a point in band `b` goes to at a temperature (R348). -/
def bandStep (b : Nat) (t : Rat) : Nat :=
  if b < bandAt t then bandAt t
  else if b ≠ 0 && t < bandRise b - 3 then bandAt (t + 3)
  else b

/-! ## Settings (Table 10.5) -/

def Live.tcorr (l : Live) : Nat := if l.given 0x8FFF 2 then max 1 (l.cf 0x8FFF 2 31 24) else 60
def Live.kmax (l : Live) : Rat := (if l.given 0x8FFF 2 then (l.cf 0x8FFF 2 23 16 : Rat) else 100) / 10
def Live.plaus (l : Live) : Rat := if l.given 0x8FFF 2 then (l.cf 0x8FFF 2 15 8 : Rat) else 15
def Live.tambfb (l : Live) : Rat := (if l.given 0x8FFF 2 then (l.cf 0x8FFF 2 7 0 : Rat) else 149) - 64

/-! ## The die (R349, R350) -/

/-- The middle one of a list of seven. -/
def median7 (xs : List Rat) : Rat := ((xs.mergeSort (fun a b => a ≤ b))[3]?).getD 0

/-- One die sensor at a read: whether it meets a condition of R350 now, and its new state. -/
def DieSensor.read (d : DieSensor) (t : Rat) (others : List Rat) : DieSensor :=
  let m := median7 others
  let off : Bool := 15 < (if t < m then m - t else t - m)
  let out : Bool := t < -60 || 200 < t
  let run := if off then d.run + 1 else 0
  { t := t, run := run, bad := out || off, broken := d.broken || out || 16 ≤ run }

/-- The die band changes: a hotter one is in force for the engine at once, a cooler one at the next bond (R80, R158). -/
def Live.dieBand (l : Live) (b : Nat) : Live :=
  let old := l.therm.dband
  if b = old then l
  else
    let l := ({ l with therm := { l.therm with dband := b } }).count 105
    let l := if b = 4 then l.raise 0x8001 0x8FFF else if b = 5 then l.raise 0x8002 0x8FFF else l
    let l := if l.loop.eband < b then (l.modLoop fun e => { e with eband := b, vcnow := l.vcFor b }).vcoreTug b else l
    l.snapBand

/-- The die sensors' read is due: the first, then one every 20 000 ticks (R349). -/
def Live.dieDue (l : Live) : Bool := match l.therm.dieAt with | none => true | some t => t + 20000 ≤ l.now

/-- DIE_SENSOR_READ (R349, R350): eight readings in sixteenths of a degree. -/
def execDieSensorRead (sixteenths : List Int) (s : State) : Host.Outcome State Fault Refusal :=
  s.upd fun l =>
    if !l.dom 4 || sixteenths.length ≠ 8 || !l.dieDue then l
    else
      let l : Live := { l with therm := { l.therm with dieAt := some l.now } }
      let ts : List Rat := sixteenths.map (fun x => (x : Rat) / 16)
      let new := (numbered 0 ts).map (fun p => (p.1, (tget {} l.therm.die p.1).read p.2 (((numbered 0 ts).filter (fun q => q.1 ≠ p.1)).map (·.2))))
      let l := l.forL new fun l p =>
        let was := (tget {} l.therm.die p.1).broken
        let l := { l with therm := { l.therm with die := tput {} l.therm.die p.1 p.2 } }
        if p.2.broken && !was then (l.count 107).raise 0x8005 0x8FFF p.1 else l
      let top := (new.map (fun p => if p.2.broken then 125 else p.2.t)).max?.getD 0
      let l := { l with therm := { l.therm with tdie := top } }
      l.dieBand (bandStep l.therm.dband top)

/-! ## Point parameters (R351, Table 3.3, Table 10.4) -/

/-- A time constant in seconds: [15:14] unit, [13:0] count. -/
def tauSec (v : Nat) : Rat := (v % 16384 : Nat) * (match v / 16384 % 4 with | 0 => 1 / 10000 | 1 => 1 / 1000 | 2 => 1 / 100 | _ => 1 / 10)

/-- R in K/W and τ in s of stage i of a point. -/
def Live.stage (l : Live) (p i : Nat) : Rat × Rat :=
  let rt : Nat × Nat := if p < 256 then ((l.stn p).num (34 + 4 * i) 2, (l.stn p).num (36 + 4 * i) 2)
    else (l.cf (oPoint p) (5 + i) 31 16, l.cf (oPoint p) (5 + i) 15 0)
  ((rt.1 : Rat) / 100, tauSec rt.2)

/-- Derating start and maximum in °C. -/
def Live.tderOf (l : Live) (p : Nat) : Rat := if p < 256 then ((l.stn p).tder : Rat) else (l.cf (oPoint p) 8 31 24 : Rat) - 64
def Live.tmaxOf (l : Live) (p : Nat) : Rat := if p < 256 then ((l.stn p).tmax : Rat) else (l.cf (oPoint p) 8 23 16 : Rat) - 64

/-- The point runs (R351). -/
def Live.pointRuns (l : Live) (p : Nat) : Bool :=
  if p < 256 then (l.stn p).st = .moored else p < 288 && l.cf (oPoint p) 4 31 30 ≠ 0

/-- The point's sensor gives readings: a station's NTC, or the ADC channel of `CEN`. -/
def Live.pointHasNtc (l : Live) (p : Nat) : Bool := p < 256 || l.cb (oPoint p) 4 11

/-- The highest working air sensor, else the fallback (R354). -/
def Live.airFallback (l : Live) : Rat × Bool :=
  match (((List.range 4).map (fun i => tget {} l.therm.air i)).filter (fun a => a.read && !a.broken)).map (·.t) |>.max? with
  | some t => (t, false)
  | none => (l.tambfb, true)

/-- The temperature of a source: kind 0 an air sensor, 1 a point. -/
def Live.ambSource (l : Live) (kind ref : Nat) : Rat × Bool :=
  if kind = 1 then ((l.point ref).ths, false)
  else let a := tget {} l.therm.air ref
       if a.read && !a.broken then (a.t, false) else l.airFallback

/-- The ambient of a point, and whether the fallback is in use (R354). -/
def Live.ambient (l : Live) (p : Nat) : Rat × Bool :=
  if p < 256 then
    let n := (l.stn p).ring
    let v := l.cf 0x8FFF (3 + n / 2) (if n % 2 = 0 then 31 else 15) (if n % 2 = 0 then 16 else 0)
    l.ambSource (v / 16384 % 4) (v % 512)
  else l.ambSource (l.cf (oPoint p) 4 26 25) (l.cf (oPoint p) 4 24 16)

/-- The loss polynomial of a descriptor in mW, with I in A and V in V (Table 3.3). -/
def Stn.loss (s : Stn) (v i : Rat) : Rat :=
  let a := if i < 0 then -i else i
  10 * (s.num 26 2 : Rat) + (s.num 28 2 : Rat) * a + (s.num 30 2 : Rat) * i * i / 10 + (s.num 32 2 : Rat) * v

/-- The loss power of a point (R353). -/
def Live.lossOf (l : Live) (p : Nat) : Rat :=
  let k := l.point p
  if p < 256 then (if k.nSamp = 0 then k.ploss else (l.stn p).loss (k.sumV / k.nSamp) (k.sumI / k.nSamp))
  else match l.cf (oPoint p) 4 31 30 with
    | 1 => sumR (((l.stns.filter (fun q => q.2.st = .moored && q.2.ring = l.cf (oPoint p) 4 29 27)).map (fun q => (l.point q.1).ploss)))
    | 2 => (l.pwr.pwrNow.toNat : Rat)
    | _ => 0

/-! ## Readings (R357 to R361) -/

/-- Update period of a band (Table 10.3). -/
def pointPeriod : Nat → Nat
  | 0 => 2000000 | 1 => 2000000 | 2 => 400000 | 3 => 100000 | _ => 20000

/-- A point that begins to run: fresh, or with values from a checkpoint (R359, R368). -/
def Live.pointStart (l : Live) (p : Nat) : Live :=
  l.modPoint p fun k => if k.restored then { k with run := true, lastAt := l.now, period := pointPeriod k.band } else { run := true, lastAt := l.now, fresh := k.fresh }

/-- The cause for which a sensor is to be found broken (R360): 1 open or short, 2 stuck, 3 implausible, 0 none. -/
def Point.why (k : Point) : Nat :=
  if 4 ≤ k.openRun then 1 else if 4096 ≤ k.stuckRun && 5 ≤ k.thsHi - k.thsLo then 2 else if 16 ≤ k.implRun then 3 else 0

/-- A sensor is found broken (R360, R361): the fault, band `T4` or `T5`, and a θ of at most 0.5; its pending reading is not
used. -/
def Live.sensorBreak (l : Live) (p why : Nat) : Live :=
  let was := (l.point p).band
  let l := l.modPoint p fun k =>
    { k with broken := true, cause := why, okRun := 0, openRun := 0, implRun := 0, newNtc := false, band := max was 4, theta := min k.theta 128 }
  let l := (l.count 107).raise 0x8005 (oPoint p) why
  if max was 4 ≠ was then l.count 105 else l

/-- A reading of the point's sensor: its raw code, and the temperature unless it reads 0x800. -/
def Live.ntcReading (l : Live) (p code : Nat) (t : Option Rat) : Live :=
  let k := l.point p
  if !k.run then l
  else
    let same : Bool := k.stuckRun ≠ 0 && k.lastNtc = code
    let imp : Bool := match t with | some x => l.plaus < (if x < k.ths then k.ths - x else x - k.ths) | none => false
    let amb := (l.ambient p).1
    let l := if t.isSome && !k.broken then l.count 106 else l
    let l := l.modPoint p fun k =>
      { k with
        openRun := if t.isNone then k.openRun + 1 else 0,
        stuckRun := if same then k.stuckRun + 1 else 1, lastNtc := code,
        thsLo := if same then min k.thsLo k.ths else k.ths, thsHi := if same then max k.thsHi k.ths else k.ths,
        implRun := if t.isNone then k.implRun else if imp then k.implRun + 1 else 0,
        okRun := if t.isSome && !imp then k.okRun + 1 else 0,
        tntc := if t.isSome && !k.broken then t else k.tntc,
        newNtc := k.newNtc || (t.isSome && !k.broken),
        d3 := match t with | some x => if k.everNtc || k.restored || k.broken then k.d3 else max 0 (x - amb) | none => k.d3,
        everNtc := k.everNtc || (t.isSome && !k.broken), fresh := k.fresh && t.isNone }
    let why := (l.point p).why
    if !k.broken && why ≠ 0 then l.sensorBreak p why else l

/-- A station's `AUX` reading with `AUXSEL` 0b00 (R112). -/
def Live.auxReading (l : Live) (i : Nat) (a : BitVec 12) : Live :=
  l.ntcReading i a.toNat (if a = 0x800 then none else some ((a.toInt : Rat) / 8))

/-- A value held with at least 24 significant bits: the exact one but for a relative error that the manual leaves open within
2^-24 (R352). -/
def fpNear (x : Rat) : Rat := x * (1 + clampR (Config.fpError x) (-1 / 16777216) (1 / 16777216))

/-- A fraction to 48 bits behind the point. -/
def cut48 (x : Rat) : Rat := ((x * 281474976710656).floor : Rat) / 281474976710656

/-- The first terms of e^-y: Σ (-y)^i / i!, summed from the last. -/
def expSum (y : Rat) : Nat → Rat → Rat
  | 0, acc => acc
  | n + 1, acc => expSum y n (1 - y / (n + 1) * acc)

/-- e^-x for x of 0 or more: (e^-(x/64))^64, each power to 48 bits; 0 from x = 44 on, below 2^-63. -/
def expNeg (x : Rat) : Rat :=
  if 44 ≤ x then 0
  else
    let sq (y : Rat) : Rat := cut48 (y * y)
    fpNear (sq (sq (sq (sq (sq (sq (expSum (x / 64) 16 1)))))))

/-- Σ t^(2i+1) / (2i+1) over n terms. -/
def atanhSum (t : Rat) : Nat → Rat
  | 0 => 0
  | n + 1 => atanhSum t n + t ^ (2 * n + 1) / (2 * n + 1)

/-- A number as m × 2^k with m from 2/3 to 4/3, within the steps given. -/
def splitTwo : Nat → Rat → Int → Rat × Int
  | 0, x, k => (x, k)
  | n + 1, x, k => if 4 / 3 < x then splitTwo n (x / 2) (k + 1) else if x < 2 / 3 then splitTwo n (x * 2) (k - 1) else (x, k)

/-- ln of a number from 2^-30 to 2^30: k × ln 2 + 2 atanh((m − 1)/(m + 1)), with ln 2 = 2 atanh(1/3). -/
def lnOf (x : Rat) : Rat :=
  let p := splitTwo 32 x 0
  fpNear (2 * atanhSum ((p.1 - 1) / (p.1 + 1)) 16 + p.2 * (2 * atanhSum (1 / 3) 24))

/-- The NTC curve of R617 for an ADC code. -/
def ntcCurve (c : Nat) : Option Rat :=
  if 0xFFF0 ≤ c || c ≤ 0x0010 then none
  else
    let r : Rat := 10000 * c / (65536 - c)
    let x : Rat := 20 / 5963 + (lnOf (r / 10000)) / 3435
    some (1 / x - 5463 / 20)

/-- A conversion of a channel that corrects auxiliary points (R357). -/
def Live.auxPointReading (l : Live) (ch : Nat) (code : Half) : Live :=
  l.each 32 fun l j =>
    let p := 256 + j
    if l.cf (oPoint p) 4 31 30 ≠ 0 && l.cb (oPoint p) 4 11 && l.cf (oPoint p) 4 15 12 = ch then l.ntcReading p code.toNat (ntcCurve code.toNat) else l

/-! ## Updates (R352, R356, R357, R363) -/

/-- One stage over a step (R352). -/
def stageStep (d pw r tau dt : Rat) : Rat := d + (pw * r / 1000 - d) * (1 - if tau = 0 then 0 else expNeg (dt / tau))

/-- θ as a multiple of 1/256 (R363). -/
def thetaOf (t tder tmax : Rat) : Nat :=
  if t ≤ tder then 256 else if tmax ≤ t then 0 else (truncR ((tmax - t) / (tmax - tder) * 256)).toNat

/-- The object a point's fault is raised against. -/
def overObj (p : Nat) : Nat := if p < 256 then oStn p else oPoint p

/-- POINT_UPDATE (R352, R356, R357, R363, R364): the correction by a sensor waits for firmware (R26). -/
def execPointUpdate (point : Fin 288) (s : State) : Host.Outcome State Fault Refusal :=
  s.upd fun l =>
    let p := point.toNat
    let k := l.point p
    if !l.dom 4 || !k.run || !l.pointRuns p || l.now < k.lastAt + k.period then l
    else
      let dt : Rat := ((l.now - k.lastAt : Nat) : Rat) / secTicks
      let pw := l.lossOf p
      let amb := l.ambient p
      let corr : Bool := k.newNtc && !k.broken && l.coresUp
      let kc := match corr, k.tntc with
        | true, some t => clampR (k.k + (t - k.ths) * dt / l.tcorr) (-l.kmax) l.kmax
        | _, _ => k.k
      let st (i : Nat) := l.stage p i
      let d1 := stageStep k.d1 pw (st 0).1 (st 0).2 dt
      let d2 := stageStep k.d2 pw (st 1).1 (st 1).2 dt
      let d3 := if k.everNtc || k.restored || !l.pointHasNtc p then stageStep k.d3 pw (st 2).1 (st 2).2 dt else 0
      let ths := amb.1 + d1 + d2 + d3 + kc
      let mband := bandStep k.band ths
      let band := if k.broken || k.fresh then (if bandStep (min k.band 5) ths = 5 then 5 else 4) else mband
      let th0 := thetaOf ths (l.tderOf p) (l.tmaxOf p)
      let th := if k.broken || k.fresh then min th0 128 else th0
      let hot : Bool := l.tmaxOf p ≤ ths
      let l := l.modPoint p fun k =>
        { k with d1 := d1, d2 := d2, d3 := d3, k := kc, ths := ths, ploss := pw, tamb := amb.1, ambfb := amb.2, band := band, theta := th,
                 lastAt := l.now, sumV := 0, sumI := 0, nSamp := 0, newNtc := k.newNtc && !corr && !k.broken, derated := th < 256, hot := hot,
                 period := pointPeriod band }
      let l := l.count 104
      let l := if band ≠ k.band then l.count 105 else l
      let l := if th < 256 && !k.derated then l.raise 0x8003 (oPoint p) else l
      if hot && !k.hot then l.raise 0x8004 (overObj p) else l

/-! ## The `AUXSEL` schedule (R362, Table 10.3) -/

/-- m of a band, never below 4 for RX and MR. -/
def auxM (band : Nat) (rxmr : Bool) : Nat :=
  match band with
  | 0 => 16 | 1 => 16 | 2 => 8 | 3 => 4 | _ => if rxmr then 4 else 2

/-- The next declared value after `v`, wrapping; 0 where there is none. -/
def auxNext (s : Stn) (v : Nat) : Nat :=
  let ok := [1, 2, 3].filter (fun x => s.auxSource x ≠ 0)
  match ok.find? (fun x => v < x) with
  | some x => x
  | none => ok.head?.getD 0

/-- `AUXSEL` of a station in course `idx` of a bond, and its new place; a station that is not moored gets 0b00. -/
def Live.auxselOf (l : Live) (i idx : Nat) : Nat × Nat :=
  let s := l.stn i
  let k := l.point i
  let rxmr : Bool := s.stype = 1 || s.stype = 2
  if s.st ≠ .moored || idx % auxM k.band rxmr = 0 then (0, k.auxStep)
  else if rxmr then (1, k.auxStep)
  else (auxNext s k.auxStep, auxNext s k.auxStep)

/-! ## Air sensors (R355) -/

/-- Enable, port and address of an air sensor (Table 10.5). -/
def Live.airEn (l : Live) (i : Nat) : Bool := l.cb 0x8FFF (i / 2) (31 - i % 2)
def Live.airPort (l : Live) (i : Nat) : Nat := if l.cb 0x8FFF (i / 2) (29 - i % 2) then 1 else 0

/-- An initiator port's transfer becomes due (R501): served in order. -/
def Live.piAsk (l : Live) (port : Nat) (a : Asker) : Live :=
  l.modPi port fun p => if p.due.contains a || p.active = some a then p else { p with due := p.due ++ [a] }

/-- AIR_SENSOR_READ (R355): every 1 s each enabled air sensor is read. -/
def execAirSensorRead (sensor : Fin 4) (s : State) : Host.Outcome State Fault Refusal :=
  s.upd fun l =>
    let a := tget {} l.therm.air sensor
    let due : Bool := match a.askAt with | none => true | some t => t + secTicks ≤ l.now
    if l.dom 4 && l.working && l.airEn sensor && due then
      ({ l with therm := { l.therm with air := tput {} l.therm.air sensor { a with askAt := some l.now } } }).piAsk (l.airPort sensor) (.air sensor)
    else l

/-- The two octets of a sensor: 16-bit two's complement, 1/256 °C, most significant first (R318). -/
def tempBytes (b : List Byte) : Rat := (sgn (leNat (b.take 2).reverse) 16 : Rat) / 256

/-- The read of an air sensor has ended (R355). -/
def Live.airDone (l : Live) (i : Nat) (data : Option (List Byte)) : Live :=
  let a := tget {} l.therm.air i
  let put (l : Live) (a : AirSensor) : Live := { l with therm := { l.therm with air := tput {} l.therm.air i a } }
  match data with
  | some b => put l { a with t := tempBytes b, fails := 0, broken := false, read := true }
  | none =>
    let n := a.fails + 1
    let l := put l { a with fails := n, broken := a.broken || 3 ≤ n }
    if n = 3 then l.raise 0x8006 0x8FFF i else l

/-! ## Scrubbing (R365) -/

/-- Scrub period of a die band (Table 10.2). -/
def scrubPeriod : Nat → Nat
  | 0 => 200000000 | 1 => 200000000 | 2 => 100000000 | 3 => 20000000 | _ => 4000000

/-- The codes that an uncorrected ECC error raises. -/
def eccCodes : List Nat := [0x1006, 0x3003, 0x3004, 0x3007, 0x8007, 0x9001, 0xB005, 0xC00A, 0xD002, 0xD015, 0xE001]

/-- Tiles whose entry points cover a library word (Table 4.9): from each entry up to its END, at most 64 words. -/
def Live.coverFrom (l : Live) (a w : Nat) : Nat → Bool
  | 0 => false
  | n + 1 => a = w || (fld (tget 0 l.img.cur.lib a) 31 26 ≠ 1 && l.coverFrom (a + 1) w n)
def Live.coversWord (l : Live) (t w : Nat) : Bool :=
  l.coverFrom (recPmain (l.record_ t)) w 64 || l.coverFrom (recPrebase (l.record_ t)) w 64

/-- What an uncorrected error does beside its fault: its chapter's own words. -/
def Live.eccEffect (l : Live) (a : FaultArg) : Live :=
  let c := a.code.toNat
  if c = 0x3003 then l.suspendTile (a.obj.toNat - 0x3000)
  else if c = 0x3004 then l.forL (l.tiles.filter (fun t => l.coversWord t a.val.toNat)) fun l t => l.suspendTile t
  else if c = 0xB005 then l.txnRollback 3
  else if c = 0xD015 then l.tornNow a.aux.toNat
  else l

/-- The object of an uncorrected error is one that the code belongs to: a ring, a tile, a lane of the engine. -/
def Live.eccHere (l : Live) (a : FaultArg) : Bool :=
  let o := a.obj.toNat
  match a.code.toNat with
  | 0x1006 => oRing 0 ≤ o && o ≤ oRing 7
  | 0x3003 => oTile 0 ≤ o && l.hasTile (o - oTile 0)
  | 0x3004 => o = 0x3FFF || (oTile 0 ≤ o && l.hasTile (o - oTile 0))
  | 0x3007 => (o = 0x3FFF || (oTile 0 ≤ o && l.hasTile (o - oTile 0))) && a.aux.toNat < 8
  | c => eccCodes.contains c

/-- A memory that carries SEC-DED ECC (R39), by number. -/
def eccMem : MemSpace → Option Nat
  | .retention => some 0 | .cpu => some 1 | .loop => some 2 | .record => some 3 | .ring => some 4 | .rom => some 5
  | .flashA | .flashB | .flashC => none

/-- A corrected error is counted (R39). -/
def Live.eccCorrected (l : Live) (m : MemSpace) : Live :=
  match eccMem m with
  | some k => { l with therm := { l.therm with ecc := tmod 0 l.therm.ecc k (· + 1) } }
  | none => l

/-- An uncorrected error (R39): the fault of the subsystem that owns the memory, with what its chapter adds. -/
def Live.eccFault (l : Live) (a : FaultArg) : Live :=
  if l.eccHere a then (l.eccEffect a).raise a.code.toNat a.obj.toNat a.aux.toNat a.val.toNat else l

/-- SCRUB_PASS (R39, R365): the memories in which it corrected an error, and the uncorrected errors. -/
def execScrubPass (found : ScrubFound) (s : State) : Host.Outcome State Fault Refusal :=
  s.upd fun l =>
    if l.pwr.st = .off || l.now < l.therm.scrubAt + scrubPeriod l.therm.dband then l
    else
      let l := { l with therm := { l.therm with scrubAt := l.now } }
      let l := l.forL found.corrected Live.eccCorrected
      l.forL (found.errors.filter (fun a => eccCodes.contains a.code.toNat)) Live.eccFault

end Sys2Proof.Machine
end

