-- ==== Sys2Proof/Machine/Gauge.lean ====
section
/-! DEFINITION. The battery gauge (chapter "Battery gauge"): counting, anchors, impedance, learning, exercise and
learned records. -/
namespace Sys2Proof.Machine

/-! ## Settings (Table 9.4, Table 9.5) -/

/-- A field of a string object, or its default where the image does not give the word. -/
def Live.sf (l : Live) (k w hi lo dflt : Nat) : Nat := if l.given (oStr k) w then l.cf (oStr k) w hi lo else dflt

/-- `QNOM` in mAh. -/
def Live.qnom (l : Live) (k : Nat) : Rat := (l.sf k 0 15 0 0 : Rat) * 10
/-- 10 mA settings in A. -/
def Live.iterm (l : Live) (k : Nat) : Rat := (l.sf k 2 31 16 (l.sf k 0 15 0 0 / 20) : Rat) / 100
def Live.irest (l : Live) (k : Nat) : Rat := (l.sf k 3 15 8 20 : Rat) / 100
def Live.dimin (l : Live) (k : Nat) : Rat := (l.sf k 3 31 16 200 : Rat) / 100
/-- `VFULL` and `VEMPTY` in V. -/
def Live.vfull (l : Live) (k : Nat) : Rat := (l.sf k 1 31 16 0 : Rat) / 1000
def Live.vempty (l : Live) (k : Nat) : Rat := (l.sf k 1 15 0 0 : Rat) / 1000
/-- Temperatures in °C. -/
def Live.stemp (l : Live) (k w hi lo dflt : Nat) : Rat := (l.sf k w hi lo dflt : Rat) - 64
def Live.lmode (l : Live) (k : Nat) : Bool := l.cb (oStr k) 0 21
def Live.ttermBonds (l : Live) (k : Nat) : Nat := l.sf k 2 15 8 60 * 1000
def Live.temptyBonds (l : Live) (k : Nat) : Nat := l.sf k 2 7 0 20

/-! ## The member and its sample (R316, R320) -/

/-- The station that a string's tile runs, when it is MOORED. -/
def Live.strStn (l : Live) (k : Nat) : Option (Nat × Stn) := l.mooredStn (l.strTile k)

/-- `PRATE` of the string's station in W, and its θ. -/
def Live.strPrate (l : Live) (k : Nat) : Rat := match l.strStn k with | some p => (p.2.prate : Rat) | none => 0
def Live.strTheta (l : Live) (k : Nat) : Rat := match l.strStn k with | some p => ((l.point p.1).theta : Rat) / 256 | none => 0

/-- A 64-bit code, saturated. -/
def sat64 (v : Int) : BitVec 64 := BitVec.ofInt 64 (satW 64 v)

/-- The anchor flags follow A (R323, R324). -/
def Str.flags (s : Str) : Str :=
  { s with fulla := s.fulla && (s.a.toInt : Rat) ≤ s.qeffU / 100, emptya := s.emptya && 99 / 100 * s.qeffU ≤ (s.a.toInt : Rat) }

/-- Set `UNCERT` (R321): it voids an open cycle and segment. -/
def Live.strUncert (l : Live) (k : Nat) : Live :=
  let was := (l.str k).uncert
  let l := l.modStr k fun s => { s with uncert := true, cycleVoid := true, segVoid := true }
  if was then l else l.raise 0x7009 (oStr k)

/-! ## Temperature (R317, R318) -/

/-- Temperature of the `AUX` source and of the pack monitor, 150 °C when broken. -/
def Live.auxCell (l : Live) (k : Nat) : Rat :=
  let s := l.str k
  match s.auxT with | some t => if s.auxBad || s.auxBond + 1000 ≤ l.bond then 150 else t | none => 150
def Live.packCell (l : Live) (k : Nat) : Rat :=
  let s := l.str k
  match s.pk with | some t => if s.pkFailed || s.pkBond + 1000 ≤ l.bond then 150 else t | none => 150

/-- T_cell (R317). -/
def Live.tcellOf (l : Live) (k : Nat) : Rat :=
  match l.sf k 0 23 22 0 with
  | 0 => l.auxCell k
  | 1 => l.packCell k
  | _ => max (l.auxCell k) (l.packCell k)

/-- An `AUX` value with source 0x5 has arrived. -/
def Live.strAux (l : Live) (k : Nat) (a : BitVec 12) : Live :=
  l.modStr k fun s => { s with auxT := if a = 0x800 then s.auxT else some ((a.toInt : Rat) / 8), auxBad := a = 0x800, auxBond := l.bond }

/-- A valid sample of the bond (R319): V in V and I in A. -/
def Live.strSample (l : Live) (k : Nat) (v i : Rat) : Live :=
  let t := l.tcellOf k
  l.modStr k fun s => { s with sumV := s.sumV + v, sumI := s.sumI + i, sumT := s.sumT + t, nSamp := s.nSamp + 1, tcell := t }

/-- PACK_MONITOR_READ (R318): every 1 s, on initiator port `PKPORT`. -/
def execPackMonitorRead (str : Fin 16) (s : State) : Host.Outcome State Fault Refusal :=
  s.upd fun l =>
    let k := str.toNat
    if l.working && (l.str k).live && l.cb (oStr k) 9 18 && (l.str k).pkAt + secTicks ≤ l.now then
      (l.modStr k fun s => { s with pkAt := l.now }).piAsk (if l.cb (oStr k) 9 17 then 1 else 0) (.gauge k)
    else l

/-- The read of a pack monitor has ended. -/
def Live.packDone (l : Live) (k : Nat) (data : Option (List Byte)) : Live :=
  match data with
  | some b => l.modStr k fun s => { s with pk := some (tempBytes b), pkFails := 0, pkFailed := false, pkBond := l.bond }
  | none =>
    let n := (l.str k).pkFails + 1
    let l := l.modStr k fun s => { s with pkFails := n, pkFailed := s.pkFailed || 3 ≤ n }
    if n = 3 then l.raise 0x700A (oStr k) else l

/-! ## Counting at a course start (R320 to R322, R325, R343) -/

/-- A step is looked for in the last 18 samples (R325), newest first; `at_` is the start of the newest one's course. -/
def Live.strStep (l : Live) (k at_ : Nat) : Live :=
  let s := l.str k
  let h := s.hist
  if s.stepAt.isSome || h.length < 18 || !h.all (fun x => x.2.2) then l
  else
    let i (n : Nat) : Rat := ((h[n]?).map (fun x => x.2.1)).getD 0
    let d := i 0 - i 10
    if (if d < 0 then -d else d) < l.dimin k then l
    else
      let base := h.drop 10
      l.modStr k fun s => { s with stepAt := some at_, stepI0 := sumR (base.map (·.2.1)) / 8, stepV0 := sumR (base.map (·.1)) / 8,
                                   stepOk := 0 ≤ s.tcell && s.tcell ≤ 45 }

/-- A string's part of a course start of its ring: the previous course's sample is counted. -/
def Live.strCourse (l : Live) (k period start : Nat) : Live :=
  let s := l.str k
  let t := l.strTile k
  match l.tileSlot t with
  | none => l
  | some (n, sl) =>
    let p := l.slot n sl
    let ok : Bool := p.usable && (l.tile t).st = .running && (l.strStn k).isSome
    let l := match l.strStn k with
      | some q =>
        if s.ifs = q.2.ifs then l
        else if s.ifs = 0 then l.modStr k fun s => { s with ifs := q.2.ifs }
        else
          let f (x : BitVec 64) : BitVec 64 := sat64 (truncR ((x.toInt : Rat) * s.ifs / q.2.ifs))
          (l.modStr k fun s => { s with a := f s.a, lastAcc := f s.lastAcc, ifs := q.2.ifs }).strUncert k
      | none => l
    let l := if ok && !s.counting then l.modStr k fun s => { s with counting := true } else l
    if !(l.str k).counting then l
    else
      let l := match ok, s.resume with
        | true, some (i, tk) =>
          let add : Rat := i * ((l.now - tk : Nat) : Rat) * (unitsPerMah (l.str k).ifs) / 720000000
          (l.modStr k fun s => { s with a := sat64 (s.a.toInt + truncR add), resume := none }).strUncert k
        | _, _ => l
      let l := if ok then l.modStr k fun s => ({ s with a := sat64 (s.a.toInt + p.cur.imeas.toInt * period) }).flags else l.strUncert k
      let good : Bool := p.active && p.up = .valid && ok
      let (v, i) := match l.strStn k with | some q => (vScale q.2 p.cur.vmeas / 1000000, iScale q.2 p.cur.imeas / 1000000) | none => (0, 0)
      let l := l.modStr k fun s =>
        { s with hist := ((v, i, good) :: s.hist).take 18, stepOk := s.stepOk && good && 0 ≤ s.tcell && s.tcell ≤ 45 }
      l.strStep k start

/-! ## Fade and impedance (R325 to R327) -/

/-- The learning age in seconds. -/
def Live.learnAge (l : Live) (k : Nat) : Nat :=
  let s := l.str k
  l.recd.clkSec.toNat - (if s.learned then s.tlearn else s.tcreate)

/-- F of a stale string (R327). -/
def Live.fadeOf (l : Live) (k : Nat) : Rat :=
  let s := l.str k
  let q : Rat := if s.rlearn = 0 then 0 else s.rn / s.rlearn - 1
  clampR (1 - (l.sf k 4 15 8 128 : Rat) / 256 * q) ((l.sf k 4 7 0 179 : Rat) / 256) 1

/-- The string is stale (R327): its learning age is `STALEDAYS` or more. -/
def Live.ageStale (l : Live) (k : Nat) : Bool := l.sf k 7 31 16 400 * 86400 ≤ l.learnAge k

/-- IMPEDANCE_MEASURE (R325, R326): 1 ms after the step. -/
def execImpedanceMeasure (str : Fin 16) (s : State) : Host.Outcome State Fault Refusal :=
  s.upd fun l =>
    let k := str.toNat
    let q := l.str k
    match q.stepAt, l.tileStart (l.strTile k) with
    | some t, some now_ =>
      if now_ < t + 200000 then l
      else
        let h := q.hist.take 8
        let i1 := sumR (h.map (·.2.1)) / 8
        let v1 := sumR (h.map (·.1)) / 8
        let di := i1 - q.stepI0
        let adi := if di < 0 then -di else di
        let r := -(v1 - q.stepV0) / di
        let good : Bool := q.stepOk && h.length = 8 && h.all (fun x => x.2.2 && (if x.2.1 < i1 then i1 - x.2.1 else x.2.1 - i1) ≤ adi / 10) &&
          l.dimin k ≤ adi && di ≠ 0 && 0 ≤ q.tcell && q.tcell ≤ 45 && 1 / 10000 ≤ r && r ≤ 2
        let l := l.modStr k fun s => { s with stepAt := none }
        if !good then l
        else
          let rn := r / (1 + (l.sf k 3 7 0 80 : Rat) / 10000 * (25 - q.tcell))
          let l := l.modStr k fun s =>
            if s.measured then { s with rhat := s.rhat + (r - s.rhat) / 8, rn := s.rn + (rn - s.rn) / 8 }
            else { s with rhat := r, rn := rn, measured := true }
          let l := l.count 109
          if (l.str k).stale then l.modStr k fun s => ({ s with fade := l.fadeOf k }).flags else l
    | _, _ => l

/-! ## Learned records (R337 to R341) -/

/-- The octets of a record (Table 9.3), with `RCRC` over octets 0 to 59. -/
def GaugeRec.bytes (r : GaugeRec) : List Byte :=
  let b := leBytes r.fmt.toNat 2 ++ leBytes r.str 1 ++
    leBytes ((if r.learned then 1 else 0) + (if r.stale then 2 else 0) + (if r.uncert then 4 else 0)) 1 ++ leBytes r.seq.toNat 4 ++
    leBytes r.acc.toNat 8 ++ leBytes r.qcap.toNat 4 ++ leBytes r.tlearn.toNat 4 ++ leBytes r.rlearn.toNat 4 ++ leBytes r.rnow.toNat 4 ++
    leBytes r.rnrm.toNat 4 ++ leBytes r.twrite.toNat 4 ++ leBytes r.nlearn.toNat 2 ++ leBytes r.ifsrec.toNat 2 ++ List.replicate 16 0
  b ++ leBytes (crc32 b) 4

/-- The record that a slot's octets hold. -/
def GaugeRec.ofBytes (b : List Byte) : GaugeRec :=
  { fmt := BitVec.ofNat 16 (numAt b 0 2), str := numAt b 2 1, learned := numAt b 3 1 % 2 = 1, stale := numAt b 3 1 / 2 % 2 = 1,
    uncert := numAt b 3 1 / 4 % 2 = 1, seq := BitVec.ofNat 32 (numAt b 4 4), acc := BitVec.ofNat 64 (numAt b 8 8),
    qcap := BitVec.ofNat 32 (numAt b 16 4), tlearn := BitVec.ofNat 32 (numAt b 20 4), rlearn := BitVec.ofNat 32 (numAt b 24 4),
    rnow := BitVec.ofNat 32 (numAt b 28 4), rnrm := BitVec.ofNat 32 (numAt b 32 4), twrite := BitVec.ofNat 32 (numAt b 36 4),
    nlearn := BitVec.ofNat 16 (numAt b 40 2), ifsrec := BitVec.ofNat 16 (numAt b 42 2),
    crcOk := b.length = 64 && crc32 (b.take 60) = numAt b 60 4 }

/-- A slot's record is valid for string k (R338). -/
def GaugeRec.good (r : GaugeRec) (k : Nat) : Bool := r.crcOk && r.fmt = 1 && r.str = k

/-- The page of slot A or B of a string (R337), whether it is programmed, and its record. -/
def slotPage (k : Nat) (b : Bool) : Nat := 2 * k + (if b then 1 else 0)
def Live.slotErased (l : Live) (k : Nat) (b : Bool) : Bool := (tfind l.gauge.flash (slotPage k b)).isNone
def Live.slotRec (l : Live) (k : Nat) (b : Bool) : Option GaugeRec := (tfind l.gauge.flash (slotPage k b)).map GaugeRec.ofBytes
/-- A slot is erased, or holds octets. -/
def Live.slotErase (l : Live) (k : Nat) (b : Bool) : Live := { l with gauge := { l.gauge with flash := tdrop l.gauge.flash (slotPage k b) } }
def Live.slotFill (l : Live) (k : Nat) (b : Bool) (x : List Byte) : Live := { l with gauge := { l.gauge with flash := tset l.gauge.flash (slotPage k b) x } }

/-- The newer valid record of a string, with the slot it lies in: true is B (R338). -/
def Live.newer (l : Live) (k : Nat) : Option (Bool × GaugeRec) :=
  let a := (l.slotRec k false).filter (fun r => r.good k)
  let b := (l.slotRec k true).filter (fun r => r.good k)
  match a, b with
  | some x, some y => if x.seq ≠ y.seq && (x.seq - y.seq).toNat < 2 ^ 31 then some (false, x) else some (true, y)
  | some x, none => some (false, x)
  | none, some y => some (true, y)
  | none, none => none

/-- The present values as a record (Table 9.3). -/
def Live.strRec (l : Live) (k : Nat) (seq : Word) : GaugeRec :=
  let s := l.str k
  let micro (x : Rat) : Word := BitVec.ofNat 32 (satNat (x * 1000000) 0xFFFFFFFF)
  { str := k, learned := s.learned, stale := s.stale, uncert := s.uncert, seq := seq, acc := s.a,
    qcap := BitVec.ofNat 32 (satNat s.qcap 0xFFFFFFFF), tlearn := BitVec.ofNat 32 s.tlearn, rlearn := micro s.rlearn, rnow := micro s.rhat,
    rnrm := micro s.rn, twrite := l.recd.clkSec, nlearn := BitVec.ofNat 16 s.nlearn, ifsrec := BitVec.ofNat 16 s.ifs }

/-- The record that a write of string k would program now, and its slot: not the one that holds the newer (R338). -/
def Live.strNext (l : Live) (k : Nat) : Bool × List Byte :=
  match l.newer k with
  | some (b, r) => (!b, (l.strRec k (r.seq + 1)).bytes)
  | none => (false, (l.strRec k 1).bytes)

/-- Learned-record writes in progress. -/
def Live.recWrites (l : Live) : Nat := ((List.range 16).filter (fun k => (l.str k).writing.isSome)).length

/-- E_avail in J (R339). -/
def Live.eAvail (l : Live) : Rat :=
  l.busC * (l.pp.vbus * l.pp.vbus - l.vminbus * l.vminbus) / 2 - (if l.etavin = 0 then 0 else 75 / 10000 / l.etavin) - (l.recWrites : Rat) / 4000

/-- An erase may start: the band allows it, and not in HOLDUP (R339). -/
def Live.recErase (l : Live) : Bool := l.flashErase && l.pwr.st ≠ .holdup

/-- A write of a slot begins, with the band's waveform; until it is verified the slot holds no record (R338). -/
def Live.slotWrite (l : Live) (k : Nat) (b : Bool) (x : List Byte) (again : Bool) : Live :=
  ((l.slotFill k b []).flashBegin (16 + k)).modStr k fun s => { s with writing := some (b, x, again), retry := none }

/-- Start the write that waits, a second attempt first, where R339 lets it; firmware does so (R26). -/
def Live.strWrite (l : Live) (k : Nat) : Live :=
  let s := l.str k
  if s.writing.isSome || !l.coresUp || !l.flashProgram then l
  else
    match s.retry with
    | some (b, x) => if l.recErase then l.slotWrite k b x true else l
    | none =>
      if s.due && l.pwr.pfailN && 1 / 4000 ≤ l.eAvail && (l.slotErased k (l.strNext k).1 || l.recErase) then
        (l.slotWrite k (l.strNext k).1 (l.strNext k).2 false).modStr k fun s => { s with due := false, afterAnchor := false }
      else l

/-- A write is due now. -/
def Live.strDue (l : Live) (k : Nat) : Live := (l.modStr k fun s => { s with due := true }).strWrite k

/-- LEARNED_RECORD_DONE (R338): `ok` is whether the read-back matches.  A second attempt erases the slot first, so it waits
where no erase may start (R339). -/
def execLearnedRecordDone (str : Fin 16) (ok : Bool) (s : State) : Host.Outcome State Fault Refusal :=
  s.upd fun l =>
    let k := str.toNat
    match (l.str k).writing with
    | none => l
    | some (b, x, again) =>
      let l := (l.flashEnd (16 + k)).modStr k fun s => { s with writing := none }
      if ok then
        let l := (l.slotFill k b x).modStr k fun s => { s with wroteAt := some l.now, lastAcc := (GaugeRec.ofBytes x).acc }
        let l := if l.recErase then l.slotErase k (!b) else l
        (l.count 111).strWrite k
      else if again then
        let l := if l.recErase then l.slotErase k b else l
        (l.raise 0x7007 (oStr k)).strWrite k
      else (l.modStr k fun s => { s with retry := some (b, x) }).strWrite k

/-- Ticks since the last write of the string's record; none before there has been one. -/
def Live.sinceWrite (l : Live) (k : Nat) : Option Int := (l.str k).wroteAt.map (fun t => (l.now : Int) - t)

/-- JOURNAL_PERIOD (R340): `JPER` hours since the last write, or since the string's creation before there has been one, with
A changed. -/
def execJournalPeriod (str : Fin 16) (s : State) : Host.Outcome State Fault Refusal :=
  s.upd fun l =>
    let k := str.toNat
    let q := l.str k
    if l.coresUp && q.live && q.a ≠ q.lastAcc && q.writing.isNone &&
        ((l.sf k 9 31 24 24 * 3600 * secTicks : Nat) : Int) ≤ (l.sinceWrite k).getD ((l.now : Int) - q.madeAt) then l.strDue k
    else l

/-- Records due at HOLDUP entry (R340). -/
def Live.strHoldup (l : Live) : Live :=
  l.forL l.strNums fun l k =>
    let s := l.str k
    let d := (s.a.toInt : Rat) - (s.lastAcc.toInt : Rat)
    if s.live && s.qeffU / 100 ≤ (if d < 0 then -d else d) then l.strDue k else l

/-! ## Learning (R328, R329) -/

/-- A learning of capacity: the range and jump limits; `native` is R328's. -/
def Live.strLearn (l : Live) (k : Nat) (seen want : Rat) (native : Bool) : Live :=
  let s := l.str k
  let qn := l.qnom k
  if seen < qn / 2 || 6 / 5 * qn < seen then l.raise 0x7001 (oStr k)
  else
    let j := (l.sf k 6 7 0 10 : Rat) / 100
    let q := clampR want (s.qcap * (1 - j)) (s.qcap * (1 + j))
    let l := if q ≠ want then l.raise 0x7002 (oStr k) else l
    let l := l.modStr k fun s =>
      let s := { s with qcap := q, learned := true, nlearn := s.nlearn + 1 }
      let s := if native then { s with fade := 1, stale := false, rlearn := s.rn, tlearn := l.recd.clkSec.toNat } else s
      s.flags
    (l.count 110).strDue k

/-- RESETLEARN (R342). -/
def Live.strReset (l : Live) (k : Nat) : Live :=
  (l.modStr k fun s => ({ s with qcap := l.qnom k, fade := 1, learned := false, reset := false }).flags).strDue k

/-- An EMPTY anchor event is to be made. -/
def Live.emptyDue (l : Live) (k : Nat) : Bool :=
  let s := l.str k
  s.live && !s.emptyDone && s.emptyRun ≠ 0 && l.temptyBonds k ≤ s.emptyRun

/-- An anchor event's own part: count, flags, and the record's delay (R323, R324, R330, R340). -/
def Live.anchor (l : Live) (k : Nat) (a : BitVec 64) : Live :=
  (l.count 108).modStr k fun s =>
    { s with a := a, uncert := false, fast := true, stepOk := false, afterAnchor := true }

/-- FULL_ANCHOR (R323, R328, R329). -/
def execFullAnchor (str : Fin 16) (s : State) : Host.Outcome State Fault Refusal :=
  s.upd fun l =>
    let k := str.toNat
    let q := l.str k
    if q.live && !q.fullDone && q.fullRun ≠ 0 && l.ttermBonds k ≤ q.fullRun then
      (l.anchor k 0).modStr k fun s =>
        { s with fulla := true, emptya := false, fullDone := true, cycle := true, cycleVoid := false, seg := l.lmode k, segVoid := false, restRun := 0 }
    else l

/-- The exercise ends. -/
def Live.exEnd (l : Live) (abort : Bool) : Live :=
  let k := l.gauge.exStr
  let l := l.modStr k fun s => { s with demand := 0 }
  let l := { l with gauge := { l.gauge with ex := .idle, exStop := false } }.setPol (128 + k) 0
  if abort then l.raise 0x7005 (oStr k) else l

/-- An EMPTY anchor event of the string learns its capacity (R328). -/
def Str.learns (s : Str) : Bool := s.cycle && !s.cycleVoid && !s.uncert

/-- EMPTY_ANCHOR (R324, R328, Table 9.2, R342).  An event that learns waits for firmware (R26). -/
def execEmptyAnchor (str : Fin 16) (s : State) : Host.Outcome State Fault Refusal :=
  s.upd fun l =>
    let k := str.toNat
    if !l.emptyDue k || ((l.str k).learns && !l.coresUp) then l
    else
      let q := l.str k
      let l := if q.learns then l.strLearn k q.mah q.mah true else l
      let l := l.anchor k (sat64 (truncR (l.str k).qeffU))
      let l := l.modStr k fun s => { s with emptya := true, fulla := false, emptyDone := true, cycle := false, cycleVoid := false }
      let l := if l.gauge.ex = .running && l.gauge.exStr = k then
          let l := l.exEnd false
          { l with gauge := { l.gauge with xlast := l.recd.clkSec } }
        else l
      if (l.str k).reset then l.strReset k else l

/-- CAP_STALE (R327, R342). -/
def execCapStale (str : Fin 16) (s : State) : Host.Outcome State Fault Refusal :=
  s.upd fun l =>
    let k := str.toNat
    let q := l.str k
    if l.coresUp && q.live && !q.stale && l.ageStale k && !(l.emptyDue k && q.learns) then
      ((l.modStr k fun s => { s with stale := true }).raise 0x7003 (oStr k)).strDue k
    else l

/-! ## Eligibility and exercise (R294, R335) -/

/-- A string is eligible for a normal grant, but for `ASSOFF` (R294). -/
def Live.eligible (l : Live) (k : Nat) : Bool :=
  let s := l.str k
  s.live && (l.strStn k).isSome && (if l.given 0x6FFF 5 then (l.cf 0x6FFF 5 31 24 : Rat) else 80) / 100 < s.socrep && s.dwin &&
    !l.alertOn (oTile (l.strTile k)) && !s.emptya

/-- A string qualifies for a feed-loss grant. -/
def Live.feedQualifies (l : Live) (k : Nat) : Bool :=
  let s := l.str k
  s.live && (l.strStn k).isSome && !s.emptya && s.dwin

/-- The reserve for an exercise of string k (R335), in Wh. -/
def Live.exReserve (l : Live) (k : Nat) : Bool :=
  (l.cf 0x7FFF 1 31 16 : Rat) ≤ sumR ((l.strNums.filter (fun j => j ≠ k && l.eligible j)).map (fun j =>
    (l.str j).socrep * (l.str j).qeff / 1000 * (l.str j).vbar))

/-- The exercise must stop (Table 9.2). -/
def Live.exAborts (l : Live) : Bool :=
  let k := l.gauge.exStr
  let s := l.str k
  !(l.pp.st = .normal || l.pp.st = .assist) || !l.exReserve k || !s.dwin || s.uncert || l.alertOn (oTile (l.strTile k)) || (l.strStn k).isNone

/-- The hour of the shelf-clock day. -/
def Live.clockHour (l : Live) : Nat := l.recd.clkSec.toNat / 3600 % 24

/-- The string to be exercised by schedule: due, the oldest `TLEARN` first. -/
def Live.exPick (l : Live) : Option Nat :=
  let d := l.cf 0x7FFF 0 31 16
  ((l.strNums.filter (fun k => (l.str k).live && d * 86400 ≤ l.learnAge k)).mergeSort (fun a b => l.learnAge b < l.learnAge a || (l.learnAge a = l.learnAge b && a ≤ b))).head?

/-- RUNNING: the exercise stops, unless an EMPTY anchor event is to end it (Table 9.2, R342). -/
def Live.exCheck (l : Live) : Live :=
  if l.gauge.ex = .running && !l.emptyDue l.gauge.exStr && (l.gauge.exStop || l.exAborts) then l.exEnd true else l

/-- IDLE: within hour `EXHOUR` a due string makes the exercise DUE. -/
def Live.exSchedule (l : Live) : Live :=
  if l.gauge.ex = .idle && l.cf 0x7FFF 0 31 16 ≠ 0 && l.recd.clkSet && l.clockHour = l.cf 0x7FFF 0 15 8 then
    match l.exPick with
    | some k => { l with gauge := { l.gauge with ex := .due, exStr := k, exHost := false, exAt := l.bond } }
    | none => l
  else l

/-- DUE: the start conditions hold (R335). -/
def Live.exReady (l : Live) : Bool :=
  let k := l.gauge.exStr
  let s := l.str k
  s.fulla && s.dwin && !s.uncert && l.pp.st = .normal && !l.alertOn (oTile (l.strTile k)) && l.exReserve k && (l.strStn k).isSome

/-- DUE: the exercise starts with its demand. -/
def Live.exStart (l : Live) : Live :=
  if l.gauge.ex = .due && l.exReady then
    let k := l.gauge.exStr
    let d := min (l.sf k 10 31 16 500 : Rat) (l.strTheta k * l.strPrate k)
    { l with gauge := { l.gauge with ex := .running } }.modStr k fun s => { s with demand := d }
  else l

/-- The exercise's part of the bond work: the rows of Table 9.2 in their order, each judged against the state that the rows before
it left (R21). -/
def Live.exBond (l : Live) : Live := l.exCheck.exSchedule.exStart

/-- XCMD START taken at a bond boundary (Table 9.2). -/
def Live.xcmdStart (l : Live) (k : Nat) : Live :=
  if l.gauge.ex = .idle && (l.str k).live then { l with gauge := { l.gauge with ex := .due, exStr := k, exHost := true, exAt := l.bond } } else l

/-- XCMD ABORT taken at a bond boundary. -/
def Live.xcmdAbort (l : Live) : Live := if l.gauge.ex = .idle then l else l.exEnd false

/-- GCMD_RESETLEARN (R342, R344): the write waits for the next bond boundary. -/
def execGcmdResetlearn (str : Fin 16) (s : State) : Host.Outcome State Fault Refusal := s.upd fun l => l.pend (oStr str) 11 (put 1 30 2)
/-- XCMD_START (R335, R345). -/
def execXcmdStart (str : Fin 16) (s : State) : Host.Outcome State Fault Refusal :=
  s.upd fun l => l.pend 0x7FFF 2 (put 1 30 2 ||| put str 26 4)
/-- XCMD_ABORT (R335, R345). -/
def execXcmdAbort (s : State) : Host.Outcome State Fault Refusal := s.upd fun l => l.pend 0x7FFF 2 (put 2 30 2)

/-- EXERCISE_TIMEOUT (Table 9.2): the hour has ended, or 1 h has passed since START. -/
def execExerciseTimeout (s : State) : Host.Outcome State Fault Refusal :=
  s.upd fun l =>
    let g := l.gauge
    let late : Bool := if g.exHost then g.exAt + 3600000 ≤ l.bond else l.clockHour ≠ l.cf 0x7FFF 0 15 8
    if g.ex = .due && late then l.exEnd true else l

/-! ## Bond work (R319 to R333) -/

/-- The bond's means (R319). -/
def Str.means (s : Str) : Str :=
  if s.nSamp < 8 then { s with void := true, sumV := 0, sumI := 0, sumT := 0, nSamp := 0 }
  else { s with void := false, vbar := s.sumV / s.nSamp, ibar := s.sumI / s.nSamp, tbar := s.sumT / s.nSamp, sumV := 0, sumI := 0, sumT := 0, nSamp := 0 }

/-- The FULL and EMPTY conditions of a bond that is not void (R323, R324). -/
def Live.fullCond (l : Live) (k : Nat) : Bool :=
  let s := l.str k
  s.ibar ≤ 0 && -l.iterm k < s.ibar && l.vfull k ≤ s.vbar + s.ibar * s.rhat && 0 < (l.pol (80 + k)).toInt
def Live.emptyCond (l : Live) (k : Nat) : Bool :=
  let s := l.str k
  0 ≤ s.ibar && s.vbar + s.ibar * s.rhat ≤ l.vempty k

/-- Anchor persistence, and A held at 0 while FULL goes on. -/
def Live.anchorBond (l : Live) (k : Nat) : Live :=
  let f := l.fullCond k
  let e := l.emptyCond k
  l.modStr k fun s =>
    let s := { s with fullRun := if f then s.fullRun + 1 else 0, fullDone := f && s.fullDone, emptyRun := if e then s.emptyRun + 1 else 0, emptyDone := e && s.emptyDone }
    if f && s.fullDone then { s with a := 0 } else s

/-- The open-circuit table (R329): the voltage at SOC m/15, in V. -/
def Live.ocv (l : Live) (k m : Nat) : Rat := (l.cf (oStr k) (18 + m / 2) (if m % 2 = 0 then 31 else 15) (if m % 2 = 0 then 16 else 0) : Rat) / 1000

/-- SOC_o by linear interpolation; outside the table the manual states no value, and a free one stands. -/
def Live.socOcv (l : Live) (k : Nat) (v : Rat) : Rat × Live :=
  match (List.range 15).find? (fun m => l.ocv k m ≤ v && v ≤ l.ocv k (m + 1)) with
  | some m =>
    let d := l.ocv k (m + 1) - l.ocv k m
    (((m : Rat) + (if d = 0 then 0 else (v - l.ocv k m) / d)) / 15, l)
  | none => l.drawRat

/-- The cycle and the segment in a bond that is not void (R328, R329); the learning that ends a segment waits for firmware (R26,
log entry 99). -/
def Live.cycleBond (l : Live) (k : Nat) : Live :=
  let s := l.str k
  let i := s.ibar
  let chg : Bool := i < -l.irest k
  let rest : Bool := (if i < 0 then -i else i) < l.irest k
  let out : Bool := s.tbar < l.stemp k 6 23 16 79 || l.stemp k 6 15 8 99 < s.tbar || (l.sf k 8 23 16 20 : Rat) / 100 * l.qnom k / 1000 < i
  let l := l.modStr k fun s =>
    { s with cycleVoid := s.cycleVoid || chg, segVoid := s.segVoid || chg || out, restRun := if rest then s.restRun + 1 else 0 }
  let s := l.str k
  if !s.seg || s.restRun < l.sf k 8 15 8 30 * 60000 || !l.coresUp then l
  else
    let dod := (l.sf k 8 31 24 30 : Rat) / 100
    let x := l.socOcv k s.vbar
    let l := x.2.modStr k fun s => { s with seg := false }
    if s.segVoid || s.mah < dod * s.qeff || 1 - dod < x.1 || x.1 = 1 then l
    else
      let q := s.mah / (1 - x.1)
      l.strLearn k q (s.qcap + (q - s.qcap) / 4) false

/-- SOC_rep moves toward SOC_cnt (R330). -/
def Live.socBond (l : Live) (k : Nat) : Live :=
  l.modStr k fun s =>
    let c := s.soc
    if !s.started then { s with socrep := c, started := true, fast := false }
    else
      let rate : Rat := if s.fast then (l.sf k 7 7 0 100 : Rat) else (l.sf k 7 15 8 10 : Rat)
      let d := rate / 1000 / 60000
      let r := if s.socrep < c then min c (s.socrep + d) else max c (s.socrep - d)
      { s with socrep := r, fast := s.fast && r ≠ c }

/-- `HEAT`, from T_cell as it stands (R332). -/
def Live.heatBond (l : Live) (k : Nat) : Live :=
  let th := l.stemp k 6 31 24 69
  l.modStr k fun s => { s with heat := if s.tcell < th then true else if th + 3 ≤ s.tcell then false else s.heat }

/-- `CHGINH` and `DWIN` (R331), from the bond's mean. -/
def Live.tempBond (l : Live) (k : Nat) : Live :=
  let s := l.str k
  let t := s.tbar
  let cmin := l.stemp k 5 31 24 64
  let cmax := l.stemp k 5 23 16 109
  let dmin := l.stemp k 5 15 8 44
  let dmax := l.stemp k 5 7 0 124
  let inh : Bool := if t < cmin || cmax < t then true else if cmin + 3 ≤ t && t ≤ cmax - 3 then false else s.chginh
  let dw : Bool := if dmin + 3 ≤ t && t ≤ dmax - 3 then true else if t < dmin || dmax < t then false else s.dwin
  let l := l.modStr k fun s => { s with chginh := inh, dwin := dw }
  if inh && !s.chginh then l.raise 0x7004 (oStr k) else l

/-- Policy registers 128 to 175 and the heater pin (R332, R333). -/
def Live.gaugeRegs (l : Live) (k : Nat) : Live :=
  let s := l.str k
  let l := (l.setPol (128 + k) (q23 s.demand (l.strPrate k))).setPol (144 + k) (q23 s.socrep 1)
  let l := l.setPol (160 + k) (if s.heat then 0x7FFFFF else 0)
  if l.cb (oStr k) 9 23 then l.setGpio (l.cf (oStr k) 9 22 19) s.heat else l

/-- A string's heater pin and policy registers are left at 0: the string, or its claim of the pin, has gone. -/
def Live.heaterOff (l : Live) (old : Live) (k : Nat) : Live := if old.cb (oStr k) 9 23 then l.setGpio (old.cf (oStr k) 9 22 19) false else l
def Live.gaugeRegsOff (l : Live) (k : Nat) : Live := ((l.setPol (128 + k) 0).setPol (144 + k) 0).setPol (160 + k) 0

/-- What firmware does for a string in a bond: it ends the stale state once the learning age is short again (R327), serves a
RESETLEARN that no EMPTY anchor event precedes (R342), and starts writes (R340). -/
def Live.strFirmware (l : Live) (k : Nat) : Live :=
  if !l.coresUp then l
  else
    let l := if (l.str k).stale && !l.ageStale k then l.modStr k fun s => ({ s with stale := false, fade := 1 }).flags else l
    let l := if (l.str k).reset && !l.emptyDue k then l.strReset k else l
    let ripe : Bool := match l.sinceWrite k with | some d => ((l.sf k 8 7 0 6 * 3600 * secTicks : Nat) : Int) ≤ d | none => true
    if (l.str k).afterAnchor && ripe then l.strDue k else l.strWrite k

/-- One string's bond work. -/
def Live.strBond (l : Live) (k : Nat) : Live :=
  let t := l.tcellOf k
  let l := (l.modStr k fun s => { s.means with tcell := t }).heatBond k
  let l := if (l.str k).counting && (l.strStn k).isNone then l.modStr k fun s => { s with cycleVoid := true, segVoid := true } else l
  let l := if (l.str k).void then l else (((l.anchorBond k).cycleBond k).tempBond k)
  (l.socBond k).strFirmware k

/-- The gauge's bond work. -/
def Live.gaugeBond (l : Live) : Live :=
  let ks := l.strNums.filter (fun k => (l.str k).live)
  let l := l.forL ks fun l k => l.strBond k
  let l := if l.coresUp then l.exBond else l
  l.forL ks fun l k => l.gaugeRegs k

/-! ## Activation (R326, R328, R341) -/

/-- The tick of a write made at shelf-clock seconds `at_`, when the clock has been set and has not gone back since; else the
start counts as the write (log entry 93). -/
def Live.tickOfSec (l : Live) (at_ : Word) : Int :=
  if l.recd.clkSet && at_.toNat ≤ l.recd.clkSec.toNat then (l.now : Int) - ((l.recd.clkSec.toNat - at_.toNat) * secTicks : Nat) else l.now

/-- A string's newer valid record, or its defaults, at a start without a checkpoint (R341).  No measurement has followed the
activation that creates the string, whatever the record holds (R326). -/
def Live.strLoad (l : Live) (k : Nat) : Live :=
  match l.newer k with
  | some (_, r) =>
    let f (w : Word) : Rat := (w.toNat : Rat) / 1000000
    (l.modStr k fun s =>
      { s with a := r.acc, ifs := r.ifsrec.toNat, qcap := r.qcap.toNat, learned := r.learned, stale := r.stale, nlearn := r.nlearn.toNat,
               tlearn := r.tlearn.toNat, rlearn := f r.rlearn, rhat := f r.rnow, rn := f r.rnrm, lastAcc := r.acc,
               fade := 1 }).strUncert k
  | none =>
    let other := ([l.slotRec k false, l.slotRec k true].filterMap id).any (fun r => r.crcOk && r.fmt ≠ 1)
    (l.strUncert k).raise (if other then 0x7008 else 0x7006) (oStr k)

/-- A string that an activation creates; `start` at a start without a checkpoint. -/
def Live.strCreate (l : Live) (k : Nat) (start : Bool) : Live :=
  let r := (l.sf k 4 31 16 4000 : Rat) / 100000
  let wrote := (l.newer k).map (fun p => l.tickOfSec p.2.twrite)
  let l := l.modStr k fun s =>
    { live := true, rhat := r, rn := r, qcap := l.qnom k, tcreate := l.recd.clkSec.toNat, madeAt := l.now, wroteAt := wrote,
      writing := s.writing, retry := s.retry }
  let l := if start then l.strLoad k else l
  if start && (l.str k).stale then l.modStr k fun s => { s with fade := l.fadeOf k } else l

/-- A commit changes the string's object or tile (R327, R328, R332, R342). -/
def Live.strChanged (l : Live) (old : Live) (k : Nat) : Live :=
  let l := l.modStr k fun s =>
    let s := { s with cycleVoid := true, segVoid := true }
    if s.learned then s else ({ s with qcap := l.qnom k }).flags
  let l := if old.cb (oStr k) 9 23 && !(l.cb (oStr k) 9 23 && l.cf (oStr k) 9 22 19 = old.cf (oStr k) 9 22 19) then l.heaterOff old k else l
  if l.gauge.ex = .running && l.gauge.exStr = k then { l with gauge := { l.gauge with exStop := true } } else l

/-- A commit removes the string: a write in progress goes on. -/
def Live.strRemoved (l : Live) (old : Live) (k : Nat) : Live :=
  let l := if l.gauge.ex = .running && l.gauge.exStr = k then l.exEnd true else l
  ((l.heaterOff old k).gaugeRegsOff k).modStr k fun s => { writing := s.writing, retry := s.retry }

end Sys2Proof.Machine
end

