-- ==== Sys2Proof/Machine/PowerPath.lean ====
section
/-! DEFINITION. The Power Path Manager (chapter "Power path: sharing, hold-up and capping"): line estimation,
sharing, the collapse guard, grants, caps and sheds, and hold-up. -/
namespace Sys2Proof.Machine

/-! ## Settings (Table 8.7 to Table 8.9) -/

/-- Settings of the power path object (Table 8.9). -/
def Live.vbusSet (l : Live) : Rat := (l.ppf 0 31 16 54000 : Rat) / 1000
def Live.vassist (l : Live) : Rat := (l.ppf 0 15 8 100 : Rat) / 100
def Live.vdip (l : Live) : Rat := (l.ppf 0 7 0 50 : Rat) / 100
def Live.vhold (l : Live) : Rat := (l.ppf 1 31 16 44000 : Rat) / 1000
def Live.etarail (l : Live) : Rat := (l.ppf 2 7 0 85 : Rat) / 100
def Live.gtrip (l : Live) : Rat := (l.ppf 3 23 16 140 : Rat) / 200
def Live.gback (l : Live) : Rat := (l.ppf 3 15 8 120 : Rat) / 200
def Live.dith (l : Live) : Rat := (l.ppf 3 7 0 20 : Rat) / 1000
def Live.estwin (l : Live) : Nat := l.ppf 4 31 16 128
def Live.ghold (l : Live) : Nat := l.ppf 4 15 0 50
def Live.frel (l : Live) : Rat := (l.ppf 7 15 8 180 : Rat) / 200
def Live.vbadc (l : Live) : Nat := l.cf 0x6FFF 9 31 28
def Live.iladc (l : Live) : Nat := l.cf 0x6FFF 9 27 24
def Live.ilen (l : Live) : Bool := l.cb 0x6FFF 9 23

/-- `ICLS` in A, `PCLS` in W, `MAINS`, and the pins of an input. -/
def Live.icls (l : Live) (j : Nat) : Rat := (l.cf (oInput j) 0 31 16 : Rat) / 10000
def Live.pcls (l : Live) (j : Nat) : Rat := (l.cf (oInput j) 0 15 0 : Rat)
def Live.mains (l : Live) (j : Nat) : Bool := l.cb (oInput j) 1 31
/-- Power path words of a zone (Table 8.9). -/
def oZone (z : Nat) : Nat := 0xF000 + z
def Live.zf (l : Live) (z hi lo dflt : Nat) : Nat := if l.given (oZone z) 8 then l.cf (oZone z) 8 hi lo else dflt
def Live.zprio (l : Live) (z : Nat) : Nat := l.zf z 31 24 0
def Live.zcapmin (l : Live) (z : Nat) : Nat := l.zf z 23 19 8
def Live.znoshed (l : Live) (z : Nat) : Bool := l.zf z 18 18 0 = 1
def Live.znocap (l : Live) (z : Nat) : Bool := l.zf z 17 17 0 = 1
def Live.zkeep (l : Live) (z : Nat) : Bool := bit (l.hw (oZone z) 9) 31
def Live.railZone (l : Live) (r : Nat) : Nat := l.tZone (l.railTile r)

/-! ## Arithmetic -/

/-- The root of a natural number, from below, over `n` bits. -/
def isqrtGo (x : Nat) : Nat → Nat → Nat
  | 0, r => r
  | n + 1, r => isqrtGo x n (if (r + 2 ^ n) * (r + 2 ^ n) ≤ x then r + 2 ^ n else r)

/-- A square root, truncated to a multiple of 2^-40. -/
def sqrtR (x : Rat) : Rat := (isqrtGo (truncR (max 0 x * 2 ^ 80)).toNat 64 0 : Rat) / 2 ^ 40

/-- The bus current or power that a rail takes from the bus, in W (R301). -/
def Live.railLoad (l : Live) (r : Nat) : Rat :=
  let k := l.rail r
  if k.st.ramps && l.etarail ≠ 0 then k.v / 1000000 * (k.i.getD 0 / 1000000) / l.etarail else 0

/-! ## The input's station and its samples (R277, R280) -/

/-- The member of an input's tile, when it is MOORED. -/
def Live.inpStn (l : Live) (j : Nat) : Option (Nat × Stn) := (l.inputTile j).bind l.mooredStn

/-- `PRATE` in W and θ of an input's station. -/
def Live.inpRate (l : Live) (j : Nat) : Rat :=
  match l.inpStn j with | some p => ((l.point p.1).theta : Rat) / 256 * p.2.prate | none => 0

/-- A sample of a slot: V_in in V when `AUX` has source 0x1, and the current in A. -/
def Live.inpSample (l : Live) (s : Stn) (k : Slot) : Option Rat × Rat :=
  ((if s.auxSource k.auxSrc.toNat = 1 then some ((k.cur.aux.toNat : Rat) * s.vfs / 100 / 4095) else none), iScale s k.cur.imeas / 1000000)

/-- A valid up-brick of an input's member has arrived: the bond's samples (R280), and every V_in of the bond. -/
def Live.inpBond (l : Live) (j : Nat) (s : Stn) (k : Slot) (late : Bool) : Live :=
  let x := l.inpSample s k
  l.modInp j fun i =>
    let i := match x.1 with
      | some v =>
        let i := { i with minV := some (match i.minV with | some m => min m v | none => v) }
        if late then { i with sumV := i.sumV + v, nV := i.nV + 1 } else i
      | none => i
    if late then { i with sumI := i.sumI + x.2, nI := i.nI + 1 } else i

/-! ## The input stage (R279, R287, R288, R291) -/

/-- R_g (R287). -/
def Input.rg (i : Input) : Option Rat := i.rhat.map (fun r => match i.rlast with | some x => max r (min x (2 * r)) | none => r)

/-- The guard watches the input. -/
def InSt.guards : InSt → Bool
  | .sharing => true | .guarded => true | .probing => true | _ => false

/-- The input stage may do its work of the present course: the tile's inputs are final (R279). -/
def Live.stageDue (l : Live) (j : Nat) : Option (Nat × Stn) :=
  match l.inputTile j, l.inpStn j with
  | some t, some (_, q) =>
    (match l.tileStart t with
     | some at_ => if l.working && !l.fc.safe && l.inputsFinal t && (l.inp j).workAt ≠ some at_ then some (at_, q) else none
     | none => none)
  | _, _ => none

/-- The samples of the course; one without a V_in sample uses the last.  Nothing where the slot gave none. -/
def Live.stageSample (l : Live) (j at_ : Nat) (q : Stn) : Live :=
  let k := l.slot q.ring q.slot
  let l := l.modInp j fun i => { i with workAt := some at_ }
  if !k.usable then l
  else
    let x := l.inpSample q k
    let l := l.modInp j fun i => { i with vin := x.1.getD i.vin, icur := x.2 }
    l.modInp j fun i => { i with lowRun := if i.st.guards && i.vin < 60 then i.lowRun + 1 else 0 }

/-- A pair loss (Table 8.2): V_in below 60 V in 4 consecutive courses. -/
def Live.pairLost (l : Live) (j : Nat) : Live :=
  let i := l.inp j
  if i.st.guards && 4 ≤ i.lowRun then
    ((l.modInp j fun i => { i with st := .dark, rhat := none, rlast := none, restored := false, lostNow := true, backOff := none, lowRun := 0, probeBond := 0 }).count
      98).raise 0x6003 (oInput j)
  else l

/-- The guard (R287, R288). -/
def Live.guardWork (l : Live) (j : Nat) : Live :=
  let i := l.inp j
  match i.rg with
  | some rg =>
    if !i.st.guards || l.mains j then l
    else
      let d := i.vin + i.icur * rg
      let kp := if d = 0 then 0 else 2 * i.icur * rg / d
      let l := l.modInp j fun i => { i with kappa := kp }
      if l.gtrip < kp then
        let back := l.gback * d / (2 * rg)
        (l.count 97).modInp j fun i =>
          { i with backOff := some (back, if i.icur = 0 then 0 else back / i.icur), trips := l.bond :: i.trips, tripsNew := i.tripsNew + 1, tripAt := l.bond }
      else l
  | none => l

/-- INPUT_STAGE (R279): once for each course, with the tile's inputs final.  A pair loss comes before the guard: where both fall in
one course, the pair loss applies (R309). -/
def execInputStage (input : Fin 64) (s : State) : Host.Outcome State Fault Refusal :=
  s.upd fun l =>
    match l.stageDue input with
    | some (at_, q) => if (l.slot q.ring q.slot).usable then (((l.stageSample input at_ q).pairLost input).guardWork input) else l.stageSample input at_ q
    | none => l

/-- PP_PAIR_LOST (Table 8.2): the course's sample is the fourth in a row below 60 V, or the fourth has been taken. -/
def execPpPairLost (input : Fin 64) (s : State) : Host.Outcome State Fault Refusal :=
  s.upd fun l =>
    let l' := match l.stageDue input with | some (at_, q) => l.stageSample input at_ q | none => l
    if (l'.inp input).st.guards && 4 ≤ (l'.inp input).lowRun then l'.pairLost input else l

/-- What the input stage decided takes effect at the start of the next course (R279, R288, R309). -/
def Live.inputCourse (l : Live) (j : Nat) : Live :=
  let i := l.inp j
  match l.inputTile j with
  | none => l
  | some t =>
    if i.lostNow then
      (((l.setPol j 0).setOut t 0 0).modTile t fun k => { k with rebase := true }).modInp j fun i => { i with lostNow := false, backOff := none, iref := 0 }
    else match i.backOff with
      | some (back, f) =>
        let o := BitVec.ofInt 24 (satW 24 ((l.outp t 0).toInt * f).floor)
        let l := ((l.setPol j (q23 (back * 1000000) (l.tIunit t))).setOut t 0 o).modTile t fun k => { k with rebase := true }
        (l.modInp j fun i => { i with st := .guarded, backOff := none, iref := back }).raise 0x6001 (oInput j)
      | none => l

/-- PP_GUARD_REPEAT (R289): four trips within 1000 bonds lower k_h. -/
def execPpGuardRepeat (input : Fin 64) (s : State) : Host.Outcome State Fault Refusal :=
  s.upd fun l =>
    let i := l.inp input
    match i.trips[3]? with
    | some b =>
      if 4 ≤ i.tripsNew && l.bond < b + 1000 then
        (l.modInp input fun i => { i with tripsNew := 0, khCut := if l.khNow input ≤ 100 then i.khCut else i.khCut + 10 }).raise 0x6002 (oInput input)
      else l
    | none => l

/-! ## Sharing (R283 to R286) -/

/-- V̂_s and P̂_max in every bond with a valid R̂ (R283). -/
def Live.inpSend (l : Live) (j : Nat) : Live :=
  l.modInp j fun i =>
    match i.rhat with
    | some r => let v := i.vbar + i.ibar * r
                { i with vs := v, pmax := if r = 0 then 0 else v * v / (4 * r) }
    | none => { i with pmax := 0 }

/-- The terms of an input's ceiling: those of level 1 and those of level 2 (R284, Table 8.5). -/
def Live.ceilTerms (l : Live) (j : Nat) : List Rat × List Rat :=
  let i := l.inp j
  let cls := if l.pcls j = 0 then [] else [l.pcls j]
  if l.mains j then ([l.inpRate j], cls)
  else match i.rhat with
    | some r =>
      let ic := min (l.icls j) (if r = 0 then l.icls j else i.vs / (2 * r))
      ([(l.khNow j : Rat) / 200 * i.pmax, l.inpRate j], cls ++ [ic * (i.vs - ic * r)])
    | none => ([0], cls)

/-- δ of an input (Table 11.5). -/
def Live.inpDer (l : Live) (j : Nat) : Rat := match l.inputTile j with | some t => l.derFactor t | none => 1

/-- C_j (R284), with the DERATE of Table 11.5. -/
def Live.ceiling (l : Live) (j : Nat) : Rat := let t := l.ceilTerms j; l.inpDer j * max 0 (((t.1 ++ t.2).min?).getD 0)

/-- The current that delivers a power on the estimated line (R286). -/
def Live.lineCurrent (l : Live) (j : Nat) (p : Rat) : Rat :=
  let i := l.inp j
  if l.mains j then (if i.vbar = 0 then 0 else p / i.vbar)
  else match i.rhat with
    | some r => if r = 0 then 0 else min (l.icls j) ((i.vs - sqrtR (i.vs * i.vs - 4 * r * p)) / (2 * r))
    | none => 0

/-- Write an input's reference. -/
def Live.setRef (l : Live) (j : Nat) (a : Rat) : Live :=
  match l.inputTile j with
  | some t => (l.setPol j (q23 (a * 1000000) (l.tIunit t))).modInp j fun i => { i with iref := a }
  | none => l

/-- s_j as a number. -/
def Input.sgnR (i : Input) : Rat := if i.sign then 1 else -1

/-- P_j of an input in S (R286). -/
def Live.target (l : Live) (j : Nat) : Rat := let i := l.inp j; min (l.pp.f * (1 + i.sgnR * l.dith)) 1 * i.ceil

/-- The reference of an input by its state and pin (R286, R291, R292, R307), with the tugs of R308. -/
def Live.refWork (l : Live) (j : Nat) : Live :=
  let i := l.inp j
  let m := l.pinmode j
  let fixed : Bool := m = 2 && i.st = .sharing
  let l := l.modInp j fun i => { i with pinned := (m = 1 && i.st.guards) || fixed }
  let want : Rat := match i.st with
    | .sharing => l.lineCurrent j (l.target j)
    | .guarded => i.iref
    | .probing => (l.ppf 5 23 16 25 : Rat) / 100 * l.icls j * (1 + (if i.probeBond % 2 = 0 then 1 else -1) / 10)
    | _ => 0
  if m = 1 then
    let l := if i.st.guards && want ≠ 0 then l.tug (oInput j) 6 0 3 4 (satNat (want * 10000) 0xFFFF) 0 else l
    l.setRef j 0
  else if fixed then
    let p := min (l.pinp j) i.ceil
    let l :=
      if i.ceil < l.pinp j then
        let lv1 : Bool := l.inpDer j < 1 || ((l.ceilTerms j).1.min?).getD 0 ≤ i.ceil
        l.tug (oInput j) 2 0 (if lv1 then 1 else 2) 3 (satNat (l.pinp j) 0xFFFF) (satNat p 0xFFFF)
      else if p ≠ l.target j then l.tug (oInput j) 2 0 3 4 (satNat (l.target j) 0xFFFF) (satNat p 0xFFFF) else l
    l.setRef j (l.lineCurrent j p)
  else
    let l := if m = 2 && i.st = .guarded && i.vbar * want < l.pinp j then
        l.tug (oInput j) 2 0 1 3 (satNat (l.pinp j) 0xFFFF) (satNat (i.vbar * want) 0xFFFF) else l
    l.setRef j want

/-- The inputs in S (R285). -/
def Live.sharers (l : Live) : List Nat := l.inputNums.filter (fun j => (l.inp j).st = .sharing && l.pinmode j = 0)

/-- The bus loop (R285, R336). -/
def Live.share_ (l : Live) : Live :=
  let ss := l.sharers
  let sumC := sumR (ss.map (fun j => (l.inp j).ceil))
  let pex := if l.gauge.ex = .running then (l.str l.gauge.exStr).demand else 0
  let sumP := sumR (ss.map (fun j => (l.inp j).vbar * (l.inp j).ibar)) - pex
  let e := l.vbusSet - l.pp.vbus
  let f0 := l.pp.f
  let x := if (f0 = 1 && 0 < e) || (f0 = 0 && e < 0) then l.pp.x else l.pp.x + (l.ppf 8 15 0 100 : Rat) / 10 * e
  let x := clampR x (-sumC) sumC
  let f := if ss.isEmpty || sumC = 0 then 0 else clampR ((sumP + (l.ppf 8 31 16 100 : Rat) * e + x) / sumC) 0 1
  l.modPp fun p => { p with x := x, f := f, sumC := sumC }

/-- GHOLD_EXPIRY (Table 8.2): `GHOLD` bonds without a trip. -/
def execGholdExpiry (input : Fin 64) (s : State) : Host.Outcome State Fault Refusal :=
  s.upd fun l =>
    let j := input.toNat
    if (l.inp j).st = .guarded && (l.inp j).backOff.isNone && (l.inp j).tripAt + l.ghold ≤ l.bond then
      (l.modInp j fun i => { i with st := .sharing }).refWork j
    else l

/-! ## Estimation (R280 to R282, R292) -/

/-- The register advances (R281): x^15 + x^14 + 1, with the bit that leaves it as its output. -/
def lfsrNext (v : BitVec 15) : BitVec 15 := (v <<< 1) ||| (if v.getLsbD 14 != v.getLsbD 13 then 1 else 0)

/-- The end of an estimation window (R282). -/
def Live.windowEnd (l : Live) (j : Nat) : Live :=
  let i := l.inp j
  let rn := if i.ai = 0 then 0 else -i.av / i.ai
  let good : Bool := (l.estwin : Rat) / 4 ≤ i.n && l.dith / 2 * i.n * i.ibar ≤ i.ai && i.ai ≠ 0 && 1 ≤ rn && rn ≤ 4000
  let l := l.modInp j fun i => { i with av := 0, ai := 0, n := 0, winBonds := 0 }
  if good then l.modInp j fun i => { i with rhat := some (match i.rhat with | some r => r + (rn - r) / 4 | none => rn), badWins := 0 }
  else
    let l := (l.count 103).modInp j fun i => { i with badWins := i.badWins + 1 }
    if (l.inp j).badWins = 8 then (l.modInp j fun i => { i with badWins := 0 }).raise 0x6004 (oInput j) else l

/-- An input's means at the end of a bond, and the estimation step. -/
def Live.inpMeans (l : Live) (j : Nat) : Live :=
  let i := l.inp j
  let void : Bool := i.nV < 8 || i.nI < 8
  let v := if void then i.vbar else i.sumV / i.nV
  let c := if void then i.ibar else i.sumI / i.nI
  let l := l.modInp j fun i =>
    { i with vbar := v, ibar := c, vbarPrev := i.vbar, ibarPrev := i.ibar, void := void, voidPrev := i.void, sumV := 0, sumI := 0, nV := 0, nI := 0 }
  let i := l.inp j
  if (i.st = .sharing || i.st = .guarded) && !l.mains j then
    let dv := i.vbar - i.vbarPrev
    let di := i.ibar - i.ibarPrev
    let l := if i.sign ≠ i.signPrev && !i.void && !i.voidPrev then
        l.modInp j fun i =>
          { i with av := i.av + i.sgnR * dv, ai := i.ai + i.sgnR * di, n := i.n + 1,
                   rlast := if l.dith / 2 * i.ibarPrev ≤ i.sgnR * di && di ≠ 0 then some (-dv / di) else i.rlast }
      else l
    let l := l.modInp j fun i => { i with winBonds := i.winBonds + 1 }
    if l.estwin ≤ (l.inp j).winBonds then l.windowEnd j else l
  else l.modInp j fun i => { i with av := 0, ai := 0, n := 0, winBonds := 0, badWins := 0 }

/-- Sum of σ·Δ over the 7 steps of a probe, the means oldest first (R292). -/
def probeSum : Nat → List Rat → Rat
  | m, a :: b :: t => (if m % 2 = 0 then a - b else b - a) + probeSum (m + 1) (b :: t)
  | _, _ => 0

/-- An input's bond events (Table 8.2). -/
def Live.inpEvents (l : Live) (j : Nat) : Live :=
  let i := l.inp j
  let l := l.modInp j fun i => { i with minV := none }
  let probe (l : Live) : Live := l.modInp j fun i => { i with st := .probing, probeBond := 1, probeV := [], probeI := [], probeVoid := false }
  match i.st with
  | .dark =>
    let up : Bool := !i.void && (match i.minV with | some v => 100 ≤ v | none => false)
    if !up then l
    else
      let l := (l.count 98).modInp j fun i => { i with probeFails := 0, lowRun := 0, winBonds := 0, badWins := 0 }
      if l.mains j || (i.restored && i.rhat.isSome) then l.modInp j fun i => { i with st := .sharing, restored := false } else probe l
  | .probing =>
    let l := l.modInp j fun i => { i with probeV := i.probeV ++ [i.vbar], probeI := i.probeI ++ [i.ibar], probeVoid := i.probeVoid || i.void, probeBond := i.probeBond + 1 }
    let i := l.inp j
    if i.probeBond ≤ 8 then l
    else
      let di := probeSum 1 i.probeI
      let r := if di = 0 then 0 else -(probeSum 1 i.probeV) / di
      if !i.probeVoid && 1 ≤ r && r ≤ 4000 then l.modInp j fun i => { i with st := .sharing, rhat := some r, rlast := none, probeBond := 0, probeFails := 0 }
      else
        let l := probe ((l.count 103).modInp j fun i => { i with probeFails := i.probeFails + 1 })
        if (l.inp j).probeFails = 4 then l.raise 0x6004 (oInput j) else l
  | _ => l

/-- The dither of the next bond. -/
def Live.dither (l : Live) (j : Nat) : Live :=
  l.modInp j fun i => { i with signPrev := i.sign, sign := i.lfsr.getLsbD 14, lfsr := lfsrNext i.lfsr,
                               trips := i.trips.filter (fun b => l.bond < b + 1000) }

/-! ## Grants and allowances (R294, R334) -/

/-- A string that is exercising, or about to be. -/
def Live.exercising (l : Live) (k : Nat) : Bool := l.gauge.ex = .running && l.gauge.exStr = k

/-- δ of a string (Table 11.5). -/
def Live.strDer (l : Live) (k : Nat) : Rat := l.derFactor (l.strTile k)
/-- The normal grant of a string, but for `ASSOFF`, and the feed-loss grant, in W. -/
def Live.normalGrant (l : Live) (k : Nat) : Rat :=
  if l.eligible k then l.strDer k * min (l.ppf 5 15 0 500 : Rat) (l.strTheta k * l.strPrate k) else 0
def Live.feedGrant (l : Live) (k : Nat) : Rat := if l.feedQualifies k then l.strDer k * (l.strTheta k * l.strPrate k) else 0

/-- `ASSOFF`. -/
def Live.assoff (l : Live) : Bool := bit (l.hw 0x6FFF 11) 31

/-- Grants, allowances and registers 64 to 98; DERATE lowers those of R294 by δ (Table 11.5), not an exercise demand. -/
def Live.grantWork (l : Live) : Live :=
  let ks := l.strNums.filter (fun k => (l.str k).live)
  let loss : Bool := l.pp.st = .feedlost
  let grant (k : Nat) : Rat :=
    if l.exercising k then (l.str k).demand
    else if loss then l.feedGrant k else if l.assoff then 0 else l.normalGrant k
  let nc := (ks.filter (fun k => (l.str k).ibar ≤ 0 && !(l.str k).chginh && !l.exercising k)).length
  let pool := max 0 (l.frel - l.pp.f) * l.pp.sumC
  let allow (k : Nat) : Rat :=
    if 0 < (l.str k).ibar || (l.str k).chginh || l.exercising k || nc = 0 then 0 else l.strDer k * min (l.strPrate k) (pool / nc)
  let off : Rat := sumR ((ks.filter (fun k => !l.exercising k)).map l.normalGrant)
  let l := if l.assoff && !loss && off ≠ 0 then l.tug 0x6FFF 14 0 3 4 (satNat off 0xFFFF) 0
    else if l.assoff && loss && ks.any (fun k => l.feedGrant k ≠ 0) then l.tug 0x6FFF 14 0 1 3 0 (satNat (sumR (ks.map l.feedGrant)) 0xFFFF) else l
  let gs := ks.map (fun k => (k, grant k))
  let as_ := ks.map (fun k => (k, allow k))
  let l := l.forL gs fun l p => l.setPol (64 + p.1) (q23 p.2 (l.strPrate p.1))
  let l := l.forL as_ fun l p => l.setPol (80 + p.1) (q23 p.2 (l.strPrate p.1))
  let l := ((l.setPol 96 (q23 l.pp.f 1)).setPol 97 (q23 l.vbusSet 64)).setPol 98 (q23 (l.vbusSet - l.vassist) 64)
  l.modPp fun p =>
    { p with grants := gs.foldl (fun t q => tput 0 t q.1 q.2) [], allow := as_.foldl (fun t q => tput 0 t q.1 q.2) [],
             vset := l.vbusSet, vfloor := l.vbusSet - l.vassist }

/-! ## Cap steps, sheds and undo (R296, R297) -/

/-- The shed order; `keep` is whether `ZKEEP` holds rails out of it. -/
def Live.shedOrder (l : Live) (keep : Bool) : List Nat :=
  let k (r : Nat) : Nat := l.zprio (l.railZone r) * 65536 + l.tPrio (l.railTile r) * 256 + r
  (l.railNums.filter (fun r => !l.znoshed (l.railZone r) && !(keep && l.zkeep (l.railZone r)))).mergeSort (fun a b => k a ≤ k b)

/-- The cap order. -/
def Live.capOrder (l : Live) : List Nat := (l.shedOrder true).filter (fun r => (l.railPort r).isSome && !l.znocap (l.railZone r))

/-- The rail of the next cap step. -/
def Live.capNext (l : Live) : Option Nat := l.capOrder.find? (fun r => l.zcapmin (l.railZone r) < l.ppLevel r)

/-- Set a rail's Power Path Manager level. -/
def Live.setLevel (l : Live) (r n : Nat) : Live := l.modPp fun p => { p with levels := tput 16 p.levels r n }

/-- A cap step. -/
def Live.capStep (l : Live) : Live :=
  match l.capNext with
  | some r =>
    let n := max (l.zcapmin (l.railZone r)) (l.ppLevel r - l.ppf 6 31 24 2)
    ((l.setLevel r n).count 99).modPp fun p => { p with stack := .capStep r :: p.stack, sinceCap := 0 }
  | none => l

/-- A shed order to a rail, pushed on the stack. -/
def Live.shedRail (l : Live) (r : Nat) : Live :=
  ((l.modRail r fun k => { k with shedOrd := true, stopNow := if k.st = .stopping && k.stopNow = 0 then 2 else k.stopNow }).count 100).modPp fun p =>
    { p with stack := .shed r :: p.stack, sinceShed := 0 }

/-- A shed of the ladder; one that R299 has ordered in this bond is the same order and the same entry (R309). -/
def Live.shedStep (l : Live) : Live :=
  match (l.shedOrder true).find? (fun r => !(l.rail r).shedOrd || l.pp.ignShed.contains r) with
  | some r => if (l.rail r).shedOrd then l.modPp fun p => { p with sinceShed := 0 } else (l.shedRail r).raise 0x6006 (oRail r)
  | none => l

/-- Undo the latest entry; the Surplus dwell restarts. -/
def Live.undo (l : Live) : Live :=
  let l := match l.pp.stack with
    | .capStep r :: rest => (l.setLevel r (min 16 (l.ppLevel r + l.ppf 6 31 24 2))).modPp fun p => { p with stack := rest }
    | .shed r :: rest => (l.modRail r fun k => { k with shedOrd := false }).modPp fun p => { p with stack := rest }
    | [] => l
  l.modPp fun p => { p with surplus := 0 }

/-- A stack entry is a shed. -/
def PpEntry.isShed : PpEntry → Bool
  | .shed _ => true | .capStep _ => false
def PpEntry.railOf : PpEntry → Nat
  | .shed r => r | .capStep r => r

/-- The state that the stack dictates. -/
def Live.byStack (l : Live) : SupplySt :=
  if l.pp.stack.any PpEntry.isShed then .shedding else if l.pp.stack.isEmpty then .assist else .capping

/-- `ZKEEP` withdraws the caps and sheds of its rails, but for those that R302 and R303 have shed (R307). -/
def Live.keepWork (l : Live) : Live :=
  let held (r : Nat) : Bool := l.pp.final || l.pp.hshed.contains r
  l.each 8 fun l z =>
    let rs := l.railNums.filter (fun r => l.railZone r = z && (l.ppLevel r < 16 || ((l.rail r).shedOrd && !held r)))
    if !l.zkeep z || rs.isEmpty then l
    else
      let l := l.forL rs fun l r => (l.setLevel r 16).modRail r fun k => { k with shedOrd := k.shedOrd && held r }
      (l.modPp fun p => { p with stack := p.stack.filter (fun e => l.railZone e.railOf ≠ z || (e.isShed && held e.railOf)) }).tug (oZone z) 9 31 3 4 0 1

/-- The rails that ignored a cap are shed, ahead of the order (R299). -/
def Live.ignoredWork (l : Live) : Live :=
  let go := l.pp.ignored.filter (fun r => !(l.znoshed (l.railZone r) || l.zkeep (l.railZone r) || (l.rail r).shedOrd))
  let l := l.forL go fun l r => if l.pp.st = .holdup then l.shedRail r else (l.shedRail r).raise 0x6006 (oRail r)
  l.modPp fun p => { p with ignored := [], ignShed := go }

/-- The supply state changes; entry to CAPPING and to FEEDLOST raise their faults (Table 8.10). -/
def Live.supplyTo (l : Live) (st : SupplySt) : Live :=
  let old := l.pp.st
  let l := l.modPp fun p => { p with st := st }
  if old = st then l else if st = .capping then l.raise 0x6005 0x6FFF else if st = .feedlost then l.raise 0x6008 0x6FFF else l

/-! ## Hold-up (R300 to R305) -/

/-- Gating of LEAN and HOLDUP (R548). -/
def Live.gateSet (l : Live) : Live :=
  let bits (n : Nat) (f : Nat → Bool) : Nat := ((List.range n).map (fun i => if f i then 2 ^ i else 0)).sum
  l.modPwr fun p =>
    { p with rgate := BitVec.ofNat 8 (bits 8 (fun n => l.rate n = 0xF)),
             vgate := BitVec.ofNat 4 (bits 4 (fun b => (List.range 4).all (fun i => !l.cb (oVc (4 * b + i)) 0 7))),
             tgate := BitVec.ofNat 8 (bits 8 (fun t => !l.cb (0xB100 + t) 0 31)) }
def Live.gateClear (l : Live) : Live := l.modPwr fun p => { p with rgate := 0, vgate := 0, tgate := 0 }

/-- P_load in W (R301). -/
def Live.pload (l : Live) : Rat := if l.ilen then l.pp.vnow * l.pp.inow else sumR (l.railNums.map l.railLoad)

/-- E and E_res in J (R301). -/
def Live.eNow (l : Live) : Rat := l.busC * (l.pp.vnow * l.pp.vnow - l.vminbus * l.vminbus) / 2
def Live.eRes (l : Live) : Rat := (if l.etavin = 0 then 0 else 75 / 10000 / l.etavin) + (l.ppf 9 15 0 0 : Rat) / 1000

/-- Sheds in HOLDUP: while P_load exceeds P_allow, the next rail and its share (R302). -/
def Live.holdupShed (l : Live) (allow : Rat) : Rat → List Nat → Live
  | _, [] => l
  | p, r :: rest =>
    if p ≤ allow then l
    else
      let share := l.railLoad r
      let z := l.railZone r
      let l := if l.zkeep z then l.tug (oZone z) 9 31 1 3 1 0 else l
      ((l.shedRail r).modPp fun p => { p with hshed := r :: p.hshed }).holdupShed allow (p - share) rest

/-- R302 at HOLDUP entry and at each bond while no final shed stands. -/
def Live.holdupBatch (l : Live) : Live :=
  if l.pp.final then l
  else
    let th : Rat := (l.ppf 7 7 0 20 : Rat) / 1000
    let allow := if th = 0 then 0 else (l.eNow - l.eRes) / th
    l.holdupShed allow l.pload ((l.shedOrder false).filter (fun r => !(l.rail r).shedOrd))

/-- HOLDUP is entered, from RUN or LEAN as keeper only (R301, R302, R340, R455, R556). -/
def Live.enterHoldup (l : Live) : Live :=
  if l.pp.st = .holdup || !(l.pwr.st = .run || (l.pwr.st = .lean && !l.pwr.service)) then l
  else
    let l := l.modPp fun p => { p with st := .holdup, hshed := [], cused := none, measAt := none, exitRun := 0, vnow := if p.vnow = 0 then p.vbus else p.vnow }
    let l := ((l.countWith 102 1 {}).raise 0x6009 0x6FFF).txnCancel
    let l := (l.setPower .holdup 3).gateSet
    let l := l.modSec fun s => { s with dbg := { s.dbg with mode := 0, halted := [], stepped := [], coresHalted := false } }
    let l := (l.snapRequest 1).strHoldup
    let l := l.modPp fun p => { p with energy := l.eNow }
    l.holdupBatch

/-- PFAIL_LOW (R300): `PFAIL_N` low for 40 ticks. -/
def execPfailLow (s : State) : Host.Outcome State Fault Refusal :=
  s.upd fun l => if l.pwr.st = .off then l else (l.modPwr fun p => { p with pfailN := false }).enterHoldup

/-- VBUS_LOW (R300): four consecutive conversions below `VHOLD`. -/
def execVbusLow (s : State) : Host.Outcome State Fault Refusal :=
  s.upd fun l => if 4 ≤ l.pp.lowConv then (l.modPp fun p => { p with lowConv := 0 }).enterHoldup else l

/-- The final shed (R303). -/
def Live.finalShed (l : Live) : Live :=
  let l := l.each 8 fun l z => if l.zkeep z && l.railNums.any (fun r => l.railZone r = z) then l.tug (oZone z) 9 31 1 3 1 0 else l
  let l := l.forL (l.railNums.filter (fun r => !(l.rail r).shedOrd)) fun l r =>
    (l.modRail r fun k => { k with shedOrd := true, stopNow := if k.st = .stopping && k.stopNow = 0 then 2 else k.stopNow }).count 100
  (l.modPp fun p => { p with final := true }).raise 0x600B 0x6FFF

/-- The bus capacitance is being measured: HOLDUP, no string discharges, no input is SHARING (R304). -/
def Live.measuring (l : Live) : Bool :=
  l.pp.st = .holdup && l.strNums.all (fun k => (l.str k).ibar ≤ 0) && l.inputNums.all (fun j => (l.inp j).st ≠ .sharing)

/-- A conversion of `VBADC` or `ILADC` (R280, R300, R301, R303). -/
def Live.ppConversion (l : Live) (ch : Nat) (code : Half) : Live :=
  let l := if l.ilen && ch = l.iladc then l.modPp fun p => { p with inow := (code.toNat : Rat) / 65536 * (l.ppf 10 15 0 0 : Rat) / 100 } else l
  if !l.given 0x6FFF 9 || ch ≠ l.vbadc then l
  else
    let v : Rat := (code.toNat : Rat) / 65536 * (l.ppf 10 31 16 0 : Rat) / 100
    let l := l.modPp fun p => { p with vnow := v, busSum := p.busSum + v, busN := p.busN + 1, lowConv := if v < l.vhold then p.lowConv + 1 else 0 }
    if l.pp.st ≠ .holdup then l
    else
      let pl := l.pload
      let l := l.modPp fun p => { p with energy := l.eNow }
      let l := if !l.measuring then l.modPp fun p => { p with measAt := none }
        else match l.pp.measAt with
          | none => l.modPp fun p => { p with measAt := some l.now, measV := v, measE := 0, measT := l.now }
          | some _ => l.modPp fun p => { p with measE := p.measE + pl * ((l.now - p.measT : Nat) : Rat) / secTicks, measT := l.now }
      if !l.pp.final && l.pp.energy ≤ l.eRes + pl / 1000 then l.finalShed else l

/-- CBUS_MEASURE (R304): each interval of 2 ms. -/
def execCbusMeasure (s : State) : Host.Outcome State Fault Refusal :=
  s.upd fun l =>
    match l.pp.measAt with
    | some t =>
      if !l.measuring || l.now < t + 400000 then l
      else
        let p := l.pp
        let d := p.measV * p.measV - p.vnow * p.vnow
        let c := 2 * p.measE / d
        let cb : Rat := (l.cf 0x6FFF 2 31 16 : Rat) / 10000
        let l := l.modPp fun p => { p with measAt := some l.now, measV := p.vnow, measE := 0, measT := l.now }
        if 0 < d && c < 9 / 10 * cb then (l.modPp fun p => { p with cused := some c }).raise 0x600A 0x6FFF else l
    | none => l

/-- HOLDUP ends (R305): the controller returns to RUN or LEAN. -/
def Live.holdupExit (l : Live) : Live :=
  let sharing := l.inputNums.any (fun j => (l.inp j).st = .sharing)
  let l := (l.supplyTo (if sharing then l.byStack else .feedlost)).modPp fun p =>
    { p with hshed := [], energy := 0, cused := none, measAt := none, exitRun := 0 }
  let l := l.setPower (if l.pwr.leanen then .lean else .run) 4
  if l.pwr.leanen then l else (l.gateClear.armAsk).armWatch

/-! ## The supply state (R295, R298) -/

/-- Every input is ABSENT or DARK, and there is one. -/
def Live.feedDead (l : Live) : Bool := !l.inputNums.isEmpty && l.inputNums.all (fun j => (l.inp j).st = .absent || (l.inp j).st = .dark)
/-- A string qualifies for a feed-loss grant. -/
def Live.feedString (l : Live) : Bool := l.strNums.any l.feedQualifies

/-- Row `n` of Table 8.4 below its first: what it makes of the state, or none where its event is not there. -/
def Live.supplyRow (l : Live) (unmet sat : Bool) (n : Nat) : Option Live :=
  let p := l.pp
  let st := p.st
  let ladder : Bool := st = .capping || st = .feedlost
  let sharing := l.inputNums.any (fun j => (l.inp j).st = .sharing)
  let on (c : Bool) (l : Live) : Option Live := if c then some l else none
  match n with
  | 0 => on ((st = .normal || st = .assist || st = .capping || st = .shedding) && 2 ≤ p.deadRun && l.feedString) (l.supplyTo .feedlost)
  | 1 => on (st = .normal && sat) (l.supplyTo .assist)
  | 2 => on (st = .assist && !sat && p.stack.isEmpty) (l.supplyTo .normal)
  | 3 => on ((st = .normal || st = .assist) && unmet) (((l.supplyTo .capping).modPp fun p => { p with noCapRun := 0 }).capStep)
  | 4 => on (ladder && unmet && l.ppf 6 23 16 5 ≤ p.sinceCap && l.capNext.isSome) l.capStep
  | 5 =>
    on (ladder && unmet && l.capNext.isNone && l.ppf 6 7 0 200 ≤ p.noCapRun)
      (((l.supplyTo (if st = .feedlost then .feedlost else .shedding)).modPp fun p => { p with noCapRun := 0 }).shedStep)
  | 6 => on ((st = .shedding || (st = .feedlost && p.stack.any PpEntry.isShed)) && unmet && l.ppf 6 15 8 20 ≤ p.sinceShed) l.shedStep
  | 7 => on ((st = .capping || st = .shedding) && l.ppf 7 31 16 1000 ≤ p.surplus) (let l := l.undo; l.supplyTo l.byStack)
  | 8 => on (st = .feedlost && sharing) (l.supplyTo l.byStack)
  | _ => none

/-- The first row whose event is there is taken; the others are then judged against the new state, each once (R21). -/
def Live.supplyTake (unmet sat : Bool) : Nat → List Nat → Live → Live
  | 0, _, l => l
  | f + 1, ks, l =>
    match ks.find? (fun k => (l.supplyRow unmet sat k).isSome) with
    | some k => Live.supplyTake unmet sat f (ks.filter (· ≠ k)) ((l.supplyRow unmet sat k).getD l)
    | none => l

/-- Table 8.4 below its first row. -/
def Live.supplyRows (l : Live) (unmet sat : Bool) : Live := Live.supplyTake unmet sat 9 (List.range 9) l

/-- The supply state once per bond. -/
def Live.supplyBond (l : Live) : Live :=
  let p := l.pp
  let sat : Bool := p.f = 1 || l.sharers.isEmpty
  let low : Bool := sat && p.vbus < p.vfloor - l.vdip
  let unmet : Bool := low && p.dipNow
  let sur : Bool := p.f ≤ l.frel && l.vbusSet - l.vdip ≤ p.vbus
  let dead := l.feedDead
  let l := l.modPp fun p =>
    { p with dipPrev := p.dipNow, dipNow := low, surplus := if sur then p.surplus + 1 else 0, deadRun := if dead then p.deadRun + 1 else 0,
             sinceCap := p.sinceCap + 1, sinceShed := p.sinceShed + 1, noCapRun := if unmet && l.capNext.isNone then p.noCapRun + 1 else 0 }
  let p := l.pp
  if p.st = .holdup then
    let good : Bool := p.vfloor ≤ p.vbus && (l.inputNums.any (fun j => (l.inp j).st = .sharing) || l.strNums.any l.eligible)
    let l := l.modPp fun p => { p with exitRun := if good then p.exitRun + 1 else 0 }
    if !p.final && 100 ≤ l.pp.exitRun then l.holdupExit else l.holdupBatch
  else if !l.feedString && (p.st = .feedlost || 2 ≤ p.deadRun) then l.enterHoldup
  else l.supplyRows unmet sat

/-! ## The bond work (R279) -/

/-- A bond in which a string discharged under a normal grant (Table 8.11). -/
def Live.assistCount (l : Live) : Live :=
  if !(l.pp.st = .feedlost || l.pp.st = .holdup) &&
      l.strNums.any (fun k => !(l.str k).void && 0 < (l.str k).ibar && 0 < tget 0 l.pp.grants k && !l.exercising k) then
    l.countWith 101 1 {}
  else l

/-- Rails' stack entries that the commit removed are dropped (R309). -/
def Live.stackPrune (l : Live) : Live :=
  let rs := l.railNums
  l.modPp fun p => { p with stack := p.stack.filter (fun e => rs.contains e.railOf), levels := p.levels.filter (fun q => rs.contains q.1) }

/-- The Power Path Manager's bond work. -/
def Live.ppBond (l : Live) : Live :=
  let js := l.inputNums.filter (fun j => (l.inp j).live)
  let l := l.modPp fun p => { p with vbus := if p.busN = 0 then p.vbus else p.busSum / p.busN, busSum := 0, busN := 0 }
  let l := l.assistCount
  let l := l.forL js fun l j => (((l.inpMeans j).inpEvents j).dither j).inpSend j
  let l := l.forL js fun l j => l.modInp j fun i => { i with ceil := l.ceiling j }
  let l := l.share_
  let l := l.forL js fun l j => l.refWork j
  let l := l.modPp fun p =>
    { p with pin := sumR (js.map (fun j => (l.inp j).vbar * (l.inp j).ibar)), vset := l.vbusSet, vfloor := l.vbusSet - l.vassist }
  let l := (l.keepWork.ignoredWork).supplyBond
  let l := l.modPp fun p => { p with ignShed := [] }
  (l.forL js fun l j => l.modInp j fun i => { i with restored := false }).grantWork

/-! ## Activation (R281, R309) -/

/-- An input that an activation creates. -/
def Live.inpCreate (l : Live) (j : Nat) : Live :=
  let seed : BitVec 15 := BitVec.ofNat 15 (j + 1)
  l.modInp j fun _ => { live := true, lfsr := lfsrNext seed, sign := seed.getLsbD 14, signPrev := seed.getLsbD 14 }

/-- The input's member binding changed: the estimate goes. -/
def Live.inpRebind (l : Live) (j : Nat) : Live := l.modInp j fun i => { i with rhat := none, rlast := none, restored := false }

/-- The input's member has become MOORED (Table 8.2). -/
def Live.inputMoored (l : Live) (j : Nat) : Live :=
  if (l.inp j).st = .absent then
    ((l.modInp j fun i => { i with st := .dark, lowRun := 0, minV := none, sumV := 0, sumI := 0, nV := 0, nI := 0, void := true, voidPrev := true }).setPol j 0).count 98
  else l

end Sys2Proof.Machine
end

