-- ==== Sys2Proof/Machine/Vc.lean ====
section
/-! DEFINITION. The voltage command ports (chapter "Voltage command ports"). -/
namespace Sys2Proof.Machine

/-! ## Command and response words (Table 7.5, Table 7.6) -/

/-- A command word with its `VCRC`. -/
def vcWord (op railsel tag value arg : Nat) : Word :=
  let v := op % 16 * 2 ^ 20 + railsel % 4 * 2 ^ 18 + tag % 4 * 2 ^ 16 + value % 4096 * 16 + arg % 16
  BitVec.ofNat 32 (v * 256 + crc8 v 24)

/-- `VCRC` passes. -/
def vcCrcOk (w : Word) : Bool := crc8 (w.toNat / 256) 24 = fld w 7 0

/-- A short and a long response (Table 7.6). -/
def vcShort (status railsel tag : Nat) : Word :=
  let v := status % 16 * 16 + railsel % 4 * 4 + tag % 4
  BitVec.ofNat 32 (v * 256 + crc8 v 8)
def vcLong (railsel tag data : Nat) : Word :=
  let v := railsel % 4 * 2 ^ 18 + tag % 4 * 2 ^ 16 + data % 65536
  BitVec.ofNat 32 (v * 256 + crc8 v 24)

/-- Item 2 of R253: the operation is reserved, a field marked zero is not zero, or `ARG` is reserved (Table 7.7). -/
def vcMalformed (w : Word) : Bool :=
  let v := fld w 23 12
  let a := fld w 11 8
  match fld w 31 28 with
  | 1 => 8 ≤ a
  | 2 => v ≠ 0 || 3 ≤ a
  | 3 => v ≠ 0 || 3 ≤ a
  | 4 => v ≠ 0 || a ≠ 0
  | 5 => v ≠ 0 || 2 ≤ a
  | 6 => 32 ≤ v || a ≠ 0
  | 7 => (match a with | 0 => v ≠ 0 | 1 => v ≠ 0 | 2 => 4 ≤ v | _ => true)
  | 8 => v ≠ 0 || 2 ≤ a
  | _ => true

/-! ## Data of an ACCEPT response (Table 7.7) -/

/-- GETV: V, V_t or V_eff in mV.  V and V_eff are those of the latest complete course work; V_t is the target that the port has
taken since (R252). -/
def Live.vcGetv (l : Live) (r a : Nat) : Nat :=
  let k := l.rail r
  match a with
  | 0 => satNat (k.seen.v / 1000) 0xFFFF
  | 1 => min (k.vt / 16000) 0xFFFF
  | _ => min (k.seen.veff / 16000) 0xFFFF

/-- A current in 10 mA units as 16-bit two's complement, clear of the code for unknown. -/
def vcAmps (x : Rat) : Nat := ((max (-32767) (min 32767 (truncR (x / 10000)))) % 65536).toNat

/-- GETI: I_rail, R_rail or the cap in force, of the latest complete course work (R252).  DEDUCED: the code for unknown stands for
I_rail alone, since R_rail and the cap are known all the same (R233, log entry 90). -/
def Live.vcGeti (l : Live) (r a : Nat) : Nat :=
  let k := (l.rail r).seen
  match a with
  | 0 => match k.i with | some i => vcAmps i | none => 0x8000
  | 1 => vcAmps k.rr
  | _ => vcAmps (k.cap.getD k.rr)

/-- GETP: V × I_rail in 10 mW units. -/
def Live.vcGetp (l : Live) (r : Nat) : Nat :=
  let k := (l.rail r).seen
  match k.i with
  | some i => satNat (k.v * i / 10000000000) 0xFFFE
  | none => 0xFFFF

/-- The data of Table 7.10. -/
def VcRail.stat (v : VcRail) : Nat :=
  (if v.set then 0x8000 else 0) + v.stag.toNat * 0x2000 + (if v.sup then 0x1000 else 0) + v.utag.toNat * 0x400 +
    (if v.cap then 0x200 else 0) + v.level % 32 * 16 + (if v.kpr then 8 else 0) + (if v.down then 4 else 0) +
    (if v.sfail then 2 else 0) + (if v.full then 1 else 0)

/-- A flag of the rail is set. -/
def VcRail.flagged (v : VcRail) : Bool := v.set || v.sup || v.cap || v.kpr || v.down || v.sfail

/-- GETSTAT's summary: bit 12 + k for `RAILSEL` k. -/
def Live.vcSummary (l : Live) (p : Nat) : Nat :=
  ((List.range 4).map (fun k => match l.portRail p k with
    | some r => if (l.vr r).flagged then 2 ^ (12 + k) else 0
    | none => 0)).sum

/-! ## One operation (R254 to R269) -/

/-- SETV (R254, R258, R261): the status, and the command accepted. -/
def Live.vcSetv (l : Live) (p r : Nat) (w : Word) : Nat × Live :=
  let v := fld w 23 12
  let k := l.rail r
  let q := l.vr r
  if l.cf (oVc p) 1 7 5 < fld w 10 8 || v < l.rcf r 2 15 0 || l.rcf r 2 31 16 < v then (3, l)
  else if !k.st.regulates then (4, l)
  else if mv16 v = k.vt && q.outst.isNone && 2 ≤ q.calm then (1, l)
  else if k.vt < mv16 v && q.level < q.ack then (7, l)
  else
    (0, (l.countWith 65 1 { req := some p }).modVr r fun q =>
      { q with queue := q.queue ++ [{ tag := BitVec.ofNat 2 (fld w 25 24), value := mv16 v, slew := fld w 10 8, at_ := l.now }] })

/-- ACKCAP (R267). -/
def Live.vcAckcap (l : Live) (r : Nat) (w : Word) : Nat × Live :=
  let a := fld w 16 12
  if 16 < a then (3, l)
  else if a = (l.vr r).level then (0, l.modVr r fun q => { q with ack := q.level, grace := none })
  else (2, l)

/-- SETMODE (R265). -/
def Live.vcSetmode (l : Live) (r : Nat) (w : Word) : Nat × Live :=
  let m : ModeCmd := match fld w 11 8 with
    | 0 => .auto
    | 1 => .full
    | _ => .evmask (BitVec.ofNat 2 (fld w 13 12))
  (0, l.modVr r fun q => { q with modes := q.modes ++ [(m, l.now)] })

/-- The flags returned as 1 are cleared (R264). -/
def VcRail.cleared (v : VcRail) : VcRail :=
  { v with set := false, sup := false, cap := false, kpr := false, down := false, sfail := false }

/-- A whole command: its effect, its status and the data of a long response (R253). -/
def Live.vcAct (l : Live) (p : Nat) (w : Word) : Live × Nat × Option Nat :=
  let op := fld w 31 28
  let rl := l.portRail p (fld w 27 26)
  if !vcCrcOk w then (l, 6, none)
  else if vcMalformed w then (l, 3, none)
  else if l.fc.safe && op ≠ 8 then (l, 4, none)
  else if op = 8 then
    ((if bit w 8 then l.modVp p fun v => { v with syncs := List.range 8 } else l), 0, none)
  else match rl with
    | none => (l, 0xF, none)
    | some r =>
      if (op = 1 || op = 6 || op = 7) && (l.rail r).st = .idle then (l, 5, none)
      else match op with
        | 1 => let x := l.vcSetv p r w; (x.2, x.1, none)
        | 2 => (l, 0, some (l.vcGetv r (fld w 11 8)))
        | 3 => (l, 0, some (l.vcGeti r (fld w 11 8)))
        | 4 => (l, 0, some (l.vcGetp r))
        | 5 =>
          if bit w 8 then (l, 0, some (l.vcSummary p))
          else (l.modVr r VcRail.cleared, 0, some (l.vr r).stat)
        | 6 => let x := l.vcAckcap r w; (x.2, x.1, none)
        | _ => let x := l.vcSetmode r w; (x.2, x.1, none)

/-- Counters of a response (Table 7.13). -/
def Live.vcCount (l : Live) (p status : Nat) : Live :=
  let a : CntAttr := { req := some p }
  match status with
  | 1 => l.countWith 67 1 a
  | 3 | 4 | 5 | 7 | 0xF => l.countWith 68 1 a
  | 6 => (l.countWith 69 1 a).modVp p fun v => { v with badCrc := v.badCrc + 1 }
  | _ => l

/-- A frame in which all 32 command bits arrived: the command acts, and is answered unless the frame is abandoned. -/
def Live.vcCommand (l : Live) (p : Nat) (w : Word) (answered : Bool) : Live :=
  let a : CntAttr := { req := some p }
  let l := l.countWith 64 1 a
  let l := if vcCrcOk w then l.modVp p fun v => { v with lastCmd := w } else l
  let r := l.vcAct p w
  let st := r.2.1
  let l := r.1.vcCount p st
  if !answered then (l.countWith 70 1 a).modVp p fun v => { v with resp := 0, respLen := 0 }
  else
    l.modVp p fun v => match r.2.2 with
      | some d => { v with resp := vcLong (fld w 27 26) (fld w 25 24) d, respLen := 32 }
      | none => { v with resp := vcShort st (fld w 27 26) (fld w 25 24), respLen := 16 }

/-- The port answers frames: it is enabled, the domains work, and this controller holds the lease or is in the
safe state with no mate (R270, R272). -/
def Live.vcServes (l : Live) (p : Nat) : Bool :=
  l.pen p && l.dom 2 && (if l.fc.safe then !l.mateen else l.keeper.live)

/-- One frame.  When `VDIO` mismatches a response bit, the frame is abandoned and `VC_CONTEND` raised (R248). -/
def Live.vcFrame (l : Live) (p : Nat) (w : Word) (contend : Bool) : Live :=
  if !l.vcServes p then l
  else if contend then (l.vcCommand p w false).raise 0x5003 (oVc p)
  else l.vcCommand p w true

/-- SETV (R254). -/
def execSetv (port : Fin 16) (c : VcCmd) (value : BitVec 12) (slew : BitVec 3) (s : State) : Host.Outcome State Fault Refusal :=
  s.upd fun l => l.vcFrame port (vcWord 1 c.railsel.toNat c.tag.toNat value.toNat slew.toNat) c.contend
/-- GETV (R251). -/
def execGetv (port : Fin 16) (c : VcCmd) (arg : Fin 3) (s : State) : Host.Outcome State Fault Refusal :=
  s.upd fun l => l.vcFrame port (vcWord 2 c.railsel.toNat c.tag.toNat 0 arg) c.contend
/-- GETI (R251). -/
def execGeti (port : Fin 16) (c : VcCmd) (arg : Fin 3) (s : State) : Host.Outcome State Fault Refusal :=
  s.upd fun l => l.vcFrame port (vcWord 3 c.railsel.toNat c.tag.toNat 0 arg) c.contend
/-- GETP (R251). -/
def execGetp (port : Fin 16) (c : VcCmd) (s : State) : Host.Outcome State Fault Refusal :=
  s.upd fun l => l.vcFrame port (vcWord 4 c.railsel.toNat c.tag.toNat 0 0) c.contend
/-- GETSTAT of a rail (R264). -/
def execGetstatRail (port : Fin 16) (c : VcCmd) (s : State) : Host.Outcome State Fault Refusal :=
  s.upd fun l => l.vcFrame port (vcWord 5 c.railsel.toNat c.tag.toNat 0 0) c.contend
/-- GETSTAT's port summary (R262). -/
def execGetstatSummary (port : Fin 16) (c : VcCmd) (s : State) : Host.Outcome State Fault Refusal :=
  s.upd fun l => l.vcFrame port (vcWord 5 c.railsel.toNat c.tag.toNat 0 1) c.contend
/-- ACKCAP (R267). -/
def execAckcap (port : Fin 16) (c : VcCmd) (level : BitVec 5) (s : State) : Host.Outcome State Fault Refusal :=
  s.upd fun l => l.vcFrame port (vcWord 6 c.railsel.toNat c.tag.toNat level.toNat 0) c.contend
/-- SETMODE AUTO (R265). -/
def execSetmodeAuto (port : Fin 16) (c : VcCmd) (value : BitVec 12) (s : State) : Host.Outcome State Fault Refusal :=
  s.upd fun l => l.vcFrame port (vcWord 7 c.railsel.toNat c.tag.toNat value.toNat 0) c.contend
/-- SETMODE FULL (R265). -/
def execSetmodeFull (port : Fin 16) (c : VcCmd) (value : BitVec 12) (s : State) : Host.Outcome State Fault Refusal :=
  s.upd fun l => l.vcFrame port (vcWord 7 c.railsel.toNat c.tag.toNat value.toNat 1) c.contend
/-- SETMODE EVMASK (R265). -/
def execSetmodeEvmask (port : Fin 16) (c : VcCmd) (value : BitVec 12) (s : State) : Host.Outcome State Fault Refusal :=
  s.upd fun l => l.vcFrame port (vcWord 7 c.railsel.toNat c.tag.toNat value.toNat 2) c.contend
/-- PING (R269): with `SYNC` it is the port's frame-sync event. -/
def execPing (port : Fin 16) (c : VcCmd) (sync : Bool) (s : State) : Host.Outcome State Fault Refusal :=
  s.upd fun l => l.vcFrame port (vcWord 8 c.railsel.toNat c.tag.toNat 0 (if sync then 1 else 0)) c.contend

/-- VC_BAD_COMMAND (R253 items 1 and 2): a word whose `VCRC` fails, or that Table 7.7 does not allow.  A word of
another row is not this row's and has no effect here. -/
def execVcBadCommand (port : Fin 16) (word : Word) (contend : Bool) (s : State) : Host.Outcome State Fault Refusal :=
  s.upd fun l => if !vcCrcOk word || vcMalformed word then l.vcFrame port word contend else l

/-- A frame is abandoned; the command acts when all its bits had arrived (R247).  DESIGN CHOICE: it acts at the tick at which the frame
is abandoned, and R255 counts from that tick (log entry 88). -/
def Live.vcAbandon (l : Live) (p : Nat) (word : Option Word) : Live :=
  if !l.vcServes p then l
  else match word with
    | some w => l.vcCommand p w false
    | none => (l.countWith 70 1 { req := some p }).modVp p fun v => { v with resp := 0, respLen := 0 }

/-- VC_FRAME_TIMEOUT (R247). -/
def execVcFrameTimeout (port : Fin 16) (word : Option Word) (s : State) : Host.Outcome State Fault Refusal :=
  s.upd fun l => l.vcAbandon port word

/-! ## Taking, settling and caps -/

/-- SETV_SETTLED (R257): the second course in a row that meets the conditions. -/
def execSetvSettled (rail : Fin 48) (s : State) : Host.Outcome State Fault Refusal :=
  s.upd fun l =>
    match (l.vr rail).outst with
    | some c =>
      if 2 ≤ c.run then
        (l.countWith 67 1 { req := l.railPort rail }).modVr rail fun v => { v with set := true, stag := c.tag, outst := none }
      else l
    | none => l

/-- VC_SETTLE_FAIL (R259): `SETTO` after the first course without a ramp. -/
def execVcSettleFail (rail : Fin 48) (s : State) : Host.Outcome State Fault Refusal :=
  s.upd fun l =>
    match (l.vr rail).outst, l.railPort rail with
    | some c, some p =>
      (match c.calmAt with
       | some a =>
         if !c.failed && a + l.cf (oVc p) 1 15 8 * bondTicks ≤ l.now then
           (l.modVr rail fun v => { v with sfail := true, outst := some { c with failed := true } }).raise 0x5002 (oVc p) rail
         else l
       | none => l)
    | _, _ => l

/-- VC_CAP_NOACK (R268, R299): the grace timer reaches `CAPGRACE`; a rail above its cap is shed at the next bond. -/
def execVcCapNoack (rail : Fin 48) (s : State) : Host.Outcome State Fault Refusal :=
  s.upd fun l =>
    match (l.vr rail).grace, l.railBound rail with
    | some t, some p =>
      if t + l.cf (oVc p) 0 6 0 * bondTicks ≤ l.now then
        let over_ := match l.cap rail, (l.rail rail).i with | some c, some i => decide (c < i) | _, _ => false
        let l := ((l.modVr rail fun v => { v with grace := none }).raise 0x5001 (oRail rail) p).raise 0x6007 (oRail rail)
        if over_ then l.modPp fun q => { q with ignored := if q.ignored.contains rail then q.ignored else q.ignored ++ [rail.val] } else l
      else l
    | _, _ => l

/-- VC_CRC_BURST (R274): 16 BAD_CRC responses on one port within one bond. -/
def execVcCrcBurst (port : Fin 16) (s : State) : Host.Outcome State Fault Refusal :=
  s.upd fun l =>
    if 16 ≤ (l.vp port).badCrc then (l.modVp port fun v => { v with badCrc := 0 }).raise 0x5004 (oVc port) else l

/-- The level a bank's monitor reports (R610): 0 down, 1 for 1.2 V, 2 for 1.8 V levels, with 50 mV of hysteresis
below each threshold. -/
def bankLevel (old mv : Nat) : Nat :=
  if 1500 ≤ mv then 2 else if old = 2 && 1450 ≤ mv then 2 else if 1050 ≤ mv then 1 else if old ≠ 0 && 1000 ≤ mv then 1 else 0

/-- VC_BANK_CHANGE (R610): frames in progress on the bank's ports are abandoned; `inFrame` gives each such port of
the bank with the command word where all of it had arrived. -/
def execVcBankChange (bank : Fin 4) (millivolts : Nat) (inFrame : List (Fin 4 × Option Word)) (s : State) : Host.Outcome State Fault Refusal :=
  s.upd fun l =>
    let old := if !l.adc.vbok.getLsbD bank then 0 else if l.adc.vb18.getLsbD bank then 2 else 1
    let new := bankLevel old millivolts
    if old = new then l
    else
      let l := l.forL inFrame fun l f => l.vcAbandon (4 * bank + f.1) f.2
      let m := BitVec.ofNat 4 (2 ^ bank.val)
      { l with adc := { l.adc with vbok := if new = 0 then l.adc.vbok &&& ~~~m else l.adc.vbok ||| m,
                                   vb18 := if new = 2 then l.adc.vb18 ||| m else l.adc.vb18 &&& ~~~m } }

/-- SETV and SETMODE commands accepted 40 ticks or more ago are taken at a course start (R255, R256, R265).  DEDUCED: of two SETVs of
which only the first is 40 ticks old, the first is taken now and superseded when the second is taken (log entry 91). -/
def Live.vcTake (l : Live) (r : Nat) : Live :=
  match l.railPort r with
  | none => l
  | some p =>
    let q := l.vr r
    let due := q.queue.filter (fun c => c.at_ + 40 ≤ l.now)
    let rest := q.queue.filter (fun c => !(c.at_ + 40 ≤ l.now))
    let l := match due.reverse with
      | [] => l
      | last :: earlier =>
        let gone := (q.outst.toList ++ earlier.reverse)
        let l := l.countWith 66 gone.length { req := some p }
        let l := l.modVr r fun v =>
          let v := match gone.reverse with | g :: _ => { v with sup := true, utag := g.tag } | [] => v
          { v with outst := some { last with calmAt := none, run := 0, failed := false }, queue := rest }
        l.modRail r fun k => { k with vt := last.value, slew := last.slew, vtLast := last.value, slewLast := last.slew }
    let go := q.modes.filter (fun c => c.2 + 40 ≤ l.now)
    let l := l.modVr r fun v => { v with modes := q.modes.filter (fun c => !(c.2 + 40 ≤ l.now)) }
    l.forL go fun l c => l.modVr r fun v => match c.1 with
      | .auto => { v with full := false }
      | .full => { v with full := true }
      | .evmask m => { v with mask := m }

/-- A keeper change (R265, R267, R271): modes to AUTO, A := L, nothing outstanding, and `KPR` on every bound rail. -/
def Live.vcKeeper (l : Live) : Live :=
  l.forL l.railNums fun l r =>
    let kpr : Bool := (l.railBound r).isSome
    l.modVr r fun v => { v with full := false, mask := 0, ack := v.level, grace := none, kpr := v.kpr || kpr, outst := none, queue := [], modes := [] }

end Sys2Proof.Machine
end

