-- ==== Sys2Proof/Machine/Course.lean ====
section
/-! DEFINITION. The flow of one course of a ring (Table 1.10): course start, up-bricks, call brick and retries,
down window, check brick. -/
namespace Sys2Proof.Machine

/-! ## The line of the present course (Table 2.10) -/

/-- An item among others in ascending position. -/
def insertItem (x : LineItem) : List LineItem → List LineItem
  | [] => [x]
  | y :: t => if x.at_ < y.at_ then x :: y :: t else y :: insertItem x t

/-- Put a brick on the line at its position. -/
def Live.put64 (l : Live) (n at_ : Nat) (b : BitVec 64) : Live :=
  l.modRing n fun g => { g with line := insertItem { at_ := at_, bits := 64, data := b } g.line }
def Live.put48 (l : Live) (n at_ : Nat) (b : BitVec 48) : Live :=
  l.modRing n fun g => { g with line := insertItem { at_ := at_, bits := 48, data := b.setWidth 64 } g.line }

/-- Bricks one behind the other from a position. -/
def Live.putRun (l : Live) (n at_ : Nat) (bs : List (BitVec 64)) : Live := l.forL (numbered 0 bs) fun l p => l.put64 n (at_ + 32 * p.1) p.2
def Live.putRun48 (l : Live) (n at_ : Nat) (bs : List (BitVec 48)) : Live := l.forL (numbered 0 bs) fun l p => l.put48 n (at_ + 24 * p.1) p.2

/-- Active slots of a ring, ascending. -/
def Live.activeSlots (l : Live) (n : Nat) : List Nat := (l.ringSlots n).filter (fun s => (l.slot n s).active)

/-- Slots in the order that retry positions go to (R90). -/
def Live.retryOrder (l : Live) (n : Nat) (xs : List Nat) : List Nat :=
  let p (s : Nat) : Nat := match l.slotTile n s with | some t => l.tPrio t | none => 0
  xs.mergeSort (fun a b => p b < p a || (p a = p b && a ≤ b))

/-- A bitmap of slots. -/
def slotMap (xs : List Nat) : BitVec 32 := BitVec.ofNat 32 ((xs.map (2 ^ ·)).sum)

/-! ## Samples become final (R91 to R93, R147) -/

/-- 2 × a − b, saturated (R92). -/
def predictU (a b : BitVec 14) : BitVec 14 := BitVec.ofNat 14 (min 16383 (2 * a.toNat - b.toNat))
def predictS (a b : BitVec 14) : BitVec 14 := BitVec.ofInt 14 (satW 14 (2 * a.toInt - b.toInt))

/-- The predicted sample, where one can be made (R92). -/
def Slot.predict (k : Slot) : Option UpVals :=
  match k.xa, k.xb with
  | some a, some b => some { a with vmeas := predictU a.vmeas b.vmeas, imeas := predictS a.imeas b.imeas }
  | some a, none => some a
  | none, _ => none

/-- One active slot at the end of its retries. -/
def Slot.final (k : Slot) : Slot :=
  if k.up = .valid then { k with xb := k.xa, xa := some k.cur, validRun := k.validRun + 1 }
  else match k.predict with
    | some v => { k with up := .predicted, cur := v, xb := k.xa, xa := some v, validRun := 0, lost := k.lost + 1, dmiss := false }
    | none => { k with up := .held, cur := {}, xb := k.xa, xa := none, validRun := 0, lost := k.lost + 1, dmiss := false }

/-- Waits of handover that is due (Table 3.8, R130): counts, and STATE_READ requests that keep replies fresh. -/
def Live.dueWork (l : Live) (n : Nat) : Live :=
  l.forL (l.tiles.filter (fun t => (l.memberRings t).contains n)) fun l t =>
    let go := l.handDue t
    l.forL (l.members t) fun l p =>
      if p.2.ring ≠ n then l
      else if p.2.st = .matched && p.2.handed then l.modStn p.1 fun s => { s with dueFor := s.dueFor + 1 }
      else if go && l.memberDue p.2 then
        let l := l.modStn p.1 fun s => { s with dueFor := s.dueFor + 1 }
        if p.2.stateDuty.isNone || p.2.stateAt + 4 * l.period n ≤ l.now then l.stateRead p.1 0 else l
      else if p.2.st = .matched then l.modStn p.1 fun s => { s with dueFor := if l.memberDue s then s.dueFor else 0 } else l

/-- The inputs of the ring's tiles become final: predictions for what is lost, and the counts of silence. -/
def Live.upFinalize (l : Live) (n : Nat) : Live :=
  let g := l.ring n
  if g.upFinal || !g.inCourse then l
  else
    let xs := l.activeSlots n
    let lost := (xs.filter (fun s => (l.slot n s).up ≠ .valid)).length
    let l := l.ringCount n 2 lost
    let l := l.forL xs fun l s => l.modSlot n s Slot.final
    let ids := (xs.filterMap (l.slotStn n)).dedup
    let l := l.forL ids fun l i =>
      let heard : Bool := xs.any (fun s => l.slotStn n s = some i && (l.slot n s).up = .valid)
      l.modStn i fun s => { s with silentRun := if heard then 0 else s.silentRun + 1 }
    let allMiss : Bool := !xs.isEmpty && xs.all (fun s => (l.slot n s).up = .valid && (l.slot n s).dmiss)
    let l := l.modRing n fun g => { g with upFinal := true, dmissRun := if allMiss then g.dmissRun + 1 else 0 }
    (l.decFinal n).dueWork n

/-- UP_RETRY_RETURN (R91, R147): no sooner than the last up-retry is back. -/
def execUpRetryReturn (ring : Fin 8) (s : State) : Host.Outcome State Fault Refusal :=
  s.upd fun l => if (l.ring ring).st = .running && (l.ring ring).runCourse && l.finalAt ring ≤ l.linePos ring then l.upFinalize ring else l

/-! ## Up-bricks (R87, R93, R130, R137) -/

/-- A handed-over member's first up-brick with `BUOYST` 0: MOORED (R130). -/
def Live.moor_ (l : Live) (i : Nat) : Live :=
  let s := l.stn i
  let l := (l.stnTo i .moored).modStn i fun s => { s with everMoored := true, handed := false, alone := false, dueFor := 0 }
  let l := l.pointStart i
  match s.tile with
  | none => l
  | some t =>
    let l := match l.tileRail t with | some r => if s.alone then l else l.railMember r s.member | none => l
    match l.tileInput t with | some j => l.inputMoored j | none => l

/-- What a MOORED station's first brick gives the thermal unit, the gauge and the Power Path Manager; an `AUX` value that comes
with `DMISS` = 1 is discarded (R358). -/
def Live.brickUses (l : Live) (n i : Nat) (k : Slot) : Live :=
  let s := l.stn i
  if s.st ≠ .moored then l
  else
    let v := vScale s k.cur.vmeas / 1000000
    let c := iScale s k.cur.imeas / 1000000
    let l := l.modPoint i fun p => { p with sumV := p.sumV + v, sumI := p.sumI + c, nSamp := p.nSamp + 1 }
    let l := if k.auxSrc = 0 && !k.dmiss then l.auxReading i k.cur.aux else l
    match s.tile with
    | none => l
    | some t =>
      let l := match l.tileStr t with
        | some q => (if s.auxSource k.auxSrc.toNat = 5 && !k.dmiss then l.strAux q k.cur.aux else l).strSample q v c
        | none => l
      match l.tileInput t with
      | some j => l.inpBond j s k (l.perBond n ≤ 2 * (l.ring n).idx)
      | none => l

/-- A valid up-brick. -/
def Live.upValid (l : Live) (n s : Nat) (v : UpVals) : Live :=
  let k := l.slot n s
  let miss : Bool := v.dmissF && k.sentPrev
  let l := if miss then l.ringCount n 4 1 else l
  let l := l.modSlot n s fun k =>
    { k with up := .valid, cur := v, auxSrc := if v.dmissF then k.auxSrc else k.auxSent, dmiss := v.dmissF,
             lost := if miss then k.lost + 1 else 0, lossDone := miss && k.lossDone }
  match l.slotStn n s with
  | none => l
  | some i =>
    let q := l.stn i
    let l := l.modStn i fun q => { q with buoyst := v.buoyF, alarm := v.alarmF }
    let l := if v.alarmF then l.raise 0x2006 (oStn i) q.aux else l
    let l := if q.st = .matched && q.handed && !v.buoyF then l.moor_ i else l
    if s = q.slot then l.brickUses n i (l.slot n s) else l

/-- UP_BRICK_RECEIVED (R87): in the up window or an up-retry position of the course. -/
def execUpBrickReceived (ring : Fin 8) (slot : Fin 32) (brick : BitVec 64) (errs : List GroupErr) (s : State) : Host.Outcome State Fault Refusal :=
  s.upd fun l =>
    let n := ring.toNat
    let g := l.ring n
    let k := l.slot n slot
    let l := l.codeErr n errs
    if g.st ≠ .running || !g.inCourse || !g.runCourse || g.upFinal || !k.active || (l.slotRule n slot).isNone || k.up = .valid || l.linePos n < l.upAt n then l
    else if !errs.isEmpty || !upBrickOk brick slot g.num then l.modSlot n slot fun k => { k with up := .failed }
    else l.upValid n slot (upVals brick)

/-! ## The call brick (R87, R90) -/

/-- CALL_BRICK (R87), in its position. -/
def execCallBrick (ring : Fin 8) (s : State) : Host.Outcome State Fault Refusal :=
  s.upd fun l =>
    let n := ring.toNat
    let g := l.ring n
    if g.st ≠ .running || !g.inCourse || !g.runCourse || g.upFinal || g.called || g.retry = 0 || !l.lineIn n (l.callAt n) (l.retryAt n) then l
    else
      let bad := (l.activeSlots n).filter (fun s => (l.slot n s).up ≠ .valid)
      let l := l.forL bad fun l s => l.modSlot n s fun k => { k with up := .failed }
      let l := (l.modRing n fun g => { g with called := true, reqmap := slotMap bad }).ringCount n 1 bad.length
      let l := l.put48 n (l.callAt n) (callBrickOf (slotMap bad))
      l.putRun n (l.retryAt n) (((l.retryOrder n bad).take g.retry).map retryBrickOf)

/-! ## The down window (R70, R93, R125, R130, R145) -/

/-- A HOLD that repeats what the slot was sent last. -/
def Slot.hold (k : Slot) (en : Bool) : Down :=
  { hold := true, duty := if k.everDuty then k.lastDuty else 0, phase := if k.everDuty then k.lastPhase else 0, en := en }

/-- The `BUOY` = 1 brick of R93. -/
def Slot.buoyDown (k : Slot) : Down :=
  { duty := if k.everDuty then k.lastDuty else 0, phase := if k.everDuty then k.lastPhase else 0, en := k.everDuty && k.lastEn, buoy := true }

/-- The brick of an active slot whose station is MATCHED and not handed over (R125). -/
def matchedDown : Down := { en := true, buoy := true }

/-- Members that fire: those handed over in this course with ρ = 0, a joining member with the active ones, or the active
ones (R130, R212). -/
def Live.firing (l : Live) (t r m : Nat) : List Nat × Nat :=
  let k := l.tile t
  let hs := ((l.members t).filter (fun p => k.handing.contains p.1)).map (·.2.member)
  let acts := l.acts r
  let handed := ((l.members t).filter (fun p => p.2.handed || p.2.st = .moored)).map (·.2.member)
  if acts.isEmpty then ((if hs.isEmpty then handed else hs), 0)
  else if acts.contains m then (acts, (l.rail r).rho)
  else ((List.range 8).filter (fun x => acts.contains x || x = m), (l.rail r).rho)

/-- The brick that a handed-over or MOORED member receives, and whether it is a HOLD for want of a commit.  `o0` is its duty
where it is bound to the members (`DST` 0x1, Table 4.4); with another binding no duty reaches them, and they hold what they
were sent last (DEDUCED, log entry 85). -/
def Live.memberDown (l : Live) (n s t : Nat) (q : Stn) : Down × Bool :=
  let k := l.tile t
  let p := l.slot n s
  let held : Bool := !k.committed || bindCode (l.tOut t 0) ≠ 1
  let d : Down := match l.tileRail t with
    | some r =>
      let f := l.firing t r q.member
      let d := l.railDown r q.member f.1 f.2 held k.duty
      if held then { d with duty := (p.hold true).duty, phase := (p.hold true).phase } else d
    | none => if held then p.hold true else { duty := k.duty, en := true }
  (d, !k.committed)

/-- The duty that a POLICY tile's outputs give a slot: that of the output bound to it (`DST` 0x3), else of `o0` (R130, R145). -/
def Live.polDutyOf (l : Live) (t n s : Nat) : BitVec 14 :=
  let r := l.record_ t
  let port := ((List.range 4).find? (fun k => bindCode (recOut r k) = 3 && bindRing (recOut r k) = n && bindSlot (recOut r k) = s)).getD 0
  dutyOf r port (l.outp t port)

/-- What the down position of a slot carries (R125, R130, R145), whether it is a HOLD because of a discard or skip,
and whether the station is handed over with it. -/
def Live.downOf (l : Live) (n s : Nat) : Down × Bool × Bool :=
  let p := l.slot n s
  if !p.active then ({ hold := true, buoy := true }, false, false)
  else match l.slotStn n s with
    | none => (p.buoyDown, false, false)
    | some i =>
      let q := l.stn i
      let t := q.tile.getD 0
      let k := l.tile t
      if q.fwPark then ({ p.hold true with park := true }, false, false)
      else if !(q.st = .matched || q.st = .moored) then (p.buoyDown, false, false)
      else if p.buoyed && !(k.handing.contains i) then (p.buoyDown, false, false)
      else if l.tKind t = 4 then
        if q.st = .matched && !q.handed && !(k.handing.contains i && k.handover.isNone) then (matchedDown, false, false)
        else if k.handing.contains i then ({ duty := l.polDutyOf t n s, en := true }, false, true)
        else match (if l.engineReset then none else p.down) with
          | some d => (d, false, true)
          | none => (p.hold true, false, false)
      else if q.st = .matched && !q.handed then
        if k.handing.contains i && k.committed then ({ (l.memberDown n s t q).1 with hold := false }, false, true) else (matchedDown, false, false)
      else
        let d := l.memberDown n s t q
        (d.1, d.2 && k.st = .running && !l.engineReset, false)

/-- Send one slot's brick in its position of the down window. -/
def Live.sendDown (l : Live) (n s : Nat) (d : Down) : Live :=
  let num := (l.ring n).num
  let b := d.brick s num
  let at_ := l.downAt n + 24 * l.slotPos n s
  (l.modSlot n s fun k =>
    let k := { k with sent := b, sentNow := true, auxSent := d.auxsel }
    if d.hold then k else { k with everDuty := k.active, lastDuty := d.duty, lastPhase := d.phase, lastEn := d.en }).put48 n at_ b

/-- The down window may carry bricks (R62, R101, R388). -/
def Live.mayDown (l : Live) (n : Nat) : Bool :=
  (l.ring n).st = .running && l.keeper.live && !l.fc.safe && !((l.ring n).hdr.getLsbD 21)

/-- `AUXSEL` of each station for the course, taken once (R362). -/
def Live.auxWork (l : Live) (n : Nat) (ids : List Nat) : Live :=
  l.forL ids fun l i => let a := l.auxselOf i (l.ring n).idx
                        l.modPoint i fun p => if p.run then { p with auxStep := a.2 } else p

/-- The reactions that change the bricks of this down window, or of the course whose header carries RELEASE, are reported with its
number (R46): ISOLATE of what has a slot on the ring, a reset of the Loop Engine, and SAFE. -/
def Live.brickReport (l : Live) (n : Nat) (release : Bool) : Live :=
  let hits (o : Occ) : Bool :=
    o.stands && !o.conseq && o.brick.isNone &&
      (if release then o.cls = .safe
       else (o.cls = .isolate && (l.isolateRings o.d).contains n) || (o.cls = .reset && o.d.code.toNat / 4096 = 3 && l.engineReset))
  l.modFc fun f => { f with table := f.table.map (fun o => if hits o then { o with brick := some (n, (l.ring n).num) } else o) }

/-- DOWN_WINDOW (R75): each slot's brick in ascending slot order, and the CHECK brick.  The bricks are settled in one step,
at the position of the window's last brick (log entry 77). -/
def execDownWindow (ring : Fin 8) (s : State) : Host.Outcome State Fault Refusal :=
  s.upd fun l =>
    let n := ring.toNat
    if (l.ring n).st ≠ .running || !(l.ring n).inCourse || !(l.ring n).runCourse || (l.ring n).downSent ||
      !l.lineIn n (l.downAt n + 24 * ((l.ring n).pairs - 1)) (l.checkAt n + 24) then l
    else
      let l := l.upFinalize n
      let l := l.forL (l.railNums.filter (fun r => l.railRing r = some n)) Live.railWork
      let l := l.brickReport n false
      let l := if !l.mayDown n then l
        else
          let xs := l.ringSlots n
          let ids := (xs.filterMap (l.slotStn n)).dedup
          let sel := ids.map (fun i => (i, (l.auxselOf i (l.ring n).idx).1))
          let ds := xs.map (fun s => (s, l.downOf n s))
          let l := l.forL ds fun l x =>
            let a : Nat := match l.slotStn n x.1 with | some i => ((sel.find? (fun p => p.1 = i)).map (·.2)).getD 0 | none => 0
            let l := l.sendDown n x.1 { x.2.1 with auxsel := BitVec.ofNat 2 a }
            let l := if x.2.2.1 then l.count 2 else l
            if x.2.2.2 then
              match l.slotStn n x.1 with
              | some i => (l.modSlot n x.1 fun k => { k with buoyed := false }).modStn i fun s =>
                  { s with handed := s.handed || s.st = .matched, alone := s.alone || (s.st = .matched && (l.tile (s.tile.getD 0)).alone) }
              | none => l
            else l
          l.auxWork n ids
      let l := if 0 < (l.ring n).retry then l.put48 n (l.checkAt n) checkBrickOf else l
      l.modRing n fun g => { g with downSent := true }

/-! ## The check brick (R89, R90) -/

/-- CHECK_BRICK_RECEIVED (R89): what is marked is sent again where a down window may carry bricks at all (R62, R101).  A failed
CHECK is counted beside its code errors (Table 2.20). -/
def execCheckBrickReceived (ring : Fin 8) (brick : BitVec 48) (errs : List GroupErr) (s : State) : Host.Outcome State Fault Refusal :=
  s.upd fun l =>
    let n := ring.toNat
    let g := l.ring n
    let l := l.codeErr n errs
    if g.st ≠ .running || !g.inCourse || !g.runCourse || !g.downSent || g.retry = 0 || g.checked || !l.lineIn n (l.checkAt n + 24) (l.dretryAt n + 5) then l
    else
      let l := l.modRing n fun g => { g with checked := true }
      if !errs.isEmpty || !ok48 brick || nbits brick.toNat 47 44 ≠ 7 then l.ringCount n 5 1
      else
        let m : BitVec 32 := BitVec.ofNat 32 (nbits brick.toNat 39 8)
        let xs := (l.activeSlots n).filter (fun s => m.getLsbD s && (l.slot n s).sentNow)
        let l := (l.modRing n fun g => { g with failmap := m }).ringCount n 3 xs.length
        if !l.mayDown n then l
        else l.putRun48 n (l.dretryAt n) (((l.retryOrder n xs).take g.retry).map fun s => (l.slot n s).sent)

/-! ## Course start (R45, R57, R58, R61, R198, R199, R279, R320, R521) -/

/-- Clear a tile's repetitive-control table (R199). -/
def Live.rcClear (l : Live) (t : Nat) : Live :=
  let r := l.record_ t
  let l := l.modLoop fun e => { e with rcPool := e.rcPool.filter (fun p => !(recRcBase r ≤ p.1 && p.1 < recRcBase r + recRcLen r)) }
  l.modTile t fun k => { k with rcCleared := true, rcLocked := false, rcDue := false }

/-- A tile's phase at a course start of its ring (R198, R199). -/
def Live.rcCourse (l : Live) (t n idx : Nat) : Live :=
  let r := l.record_ t
  let l := l.modTile t fun k => { k with rcCleared := false }
  if !recRcen r then l
  else
    let due := (l.tile t).rcDue
    let l := if due then l.rcClear t else l
    if recRcper r ≠ 0 then
      l.modTile t fun k => { k with rcM := recRcper r, rcK := (l.bond * l.perBond n + idx) % recRcper r, rcLocked := true }
    else
      let k := l.tile t
      if (l.vp (recRcsync r)).syncs.contains n then
        let l := l.modTile t fun k => { k with rcK := 0, rcCount := some 0 }
        match k.rcCount with
        | none => l
        | some c =>
          let m := c + 1
          let l := l.modTile t fun k => { k with rcLast := some m }
          (match k.rcLast with
           | none => l
           | some p => if p ≠ m then l.rcClear t
                       else if m ≤ recRcLen r then l.modTile t fun k => { k with rcM := m, rcLocked := true } else l)
      else
        let l := l.modTile t fun k => { k with rcK := k.rcK + 1, rcCount := k.rcCount.map (· + 1) }
        if (l.tile t).rcK = recRcLen r then l.rcClear t else l

/-- One signal of a capture point (R521). -/
def Live.capSignal (l : Live) (b : Nat) : Half :=
  match bindCode b with
  | 1 =>
    let v := (l.slot (bindRing b) (bindSlot b)).cur
    (match bindField b with
     | 0 => v.vmeas.setWidth 16 | 1 => v.imeas.setWidth 16 | 2 => v.aux.setWidth 16 | _ => v.flags.setWidth 16)
  | 2 => tget 0 l.adc.codes (b % 16)
  | 3 => (l.outp (bindTile b) (b % 4) >>> 8).setWidth 16
  | _ => 0

/-- Capture points of the slots that sample this ring. -/
def Live.capCourse (l : Live) (n : Nat) : Live :=
  l.each 4 fun l c =>
    let o := 0xB200 + c
    if l.cb o 0 31 && l.cf o 2 23 21 = n then
      l.capPoint c [l.capSignal (l.cf o 3 31 16), l.capSignal (l.cf o 3 15 0), l.capSignal (l.cf o 4 31 16), l.capSignal (l.cf o 4 15 0)]
    else l

/-- `LEASE_LEFT` of a course that starts now (R407). -/
def Live.leaseLeft (l : Live) : Nat := if l.keeper.live && l.now - l.keeper.hboutAt ≤ 20000 then min 255 l.tlease else 0

/-- A slot at a course start: what the last course left is history. -/
def Slot.begin (k : Slot) : Slot :=
  { k with up := .waiting, sentPrev := k.sentNow, sentNow := false, dmiss := false, sent := 0,
           down := k.polDuty.map (fun d => { duty := d, en := true }), polDuty := none }

/-- The REPLY_SLOT that offers a station its reply (Table 2.16, R114). -/
def Stn.replySlot (s : Stn) : BitVec 64 :=
  match s.req with
  | some q => mgmtBrickOf q.slot.toNat q.hopaddr s.mseq.toNat 0 0 (if q.hopaddr then s.hop else 0)
  | none => 0

/-- Stations of a ring that wait for a reply, the longest without an offer first (R115). -/
def Live.offers (l : Live) (n : Nat) : List (Nat × Stn) :=
  (l.stns.filter (fun p => p.2.ring = n && p.2.req.isSome && !p.2.reqDefer && p.2.reqAt + 400 ≤ l.now)).mergeSort
    (fun a b => max a.2.offerAt a.2.reqAt ≤ max b.2.offerAt b.2.reqAt)

/-- An offer that may not wait for the next course: 20 000 ticks would have passed without one (R115). -/
def Live.offerDue (l : Live) (n : Nat) (s : Stn) : Bool := max s.offerAt s.reqAt + 20000 < l.now + 2 * l.period n

/-- The reply slots that are due, the requests, and the other reply slots, as they fit in the tail from a position (R82, R115).
DESIGN CHOICE: this order (log entry 77). -/
def Live.tailWork (l : Live) (n at_ room : Nat) : Live :=
  let os := l.offers n
  let due := (os.filter (fun p => l.offerDue n p.2)).take room
  let qs := (l.ring n).mgmtq.take (room - due.length)
  let rest := (os.filter (fun p => !l.offerDue n p.2)).take (room - due.length - qs.length)
  let l := l.putRun n at_ (due.map (·.2.replySlot) ++ qs ++ rest.map (·.2.replySlot))
  let l := l.modRing n fun g => { g with mgmtq := g.mgmtq.drop qs.length }
  l.forL (due ++ rest) fun l p => l.modStn p.1 fun s => { s with offerAt := l.now }

/-- The keeper still claims on a ring: a station it has identified there last reported another epoch or side (R417). -/
def Live.claimRing (l : Live) (n : Nat) : Bool :=
  l.keeper.live && l.keeper.st = .keeper && l.stns.any (fun p => p.2.ring = n && p.2.known && l.leaseOther p.2)

/-- The header of a course that starts now, and the ring's record of it. -/
def Live.sendHeader (l : Live) (n idx : Nat) : Live :=
  let g := l.ring n
  let k := l.keeper
  let num := l.bond * l.perBond n + idx
  let run : Bool := g.st = .running
  let rel : Bool := k.releaseRings.contains n && run
  let flags := (if idx = 0 then 128 else 0) + (if idx = 0 && g.commit then 64 else 0) + (if rel then 32 else 0) +
    (if (k.st = .claiming && k.live) || l.claimRing n then 16 else 0) + (if run && 1 ≤ g.retry then 8 else 0) +
    (if idx = 0 && run && l.dslots n ≠ 0 then 4 else 0)
  let h := headerOf num k.epoch.toNat l.leaseLeft flags
  let l := l.modRing n fun g =>
    let g := g.rangeEnd
    { g with runCourse := run, rangeGot := false, inCourse := true, idx := idx, num := BitVec.ofNat 16 num, hdr := h, commit := g.commit && idx ≠ 0, reqmap := 0, failmap := 0,
             called := false, upFinal := !run, downSent := false, checked := false, line := [{ at_ := 4, bits := 64, data := h }] }
  l.modK fun k => if rel then { k with releaseRings := k.releaseRings.filter (· ≠ n), releasing := if k.coldAfter = 0 then [] else n :: k.releasing } else k

/-- Everything behind the header that is known at the course start: the up window and the tail (R81, R82).  A ranging course
carries its RANGE_COUNT first in the tail (Table 2.17); an OVERBOOKED ring keeps its MGMT traffic. -/
def Live.fillCourse (l : Live) (n idx : Nat) : Live :=
  let g := l.ring n
  let room := l.tailRoom n
  let at_ := l.tailAt n
  if g.st = .ranging then (l.put64 n at_ (rangeBrick 1 0)).tailWork n (at_ + 32) (room - 1)
  else
    let l := if g.runCourse then l.putRun n (l.upAt n) ((l.ringSlots n).map idleBrickOf) else l
    let d := if idx = 0 && g.runCourse then min (l.dslots n) room else 0
    let l := l.putRun n at_ (List.replicate d (idleBrickOf 0))
    l.tailWork n (at_ + 32 * d) (room - d)

/-- A ring's course start. -/
def Live.courseStart (l : Live) (n : Nat) : Live :=
  let old := (l.ring n).start
  let idx := (l.now - l.bondAt) / l.period n
  let l := if (l.ring n).st = .running then l.upFinalize n else l
  let l := l.capCourse n
  let mine := (l.tiles.filter (fun t => l.courseTile t && l.tileRing t = some n))
  let l := l.forL (mine.filterMap l.tileStr) fun l k => if (l.ring n).inCourse then l.strCourse k (l.period n) old else l
  let l := if (l.ring n).lband < min l.loop.eband 4 && (l.ring n).st = .running then l.relayout n false else l
  let l := if 4 ≤ l.therm.dband then l.modLoop fun e => { e with decact := true } else l
  let rel : Bool := l.keeper.releaseRings.contains n && (l.ring n).st = .running
  let l := (l.modRing n fun g => { g with start := l.now }).sendHeader n idx
  let l := if rel then l.brickReport n true else l
  let l := l.ringCount n 0 1
  let l := l.forL (List.range 32) fun l s => if (l.slotRule n s).isSome then l.modSlot n s Slot.begin else l
  let l := l.forL mine fun l t =>
    (l.modTile t fun k => { k with committed := false, discarded := false, decNow := false, decWait := false, handover := none, handing := [], alone := false }).rcCourse t n idx
  let l := l.forL (l.tiles.filter (fun t => l.tKind t = 4 && (l.memberRings t).contains n)) fun l t =>
    l.modTile t fun k => { k with handing := [], handover := none, alone := false }
  let l := l.forL (mine.filterMap l.tileInput) fun l j => l.inputCourse j
  let rs := mine.filterMap l.tileRail
  let l := if l.fc.safe then l else l.forL rs fun l r => l.railCourseStart r idx
  let l := l.takeLatch n
  let l := if l.fc.safe then l else l.forL rs fun l r => l.vcTake r
  let l := l.each 16 fun l p => if (l.vp p).syncs.contains n then l.modVp p fun v => { v with syncs := v.syncs.filter (· ≠ n) } else l
  l.fillCourse n idx

/-- A course of the ring starts now (R57, R99). -/
def Live.courseDue (l : Live) (n : Nat) : Bool :=
  let g := l.ring n
  let per := l.period n
  l.working && l.dom 3 && l.courseRing n && per ≠ 0 &&
    l.bondAt ≤ l.now && l.now < l.bondAt + bondTicks && (l.now - l.bondAt) % per = 0 &&
    !(g.inCourse && g.start = l.now) && (g.st ≠ .ranging || g.since ≤ l.bondAt)

/-- COURSE_START (R45). -/
def execCourseStart (ring : Fin 8) (s : State) : Host.Outcome State Fault Refusal :=
  s.upd fun l =>
    if l.courseDue ring then
      let l := l.releaseEnded ring
      if l.working then l.courseStart ring else l
    else l

end Sys2Proof.Machine
end

