-- ==== Sys2Proof/Machine/Faults.lean ====
section
/-! DEFINITION. The Fault Collector: routing, reactions, shadow windows, clearing and the fault log (chapter
"Fault collector"). -/
namespace Sys2Proof.Machine

/-! ## Codes, classes and blocks (R375, R376, R382, R395) -/

/-- The default class of a code, from its defining table; none for a code no table lists. -/
def defaultCls (c : Nat) : Option Cls :=
  if 0x3100 ≤ c && c ≤ 0x31FF then some .alert
  else if [0x2001, 0x2006, 0x4003, 0x5004, 0x6001, 0x6003, 0x7002, 0x7004, 0x7005, 0x7008, 0x7009, 0x8003, 0x9006, 0xB007,
           0xD010, 0xD013, 0xD014, 0xE004, 0xC003, 0xC008, 0xC009].contains c then some .log
  else if [0x3001, 0x4006, 0x4007].contains c then some .derate
  else if [0x1001, 0x1002, 0x2007, 0x3002, 0x3003, 0x3006, 0x8004].contains c then some .isolate
  else if [0x1006, 0x3004, 0x3007, 0x8007, 0xD015, 0xE001, 0xF001].contains c then some .reset
  else if [0x0001, 0x0002, 0x0003, 0x8002, 0x9001, 0x9002, 0x9003, 0x9005, 0xD001, 0xD002, 0xC00A].contains c then some .safe
  else if (0x1003 ≤ c && c ≤ 0x1007) || (0x2002 ≤ c && c ≤ 0x2008) || c = 0x3005 || (0x4001 ≤ c && c ≤ 0x400A) ||
      (0x5001 ≤ c && c ≤ 0x5003) || (0x6002 ≤ c && c ≤ 0x600B) || (0x7001 ≤ c && c ≤ 0x700A) ||
      [0x0004, 0x8001, 0x8005, 0x8006, 0x9004, 0xF002].contains c || (0xA001 ≤ c && c ≤ 0xA00B) || (0xB001 ≤ c && c ≤ 0xB006) ||
      [0xC001, 0xC002, 0xC004, 0xC005, 0xC006, 0xC007, 0xD011, 0xD012, 0xE002, 0xE003, 0xE005].contains c then some .alert
  else none

/-- Codes whose class is fixed (Table 11.3). -/
def fixedCode (c : Nat) : Bool := c = 0x0001 || (0x9001 ≤ c && c ≤ 0x9006)

/-- A class from its code (Table 11.4). -/
def clsOf : Nat → Option Cls
  | 0 => some .log | 1 => some .alert | 2 => some .derate | 3 => some .isolate | 4 => some .reset | 5 => some .safe | _ => none

/-- The class a code is routed to (R382). -/
def Live.routeOf (l : Live) (c : Nat) : Option Cls :=
  match defaultCls c with
  | none => none
  | some d => if fixedCode c then some d else match tfind l.img.cur.routes c with | some k => some ((clsOf k).getD d) | none => some d

/-- The subsystem of a code. -/
def subOf (c : Nat) : Nat := c / 4096

/-- The block a code belongs to (Table 11.8, R102, R510). -/
def blockOf (d : Detail) : Option Nat :=
  let c := d.code.toNat
  match subOf c with
  | 1 => some (if d.obj.toNat / 4096 = 1 then d.obj.toNat % 8 else d.aux.toNat % 8)
  | 3 => some 8
  | 8 => some 9
  | 0xF => some 10
  | 0xE => some 11
  | 0xD => if 0xD010 ≤ c then (match d.aux.toNat with | 0 => some 14 | 1 => some 15 | 2 => some 12 | 3 => some 13 | _ => none) else none
  | _ => none

/-- A window's length in ticks, and its dependents (Table 11.8, Table 11.9). -/
def Live.shw (l : Live) (b : Nat) : Nat :=
  2000 * (if l.given 0x9FFF (2 * b + 8) then l.cf 0x9FFF (2 * b + 8) 31 22
          else if b < 8 then 500 else if b = 8 || b = 9 || b = 11 then 100 else 10)
def Live.depb (l : Live) (b : Nat) : Nat :=
  if l.given 0x9FFF (2 * b + 8) then l.cf 0x9FFF (2 * b + 8) 21 6 else if b = 10 then 2 ^ 9 else 0
def Live.deps (l : Live) (b : Nat) : Nat :=
  if l.given 0x9FFF (2 * b + 9) then l.cf 0x9FFF (2 * b + 9) 31 16
  else if b < 8 then 0x1FC else match b with | 8 => 0xF0 | 9 => 0x50 | 10 => 0xC0 | 12 => 0x180 | 13 => 0x180 | _ => 0
def Live.rstmax (l : Live) : Nat := if l.given 0x9FFF 3 then l.cf 0x9FFF 3 23 20 else 3

/-! ## Shadow windows (R49, R390, R392) -/

/-- The rings that carry an object's slots, members or station. -/
def Live.objRings (l : Live) (obj : Nat) : List Nat :=
  if 0x1000 ≤ obj && obj < 0x1008 then [obj - 0x1000]
  else if 0x2000 ≤ obj && obj < 0x2100 then (if (l.stn (obj - 0x2000)).st = .unseen then [] else [(l.stn (obj - 0x2000)).ring])
  else if 0x5000 ≤ obj && obj < 0x5010 then
    ((List.range 4).filterMap (l.portRail (obj - 0x5000))).flatMap (fun r => l.memberRings (l.railTile r))
  else if 0x8000 ≤ obj && obj < 0x8100 then (if (l.stn (obj - 0x8000)).st = .unseen then [] else [(l.stn (obj - 0x8000)).ring])
  else match l.derateTile obj with | some t => l.memberRings t | none => []

/-- An occurrence names ring `n` (R390). -/
def Live.namesRing (l : Live) (d : Detail) (n : Nat) : Bool :=
  (l.objRings d.obj.toNat).contains n || (subOf d.code.toNat = 2 && d.aux.toNat / 256 = n)

/-- The occurrence arises from the new configuration (R49). -/
def Live.arisesNew (l : Live) (d : Detail) : Bool :=
  let obj := d.obj.toNat
  let rs := l.objRings obj
  l.fc.changed.contains obj &&
    (if rs.isEmpty then l.now < l.fc.changedAt + bondTicks else rs.any (fun n => l.now < l.fc.changedAt + l.period n))

/-- A block's window is open. -/
def Live.winOpen (l : Live) (b : Nat) : Bool := (l.block b).closeAt.isSome

/-- The open window that makes an occurrence consequential (R390, R392). -/
def Live.windowOf (l : Live) (d : Detail) : Option Nat :=
  let own := blockOf d
  let s := subOf d.code.toNat
  if l.arisesNew d then none
  else (List.range 16).find? (fun b => l.winOpen b &&
    (own = some b || (match own with | some y => (l.depb b).testBit y | none => false) ||
     ((l.deps b).testBit s && s ≠ 0 && s ≠ 9 && s ≠ 0xC && (8 ≤ b || l.namesRing d b))))

/-! ## Reactions (Table 11.4, Table 11.5, Table 11.8) -/

/-- A tile is removed: it is suspended, and, where it runs a bus converter, so is every tile whose converters stand under that
bus (Table 1.8). -/
def Live.removeTile (l : Live) (t : Nat) : Live :=
  let under := l.tiles.filter (l.underBus t)
  l.forL (t :: under) fun l t => l.suspendTile t

/-- ISOLATE on the object an occurrence names (Table 11.5); a VC port is held off by the occurrence itself. -/
def Live.isolate (l : Live) (d : Detail) : Live :=
  let obj := d.obj.toNat
  if 0x2000 ≤ obj && obj < 0x2100 then
    let i := obj - 0x2000
    let s := l.stn i
    match s.st with
    | .unseen => l | .sighted => l | .barred => l
    | _ =>
      let l := ((l.buoyStn s).stnBar i .isolated (some d.code.toNat)).modStn i Stn.unbind
      match s.tile with
      | some t => if l.tKind t = 3 && l.courseTile t then l.forL (l.tiles.filter (l.underBus t)) fun l t => l.suspendTile t else l
      | none => l
  else if 0x1000 ≤ obj && obj < 0x1008 then l.forL (l.ringTiles (obj - 0x1000)) fun l t => l.suspendTile t
  else if obj = 0x3FFF then
    l.forL ((l.tiles.filter (fun t => l.courseTile t && (l.lane d.aux.toNat).sched.any (fun e => e.1 = t)))) fun l t => l.suspendTile t
  else match l.derateTile obj with | some t => l.removeTile t | none => l

/-- An initiator transfer failed: its asker is told (R318, R355). -/
def Live.askerFail (l : Live) (a : Asker) : Live :=
  match a with
  | .gauge k => l.packDone k none
  | .air i => l.airDone i none
  | .firmware _ => l

/-- The Loop Engine stops its lanes; schedules and library are reloaded, every tile sets REBASE pending, and down-bricks
go out as HOLD (Table 11.8). -/
def Live.engineStop (l : Live) : Live :=
  let l := l.each 8 fun l n => l.modLane n fun k => { k with ev := none }
  let l := l.forL l.tiles fun l t => l.modTile t fun k => { k with rebase := true, committed := false }
  l.modLoop fun e => { e with polQueue := [], polLate := [] }

/-- The reset action of a block (Table 11.8); what a ring's last ranging measured stands until it ranges anew (R78). -/
def Live.resetAction (l : Live) (b : Nat) : Live :=
  if b < 8 then
    if (l.ring b).st = .off && l.period b = 0 then l
    else
      let l := (l.ringTo b .off).modRing b fun k =>
        { since := l.now, ranged := k.ranged, hops := k.hops, acc := k.acc, dmeas := k.dmeas, linkBad := k.linkBad, commit := k.commit }
      let l := l.each 32 fun l s => l.modSlot b s fun _ => {}
      l.ringTrain b
  else match b with
    | 8 => l.engineStop
    | 9 =>
      l.each 288 fun l p =>
        if (l.point p).run then l.modPoint p fun _ => { run := true, fresh := true, band := 4, theta := 128, lastAt := l.now, period := pointPeriod 4 } else l
    | 10 => { l with adc := { l.adc with refDue := true, refOk := false, runs := [], raised := [], next := 0 } }
    | 11 => l.recReset
    | 12 | 13 =>
      let p := b - 12
      let l := match (l.pi p).active with | some a => l.askerFail a | none => l
      l.modPi p fun k => { k with active := none, xfer := none, recovering := true, recoverAt := l.now }
    | 14 => l.tornNow 0
    | 15 => l.tornNow 1
    | _ => l

/-- The reset of a ring changes the bricks of the course under way, which its framer does not send any more (R46). -/
def Live.brickReset (l : Live) (b : Nat) : Live :=
  if b < 8 && (l.ring b).runCourse then
    l.modFc fun f => { f with table := f.table.map (fun o => if o.cls = .reset && !o.conseq && o.stands && o.brick.isNone && blockOf o.d = some b then { o with brick := some (b, (l.ring b).num) } else o) }
  else l

/-- A RESET reaction that takes place (R390): the window opens, and the block is reset. -/
def Live.blockReset (l : Live) (b : Nat) : Live :=
  let l := l.brickReset b
  let l := (l.modBlock b fun k => { closeAt := some (l.now + l.shw b), back := false, resets := (l.bond :: k.resets).filter (fun x => l.bond < x + 1000) }).count 93
  l.resetAction b

/-! ## Taking an occurrence (R372 to R374, R377, R389) -/

/-- Entries of the table in use, but for the one reserved for `FC_TABLE_FULL` (R374). -/
def Live.tableUsed (l : Live) : Nat := (l.fc.table.filter (fun o => o.stands && o.d.code ≠ 0x9004)).length

/-- The occurrence that a raise repeats (R373). -/
def Occ.same (o : Occ) (d : Detail) : Bool := o.stands && o.d.code = d.code && o.d.obj = d.obj

/-- A raise absorbed by an occurrence that stands (R373). -/
def Live.absorb (l : Live) (d : Detail) (cond : Bool) : Live :=
  (l.modFc fun f => { f with table := f.table.map (fun o =>
      if o.same d then { o with nrep := min 255 (o.nrep + 1), newNow := true, cond := cond } else o) }).count 94

/-- The collector's own fault. -/
def Live.ownDetail (l : Live) (code aux : Nat) : Detail :=
  { code := BitVec.ofNat 16 code, obj := 0x9FFF, aux := BitVec.ofNat 16 aux, tick := l.tick }

/-- Record a new occurrence, when an entry is free (R374). -/
def Live.recordOcc (l : Live) (o : Occ) : Live :=
  if o.d.code = 0x9004 || l.tableUsed < 63 then l.modFc fun f => { f with table := f.table ++ [o] }
  else (l.modFc fun f => { f with lost := f.lost ++ [o] }).count 95

/-- Take an occurrence: count, record, react.  `fresh` is an occurrence raised at the close of a window, which is
ordinary (R391).  The number bounds the collector's own faults that follow from it. -/
def Live.takeOcc : Nat → Live → Detail → Bool → Bool → Bool → Live
  | 0, l, _, _, _, _ => l
  | n + 1, l, d, wire, cond, fresh =>
    match l.routeOf d.code.toNat with
    | none => l
    | some cls =>
      if l.fc.table.any (fun o => o.same d) then l.absorb d cond
      else
        let win := if fresh then none else l.windowOf d
        let l := l.count 88
        let l := if wire then l.count 89 else l
        let l := if win.isSome then l.count 90 else l
        let full : Bool := d.code ≠ 0x9004 && 63 ≤ l.tableUsed
        let l := l.recordOcc { d := d, cls := cls, wire := wire, conseq := win.isSome, cond := cond, window := win.getD 0 }
        let l := (l.capOccurrence d.code cls).traceOccurrence d.code
        let l :=
          if win.isSome || l.fc.safe || cls = .log then l
          else
            let l := l.hostEvent 1 d.code.toNat d.obj.toNat d.aux.toNat
            match cls with
            | .isolate => l.isolate d
            | .safe => l.safeLatch d.code.toNat d.obj.toNat
            | .reset =>
              (match blockOf d with
               | none => l
               | some b =>
                 if l.rstmax ≤ ((l.block b).resets.filter (fun x => l.bond < x + 1000)).length then
                   Live.takeOcc n l (l.ownDetail 0x9005 b) false true true
                 else l.blockReset b)
            | _ => l
        if full && !l.fc.full then
          Live.takeOcc n (l.modFc fun f => { f with full := true }) (l.ownDetail 0x9004 0) false true true
        else l

/-- Take a detail. -/
def Live.take (l : Live) (d : Detail) : Live := Live.takeOcc 4 l d false true false

/-- The instance number of a detail's object. -/
def Detail.inst (d : Detail) : Nat := d.obj.toNat % 4096
/-- Of details with one tick stamp, this one is taken before that (R32, R396): by subsystem, then by instance. -/
def Detail.before (a b : Detail) : Bool := subOf a.code.toNat < subOf b.code.toNat || (subOf a.code.toNat = subOf b.code.toNat && a.inst ≤ b.inst)
/-- The details in the order in which they are taken: by arrival, those of one tick by R32. -/
def Live.ordered (l : Live) : List Detail := l.fc.details.mergeSort fun a b => a.tick < b.tick || (a.tick = b.tick && a.before b)

/-- OCCURRENCE_TAKEN (R372): the oldest detail that has arrived, or one from a source that the model does not work; that of an
uncorrected error, which any read of the memory may meet, with its effect (R39). -/
def execOccurrenceTaken (d : Option FaultArg) (s : State) : Host.Outcome State Fault Refusal :=
  s.upd fun l =>
    if !l.dom 1 then l
    else match d with
      | some a => if eccCodes.contains a.code.toNat && !l.eccHere a then l
                  else (if eccCodes.contains a.code.toNat then l.eccEffect a else l).take { code := a.code, obj := a.obj, aux := a.aux, val := a.val, tick := l.tick }
      | none => match l.ordered with
        | [] => l
        | x :: xs => (l.modFc fun f => { f with details := xs }).take x

/-- The domain that holds a source (Table 1.1, Table 1.2). -/
def srcDomain (c : Nat) : Nat :=
  match subOf c with
  | 1 => 3 | 2 => 3 | 3 => 2 | 4 => 2 | 5 => 2 | 6 => 2 | 7 => 2 | 8 => 4 | 9 => 1 | 0xB => 1 | 0xC => 7 | 0xD => 1 | 0xE => 6 | 0xF => 4 | _ => 0

/-- WIRE_FAULT (R371, R372): an occurrence of the source's code against the block instance that holds it.  A domain that
is off raises none (R36). -/
def execWireFault (code obj aux : Half) (reads : PairFault) (s : State) : Host.Outcome State Fault Refusal :=
  s.upd fun l =>
    if !l.dom 1 || !l.dom (srcDomain code.toNat) then l
    else
      let l := if code = 0x9003 then l.modFc fun f => { f with outWire := decide (reads = .invalid) } else l
      l.takeOcc 4 { code := code, obj := obj, aux := aux, tick := l.tick } true (reads ≠ .absent) false

/-! ## Lasting conditions (R384, R621, Table 11.7) -/

/-- The channels that the image in force binds, ascending: `VBADC`, `ILADC`, tile inputs, points and capture signals. -/
def Live.adcBound (l : Live) : List Nat :=
  (List.range 16).filter (fun c =>
    (l.given 0x6FFF 9 && (c = l.vbadc || (l.ilen && c = l.iladc))) ||
      l.tiles.any (fun t => (List.range 8).any (fun i => bindCode (l.tIn t i) = 2 && l.tIn t i % 16 = c)) ||
      (List.range 32).any (fun j => l.cf (oPoint (256 + j)) 4 31 30 ≠ 0 && l.cb (oPoint (256 + j)) 4 11 && l.cf (oPoint (256 + j)) 4 15 12 = c) ||
      (List.range 4).any (fun k => l.cb (0xB200 + k) 0 31 && (List.range 4).any (fun i =>
        let b := l.cf (0xB200 + k) (3 + i / 2) (31 - 16 * (i % 2)) (16 - 16 * (i % 2))
        bindCode b = 2 && b % 16 = c)))

/-- The lasting condition of an occurrence; none for an event fault. -/
def Live.lasting (l : Live) (d : Detail) : Option Bool :=
  let o := d.obj.toNat
  let a := d.aux.toNat
  let i := o % 4096
  match d.code.toNat with
  | 0x0001 => some l.pwr.refLoss
  | 0x0002 => some (l.fc.domLost.contains a)
  | 0x0003 => some (l.fc.vlow.contains a)
  | 0x0004 => some l.fc.ilim
  | 0x9003 => some l.fc.outWire
  | 0x9004 => some (63 ≤ l.tableUsed)
  | 0xF002 => some (l.adcBound.any (fun c => 16 ≤ tget 0 l.adc.runs c))
  | 0x1002 => some ((l.ring i).st ≠ .running)
  | 0x1003 => some ((l.ring i).st ≠ .running)
  | 0x1004 => some ((l.ring i).st ≠ .running)
  | 0x1005 => some ((l.ring i).st = .overbooked)
  | 0x1007 => some (l.ring i).linkBad
  | 0x2006 => some (l.stn i).alarm
  | 0x3001 => some (2 ≤ (l.tile i).ovr)
  | 0x4001 => some (l.overV i)
  | 0x4002 => some ((l.rail i).st = .on && !l.aboveUv i)
  | 0x4003 => some ((l.rail i).st = .foldback)
  | 0x4005 => some ((l.rail i).st = .latched)
  | 0x4006 => some (l.mem i a).removed
  | 0x4007 => some (l.mem i a).senseF
  | 0x4008 => some (l.senseLost i)
  | 0x4009 => some (l.rots i).isEmpty
  | 0x5001 => some (l.capLevel i < (l.vr i).ack)
  | 0x5002 => some (match (l.vr a).outst with | some c => c.failed | none => false)
  | 0x6001 => some ((l.inp i).st = .guarded)
  | 0x6003 => some ((l.inp i).st = .dark)
  | 0x6005 => some (l.pp.st = .capping || l.pp.st = .shedding)
  | 0x6008 => some (l.pp.st = .feedlost)
  | 0x6009 => some (l.pp.st = .holdup)
  | 0x600B => some l.pp.final
  | 0x7003 => some (l.str i).stale
  | 0x7004 => some (l.str i).chginh
  | 0x7009 => some (l.str i).uncert
  | 0x700A => some (l.str i).pkFailed
  | 0x8001 => some (4 ≤ l.therm.dband)
  | 0x8002 => some (l.therm.dband = 5)
  | 0x8003 => some ((l.point i).theta < 256)
  | 0x8004 => some (l.point i).hot
  | 0x8005 => some (if o = 0x8FFF then l.therm.die.any (fun p => p.2.bad) else (l.point i).broken && (l.point i).okRun < 64)
  | 0x8006 => some (tget {} l.therm.air a).broken
  | 0xA002 => some (l.keeper.silence && l.keeper.mateLease)
  | 0xA003 => some (match l.keeper.mateAt with | some t => t + 10 * bondTicks ≤ l.now | none => true)
  | 0xA008 => some l.keeper.incompat
  | 0xB001 => some l.img.slot.isNone
  | 0xB006 => some (l.mport a).lockEnd.isSome
  | 0xD012 => some (l.pi (a - 2)).stuck
  | 0xE003 => some l.recd.armed.isNone
  | 0xC003 => some (l.sec.dbg.mode = 2)
  | 0xC008 => some l.sec.arvGoal.isSome
  | _ => none

/-- `COND` of an occurrence: as last reported while its domain is off (R397); 1 in the bond of a raise; then the lasting
condition, the pair of a wire fault, or 0 (R384, R385). -/
def Live.condOf (l : Live) (o : Occ) : Bool :=
  if !l.dom (srcDomain o.d.code.toNat) then o.cond
  else o.newNow || (if o.wire then o.cond else (l.lasting o.d).getD false)

/-- Firmware keeps the log's copies of what stands as they change (R400), while it runs (R26). -/
def Live.logSync (l : Live) : Live :=
  if !l.coresUp then l
  else l.modFc fun f =>
    { f with log := f.log.map (fun p =>
        match f.table.find? (fun o => o.seq = some p.2.seq) with
        | some o => (p.1, { p.2 with o := o })
        | none => p) }

/-- Drop entries that are done with: cleared or past their window, with their last change in the log (R374). -/
def Live.tablePrune (l : Live) : Live :=
  let l := l.logSync
  l.modFc fun f =>
    { f with table := if l.coresUp then f.table.filter (fun o => o.stands || o.seq.isNone) else f.table,
             full := f.full && 63 ≤ (f.table.filter (fun o => o.stands && o.d.code ≠ 0x9004)).length }

/-- At a bond boundary: conditions are judged, and event faults of an earlier bond read 0. -/
def Live.condBond (l : Live) : Live :=
  (l.modFc fun f => { f with table := f.table.map (fun o =>
      let o := { o with newNow := if l.dom (srcDomain o.d.code.toNat) then false else o.newNow }
      { o with cond := l.condOf o }) }).tablePrune

/-- The self-check of R386; `ok` is whether the test occurrence was taken and routed as it must be. -/
def Live.selftest (l : Live) (ok : Bool) : Live := if ok then l else l.takeOcc 4 (l.ownDetail 0x9002 0) false true true

/-! ## The end of a shadow window (R391, R393) -/

/-- The condition under which a block is back (Table 11.8). -/
def Live.blockBack (l : Live) (b : Nat) : Bool :=
  if b < 8 then (l.ring b).st = .running
  else match b with
    | 10 => l.adc.refOk && !l.adc.refDue
    | 12 => (l.pi 0).active.isNone && !(l.pi 0).recovering
    | 13 => (l.pi 1).active.isNone && !(l.pi 1).recovering
    | 14 => (l.mport 0).inbox.isNone
    | 15 => (l.mport 1).inbox.isNone
    | _ => true

/-- BLOCK_BACK (R391): the reload verified, the unit running, the recorder ready, and so on. -/
def execBlockBack (block : Fin 16) (s : State) : Host.Outcome State Fault Refusal :=
  s.upd fun l =>
    if l.winOpen block && !(l.block block).back && l.blockBack block then
      let l := l.modBlock block fun k => { k with back := true }
      let l := if block = 8 then l.each 8 fun l n => l.modLane n fun k => { k with since := l.now } else l
      if block = 11 then
        match l.recd.snapDue with
        | some c => (l.modRec fun r => { r with snapDue := none }).snapRequest c
        | none => l
      else l
    else l

/-- SHADOW_WINDOW_CLOSE (R391, R393): consequences that still stand are raised afresh, and a block that is not back
escalates; events of one tick go in the order of subsystems (R32). -/
def execShadowWindowClose (block : Fin 16) (s : State) : Host.Outcome State Fault Refusal :=
  s.upd fun l =>
    match (l.block block).closeAt with
    | none => l
    | some t =>
      if l.now < t then l
      else
        let mine (o : Occ) : Bool := o.conseq && o.stands && o.window = block.val
        let again := (l.fc.table.filter (fun o => mine o && l.condOf o)).map (fun o => ({ o.d with tick := l.tick }, o.wire))
        let esc : List (Detail × Bool) := if (l.block block).back then [] else [(l.ownDetail 0x9005 block.val, false)]
        let l := l.modFc fun f => { f with table := f.table.map (fun o => if mine o then { o with window := 16, cond := l.condOf o } else o) }
        let l := (l.modBlock block fun k => { k with closeAt := none }).tablePrune
        let xs := (again ++ esc).mergeSort (fun a b => a.1.before b.1)
        l.forL xs fun l x => l.takeOcc 4 x.1 x.2 true true

/-! ## The fault log (R399, R400) -/

/-- A log entry may be overwritten. -/
def LogEntry.free (e : LogEntry) : Bool := !e.used || e.o.cleared || (e.o.conseq && e.o.window = 16)

def Live.logAt (l : Live) (n : Nat) : LogEntry := tget {} l.fc.log n

/-- The instance with the lowest sequence number among those that satisfy `p`. -/
def Live.oldestLog (l : Live) (p : LogEntry → Bool) : Option Nat :=
  ((List.range 512).filter (fun n => p (l.logAt n))).foldl (fun m n =>
    match m with
    | none => some n
    | some k => if (l.logAt n).seq < (l.logAt k).seq then some n else some k) none

/-- Where a new entry goes, and whether it overwrites one that is held and not of class LOG (R400). -/
def Live.logPlace (l : Live) (seq : Nat) : Nat × Bool :=
  if (l.logAt (seq % 512)).free then (seq % 512, false)
  else match l.oldestLog LogEntry.free with
    | some n => (n, false)
    | none => match l.oldestLog (fun e => e.o.cls = .log) with
      | some n => (n, false)
      | none => ((l.oldestLog (fun _ => true)).getD 0, true)

/-- The black-box FAULT record of an occurrence (Table 16.3). -/
def Occ.payload (o : Occ) (seq : Nat) : List Byte :=
  leBytes o.d.code.toNat 2 ++ leBytes o.d.obj.toNat 2 ++ leBytes o.d.aux.toNat 2 ++
    [BitVec.ofNat 8 o.cls.code, BitVec.ofNat 8 ((if o.wire then 1 else 0) + (if o.conseq then 2 else 0))] ++
    leBytes o.d.val.toNat 4 ++ leBytes seq 4

/-- FAULT_LOG_COPY (R398, R400): the oldest occurrence not yet logged, `FC_LOG_GAP` before all others (R399). -/
def execFaultLogCopy (s : State) : Host.Outcome State Fault Refusal :=
  s.upd fun l =>
    if !l.coresUp then l
    else
      let todo := l.fc.table.filter (fun o => o.seq.isNone)
      let pick := match todo.find? (fun o => o.d.code = 0x9006) with | some o => some o | none => todo.head?
      match pick with
      | none => l
      | some o =>
        let seq := l.fc.nextSeq
        let p := l.logPlace seq
        let o' : Occ := { o with seq := some seq }
        let l := if p.2 then l.w1cSet 0x9FFF 0 29 else l
        let l := l.modFc fun f =>
          { f with nextSeq := (seq + 1) % 2 ^ 32, ovfl := f.ovfl || p.2,
                   table := f.table.map (fun x => if x.seq.isNone && x.d = o.d && x.cleared = o.cleared && x.window = o.window then o' else x),
                   log := tset f.log p.1 { o := o', boot := BitVec.ofNat 16 l.recd.bootcnt.toNat, seq := seq, used := true } }
        (l.record 0x01 (o.payload seq)).tablePrune

/-! ## Clearing (R385, R128, R289, R361) -/

/-- An identifier leaves the barred list: its BARRED record is dropped, and UNASSIGN lets it announce again (Table 3.8). -/
def Live.unbar (l : Live) (uid : BitVec 64) : Live :=
  let l := { l with moor := { l.moor with barred := l.moor.barred.filter (fun p => p.1 ≠ uid), barBy := l.moor.barBy.filter (fun p => p.1 ≠ uid) } }
  l.forL (l.stns.filter (fun p => p.2.st = .barred && p.2.uid = uid)) fun l p =>
    (l.tailBrick p.2.ring ((p.2.byHop 7 0).brick (p.2.mseq + 1))).stnDrop p.1

/-- What a clear ends beside the DERATE and ISOLATE effects that the occurrence itself held. -/
def Live.clearEffect (l : Live) (d : Detail) : Live :=
  let k := 65536 * d.code.toNat + d.obj.toNat
  let l := l.forL (((l.moor.barBy.filter (fun p => p.2 = k)).map (·.1)).dedup) fun l u => l.unbar u
  let i := d.obj.toNat % 4096
  match d.code.toNat with
  | 0x6002 => l.modInp i fun x => { x with khCut := 0 }
  | 0x8005 =>
    if d.obj = 0x8FFF then { l with therm := { l.therm with die := tmapDie l.therm.die } }
    else l.modPoint i fun p => { p with broken := false, cause := 0 }
  | _ => l
where
  /-- Broken die sensors are used again. -/
  tmapDie (t : Tbl DieSensor) : Tbl DieSensor := t.foldl (fun a p => tput {} a p.1 { p.2 with broken := false, run := 0 }) []

/-- Clear one occurrence, with its record and host event. -/
def Live.clearOcc (l : Live) (o : Occ) (sess port : Nat) : Live :=
  let l := l.modFc fun f => { f with table := f.table.map (fun x => if x.same o.d then { x with cleared := true, cond := false } else x) }
  let l := l.tablePrune.clearEffect o.d
  let l := l.record 0x02 (leBytes o.d.code.toNat 2 ++ leBytes o.d.obj.toNat 2 ++ [BitVec.ofNat 8 sess, BitVec.ofNat 8 port])
  (l.hostEvent 2 o.d.code.toNat o.d.obj.toNat o.d.aux.toNat).count 91

/-- An occurrence may be cleared now: its `COND` is 0, and its source has a domain that is on (R385, R397). -/
def Live.mayClear (l : Live) (o : Occ) : Bool := l.dom (srcDomain o.d.code.toNat) && !l.condOf o

/-- FAULT_CLEAR's work (R385): the status and the reply data.  A wildcard reaches the occurrences that the session may
clear (Table 14.4). -/
def Live.faultClear (l : Live) (may : Occ → Bool) (code obj : Half) (sess port : Nat) : Live × Nat × List Byte :=
  if code = 0xFFFF then
    let all := l.fc.table.filter (fun o => o.stands && may o)
    let go := all.filter l.mayClear
    let held := all.length - go.length
    let l := l.forL go fun l o => l.clearOcc o sess port
    (if held = 0 then l else l.countWith 92 held {}, 0, leBytes go.length 2 ++ leBytes held 2)
  else match l.fc.table.find? (fun o => o.stands && o.d.code = code && o.d.obj = obj) with
    | none => (l, 0x04, [])
    | some o => if l.mayClear o then (l.clearOcc o sess port, 0, []) else (l.count 92, 0x0E, [])

/-- An occurrence routed SAFE has `COND` = 1: `SAFEXIT` is answered HELD (R389). -/
def Live.safeHeld (l : Live) : Bool := l.fc.table.any (fun o => o.cls = .safe && o.stands && l.condOf o)

end Sys2Proof.Machine
end

