-- ==== Sys2Proof/Machine/Ckpt.lean ====
section
/-! DEFINITION. The checkpoint's sections (Table 12.8): the octets that carry each of them, and what a section restores.
The manual fixes the layout inside a section by `CKFMT` and does not give it (R429): the layouts below are the model's
(log entry 92). -/
namespace Sys2Proof.Machine

/-! ## Parts of a section -/

/-- A fraction as `n` octets of two's complement, in units of 2^-`frac`. -/
def fxPut (x : Rat) (n frac : Nat) : List Byte := leBytes (satInt (x * 2 ^ frac) (8 * n)) n
def fxAt (b : List Byte) (o n frac : Nat) : Rat := (sgn (numAt b o n) (8 * n) : Rat) / 2 ^ frac

/-- Flags as a number, the first in bit 0; and one of them. -/
def flagsNum : List Bool → Nat
  | [] => 0
  | f :: t => (if f then 1 else 0) + 2 * flagsNum t
def flagAt (b : List Byte) (o n i : Nat) : Bool := numAt b o n / 2 ^ i % 2 = 1

/-- Cut into records of `w` octets. -/
def cutRows (w : Nat) : Nat → List Byte → List (List Byte)
  | 0, _ => []
  | n + 1, b => if b.length < w then [] else b.take w :: cutRows w n (b.drop w)

/-- A time as an age of 8 octets at an instant, all ones for none; and back, at an instant. -/
def agePut (now : Nat) (t : Option Nat) : List Byte := leBytes (match t with | some t => now - t | none => 2 ^ 64 - 1) 8
def ageAt (now : Nat) (b : List Byte) (o : Nat) : Option Nat := if numAt b o 8 = 2 ^ 64 - 1 then none else some (now - numAt b o 8)

/-! ## 0x0001: power path (R310) -/

/-- States by their codes (Table 8.2, Table 8.4, Table 9.5, Table 3.8). -/
def supplyOf (c : Nat) : SupplySt := ([.normal, .assist, .capping, .shedding, .feedlost, .holdup].find? (fun s => s.code = c)).getD .normal
def inStOf (c : Nat) : InSt := ([.absent, .dark, .probing, .sharing, .guarded].find? (fun s => s.code = c)).getD .absent
def exStOf (c : Nat) : ExSt := ([.idle, .due, .running].find? (fun s => s.code = c)).getD .idle
def reasonOf (c : Nat) : StnReason :=
  ([.unplaced, .rating, .vendor, .firmware, .duplicate, .mismatch, .isolated].find? (fun s => s.code = c)).getD .none

def ckInput (p : Nat × Input) : List Byte :=
  let i := p.2
  leBytes p.1 1 ++ leBytes (flagsNum [i.rhat.isSome, i.rlast.isSome] + 4 * i.st.code) 1 ++ leBytes i.khCut 2 ++ leBytes i.lfsr.toNat 2 ++
    fxPut (i.rhat.getD 0) 8 32 ++ fxPut i.vs 8 32 ++ fxPut (i.rlast.getD 0) 8 32
def inputCk (b : List Byte) : Nat × Input :=
  (numAt b 0 1,
   { rhat := if flagAt b 1 1 0 then some (fxAt b 6 8 32) else none, vs := fxAt b 14 8 32,
     rlast := if flagAt b 1 1 1 then some (fxAt b 22 8 32) else none, st := inStOf (numAt b 1 1 / 4), khCut := numAt b 2 2,
     lfsr := BitVec.ofNat 15 (numAt b 4 2) })

def ckEntry : PpEntry → Byte
  | .capStep r => BitVec.ofNat 8 r
  | .shed r => BitVec.ofNat 8 (64 + r)
def entryCk (b : Byte) : PpEntry := if b.toNat / 64 % 2 = 1 then .shed (b.toNat % 64) else .capStep (b.toNat % 64)

def ckPower (c : Ckpt) : List Byte :=
  fxPut c.x 8 32 ++ leBytes c.supply.code 1 ++ leBytes c.inputs.length 1 ++ leBytes c.stack.length 2 ++
    (List.range 48).map (fun r => BitVec.ofNat 8 (tget 16 c.levels r)) ++ c.inputs.flatMap ckInput ++ c.stack.map ckEntry
def powerCk (b : List Byte) : Ckpt :=
  let n := numAt b 9 1
  { x := fxAt b 0 8 32, supply := supplyOf (numAt b 8 1),
    levels := (List.range 48).foldl (fun t r => tput 16 t r (numAt b (12 + r) 1)) [],
    inputs := (cutRows 30 n (b.drop 60)).map inputCk,
    stack := ((b.drop (60 + 30 * n)).take (numAt b 10 2)).map entryCk }

/-! ## 0x0002: gauge and exercise (R343) -/

def ckStr (p : Nat × Str) : List Byte :=
  let s := p.2
  leBytes p.1 1 ++ leBytes (flagsNum [s.measured, s.learned, s.started, s.fast, s.fulla, s.emptya, s.stale, s.uncert, s.chginh, s.dwin, s.heat,
      s.cycle, s.cycleVoid, s.seg, s.segVoid, s.fullDone, s.emptyDone, s.counting, s.afterAnchor, s.reset]) 3 ++
    leBytes s.a.toNat 8 ++ leBytes s.ifs 2 ++ leBytes s.nlearn 2 ++ leBytes s.tlearn 4 ++ leBytes s.tcreate 4 ++ leBytes s.fullRun 4 ++
    leBytes s.emptyRun 4 ++ leBytes s.restRun 4 ++ fxPut s.rhat 8 32 ++ fxPut s.rn 8 32 ++ fxPut s.rlearn 8 32 ++ fxPut s.qcap 8 32 ++
    fxPut s.fade 8 32 ++ fxPut s.socrep 8 48 ++ fxPut s.ibar 8 32 ++ fxPut s.demand 8 32
def strCk (b : List Byte) : Nat × Str :=
  let f := flagAt b 1 3
  (numAt b 0 1,
   { live := true, measured := f 0, learned := f 1, started := f 2, fast := f 3, fulla := f 4, emptya := f 5, stale := f 6, uncert := f 7,
     chginh := f 8, dwin := f 9, heat := f 10, cycle := f 11, cycleVoid := f 12, seg := f 13, segVoid := f 14, fullDone := f 15,
     emptyDone := f 16, counting := f 17, afterAnchor := f 18, reset := f 19,
     a := BitVec.ofNat 64 (numAt b 4 8), ifs := numAt b 12 2, nlearn := numAt b 14 2, tlearn := numAt b 16 4, tcreate := numAt b 20 4,
     fullRun := numAt b 24 4, emptyRun := numAt b 28 4, restRun := numAt b 32 4, rhat := fxAt b 36 8 32, rn := fxAt b 44 8 32,
     rlearn := fxAt b 52 8 32, qcap := fxAt b 60 8 32, fade := fxAt b 68 8 32, socrep := fxAt b 76 8 48, ibar := fxAt b 84 8 32,
     demand := fxAt b 92 8 32 })

def ckGauge (c : Ckpt) : List Byte :=
  leBytes c.ex.code 1 ++ leBytes c.exStr 1 ++ leBytes (flagsNum [c.exHost]) 2 ++ leBytes c.exAt 8 ++ leBytes c.xlast.toNat 4 ++
    c.strs.flatMap ckStr
def gaugeCk (b : List Byte) : Ckpt :=
  { ex := exStOf (numAt b 0 1), exStr := numAt b 1 1, exHost := flagAt b 2 2 0, exAt := numAt b 4 8, xlast := BitVec.ofNat 32 (numAt b 12 4),
    strs := (cutRows 100 16 (b.drop 16)).map strCk }

/-! ## 0x0003: thermal points (R368) -/

def ckPoint (p : Nat × Point) : List Byte :=
  let k := p.2
  leBytes p.1 2 ++ leBytes (k.band + 8 * k.cause + 32 * flagsNum [k.broken, k.fresh, k.everNtc]) 1 ++ fxPut k.d1 4 20 ++ fxPut k.d2 4 20 ++
    fxPut k.d3 4 20 ++ fxPut k.k 4 20
def pointCk (b : List Byte) : Nat × Point :=
  (numAt b 0 2,
   { run := true, band := numAt b 2 1 % 8, cause := numAt b 2 1 / 8 % 4, broken := flagAt b 2 1 5, fresh := flagAt b 2 1 6,
     everNtc := flagAt b 2 1 7, d1 := fxAt b 3 4 20, d2 := fxAt b 7 4 20, d3 := fxAt b 11 4 20, k := fxAt b 15 4 20 })

def ckTherm (c : Ckpt) : List Byte := (c.points.take 288).flatMap ckPoint
def thermCk (b : List Byte) : Ckpt := { points := (cutRows 19 288 b).map pointCk }

/-! ## 0x0004: rails, 0x0005: VC ports (R271) -/

/-- Members of a rail that meet a test, one bit each. -/
def memberBits (r : Rail) (f : Member → Bool) : Nat := flagsNum ((List.range 8).map (fun m => f (tget {} r.members m)))

def ckRail (p : Nat × Rail) : List Byte :=
  let r := p.2
  leBytes p.1 1 ++ leBytes (flagsNum [r.intent]) 1 ++ leBytes r.vt 4 ++ leBytes r.slew 4 ++ leBytes r.vtLast 4 ++ leBytes r.slewLast 4 ++
    leBytes r.hiccnt 4 ++ leBytes (memberBits r (·.removed)) 1 ++ leBytes (memberBits r (·.senseF)) 1
def railCk (b : List Byte) : Nat × Rail :=
  (numAt b 0 1,
   { live := true, intent := flagAt b 1 1 0, vt := numAt b 2 4, slew := numAt b 6 4, vtLast := numAt b 10 4, slewLast := numAt b 14 4,
     hiccnt := numAt b 18 4,
     members := (List.range 8).foldl (fun t m => tmod {} t m (fun a => { a with removed := flagAt b 22 1 m, senseF := flagAt b 23 1 m })) [] })

def ckRails (c : Ckpt) : List Byte := c.rails.flatMap ckRail
def railsCk (b : List Byte) : Ckpt := { rails := (cutRows 24 48 b).map railCk }

/-- Acknowledged levels, and the grace timers as ages at the capture. -/
def ckVc (now : Nat) (p : Nat × VcRail) : List Byte := leBytes p.1 1 ++ leBytes p.2.ack 1 ++ agePut now p.2.grace
def vcCk (stamp : Nat) (b : List Byte) : Nat × VcRail := (numAt b 0 1, { ack := numAt b 1 1, grace := ageAt stamp b 2 })

/-! ## 0x0006: counter bases, 0x0007: the barred list, 0x0008: held-back records -/

/-- 8 octets a counter (R533). -/
def ckCounter (c : Ckpt) (n : Nat) : List Byte :=
  let v := (tfind c.counters n).getD (0, false)
  leBytes v.1.toNat 4 ++ leBytes (flagsNum [v.2]) 4
def ckCounters (c : Ckpt) : List Byte := (List.range 128).flatMap (ckCounter c)
def countersCk (b : List Byte) : Ckpt :=
  { counters := (numbered 0 (cutRows 8 128 b)).map (fun p => (p.1, (BitVec.ofNat 32 (numAt p.2 0 4), flagAt p.2 4 4 0))) }

/-- A barred UID, its reason, and the station and code of the fault that barred it. -/
def ckBarred (c : Ckpt) : List Byte :=
  (c.barred.take 256).flatMap (fun p =>
    let by_ := ((c.barBy.find? (fun q => q.1 = p.1)).map (·.2)).getD 0
    leBytes p.1.toNat 8 ++ leBytes p.2.code 1 ++ leBytes (by_ % 256) 1 ++ leBytes (by_ / 65536) 2)
def barredCk (b : List Byte) : Ckpt :=
  let xs := cutRows 12 256 b
  { barred := xs.map (fun r => (BitVec.ofNat 64 (numAt r 0 8), reasonOf (numAt r 8 1))),
    barBy := (xs.filter (fun r => numAt r 10 2 ≠ 0)).map (fun r => (BitVec.ofNat 64 (numAt r 0 8), 65536 * numAt r 10 2 + oStn (numAt r 9 1))) }

/-- A record that R339 holds back, as it would be written (Table 9.3); its `STR` octet says whose it is. -/
def ckHeld (c : Ckpt) : List Byte := c.held.flatMap (fun r => r.take 64)
def heldCk (b : List Byte) : Ckpt := { held := cutRows 64 16 b }

/-! ## Sections -/

/-- The octets of a section (Table 12.8), captured at a tick; the firmware extension carries the shelf clock (R514). -/
def ckptSection (now type : Nat) (c : Ckpt) : List Byte :=
  match type with
  | 1 => ckPower c
  | 2 => ckGauge c
  | 3 => ckTherm c
  | 4 => ckRails c
  | 5 => c.vcs.flatMap (ckVc now)
  | 6 => ckCounters c
  | 7 => ckBarred c
  | 8 => ckHeld c
  | 255 => leBytes c.clkSec.toNat 4
  | _ => []

/-- What a section restores; `stamp` is the capture's tick on the new keeper's count. -/
def ckptRead (stamp type : Nat) (b : List Byte) : Ckpt :=
  match type with
  | 1 => powerCk b
  | 2 => gaugeCk b
  | 3 => thermCk b
  | 4 => railsCk b
  | 5 => { vcs := (cutRows 10 48 b).map (vcCk stamp) }
  | 6 => countersCk b
  | 7 => barredCk b
  | 8 => heldCk b
  | 255 => { clkSec := BitVec.ofNat 32 (numAt b 0 4) }
  | _ => {}

end Sys2Proof.Machine
end

