-- ==== Sys2Proof/Machine/Keeper.lean ====
section
/-! DEFINITION. The keeper core: heartbeat, mate link, checkpoints, claims and planned handover (chapter "Keeper and
failover"). -/
namespace Sys2Proof.Machine

/-! ## The keeper core and its times -/

/-- The keeper core runs: from boot stage 1 on, unless it is held or stopped (R542, R550, R555, R558). -/
def Live.kUp (l : Live) : Bool := l.pwr.st ≠ .off && l.pwr.st ≠ .held && !l.pwr.resetLow && !l.pwr.shut

/-- Tl in ticks, as Table 12.3 takes it (R554). -/
def Live.tlTicks (l : Live) : Nat := l.keeper.tl * 50000

/-- The instant from which the claimant's wait counts (R413). -/
def Live.waitFrom (l : Live) : Nat := max l.keeper.resetAt (l.keeper.hbinAt.getD 0)

/-- A STATUS frame arrived within the last Tl. -/
def Live.mateHeard (l : Live) : Bool := match l.keeper.mateAt with | some t => l.now ≤ t + l.tlTicks | none => false

/-- A ROLE B controller hears a ROLE A mate that is WARMING to KEEPER (Table 12.3).  DEDUCED: not in a planned handover, whose
keeper it must hear (R431; log entry 57). -/
def Live.hearsA (l : Live) : Bool :=
  l.keeper.roleB && l.mateHeard && !l.keeper.handIn && !l.keeper.mateB && 1 ≤ l.keeper.mateState && l.keeper.mateState ≤ 4

/-! ## Frames (R423, R424) -/

/-- The octets of a frame (Table 12.5), with `FCRC`. -/
def MateFrame.octets (f : MateFrame) : List Byte :=
  let b := [f.ftype, f.flags] ++ leBytes f.epoch.toNat 2 ++ leBytes f.seq.toNat 4 ++ leBytes f.idx.toNat 2 ++ leBytes f.data.length 2 ++
    List.replicate 4 0 ++ f.data
  b ++ leBytes (crc32 b) 4

/-- The code groups of a frame: K27.7, the octets as data groups, K29.7; between frames the line carries K28.5 D16.2 (R405). -/
def MateFrame.groups (f : MateFrame) : List CodeGroup := .special 27 7 :: f.octets.map .data ++ [.special 29 7]
def mateIdle : List CodeGroup := [.comma, .trainData]

/-- What octets that arrive between K27.7 and K29.7 are: the frame's type, its head and payload, and whether `FCRC` passes. -/
def mateParse (b : List Byte) : Nat × MateHdr :=
  let n := numAt b 10 2
  (numAt b 0 1,
   { flags := BitVec.ofNat 8 (numAt b 1 1), epoch := BitVec.ofNat 16 (numAt b 2 2), seq := BitVec.ofNat 32 (numAt b 4 4),
     idx := BitVec.ofNat 16 (numAt b 8 2), data := sliceB b 16 n, crcOk := b.length = 20 + n && crc32 (b.take (16 + n)) = numAt b (16 + n) 4 })

/-- The lowest and highest mate protocol version that the firmware of the bank accepts (Table 18.12); none without a bank. -/
def Live.mateRange (l : Live) : Option (Nat × Nat) :=
  let b := l.bank (l.sec.running.getD l.bootRec.bact)
  if b.length < 160 then none else some (numAt b 124 2, numAt b 126 2)

/-- STATUS (R424). -/
def Live.statusSend (l : Live) : Live :=
  if !l.kUp || !l.keeper.mateen then l
  else
    let r := l.mateRange.getD (Config.mateVersion.toNat, Config.mateVersion.toNat)
    let bond := if l.working then l.bond else 0
    (l.mateNote 0x01 l.knownEpoch ([BitVec.ofNat 8 l.keeper.st.code, 0] ++ leBytes Config.mateVersion.toNat 2 ++ leBytes r.1 2 ++
      leBytes r.2 2 ++ leBytes bond 8)).modK fun k => { k with statusAt := l.now }

/-! ## Wake and yield (R554, Table 12.3) -/

/-- A keeper wake: a full boot from stage 2 out of COLD; out of service LEAN, D3 and D2 and then the image. -/
def Live.keeperWake (l : Live) : Live :=
  match l.pwr.st with
  | .cold => (l.setPower .boot 2).modPwr fun p => { p with stage := 2, stageAt := l.now, svcBoot := false, cause := 3, on := 0x81 }
  | .boot => l.modPwr fun p => { p with svcBoot := false, on := if p.stage = 4 then p.on ||| 0x0C else p.on }
  | .lean =>
    if l.pwr.service then
      ((l.setPower .boot 2).record 0x08 (leBytes l.recd.bootcnt.toNat 4 ++ [3])).modPwr fun p =>
        { p with stage := 4, stageAt := l.now, service := false, svcBoot := false, cause := 3, on := p.on ||| 0x0C }
    else l
  | _ => l

/-- RELEASE courses first, then WATCH and COLD (Table 12.3, R431). -/
def Live.releaseYield (l : Live) : Live :=
  let l := ((l.sendRelease.leaseClear.txnCancel).keeperTo .watch).modK fun k => { k with hand := .none, handIn := false, tieWait := false, coldAfter := 1 }
  l.releaseCheck

/-! ## Heartbeat (R404, R414, R418) -/

/-- HEARTBEAT_TOGGLE (R404): at every tick count that is a multiple of 20 000 while lease-live is set. -/
def execHeartbeatToggle (s : State) : Host.Outcome State Fault Refusal :=
  s.upd fun l =>
    if l.kUp && l.keeper.live && l.tick % 20000 = 0 && l.keeper.hboutAt ≠ l.now then
      l.modK fun k => { k with hbout := !k.hbout, hboutAt := l.now }
    else l

/-- HBIN_EDGE: a counted edge (Table 12.3). -/
def execHbinEdge (s : State) : Host.Outcome State Fault Refusal :=
  s.upd fun l =>
    if !l.kUp then l
    else
      let l := l.modK fun k => { k with hbinAt := some l.now, silence := false, brokenRaised := false, waited := false }
      match l.keeper.st with
      | .claiming | .keeper =>
        if l.keeper.roleB then (l.raise 0xA007 0xA000).releaseYield
        else (l.raise 0xA007 0xA000).modK fun k => { k with tieWait := true }
      | .warming | .waiting => if l.keeper.handIn then l else (l.count 119).keeperYield
      | _ => l

/-- The lifecycle is RETIRED: the keeper core never leaves WATCH. -/
def Live.retired (l : Live) : Bool := l.sec.lc = 4

/-- HEARTBEAT_SILENCE: 200 000 ticks without a counted edge (R404, Table 12.3, R418). -/
def execHeartbeatSilence (s : State) : Host.Outcome State Fault Refusal :=
  s.upd fun l =>
    if !l.kUp || l.now < l.waitFrom + 200000 then l
    else
      let l := l.modK fun k => { k with silence := true }
      match l.keeper.st with
      | .watch =>
        if l.mateHeard && l.keeper.mateLease then
          if l.keeper.brokenRaised then l else (l.raise 0xA002 0xA000).modK fun k => { k with brokenRaised := true }
        else if l.retired then l
        else
          let l := ((l.raise 0xA001 0xA000).keeperTo .warming).keeperWake
          if l.hearsA then l.keeperYield else l
      | .claiming | .keeper =>
        if l.keeper.tieWait then
          let l := (l.sendRelease.leaseClear.txnCancel).keeperTo .claiming
          l.modK fun k => { k with tieWait := false, stored := k.epoch + 1, claimDue := true }
        else l
      | _ => l

/-! ## STATUS frames (R424) -/

/-- MATE_STATUS (R424, Table 12.3). -/
def execMateStatus (f : MateHdr) (s : State) : Host.Outcome State Fault Refusal :=
  s.upd fun l =>
    if !l.kUp || !f.crcOk || f.data.length < 16 then l
    else
      let ver := leNat (sliceB f.data 2 2)
      let bad := match l.mateRange with | some r => !(r.1 ≤ ver && ver ≤ r.2) | none => false
      let was := l.keeper.incompat
      let l := l.modK fun k =>
        { k with mateAt := some l.now, mateState := (f.data.getD 0 0).toNat, mateB := f.flags.getLsbD 0, mateLease := f.flags.getLsbD 1,
                 mateSafe := f.flags.getLsbD 2, mateEpoch := f.epoch, mateVer := BitVec.ofNat 16 ver,
                 mateBond := leNat (sliceB f.data 8 8), incompat := bad, downRaised := false }
      let l := if bad && !was then l.raise 0xA008 0xA000 else l
      if (l.keeper.st = .warming || l.keeper.st = .waiting) && l.hearsA then l.keeperYield else l

/-- KPR_MATE_DOWN (R424): ten intervals without a valid STATUS. -/
def execKprMateDown (s : State) : Host.Outcome State Fault Refusal :=
  s.upd fun l =>
    if l.kUp && l.keeper.mateen && !l.keeper.downRaised && max l.keeper.resetAt (l.keeper.mateAt.getD 0) + 10 * bondTicks ≤ l.now then
      (l.raise 0xA003 0xA000).modK fun k => { k with downRaised := true }
    else l

/-- CLAIM_NOTICE (R423): the manual gives its arrival no effect (log entry 40). -/
def execClaimNotice (_f : MateHdr) (s : State) : Host.Outcome State Fault Refusal := s.same

/-! ## Checkpoints sent (R425, R426, R429) -/

/-- The content a checkpoint captures (Table 12.8). -/
def Live.ckptOf (l : Live) : Ckpt :=
  { inputs := l.pp.inputs, x := l.pp.x, supply := l.pp.st, stack := l.pp.stack, levels := l.pp.levels,
    strs := l.gauge.strs.filter (fun p => p.2.live), ex := l.gauge.ex, exStr := l.gauge.exStr, exHost := l.gauge.exHost, exAt := l.gauge.exAt,
    xlast := l.gauge.xlast, points := l.therm.points.filter (fun p => p.2.run), rails := l.rails.filter (fun p => p.2.live), vcs := l.vcr,
    held := (l.strNums.filter (fun k => (l.str k).due && (l.str k).writing.isNone)).map (fun k => (l.strNext k).2), counters := l.recd.ctrs.map (fun p => (p.1, (p.2.val, p.2.ovf))), barred := l.moor.barred, barBy := l.moor.barBy,
    clkSec := l.recd.clkSec }

/-- The sections and the most bytes each may take (Table 12.8). -/
def ckptSections : List (Nat × Nat) :=
  [(1, 3328), (2, 2624), (3, 5760), (4, 1536), (5, 512), (6, 1024), (7, 3072), (8, 1024), (255, 30644)]

/-- A section with its head, padded to a multiple of 4. -/
def ckptPack (ty : Nat) (data : List Byte) : List Byte :=
  leBytes ty 2 ++ leBytes data.length 2 ++ data ++ List.replicate (pad4 data.length - data.length) 0

/-- The content, at most 30 644 bytes. -/
def Live.ckptBytes (l : Live) : List Byte :=
  (ckptSections.flatMap (fun p => ckptPack p.1 ((ckptSection l.now p.1 l.ckptOf).take p.2))).take 30644

/-- Cut octets into blocks of 1024. -/
def cutBlocks : Nat → List Byte → List (List Byte)
  | 0, _ => []
  | n + 1, b => if b.isEmpty then [] else b.take 1024 :: cutBlocks n (b.drop 1024)

/-- Send block `i`. -/
def Live.ckptBlock (l : Live) (i : Nat) : Live :=
  match l.keeper.tx with
  | none => l
  | some t =>
    let l := l.modK fun k => { k with tx := some { t with sends := tset t.sends i ((tfind t.sends i).getD 0 + 1), sentAt := tset t.sentAt i l.now } }
    l.mateSend 0x02 l.knownEpoch t.seq i (t.blocks.getD i [])

/-- Blocks sent and not acknowledged. -/
def CkptTx.open_ (t : CkptTx) : Nat := (t.sends.filter (fun p => !t.acked.contains p.1)).length

/-- Send what may be sent: ascending, with at most 4 unacknowledged (R426). -/
def Live.ckptPump (l : Live) : Nat → Live
  | 0 => l
  | n + 1 =>
    match l.keeper.tx with
    | none => l
    | some t =>
      match (List.range t.blocks.length).find? (fun i => (tfind t.sends i).isNone) with
      | some i => if t.open_ < 4 then (l.ckptBlock i).ckptPump n else l
      | none => l

/-- A checkpoint was abandoned or skipped: two in a row raise `KPR_CKPT_FAIL` (R425). -/
def Live.ckptMissed (l : Live) : Live :=
  if l.keeper.ckMissed = 0 then l.modK fun k => { k with ckMissed := 1 } else l.raise 0xA004 0xA000

/-- Capture a checkpoint and begin to send it (R425, R427); `CKLAG` of block 0 is a free value, since block 0 goes out before
the last block. -/
def Live.ckptCapture (l : Live) : Live :=
  if l.keeper.tx.isSome then l.ckptMissed
  else
    let n := l.keeper.ckNum + 1
    let d := l.draw 32
    let lag := d.1.toNat
    let l := d.2
    let body := l.ckptBytes
    let blks := cdiv (76 + body.length) 1024
    let hash := (l.img.cur.hash ++ List.replicate 32 0).take 32
    let head := leBytes 1 2 ++ leBytes blks 2 ++ leBytes n.toNat 4 ++ leBytes l.bond 8 ++ leBytes l.msgs.gen 8 ++ leBytes l.tick 6 ++
      leBytes l.keeper.epoch.toNat 2 ++ leBytes (l.fc.nextSeq - 1) 4 ++ leBytes body.length 4 ++ hash ++ leBytes lag 4
    (l.modK fun k => { k with ckNum := n, tx := some { seq := n, at_ := l.now, blocks := cutBlocks 30 (head ++ body) } }).ckptPump 4

/-- A checkpoint that the keeper sent is complete. -/
def Live.ckptDone (l : Live) (t : CkptTx) : Live :=
  let l := l.count 116
  l.modK fun k => { k with tx := none, ckOk := true, ckMissed := 0, ckSeq := t.seq, ckAt := some t.at_,
                           releaseDue := k.releaseDue || (match k.hand with | .sending q => q = t.seq | _ => false) }

/-- A checkpoint is abandoned (R426); a handover's is captured again. -/
def Live.ckptAbandon (l : Live) : Live :=
  (l.modK fun k => { k with tx := none, ckOk := false, hand := match k.hand with | .sending _ => .ready | h => h }).ckptMissed

/-- Send a block again, or abandon after its eighth send (R426). -/
def Live.ckptAgain (l : Live) (t : CkptTx) (i : Nat) : Live :=
  if 8 ≤ (tfind t.sends i).getD 0 then l.ckptAbandon else (l.count 117).ckptBlock i

/-- CKPT_ACK (R426). -/
def execCkptAck (f : MateHdr) (s : State) : Host.Outcome State Fault Refusal :=
  s.upd fun l =>
    match l.keeper.tx with
    | none => l
    | some t =>
      let i := f.idx.toNat
      if !l.kUp || !f.crcOk || f.seq ≠ t.seq || (tfind t.sends i).isNone || t.acked.contains i then l
      else match (f.data.getD 0 0).toNat with
        | 0 =>
          let t := { t with acked := t.acked ++ [i] }
          if t.acked.length = t.blocks.length then l.ckptDone t
          else (l.modK fun k => { k with tx := some t }).ckptPump 4
        | 1 => l.ckptAgain t i
        | _ => l

/-- CKPT_BLOCK_TIMEOUT (R426): 20 000 ticks without an acknowledgement. -/
def execCkptBlockTimeout (idx : Fin 30) (s : State) : Host.Outcome State Fault Refusal :=
  s.upd fun l =>
    match l.keeper.tx with
    | none => l
    | some t =>
      match tfind t.sentAt idx with
      | some at_ => if l.kUp && !t.acked.contains idx.val && at_ + 20000 ≤ l.now then l.ckptAgain t idx else l
      | none => l

/-! ## Checkpoints received (R427) -/

/-- The newer of two checkpoint numbers, modulo 2^32 (R338). -/
def seqNewer (a b : Word) : Bool := a ≠ b && (a - b).toNat < 2 ^ 31

/-- Buffer A does not hold the newest complete checkpoint, so it is the one that fills (R427). -/
def Keeper.fillsA (k : Keeper) : Bool :=
  if k.bufA.state ≠ 2 then true else if k.bufB.state ≠ 2 then false else seqNewer k.bufB.seq k.bufA.seq

/-- Set the buffer that fills. -/
def Keeper.setBuf (k : Keeper) (a : Bool) (b : CkptBuf) : Keeper := if a then { k with bufA := b } else { k with bufB := b }

/-- The header fields that block 0 carries (Table 12.7). -/
def ckptHead (d : List Byte) : CkptBuf :=
  let n (o k : Nat) : Nat := leNat (sliceB d o k)
  { state := 1, fmt := BitVec.ofNat 16 (n 0 2), blk := n 2 2, seq := BitVec.ofNat 32 (n 4 4), bond := n 8 8, gen := n 16 8, tick := n 24 6,
    epoch := BitVec.ofNat 16 (n 30 2), log := BitVec.ofNat 32 (n 32 4), len := n 36 4, img := sliceB d 40 32, lag := n 72 4 }

/-- Acknowledge a block. -/
def Live.ckptReply (l : Live) (f : MateHdr) (st : Nat) : Live := l.mateSend 0x03 l.knownEpoch f.seq f.idx.toNat [BitVec.ofNat 8 st]

/-- The block stands in the buffer already: it is sent again because its acknowledgement was lost (R426). -/
def CkptBuf.holds (b : CkptBuf) (f : MateHdr) : Bool := b.state ≠ 0 && b.seq = f.seq && tfind b.blocks f.idx.toNat = some f.data

/-- Store a block in the buffer that fills, and complete it when every block has passed. -/
def Live.ckptStore (l : Live) (f : MateHdr) : Live :=
  let k := l.keeper
  let a := k.fillsA
  let b := if f.idx = 0 then ckptHead f.data else if a then k.bufA else k.bufB
  if k.bufA.holds f || k.bufB.holds f then l.ckptReply f 0
  else if 30 ≤ f.idx.toNat || b.state ≠ 1 || b.seq ≠ f.seq || b.blk ≤ f.idx.toNat || b.blk > 30 then l.ckptReply f 2
  else
    let b := { b with blocks := tset b.blocks f.idx.toNat f.data }
    let full : Bool := b.blocks.length = b.blk
    let b := if full then { b with rcv := l.now, state := 2 } else b
    let l := l.modK fun k => { k.setBuf a b with ckNum := f.seq }
    let l := if full then (l.count 116).modK fun k => { k with ckSeq := b.seq, ckOk := true, ckAt := some (l.now - b.lag) } else l
    l.ckptReply f 0

/-- CKPT_DATA (R424, R426, R427). -/
def execCkptData (f : MateHdr) (s : State) : Host.Outcome State Fault Refusal :=
  s.upd fun l =>
    if !l.kUp then l
    else if !f.crcOk then l.ckptReply f 1
    else if l.keeper.incompat then l.ckptReply f 2
    else l.ckptStore f

/-! ## Loading and restoring (R420 to R422, R428) -/

/-- The 256-byte header of a buffer (Table 12.7): `CKBCRC` over the blocks as they stand, and `CKHCRC`. -/
def CkptBuf.header (b : CkptBuf) : List Byte :=
  let h := leBytes b.fmt.toNat 2 ++ leBytes b.blk 2 ++ leBytes b.seq.toNat 4 ++ leBytes b.bond 8 ++ leBytes b.gen 8 ++ leBytes b.tick 6 ++
    leBytes b.epoch.toNat 2 ++ leBytes b.log.toNat 4 ++ leBytes b.len 4 ++ (b.img ++ List.replicate 32 0).take 32 ++ leBytes b.lag 4 ++
    leBytes b.rcv 6 ++ leBytes b.state 1 ++ leBytes 0 1 ++
    (List.range 30).flatMap (fun i => match tfind b.blocks i with | some x => leBytes (crc32 x) 4 | none => leBytes 0 4) ++ leBytes 0 48
  h ++ leBytes (crc32 h) 4

/-- The octets of a buffer: its header, and the content behind the 76 header octets that block 0 carries (R427). -/
def CkptBuf.octets (b : CkptBuf) : List Byte := b.header ++ (b.blocks.flatMap (·.2)).drop 76

/-- A word of the retention SRAM: buffer A in its lower half, B in its upper one (log entry 92). -/
def Live.retentionWord (l : Live) (a : Nat) : Option Word :=
  let b := (if a < 8192 then l.keeper.bufA else l.keeper.bufB).octets
  if 16384 ≤ a then none
  else if b.length ≤ 4 * (a % 8192) then none else some (BitVec.ofNat 32 (leNat (sliceB b (4 * (a % 8192)) 4)))

/-- A debug write has changed a word that the CRCs of a buffer cover. -/
def Live.bufTouched (l : Live) (upper : Bool) : Bool :=
  l.pins.dbgMem.any (fun p => p.1 = .retention && (8192 ≤ p.2.1) = upper && (l.retentionWord p.2.1).any (· ≠ p.2.2))

/-- A buffer the claimant may load (R428). -/
def Live.ckptGood (l : Live) (upper : Bool) : Bool :=
  let b := if upper then l.keeper.bufB else l.keeper.bufA
  b.state = 2 && b.fmt = 1 && l.now + b.lag ≤ b.rcv + 200000000 && !l.bufTouched upper

/-- The newest buffer that may be loaded. -/
def Live.ckptPick (l : Live) : Option CkptBuf :=
  match l.ckptGood false, l.ckptGood true with
  | false, false => none
  | true, false => some l.keeper.bufA
  | false, true => some l.keeper.bufB
  | true, true => some (if seqNewer l.keeper.bufB.seq l.keeper.bufA.seq then l.keeper.bufB else l.keeper.bufA)

/-- The content of a buffer: its blocks behind the 76 header bytes. -/
def CkptBuf.content (b : CkptBuf) : List Byte := ((b.blocks.flatMap (·.2)).drop 76).take b.len

/-- Cut a content into its sections. -/
def ckptCut : Nat → List Byte → List (Nat × List Byte)
  | 0, _ => []
  | n + 1, b =>
    if b.length < 4 then []
    else
      let len := leNat (sliceB b 2 2)
      (leNat (b.take 2), sliceB b 4 len) :: ckptCut n (b.drop (4 + pad4 len))

/-- What a section of the buffer restores, when the buffer carries it. -/
def CkptBuf.section_ (b : CkptBuf) (ty : Nat) : Option Ckpt :=
  ((ckptCut 32 b.content).find? (fun p => p.1 = ty)).map (fun p => ckptRead (b.rcv - b.lag) ty p.2)

/-- The reference bond count and the time since its stamp (R420): the newer of the checkpoint and the mate's last STATUS. -/
def Live.bondRef (l : Live) : Option (Nat × Nat) :=
  let a := l.keeper.loaded.map (fun b => (b.bond, l.now + b.lag - b.rcv))
  let b := match l.keeper.mateAt with | some t => if l.keeper.mateBond = 0 then none else some (l.keeper.mateBond, l.now - t) | none => none
  match a, b with
  | some x, some y => if y.2 ≤ x.2 then some y else some x
  | some x, none => some x
  | none, y => y

/-- The bond count of the boundary at which the first courses start (R420). -/
def Live.firstBond (l : Live) : Nat :=
  match l.bondRef with
  | none => 0
  | some r => r.1 + cdiv r.2 bondTicks + 1

/-- Power path from the checkpoint (R310). -/
def Live.restorePower (l : Live) (c : Ckpt) : Live :=
  let l := l.forL l.inputNums fun l j =>
    let i := tget {} c.inputs j
    l.modInp j fun x => { x with rhat := i.rhat, vs := i.vs, pmax := (match i.rhat with | some r => (if r = 0 then 0 else i.vs * i.vs / (4 * r)) | none => 0), rlast := i.rlast, khCut := i.khCut, lfsr := i.lfsr, restored := i.st = .sharing || i.st = .guarded }
  let l := l.modPp fun p => { p with x := c.x, st := c.supply, stack := c.stack,
                                     levels := (List.range 48).foldl (fun t r => tput 16 t r (tget 16 c.levels r)) [] }
  let l := l.forL c.stack fun l e => match e with | .shed r => l.modRail r fun k => { k with shedOrd := true } | .capStep _ => l
  l.stackPrune

/-- Gauge from the checkpoint (R343). -/
def Live.restoreGauge (l : Live) (c : Ckpt) (stamp : Nat) : Live :=
  let l := l.forL l.strNums fun l k =>
    let o := tget {} c.strs k
    let l := if !o.live then l else l.modStr k fun s =>
      { s with
        a := o.a, ifs := o.ifs, counting := s.counting || o.counting, rhat := o.rhat, rn := o.rn, rlearn := o.rlearn, measured := o.measured,
        qcap := o.qcap, fade := o.fade, learned := o.learned, nlearn := o.nlearn, tlearn := o.tlearn, tcreate := o.tcreate, socrep := o.socrep,
        started := o.started, fast := o.fast, fulla := o.fulla, emptya := o.emptya, stale := o.stale, uncert := o.uncert, chginh := o.chginh,
        dwin := o.dwin, heat := o.heat, fullRun := o.fullRun, emptyRun := o.emptyRun, fullDone := o.fullDone, emptyDone := o.emptyDone,
        cycle := o.cycle, cycleVoid := o.cycleVoid, seg := o.seg, segVoid := o.segVoid, restRun := o.restRun, demand := o.demand,
        afterAnchor := o.afterAnchor, reset := s.reset || o.reset, resume := some (o.ibar, stamp) }
    l.strUncert k
  { l with gauge := { l.gauge with ex := c.ex, exStr := c.exStr, exHost := c.exHost, exAt := c.exAt, xlast := c.xlast } }

/-- Writes that the last keeper held back (Table 12.8). -/
def Live.restoreHeld (l : Live) (c : Ckpt) : Live :=
  l.forL ((c.held.map (fun b => (GaugeRec.ofBytes b).str)).filter (fun k => (l.str k).live)) fun l k => l.strDue k

/-- Acknowledged levels and grace timers of the ports (Table 12.8). -/
def Live.restoreVcs (l : Live) (c : Ckpt) : Live :=
  l.forL l.railNums fun l r =>
    let o := tget {} c.vcs r
    l.modVr r fun v => { v with ack := o.ack, grace := o.grace }

/-- Thermal points from the checkpoint (R368). -/
def Live.restoreTherm (l : Live) (c : Ckpt) : Live :=
  l.each 288 fun l p =>
    let o := tget {} c.points p
    if o.run then
      l.modPoint p fun k => { k with d1 := o.d1, d2 := o.d2, d3 := o.d3, k := o.k, band := o.band, broken := o.broken, cause := o.cause, fresh := o.fresh, everNtc := o.everNtc, restored := true }
    else l

/-- Rails from the checkpoint (R271, Table 12.8). -/
def Live.restoreRails (l : Live) (c : Ckpt) : Live :=
  l.forL l.railNums fun l r =>
    let o := tget {} c.rails r
    l.modRail r fun k =>
      { k with vt := o.vt, vtLast := o.vtLast, slew := o.slew, slewLast := o.slewLast, intent := o.intent, hiccnt := o.hiccnt,
               members := (List.range 8).foldl (fun t m =>
                 let a := tget {} o.members m
                 tmod {} t m (fun b => { b with removed := a.removed, senseF := a.senseF })) k.members }

/-- Counter bases and the barred list (R422, R533). -/
def Live.restoreCounters (l : Live) (c : Ckpt) : Live :=
  (List.range 128).foldl (fun l n => match tfind c.counters n with | some v => l.setCtr n { val := v.1, ovf := v.2 } | none => l) l
def Live.restoreBarred (l : Live) (c : Ckpt) : Live :=
  let new (u : BitVec 64) : Bool := !l.moor.barred.any (fun q => q.1 = u)
  { l with moor := { l.moor with barred := l.moor.barred ++ c.barred.filter (fun p => new p.1), barBy := l.moor.barBy ++ c.barBy.filter (fun p => new p.1) } }

/-- A section restored, when the buffer carries it. -/
def Live.withSection (l : Live) (b : CkptBuf) (ty : Nat) (f : Live → Ckpt → Live) : Live :=
  match b.section_ ty with | some c => f l c | none => l

/-- Entry to KEEPER: state is restored from the checkpoint (R422).  Without one, or under another image, V_t of each rail is
asked from its `VSENSE` member. -/
def Live.ckptRestore (l : Live) : Live :=
  let askVt (l : Live) : Live :=
    let l := l.modK fun k => { k with vtWait := l.railNums }
    l.forL l.railNums fun l r => match l.memberStn (l.railTile r) (l.cf (oRail r) 0 15 13) with
      | some p => if p.2.st = .matched || p.2.st = .moored then l.paramRead p.1 0 else l
      | none => l
  match l.keeper.loaded with
  | none => askVt l
  | some b =>
    let stamp := b.rcv - b.lag
    let l := l.withSection b 2 (fun l c => l.restoreGauge c stamp)
    let l := l.withSection b 3 Live.restoreTherm
    if l.keeper.sameImg then
      let l := (l.withSection b 8 Live.restoreHeld).withSection b 1 Live.restorePower
      let l := (l.withSection b 4 Live.restoreRails).withSection b 5 Live.restoreVcs
      let l := l.withSection b 6 Live.restoreCounters
      l.withSection b 7 Live.restoreBarred
    else askVt l

/-! ## Claims (R413 to R417) -/

/-- Stations bound to a rule and MATCHED or MOORED. -/
def Live.boundStns (l : Live) : List (Nat × Stn) := l.stns.filter (fun p => p.2.st = .matched || p.2.st = .moored)

/-- WARMING_DONE (Table 12.3): image verified, checkpoint loaded, domains on. -/
def execWarmingDone (s : State) : Host.Outcome State Fault Refusal :=
  s.upd fun l =>
    if l.keeper.st = .warming && l.working && l.img.atStart.isNone then
      let l := (l.keeperTo .waiting).modK fun k => { k with waitBond := l.bond, passSeen := false, readySent := false }
      l.forL (l.stns.map (·.1)) fun l i => l.modStn i fun s => { s with leaseSeen := false, leaseRep := false }
    else l

/-- CLAIM_WAIT_EXPIRY (R413). -/
def execClaimWaitExpiry (s : State) : Host.Outcome State Fault Refusal :=
  s.upd fun l =>
    if l.kUp && (l.keeper.st = .warming || l.keeper.st = .waiting) && l.waitFrom + l.claimTicks ≤ l.now then l.modK fun k => { k with waited := true }
    else l

/-- The claim conditions but the first (R415). -/
def Live.claimReady (l : Live) : Bool :=
  ((List.range 8).all (fun n => l.rate n = 0xF || (l.ring n).st = .running) || l.keeper.waitBond + 8 ≤ l.bond) &&
    l.keeper.passSeen && l.stns.all (fun p => p.2.st ≠ .matched || p.2.leaseSeen) && l.sec.dbg.halted.isEmpty

/-- The claim epoch (R416): 1 plus the newest of those known. -/
def Live.claimEpoch (l : Live) : Half :=
  let e := l.keeper.stored
  let e := match l.keeper.loaded with | some b => newerEpoch b.epoch e | none => e
  let e := if l.keeper.mateAt.isSome then newerEpoch l.keeper.mateEpoch e else e
  let es := (l.stns.filter (fun p => p.2.leaseSeen && p.2.lease.state ≠ 0)).map (fun p => p.2.lease.epoch)
  es.foldl (fun a b => newerEpoch b a) e + 1

/-- HANDOVER_READY once the conditions but the first hold (R431). -/
def Live.readySend (l : Live) : Live :=
  if l.keeper.st = .waiting && l.keeper.handIn && !l.keeper.readySent && l.claimReady then
    (l.mateNote 0x08 l.knownEpoch []).modK fun k => { k with readySent := true }
  else l

/-- CLAIM_START (R415, R416): the epoch is programmed, and the claim starts at the next bond boundary. -/
def execClaimStart (s : State) : Host.Outcome State Fault Refusal :=
  s.upd fun l =>
    let l := l.readySend
    if l.keeper.st = .waiting && l.working && l.claimReady && (l.keeper.waited || l.keeper.goSeen) && !l.hearsA && l.flashProgram then
      let e := l.claimEpoch
      let l := (l.keeperTo .claiming).modK fun k => { k with stored := e, claimDue := true }
      l.mateNote 0x04 e []
    else l

/-- A keeper change (R622): modes and levels of the ports, sessions, events, the gap marker and the log's gap entry. -/
def Live.keeperChange (l : Live) : Live :=
  let l := l.vcKeeper.closeAll
  let k := l.keeper
  let gen := match k.loaded with | some b => b.gen + (l.bond - b.bond) | none => 0
  let l := { l with msgs := { l.msgs with events := [], dis := [], disRun := [], dovfl := false, ngaps := l.msgs.ngaps + 1,
                                          glast := (match k.loaded with | some b => b.gen | none => 0), gbase := gen, gen := gen } }
  let l := l.hostEvent 6 0 0xA000 0
  let last := match k.loaded with | some b => b.log.toNat | none => 0
  l.modFc fun f =>
    { f with details := { code := 0x9006, obj := 0x9FFF, val := BitVec.ofNat 32 last, tick := l.tick } :: f.details,
             nextSeq := if k.loaded.isSome then last else f.nextSeq }

/-- The claim start, at a bond boundary (R406, R416, R417, R622). -/
def Live.claimBegin (l : Live) : Live :=
  let l := l.modK fun k =>
    { k with live := true, epoch := k.stored, claimAt := l.now, claimDue := false, nrefuse := 0, hbout := true, hboutAt := l.now, waited := false,
             goSeen := false, handIn := false }
  let l := (l.count 118).keeperChange
  l.forL (l.boundStns.map (·.1)) fun l i => (l.stateRead i 3).stateRead i 0

/-- CLAIM_WINDOW_END (R417, Table 12.3). -/
def execClaimWindowEnd (s : State) : Host.Outcome State Fault Refusal :=
  s.upd fun l =>
    if l.keeper.st ≠ .claiming || !l.keeper.live then l
    else
      let bs := l.boundStns
      let acc := bs.any (fun p => l.leaseOk p.2)
      if (!bs.isEmpty && bs.all (fun p => l.leaseOk p.2)) || l.keeper.claimAt + l.claimTicks ≤ l.now then
        let n := (bs.filter (fun p => p.2.leaseSeen && p.2.lease.state ≠ 0 && !l.leaseOk p.2)).length
        let l := l.modK fun k => { k with nrefuse := n }
        let l := if n ≠ 0 || !acc then l.raise 0xA005 0xA000 n else l
        if acc then (l.keeperTo .keeper).ckptRestore else l.keeperYield
      else l

/-- DMISS_ALL_SLOTS (R419): every station on the ring is read at once. -/
def execDmissAllSlots (ring : Fin 8) (s : State) : Host.Outcome State Fault Refusal :=
  s.upd fun l =>
    if l.keeper.st = .keeper && 8 ≤ (l.ring ring).dmissRun then
      let l := l.modRing ring fun g => { g with dmissRun := 0 }
      l.forL ((l.boundStns.filter (fun p => p.2.ring = ring.val)).map (·.1)) fun l i => l.stateRead i 3
    else l

/-! ## Planned handover (R431) -/

/-- A host write of `KCMD` waits for the next bond boundary (R433). -/
def execKcmdHandover (s : State) : Host.Outcome State Fault Refusal := s.upd fun l => l.pend 0xA000 1 (put 1 30 2)
def execKcmdAbort (s : State) : Host.Outcome State Fault Refusal := s.upd fun l => l.pend 0xA000 1 (put 2 30 2)

/-- `KCMD` taken at a bond boundary. -/
def Live.kcmd (l : Live) (w : Word) : Live :=
  match fld w 31 30, l.keeper.hand with
  | 1, .none =>
    if l.keeper.st = .keeper && l.keeper.live then (l.mateNote 0x07 l.knownEpoch []).modK fun k => { k with hand := .asked l.now } else l
  | 2, .asked _ => (l.modK fun k => { k with hand := .none }).raise 0xA00B 0xA000
  | _, _ => l

/-- KPR_HANDOVER_FAIL (R431): HANDOVER_READY has not arrived within 2 s. -/
def execKprHandoverFail (s : State) : Host.Outcome State Fault Refusal :=
  s.upd fun l =>
    match l.keeper.hand with
    | .asked t => if t + 400000000 ≤ l.now then (l.modK fun k => { k with hand := .none }).raise 0xA00B 0xA000 else l
    | _ => l

/-- HANDOVER_REQ (R431, Table 12.3): the standby warms and wakes. -/
def execHandoverReq (f : MateHdr) (s : State) : Host.Outcome State Fault Refusal :=
  s.upd fun l =>
    if l.kUp && f.crcOk && l.keeper.st = .watch && !l.retired then
      ((l.modK fun k => { k with handIn := true, readySent := false, goSeen := false }).keeperTo .warming).keeperWake
    else l

/-- HANDOVER_READY (R431): the keeper captures and sends a checkpoint. -/
def execHandoverReady (f : MateHdr) (s : State) : Host.Outcome State Fault Refusal :=
  s.upd fun l =>
    match l.keeper.hand with
    | .asked _ => if l.kUp && f.crcOk then l.modK fun k => { k with hand := .ready } else l
    | _ => l

/-- HANDOVER_GO (R431). -/
def execHandoverGo (f : MateHdr) (s : State) : Host.Outcome State Fault Refusal :=
  s.upd fun l => if l.kUp && f.crcOk && l.keeper.handIn then l.modK fun k => { k with goSeen := true } else l

/-! ## Bond work -/

/-- Lease reads of a bond (R415, R417, R419). -/
def Live.leaseReads (l : Live) : Live :=
  match l.keeper.st with
  | .waiting => l.forL ((l.stns.filter (fun p => p.2.st = .matched && !p.2.leaseSeen)).map (·.1)) fun l i => l.stateRead i 3
  | .claiming => if l.keeper.live then l.forL ((l.boundStns.filter (fun p => !l.leaseOk p.2)).map (·.1)) fun l i => l.stateRead i 3 else l
  | .keeper =>
    let xs := l.stns.filter (fun p => (p.2.known && (l.leaseOther p.2 || !p.2.leaseSeen)) || (p.2.st = .moored && l.bond % 1000 = 0))
    l.forL (xs.map (·.1)) fun l i => l.stateRead i 3
  | _ => l

/-- The checkpoint of a boundary holds the state just published (R425): every 50th bond, and for a handover (R431). -/
def Live.ckptBond (l : Live) : Live :=
  if l.keeper.st = .keeper && l.keeper.live && l.keeper.mateen && l.coresUp then
    (match l.keeper.hand with
     | .ready => if l.keeper.tx.isNone then
         let l := l.ckptCapture
         l.modK fun k => { k with hand := .sending k.ckNum }
       else if l.bond % 50 = 0 then l.ckptCapture else l
     | _ => if l.bond % 50 = 0 then l.ckptCapture else l)
  else l

/-- The keeper core at a bond boundary of a controller that runs bonds: handover release, claim start, reads. -/
def Live.keeperBond (l : Live) : Live :=
  let l := l.releaseCheck
  let l := if l.keeper.releaseDue then
      (l.modK fun k => { k with releaseDue := false, goBond := some l.bond }).releaseYield
    else l
  if !l.working then l
  else
    let l := if l.keeper.claimDue && l.keeper.st = .claiming then l.claimBegin else l
    l.readySend.leaseReads

end Sys2Proof.Machine
end

