-- ==== Sys2Proof/Machine/Layout.lean ====
section
/-! DEFINITION. The objects and fields that the Layout Descriptor Table describes (R449 to R451), with the ranges
that each chapter states, and the table itself as words. -/
namespace Sys2Proof.Machine

/-- A field: its word and bits; access 0 RO, 1 RW, 2 W1C, 3 WO; effect 0 through a commit, 1 at the next bond
boundary, 2 published, 3 on the write; name; unit, exponent, offset, scale and sign (Table 13.10); the values that
its chapter allows. -/
structure Fd where
  word : Nat
  hi   : Nat
  lo   : Nat
  acc  : Nat
  eff  : Nat
  name : String
  unit : Nat := 0
  exp  : Int := 0
  off  : Int := 0
  num  : Int := 1
  den  : Nat := 1
  sign : Bool := false
  min  : Nat := 0
  max  : Nat := 0xFFFFFFFF
  also : Option Nat := none
  deriving DecidableEq, Repr

/-- A range of objects (Table 13.9): first and last identifier, words, fields. -/
structure Lay where
  first  : Nat
  last   : Nat
  nwords : Nat
  fields : List Fd
  deriving DecidableEq, Repr

def fd (word hi lo acc eff : Nat) (name : String) : Fd := { word, hi, lo, acc, eff, name }
/-- Unit and decimal exponent, offset, scale, sign, range, and one further value that is allowed. -/
def Fd.un (f : Fd) (u : Nat) (e : Int) : Fd := { f with unit := u, exp := e }
def Fd.of (f : Fd) (o : Int) : Fd := { f with off := o }
def Fd.sc (f : Fd) (n : Int) (d : Nat) : Fd := { f with num := n, den := d }
def Fd.sg (f : Fd) : Fd := { f with sign := true }
def Fd.rg (f : Fd) (lo hi : Nat) : Fd := { f with min := lo, max := hi }
def Fd.al (f : Fd) (v : Nat) : Fd := { f with also := some v }

/-! ## The tables of fields -/

def lay_ldt : List Fd :=
  [ fd 0 31 16 0 2 "LSCHEMA",
    fd 0 15 0 0 2 "LWORDS",
    fd 1 31 0 0 2 "LSEQ",
    fd 2 31 16 0 2 "LSMIN",
    fd 2 15 0 0 2 "LSMAX",
    fd 3 31 16 0 2 "LSTROFF",
    fd 3 15 8 0 2 "LNLAY" ]

def lay_image : List Fd :=
  [ fd 0 31 0 0 2 "IHASH",
    fd 1 31 0 0 2 "IHASH",
    fd 2 31 0 0 2 "IHASH",
    fd 3 31 0 0 2 "IHASH",
    fd 4 31 0 0 2 "IHASH",
    fd 5 31 0 0 2 "IHASH",
    fd 6 31 0 0 2 "IHASH",
    fd 7 31 0 0 2 "IHASH",
    fd 8 31 0 0 2 "ISEQNOW",
    fd 9 31 16 0 2 "ISCHNOW",
    fd 9 15 14 0 2 "ISLOT" |>.un 15 0,
    fd 9 13 13 0 2 "ISIGNED" |>.un 15 0,
    fd 9 12 12 0 2 "IPEND" |>.un 15 0,
    fd 10 31 0 0 2 "IACTB" |>.un 12 0 ]

def lay_ring : List Fd :=
  [ fd 0 31 29 0 2 "STATE" |>.un 15 0,
    fd 0 28 23 0 2 "PAIRS",
    fd 0 22 21 0 2 "RETRY",
    fd 0 20 18 0 2 "LBAND" |>.un 15 0,
    fd 0 17 12 0 2 "HOPS",
    fd 0 11 0 0 2 "DELAY" |>.un 6 (-10) |>.sc 4 1,
    fd 1 31 28 1 0 "RATE" |>.un 15 0 |>.rg 0 8 |>.al 15,
    fd 1 27 24 1 0 "DSLOTS" |>.rg 0 8,
    fd 1 23 16 1 0 "LCONV" |>.un 6 (-9) |>.sc 4 1 ]

def lay_station : List Fd :=
  [ fd 0 31 29 0 2 "STATE" |>.un 15 0,
    fd 0 28 26 0 2 "REASON" |>.un 15 0,
    fd 0 25 23 0 2 "RING",
    fd 0 22 17 0 2 "HOP",
    fd 0 16 12 0 2 "SLOT",
    fd 0 11 10 0 2 "BRICKS" |>.of (1),
    fd 0 9 9 0 2 "BUOYST" |>.un 15 0,
    fd 0 8 8 0 2 "ALARM" |>.un 15 0,
    fd 0 7 0 0 2 "TILE",
    fd 1 31 0 0 2 "UID",
    fd 2 31 0 0 2 "UID",
    fd 3 15 0 0 2 "VENDOR" |>.un 15 0,
    fd 3 23 16 0 2 "TYPEB" |>.un 15 0,
    fd 3 31 24 0 2 "DESCVER",
    fd 4 15 0 0 2 "FWVER",
    fd 4 31 16 0 2 "VFS" |>.un 1 (-2),
    fd 5 15 0 0 2 "IFS" |>.un 2 (-2),
    fd 5 31 16 0 2 "VRATE" |>.un 1 (-2),
    fd 6 15 0 0 2 "IRATE" |>.un 2 (-2),
    fd 6 31 16 0 2 "PRATE" |>.un 3 0,
    fd 7 15 0 0 2 "RLAT" |>.un 6 (-12) |>.sc 10 1,
    fd 7 31 16 0 2 "LOSS" |>.un 3 (-2),
    fd 8 15 0 0 2 "LOSS" |>.un 255 0,
    fd 8 31 16 0 2 "LOSS" |>.un 255 0,
    fd 9 15 0 0 2 "LOSS" |>.un 255 0,
    fd 9 31 16 0 2 "THERM" |>.un 255 0,
    fd 10 15 0 0 2 "THERM" |>.un 255 0,
    fd 11 15 0 0 2 "THERM" |>.un 255 0,
    fd 10 31 16 0 2 "THERM" |>.un 255 0,
    fd 11 31 16 0 2 "THERM" |>.un 255 0,
    fd 12 15 0 0 2 "THERM" |>.un 255 0,
    fd 12 23 16 0 2 "TDER" |>.un 5 0 |>.of (-64),
    fd 12 31 24 0 2 "TMAX" |>.un 5 0 |>.of (-64),
    fd 13 7 0 0 2 "AUXS12" |>.un 15 0,
    fd 13 15 8 0 2 "AUXS3" |>.un 15 0,
    fd 13 31 16 0 2 "BUOYHOLD" |>.un 6 0,
    fd 14 15 0 0 2 "DEFSET" |>.un 255 0,
    fd 14 31 16 0 2 "DEFILIM" |>.un 255 0,
    fd 15 7 0 0 2 "RATES" |>.un 15 0,
    fd 16 31 0 0 2 "DCRC" ]

def lay_tile : List Fd :=
  [ fd 0 2 0 1 0 "KIND" |>.un 15 0 |>.rg 0 4,
    fd 0 10 8 1 0 "ZONE",
    fd 0 31 16 1 0 "PMAIN" |>.rg 0 8191,
    fd 1 15 0 1 0 "PREBASE" |>.rg 0 8191,
    fd 1 23 16 1 0 "PRIO",
    fd 1 24 24 1 0 "DECIM" |>.un 15 0,
    fd 1 25 25 1 0 "BANK" |>.un 15 0,
    fd 1 26 26 1 0 "FRESH" |>.un 15 0,
    fd 2 3 0 1 0 "LANE" |>.rg 0 7 |>.al 15,
    fd 2 23 16 0 2 "OVR",
    fd 2 31 24 0 2 "TSTATE" |>.un 15 0,
    fd 3 15 0 1 0 "RCBASE",
    fd 3 25 16 1 0 "RCLEN" |>.of (1),
    fd 3 26 26 1 0 "RCEN" |>.un 15 0,
    fd 4 25 25 1 0 "INTEG" |>.un 15 0,
    fd 5 25 25 1 0 "INTEG" |>.un 15 0,
    fd 6 25 25 1 0 "INTEG" |>.un 15 0,
    fd 7 25 25 1 0 "INTEG" |>.un 15 0,
    fd 8 25 25 1 0 "INTEG" |>.un 15 0,
    fd 9 25 25 1 0 "INTEG" |>.un 15 0,
    fd 10 25 25 1 0 "INTEG" |>.un 15 0,
    fd 11 25 25 1 0 "INTEG" |>.un 15 0,
    fd 12 25 25 1 0 "INTEG" |>.un 15 0,
    fd 13 25 25 1 0 "INTEG" |>.un 15 0,
    fd 14 25 25 1 0 "INTEG" |>.un 15 0,
    fd 15 25 25 1 0 "INTEG" |>.un 15 0,
    fd 16 25 25 1 0 "INTEG" |>.un 15 0,
    fd 17 25 25 1 0 "INTEG" |>.un 15 0,
    fd 18 25 25 1 0 "INTEG" |>.un 15 0,
    fd 19 25 25 1 0 "INTEG" |>.un 15 0,
    fd 4 24 24 0 2 "SAT" |>.un 15 0,
    fd 5 24 24 0 2 "SAT" |>.un 15 0,
    fd 6 24 24 0 2 "SAT" |>.un 15 0,
    fd 7 24 24 0 2 "SAT" |>.un 15 0,
    fd 8 24 24 0 2 "SAT" |>.un 15 0,
    fd 9 24 24 0 2 "SAT" |>.un 15 0,
    fd 10 24 24 0 2 "SAT" |>.un 15 0,
    fd 11 24 24 0 2 "SAT" |>.un 15 0,
    fd 12 24 24 0 2 "SAT" |>.un 15 0,
    fd 13 24 24 0 2 "SAT" |>.un 15 0 ] ++
  [ fd 14 24 24 0 2 "SAT" |>.un 15 0,
    fd 15 24 24 0 2 "SAT" |>.un 15 0,
    fd 16 24 24 0 2 "SAT" |>.un 15 0,
    fd 17 24 24 0 2 "SAT" |>.un 15 0,
    fd 18 24 24 0 2 "SAT" |>.un 15 0,
    fd 19 24 24 0 2 "SAT" |>.un 15 0,
    fd 4 23 0 0 2 "VALUE" |>.sg |>.sc 1 1,
    fd 5 23 0 0 2 "VALUE" |>.sg |>.sc 1 1,
    fd 6 23 0 0 2 "VALUE" |>.sg |>.sc 1 1,
    fd 7 23 0 0 2 "VALUE" |>.sg |>.sc 1 1,
    fd 8 23 0 0 2 "VALUE" |>.sg |>.sc 1 1,
    fd 9 23 0 0 2 "VALUE" |>.sg |>.sc 1 1,
    fd 10 23 0 0 2 "VALUE" |>.sg |>.sc 1 1,
    fd 11 23 0 0 2 "VALUE" |>.sg |>.sc 1 1,
    fd 12 23 0 0 2 "VALUE" |>.sg |>.sc 1 1,
    fd 13 23 0 0 2 "VALUE" |>.sg |>.sc 1 1,
    fd 14 23 0 0 2 "VALUE" |>.sg |>.sc 1 1,
    fd 15 23 0 0 2 "VALUE" |>.sg |>.sc 1 1,
    fd 16 23 0 0 2 "VALUE" |>.sg |>.sc 1 1,
    fd 17 23 0 0 2 "VALUE" |>.sg |>.sc 1 1,
    fd 18 23 0 0 2 "VALUE" |>.sg |>.sc 1 1,
    fd 19 23 0 0 2 "VALUE" |>.sg |>.sc 1 1,
    fd 20 31 0 1 0 "CA" |>.sg |>.un 255 0,
    fd 21 31 0 1 0 "CA" |>.sg |>.un 255 0,
    fd 22 31 0 1 0 "CA" |>.sg |>.un 255 0,
    fd 23 31 0 1 0 "CA" |>.sg |>.un 255 0,
    fd 24 31 0 1 0 "CA" |>.sg |>.un 255 0,
    fd 25 31 0 1 0 "CA" |>.sg |>.un 255 0,
    fd 26 31 0 1 0 "CA" |>.sg |>.un 255 0,
    fd 27 31 0 1 0 "CA" |>.sg |>.un 255 0,
    fd 28 31 0 1 0 "CA" |>.sg |>.un 255 0,
    fd 29 31 0 1 0 "CA" |>.sg |>.un 255 0,
    fd 30 31 0 1 0 "CA" |>.sg |>.un 255 0,
    fd 31 31 0 1 0 "CA" |>.sg |>.un 255 0,
    fd 32 31 0 1 0 "CA" |>.sg |>.un 255 0,
    fd 33 31 0 1 0 "CA" |>.sg |>.un 255 0,
    fd 34 31 0 1 0 "CA" |>.sg |>.un 255 0,
    fd 35 31 0 1 0 "CA" |>.sg |>.un 255 0,
    fd 36 31 0 1 0 "CB" |>.sg |>.un 255 0,
    fd 37 31 0 1 0 "CB" |>.sg |>.un 255 0 ] ++
  [ fd 38 31 0 1 0 "CB" |>.sg |>.un 255 0,
    fd 39 31 0 1 0 "CB" |>.sg |>.un 255 0,
    fd 40 31 0 1 0 "CB" |>.sg |>.un 255 0,
    fd 41 31 0 1 0 "CB" |>.sg |>.un 255 0,
    fd 42 31 0 1 0 "CB" |>.sg |>.un 255 0,
    fd 43 31 0 1 0 "CB" |>.sg |>.un 255 0,
    fd 44 31 0 1 0 "CB" |>.sg |>.un 255 0,
    fd 45 31 0 1 0 "CB" |>.sg |>.un 255 0,
    fd 46 31 0 1 0 "CB" |>.sg |>.un 255 0,
    fd 47 31 0 1 0 "CB" |>.sg |>.un 255 0,
    fd 48 31 0 1 0 "CB" |>.sg |>.un 255 0,
    fd 49 31 0 1 0 "CB" |>.sg |>.un 255 0,
    fd 50 31 0 1 0 "CB" |>.sg |>.un 255 0,
    fd 51 31 0 1 0 "CB" |>.sg |>.un 255 0,
    fd 52 15 0 1 0 "IN" |>.un 15 0,
    fd 53 15 0 1 0 "IN" |>.un 15 0,
    fd 54 15 0 1 0 "IN" |>.un 15 0,
    fd 55 15 0 1 0 "IN" |>.un 15 0,
    fd 52 31 16 1 0 "IN" |>.un 15 0,
    fd 53 31 16 1 0 "IN" |>.un 15 0,
    fd 54 31 16 1 0 "IN" |>.un 15 0,
    fd 55 31 16 1 0 "IN" |>.un 15 0,
    fd 56 15 0 1 0 "OUT" |>.un 15 0,
    fd 57 15 0 1 0 "OUT" |>.un 15 0,
    fd 56 31 16 1 0 "OUT" |>.un 15 0,
    fd 57 31 16 1 0 "OUT" |>.un 15 0,
    fd 58 31 0 1 0 "VUNIT" |>.un 1 (-6),
    fd 59 31 0 1 0 "IUNIT" |>.un 2 (-6),
    fd 60 31 0 1 0 "OMAX" |>.sg |>.un 255 0,
    fd 61 31 0 1 0 "OMIN" |>.sg |>.un 255 0,
    fd 62 15 0 1 0 "RCPER" |>.un 13 0 |>.rg 0 1024,
    fd 62 19 16 1 0 "RCSYNC",
    fd 62 31 24 1 0 "RCLEAD" |>.un 13 0,
    fd 63 7 0 1 0 "RCQ" |>.sc 1 256,
    fd 63 15 8 1 0 "RCL" |>.sc 1 256 ] ++
  (List.range 8).map (fun n => fd (64 + n) 31 0 0 2 "PUB" |>.sg |>.un 255 0)

def lay_engine : List Fd :=
  [ fd 0 31 24 1 1 "VCPIN" |>.un 255 0,
    fd 0 23 21 0 2 "EBAND" |>.un 15 0,
    fd 0 20 20 0 2 "DECACT" |>.un 15 0,
    fd 0 19 12 0 2 "VCNOW" |>.un 255 0 ]

def lay_rail : List Fd :=
  [ fd 0 31 24 1 0 "TILE" |>.rg 0 159,
    fd 0 23 20 1 0 "NCFG" |>.rg 1 8,
    fd 0 19 16 1 0 "NMIN" |>.rg 1 15,
    fd 0 15 13 1 0 "VSENSE",
    fd 0 12 10 1 0 "SSSLEW" |>.un 15 0,
    fd 0 9 7 1 0 "FBSLEW" |>.un 15 0,
    fd 0 6 6 1 0 "ROTMODE" |>.un 15 0,
    fd 0 5 5 1 0 "FBMODE" |>.un 15 0,
    fd 0 4 4 1 0 "OFFMODE" |>.un 15 0,
    fd 0 3 3 1 0 "SHEDEN" |>.un 15 0,
    fd 0 2 2 1 0 "PREBIAS" |>.un 15 0,
    fd 0 1 1 1 0 "AUTOON" |>.un 15 0,
    fd 1 31 16 1 0 "RATING" |>.un 2 (-2),
    fd 1 15 8 1 0 "ILIM" |>.sc 1 128,
    fd 1 7 0 1 0 "FMIN" |>.sc 1 256,
    fd 2 31 16 1 0 "VMAX" |>.un 1 (-3),
    fd 2 15 0 1 0 "VMIN" |>.un 1 (-3),
    fd 3 31 16 1 0 "VBOOT" |>.un 1 (-3),
    fd 3 15 0 1 0 "VINREF" |>.un 1 (-3),
    fd 4 31 24 1 0 "OVW" |>.un 14 (-1) |>.sc 5 1,
    fd 4 23 16 1 0 "UVW" |>.un 14 (-1) |>.sc 5 1,
    fd 4 15 12 1 0 "OVN" |>.un 13 0 |>.rg 1 15,
    fd 4 11 4 1 0 "UVN" |>.un 13 0 |>.rg 1 255,
    fd 5 31 24 1 0 "FBTIME" |>.un 6 (-3) |>.rg 1 255,
    fd 5 23 16 1 0 "HICTIME" |>.un 6 (-2) |>.rg 1 100,
    fd 5 15 12 1 0 "HICMAX",
    fd 5 11 0 1 0 "SHDWELL" |>.un 6 (-4) |>.rg 1 4095,
    fd 6 31 24 1 0 "SHADD" |>.un 14 0,
    fd 6 23 16 1 0 "HYST" |>.un 14 0,
    fd 6 15 8 1 0 "STEPTH" |>.sc 1 128,
    fd 6 7 0 1 0 "OPENTH" |>.un 14 0,
    fd 7 31 30 3 1 "OP" |>.un 15 0,
    fd 7 29 28 3 1 "ROP" |>.un 15 0 |>.rg 0 1,
    fd 7 27 20 3 1 "PMASK" |>.un 15 0,
    fd 8 31 16 1 1 "VSET" |>.un 1 (-3),
    fd 8 15 13 1 1 "HSLEW" |>.un 15 0,
    fd 9 31 29 0 2 "RSTATE" |>.un 15 0,
    fd 9 28 25 0 2 "NACT",
    fd 9 24 21 0 2 "NROT",
    fd 9 20 18 0 2 "FIRST" ] ++
  [ fd 9 17 17 0 2 "RAMP" |>.un 15 0,
    fd 9 16 16 0 2 "CAPPED" |>.un 15 0,
    fd 9 15 8 0 2 "REMOVED" |>.un 15 0,
    fd 9 7 0 0 2 "SENSEF" |>.un 15 0,
    fd 10 31 0 0 2 "VTARGET" |>.un 1 (-6),
    fd 11 31 0 0 2 "VEFF" |>.un 1 (-6),
    fd 12 31 0 0 2 "VOUT" |>.un 1 (-6),
    fd 13 31 0 0 2 "IOUT" |>.un 2 (-3) |>.sg,
    fd 14 31 16 0 2 "RNOW" |>.un 2 (-2),
    fd 14 15 0 0 2 "ILIMNOW" |>.un 2 (-2),
    fd 15 31 24 0 2 "SHED" |>.un 15 0,
    fd 15 23 20 0 2 "HICCNT",
    fd 15 19 16 0 2 "CAUSE" |>.un 15 0 ]

def lay_vcport : List Fd :=
  [ fd 0 31 26 1 0 "RAIL0" |>.rg 0 47 |>.al 63,
    fd 0 25 20 1 0 "RAIL1" |>.rg 0 47 |>.al 63,
    fd 0 19 14 1 0 "RAIL2" |>.rg 0 47 |>.al 63,
    fd 0 13 8 1 0 "RAIL3" |>.rg 0 47 |>.al 63,
    fd 0 7 7 1 0 "PEN" |>.un 15 0,
    fd 0 6 0 1 0 "CAPGRACE" |>.un 6 (-3) |>.rg 1 100,
    fd 1 31 24 1 0 "STOLP" |>.un 14 (-1) |>.rg 1 100,
    fd 1 23 16 1 0 "STOLV" |>.un 1 (-3) |>.rg 1 255,
    fd 1 15 8 1 0 "SETTO" |>.un 6 (-3) |>.rg 1 255,
    fd 1 7 5 1 0 "SLMAX" |>.un 15 0,
    fd 2 31 28 0 2 "PENDING" |>.un 15 0,
    fd 2 27 27 0 2 "ALERTED" |>.un 15 0,
    fd 2 26 24 0 2 "MODE0" |>.un 15 0,
    fd 2 23 21 0 2 "MODE1" |>.un 15 0,
    fd 2 20 18 0 2 "MODE2" |>.un 15 0,
    fd 2 17 15 0 2 "MODE3" |>.un 15 0,
    fd 3 31 0 0 2 "LASTCMD" |>.un 15 0,
    fd 4 31 27 0 2 "CAPL0",
    fd 4 26 22 0 2 "ACKL0",
    fd 4 21 21 0 2 "GRACE0" |>.un 15 0,
    fd 4 15 11 0 2 "CAPL1",
    fd 4 10 6 0 2 "ACKL1",
    fd 4 5 5 0 2 "GRACE1" |>.un 15 0,
    fd 5 31 27 0 2 "CAPL2",
    fd 5 26 22 0 2 "ACKL2",
    fd 5 21 21 0 2 "GRACE2" |>.un 15 0,
    fd 5 15 11 0 2 "CAPL3",
    fd 5 10 6 0 2 "ACKL3",
    fd 5 5 5 0 2 "GRACE3" |>.un 15 0 ]

def lay_input : List Fd :=
  [ fd 0 31 16 1 0 "ICLS" |>.un 2 (-4),
    fd 0 15 0 1 0 "PCLS" |>.un 3 0,
    fd 1 31 31 1 0 "MAINS" |>.un 15 0,
    fd 2 31 30 1 1 "PINMODE" |>.un 15 0 |>.rg 0 2,
    fd 2 15 0 1 1 "PINP" |>.un 3 0,
    fd 3 31 29 0 2 "ISTATE" |>.un 15 0,
    fd 3 28 28 0 2 "EVALID" |>.un 15 0,
    fd 3 27 27 0 2 "PINNED" |>.un 15 0,
    fd 3 23 16 0 2 "KAPPA" |>.sc 1 200,
    fd 3 15 8 0 2 "GTRIPS",
    fd 3 7 0 0 2 "KHNOW" |>.sc 1 200,
    fd 4 31 16 0 2 "RLOOP" |>.un 4 (-1),
    fd 4 15 0 0 2 "VSEND" |>.un 1 (-1),
    fd 5 31 16 0 2 "PMAXE" |>.un 3 (-1),
    fd 5 15 0 0 2 "CEIL" |>.un 3 (-1),
    fd 6 31 16 0 2 "PNOW" |>.un 3 (-1),
    fd 6 15 0 0 2 "IREF" |>.un 2 (-4) ]

def lay_power : List Fd :=
  [ fd 0 31 16 1 0 "VBUS" |>.un 1 (-3),
    fd 0 15 8 1 0 "VASSIST" |>.un 1 (-2),
    fd 0 7 0 1 0 "VDIP" |>.un 1 (-2),
    fd 1 31 16 1 0 "VHOLD" |>.un 1 (-3),
    fd 1 15 0 1 0 "VMINBUS" |>.un 1 (-3),
    fd 2 31 16 1 0 "CBUS" |>.un 8 (-4),
    fd 2 15 8 1 0 "ETAVIN" |>.un 14 0,
    fd 2 7 0 1 0 "ETARAIL" |>.un 14 0,
    fd 3 31 24 1 0 "KH" |>.sc 1 200,
    fd 3 23 16 1 0 "GTRIP" |>.sc 1 200,
    fd 3 15 8 1 0 "GBACK" |>.sc 1 200,
    fd 3 7 0 1 0 "DITH" |>.un 14 (-1) |>.rg 5 50,
    fd 4 31 16 1 0 "ESTWIN" |>.un 12 0 |>.rg 32 4096,
    fd 4 15 0 1 0 "GHOLD" |>.un 12 0 |>.rg 1 60000,
    fd 5 31 24 1 0 "RSOC" |>.un 14 0,
    fd 5 23 16 1 0 "PROBE" |>.un 14 0 |>.rg 5 50,
    fd 5 15 0 1 0 "PASTR" |>.un 3 0,
    fd 6 31 24 1 0 "CAPSTEP" |>.rg 1 16,
    fd 6 23 16 1 0 "CAPGAP" |>.un 12 0 |>.rg 1 255,
    fd 6 15 8 1 0 "SHEDGAP" |>.un 12 0 |>.rg 1 255,
    fd 6 7 0 1 0 "CAPWAIT" |>.un 12 0 |>.rg 1 255,
    fd 7 31 16 1 0 "RELDWELL" |>.un 12 0,
    fd 7 15 8 1 0 "FREL" |>.sc 1 200,
    fd 7 7 0 1 0 "THOLD" |>.un 6 (-3) |>.rg 1 255,
    fd 8 31 16 1 0 "SHKP" |>.un 255 0,
    fd 8 15 0 1 0 "SHKI" |>.un 255 (-1),
    fd 9 31 28 1 0 "VBADC",
    fd 9 27 24 1 0 "ILADC",
    fd 9 23 23 1 0 "ILEN" |>.un 15 0,
    fd 9 15 0 1 0 "EJRNL" |>.un 7 (-3),
    fd 10 31 16 1 0 "VBFS" |>.un 1 (-2),
    fd 10 15 0 1 0 "ILFS" |>.un 2 (-2),
    fd 11 31 31 1 1 "ASSOFF" |>.un 15 0,
    fd 12 31 29 0 2 "PSTATE" |>.un 15 0,
    fd 12 28 23 0 2 "CAPN",
    fd 12 22 17 0 2 "SHEDN",
    fd 12 16 16 0 2 "FINAL" |>.un 15 0,
    fd 12 15 0 0 2 "SHARE" |>.sc 1 32768,
    fd 13 31 16 0 2 "SUMC" |>.un 3 0,
    fd 13 15 0 0 2 "PINSUM" |>.un 3 0 ] ++
  [ fd 14 31 16 0 2 "VBUSNOW" |>.un 1 (-3),
    fd 14 15 0 0 2 "GRANT" |>.un 3 0,
    fd 15 31 16 0 2 "EBUS" |>.un 7 (-2),
    fd 15 15 0 0 2 "CUSED" |>.un 8 (-4) ]

def lay_string : List Fd :=
  [ fd 0 31 24 1 0 "TILE",
    fd 0 23 22 1 0 "TSRC" |>.un 15 0 |>.rg 0 2,
    fd 0 21 21 1 0 "LMODE" |>.un 15 0,
    fd 0 15 0 1 0 "QNOM" |>.un 9 (-2),
    fd 1 31 16 1 0 "VFULL" |>.un 1 (-3),
    fd 1 15 0 1 0 "VEMPTY" |>.un 1 (-3),
    fd 2 31 16 1 0 "ITERM" |>.un 2 (-2),
    fd 2 15 8 1 0 "TTERM" |>.un 6 0 |>.rg 1 255,
    fd 2 7 0 1 0 "TEMPTY" |>.un 12 0 |>.rg 1 255,
    fd 3 31 16 1 0 "DIMIN" |>.un 2 (-2),
    fd 3 15 8 1 0 "IREST" |>.un 2 (-2),
    fd 3 7 0 1 0 "RTC" |>.un 255 (-2),
    fd 4 31 16 1 0 "RINIT" |>.un 4 (-5),
    fd 4 15 8 1 0 "FADEK" |>.sc 1 256,
    fd 4 7 0 1 0 "FADEMIN" |>.sc 1 256,
    fd 5 31 24 1 0 "TCHMIN" |>.un 5 0 |>.of (-64),
    fd 5 23 16 1 0 "TCHMAX" |>.un 5 0 |>.of (-64),
    fd 5 15 8 1 0 "TDMIN" |>.un 5 0 |>.of (-64),
    fd 5 7 0 1 0 "TDMAX" |>.un 5 0 |>.of (-64),
    fd 6 31 24 1 0 "THEAT" |>.un 5 0 |>.of (-64),
    fd 6 23 16 1 0 "TLMIN" |>.un 5 0 |>.of (-64),
    fd 6 15 8 1 0 "TLMAX" |>.un 5 0 |>.of (-64),
    fd 6 7 0 1 0 "QJUMP" |>.un 14 0 |>.rg 1 50,
    fd 7 31 16 1 0 "STALEDAYS" |>.un 6 2 |>.sc 864 1,
    fd 7 15 8 1 0 "RCONV" |>.un 255 (-1),
    fd 7 7 0 1 0 "RFAST" |>.un 255 (-1),
    fd 8 31 24 1 0 "DODMIN" |>.un 14 0,
    fd 8 23 16 1 0 "CRMAX" |>.un 255 (-2),
    fd 8 15 8 1 0 "TREST" |>.un 6 1 |>.sc 6 1,
    fd 8 7 0 1 0 "JMIN" |>.un 6 2 |>.sc 36 1,
    fd 9 31 24 1 0 "JPER" |>.un 6 2 |>.sc 36 1,
    fd 9 23 23 1 0 "HTEN" |>.un 15 0,
    fd 9 22 19 1 0 "HTGPIO",
    fd 9 18 18 1 0 "PKEN" |>.un 15 0,
    fd 9 17 17 1 0 "PKPORT",
    fd 9 16 10 1 0 "PKADDR",
    fd 9 9 2 1 0 "PKREG",
    fd 10 31 16 1 0 "PEX" |>.un 3 0,
    fd 11 31 30 3 1 "GCMD" |>.un 15 0 |>.rg 0 1,
    fd 12 31 16 0 2 "SOCREP" |>.un 14 (-2) ] ++
  [ fd 12 15 0 0 2 "SOCCNT" |>.un 14 (-2),
    fd 13 31 16 0 2 "QCAP" |>.un 9 (-2),
    fd 13 15 0 0 2 "QEFF" |>.un 9 (-2),
    fd 14 31 0 0 2 "QREM" |>.un 9 (-3) |>.sg,
    fd 15 31 16 0 2 "RSTR" |>.un 4 (-5),
    fd 15 15 0 0 2 "RNORM" |>.un 4 (-5),
    fd 16 31 31 0 2 "FULLA" |>.un 15 0,
    fd 16 30 30 0 2 "EMPTYA" |>.un 15 0,
    fd 16 29 29 0 2 "STALE" |>.un 15 0,
    fd 16 28 28 0 2 "UNCERT" |>.un 15 0,
    fd 16 27 27 0 2 "CHGINH" |>.un 15 0,
    fd 16 26 26 0 2 "DWIN" |>.un 15 0,
    fd 16 25 25 0 2 "HEAT" |>.un 15 0,
    fd 16 24 24 0 2 "CYCLE" |>.un 15 0,
    fd 16 23 16 0 2 "FADE" |>.sc 1 256,
    fd 16 15 8 0 2 "TCELL" |>.un 5 0 |>.of (-64),
    fd 17 31 0 0 2 "TLEARN" |>.un 6 0,
    fd 18 31 16 1 0 "OCVT" |>.un 1 (-3),
    fd 19 31 16 1 0 "OCVT" |>.un 1 (-3),
    fd 20 31 16 1 0 "OCVT" |>.un 1 (-3),
    fd 21 31 16 1 0 "OCVT" |>.un 1 (-3),
    fd 22 31 16 1 0 "OCVT" |>.un 1 (-3),
    fd 23 31 16 1 0 "OCVT" |>.un 1 (-3),
    fd 24 31 16 1 0 "OCVT" |>.un 1 (-3),
    fd 25 31 16 1 0 "OCVT" |>.un 1 (-3),
    fd 18 15 0 1 0 "OCVT" |>.un 1 (-3),
    fd 19 15 0 1 0 "OCVT" |>.un 1 (-3),
    fd 20 15 0 1 0 "OCVT" |>.un 1 (-3),
    fd 21 15 0 1 0 "OCVT" |>.un 1 (-3),
    fd 22 15 0 1 0 "OCVT" |>.un 1 (-3),
    fd 23 15 0 1 0 "OCVT" |>.un 1 (-3),
    fd 24 15 0 1 0 "OCVT" |>.un 1 (-3),
    fd 25 15 0 1 0 "OCVT" |>.un 1 (-3) ]

def lay_gauge : List Fd :=
  [ fd 0 31 16 1 0 "EXDAYS" |>.un 6 2 |>.sc 864 1,
    fd 0 15 8 1 0 "EXHOUR" |>.un 6 2 |>.sc 36 1 |>.rg 0 23,
    fd 1 31 16 1 0 "EXRES" |>.un 10 0,
    fd 2 31 30 3 1 "XCMD" |>.un 15 0 |>.rg 0 2,
    fd 2 29 26 3 1 "XSTR",
    fd 3 31 30 0 2 "XSTATE" |>.un 15 0,
    fd 3 29 26 0 2 "XSTRING",
    fd 4 31 0 0 2 "XLAST" |>.un 6 0 ]

def lay_point : List Fd :=
  [ fd 0 31 29 0 2 "PBAND" |>.un 15 0,
    fd 0 28 28 0 2 "BROKEN" |>.un 15 0,
    fd 0 27 26 0 2 "BCAUSE" |>.un 15 0,
    fd 0 25 25 0 2 "AMBFB" |>.un 15 0,
    fd 0 24 16 0 2 "THETA" |>.sc 1 256,
    fd 0 15 0 0 2 "THS" |>.un 5 (-2) |>.sg,
    fd 1 31 16 0 2 "PLOSS" |>.un 3 (-3),
    fd 1 15 0 0 2 "KCORR" |>.un 5 (-2) |>.sg,
    fd 2 31 16 0 2 "TNTC" |>.un 5 (-2) |>.sg,
    fd 2 15 0 0 2 "TAMB" |>.un 5 (-2) |>.sg ]

def lay_auxpoint : List Fd :=
  [ fd 0 31 29 0 2 "PBAND" |>.un 15 0,
    fd 0 28 28 0 2 "BROKEN" |>.un 15 0,
    fd 0 27 26 0 2 "BCAUSE" |>.un 15 0,
    fd 0 25 25 0 2 "AMBFB" |>.un 15 0,
    fd 0 24 16 0 2 "THETA" |>.sc 1 256,
    fd 0 15 0 0 2 "THS" |>.un 5 (-2) |>.sg,
    fd 1 31 16 0 2 "PLOSS" |>.un 3 (-3),
    fd 1 15 0 0 2 "KCORR" |>.un 5 (-2) |>.sg,
    fd 2 31 16 0 2 "TNTC" |>.un 5 (-2) |>.sg,
    fd 2 15 0 0 2 "TAMB" |>.un 5 (-2) |>.sg,
    fd 4 31 30 1 0 "PSRC" |>.un 15 0 |>.rg 0 2,
    fd 4 29 27 1 0 "PRING",
    fd 4 26 25 1 0 "AKIND" |>.un 15 0 |>.rg 0 1,
    fd 4 24 16 1 0 "AREF" |>.rg 0 287,
    fd 4 15 12 1 0 "CSRC",
    fd 4 11 11 1 0 "CEN" |>.un 15 0,
    fd 5 31 16 1 0 "PTHERM" |>.un 255 0,
    fd 6 31 16 1 0 "PTHERM" |>.un 255 0,
    fd 7 31 16 1 0 "PTHERM" |>.un 255 0,
    fd 5 15 0 1 0 "PTHERM" |>.un 255 0,
    fd 6 15 0 1 0 "PTHERM" |>.un 255 0,
    fd 7 15 0 1 0 "PTHERM" |>.un 255 0,
    fd 8 31 24 1 0 "TDERP" |>.un 5 0 |>.of (-64),
    fd 8 23 16 1 0 "TMAXP" |>.un 5 0 |>.of (-64) ]

def lay_thermal : List Fd :=
  [ fd 0 31 30 1 0 "AEN" |>.un 15 0,
    fd 0 29 28 1 0 "APORT" |>.un 15 0,
    fd 0 27 21 1 0 "AADDR0",
    fd 0 20 14 1 0 "AADDR1",
    fd 0 13 6 1 0 "AREG",
    fd 1 31 30 1 0 "AEN" |>.un 15 0,
    fd 1 29 28 1 0 "APORT" |>.un 15 0,
    fd 1 27 21 1 0 "AADDR2",
    fd 1 20 14 1 0 "AADDR3",
    fd 2 31 24 1 0 "TCORR" |>.un 6 0 |>.rg 1 255,
    fd 2 23 16 1 0 "KMAX" |>.un 5 (-1),
    fd 2 15 8 1 0 "PLAUS" |>.un 5 0,
    fd 2 7 0 1 0 "TAMBFB" |>.un 5 0 |>.of (-64),
    fd 3 31 16 1 0 "RAMB" |>.un 15 0,
    fd 4 31 16 1 0 "RAMB" |>.un 15 0,
    fd 5 31 16 1 0 "RAMB" |>.un 15 0,
    fd 6 31 16 1 0 "RAMB" |>.un 15 0,
    fd 3 15 0 1 0 "RAMB" |>.un 15 0,
    fd 4 15 0 1 0 "RAMB" |>.un 15 0,
    fd 5 15 0 1 0 "RAMB" |>.un 15 0,
    fd 6 15 0 1 0 "RAMB" |>.un 15 0,
    fd 7 31 29 0 2 "DBAND" |>.un 15 0,
    fd 7 28 21 0 2 "DBROKEN" |>.un 15 0,
    fd 7 15 0 0 2 "TDIE" |>.un 5 (-2) |>.sg ]

def lay_faultlog : List Fd :=
  [ fd 0 31 16 0 2 "FCODE" |>.un 15 0,
    fd 0 15 13 0 2 "FCLASS" |>.un 15 0,
    fd 0 12 12 0 2 "WIRE" |>.un 15 0,
    fd 0 11 11 0 2 "CONSEQ" |>.un 15 0,
    fd 0 10 10 0 2 "COND" |>.un 15 0,
    fd 0 9 9 0 2 "CLEARED" |>.un 15 0,
    fd 0 7 0 0 2 "NREP",
    fd 1 31 16 0 2 "FOBJ" |>.un 15 0,
    fd 1 15 0 0 2 "FAUX" |>.un 15 0,
    fd 2 31 0 0 2 "FVAL" |>.sg,
    fd 3 31 0 0 2 "FTICKL" |>.un 11 0,
    fd 4 31 16 0 2 "FTICKH" |>.un 255 0,
    fd 4 15 0 0 2 "FBOOT",
    fd 5 31 0 0 2 "FSEQ" ]

def lay_route : List Fd :=
  [ fd 0 31 16 1 0 "RCODE" |>.un 15 0,
    fd 0 15 13 1 0 "RCLASS" |>.un 15 0 ]

def lay_collector : List Fd :=
  [ fd 0 31 31 0 2 "SAFE" |>.un 15 0,
    fd 0 30 30 0 2 "FAULTN" |>.un 15 0,
    fd 0 29 29 2 3 "OVFL" |>.un 15 0,
    fd 0 28 16 0 2 "NSTAND",
    fd 0 15 0 0 2 "WINOPEN" |>.un 15 0,
    fd 1 31 16 0 2 "SAFECODE" |>.un 15 0,
    fd 1 15 0 0 2 "SAFEOBJ" |>.un 15 0,
    fd 2 31 31 3 3 "SAFEXIT" |>.un 15 0,
    fd 3 31 24 1 0 "DRF" |>.sc 1 256 |>.rg 64 255,
    fd 3 23 20 1 0 "RSTMAX" |>.rg 1 15,
    fd 8 31 22 1 0 "SHW" |>.un 6 (-5) |>.rg 1 1000,
    fd 10 31 22 1 0 "SHW" |>.un 6 (-5) |>.rg 1 1000,
    fd 12 31 22 1 0 "SHW" |>.un 6 (-5) |>.rg 1 1000,
    fd 14 31 22 1 0 "SHW" |>.un 6 (-5) |>.rg 1 1000,
    fd 16 31 22 1 0 "SHW" |>.un 6 (-5) |>.rg 1 1000,
    fd 18 31 22 1 0 "SHW" |>.un 6 (-5) |>.rg 1 1000,
    fd 20 31 22 1 0 "SHW" |>.un 6 (-5) |>.rg 1 1000,
    fd 22 31 22 1 0 "SHW" |>.un 6 (-5) |>.rg 1 1000,
    fd 24 31 22 1 0 "SHW" |>.un 6 (-5) |>.rg 1 1000,
    fd 26 31 22 1 0 "SHW" |>.un 6 (-5) |>.rg 1 1000,
    fd 28 31 22 1 0 "SHW" |>.un 6 (-5) |>.rg 1 1000,
    fd 30 31 22 1 0 "SHW" |>.un 6 (-5) |>.rg 1 1000,
    fd 32 31 22 1 0 "SHW" |>.un 6 (-5) |>.rg 1 1000,
    fd 34 31 22 1 0 "SHW" |>.un 6 (-5) |>.rg 1 1000,
    fd 36 31 22 1 0 "SHW" |>.un 6 (-5) |>.rg 1 1000,
    fd 38 31 22 1 0 "SHW" |>.un 6 (-5) |>.rg 1 1000,
    fd 8 21 6 1 0 "DEPB" |>.un 15 0,
    fd 10 21 6 1 0 "DEPB" |>.un 15 0,
    fd 12 21 6 1 0 "DEPB" |>.un 15 0,
    fd 14 21 6 1 0 "DEPB" |>.un 15 0,
    fd 16 21 6 1 0 "DEPB" |>.un 15 0,
    fd 18 21 6 1 0 "DEPB" |>.un 15 0,
    fd 20 21 6 1 0 "DEPB" |>.un 15 0,
    fd 22 21 6 1 0 "DEPB" |>.un 15 0,
    fd 24 21 6 1 0 "DEPB" |>.un 15 0,
    fd 26 21 6 1 0 "DEPB" |>.un 15 0,
    fd 28 21 6 1 0 "DEPB" |>.un 15 0,
    fd 30 21 6 1 0 "DEPB" |>.un 15 0,
    fd 32 21 6 1 0 "DEPB" |>.un 15 0,
    fd 34 21 6 1 0 "DEPB" |>.un 15 0 ] ++
  [ fd 36 21 6 1 0 "DEPB" |>.un 15 0,
    fd 38 21 6 1 0 "DEPB" |>.un 15 0,
    fd 9 31 16 1 0 "DEPS" |>.un 15 0,
    fd 11 31 16 1 0 "DEPS" |>.un 15 0,
    fd 13 31 16 1 0 "DEPS" |>.un 15 0,
    fd 15 31 16 1 0 "DEPS" |>.un 15 0,
    fd 17 31 16 1 0 "DEPS" |>.un 15 0,
    fd 19 31 16 1 0 "DEPS" |>.un 15 0,
    fd 21 31 16 1 0 "DEPS" |>.un 15 0,
    fd 23 31 16 1 0 "DEPS" |>.un 15 0,
    fd 25 31 16 1 0 "DEPS" |>.un 15 0,
    fd 27 31 16 1 0 "DEPS" |>.un 15 0,
    fd 29 31 16 1 0 "DEPS" |>.un 15 0,
    fd 31 31 16 1 0 "DEPS" |>.un 15 0,
    fd 33 31 16 1 0 "DEPS" |>.un 15 0,
    fd 35 31 16 1 0 "DEPS" |>.un 15 0,
    fd 37 31 16 1 0 "DEPS" |>.un 15 0,
    fd 39 31 16 1 0 "DEPS" |>.un 15 0 ]

def lay_keeper : List Fd :=
  [ fd 0 31 22 1 0 "TLEASE" |>.un 6 (-5) |>.sc 25 1 |>.rg 8 800,
    fd 0 21 21 1 0 "MATEEN" |>.un 15 0,
    fd 1 31 30 3 1 "KCMD" |>.un 15 0 |>.rg 0 2,
    fd 2 31 29 0 2 "KSTATE" |>.un 15 0,
    fd 2 28 28 0 2 "ROLEB" |>.un 15 0,
    fd 2 27 27 0 2 "LLIVE" |>.un 15 0,
    fd 2 26 26 0 2 "MATEUP" |>.un 15 0,
    fd 2 25 25 0 2 "HBSEEN" |>.un 15 0,
    fd 2 24 24 0 2 "CKOK" |>.un 15 0,
    fd 2 23 16 0 2 "NREFUSE",
    fd 2 15 0 0 2 "EPOCH",
    fd 3 31 0 0 2 "CKSEQNOW",
    fd 4 31 0 0 2 "CKAGE" |>.un 6 (-3),
    fd 5 31 16 0 2 "MPVER",
    fd 5 15 0 0 2 "OPVER",
    fd 6 31 0 0 2 "BONDL" |>.un 12 0,
    fd 7 31 0 0 2 "BONDH" |>.un 255 0 ]

def lay_recorder : List Fd :=
  [ fd 0 31 24 1 0 "FLUSHT" |>.un 6 0 |>.rg 1 255,
    fd 0 23 23 1 0 "SPEN" |>.un 15 0,
    fd 0 15 0 1 0 "SPER" |>.rg 16 65535,
    fd 1 31 31 1 3 "CPERMIT" |>.un 15 0,
    fd 2 31 0 1 3 "SCLOCK" |>.un 6 0,
    fd 3 31 30 3 1 "RCMD" |>.un 15 0 |>.rg 0 2,
    fd 4 31 31 0 2 "CLKSET" |>.un 15 0,
    fd 4 30 30 0 2 "ARMED" |>.un 15 0,
    fd 4 29 28 0 2 "SNAPNEW" |>.un 15 0,
    fd 4 27 27 0 2 "SWRAP" |>.un 15 0,
    fd 4 26 26 0 2 "COMMITTING" |>.un 15 0,
    fd 5 31 0 0 2 "BOOTCNT",
    fd 6 31 0 0 2 "RSEQNOW",
    fd 7 31 0 0 2 "PSEQNOW" ]

def lay_trace : List Fd :=
  [ fd 0 31 31 1 0 "TEN" |>.un 15 0,
    fd 0 30 30 1 0 "TSTOP" |>.un 15 0,
    fd 0 29 22 1 0 "TDEC" |>.rg 1 255,
    fd 0 21 16 1 0 "TBASE" |>.rg 24 63,
    fd 0 15 10 1 0 "TSIZE" |>.rg 1 40,
    fd 0 9 9 1 0 "TGEN" |>.un 15 0,
    fd 0 8 5 1 0 "TGPIO",
    fd 1 31 29 1 0 "TTKIND" |>.un 15 0 |>.rg 0 5,
    fd 1 23 0 1 0 "TLEVEL" |>.sg |>.un 255 0,
    fd 2 31 16 1 0 "TPOST",
    fd 2 15 0 1 0 "TCODE" |>.un 15 0,
    fd 3 31 24 1 0 "TGPW" |>.un 6 (-6) |>.rg 1 255,
    fd 4 31 30 0 2 "TSTATE" |>.un 15 0,
    fd 4 29 29 0 2 "TWRAP" |>.un 15 0,
    fd 4 28 0 0 2 "TCOUNT",
    fd 5 31 30 3 1 "TCMD" |>.un 15 0 ]

def lay_capture : List Fd :=
  [ fd 0 31 31 1 0 "CEN" |>.un 15 0,
    fd 0 30 29 1 0 "CTRIG" |>.un 15 0 |>.rg 0 2,
    fd 0 28 26 1 0 "CCLS" |>.un 15 0 |>.rg 0 5,
    fd 0 25 25 1 0 "CREARM" |>.un 15 0,
    fd 0 15 0 1 0 "CCODE" |>.un 15 0,
    fd 1 31 16 1 0 "CPRE",
    fd 1 15 0 1 0 "CPOST",
    fd 2 31 24 1 0 "CDEC" |>.rg 1 255,
    fd 2 23 21 1 0 "CRING",
    fd 3 31 16 1 0 "CSIG" |>.un 15 0,
    fd 4 31 16 1 0 "CSIG" |>.un 15 0,
    fd 3 15 0 1 0 "CSIG" |>.un 15 0,
    fd 4 15 0 1 0 "CSIG" |>.un 15 0,
    fd 5 31 29 0 2 "CSTATE" |>.un 15 0,
    fd 5 28 0 0 2 "CCOUNT",
    fd 6 31 30 3 1 "CCMD" |>.un 15 0 |>.rg 0 2 ]

def lay_counter : List Fd :=
  [ fd 0 31 0 0 2 "CVAL",
    fd 1 31 31 2 3 "OVF" |>.un 15 0,
    fd 1 30 30 0 2 "CHAINHI" |>.un 15 0,
    fd 2 31 31 1 0 "ALT" |>.un 15 0,
    fd 2 30 30 1 0 "CHAIN" |>.un 15 0,
    fd 2 29 28 1 0 "MODE" |>.un 15 0 |>.rg 0 2,
    fd 2 27 24 1 0 "CLSMASK" |>.un 15 0,
    fd 2 23 23 1 0 "REQEN" |>.un 15 0,
    fd 2 22 15 1 0 "REQ",
    fd 2 14 7 1 0 "TCLASS" |>.un 15 0,
    fd 2 6 0 1 0 "THRESH",
    fd 3 31 16 1 0 "OLO" |>.un 15 0,
    fd 3 15 0 1 0 "OHI" |>.un 15 0 ]

def lay_sesscfg : List Fd :=
  [ fd 0 31 24 1 3 "SIDLE" |>.un 6 0 |>.rg 10 255,
    fd 0 23 16 1 3 "ALOCK" |>.un 6 0 |>.rg 1 255,
    fd 0 15 0 1 3 "DGRACE" |>.un 12 0 |>.rg 1 60000 ]

def lay_coherence : List Fd :=
  [ fd 0 31 0 0 2 "GENL",
    fd 1 31 24 0 2 "NGAPS",
    fd 1 23 22 0 2 "NPINS",
    fd 1 21 21 2 3 "DOVFL" |>.un 15 0,
    fd 1 15 0 0 2 "GENH" |>.un 255 0,
    fd 2 31 0 0 2 "GBASE",
    fd 3 15 0 0 2 "GBASE" |>.un 255 0,
    fd 4 31 0 0 2 "GLAST",
    fd 5 15 0 0 2 "GLAST" |>.un 255 0,
    fd 6 31 24 0 2 "NDIS" ]

def lay_session : List Fd :=
  [ fd 0 31 30 0 2 "SCLASS" |>.un 15 0,
    fd 0 29 28 0 2 "SPORT" |>.un 15 0,
    fd 0 27 27 0 2 "SOPEN" |>.un 15 0,
    fd 0 26 26 0 2 "SPEND" |>.un 15 0,
    fd 0 25 25 0 2 "STXN" |>.un 15 0,
    fd 0 24 23 0 2 "SPINS",
    fd 0 22 0 0 2 "SIDLEL" |>.un 6 (-2) ]

def lay_disagree : List Fd :=
  [ fd 0 31 16 0 2 "DOBJ" |>.un 15 0,
    fd 0 15 8 0 2 "DWORD",
    fd 0 7 0 0 2 "DCASE" |>.un 15 0,
    fd 1 31 0 0 2 "DINTENT" |>.un 255 0,
    fd 2 31 0 0 2 "DOBS" |>.un 255 0,
    fd 3 31 0 0 2 "DSINCE" ]

def lay_target : List Fd :=
  [ fd 0 31 30 1 3 "TOMODE" |>.un 15 0 |>.rg 0 2,
    fd 0 29 22 1 3 "TOLONG" |>.un 6 (-3) |>.rg 1 255,
    fd 0 21 14 1 3 "TTHD" |>.un 11 0 |>.rg 10 200,
    fd 1 31 31 2 3 "SCLTO" |>.un 15 0,
    fd 1 30 30 2 3 "SDATO" |>.un 15 0,
    fd 1 29 27 0 2 "TPSTAT" |>.un 15 0,
    fd 1 26 24 0 2 "ADDRS" |>.un 15 0 ]

def lay_hostport : List Fd :=
  [ fd 0 31 31 1 3 "HRDYAL" |>.un 15 0,
    fd 1 31 29 0 2 "HPSTAT" |>.un 15 0 ]

def lay_initiator : List Fd :=
  [ fd 0 31 30 1 3 "PSPEED" |>.un 15 0 |>.rg 0 2,
    fd 0 29 29 1 3 "IEN" |>.un 15 0,
    fd 0 28 28 1 3 "ARCV" |>.un 15 0,
    fd 0 27 26 1 3 "PTOMODE" |>.un 15 0 |>.rg 0 2,
    fd 0 25 18 1 3 "PTOLONG" |>.un 6 (-3) |>.rg 1 255,
    fd 1 31 20 1 3 "TLOW" |>.un 11 0,
    fd 1 19 8 1 3 "THIGH" |>.un 11 0,
    fd 1 7 0 1 3 "THD_DAT" |>.un 11 0,
    fd 2 31 20 1 3 "THD_STA" |>.un 11 0,
    fd 2 19 8 1 3 "TSU_STA" |>.un 11 0,
    fd 3 31 20 1 3 "TSU_DAT" |>.un 11 0,
    fd 4 31 31 0 2 "SDA_STUCK" |>.un 15 0,
    fd 4 30 30 0 2 "PDIS" |>.un 15 0,
    fd 4 29 29 2 3 "ARBL" |>.un 15 0,
    fd 4 28 28 2 3 "PTO" |>.un 15 0 ]

def lay_pwr : List Fd :=
  [ fd 0 31 31 1 3 "LEANEN" |>.un 15 0,
    fd 0 30 23 1 3 "PFRET" |>.un 6 (-2) |>.rg 1 255,
    fd 0 22 15 1 3 "SVCIDLE" |>.un 6 0 |>.rg 10 255,
    fd 1 31 29 0 2 "PWRSTATE" |>.un 15 0,
    fd 1 28 28 0 2 "SERVICE" |>.un 15 0,
    fd 1 27 20 0 2 "RCAUSE" |>.un 15 0,
    fd 1 19 12 0 2 "DOMON" |>.un 15 0,
    fd 2 31 24 0 2 "RGATE" |>.un 15 0,
    fd 2 23 20 0 2 "VGATE" |>.un 15 0,
    fd 2 19 12 0 2 "TGATE" |>.un 15 0,
    fd 3 31 16 0 2 "PWRNOW" |>.un 3 (-3),
    fd 3 15 0 0 2 "VINNOW" |>.un 1 (-3) ]

def lay_iostat : List Fd :=
  [ fd 0 31 28 0 2 "VBOK" |>.un 15 0,
    fd 0 27 24 0 2 "VB18" |>.un 15 0,
    fd 0 23 23 0 2 "AREFOK" |>.un 15 0,
    fd 0 15 0 0 2 "VDDAMV" |>.un 1 (-3) ]

def lay_security : List Fd :=
  [ fd 0 31 29 0 2 "LCYCLE" |>.un 15 0,
    fd 0 28 27 0 2 "DBGMODE" |>.un 15 0,
    fd 0 26 20 0 2 "ARVN",
    fd 0 19 14 0 2 "LOCKS" |>.un 15 0,
    fd 0 13 10 0 2 "REVON" |>.un 15 0,
    fd 0 9 7 0 2 "REVOW" |>.un 15 0,
    fd 0 6 0 0 2 "NWEAK" ]

def lay_update : List Fd :=
  [ fd 0 31 29 0 2 "USTATE" |>.un 15 0,
    fd 0 28 27 0 2 "UKINDNOW" |>.un 15 0,
    fd 0 26 26 0 2 "UBANK" |>.un 15 0,
    fd 0 25 24 0 2 "UTRIAL",
    fd 0 23 16 0 2 "UREASON" |>.un 15 0,
    fd 1 31 0 0 2 "UVERRUN",
    fd 2 31 0 0 2 "UVEROTH" ]

def lay_integrity : List Fd :=
  [ fd 0 31 29 0 2 "IREGION" |>.un 15 0,
    fd 0 28 26 0 2 "ICAUSE" |>.un 15 0,
    fd 0 25 17 0 2 "IWORD",
    fd 0 16 16 0 2 "IHELD" |>.un 15 0 ]

def lay_zone : List Fd :=
  [ fd 0 31 31 1 0 "ZMON" |>.un 15 0,
    fd 0 30 30 1 0 "ZOPW" |>.un 15 0,
    fd 0 29 29 1 0 "ZOPCFG" |>.un 15 0,
    fd 0 28 28 1 0 "ZOPCLR" |>.un 15 0,
    fd 8 31 24 1 0 "ZPRIO",
    fd 8 23 19 1 0 "ZCAPMIN" |>.rg 0 16,
    fd 8 18 18 1 0 "ZNOSHED" |>.un 15 0,
    fd 8 17 17 1 0 "ZNOCAP" |>.un 15 0,
    fd 9 31 31 1 1 "ZKEEP" |>.un 15 0 ]

/-- Every range of objects, in ascending order of identifier (Table 13.7, R451). -/
def layouts : List Lay :=
  [ ⟨0x0000, 0x0000, 4, lay_ldt⟩,
    ⟨0x0001, 0x0001, 11, lay_image⟩,
    ⟨0x1000, 0x1007, 2, lay_ring⟩,
    ⟨0x2000, 0x20FF, 17, lay_station⟩,
    ⟨0x3000, 0x309F, 72, lay_tile⟩,
    ⟨0x3FFF, 0x3FFF, 1, lay_engine⟩,
    ⟨0x4000, 0x402F, 16, lay_rail⟩,
    ⟨0x5000, 0x500F, 6, lay_vcport⟩,
    ⟨0x6000, 0x603F, 7, lay_input⟩,
    ⟨0x6FFF, 0x6FFF, 16, lay_power⟩,
    ⟨0x7000, 0x700F, 26, lay_string⟩,
    ⟨0x7FFF, 0x7FFF, 5, lay_gauge⟩,
    ⟨0x8000, 0x80FF, 3, lay_point⟩,
    ⟨0x8100, 0x811F, 9, lay_auxpoint⟩,
    ⟨0x8FFF, 0x8FFF, 8, lay_thermal⟩,
    ⟨0x9000, 0x91FF, 6, lay_faultlog⟩,
    ⟨0x9400, 0x95FF, 1, lay_route⟩,
    ⟨0x9FFF, 0x9FFF, 40, lay_collector⟩,
    ⟨0xA000, 0xA000, 8, lay_keeper⟩,
    ⟨0xB000, 0xB000, 8, lay_recorder⟩,
    ⟨0xB100, 0xB107, 6, lay_trace⟩,
    ⟨0xB200, 0xB203, 7, lay_capture⟩,
    ⟨0xC000, 0xC07F, 4, lay_counter⟩,
    ⟨0xD000, 0xD000, 2, lay_sesscfg⟩,
    ⟨0xD001, 0xD001, 7, lay_coherence⟩,
    ⟨0xD010, 0xD01F, 1, lay_session⟩,
    ⟨0xD020, 0xD03F, 4, lay_disagree⟩,
    ⟨0xD100, 0xD100, 2, lay_target⟩,
    ⟨0xD101, 0xD101, 2, lay_hostport⟩,
    ⟨0xD102, 0xD103, 5, lay_initiator⟩,
    ⟨0xD200, 0xD200, 4, lay_pwr⟩,
    ⟨0xD300, 0xD300, 1, lay_iostat⟩,
    ⟨0xE000, 0xE000, 1, lay_security⟩,
    ⟨0xE001, 0xE001, 3, lay_update⟩,
    ⟨0xE010, 0xE010, 1, lay_integrity⟩,
    ⟨0xF000, 0xF007, 10, lay_zone⟩ ]


/-! ## Lookups -/

/-- The range an identifier lies in. -/
def layOf (oid : Nat) : Option Lay := layouts.find? (fun y => y.first ≤ oid && oid ≤ y.last)

/-- The fields of a word of an object. -/
def fieldsOf (oid w : Nat) : List Fd := match layOf oid with | some y => y.fields.filter (fun f => f.word = w) | none => []

/-- A field's value in a word, and a mask of its bits. -/
def Fd.of_ (f : Fd) (v : Word) : Nat := fld v f.hi f.lo
def Fd.mask (f : Fd) : Word := put (2 ^ (f.hi - f.lo + 1) - 1) f.lo (f.hi - f.lo + 1)

/-- Bits of a word that some field of the list covers. -/
def maskOf (fs : List Fd) : Word := fs.foldl (fun m f => m ||| f.mask) 0

/-- Bits of a word that a WRITE acts on, and the reserved bits. -/
def writeMask (oid w : Nat) : Word := maskOf ((fieldsOf oid w).filter (fun f => f.acc ≠ 0))
def rsvMask (oid w : Nat) : Word := ~~~ maskOf (fieldsOf oid w)

/-- The effect of a WRITE of a word; none when every field of it is RO or reserved. -/
def wordEff (oid w : Nat) : Option Nat := ((fieldsOf oid w).find? (fun f => f.acc ≠ 0)).map (·.eff)

/-- Words of an object with the commit effect, ascending. -/
def commitWords (oid : Nat) : List Nat :=
  match layOf oid with
  | some y => (List.range y.nwords).filter (fun w => wordEff oid w = some 0)
  | none => []

/-- A word of an object that a record of an image may name (R442): one whose fields all have the commit effect, the
reserved words that R401 and Table 14.5 place among them included. -/
def imageWord (oid w : Nat) : Bool :=
  wordEff oid w = some 0 || (oid = 0x9FFF && 3 ≤ w && w ≤ 39) || (oid / 4096 = 0xF && w < 8)

/-- A value lies in the range of its field.  `AREF` and `RAMBn` name an air sensor or a point by their kind. -/
def Fd.inRange (f : Fd) (oid : Nat) (v : Word) : Bool :=
  let x := f.of_ v
  let plain := (f.min ≤ x && x ≤ f.max) || f.also = some x
  if f.name = "AREF" then plain && (fld v 26 25 ≠ 0 || x ≤ 3)
  else if f.name = "RAMB" then x / 2 ^ 14 ≤ 1 && x / 512 % 32 = 0 && (if x / 2 ^ 14 = 0 then x % 512 ≤ 3 else x % 512 ≤ 287)
  else if f.name = "CA" || f.name = "CB" || f.name = "OMAX" || f.name = "OMIN" then
    v = (v.setWidth 24).signExtend 32
  else if f.name = "CSIG" then x = 0 || (1 ≤ x / 4096 && x / 4096 ≤ 3)
  else if f.name = "CHAIN" then x = 0 || (oid % 256 < 64 && oid % 2 = 0)
  else plain

/-- The fields of a written word whose value lies outside its range. -/
def outOfRange (oid w : Nat) (v : Word) : List Fd := (fieldsOf oid w).filter (fun f => f.acc ≠ 0 && !f.inRange oid v)

/-! ## The Layout Descriptor Table (Table 13.8 to Table 13.10) -/

/-- A two's complement octet or half. -/
def tc (v : Int) (w : Nat) : Nat := (v % 2 ^ w).toNat

/-- A field descriptor, with the octet offset of its name. -/
def Fd.words (f : Fd) (name : Nat) : List Word :=
  [ put f.word 16 16 ||| put f.lo 8 8 ||| put (f.hi - f.lo + 1) 0 8,
    put f.acc 29 3 ||| put f.eff 27 2 ||| flag f.sign 26 ||| put f.unit 16 8 ||| put (tc f.exp 8) 8 8 ||| put (tc f.off 8) 0 8,
    put (tc f.num 16) 16 16 ||| put f.den 0 16,
    put name 16 16 ]

/-- The names of all fields, each once, in the order of their first use. -/
def fieldNames : List String :=
  layouts.foldl (fun ns y => y.fields.foldl (fun ns f => if ns.contains f.name then ns else ns ++ [f.name]) ns) []

/-- ASCII of a name, with its zero byte. -/
def asciiz (s : String) : List Byte := s.toList.map (fun c => BitVec.ofNat 8 c.toNat) ++ [0]

/-- Octet offset of a name in the string table. -/
def nameAt (s : String) : Nat := ((fieldNames.takeWhile (· ≠ s)).map (fun n => (asciiz n).length)).sum

/-- Words of octets, little-endian, padded with zero. -/
def wordsOf : Nat → List Byte → List Word
  | 0, _ => []
  | n + 1, b => BitVec.ofNat 32 (leNat (b.take 4)) :: wordsOf n (b.drop 4)

/-- The string table. -/
def stringWords : List Word := let b := fieldNames.flatMap asciiz; wordsOf ((b.length + 3) / 4) b

/-- Words of an existence bitmap of a range. -/
def Lay.bitmap (y : Lay) (here : Nat → Bool) : List Word :=
  (List.range ((y.last - y.first) / 32 + 1)).map (fun i =>
    BitVec.ofNat 32 (((List.range 32).filter (fun j => y.first + 32 * i + j ≤ y.last && here (y.first + 32 * i + j))).map (2 ^ ·)).sum)

/-- Number of instances of a range that exist. -/
def Lay.count (y : Lay) (here : Nat → Bool) : Nat :=
  ((List.range (y.last - y.first + 1)).filter (fun j => here (y.first + j))).length

/-- The identifiers of a range need no bitmap: every one of them exists. -/
def Lay.full (y : Lay) (here : Nat → Bool) : Bool := y.count here = y.last - y.first + 1

/-- The Layout Descriptor Table, for the objects that exist, the schema range and `LSEQ`: header, layout descriptors,
field descriptors, bitmaps, names. -/
def ldtWords (here : Nat → Bool) (smin smax : Nat) (lseq : Word) : List Word :=
  let nlay := layouts.length
  let nfd := (layouts.map (fun y => y.fields.length)).sum
  let f0 := 4 + 4 * nlay
  let m0 := f0 + 4 * nfd
  let maps := layouts.map (fun y => if y.full here then [] else y.bitmap here)
  let s0 := m0 + (maps.map List.length).sum
  let total := s0 + stringWords.length
  let head : List Word :=
    [ put 0x0100 16 16 ||| put total 0 16, lseq, put smin 16 16 ||| put smax 0 16, put s0 16 16 ||| put nlay 8 8 ]
  let lays := (List.range nlay).flatMap (fun i =>
    let y := layouts.getD i ⟨0, 0, 0, []⟩
    let fo := f0 + 4 * ((layouts.take i).map (fun y => y.fields.length)).sum
    let mo := if y.full here then 0 else m0 + ((maps.take i).map List.length).sum
    [ put y.first 16 16 ||| put y.last 0 16, put (y.count here) 16 16 ||| put y.nwords 8 8,
      put fo 16 16 ||| put y.fields.length 0 16, put mo 16 16 ])
  head ++ lays ++ layouts.flatMap (fun y => y.fields.flatMap (fun f => f.words (nameAt f.name))) ++ maps.flatten ++ stringWords

end Sys2Proof.Machine
end

