-- ==== Sys2Proof/Machine/Image.lean ====
section
/-! DEFINITION. The shelf image: reading its octets, the validator, the lane schedules it makes, the image store and
the steps of a commit (chapter "Shelf image and Layout Descriptor Table", R161 to R170). -/
namespace Sys2Proof.Machine

/-! ## Reading an image (R439 to R444) -/

/-- Keys of `Image.offs` for what has no object word: a section's header, and records of PLACEMENT, CLAIMS, PATTERNS,
ROUTES and LINKS. -/
def secKey (ty : Nat) : Nat := 2 ^ 24 + ty
def ruleKey (n : Nat) : Nat := 2 ^ 25 + n
def claimKey (n : Nat) : Nat := 2 ^ 26 + n
def libKey (n : Nat) : Nat := 2 ^ 27 + n
def routeKey (n : Nat) : Nat := 2 ^ 28 + n
def linkKey (n : Nat) : Nat := 2 ^ 29 + n

/-- The section that carries a word of an object (Table 13.4). -/
def sectOf (oid w : Nat) : Nat :=
  match oid / 4096 with
  | 0x1 => 0x10 | 0x3 => 0x01 | 0x4 => 0x11 | 0x5 => 0x11 | 0x6 => 0x12 | 0x7 => 0x13 | 0x8 => 0x14 | 0x9 => 0x15
  | 0xA => 0x16 | 0xB => 0x17 | 0xC => 0x17 | 0xF => if w = 8 then 0x12 else 0x18 | _ => 0

/-- A section: type, offset of its header, data length, `SECVER`, whether `SECCRC` passes, its records with their
offsets, and whether they are packed without gaps. -/
structure ImgSec where
  ty    : Nat := 0
  at_   : Nat := 0
  len   : Nat := 0
  ver   : Nat := 0
  crcOk : Bool := true
  recs  : List (Nat × List Byte) := []
  recsOk : Bool := true
  deriving DecidableEq, Repr

/-- Octets of the record that opens a list, by section type (Table 13.4). -/
def recLen (ty : Nat) (b : List Byte) : Nat :=
  match ty with
  | 1 => 260
  | 2 => 4 + 4 * numAt b 2 2
  | 3 => 16
  | 4 => 4
  | 5 => 8
  | 6 => 4 + pad4 (2 * numAt b 1 1)
  | _ => 4 + 4 * numAt b 3 1

/-- Cut a section's data into records. -/
def cutRecs (ty : Nat) : Nat → Nat → List Byte → List (Nat × List Byte) × Bool
  | 0, _, b => ([], b.isEmpty)
  | n + 1, off, b =>
    if b.isEmpty then ([], true)
    else
      let k := recLen ty b
      if b.length < 4 || b.length < k || (0x10 ≤ ty && numAt b 3 1 = 0) then ([], false)
      else
        let r := cutRecs ty n (off + k) (b.drop k)
        ((off, b.take k) :: r.1, r.2)

/-- A tool section (R441). -/
def toolSec (ty : Nat) : Bool := 0xF0 ≤ ty && ty ≤ 0xFE

/-- The section whose header lies at an offset. -/
def readSec (b : List Byte) (at_ : Nat) : ImgSec :=
  let ty := numAt b at_ 2
  let len := numAt b (at_ + 4) 4
  let data := sliceB b (at_ + 12) len
  let r := if toolSec ty || ty = 0xFFFF then ([], true) else cutRecs ty (data.length + 1) (at_ + 12) data
  { ty := ty, at_ := at_, len := len, ver := numAt b (at_ + 2) 2, crcOk := crc32 data = numAt b (at_ + 8) 4 && data.length = len,
    recs := r.1, recsOk := r.2 }

/-- The sections from an offset up to `ILEN`, and where they end. -/
def readSecs (b : List Byte) (ilen : Nat) : Nat → Nat → List ImgSec × Nat
  | 0, p => ([], p)
  | n + 1, p =>
    if ilen < p + 12 then ([], p)
    else
      let s := readSec b p
      if ilen < p + 12 + s.len then ([s], p)
      else
        let r := readSecs b ilen n (p + 12 + s.len)
        (s :: r.1, r.2)

/-- `ILEN` and `SIGNED` of octets. -/
def imgLen (b : List Byte) : Nat := numAt b 8 4
def imgSigned (b : List Byte) : Bool := numAt b 14 1 % 2 = 1

/-- The image among octets: from 0 to the end of the signature section, or to `ILEN` (R478). -/
def imgCut (b : List Byte) : List Byte :=
  b.take (if imgSigned b then imgLen b + 12 + numAt b (imgLen b + 4) 4 else imgLen b)

/-- A flaw of stage 2: reason RANGE. -/
def flaw (sect off obja flda aux : Nat) : VRep := { reason := 5, sect := sect, off := off, obja := obja, flda := flda, aux := aux }

/-- Put a word into an image. -/
def Image.addWord (i : Image) (oid w off : Nat) (v : Word) : Image :=
  let k := key oid w
  { i with words := tput 0 i.words k v, given := if i.given.contains k then i.given else i.given ++ [k], offs := tset i.offs k off }

/-- The words a list of octets gives an object from word `w` on. -/
def Image.addWords (i : Image) (oid w off : Nat) : List Word → Image
  | [] => i
  | v :: t => (i.addWord oid w off v).addWords oid (w + 1) off t

def Image.flawIf (i : Image) (c : Bool) (r : VRep) : Image := if c then { i with flaws := i.flaws ++ [r] } else i

/-- A TILES record (R444). -/
def Image.addTile (i : Image) (off : Nat) (r : List Byte) : Image :=
  let t := numAt r 0 2
  let i := i.flawIf (159 < t || numAt r 2 2 ≠ 0 || i.hasTile t) (flaw 1 off (if t ≤ 159 then oTile t else 0) 0 t)
  if 159 < t then i else i.addWords (oTile t) 0 off (wordsOf 64 (r.drop 4))

/-- A PATTERNS record (R444). -/
def Image.addLib (i : Image) (off : Nat) (r : List Byte) : Image :=
  let base := numAt r 0 2
  let n := numAt r 2 2
  let bad := 8192 < base + n || i.libRecs.any (fun p => base < p.1 + p.2 && p.1 < base + n)
  let i := i.flawIf bad (flaw 2 off 0 0 base)
  { i with lib := (numbered base (wordsOf n (r.drop 4))).foldl (fun t p => tput 0 t p.1 p.2) i.lib,
           offs := tset i.offs (libKey i.libRecs.length) off, libRecs := i.libRecs ++ [(base, n)] }

/-- A PLACEMENT record (Table 3.7, R444). -/
def Image.addRule (i : Image) (off : Nat) (r : List Byte) : Image :=
  let b0 := numAt r 0 1
  let b2 := numAt r 2 1
  let q : Rule :=
    { ring := b0 % 8, hopAny := b0.testBit 3, vendAny := b0.testBit 4, hop := numAt r 1 1, stype := BitVec.ofNat 4 b2,
      bricks := b2 / 16 % 4 + 1, member := numAt r 3 1, vendor := numAt r 4 2, tile := numAt r 6 2, slot := numAt r 8 1,
      quorum := numAt r 9 1, vrmin := numAt r 10 2, irmin := numAt r 12 2, fwmin := numAt r 14 2 }
  let ty := b2 % 16
  let bad := 32 ≤ b0 || 64 ≤ b2 || (!q.hopAny && (q.hop = 0 || 63 < q.hop)) || 7 < q.member || 159 < q.tile || ty = 0 || 8 ≤ ty ||
    256 ≤ i.rules.length
  let i := i.flawIf bad (flaw 3 off (if q.tile ≤ 159 then oTile q.tile else 0) 0 b0)
  { i with offs := tset i.offs (ruleKey i.rules.length) off, rules := i.rules ++ [q] }

/-- A ROUTES record (Table 11.6). -/
def Image.addRoute (i : Image) (off : Nat) (r : List Byte) : Image :=
  let v := numAt r 0 4
  let i := i.flawIf (v % 8192 ≠ 0 || 512 ≤ i.routes.length) (flaw 4 off 0 0 v)
  { i with offs := tset i.offs (routeKey i.routes.length) off, routes := i.routes ++ [(v / 65536, v / 8192 % 8)] }

/-- A CLAIMS record (Table 13.6). -/
def Image.addClaim (i : Image) (off : Nat) (r : List Byte) : Image :=
  let c : Claim := { kind := numAt r 0 1, mode := numAt r 1 1, index := numAt r 2 2, owner := numAt r 4 2 }
  let bad := 3 < c.kind || numAt r 6 2 ≠ 0 || (c.kind = 0 && (2 < c.mode || 15 < c.index)) || (c.kind = 1 && (c.mode ≠ 0 || 7 < c.index)) ||
    (c.kind = 3 && (c.mode ≠ 0 || c.index / 128 % 256 ≠ 0))
  let i := i.flawIf bad (flaw 5 off c.owner 0 (c.kind * 2 ^ 24 + c.index))
  { i with offs := tset i.offs (claimKey i.claims.length) off, claims := i.claims ++ [c] }

/-- A LINKS record: delays in 10 ps units (R444). -/
def Image.addLink (i : Image) (off : Nat) (r : List Byte) : Image :=
  let n := numAt r 0 1
  let k := numAt r 1 1
  let ds := (List.range k).map (fun j => numAt r (4 + 2 * j) 2)
  let bad := 7 < n || numAt r 2 2 ≠ 0 || i.links.any (fun p => p.1 = n) || (r.drop (4 + 2 * k)).any (· ≠ 0)
  let i := i.flawIf bad (flaw 6 off (if n ≤ 7 then oRing n else 0) 0 n)
  { i with links := tset i.links n ds, offs := tset i.offs (linkKey n) off }

/-- An object word record (Table 13.5, R442): `last` is the key that the record before it reached. -/
def Image.addObj (ty : Nat) (p : Image × Nat) (off : Nat) (r : List Byte) : Image × Nat :=
  let oid := numAt r 0 2
  let w := numAt r 2 1
  let n := numAt r 3 1
  let i := p.1.flawIf (key oid w < p.2) (flaw ty off oid (w * 256) 0)
  ((numbered w (wordsOf n (r.drop 4))).foldl (fun i q =>
      if sectOf oid q.1 = ty && oid / 4096 ≠ 3 && imageWord oid q.1 then i.addWord oid q.1 off q.2
      else i.flawIf true (flaw ty off oid (q.1 * 256) q.2.toNat)) i, key oid (w + n))

/-- A section's records go into the image. -/
def Image.addSec (i : Image) (s : ImgSec) : Image :=
  let i := { i with offs := tset i.offs (secKey s.ty) s.at_ }
  match s.ty with
  | 1 => s.recs.foldl (fun i r => i.addTile r.1 r.2) i
  | 2 => s.recs.foldl (fun i r => i.addLib r.1 r.2) i
  | 3 => s.recs.foldl (fun i r => i.addRule r.1 r.2) i
  | 4 => s.recs.foldl (fun i r => i.addRoute r.1 r.2) i
  | 5 => s.recs.foldl (fun i r => i.addClaim r.1 r.2) i
  | 6 => s.recs.foldl (fun i r => i.addLink r.1 r.2) i
  | ty => (s.recs.foldl (fun p r => Image.addObj ty p r.1 r.2) (i, 0)).1

/-- The image that octets spell, as far as they can be read. -/
def parseImage (raw : List Byte) : Image :=
  let b := imgCut raw
  let ss := (readSecs b (min (imgLen b) b.length) (numAt b 12 2) 64).1
  ss.foldl Image.addSec
    { schema := BitVec.ofNat 16 (numAt b 6 2), signed := imgSigned b, octets := b, hash := sha256 (b.take (imgLen b)) }

/-! ## An image that WRITE requests made -/

/-- All that an image says, as numbers. -/
def Image.content (i : Image) : List Nat :=
  i.given ++ i.words.flatMap (fun p => [p.1, p.2.toNat]) ++ i.lib.flatMap (fun p => [p.1, p.2.toNat]) ++
    i.routes.flatMap (fun p => [p.1, p.2]) ++ i.links.flatMap (fun p => p.1 :: p.2) ++
    i.claims.flatMap (fun c => [c.kind, c.mode, c.index, c.owner]) ++
    i.rules.flatMap (fun r => [r.ring, r.hop, r.stype.toNat, r.bricks, r.member, r.vendor, r.tile, r.slot, r.quorum, r.vrmin, r.irmin, r.fwmin])

/-- The image with the octets, and so the hash, that the controller gives it (log entry 41). -/
def Image.remade (i : Image) : Image :=
  let b := Config.madeOctets i.content
  { i with made := true, signed := false, octets := b, hash := sha256 b }

/-- A word of an image changed by WRITE: a route entry by its place, any other word by its key. -/
def Image.edit (i : Image) (k : Nat) (v : Word) : Image :=
  if 0x9400 ≤ k / 256 && k / 256 < 0x9600 then
    let n := k / 256 - 0x9400
    match i.routes[n]? with
    | some _ => { i with routes := i.routes.take n ++ [(fld v 31 16, fld v 15 13)] ++ i.routes.drop (n + 1) }
    | none => i
  else { i with words := tput 0 i.words k v, given := if i.given.contains k then i.given else i.given ++ [k] }

/-- The octets of a whole-image shadow from offset `a`; those never written read 0xFF (R478). -/
def rawFill : Nat → Nat → Tbl Byte → List Byte
  | 0, _, _ => []
  | n + 1, a, [] => 0xFF :: rawFill n (a + 1) []
  | n + 1, a, (k, v) :: t => if k = a then v :: rawFill n (a + 1) t else 0xFF :: rawFill n (a + 1) ((k, v) :: t)

/-- The image that a whole-image shadow is (R478): to the end of the signature section, or to `ILEN`. -/
def rawImage (raw : Tbl Byte) : Image :=
  let head := rawFill 16 0 raw
  parseImage (rawFill (min 258048 (imgLen head + if imgSigned head then 80 else 0)) 0 raw)

/-- The shadow as it stands, and whether WRITE has changed an image that carried a signature (R447). -/
def Txn.image (t : Txn) : Image × Bool :=
  match t.raw with
  | none => (if t.edited then t.shadow.remade else t.shadow, t.edited && t.shadow.signed)
  | some raw =>
    let i := rawImage raw
    if t.edits.isEmpty then (i, false) else ((t.edits.foldl (fun i p => i.edit p.1 p.2) i).remade, i.signed)

/-- The offset of what carries a key. -/
def Image.at_ (i : Image) (k : Nat) : Nat := if i.made then Config.madeOffset i.content k else tget 0 i.offs k

/-! ## What an image holds -/

/-- A word, a field, and whether the image carries the word. -/
def Image.w (i : Image) (oid n : Nat) : Word := tget 0 i.words (key oid n)
def Image.f (i : Image) (oid n hi lo : Nat) : Nat := fld (i.w oid n) hi lo
def Image.has (i : Image) (oid n : Nat) : Bool := i.given.contains (key oid n)

/-- The objects that exist in an image (R443): those it carries a word of, and the five that always exist. -/
def Image.objs (i : Image) : List Nat := ((i.given.map (· / 256)) ++ [0x6FFF, 0x7FFF, 0x8FFF, 0x9FFF, 0xA000]).dedup
def Image.hasObj (i : Image) (oid : Nat) : Bool := i.given.any (fun k => k / 256 = oid)
def Image.tiles (i : Image) : List Nat := (List.range 160).filter i.hasTile

/-- The lowest bit that a field covers in a word, for a report's field code. -/
def fieldAt (oid w : Nat) : Nat := w * 256 + (((fieldsOf oid w).map (·.lo)).min?).getD 0

/-- A report against a word of an object. -/
def Image.rep (i : Image) (reason oid w lo aux : Nat) : VRep :=
  { reason := reason, sect := sectOf oid w, off := i.at_ (key oid w), obja := oid, flda := w * 256 + lo, aux := aux }

def repIf (c : Bool) (r : VRep) : List VRep := if c then [r] else []

/-! ## Stage 1: FORMAT, CRC, SIGNATURE, SCHEMA -/

/-- The schema versions that the running firmware accepts (Table 18.12); in the recovery ROM, the manual's own. -/
def Live.schemaRange (l : Live) : Nat × Nat :=
  match l.sec.running with
  | some b => (numAt (l.bank b) 120 2, numAt (l.bank b) 122 2)
  | none => (0x0100, 0x0100)

/-- A section is one that R439 to R441 allow. -/
def ImgSec.ok (s : ImgSec) (prev : Nat) : Bool :=
  prev < s.ty && ((1 ≤ s.ty && s.ty ≤ 6) || (0x10 ≤ s.ty && s.ty ≤ 0x18) || (toolSec s.ty && s.len ≤ 65536)) &&
    (toolSec s.ty || s.ver = 1) && s.len % 4 = 0 && s.recsOk &&
    (s.ty ≠ 4 || (s.recs.zip (s.recs.drop 1)).all (fun p => numAt p.1.2 2 2 ≤ numAt p.2.2 2 2))

/-- FORMAT and CRC failures of sections. -/
def secReps : Nat → List ImgSec → List VRep
  | _, [] => []
  | prev, s :: t =>
    repIf (!s.ok prev) { reason := 1, sect := s.ty, off := s.at_ } ++ repIf (!s.crcOk) { reason := 2, sect := s.ty, off := s.at_ } ++ secReps s.ty t

/-- Stage 1 of the validator on an image's octets; `strip` says that a WRITE followed a signed IMAGE_WRITE (R447). -/
def Live.stage1 (l : Live) (i : Image) (strip : Bool) : List VRep :=
  let sch := l.schemaRange
  let scm := repIf (i.schema.toNat < sch.1 || sch.2 < i.schema.toNat) { reason := 4, aux := i.schema.toNat }
  if i.made then repIf (l.reqsig) { reason := 3 } ++ scm
  else
    let b := i.octets
    let n := imgLen b
    let r := readSecs b (min n b.length) (numAt b 12 2) 64
    let headOk := numAt b 0 4 = 0x4D4C4253 && numAt b 4 2 = 1 && 64 ≤ n && n ≤ b.length && b.length ≤ 258048 &&
      numAt b 14 1 < 2 && numAt b 15 1 = 0 && (sliceB b 20 40).all (· = 0) && r.1.length = numAt b 12 2 && r.2 = n
    let sg := readSec b n
    let data := sliceB b (n + 12) 68
    let sgFmt := !i.signed || (sg.ty = 0xFFFF && sg.ver = 1 && sg.len = 68 && b.length = n + 80)
    let sgOk := !i.signed || ((sliceB data 1 3).all (· = 0) && l.ownerSlot (numAt data 0 1) &&
      ecdsaVerify (l.otpBytes (176 + 8 * numAt data 0 1) 8) (b.take n) (data.drop 4))
    repIf (!headOk) { reason := 1 } ++ repIf (crc32 (b.take 60) ≠ numAt b 60 4) { reason := 2 } ++ secReps 0 r.1 ++
      repIf (!sgFmt) { reason := 1, sect := 0xFFFF, off := n } ++ repIf (i.signed && !sg.crcOk) { reason := 2, sect := 0xFFFF, off := n } ++
      repIf (!sgOk || (l.reqsig && (!i.signed || strip))) { reason := 3, sect := if i.signed then 0xFFFF else 0, off := if i.signed then n else 0 } ++ scm

/-! ## Stage 2: RANGE, MISSING -/

/-- A word's fields lie in their ranges, and its RSV bits and RO fields are zero (R442, R444). -/
def Image.wordReps (i : Image) (k : Nat) : List VRep :=
  let oid := k / 256
  let w := k % 256
  let v := i.w oid w
  (fieldsOf oid w).filterMap (fun f =>
      let x := f.of_ v
      let bad := if f.acc = 0 then x ≠ 0 && f.name ≠ "VALUE" else !f.inRange oid v
      if bad then some (i.rep 5 oid w f.lo x) else none) ++
    repIf (v &&& rsvMask oid w ≠ 0) (i.rep 5 oid w 0 (v &&& rsvMask oid w).toNat)

/-- A capture slot's points fit (R521); a chained counter's second word is zero (R530). -/
def Image.rangeMore (i : Image) (oid : Nat) : List VRep :=
  if oid / 16 = 0xB20 then repIf (1272 < i.f oid 1 31 16 + i.f oid 1 15 0) (i.rep 5 oid 1 0 (i.w oid 1).toNat)
  else if oid / 256 = 0xC0 then repIf (i.has oid 2 && bit (i.w oid 2) 30 && i.w (oid + 1) 2 ≠ 0) (i.rep 5 (oid + 1) 2 0 (i.w (oid + 1) 2).toNat)
  else []

/-- Words that an object lacks (R443).  Counters may lack theirs. -/
def Image.missing (i : Image) (oid : Nat) : List VRep :=
  if oid / 4096 = 0xC then []
  else
    ((commitWords oid).filter (fun w => !i.has oid w)).map (fun w =>
      let first := (i.given.filter (fun k => k / 256 = oid)).head?
      let off := match first with
        | some k => i.at_ k
        | none => if i.made || (tfind i.offs (secKey (sectOf oid w))).isSome then i.at_ (secKey (sectOf oid w)) else 0
      { reason := 6, sect := sectOf oid w, off := off, obja := oid, flda := fieldAt oid w })

def Image.stage2 (i : Image) : List VRep :=
  i.flaws ++ i.given.flatMap i.wordReps ++ i.objs.flatMap i.rangeMore ++ i.objs.flatMap i.missing

/-! ## Patterns (R181, R205, R207) -/

/-- The words of the entry point at an address, `END` included; none when 64 words hold no `END`. -/
def Image.entryFrom (i : Image) : Nat → Nat → Option (List Word)
  | 0, _ => none
  | n + 1, a =>
    if 8191 < a then none
    else
      let w := tget 0 i.lib a
      if fld w 31 26 = 1 then some [w] else (i.entryFrom n (a + 1)).map (w :: ·)
def Image.entry (i : Image) (a : Nat) : Option (List Word) := i.entryFrom 64 a

/-- A PATTERNS record covers an address. -/
def Image.libCovers (i : Image) (a : Nat) : Bool := i.libRecs.any (fun p => p.1 ≤ a && a < p.1 + p.2)

/-- The fields of a library word. -/
def wordFields (w : Word) : Nat × PatFields :=
  (fld w 31 26, { dst := BitVec.ofNat 4 (fld w 25 22), srca := BitVec.ofNat 4 (fld w 21 18), srcb := BitVec.ofNat 4 (fld w 17 14),
                  pred := bit w 13, imm := BitVec.ofNat 13 (fld w 12 0) })

/-- Weight of an instruction (R165). -/
def weight (w : Word) : Nat := if fld w 31 26 = 0x2C || fld w 31 26 = 0x2D then 2 else 1

/-- `STS` and `LDS` with `SP` = 1 to a slot. -/
def isSts (s : Nat) (w : Word) : Bool := fld w 31 26 = 0x17 && fld w 4 0 = 16 + s
def isLds (s : Nat) (w : Word) : Bool := fld w 31 26 = 0x16 && fld w 4 0 = 16 + s

/-- An entry point that R207 refuses; `table` says that the tile has a repetitive-control table. -/
def badEntry (ws : Option (List Word)) (main table : Bool) : Bool :=
  match ws with
  | none => true
  | some ws =>
    let n := (ws.filter (fun w => fld w 31 26 = 0x2D)).length
    ws.any (fun w => let p := wordFields w; patReserved p.1 p.2) || (if main then 1 < n else 0 < n) ||
      (!table && ws.any (fun w => weight w = 2))

/-- Integrator slots that lack the structure of R205. -/
def Image.integBad (i : Image) (t s : Nat) : Bool :=
  bit (i.w (oTile t) (4 + s)) 25 &&
    (match i.entry (i.f (oTile t) 0 31 16), i.entry (i.f (oTile t) 1 15 0) with
     | some m, some r => !(m.any (isSts s)) || !((r.dropWhile (fun w => !isLds s w)).any (isSts s))
     | _, _ => false)

/-- The offset of the PATTERNS record that covers an address. -/
def Image.libAt (i : Image) (a : Nat) : Nat :=
  match (numbered 0 i.libRecs).find? (fun p => p.2.1 ≤ a && a < p.2.1 + p.2.2) with
  | some p => i.at_ (libKey p.1)
  | none => 0

def Image.stage5 (i : Image) : List VRep :=
  i.tiles.flatMap fun t =>
    let o := oTile t
    let table := bit (i.w o 3) 26 && i.f o 0 2 0 ≠ 4
    let pm := i.f o 0 31 16
    let pr := i.f o 1 15 0
    repIf (badEntry (i.entry pr) false table) { reason := 0xA, sect := 2, off := i.libAt pr, obja := o, flda := 256, aux := pr } ++
      repIf (badEntry (i.entry pm) true table) { reason := 0xA, sect := 2, off := i.libAt pm, obja := o, flda := 16, aux := pm } ++
      (List.range 16).flatMap (fun s => repIf (i.integBad t s) { reason := 0xA, sect := 2, off := i.libAt pm, obja := o, flda := (4 + s) * 256 + 25, aux := s })

/-! ## Stage 3: REFERENCE -/

/-- A report against a placement rule. -/
def Image.ruleRep (i : Image) (n : Nat) (r : Rule) (aux : Nat) : VRep :=
  { reason := 7, sect := 3, off := i.at_ (ruleKey n), obja := oTile r.tile, aux := aux }

/-- R126. -/
def Image.refRules (i : Image) : List VRep :=
  let rs := numbered 0 i.rules
  rs.flatMap fun p =>
    let r := p.2
    let before := rs.filter (fun q => q.1 < p.1)
    repIf (31 < r.slot + r.bricks - 1) (i.ruleRep p.1 r r.slot) ++
      repIf (before.any (fun q => q.2.ring = r.ring && q.2.slot < r.slot + r.bricks && r.slot < q.2.slot + q.2.bricks)) (i.ruleRep p.1 r r.slot) ++
      repIf (before.any (fun q => q.2.tile = r.tile && q.2.member = r.member)) (i.ruleRep p.1 r r.member) ++
      repIf (before.any (fun q => q.2.tile = r.tile && q.2.quorum ≠ r.quorum)) (i.ruleRep p.1 r r.quorum)

/-- An input binding that R142 or R146 refuses. -/
def Image.badIn (i : Image) (b : Nat) : Bool :=
  let a := b % 4096
  match b / 4096 with
  | 0 => a ≠ 0
  | 1 => a % 4 ≠ 0 || (rulesAt i.rules (bindRing b) (bindSlot b)).isNone
  | 2 => 16 ≤ a
  | 3 => a / 4 % 4 ≠ 0 || 159 < bindTile b
  | 4 => 47 < a
  | 5 => 47 < a
  | 6 => 255 < a
  | 7 => a ≠ 0
  | _ => true

/-- An output binding that R144, R278 or R333 refuses; `n` is the port. -/
def badOut (policy : Bool) (n b : Nat) : Bool :=
  let a := b % 4096
  match b / 4096 with
  | 0 => a ≠ 0
  | 1 => policy || n ≠ 0 || a ≠ 0
  | 2 => !policy || a < 176 || 255 < a
  | 3 => !policy || a % 16 ≠ 0
  | _ => true

/-- Tiles: R42, R141, R142, R144, R146, R276 and R278; `l` runs the candidate image. -/
def Live.refTile (l : Live) (t : Nat) : List VRep :=
  let i := l.img.cur
  let o := oTile t
  let kind := l.tKind t
  let binds := ((List.range 8).map (l.tIn t)).filter (fun b => bindCode b = 1)
  let rings := (binds.map bindRing ++ l.memberRings t).dedup
  let rcen (u : Nat) : Bool := bit (i.w (oTile u) 3) 26
  let base (u : Nat) := i.f (oTile u) 3 15 0
  let len (u : Nat) := i.f (oTile u) 3 25 16 + 1
  let rs := l.tileRules t
  let inTile (j : Nat) (u : Nat) : Bool := l.tKind u = 1 && l.tIn u 0 = 0x6000 + j
  let j := l.tIn t 0 % 256
  let input :=
    l.tIn t 0 / 64 ≠ 0x180 || l.tOut t 0 ≠ 0x1000 ||
      (match rs with
       | [r] => (r.stype ≠ 1 && r.stype ≠ 2) || r.bricks ≠ 1 || l.tIn t 1 ≠ 0x1000 + r.ring * 512 + r.slot % 32 * 16 + 4
       | _ => true)
  repIf (!i.hasObj (oZone (l.tZone t))) (i.rep 7 o 0 8 (l.tZone t)) ++
    repIf (!i.libCovers (i.f o 0 31 16)) (i.rep 7 o 0 16 (i.f o 0 31 16)) ++
    repIf (!i.libCovers (i.f o 1 15 0)) (i.rep 7 o 1 0 (i.f o 1 15 0)) ++
    repIf (rcen t && (65536 < base t + len t || i.tiles.any (fun u => u < t && rcen u && base u < base t + len t && base t < base u + len u)))
      (i.rep 7 o 3 0 (base t)) ++
    repIf (rcen t && len t < i.f o 62 15 0) (i.rep 7 o 62 0 (i.f o 62 15 0)) ++
    (List.range 8).flatMap (fun k => repIf (i.badIn (l.tIn t k)) (i.rep 7 o (52 + k / 2) (16 * (k % 2)) (l.tIn t k))) ++
    (List.range 4).flatMap (fun k => repIf (badOut (kind = 4) k (l.tOut t k)) (i.rep 7 o (56 + k / 2) (16 * (k % 2)) (l.tOut t k))) ++
    repIf (kind ≠ 4 && (rings.isEmpty || ((rings.map l.rate).dedup).length ≠ 1 || rings.any (fun n => l.period n = 0))) (i.rep 7 o 0 0 kind) ++
    repIf (kind = 1 && input) (i.rep 7 o 52 0 (l.tIn t 0)) ++
    repIf (kind = 1 && i.tiles.any (fun u => u < t && inTile j u)) (i.rep 7 o 52 0 j)

/-- Rails (R239). -/
def Live.refRail (l : Live) (r : Nat) : List VRep :=
  let i := l.img.cur
  let o := oRail r
  let t := l.railTile r
  repIf (!i.hasTile t || l.tKind t ≠ 0) (i.rep 7 o 0 24 t) ++
    repIf (l.ncfg r ≠ (l.tileRules t).length) (i.rep 7 o 0 20 (l.ncfg r)) ++
    repIf (l.ncfg r < l.nmin r) (i.rep 7 o 0 16 (l.nmin r)) ++
    repIf (l.ncfg r ≤ l.vsense r) (i.rep 7 o 0 13 (l.vsense r)) ++
    repIf (!(i.f o 2 15 0 < i.f o 3 31 16 && i.f o 3 31 16 ≤ i.f o 2 31 16)) (i.rep 7 o 3 16 (i.f o 3 31 16)) ++
    repIf (i.f o 3 15 0 = 0) (i.rep 7 o 3 0 0) ++
    repIf (2 ≤ (i.railBuses r t).length) (i.rep 7 o 0 24 t)

/-- The rails that ports name, with port and `RAILSEL`. -/
def Image.named (i : Image) : List (Nat × Nat × Nat) :=
  (List.range 16).flatMap fun p =>
    if i.hasObj (oVc p) then
      (List.range 4).filterMap (fun k =>
        let r := i.f (oVc p) 0 (31 - 6 * k) (26 - 6 * k)
        if r = 63 then none else some (r, p, k))
    else []

/-- VC ports (R244). -/
def Image.refVc (i : Image) : List VRep :=
  (numbered 0 i.named).flatMap fun q =>
    let (r, p, k) := q.2
    let dup := (i.named.take q.1).find? (fun x => x.1 = r)
    repIf (!i.hasObj (oRail r)) (i.rep 7 (oVc p) 0 (26 - 6 * k) r) ++
      (match dup with
       | some x => [{ i.rep 7 (oVc x.2.1) 0 (26 - 6 * x.2.2) r with off := i.at_ (key (oVc p) 0), objb := oVc p, fldb := 26 - 6 * k }]
       | none => [])

/-- The power path's margins (R290): 1 − sqrt(1 − k) + 0.02 ≤ g with the square root cleared. -/
def Image.refPower (i : Image) : List VRep :=
  let kh := i.f 0x6FFF 3 31 24
  let gt := i.f 0x6FFF 3 23 16
  let gb := i.f 0x6FFF 3 15 8
  let m : Rat := 1 + 2 / 100 - (gb : Rat) / 200
  let fits := m ≤ 0 || m * m ≤ 1 - (kh : Rat) / 200
  repIf (!(100 ≤ kh && kh ≤ 180)) (i.rep 7 0x6FFF 3 24 kh) ++ repIf (kh ≤ 200 && !fits) (i.rep 7 0x6FFF 3 8 gb) ++
    repIf (!(gb < gt && gt ≤ 170)) (i.rep 7 0x6FFF 3 16 gt)

/-- Strings (R316, R324, R329). -/
def Live.refStr (l : Live) (k : Nat) : List VRep :=
  let i := l.img.cur
  let o := oStr k
  let t := l.strTile k
  let entry (m : Nat) := i.f o (18 + m / 2) (if m % 2 = 0 then 31 else 15) (if m % 2 = 0 then 16 else 0)
  let memberOk : Bool := match l.tileRules t with | [r] => r.stype = 3 | _ => false
  repIf (!i.hasTile t || l.tKind t ≠ 2 || !memberOk || l.strNums.any (fun j => j < k && l.strTile j = t)) (i.rep 7 o 0 24 t) ++
    repIf (i.f o 1 31 16 ≤ i.f o 1 15 0) (i.rep 7 o 1 0 (i.f o 1 15 0)) ++
    repIf (l.lmode k && !(List.range 15).all (fun m => entry m < entry (m + 1))) (i.rep 7 o 18 16 (entry 0))

/-- The point a point takes its ambient from, when that is a point (R354). -/
def Image.ambPoint (i : Image) (ringOf : Nat → Option Nat) (p : Nat) : Option Nat :=
  if p < 256 then
    (match ringOf p with
     | some n => let v := i.f 0x8FFF (3 + n / 2) (if n % 2 = 0 then 31 else 15) (if n % 2 = 0 then 16 else 0)
                 if v / 2 ^ 14 = 1 then some (v % 512) else none
     | none => none)
  else if i.hasObj (oPoint p) && i.f (oPoint p) 4 26 25 = 1 then some (i.f (oPoint p) 4 24 16) else none

/-- A chain of ambient points from a point returns to it or does not end. -/
def Image.ambLoops (i : Image) (ringOf : Nat → Option Nat) : Nat → Nat → Bool
  | 0, _ => true
  | n + 1, p => match i.ambPoint ringOf p with | some q => i.ambLoops ringOf n q | none => false

/-- The ring of a station whose record stands. -/
def Live.ringOf (l : Live) (p : Nat) : Option Nat := if (l.stn p).st = .unseen then none else some (l.stn p).ring

/-- Thermal points (R354, R364); a station's point lies on the ring on which the station has been found. -/
def Live.refTherm (l : Live) : List VRep :=
  let i := l.img.cur
  (List.range 32).flatMap (fun a =>
      let p := 256 + a
      let o := oPoint p
      if i.hasObj o then
        repIf (i.ambLoops l.ringOf 289 p) (i.rep 7 o 4 16 (i.f o 4 24 16)) ++
          repIf (i.f o 8 23 16 ≤ i.f o 8 31 24) (i.rep 7 o 8 16 (i.f o 8 23 16))
      else []) ++
    (List.range 8).flatMap (fun n =>
      let w := 3 + n / 2
      let lo := if n % 2 = 0 then 16 else 0
      repIf (i.has 0x8FFF w && (List.range 256).any (fun p => l.ringOf p = some n && i.ambLoops l.ringOf 289 p))
        (i.rep 7 0x8FFF w lo (fld (i.w 0x8FFF w) (lo + 15) lo)))

/-- Some detail of the code belongs to a resettable block (Table 11.8). -/
def ownsBlock (c : Nat) : Bool := (blockOf { code := BitVec.ofNat 16 c }).isSome

/-- Routes (R382). -/
def Image.refRoutes (i : Image) : List VRep :=
  (numbered 0 i.routes).flatMap fun p =>
    let (c, k) := p.2
    let dup := (i.routes.take p.1).any (fun x => x.1 = c)
    let bad := match defaultCls c with
      | none => true
      | some d => (fixedCode c && clsOf k ≠ some d) || (k = 4 && !ownsBlock c) || 5 < k
    repIf (dup || bad) { reason := 7, sect := 4, off := i.at_ (routeKey p.1), flda := 16, aux := c }

/-- Blocks that name themselves (Table 11.9). -/
def Image.refBlocks (i : Image) : List VRep :=
  (List.range 16).flatMap fun b => repIf ((i.f 0x9FFF (2 * b + 8) 21 6).testBit b) (i.rep 7 0x9FFF (2 * b + 8) 6 b)

/-- Stage 3; `l` runs the candidate image. -/
def Live.stage3 (l : Live) : List VRep :=
  let i := l.img.cur
  i.tiles.flatMap l.refTile ++ i.refRules ++ l.railNums.flatMap l.refRail ++ i.refVc ++ i.refPower ++ l.strNums.flatMap l.refStr ++
    l.refTherm ++ i.refRoutes ++ i.refBlocks

/-! ## Stage 4: CONFLICT, CAPACITY (R445, R446) -/

/-- A claim with where it comes from. -/
structure ClaimAt where
  c    : Claim := {}
  fld_ : Nat := 0
  sect : Nat := 0
  off  : Nat := 0
  deriving DecidableEq, Repr

/-- Implicit claims of an object: heater pins (R332), trace channels (R528). -/
def Image.implied (i : Image) : List ClaimAt :=
  (List.range 16).flatMap (fun k =>
      let o := oStr k
      if bit (i.w o 9) 23 then [{ c := { kind := 0, mode := 1, index := i.f o 9 22 19, owner := o }, fld_ := 0x0913, sect := 0x13, off := i.at_ (key o 9) }]
      else []) ++
    (List.range 8).flatMap (fun t =>
      let o := 0xB100 + t
      let mk (kind mode index lo : Nat) : ClaimAt := { c := { kind := kind, mode := mode, index := index, owner := o }, fld_ := lo, sect := 0x17, off := i.at_ (key o 0) }
      if bit (i.w o 0) 31 then
        [mk 1 0 t 31, mk 2 (i.f o 0 15 10) (i.f o 0 21 16) 16] ++ (if bit (i.w o 0) 9 then [mk 0 1 (i.f o 0 8 5) 5] else [])
      else [])

/-- Every claim, in ascending order of offset. -/
def Image.allClaims (i : Image) : List ClaimAt :=
  ((numbered 0 i.claims).map (fun p => { c := p.2, sect := 5, off := i.at_ (claimKey p.1) : ClaimAt }) ++ i.implied).mergeSort
    (fun a b => a.off ≤ b.off)

/-- Two claims collide. -/
def Claim.hits (a b : Claim) : Bool :=
  a.kind = b.kind &&
    (match a.kind with
     | 0 => a.index = b.index && !(a.mode = 0 && b.mode = 0)
     | 1 => a.index = b.index
     | 2 => a.index < b.index + b.mode && b.index < a.index + a.mode
     | _ => a.index = b.index && a.owner ≠ b.owner)

/-- The black box's own units (R446, R512). -/
def blackBox : ClaimAt := { c := { kind := 2, mode := 24, index := 0, owner := 0xB000 } }

/-- Tiles of a kind that the controller holds (Table 0.1). -/
def kindMax : Nat → Nat
  | 0 => 48 | 1 => 64 | 2 => 16 | 3 => 8 | _ => 24

def Image.stage4 (i : Image) : List VRep :=
  let cs := i.allClaims
  let clash (a b : ClaimAt) : VRep :=
    { reason := 8, sect := b.sect, off := b.off, obja := a.c.owner, flda := a.fld_, objb := b.c.owner, fldb := b.fld_,
      aux := b.c.kind * 2 ^ 24 + b.c.index }
  (numbered 0 cs).flatMap (fun p =>
      let b := p.2
      ((blackBox :: cs.take p.1).filter (fun a => a.c.hits b.c)).map (fun a => clash a b) ++
        repIf (b.c.kind = 2 && 64 < b.c.index + b.c.mode)
          { reason := 9, sect := b.sect, off := b.off, obja := b.c.owner, flda := b.fld_, aux := 2 * 2 ^ 24 + b.c.index }) ++
    (List.range 5).flatMap (fun k =>
      match (i.tiles.filter (fun t => i.f (oTile t) 0 2 0 = k)).drop (kindMax k) with
      | t :: _ => [i.rep 9 (oTile t) 0 0 0]
      | [] => [])

/-! ## Stage 6: RING (R78); `l` runs the candidate image -/

def Live.stage6 (l : Live) : List VRep :=
  (List.range 8).flatMap fun n =>
    if l.period n = 0 then []
    else
      let pairs := (l.ringSlots n).length
      repIf (5 * l.period n < tNeed pairs (l.lconv n) (bandRetry 3) (dPlan pairs (l.dmeasOf n)) (bandGap 3))
        { l.img.cur.rep 0xB (oRing n) 1 0 n with band := 3 }

/-! ## Stage 7: lanes (R161, R165 to R170); `l` runs the candidate image.  Times in tenths of a nanosecond. -/

/-- Instruction time of a band (Table 4.5). -/
def instrTime : Nat → Nat
  | 0 => 20 | 1 => 22 | 2 => 25 | 3 => 29 | _ => 34

/-- Cost of a tile in instruction times (R165). -/
def Image.cost (i : Image) (t : Nat) : Nat :=
  let ws (a : Nat) := (i.entry a).getD []
  12 + (((ws (i.f (oTile t) 1 15 0)) ++ ws (i.f (oTile t) 0 31 16)).map weight).sum

/-- When the inputs of a ring's tiles are final, and when its down window opens, in a band (Table 2.10, R147). -/
def Live.finalIn (l : Live) (n band : Nat) : Nat :=
  let p := (l.ringSlots n).length
  10 * (36 + 4 * l.lconv n + 32 * p + 2 * dPlan p (l.dmeasOf n) + 24 + 32 * (l.layoutFor n band).getD 0)
def Live.downIn (l : Live) (n band : Nat) : Nat := l.finalIn n band + 10 * bandGap band

/-- What the proof needs of a tile: course period, cost, `final` and deadline by band, courses per bond odd. -/
structure LaneTile where
  tile   : Nat
  period : Nat
  cost   : Nat
  final  : List Nat
  dead   : List Nat
  prio   : Nat
  odd    : Bool
  deriving DecidableEq, Repr

def Live.laneTile (l : Live) (t : Nat) : LaneTile :=
  let per := l.tilePeriod t
  let bands := List.range 5
  let dead (b : Nat) :=
    (((l.tileRules t).map (fun r => l.downIn r.ring b + 240 * l.slotPos r.ring r.slot)).min?).getD (50 * per)
  { tile := t, period := per, cost := l.img.cur.cost t,
    final := bands.map (fun b => (((l.tileRings t).map (fun n => l.finalIn n b)).max?).getD 0),
    dead := bands.map dead, prio := l.tPrio t, odd := per ≠ 0 && bondTicks / per % 2 = 1 }

/-- The lane cycle in ticks, and the schedule in its order (R166). -/
def laneSched (ts : List LaneTile) : Nat × List (LaneTile × Nat) :=
  let cyc := ts.foldl (fun c x => Nat.lcm c x.period) 1
  let es := ts.flatMap (fun x => (List.range (if x.period = 0 then 0 else cyc / x.period)).map (fun j => (x, j)))
  let k (e : LaneTile × Nat) := 50 * e.2 * e.1.period + e.1.dead.getD 3 0
  (cyc, es.mergeSort (fun a b => k a < k b || (k a = k b && (b.1.prio < a.1.prio || (b.1.prio = a.1.prio && a.1.tile ≤ b.1.tile)))))

/-- The proof over entries with their start times and parity; `t` is the time so far. -/
def prove (band : Nat) (dec : List Nat) : Nat → List (LaneTile × Nat × Nat × Bool) → Option (Nat × Nat)
  | _, [] => none
  | t, (x, c, start, odd) :: rest =>
    if band = 4 && dec.contains x.tile && odd then prove band dec t rest
    else
      let t := max t (start + x.final.getD band 0) + x.cost * instrTime band
      if start + x.dead.getD band 0 ≤ t then some (x.tile, c) else prove band dec t rest

/-- The entries of a span of `n` lane cycles; `inv` is the second parity case (R167). -/
def spanOf (s : Nat × List (LaneTile × Nat)) (n : Nat) (inv : Bool) : List (LaneTile × Nat × Nat × Bool) :=
  (List.range n).flatMap fun k =>
    s.2.map fun e =>
      let j := if e.1.period = 0 then 0 else k * (s.1 / e.1.period) + e.2
      let odd : Bool := j % 2 = 1
      (e.1, e.2, 50 * (k * s.1 + e.2 * e.1.period), if inv && e.1.odd then !odd else odd)

/-- The proof for a lane in one band: the failing tile and course index. -/
def laneProof (ts : List LaneTile) (band : Nat) (dec : List Nat) : Option (Nat × Nat) :=
  let s := laneSched ts
  if band < 4 then prove band dec 0 (spanOf s 1 false)
  else match prove band dec 0 (spanOf s 2 false) with
    | some x => some x
    | none => prove band dec 0 (spanOf s 2 true)

/-- The first failure of a lane in bands `T0` to `T3`: band, tile, course index. -/
def laneFirst (ts : List LaneTile) : Option (Nat × Nat × Nat) :=
  [0, 1, 2, 3].findSome? (fun b => (laneProof ts b []).map (fun x => (b, x.1, x.2)))

/-- An ADMIT report. -/
def Image.admitted (i : Image) (band lane tile cidx : Nat) : VRep :=
  { i.rep 0xC (oTile tile) 0 0 (lane * 2 ^ 24 + tile * 2 ^ 16 + cidx) with band := band }

/-- Put the tiles whose lane is open on lanes, one after another (R169). -/
def chooseLanes (i : Image) (policy : Bool) : List (List LaneTile) → List LaneTile → List (List LaneTile) × List VRep
  | ls, [] => (ls, [])
  | ls, x :: rest =>
    let free := (ls.filter List.isEmpty).length
    let usable := (List.range 8).filter (fun k => !(policy && (ls.getD k []).isEmpty && free ≤ 1))
    match usable.find? (fun k => (laneFirst (ls.getD k [] ++ [x])).isNone) with
    | some k => chooseLanes i policy (ls.set k (ls.getD k [] ++ [x])) rest
    | none =>
      match usable.head? with
      | some k => let f := (laneFirst (ls.getD k [] ++ [x])).getD (0, x.tile, 0)
                  (ls, [i.admitted f.1 k x.tile f.2.2])
      | none => (ls, [i.admitted 0 0 x.tile 0])

/-- The lane plan: the schedule of each lane (cycle and entries) and the decimation set. -/
structure Plan where
  lanes : List (Nat × List (Nat × Nat)) := []
  dec   : List Nat := []
  deriving DecidableEq, Repr

/-- The shortest leading run of tiles that makes the proof hold at `T4` (R161), or the failure that stays. -/
def decRun (ls : List (List LaneTile)) : List Nat → List Nat → Sum (List Nat) (Nat × Nat × Nat)
  | dec, more =>
    match (numbered 0 ls).findSome? (fun p => (laneProof p.2 4 dec).map (fun x => (p.1, x.1, x.2))) with
    | none => .inl dec
    | some f => match more with
      | [] => .inr f
      | t :: rest => decRun ls (dec ++ [t]) rest

/-- Stage 7: the lanes, or the failures. -/
def Live.stage7 (l : Live) : List VRep × Plan :=
  let i := l.img.cur
  let pol := i.tiles.filter (fun t => l.tKind t = 4)
  let cts := i.tiles.filter l.courseTile
  let lane (t : Nat) := i.f (oTile t) 2 3 0
  let fixed := (List.range 8).map (fun k => (cts.filter (fun t => lane t = k)).map l.laneTile)
  let open_ := (cts.filter (fun t => lane t = 15)).mergeSort (fun a b => l.tPrio b < l.tPrio a || (l.tPrio a = l.tPrio b && a ≤ b))
  let ch := chooseLanes i (!pol.isEmpty) fixed (open_.map l.laneTile)
  let ls := ch.1
  let sc := ls.map laneSched
  let ents := sc.flatMap (·.2)
  let polBad := 100000 * 50 < (pol.map i.cost).sum * instrTime 4 || (!pol.isEmpty && ls.all (fun x => !x.isEmpty))
  let cand := (cts.filter (fun t => bit (i.w (oTile t) 1) 24)).mergeSort (fun a b =>
    let za := l.zprio (l.tZone a)
    let zb := l.zprio (l.tZone b)
    za < zb || (za = zb && (l.tPrio a < l.tPrio b || (l.tPrio a = l.tPrio b && a ≤ b))))
  let cold := (numbered 0 ls).findSome? (fun p => (laneFirst p.2).map (fun f => i.admitted f.1 p.1 f.2.1 f.2.2))
  let run := decRun ls [] cand
  let admitReps : List VRep := match ch.2, cold, run with
    | r :: _, _, _ => [r]
    | [], some r, _ => [r]
    | [], none, .inr f => [i.admitted 4 f.1 f.2.1 f.2.2]
    | [], none, .inl _ => []
  let tooMany : List VRep := match ents.drop 2016 with
    | e :: _ => [i.rep 0xD (oTile e.1.tile) 0 0 0]
    | [] => []
  let noLane : List VRep := match pol with
    | p :: _ => repIf polBad (i.rep 0xE (oTile p) 0 0 0)
    | [] => []
  let dec := match run with | .inl d => d | .inr _ => []
  (admitReps ++ tooMany ++ noLane, { lanes := sc.map (fun s => (if s.2.isEmpty then 0 else s.1, s.2.map (fun e => (e.1.tile, e.2)))), dec := dec })

/-! ## The validator (R453) -/

/-- The state as it would run another image. -/
def Live.under (l : Live) (i : Image) : Live := { l with img := { l.img with cur := i } }

/-- The reports of the first stage that finds a failure, at most 8 in ascending order of offset, and the lane plan. -/
def Live.validate (l : Live) (i : Image) (strip : Bool) : List VRep × Plan :=
  let u := l.under i
  let first (rs : List VRep) (next : Unit → List VRep × Plan) : List VRep × Plan :=
    if rs.isEmpty then next () else ((rs.mergeSort (fun a b => a.off ≤ b.off)).take 8, {})
  first (l.stage1 i strip) fun _ => first i.stage2 fun _ => first u.stage3 fun _ => first i.stage4 fun _ =>
    first i.stage5 fun _ => first u.stage6 fun _ =>
      let r := u.stage7
      if r.1.isEmpty then r else first r.1 fun _ => r

/-- The message status of a reason (Table 13.12). -/
def reasonStatus : Nat → Nat
  | 3 => 0x02 | 4 => 0x0D | 8 => 0x05 | _ => 0x0C

/-- The 24 octets of a report record (Table 13.13). -/
def VRep.octets (r : VRep) : List Byte :=
  leBytes r.reason 1 ++ leBytes r.band 1 ++ leBytes r.sect 2 ++ leBytes r.off 4 ++ leBytes r.obja 2 ++ leBytes r.flda 2 ++
    leBytes r.objb 2 ++ leBytes r.fldb 2 ++ leBytes r.aux 4 ++ List.replicate 4 0

/-! ## Commit (R455, R480) -/

/-- A commit fails: the reply with its report; the transaction stays open (Table 14.7). -/
def Live.commitFail (l : Live) (rs : List VRep) : Live :=
  let st := reasonStatus ((rs.head?.map (·.reason)).getD 0)
  let data := leBytes l.img.txn.num.toNat 2 ++ [BitVec.ofNat 8 rs.length, 0] ++ rs.flatMap VRep.octets
  ((l.answerCommit st data).modTxn fun t => { t with st := .opened, outcome := 6, ready := {}, mateOk := false, lastAt := l.now }).count 121

/-- The commit needs the mate's confirmation (R430). -/
def Live.needsMate (l : Live) : Bool := l.mateen && l.mateUp && !l.stands 0xA003 0xA000 && !l.img.txn.mateOk

/-- Image blocks of 1024 octets. -/
def cut1024 : Nat → List Byte → List (List Byte)
  | 0, _ => []
  | n + 1, b => if b.isEmpty then [] else b.take 1024 :: cut1024 n (b.drop 1024)

/-- Send image block `k` to the mate. -/
def Live.imgSend (l : Live) (k : Nat) : Live :=
  match l.keeper.imgTx[k]? with
  | some d => l.mateSend 0x05 l.knownEpoch (BitVec.ofNat 32 l.keeper.imgTx.length) k d
  | none => l

/-- TXN_COMMIT of the owner, once Table 14.7 lets it run: the validator, and step 1 of R455.  The pending lane schedules
are those that the validator made. -/
def Live.commitStart (l : Live) : Live :=
  let t := l.img.txn
  let (i, strip) := t.image
  let v := l.validate i strip
  if !v.1.isEmpty then l.commitFail v.1
  else
    let l := l.modTxn fun t => { t with st := .committing, ready := i, mateOk := false, syncAt := l.now }
    let l := l.modLoop fun e =>
      { e with pendSched := (numbered 0 v.2.lanes).foldl (fun c p => tput (0, []) c p.1 p.2) [], pendDec := v.2.dec }
    if l.needsMate then
      (l.modK fun k => { k with imgTx := cut1024 (i.octets.length + 1) i.octets, imgAcked := 0 }).imgSend 0
    else l

/-- A failure with reason MATE or STORE: one record. -/
def Live.commitBroken (l : Live) (reason : Nat) : Live := l.commitFail [{ reason := reason }]

/-! ## The image store (R436 to R438) -/

def Live.storeSlot (l : Live) (n : Nat) : StoreSlot := tget {} l.img.slots n
def Live.modStore (l : Live) (n : Nat) (f : StoreSlot → StoreSlot) : Live :=
  { l with img := { l.img with slots := tmod {} l.img.slots n f } }

/-- Bytes 0 to 39 of a slot header (Table 13.1): `SSEQ`, `SLEN` and `SHASH`. -/
def StoreSlot.head (s : StoreSlot) : List Byte :=
  leBytes s.sseq.toNat 4 ++ leBytes s.img.octets.length 4 ++ (s.hash ++ List.replicate 32 0).take 32

/-- `SCRC` passes. -/
def StoreSlot.scrcOk (s : StoreSlot) : Bool := s.scrc = BitVec.ofNat 32 (crc32 s.head)

/-- The record that opens a slot's header page. -/
def StoreSlot.header (s : StoreSlot) : List Byte := s.head ++ leBytes s.scrc.toNat 4 ++ leBytes s.act.toNat 4

/-- The activation word says activated. -/
def StoreSlot.active (s : StoreSlot) : Bool := s.used && s.act = 0

/-- The newer of the two slots that a test admits, by `SSEQ` (R338). -/
def Live.newerSlot (l : Live) (ok : StoreSlot → Bool) : Option Nat :=
  let a := l.storeSlot 0
  let b := l.storeSlot 1
  match ok a, ok b with
  | true, true => if seqNewer b.sseq a.sseq then some 1 else some 0
  | true, false => some 0
  | false, true => some 1
  | false, false => none

/-- A slot's image may run (R438). -/
def Live.slotRuns (l : Live) (s : StoreSlot) : Bool :=
  s.active && s.scrcOk && s.hash = s.img.hash && (l.validate s.img false).1.isEmpty

/-- Program an image into a slot: staged (R437). -/
def Live.stageImage (l : Live) (n : Nat) (i : Image) : Live :=
  let top := match l.newerSlot (·.used) with | some m => (l.storeSlot m).sseq | none => 0
  let s : StoreSlot := { used := true, sseq := top + 1, hash := i.hash, act := 0xFFFFFFFF, img := i }
  l.modStore n fun _ => { s with scrc := BitVec.ofNat 32 (crc32 s.head) }

/-- The image at start (R438): `IMG_SLOT_BAD` when the newer slot fails, `IMG_NONE` when none qualifies. -/
def Live.chooseImage (l : Live) : Live :=
  let newer := l.newerSlot (·.active)
  let pick := l.newerSlot l.slotRuns
  let l := match newer with
    | some n => if pick = some n then l else l.raise 0xB002 0x0001 n
    | none => l
  match pick with
  | some n => { l with img := { l.img with slot := some n, atStart := some (l.storeSlot n).img } }
  | none => (l.raise 0xB001 0x0001).under {}

/-! ## Rows -/

/-- COMMIT_COMPLETE (R455): the mate has confirmed where it must, the slot is staged, and the activating bond is set. -/
def execCommitComplete (flashOk : Bool) (s : State) : Host.Outcome State Fault Refusal :=
  s.upd fun l =>
    let t := l.img.txn
    if t.st ≠ .committing || l.needsMate || !l.fwWork then l
    else if !flashOk || !l.flashErase || !l.flashProgram then (l.raise 0xB003 0x0001).commitBroken 0x10
    else
      let n := if l.img.slot = some 0 then 1 else 0
      let l := l.stageImage n t.ready
      let at_ := l.bond + 2
      let l := l.answerCommit 0 (leBytes t.num.toNat 2 ++ leBytes at_ 8)
      l.modTxn fun t => { t with st := .pending, actBond := at_ }

/-- IMG_DATA (R424, R430): a block of the mate's image.  The last one completes it, and its hash goes back. -/
def execImgData (f : MateHdr) (s : State) : Host.Outcome State Fault Refusal :=
  s.upd fun l =>
    if !l.kUp || !l.keeper.mateen then l
    else
      let ack (l : Live) (st : Nat) (more : List Byte) : Live := l.mateSend 0x06 l.knownEpoch f.seq f.idx.toNat (BitVec.ofNat 8 st :: more)
      if !f.crcOk then ack l 1 []
      else if l.keeper.incompat || l.keeper.live || 1024 < f.data.length || f.seq.toNat ≤ f.idx.toNat || !l.flashErase then ack l 2 []
      else
        let cold : Bool := l.pwr.st = .cold
        let l := if cold then l.modPwr fun p => { p with on := p.on ||| 0xA0 } else l
        let l := l.modK fun k =>
          let rx := if k.imgCount = f.seq.toNat && f.idx ≠ 0 then k.imgRx else []
          { k with imgCount := f.seq.toNat, imgRx := tset rx f.idx.toNat f.data }
        if (List.range f.seq.toNat).all (fun k => (tfind l.keeper.imgRx k).isSome) then
          let i := parseImage (l.keeper.imgRx.flatMap (·.2))
          let here := match l.img.slot with | some n => some n | none => l.newerSlot (·.active)
          let l := l.stageImage (if here = some 0 then 1 else 0) i
          let l := l.modK fun k => { k with imgRx := [], imgCount := 0 }
          let l := if cold then l.modPwr fun p => { p with on := p.on &&& 0x5F } else l
          ack l 0 ([0, 0, 0] ++ (i.hash ++ List.replicate 32 0).take 32)
        else ack l 0 []

/-- IMG_ACK (R430): the mate acknowledges a block, or returns the hash of what it has stored. -/
def execImgAck (f : MateHdr) (s : State) : Host.Outcome State Fault Refusal :=
  s.upd fun l =>
    let t := l.img.txn
    if !l.kUp || !f.crcOk || t.st ≠ .committing || t.mateOk || f.idx.toNat ≠ l.keeper.imgAcked then l
    else
      match (f.data.getD 0 2).toNat with
      | 0 =>
        let l := l.modK fun k => { k with imgAcked := k.imgAcked + 1 }
        if l.keeper.imgAcked < l.keeper.imgTx.length then l.imgSend l.keeper.imgAcked
        else if sliceB f.data 4 32 = t.ready.hash then (l.modTxn fun t => { t with mateOk := true }).count 123
        else l.commitBroken 0x0F
      | 1 => l.imgSend f.idx.toNat
      | _ => l.commitBroken 0x0F

/-- IMAGE_SYNC_TIMEOUT (R430): 2 s without confirmation. -/
def execImageSyncTimeout (s : State) : Host.Outcome State Fault Refusal :=
  s.upd fun l =>
    let t := l.img.txn
    if t.st = .committing && l.needsMate && t.syncAt + 400000000 ≤ l.now then l.commitBroken 0x0F else l

end Sys2Proof.Machine
end

