-- ==== Sys2Proof/Machine/Power.lean ====
section
/-! DEFINITION. Supply, reset, boot, the power states and the reference (chapter "Start-up and power states", R33 to
R37). -/
namespace Sys2Proof.Machine

/-! ## What survives (R540, R542, R547) -/

/-- The newest page of the flush ring that a test admits, by `PSEQ` under the rule of R338. -/
def Recorder.newestPage (r : Recorder) (ok : FlushPage → Bool) : Option (Nat × FlushPage) :=
  (r.flash.filter (fun p => ok p.2)).foldl (fun b p =>
    match b with
    | none => some p
    | some q => if seqNewer (BitVec.ofNat 32 p.2.pseq) (BitVec.ofNat 32 q.2.pseq) then some p else b) none

/-- The recorder starts (R516, R520): the newest page that passes its checks sets the write position and the next `PSEQ`, and
the newest page of events the next record sequence. -/
def Recorder.atStart (r : Recorder) : Recorder :=
  let p := r.newestPage (·.ok)
  let e := r.newestPage (fun p => p.ok && !p.capture)
  { r with wpos := (p.map (fun x => nextPage x.1)).getD 16, pseq := (p.map (·.2.pseq)).getD 0,
           rseq := (e.bind (fun x => x.2.recs.getLast?.map (·.seq))).getD 0 }

/-- What is left without power: flash and OTP (R540). -/
def Live.flashOnly (l : Live) : Live :=
  let k := l.stgDrop.d0Only
  { k with
    now := 0, bond := 0, bondAt := 0, keeper := { stored := k.keeper.stored }, pwr := {}, fc := {}, ports := {}, adc := {},
    recd := { k.recd with d0q := [], d0lost := 0, clkSet := false, clkSec := 0, clkAt := 0 },
    sec := { k.sec with lc := l.lcNow } }

/-- The straps as a release of reset samples them (R543). -/
def Live.strap (l : Live) (t : Straps) : Live :=
  let l := l.modPwr fun p => { p with strapRole := t.role, strapAddr := t.addr, strapRec := t.gpio0 }
  let l := l.modK fun k => { k with roleB := t.role }
  { l with ports := { l.ports with addr := t.addr } }

/-- D0 with its domains off and the keeper core stopped, as a reset leaves it: the tick count, the shelf clock, the
retention SRAM, the D0 queue and flash are not affected (R542); the safe state and every occurrence end (R389, R553). -/
def Live.resetState (l : Live) : Live :=
  let k := l.closeAll.d0Only
  let c := l.keeper
  { k with
    bond := 0, bondAt := 0, fc := {},
    keeper := { stored := c.stored, epoch := c.epoch, bufA := c.bufA, bufB := c.bufB, ckSeq := c.ckSeq, ckNum := c.ckNum, ckAt := c.ckAt, ckOk := c.ckOk,
                roleB := l.pwr.strapRole, resetAt := l.now },
    ports := { addr := l.pwr.strapAddr },
    pwr := { strapRole := l.pwr.strapRole, strapAddr := l.pwr.strapAddr, strapRec := l.pwr.strapRec, pfailN := l.pwr.pfailN, pfailAt := l.pwr.pfailAt,
             refLoss := l.pwr.refLoss, timeEst := l.pwr.timeEst, stageAt := l.now } }

/-- A release of reset with a cause (R543, Table 17.5): boot stage 1. -/
def Live.release (l : Live) (cause : Nat) : Live := l.resetState.modPwr fun p => { p with cause := BitVec.ofNat 8 cause }

/-- POWER_ON_RESET (R540, R543). -/
def execPowerOnReset (straps : Straps) (s : State) : Host.Outcome State Fault Refusal :=
  .next { s with live := s.live.flashOnly.strap straps, gens := [] }

/-- VIN_FALL (R540): OFF. -/
def execVinFall (s : State) : Host.Outcome State Fault Refusal :=
  .next { s with live := s.live.flashOnly.modPwr fun p => { p with st := .off, on := 0 }, gens := [] }

/-- RESET_ASSERT (R542). -/
def execResetAssert (s : State) : Host.Outcome State Fault Refusal :=
  if s.live.pwr.st = .off then s.same
  else .next { s with live := s.live.resetState.modPwr fun p => { p with resetLow := true }, gens := [] }

/-- RESET_RELEASE (R543, R560). -/
def execResetRelease (straps : Straps) (s : State) : Host.Outcome State Fault Refusal :=
  s.upd fun l => if l.pwr.st ≠ .off && l.pwr.resetLow then (l.release 1).strap straps else l

/-- SAFEXIT (R389): HELD while a SAFE condition stands; otherwise the reset that `RESET_N` performs. -/
def Live.safexit (l : Live) : Live := if l.safeHeld then l else l.release 2
def execSafexit (s : State) : Host.Outcome State Fault Refusal :=
  if s.live.dom 1 && !s.live.safeHeld then .next { s with live := s.live.release 2, gens := [] } else s.same

/-- `RSTOUT_N` (R544). -/
def Live.rstoutN (l : Live) : Bool :=
  l.pwr.st ≠ .off && !l.pwr.resetLow && l.pwr.st ≠ .held &&
    !(l.pwr.st = .boot && l.pwr.stage ≤ 3 && l.pwr.cause ≠ 3 && l.pwr.cause ≠ 4)

/-! ## Boot (R550 to R555) -/

/-- Switch domains on, by the bits of `DOMON`. -/
def Live.domOn (l : Live) (m : BitVec 8) : Live := l.modPwr fun p => { p with on := p.on ||| m }

/-- A boot stage begins. -/
def Live.toStage (l : Live) (n : Nat) : Live := l.modPwr fun p => { p with stage := n, stageAt := l.now }

/-- A wake, as opposed to a release of reset (R560). -/
def Live.woken (l : Live) : Bool := l.pwr.cause = 3 || l.pwr.cause = 4

/-- HELD (R555): D0 alone; `0xE010` keeps the first failure, when OTP gave one. -/
def Live.toHeld (l : Live) (bad : List (Nat × Nat)) : Live :=
  let l := match bad with
    | (a, c) :: _ => l.modSec fun s => { s with iregion := regionOf a, icause := c, iword := a, iheld := true, badRegions := (bad.map (fun q : Nat × Nat => regionOf q.1)).dedup }
    | [] => l
  let sec := l.sec
  let k := (l.setPower .held 8).d0Only
  { k with sec := { k.sec with iregion := sec.iregion, icause := sec.icause, iword := sec.iword, iheld := sec.iheld, badRegions := sec.badRegions } }

/-- Readings of OTP words that have drifted (R577). -/
def Live.otpDrifts (l : Live) (ds : List OtpDrift) : Live :=
  l.forL ds fun l d => l.modSec fun s => { s with otp := tput {} s.otp d.addr { norm := d.norm, lo := d.lo, hi := d.hi } }

/-- Stage 3 is to program or erase flash: the boot count of a release of reset, or an update (R513, R551, R587). -/
def Live.bootFlash (l : Live) : Bool := !l.woken || (3 ≤ l.bootRec.state && l.bootRec.state ≤ 5)

/-- Stage 2 (R564, R567, R578). -/
def Live.bootTwo (l : Live) (env : StageEnv) : Live :=
  let l := l.otpDrifts env.drift
  let l := if l.zeroiseDue then l.zeroise env.fuse else l
  let bad := l.otpFailures
  let l := l.modSec fun s => { s with lc := l.lcNow }
  if !bad.isEmpty then l.toHeld bad
  else
    let l := l.modSec fun s => { s with weak := l.otpWeak, intr := l.otpIntr }
    (l.domOn (if l.bootFlash then 0x32 else 0x22)).toStage 3

/-- A BOOT record (R560). -/
def Live.bootRecord (l : Live) : Live := l.record 0x08 (leBytes l.recd.bootcnt.toNat 4 ++ [l.pwr.cause])

/-- The image store is that of the bank that boots (R436). -/
def Live.storeSwap (l : Live) : Live :=
  let b := l.sec.running.getD l.bootRec.bact
  if b = l.sec.storeB then l
  else
    let other := l.sec.otherStore
    let mine := l.img.slots
    { l.modSec (fun s => { s with otherStore := mine, storeB := b }) with img := { l.img with slots := other } }

/-- D6 powers: the D0 queue moves to the event ring, numbered on from the newest flash page, and the records lost at it are
counted (R516, R517, R520). -/
def Live.recorderOn (l : Live) : Live :=
  let r0 := l.recd.atStart
  let q := (numbered 1 r0.d0q).map (fun p => { p.2 with seq := (r0.rseq + p.1) % 2 ^ 32 })
  let n := r0.d0lost
  let l := l.modRec fun _ =>
    { r0 with ring := q.reverse, unfl := q.length, unflAt := l.now, flushNow := 0, d0q := [], d0lost := 0, rseq := (r0.rseq + q.length) % 2 ^ 32, armDue := true }
  let l := if q.isEmpty then l else l.countWith 112 q.length {}
  if n = 0 then l else l.countWith 114 n {}

/-- Stage 4 begins: D4, D3, D6 and then D2; a service boot leaves D3 and D2 off (Table 17.3, R554). -/
def Live.stageFour (l : Live) : Live := ((l.domOn (if l.pwr.svcBoot then 0x50 else 0x5C)).toStage 4).recorderOn

/-- Stage 3 (R551, R554, R587). -/
def Live.bootThree (l : Live) (env : StageEnv) : Live :=
  if l.bootFlash && l.therm.dband = 5 then l
  else if !env.romOk || !env.lockOk then l.toHeld []
  else
    let l := if l.bootRec.state = 3 && !l.pwr.coldDue then l.applyUpdate env.flashOk else l
    let l := if l.bootRec.state = 5 then l.trialRule else l
    let l := if l.bootRec.state = 4 then l.withUpdate fun l => l.setBoot fun b => { b with state := 0 } else l
    let rom := (l.recstrap && l.pwr.strapRec && !l.woken) || l.pwr.cause = 7
    let l := if rom then l.modSec fun s => { s with running := none } else l.secureBoot
    let l := (l.arvResume).storeSwap
    let l := if l.woken then l else l.modRec fun r => { r with bootcnt := r.bootcnt + 1 }
    let l := l.bootRecord
    if l.pwr.coldDue then l.enterCold 2
    else if l.sec.running.isNone then l.modPwr fun p => { p with recovery := true }
    else l.stageFour

/-! ## Stage 4: firmware starts -/

/-- The image that the controller is to run: that of the loaded checkpoint where it holds it (R422), else R438's. -/
def Live.imageStart (l : Live) : Live :=
  let l := l.chooseImage
  match l.keeper.loaded with
  | none => l
  | some b =>
    let own := match l.img.atStart with | some i => i.hash | none => []
    if own = b.img then l.modK fun k => { k with sameImg := true }
    else match [0, 1].find? (fun n => (l.storeSlot n).used && (l.storeSlot n).scrcOk && (l.storeSlot n).hash = b.img && (l.storeSlot n).img.hash = b.img) with
      | some n => ({ l with img := { l.img with slot := some n, atStart := some (l.storeSlot n).img } }).modK fun k => { k with sameImg := true }
      | none => (l.modK fun k => { k with sameImg := false }).raise 0xA00A 0xA000

/-- A claimant whose clock is not set takes it from the checkpoint, with the time since the capture added (R514). -/
def Live.clockFrom (l : Live) (b : CkptBuf) : Live :=
  match b.section_ 255 with
  | none => l
  | some c =>
    if l.recd.clkSet then l
    else
      let age := l.now + b.lag - b.rcv
      l.modRec fun r => { r with clkSet := true, clkSec := c.clkSec + BitVec.ofNat 32 (age / secTicks), clkAt := l.now - age % secTicks }

/-- The newest buffer that may be loaded.  At a takeover, which follows a wake out of WATCH, none raises `KPR_NO_CKPT`
(R428). -/
def Live.ckptLoad (l : Live) : Live :=
  if l.keeper.st ≠ .warming then l
  else match l.ckptPick with
    | some b => (l.modK fun k => { k with loaded := some b, ckNum := b.seq }).clockFrom b
    | none =>
      let k := l.modK fun k => { k with loaded := none, sameImg := true }
      if l.woken then k.raise 0xA009 0xA000 else k

/-- A snapshot found at start is reported once, and one with an invalid page raises `REC_SNAP_FAIL` (R526, R538). -/
def Live.snapFound (l : Live) : Live :=
  match l.recd.newest with
  | none => l
  | some a =>
    let r := l.area a
    if r.reported then l
    else
      let l := l.record 0x0C ([BitVec.ofNat 8 a, BitVec.ofNat 8 r.content.cause] ++ leBytes r.content.boot.toNat 2)
      let l := l.modArea a fun x => { x with reported := true }
      if r.badPages.isEmpty then l else l.raise 0xE005 0xB000

/-- Default words of a stored settings object (R597). -/
def Live.settingsReset (l : Live) (oid : Nat) : Live :=
  let l := (List.range 4).foldl (fun l w => l.setHw oid w (tget 0 resetHost (key oid w))) l
  l.raise 0xC009 oid

/-- RUN, or LEAN where `LEANEN` is in force (R549, R561). -/
def Live.toRun (l : Live) (cause : Nat) : Live :=
  let back : Bool := l.pwr.st ≠ .run && !l.pwr.leanen
  let l := l.setPower (if l.pwr.leanen then .lean else .run) cause
  let l := if back then l.armAsk else l
  (if l.pwr.leanen then l.gateSet else l.gateClear).armWatch

/-- Stage 4 ends (Table 17.3, R438, R578, R597). -/
def Live.bootFour (l : Live) (env : StageEnv) : Live :=
  let l := l.forL env.badSettings fun l o => l.settingsReset o.toNat
  let l := l.forL l.sec.weak fun l a => l.raise 0xC001 0xE000 a
  let l := l.forL l.sec.intr fun l a => l.raise 0xC002 0xE000 a
  let l := l.snapFound
  let l := l.each 2 fun l p => if bit (l.hw (0xD102 + p) 0) 29 then l.modPi p fun k => { k with recovering := true, recoverAt := l.now } else l
  let l := l.modPwr fun p => { p with idleAt := l.now, leanen := bit (l.hw 0xD200 0) 31 }
  if l.pwr.svcBoot then
    (l.setPower .lean 0).modPwr fun p => { p with service := true, svcBoot := false }
  else (l.ckptLoad.imageStart).toRun 0

/-- BOOT_STAGE_DONE (R550). -/
def execBootStageDone (env : StageEnv) (s : State) : Host.Outcome State Fault Refusal :=
  s.upd fun l =>
    if l.pwr.st ≠ .boot || l.pwr.resetLow || l.pwr.recovery then l
    else match l.pwr.stage with
      | 1 => if l.pwr.refLoss then l else (l.domOn 0x80).toStage 2
      | 2 => l.bootTwo env
      | 3 => l.bootThree env
      | _ => l.bootFour env

/-! ## Wakes and the way to COLD (R545, R554, R557 to R559) -/

/-- WAKE_REQUEST (R545, R554): a service boot, out of COLD with the keeper core in WATCH. -/
def execWakeRequest (s : State) : Host.Outcome State Fault Refusal :=
  s.upd fun l =>
    if l.pwr.st = .cold && !l.pwr.shut && l.keeper.st = .watch then
      ((l.setPower .boot 6).modPwr fun p => { p with svcBoot := true, cause := 4, on := 0x81 }).toStage 2
    else l

/-- STAGED_SHUTDOWN (R557, R558): the POWER_STATE record comes first; the domains go off once the RELEASE courses have
ended on every ring. -/
def execStagedShutdown (s : State) : Host.Outcome State Fault Refusal :=
  s.upd fun l =>
    let snapOver : Bool := match l.recd.snap with | none => true | some j => j.askedAt + 5000000 ≤ l.now
    if l.pwr.st = .holdup && l.pp.final && snapOver && l.recWrites = 0 && l.keeper.coldAfter = 0 then
      let l := l.record 0x04 [BitVec.ofNat 8 PwrSt.holdup.code, BitVec.ofNat 8 PwrSt.cold.code, 5]
      ((l.sendRelease.leaseClear).modK fun k => { k with coldAfter := 2 }).releaseCheck
    else l

/-- POWER_RETURN (R559): `PFAIL_N` high for `PFRET` × 10 ms after a staged shutdown. -/
def execPowerReturn (s : State) : Host.Outcome State Fault Refusal :=
  s.upd fun l =>
    if l.pwr.st = .cold && l.pwr.shut && l.pwr.pfailN && l.pwr.pfailAt + fld (l.hw 0xD200 0) 30 23 * 2000000 ≤ l.now then l.release 5 else l

/-- SERVICE_IDLE_TIMEOUT (R554): no session has been open for `SVCIDLE` seconds. -/
def execServiceIdleTimeout (s : State) : Host.Outcome State Fault Refusal :=
  s.upd fun l =>
    let idle := (List.range 16).all (fun n => !(l.sess n).opened)
    if l.pwr.st = .lean && l.pwr.service && idle && l.pwr.idleAt + fld (l.hw 0xD200 0) 22 15 * secTicks ≤ l.now then l.enterCold 7 else l

/-! ## Reference and supplies (R33, R34, R37, R376) -/

/-- REF_LOSS (R33, R34): the rings that are not OFF go to TRAINING, silent. -/
def execRefLoss (s : State) : Host.Outcome State Fault Refusal :=
  s.upd fun l =>
    if l.pwr.refLoss || l.pwr.st = .off then l
    else
      let l := (l.modPwr fun p => { p with refLoss := true, timeEst := true }).raise 0x0001 0
      l.each 8 fun l n =>
        match (l.ring n).st with
        | .off => l
        | .running => (l.raise 0x1002 (oRing n)).ringTrain n
        | .overbooked => (l.raise 0x1002 (oRing n)).ringTrain n
        | _ => l.ringTrain n

/-- REF_RETURN (R34): each silenced ring starts training afresh. -/
def execRefReturn (s : State) : Host.Outcome State Fault Refusal :=
  s.upd fun l =>
    if !l.pwr.refLoss then l
    else
      let l := l.modPwr fun p => { p with refLoss := false, timeEst := false }
      l.each 8 fun l n =>
        if (l.ring n).refSilent then l.modRing n fun r => { r with refSilent := false, silent := false, since := l.now } else l

/-- DOMAIN_DOWN (R37): the switch of a domain that is on reports that it has lost power. -/
def execDomainDown (domain : Fin 8) (s : State) : Host.Outcome State Fault Refusal :=
  s.upd fun l =>
    if l.dom domain && !l.fc.domLost.contains domain.val then
      (l.raise 0x0002 0 domain).modFc fun f => { f with domLost := f.domLost ++ [domain.val] }
    else l

/-- The number a `VCORE_LOW` detail carries (R376). -/
def vcoreNum : VcoreCond → Nat
  | .undervoltage => 1 | .mismatch => 2

/-- VCORE_LOW (R376, R608). -/
def execVcoreLow (cond : VcoreCond) (s : State) : Host.Outcome State Fault Refusal :=
  s.upd fun l =>
    if l.pwr.st = .off then l
    else
      let c := vcoreNum cond
      (l.raise 0x0003 0 c).modFc fun f => { f with vlow := if f.vlow.contains c then f.vlow else f.vlow ++ [c] }

/-- VCORE_ILIM (R608). -/
def execVcoreIlim (s : State) : Host.Outcome State Fault Refusal :=
  s.upd fun l => if l.pwr.st = .off then l else (l.raise 0x0004 0).modFc fun f => { f with ilim := true }

end Sys2Proof.Machine
end

