-- ==== Sys2Proof/Machine/Readout.lean ====
section
/-! DEFINITION. What every object word reads as, which objects exist, their domains and zones, and the record memory as
octets (chapters "Messages", "Shelf image", "Black box"). -/
namespace Sys2Proof.Machine

/-! ## Configuration words and their defaults -/

/-- The default block words of the collector object (Table 11.8, Table 11.9). -/
def dfltBlock (w : Nat) : Word :=
  let b := (w - 8) / 2
  if w % 2 = 0 then
    put (if b < 8 then 500 else if b = 8 || b = 9 || b = 11 then 100 else 10) 22 10 ||| put (if b = 10 then 2 ^ 9 else 0) 6 16
  else put (if b < 8 then 0x1FC else match b with | 8 => 0xF0 | 9 => 0x50 | 10 => 0xC0 | 12 => 0x180 | 13 => 0x180 | _ => 0) 16 16

/-- The default of a word that no image gives: of the objects that always exist (R443) and of a zone (Table 14.5, Table 8.9). -/
def dfltWord (oid w : Nat) : Word :=
  match oid, w with
  | 0x6FFF, 0 => 0xD2F06432
  | 0x6FFF, 1 => 0xABE09C40
  | 0x6FFF, 2 => 0x00005055
  | 0x6FFF, 3 => 0xA08C7814
  | 0x6FFF, 4 => 0x00800032
  | 0x6FFF, 5 => 0x501901F4
  | 0x6FFF, 6 => 0x020514C8
  | 0x6FFF, 7 => 0x03E8B414
  | 0x6FFF, 8 => 0x00640064
  | 0x8FFF, 2 => 0x3C640F95
  | 0x9FFF, 3 => 0xC0300000
  | 0xA000, 0 => 0x14000000
  | 0xB000, 0 => 0x3C001000
  | _, _ =>
    if oid = 0x9FFF && 8 ≤ w && w < 40 then dfltBlock w
    else if oid / 4096 = 0xC then (if w = 2 then 0x0F007F80 else if w = 3 then 0x0000FFFF else 0)
    else if oid / 8 = 0x1E00 then (if w = 0 then 0xD0000000 else if w = 8 then 0x00400000 else 0)
    else 0

/-- A commit-effect word of an image; the route entries are words too (R401). -/
def Image.word (i : Image) (oid w : Nat) : Word :=
  if 0x9400 ≤ oid && oid < 0x9600 then
    match i.routes[oid - 0x9400]? with | some p => put p.1 16 16 ||| put p.2 13 3 | none => 0
  else if i.has oid w then i.w oid w else dfltWord oid w

/-- A commit-effect word in force; with no image applied it reads zero (R16). -/
def Live.iw (l : Live) (oid w : Nat) : Word := if l.img.slot.isNone then 0 else l.img.cur.word oid w

/-! ## Port status (Table 15.1) -/

/-- `PSTAT`.  A port that holds a reply is READY whatever serves it; the port whose TXN_COMMIT is held is BUSY (R480, R508). -/
def Live.pstat (l : Live) (port : Nat) : Nat :=
  if (l.mport port).reply.isSome then 1
  else if l.pwr.st = .held then 4
  else if !l.dom 1 then 3
  else if (l.mport port).inbox.isSome || (l.img.txn.held.map (·.1)) = some port then 2
  else 0

/-! ## Objects -/

/-- The Layout Descriptor Table names an instance that exists (R448, R443, R128, R400). -/
def Live.objHere (l : Live) (oid : Nat) : Bool :=
  let n := oid % 4096
  match oid / 4096 with
  | 0x1 => n < 8 && l.img.cur.hasObj oid
  | 0x2 => n < 256 && (l.stn n).st ≠ .unseen
  | 0x3 => n = 0xFFF || (n < 160 && l.hasTile n)
  | 0x4 => n < 48 && l.img.cur.hasObj oid
  | 0x5 => n < 16 && l.img.cur.hasObj oid
  | 0x6 => n = 0xFFF || (n < 64 && l.img.cur.hasObj oid)
  | 0x7 => n = 0xFFF || (n < 16 && l.img.cur.hasObj oid)
  | 0x8 => n = 0xFFF || n < 288
  | 0x9 => n = 0xFFF || (n < 512 && (l.logAt n).used) || (0x400 ≤ n && n - 0x400 < l.img.cur.routes.length)
  | 0xF => n < 8 && l.img.cur.hasObj oid
  | _ => (layOf oid).isSome

/-- The Layout Descriptor Table of the running firmware (R449). -/
def Live.ldt (l : Live) : List Word :=
  let r := l.schemaRange
  ldtWords (fun oid => (layOf oid).isSome && l.objHere oid) r.1 r.2 l.img.lseq

/-- Words of an object; of the table, its own length. -/
def Live.objLen (l : Live) (oid : Nat) : Nat :=
  if oid = 0 then l.ldt.length else match layOf oid with | some y => y.nwords | none => 0

/-- The domain that holds an object's words (R38). -/
def objDom (oid : Nat) : Nat :=
  match oid / 4096 with
  | 0x1 => 3 | 0x3 => 2 | 0x4 => 2 | 0x5 => 2 | 0x8 => 4 | 0xA => 0 | 0xB => 6 | 0xC => 6 | 0xE => 7 | _ => 1

/-- A domain is on and powered. -/
def Live.domUp (l : Live) (d : Nat) : Bool := l.dom d && !l.fc.domLost.contains d

/-- A ring, tile, rail or VC port while the controller, in service LEAN, runs none (R549). -/
def Live.asleep (l : Live) (oid : Nat) : Bool :=
  (oid / 4096 = 1 || (3 ≤ oid / 4096 && oid / 4096 ≤ 5)) && (layOf oid).isSome && !l.working && !l.domUp (objDom oid)

/-! ## Words by class -/

/-- Table 13.11. -/
def Live.wImage (l : Live) (w : Nat) : Word :=
  match w with
  | 8 => match l.img.slot with | some n => (l.storeSlot n).sseq | none => 0
  | 9 => put l.img.cur.schema.toNat 16 16 ||| put (l.img.slot.getD (if l.working then 3 else 0)) 14 2 ||| flag l.img.cur.signed 13 ||| flag (l.img.txn.st = .pending) 12
  | 10 => BitVec.ofNat 32 l.img.iactb
  | w => BitVec.ofNat 32 (leNat (sliceB l.img.cur.hash (4 * w) 4))

/-- Table 2.21. -/
def RingSt.code : RingSt → Nat
  | .off => 0 | .training => 1 | .ranging => 2 | .running => 3 | .overbooked => 4
def Live.wRing (l : Live) (n w : Nat) : Word :=
  let r := l.ring n
  if w = 0 then put r.st.code 29 3 ||| put r.pairs 23 6 ||| put r.retry 21 2 ||| put r.lband 18 3 ||| put r.hops.toNat 12 6 ||| put (min r.dmeas 0xFFF) 0 12
  else l.iw (oRing n) w

/-- Table 3.9, then the descriptor. -/
def StnSt.code : StnSt → Nat
  | .unseen => 0 | .sighted => 1 | .identified => 2 | .matched => 3 | .moored => 4 | .adrift => 5 | .barred => 6
def Live.wStation (l : Live) (i w : Nat) : Word :=
  let s := l.stn i
  if w = 0 then
    put s.st.code 29 3 ||| put s.reason.code 26 3 ||| put s.ring 23 3 ||| put s.hop 17 6 ||| put s.slot 12 5 |||
      put ((if s.rule.isSome then s.bricks else if s.known then s.dbricks else 1) - 1) 10 2 ||| flag s.buoyst 9 ||| flag s.alarm 8 ||| put (s.tile.getD 0xFF) 0 8
  else s.desc.getD (w - 1) 0

/-- A tile's record with what the engine writes (Table 4.1). -/
def Live.wTile (l : Live) (t w : Nat) : Word :=
  let v := l.iw (oTile t) w
  let k := l.tile t
  if w = 2 then put k.tstate 24 8 ||| put (min k.ovr 255) 16 8 ||| (v &&& 0xF)
  else if 4 ≤ w && w < 20 then l.slotNow t (w - 4)
  else if 64 ≤ w then (tget 0 l.loop.pubs (8 * t + (w - 64))).signExtend 32
  else v

/-- Rail words (Table 6.4 to Table 6.6); `VSET` reads V_t. -/
def Live.wRailAll (l : Live) (r w : Nat) : Word :=
  if w < 7 then l.iw (oRail r) w
  else if w = 7 then 0
  else if w = 8 then put (min ((l.rail r).vt / 16000) 0xFFFF) 16 16 ||| (l.hw (oRail r) 8 &&& 0xE000)
  else l.wRail r w

/-- Table 7.2 and Table 7.11. -/
def Live.wVc (l : Live) (p w : Nat) : Word :=
  let at_ (k : Nat) : VcRail := match l.portRail p k with | some r => l.vr r | none => {}
  let mode (v : VcRail) : Nat := (if v.full then 4 else 0) + v.mask.toNat
  let caps (a b : VcRail) : Word :=
    put a.level 27 5 ||| put a.ack 22 5 ||| flag a.grace.isSome 21 ||| put b.level 11 5 ||| put b.ack 6 5 ||| flag b.grace.isSome 5
  match w with
  | 2 => put (maskN 4 (fun k => (at_ k).flagged)) 28 4 ||| flag (l.valert p) 27 ||| put (mode (at_ 0)) 24 3 ||| put (mode (at_ 1)) 21 3 |||
         put (mode (at_ 2)) 18 3 ||| put (mode (at_ 3)) 15 3
  | 3 => (l.vp p).lastCmd
  | 4 => caps (at_ 0) (at_ 1)
  | 5 => caps (at_ 2) (at_ 3)
  | w => l.iw (oVc p) w

/-- Table 8.8. -/
def Live.wInputAll (l : Live) (j w : Nat) : Word :=
  if w < 2 then l.iw (oInput j) w else if w = 2 then l.hw (oInput j) 2 else l.wInput j w

/-- Table 8.7. -/
def Live.wPowerAll (l : Live) (w : Nat) : Word :=
  if w < 11 then l.iw 0x6FFF w else if w = 11 then l.hw 0x6FFF 11 else l.wPower w

/-- Table 9.4. -/
def Live.wStringAll (l : Live) (k w : Nat) : Word :=
  if w = 11 then 0 else if 12 ≤ w && w < 18 then l.wString k w else l.iw (oStr k) w

/-- Table 9.5. -/
def Live.wGauge (l : Live) (w : Nat) : Word :=
  match w with
  | 2 => 0
  | 3 => put l.gauge.ex.code 30 2 ||| put (if l.gauge.ex = .idle then 0 else l.gauge.exStr) 26 4
  | 4 => l.gauge.xlast
  | w => l.iw 0x7FFF w

/-- Table 10.4. -/
def Live.wPoint (l : Live) (p w : Nat) : Word :=
  let k := l.point p
  let c (x : Rat) : Nat := satInt (x * 100) 16
  match w with
  | 0 => put k.band 29 3 ||| flag k.broken 28 ||| put k.cause 26 2 ||| flag k.ambfb 25 ||| put (if k.run then k.theta else 0) 16 9 ||| put (satInt (((k.ths * 100 + 1 / 2).floor : Int) : Rat) 16) 0 16
  | 1 => put (sat 16 k.ploss 1) 16 16 ||| put (c k.k) 0 16
  | 2 => put (match k.tntc with | some t => c t | none => 0x8000) 16 16 ||| put (c k.tamb) 0 16
  | w => l.iw (oPoint p) w

/-- The words of an occurrence in the format of Table 11.10. -/
def LogEntry.word (e : LogEntry) (w : Nat) : Word :=
  let o := e.o
  match w with
  | 0 => put o.d.code.toNat 16 16 ||| put o.cls.code 13 3 ||| flag o.wire 12 ||| flag o.conseq 11 ||| flag o.cond 10 ||| flag o.cleared 9 |||
         put (min o.nrep 255) 0 8
  | 1 => put o.d.obj.toNat 16 16 ||| put o.d.aux.toNat 0 16
  | 2 => o.d.val
  | 3 => BitVec.ofNat 32 o.d.tick
  | 4 => put (o.d.tick / 2 ^ 32) 16 16 ||| put e.boot.toNat 0 16
  | 5 => BitVec.ofNat 32 e.seq
  | _ => 0

/-- Table 16.8. -/
def Live.wRecorder (l : Live) (w : Nat) : Word :=
  let r := l.recd
  match w with
  | 0 => l.iw 0xB000 0
  | 1 => l.hw 0xB000 1
  | 2 => r.clkSec
  | 4 => flag r.clkSet 31 ||| flag r.armed.isSome 30 ||| put (r.newest.getD 3) 28 2 ||| flag r.swrap 27 ||| flag r.snap.isSome 26
  | 5 => r.bootcnt
  | 6 => BitVec.ofNat 32 r.rseq
  | 7 => BitVec.ofNat 32 r.pseq
  | _ => 0
def Live.wTrace (l : Live) (t w : Nat) : Word :=
  match w with
  | 4 => put (l.trace t).state 30 2 ||| flag (l.trace t).wrap 29 ||| put (l.trace t).stored 0 29
  | 5 => 0
  | w => l.iw (0xB100 + t) w
def Live.wCapture (l : Live) (s w : Nat) : Word :=
  match w with
  | 5 => put (l.capSlot s).state 29 3 ||| put (l.capSlot s).count 0 29
  | 6 => 0
  | w => l.iw (0xB200 + s) w

/-- Table 16.9. -/
def Live.wCounter (l : Live) (n w : Nat) : Word :=
  match w with
  | 0 => (l.ctr n).val
  | 1 => flag (l.ctr n).ovf 31 ||| flag (n < 64 && n % 2 = 1 && l.chained (n - 1)) 30
  | w => l.ctrWord n w

/-- Table 14.10. -/
def Live.pinned (l : Live) : List Nat := ((l.msgs.sess.flatMap (fun p => p.2.pins.map (·.1)))).dedup
def Live.sidle (l : Live) : Nat := fld (l.hw 0xD000 0) 31 24 * secTicks
def Live.wCoherence (l : Live) (w : Nat) : Word :=
  let m := l.msgs
  match w with
  | 0 => BitVec.ofNat 32 m.gen
  | 1 => put m.ngaps 24 8 ||| put l.pinned.length 22 2 ||| flag m.dovfl 21 ||| put (m.gen / 2 ^ 32) 0 16
  | 2 => BitVec.ofNat 32 m.gbase
  | 3 => put (m.gbase / 2 ^ 32) 0 16
  | 4 => BitVec.ofNat 32 m.glast
  | 5 => put (m.glast / 2 ^ 32) 0 16
  | 6 => put m.dis.length 24 8
  | _ => 0
def Live.wSession (l : Live) (n : Nat) : Word :=
  let s := l.sess n
  put s.cls 30 2 ||| put s.port 28 2 ||| flag s.opened 27 ||| flag s.pendg 26 ||| flag (l.img.txn.st ≠ .idle && l.img.txn.owner = n) 25 |||
    put s.pins.length 23 2 ||| put (if s.opened then min ((s.lastAt + l.sidle - l.now) / 2000000) 0x7FFFFF else 0) 0 23
def Disagree.wd (d : Disagree) : Nat → Word
  | 0 => put d.obj.toNat 16 16 ||| put d.word.toNat 8 8 ||| put d.kind 0 8
  | 1 => d.intent
  | 2 => d.obs
  | 3 => d.since
  | _ => 0

/-- Table 15.5. -/
def Live.wTarget (l : Live) (w : Nat) : Word :=
  if w = 0 then l.hw 0xD100 0
  else flag l.ports.sclto 31 ||| flag l.ports.sdato 30 ||| put (l.pstat 1) 27 3 ||| put l.ports.addr.toNat 24 3
def Live.wHostPort (l : Live) (w : Nat) : Word := if w = 0 then l.hw 0xD101 0 else put (l.pstat 0) 29 3
def Live.wInitiator (l : Live) (p w : Nat) : Word :=
  if w < 4 then l.hw (0xD102 + p) w
  else flag (l.pi p).stuck 31 ||| flag (l.pi p).dis 30 ||| flag (l.pi p).arbl 29 ||| flag (l.pi p).pto 28

/-- Table 17.7. -/
def Live.wPwr (l : Live) (w : Nat) : Word :=
  let p := l.pwr
  match w with
  | 0 => l.hw 0xD200 0
  | 1 => put p.st.code 29 3 ||| flag p.service 28 ||| put p.cause.toNat 20 8 ||| put (maskN 8 l.domUp) 12 8
  | 2 => put p.rgate.toNat 24 8 ||| put p.vgate.toNat 20 4 ||| put p.tgate.toNat 12 8
  | 3 => put p.pwrNow.toNat 16 16 ||| put p.vinNow.toNat 0 16
  | _ => 0

/-- Table 19.4. -/
def Live.wIostat (l : Live) : Word := put l.adc.vbok.toNat 28 4 ||| put l.adc.vb18.toNat 24 4 ||| flag l.adc.refOk 23 ||| put l.adc.vdda.toNat 0 16

/-- Table 18.20.  `LOCKS` bit i is word 132 + i. -/
def Live.wSecurity (l : Live) : Word :=
  put l.sec.lc 29 3 ||| put l.sec.dbg.mode 27 2 ||| put l.arvN 20 7 |||
    put (maskN 6 (fun i => (List.range 8).any (fun r => lockWord r = some (132 + i) && l.locked r))) 14 6 |||
    put (l.revoked % 16) 10 4 ||| put (l.revoked / 16) 7 3 ||| put (min l.sec.weak.length 127) 0 7
def Live.wUpdate (l : Live) (w : Nat) : Word :=
  match w with
  | 0 => put l.ustate 29 3 ||| put l.sec.stg.kind 27 2 ||| flag l.bootRec.bact 26 ||| put (min l.bootRec.trial 3) 24 2 ||| put l.sec.stg.reason 16 8
  | 1 => BitVec.ofNat 32 l.runVer
  | 2 =>
    let b := !(l.sec.running.getD l.bootRec.bact)
    if l.bankValid b then BitVec.ofNat 32 (pkgUver (l.bank b)) else 0
  | _ => 0
def Live.wIntegrity (l : Live) : Word := put l.sec.iregion 29 3 ||| put l.sec.icause 26 3 ||| put l.sec.iword 17 9 ||| flag l.sec.iheld 16

/-- What a word of an object reads as (R13, R448). -/
def Live.objWord (l : Live) (oid w : Nat) : Word :=
  let n := oid % 4096
  match oid / 4096 with
  | 0x0 => if n = 0 then l.ldt.getD w 0 else l.wImage w
  | 0x1 => l.wRing n w
  | 0x2 => l.wStation n w
  | 0x3 => if n = 0xFFF then l.wEngine else l.wTile n w
  | 0x4 => l.wRailAll n w
  | 0x5 => l.wVc n w
  | 0x6 => if n = 0xFFF then l.wPowerAll w else l.wInputAll n w
  | 0x7 => if n = 0xFFF then l.wGauge w else l.wStringAll n w
  | 0x8 => if n = 0xFFF then (if w = 7 then l.wDie else l.iw oid w) else l.wPoint n w
  | 0x9 =>
    if n = 0xFFF then (if w < 2 then l.wCollector w else if w = 2 then 0 else l.iw oid w)
    else if 0x400 ≤ n then l.iw oid w else (l.logAt n).word w
  | 0xA => if w = 0 then l.iw 0xA000 0 else l.wKeeper w
  | 0xB => if n < 0x100 then l.wRecorder w else if n < 0x200 then l.wTrace (n - 0x100) w else l.wCapture (n - 0x200) w
  | 0xC => l.wCounter n w
  | 0xD =>
    if n = 0 then l.hw oid w
    else if n = 1 then l.wCoherence w
    else if n < 0x20 then l.wSession (n - 0x10)
    else if n < 0x40 then ((tfind l.msgs.dis (n - 0x20)).getD {}).wd w
    else if n = 0x100 then l.wTarget w
    else if n = 0x101 then l.wHostPort w
    else if n < 0x104 then l.wInitiator (n - 0x102) w
    else if n = 0x200 then l.wPwr w
    else l.wIostat
  | 0xE => if n = 0 then l.wSecurity else if n = 1 then l.wUpdate w else l.wIntegrity
  | _ => if w = 9 then l.hw oid 9 else l.iw oid w

/-! ## Zones (R469) -/

/-- The zone of an object; a tile's own fields decide. -/
def Live.zoneBase (l : Live) (oid : Nat) : Option Nat :=
  let n := oid % 4096
  match oid / 4096 with
  | 0x2 => if n < 256 then (l.stn n).tile.map l.tZone else none
  | 0x3 => if n < 160 then some (l.tZone n) else none
  | 0x4 => if n < 48 then some (l.railZone n) else none
  | 0x5 =>
    let zs := (((List.range 4).filterMap (l.portRail n)).map l.railZone).dedup
    match zs with | [z] => some z | _ => none
  | 0x6 => if n < 64 then (l.inputTile n).map l.tZone else none
  | 0x7 => if n < 16 then some (l.tZone (l.strTile n)) else none
  | _ => none
def Live.objZone (l : Live) (oid : Nat) : Option Nat :=
  if 0x9000 ≤ oid && oid < 0x9200 then l.zoneBase (l.logAt (oid - 0x9000)).o.d.obj.toNat else l.zoneBase oid

/-- A permission bit of a zone (Table 14.5): 31 `ZMON`, 30 `ZOPW`, 29 `ZOPCFG`, 28 `ZOPCLR`. -/
def Live.zoneBit (l : Live) (z b : Nat) : Bool := bit (l.iw (oZone z) 0) b

/-! ## Record memory and flash as octets (Table 16.2 to Table 16.5, R527) -/

/-- Table 16.2. -/
def EventRec.octets (r : EventRec) : List Byte :=
  [r.etype, r.flags] ++ leBytes r.boot.toNat 2 ++ leBytes r.tick 6 ++ leBytes r.secs.toNat 4 ++ leBytes r.seq 2 ++ r.pay
def halves (p : List Half) : List Byte := ((List.range 4).map (fun i => p.getD i 0)).flatMap (fun h => leBytes h.toNat 2)
/-- Octets padded or cut to a length. -/
def padTo (n : Nat) (fill : Byte) (b : List Byte) : List Byte := (b ++ List.replicate n fill).take n

/-- A capture slot's 64-byte header: the manual does not lay it out, so its octets are free. -/
def capHead (cap : Nat) : List Byte := (List.range 64).map (fun i => Config.capHeader cap i)

/-- Table 16.4.  A page that failed has a `PCRC` that does not pass. -/
def FlushPage.octets (p : FlushPage) : List Byte :=
  let data := padTo 2016 0xFF (if p.capture then (if p.index = 0 then capHead p.capNum else []) ++ p.points.flatMap halves
                               else p.recs.flatMap EventRec.octets)
  let head := leBytes 0x4B4F4C42 4 ++ [if p.capture then 2 else 1, BitVec.ofNat 8 (if p.capture then p.index else p.recs.length)] ++
    leBytes p.boot.toNat 2 ++ leBytes p.pseq 4 ++ leBytes (if p.capture then p.capNum else (p.recs.head?.map (·.seq)).getD 0) 4 ++ List.replicate 12 0
  let crc := crc32 (head ++ data)
  head ++ leBytes (if p.ok then crc else crc + 1) 4 ++ data

/-- A page of a snapshot area (Table 16.5), 1 to 7. -/
def SnapContent.page (c : SnapContent) (n : Nat) : List Byte :=
  let cap : List Byte := match c.cap with | some (s, k) => capHead s ++ (k.points.reverse.flatMap halves) | none => []
  if n ≤ 4 then padTo 2048 0 ((((c.recs.drop (63 * (n - 1))).take 63).flatMap EventRec.octets))
  else if n = 5 then
    padTo 2048 0 (c.occs.flatMap (fun o =>
      let e : LogEntry := { o := o, boot := BitVec.ofNat 16 c.boot.toNat, seq := o.seq.getD 0 }
      (List.range 6).flatMap (fun w => leBytes (e.word w).toNat 4)))
  else sliceB (padTo 4096 0 cap) (2048 * (n - 6)) 2048

/-- Page 0: its header, then the object words.  The places of the fields between `SMAGIC` and the CRCs are those of R523's
order (log entry 45). -/
def SnapContent.page0 (c : SnapContent) : List Byte :=
  let h := leBytes 0x50414E53 4 ++ leBytes c.boot.toNat 4 ++ leBytes c.tick 6 ++ leBytes c.secs.toNat 4 ++ leBytes c.cause 1 ++
    [1, 2, 3, 4, 5, 6, 7].flatMap (fun n => leBytes (crc32 (c.page n)) 4)
  let h := padTo 60 0 h
  padTo 2048 0 (h ++ leBytes (crc32 h) 4 ++ c.words.flatMap (fun w => leBytes w.toNat 4))

/-- A snapshot area as octets: pages that were not programmed are erased; one whose CRC fails reads free octets. -/
def SnapArea.octets (a : SnapArea) : List Byte :=
  (List.range 8).flatMap (fun n =>
    if a.badPages.contains n then (List.range 2048).map (fun i => Config.badPage n i)
    else if a.pages.contains n then (if n = 0 then a.content.page0 else a.content.page n)
    else List.replicate 2048 0xFF)

/-- A trace entry (R527). -/
def TraceEnt.octets (e : TraceEnt) : List Byte :=
  [BitVec.ofNat 8 e.tile, BitVec.ofNat 8 ((if e.mark then 128 else 0) + e.lane % 8 * 16 + e.chan % 8)] ++ leBytes e.course.toNat 2 ++ leBytes e.value.toNat 3 ++ [0]

/-- An instruction sample (R534). -/
def Sample.octets (e : Sample) : List Byte :=
  [BitVec.ofNat 8 e.tile, BitVec.ofNat 8 (e.lane % 8 + (if e.rebase then 8 else 0) + (if e.pfalse then 16 else 0) + if e.discarded then 32 else 0)] ++
    leBytes e.addr.toNat 2 ++ [e.opcode, 0] ++ leBytes e.latency.toNat 2 ++ leBytes e.course.toNat 2 ++ leBytes e.tick 6

end Sys2Proof.Machine
end

