-- ==== Sys2Proof/Machine/Security.lean ====
section
/-! DEFINITION. The Secure Core's commands: OTP programming and reads, update packages, recovery, JTAG and debug (chapter
"Security, OTP and firmware update"). -/
namespace Sys2Proof.Machine

/-! ## FUSE_CMD (R580 to R584) -/

/-- What an OTP command leaves: its result, reason, pulses, and the 40 bits that it read. -/
structure FuseOut where
  result : Nat := 0
  reason : Nat := 0
  pulses : Nat := 0
  read   : BitVec 40 := 0
  deriving DecidableEq, Repr

/-- The reply of Table 18.8.  Data and check bits are those of the cells as they read. -/
def FuseOut.octets (o : FuseOut) : List Byte :=
  [BitVec.ofNat 8 o.result, BitVec.ofNat 8 o.reason] ++ leBytes o.pulses 2 ++ leBytes (o.read.toNat % 2 ^ 32) 4 ++ [BitVec.ofNat 8 (o.read.toNat / 2 ^ 32)]

/-- A command that nothing is programmed for: the word as it reads at normal level. -/
def Live.fuseNo (l : Live) (a result reason : Nat) : FuseOut := { result := result, reason := reason, read := (l.otpw a).norm }

/-- A word of an OWNER or a FACTORY session may be programmed with a value (Table 18.2, Table 18.10). -/
def Live.fuseClass (l : Live) (cls a : Nat) (val : Word) : Bool :=
  if 128 ≤ a && a ≤ 131 then l.mayStep cls (a - 127) else l.mayProgram cls a val

/-- A LIFECYCLE or COUNTERS word takes only its pattern, or the next valid boot configuration entry (R575). -/
def Live.fusePattern (l : Live) (a : Nat) (val : Word) : Bool :=
  if 128 ≤ a && a ≤ 131 then val = lcPattern (a - 127)
  else if 336 ≤ a && a ≤ 367 then bootEntryOk val && l.bootEntries.length = a - 336
  else true

/-- Program words one after another with their data; the first that fails ends the run. -/
def Live.fuseRun (l : Live) (env : FuseEnv) : List (Nat × BitVec 40) → FuseOut → Live × FuseOut
  | [], o => (l, o)
  | (a, enc) :: t, o =>
    let d := l.burnWord a enc env
    let b := d.1
    let o : FuseOut := { result := b.result, reason := b.reason, pulses := o.pulses + b.pulses, read := b.word.norm }
    if b.result = 2 then (d.2, o) else d.2.fuseRun env t o

/-- The RETURNED step has been programmed: zeroisation, and OWNER and OPERATOR sessions close (R567). -/
def Live.returned (l : Live) (env : FuseEnv) : Live :=
  let l := l.zeroise env
  l.each 16 fun l n => if ((l.sess n).opened || (l.sess n).pendg) && ((l.sess n).cls = 1 || (l.sess n).cls = 2) then l.closeSess n else l

/-- The words a PROGRAM burns: the target, behind the lower lifecycle steps that are still blank (R566). -/
def Live.fuseWords (l : Live) (a : Nat) (val : Word) : List (Nat × BitVec 40) :=
  (if 128 ≤ a && a ≤ 131 then ((List.range (a - 128)).filter (fun i => l.otpBlank (128 + i))).map (fun i => (128 + i, otpEnc (lcPattern (i + 1)))) else []) ++
    [(a, otpEnc val)]

/-- PROGRAM (R566, R581, R582). -/
def Live.fuseProgram (l : Live) (cls a : Nat) (val : Word) (env : FuseEnv) : Live × FuseOut :=
  if !l.fuseClass cls a val then (l, l.fuseNo a 4 3)
  else if l.locked (regionOf a) then (l, l.fuseNo a 3 0)
  else if !l.fusePattern a val then (l, l.fuseNo a 4 7)
  else if !l.otpBlank a then (l, l.fuseNo a 4 4)
  else if 128 ≤ a && a ≤ 131 && !l.stepReady (a - 127) then (l, l.fuseNo a 4 6)
  else if l.fuseBar ≠ 0 then (l, l.fuseNo a 4 l.fuseBar)
  else
    let had := 3 ≤ l.lcNow
    let r := l.fuseRun env (l.fuseWords a val) {}
    (if !had && 3 ≤ r.1.lcNow then r.1.returned env else r.1, r.2)

/-- REBURN's class: as PROGRAM, a lock word's as its region's LOCK. -/
def Live.reburnClass (l : Live) (cls a : Nat) (val : Word) : Bool :=
  if 132 ≤ a && a ≤ 137 then (List.range 8).any (fun r => lockWord r = some a && l.mayLock cls r) else l.fuseClass cls a val

/-- REBURN (R579, R582): of a word that is programmed with a subset of the value, or that an intent record names. -/
def Live.fuseReburn (l : Live) (cls a : Nat) (val : Word) (env : FuseEnv) : Live × FuseOut :=
  let enc := otpEnc val
  let w := (l.otpw a).norm
  if !l.reburnClass cls a val then (l, l.fuseNo a 4 3)
  else if l.locked (regionOf a) then (l, l.fuseNo a 3 0)
  else if w &&& ~~~enc ≠ 0 || (w = 0 && l.sec.intent ≠ some (a, enc)) then (l, l.fuseNo a 4 5)
  else if l.fuseBar ≠ 0 then (l, l.fuseNo a 4 l.fuseBar)
  else
    let had := 3 ≤ l.lcNow
    let r := l.fuseRun env [(a, enc)] {}
    (if !had && 3 ≤ r.1.lcNow then r.1.returned env else r.1, r.2)

/-- READ_NORMAL, READ_MARGIN_LO and READ_MARGIN_HI: the word's class (R577; log entry 103) and the bits at the level. -/
def Live.fuseRead (l : Live) (a level : Nat) : FuseOut :=
  let w := l.otpw a
  { result := w.cls, read := match level with | 0 => w.norm | 1 => w.lo | _ => w.hi }

/-- LOCK (R584). -/
def Live.fuseLock (l : Live) (cls r : Nat) (env : FuseEnv) : Live × FuseOut :=
  match lockWord r with
  | none => (l, { result := 4, reason := 3 })
  | some a =>
    if !l.mayLock cls r then (l, l.fuseNo a 4 3)
    else if l.locked r then (l, l.fuseNo a 3 0)
    else if !l.lockReady r then (l, l.fuseNo a 4 6)
    else if l.fuseBar ≠ 0 then (l, l.fuseNo a 4 l.fuseBar)
    else l.fuseRun env [(a, otpEnc (lockPattern r))] {}

/-! ## Update messages (Table 18.14, R591, R594 to R598) -/

/-- Keep the last reason. -/
def Live.stgReason (l : Live) (why : Nat) : Live := l.modSec fun s => { s with stg := { s.stg with reason := why } }

/-- UPDATE_BLOCK's answer: next offset and reason. -/
def Live.blockReply (l : Live) (status why : Nat) : Live × Nat × List Byte :=
  let l := l.stgReason why
  (l, status, leBytes l.sec.stg.bytes.length 4 ++ [BitVec.ofNat 8 why])

/-- Write a block into staging. -/
def Live.stgPut (l : Live) (sess off : Nat) (data : List Byte) : Live :=
  let b := if off = 0 then data else l.sec.stg.bytes ++ data
  l.modSec fun s => { s with stg := { state := 1, owner := sess, bytes := b, lastOff := off, lastLen := data.length, kind := pkgKind b } }

/-- UPDATE_BLOCK (R590, R591). -/
def Live.updateBlock (l : Live) (sess off : Nat) (crc : Word) (data : List Byte) : Live × Nat × List Byte :=
  let g := l.sec.stg
  if (g.state = 1 || g.state = 2) && g.owner ≠ sess then (l, 0x01, leBytes g.bytes.length 4 ++ [0])
  else if crc32 data ≠ crc.toNat then l.blockReply 0x0C 1
  else if g.state = 1 && g.lastOff = off && g.lastLen = data.length && off ≠ g.bytes.length then l.blockReply 0 0
  else if g.state = 2 || (g.state = 1 && off ≠ g.bytes.length) || (g.state = 0 && (off ≠ 0 || !(l.ustate = 0 || l.ustate = 6 || l.ustate = 7 || (l.ustate = 4 && l.moor.fwImage.isEmpty)))) then l.blockReply 0x0C 2
  else if 131072 < off + data.length then l.blockReply 0x0C 3
  else if !l.flashProgram || (off = 0 && !l.flashErase) then l.blockReply 0x0C 15
  else ((l.withUpdate fun l => l.stgPut sess off data).count 126).blockReply 0 0

/-- Signature verifications that a check makes before it ends with a reason (R594). -/
def Live.checkVerifies (l : Live) (why : Nat) : Nat :=
  match why with | 3 => 0 | 4 => 0 | 8 => 0 | 5 => 1 | _ => l.pkgVerifies l.sec.stg.bytes

/-- UPDATE_SEAL (R594). -/
def Live.updateSeal (l : Live) (sess : Nat) : Live × Nat × List Byte :=
  let g := l.sec.stg
  if g.state ≠ 1 then (l.stgReason 2, 0x0C, [2])
  else if g.owner ≠ sess then (l, 0x01, [0])
  else
    let why := l.pkgCheck g.bytes
    let l := l.countWith 125 (l.checkVerifies why) {}
    if why = 0 then ((l.withUpdate fun l => l.modSec fun s => { s with stg := { s.stg with state := 2, reason := 0 } }), 0, [0])
    else (((l.stgReason why).stgDrop).raise 0xC004 0xE001 why, 0x0C, [BitVec.ofNat 8 why])

/-- `CKFMT` of the newest checkpoint sent or held; this firmware sends format 1. -/
def Live.ckFmt (l : Live) : Option Nat :=
  let k := l.keeper
  let held (b : CkptBuf) : Option Nat := if b.state = 2 then some b.fmt.toNat else none
  if k.live then (if k.ckAt.isSome then some 1 else none)
  else match held k.bufA, held k.bufB with
    | some a, some b => some (if seqNewer k.bufB.seq k.bufA.seq then b else a)
    | some a, none => some a
    | none, some b => some b
    | none, none => if k.ckAt.isSome then some 1 else none

/-- The checks of R596: status and reason, 0 and 0 when all hold. -/
def Live.armCheck (l : Live) (restart : Bool) : Nat × Nat :=
  let b := l.sec.stg.bytes
  if pkgUver b = l.runVer then (0x0C, 8)
  else if l.mateUp && !pkgInRange b 2 l.keeper.mateVer.toNat then (0x0D, 11)
  else if [0, 1].any (fun n => (l.storeSlot n).active && !pkgInRange b 1 (l.storeSlot n).img.schema.toNat) then (0x0D, 12)
  else if (match l.ckFmt with | some f => !pkgInRange b 0 f | none => false) then (0x0D, 13)
  else if restart && l.keeper.live && l.mateen then (0x0C, 14)
  else (0, 0)

/-- A kind 2 package opens its station image for relay (R598). -/
def Live.relayOpen (l : Live) : Live :=
  let b := l.sec.stg.bytes
  let l := { l with moor := { l.moor with fwImage := pkgPayload b, fwVendor := BitVec.ofNat 16 (pkgTarget b), fwType := BitVec.ofNat 8 (pkgStype b),
                                          fwVer := BitVec.ofNat 16 (pkgUver b), fwTried := [] } }
  l.withUpdate fun l => (l.setBoot fun r => { r with state := 4 }).modSec fun s => { s with stg := { s.stg with state := 0, relaying := true, relayed := false, reason := 0 } }

/-- UPDATE_ARM (R596). -/
def Live.updateArm (l : Live) (sess : Nat) (restart : Bool) : Live × Nat × List Byte :=
  let g := l.sec.stg
  if l.fc.safe then (l, 0x0C, [0])
  else if g.state ≠ 2 then (l.stgReason 2, 0x0C, [2])
  else if g.owner ≠ sess then (l, 0x01, [0])
  else if pkgKind g.bytes = 2 then (l.relayOpen, 0, [0])
  else
    let c := l.armCheck restart
    if c.1 ≠ 0 then (l.stgReason c.2, c.1, [BitVec.ofNat 8 c.2])
    else
      let l := l.withUpdate fun l =>
        (l.setBoot fun r => { r with state := 3, plen := g.bytes.length }).modSec fun s => { s with stg := { s.stg with state := 0, reason := 0 } }
      (if restart then l.modPwr fun p => { p with restart := some 6 } else l, 0, [0])

/-- UPDATE_CONFIRM (R595). -/
def Live.updateConfirm (l : Live) (env : FuseEnv) : Live × Nat × List Byte :=
  match l.sec.running with
  | some b =>
    if l.ustate ≠ 5 || b ≠ l.bootRec.bact then (l.stgReason 2, 0x0C, [2])
    else
      let l := l.withUpdate fun l => l.setBoot fun r => { r with state := 6, trial := 0 }
      let n := pkgUarv (l.bank b)
      let l := if l.arvN < n then (l.modSec fun s => { s with arvGoal := some n }).arvSteps env 64 else l
      (l, 0, [0])
  | none => (l.stgReason 2, 0x0C, [2])

/-- UPDATE_STATUS (Table 18.16). -/
def Live.updateStatus (l : Live) : List Byte :=
  let g := l.sec.stg
  [BitVec.ofNat 8 l.ustate, BitVec.ofNat 8 g.kind, BitVec.ofNat 8 g.reason, BitVec.ofNat 8 l.bootRec.trial] ++ leBytes g.bytes.length 4 ++
    leBytes (pkgUver g.bytes) 4 ++ leBytes l.runVer 4 ++ [BitVec.ofNat 8 l.arvN, BitVec.ofNat 8 (if l.bootRec.state = 4 then l.fwLeft.length else 0)]

/-! ## Recovery (R600) -/

/-- RECOVERY's answer. -/
def Live.recReply (l : Live) (status why : Nat) : Live × Nat × List Byte :=
  (l.stgReason why, status, [BitVec.ofNat 8 why, 0, 0, 0] ++ leBytes l.sec.recBytes.length 4)

/-- RECOVERY ENTER (R600): running firmware restarts into the recovery ROM with cause 7. -/
def Live.recoveryEnter (l : Live) : Live × Nat × List Byte :=
  if l.pwr.recovery then l.recReply 0x0C 2 else (l.modPwr fun p => { p with restart := some 7 }).recReply 0 0

/-- The bank that RECOVERY writes: the one `BACT` does not name, A when there is no record. -/
def Live.recBank (l : Live) : Bool := match l.sec.boot with | some r => !r.bact | none => false

/-- RECOVERY BLOCK. -/
def Live.recoveryBlock (l : Live) (off : Nat) (crc : Word) (data : List Byte) : Live × Nat × List Byte :=
  let s := l.sec
  if !l.pwr.recovery then l.recReply 0x0C 2
  else if crc32 data ≠ crc.toNat then l.recReply 0x0C 1
  else if !s.recBytes.isEmpty && s.recOff = off && s.recLen = data.length && off ≠ s.recBytes.length then l.recReply 0 0
  else if off ≠ 0 && off ≠ s.recBytes.length then l.recReply 0x0C 2
  else if 131072 < off + data.length then l.recReply 0x0C 3
  else if !l.flashProgram || (off = 0 && !l.flashErase) then l.recReply 0x0C 15
  else
    let b := if off = 0 then data else s.recBytes ++ data
    let l := (l.modSec fun s => { s with recBytes := b, recOff := off, recLen := data.length }).setBank l.recBank b
    (l.count 126).recReply 0 0

/-- The first thing that makes a bank not valid (R585), as a reason of Table 18.17; 0 when it is valid. -/
def Live.bankWhy (l : Live) (bk : Bool) : Nat :=
  let b := l.bank bk
  let n := pkgUrlen b
  let sig := pkgSig b n
  if !pkgHeaderOk b || pkgKind b ≠ 1 then 4
  else if b.length ≠ 296 + n then 3
  else if pkgTarget b ≠ 0x4160 then 8
  else if !l.onwickSigOk b sig then 5
  else if l.sec.lc = 2 && !l.ownerSigOk b sig then 6
  else if pkgUarv b < l.arvN then 7
  else if sha256 (sliceB b 160 n) ≠ sliceB b 52 32 then 10
  else 0

/-- RECOVERY FINISH: the bank is verified, the boot record names it, and a release of reset with cause 7 follows. -/
def Live.recoveryFinish (l : Live) : Live × Nat × List Byte :=
  if !l.pwr.recovery then l.recReply 0x0C 2
  else
    let bk := l.recBank
    let l := l.countWith 125 l.bankVerifies {}
    let why := l.bankWhy bk
    let l := l.modSec fun s => { s with recBytes := [], recOff := 0, recLen := 0 }
    if why ≠ 0 then l.recReply 0x0C why
    else
      let st := if l.bankValid (!bk) then 5 else 6
      let l := l.withUpdate fun l => l.setBoot fun r => { r with bact := bk, state := st, trial := 0, plen := 0 }
      (l.modPwr fun p => { p with restart := some 7 }).recReply 0 0

/-- RECOVERY ABORT. -/
def Live.recoveryAbort (l : Live) : Live × Nat × List Byte :=
  if !l.pwr.recovery then l.recReply 0x0C 2
  else (l.modSec fun s => { s with recBytes := [], recOff := 0, recLen := 0 }).recReply 0 0

/-! ## JTAG (R568, R620) -/

def Live.setPins (l : Live) (f : Pins → Pins) : Live := { l with pins := f l.pins }

/-- The JTAG port works: D0 is on. -/
def Live.jtagOn (l : Live) : Bool := l.pwr.st ≠ .off

/-- The 32 bits of IDCODE. -/
def Live.idcode (l : Live) : Word :=
  put (fld (l.otpData 3) 3 0) 28 4 ||| put 0x4160 12 16 ||| put Config.onwickId.toNat 1 11 ||| put 1 0 1

/-- BYPASS: one stage, which captures 0. -/
def bypassBits (bits : List Bool) : List Bool := if bits.isEmpty then [] else false :: bits.dropLast

/-- JTAG_IDCODE (R620), least significant bit first. -/
def execJtagIdcode (s : State) : Host.Outcome State Fault Refusal :=
  s.upd fun l => if l.jtagOn then l.setPins fun p => { p with tdo := (List.range 32).map (fun i => l.idcode.getLsbD i), extest := false } else l

/-- JTAG_BYPASS (R568). -/
def execJtagBypass (bits : List Bool) (s : State) : Host.Outcome State Fault Refusal :=
  s.upd fun l => if l.jtagOn then l.setPins fun p => { p with tdo := bypassBits bits, extest := false } else l

/-- JTAG_SAMPLE_PRELOAD (R568): the pins are captured and shifted out; the values shifted in wait in the boundary register. -/
def execJtagSamplePreload (pins preload : List Bool) (s : State) : Host.Outcome State Fault Refusal :=
  s.upd fun l => if l.jtagOn then l.setPins fun p => { p with tdo := pins, bsr := preload, extest := false } else l

/-- JTAG_EXTEST (R568): honoured while `TEST_EN` is high, lease-live clear and the lifecycle not DEPLOYED; else BYPASS. -/
def execJtagExtest (testEn : Bool) (preload : List Bool) (s : State) : Host.Outcome State Fault Refusal :=
  s.upd fun l =>
    if !l.jtagOn then l
    else if testEn && !l.keeper.live && l.sec.lc ≠ 2 then l.setPins fun p => { p with bsr := preload, extest := true }
    else l.setPins fun p => { p with tdo := bypassBits preload, extest := false }

/-! ## Debug (R568 to R572) -/

/-- The debug session ends: CLOSED, and what it halted goes on (R570). -/
def Live.dbgEnd (l : Live) : Live :=
  l.modSec fun s => { s with dbg := { s.dbg with mode := 0, halted := [], stepped := [], coresHalted := false } }

/-- A region's words may be used for a key: not while HELD for a failure of that region (R569). -/
def Live.keyRegionOk (l : Live) (r : Nat) : Bool := !(l.pwr.st = .held && l.sec.badRegions.contains r)

/-- The keys that grant a mode (R568). -/
def Live.dbgKeys (l : Live) (mode : Nat) : List (List Byte) :=
  let key (a : Nat) : List (List Byte) := if l.keyMissing a || !l.keyRegionOk 4 then [] else [l.otpBytes a 8]
  let tr : List (List Byte) := if l.sec.lc = 0 && l.keyRegionOk 0 then [l.transportKey] else []
  match mode with
  | 1 => key 208 ++ key 216 ++ tr
  | 2 => if l.sec.lc = 2 then [] else key 216 ++ tr
  | _ => []

/-- DBGAUTH (R568 to R570): it shifts out a nonce, or takes in a mode and its HMAC, or closes.  HOLDUP refuses it (X of
Table 18.4); a lock-out does not accept it. -/
def execDbgauth (a : DbgAuth) (s : State) : Host.Outcome State Fault Refusal :=
  s.upd fun l =>
    if !l.jtagOn || l.pwr.resetLow then l
    else match a with
    | .close => l.dbgEnd
    | .nonce =>
      let d := l.drawBytes 16
      (d.2.modSec fun s => { s with dbg := { s.dbg with nonce := d.1 } }).setPins fun p => { p with dbgOut := d.1 }
    | .request mode hmac =>
      if l.pwr.st = .holdup || l.sec.dbg.lockEnd.isSome then l
      else
        let n := l.sec.dbg.nonce
        let m := mode.toNat
        let good := !n.isEmpty && (l.dbgKeys m).any (fun k => hmacSha256 k (n ++ [BitVec.ofNat 8 m] ++ l.uid) = hmac)
        let l := (l.modSec fun s => { s with dbg := { s.dbg with nonce := [] } }).dbgEnd
        if good then
          let l := (l.modSec fun s => { s with dbg := { s.dbg with mode := m, fails := [] } }).count 127
          if m = 2 then l.raise 0xC003 0xE000 else l
        else
          let f := (l.now :: l.sec.dbg.fails).filter (fun t => l.now < t + secTicks)
          if 3 ≤ f.length then
            l.modSec fun s => { s with dbg := { s.dbg with fails := [], lockEnd := some (l.now + fld (l.hw 0xD000 0) 23 16 * secTicks) } }
          else l.modSec fun s => { s with dbg := { s.dbg with fails := f } }

/-- DBGAUTH_LOCK_END (R568). -/
def execDbgauthLockEnd (s : State) : Host.Outcome State Fault Refusal :=
  s.upd fun l =>
    match l.sec.dbg.lockEnd with
    | some t => if t ≤ l.now then l.modSec fun s => { s with dbg := { s.dbg with lockEnd := none } } else l
    | none => l

/-- TRST_LOW (R570): the debug session ends and the JTAG port is reset. -/
def execTrstLow (s : State) : Host.Outcome State Fault Refusal :=
  s.upd fun l => (l.dbgEnd.modSec fun s => { s with dbg := { s.dbg with nonce := [] } }).setPins fun p => { p with extest := false }

/-- The reach codes of Table 18.3. -/
inductive Reach where
  | none | a | aPlus | s | f
  deriving DecidableEq, Repr

/-- Table 18.4. -/
def Live.reach (l : Live) : Reach :=
  let m := l.sec.dbg.mode
  if m = 0 || (m = 2 && l.sec.lc = 2) then .none
  else match l.pwr.st with
    | .held => if m = 2 then .aPlus else .a
    | .cold => if m = 2 then .aPlus else .a
    | .boot => if l.pwr.stage < 4 then .a else if m = 2 then .f else .s
    | .run => if m = 2 then .f else .s
    | .lean => if m = 2 then .f else .s
    | _ => .none

/-- What DBGACC answers. -/
def Live.dbgSay (l : Live) (a : DbgAns) (out : List Byte) : Live := l.setPins fun p => { p with dbgAns := a, dbgOut := out }

/-- A memory whose writes the lease bars: loop memory (R572), the records among it. -/
def loopSpace : MemSpace → Bool
  | .loop => true | _ => false

/-- A full reach, for what the lease does not bar. -/
def Live.dbgFull (l : Live) (f : Live → Live) : Live := if l.reach = .f then (f l).dbgSay .ok [] else l.dbgSay .refused []
/-- A full reach, for what the lease bars (R572). -/
def Live.dbgLease (l : Live) (f : Live → Live) : Live :=
  if l.reach ≠ .f then l.dbgSay .refused [] else if l.keeper.live then l.dbgSay .lease [] else (f l).dbgSay .ok []
/-- A read within S. -/
def Live.dbgRead (l : Live) (out : List Byte) : Live := if l.reach = .s || l.reach = .f then l.dbgSay .ok out else l.dbgSay .refused []

def Live.modDbg (l : Live) (f : Debug → Debug) : Live := l.modSec fun s => { s with dbg := f s.dbg }

/-- The words written through DBGACC, newest first. -/
def memAt (m : List (MemSpace × Nat × Word)) (sp : MemSpace) (a : Nat) : Option Word :=
  (m.find? (fun p => p.1 = sp && p.2.1 = a)).map (·.2.2)

/-- DBGACC (R571, R572).  `newest` is the generation that published objects are read from. -/
def Live.dbgAccess (l newest : Live) (r : DbgReq) : Live :=
  match r with
  | .readObj oid w =>
    let o := oid.toNat
    if l.reach = .none then l.dbgSay .refused []
    else if l.reach = .a || l.reach = .aPlus then
      (if (o = 0xA000 || o = 0xE010) && w.toNat < l.objLen o then l.dbgSay .ok (leBytes (l.objWord o w.toNat).toNat 4) else l.dbgSay .refused [])
    else if l.objHere o && (layOf o).isSome && w.toNat < l.objLen o then l.dbgSay .ok (leBytes (newest.objWord o w.toNat).toNat 4) else l.dbgSay .refused []
  | .readD0 => if l.reach = .none then l.dbgSay .refused [] else let d := l.drawBytes 4; d.2.dbgSay .ok d.1
  | .readOtp level a =>
    if l.reach = .aPlus || l.reach = .f then
      let o := l.fuseRead a.val level.val
      l.dbgSay .ok (leBytes o.read.toNat 5)
    else l.dbgSay .refused []
  | .haltLane n => l.dbgLease fun l => l.modDbg fun d => { d with halted := (d.halted.filter (· ≠ n.val)) ++ [n.val] }
  | .stepLane n => l.dbgLease fun l => l.modDbg fun d => { d with stepped := if d.halted.contains n.val then (d.stepped.filter (· ≠ n.val)) ++ [n.val] else d.stepped }
  | .resumeLane n => l.dbgFull fun l => l.modDbg fun d => { d with halted := d.halted.filter (· ≠ n.val), stepped := d.stepped.filter (· ≠ n.val) }
  | .haltCores => l.dbgFull fun l => l.modDbg fun d => { d with coresHalted := true }
  | .resumeCores => l.dbgFull fun l => l.modDbg fun d => { d with coresHalted := false }
  | .stepCores => l.dbgFull fun l => l
  | .readLane n k => l.dbgRead (match (l.lane n).ev with | some e => leBytes (tget 0 e.w k.val).toNat 3 | none => [0, 0, 0])
  | .readTrace t e => l.dbgRead (match (l.trace t).ents.reverse[e]? with | some x => x.octets | none => [])
  | .readSample e => l.dbgRead (match l.recd.samples.reverse[e]? with | some x => x.octets | none => [])
  | .readMem sp a =>
    if l.reach ≠ .f then l.dbgSay .refused []
    else match (memAt l.pins.dbgMem sp a).orElse (fun _ => if sp = .loop then l.schedWord a else if sp = .retention then l.retentionWord a else none) with
      | some v => l.dbgSay .ok (leBytes v.toNat 4)
      | none => let d := l.drawBytes 4; d.2.dbgSay .ok d.1
  | .writeMem sp a v =>
    let put (l : Live) : Live := l.setPins fun p => { p with dbgMem := (sp, a, v) :: p.dbgMem.filter (fun q => !(q.1 = sp && q.2.1 = a)) }
    if loopSpace sp then l.dbgLease put else l.dbgFull put

/-- DBGACC (R571, R572). -/
def execDbgacc (r : DbgReq) (s : State) : Host.Outcome State Fault Refusal :=
  s.upd fun l => if !l.jtagOn then l else l.dbgAccess ((tfind s.gens l.msgs.gen).getD l) r

end Sys2Proof.Machine
end

