-- ==== Sys2Proof/Machine/Messages.lean ====
section
/-! DEFINITION. The message protocol: frames, the checks of R463, sessions, reads, writes, transactions, events and the
recorder's messages (chapter "Messages, sessions and coherent state", R532 to R536). -/
namespace Sys2Proof.Machine

/-! ## Requests (R460 to R462) -/

/-- A request: what carries it, its opcode and body, the least class Table 14.2 admits, and the object and traffic class
that its counters filter by (R531). -/
structure Req where
  h      : MsgHdr := {}
  mop    : Nat := 0
  body   : List Byte := []
  cls    : Nat := 0
  obj    : Option Nat := none
  tclass : Nat := 7
  deriving DecidableEq, Repr

def MsgHdr.port_ (h : MsgHdr) : Nat := h.port.val
def MsgHdr.sess_ (h : MsgHdr) : Nat := h.sess.toNat
/-- The `MSESS` octet. -/
def MsgHdr.msess (h : MsgHdr) : Byte := BitVec.ofNat 8 (16 * h.sess.toNat + h.seq.toNat)

def Req.mop_ (q : Req) : Byte := BitVec.ofNat 8 q.mop
/-- The frame that carries the request. -/
def Req.frame (q : Req) : List Byte := msgFrame (MsgHdr.msess q.h) q.mop_ q.body
/-- Its `MCRC`. -/
def Req.mcrc (q : Req) : Half := BitVec.ofNat 16 (leNat (q.frame.drop (4 + q.body.length)))

/-- The data of a block that an update message carries: 4 to 224 octets, a multiple of 4 (Table 18.16). -/
def blockLen (n : Nat) : Bool := 4 ≤ n && n ≤ 224 && n % 4 = 0

/-- An octet of a body as a number. -/
def oct (b : List Byte) (i : Nat) : Nat := (b.getD i 0).toNat

/-- The opcode allows the body's length and content (R462, Table 14.2, Table 16.7, Table 18.8, Table 18.16). -/
def bodyOk (mop : Nat) (b : List Byte) : Bool :=
  let n := b.length
  match mop with
  | 0x01 => n = 1 && oct b 0 ≤ 3
  | 0x02 => n = 32
  | 0x10 => 1 ≤ oct b 3 && oct b 3 ≤ 58 && oct b 4 ≤ 3 && n = (if oct b 4 / 2 = 1 then 11 else 5)
  | 0x11 => 1 ≤ oct b 3 && oct b 3 ≤ 58 && n = 4 + 4 * oct b 3
  | 0x13 => n = 6
  | 0x30 => n = 1 && 1 ≤ oct b 0 && oct b 0 ≤ 14
  | 0x31 => n = 4
  | 0x40 => n = 3 && 1 ≤ oct b 1 && oct b 1 ≤ 19 && oct b 2 ≤ 1
  | 0x41 => n = 3 && 1 ≤ oct b 2 && oct b 2 ≤ 14
  | 0x50 => n = 7 && 1 ≤ oct b 6 && oct b 6 ≤ 7
  | 0x60 => 8 ≤ n && n ≤ 236
  | 0x70 => 8 ≤ n && blockLen (n - 8)
  | 0x72 => n = 1 && oct b 0 ≤ 1
  | 0x7F => (if oct b 0 = 1 then 12 ≤ n && blockLen (n - 12) && (sliceB b 1 3).all (· = 0) else n = 1 && oct b 0 ≤ 3)
  | 0x80 =>
    n = 8 && 1 ≤ oct b 0 && oct b 0 ≤ 6 && oct b 1 = 0 && numAt b 2 2 < (if oct b 0 = 6 then 8 else 512) &&
      (oct b 0 ≤ 2 || numAt b 4 4 = 0)
  | m => [0x03, 0x12, 0x20, 0x21, 0x22, 0x23, 0x71, 0x73, 0x74].contains m && n = 0

/-! ## Which part of the controller serves a port (R484, R498, R556, R600) -/

inductive Serving where
  | nobody | firmware | rom | responder
  deriving DecidableEq, Repr

/-- Firmware, the recovery ROM or, with D1 off, the diagnostic responder of the two-wire target. -/
def Live.serving (l : Live) (port : Nat) : Serving :=
  if l.pwr.recovery then (if port = 2 then .nobody else .rom)
  else if l.fwUp then (if l.coresUp then .firmware else .nobody)
  else if port = 1 && !l.dom 1 && l.pwr.st ≠ .off && l.ports.respReady then .responder
  else .nobody

/-- The port holds no other request and no reply that waits; the keeper core's replies do not wait (R484). -/
def Live.portTakes (l : Live) (port : Nat) (frame : List Byte) : Bool :=
  (port = 2 || (l.mport port).reply.isNone) && (l.img.txn.held.map (·.1)) ≠ some port &&
    ((l.mport port).inbox.isNone || (l.mport port).inbox = some frame)

/-- The attributes a message brings to the counters' filters (R531). -/
def Live.reqAttr (l : Live) (q : Req) : CntAttr :=
  let k := l.sess (MsgHdr.sess_ q.h)
  { cls := if k.opened || k.pendg then some k.cls else none, req := some (MsgHdr.port_ q.h), obj := q.obj, tclass := some q.tclass }

/-- A request reaches the port whole: counters 80 or 84 where TW_WRITE or HSP_WRITE has not yet counted it. -/
def Live.arrive (l : Live) (q : Req) (frame : List Byte) : Live :=
  let p := MsgHdr.port_ q.h
  let fresh := (l.mport p).inbox.isNone
  let a := l.reqAttr q
  let l := l.modMport p fun m => { m with inbox := some frame }
  if fresh && p = 0 then l.countWith 84 1 a else if fresh && p = 1 then l.countWith 80 1 a else l

/-- It is taken: counter 72. -/
def Live.takeReq (l : Live) (q : Req) : Live := (l.arrive q q.frame).countWith 72 1 (l.reqAttr q)

/-- A port holds a request that waits to be taken. -/
def Live.waits (l : Live) (p : Nat) : Bool :=
  (l.mport p).inbox.isSome && (p = 2 || (l.mport p).reply.isNone) && (l.img.txn.held.map (·.1)) ≠ some p

/-- The batch that a request at a port meets (R483): what is left of the present one, else a new one of every port that waits,
in the order host serial port, two-wire target, keeper core. -/
def Live.batch (l : Live) (p : Nat) : List Nat :=
  let b := l.msgs.batch.filter l.waits
  if b.isEmpty then [0, 1, 2].filter (fun k => k = p || l.waits k) else b

/-- The request at a port is the next that the Configuration and Transaction Unit takes. -/
def Live.turn (l : Live) (p : Nat) : Bool := (l.batch p).head? = some p

def Live.setBatch (l : Live) (b : List Nat) : Live := { l with msgs := { l.msgs with batch := b } }

/-- The reply to a request that nothing has executed. -/
def Live.answer (l : Live) (q : Req) (status : Nat) (data : List Byte) : Live :=
  (l.countStatus (l.reqAttr q) status).reply (MsgHdr.port_ q.h) (MsgHdr.msess q.h) q.mop_ status data

/-- The reply to a request that was executed: its session keeps it (R467). -/
def Live.answerKept (l : Live) (q : Req) (status : Nat) (data : List Byte) : Live :=
  (l.countStatus (l.reqAttr q) status).replyKept (MsgHdr.port_ q.h) (MsgHdr.sess_ q.h) (MsgHdr.msess q.h) q.mop_ status data

/-! ## The generations (R48, R471, R473) -/

/-- The newest generation; before any is published, the state as it stands. -/
def State.newest (s : State) : Live :=
  if s.live.msgs.published then (tfind s.gens s.live.msgs.gen).getD s.live else s.live

/-- A generation that some session has pinned. -/
def State.pinnedGen (s : State) (n : Nat) : Option Live := if s.live.pinned.contains n then tfind s.gens n else none

/-- Only the newest generation and the pinned ones are kept. -/
def State.prune (s : State) : State :=
  { s with gens := s.gens.filter (fun p => (s.live.msgs.published && p.1 = s.live.msgs.gen) || s.live.pinned.contains p.1) }

/-! ## The checks of R463 -/

/-- Requests that HOLDUP still serves (R556). -/
def holdupServes (mop : Nat) (b : List Byte) : Bool :=
  (mop = 0x01 && oct b 0 = 0) || [0x03, 0x10, 0x12, 0x13, 0x23, 0x30, 0x31].contains mop

/-- Opcodes that the recovery ROM serves (R600). -/
def romServes (mop : Nat) : Bool := [0x01, 0x02, 0x03, 0x10, 0x74, 0x7F].contains mop

/-- A request under a session restarts its idle time, and its open transaction's inactivity (R468, R479). -/
def Live.touchSess (l : Live) (n : Nat) : Live :=
  let l := l.modSess n fun k => { k with lastAt := l.now }
  if l.img.txn.st = .opened && l.img.txn.owner = n then l.modTxn fun t => { t with lastAt := l.now } else l

/-- What the operation gives: the state, and the status with its data, or none when the reply is held or lost. -/
abbrev Run := State × Option (Nat × List Byte)

/-- The operation's own part of check 3 and checks 4 to 6: a status, 0 when none applies.  The arguments are the session
and its class. -/
abbrev Check := State → Nat → Nat → Nat

/-- Checks 3 to 7 are left for the operation (R463). -/
def State.serveOp (s : State) (q : Req) (check : Check) (run : State → Nat → Nat → Run) : State :=
  let n := MsgHdr.sess_ q.h
  let c := (s.live.sess n).cls
  let st := check s n c
  if st ≠ 0 then { s with live := s.live.answer q st [] }
  else if s.live.pwr.st = .holdup && !holdupServes q.mop q.body then { s with live := s.live.answer q 0x01 [] }
  else
    let l := if n = 0 then s.live else s.live.modSess n fun k => { k with last := some (q.h.seq, q.mop_, q.mcrc), reply := [] }
    let r := run { s with live := l } n c
    match r.2 with
    | some a => { r.1 with live := r.1.live.answerKept q a.1 a.2 }
    | none => r.1

/-- The same request was the last that the session executed (R467). -/
def Session.repeats (k : Session) (q : Req) : Bool := k.last = some (q.h.seq, q.mop_, q.mcrc) && !k.reply.isEmpty

/-- R463 in firmware and in the recovery ROM: body, session, repeat, class, then the operation. -/
def State.serveFw (s : State) (q : Req) (check : Check) (run : State → Nat → Nat → Run) : State :=
  let l := s.live.takeReq q
  let s := { s with live := l }
  let n := MsgHdr.sess_ q.h
  let k := l.sess n
  let no (st : Nat) : State := { s with live := l.answer q st [] }
  if !bodyOk q.mop q.body || (l.pwr.recovery && !romServes q.mop) then no 0x0C
  else if n = 0 then (if q.mop = 0x01 then s.serveOp q check run else no 0x02)
  else if !(k.opened || k.pendg) || k.port ≠ MsgHdr.port_ q.h then no 0x02
  else
    let l := l.touchSess n
    let s := { s with live := l }
    if k.repeats q then
      { s with live := (l.countWith 75 1 (l.reqAttr q)).modMport (MsgHdr.port_ q.h) fun p => { p with reply := some k.reply, inbox := none } }
    else if (if k.pendg then q.mop ≠ 0x02 && q.mop ≠ 0x03 else q.mop = 0x02 || k.cls < q.cls) then { s with live := l.answer q 0x02 [] }
    else s.serveOp q check run

/-! ## The diagnostic responder (R498) -/

/-- READ of the objects that the responder serves. -/
def Live.respRead (l : Live) (q : Req) : Live :=
  let o := numAt q.body 0 2
  let a := oct q.body 2
  let c := oct q.body 3
  let f := oct q.body 4
  if o ≠ 0xA000 && o ≠ 0xE010 then l.answer q 0x09 []
  else if l.objLen o < a + c then l.answer q 0x04 []
  else if f / 2 = 1 then l.answer q 0x0A []
  else if f % 2 = 1 then l.answer q 0x06 []
  else
    l.answer q 0 ([BitVec.ofNat 8 (l.msgs.ngaps % 16 * 16)] ++ leBytes l.msgs.gen 6 ++
      (List.range c).flatMap (fun i => leBytes (l.objWord o (a + i)).toNat 4))

/-- What the responder answers: OPEN of class MONITOR, CLOSE and READ; every other request is WAKING. -/
def Live.respond (l : Live) (q : Req) : Live :=
  let mine := q.h.sess = 1 && l.ports.respOpen
  if !bodyOk q.mop q.body then l.answer q 0x09 []
  else match q.mop with
    | 0x01 =>
      if oct q.body 0 ≠ 0 then l.answer q 0x09 []
      else if l.ports.respOpen then l.answer q 0x01 []
      else { l with ports := { l.ports with respOpen := true } }.answer q 0 [1, 0, 0, 0]
    | 0x03 => if mine then { l with ports := { l.ports with respOpen := false } }.answer q 0 [] else l.answer q 0x02 []
    | 0x10 => if mine then l.respRead q else l.answer q 0x02 []
    | _ => l.answer q 0x09 []

/-- A request in its turn (R483). -/
def State.serveTurn (s : State) (q : Req) (check : Check) (run : State → Nat → Nat → Run) : State :=
  let p := MsgHdr.port_ q.h
  let b := s.live.batch p
  if s.live.turn p then ({ s with live := s.live.setBatch b.tail } : State).serveFw q check run
  else { s with live := (s.live.arrive q q.frame).setBatch b }

/-- A request that reaches a port whole (R461, R463, R483, R498).  No effect while the port holds another request or a reply, or
while nothing serves it; one whose turn in the batch has not come waits in its port. -/
def State.serve (s : State) (q : Req) (check : Check) (run : State → Nat → Nat → Run) : State :=
  if !s.live.portTakes (MsgHdr.port_ q.h) q.frame then s
  else match s.live.serving (MsgHdr.port_ q.h) with
    | .nobody => s
    | .responder => { s with live := (s.live.takeReq q).respond q }
    | .firmware => s.serveTurn q check run
    | .rom => s.serveTurn q check run

/-- An operation with no check of its own. -/
def noCheck : Check := fun _ _ _ => 0

/-- An operation on the controller's own state. -/
def onLive (f : Live → Nat → Nat → Live × Nat × List Byte) : State → Nat → Nat → Run :=
  fun s n c => let r := f s.live n c; ({ s with live := r.1 }, some r.2)

/-- Check 6: the lease (Table 14.2).  In the safe state, `refuse` says that R388 answers REFUSED in its place. -/
def Live.leaseCheck (l : Live) (refuse : Bool) : Nat := if l.keeper.live then 0 else if refuse && l.fc.safe then 0x0C else 0x08

/-! ## Sessions (R464 to R468) -/

/-- The lowest free session number, while fewer than 8 sessions are open or pending (R465). -/
def Live.freeSess (l : Live) : Option Nat :=
  if 8 ≤ ((List.range 16).filter (fun n => (l.sess n).opened || (l.sess n).pendg)).length then none
  else ((List.range 16).filter (· ≠ 0)).find? (fun n => !(l.sess n).opened && !(l.sess n).pendg)

/-- OPEN is denied: the lifecycle does not open the class (Table 18.1), or the port is locked out (R466). -/
def Live.openCheck (l : Live) (port cls : Nat) : Nat :=
  if port = 2 then 0 else if !l.classOpens cls || (cls ≠ 0 && (l.mport port).lockEnd.isSome) then 0x02 else 0

/-- OPEN (R465).  The keeper core's sessions are open at once at class OWNER (R464). -/
def Live.openSess (l : Live) (port cls : Nat) : Live × Nat × List Byte :=
  match l.freeSess with
  | none => (l, 0x01, [])
  | some n =>
    let base : Session := { port := port, openAt := l.now, lastAt := l.now, ptr := l.msgs.evSeq }
    if port = 2 then (l.modSess n fun _ => { base with opened := true, cls := 2 }, 0, [BitVec.ofNat 8 n, 0, 0, 0])
    else if cls = 0 then (l.modSess n fun _ => { base with opened := true }, 0, [BitVec.ofNat 8 n, 0, 0, 0])
    else
      let d := l.drawBytes 16
      (d.2.modSess n fun _ => { base with pendg := true, cls := cls, nonce := d.1 }, 0, [BitVec.ofNat 8 n, 0, 0, 0] ++ d.1)

/-- OPEN (R465). -/
def execMsgOpen (h : MsgHdr) (cls : BitVec 2) (s : State) : Host.Outcome State Fault Refusal :=
  .next (s.serve { h := h, mop := 0x01, body := [cls.setWidth 8] } (fun s _ _ => s.live.openCheck (MsgHdr.port_ h) cls.toNat)
    (onLive fun l _ _ => l.openSess (MsgHdr.port_ h) cls.toNat))

/-- A failed AUTH: the session closes; the third on a port within 1 s locks it out (R466). -/
def Live.authFailed (l : Live) (q : CntAttr) (n port : Nat) : Live :=
  let l := (l.closeSess n).countWith 76 1 q
  let f := (l.now :: (l.mport port).fails).filter (fun t => l.now < t + secTicks)
  if 3 ≤ f.length then
    (l.modMport port fun p => { p with fails := [], lockEnd := some (l.now + fld (l.hw 0xD000 0) 23 16 * secTicks) }).raise 0xB006 0xD000 port
  else l.modMport port fun p => { p with fails := f }

/-- The 27 octets that AUTH's HMAC is taken over (R466). -/
def Live.authText (l : Live) (n : Nat) : List Byte :=
  let k := l.sess n
  k.nonce ++ [BitVec.ofNat 8 n, BitVec.ofNat 8 k.cls, BitVec.ofNat 8 k.port] ++ l.uid

/-- AUTH (R466). -/
def Live.authSess (l : Live) (n : Nat) (hmac : List Byte) : Live × Nat × List Byte :=
  let k := l.sess n
  let good : Bool := match l.classKey k.cls with | some key => hmacSha256 key (l.authText n) = hmac | none => false
  if good then (l.modSess n fun k => { k with opened := true, pendg := false, nonce := [], ptr := l.msgs.evSeq }, 0, [])
  else (l.authFailed { cls := some k.cls, req := some k.port, tclass := some 7 } n k.port, 0x02, [])

def execMsgAuth (h : MsgHdr) (hmac : List Byte) (s : State) : Host.Outcome State Fault Refusal :=
  .next (s.serve { h := h, mop := 0x02, body := hmac } noCheck (onLive fun l n _ => l.authSess n hmac))

/-- CLOSE (R468). -/
def execMsgClose (h : MsgHdr) (s : State) : Host.Outcome State Fault Refusal :=
  .next (s.serve { h := h, mop := 0x03 } noCheck (onLive fun l n _ => (l.closeSess n, 0, [])))

/-! ## Permissions (R469, R470) -/

/-- The zone of an object that exists. -/
def Live.zoneHere (l : Live) (oid : Nat) : Option Nat := if l.objHere oid then l.objZone oid else none

/-- Table 14.4 admits a request of a class to an object: `b` is the permission bit of Table 14.5 that an OPERATOR needs, or
for READ the one that a MONITOR needs; `noZone` says what holds for an object with no zone. -/
def Live.zoneAdmits (l : Live) (oid b : Nat) (noZone : Bool) : Bool :=
  match l.zoneHere oid with | some z => l.zoneBit z b | none => noZone

/-! ## READ (R471 to R474) -/

/-- The object is one that the recovery ROM serves (R600). -/
def romObject (oid : Nat) : Bool := oid = 0xE000 || oid = 0xE001 || oid = 0xE010

/-- The generation that a READ takes. -/
def State.readGen (s : State) (body : List Byte) : Live :=
  if oct body 4 / 2 = 1 then (s.pinnedGen (numAt body 5 6)).getD s.newest else s.newest

/-- The shadow's image while its transaction is open. -/
def Live.shadowImage (l : Live) : Option Image := if l.img.txn.st = .opened then some l.img.txn.image.1 else none

/-- An object exists in the shadow (R474, R477). -/
def Live.inShadow (l : Live) (oid : Nat) : Bool :=
  match l.shadowImage with
  | some i => (layOf oid).isSome && (i.hasObj oid || (0x9400 ≤ oid && oid < 0x9600 && oid - 0x9400 < i.routes.length))
  | none => false

/-- Checks 3 to 5 of READ. -/
def State.readCheck (s : State) (body : List Byte) (cls : Nat) : Nat :=
  let l := s.live
  let o := numAt body 0 2
  let g := s.readGen body
  if cls = 0 && ((o / 4096 = 0xC && !bit (l.hw 0xB000 1) 31) || !l.zoneAdmits o 31 true) then 0x02
  else if l.pwr.recovery && !romObject o then 0x04
  else if l.asleep o then 0x09
  else if !(g.objHere o || (oct body 4 % 2 = 1 && l.inShadow o)) || g.objLen o < oct body 2 + oct body 3 then 0x04
  else if !l.domUp (objDom o) then 0x09
  else 0

/-- A word with `SHADOW` = 1: a commit-effect word from the shadow, every other word from the newest generation (R474). -/
def shadowWord (i : Image) (g : Live) (oid w : Nat) : Word := if wordEff oid w = some 0 then i.word oid w else g.objWord oid w

/-- The reply data of READ (R471): `RFLAGS`, the generation, the words. -/
def readData (g : Live) (oid : Nat) (shadow pin : Bool) (ws : List Word) : List Byte :=
  let dis := g.msgs.dis.any (fun p => p.2.obj.toNat = oid)
  BitVec.ofNat 8 (g.msgs.ngaps % 16 * 16 + (if shadow then 8 else 0) + (if pin then 4 else 0) + if dis then 2 else 0) ::
    leBytes g.msgs.gen 6 ++ ws.flatMap (fun w => leBytes w.toNat 4)

/-- READ (R471, R473, R474). -/
def State.read (s : State) (body : List Byte) (n : Nat) : Nat × List Byte :=
  let o := numAt body 0 2
  let ws := (List.range (oct body 3)).map (oct body 2 + ·)
  let t := s.live.img.txn
  if oct body 4 / 2 = 1 && (s.pinnedGen (numAt body 5 6)).isNone then (0x0A, [])
  else if oct body 4 % 2 = 1 then
    if t.st ≠ .opened then (0x06, [])
    else if t.owner ≠ n then (0x07, [])
    else
      let i := t.image.1
      let g := s.newest
      (0, readData g o true false (ws.map (shadowWord i g o)))
  else
    let g := s.readGen body
    (0, readData g o false (oct body 4 / 2 = 1) (ws.map (g.objWord o)))

/-- READ (R471). -/
def execMsgRead (h : MsgHdr) (obj : Half) (first count flags : Byte) (gen : List Byte) (s : State) : Host.Outcome State Fault Refusal :=
  let body := leBytes obj.toNat 2 ++ [first, count, flags] ++ gen
  .next (s.serve { h := h, mop := 0x10, body := body, obj := some obj.toNat, tclass := 0 } (fun s _ c => s.readCheck body c)
    (fun s n _ => (s, some (s.read body n))))

/-! ## WRITE (R472, R477, R486, R502, R509) -/

/-- The value of a word with the fields that a WRITE acts on taken from `v` (R13, R477). -/
def mergeWord (oid w : Nat) (old v : Word) : Word := (old &&& ~~~ writeMask oid w) ||| (v &&& writeMask oid w)

/-- The settings of an initiator port as they stand or wait (R509). -/
def Live.piSetting (l : Live) (oid w : Nat) : Word :=
  match l.ports.waiting.reverse.find? (fun p => p.1 = key oid w) with | some p => p.2 | none => l.hw oid w

/-- The least `TLOW`, `THIGH`, `THD_STA` and `TSU_STA` of a speed (R502). -/
def piMins : Nat → List Nat
  | 0 => [940, 800, 800, 940]
  | 1 => [260, 120, 120, 120]
  | _ => [100, 52, 52, 52]

/-- The timing that words 0 to 3 of an initiator port give is within R502. -/
def piTimingOk (w0 w1 w2 w3 : Word) : Bool :=
  let tlow := fld w1 31 20
  let got := [tlow, fld w1 19 8, fld w2 31 20, fld w2 19 8]
  fld w1 7 0 + fld w3 31 20 ≤ tlow && ((piMins (fld w0 31 30)).zip got).all (fun p => p.1 ≤ p.2)

/-- A WRITE's words to an initiator port leave its timing within R502. -/
def Live.piWriteOk (l : Live) (oid : Nat) (ws : List (Nat × Word)) : Bool :=
  let at_ (w : Nat) : Word := match ws.find? (fun p => p.1 = w) with
    | some p => mergeWord oid w (l.piSetting oid w) p.2
    | none => l.piSetting oid w
  piTimingOk (at_ 0) (at_ 1) (at_ 2) (at_ 3)

/-- A written value lies in the range that its chapter states, of a word with a bond or write effect (R477). -/
def Live.writeOk (l : Live) (oid : Nat) (ws : List (Nat × Word)) : Bool :=
  ws.all (fun p => (outOfRange oid p.1 p.2).isEmpty) &&
    (oid / 4096 ≠ 4 || ws.all (fun p => p.1 ≠ 8 || l.vsetOk (oid % 4096) (fld p.2 31 16))) &&
    ((oid ≠ 0xD102 && oid ≠ 0xD103) || ws.all (fun p => 4 ≤ p.1) || l.piWriteOk oid ws)

/-- A setting of an initiator port takes its value; enabling the port starts bus recovery (R504). -/
def Live.piSet (l : Live) (oid w : Nat) (v : Word) : Live :=
  let rise := w = 0 && bit v 29 && !bit (l.hw oid 0) 29
  let l := l.setHw oid w v
  if rise then l.modPi (oid - 0xD102) fun k => { k with recovering := true, recoverAt := l.now } else l

/-- A word with the effect "on the write" acts (R13, R477, R486, R509, R514, R536, R563). -/
def Live.writeNow (l : Live) (oid w : Nat) (v : Word) : Live :=
  let n := oid % 4096
  if oid = 0x9FFF then (if w = 0 && l.w1cClears oid w 29 v then l.modFc fun f => { f with ovfl := false } else l)
  else if oid / 4096 = 0xC then (if l.w1cClears oid w 31 v then l.setCtr n { l.ctr n with ovf := false } else l)
  else if oid = 0xD001 then (if l.w1cClears oid w 21 v then { l with msgs := { l.msgs with dovfl := false } } else l)
  else if oid = 0xD100 && w = 1 then
    { l with ports := { l.ports with sclto := l.ports.sclto && !l.w1cClears oid w 31 v, sdato := l.ports.sdato && !l.w1cClears oid w 30 v } }
  else if oid = 0xD102 || oid = 0xD103 then
    if w = 4 then l.modPi (oid - 0xD102) fun k => { k with arbl := k.arbl && !l.w1cClears oid w 29 v, pto := k.pto && !l.w1cClears oid w 28 v }
    else
      let x := mergeWord oid w (l.piSetting oid w) v
      if (l.pi (oid - 0xD102)).active.isSome then { l with ports := { l.ports with waiting := l.ports.waiting ++ [(key oid w, x)] } }
      else l.piSet oid w x
  else if oid = 0xB000 && w = 2 then l.setClock v
  else l.setHw oid w (mergeWord oid w (l.hw oid w) v)

/-- Effects of the words that a WRITE names, each once. -/
def writeEffs (oid : Nat) (ws : List (Nat × Word)) : List Nat := (ws.filterMap (fun p => wordEff oid p.1)).dedup

/-- The words of a WRITE's body. -/
def writeWords (body : List Byte) : List (Nat × Word) :=
  (List.range (oct body 3)).map (fun i => (oct body 2 + i, BitVec.ofNat 32 (numAt body (4 + 4 * i) 4)))

/-- A WRITE of exactly word 2 of `0x9FFF` and one of classes 0xD and 0xE need no lease (Table 14.2, R389). -/
def leaseFree (oid first count : Nat) : Bool := oid / 4096 = 0xD || oid / 4096 = 0xE || (oid = 0x9FFF && first = 2 && count = 1)

/-- Checks 3 to 6 of WRITE. -/
def State.writeCheck (s : State) (body : List Byte) (cls : Nat) : Nat :=
  let l := s.live
  let o := numAt body 0 2
  let a := oct body 2
  let c := oct body 3
  let effs := writeEffs o (writeWords body)
  if cls = 1 && ((l.zoneHere o).isNone || effs.any (fun e => !l.zoneAdmits o (if e = 0 then 29 else 30) false)) then 0x02
  else if l.asleep o then 0x09
  else if !(l.objHere o || l.inShadow o) || l.objLen o < a + c then 0x04
  else if !l.domUp (objDom o) then 0x09
  else if leaseFree o a c then 0
  else l.leaseCheck true

/-- The shadow takes the words (R447, R477). -/
def Live.writeShadow (l : Live) (oid : Nat) (ws : List (Nat × Word)) : Live :=
  let i := l.img.txn.image.1
  l.forL ws fun l p =>
    let v := mergeWord oid p.1 (i.word oid p.1) p.2
    if wordEff oid p.1 ≠ some 0 then l
    else l.modTxn fun t =>
      match t.raw with
      | none => { t with shadow := t.shadow.edit (key oid p.1) v, edited := true }
      | some _ => { t with edits := tset t.edits (key oid p.1) v }

/-- The transaction admits a change of the shadow by a session: a status, 0 when it does (R477, R484). -/
def Live.shadowFree (l : Live) (n : Nat) : Nat :=
  match l.img.txn.st with
  | .opened => if l.img.txn.owner = n then 0 else 0x07
  | .committing => 0x01
  | _ => 0x06

/-- WRITE (R477), but for `SAFEXIT`. -/
def Live.writeObj (l : Live) (body : List Byte) (n : Nat) : Live × Nat × List Byte :=
  let o := numAt body 0 2
  let ws := writeWords body
  match writeEffs o ws with
  | [] => if ws.any (fun p => p.2 &&& rsvMask o p.1 ≠ 0) then (l, 0x0C, []) else (l, 0, [])
  | [e] =>
    if ws.any (fun p => p.2 &&& rsvMask o p.1 ≠ 0) then (l, 0x0C, [])
    else if e = 0 then
      let st := l.shadowFree n
      if st ≠ 0 then (l, st, []) else (l.writeShadow o ws, 0, [])
    else if !l.writeOk o ws then (l, 0x0C, [])
    else
      let act := ws.filter (fun p => wordEff o p.1 = some e)
      if e = 1 then (l.forL act fun l p => l.pend o p.1 (p.2 &&& writeMask o p.1), 0, [])
      else (l.forL act fun l p => l.writeNow o p.1 p.2, 0, [])
  | _ => (l, 0x0C, [])

/-- The WRITE sets `SAFEXIT` (R389). -/
def safexitBit (body : List Byte) : Bool :=
  numAt body 0 2 = 0x9FFF && (writeWords body).any (fun p => p.1 = 2 && bit p.2 31)

/-- WRITE (R477, R389): a reset that `SAFEXIT` performs takes the reply with it. -/
def State.write (s : State) (body : List Byte) (n : Nat) : Run :=
  let r := s.live.writeObj body n
  if r.2.1 = 0 && safexitBit body then
    if s.live.safeHeld then (s, some (0x0E, [])) else ({ s with live := r.1.release 2, gens := [] }, none)
  else ({ s with live := r.1 }, some r.2)

def execMsgWrite (h : MsgHdr) (obj : Half) (first : Byte) (words : List Word) (s : State) : Host.Outcome State Fault Refusal :=
  let body := leBytes obj.toNat 2 ++ [first, BitVec.ofNat 8 words.length] ++ words.flatMap (fun w => leBytes w.toNat 4)
  .next (s.serve { h := h, mop := 0x11, body := body, cls := 1, obj := some obj.toNat, tclass := 1 } (fun s _ c => s.writeCheck body c)
    (fun s n _ => s.write body n))

/-! ## Pins (R473) -/

/-- Ticks that a pin holds (R473). -/
def pinTicks : Nat := 10000000

/-- SNAP_PIN (R473). -/
def State.pin (s : State) (n : Nat) : Run :=
  let l := s.live
  let g := l.msgs.gen
  if !l.pinned.contains g && 2 ≤ l.pinned.length then (s, some (0x01, []))
  else
    let keep := if (tfind s.gens g).isSome && l.msgs.published then s.gens else tset s.gens g l
    let l := l.modSess n fun k => { k with pins := (k.pins.filter (fun p => p.1 ≠ g)) ++ [(g, l.now + pinTicks)] }
    ({ s with live := l, gens := keep }, some (0, leBytes g 6))

def execSnapPin (h : MsgHdr) (s : State) : Host.Outcome State Fault Refusal :=
  .next (s.serve { h := h, mop := 0x12 } noCheck (fun s n _ => s.pin n))

/-- SNAP_RELEASE (R473). -/
def State.unpin (s : State) (n g : Nat) : Run :=
  if (s.live.sess n).pins.any (fun p => p.1 = g) then
    (({ s with live := s.live.modSess n fun k => { k with pins := k.pins.filter (fun p => p.1 ≠ g) } } : State).prune, some (0, []))
  else (s, some (0x0A, []))

def execSnapRelease (h : MsgHdr) (gen : BitVec 48) (s : State) : Host.Outcome State Fault Refusal :=
  .next (s.serve { h := h, mop := 0x13, body := leBytes gen.toNat 6 } noCheck (fun s n _ => s.unpin n gen.toNat))

/-- SNAP_PIN_EXPIRY (R473): pins on a generation whose 50 ms have passed. -/
def execSnapPinExpiry (gen : BitVec 48) (s : State) : Host.Outcome State Fault Refusal :=
  let l := s.live.each 16 fun l n => l.modSess n fun k => { k with pins := k.pins.filter (fun p => p.1 ≠ gen.toNat || l.now < p.2) }
  .next ({ s with live := l } : State).prune

/-! ## The transaction (R478 to R481) -/

/-- TXN_BEGIN (Table 14.7). -/
def Live.txnOpen (l : Live) (n : Nat) : Live × Nat × List Byte :=
  let t := l.img.txn
  match t.st with
  | .opened => (l, if t.owner = n then 0x0C else 0x07, [])
  | .idle =>
    let l := l.modTxn fun t =>
      { t with st := .opened, num := t.num + 1, owner := n, shadow := l.img.cur, raw := none, edited := false, edits := [], lastAt := l.now }
    (l, 0, leBytes l.img.txn.num.toNat 2)
  | _ => (l, 0x01, [])

def execTxnBegin (h : MsgHdr) (s : State) : Host.Outcome State Fault Refusal :=
  .next (s.serve { h := h, mop := 0x20, cls := 1, tclass := 2 } (fun s _ _ => s.live.leaseCheck false) (onLive fun l n _ => l.txnOpen n))

/-- Objects that two images give differently. -/
def Image.differs (a b : Image) : List Nat :=
  let ks := (a.given ++ b.given).dedup
  let os := (ks.filter (fun k => a.given.contains k != b.given.contains k || tget 0 a.words k ≠ tget 0 b.words k)).map (· / 256)
  let rs := (List.range (max a.routes.length b.routes.length)).filter (fun n => a.routes[n]? ≠ b.routes[n]?)
  (os ++ rs.map (0x9400 + ·)).dedup

/-- The shadow changes an object that the session may not write (Table 14.4). -/
def Live.shadowDenied (l : Live) (cls : Nat) : Bool :=
  cls = 1 && ((l.img.txn.image.1).differs l.img.cur).any (fun o => !l.zoneAdmits o 29 false)

/-- TXN_COMMIT (Table 14.7, R480): the reply is held. -/
def State.commit (s : State) (q : Req) (n cls : Nat) : Run :=
  let l := s.live
  let t := l.img.txn
  match t.st with
  | .opened =>
    if t.owner ≠ n then (s, some (0x07, []))
    else if l.shadowDenied cls then
      ({ s with live := (l.modTxn fun t => { t with outcome := 6 }).count 121 }, some (0x02, leBytes t.num.toNat 2 ++ [0, 0]))
    else
      ({ s with live := (l.modTxn fun t => { t with held := some (MsgHdr.port_ q.h, MsgHdr.msess q.h) }).commitStart }, none)
  | .committing => (s, some (0x01, []))
  | _ => (s, some (0x06, []))

def execTxnCommit (h : MsgHdr) (s : State) : Host.Outcome State Fault Refusal :=
  let q : Req := { h := h, mop := 0x21, cls := 1, tclass := 2 }
  .next (s.serve q (fun s _ _ => s.live.leaseCheck true) (fun s n c => s.commit q n c))

/-- TXN_ROLLBACK (Table 14.7). -/
def execTxnRollback (h : MsgHdr) (s : State) : Host.Outcome State Fault Refusal :=
  .next (s.serve { h := h, mop := 0x22, cls := 1, tclass := 2 } noCheck (onLive fun l n _ =>
    if l.img.txn.st ≠ .opened then (l, 0x06, [])
    else if l.img.txn.owner ≠ n then (l, 0x07, [])
    else (l.txnRollback 3, 0, [])))

/-- Ticks of inactivity that end an open transaction (R479). -/
def txnTicks : Nat := 2000000000

/-- Table 14.7's states as TXN_STATUS gives them. -/
def TxnSt.code : TxnSt → Nat
  | .idle => 0 | .opened => 1 | .committing => 2 | .pending => 3

/-- The reply data of TXN_STATUS (R481). -/
def Live.txnStatus (l : Live) : List Byte :=
  let t := l.img.txn
  let left := if t.st = .opened then (t.lastAt + txnTicks - l.now) / 20000000 else 0
  [BitVec.ofNat 8 t.st.code, BitVec.ofNat 8 (if t.st = .idle then 0 else t.owner)] ++ leBytes t.num.toNat 2 ++
    [BitVec.ofNat 8 t.outcome, 0] ++ leBytes left 2 ++ leBytes (if t.st = .pending then t.actBond else t.lastAct) 8

def execTxnStatus (h : MsgHdr) (s : State) : Host.Outcome State Fault Refusal :=
  .next (s.serve { h := h, mop := 0x23, tclass := 2 } noCheck (onLive fun l _ _ => (l, 0, l.txnStatus)))

/-- TXN_TIMEOUT (R479): 10 s without a request under the owning session. -/
def execTxnTimeout (s : State) : Host.Outcome State Fault Refusal :=
  s.upd fun l =>
    let t := l.img.txn
    if t.st = .opened && t.lastAt + txnTicks ≤ l.now then (l.raise 0xB007 (0xD010 + t.owner) t.num.toNat).txnRollback 4 else l

/-- IMAGE_WRITE (R478). -/
def Live.imageWrite (l : Live) (n off : Nat) (data : List Byte) : Live × Nat × List Byte :=
  let st := l.shadowFree n
  if 258048 < off + data.length then (l, 0x0C, [])
  else if st ≠ 0 then (l, st, [])
  else
    (l.modTxn fun t =>
      let raw := t.raw.getD []
      { t with raw := some ((numbered off data).foldl (fun r p => tput 0xFF r p.1 p.2) raw),
               edited := if t.raw.isNone then false else t.edited, edits := if t.raw.isNone then [] else t.edits }, 0, [])

def execImageWrite (h : MsgHdr) (offset : Word) (data : List Byte) (s : State) : Host.Outcome State Fault Refusal :=
  .next (s.serve { h := h, mop := 0x60, body := leBytes offset.toNat 4 ++ data, cls := 2, tclass := 6 } (fun s _ _ => s.live.leaseCheck false)
    (onLive fun l n _ => l.imageWrite n offset.toNat data))

/-! ## Events and faults (R482, R385) -/

/-- Table 14.8. -/
def HostEvent.octets (e : HostEvent) : List Byte :=
  leBytes e.seq 4 ++ [BitVec.ofNat 8 e.kind, 0] ++ leBytes e.code.toNat 2 ++ leBytes e.obj.toNat 2 ++ leBytes e.aux.toNat 2 ++ leBytes e.tick 4

/-- EVENT_POLL (R482): the entries after the session's pointer, oldest first. -/
def Live.eventPoll (l : Live) (n most : Nat) : Live × Nat × List Byte :=
  let k := l.sess n
  let after := (l.msgs.events.filter (fun e => k.ptr < e.seq)).reverse
  let lost : Bool := match after.head? with | some e => k.ptr + 1 < e.seq | none => false
  let es := after.take most
  let l' := l.modSess n fun k => { k with ptr := match es.getLast? with | some e => e.seq | none => k.ptr }
  let l' := if lost then l'.countWith 79 1 { cls := some k.cls, req := some k.port, tclass := some 3 } else l'
  (l', 0, [if lost then 1 else 0, BitVec.ofNat 8 es.length, 0, 0] ++ es.flatMap HostEvent.octets)

def execEventPoll (h : MsgHdr) (most : Byte) (s : State) : Host.Outcome State Fault Refusal :=
  .next (s.serve { h := h, mop := 0x30, body := [most], tclass := 3 } noCheck (onLive fun l n _ => l.eventPoll n most.toNat))

/-- A session of a class may clear an occurrence against an object (Table 14.4). -/
def Live.mayClearObj (l : Live) (cls oid : Nat) : Bool := cls ≠ 1 || l.zoneAdmits oid 28 true

/-- FAULT_CLEAR (R385). -/
def execFaultClear (h : MsgHdr) (code obj : Half) (s : State) : Host.Outcome State Fault Refusal :=
  .next (s.serve { h := h, mop := 0x31, body := leBytes code.toNat 2 ++ leBytes obj.toNat 2, cls := 1, obj := some obj.toNat, tclass := 3 }
    (fun s _ c =>
      if code = 0xFFFF then 0
      else if !s.live.mayClearObj c obj.toNat then 0x02
      else if s.live.asleep obj.toNat || !s.live.domUp (objDom obj.toNat) then 0x09 else 0)
    (onLive fun l n c => l.faultClear (fun o => l.mayClearObj c o.d.obj.toNat) code obj n (MsgHdr.port_ h)))

/-! ## Recorder messages (R532 to R535) -/

/-- COUNTER_READ's checks: a MONITOR needs `CPERMIT` and may not clear (R533). -/
def Live.counterCheck (l : Live) (first count flags cls : Nat) : Nat :=
  if cls = 0 && (!bit (l.hw 0xB000 1) 31 || flags = 1) then 0x02
  else if 128 < first + count then 0x04
  else if !l.domUp 6 then 0x09 else 0

/-- COUNTER_READ (R532). -/
def Live.counterRead (l : Live) (first count : Nat) (clear : Bool) : Live × Nat × List Byte :=
  let ns := (List.range count).map (first + ·)
  let out := ns.flatMap (fun n =>
    [BitVec.ofNat 8 n, if (l.ctr n).ovf then 1 else 0] ++ leBytes l.tick 6 ++ leBytes (l.ctr n).val.toNat 4)
  (if clear then l.forL ns fun l n => l.setCtr n {} else l, 0, [BitVec.ofNat 8 count, 0, 0, 0] ++ out)

def execCounterRead (h : MsgHdr) (first count flags : Byte) (s : State) : Host.Outcome State Fault Refusal :=
  .next (s.serve { h := h, mop := 0x40, body := [first, count, flags], obj := some (0xC000 + first.toNat), tclass := 4 }
    (fun s _ c => s.live.counterCheck first.toNat count.toNat flags.toNat c)
    (onLive fun l _ _ => l.counterRead first.toNat count.toNat (flags = 1)))

/-- The instruction sample at a place of the 512-entry buffer (R534). -/
def Recorder.sampleAt (r : Recorder) (i : Nat) : Option Sample :=
  if r.sampled = 0 then none else r.samples[((r.sampled - 1) % 512 + 512 - i) % 512]?

/-- SAMPLE_READ (R535): as many of the entries as have been written. -/
def Live.sampleRead (l : Live) (first count : Nat) : List Byte :=
  let r := l.recd
  let es := (((List.range count).map (fun i => r.sampleAt (first + i))).takeWhile (·.isSome)).filterMap id
  [if r.swrap then 1 else 0, BitVec.ofNat 8 es.length] ++ leBytes (if r.sampled = 0 then 0 else (r.sampled - 1) % 512) 2 ++ es.flatMap Sample.octets

def execSampleRead (h : MsgHdr) (first : Half) (count : Byte) (s : State) : Host.Outcome State Fault Refusal :=
  .next (s.serve { h := h, mop := 0x41, body := leBytes first.toNat 2 ++ [count], cls := 1, tclass := 4 }
    (fun s _ _ => if 512 < first.toNat + count.toNat then 0x04 else if !s.live.domUp 6 then 0x09 else 0)
    (onLive fun l _ _ => (l, 0, l.sampleRead first.toNat count.toNat)))

/-- Blocks of 32 octets, the last one filled with zero. -/
def blocks32 (b : List Byte) (n : Nat) : Nat × List Byte :=
  let k := min n (cdiv b.length 32)
  (k, padTo (32 * k) 0 b)

/-- What a RECORD_READ source holds from a start: the start delivered and the octets from there; none when the source, slot,
channel or page does not exist (R535).  A trace channel's octets count from its last ARM (log entry 49). -/
def Live.recordFrom (l : Live) (source which start : Nat) : Option (Nat × List Byte) :=
  let r := l.recd
  match source with
  | 0 =>
    match r.ring.head?, r.ring.getLast? with
    | some new, some old =>
      let age := (new.seq + 2 ^ 32 - start) % 2 ^ 32
      if age < r.ring.length then some (start, ((r.ring.take (age + 1)).reverse).flatMap EventRec.octets)
      else if age < 2 ^ 31 then some (old.seq, (r.ring.reverse.take 7).flatMap EventRec.octets)
      else some (start, [])
    | _, _ => some (start, [])
  | 1 =>
    if 16 ≤ start && start ≤ 127 then
      some (start, match tfind r.flash start with | some p => p.octets | none => List.replicate 2048 0xFF)
    else if start < 16 then some (start, sliceB (if start < 8 then r.area0 else r.area1).octets (2048 * (start % 8)) 2048)
    else none
  | 2 => if which < 2 && start < 16384 then some (start, ((if which = 0 then r.area0 else r.area1).octets).drop start) else none
  | 3 => if which < 4 then some (start, (capHead which ++ ((l.capSlot which).points.reverse.flatMap halves)).drop start) else none
  | 4 =>
    if which < 8 then
      let t := l.trace which
      let old := 8 * (t.stored - t.ents.length)
      let at_ := max start old
      some (at_, (t.ents.reverse.flatMap TraceEnt.octets).drop (at_ - old))
    else none
  | _ => none

/-- RECORD_READ (R535). -/
def Live.recordRead (l : Live) (source which start blocks : Nat) : Nat × List Byte :=
  match l.recordFrom source which start with
  | some (a, b) =>
    let k := blocks32 b blocks
    (0, [BitVec.ofNat 8 source, BitVec.ofNat 8 k.1] ++ leBytes a 4 ++ k.2)
  | none => (0x04, [])

def execRecordRead (h : MsgHdr) (source which : Byte) (start : Word) (blocks : Byte) (s : State) : Host.Outcome State Fault Refusal :=
  .next (s.serve { h := h, mop := 0x50, body := [source, which] ++ leBytes start.toNat 4 ++ [blocks], cls := 1, tclass := 4 }
    (fun s _ _ => if (s.live.recordFrom source.toNat which.toNat start.toNat).isNone then 0x04 else if !s.live.domUp 6 then 0x09 else 0)
    (onLive fun l _ _ => (l, l.recordRead source.toNat which.toNat start.toNat blocks.toNat)))

/-! ## Update, recovery and OTP messages (Table 18.14 to Table 18.16, R580 to R584, R600) -/

/-- A request of class OWNER about firmware or OTP. -/
def ownerReq (h : MsgHdr) (mop : Nat) (body : List Byte) : Req := { h := h, mop := mop, body := body, cls := 2, tclass := 5 }

def execUpdateBlock (h : MsgHdr) (offset crc : Word) (data : List Byte) (s : State) : Host.Outcome State Fault Refusal :=
  .next (s.serve (ownerReq h 0x70 (leBytes offset.toNat 4 ++ leBytes crc.toNat 4 ++ data)) noCheck
    (onLive fun l n _ => l.updateBlock n offset.toNat crc data))
def execUpdateSeal (h : MsgHdr) (s : State) : Host.Outcome State Fault Refusal :=
  .next (s.serve (ownerReq h 0x71 []) noCheck (onLive fun l n _ => l.updateSeal n))
def execUpdateArm (h : MsgHdr) (restart : Bool) (s : State) : Host.Outcome State Fault Refusal :=
  .next (s.serve (ownerReq h 0x72 [if restart then 1 else 0]) noCheck (onLive fun l n _ => l.updateArm n restart))
def execUpdateConfirm (h : MsgHdr) (env : FuseEnv) (s : State) : Host.Outcome State Fault Refusal :=
  .next (s.serve (ownerReq h 0x73 []) noCheck (onLive fun l _ _ => l.updateConfirm env))
def execUpdateStatus (h : MsgHdr) (s : State) : Host.Outcome State Fault Refusal :=
  .next (s.serve (ownerReq h 0x74 []) noCheck (onLive fun l _ _ => (l, 0, l.updateStatus)))

def execRecoveryEnter (h : MsgHdr) (s : State) : Host.Outcome State Fault Refusal :=
  .next (s.serve (ownerReq h 0x7F [0]) noCheck (onLive fun l _ _ => l.recoveryEnter))
def execRecoveryBlock (h : MsgHdr) (offset crc : Word) (data : List Byte) (s : State) : Host.Outcome State Fault Refusal :=
  .next (s.serve (ownerReq h 0x7F ([1, 0, 0, 0] ++ leBytes offset.toNat 4 ++ leBytes crc.toNat 4 ++ data)) noCheck
    (onLive fun l _ _ => l.recoveryBlock offset.toNat crc data))
def execRecoveryFinish (h : MsgHdr) (s : State) : Host.Outcome State Fault Refusal :=
  .next (s.serve (ownerReq h 0x7F [2]) noCheck (onLive fun l _ _ => l.recoveryFinish))
def execRecoveryAbort (h : MsgHdr) (s : State) : Host.Outcome State Fault Refusal :=
  .next (s.serve (ownerReq h 0x7F [3]) noCheck (onLive fun l _ _ => l.recoveryAbort))

/-- The body of FUSE_CMD (Table 18.8). -/
def fuseBody (op a : Nat) (val : Word) : List Byte := [BitVec.ofNat 8 op, 0] ++ leBytes a 2 ++ leBytes val.toNat 4

/-- What a FUSE_CMD message answers: OK, with the result in the data (R580). -/
def fuseAnswer (r : Live × FuseOut) : Live × Nat × List Byte := (r.1, 0, r.2.octets)

def execFuseProgram (h : MsgHdr) (addr : Fin 512) (val : Word) (env : FuseEnv) (s : State) : Host.Outcome State Fault Refusal :=
  .next (s.serve (ownerReq h 0x80 (fuseBody 1 addr val)) noCheck (onLive fun l _ c => fuseAnswer (l.fuseProgram c addr val env)))
def execFuseReburn (h : MsgHdr) (addr : Fin 512) (val : Word) (env : FuseEnv) (s : State) : Host.Outcome State Fault Refusal :=
  .next (s.serve (ownerReq h 0x80 (fuseBody 2 addr val)) noCheck (onLive fun l _ c => fuseAnswer (l.fuseReburn c addr val env)))
def execFuseReadNormal (h : MsgHdr) (addr : Fin 512) (s : State) : Host.Outcome State Fault Refusal :=
  .next (s.serve (ownerReq h 0x80 (fuseBody 3 addr 0)) noCheck (onLive fun l _ _ => (l, 0, (l.fuseRead addr 0).octets)))
def execFuseReadMarginLo (h : MsgHdr) (addr : Fin 512) (s : State) : Host.Outcome State Fault Refusal :=
  .next (s.serve (ownerReq h 0x80 (fuseBody 4 addr 0)) noCheck (onLive fun l _ _ => (l, 0, (l.fuseRead addr 1).octets)))
def execFuseReadMarginHi (h : MsgHdr) (addr : Fin 512) (s : State) : Host.Outcome State Fault Refusal :=
  .next (s.serve (ownerReq h 0x80 (fuseBody 5 addr 0)) noCheck (onLive fun l _ _ => (l, 0, (l.fuseRead addr 2).octets)))
def execFuseLock (h : MsgHdr) (region : Fin 8) (env : FuseEnv) (s : State) : Host.Outcome State Fault Refusal :=
  .next (s.serve (ownerReq h 0x80 (fuseBody 6 region 0)) noCheck (onLive fun l _ c => fuseAnswer (l.fuseLock c region env)))

/-! ## Requests that are answered BAD_CRC or REFUSED (R461, R462) -/

/-- The frame's `SOF` and `MLEN` are sound, and its length is the one `MLEN` gives. -/
def frameLenOk (f : List Byte) : Bool := f.getD 0 0 = 0x5A && oct f 1 ≤ 240 && f.length = oct f 1 + 6
/-- Its `MCRC` passes. -/
def frameCrcOk (f : List Byte) : Bool := crc16Bytes ((f.drop 1).take (f.length - 3)) = leNat (f.drop (f.length - 2))

/-- MSG_BAD_REQUEST (R461, R462): BAD_CRC, or REFUSED for a reserved opcode or a body that it does not allow; a sound request
is another row's. -/
def execMsgBadRequest (port : Fin 3) (frame : List Byte) (s : State) : Host.Outcome State Fault Refusal :=
  s.upd fun l =>
    let p := port.val
    let m := frame.getD 2 0
    let q : Req := { h := { port := port, sess := BitVec.ofNat 4 (m.toNat / 16), seq := BitVec.ofNat 4 m.toNat }, mop := oct frame 3 }
    let v := l.serving p
    let crcBad := !frameLenOk frame || !frameCrcOk frame
    let bodyBad := !bodyOk q.mop (sliceB frame 4 (frame.length - 6))
    if !l.portTakes p frame || v = .nobody || !(crcBad || bodyBad) then l
    else
      let b := l.batch p
      let l := l.arrive q frame
      if v ≠ .responder && b.head? ≠ some p then l.setBatch b
      else
      let l := (if v = .responder then l else l.setBatch b.tail).countWith 72 1 (l.reqAttr q)
      if crcBad then l.answer q 0x03 [] else l.answer q (if v = .responder then 0x09 else 0x0C) []

/-! ## Time-outs (R465, R466, R468) -/

/-- SESSION_AUTH_TIMEOUT (R465): 10 s without AUTH. -/
def execSessionAuthTimeout (sess : Fin 16) (s : State) : Host.Outcome State Fault Refusal :=
  s.upd fun l => if (l.sess sess).pendg && (l.sess sess).openAt + 2000000000 ≤ l.now then l.closeSess sess else l

/-- SESSION_IDLE_TIMEOUT (R468): `SIDLE` seconds without a request. -/
def execSessionIdleTimeout (sess : Fin 16) (s : State) : Host.Outcome State Fault Refusal :=
  s.upd fun l => if (l.sess sess).opened && (l.sess sess).lastAt + l.sidle ≤ l.now then l.closeSess sess else l

/-- AUTH_LOCK_END (R466). -/
def execAuthLockEnd (port : Fin 3) (s : State) : Host.Outcome State Fault Refusal :=
  s.upd fun l =>
    match (l.mport port).lockEnd with
    | some t => if t ≤ l.now then l.modMport port fun p => { p with lockEnd := none } else l
    | none => l

/-! ## Disagreements (R475, R476, Table 14.6) -/

/-- MOORED members of a tile. -/
def Live.mooredOf (l : Live) (t : Nat) : Nat := ((l.members t).filter (fun p => p.2.st = .moored)).length

/-- A case of Table 14.6 that stands: the word of the intended field, the intended value and the observed value. -/
def Live.disCase (l : Live) (row obj : Nat) : Option (Nat × Nat × Nat) :=
  let n := obj % 4096
  match row with
  | 1 =>
    let want := (l.tileRules n).length
    if obj / 4096 = 3 && n < 160 && l.hasTile n && l.mooredOf n < want then some (0, want, l.mooredOf n) else none
  | 2 => if obj / 4096 = 1 && n < 8 && l.rate n ≠ 0xF && (l.ring n).st ≠ .running then some (1, l.rate n, (l.ring n).st.code) else none
  | 3 =>
    let r := l.rail n
    let off : Bool := match r.st with | .idle => true | .off => true | .hiccup => true | .latched => true | _ => false
    if obj / 4096 = 4 && n < 48 && r.live && r.intent && !r.shedOrd && off then some (7, 1, r.st.code) else none
  | 4 =>
    let i := l.inp n
    if obj / 4096 = 6 && n < 64 && i.live && fld (l.hw obj 2) 31 30 = 2 && (i.st = .absent || i.st = .dark) then some (2, 2, i.st.code) else none
  | 5 =>
    if obj / 4096 = 7 && n < 16 && (l.str n).live && l.mooredOf (l.strTile n) = 0 then some (0, 1, 0) else none
  | 6 => if obj = 0xA000 && l.mateen && !l.mateUp then some (0, 1, 0) else none
  | _ => none

/-- Every object that a row of Table 14.6 is about. -/
def disObjects : List (Nat × Nat) :=
  (List.range 160).map (fun n => (1, 0x3000 + n)) ++ (List.range 8).map (fun n => (2, 0x1000 + n)) ++ (List.range 48).map (fun n => (3, 0x4000 + n)) ++
    (List.range 64).map (fun n => (4, 0x6000 + n)) ++ (List.range 16).map (fun n => (5, 0x7000 + n)) ++ [(6, 0xA000)]

def Live.graceBonds (l : Live) : Nat := fld (l.hw 0xD000 0) 15 0

/-- A case is in the list already. -/
def Live.disListed (l : Live) (row obj : Nat) : Bool := l.msgs.dis.any (fun p => p.2.kind = row && p.2.obj.toNat = obj)

/-- The bonds for which each case has stood (R475). -/
def Live.disCount (l : Live) : Live :=
  let run := disObjects.foldl (fun (t : Tbl Nat) p =>
    let k := 65536 * p.1 + p.2
    if (l.disCase p.1 p.2).isSome then tput 0 t k (tget 0 l.msgs.disRun k + 1) else t) []
  { l with msgs := { l.msgs with disRun := run } }

/-- Entries whose observation agrees with their intent leave the list (R476). -/
def Live.disReconcile (l : Live) : Live :=
  l.forL l.msgs.dis fun l p =>
    if (l.disCase p.2.kind p.2.obj.toNat).isSome then l
    else ({ l with msgs := { l.msgs with dis := tdrop l.msgs.dis p.1 } } : Live).hostEvent 8 0 p.2.obj.toNat p.1

/-- DISAGREEMENT_LISTED (R475): the present bond is at least the `DGRACE`-th in a row for which the case stands. -/
def execDisagreementListed (row : Fin 32) (obj : Half) (s : State) : Host.Outcome State Fault Refusal :=
  s.upd fun l =>
    let o := obj.toNat
    match l.disCase row o with
    | none => l
    | some (w, want, got) =>
      if !l.fwUp || tget 0 l.msgs.disRun (65536 * row.val + o) + 1 < l.graceBonds || l.disListed row o then l
      else match (List.range 32).find? (fun e => (tfind l.msgs.dis e).isNone) with
        | none => ({ l with msgs := { l.msgs with dovfl := true } } : Live).w1cSet 0xD001 1 21
        | some e =>
          let d : Disagree := { obj := obj, word := BitVec.ofNat 8 w, kind := row, intent := BitVec.ofNat 32 want, obs := BitVec.ofNat 32 got,
                                since := BitVec.ofNat 32 (l.msgs.gen + 1) }
          ({ l with msgs := { l.msgs with dis := tset l.msgs.dis e d } } : Live).hostEvent 7 0 o e

end Sys2Proof.Machine
end

