-- ==== Sys2Proof/Machine/Ports.lean ====
section
/-! DEFINITION. The two-wire target, the host serial port, the initiator ports and the local sense front end (chapter
"Two-wire and host ports", R615). -/
namespace Sys2Proof.Machine

/-! ## The status byte and the alert line (Table 15.1, R508) -/

/-- `HALERT_N` is low. -/
def Live.halertLow (l : Live) : Bool :=
  l.pwr.st = .held || (bit (l.hw 0xD101 0) 31 && l.pstat 0 = 1) ||
    (List.range 16).any (fun n => (l.sess n).opened && (l.sess n).port ≠ 2 && (l.sess n).ptr < l.msgs.evSeq)

/-- The status byte of a port. -/
def Live.statusByte (l : Live) (port : Nat) : Byte :=
  BitVec.ofNat 8 ((if l.halertLow then 128 else 0) + (if l.faultLow then 64 else 0) + l.pstat port)

/-! ## Request octets that a port takes (R494, R506) -/

/-- The traffic class of an opcode (Table 16.9). -/
def mopClass (mop : Nat) : Nat :=
  if mop = 0x10 then 0 else if mop = 0x11 then 1 else if 0x20 ≤ mop && mop ≤ 0x23 then 2 else if mop = 0x30 || mop = 0x31 then 3
  else if mop = 0x40 || mop = 0x41 || mop = 0x50 then 4 else if (0x70 ≤ mop && mop ≤ 0x7F) || mop = 0x80 then 5
  else if mop = 0x60 then 6 else 7

/-- The object that a body names. -/
def mopObject (mop : Nat) (b : List Byte) : Option Nat :=
  if mop = 0x10 || mop = 0x11 then some (numAt b 0 2) else if mop = 0x31 then some (numAt b 2 2)
  else if mop = 0x40 then some (0xC000 + oct b 0) else none

/-- The request that a frame carries, for the counters' filters. -/
def frameReq (port : Fin 3) (f : List Byte) : Req :=
  let m := oct f 2
  let body := sliceB f 4 (f.length - 6)
  { h := { port := port, sess := BitVec.ofNat 4 (m / 16), seq := BitVec.ofNat 4 m }, mop := oct f 3, body := body,
    obj := mopObject (oct f 3) body, tclass := mopClass (oct f 3) }

/-- What comes of the octets of one write: how many the port takes, and the frame when it is whole.  A frame that is none
is answered BAD_CRC, one that is not whole TORN. -/
inductive Taken where
  | nothing | bad (taken : Nat) | part | whole (frame : List Byte)
  deriving DecidableEq, Repr

def takeOctets (b : List Byte) : Taken :=
  if b.isEmpty then .nothing
  else if b.getD 0 0 ≠ 0x5A then .bad 0
  else if 240 < oct b 1 then .bad 1
  else if b.length < 2 || b.length < oct b 1 + 6 then .part
  else .whole (b.take (oct b 1 + 6))

/-- A write of `b` to port 0 or 1, which serves: the state, and how many octets it took.  Counter 81 or 85 counts those that
it did not take, counter 80 or 84 a request that is whole. -/
def Live.portWrite (l : Live) (port : Fin 3) (b : List Byte) : Live × Nat :=
  let p := port.val
  let drop (l : Live) (n : Nat) : Live := l.countWith (if p = 1 then 81 else 85) n {}
  if (l.mport p).inbox.isSome || l.pstat p = 1 || l.pstat p = 2 then (drop l b.length, 0)
  else match takeOctets b with
    | .nothing => (l, 0)
    | .bad n => (((drop l (b.length - n)).countStatus { req := some p } 0x03).reply p 0 0 0x03 [], n)
    | .part => (l.torn p b, b.length)
    | .whole f =>
      let l := l.countWith (if p = 1 then 80 else 84) 1 (l.reqAttr (frameReq port f))
      let l := l.modMport p fun m => { m with inbox := some f }
      (if f.length < b.length then drop l (b.length - f.length) else l, f.length)

/-- The octets of a read behind the status byte: the count, the reply and 0xFF past its end when READY, else the status byte
again (R492). -/
def Live.readOctets (l : Live) (port n : Nat) : List Byte :=
  match (l.mport port).reply with
  | some f => padTo n 0xFF (BitVec.ofNat 8 f.length :: f)
  | none => List.replicate n (l.statusByte port)

/-- The reply is consumed; a restart that waits for it follows (R493, R596, R600). -/
def State.consume (s : State) (port : Nat) : State :=
  let l := s.live.modMport port fun p => { p with reply := none }
  match l.pwr.restart with
  | some c => { s with live := l.release c, gens := [] }
  | none => { s with live := l }

/-- `n` octets behind the status byte have been clocked out of a port: the reply is consumed when all its octets have. -/
def State.readDone (s : State) (port n : Nat) : State :=
  match (s.live.mport port).reply with
  | some f => if f.length < n then s.consume port else s
  | none => s

def Live.portOut (l : Live) (port : Nat) (out : List Byte) (acks : List Bool) : Live :=
  l.modMport port fun p => { p with out := out, acks := acks }

/-! ## The two-wire target (R491 to R500) -/

/-- The target's own address of a strapping (R491). -/
def Live.twAddress (l : Live) : Nat := 0x38 + l.ports.addr.toNat

/-- The target acknowledges the address: its own, while D1 or the responder serves, or the keeper alias (R432, R497). -/
def Live.twAcks (l : Live) (alias_ : Bool) : Bool :=
  l.pwr.st ≠ .off && !l.pwr.resetLow &&
    (if l.dom 1 then !alias_ || (l.keeper.live && (!l.keeper.roleB || l.keeper.silence)) else !alias_ && l.ports.respReady)

/-- TW_WRITE_TRANSFER (R494, R495).  An address that is not acknowledged has no effect. -/
def execTwWriteTransfer (keeperAddr : Bool) (octets : List Byte) (s : State) : Host.Outcome State Fault Refusal :=
  s.upd fun l =>
    if !l.twAcks keeperAddr then l
    else
      let r := l.portWrite 1 octets
      r.1.portOut 1 [] ((List.range octets.length).map (· < r.2))

/-- TW_READ_TRANSFER (R492, R493): `count` octets are delivered, whether the last is acknowledged or not. -/
def execTwReadTransfer (keeperAddr : Bool) (count : Nat) (_lastAcked : Bool) (s : State) : Host.Outcome State Fault Refusal :=
  let l := s.live
  if !l.twAcks keeperAddr then s.same
  else
    let out := (l.statusByte 1 :: l.readOctets 1 (count - 1)).take count
    .next (({ s with live := l.portOut 1 out [] } : State).readDone 1 (count - 1))

/-- TW_ADDRESS_MATCH (R497): the matcher holds SCL until the responder is ready. -/
def execTwAddressMatch (s : State) : Host.Outcome State Fault Refusal :=
  s.upd fun l =>
    if l.dom 1 || l.pwr.st = .off || l.pwr.resetLow || l.ports.matchAt.isSome then l
    else
      let l := l.countAlt 83 1 false
      if l.ports.respReady then l else { l with ports := { l.ports with matchAt := some l.now } }

/-- Ticks for which the matcher holds SCL (R497). -/
def matchTicks : Nat := 12000

/-- RESPONDER_READY (R497). -/
def execResponderReady (s : State) : Host.Outcome State Fault Refusal :=
  s.upd fun l =>
    match l.ports.matchAt with
    | some t => if l.now < t + matchTicks then { l with ports := { l.ports with matchAt := none, respReady := true } } else l
    | none => l

/-- TW_WAKE_FAIL (R497): the matcher releases SCL and does not acknowledge. -/
def execTwWakeFail (s : State) : Host.Outcome State Fault Refusal :=
  s.upd fun l =>
    match l.ports.matchAt with
    | some t => if t + matchTicks ≤ l.now then ({ l with ports := { l.ports with matchAt := none } } : Live).countAlt 83 1 true else l
    | none => l

/-- A low-time timeout of the target (R499, R500), while `TOMODE` selects a period. -/
def Live.twTimeout (l : Live) (sda : Bool) : Live :=
  if !l.dom 1 || fld (l.hw 0xD100 0) 31 30 = 0 then l
  else if sda then (({ l with ports := { l.ports with sdato := true } } : Live).w1cSet 0xD100 1 30).raise 0xD011 0xD100 1
  else (({ l with ports := { l.ports with sclto := true } } : Live).w1cSet 0xD100 1 31).raise 0xD010 0xD100 1

/-- TW_SCL_TIMEOUT and TW_SDA_TIMEOUT (R500).  A transfer that a timeout cut short arrives as a TW_WRITE_TRANSFER of the
octets it had. -/
def execTwSclTimeout (s : State) : Host.Outcome State Fault Refusal := s.upd fun l => l.twTimeout false
def execTwSdaTimeout (s : State) : Host.Outcome State Fault Refusal := s.upd fun l => l.twTimeout true

/-! ## The host serial port (R505, R506) -/

/-- The host serial port lies in D1; with D1 off it drives nothing and takes nothing. -/
def Live.hspUp (l : Live) : Bool := l.dom 1 && !l.pwr.resetLow

/-- HSP_WRITE_MESSAGE (command 0x01). -/
def execHspWriteMessage (octets : List Byte) (s : State) : Host.Outcome State Fault Refusal :=
  s.upd fun l =>
    if !l.hspUp then l
    else
      let st := l.statusByte 0
      (l.portWrite 0 octets).1.portOut 0 (List.replicate (octets.length + 1) st) []

/-- HSP_READ_MESSAGE (command 0x02): `count` octets follow the status byte. -/
def execHspReadMessage (count : Nat) (s : State) : Host.Outcome State Fault Refusal :=
  let l := s.live
  if !l.hspUp then s.same
  else .next (({ s with live := l.portOut 0 (l.statusByte 0 :: l.readOctets 0 count) [] } : State).readDone 0 count)

/-- HSP_STATUS (command 0x03). -/
def execHspStatus (count : Nat) (s : State) : Host.Outcome State Fault Refusal :=
  s.upd fun l => if l.hspUp then l.portOut 0 (List.replicate (count + 1) (l.statusByte 0)) [] else l

/-- HSP_RESERVED_CMD (Table 15.3). -/
def execHspReservedCmd (cmd : Byte) (count : Nat) (s : State) : Host.Outcome State Fault Refusal :=
  s.upd fun l =>
    if !l.hspUp || (1 ≤ cmd.toNat && cmd.toNat ≤ 3) then l
    else (l.count 85).portOut 0 (l.statusByte 0 :: List.replicate count 0xFF) []

/-! ## Initiator ports (R499 to R504) -/

/-- The object of an initiator port, and what `FAUX` names it by. -/
def oPi (p : Nat) : Nat := 0xD102 + p

/-- Due transfers in the order of R501: gauge reads by string, air sensors, then firmware as it asked. -/
def Asker.rank : Asker → Nat
  | .gauge k => k
  | .air i => 1000 + i
  | .firmware _ => 2000
def nextAsker (due : List Asker) : Option Asker :=
  due.foldl (fun b a => match b with | none => some a | some x => if a.rank < x.rank then some a else some x) none

/-- The port is enabled, and recovery has not disabled it. -/
def Live.piOn (l : Live) (p : Nat) : Bool := bit (l.hw (oPi p) 0) 29 && !(l.pi p).dis

/-- The port works: D1 is on, and HOLDUP does not hold its transfers (R556). -/
def Live.piRuns (l : Live) (p : Nat) : Bool := l.dom 1 && l.pwr.st ≠ .holdup && p < 2

/-- Settings that waited for the port's idle act (R509). -/
def Live.piIdle (l : Live) (p : Nat) : Live :=
  let mine := l.ports.waiting.filter (fun x => x.1 / 256 = oPi p)
  let l := { l with ports := { l.ports with waiting := l.ports.waiting.filter (fun x => x.1 / 256 ≠ oPi p) } }
  l.forL mine fun l x => l.piSet (oPi p) (x.1 % 256) x.2

/-- What a transfer puts on the bus: the register of a pack monitor or an air sensor is written to its address, and 2 octets are
read after a repeated START (R318, R355). -/
def Live.askerXfer (l : Live) : Asker → Option PiXfer
  | .gauge k => some { addr := BitVec.ofNat 7 (l.cf (oStr k) 9 16 10), wr := leBytes (l.cf (oStr k) 9 9 2) 1, rd := 2 }
  | .air i => some { addr := BitVec.ofNat 7 (if i % 2 = 0 then l.cf 0x8FFF (i / 2) 27 21 else l.cf 0x8FFF (i / 2) 20 14),
                     wr := leBytes (l.cf 0x8FFF 0 13 6) 1, rd := 2 }
  | .firmware _ => none

/-- A transfer fails: it is counted, and its asker is told. -/
def Live.piFail (l : Live) (p : Nat) (a : Asker) : Live :=
  ((l.modPi p fun k => { k with active := none, xfer := none }).count 87).askerFail a |>.piIdle p

/-- Arbitration is lost (R503). -/
def Live.piArb (l : Live) (p : Nat) (a : Asker) : Live :=
  (((l.modPi p fun k => { k with arbl := true }).w1cSet (oPi p) 4 29).raise 0xD013 (oPi p) (2 + p)).piFail p a

/-- PI2C_TRANSFER_START (R501): the next due transfer starts; on a disabled port it fails at once (R504). -/
def execPi2cTransferStart (port : Fin 2) (arbLost : Bool) (s : State) : Host.Outcome State Fault Refusal :=
  s.upd fun l =>
    let k := l.pi port
    match nextAsker k.due with
    | none => l
    | some a =>
      if !l.piRuns port || k.active.isSome then l
      else if !l.piOn port then (l.modPi port fun k => { k with due := k.due.erase a }).piFail port a
      else if k.recovering then l
      else
        let l := l.modPi port fun k => { k with due := k.due.erase a, active := some a, xfer := l.askerXfer a }
        if arbLost then l.piArb port a else l

/-- The octets that a transfer read go to its asker (R318, R355). -/
def Live.askerDone (l : Live) (a : Asker) (data : List Byte) : Live :=
  match a with
  | .gauge k => l.packDone k (some data)
  | .air i => l.airDone i (some data)
  | .firmware _ => l

/-- PI2C_TRANSFER_DONE (R501, R503). -/
def execPi2cTransferDone (port : Fin 2) (result : PiEnd) (s : State) : Host.Outcome State Fault Refusal :=
  s.upd fun l =>
    match (l.pi port).active with
    | none => l
    | some a =>
      if !l.piRuns port then l
      else match result with
        | .done data => (((l.modPi port fun k => { k with active := none, xfer := none }).count 86).askerDone a data).piIdle port
        | .nack => l.piFail port a
        | .arbLost => l.piArb port a

/-- PI2C_TIMEOUT (R500): the transfer is abandoned. -/
def execPi2cTimeout (port : Fin 2) (s : State) : Host.Outcome State Fault Refusal :=
  s.upd fun l =>
    if !l.piRuns port || fld (l.hw (oPi port) 0) 27 26 = 0 then l
    else
      let l := ((l.modPi port fun k => { k with pto := true }).w1cSet (oPi port) 4 28).raise 0xD014 (oPi port) (2 + port.val)
      match (l.pi port).active with | some a => l.piFail port a | none => l

/-- BUS_RECOVERY (R504): `freed` is whether SDA reads high after the pulses and the STOP.  A disabled port tries again only
while `ARCV` = 1, every second. -/
def execBusRecovery (port : Fin 2) (freed : Bool) (s : State) : Host.Outcome State Fault Refusal :=
  s.upd fun l =>
    let k := l.pi port
    if !l.dom 1 || !bit (l.hw (oPi port) 0) 29 || k.active.isSome then l
    else if k.dis && !k.recovering && !(bit (l.hw (oPi port) 0) 28 && k.recoverAt + secTicks ≤ l.now) then l
    else if freed then l.modPi port fun k => { k with recovering := false, stuck := false, dis := false }
    else
      let l := l.modPi port fun k => { k with recovering := false, stuck := true, dis := true, recoverAt := l.now, due := [] }
      let l := l.raise 0xD012 (oPi port) (2 + port.val)
      l.forL k.due fun l a => (l.count 87).askerFail a

/-! ## The local sense front end (R615, Table 11.3) -/

/-- The channel that the round-robin converts next. -/
def Live.adcNext (l : Live) : Option Nat :=
  match l.adcBound.find? (fun c => l.adc.next ≤ c) with | some c => some c | none => l.adcBound.head?

/-- The reference conversion is within ±1 % of its expected code. -/
def refGood (code : Half) : Bool :=
  100 * code.toNat ≤ 101 * Config.refCode && 99 * Config.refCode ≤ 100 * code.toNat

/-- The reference conversion (R615). -/
def Live.adcRef (l : Live) (code : Half) : Live :=
  let ok := refGood code
  let l := { l with adc := { l.adc with refDue := false, refOk := ok, lastAt := l.now } }
  if ok then l else l.raise 0xF001 0

/-- A channel's conversion is stored, with its run at code 0 or 0xFFFF. -/
def Live.adcStore (l : Live) (c : Nat) (code : Half) : Live :=
  let edge := code = 0 || code = 0xFFFF
  let a := l.adc
  { l with adc := { a with
      codes := tput 0 a.codes c code, done := if a.done.contains c then a.done else a.done ++ [c],
      runs := tput 0 a.runs c (if edge then tget 0 a.runs c + 1 else 0), raised := if edge then a.raised else a.raised.filter (· ≠ c),
      lastAt := l.now, next := c + 1 } }

/-- ADC_CONVERSION (R615): `channel` none is the reference conversion. -/
def execAdcConversion (channel : Option (Fin 16)) (code : Half) (s : State) : Host.Outcome State Fault Refusal :=
  s.upd fun l =>
    if !l.dom 4 || l.now < l.adc.lastAt + 200 then l
    else match channel with
      | none => if l.adc.refDue then l.adcRef code else l
      | some c =>
        if l.adc.refDue || l.adcNext ≠ some c.val then l
        else ((l.adcStore c code).auxPointReading c code).ppConversion c code

/-- ADC_RANGE (Table 11.3): once per run. -/
def execAdcRange (channel : Fin 16) (s : State) : Host.Outcome State Fault Refusal :=
  s.upd fun l =>
    if 16 ≤ tget 0 l.adc.runs channel && !l.adc.raised.contains channel.val && l.adcBound.contains channel.val then
      ({ l with adc := { l.adc with raised := l.adc.raised ++ [channel.val] } } : Live).raise 0xF002 0 channel
    else l

end Sys2Proof.Machine
end

