-- ==== Sys2Proof/Machine/Pins.lean ====
section
/-! DEFINITION. The balls: their places, types and states (chapter "Pins, package and electrical characteristics", R605,
R606). -/
namespace Sys2Proof.Machine

/-- The balls of Table 19.1; `ringTx n pos` is `WTXPn` or `WTXNn`, and so on. -/
inductive Ball where
  | ringTx (n : Nat) (pos : Bool) | ringRx (n : Nat) (pos : Bool) | mateTx (pos : Bool) | mateRx (pos : Bool)
  | vclk (p : Nat) | vdio (p : Nat) | valertN (p : Nat)
  | hbout | hbin | role | addr (k : Nat) | pfailN | wake | testEn | mscl | msda | pscl (p : Nat) | psda (p : Nat)
  | hsck | hsdi | hssN | hsdo | halertN | faultN | resetN | rstoutN | gpio (n : Nat) | tck | trstN | tms | tdi | tdo
  | ain (n : Nat) | aref | xin | xout
  | gnd | pgnd | vin | vcore | vcoreSw | vcoreFb | vdda | vddioM | vddioVc (k : Nat)
  deriving DecidableEq, Repr

/-! ## The ball map (Table 19.1) -/

/-- Balls of column 17 and of column 18, rows E to P. -/
def column17 : List Ball := [.mscl, .msda, .addr 0, .addr 1, .addr 2, .pscl 0, .psda 0, .pscl 1, .psda 1, .testEn]
def column18 : List Ball := [.hsck, .hssN, .hsdi, .hsdo, .halertN, .resetN, .rstoutN, .faultN, .pfailN, .wake]

/-- Rows A to D. -/
def topBall (row c : Nat) : Ball :=
  match row with
  | 0 => if c ≤ 16 then .ringTx ((c - 1) / 2) (c % 2 = 1) else .mateTx (c = 17)
  | 1 => if c ≤ 16 then .ringRx ((c - 1) / 2) (c % 2 = 1) else .mateRx (c = 17)
  | 2 => .gnd
  | _ => if c ≤ 8 then .vdda else if c = 11 then .xin else if c = 12 then .xout else .gnd

/-- Columns 3 to 13, rows E to P. -/
def coreBall (row c : Nat) : Ball :=
  if row = 12 then (if c ≤ 10 then .vin else .gnd)
  else if row = 13 then (if c ≤ 6 then .vcoreSw else if c ≤ 12 then .pgnd else .vcoreFb)
  else if [5, 7, 9, 11].contains row && [4, 6, 7, 8, 10, 12].contains c then .vcore else .gnd

/-- Rows E to P. -/
def midBall (row c : Nat) : Ball :=
  let i := row - 4
  match c with
  | 1 => .ain i
  | 2 => if i < 6 then .ain (10 + i) else if i = 6 then .aref else .gnd
  | 14 => if i = 0 then .hbout else if i = 1 then .hbin else if i = 2 then .role else if i < 9 then .vddioM else .trstN
  | 15 => if i < 6 then .gpio (10 + i) else [Ball.tck, .tms, .tdi, .tdo].getD (i - 6) .gnd
  | 16 => .gpio i
  | 17 => column17.getD i .gnd
  | 18 => column18.getD i .gnd
  | _ => coreBall row c

/-- Rows T to W: VC bank k in the rows W, V, U and T. -/
def bankBall (row c : Nat) : Ball :=
  let k := 17 - row
  if c ≤ 12 then
    let p := 4 * k + (c - 1) / 3
    (match (c - 1) % 3 with | 0 => .vclk p | 1 => .vdio p | _ => .valertN p)
  else if c ≤ 15 then .vddioVc k else .gnd

/-- The ball at a row, 0 for A to 17 for W, and a column, 1 to 18. -/
def ballAt (row c : Nat) : Ball := if row < 4 then topBall row c else if row < 14 then midBall row c else bankBall row c

/-! ## Types and domains (Table 19.2) -/

inductive BallType where
  | input | output | both | openDrain | analogue | supply
  deriving DecidableEq, Repr

inductive Pull where
  | none | up | down
  deriving DecidableEq, Repr

def Ball.type : Ball → BallType
  | .ringTx .. | .mateTx _ | .hbout | .hsdo | .rstoutN | .tdo => .output
  | .ringRx .. | .mateRx _ | .vclk _ | .hbin | .role | .addr _ | .pfailN | .wake | .testEn | .hsck | .hsdi | .hssN | .resetN | .tck | .trstN
  | .tms | .tdi => .input
  | .vdio _ | .gpio _ => .both
  | .valertN _ | .mscl | .msda | .pscl _ | .psda _ | .halertN | .faultN => .openDrain
  | .ain _ | .aref | .xin | .xout => .analogue
  | .gnd | .pgnd | .vin | .vcore | .vcoreSw | .vcoreFb | .vdda | .vddioM | .vddioVc _ => .supply

def Ball.pull : Ball → Pull
  | .vdio _ | .hssN | .resetN | .tms | .tdi => .up
  | .wake | .testEn | .gpio _ | .tck | .trstN => .down
  | _ => .none

/-- The domain that a signal ball belongs to. -/
def Ball.domain : Ball → Nat
  | .ringTx .. | .ringRx .. => 3
  | .vclk _ | .vdio _ | .valertN _ => 2
  | .pscl _ | .psda _ | .hsck | .hsdi | .hssN | .hsdo | .gpio _ => 1
  | .ain _ | .aref => 4
  | _ => 0

/-- The boundary-scan register holds every signal ball but the CML and analogue ones (R620). -/
def Ball.scanned : Ball → Bool
  | .ringTx .. | .ringRx .. | .mateTx _ | .mateRx _ => false
  | b => b.type ≠ .analogue && b.type ≠ .supply

/-! ## States (Table 19.2, R542, R544, R555) -/

/-- What a ball does: `active` is its work in the running controller; `matching` is the address matcher's. -/
inductive BallState where
  | diffZero | ignored | idlePairs | active | input | released | highZ | driven (high : Bool) | matching | oscillating | supply | unpowered
  deriving DecidableEq, Repr

/-- An open-drain output. -/
def pulled (low : Bool) : BallState := if low then .driven false else .released

/-- A GPIO: input until the image in force makes it an output, push-pull or open-drain (R332, R442, R528, R606). -/
def Live.gpioState (l : Live) (n : Nat) : BallState :=
  let v := l.pins.gpioOut.getLsbD n
  match (l.img.cur.allClaims.map (·.c)).find? (fun c => c.kind = 0 && c.index = n && c.mode ≠ 0) with
  | some c => if !l.dom 1 then .input else if c.mode = 1 then .driven v else pulled (!v)
  | none => .input

/-- The state of a ball. -/
def Live.ballState (l : Live) (b : Ball) : BallState :=
  let reset : Bool := l.pwr.resetLow || l.pwr.st = .held
  let on (d : Nat) (w off : BallState) : BallState := if l.dom d then w else off
  if b.type = .supply then .supply
  else if l.pwr.st = .off then .unpowered
  else match b with
    | .ringTx n _ => if l.dom 3 && (l.ring n).st ≠ .off && !(l.ring n).silent then .active else .diffZero
    | .ringRx .. => on 3 .active .ignored
    | .mateTx _ => if reset then .idlePairs else .active
    | .mateRx _ => if reset then .ignored else .active
    | .vclk p => if l.dom 2 && l.pen p then .active else .ignored
    | .vdio p => if l.dom 2 && l.pen p then .active else .input
    | .valertN p => pulled (l.dom 2 && l.valert p)
    | .hbout => .driven l.keeper.hbout
    | .mscl | .msda => if l.pwr.resetLow then .released else on 1 .active .matching
    | .pscl _ | .psda _ => on 1 .active .released
    | .hsck | .hsdi | .hssN => on 1 .active .ignored
    | .hsdo => on 1 .active .highZ
    | .halertN => pulled (!l.pwr.resetLow && l.halertLow)
    | .faultN => pulled (!l.pwr.resetLow && l.faultLow)
    | .rstoutN => .driven l.rstoutN
    | .gpio n => l.gpioState n
    | .tdo => .highZ
    | .ain _ | .aref => on 4 .active .highZ
    | .xin | .xout => .oscillating
    | _ => .input

end Sys2Proof.Machine
end

