-- ==== Sys2Proof/Machine/Bond.lean ====
section
/-! DEFINITION. The bond boundary: what waits for it, the published generation, activation of an image, and the work of every
subsystem once a bond, in the order of R48. -/
namespace Sys2Proof.Machine

/-! ## Writes that wait for the boundary (R215, R221, R240, R472, R536) -/

/-- One write of a word with the effect "at the next bond boundary" acts. -/
def Live.bondWrite (l : Live) (k : Nat) (v : Word) : Live :=
  let oid := k / 256
  let w := k % 256
  let n := oid % 4096
  match oid / 4096 with
  | 0x3 => if oid = 0x3FFF then l.setHw oid w v else l
  | 0x4 => if !(l.rail n).live then l else if w = 7 then l.rctl n v else if w = 8 then l.vsetTake n v else l
  | 0x6 => if oid = 0x6FFF || (l.inp n).live then l.setHw oid w v else l
  | 0x7 =>
    if oid = 0x7FFF then
      (match fld v 31 30 with
       | 1 => l.xcmdStart (fld v 29 26)
       | 2 => l.xcmdAbort
       | _ => l)
    else if (l.str n).live && fld v 31 30 = 1 then (l.modStr n fun s => { s with reset := true })
    else l
  | 0xA => l.kcmd v
  | 0xB =>
    if oid = 0xB000 then
      (match fld v 31 30 with
       | 1 => l.rcmdSnapnow
       | 2 => l.rcmdFlush
       | _ => l)
    else if oid < 0xB200 then
      (match fld v 31 30 with
       | 1 => l.tcmdArm (oid - 0xB100)
       | 2 => l.tcmdTrigger (oid - 0xB100)
       | 3 => l.tcmdStop (oid - 0xB100)
       | _ => l)
    else
      (match fld v 31 30 with
       | 1 => l.ccmdTrigger (oid - 0xB200)
       | 2 => l.ccmdRearm (oid - 0xB200)
       | _ => l)
  | 0xF => l.setHw oid w v
  | _ => l

/-- Every waiting write, oldest first. -/
def Live.bondWritesTaken (l : Live) : Live :=
  let ws := l.bondWrites
  ({ l with bondWrites := [] } : Live).forL ws fun l p => l.bondWrite p.1 p.2

/-! ## What the boundary finds outside the controller -/

/-- Readings of the core regulator, the front end's supply and the pins. -/
def Live.envNote (l : Live) (env : BondEnv) : Live :=
  let rise : Bool := env.pfailN && !l.pwr.pfailN
  let l := l.modPwr fun p =>
    { p with pwrNow := env.powerMw, vinNow := env.vinMv, pfailN := env.pfailN, pfailAt := if rise then l.now else p.pfailAt }
  let l := l.modFc fun f => { f with vlow := env.vcoreLow.map vcoreNum, ilim := env.vcoreIlim }
  { l with adc := { l.adc with vdda := env.vddaMv } }

/-! ## The published generation (R48, R471) -/

/-- Publish the state as it stands: the number advances by 1, and starts from that of the last keeper change or 0. -/
def State.publish (s : State) : State :=
  let m := s.live.msgs
  let l := { s.live with msgs := { m with gen := if m.published then (m.gen + 1) % 2 ^ 48 else m.gen, published := true } }
  ({ s with live := l, gens := tset s.gens l.msgs.gen l } : State).prune

/-- A keeper change at this boundary has numbered the generations anew: the snapshot stands under its new number (R421). -/
def State.republish (s : State) (old : Nat) : State :=
  match tfind s.gens old with
  | some g =>
    let n := s.live.msgs.gen
    let g := { g with msgs := { g.msgs with gen := n, gbase := s.live.msgs.gbase, glast := s.live.msgs.glast, ngaps := s.live.msgs.ngaps } }
    ({ s with gens := tset (tdrop s.gens old) n g } : State).prune
  | none => s

/-! ## Activation (R105, R171 to R173, R215, R267, R455 to R457) -/

/-- A tile's record or one of its entry points differs between two images that both hold it (R171). -/
def tileDiffers (a b : Image) (t : Nat) : Bool :=
  let ra := a.record t
  let rb := b.record t
  (List.range 64).any (fun w => (rw ra w ^^^ rw rb w) &&& writeMask (oTile t) w ≠ 0) ||
    a.entry (recPmain ra) ≠ b.entry (recPmain rb) || a.entry (recPrebase ra) ≠ b.entry (recPrebase rb)

/-- The rule of another image with the same content as rule `n` of this one. -/
def Image.ruleIn (a b : Image) (n : Nat) : Option Nat :=
  match a.rules[n]? with
  | some r => ((numbered 0 b.rules).find? (fun p => p.2 = r)).map (·.1)
  | none => none

/-- Stations whose binding the image changes. -/
def Live.rebound (l : Live) (new : Image) : List Nat :=
  (l.stns.filter (fun p => match p.2.rule with | some n => (l.img.cur.ruleIn new n).isNone | none => false)).map (·.1)

/-- Stations under the new image (Table 3.8): one whose rule, tile, slots or `MEMBER` differ becomes IDENTIFIED. -/
def Live.stnActivate (l : Live) (new : Image) : Live :=
  l.forL (l.stns.map (·.1)) fun l i =>
    let s := l.stn i
    match s.rule with
    | none => l
    | some n =>
      match l.img.cur.ruleIn new n with
      | some m => l.modStn i fun s => { s with rule := some m }
      | none =>
        let l := l.buoyStn s
        let l := if s.st = .matched || s.st = .moored then l.stnTo i .identified else l
        l.modStn i Stn.unbind

/-- The barred list loses what a commit ends (R128). -/
def Live.barActivate (l : Live) : Live :=
  let xs := l.moor.barred.filter (fun p => p.2 = .rating || p.2 = .vendor || p.2 = .firmware || p.2 = .mismatch)
  l.forL (xs.map (·.1)) fun l u => l.unbar u

/-- A ring under the new image (R105, Table 2.17). -/
def Live.ringActivate (l : Live) (n oldRate : Nat) : Live :=
  let new := l.rate n
  let st := (l.ring n).st
  if new = 0xF then (if st = .off then l else (l.ringTo n .off).modRing n fun g => { g with silent := false })
  else
    let l := if st = .off || new ≠ oldRate then l.ringTrain n else l
    let l := l.modRing n fun g => { g with commit := true }
    l.relayout n true

/-- The lane schedules that wait come into force (R170, R172). -/
def Live.lanesActivate (l : Live) : Live :=
  let l := l.each 8 fun l n =>
    let p := tget (0, []) l.loop.pendSched n
    l.modLane n fun k => { k with cycle := p.1, sched := p.2, pos := 0, base := l.now }
  l.modLoop fun e => { e with pendSched := [], pendDec := [], schedSel := !e.schedSel }

/-- The courses that started before the boundary end under the old records and schedules (R172).  Every deadline of theirs has
passed: an evaluation under way is discarded and runs on to its END, and an entry that the lane has not reached is discarded
without an evaluation (log entry 83). -/
def Live.lanesFinish (l : Live) : Live :=
  l.each 8 fun (l : Live) n =>
    let k := l.lane n
    let l : Live := match k.ev with
      | some e => if e.ring.isSome && !e.dropped && ((l.tile e.tile).st = .running || e.handover) then ((l.courseDrop e).sampleEval n e true).laneDrop n e else l
      | none => l
    l.forL (k.sched.drop k.pos) fun (l : Live) e =>
      match l.tileRing e.1 with
      | some r =>
        let g := l.ring r
        let at_ := k.base + e.2 * l.period r
        if at_ < l.now && at_ ≤ g.start && g.inCourse && (l.tile e.1).st = .running && !l.isolated e.1 && !l.decimated e.1 r g.num then
          l.courseDrop { tile := e.1 }
        else l
      | none => l

/-- A POLICY tile, or a course tile without a member, needs no handover. -/
def Live.selfStarts (l : Live) (t : Nat) : Bool := l.tKind t = 4 || (l.tileRules t).isEmpty

/-- What a tile keeps in loop memory is dropped. -/
def Live.tileDrop (l : Live) (t : Nat) : Live :=
  (l.modTile t fun _ => {}).modLoop fun e =>
    { e with slots := e.slots.filter (fun p => p.1 / 16 ≠ t), outs := e.outs.filter (fun p => p.1 / 4 ≠ t), pubs := e.pubs.filter (fun p => p.1 / 8 ≠ t) }

/-- A tile that the image creates starts from the image's state values (R457). -/
def Live.tileCreate (l : Live) (t : Nat) : Live :=
  let r := l.record_ t
  let l := (l.tileDrop t).modTile t fun _ =>
    { st := if l.selfStarts t then .running else .waiting, changed := true, rcDue := recRcen r }
  l.each 16 fun l i => l.modLoop fun e => { e with slots := tput 0 e.slots (16 * t + i) (recSlot r i &&& 0x01FFFFFF) }

/-- A tile that the image changes (R173, R199). -/
def Live.tileChange (l : Live) (old : Image) (t : Nat) : Live :=
  let a := old.record t
  let b := l.record_ t
  let pool : Bool := recRcper a ≠ recRcper b || recRcsync a ≠ recRcsync b || recRcBase a ≠ recRcBase b || recRcLen a ≠ recRcLen b || recRcen a ≠ recRcen b
  let wasSelf : Bool := recKind a = 4
  l.modTile t fun k =>
    { k with changed := true, rcDue := k.rcDue || pool, rcCount := if pool then none else k.rcCount, rcLast := if pool then none else k.rcLast,
             st := if l.selfStarts t then (if k.st = .waiting then .running else k.st) else if wasSelf then .waiting else k.st }

/-- Tiles under the new image. -/
def Live.tilesActivate (l : Live) (old : Image) : Live :=
  let dec := l.loop.pendDec
  l.each 160 fun l t =>
    let l :=
      if l.hasTile t then
        (if !old.hasTile t then l.tileCreate t else if tileDiffers old l.img.cur t then l.tileChange old t else l)
      else if (l.tile t).st = .unused then l else l.tileDrop t
    if l.hasTile t then l.modTile t fun k => { k with decSet := dec.contains t } else l

/-- Rails and their ports under the new image (R215, R221, R265, R267). -/
def Live.railsActivate (l : Live) (old : Live) : Live :=
  l.each 48 fun l r =>
    let was := (l.rail r).live
    if !l.given (oRail r) 0 then
      if was then (l.modRail r fun _ => {}).modVr r fun _ => {} else l
    else if !was then
      let l := l.railCreate r
      let n := l.capLevel r
      l.modVr r fun v => { v with level := n, ack := n }
    else
      let l := if old.railTile r ≠ l.railTile r then (l.railIdle r 7).modRail r fun k => { k with members := [] } else l
      let l := if old.cf (oRail r) 3 31 16 ≠ l.cf (oRail r) 3 31 16 then l.railReboot r else l
      if old.railBound r ≠ l.railBound r then l.modVr r fun v => { level := v.level, ack := v.ack, grace := if (l.railBound r).isSome then v.grace else none } else l

/-- A member binding of a tile: its placement rules. -/
def Live.sameMember (l old : Live) (t u : Nat) : Bool := t = u && old.tileRules t = l.tileRules u

/-- Inputs under the new image (R281, R309). -/
def Live.inputsActivate (l : Live) (old : Live) : Live :=
  l.each 64 fun l j =>
    match l.inputTile j, (l.inp j).live with
    | none, false => l
    | none, true => (l.modInp j fun _ => {}).setHw (oInput j) 2 0
    | some _, false => l.inpCreate j
    | some t, true =>
      match old.inputTile j with
      | some u => if l.sameMember old u t then l else (if t = u then l else l.inputAbsent j).inpRebind j
      | none => l.inpRebind j

/-- Strings and the gauge under the new image (R328, R341, R342, Table 9.2). -/
def Live.stringsActivate (l : Live) (old : Live) (start : Bool) : Live :=
  let same (oid : Nat) : Bool := (commitWords oid).all (fun w => old.given oid w = l.given oid w && old.cw oid w = l.cw oid w)
  let l := l.each 16 fun l k =>
    let was := (l.str k).live
    if l.given (oStr k) 0 then
      (if !was then l.strCreate k start
       else if same (oStr k) && old.hasTile (l.strTile k) && !tileDiffers old.img.cur l.img.cur (l.strTile k) then l
       else l.strChanged old k)
    else if was then l.strRemoved old k
    else l
  if l.gauge.ex = .running && !same 0x7FFF then { l with gauge := { l.gauge with exStop := true } } else l

/-- The points that the controller's own channels and sums make (R351). -/
def Live.pointsActivate (l : Live) : Live :=
  l.each 32 fun l i =>
    let p := 256 + i
    if l.pointRuns p then (if (l.point p).run then l else l.pointStart p)
    else if (l.point p).run then l.modPoint p fun _ => {} else l

/-- The objects that the activation changes, for R49. -/
def Live.changedObjs (l old : Live) (moved : List Nat) : List Nat :=
  (old.img.cur.differs l.img.cur ++
    (l.tiles.filter (fun t => !old.hasTile t || tileDiffers old.img.cur l.img.cur t)).map oTile ++ moved.map oStn ++
    ((List.range 64).filter (fun j => old.inputTile j ≠ l.inputTile j)).map oInput ++
    ((List.range 48).filter (fun r => old.railPort r ≠ l.railPort r)).map oRail).dedup

/-- Which instances exist differs between two images (R448). -/
def existsDiffers (a b : Image) : Bool :=
  let os := ((a.given ++ b.given).map (· / 256)).dedup
  os.any (fun o => a.hasObj o != b.hasObj o) || a.routes.length ≠ b.routes.length

/-- What the activation leaves of lists that name objects, and the settings that it puts in force (R310, R406, R476, R548, R563, R615). -/
def Live.activateRest (l : Live) : Live :=
  let l := ((l.capApply).traceApply).stackPrune
  let bound := l.adcBound
  let l := { l with adc := { l.adc with runs := l.adc.runs.filter (fun p => bound.contains p.1), raised := l.adc.raised.filter bound.contains } }
  let l := { l with msgs := { l.msgs with dis := l.msgs.dis.filter (fun p => l.objHere p.2.obj.toNat) } }
  let l := l.modK fun k => { k with tl := l.tlease, mateen := l.mateen }
  let l := l.modPwr fun p => { p with leanen := bit (l.hw 0xD200 0) 31 }
  if l.pwr.st = .holdup then l.gateSet else l.toRun 1

/-- An image comes into force at this boundary. -/
def Live.activateImage (l : Live) (new : Image) (slot : Option Nat) (start : Bool) : Live :=
  let l := (l.each 8 fun l n => if (l.ring n).st = .running then l.upFinalize n else l).lanesFinish
  let old := l
  let moved := l.rebound new
  let l := (l.stnActivate new).barActivate
  let l := { l with img := { l.img with cur := new, slot := slot, atStart := none, iactb := l.bond,
                                        lseq := if existsDiffers old.img.cur new then l.img.lseq + 1 else l.img.lseq } }
  let l := l.each 8 fun l n => l.ringActivate n (old.rate n)
  let l := (l.tilesActivate old.img.cur).lanesActivate
  let l := (l.railsActivate old).inputsActivate old
  let l := ((l.stringsActivate old (start && l.keeper.loaded.isNone)).pointsActivate).activateRest
  let xs := l.changedObjs old moved
  let l := l.modFc fun f => { f with changed := xs, changedAt := l.now }
  (l.count 120).record 0x06 (leBytes (if start then 0 else l.img.txn.num.toNat) 2 ++ [0, 0] ++ leBytes l.bond 8)

/-- The activation word of a slot is programmed; `IMG_ACT_FAIL` when it does not read back (R437).  In `T5` it waits (R365). -/
def Live.sactProgram (l : Live) (n : Nat) (ok : Bool) : Live :=
  if !l.flashProgram then { l with img := { l.img with sactDue := l.img.sactDue ++ [n] } }
  else if ok then l.modStore n fun s => { s with act := 0 } else l.raise 0xB004 0x0001

/-- Activation at this boundary: the image chosen at start, or a pending commit whose bond has come (R48, R455 to R457). -/
def Live.activation (l : Live) (sactOk : Bool) : Live :=
  match l.img.atStart with
  | some i =>
    let p := (l.validate i false).2
    let l := l.modLoop fun e =>
      { e with pendSched := (numbered 0 p.lanes).foldl (fun c q => tput (0, []) c q.1 q.2) [], pendDec := p.dec }
    l.activateImage i l.img.slot true
  | none =>
    let t := l.img.txn
    if t.st = .pending && t.actBond ≤ l.bond then
      let n := if l.img.slot = some 0 then 1 else 0
      let l := ((l.activateImage t.ready (some n) false).sactProgram n sactOk).txnEnd 1 3
      l.modTxn fun t => { t with lastAct := l.bond }
    else l

/-! ## Station firmware (R598) -/

/-- The tile of a moored station can spare it for FW_ACTIVATE. -/
def Live.fwSpare (l : Live) (s : Stn) : Bool :=
  match s.tile with
  | none => true
  | some t =>
    match l.tileRail t, l.tileInput t, l.tileStr t with
    | some r, _, _ =>
      let n := (l.acts r).length
      let m := (l.rots r).length
      l.nmin r + 1 ≤ n && 1 ≤ m && (match (l.rail r).i with
        | some i => i ≤ 4 / 5 * (l.rail r).rrail * ((m : Rat) - 1) / m
        | none => false)
    | none, some _, _ => true
    | none, none, some k => (l.str k).ibar ≤ 0 && !l.exercising k
    | none, none, none => (l.tile t).st = .unused || (l.tile t).st = .suspended

/-- Parking of the station that waits for FW_ACTIVATE, and the end of a relay (R598, Table 18.14). -/
def Live.fwBond (l : Live) : Live :=
  match l.moor.fwBusy with
  | some i =>
    let s := l.stn i
    if s.fwChecked && !s.fwPark && s.st = .moored && l.fwSpare s then l.modStn i fun s => { s with fwPark := true } else l
  | none =>
    if l.bootRec.state = 4 && !l.moor.fwImage.isEmpty && l.fwLeft.isEmpty then
      let l := l.withUpdate fun l => (l.setBoot fun r => { r with state := 6 }).modSec fun s => { s with stg := { s.stg with relaying := false, relayed := true } }
      { l with moor := { l.moor with fwImage := [] } }
    else l

/-! ## The work of a bond -/

/-- A cooler band's layout and core voltage, and the end of decimation (R80, R158, R159, R162). -/
def Live.bandBond (l : Live) : Live :=
  let cooler : Bool := l.therm.dband < l.loop.eband
  let l := if cooler then l.modLoop fun e => { e with eband := l.therm.dband } else l
  let l := if cooler then l.each 8 fun l n => if (l.ring n).st = .running || (l.ring n).st = .overbooked then l.relayout n false else l else l
  let l := if l.therm.dband < 4 then l.modLoop fun e => { e with decact := false } else l
  l.vcoreBond

/-- Tiles that no handover resumes run again once nothing isolates them (R380). -/
def Live.isolateBond (l : Live) : Live :=
  l.forL l.tiles fun l t =>
    if (l.tile t).st = .suspended && l.selfStarts t && !l.isolated t then l.modTile t fun k => { k with st := .running, rebase := true } else l

/-- The POLICY tiles' latch and queue (R47, R175, R176). -/
def Live.policyStart (l : Live) : Live := if l.fc.safe then l else ((l.isolateBond).takeLatch 8).policyBond

/-- The keeper core's part; a claim that starts programs the activation word of the slot that runs (R438). -/
def Live.keeperPart (l : Live) (sactOk : Bool) : Live :=
  let l := l.keeperBond
  if l.working && l.keeper.live && l.keeper.claimAt = l.now then
    match l.img.slot with
    | some n => if (l.storeSlot n).used && !(l.storeSlot n).active then l.sactProgram n sactOk else l
    | none => l
  else l

/-- Flash programming that waited for a band cooler than `T5` (R365): activation words, and the boot record. -/
def Live.flashLate (l : Live) (sactOk : Bool) : Live :=
  if !l.flashProgram then l
  else
    let due := l.img.sactDue
    let l := { l with img := { l.img with sactDue := [] } }.modSec fun s => { s with bootOld := none }
    l.forL due fun l n => l.sactProgram n sactOk

/-- Bond work of every subsystem after the activation. -/
def Live.bondWork (l : Live) (env : BondEnv) : Live :=
  let l := (((l.flashLate env.sactOk).stnBond).fwBond).bandBond
  let l := if l.fc.safe then l else (l.gaugeBond).ppBond
  let l := l.policyStart
  let l := if l.fc.safe then l else l.forL l.railNums Live.capWork
  let l := (l.condBond).selftest env.selftestOk
  let l := ((l.arvStep env.fuse).statusSend).tugsEnd
  let l := { l with adc := { l.adc with refDue := true } }
  let l := l.each 16 fun l p => if (l.vp p).badCrc = 0 then l else l.modVp p fun v => { v with badCrc := 0 }
  l.keeperPart env.sactOk

/-- The count of the bond that begins: 1 more, or R420's where bonds have not run. -/
def Live.nextBond (l : Live) : Live :=
  { l with bond := if l.bondOn then l.bond + (l.now - l.bondAt) / bondTicks else l.firstBond, bondAt := l.now, bondOn := true }

/-- The boundary of a controller that runs rings, tiles and bond work (R48). -/
def State.bondRun (s : State) (env : BondEnv) : State :=
  let l := ((((s.live.nextBond).bondWritesTaken).envNote env).disCount).disReconcile
  if !l.working then { s with live := l }
  else
    let s := ({ s with live := l } : State).publish
    let g := s.live.msgs.gen
    let l := (s.live.ckptBond.activation env.sactOk).bondWork env
    let s := { s with live := l }
    if l.msgs.published && l.msgs.gen ≠ g then s.republish g else s

/-- The boundary of any other controller: STATUS, and what service LEAN still publishes (R424, R549). -/
def State.bondIdle (s : State) (env : BondEnv) : State :=
  let l := { s.live with bondAt := s.live.now, bondOn := false }
  let l := if l.fwUp then (l.bondWritesTaken.envNote env).flashLate env.sactOk else l
  let l := if l.fwUp then (l.condBond).arvStep env.fuse else l
  let l := if l.dom 1 then l.selftest env.selftestOk else l
  let l := if l.kUp then l.statusSend else l
  if l.fwUp then ({ s with live := l } : State).publish else { s with live := l }

/-- A bond boundary of the timebase has come and has not been taken: a tick count that is a multiple of 200 000. -/
def Live.bondDue (l : Live) : Bool := l.now % bondTicks = 0 && l.bondAt < l.now && l.pwr.st ≠ .off && !l.pwr.resetLow

/-- BOND_BOUNDARY (R48).  A restart that a request has asked for comes first (R596, R600). -/
def execBondBoundary (env : BondEnv) (s : State) : Host.Outcome State Fault Refusal :=
  if !s.live.bondDue then s.same
  else match s.live.pwr.restart with
    | some c => .next { s with live := { s.live.release c with bondAt := s.live.now }, gens := [] }
    | none => .next (if s.live.working then s.bondRun env else s.bondIdle env)

end Sys2Proof.Machine
end

