-- ==== Sys2Proof/Machine/Dispatch.lean ====
section
/-! DEFINITION. One arm for each command: its meaning. -/
namespace Sys2Proof.Machine

/-- A command's effect on everything but the queue. -/
def exec (i : Instr) (s : State) : Host.Outcome State Fault Refusal :=
  match i with
  | .powerOnReset straps => Sys2Proof.Machine.execPowerOnReset straps s
  | .vinFall => Sys2Proof.Machine.execVinFall s
  | .resetAssert => Sys2Proof.Machine.execResetAssert s
  | .resetRelease straps => Sys2Proof.Machine.execResetRelease straps s
  | .wakeRequest => Sys2Proof.Machine.execWakeRequest s
  | .bootStageDone env => Sys2Proof.Machine.execBootStageDone env s
  | .stagedShutdown => Sys2Proof.Machine.execStagedShutdown s
  | .powerReturn => Sys2Proof.Machine.execPowerReturn s
  | .serviceIdleTimeout => Sys2Proof.Machine.execServiceIdleTimeout s
  | .refLoss => Sys2Proof.Machine.execRefLoss s
  | .refReturn => Sys2Proof.Machine.execRefReturn s
  | .domainDown domain => Sys2Proof.Machine.execDomainDown domain s
  | .vcoreLow cond => Sys2Proof.Machine.execVcoreLow cond s
  | .vcoreIlim => Sys2Proof.Machine.execVcoreIlim s
  | .courseStart ring => Sys2Proof.Machine.execCourseStart ring s
  | .bondBoundary env => Sys2Proof.Machine.execBondBoundary env s
  | .upBrickReceived ring slot brick errs => Sys2Proof.Machine.execUpBrickReceived ring slot brick errs s
  | .callBrick ring => Sys2Proof.Machine.execCallBrick ring s
  | .upRetryReturn ring => Sys2Proof.Machine.execUpRetryReturn ring s
  | .downWindow ring => Sys2Proof.Machine.execDownWindow ring s
  | .checkBrickReceived ring brick errs => Sys2Proof.Machine.execCheckBrickReceived ring brick errs s
  | .headerReturn ring header errs delay => Sys2Proof.Machine.execHeaderReturn ring header errs delay s
  | .rangeCountReturn ring brick errs delay => Sys2Proof.Machine.execRangeCountReturn ring brick errs delay s
  | .ringRangeFail ring => Sys2Proof.Machine.execRingRangeFail ring s
  | .trainingAligned seen => Sys2Proof.Machine.execTrainingAligned seen s
  | .ringTrainFail seen => Sys2Proof.Machine.execRingTrainFail seen s
  | .trainingRestart ring => Sys2Proof.Machine.execTrainingRestart ring s
  | .alignmentLost seen => Sys2Proof.Machine.execAlignmentLost seen s
  | .commaDrift ring => Sys2Proof.Machine.execCommaDrift ring s
  | .ringSlotLoss ring slot => Sys2Proof.Machine.execRingSlotLoss ring slot s
  | .buoyBrickReceived ring brick errs => Sys2Proof.Machine.execBuoyBrickReceived ring brick errs s
  | .mgmtReplyReceived ring brick errs => Sys2Proof.Machine.execMgmtReplyReceived ring brick errs s
  | .mgmtResend stn => Sys2Proof.Machine.execMgmtResend stn s
  | .mgmtUnanswered stn => Sys2Proof.Machine.execMgmtUnanswered stn s
  | .stnIdentFail stn => Sys2Proof.Machine.execStnIdentFail stn s
  | .sightAckRefresh stn => Sys2Proof.Machine.execSightAckRefresh stn s
  | .matchingPass => Sys2Proof.Machine.execMatchingPass s
  | .handoverCourse tile => Sys2Proof.Machine.execHandoverCourse tile s
  | .stnHandoverFail stn => Sys2Proof.Machine.execStnHandoverFail stn s
  | .stnAdrift stn => Sys2Proof.Machine.execStnAdrift stn s
  | .stnUnstable stn => Sys2Proof.Machine.execStnUnstable stn s
  | .tileDispatch lane => Sys2Proof.Machine.execTileDispatch lane s
  | .tileCommit lane => Sys2Proof.Machine.execTileCommit lane s
  | .tileDiscard lane => Sys2Proof.Machine.execTileDiscard lane s
  | .loopOverrun tile => Sys2Proof.Machine.execLoopOverrun tile s
  | .loopStall tile => Sys2Proof.Machine.execLoopStall tile s
  | .policyDispatch => Sys2Proof.Machine.execPolicyDispatch s
  | .loopPolicyLate => Sys2Proof.Machine.execLoopPolicyLate s
  | .vcpinWrite code => Sys2Proof.Machine.execVcpinWrite code s
  | .opNop lane f => Sys2Proof.Machine.execOpNop lane f s
  | .opEnd lane f => Sys2Proof.Machine.execOpEnd lane f s
  | .opMac lane f => Sys2Proof.Machine.execOpMac lane f s
  | .opMsu lane f => Sys2Proof.Machine.execOpMsu lane f s
  | .opMul lane f => Sys2Proof.Machine.execOpMul lane f s
  | .opClra lane f => Sys2Proof.Machine.execOpClra lane f s
  | .opRnd lane f => Sys2Proof.Machine.execOpRnd lane f s
  | .opAdd lane f => Sys2Proof.Machine.execOpAdd lane f s
  | .opSub lane f => Sys2Proof.Machine.execOpSub lane f s
  | .opNeg lane f => Sys2Proof.Machine.execOpNeg lane f s
  | .opAbs lane f => Sys2Proof.Machine.execOpAbs lane f s
  | .opShl lane f => Sys2Proof.Machine.execOpShl lane f s
  | .opShr lane f => Sys2Proof.Machine.execOpShr lane f s
  | .opMov lane f => Sys2Proof.Machine.execOpMov lane f s
  | .opLdi lane f => Sys2Proof.Machine.execOpLdi lane f s
  | .opLds lane f => Sys2Proof.Machine.execOpLds lane f s
  | .opSts lane f => Sys2Proof.Machine.execOpSts lane f s
  | .opLdc lane f => Sys2Proof.Machine.execOpLdc lane f s
  | .opIn lane f => Sys2Proof.Machine.execOpIn lane f s
  | .opOut lane f => Sys2Proof.Machine.execOpOut lane f s
  | .opPub lane f => Sys2Proof.Machine.execOpPub lane f s
  | .opClamp lane f => Sys2Proof.Machine.execOpClamp lane f s
  | .opMin lane f => Sys2Proof.Machine.execOpMin lane f s
  | .opMax lane f => Sys2Proof.Machine.execOpMax lane f s
  | .opCmplt lane f => Sys2Proof.Machine.execOpCmplt lane f s
  | .opCmpgt lane f => Sys2Proof.Machine.execOpCmpgt lane f s
  | .opSel lane f => Sys2Proof.Machine.execOpSel lane f s
  | .opTrip lane f => Sys2Proof.Machine.execOpTrip lane f s
  | .opRcrd lane f => Sys2Proof.Machine.execOpRcrd lane f s
  | .opRcwr lane f => Sys2Proof.Machine.execOpRcwr lane f s
  | .opTap lane f => Sys2Proof.Machine.execOpTap lane f s
  | .loopBadOp lane word => Sys2Proof.Machine.execLoopBadOp lane word s
  | .railCourseWork rail => Sys2Proof.Machine.execRailCourseWork rail s
  | .railOv rail => Sys2Proof.Machine.execRailOv rail s
  | .railUv rail => Sys2Proof.Machine.execRailUv rail s
  | .fbtimeExpiry rail => Sys2Proof.Machine.execFbtimeExpiry rail s
  | .hictimeExpiry rail => Sys2Proof.Machine.execHictimeExpiry rail s
  | .railSsFail rail => Sys2Proof.Machine.execRailSsFail rail s
  | .hiccntReset rail => Sys2Proof.Machine.execHiccntReset rail s
  | .railPhaseOpen rail member => Sys2Proof.Machine.execRailPhaseOpen rail member s
  | .railSenseFail rail member => Sys2Proof.Machine.execRailSenseFail rail member s
  | .phaseShed rail => Sys2Proof.Machine.execPhaseShed rail s
  | .rctlOn rail => Sys2Proof.Machine.execRctlOn rail s
  | .rctlOff rail => Sys2Proof.Machine.execRctlOff rail s
  | .rctlUnlatch rail => Sys2Proof.Machine.execRctlUnlatch rail s
  | .rctlRestore rail pmask => Sys2Proof.Machine.execRctlRestore rail pmask s
  | .vsetWrite rail vset hslew => Sys2Proof.Machine.execVsetWrite rail vset hslew s
  | .setv port c value slew => Sys2Proof.Machine.execSetv port c value slew s
  | .getv port c arg => Sys2Proof.Machine.execGetv port c arg s
  | .geti port c arg => Sys2Proof.Machine.execGeti port c arg s
  | .getp port c => Sys2Proof.Machine.execGetp port c s
  | .getstatRail port c => Sys2Proof.Machine.execGetstatRail port c s
  | .getstatSummary port c => Sys2Proof.Machine.execGetstatSummary port c s
  | .ackcap port c level => Sys2Proof.Machine.execAckcap port c level s
  | .setmodeAuto port c value => Sys2Proof.Machine.execSetmodeAuto port c value s
  | .setmodeFull port c value => Sys2Proof.Machine.execSetmodeFull port c value s
  | .setmodeEvmask port c value => Sys2Proof.Machine.execSetmodeEvmask port c value s
  | .ping port c sync => Sys2Proof.Machine.execPing port c sync s
  | .vcFrameTimeout port word => Sys2Proof.Machine.execVcFrameTimeout port word s
  | .setvSettled rail => Sys2Proof.Machine.execSetvSettled rail s
  | .vcSettleFail rail => Sys2Proof.Machine.execVcSettleFail rail s
  | .vcCapNoack rail => Sys2Proof.Machine.execVcCapNoack rail s
  | .vcCrcBurst port => Sys2Proof.Machine.execVcCrcBurst port s
  | .vcBankChange bank millivolts inFrame => Sys2Proof.Machine.execVcBankChange bank millivolts inFrame s
  | .inputStage input => Sys2Proof.Machine.execInputStage input s
  | .ppPairLost input => Sys2Proof.Machine.execPpPairLost input s
  | .ppGuardRepeat input => Sys2Proof.Machine.execPpGuardRepeat input s
  | .gholdExpiry input => Sys2Proof.Machine.execGholdExpiry input s
  | .pfailLow => Sys2Proof.Machine.execPfailLow s
  | .vbusLow => Sys2Proof.Machine.execVbusLow s
  | .adcConversion channel code => Sys2Proof.Machine.execAdcConversion channel code s
  | .adcRange channel => Sys2Proof.Machine.execAdcRange channel s
  | .cbusMeasure => Sys2Proof.Machine.execCbusMeasure s
  | .fullAnchor str => Sys2Proof.Machine.execFullAnchor str s
  | .emptyAnchor str => Sys2Proof.Machine.execEmptyAnchor str s
  | .impedanceMeasure str => Sys2Proof.Machine.execImpedanceMeasure str s
  | .packMonitorRead str => Sys2Proof.Machine.execPackMonitorRead str s
  | .capStale str => Sys2Proof.Machine.execCapStale str s
  | .journalPeriod str => Sys2Proof.Machine.execJournalPeriod str s
  | .learnedRecordDone str ok => Sys2Proof.Machine.execLearnedRecordDone str ok s
  | .gcmdResetlearn str => Sys2Proof.Machine.execGcmdResetlearn str s
  | .xcmdStart str => Sys2Proof.Machine.execXcmdStart str s
  | .xcmdAbort => Sys2Proof.Machine.execXcmdAbort s
  | .exerciseTimeout => Sys2Proof.Machine.execExerciseTimeout s
  | .dieSensorRead sixteenths => Sys2Proof.Machine.execDieSensorRead sixteenths s
  | .pointUpdate point => Sys2Proof.Machine.execPointUpdate point s
  | .airSensorRead sensor => Sys2Proof.Machine.execAirSensorRead sensor s
  | .scrubPass found => Sys2Proof.Machine.execScrubPass found s
  | .occurrenceTaken d => Sys2Proof.Machine.execOccurrenceTaken d s
  | .wireFault code obj aux reads => Sys2Proof.Machine.execWireFault code obj aux reads s
  | .blockBack block => Sys2Proof.Machine.execBlockBack block s
  | .shadowWindowClose block => Sys2Proof.Machine.execShadowWindowClose block s
  | .faultLogCopy => Sys2Proof.Machine.execFaultLogCopy s
  | .faultClear h code obj => Sys2Proof.Machine.execFaultClear h code obj s
  | .safexit => Sys2Proof.Machine.execSafexit s
  | .heartbeatToggle => Sys2Proof.Machine.execHeartbeatToggle s
  | .hbinEdge => Sys2Proof.Machine.execHbinEdge s
  | .heartbeatSilence => Sys2Proof.Machine.execHeartbeatSilence s
  | .mateStatus f => Sys2Proof.Machine.execMateStatus f s
  | .kprMateDown => Sys2Proof.Machine.execKprMateDown s
  | .ckptData f => Sys2Proof.Machine.execCkptData f s
  | .ckptAck f => Sys2Proof.Machine.execCkptAck f s
  | .ckptBlockTimeout idx => Sys2Proof.Machine.execCkptBlockTimeout idx s
  | .claimNotice f => Sys2Proof.Machine.execClaimNotice f s
  | .imgData f => Sys2Proof.Machine.execImgData f s
  | .imgAck f => Sys2Proof.Machine.execImgAck f s
  | .imageSyncTimeout => Sys2Proof.Machine.execImageSyncTimeout s
  | .handoverReq f => Sys2Proof.Machine.execHandoverReq f s
  | .handoverReady f => Sys2Proof.Machine.execHandoverReady f s
  | .handoverGo f => Sys2Proof.Machine.execHandoverGo f s
  | .kcmdHandover => Sys2Proof.Machine.execKcmdHandover s
  | .kcmdAbort => Sys2Proof.Machine.execKcmdAbort s
  | .kprHandoverFail => Sys2Proof.Machine.execKprHandoverFail s
  | .warmingDone => Sys2Proof.Machine.execWarmingDone s
  | .claimWaitExpiry => Sys2Proof.Machine.execClaimWaitExpiry s
  | .claimStart => Sys2Proof.Machine.execClaimStart s
  | .claimWindowEnd => Sys2Proof.Machine.execClaimWindowEnd s
  | .dmissAllSlots ring => Sys2Proof.Machine.execDmissAllSlots ring s
  | .commitComplete flashOk => Sys2Proof.Machine.execCommitComplete flashOk s
  | .msgOpen h cls => Sys2Proof.Machine.execMsgOpen h cls s
  | .msgAuth h hmac => Sys2Proof.Machine.execMsgAuth h hmac s
  | .msgClose h => Sys2Proof.Machine.execMsgClose h s
  | .msgRead h obj first count flags gen => Sys2Proof.Machine.execMsgRead h obj first count flags gen s
  | .msgWrite h obj first words => Sys2Proof.Machine.execMsgWrite h obj first words s
  | .snapPin h => Sys2Proof.Machine.execSnapPin h s
  | .snapRelease h gen => Sys2Proof.Machine.execSnapRelease h gen s
  | .txnBegin h => Sys2Proof.Machine.execTxnBegin h s
  | .txnCommit h => Sys2Proof.Machine.execTxnCommit h s
  | .txnRollback h => Sys2Proof.Machine.execTxnRollback h s
  | .txnStatus h => Sys2Proof.Machine.execTxnStatus h s
  | .eventPoll h most => Sys2Proof.Machine.execEventPoll h most s
  | .counterRead h first count flags => Sys2Proof.Machine.execCounterRead h first count flags s
  | .sampleRead h first count => Sys2Proof.Machine.execSampleRead h first count s
  | .recordRead h source which start blocks => Sys2Proof.Machine.execRecordRead h source which start blocks s
  | .imageWrite h offset data => Sys2Proof.Machine.execImageWrite h offset data s
  | .updateBlock h offset crc data => Sys2Proof.Machine.execUpdateBlock h offset crc data s
  | .updateSeal h => Sys2Proof.Machine.execUpdateSeal h s
  | .updateArm h restart => Sys2Proof.Machine.execUpdateArm h restart s
  | .updateConfirm h env => Sys2Proof.Machine.execUpdateConfirm h env s
  | .updateStatus h => Sys2Proof.Machine.execUpdateStatus h s
  | .recoveryEnter h => Sys2Proof.Machine.execRecoveryEnter h s
  | .recoveryBlock h offset crc data => Sys2Proof.Machine.execRecoveryBlock h offset crc data s
  | .recoveryFinish h => Sys2Proof.Machine.execRecoveryFinish h s
  | .recoveryAbort h => Sys2Proof.Machine.execRecoveryAbort h s
  | .fuseProgram h addr val env => Sys2Proof.Machine.execFuseProgram h addr val env s
  | .fuseReburn h addr val env => Sys2Proof.Machine.execFuseReburn h addr val env s
  | .fuseReadNormal h addr => Sys2Proof.Machine.execFuseReadNormal h addr s
  | .fuseReadMarginLo h addr => Sys2Proof.Machine.execFuseReadMarginLo h addr s
  | .fuseReadMarginHi h addr => Sys2Proof.Machine.execFuseReadMarginHi h addr s
  | .fuseLock h region env => Sys2Proof.Machine.execFuseLock h region env s
  | .sessionAuthTimeout sess => Sys2Proof.Machine.execSessionAuthTimeout sess s
  | .sessionIdleTimeout sess => Sys2Proof.Machine.execSessionIdleTimeout sess s
  | .authLockEnd port => Sys2Proof.Machine.execAuthLockEnd port s
  | .snapPinExpiry gen => Sys2Proof.Machine.execSnapPinExpiry gen s
  | .txnTimeout => Sys2Proof.Machine.execTxnTimeout s
  | .disagreementListed row obj => Sys2Proof.Machine.execDisagreementListed row obj s
  | .twWriteTransfer keeperAddr octets => Sys2Proof.Machine.execTwWriteTransfer keeperAddr octets s
  | .twReadTransfer keeperAddr count lastAcked => Sys2Proof.Machine.execTwReadTransfer keeperAddr count lastAcked s
  | .twAddressMatch => Sys2Proof.Machine.execTwAddressMatch s
  | .twWakeFail => Sys2Proof.Machine.execTwWakeFail s
  | .twSclTimeout => Sys2Proof.Machine.execTwSclTimeout s
  | .twSdaTimeout => Sys2Proof.Machine.execTwSdaTimeout s
  | .hspWriteMessage octets => Sys2Proof.Machine.execHspWriteMessage octets s
  | .hspReadMessage count => Sys2Proof.Machine.execHspReadMessage count s
  | .hspStatus count => Sys2Proof.Machine.execHspStatus count s
  | .hspReservedCmd cmd count => Sys2Proof.Machine.execHspReservedCmd cmd count s
  | .pi2cTransferStart port arbLost => Sys2Proof.Machine.execPi2cTransferStart port arbLost s
  | .pi2cTransferDone port result => Sys2Proof.Machine.execPi2cTransferDone port result s
  | .pi2cTimeout port => Sys2Proof.Machine.execPi2cTimeout port s
  | .busRecovery port freed => Sys2Proof.Machine.execBusRecovery port freed s
  | .flushPage => Sys2Proof.Machine.execFlushPage s
  | .flushPageDone ok => Sys2Proof.Machine.execFlushPageDone ok s
  | .snapshotPageDone ok => Sys2Proof.Machine.execSnapshotPageDone ok s
  | .recSnapFail => Sys2Proof.Machine.execRecSnapFail s
  | .recNotArmed => Sys2Proof.Machine.execRecNotArmed s
  | .captureFreeze slot => Sys2Proof.Machine.execCaptureFreeze slot s
  | .rcmdSnapnow => Sys2Proof.Machine.execRcmdSnapnow s
  | .rcmdFlush => Sys2Proof.Machine.execRcmdFlush s
  | .ccmdTrigger slot => Sys2Proof.Machine.execCcmdTrigger slot s
  | .ccmdRearm slot => Sys2Proof.Machine.execCcmdRearm slot s
  | .tcmdArm ch => Sys2Proof.Machine.execTcmdArm ch s
  | .tcmdTrigger ch => Sys2Proof.Machine.execTcmdTrigger ch s
  | .tcmdStop ch => Sys2Proof.Machine.execTcmdStop ch s
  | .tracePulseEnd ch => Sys2Proof.Machine.execTracePulseEnd ch s
  | .sclockWrite secs => Sys2Proof.Machine.execSclockWrite secs s
  | .shelfClockTick => Sys2Proof.Machine.execShelfClockTick s
  | .jtagIdcode => Sys2Proof.Machine.execJtagIdcode s
  | .jtagBypass bits => Sys2Proof.Machine.execJtagBypass bits s
  | .jtagSamplePreload pins preload => Sys2Proof.Machine.execJtagSamplePreload pins preload s
  | .jtagExtest testEn preload => Sys2Proof.Machine.execJtagExtest testEn preload s
  | .dbgauth a => Sys2Proof.Machine.execDbgauth a s
  | .dbgacc r => Sys2Proof.Machine.execDbgacc r s
  | .trstLow => Sys2Proof.Machine.execTrstLow s
  | .vcBadCommand port word contend => Sys2Proof.Machine.execVcBadCommand port word contend s
  | .msgBadRequest port frame => Sys2Proof.Machine.execMsgBadRequest port frame s
  | .occupancySample vcFrames => Sys2Proof.Machine.execOccupancySample vcFrames s
  | .dbgauthLockEnd => Sys2Proof.Machine.execDbgauthLockEnd s
  | .responderReady => Sys2Proof.Machine.execResponderReady s
  | .snapshotAreaArmed area => Sys2Proof.Machine.execSnapshotAreaArmed area s

end Sys2Proof.Machine
end

