-- ==== Sys2Proof/WellFormed.lean ====
section
/-! DEFINITION. Which operands a command may carry, where the type of an operand allows more than the manual does. -/
namespace Sys2Proof

/-- Pulses go to at most the 40 cells of a word (R573). -/
def FuseEnv.wf (e : FuseEnv) : Bool := e.pulses.length ≤ 40

/-- A mate frame carries at most 1024 payload octets (R423). -/
def MateHdr.wf (f : MateHdr) : Bool := f.data.length ≤ 1024

/-- A block of an update message: 4 to 224 octets, a multiple of 4 (Table 18.16). -/
def blockWf (d : List Byte) : Bool := 4 ≤ d.length && d.length ≤ 224 && d.length % 4 = 0

/-- The operands are ones that the manual gives the row. -/
def Instr.wf : Instr → Bool
  | .bootStageDone env => env.fuse.wf
  | .bondBoundary env => env.fuse.wf
  | .dieSensorRead ts => ts.length = 8
  | .vcBankChange _ mv ports => mv ≤ 4000 && ports.length ≤ 4
  | .msgAuth _ hmac => hmac.length = 32
  | .msgRead _ _ _ count flags gen => 1 ≤ count.toNat && count.toNat ≤ 58 && flags.toNat ≤ 3 && gen.length = (if flags.getLsbD 1 then 6 else 0)
  | .msgWrite _ _ _ words => 1 ≤ words.length && words.length ≤ 58
  | .imageWrite _ _ data => 4 ≤ data.length && data.length ≤ 232
  | .updateBlock _ _ _ data => blockWf data
  | .recoveryBlock _ _ _ data => blockWf data
  | .updateConfirm _ env => env.wf
  | .fuseProgram _ _ _ env => env.wf
  | .fuseReburn _ _ _ env => env.wf
  | .fuseLock _ _ env => env.wf
  | .mateStatus f => f.wf
  | .ckptData f => f.wf
  | .imgData f => f.wf
  | .disagreementListed row _ => 1 ≤ row.val && row.val ≤ 6
  | .hspReservedCmd cmd _ => !(1 ≤ cmd.toNat && cmd.toNat ≤ 3)
  | _ => true

end Sys2Proof
end

