-- ==== Sys2Proof/Safety.lean ====
section
/-! DEFINITION. The terms that the statements use: the parts of the state, which of them a command may change, the invariant,
and what the collector has been sent. -/
namespace Sys2Proof.Machine

/-! ## Parts -/

/-- The parts of the state, beside the queue. -/
inductive Part where
  /-- The tick count. -/
  | now
  /-- The bond count. -/
  | bond
  /-- The tick of the last bond boundary. -/
  | bondAt
  /-- Whether bonds run. -/
  | bondOn
  /-- The power object, straps and restart. -/
  | pwr
  /-- The rings. -/
  | rings
  /-- The slots of the rings. -/
  | slots
  /-- The station records and firmware relay. -/
  | moor
  /-- The Loop Engine: tiles, slots, outputs, publications, policy registers, lanes. -/
  | loop
  /-- The rails. -/
  | rails
  /-- The voltage command ports. -/
  | vcp
  /-- What a port keeps for its rails. -/
  | vcr
  /-- Inputs and the Power Path Manager. -/
  | pp
  /-- The battery gauge. -/
  | gauge
  /-- The thermal model. -/
  | therm
  /-- The Fault Collector. -/
  | fc
  /-- The keeper core, its checkpoints and frames. -/
  | keeper
  /-- The shelf image, its store and the transaction. -/
  | img
  /-- Sessions, message ports, events, disagreements and the generation number. -/
  | msgs
  /-- The two-wire target and the initiator ports. -/
  | ports
  /-- The recorder, the traces, the counters, the samples and the shelf clock. -/
  | recd
  /-- The Secure Core: OTP, banks, staging, debug. -/
  | sec
  /-- The sense front end. -/
  | adc
  /-- The outputs of GPIO, JTAG and debug. -/
  | pins
  /-- Words that are written directly. -/
  | host
  /-- Writes that wait for the next bond boundary. -/
  | bondWrites
  /-- When the hardware last set each W1C bit. -/
  | w1c
  /-- The model's own count of free values. -/
  | free
  /-- The published generations. -/
  | gens
  deriving DecidableEq, Repr

/-- A part is the same in both states. -/
def Part.same : Part → State → State → Prop
  | .now, s, t => t.live.now = s.live.now
  | .bond, s, t => t.live.bond = s.live.bond
  | .bondAt, s, t => t.live.bondAt = s.live.bondAt
  | .bondOn, s, t => t.live.bondOn = s.live.bondOn
  | .pwr, s, t => t.live.pwr = s.live.pwr
  | .rings, s, t => t.live.rings = s.live.rings
  | .slots, s, t => t.live.slots = s.live.slots
  | .moor, s, t => t.live.moor = s.live.moor
  | .loop, s, t => t.live.loop = s.live.loop
  | .rails, s, t => t.live.rails = s.live.rails
  | .vcp, s, t => t.live.vcp = s.live.vcp
  | .vcr, s, t => t.live.vcr = s.live.vcr
  | .pp, s, t => t.live.pp = s.live.pp
  | .gauge, s, t => t.live.gauge = s.live.gauge
  | .therm, s, t => t.live.therm = s.live.therm
  | .fc, s, t => t.live.fc = s.live.fc
  | .keeper, s, t => t.live.keeper = s.live.keeper
  | .img, s, t => t.live.img = s.live.img
  | .msgs, s, t => t.live.msgs = s.live.msgs
  | .ports, s, t => t.live.ports = s.live.ports
  | .recd, s, t => t.live.recd = s.live.recd
  | .sec, s, t => t.live.sec = s.live.sec
  | .adc, s, t => t.live.adc = s.live.adc
  | .pins, s, t => t.live.pins = s.live.pins
  | .host, s, t => t.live.host = s.live.host
  | .bondWrites, s, t => t.live.bondWrites = s.live.bondWrites
  | .w1c, s, t => t.live.w1c = s.live.w1c
  | .free, s, t => t.live.free = s.live.free
  | .gens, s, t => t.gens = s.gens

/-- The queue and every part but those of `ps` are the same in `t` as in `s`. -/
def SameBut (ps : List Part) (s t : State) : Prop := t.pending = s.pending ∧ ∀ p, p ∉ ps → p.same s t

/-- Every part. -/
def allParts : List Part :=
  [.now, .bond, .bondAt, .bondOn, .pwr, .rings, .slots, .moor, .loop, .rails, .vcp, .vcr, .pp, .gauge, .therm, .fc, .keeper, .img, .msgs, .ports, .recd, .sec, .adc, .pins, .host, .bondWrites, .w1c, .free, .gens]

/-- The outcome is a next state that the property holds of. -/
def Gives (o : Host.Outcome State Fault Refusal) (P : State → Prop) : Prop := ∃ t, o = .next t ∧ P t

/-! ## Fault details -/

/-- The detail word that a source sends for a fault (R372): its code, object, second detail, value and course, stamped with
the tick. -/
def Live.detailOf (l : Live) (code obj : Nat) (aux : Nat := 0) (val : Nat := 0) (course : Half := 0) : Detail :=
  { code := BitVec.ofNat 16 code, obj := BitVec.ofNat 16 obj, aux := BitVec.ofNat 16 aux, val := BitVec.ofNat 32 val,
    course := course, tick := l.tick }

/-- The collector has been sent exactly these details more, behind those that waited. -/
def Raised (s t : State) (ds : List Detail) : Prop := t.live.fc.details = s.live.fc.details ++ ds

/-! ## Resets -/

/-- What flash and OTP hold is the same in both states (R540): the two-word OTP array, both firmware banks, the stored image
slots, the keeper's stored epoch, the gauge's learned records, both snapshot areas, the boot count, and of the written words
those that the settings region holds. -/
structure FlashKept (s t : State) : Prop where
  otp : t.live.sec.otp = s.live.sec.otp
  bankA : t.live.sec.bankA = s.live.sec.bankA
  bankB : t.live.sec.bankB = s.live.sec.bankB
  images : t.live.img.slots = s.live.img.slots
  epoch : t.live.keeper.stored = s.live.keeper.stored
  learned : t.live.gauge.flash = s.live.gauge.flash
  area0 : t.live.recd.area0 = s.live.recd.area0
  area1 : t.live.recd.area1 = s.live.recd.area1
  bootcnt : t.live.recd.bootcnt = s.live.recd.bootcnt
  settings : t.live.host = s.live.host.filter (fun p => storedKey p.1)

/-- Nothing is left of the domains beyond D0: no ring, slot, station, tile, lane, rail, port, input, string or point holds
anything, no session is open, no image is in force and nothing waits for a bond boundary. -/
structure DomainsEmpty (t : State) : Prop where
  rings : t.live.rings = []
  slots : t.live.slots = []
  moor : t.live.moor = {}
  loop : t.live.loop = {}
  rails : t.live.rails = []
  vcp : t.live.vcp = []
  vcr : t.live.vcr = []
  pp : t.live.pp = {}
  strings : t.live.gauge = { flash := t.live.gauge.flash }
  therm : t.live.therm = {}
  faults : t.live.fc = {}
  msgs : t.live.msgs = {}
  image : t.live.img = { slots := t.live.img.slots }
  writes : t.live.bondWrites = []
  lease : t.live.keeper.live = false ∧ t.live.keeper.hbout = false

/-! ## Pattern instructions -/

/-- A lane runs an evaluation that has not ended, and neither a reset of the engine nor debug access holds it. -/
def LaneRuns (s : State) (lane : Nat) (e : Eval) : Prop :=
  (s.live.lane lane).ev = some e ∧ e.ended = false ∧ s.live.laneHeld lane = false

/-- The lane's evaluation executes an instruction with these fields: `PRED` is 0 or P is 1 (R185). -/
def Executes (s : State) (lane : Nat) (f : PatFields) (e : Eval) : Prop := LaneRuns s lane e ∧ (f.pred = true → e.p = true)

/-- The next state differs in nothing but the lane's evaluation, which is as `q` says, and the step that debug access had
allowed the lane, which is used. -/
def LaneGoes (s : State) (lane : Nat) (o : Host.Outcome State Fault Refusal) (q : Eval → Prop) : Prop :=
  Gives o (fun t => SameBut [.loop, .sec] s t ∧ t.live.loop = { s.live.loop with lanes := t.live.loop.lanes } ∧
    (∀ m, m ≠ lane → t.live.lane m = s.live.lane m) ∧
    t.live.sec = { s.live.sec with dbg := { s.live.sec.dbg with stepped := s.live.sec.dbg.stepped.filter (· ≠ lane) } } ∧
    ∃ e', t.live.lane lane = { s.live.lane lane with ev := some e' } ∧ q e')

/-- The evaluation has moved on by one instruction that wrote `v` to register `d` and left P at `p`. -/
def Wrote (e e' : Eval) (d : BitVec 4) (v : Int) (p : Bool) : Prop :=
  e' = { e with pc := e.pc + 1, trail := e'.trail, w := e'.w, p := p } ∧ (e'.wreg d).toInt = v ∧ ∀ n, n ≠ d → e'.wreg n = e.wreg n

/-- sat24, sat56 and sat16 of R187, on integers. -/
def held24 (v : Int) : Int := min (max v (-8388608)) 8388607
def held56 (v : Int) : Int := min (max v (-36028797018963968)) 36028797018963967
def held16 (v : Int) : Int := min (max v (-32768)) 32767

/-- The lane, the opcode and the fields of a pattern instruction. -/
def patternOf : Instr → Option (Nat × Nat × PatFields)
  | .opNop lane f => some (lane.val, 0x00, f)
  | .opEnd lane f => some (lane.val, 0x01, f)
  | .opMac lane f => some (lane.val, 0x04, f)
  | .opMsu lane f => some (lane.val, 0x05, f)
  | .opMul lane f => some (lane.val, 0x06, f)
  | .opClra lane f => some (lane.val, 0x07, f)
  | .opRnd lane f => some (lane.val, 0x08, f)
  | .opAdd lane f => some (lane.val, 0x0C, f)
  | .opSub lane f => some (lane.val, 0x0D, f)
  | .opNeg lane f => some (lane.val, 0x0E, f)
  | .opAbs lane f => some (lane.val, 0x0F, f)
  | .opShl lane f => some (lane.val, 0x10, f)
  | .opShr lane f => some (lane.val, 0x11, f)
  | .opMov lane f => some (lane.val, 0x14, f)
  | .opLdi lane f => some (lane.val, 0x15, f)
  | .opLds lane f => some (lane.val, 0x16, f)
  | .opSts lane f => some (lane.val, 0x17, f)
  | .opLdc lane f => some (lane.val, 0x18, f)
  | .opIn lane f => some (lane.val, 0x1C, f)
  | .opOut lane f => some (lane.val, 0x1D, f)
  | .opPub lane f => some (lane.val, 0x1E, f)
  | .opClamp lane f => some (lane.val, 0x20, f)
  | .opMin lane f => some (lane.val, 0x21, f)
  | .opMax lane f => some (lane.val, 0x22, f)
  | .opCmplt lane f => some (lane.val, 0x24, f)
  | .opCmpgt lane f => some (lane.val, 0x25, f)
  | .opSel lane f => some (lane.val, 0x26, f)
  | .opTrip lane f => some (lane.val, 0x28, f)
  | .opRcrd lane f => some (lane.val, 0x2C, f)
  | .opRcwr lane f => some (lane.val, 0x2D, f)
  | .opTap lane f => some (lane.val, 0x30, f)
  | _ => none

/-- Where the library word that the evaluation is at is this instruction (R181), it runs, and the lane's evaluation moves as `q`
says. -/
def InstrGoes (s : State) (lane : Nat) (e : Eval) (c : Instr) (q : Eval → Prop) : Prop :=
  ∀ n op f, patternOf c = some (n, op, f) → e.word = patWord op f → LaneGoes s lane (exec c s) q

/-! ## Messages -/

/-- What the port holds to be read is the reply to the request with this status and data (R461, R484). -/
def Replied (t : State) (h : MsgHdr) (mop status : Nat) (data : List Byte) : Prop :=
  (t.live.mport h.port).reply = some (msgFrame (MsgHdr.msess h) (BitVec.ofNat 8 mop) (BitVec.ofNat 8 status :: data)) ∧
    (t.live.mport h.port).inbox = none

/-- A request of an opcode reaches a port that is free, under an open session of that port and of at least a class; it is not
the one executed last, its port is the next that is served, and firmware serves it outside HOLDUP (R463, R467, R483, R484,
R556). -/
structure Served (l : Live) (h : MsgHdr) (mop cls : Nat) (body : List Byte) : Prop where
  takes : l.portTakes h.port (msgFrame (MsgHdr.msess h) (BitVec.ofNat 8 mop) body) = true
  firmware : l.serving h.port = .firmware
  turn : l.turn h.port = true
  power : l.pwr.st ≠ .holdup
  number : h.sess ≠ 0
  opened : (l.sess h.sess.toNat).opened = true
  authed : (l.sess h.sess.toNat).pendg = false
  port : (l.sess h.sess.toNat).port = h.port
  cls : cls ≤ (l.sess h.sess.toNat).cls
  fresh : (l.sess h.sess.toNat).repeats { h := h, mop := mop, body := body } = false
  body : bodyOk mop body = true

/-! ## The invariant -/

/-- The numbers of a table rise. -/
def numbersRise {α : Type} (t : Tbl α) : Prop := t.Pairwise (fun p q => p.1 < q.1)

/-- What every step keeps: the published generations are kept once each, in the order of their numbers; the last bond boundary
lies on the timebase's 1 ms grid and not in the future (R48); and every command that waits is well formed. -/
structure State.Inv (s : State) : Prop where
  gens : numbersRise s.gens
  grid : s.live.bondAt % bondTicks = 0
  past : s.live.bondAt ≤ s.live.now
  queue : ∀ c ∈ s.pending, c.wf = true

end Sys2Proof.Machine

namespace Sys2Proof
open Sys2Proof.Machine

/-- The parts that a command may change, whatever it finds; it leaves every other part and the queue as they were. -/
def Instr.parts : Instr → List Part
  | .powerOnReset _ | .vinFall =>
    allParts.filter (fun p => p ∉ [.free])
  | .resetAssert | .safexit | .msgWrite _ _ _ _ | .twReadTransfer _ _ _ | .hspReadMessage _ =>
    allParts.filter (fun p => p ∉ [.now, .free])
  | .resetRelease _ | .powerReturn =>
    allParts.filter (fun p => p ∉ [.now, .free, .gens])
  | .wakeRequest =>
    [.pwr, .fc, .recd, .w1c]
  | .bootStageDone _ | .stagedShutdown | .courseStart _ | .mgmtReplyReceived _ _ _ | .hbinEdge | .mateStatus _ | .heartbeatSilence
  | .claimWindowEnd =>
    allParts.filter (fun p => p ∉ [.now, .bond, .bondAt, .free, .gens])
  | .serviceIdleTimeout | .snapshotPageDone _ =>
    allParts.filter (fun p => p ∉ [.now, .bond, .bondAt, .keeper, .free, .gens])
  | .refLoss =>
    [.pwr, .rings, .slots, .moor, .loop, .rails, .vcr, .pp, .therm, .fc, .keeper, .recd, .w1c]
  | .refReturn =>
    [.pwr, .rings]
  | .domainDown _ | .vcoreLow _ | .vcoreIlim | .recNotArmed =>
    [.fc]
  | .bondBoundary _ =>
    allParts.filter (fun p => p ∉ [.now])
  | .upBrickReceived _ _ _ _ =>
    [.slots, .moor, .loop, .rails, .vcr, .pp, .gauge, .therm, .fc, .recd, .w1c]
  | .callBrick _ =>
    [.rings, .slots, .recd, .w1c]
  | .upRetryReturn _ =>
    [.rings, .slots, .moor, .loop, .recd, .w1c]
  | .downWindow _ =>
    [.rings, .slots, .moor, .loop, .rails, .vcr, .therm, .fc, .recd, .w1c]
  | .checkBrickReceived _ _ _ =>
    [.rings, .recd, .w1c]
  | .headerReturn _ _ _ _ | .rangeCountReturn _ _ _ _ | .ringRangeFail _ | .alignmentLost _ | .commaDrift _ =>
    [.rings, .slots, .moor, .loop, .rails, .vcr, .pp, .therm, .fc, .keeper, .recd, .w1c]
  | .trainingAligned _ =>
    [.rings, .slots, .moor, .loop, .rails, .vcr, .pp, .therm, .keeper, .recd, .w1c]
  | .ringTrainFail _ =>
    [.rings, .fc, .recd, .w1c]
  | .trainingRestart _ =>
    [.rings]
  | .ringSlotLoss _ _ | .loopStall _ =>
    [.slots, .moor, .loop, .rails, .vcr, .pp, .therm, .fc, .recd, .w1c]
  | .buoyBrickReceived _ _ _ =>
    [.rings, .moor, .loop, .rails, .pp, .therm, .recd, .w1c]
  | .mgmtResend _ | .sightAckRefresh _ | .dmissAllSlots _ =>
    [.rings, .moor]
  | .mgmtUnanswered _ =>
    [.rings, .moor, .loop, .rails, .pp, .therm, .fc, .recd, .w1c]
  | .stnIdentFail _ | .stnAdrift _ =>
    [.moor, .loop, .rails, .pp, .therm, .fc, .recd, .w1c]
  | .matchingPass =>
    [.rings, .moor, .loop, .rails, .pp, .therm, .fc, .keeper, .recd, .w1c]
  | .handoverCourse _ =>
    [.loop, .rails]
  | .stnHandoverFail _ =>
    [.rings, .slots, .moor, .loop, .rails, .pp, .therm, .fc, .recd, .w1c]
  | .stnUnstable _ =>
    [.moor, .fc]
  | .tileDispatch _ | .policyDispatch =>
    [.loop, .recd, .w1c, .free]
  | .tileCommit _ =>
    [.slots, .loop, .rails, .fc, .recd, .pins, .w1c, .free]
  | .tileDiscard _ | .loopPolicyLate =>
    [.loop, .fc, .recd, .w1c, .free]
  | .loopOverrun _ =>
    [.loop, .fc]
  | .vcpinWrite _ | .rctlOn _ | .rctlOff _ | .rctlUnlatch _ | .rctlRestore _ _ | .vsetWrite _ _ _ | .gcmdResetlearn _
  | .xcmdStart _ | .xcmdAbort | .kcmdHandover | .kcmdAbort | .rcmdSnapnow | .rcmdFlush | .ccmdTrigger _ | .ccmdRearm _
  | .tcmdArm _ | .tcmdTrigger _ | .tcmdStop _ =>
    [.bondWrites]
  | .opNop _ _ | .opMac _ _ | .opMsu _ _ | .opMul _ _ | .opClra _ _ | .opRnd _ _ | .opAdd _ _ | .opSub _ _ | .opNeg _ _
  | .opAbs _ _ | .opShl _ _ | .opShr _ _ | .opMov _ _ | .opLdi _ _ | .opLds _ _ | .opSts _ _ | .opLdc _ _ | .opIn _ _
  | .opOut _ _ | .opPub _ _ | .opClamp _ _ | .opMin _ _ | .opMax _ _ | .opCmplt _ _ | .opCmpgt _ _ | .opSel _ _
  | .opRcrd _ _ | .opRcwr _ _ | .opTap _ _ | .loopBadOp _ _ =>
    [.loop, .fc, .sec]
  | .opEnd _ _ | .opTrip _ _ =>
    [.loop, .fc, .recd, .sec, .w1c]
  | .railCourseWork _ | .railOv _ | .railUv _ | .fbtimeExpiry _ | .hictimeExpiry _ | .railSsFail _ | .railPhaseOpen _ _
  | .railSenseFail _ _ | .phaseShed _ =>
    [.rails, .vcr, .fc, .recd, .w1c]
  | .hiccntReset _ =>
    [.rails]
  | .setv _ _ _ _ | .getv _ _ _ | .geti _ _ _ | .getp _ _ | .getstatRail _ _ | .getstatSummary _ _ | .ackcap _ _ _
  | .setmodeAuto _ _ _ | .setmodeFull _ _ _ | .setmodeEvmask _ _ _ | .ping _ _ _ | .vcBadCommand _ _ _ =>
    [.vcp, .vcr, .fc, .recd, .w1c]
  | .vcFrameTimeout _ _ =>
    [.vcp, .vcr, .recd, .w1c]
  | .setvSettled _ =>
    [.vcr, .recd, .w1c]
  | .vcSettleFail _ =>
    [.vcr, .fc]
  | .vcCapNoack _ =>
    [.vcr, .pp, .fc]
  | .vcCrcBurst _ =>
    [.vcp, .fc]
  | .vcBankChange _ _ _ =>
    [.vcp, .vcr, .recd, .adc, .w1c]
  | .inputStage _ | .ppPairLost _ =>
    [.pp, .fc, .recd, .w1c]
  | .ppGuardRepeat _ | .cbusMeasure =>
    [.pp, .fc]
  | .gholdExpiry _ =>
    [.loop, .pp, .fc, .recd, .w1c]
  | .pfailLow | .vbusLow =>
    [.pwr, .rails, .pp, .gauge, .therm, .fc, .img, .msgs, .recd, .sec, .w1c]
  | .adcConversion _ _ =>
    [.rails, .pp, .therm, .fc, .recd, .adc, .w1c]
  | .adcRange _ =>
    [.fc, .adc]
  | .fullAnchor _ | .impedanceMeasure _ =>
    [.gauge, .recd, .w1c]
  | .emptyAnchor _ =>
    [.loop, .gauge, .therm, .fc, .recd, .w1c]
  | .packMonitorRead _ =>
    [.gauge, .ports]
  | .capStale _ =>
    [.gauge, .therm, .fc]
  | .journalPeriod _ =>
    [.gauge, .therm]
  | .learnedRecordDone _ _ =>
    [.gauge, .therm, .fc, .recd, .w1c]
  | .exerciseTimeout =>
    [.loop, .gauge, .fc]
  | .dieSensorRead _ =>
    [.loop, .pp, .therm, .fc, .recd, .w1c]
  | .pointUpdate _ | .flushPageDone _ | .captureFreeze _ =>
    [.therm, .fc, .recd, .w1c]
  | .airSensorRead _ =>
    [.therm, .ports]
  | .scrubPass _ =>
    [.slots, .moor, .loop, .rails, .vcr, .pp, .therm, .fc, .img, .msgs, .recd, .w1c]
  | .occurrenceTaken _ | .wireFault _ _ _ _ | .shadowWindowClose _ =>
    [.rings, .slots, .moor, .loop, .rails, .vcr, .pp, .gauge, .therm, .fc, .keeper, .img, .msgs, .ports, .recd, .adc, .pins, .w1c]
  | .blockBack _ =>
    [.loop, .therm, .fc, .recd]
  | .faultLogCopy | .sclockWrite _ =>
    [.fc, .recd, .w1c]
  | .faultClear _ _ _ =>
    [.rings, .moor, .loop, .rails, .pp, .therm, .fc, .img, .msgs, .ports, .recd, .w1c]
  | .heartbeatToggle | .handoverReady _ | .handoverGo _ | .claimWaitExpiry =>
    [.keeper]
  | .kprMateDown | .kprHandoverFail =>
    [.fc, .keeper]
  | .ckptData _ =>
    [.keeper, .recd, .w1c]
  | .ckptAck _ | .ckptBlockTimeout _ | .claimStart =>
    [.fc, .keeper, .recd, .w1c]
  | .claimNotice _ =>
    []
  | .imgData _ =>
    [.pwr, .keeper, .img]
  | .imgAck _ =>
    [.keeper, .img, .msgs, .recd, .w1c]
  | .imageSyncTimeout =>
    [.img, .msgs, .recd, .w1c]
  | .handoverReq _ =>
    [.pwr, .fc, .keeper, .recd, .w1c]
  | .warmingDone =>
    [.moor, .fc, .keeper, .recd, .w1c]
  | .commitComplete _ | .txnTimeout =>
    [.fc, .img, .msgs, .recd, .w1c]
  | .msgOpen _ _ =>
    [.img, .msgs, .ports, .recd, .w1c, .free]
  | .msgAuth _ _ | .msgClose _ | .recoveryFinish _ | .fuseProgram _ _ _ _ | .fuseReburn _ _ _ _ =>
    [.pwr, .fc, .img, .msgs, .ports, .recd, .sec, .w1c]
  | .msgRead _ _ _ _ _ _ | .txnBegin _ | .txnRollback _ | .txnStatus _ | .eventPoll _ _ | .counterRead _ _ _ _
  | .sampleRead _ _ _ | .recordRead _ _ _ _ _ | .imageWrite _ _ _ | .updateStatus _ | .fuseReadNormal _ _
  | .fuseReadMarginLo _ _ | .fuseReadMarginHi _ _ =>
    [.img, .msgs, .ports, .recd, .w1c]
  | .snapPin _ | .snapRelease _ _ =>
    [.img, .msgs, .ports, .recd, .w1c, .gens]
  | .txnCommit _ =>
    [.loop, .keeper, .img, .msgs, .ports, .recd, .w1c]
  | .updateBlock _ _ _ _ | .updateSeal _ | .updateConfirm _ _ =>
    [.fc, .img, .msgs, .ports, .recd, .sec, .w1c]
  | .updateArm _ _ =>
    [.pwr, .moor, .fc, .img, .msgs, .ports, .recd, .sec, .w1c]
  | .recoveryEnter _ =>
    [.pwr, .img, .msgs, .ports, .recd, .sec, .w1c]
  | .recoveryBlock _ _ _ _ | .recoveryAbort _ | .fuseLock _ _ _ =>
    [.img, .msgs, .ports, .recd, .sec, .w1c]
  | .sessionAuthTimeout _ | .sessionIdleTimeout _ =>
    [.pwr, .fc, .img, .msgs, .recd, .sec, .w1c]
  | .authLockEnd _ | .hspStatus _ =>
    [.msgs]
  | .snapPinExpiry _ =>
    [.msgs, .gens]
  | .disagreementListed _ _ =>
    [.msgs, .w1c]
  | .twWriteTransfer _ _ | .hspWriteMessage _ | .hspReservedCmd _ _ | .msgBadRequest _ _ =>
    [.msgs, .recd, .w1c]
  | .twAddressMatch | .twWakeFail =>
    [.ports, .recd, .w1c]
  | .twSclTimeout | .twSdaTimeout =>
    [.fc, .ports, .w1c]
  | .pi2cTransferStart _ _ | .pi2cTransferDone _ _ | .pi2cTimeout _ =>
    [.gauge, .therm, .fc, .ports, .recd, .host, .w1c]
  | .busRecovery _ _ =>
    [.gauge, .therm, .fc, .ports, .recd, .w1c]
  | .flushPage =>
    [.therm, .recd]
  | .recSnapFail =>
    [.fc, .recd]
  | .tracePulseEnd _ =>
    [.recd, .pins]
  | .shelfClockTick | .snapshotAreaArmed _ =>
    [.recd]
  | .jtagIdcode | .jtagBypass _ | .jtagSamplePreload _ _ | .jtagExtest _ _ =>
    [.pins]
  | .dbgauth _ =>
    [.fc, .recd, .sec, .pins, .w1c, .free]
  | .dbgacc _ =>
    [.sec, .pins, .free]
  | .trstLow =>
    [.sec, .pins]
  | .occupancySample _ =>
    [.recd, .w1c]
  | .dbgauthLockEnd =>
    [.sec]
  | .responderReady =>
    [.ports]

end Sys2Proof
end

