-- ==== Sys2Proof/Certificates/Slice0/Obligations.lean ====
section
/-! DEFINITION. The statements about the controller.  Each says what a command does, by the rules its docstring cites; a statement about a
next state also says that the command answers one. -/
open Sys2Proof Sys2Proof.Machine

/-- O1.  The queue is first in, first out: a step takes the command at its front and runs it on the rest. -/
def Obligations.StepRunsFrontCommand : Prop :=
  ∀ (c : Instr) (rest : List Instr) (s : State), s.pending = c :: rest → step s = exec c { s with pending := rest }

/-- O2.  The model's choice (log entry 1): a step on an empty queue is one tick of the timebase, and nothing else; a controller
that is OFF has no timebase. -/
def Obligations.StepIdlesOneTick : Prop :=
  ∀ s : State, s.pending = [] →
    Gives (step s) (fun t => t.live.now = (if s.live.pwr.st = .off then s.live.now else s.live.now + 1) ∧ SameBut [.now] s t)

/-- O3.  Every command has an effect in every state: it ends in a next state, leaves the queue as it was, and changes no part
of the state but those that `Instr.parts` lists for it. -/
def Obligations.EveryCommandKeepsOtherParts : Prop :=
  ∀ (c : Instr) (s : State), Gives (exec c s) (SameBut c.parts s)

/-- O4.  Every step keeps the invariant `State.Inv`, in every state. -/
def Obligations.EveryStepKeepsInvariant : Prop :=
  ∀ s : State, s.Inv → ∀ t, step s = .next t → t.Inv

/-- O5.  The machine right after reset has the invariant. What reset leaves (R4, R16, R540, R543): boot stage 1 with D0 alone
on, nothing held of the rings, the stations, the tiles, the rails, the ports, the inputs, the sessions and the collector, no
lease, no image, nothing published and nothing waiting. -/
def Obligations.ResetLeavesBootStageOneInTheInvariant : Prop :=
  (State.reset.Inv) ∧
  (let l := State.reset.live
   l.pwr.st = .boot ∧ l.pwr.stage = 1 ∧ l.pwr.on = 1 ∧ l.now = 0 ∧ l.bond = 0 ∧ l.keeper.live = false ∧ l.fc.safe = false ∧
     (∀ n, l.ring n = {}) ∧ (∀ i, (l.stn i).st = .unseen) ∧ (∀ t, (l.tile t).st = .unused) ∧ (∀ r, (l.rail r).st = .idle) ∧
     (∀ j, (l.inp j).st = .absent) ∧ (∀ n, (l.sess n).opened = false) ∧ l.fc.details = [] ∧ l.fc.table = [] ∧
     l.img.slot = none ∧ l.img.txn.st = .idle ∧ l.msgs.published = false ∧ State.reset.gens = [] ∧ State.reset.pending = [])

/-- O6.  Power-on reset, loss of `VIN`, and `RESET_N` low and released (R540, R542, R543). Flash and OTP survive each of them,
and nothing of the domains beyond D0 does; `RESET_N` leaves the tick count, the shelf clock and the retention SRAM as well,
silences every ring and clears lease-live; a release samples the straps and starts boot stage 1 with its cause. -/
def Obligations.ResetsKeepFlashAndDropTheRest : Prop :=
  ∀ (s : State) (straps : Straps),
    (let sampled (t : State) : Prop := t.live.pwr.strapRole = straps.role ∧ t.live.pwr.strapAddr = straps.addr ∧
       t.live.pwr.strapRec = straps.gpio0 ∧ t.live.keeper.roleB = straps.role ∧ t.live.ports.addr = straps.addr
     let stageOne (t : State) : Prop := t.live.pwr.st = .boot ∧ t.live.pwr.stage = 1 ∧ t.live.pwr.on = 1 ∧ t.live.pwr.resetLow = false
     Gives (exec (.powerOnReset straps) s) (fun t => FlashKept s t ∧ DomainsEmpty t ∧ sampled t ∧ stageOne t ∧
       t.live.pwr.cause = 0 ∧ t.live.now = 0 ∧ t.live.bond = 0 ∧ t.gens = [] ∧ t.pending = s.pending) ∧
     Gives (exec .vinFall s) (fun t => FlashKept s t ∧ DomainsEmpty t ∧ t.live.pwr.st = .off ∧ t.live.pwr.on = 0 ∧
       t.live.now = 0 ∧ t.gens = [] ∧ t.pending = s.pending) ∧
     (s.live.pwr.st ≠ .off →
       Gives (exec .resetAssert s) (fun t => FlashKept s t ∧ DomainsEmpty t ∧ t.live.pwr.resetLow = true ∧ t.live.pwr.on = 1 ∧
         t.live.now = s.live.now ∧ t.live.recd.clkSet = s.live.recd.clkSet ∧ t.live.recd.clkSec = s.live.recd.clkSec ∧
         t.live.keeper.bufA = s.live.keeper.bufA ∧ t.live.keeper.bufB = s.live.keeper.bufB ∧
         t.live.keeper.epoch = s.live.keeper.epoch ∧ t.gens = [] ∧ t.pending = s.pending)) ∧
     (s.live.pwr.st = .off → exec .resetAssert s = .next s) ∧
     (s.live.pwr.st ≠ .off → s.live.pwr.resetLow = true →
       Gives (exec (.resetRelease straps) s) (fun t => FlashKept s t ∧ DomainsEmpty t ∧ sampled t ∧ stageOne t ∧
         t.live.pwr.cause = 1 ∧ t.live.now = s.live.now ∧ t.live.recd.clkSet = s.live.recd.clkSet ∧
         t.live.recd.clkSec = s.live.recd.clkSec ∧ t.live.keeper.bufA = s.live.keeper.bufA ∧
         t.live.keeper.bufB = s.live.keeper.bufB ∧ t.live.keeper.epoch = s.live.keeper.epoch ∧ t.pending = s.pending)) ∧
     (s.live.pwr.st = .off ∨ s.live.pwr.resetLow = false → exec (.resetRelease straps) s = .next s))

/-- O7.  The boot runs its stages in order (R550, Table 17.3; R549, R551, R554, R567, R578, R587): stage 1 holds while the
reference is lost, stage 2 ends in HELD when OTP fails, stage 3 waits for flash while the die is in `T5`, ends in HELD on a ROM or lockstep
failure and otherwise boots the active bank, the other one, or the recovery ROM; stage 4 ends in RUN or LEAN, and a service boot
in service LEAN. -/
def Obligations.BootStagesFollowTheTable : Prop :=
  ∀ (s : State) (env : StageEnv), s.live.pwr.st = .boot → s.live.pwr.resetLow = false → s.live.pwr.recovery = false →
    (s.live.pwr.stage = 1 → s.live.pwr.refLoss = false →
      Gives (exec (.bootStageDone env) s) (fun t => t.live.pwr.st = .boot ∧ t.live.pwr.stage = 2 ∧
        t.live.pwr.on = s.live.pwr.on ||| 0x80 ∧ t.live.pwr.stageAt = s.live.now ∧ SameBut [.pwr] s t)) ∧
    (s.live.pwr.stage = 1 → s.live.pwr.refLoss = true → exec (.bootStageDone env) s = .next s) ∧
    (s.live.pwr.stage = 2 → env.drift = [] → s.live.zeroiseDue = false → s.live.otpFailures = [] →
      Gives (exec (.bootStageDone env) s) (fun t => t.live.pwr.st = .boot ∧ t.live.pwr.stage = 3 ∧
        t.live.pwr.on = s.live.pwr.on ||| (if s.live.bootFlash then 0x32 else 0x22) ∧
        t.live.sec.lc = s.live.lcNow ∧ t.live.sec.weak = s.live.otpWeak ∧ t.live.sec.intr = s.live.otpIntr ∧ SameBut [.pwr, .sec] s t)) ∧
    (∀ a c rest, s.live.pwr.stage = 2 → env.drift = [] → s.live.zeroiseDue = false → s.live.otpFailures = (a, c) :: rest →
      Gives (exec (.bootStageDone env) s) (fun t => t.live.pwr.st = .held ∧ t.live.pwr.on = 1 ∧ t.live.sec.icause = c ∧
        t.live.sec.iword = a ∧ t.live.sec.iheld = true)) ∧
    (s.live.pwr.stage = 3 → s.live.bootFlash = true → s.live.therm.dband = 5 → exec (.bootStageDone env) s = .next s) ∧
    (s.live.pwr.stage = 3 → (s.live.bootFlash = false ∨ s.live.therm.dband ≠ 5) → (env.romOk = false ∨ env.lockOk = false) →
      Gives (exec (.bootStageDone env) s) (fun t => t.live.pwr.st = .held ∧ t.live.pwr.on = 1)) ∧
    (∀ r, s.live.pwr.stage = 3 → (s.live.bootFlash = false ∨ s.live.therm.dband ≠ 5) → env.romOk = true → env.lockOk = true →
      s.live.sec.boot = some r → r.state ≠ 3 → r.state ≠ 4 → r.state ≠ 5 → s.live.pwr.coldDue = false →
      (s.live.recstrap = false ∨ s.live.pwr.strapRec = false ∨ s.live.woken = true) → s.live.pwr.cause ≠ 7 →
      let four (t : State) : Prop := t.live.pwr.st = .boot ∧ t.live.pwr.stage = 4 ∧ t.live.pwr.recovery = false ∧
        t.live.pwr.on = s.live.pwr.on ||| (if s.live.pwr.svcBoot then 0x50 else 0x5C) ∧
        t.live.recd.bootcnt = (if s.live.woken then s.live.recd.bootcnt else s.live.recd.bootcnt + 1)
      (s.live.bankValid r.bact = true → Gives (exec (.bootStageDone env) s) (fun t => four t ∧ t.live.sec.running = some r.bact)) ∧
      (s.live.bankValid r.bact = false → s.live.bankValid (!r.bact) = true →
        Gives (exec (.bootStageDone env) s) (fun t => four t ∧ t.live.sec.running = some (!r.bact) ∧
          t.live.bootRec.bact = (!r.bact) ∧ t.live.bootRec.state = 6 ∧
          s.live.detailOf 0xC007 0xE001 ∈ t.live.fc.details)) ∧
      (s.live.bankValid r.bact = false → s.live.bankValid (!r.bact) = false →
        Gives (exec (.bootStageDone env) s) (fun t => t.live.pwr.st = .boot ∧ t.live.pwr.stage = 3 ∧
          t.live.pwr.recovery = true ∧ t.live.sec.running = none))) ∧
    (s.live.pwr.stage = 4 → s.live.pwr.svcBoot = false →
      Gives (exec (.bootStageDone env) s) (fun t => t.live.pwr.st = (if t.live.pwr.leanen then .lean else .run))) ∧
    (s.live.pwr.stage = 4 → s.live.pwr.svcBoot = true →
      Gives (exec (.bootStageDone env) s) (fun t => t.live.pwr.st = .lean ∧ t.live.pwr.service = true ∧ t.live.pwr.svcBoot = false))

/-- O8.  A wake acts in COLD alone and starts a service boot (R545, R554); the power return of R559, the return from service
LEAN (R554) and the staged shutdown (R558). -/
def Obligations.WakeShutdownAndPowerReturn : Prop :=
  ∀ s : State,
    (s.live.pwr.st = .cold → s.live.pwr.shut = false → s.live.keeper.st = .watch →
      Gives (exec .wakeRequest s) (fun t => t.live.pwr.st = .boot ∧ t.live.pwr.stage = 2 ∧ t.live.pwr.svcBoot = true ∧
        t.live.pwr.on = 0x81 ∧ t.live.pwr.cause = 4)) ∧
    (s.live.pwr.st ≠ .cold → exec .wakeRequest s = .next s) ∧
    (s.live.pwr.st = .cold → s.live.pwr.shut = true → s.live.pwr.pfailN = true →
      s.live.pwr.pfailAt + fld (s.live.hw 0xD200 0) 30 23 * 2000000 ≤ s.live.now →
      Gives (exec .powerReturn s) (fun t => t.live.pwr.st = .boot ∧ t.live.pwr.stage = 1 ∧ t.live.pwr.cause = 5 ∧
        t.live.pwr.on = 1 ∧ t.live.pwr.shut = false)) ∧
    (s.live.pwr.st = .lean → s.live.pwr.service = true → (∀ n, n < 16 → (s.live.sess n).opened = false) →
      s.live.pwr.idleAt + fld (s.live.hw 0xD200 0) 22 15 * 200000000 ≤ s.live.now →
      Gives (exec .serviceIdleTimeout s) (fun t => t.live.pwr.st = .cold ∧ t.live.pwr.on = 1 ∧ t.live.keeper = s.live.keeper)) ∧
    (s.live.pwr.st = .holdup → s.live.pp.final = true → s.live.recd.snap = none → s.live.recWrites = 0 →
      s.live.keeper.coldAfter = 0 →
      Gives (exec .stagedShutdown s) (fun t => t.live.keeper.live = false ∧
        ((∀ n, n < 8 → (s.live.ring n).st ≠ .running) → s.live.keeper.releasing = [] →
          t.live.pwr.st = .cold ∧ t.live.pwr.shut = true ∧ t.live.pwr.on = 1)))

/-- O9.  Loss of the reference silences every ring that is not OFF, and its return lets each train afresh (R33, R34). Supply
faults reach the collector with their detail (R37, R376, R608), and change nothing outside it. -/
def Obligations.SupplyAndReferenceFaultsAct : Prop :=
  (∀ s : State,
     (s.live.pwr.refLoss = false → s.live.pwr.st ≠ .off →
       Gives (exec .refLoss s) (fun t => t.live.pwr.refLoss = true ∧ t.live.pwr.timeEst = true ∧
         s.live.detailOf 0x0001 0 ∈ t.live.fc.details ∧
         (∀ n, n < 8 → (s.live.ring n).st ≠ .off → (t.live.ring n).st = .training ∧ (t.live.ring n).refSilent = true) ∧
         (∀ n, n < 8 → (s.live.ring n).st = .running ∨ (s.live.ring n).st = .overbooked →
           s.live.detailOf 0x1002 (0x1000 + n) ∈ t.live.fc.details) ∧
         (∀ n, (s.live.ring n).st = .off → t.live.ring n = s.live.ring n))) ∧
     (s.live.pwr.refLoss = true →
       Gives (exec .refReturn s) (fun t => t.live.pwr.refLoss = false ∧ t.live.pwr.timeEst = false ∧
         (∀ n, n < 8 → (s.live.ring n).refSilent = true →
           t.live.ring n = { s.live.ring n with refSilent := false, silent := false, since := s.live.now }) ∧
         (∀ n, (s.live.ring n).refSilent = false → t.live.ring n = s.live.ring n)))) ∧
  (∀ s : State,
     (∀ d : Fin 8, s.live.pwr.on.getLsbD d = true → d.val ∉ s.live.fc.domLost →
       Gives (exec (.domainDown d) s) (fun t => Raised s t [s.live.detailOf 0x0002 0 d] ∧ SameBut [.fc] s t)) ∧
     (s.live.pwr.st ≠ .off →
       Gives (exec (.vcoreLow .undervoltage) s) (fun t => Raised s t [s.live.detailOf 0x0003 0 1] ∧ SameBut [.fc] s t) ∧
       Gives (exec (.vcoreLow .mismatch) s) (fun t => Raised s t [s.live.detailOf 0x0003 0 2] ∧ SameBut [.fc] s t) ∧
       Gives (exec .vcoreIlim s) (fun t => Raised s t [s.live.detailOf 0x0004 0] ∧ t.live.fc.ilim = true ∧ SameBut [.fc] s t)))

/-- O10.  Table 2.17 (R99, R132): alignment, a training failure and its silence, and the loss of alignment. -/
def Obligations.RingTrainingFollowsTheTable : Prop :=
  ∀ (s : State) (n : Fin 8) (errs : List GroupErr),
    ((s.live.ring n).st = .training → (s.live.ring n).refSilent = false →
      ((s.live.ring n).silent = false →
        Gives (exec (.trainingAligned ⟨n, errs⟩) s) (fun t => (t.live.ring n).st = .ranging ∧ (t.live.ring n).passes = 0 ∧
          (t.live.ring n).since = s.live.now ∧ (t.live.ring n).lastPass = none ∧ (∀ m, m ≠ n.val → t.live.ring m = s.live.ring m) ∧
          SameBut [.rings, .keeper, .recd, .w1c] s t)) ∧
      ((s.live.ring n).silent = false → (s.live.ring n).since + 400000 ≤ s.live.now →
        Gives (exec (.ringTrainFail ⟨n, errs⟩) s) (fun t => (t.live.ring n).st = .training ∧ (t.live.ring n).silent = true ∧
          (t.live.ring n).since = s.live.now ∧ Raised s t [s.live.detailOf 0x1003 (0x1000 + n)] ∧
          (∀ m, m ≠ n.val → t.live.ring m = s.live.ring m) ∧ SameBut [.rings, .fc, .recd, .w1c] s t)) ∧
      ((s.live.ring n).silent = true → (s.live.ring n).since + 200000 ≤ s.live.now →
        Gives (exec (.trainingRestart n) s) (fun t => t.live.ring n = { s.live.ring n with silent := false, since := s.live.now } ∧
          (∀ m, m ≠ n.val → t.live.ring m = s.live.ring m) ∧ SameBut [.rings] s t))) ∧
    ((s.live.ring n).st = .running →
      Gives (exec (.alignmentLost ⟨n, errs⟩) s) (fun t => (t.live.ring n).st = .training ∧
        (t.live.ring n).inCourse = false ∧ Raised s t [s.live.detailOf 0x1002 (0x1000 + n)]) ∧
      (16 ≤ (s.live.ring n).drift →
        Gives (exec (.commaDrift n) s) (fun t => (t.live.ring n).st = .training ∧
          Raised s t [s.live.detailOf 0x1002 (0x1000 + n)]))) ∧
    ((s.live.ring n).st = .ranging →
      Gives (exec (.alignmentLost ⟨n, errs⟩) s) (fun t => (t.live.ring n).st = .training ∧ Raised s t [])) ∧
    ((s.live.ring n).drift < 16 → exec (.commaDrift n) s = .next s)

/-- O11.  Ranging (R54, R97, R98): a first pass is kept, two that agree end ranging with the hop count and the delay, two that do
not leave the later one to agree with, a damaged RANGE_COUNT is no return, and eight passes that do not agree start training
again. -/
def Obligations.RangingEndsOnAgreement : Prop :=
  ∀ (s : State) (n : Fin 8) (brick : BitVec 64) (errs : List GroupErr) (delay : Nat), (s.live.ring n).st = .ranging →
    let hop := rangeHop brick
    let acc := rangeAcc brick
    let kept (t : State) : Prop := t.live.ring n = { s.live.ring n with
        passes := (s.live.ring n).passes + 1, lastPass := some (hop, acc, delay), rangeGot := true } ∧
      (∀ m, m ≠ n.val → t.live.ring m = s.live.ring m) ∧ SameBut [.rings, .recd, .w1c] s t
    ((s.live.ring n).inCourse = true → (s.live.ring n).rangeGot = false → (s.live.ring n).passes < 8 →
      rangeCountOk brick errs = true →
      ((s.live.ring n).lastPass = none → Gives (exec (.rangeCountReturn n brick errs delay) s) kept) ∧
      (∀ h a d, (s.live.ring n).lastPass = some (h, a, d) → (h ≠ hop ∨ a ≠ acc ∨ delay + 2 < d ∨ d + 2 < delay) →
        Gives (exec (.rangeCountReturn n brick errs delay) s) kept) ∧
      (∀ d, (s.live.ring n).lastPass = some (hop, acc, d) → d ≤ delay + 2 → delay ≤ d + 2 →
        Gives (exec (.rangeCountReturn n brick errs delay) s) (fun t => (t.live.ring n).ranged = true ∧ (t.live.ring n).hops = hop ∧
          (t.live.ring n).acc = acc ∧ (t.live.ring n).dmeas = delay ∧
          ((t.live.ring n).st = .running ∨ (t.live.ring n).st = .overbooked) ∧ ∀ m, m ≠ n.val → t.live.ring m = s.live.ring m))) ∧
    ((rangeCountOk brick errs = false ∨ (s.live.ring n).rangeGot = true) →
      Gives (exec (.rangeCountReturn n brick errs delay) s) (SameBut [.recd, .w1c] s)) ∧
    (8 ≤ (s.live.ring n).passes →
      Gives (exec (.ringRangeFail n) s) (fun t => (t.live.ring n).st = .training ∧ (t.live.ring n).passes = 0 ∧
        Raised s t [s.live.detailOf 0x1004 (0x1000 + n)]))

/-- O12.  A returned header (R65, R99, R132): a bad one counts towards three, a good one starts the count again, and the
comma's delay is judged against D_meas. -/
def Obligations.ReturnedHeadersAreJudged : Prop :=
  ∀ (s : State) (n : Fin 8) (h : BitVec 64) (errs fill : List GroupErr) (delay : Nat), (s.live.ring n).inCourse = true →
    let bad := errs ≠ [] ∨ headerOk h = false
    let run := if bad then (s.live.ring n).hdrFails + 1 else 0
    let off := (s.live.ring n).st ≠ .ranging ∧ (delay + 2 < (s.live.ring n).dmeas ∨ (s.live.ring n).dmeas + 2 < delay)
    ((s.live.ring n).st ≠ .running ∨ run < 3 →
      Gives (exec (.headerReturn n h ⟨errs, fill⟩ delay) s) (fun t =>
        t.live.ring n = { s.live.ring n with hdrFails := run, drift := if off then (s.live.ring n).drift + 1 else 0 } ∧
        SameBut [.rings, .recd, .w1c] s t)) ∧
    ((s.live.ring n).st = .running → 3 ≤ run →
      Gives (exec (.headerReturn n h ⟨errs, fill⟩ delay) s) (fun t => (t.live.ring n).st = .training ∧
        s.live.detailOf 0x1002 (0x1000 + n) ∈ t.live.fc.details))

/-- O13.  Three lost courses in a row suspend the slot's tile (R93, R129), also one that is suspended already; a slot with
fewer, or one whose run has been acted on, changes nothing. -/
def Obligations.LostSlotSuspendsItsTile : Prop :=
  ∀ (s : State) (n : Fin 8) (k : Fin 32) (tl : Nat), s.live.slotTile n k = some tl → (s.live.slot n k).active = true →
    (3 ≤ (s.live.slot n k).lost → (s.live.slot n k).lossDone = false → (s.live.tile tl).st ≠ .unused →
      Gives (exec (.ringSlotLoss n k) s) (fun t => (t.live.tile tl).st = .suspended ∧ (t.live.slot n k).lossDone = true ∧
        s.live.detailOf 0x1001 (0x3000 + tl) n k ∈ t.live.fc.details ∧
        (∀ u, u ≠ tl → t.live.tile u = s.live.tile u) ∧ (∀ m, t.live.ring m = s.live.ring m) ∧
        (∀ p ∈ s.live.members tl, ∀ q ∈ p.2.slots, (t.live.slot q.1 q.2).buoyed = (s.live.slot q.1 q.2).active) ∧
        ((s.live.tile tl).st ≠ .suspended → ∀ p ∈ s.live.members tl, s.live.bond ∈ (t.live.stn p.1).suspends) ∧
        (∀ r, s.live.tileRail tl = some r → (t.live.rail r).st = .idle))) ∧
    ((s.live.slot n k).lost < 3 ∨ (s.live.slot n k).lossDone = true → exec (.ringSlotLoss n k) s = .next s)

/-- O14.  A course starts (R45, R57, R58, R81, R98): its index, its number and its start are those of the timebase, nothing of it
is done yet, it carries the items of a RUNNING ring or none, and a ranging course before it whose RANGE_COUNT did not come
back counts as a pass without agreement. -/
def Obligations.CourseStartsOnTheGrid : Prop :=
  ∀ (s : State) (n : Fin 8), s.live.courseDue n = true → s.live.keeper.coldAfter = 0 →
    Gives (exec (.courseStart n) s) (fun t =>
      let idx := (s.live.now - s.live.bondAt) / s.live.period n
      (t.live.ring n).inCourse = true ∧ (t.live.ring n).start = s.live.now ∧ (t.live.ring n).idx = idx ∧
      (t.live.ring n).num = BitVec.ofNat 16 (s.live.bond * s.live.perBond n + idx) ∧ (t.live.ring n).called = false ∧
      (t.live.ring n).downSent = false ∧ (t.live.ring n).checked = false ∧ t.live.now = s.live.now ∧ t.live.bond = s.live.bond ∧
      (t.live.ring n).runCourse = decide ((t.live.ring n).st = .running) ∧ (t.live.ring n).upFinal = !(t.live.ring n).runCourse ∧
      ((s.live.ring n).st = .ranging → (s.live.ring n).inCourse = true → (s.live.ring n).rangeGot = false →
        (t.live.ring n).passes = (s.live.ring n).passes + 1 ∧ (t.live.ring n).lastPass = none))

/-- O15.  The bricks of a course (R70, R75, R81, R87, R89, R91, R93): each up-brick is judged valid or failed and its lost course
counted, the call brick asks for the failed ones, the inputs become final, the down window is sent once and to every slot
where it may carry bricks at all, and the check brick names the down-bricks to send again.  A course that began header-only
carries none of them. -/
def Obligations.BricksOfACourseAreJudged : Prop :=
  ∀ (s : State) (n : Fin 8), (s.live.ring n).st = .running → (s.live.ring n).inCourse = true →
    ((s.live.ring n).runCourse = true →
      (∀ (k : Fin 32) (b : BitVec 64) (errs : List GroupErr), (s.live.ring n).upFinal = false → (s.live.slot n k).active = true →
        (s.live.slotRule n k).isSome = true → (s.live.slot n k).up ≠ .valid → s.live.upAt n ≤ s.live.linePos n →
        (errs = [] → upBrickOk b k (s.live.ring n).num = true →
          Gives (exec (.upBrickReceived n k b errs) s) (fun t => (t.live.slot n k).up = .valid ∧ (t.live.slot n k).cur = upVals b ∧
            (t.live.slot n k).lost = (if (upVals b).dmissF = true ∧ (s.live.slot n k).sentPrev = true then (s.live.slot n k).lost + 1 else 0) ∧
            (t.live.slot n k).active = true ∧ ∀ m, m ≠ 32 * n.val + k.val → tget {} t.live.slots m = tget {} s.live.slots m)) ∧
        (errs ≠ [] ∨ upBrickOk b k (s.live.ring n).num = false →
          Gives (exec (.upBrickReceived n k b errs) s) (fun t => t.live.slot n k = { s.live.slot n k with up := .failed } ∧
            SameBut [.slots, .recd, .w1c] s t))) ∧
      ((s.live.ring n).upFinal = false → (s.live.ring n).called = false → (s.live.ring n).retry ≠ 0 →
        s.live.lineIn n (s.live.callAt n) (s.live.retryAt n) = true →
        Gives (exec (.callBrick n) s) (fun t => (t.live.ring n).called = true ∧
          (t.live.ring n).reqmap = slotMap ((s.live.activeSlots n).filter (fun k => (s.live.slot n k).up ≠ .valid)) ∧
          SameBut [.rings, .slots, .recd, .w1c] s t)) ∧
      ((s.live.ring n).upFinal = false → s.live.finalAt n ≤ s.live.linePos n →
        Gives (exec (.upRetryReturn n) s) (fun t => (t.live.ring n).upFinal = true)) ∧
      ((s.live.ring n).downSent = false →
        s.live.lineIn n (s.live.downAt n + 24 * ((s.live.ring n).pairs - 1)) (s.live.checkAt n + 24) = true →
        Gives (exec (.downWindow n) s) (fun t => (t.live.ring n).downSent = true ∧ (t.live.ring n).upFinal = true ∧
          (s.live.mayDown n = true → ∀ k ∈ s.live.ringSlots n, (t.live.slot n k).sentNow = true) ∧
          (s.live.mayDown n = false → ∀ m k, (t.live.slot m k).sentNow = (s.live.slot m k).sentNow))) ∧
      (∀ (b : BitVec 48) (errs : List GroupErr), (s.live.ring n).downSent = true → (s.live.ring n).retry ≠ 0 →
        (s.live.ring n).checked = false → s.live.lineIn n (s.live.checkAt n + 24) (s.live.dretryAt n + 5) = true →
        (errs ≠ [] ∨ ok48 b = false ∨ nbits b.toNat 47 44 ≠ 7 →
          Gives (exec (.checkBrickReceived n b errs) s) (fun t => t.live.ring n = { s.live.ring n with checked := true } ∧
            SameBut [.rings, .recd, .w1c] s t)) ∧
        (errs = [] → ok48 b = true → nbits b.toNat 47 44 = 7 →
          Gives (exec (.checkBrickReceived n b errs) s) (fun t => (t.live.ring n).checked = true ∧
            (t.live.ring n).failmap = BitVec.ofNat 32 (nbits b.toNat 39 8) ∧ SameBut [.rings, .recd, .w1c] s t)))) ∧
    ((s.live.ring n).downSent = true → exec (.downWindow n) s = .next s) ∧
    ((s.live.ring n).runCourse = false → exec (.callBrick n) s = .next s ∧ exec (.upRetryReturn n) s = .next s ∧
      exec (.downWindow n) s = .next s)

/-- O16.  A valid announcement at a hop that no record holds makes a SIGHTED record, with the ring, the hop, the hash and the
type of the brick, and the first DESC_READ is sent; one from the record that holds the hop is acknowledged; a damaged one
makes nothing (R107, R110, R128). -/
def Obligations.AnnouncementMakesSightedRecord : Prop :=
  ∀ (s : State) (n : Fin 8) (b : BitVec 64) (errs : List GroupErr), (s.live.ring n).st = .running ∨ (s.live.ring n).st = .overbooked →
    (s.live.fwWork = true → errs = [] → ok64 b = true → nbits b.toNat 63 60 = 4 → 1 ≤ nbits b.toNat 35 32 → nbits b.toNat 35 32 ≤ 7 →
      1 ≤ nbits b.toNat 31 24 → nbits b.toNat 31 24 ≤ 63 →
      (∀ j, s.live.hopStn n (nbits b.toNat 31 24) = none → s.live.freeStn = some j →
        Gives (exec (.buoyBrickReceived n b errs) s) (fun t => (t.live.stn j).st = .sighted ∧ (t.live.stn j).ring = n ∧
          (t.live.stn j).hop = nbits b.toNat 31 24 ∧ (t.live.stn j).shash.toNat = nbits b.toNat 59 36 ∧
          (t.live.stn j).stype.toNat = nbits b.toNat 35 32 ∧ (t.live.stn j).desc = [] ∧
          (t.live.stn j).req.map (·.mop) = some 5 ∧ (∀ i, i ≠ j → t.live.stn i = s.live.stn i) ∧ SameBut [.rings, .moor] s t)) ∧
      (∀ i, s.live.hopStn n (nbits b.toNat 31 24) = some i → (s.live.stn i).shash.toNat = nbits b.toNat 59 36 →
        Gives (exec (.buoyBrickReceived n b errs) s) (fun t => (t.live.stn i).st = (s.live.stn i).st ∧
          (t.live.stn i).ackAt = s.live.now ∧ (∀ j, j ≠ i → t.live.stn j = s.live.stn j) ∧ SameBut [.rings, .moor] s t))) ∧
    (errs ≠ [] ∨ ok64 b = false → Gives (exec (.buoyBrickReceived n b errs) s) (fun t => SameBut [.recd, .w1c] s t))

/-- O17.  Management requests (R110, R113 to R116, R128): sent again with the same `MSEQ`, counted as unanswered, put off by
BUSY, not answered by a reply with another `MSEQ` or a reserved status, answered with a descriptor word; a station that cannot
be identified is dropped with its fault. -/
def Obligations.ManagementRequestsAreTracked : Prop :=
  ∀ (s : State) (i : Fin 256), s.live.fwWork = true →
    (∀ q, (s.live.stn i).req = some q → (s.live.stn i).reqDefer = false →
      ((s.live.stn i).reqAt + 20000 ≤ s.live.now →
        Gives (exec (.mgmtResend i) s) (fun t => t.live.stn i = { s.live.stn i with reqAt := s.live.now } ∧
          (t.live.ring (s.live.stn i).ring).mgmtq = (s.live.ring (s.live.stn i).ring).mgmtq ++ [q.brick (s.live.stn i).mseq] ∧
          (∀ j, j ≠ i.val → t.live.stn j = s.live.stn j) ∧ SameBut [.rings, .moor] s t)) ∧
      ((s.live.stn i).reqFirst + q.patience ≤ s.live.now → q.mop ≠ 0xA → q.mop ≠ 0xC → q.mop ≠ 0xD →
        (s.live.stn i).st = .matched ∨ (s.live.stn i).st = .moored →
        Gives (exec (.mgmtUnanswered i) s) (fun t => (t.live.stn i).unanswered = (s.live.stn i).unanswered + 1 ∧
          (t.live.stn i).assignBad = ((s.live.stn i).assignBad || (q.mop = 6 && (s.live.stn i).st = .matched)) ∧
          (t.live.stn i).st = (s.live.stn i).st ∧ SameBut [.rings, .moor] s t)) ∧
      (∀ (n : Fin 8) (b : BitVec 64), (s.live.ring n).st = .running → ok64 b = true → nbits b.toNat 63 60 = 8 →
        nbits b.toNat 54 54 = 1 → s.live.hopStn n (nbits b.toNat 15 8) = some i.val →
        nbits b.toNat 51 48 = q.mop.toNat → q.mop ≠ 0 →
        (nbits b.toNat 53 52 ≠ (s.live.stn i).mseq.toNat ∨ 5 < nbits b.toNat 59 55 → exec (.mgmtReplyReceived n b []) s = .next s) ∧
        (nbits b.toNat 53 52 = (s.live.stn i).mseq.toNat →
          (nbits b.toNat 59 55 = 5 → (s.live.stn i).reqBusy < 7 →
            Gives (exec (.mgmtReplyReceived n b []) s) (fun t =>
              t.live.stn i = { s.live.stn i with reqBusy := (s.live.stn i).reqBusy + 1, reqDefer := true } ∧ SameBut [.moor] s t)) ∧
          (nbits b.toNat 59 55 = 0 → q.mop = 5 → (s.live.stn i).st = .sighted → (s.live.stn i).desc.length < 15 →
            Gives (exec (.mgmtReplyReceived n b []) s) (fun t =>
              (t.live.stn i).desc = (s.live.stn i).desc ++ [BitVec.ofNat 32 (nbits b.toNat 47 16)] ∧ (t.live.stn i).st = .sighted ∧
              SameBut [.rings, .moor] s t))))) ∧
    ((s.live.stn i).st = .sighted → 3 ≤ (s.live.stn i).dcrcFails ∨ 8 ≤ (s.live.stn i).unanswered →
      Gives (exec (.stnIdentFail i) s) (fun t => t.live.stn i = {} ∧
        Raised s t [s.live.detailOf 0x2001 (0x2000 + i) ((s.live.stn i).ring * 256 + (s.live.stn i).hop)] ∧
        (∀ j, j ≠ i.val → t.live.stn j = s.live.stn j))) ∧
    ((s.live.stn i).st ≠ .unseen → (s.live.stn i).rule = none → (s.live.stn i).ackAt + 204800000 ≤ s.live.now →
      Gives (exec (.sightAckRefresh i) s) (fun t => (t.live.stn i).ackAt = s.live.now ∧ (t.live.stn i).st = (s.live.stn i).st ∧
        (∀ j, j ≠ i.val → t.live.stn j = s.live.stn j) ∧ SameBut [.rings, .moor] s t))

/-- O18.  The matching pass (R127, R597): every station that was IDENTIFIED is bound to a rule whose checks it passes, barred, or
marked UNPLACED; one whose firmware the running image does not accept is barred. -/
def Obligations.MatchingPassSettlesIdentifiedStations : Prop :=
  ∀ s : State, s.live.working = true → s.live.fwWork = true → s.live.now = s.live.bondAt → s.live.now % 2000000 = 0 →
    Tbl.wf {} s.live.moor.stns = true →
    Gives (exec .matchingPass s) (fun t => t.live.moor.passAt = s.live.now ∧ ∀ i,
      ((s.live.stn i).st = .identified →
        ((t.live.stn i).st = .matched ∧ ∃ n r, (t.live.stn i).rule = some n ∧ s.live.img.cur.rules[n]? = some r ∧
          r.ring = (s.live.stn i).ring ∧ r.stype = (s.live.stn i).stype ∧ r.refuses (s.live.stn i) = none) ∨
        (t.live.stn i).st = .barred ∨
        ((t.live.stn i).st = .identified ∧ (t.live.stn i).reason = .unplaced)) ∧
      ((s.live.stn i).st = .identified → s.live.fwForeign (s.live.stn i) = true →
        (t.live.stn i).st = .barred ∧ (t.live.stn i).reason = .firmware) ∧
      ((s.live.stn i).st ≠ .identified → t.live.stn i = s.live.stn i))

/-- O19.  Handover, and the ways a station leaves its place (R128 to R131, R174, R220, Table 3.8): a tile without rules resumes, a
tile that has not started is handed over with the mean of its due members' duties, and a member that becomes due later
joins alone, without rebasing the tile. -/
def Obligations.HandoverAndLossOfAStation : Prop :=
  ∀ s : State,
    (∀ tl : Fin 160, s.live.hasTile tl = true → s.live.mayHand = true → s.live.isolated tl = false → s.live.tileRules tl = [] →
      (s.live.tile tl).st = .suspended → s.live.working = true →
      Gives (exec (.handoverCourse tl) s) (fun t => t.live.tile tl = { s.live.tile tl with st := .running, rebase := true } ∧
        SameBut [.loop] s t)) ∧
    (∀ tl : Fin 160, s.live.handReady tl = true → s.live.tileRules tl ≠ [] →
      (s.live.tileStarted tl = false → (∀ p ∈ s.live.dueMembers tl, s.live.freshDuty p.2 = true) →
        Gives (exec (.handoverCourse tl) s) (fun t => (t.live.tile tl).handing = (s.live.dueMembers tl).map (·.1) ∧
          (t.live.tile tl).handover = some (meanDuty ((s.live.dueMembers tl).filterMap (·.2.stateDuty))) ∧
          (s.live.tKind tl = 4 → t.live.loop.polQueue.head? = some tl.val) ∧
          (s.live.tKind tl ≠ 4 → t.live.loop.polQueue = s.live.loop.polQueue) ∧ SameBut [.loop] s t)) ∧
      (∀ p rest, s.live.tileStarted tl = true → (s.live.dueMembers tl).filter (fun p => s.live.freshDuty p.2) = p :: rest →
        Gives (exec (.handoverCourse tl) s) (fun t =>
          t.live.tile tl = { s.live.tile tl with handing := [p.1], alone := true } ∧
          (∀ r, s.live.tileRail tl = some r → (t.live.rail r).dwellAt = none ∧ tget {} (t.live.rail r).members p.2.member = {}) ∧
          SameBut [.loop, .rails] s t))) ∧
    (∀ i : Fin 256,
      let aux := (s.live.stn i).ring * 256 + (s.live.stn i).hop
      ((s.live.stn i).st = .matched → (s.live.stn i).assignBad = true →
        Gives (exec (.stnHandoverFail i) s) (fun t => (t.live.stn i).st = .identified ∧ (t.live.stn i).rule = none ∧
          Raised s t [s.live.detailOf 0x2005 (0x2000 + i) aux])) ∧
      ((s.live.stn i).st = .matched → (s.live.stn i).assignBad = false → 64 ≤ (s.live.stn i).dueFor →
        Gives (exec (.stnHandoverFail i) s) (fun t =>
          t.live.stn i = { s.live.stn i with dueFor := 0, handed := false, holdoff := true } ∧
          Raised s t [s.live.detailOf 0x2005 (0x2000 + i) aux])) ∧
      ((s.live.stn i).st = .matched ∨ (s.live.stn i).st = .moored → 8 ≤ (s.live.stn i).silentRun →
        Gives (exec (.stnAdrift i) s) (fun t => t.live.stn i = { s.live.stn i with st := .adrift } ∧
          Raised s t [s.live.detailOf 0x2004 (0x2000 + i) aux])) ∧
      ((s.live.stn i).st ≠ .unseen → 4 ≤ ((s.live.stn i).suspends.filter (fun b => s.live.bond < b + 1000)).length →
        Gives (exec (.stnUnstable i) s) (fun t => t.live.stn i = { s.live.stn i with suspends := [] } ∧
          Raised s t [s.live.detailOf 0x2007 (0x2000 + i) aux] ∧ SameBut [.moor, .fc] s t)))

/-- O20.  TILE_DISPATCH takes the entry at the lane's place in its schedule, latches its inputs and starts it with registers
zero and P 0, at REBASE where that is owed (R138, R149, R163, R173), over the pattern library in force; a lane that still runs
an evaluation, or one that is held, dispatches nothing. -/
def Obligations.LaneDispatchesItsNextEntry : Prop :=
  ∀ (s : State) (lane : Fin 8) (t n c : Nat),
    let l := s.live
    let k := l.lane lane
    let r := l.record_ t
    let m := l.modTile t (fun k => { k with rebase := k.rebase || k.changed })
    let at_ := k.base + c * l.period n
    (∀ e, k.ev = some e → e.ended = false ∨ e.dropped = false → exec (.tileDispatch lane) s = .next s) ∧
    (l.laneHeld lane = true → exec (.tileDispatch lane) s = .next s) ∧
    (l.working = true → k.ev = none → k.cycle ≠ 0 → l.laneHeld lane = false →
      k.sched[k.pos]? = some (t, c) → l.courseTile t = true → l.tileRing t = some n → k.since ≤ at_ → at_ ≤ l.now →
      (l.ring n).inCourse = true → (l.ring n).start = at_ →
      l.fc.safe = false → l.isolated t = false → (l.tile t).st = .running → l.decimated t n (l.ring n).num = false →
      l.inputsFinal t = true →
      Gives (exec (.tileDispatch lane) s) (fun u => (u.live.lane lane).pos = k.pos + 1 ∧ (u.live.lane lane).sched = k.sched ∧
        (u.live.lane lane).base = k.base ∧ u.live.tile t = m.tile t ∧
        (∀ j : Fin 8, j ≠ lane → u.live.lane j = l.lane j) ∧
        ∃ e, (u.live.lane lane).ev = some e ∧ e.tile = t ∧ e.ring = some n ∧ e.num = (l.ring n).num ∧ e.record = r ∧ e.lib = l.img.cur.lib ∧
          e.inRebase = ((l.tile t).rebase || (l.tile t).changed || (l.tile t).handover.isSome) ∧
          e.pc = (if e.inRebase then recPrebase r else recPmain r) ∧ e.w = [] ∧ e.acc = 0 ∧ e.p = false ∧ e.startAt = l.now ∧
          e.ended = false ∧ e.dropped = false ∧ e.bad = false ∧ e.outSet = [] ∧ e.slotSet = [] ∧ e.pubSet = [] ∧ e.tapSet = [] ∧
          (∀ i, i < 8 → tget 0 e.ins i = (m.latchInput (m.latchOf n) t (recIn r i) false).1 ∧
            e.sts[i]? = some (m.latchInput (m.latchOf n) t (recIn r i) false).2)))

/-- O21.  TILE_COMMIT makes every buffered write of the evaluation visible at once, and nothing of another tile (R151, R183);
TILE_DISCARD drops them all, and the tile keeps what it last committed (R153, R176, R207); where the tile was suspended, that
counts as no discard. -/
def Obligations.CommitIsWholeAndDiscardIsNothing : Prop :=
  ∀ (s : State) (lane : Fin 8) (e : Eval), (s.live.lane lane).ev = some e → e.dropped = false → (s.live.tile e.tile).st = .running →
    s.live.isolated e.tile = false →
    (e.ended = true → e.bad = false → s.live.late e = false →
      let fresh := (s.live.tile e.tile).changed && recFresh e.record
      Gives (exec (.tileCommit lane) s) (fun t =>
        (∀ k, k < 4 → t.live.outp e.tile k = if k ∈ e.outSet then tget 0 e.outs k else if fresh then 0 else s.live.outp e.tile k) ∧
        (∀ k, k < 8 → tget 0 t.live.loop.pubs (8 * e.tile + k) =
          if k ∈ e.pubSet then tget 0 e.pubs k else tget 0 s.live.loop.pubs (8 * e.tile + k)) ∧
        (∀ k, k < 16 → tget 0 t.live.loop.slots (16 * e.tile + k) =
          if fresh = true ∨ k ∈ e.slotSet then e.slotWord k &&& 0x01FFFFFF else tget 0 s.live.loop.slots (16 * e.tile + k)) ∧
        (∀ m, m / 4 ≠ e.tile → tget 0 t.live.loop.outs m = tget 0 s.live.loop.outs m) ∧
        (∀ m, m / 8 ≠ e.tile → tget 0 t.live.loop.pubs m = tget 0 s.live.loop.pubs m) ∧
        (∀ m, m / 16 ≠ e.tile → tget 0 t.live.loop.slots m = tget 0 s.live.loop.slots m) ∧
        (∀ m, m ≠ e.tile → t.live.tile m = s.live.tile m) ∧
        (t.live.tile e.tile).everCommitted = true ∧ (t.live.tile e.tile).ovr = 0 ∧ (t.live.tile e.tile).discarded = false ∧
        (t.live.tile e.tile).changed = ((s.live.tile e.tile).changed && !e.ranRebase) ∧
        (t.live.lane lane).ev = none ∧ (e.tapSet = [] → t.live.fc = s.live.fc))) ∧
    (s.live.fc.safe = false → s.live.late e = true ∨ (e.ended = true ∧ e.bad = true) →
      Gives (exec (.tileDiscard lane) s) (fun t =>
        t.live.loop.outs = s.live.loop.outs ∧ t.live.loop.slots = s.live.loop.slots ∧ t.live.loop.pubs = s.live.loop.pubs ∧
        t.live.loop.rcPool = s.live.loop.rcPool ∧ t.live.loop.pol = s.live.loop.pol ∧ t.live.slots = s.live.slots ∧
        (t.live.tile e.tile).ovr = min 255 ((s.live.tile e.tile).ovr + 1) ∧ (∀ m, m ≠ e.tile → t.live.tile m = s.live.tile m) ∧
        (∀ n, e.ring = some n → (t.live.tile e.tile).discarded = ((s.live.tile e.tile).discarded || decide ((s.live.ring n).num = e.num)) ∧
          t.live.fc = s.live.fc) ∧
        (e.ring = none → Raised s t [s.live.detailOf 0x3005 (oTile e.tile) lane]) ∧
        (t.live.lane lane).ev = if e.ended then none else some { e with dropped := true })) ∧
    (e.handover = false → s.live.late e = false → (e.ended = false ∨ e.bad = false) →
      ∀ u : State, u.live = s.live.modTile e.tile (fun k => { k with st := .suspended }) →
        Gives (exec (.tileDiscard lane) u) (fun t => t.live.loop = { u.live.loop with lanes := t.live.loop.lanes } ∧
          (t.live.lane lane).ev = (if e.ended then none else some { e with dropped := true }) ∧ t.live.fc = u.live.fc))

/-- O22.  What runs of discards raise (R155, R156), and the POLICY tiles of a bond (R176). -/
def Obligations.OverrunsStallAndPolicyTilesAreLate : Prop :=
  ∀ (s : State) (tile : Fin 160),
    (s.live.courseTile tile = true → 2 ≤ (s.live.tile tile).ovr → (s.live.tile tile).overrun = false →
      Gives (exec (.loopOverrun tile) s) (fun t => Raised s t [s.live.detailOf 0x3001 (oTile tile) (s.live.laneOf tile)] ∧
        t.live.tile tile = { s.live.tile tile with overrun := true } ∧ (∀ m, m ≠ tile.val → t.live.tile m = s.live.tile m) ∧
        SameBut [.loop, .fc] s t)) ∧
    ((s.live.tile tile).ovr < 2 ∨ (s.live.tile tile).overrun = true → exec (.loopOverrun tile) s = .next s) ∧
    (s.live.courseTile tile = true → 8 ≤ (s.live.tile tile).ovr → (s.live.tile tile).stalled = false → (s.live.tile tile).st = .running →
      Gives (exec (.loopStall tile) s) (fun t => Raised s t [s.live.detailOf 0x3002 (oTile tile) (s.live.laneOf tile)] ∧
        (t.live.tile tile).st = .suspended ∧ (t.live.tile tile).stalled = true ∧ (t.live.tile tile).ovr = (s.live.tile tile).ovr ∧
        (∀ p ∈ s.live.members tile, ∀ q ∈ p.2.slots, (t.live.slot q.1 q.2).buoyed = (s.live.slot q.1 q.2).active) ∧
        (∀ r, s.live.tileRail tile = some r → (t.live.rail r).st = .idle))) ∧
    (∀ n t rest, s.live.policyLane = some n → s.live.working = true → s.live.fc.safe = false → (s.live.lane n).ev = none →
      s.live.laneHeld n = false → s.live.loop.polQueue = t :: rest → (s.live.tile t).st = .running → s.live.isolated t = false →
      Gives (exec .policyDispatch s) (fun u => u.live.loop.polQueue = rest ∧ ∃ e, (u.live.lane n).ev = some e ∧ e.tile = t ∧
        e.ring = none ∧ e.num = 0 ∧ e.w = [] ∧ e.acc = 0 ∧ e.p = false)) ∧
    (∀ n, s.live.policyLane = some n →
      Gives (exec .loopPolicyLate s) (fun t => t.live.loop.polLate = [] ∧ t.live.loop.outs = s.live.loop.outs ∧
        ((s.live.lane n).ev = none → Raised s t
          ((s.live.loop.polLate.filter (fun m => (s.live.tile m).st = .running)).map (fun m => s.live.detailOf 0x3005 (oTile m) n))) ∧
        (∀ e, (s.live.lane n).ev = some e → e.ring = none → e.dropped = false → e.startAt < s.live.bondAt →
          Raised s t (s.live.detailOf 0x3005 (oTile e.tile) n ::
            (s.live.loop.polLate.filter (fun m => (s.live.tile m).st = .running)).map (fun m => s.live.detailOf 0x3005 (oTile m) n)))))

/-- O23.  ADD, SUB, NEG, ABS, MOV and SEL: sums saturate and never wrap (R186, R187). -/
def Obligations.SumsSaturateAndNeverWrap : Prop :=
  ∀ (s : State) (lane : Fin 8) (f : PatFields) (e : Eval), Executes s lane f e → f.imm = 0 →
    let a := (e.wreg f.srca).toInt
    let b := (e.wreg f.srcb).toInt
    InstrGoes s lane e (.opAdd lane f) (fun e' => Wrote e e' f.dst (held24 (a + b)) e.p) ∧
    InstrGoes s lane e (.opSub lane f) (fun e' => Wrote e e' f.dst (held24 (a - b)) e.p) ∧
    InstrGoes s lane e (.opSel lane f) (fun e' => Wrote e e' f.dst (if e.p then a else b) e.p) ∧
    (f.srcb = 0 →
      InstrGoes s lane e (.opNeg lane f) (fun e' => Wrote e e' f.dst (held24 (-a)) e.p) ∧
      InstrGoes s lane e (.opAbs lane f) (fun e' => Wrote e e' f.dst (held24 a.natAbs) e.p) ∧
      InstrGoes s lane e (.opMov lane f) (fun e' => Wrote e e' f.dst a e.p))

/-- O24.  SHL saturates, SHR rounds toward minus infinity, LDI always fits, LDC saturates (R186 to R188). -/
def Obligations.ShiftsAndConstantsFit : Prop :=
  ∀ (s : State) (lane : Fin 8) (f : PatFields) (e : Eval), Executes s lane f e → f.srcb = 0 →
    let a := (e.wreg f.srca).toInt
    (f.imm.toNat ≤ 23 →
      InstrGoes s lane e (.opShl lane f) (fun e' => Wrote e e' f.dst (held24 (a * 2 ^ f.imm.toNat)) e.p) ∧
      InstrGoes s lane e (.opShr lane f) (fun e' => Wrote e e' f.dst (a / 2 ^ f.imm.toNat) e.p)) ∧
    (f.srca.toNat ≤ 11 →
      InstrGoes s lane e (.opLdi lane f) (fun e' => Wrote e e' f.dst (f.imm.toInt * 2 ^ f.srca.toNat) e.p)) ∧
    (f.srca = 0 → f.imm.toNat < 16 →
      InstrGoes s lane e (.opLdc lane f)
        (fun e' => Wrote e e' f.dst (held24 ((recCoef e.record f.imm.toNat).toInt * 8)) e.p))

/-- O25.  MAC, MSU, MUL and CLRA: products are exact in the accumulator, which saturates; RND alone rounds (R186, R187). -/
def Obligations.ProductsAccumulateExactly : Prop :=
  ∀ (s : State) (lane : Fin 8) (f : PatFields) (e : Eval), Executes s lane f e → f.dst = 0 →
    let acc (e' : Eval) (v : Int) : Prop := e' = { e with pc := e.pc + 1, trail := e'.trail, acc := e'.acc } ∧ e'.acc.toInt = v
    let p := if f.imm = 1 then (e.wreg f.srca).toInt * (e.wreg f.srcb).toInt * 4
      else (e.wreg f.srca).toInt * (recCoef e.record f.srcb.toNat).toInt * 32
    (f.imm.toNat ≤ 1 →
      InstrGoes s lane e (.opMac lane f) (fun e' => acc e' (held56 (e.acc.toInt + p))) ∧
      InstrGoes s lane e (.opMsu lane f) (fun e' => acc e' (held56 (e.acc.toInt - p))) ∧
      InstrGoes s lane e (.opMul lane f) (fun e' => acc e' p)) ∧
    (f.srca = 0 → f.srcb = 0 → f.imm = 0 → InstrGoes s lane e (.opClra lane f) (fun e' => acc e' 0)) ∧
    (∀ d, f.srca = 0 → f.srcb = 0 → f.imm.toNat < 8 →
      InstrGoes s lane e (.opRnd lane { f with dst := d })
        (fun e' => Wrote e e' d (held24 (roundEven e.acc.toInt (25 - f.imm.toNat))) e.p))

/-- O26.  MIN, MAX, CLAMP and the compares are exact on signed codes, and set P as their mode says (R186, R189, R192, R193). -/
def Obligations.ComparesAndLimitsSetP : Prop :=
  ∀ (s : State) (lane : Fin 8) (f : PatFields) (e : Eval), Executes s lane f e →
    let a := (e.wreg f.srca).toInt
    let b := (e.wreg f.srcb).toInt
    let setp := f.imm.getLsbD 2
    let lim (lo hi : Int) : Prop := InstrGoes s lane e (.opClamp lane f)
      (fun e' => Wrote e e' f.dst (min (max a lo) hi) (if setp then decide (a < lo ∨ hi < a) else e.p))
    let cmp (c : Instr) (r : Bool) : Prop := InstrGoes s lane e c (fun e' =>
      e' = { e with pc := e.pc + 1, trail := e'.trail,
                    p := if f.imm.toNat % 4 = 0 then r else if f.imm.toNat % 4 = 1 then e.p && r
                      else if f.imm.toNat % 4 = 2 then e.p || r else !r })
    (f.imm = 0 ∨ f.imm = 4 →
      InstrGoes s lane e (.opMin lane f) (fun e' => Wrote e e' f.dst (min a b) (if setp then decide (b < a) else e.p)) ∧
      InstrGoes s lane e (.opMax lane f) (fun e' => Wrote e e' f.dst (max a b) (if setp then decide (a < b) else e.p)) ∧
      (f.srcb.toNat ≤ 14 → lim b (e.wreg (f.srcb + 1)).toInt)) ∧
    (f.imm = 1 ∨ f.imm = 5 → lim (recOmin e.record).toInt (recOmax e.record).toInt) ∧
    (f.imm = 2 ∨ f.imm = 6 → lim (-(held24 b.natAbs)) (held24 b.natAbs)) ∧
    (f.dst = 0 → f.imm.toNat < 4 →
      cmp (.opCmplt lane f) (decide (a < b)) ∧ cmp (.opCmpgt lane f) (decide (b < a))) ∧
    (f.dst = 0 → 4 ≤ f.imm.toNat → f.imm.toNat < 8 →
      cmp (.opCmplt lane f) (decide (a < 0)) ∧ cmp (.opCmpgt lane f) (decide (0 < a))) ∧
    (f.dst = 0 → f.srca = 0 → f.srcb = 0 → 8 ≤ f.imm.toNat → f.imm.toNat < 12 →
      cmp (.opCmplt lane f) (decide (e.acc.toInt < 0)) ∧ cmp (.opCmpgt lane f) (decide (0 < e.acc.toInt)))

/-- O27.  IN reads what dispatch latched and sets P from its status (R190, R191); LDS reads the last STS of the evaluation or
the committed slot (R182); RCRD reads the table while it may be used, else zero (R200). -/
def Obligations.LoadsReadWhatDispatchLatched : Prop :=
  ∀ (s : State) (lane : Fin 8) (f : PatFields) (e : Eval), Executes s lane f e → f.srca = 0 → f.srcb = 0 →
    (f.imm.toNat < 64 → f.imm.toNat % 16 < 12 →
      let i := f.imm.toNat % 16
      let m := f.imm.toNat / 16
      let st := if i < 8 then e.sts.getD i .valid else .valid
      InstrGoes s lane e (.opIn lane f)
        (fun e' => Wrote e e' f.dst (if i < 8 then tget 0 e.ins i else tget 0 e.conts (i - 8)).toInt
          (if m = 0 then e.p else if m = 1 then decide (st = .valid) else if m = 2 then decide (st ≠ .held) else decide (st = .held)))) ∧
    (f.imm.toNat < 32 →
      let i := f.imm.toNat % 16
      let v := if i ∈ e.slotSet then tget 0 e.slots i else tget 0 e.slots0 i
      InstrGoes s lane e (.opLds lane f)
        (fun e' => Wrote e e' f.dst (v.setWidth 24).toInt (if f.imm.toNat < 16 then e.p else v.getLsbD 24))) ∧
    (f.imm = 0 →
      let k := s.live.tile e.tile
      InstrGoes s lane e (.opRcrd lane f)
        (fun e' => Wrote e e' f.dst (if s.live.rcUsable e then
          (tget 0 s.live.loop.rcPool (recRcBase e.record + (k.rcK + recRclead e.record) % k.rcM)).toInt * 256 else 0) e.p))

/-- O28.  STS, OUT, PUB, TAP and RCWR write into the evaluation alone, the last write to a place stands (R151, R183, R194,
R196, R201, R204), and RCWR writes nothing while learning is frozen (R202). -/
def Obligations.StoresAreBuffered : Prop :=
  ∀ (s : State) (lane : Fin 8) (f : PatFields) (e : Eval), Executes s lane f e → f.dst = 0 → f.srcb = 0 →
    let a := e.wreg f.srca
    (f.imm.toNat < 32 →
      let i := f.imm.toNat % 16
      InstrGoes s lane e (.opSts lane f) (fun e' =>
        e' = { e with pc := e.pc + 1, trail := e'.trail, slots := e'.slots, slotSet := e'.slotSet } ∧
        i ∈ e'.slotSet ∧ (e'.slotWord i).setWidth 24 = a ∧
        (e'.slotWord i).getLsbD 24 = (decide (16 ≤ f.imm.toNat) && e.p) ∧
        (e'.slotWord i).getLsbD 25 = (e.slotWord i).getLsbD 25 ∧
        ∀ n, n ≠ i → e'.slotWord n = e.slotWord n ∧ (n ∈ e'.slotSet ↔ n ∈ e.slotSet))) ∧
    (f.imm.toNat < 4 →
      InstrGoes s lane e (.opOut lane f) (fun e' =>
        e' = { e with pc := e.pc + 1, trail := e'.trail, outs := e'.outs, outSet := e'.outSet } ∧
        tget 0 e'.outs f.imm.toNat = a ∧ f.imm.toNat ∈ e'.outSet ∧
        ∀ n, n ≠ f.imm.toNat → tget 0 e'.outs n = tget 0 e.outs n ∧ (n ∈ e'.outSet ↔ n ∈ e.outSet))) ∧
    (f.imm.toNat < 8 →
      InstrGoes s lane e (.opPub lane f) (fun e' =>
        e' = { e with pc := e.pc + 1, trail := e'.trail, pubs := e'.pubs, pubSet := e'.pubSet } ∧
        tget 0 e'.pubs f.imm.toNat = a ∧ f.imm.toNat ∈ e'.pubSet ∧
        ∀ n, n ≠ f.imm.toNat → tget 0 e'.pubs n = tget 0 e.pubs n ∧ (n ∈ e'.pubSet ↔ n ∈ e.pubSet)) ∧
      InstrGoes s lane e (.opTap lane f) (fun e' =>
        e' = { e with pc := e.pc + 1, trail := e'.trail, taps := e'.taps, tapSet := e'.tapSet } ∧
        tget 0 e'.taps f.imm.toNat = a ∧ f.imm.toNat ∈ e'.tapSet ∧
        ∀ n, n ≠ f.imm.toNat → tget 0 e'.taps n = tget 0 e.taps n ∧ (n ∈ e'.tapSet ↔ n ∈ e.tapSet))) ∧
    (f.imm = 0 →
      let old := e.rc.getD (tget 0 s.live.loop.rcPool (recRcBase e.record + (s.live.tile e.tile).rcK))
      InstrGoes s lane e (.opRcwr lane f) (fun e' =>
        if s.live.rcUsable e = true ∧ e.frozen = false ∧ e.ranRebase = false ∧ e.inRebase = false then
          ∃ v, e' = { e with pc := e.pc + 1, trail := e'.trail, rc := some v } ∧
            v.toInt = held16 (roundEven (recRcq e.record * old.toInt * 256 + recRcl e.record * a.toInt) 16)
        else e' = { e with pc := e.pc + 1, trail := e'.trail }))

/-- O29.  NOP has no effect; END of REBASE starts MAIN with registers, accumulator and P zero, and END of MAIN ends the
evaluation (R181); TRIP raises its code once in an evaluation (R195). -/
def Obligations.EndRunsMainAndTripRaisesOnce : Prop :=
  ∀ (s : State) (lane : Fin 8) (e : Eval), LaneRuns s lane e →
    InstrGoes s lane e (.opNop lane {}) (fun e' => e' = { e with pc := e.pc + 1, trail := e'.trail }) ∧
    (e.inRebase = false →
      InstrGoes s lane e (.opEnd lane {}) (fun e' => e' = { e with ended := true, trail := e'.trail })) ∧
    (e.inRebase = true → e.word = patWord 0x01 {} →
      Gives (exec (.opEnd lane {}) s) (fun t => t.live.loop.outs = s.live.loop.outs ∧ t.live.fc = s.live.fc ∧
        (∀ m, m ≠ lane.val → t.live.lane m = s.live.lane m) ∧ ∃ e', (t.live.lane lane).ev = some e' ∧
          e' = { e with inRebase := false, ranRebase := true, w := [], acc := 0, p := false, pc := recPmain e.record,
                        trail := e'.trail })) ∧
    (∀ f : PatFields, (f.pred = true → e.p = true) → f.dst = 0 → f.srcb = 0 → f.imm.toNat < 256 → e.word = patWord 0x28 f →
      Gives (exec (.opTrip lane f) s) (fun t => t.live.loop.outs = s.live.loop.outs ∧
        (∀ m, m ≠ lane.val → t.live.lane m = s.live.lane m) ∧
        (∃ e', (t.live.lane lane).ev = some e' ∧ e' = { e with pc := e.pc + 1, trail := e'.trail, trips := e'.trips } ∧
          f.imm.setWidth 8 ∈ e'.trips) ∧
        (if f.imm.setWidth 8 ∈ e.trips then t.live.fc = s.live.fc
         else Raised s t [s.live.detailOf (0x3100 + f.imm.toNat) (oTile e.tile) lane ((e.wreg f.srca).signExtend 32).toNat e.num])))

/-- O30.  An instruction with `PRED` = 1 has no effect while P is 0, whichever it is, but that the evaluation moves on (R185).
A reserved encoding raises LOOP_BAD_OP and has no other effect, whatever P is, and its evaluation is marked for discard (R185,
R207); a lane that runs no evaluation executes nothing, nor does one whose library word is another instruction (R181). -/
def Obligations.PredicateAndReservedEncodings : Prop :=
  (∀ (s : State) (c : Instr) (lane op : Nat) (f : PatFields) (e : Eval), patternOf c = some (lane, op, f) → LaneRuns s lane e →
     e.word = patWord op f → patReserved op f = false → f.pred = true → e.p = false →
     LaneGoes s lane (exec c s) (fun e' => e' = { e with pc := e.pc + 1, trail := e'.trail })) ∧
  (∀ (s : State) (c : Instr) (lane op : Nat) (f : PatFields) (e : Eval),
     (patternOf c = some (lane, op, f) ∧ patReserved op f = true ∨
       ∃ m : Fin 8, c = .loopBadOp m (patWord op f) ∧ lane = m.val ∧ op < 64 ∧ patReserved op f = true) →
     (LaneRuns s lane e → e.word = patWord op f →
       Gives (exec c s) (fun t => Raised s t [s.live.detailOf 0x3006 (oTile e.tile) lane] ∧
         t.live.fc = { s.live.fc with details := t.live.fc.details } ∧ SameBut [.loop, .sec, .fc] s t ∧
         t.live.loop = { s.live.loop with lanes := t.live.loop.lanes } ∧ (∀ m, m ≠ lane → t.live.lane m = s.live.lane m) ∧
         ∃ e', t.live.lane lane = { s.live.lane lane with ev := some e' } ∧
           e' = { e with bad := true, pc := e.pc + 1, trail := e'.trail })) ∧
     ((s.live.lane lane).ev = none → exec c s = .next s)) ∧
  (∀ (s : State) (c : Instr) (lane op : Nat) (f : PatFields) (e : Eval), patternOf c = some (lane, op, f) → LaneRuns s lane e →
     e.word ≠ patWord op f → exec c s = .next s)

/-- O31.  A host command with effect "at the next bond boundary" changes nothing at once: its word waits behind those that wait
already (R11, R160, R215, R240, R335, R433, R536). -/
def Obligations.HostCommandsWaitForTheBoundary : Prop :=
  ∀ s : State,
    let waits (c : Instr) (oid w : Nat) (v : Word) : Prop :=
      Gives (exec c s) (fun t => t.live.bondWrites = s.live.bondWrites ++ [(256 * oid + w, v)] ∧ SameBut [.bondWrites] s t)
    (∀ r : Fin 48, waits (.rctlOn r) (0x4000 + r) 7 0x40000000 ∧ waits (.rctlOff r) (0x4000 + r) 7 0x80000000 ∧
      waits (.rctlUnlatch r) (0x4000 + r) 7 0xC0000000 ∧
      (∀ m, waits (.rctlRestore r m) (0x4000 + r) 7 (0x10000000#32 ||| m.setWidth 32 <<< 20)) ∧
      (∀ v g, s.live.railPort r = none → s.live.cf (0x4000 + r) 2 15 0 ≤ v.toNat → v.toNat ≤ s.live.cf (0x4000 + r) 2 31 16 →
        waits (.vsetWrite r v g) (0x4000 + r) 8 (v.setWidth 32 <<< 16 ||| g.setWidth 32 <<< 13)) ∧
      (∀ v g, s.live.railPort r ≠ none ∨ v.toNat < s.live.cf (0x4000 + r) 2 15 0 ∨ s.live.cf (0x4000 + r) 2 31 16 < v.toNat →
        exec (.vsetWrite r v g) s = .next s)) ∧
    (∀ v, s.live.pwr.on.getLsbD 1 = true → waits (.vcpinWrite v) 0x3FFF 0 (v.setWidth 32 <<< 24)) ∧
    (∀ k : Fin 16, waits (.gcmdResetlearn k) (0x7000 + k) 11 0x40000000 ∧
      waits (.xcmdStart k) 0x7FFF 2 (0x40000000#32 ||| BitVec.ofNat 32 k.val <<< 26)) ∧
    waits .xcmdAbort 0x7FFF 2 0x80000000 ∧ waits .kcmdHandover 0xA000 1 0x40000000 ∧ waits .kcmdAbort 0xA000 1 0x80000000 ∧
    waits .rcmdSnapnow 0xB000 3 0x40000000 ∧ waits .rcmdFlush 0xB000 3 0x80000000 ∧
    (∀ k : Fin 4, waits (.ccmdTrigger k) (0xB200 + k) 6 0x40000000 ∧ waits (.ccmdRearm k) (0xB200 + k) 6 0x80000000) ∧
    (∀ k : Fin 8, waits (.tcmdArm k) (0xB100 + k) 5 0x40000000 ∧ waits (.tcmdTrigger k) (0xB100 + k) 5 0x80000000 ∧
      waits (.tcmdStop k) (0xB100 + k) 5 0xC0000000)

/-- O32.  BOND_BOUNDARY acts on the 1 ms grid alone; it numbers the bond, and publishes the state as the next generation (R48,
R471). A restart that a request has asked for comes first (R596, R600). -/
def Obligations.BoundaryNumbersAndPublishes : Prop :=
  ∀ (s : State) (env : BondEnv),
    let l := s.live
    (l.now % 200000 ≠ 0 ∨ l.now ≤ l.bondAt ∨ l.pwr.st = .off ∨ l.pwr.resetLow = true → exec (.bondBoundary env) s = .next s) ∧
    (l.now % 200000 = 0 → l.bondAt < l.now → l.pwr.st ≠ .off → l.pwr.resetLow = false →
      (∀ c, l.pwr.restart = some c → c < 256 → Gives (exec (.bondBoundary env) s) (fun t =>
        t.live.pwr.st = .boot ∧ t.live.pwr.stage = 1 ∧ t.live.pwr.on = 1 ∧ t.live.pwr.cause.toNat = c ∧ t.live.bondAt = l.now ∧
        t.gens = [] ∧ t.live.sec.otp = l.sec.otp)) ∧
      (l.pwr.restart = none → l.working = false →
        Gives (exec (.bondBoundary env) s) (fun t => t.live.bondAt = l.now ∧ t.live.bondOn = false ∧ t.live.bond = l.bond ∧
          (l.fwUp = true → t.live.bondWrites = [] ∧ t.live.msgs.published = true ∧
            t.live.msgs.gen = (if l.msgs.published then (l.msgs.gen + 1) % 2 ^ 48 else l.msgs.gen) ∧
            tfind t.gens t.live.msgs.gen = some t.live))) ∧
      (l.pwr.restart = none → l.working = true →
        Gives (exec (.bondBoundary env) s) (fun t => t.live.bondAt = l.now ∧
          t.live.bond = (if l.bondOn then l.bond + (l.now - l.bondAt) / 200000 else l.firstBond) ∧
          (t.live.msgs.published = true → ∃ g, tfind t.gens t.live.msgs.gen = some g ∧ g.now = l.now ∧ g.bond = t.live.bond ∧
            g.bondAt = l.now))))

/-- O33.  What the waiting words do when the boundary takes them: rail intent, unlatch, target (R215, R221, R222), traces,
captures and the policy words that are stored (R522, R529, R536). -/
def Obligations.WaitingWordsActAtTheBoundary : Prop :=
  ∀ (l : Live),
    (∀ r, r < 48 → (l.rail r).live = true →
      (l.bondWrite (key (oRail r) 7) 0x40000000).rail r = { l.rail r with intent := true } ∧
      (l.bondWrite (key (oRail r) 7) 0x80000000).rail r =
        { l.rail r with intent := false, stopNow := if (l.rail r).st = .stopping ∧ (l.rail r).stopNow = 0 then 1 else (l.rail r).stopNow } ∧
      (((l.bondWrite (key (oRail r) 7) 0xC0000000).rail r).st = if (l.rail r).st = .latched then .off else (l.rail r).st) ∧
      ((l.rail r).st = .latched → ((l.bondWrite (key (oRail r) 7) 0xC0000000).rail r).hiccnt = 0) ∧
      (∀ v, l.railPort r = none → l.rcf r 2 15 0 ≤ fld v 31 16 → fld v 31 16 ≤ l.rcf r 2 31 16 →
        ((l.bondWrite (key (oRail r) 8) v).rail r) = { l.rail r with
          vt := mv16 (fld v 31 16), vtLast := mv16 (fld v 31 16), slew := fld v 15 13, slewLast := fld v 15 13 } ∧
        (l.bondWrite (key (oRail r) 8) v).hw (oRail r) 8 = put (fld v 15 13) 13 3)) ∧
    (∀ r, (l.rail r).live = false → ∀ w v, r < 48 → w < 256 → l.bondWrite (key (oRail r) w) v = l) ∧
    (∀ n, n < 8 →
      (l.cb (0xB100 + n) 0 31 = true → ((l.bondWrite (key (0xB100 + n) 5) 0x40000000).trace n).state = 1) ∧
      ((l.trace n).state = 1 ∨ (l.trace n).state = 2 → ((l.bondWrite (key (0xB100 + n) 5) 0xC0000000).trace n).state = 3)) ∧
    (∀ n, n < 4 → (l.capSlot n).state = 3 →
      (l.bondWrite (key (0xB200 + n) 6) 0x80000000).capSlot n = { l.capSlot n with state := 1, points := [], post := 0 })

/-- O34.  What ends a rail's normal regulation: over- and under-voltage, fold-back that lasts, the hiccup's end, a soft start
that fails, and 1 s in ON (R222 to R225, Table 6.3). Each is judged on the rail as the course work before it leaves it (R237),
and under R21 the rows listed before it are not there. -/
def Obligations.RailTripsFollowTheTable : Prop :=
  (∀ (s : State) (r : Fin 48), s.live.railDue r = true → s.live.railStage r ≤ 3 →
    let v : State := { s with live := s.live.railUpTo r 3 }
    let l := v.live
    let k := l.rail r
    let hic : Bool := !l.cb (oRail r) 0 5 && (l.rcf r 5 15 12 = 0 || k.hiccnt < l.rcf r 5 15 12)
    let overV : Prop := k.ovCnt ≠ 0 ∧ l.rcf r 4 15 12 ≤ k.ovCnt
    let noPhase : Prop := l.rots r = [] ∧ k.rotPrev ≠ 0
    (k.st.ramps = true → overV →
      Gives (exec (.railOv r) s) (fun t => Raised v t [l.detailOf 0x4001 (oRail r)] ∧ (t.live.rail r).st = .latched ∧
        (t.live.rail r).cause = 4 ∧ (∀ m, m ≠ r.val → t.live.rail m = l.rail m) ∧ SameBut [.rails, .vcr, .fc] v t)) ∧
    (k.st.ramps = false ∨ ¬overV → exec (.railOv r) s = .next v) ∧
    (k.st = .on → k.uvCnt ≠ 0 → l.rcf r 4 11 4 ≤ k.uvCnt → k.uvRaised = false →
      Gives (exec (.railUv r) s) (fun t => Raised v t [l.detailOf 0x4002 (oRail r)] ∧
        t.live.rail r = { k with uvRaised := true } ∧ SameBut [.rails, .fc] v t)) ∧
    (k.st = .foldback → k.fbAt + l.rcf r 5 31 24 * 200000 ≤ l.railStart r → ¬overV → ¬noPhase →
      Gives (exec (.fbtimeExpiry r) s) (fun t => (t.live.rail r).cause = 3 ∧ (t.live.rail r).vfb = none ∧
        (if hic then (t.live.rail r).st = .hiccup ∧ (t.live.rail r).hiccnt = k.hiccnt + 1 ∧ Raised v t [l.detailOf 0x4004 (oRail r)]
         else (t.live.rail r).st = .latched ∧ Raised v t [l.detailOf 0x4005 (oRail r)]) ∧ SameBut [.rails, .vcr, .fc] v t)) ∧
    (k.st = .hiccup → k.intent = true → k.shedOrd = false → k.ovCnt = 0 → ¬noPhase →
      k.hicAt + l.rcf r 5 23 16 * 2000000 ≤ l.railStart r →
      Gives (exec (.hictimeExpiry r) s) (fun t => (t.live.rail r).st = .softstart ∧ (t.live.rail r).vt = k.vtLast ∧
        (t.live.rail r).prebias = some (l.railVoltage r) ∧ (t.live.rail r).hiccnt = k.hiccnt ∧ SameBut [.rails] v t)) ∧
    (∀ a, k.reachedAt = some a → k.st = .softstart → a + 2000000 ≤ l.railStart r → l.aboveUv r = false → ¬overV → ¬noPhase →
      Gives (exec (.railSsFail r) s) (fun t => (t.live.rail r).cause = 6 ∧
        (t.live.rail r).st = (if hic then .hiccup else .latched) ∧
        Raised v t [l.detailOf (if hic then 0x4004 else 0x4005) (oRail r), l.detailOf 0x400A (oRail r)] ∧
        SameBut [.rails, .vcr, .fc] v t))) ∧
  (∀ (s : State) (r : Fin 48), s.live.railDue r = false ∨ 3 < s.live.railStage r → exec (.railOv r) s = .next s ∧
    exec (.railUv r) s = .next s ∧ exec (.fbtimeExpiry r) s = .next s ∧ exec (.hictimeExpiry r) s = .next s ∧
    exec (.railSsFail r) s = .next s) ∧
  (∀ (s : State) (r : Fin 48),
    ((s.live.rail r).st = .on → (s.live.rail r).onAt + 200000000 ≤ s.live.now →
      Gives (exec (.hiccntReset r) s) (fun t => t.live.rail r = { s.live.rail r with hiccnt := 0 } ∧
        (∀ m, m ≠ r.val → t.live.rail m = s.live.rail m) ∧ SameBut [.rails] s t)) ∧
    ((s.live.rail r).st ≠ .on → exec (.hiccntReset r) s = .next s))

/-- O35.  A rail loses a member to an open phase, keeps one whose sense has failed, and sheds the one that fires last (R219,
R229, R231, R232), each on the rail as the course work before it leaves it (R237). -/
def Obligations.RailMembersAreRemovedAndShed : Prop :=
  (∀ (s : State) (r : Fin 48) (m : Fin 8), s.live.railDue r = true → s.live.railStage r ≤ 1 →
    let v : State := { s with live := s.live.railUpTo r 1 }
    let l := v.live
    (l.mAct r m = true → 16 ≤ (l.mem r m).openCnt →
      Gives (exec (.railPhaseOpen r m) s) (fun t => t.live.mem r m = { removed := true } ∧
        (∀ n, n ≠ m.val → t.live.mem r n = l.mem r n) ∧ Raised v t [l.detailOf 0x4006 (oRail r) m] ∧ SameBut [.rails, .fc] v t)) ∧
    ((l.mem r m).openCnt < 16 → exec (.railPhaseOpen r m) s = .next v) ∧
    ((∀ n, n < 8 → (l.mem r n).openCnt < 16) →
      (l.senseBad r m = true →
        Gives (exec (.railSenseFail r m) s) (fun t => t.live.mem r m = { l.mem r m with senseF := true } ∧
          (∀ n, n ≠ m.val → t.live.mem r n = l.mem r n) ∧ Raised v t [l.detailOf 0x4007 (oRail r) m] ∧ SameBut [.rails, .fc] v t)) ∧
      (l.senseBad r m = false → exec (.railSenseFail r m) s = .next v))) ∧
  (∀ (s : State) (r : Fin 48), s.live.railDue r = true → s.live.railStage r ≤ 4 →
    let v : State := { s with live := ((s.live.railUpTo r 4).modRail r fun q =>
      { q with workAt := some ((s.live.railUpTo r 4).railStart r), stage := 5 }).shedWork r }
    let l := v.live
    (∀ a x, (l.rail r).dwellAt = some a → l.shedActs r = true → l.nmin r < (l.acts r).length →
      a + l.rcf r 5 11 0 * 20000 ≤ l.railStart r →
      (l.acts r)[((l.rail r).rho + (l.acts r).length - 1) % (l.acts r).length]? = some x →
      Gives (exec (.phaseShed r) s) (fun t => (t.live.mem r x).shed = true ∧ (t.live.mem r x).shedAt = l.railStart r ∧
        (∀ n, n ≠ x → t.live.mem r n = l.mem r n) ∧ (t.live.rail r).dwellAt = none ∧ SameBut [.rails] v t))) ∧
  (∀ (s : State) (r : Fin 48) (m : Fin 8),
    (s.live.railDue r = false ∨ 1 < s.live.railStage r → exec (.railPhaseOpen r m) s = .next s ∧ exec (.railSenseFail r m) s = .next s) ∧
    (s.live.railDue r = false ∨ 5 ≤ s.live.railStage r → exec (.phaseShed r) s = .next s))

/-- O36.  The work of a course is done once for it, before its down window; IDLE and LATCHED stay, and a rail whose intent is
withdrawn ramps down or goes off as its soft-stop bit says (R217, R237, Table 6.3). -/
def Obligations.RailCourseWorkIsDoneOnce : Prop :=
  ∀ (s : State) (r : Fin 48),
    (s.live.railDue r = false ∨ 6 ≤ s.live.railStage r → exec (.railCourseWork r) s = .next s) ∧
    (s.live.railDue r = true → s.live.railStage r < 6 →
      Gives (exec (.railCourseWork r) s) (fun t => (t.live.rail r).workAt = some (s.live.railStart r) ∧ (t.live.rail r).stage = 6 ∧
        (∀ m, m ≠ r.val → t.live.rail m = s.live.rail m) ∧
        ((s.live.rail r).st = .idle ∨ (s.live.rail r).st = .latched → (t.live.rail r).st = (s.live.rail r).st) ∧
        SameBut [.rails, .vcr, .fc, .recd, .w1c] s t)) ∧
    (s.live.railDue r = true → s.live.railStage r ≤ 3 →
      let l := s.live.railUpTo r 3
      let k := l.rail r
      k.st.regulates = true → k.intent = false → k.ovCnt = 0 → (l.rots r ≠ [] ∨ k.rotPrev = 0) →
      (k.st = .foldback → l.railStart r < k.fbAt + l.rcf r 5 31 24 * 200000) →
      (k.st = .softstart → k.reachedAt = none ∨ l.aboveUv r = true) →
      Gives (exec (.railCourseWork r) s) (fun t => (t.live.rail r).cause = 1 ∧
        (t.live.rail r).st = (if l.cb (oRail r) 0 4 = true ∧ k.vr ≠ 0 then .stopping else .off) ∧
        (l.cb (oRail r) 0 4 = true → (t.live.rail r).vt = 0)))

/-- O37.  GETV, GETI, GETP and GETSTAT answer a long response with the rail's values, those of the latest
complete course work and the target taken since, PING a short one, and nothing of the rail
changes but the flags that a GETSTAT returned (R251, R252, R262, R264, R269); a port that is not served answers nothing (R270, R272). -/
def Obligations.VoltagePortReads : Prop :=
  ∀ (s : State) (p : Fin 16) (c : VcCmd),
    let l := s.live
    let answers (i : Instr) (d : Nat) : Prop := Gives (exec i s) (fun t =>
      (t.live.vp p).resp = vcLong c.railsel.toNat c.tag.toNat d ∧ (t.live.vp p).respLen = 32 ∧
      (∀ m, m ≠ p.val → t.live.vp m = l.vp m) ∧ SameBut [.vcp, .recd, .w1c] s t)
    (l.vcServes p = true → c.contend = false →
      (∀ r, l.fc.safe = false → l.portRail p c.railsel.toNat = some r →
        let k := (l.rail r).seen
        answers (.getv p c 0) (satNat (k.v / 1000) 65535) ∧ answers (.getv p c 1) (min ((l.rail r).vt / 16000) 65535) ∧
        answers (.getv p c 2) (min (k.veff / 16000) 65535) ∧
        (∀ i, k.i = some i → answers (.geti p c 0) (vcAmps i) ∧
          answers (.getp p c) (satNat (k.v * i / 10000000000) 65534)) ∧
        (k.i = none → answers (.geti p c 0) 0x8000 ∧ answers (.getp p c) 0xFFFF) ∧
        answers (.geti p c 1) (vcAmps k.rr) ∧ answers (.geti p c 2) (vcAmps (k.cap.getD k.rr)) ∧
        answers (.getstatSummary p c) (l.vcSummary p) ∧
        Gives (exec (.getstatRail p c) s) (fun t =>
          (t.live.vp p).resp = vcLong c.railsel.toNat c.tag.toNat (l.vr r).stat ∧ (t.live.vp p).respLen = 32 ∧
          t.live.vr r = { l.vr r with set := false, sup := false, cap := false, kpr := false, down := false, sfail := false } ∧
          (∀ m, m ≠ r → t.live.vr m = l.vr m) ∧ SameBut [.vcp, .vcr, .recd, .w1c] s t)) ∧
      (∀ b, Gives (exec (.ping p c b) s) (fun t =>
        (t.live.vp p).resp = vcShort 0 c.railsel.toNat c.tag.toNat ∧ (t.live.vp p).respLen = 16 ∧
        (t.live.vp p).syncs = (if b then List.range 8 else (l.vp p).syncs) ∧ SameBut [.vcp, .recd, .w1c] s t))) ∧
    (l.vcServes p = false → ∀ i, i ∈ [Instr.getv p c 0, .geti p c 0, .getp p c, .getstatRail p c, .getstatSummary p c, .ping p c true,
      .setv p c 0 0, .ackcap p c 0, .setmodeAuto p c 0, .vcFrameTimeout p none] → exec i s = .next s)

/-- O38.  SETV, ACKCAP and SETMODE are judged in the order of the status codes and queued when they are accepted (R253, R254,
R261, R265, R267); a bad word has no effect but its response and counts, and an abandoned frame no response (R247, R248, R253). -/
def Obligations.VoltagePortCommandsAreJudged : Prop :=
  ∀ (s : State) (p : Fin 16) (c : VcCmd), s.live.vcServes p = true →
    let l := s.live
    let replies (i : Instr) (st : Nat) (q : State → Prop) : Prop := Gives (exec i s) (fun t =>
      (t.live.vp p).resp = vcShort st c.railsel.toNat c.tag.toNat ∧ (t.live.vp p).respLen = 16 ∧ t.live.rails = l.rails ∧ q t)
    let idle (t : State) : Prop := t.live.vcr = l.vcr ∧ SameBut [.vcp, .recd, .w1c] s t
    (c.contend = false → l.fc.safe = true → ∀ v g, replies (.setv p c v g) 4 idle) ∧
    (c.contend = false → l.fc.safe = false → l.portRail p c.railsel.toNat = none → ∀ v g, replies (.setv p c v g) 0xF idle) ∧
    (∀ r, c.contend = false → l.fc.safe = false → l.portRail p c.railsel.toNat = some r →
      let k := l.rail r
      let q := l.vr r
      ((k.st = .idle) → (∀ v g, replies (.setv p c v g) 5 idle) ∧ (∀ a, replies (.ackcap p c a) 5 idle) ∧ replies (.setmodeAuto p c 0) 5 idle) ∧
      (k.st ≠ .idle →
        (∀ (v : BitVec 12) (g : BitVec 3),
          let bad := l.cf (oVc p) 1 7 5 < g.toNat ∨ v.toNat < l.rcf r 2 15 0 ∨ l.rcf r 2 31 16 < v.toNat
          let done := mv16 v.toNat = k.vt ∧ q.outst = none ∧ 2 ≤ q.calm
          let capped := k.vt < mv16 v.toNat ∧ q.level < q.ack
          (bad → replies (.setv p c v g) 3 idle) ∧
          (¬ bad → k.st.regulates = false → replies (.setv p c v g) 4 idle) ∧
          (¬ bad → k.st.regulates = true → done → replies (.setv p c v g) 1 idle) ∧
          (¬ bad → k.st.regulates = true → ¬ done → capped → replies (.setv p c v g) 7 idle) ∧
          (¬ bad → k.st.regulates = true → ¬ done → ¬ capped → replies (.setv p c v g) 0 (fun t =>
            t.live.vr r = { q with queue := q.queue ++ [{ tag := c.tag, value := mv16 v.toNat, slew := g.toNat, at_ := l.now }] }))) ∧
        (∀ a : BitVec 5, (16 < a.toNat → replies (.ackcap p c a) 3 idle) ∧
          (a.toNat ≤ 16 → a.toNat ≠ q.level → replies (.ackcap p c a) 2 idle) ∧
          (a.toNat ≤ 16 → a.toNat = q.level → replies (.ackcap p c a) 0 (fun t => t.live.vr r = { q with ack := q.level, grace := none }))) ∧
        replies (.setmodeAuto p c 0) 0 (fun t => t.live.vr r = { q with modes := q.modes ++ [(.auto, l.now)] }) ∧
        replies (.setmodeFull p c 0) 0 (fun t => t.live.vr r = { q with modes := q.modes ++ [(.full, l.now)] }) ∧
        (∀ m : BitVec 12, m.toNat < 4 → replies (.setmodeEvmask p c m) 0
          (fun t => t.live.vr r = { q with modes := q.modes ++ [(.evmask (m.setWidth 2), l.now)] })) ∧
        (∀ m : BitVec 12, 4 ≤ m.toNat → replies (.setmodeEvmask p c m) 3 idle))) ∧
    (∀ w, vcCrcOk w = false → Gives (exec (.vcBadCommand p w false) s) (fun t =>
      (t.live.vp p).resp = vcShort 6 (fld w 27 26) (fld w 25 24) ∧ (t.live.vp p).badCrc = (l.vp p).badCrc + 1 ∧
      SameBut [.vcp, .recd, .w1c] s t)) ∧
    (∀ w, vcCrcOk w = true → vcMalformed w = true → Gives (exec (.vcBadCommand p w false) s) (fun t =>
      (t.live.vp p).resp = vcShort 3 (fld w 27 26) (fld w 25 24) ∧ (t.live.vp p).badCrc = (l.vp p).badCrc ∧
      (t.live.vp p).lastCmd = w ∧ SameBut [.vcp, .recd, .w1c] s t)) ∧
    (Gives (exec (.vcFrameTimeout p none) s) (fun t => (t.live.vp p).respLen = 0 ∧ SameBut [.vcp, .recd, .w1c] s t)) ∧
    (∀ v g, c.contend = true → Gives (exec (.setv p c v g) s) (fun t => (t.live.vp p).respLen = 0 ∧
      Raised s t [l.detailOf 0x5003 (oVc p)]))

/-- O39.  How a SETV settles or fails, how a cap goes unacknowledged, and what a bank or a burst of bad words does (R257, R259,
R268, R274, R610). -/
def Obligations.VoltagePortEvents : Prop :=
  ∀ (s : State) (r : Fin 48) (p : Fin 16),
    let l := s.live
    let q := l.vr r
    (∀ c, q.outst = some c → 2 ≤ c.run →
      Gives (exec (.setvSettled r) s) (fun t => t.live.vr r = { q with set := true, stag := c.tag, outst := none } ∧
        (∀ m, m ≠ r.val → t.live.vr m = l.vr m) ∧ SameBut [.vcr, .recd, .w1c] s t)) ∧
    (∀ c, q.outst = some c → c.run < 2 → exec (.setvSettled r) s = .next s) ∧
    (∀ c n a, q.outst = some c → l.railPort r = some n → c.calmAt = some a → c.failed = false →
      a + l.cf (oVc n) 1 15 8 * 200000 ≤ l.now →
      Gives (exec (.vcSettleFail r) s) (fun t => t.live.vr r = { q with sfail := true, outst := some { c with failed := true } } ∧
        Raised s t [l.detailOf 0x5002 (oVc n) r] ∧ SameBut [.vcr, .fc] s t)) ∧
    (∀ g n, q.grace = some g → l.railBound r = some n → g + l.cf (oVc n) 0 6 0 * 200000 ≤ l.now →
      Gives (exec (.vcCapNoack r) s) (fun t => t.live.vr r = { q with grace := none } ∧
        Raised s t [l.detailOf 0x5001 (oRail r) n, l.detailOf 0x6007 (oRail r)] ∧ SameBut [.vcr, .fc, .pp] s t ∧
        ((∃ a i, l.cap r = some a ∧ (l.rail r).i = some i ∧ a < i) → r.val ∈ t.live.pp.ignored))) ∧
    (16 ≤ (l.vp p).badCrc → Gives (exec (.vcCrcBurst p) s) (fun t => t.live.vp p = { l.vp p with badCrc := 0 } ∧
      Raised s t [l.detailOf 0x5004 (oVc p)] ∧ SameBut [.vcp, .fc] s t)) ∧
    ((l.vp p).badCrc < 16 → exec (.vcCrcBurst p) s = .next s) ∧
    (∀ (b : Fin 4) (mv : Nat),
      (1500 ≤ mv → ∀ fs, Gives (exec (.vcBankChange b mv fs) s) (fun t =>
        t.live.adc.vbok.getLsbD b = true ∧ t.live.adc.vb18.getLsbD b = true ∧
        (∀ m : Fin 4, m ≠ b → t.live.adc.vbok.getLsbD m = l.adc.vbok.getLsbD m ∧ t.live.adc.vb18.getLsbD m = l.adc.vb18.getLsbD m))) ∧
      (1050 ≤ mv → mv < 1450 → ∀ fs, Gives (exec (.vcBankChange b mv fs) s) (fun t =>
        t.live.adc.vbok.getLsbD b = true ∧ t.live.adc.vb18.getLsbD b = false)) ∧
      (mv < 1000 → ∀ fs, Gives (exec (.vcBankChange b mv fs) s) (fun t => t.live.adc.vbok.getLsbD b = false)))

/-- O40.  An input's course: the sample, the collapse guard's index and its trip, a lost pair, repeated trips, and the end of
the guard (R279, R287, R288, R289, R291, R292, R309, Table 8.2). -/
def Obligations.InputGuardFollowsTheTable : Prop :=
  ∀ (s : State) (j : Fin 64),
    let l := s.live
    let i := l.inp j
    let lost (t : State) : Prop := (t.live.inp j).st = .dark ∧ (t.live.inp j).rhat = none ∧ (t.live.inp j).lostNow = true ∧
      (t.live.inp j).backOff = none ∧ (t.live.inp j).trips = i.trips ∧ Raised s t [l.detailOf 0x6003 (oInput j)] ∧
      (∀ m, m ≠ j.val → t.live.inp m = l.inp m) ∧ SameBut [.pp, .fc, .recd, .w1c] s t
    (l.stageDue j = none → exec (.inputStage j) s = .next s) ∧
    (∀ at_ q, l.stageDue j = some (at_, q) → (l.slot q.ring q.slot).usable = true →
      let x := l.inpSample q (l.slot q.ring q.slot)
      let v := x.1.getD i.vin
      let low := if i.st.guards = true ∧ v < 60 then i.lowRun + 1 else 0
      (i.st.guards = true → 4 ≤ low → Gives (exec (.inputStage j) s) (fun u => (u.live.inp j).workAt = some at_ ∧ lost u)) ∧
      (i.st.guards = false ∨ low < 4 →
        Gives (exec (.inputStage j) s) (fun u => (u.live.inp j).workAt = some at_ ∧ (u.live.inp j).vin = v ∧ (u.live.inp j).icur = x.2 ∧
          (u.live.inp j).st = i.st ∧ (u.live.inp j).lowRun = low ∧
          (∀ m, m ≠ j.val → u.live.inp m = l.inp m) ∧ SameBut [.pp, .recd, .w1c] s u ∧
          (∀ rg, i.rg = some rg → i.st.guards = true → l.mains j = false →
            let d := v + x.2 * rg
            let kp := if d = 0 then 0 else 2 * x.2 * rg / d
            (u.live.inp j).kappa = kp ∧ (l.gtrip < kp → (u.live.inp j).trips = l.bond :: i.trips ∧ (u.live.inp j).tripAt = l.bond ∧
              ∃ f, (u.live.inp j).backOff = some (l.gback * d / (2 * rg), f)) ∧
            (kp ≤ l.gtrip → (u.live.inp j).trips = i.trips ∧ (u.live.inp j).backOff = i.backOff))))) ∧
    (∀ at_ q, l.stageDue j = some (at_, q) → (l.slot q.ring q.slot).usable = false →
      Gives (exec (.inputStage j) s) (fun u => u.live.inp j = { i with workAt := some at_ } ∧ SameBut [.pp] s u)) ∧
    (let now := (match l.stageDue j with | some (at_, q) => l.stageSample j at_ q | none => l).inp j
     (now.st.guards = true → 4 ≤ now.lowRun → Gives (exec (.ppPairLost j) s) lost) ∧
     (now.st.guards = false ∨ now.lowRun < 4 → exec (.ppPairLost j) s = .next s)) ∧
    (∀ b, i.trips[3]? = some b → 4 ≤ i.tripsNew → l.bond < b + 1000 →
      Gives (exec (.ppGuardRepeat j) s) (fun t =>
        t.live.inp j = { i with tripsNew := 0, khCut := if l.khNow j ≤ 100 then i.khCut else i.khCut + 10 } ∧
        Raised s t [l.detailOf 0x6002 (oInput j)] ∧ SameBut [.pp, .fc] s t)) ∧
    (i.tripsNew < 4 → exec (.ppGuardRepeat j) s = .next s) ∧
    (i.st = .guarded → i.backOff = none → i.tripAt + l.ghold ≤ l.bond →
      Gives (exec (.gholdExpiry j) s) (fun t => (t.live.inp j).st = .sharing)) ∧
    (i.st ≠ .guarded ∨ l.bond < i.tripAt + l.ghold → exec (.gholdExpiry j) s = .next s)

/-- O41.  PFAIL_N low or a low bus takes a working controller into HOLDUP, and no other (R300, R301, R556); the hold-up
capacitance is judged every 2 ms (R304). -/
def Obligations.PowerFailEntersHoldup : Prop :=
  ∀ s : State,
    let l := s.live
    let works := l.pwr.st = .run ∨ (l.pwr.st = .lean ∧ l.pwr.service = false)
    let held (t : State) : Prop := t.live.pwr.st = .holdup ∧ t.live.pp.st = .holdup ∧ l.detailOf 0x6009 0x6FFF ∈ t.live.fc.details ∧
      t.live.sec.dbg.mode = 0 ∧ t.live.sec.dbg.halted = [] ∧ t.live.keeper = l.keeper
    (works → l.pp.st ≠ .holdup → Gives (exec .pfailLow s) (fun t => held t ∧ t.live.pwr.pfailN = false)) ∧
    (¬ works → l.pwr.st ≠ .off → Gives (exec .pfailLow s) (fun t => t.live.pwr = { l.pwr with pfailN := false } ∧ SameBut [.pwr] s t)) ∧
    (works → l.pp.st ≠ .holdup → 4 ≤ l.pp.lowConv → Gives (exec .vbusLow s) held) ∧
    (l.pp.lowConv < 4 → exec .vbusLow s = .next s) ∧
    (∀ a, l.pp.measAt = some a → l.measuring = true → a + 400000 ≤ l.now →
      let d := l.pp.measV * l.pp.measV - l.pp.vnow * l.pp.vnow
      let c := 2 * l.pp.measE / d
      Gives (exec .cbusMeasure s) (fun t => t.live.pp.measAt = some l.now ∧ t.live.pp.measV = l.pp.vnow ∧ t.live.pp.measE = 0 ∧
        (if 0 < d ∧ c < 9 / 10 * ((l.cf 0x6FFF 2 31 16 : Rat) / 10000) then
           t.live.pp.cused = some c ∧ Raised s t [l.detailOf 0x600A 0x6FFF] else t.live.pp.cused = l.pp.cused ∧ t.live.fc = l.fc) ∧
        SameBut [.pp, .fc] s t))

/-- O42.  The sense front end converts its reference first in a bond, then the bound channels in turn, one conversion a µs at
most; a channel that stays at an end of its range is reported once (R615, Table 11.3). -/
def Obligations.ConversionsGoRoundRobin : Prop :=
  ∀ (s : State) (code : Half) (c : Fin 16),
    let l := s.live
    (l.now < l.adc.lastAt + 200 → ∀ ch, exec (.adcConversion ch code) s = .next s) ∧
    (l.pwr.on.getLsbD 4 = true → l.adc.lastAt + 200 ≤ l.now →
      (l.adc.refDue = true → exec (.adcConversion (some c) code) s = .next s ∧
        Gives (exec (.adcConversion none code) s) (fun t => t.live.adc.refDue = false ∧ t.live.adc.refOk = refGood code ∧
          t.live.adc.lastAt = l.now ∧ Raised s t (if refGood code then [] else [l.detailOf 0xF001 0]) ∧ SameBut [.adc, .fc] s t)) ∧
      (l.adc.refDue = false → l.adcNext = some c →
        Gives (exec (.adcConversion (some c) code) s) (fun t => tget 0 t.live.adc.codes c = code ∧ c.val ∈ t.live.adc.done ∧
          (∀ m, m ≠ c.val → tget 0 t.live.adc.codes m = tget 0 l.adc.codes m) ∧
          tget 0 t.live.adc.runs c = (if code = 0 ∨ code = 0xFFFF then tget 0 l.adc.runs c + 1 else 0) ∧
          t.live.adc.lastAt = l.now ∧ t.live.adc.next = c + 1)) ∧
      (l.adc.refDue = false → l.adcNext ≠ some c → exec (.adcConversion (some c) code) s = .next s)) ∧
    (16 ≤ tget 0 l.adc.runs c → c.val ∉ l.adc.raised → c.val ∈ l.adcBound →
      Gives (exec (.adcRange c) s) (fun t => Raised s t [l.detailOf 0xF002 0 c] ∧ t.live.adc = { l.adc with raised := l.adc.raised ++ [c.val] } ∧
        SameBut [.adc, .fc] s t)) ∧
    (tget 0 l.adc.runs c < 16 ∨ c.val ∈ l.adc.raised → exec (.adcRange c) s = .next s)

/-- O43.  The anchors set the accumulator, end the uncertainty and open or close a cycle (R323, R324, R328); an `EMPTY` anchor
that ends an unvoided cycle learns the capacity within the jump limit, not one out of range, and waits for the cores, as the
learning is firmware's (R26, R328, R329). -/
def Obligations.AnchorsSetTheAccumulator : Prop :=
  ∀ (s : State) (n : Fin 16),
    let l := s.live
    let q := l.str n
    (q.live = true → q.fullDone = false → q.fullRun ≠ 0 → l.ttermBonds n ≤ q.fullRun →
      Gives (exec (.fullAnchor n) s) (fun t => (t.live.str n).a = 0 ∧ (t.live.str n).uncert = false ∧ (t.live.str n).fulla = true ∧
        (t.live.str n).emptya = false ∧ (t.live.str n).fullDone = true ∧ (t.live.str n).cycle = true ∧ (t.live.str n).qcap = q.qcap ∧
        (∀ m, m ≠ n.val → t.live.str m = l.str m) ∧ SameBut [.gauge, .recd, .w1c] s t)) ∧
    (q.fullDone = true ∨ q.fullRun < l.ttermBonds n → exec (.fullAnchor n) s = .next s) ∧
    (l.emptyDue n = true → q.reset = false →
      (q.learns = false →
        Gives (exec (.emptyAnchor n) s) (fun t => (t.live.str n).a = sat64 (truncR q.qeffU) ∧ (t.live.str n).uncert = false ∧
          (t.live.str n).emptya = true ∧ (t.live.str n).fulla = false ∧ (t.live.str n).emptyDone = true ∧ (t.live.str n).cycle = false ∧
          (t.live.str n).qcap = q.qcap ∧ t.live.fc = s.live.fc ∧
          (l.gauge.ex = .running → l.gauge.exStr = n → t.live.gauge.ex = .idle ∧ t.live.gauge.xlast = l.recd.clkSec))) ∧
      (q.learns = true → l.coresUp = false → exec (.emptyAnchor n) s = .next s) ∧
      (q.learns = true → l.coresUp = true → q.mah < l.qnom n / 2 ∨ 6 / 5 * l.qnom n < q.mah →
        Gives (exec (.emptyAnchor n) s) (fun t => Raised s t [l.detailOf 0x7001 (oStr n)] ∧ (t.live.str n).qcap = q.qcap ∧
          (t.live.str n).nlearn = q.nlearn ∧ (t.live.str n).uncert = false ∧ (t.live.str n).emptya = true)) ∧
      (q.learns = true → l.coresUp = true → l.qnom n / 2 ≤ q.mah → q.mah ≤ 6 / 5 * l.qnom n →
        let j := (l.sf n 6 7 0 10 : Rat) / 100
        let c := clampR q.mah (q.qcap * (1 - j)) (q.qcap * (1 + j))
        Gives (exec (.emptyAnchor n) s) (fun t => (t.live.str n).qcap = c ∧ (t.live.str n).learned = true ∧ (t.live.str n).stale = false ∧
          (t.live.str n).fade = 1 ∧ (t.live.str n).nlearn = q.nlearn + 1 ∧ (t.live.str n).tlearn = l.recd.clkSec.toNat ∧
          (t.live.str n).a = sat64 (truncR (t.live.str n).qeffU) ∧ (t.live.str n).uncert = false ∧ (t.live.str n).cycle = false ∧
          (t.live.str n).emptya = true ∧ Raised s t (if c = q.mah then [] else [l.detailOf 0x7002 (oStr n)])))) ∧
    (l.emptyDue n = false → exec (.emptyAnchor n) s = .next s)

/-- O44.  A current step is measured 1 ms after it, from eight samples either side, and smoothed by one eighth (R325, R326).
Stale capacity, the journal, the verification of a record's write with its one retry, an exercise that waits too long, and the
reads of pack monitors and air sensors (R318, R327, R338, R340, R355, Table 9.2). -/
def Obligations.MeasurementsJournalsAndTimedReads : Prop :=
  (∀ (s : State) (n : Fin 16) (a b : Nat), (s.live.str n).stepAt = some a → s.live.tileStart (s.live.strTile n) = some b →
     let l := s.live
     let q := l.str n
     let h := q.hist.take 8
     let i1 := sumR (h.map (·.2.1)) / 8
     let v1 := sumR (h.map (·.1)) / 8
     let r := -(v1 - q.stepV0) / (i1 - q.stepI0)
     (b < a + 200000 → exec (.impedanceMeasure n) s = .next s) ∧
     (a + 200000 ≤ b →
       Gives (exec (.impedanceMeasure n) s) (fun t => (t.live.str n).stepAt = none ∧ (t.live.str n).a = q.a ∧ (t.live.str n).qcap = q.qcap ∧
         (∀ m, m ≠ n.val → t.live.str m = l.str m) ∧ SameBut [.gauge, .recd, .w1c] s t ∧
         (q.stepOk = false ∨ h.length < 8 ∨ (∃ x ∈ h, x.2.2 = false) ∨ r < 1 / 10000 ∨ 2 < r ∨ q.tcell < 0 ∨ 45 < q.tcell →
           t.live.str n = { q with stepAt := none }) ∧
         (q.stepOk = true → h.length = 8 → (∀ x ∈ h, x.2.2 = true ∧ |x.2.1 - i1| ≤ |i1 - q.stepI0| / 10) →
           l.dimin n ≤ |i1 - q.stepI0| → i1 ≠ q.stepI0 → 0 ≤ q.tcell → q.tcell ≤ 45 → 1 / 10000 ≤ r → r ≤ 2 →
           (t.live.str n).rhat = (if q.measured then q.rhat + (r - q.rhat) / 8 else r) ∧ (t.live.str n).measured = true)))) ∧
  (∀ (s : State) (n : Fin 16) (k : Fin 4),
     let l := s.live
     let q := l.str n
     (l.coresUp = true → q.live = true → q.stale = false → l.sf n 7 31 16 400 * 86400 ≤ l.learnAge n → (l.emptyDue n && q.learns) = false →
       Gives (exec (.capStale n) s) (fun t => (t.live.str n).stale = true ∧ Raised s t [l.detailOf 0x7003 (oStr n)] ∧
         ((t.live.str n).due = true ∨ (t.live.str n).writing.isSome = true))) ∧
     (q.stale = true → exec (.capStale n) s = .next s) ∧
     (l.coresUp = true → q.live = true → q.a ≠ q.lastAcc → q.writing = none →
       ((l.sf n 9 31 24 24 * 720000000000 : Nat) : Int) ≤ (l.sinceWrite n).getD ((l.now : Int) - q.madeAt) →
       Gives (exec (.journalPeriod n) s) (fun t => ((t.live.str n).due = true ∨ (t.live.str n).writing.isSome = true) ∧
         (t.live.str n).a = q.a ∧ (∀ m, m ≠ n.val → t.live.str m = l.str m) ∧ SameBut [.gauge, .therm] s t)) ∧
     (∀ b x again, q.writing = some (b, x, again) → q.due = false → q.retry = none →
       Gives (exec (.learnedRecordDone n true) s) (fun t => t.live.slotRec n b = some (GaugeRec.ofBytes x) ∧ (t.live.str n).writing = none ∧
         (t.live.str n).lastAcc = (GaugeRec.ofBytes x).acc ∧ (t.live.str n).wroteAt = some (l.now : Int) ∧
         (l.recErase = true → t.live.slotRec n (!b) = none) ∧ t.live.fc = l.fc) ∧
       (again = false → Gives (exec (.learnedRecordDone n false) s) (fun t => t.live.fc = l.fc ∧ (t.live.str n).wroteAt = q.wroteAt ∧
         (t.live.str n).lastAcc = q.lastAcc ∧
         (l.coresUp = false ∨ l.recErase = false → (t.live.str n).writing = none ∧ (t.live.str n).retry = some (b, x)) ∧
         (l.coresUp = true → l.recErase = true → (t.live.str n).writing = some (b, x, true) ∧ (t.live.str n).retry = none))) ∧
       (again = true → Gives (exec (.learnedRecordDone n false) s) (fun t => (t.live.str n).writing = none ∧
         (l.recErase = true → t.live.slotRec n b = none) ∧ t.live.slotRec n (!b) = l.slotRec n (!b) ∧
         Raised s t [l.detailOf 0x7007 (oStr n)]))) ∧
     (l.gauge.ex = .due → (if l.gauge.exHost then l.gauge.exAt + 3600000 ≤ l.bond else l.clockHour ≠ l.cf 0x7FFF 0 15 8) →
       Gives (exec .exerciseTimeout s) (fun t => t.live.gauge.ex = .idle ∧ Raised s t [l.detailOf 0x7005 (oStr l.gauge.exStr)])) ∧
     (l.gauge.ex ≠ .due → exec .exerciseTimeout s = .next s) ∧
     (l.working = true → q.live = true → l.cb (oStr n) 9 18 = true → q.pkAt + 200000000 ≤ l.now →
       let p := if l.cb (oStr n) 9 17 then 1 else 0
       Gives (exec (.packMonitorRead n) s) (fun t => t.live.str n = { q with pkAt := l.now } ∧
         ((t.live.pi p).due.contains (.gauge n) = true ∨ (t.live.pi p).active = some (.gauge n)) ∧ SameBut [.gauge, .ports] s t)) ∧
     (l.now < q.pkAt + 200000000 → exec (.packMonitorRead n) s = .next s) ∧
     (l.pwr.on.getLsbD 4 = true → l.working = true → l.airEn k = true →
       (∀ a, (tget {} l.therm.air k).askAt = some a → a + 200000000 ≤ l.now) →
       Gives (exec (.airSensorRead k) s) (fun t => tget {} t.live.therm.air k = { tget {} l.therm.air k with askAt := some l.now } ∧
         ((t.live.pi (l.airPort k)).due.contains (.air k) = true ∨ (t.live.pi (l.airPort k)).active = some (.air k)) ∧
         SameBut [.therm, .ports] s t)))

/-- O45.  The die's band follows its sensors, read each 20 000 ticks, and a broken one counts as 125 °C (R348 to R350); a point's
network, band and θ follow R352 to R357 and R363; a scrub pass counts each corrected error and raises each uncorrected one (R39,
R365). -/
def Obligations.TemperaturesFollowTheirSensors : Prop :=
  ∀ (s : State),
    let l := s.live
    l.pwr.on.getLsbD 4 = true → l.pwr.st ≠ .off →
    (∀ ts : List Int, ts.length = 8 → (∀ x ∈ ts, -960 ≤ x ∧ x ≤ 3200) → (∀ x ∈ ts, ∀ y ∈ ts, x ≤ y + 240) →
      (∀ i, i < 8 → (tget {} l.therm.die i).broken = false) → l.dieDue = true →
      let top := ((ts.map (fun x => (x : Rat) / 16)).max?).getD 0
      let b := bandStep l.therm.dband top
      Gives (exec (.dieSensorRead ts) s) (fun t => t.live.therm.tdie = top ∧ t.live.therm.dband = b ∧
        t.live.loop.eband = (if b ≠ l.therm.dband ∧ l.loop.eband < b then b else l.loop.eband) ∧
        Raised s t (if b = l.therm.dband then [] else if b = 4 then [l.detailOf 0x8001 0x8FFF]
          else if b = 5 then [l.detailOf 0x8002 0x8FFF] else []))) ∧
    (∀ (ts : List Int) (i : Nat) (x : Int), ts.length = 8 → ts[i]? = some x → x < -960 ∨ 3200 < x → (tget {} l.therm.die i).broken = false →
      l.dieDue = true → Gives (exec (.dieSensorRead ts) s) (fun t => (tget {} t.live.therm.die i).broken = true ∧
        l.detailOf 0x8005 0x8FFF i ∈ t.live.fc.details ∧ 125 ≤ t.live.therm.tdie)) ∧
    (∀ ts a, l.therm.dieAt = some a → l.now < a + 20000 → exec (.dieSensorRead ts) s = .next s) ∧
    (∀ p : Fin 288,
      let k := l.point p
      let dt : Rat := ((l.now - k.lastAt : Nat) : Rat) / 200000000
      let st (i : Nat) (d : Rat) := stageStep d (l.lossOf p) (l.stage p i).1 (l.stage p i).2 dt
      let d3 := if k.everNtc || k.restored || !l.pointHasNtc p then st 2 k.d3 else 0
      let ths := (l.ambient p).1 + st 0 k.d1 + st 1 k.d2 + d3 + k.k
      let th := thetaOf ths (l.tderOf p) (l.tmaxOf p)
      (l.now < k.lastAt + k.period → exec (.pointUpdate p) s = .next s) ∧
      (k.run = true → l.pointRuns p = true → k.lastAt + k.period ≤ l.now → k.broken = false → k.fresh = false →
        k.newNtc = false →
        Gives (exec (.pointUpdate p) s) (fun t => (t.live.point p).d1 = st 0 k.d1 ∧ (t.live.point p).d2 = st 1 k.d2 ∧
          (t.live.point p).d3 = d3 ∧ (t.live.point p).ths = ths ∧ (t.live.point p).theta = th ∧ (t.live.point p).band = bandStep k.band ths ∧
          (t.live.point p).lastAt = l.now ∧ (t.live.point p).period = pointPeriod (bandStep k.band ths) ∧ (∀ m, m ≠ p.val → t.live.point m = l.point m) ∧
          Raised s t ((if th < 256 ∧ k.derated = false then [l.detailOf 0x8003 (oPoint p)] else []) ++
            (if l.tmaxOf p ≤ ths ∧ k.hot = false then [l.detailOf 0x8004 (overObj p)] else []))))) ∧
    (∀ (ms : List MemSpace) (fs : List FaultArg), l.therm.scrubAt + scrubPeriod l.therm.dband ≤ l.now →
      (∀ a ∈ fs, a.code ≠ 0x3003 ∧ a.code ≠ 0x3004 ∧ a.code ≠ 0xB005 ∧ a.code ≠ 0xD015) →
      Gives (exec (.scrubPass ⟨ms, fs⟩) s) (fun t => t.live.therm.scrubAt = l.now ∧
        (∀ m k, eccMem m = some k → tget 0 t.live.therm.ecc k = tget 0 l.therm.ecc k + ms.count m) ∧ SameBut [.therm, .fc] s t ∧
        Raised s t ((fs.filter (fun a => eccCodes.contains a.code.toNat && l.eccHere a)).map
          (fun a => l.detailOf a.code.toNat a.obj.toNat a.aux.toNat a.val.toNat)))) ∧
    (∀ ms fs, l.now < l.therm.scrubAt + scrubPeriod l.therm.dband → exec (.scrubPass ⟨ms, fs⟩) s = .next s)

/-- O46.  The collector takes the oldest detail, of one tick the one of the lower subsystem and instance (R32): a code that no table lists does nothing, a raise of what stands is absorbed,
and a new occurrence is recorded with its routed class and reacts as Table 11.4 says, unless a shadow window makes it
consequential or the safe state stands (R372, R373, R374, R377, R387 to R390). A wire fault is an occurrence of the code with
`WIRE` set. -/
def Obligations.OccurrencesAreTakenAndRouted : Prop :=
  ∀ (s : State) (d : Detail) (xs : List Detail),
    let l := s.live
    let c := d.code.toNat
    let e := exec (.occurrenceTaken none) s
    (l.pwr.on.getLsbD 1 = false → ∀ a, exec (.occurrenceTaken a) s = .next s) ∧
    (l.pwr.on.getLsbD 1 = true → l.ordered = d :: xs →
      (l.routeOf c = none → Gives e (fun t => t.live.fc = { l.fc with details := xs } ∧ SameBut [.fc] s t)) ∧
      (∀ k, l.routeOf c = some k →
        (l.fc.table.any (fun o => o.same d) = true → Gives e (fun t =>
          t.live.fc.table = l.fc.table.map (fun o =>
            if o.same d then { o with nrep := min 255 (o.nrep + 1), newNow := true, cond := true } else o) ∧
          t.live.fc.safe = l.fc.safe ∧ SameBut [.fc, .recd, .w1c] s t)) ∧
        (l.fc.table.any (fun o => o.same d) = false → l.tableUsed < 63 →
          Gives e (fun t =>
            (let o : Occ := { d := d, cls := k, cond := true, conseq := (l.windowOf d).isSome, window := (l.windowOf d).getD 0 }
             (k ≠ .reset → t.live.fc.table = l.fc.table ++ [o]) ∧
             (k = .reset → ∃ more, t.live.fc.table.map (fun x => { x with brick := none }) =
               (l.fc.table ++ o :: more).map (fun x => { x with brick := none }))) ∧
            (k = .log ∨ l.fc.safe = true ∨ l.windowOf d ≠ none → t.live.fc.safe = l.fc.safe ∧ t.live.rings = l.rings ∧ t.live.moor = l.moor ∧
              t.live.loop = l.loop ∧ t.live.rails = l.rails ∧ t.live.keeper = l.keeper ∧ t.live.msgs = l.msgs) ∧
            (k ≠ .log → l.fc.safe = false → l.windowOf d = none →
              (k = .alert ∨ k = .derate → t.live.fc.safe = false ∧ t.live.rings = l.rings ∧ t.live.moor = l.moor ∧ t.live.rails = l.rails ∧
                ∃ v, t.live.msgs.events.head? = some v ∧ v.kind = 1 ∧ v.code = d.code ∧ v.obj = d.obj ∧ v.aux = d.aux) ∧
              (k = .safe → t.live.fc.safe = true ∧ t.live.fc.safeCode = d.code ∧ t.live.fc.safeObj = d.obj ∧ t.live.keeper.live = false ∧
                t.live.keeper.st = .released ∧ ∀ r ∈ l.railNums, (t.live.rail r).st = .idle) ∧
              (k = .isolate → ∀ i, i < 256 → d.obj.toNat = 0x2000 + i →
                (l.stn i).st = .matched ∨ (l.stn i).st = .moored → (t.live.stn i).st = .barred ∧ (t.live.stn i).reason = .isolated) ∧
              (k = .reset → ∀ b, blockOf d = some b → ((l.block b).resets.filter (fun x => l.bond < x + 1000)).length < l.rstmax →
                (t.live.block b).closeAt = some (l.now + l.shw b) ∧ (t.live.block b).back = false)))))) ∧
    (∀ a : FaultArg, l.pwr.on.getLsbD 1 = true →
      (eccCodes.contains a.code.toNat = true → l.eccHere a = false → exec (.occurrenceTaken (some a)) s = .next s) ∧
      (eccCodes.contains a.code.toNat = false → ∀ k, l.routeOf a.code.toNat = some k → l.tableUsed < 63 →
        l.fc.table.any (fun o => o.stands && o.d.code = a.code && o.d.obj = a.obj) = false →
        Gives (exec (.occurrenceTaken (some a)) s) (fun t => ∃ o ∈ t.live.fc.table, o.d.code = a.code ∧ o.d.obj = a.obj ∧
          o.d.aux = a.aux ∧ o.d.val = a.val ∧ o.cls = k ∧ o.wire = false ∧ o.cond = true))) ∧
    (∀ code obj aux reads,
      (l.pwr.on.getLsbD 1 = false ∨ l.pwr.on.getLsbD (srcDomain code.toNat) = false → exec (.wireFault code obj aux reads) s = .next s) ∧
      (l.pwr.on.getLsbD 1 = true → l.pwr.on.getLsbD (srcDomain code.toNat) = true → ∀ k, l.routeOf code.toNat = some k →
        l.fc.table.any (fun o => o.stands && o.d.code = code && o.d.obj = obj) = false → l.tableUsed < 63 →
        Gives (exec (.wireFault code obj aux reads) s) (fun t => ∃ o ∈ t.live.fc.table, o.wire = true ∧ o.d.code = code ∧ o.d.obj = obj ∧
          o.d.aux = aux ∧ o.cls = k ∧ o.cond = decide (reads ≠ .absent))))

/-- O47.  Windows, the fault log, clears and the end of the safe state (R385, R389, R391, R393, R400). -/
def Obligations.WindowsLogsAndClears : Prop :=
  ∀ (s : State) (b : Fin 16),
    let l := s.live
    (l.winOpen b = true → (l.block b).back = false → l.blockBack b = true →
      Gives (exec (.blockBack b) s) (fun t => (t.live.block b).back = true ∧ (t.live.block b).closeAt = (l.block b).closeAt)) ∧
    (l.winOpen b = false ∨ l.blockBack b = false → exec (.blockBack b) s = .next s) ∧
    (∀ at_, (l.block b).closeAt = some at_ →
      (l.now < at_ → exec (.shadowWindowClose b) s = .next s) ∧
      (at_ ≤ l.now → l.fc.table.filter (fun o => o.conseq && o.stands && o.window = b.val) = [] →
        ((l.block b).back = true → Gives (exec (.shadowWindowClose b) s) (fun t => (t.live.block b).closeAt = none ∧ SameBut [.fc] s t)) ∧
        ((l.block b).back = false → l.tableUsed < 63 → l.stands 0x9005 0x9FFF = false → l.fc.safe = false →
          Gives (exec (.shadowWindowClose b) s) (fun t => (t.live.block b).closeAt = none ∧ t.live.fc.safe = true ∧
            ∃ o ∈ t.live.fc.table, o.d.code = 0x9005 ∧ o.d.aux.toNat = b ∧ o.cls = .safe))) ∧
      (∀ o k, at_ ≤ l.now → l.fc.table.filter (fun o => o.conseq && o.stands && o.window = b.val) = [o] → l.condOf o = true →
        (l.block b).back = true → l.fc.table.filter (fun x => x.same o.d) = [o] → l.routeOf o.d.code.toNat = some k → l.tableUsed < 63 →
        Gives (exec (.shadowWindowClose b) s) (fun t =>
          ∃ x ∈ t.live.fc.table, x.d = { o.d with tick := l.tick } ∧ x.cls = k ∧ x.wire = o.wire ∧ x.cond = true ∧ x.conseq = false ∧
            x.stands = true))) ∧
    (l.fwUp = true → l.sec.dbg.coresHalted = false →
      (l.fc.table.filter (fun o => o.seq.isNone) = [] → exec .faultLogCopy s = .next s) ∧
      (∀ o rest, l.fc.table.filter (fun o => o.seq.isNone) = o :: rest → (∀ x ∈ o :: rest, x.d.code ≠ 0x9006) →
        Gives (exec .faultLogCopy s) (fun t => t.live.fc.nextSeq = (l.fc.nextSeq + 1) % 2 ^ 32 ∧
          (t.live.logAt (l.logPlace l.fc.nextSeq).1).seq = l.fc.nextSeq ∧ (t.live.logAt (l.logPlace l.fc.nextSeq).1).used = true ∧
          (l.pwr.on.getLsbD 6 = true → ∃ r, t.live.recd.ring.head? = some r ∧ r.etype = 1 ∧ r.pay = o.payload l.fc.nextSeq)))) ∧
    (∀ (h : MsgHdr) (code obj : Half), Served l h 0x31 1 (leBytes code.toNat 2 ++ leBytes obj.toNat 2) →
      code ≠ 0xFFFF → l.mayClearObj (l.sess h.sess.toNat).cls obj.toNat = true →
      (l.asleep obj.toNat = true ∨ l.domUp (objDom obj.toNat) = false →
        Gives (exec (.faultClear h code obj) s) (fun t => Replied t h 0x31 0x09 [] ∧ t.live.fc = l.fc)) ∧
      (l.asleep obj.toNat = false → l.domUp (objDom obj.toNat) = true →
      (l.fc.table.find? (fun o => o.stands && o.d.code = code && o.d.obj = obj) = none →
        Gives (exec (.faultClear h code obj) s) (fun t => Replied t h 0x31 0x04 [] ∧ t.live.fc = l.fc)) ∧
      (∀ o, l.fc.table.find? (fun o => o.stands && o.d.code = code && o.d.obj = obj) = some o →
        (l.mayClear o = false → Gives (exec (.faultClear h code obj) s) (fun t => Replied t h 0x31 0x0E [] ∧ t.live.fc.table = l.fc.table)) ∧
        (l.mayClear o = true → Gives (exec (.faultClear h code obj) s) (fun t => Replied t h 0x31 0 [] ∧
          (∀ x ∈ t.live.fc.table, x.same o.d = false) ∧
          ∃ e, t.live.msgs.events.head? = some e ∧ e.kind = 2 ∧ e.code = code ∧ e.obj = obj))))) ∧
    (l.safeHeld = true ∨ l.pwr.on.getLsbD 1 = false → exec .safexit s = .next s) ∧
    (l.safeHeld = false → l.pwr.on.getLsbD 1 = true →
      Gives (exec .safexit s) (fun t => t.live.pwr.st = .boot ∧ t.live.pwr.stage = 1 ∧ t.live.pwr.cause = 2 ∧ t.live.fc.safe = false ∧
        t.live.now = l.now ∧ t.gens = []))

/-- O48.  Heartbeat, STATUS frames and planned handover drive the keeper core as Table 12.3 states (R404, R414, R418, R424,
R431). That CLAIM_NOTICE has no effect on arrival is the model's reading (log entry 40). -/
def Obligations.KeeperFollowsItsTable : Prop :=
  ∀ (s : State) (f : MateHdr),
    let l := s.live
    let k := l.keeper
    let warm := k.st = .warming ∨ k.st = .waiting
    let held := k.st = .claiming ∨ k.st = .keeper
    (l.kUp = true → k.live = true → l.tick % 20000 = 0 → k.hboutAt ≠ l.now →
      Gives (exec .heartbeatToggle s) (fun t => t.live.keeper = { k with hbout := !k.hbout, hboutAt := l.now } ∧ SameBut [.keeper] s t)) ∧
    (k.live = false ∨ l.tick % 20000 ≠ 0 → exec .heartbeatToggle s = .next s) ∧
    (l.kUp = true →
      Gives (exec .hbinEdge s) (fun t => t.live.keeper.hbinAt = some l.now ∧ t.live.keeper.silence = false ∧
        (held → l.detailOf 0xA007 0xA000 ∈ t.live.fc.details ∧
          (k.roleB = true → t.live.keeper.st = .watch ∧ t.live.keeper.live = false) ∧
          (k.roleB = false → t.live.keeper.st = k.st ∧ t.live.keeper.live = k.live ∧ t.live.keeper.tieWait = true)) ∧
        (warm → (k.handIn = false → t.live.keeper.st = .watch ∧ t.live.keeper.live = false) ∧
          (k.handIn = true → t.live.keeper.st = k.st)))) ∧
    (l.kUp = true → l.waitFrom + 200000 ≤ l.now →
      (k.st = .watch → l.mateHeard = true → k.mateLease = true → k.brokenRaised = false →
        Gives (exec .heartbeatSilence s) (fun t => t.live.keeper.st = .watch ∧ Raised s t [l.detailOf 0xA002 0xA000] ∧
          SameBut [.fc, .keeper] s t)) ∧
      (k.st = .watch → l.mateHeard = false ∨ k.mateLease = false →
        (l.retired = false → l.hearsA = true → Gives (exec .heartbeatSilence s) (fun t => t.live.keeper.st = .watch ∧
          l.detailOf 0xA001 0xA000 ∈ t.live.fc.details)) ∧
        (l.retired = false → l.hearsA = false → Gives (exec .heartbeatSilence s) (fun t => t.live.keeper.st = .warming ∧
          l.detailOf 0xA001 0xA000 ∈ t.live.fc.details ∧
          (l.pwr.st = .cold → t.live.pwr.st = .boot ∧ t.live.pwr.stage = 2 ∧ t.live.pwr.cause = 3))) ∧
        (l.retired = true → Gives (exec .heartbeatSilence s) (fun t => t.live.keeper.st = .watch ∧ SameBut [.keeper] s t))) ∧
      (held → k.tieWait = true → Gives (exec .heartbeatSilence s) (fun t => t.live.keeper.st = .claiming ∧ t.live.keeper.live = false ∧
        t.live.keeper.stored = k.epoch + 1 ∧ t.live.keeper.claimDue = true ∧ t.live.keeper.releaseRings = l.ringsIn .running))) ∧
    (l.now < l.waitFrom + 200000 → exec .heartbeatSilence s = .next s) ∧
    (l.kUp = true → f.crcOk = true → 16 ≤ f.data.length →
      Gives (exec (.mateStatus f) s) (fun t => t.live.keeper.mateAt = some l.now ∧ t.live.keeper.mateEpoch = f.epoch ∧
        t.live.keeper.mateB = f.flags.getLsbD 0 ∧ t.live.keeper.mateLease = f.flags.getLsbD 1 ∧ t.live.keeper.downRaised = false ∧
        t.live.keeper.mateBond = leNat (sliceB f.data 8 8) ∧
        (warm → k.roleB = true → f.flags.getLsbD 0 = false → 1 ≤ (f.data.getD 0 0).toNat → (f.data.getD 0 0).toNat ≤ 4 →
          k.handIn = false → t.live.keeper.st = .watch) ∧
        (¬ warm ∨ k.roleB = false ∨ k.handIn = true → t.live.keeper.st = k.st) ∧
        (∀ lo hi, l.mateRange = some (lo, hi) → leNat (sliceB f.data 2 2) < lo → k.incompat = false →
          t.live.keeper.incompat = true ∧ l.detailOf 0xA008 0xA000 ∈ t.live.fc.details))) ∧
    (l.kUp = false ∨ f.crcOk = false → exec (.mateStatus f) s = .next s) ∧
    (l.kUp = true → k.mateen = true → k.downRaised = false → max k.resetAt (k.mateAt.getD 0) + 10 * 200000 ≤ l.now →
      Gives (exec .kprMateDown s) (fun t => Raised s t [l.detailOf 0xA003 0xA000] ∧ t.live.keeper = { k with downRaised := true } ∧
        SameBut [.fc, .keeper] s t)) ∧
    exec (.claimNotice f) s = .next s ∧
    (l.kUp = true → f.crcOk = true →
      (k.st = .watch → l.retired = false → Gives (exec (.handoverReq f) s) (fun t => t.live.keeper.st = .warming ∧ t.live.keeper.handIn = true)) ∧
      (k.st ≠ .watch ∨ l.retired = true → exec (.handoverReq f) s = .next s) ∧
      (∀ at_, k.hand = .asked at_ → Gives (exec (.handoverReady f) s) (fun t => t.live.keeper = { k with hand := .ready } ∧ SameBut [.keeper] s t)) ∧
      (k.handIn = true → Gives (exec (.handoverGo f) s) (fun t => t.live.keeper = { k with goSeen := true } ∧ SameBut [.keeper] s t))) ∧
    (∀ at_, k.hand = .asked at_ →
      (at_ + 400000000 ≤ l.now → Gives (exec .kprHandoverFail s) (fun t => t.live.keeper = { k with hand := .none } ∧
        Raised s t [l.detailOf 0xA00B 0xA000] ∧ SameBut [.fc, .keeper] s t)) ∧
      (l.now < at_ + 400000000 → exec .kprHandoverFail s = .next s))

/-- O49.  The way to the lease: WAITING, the wait, the claim at its epoch, and the end of the claim window (R413, R415, R416,
R417, R419). -/
def Obligations.ClaimsGoByEpoch : Prop :=
  ∀ (s : State) (r : Fin 8),
    let l := s.live
    let k := l.keeper
    let bs := l.boundStns
    (k.st = .warming → l.working = true → l.img.atStart = none →
      Gives (exec .warmingDone s) (fun t => t.live.keeper.st = .waiting ∧ t.live.keeper.waitBond = l.bond ∧ t.live.keeper.passSeen = false ∧
        ∀ p ∈ l.stns, (t.live.stn p.1).leaseSeen = false)) ∧
    (k.st ≠ .warming ∨ l.working = false → exec .warmingDone s = .next s) ∧
    (l.kUp = true → k.st = .warming ∨ k.st = .waiting →
      (max k.resetAt (k.hbinAt.getD 0) + (k.tl * 50000 * 105 / 100 + 400000) ≤ l.now →
        Gives (exec .claimWaitExpiry s) (fun t => t.live.keeper = { k with waited := true } ∧ SameBut [.keeper] s t)) ∧
      (l.now < max k.resetAt (k.hbinAt.getD 0) + (k.tl * 50000 * 105 / 100 + 400000) → exec .claimWaitExpiry s = .next s)) ∧
    (k.handIn = false →
      (k.st = .waiting → l.working = true → l.claimReady = true → k.waited = true ∨ k.goSeen = true → l.hearsA = false → l.flashProgram = true →
        Gives (exec .claimStart s) (fun t => t.live.keeper.st = .claiming ∧ t.live.keeper.claimDue = true ∧ t.live.keeper.stored = l.claimEpoch ∧
          t.live.keeper.live = k.live ∧ ∃ g, t.live.keeper.sent.head? = some g ∧ g.ftype = 4 ∧ g.epoch = l.claimEpoch)) ∧
      (k.st ≠ .waiting ∨ l.claimReady = false ∨ (k.waited = false ∧ k.goSeen = false) ∨ l.hearsA = true → exec .claimStart s = .next s)) ∧
    (k.st = .claiming → k.live = true →
      let ends := (bs ≠ [] ∧ bs.all (fun p => l.leaseOk p.2) = true) ∨ k.claimAt + (k.tl * 50000 * 105 / 100 + 400000) ≤ l.now
      (ends → bs.any (fun p => l.leaseOk p.2) = true →
        Gives (exec .claimWindowEnd s) (fun t => t.live.keeper.st = .keeper ∧ t.live.keeper.live = true ∧ t.live.keeper.epoch = k.epoch)) ∧
      (ends → bs.any (fun p => l.leaseOk p.2) = false →
        Gives (exec .claimWindowEnd s) (fun t => t.live.keeper.st = .watch ∧ t.live.keeper.live = false ∧
          ∃ d ∈ t.live.fc.details, d.code = 0xA005 ∧ d.obj = 0xA000)) ∧
      (¬ ends → exec .claimWindowEnd s = .next s)) ∧
    (k.st = .keeper → 8 ≤ (l.ring r).dmissRun →
      Gives (exec (.dmissAllSlots r) s) (fun t => (t.live.ring r).dmissRun = 0 ∧
        ∀ p ∈ bs, p.2.ring = r.val → ∃ q : MgmtReq, q.mop = 8 ∧ q.mtag = 3 ∧
          (q ∈ (t.live.stn p.1).queue ∨ (t.live.stn p.1).req = some q))) ∧
    (k.st ≠ .keeper ∨ (l.ring r).dmissRun < 8 → exec (.dmissAllSlots r) s = .next s)

/-- O50.  Blocks of checkpoints and images go over the mate link (R424, R426, R427, R430): a block is acknowledged by what its
checks give, sent again after BAD_CRC or 100 µs, and abandoned at its eighth send; a whole checkpoint or image takes the other
buffer or slot. -/
def Obligations.BlocksGoOverTheMateLink : Prop :=
  ∀ (s : State) (f : MateHdr) (b : Fin 30),
    let l := s.live
    let k := l.keeper
    let acked (t : State) (ty : Byte) (data : List Byte) : Prop :=
      ∃ g, t.live.keeper.sent.head? = some g ∧ g.ftype = ty ∧ g.seq = f.seq ∧ g.idx = f.idx ∧ g.data = data
    (l.kUp = true →
      (f.crcOk = false → Gives (exec (.ckptData f) s) (fun t => acked t 3 [1] ∧ t.live.keeper.bufA = k.bufA ∧ t.live.keeper.bufB = k.bufB)) ∧
      (f.crcOk = true → k.incompat = true →
        Gives (exec (.ckptData f) s) (fun t => acked t 3 [2] ∧ t.live.keeper.bufA = k.bufA ∧ t.live.keeper.bufB = k.bufB)) ∧
      (f.crcOk = true → k.incompat = false →
        let buf := if k.fillsA then k.bufA else k.bufB
        let kept (t : State) : Prop := if k.fillsA then t.live.keeper.bufB = k.bufB else t.live.keeper.bufA = k.bufA
        let fills (t : State) : CkptBuf := if k.fillsA then t.live.keeper.bufA else t.live.keeper.bufB
        (f.idx = 0 → (ckptHead f.data).seq = f.seq → 2 ≤ (ckptHead f.data).blk → (ckptHead f.data).blk ≤ 30 →
          Gives (exec (.ckptData f) s) (fun t => acked t 3 [0] ∧ kept t ∧ (fills t).state = 1 ∧ (fills t).seq = f.seq ∧
            tfind (fills t).blocks 0 = some f.data)) ∧
        (f.idx ≠ 0 → f.idx.toNat < buf.blk → buf.blk ≤ 30 → buf.state = 1 → buf.seq = f.seq →
          Gives (exec (.ckptData f) s) (fun t => acked t 3 [0] ∧ kept t ∧ (fills t).blocks = tset buf.blocks f.idx.toNat f.data ∧
            ((fills t).blocks.length = buf.blk → (fills t).state = 2 ∧ (fills t).rcv = l.now ∧ t.live.keeper.ckSeq = f.seq ∧
              t.live.keeper.ckOk = true) ∧
            ((fills t).blocks.length ≠ buf.blk → (fills t).state = 1))))) ∧
    (∀ x, k.tx = some x → l.kUp = true →
      let again (t : State) (i : Nat) : Prop :=
        ((tfind x.sends i).getD 0 < 8 → ∃ y g, t.live.keeper.tx = some y ∧ tfind y.sends i = some ((tfind x.sends i).getD 0 + 1) ∧
          tfind y.sentAt i = some l.now ∧ t.live.keeper.sent.head? = some g ∧ g.ftype = 2 ∧ g.seq = x.seq ∧ g.data = x.blocks.getD i []) ∧
        (8 ≤ (tfind x.sends i).getD 0 → t.live.keeper.tx = none ∧ t.live.keeper.ckOk = false)
      (f.crcOk = true → f.seq = x.seq → (tfind x.sends f.idx.toNat).isSome = true → f.idx.toNat ∉ x.acked →
        ((f.data.getD 0 0) = 0 → x.acked.length + 1 = x.blocks.length → Gives (exec (.ckptAck f) s) (fun t =>
          t.live.keeper.tx = none ∧ t.live.keeper.ckOk = true ∧ t.live.keeper.ckSeq = x.seq)) ∧
        ((f.data.getD 0 0) = 0 → x.acked.length + 1 ≠ x.blocks.length → Gives (exec (.ckptAck f) s) (fun t =>
          ∃ y, t.live.keeper.tx = some y ∧ y.acked = x.acked ++ [f.idx.toNat])) ∧
        ((f.data.getD 0 0) = 1 → Gives (exec (.ckptAck f) s) (fun t => again t f.idx.toNat))) ∧
      (∀ at_, tfind x.sentAt b = some at_ →
        (b.val ∉ x.acked → at_ + 20000 ≤ l.now → Gives (exec (.ckptBlockTimeout b) s) (fun t => again t b)) ∧
        (b.val ∈ x.acked ∨ l.now < at_ + 20000 → exec (.ckptBlockTimeout b) s = .next s))) ∧
    (k.tx = none → exec (.ckptAck f) s = .next s ∧ exec (.ckptBlockTimeout b) s = .next s) ∧
    (l.kUp = true → k.mateen = true →
      (f.crcOk = false → Gives (exec (.imgData f) s) (fun t => acked t 6 [1] ∧ t.live.img = l.img)) ∧
      (f.crcOk = true → k.live = true ∨ k.incompat = true → Gives (exec (.imgData f) s) (fun t => acked t 6 [2] ∧ t.live.img = l.img)) ∧
      (f.crcOk = true → k.live = false → k.incompat = false → f.data.length ≤ 1024 → l.flashErase = true →
        (f.idx ≠ 0 → f.idx.toNat < f.seq.toNat → k.imgCount = f.seq.toNat →
          (∃ m, m < f.seq.toNat ∧ m ≠ f.idx.toNat ∧ tfind k.imgRx m = none) →
          Gives (exec (.imgData f) s) (fun t => acked t 6 [0] ∧ t.live.img = l.img ∧ tfind t.live.keeper.imgRx f.idx.toNat = some f.data)) ∧
        (f.idx = 0 → f.seq = 1 → ∀ n, l.img.slot = some n →
          let i := parseImage f.data
          let dst := if n = 0 then 1 else 0
          Gives (exec (.imgData f) s) (fun t => acked t 6 ([0, 0, 0, 0] ++ (i.hash ++ List.replicate 32 0).take 32) ∧
            (t.live.storeSlot dst).img = i ∧ (t.live.storeSlot dst).used = true ∧ (t.live.storeSlot dst).act = 0xFFFFFFFF ∧
            (∀ m, m ≠ dst → t.live.storeSlot m = l.storeSlot m) ∧ t.live.img.cur = l.img.cur))))

/-- O51.  Sessions open, authenticate, close and time out; a request that fails its checks is answered BAD_CRC or REFUSED
(R461, R462, R465, R466, R468). -/
def Obligations.SessionsOpenAndClose : Prop :=
  ∀ (s : State) (h : MsgHdr) (c : BitVec 2),
    let l := s.live
    let n := h.sess.toNat
    let free (mop : Nat) (body : List Byte) : Prop :=
      l.portTakes h.port (msgFrame (MsgHdr.msess h) (BitVec.ofNat 8 mop) body) = true ∧ l.serving h.port = .firmware ∧
        l.turn h.port = true
    (h.sess = 0 → h.port.val ≠ 2 → free 0x01 [c.setWidth 8] → (c ≠ 0 → l.pwr.st ≠ .holdup) →
      let e := exec (.msgOpen h c) s
      (l.classOpens c.toNat = false ∨ (c ≠ 0 ∧ (l.mport h.port).lockEnd ≠ none) →
        Gives e (fun t => Replied t h 0x01 0x02 [] ∧ ∀ m, t.live.sess m = l.sess m)) ∧
      (l.classOpens c.toNat = true → (c ≠ 0 → (l.mport h.port).lockEnd = none) →
        (l.freeSess = none → Gives e (fun t => Replied t h 0x01 0x01 [])) ∧
        (∀ m, l.freeSess = some m →
          (c = 0 → Gives e (fun t => Replied t h 0x01 0 [BitVec.ofNat 8 m, 0, 0, 0] ∧
            t.live.sess m = { port := h.port, openAt := l.now, lastAt := l.now, ptr := l.msgs.evSeq, opened := true })) ∧
          (c ≠ 0 → Gives e (fun t => ∃ nonce, nonce.length = 16 ∧ Replied t h 0x01 0 ([BitVec.ofNat 8 m, 0, 0, 0] ++ nonce) ∧
            t.live.sess m = { port := h.port, openAt := l.now, lastAt := l.now, ptr := l.msgs.evSeq, pendg := true, cls := c.toNat,
                              nonce := nonce }))))) ∧
    (∀ hmac : List Byte, hmac.length = 32 → free 0x02 hmac → l.pwr.st ≠ .holdup → h.sess ≠ 0 → (l.sess n).pendg = true →
      (l.sess n).port = h.port → (l.sess n).repeats { h := h, mop := 0x02, body := hmac } = false →
      let e := exec (.msgAuth h hmac) s
      let tries := ((l.now :: (l.mport h.port).fails).filter (fun t => l.now < t + 200000000)).length
      (∀ key, l.classKey (l.sess n).cls = some key → hmacSha256 key (l.authText n) = hmac →
        Gives e (fun t => Replied t h 0x02 0 [] ∧ (t.live.sess n).opened = true ∧ (t.live.sess n).pendg = false ∧ (t.live.sess n).nonce = [] ∧
          (t.live.sess n).cls = (l.sess n).cls)) ∧
      ((∀ key, l.classKey (l.sess n).cls = some key → hmacSha256 key (l.authText n) ≠ hmac) →
        Gives e (fun t => Replied t h 0x02 0x02 [] ∧ t.live.sess n = {} ∧
          (3 ≤ tries → (t.live.mport h.port).lockEnd = some (l.now + fld (l.hw 0xD000 0) 23 16 * 200000000) ∧
            l.detailOf 0xB006 0xD000 h.port ∈ t.live.fc.details) ∧
          (tries < 3 → (t.live.mport h.port).lockEnd = (l.mport h.port).lockEnd)))) ∧
    (Served l h 0x03 0 [] → Gives (exec (.msgClose h) s) (fun t => Replied t h 0x03 0 [] ∧ t.live.sess n = {} ∧
      (l.img.txn.st = .opened → l.img.txn.owner = n → t.live.img.txn.st = .idle) ∧ (l.img.txn.st = .pending → t.live.img.txn.st = .pending))) ∧
    (∀ m : Fin 16,
      ((l.sess m).pendg = true → (l.sess m).openAt + 2000000000 ≤ l.now →
        Gives (exec (.sessionAuthTimeout m) s) (fun t => t.live.sess m = {} ∧ ∀ j, j ≠ m.val → t.live.sess j = l.sess j)) ∧
      ((l.sess m).pendg = false ∨ l.now < (l.sess m).openAt + 2000000000 → exec (.sessionAuthTimeout m) s = .next s) ∧
      ((l.sess m).opened = true → (l.sess m).lastAt + l.sidle ≤ l.now →
        Gives (exec (.sessionIdleTimeout m) s) (fun t => t.live.sess m = {} ∧ ∀ j, j ≠ m.val → t.live.sess j = l.sess j)) ∧
      ((l.sess m).opened = false ∨ l.now < (l.sess m).lastAt + l.sidle → exec (.sessionIdleTimeout m) s = .next s)) ∧
    (∀ (p : Fin 3) at_, (l.mport p).lockEnd = some at_ →
      (at_ ≤ l.now → Gives (exec (.authLockEnd p) s) (fun t => t.live.mport p = { l.mport p with lockEnd := none } ∧ SameBut [.msgs] s t)) ∧
      (l.now < at_ → exec (.authLockEnd p) s = .next s)) ∧
    (∀ (p : Fin 3) (frame : List Byte), l.portTakes p frame = true → l.serving p = .firmware → l.turn p = true →
      let bad := !frameLenOk frame || !frameCrcOk frame
      let refused := !bodyOk (frame.getD 3 0).toNat (sliceB frame 4 (frame.length - 6))
      let says_ (st : Byte) (t : State) : Prop :=
        (t.live.mport p).reply = some (msgFrame (frame.getD 2 0) (frame.getD 3 0) [st]) ∧ (t.live.mport p).inbox = none ∧
          ∀ j, t.live.sess j = l.sess j
      (bad = true → Gives (exec (.msgBadRequest p frame) s) (says_ 0x03)) ∧
      (bad = false → refused = true → Gives (exec (.msgBadRequest p frame) s) (says_ 0x0C)) ∧
      (bad = false → refused = false → exec (.msgBadRequest p frame) s = .next s)) ∧
    (∀ (p : Fin 3) (frame : List Byte), l.portTakes p frame = false → exec (.msgBadRequest p frame) s = .next s)

/-- O52.  READ gives the words of one generation, WRITE acts on words of one effect and pins hold a generation; a request that
fails a check is answered with that check's status (R463, R471, R472, R473, R474, R477, R484). -/
def Obligations.ReadsWritesAndPins : Prop :=
  ∀ (s : State) (h : MsgHdr) (obj : Half) (first count : Byte) (g : Live),
    let l := s.live
    let n := h.sess.toNat
    let c := (l.sess n).cls
    let newest : Prop := l.msgs.published = true ∧ tfind s.gens l.msgs.gen = some g
    (∀ (flags : Byte) (gen : List Byte),
      let body := leBytes obj.toNat 2 ++ [first, count, flags] ++ gen
      let e := exec (.msgRead h obj first count flags gen) s
      Served l h 0x10 0 body →
      (∀ st, s.readCheck body c = st → st ≠ 0 → Gives e (fun t => Replied t h 0x10 st [])) ∧
      (s.readCheck body c = 0 →
        (flags = 0 → newest → Gives e (fun t => t.gens = s.gens ∧
          Replied t h 0x10 0 (readData g obj.toNat false false ((List.range count.toNat).map (fun i => g.objWord obj.toNat (first.toNat + i)))))) ∧
        (∀ k : BitVec 48, flags = 2 → gen = leBytes k.toNat 6 →
          (s.pinnedGen k.toNat = some g → Gives e (fun t =>
            Replied t h 0x10 0 (readData g obj.toNat false true ((List.range count.toNat).map (fun i => g.objWord obj.toNat (first.toNat + i)))))) ∧
          (s.pinnedGen k.toNat = none → Gives e (fun t => Replied t h 0x10 0x0A []))) ∧
        (flags = 1 → newest →
          (l.img.txn.st ≠ .opened → Gives e (fun t => Replied t h 0x10 0x06 [])) ∧
          (l.img.txn.st = .opened → l.img.txn.owner ≠ n → Gives e (fun t => Replied t h 0x10 0x07 [])) ∧
          (l.img.txn.st = .opened → l.img.txn.owner = n → Gives e (fun t =>
            Replied t h 0x10 0 (readData g obj.toNat true false
              ((List.range count.toNat).map (fun i => shadowWord l.img.txn.image.1 g obj.toNat (first.toNat + i))))))))) ∧
    (∀ words : List Word,
      let o := obj.toNat
      let body := leBytes o 2 ++ [first, BitVec.ofNat 8 words.length] ++ words.flatMap (fun w => leBytes w.toNat 4)
      let e := exec (.msgWrite h obj first words) s
      let ws := writeWords body
      let clean := ws.all (fun p => p.2 &&& rsvMask o p.1 = 0)
      Served l h 0x11 1 body → safexitBit body = false →
      (∀ st, s.writeCheck body c = st → st ≠ 0 → Gives e (fun t => Replied t h 0x11 st [] ∧ t.live.host = l.host ∧ t.live.bondWrites = l.bondWrites)) ∧
      (s.writeCheck body c = 0 →
        (2 ≤ (writeEffs o ws).length ∨ clean = false → Gives e (fun t => Replied t h 0x11 0x0C [] ∧ t.live.host = l.host ∧
          t.live.bondWrites = l.bondWrites ∧ t.live.img.txn.shadow = l.img.txn.shadow)) ∧
        (clean = true → writeEffs o ws = [] → Gives e (fun t => Replied t h 0x11 0 [] ∧ t.live.host = l.host ∧
          t.live.bondWrites = l.bondWrites ∧ t.live.img.txn.shadow = l.img.txn.shadow)) ∧
        (clean = true → writeEffs o ws = [1] → l.writeOk o ws = true → Gives e (fun t => Replied t h 0x11 0 [] ∧
          t.live.bondWrites = l.bondWrites ++ (ws.filter (fun p => wordEff o p.1 = some 1)).map (fun p => (key o p.1, p.2 &&& writeMask o p.1)) ∧
          t.live.host = l.host)) ∧
        (clean = true → ∀ v, words = [v] → writeEffs o ws = [3] → l.writeOk o ws = true → o = 0xD000 → Gives e (fun t =>
          Replied t h 0x11 0 [] ∧ t.live.hw o first.toNat = mergeWord o first.toNat (l.hw o first.toNat) v ∧ t.live.bondWrites = l.bondWrites)) ∧
        (clean = true → writeEffs o ws = [0] →
          (l.img.txn.st = .idle ∨ l.img.txn.st = .pending → Gives e (fun t => Replied t h 0x11 0x06 [])) ∧
          (l.img.txn.st = .committing → Gives e (fun t => Replied t h 0x11 0x01 [])) ∧
          (l.img.txn.st = .opened → l.img.txn.owner ≠ n → Gives e (fun t => Replied t h 0x11 0x07 [])) ∧
          (∀ v, words = [v] → l.img.txn.st = .opened → l.img.txn.owner = n → l.img.txn.raw = none → Gives e (fun t =>
            Replied t h 0x11 0 [] ∧ t.live.img.cur = l.img.cur ∧ t.live.img.txn.shadow =
              l.img.txn.shadow.edit (key o first.toNat) (mergeWord o first.toNat (l.img.txn.image.1.word o first.toNat) v)))))) ∧
    (Served l h 0x12 0 [] → newest →
      (l.pinned.contains l.msgs.gen = true ∨ l.pinned.length < 2 → Gives (exec (.snapPin h) s) (fun t =>
        Replied t h 0x12 0 (leBytes l.msgs.gen 6) ∧ (l.msgs.gen, l.now + 10000000) ∈ (t.live.sess n).pins ∧ tfind t.gens l.msgs.gen = some g)) ∧
      (l.pinned.contains l.msgs.gen = false → 2 ≤ l.pinned.length →
        Gives (exec (.snapPin h) s) (fun t => Replied t h 0x12 0x01 [] ∧ t.gens = s.gens))) ∧
    (∀ k : BitVec 48, Served l h 0x13 0 (leBytes k.toNat 6) →
      ((l.sess n).pins.any (fun p => p.1 = k.toNat) = true → Gives (exec (.snapRelease h k) s) (fun t => Replied t h 0x13 0 [] ∧
        (t.live.sess n).pins = (l.sess n).pins.filter (fun p => p.1 ≠ k.toNat) ∧
        (l.msgs.published = true → tfind t.gens l.msgs.gen = tfind s.gens l.msgs.gen))) ∧
      ((l.sess n).pins.any (fun p => p.1 = k.toNat) = false → Gives (exec (.snapRelease h k) s) (fun t => Replied t h 0x13 0x0A []))) ∧
    (∀ (k : BitVec 48) (m : Fin 16), Gives (exec (.snapPinExpiry k) s) (fun t =>
      (t.live.sess m).pins = (l.sess m).pins.filter (fun p => p.1 ≠ k.toNat || l.now < p.2) ∧
      (l.msgs.published = true → tfind t.gens l.msgs.gen = tfind s.gens l.msgs.gen)))

/-- O53.  Events are polled oldest first after the session's pointer (R482), and a disagreement is listed once it has stood for
the grace time (R475, R476). Counters, instruction samples and records are read by message (R532 to R535); a read with clear
zeroes what it read. -/
def Obligations.EventsCountersAndRecordsAreRead : Prop :=
  (∀ (s : State) (h : MsgHdr),
     let l := s.live
     let n := h.sess.toNat
     (∀ most : Byte, Served l h 0x30 0 [most] →
       let after := (l.msgs.events.filter (fun e => (l.sess n).ptr < e.seq)).reverse
       let es := after.take most.toNat
       (after = [] → Gives (exec (.eventPoll h most) s) (fun t => Replied t h 0x30 0 [0, 0, 0, 0] ∧ (t.live.sess n).ptr = (l.sess n).ptr)) ∧
       (∀ e rest, after = e :: rest → ∀ f, es.getLast? = some f → Gives (exec (.eventPoll h most) s) (fun t =>
         Replied t h 0x30 0 ([if (l.sess n).ptr + 1 < e.seq then 1 else 0, BitVec.ofNat 8 es.length, 0, 0] ++ es.flatMap HostEvent.octets) ∧
         (t.live.sess n).ptr = f.seq ∧ t.live.msgs.events = l.msgs.events))) ∧
     (∀ (row : Fin 32) (obj : Half) (w want got : Nat), l.disCase row obj.toNat = some (w, want, got) → l.fwUp = true →
       let run := tget 0 l.msgs.disRun (65536 * row.val + obj.toNat) + 1
       let e := exec (.disagreementListed row obj) s
       (run < l.graceBonds ∨ l.disListed row obj.toNat = true → e = .next s) ∧
       (l.graceBonds ≤ run → l.disListed row obj.toNat = false →
         (∀ k, (List.range 32).find? (fun e => (tfind l.msgs.dis e).isNone) = some k → Gives e (fun t =>
           (∃ d, tfind t.live.msgs.dis k = some d ∧ d.obj = obj ∧ d.kind = row ∧ d.word = BitVec.ofNat 8 w ∧ d.intent = BitVec.ofNat 32 want ∧
             d.obs = BitVec.ofNat 32 got) ∧
           (∃ v, t.live.msgs.events.head? = some v ∧ v.kind = 7 ∧ v.obj = obj) ∧ SameBut [.msgs] s t)) ∧
         ((List.range 32).find? (fun e => (tfind l.msgs.dis e).isNone) = none → Gives e (fun t =>
           t.live.msgs.dovfl = true ∧ t.live.msgs.dis = l.msgs.dis)))) ∧
     (∀ (row : Fin 32) (obj : Half), l.disCase row obj.toNat = none → exec (.disagreementListed row obj) s = .next s)) ∧
  (∀ (s : State) (h : MsgHdr) (first count flags : Byte) (at_ : Half) (source which : Byte) (start : Word) (blocks : Byte),
     let l := s.live
     let c := (l.sess h.sess.toNat).cls
     (Served l h 0x40 0 [first, count, flags] →
       let e := exec (.counterRead h first count flags) s
       (∀ st, l.counterCheck first.toNat count.toNat flags.toNat c = st → st ≠ 0 → Gives e (fun t => Replied t h 0x40 st [])) ∧
       (l.counterCheck first.toNat count.toNat flags.toNat c = 0 →
         Gives e (fun t => (∀ n, n < first.toNat ∨ first.toNat + count.toNat ≤ n → n ≠ 72 → n ≠ 80 → n ≠ 84 → t.live.ctr n = l.ctr n) ∧
           (flags = 1 → ∀ n, first.toNat ≤ n → n < first.toNat + count.toNat → t.live.ctr n = {}) ∧
           (first.toNat + count.toNat ≤ 72 → Replied t h 0x40 0 ([count, 0, 0, 0] ++
             ((List.range count.toNat).map (first.toNat + ·)).flatMap (fun n =>
               [BitVec.ofNat 8 n, if (l.ctr n).ovf then 1 else 0] ++ leBytes l.tick 6 ++ leBytes (l.ctr n).val.toNat 4)))))) ∧
     (Served l h 0x41 1 (leBytes at_.toNat 2 ++ [count]) →
       (512 < at_.toNat + count.toNat → Gives (exec (.sampleRead h at_ count) s) (fun t => Replied t h 0x41 0x04 [])) ∧
       (at_.toNat + count.toNat ≤ 512 → l.domUp 6 = true →
         Gives (exec (.sampleRead h at_ count) s) (fun t => Replied t h 0x41 0 (l.sampleRead at_.toNat count.toNat)))) ∧
     (Served l h 0x50 1 ([source, which] ++ leBytes start.toNat 4 ++ [blocks]) →
       let from_ := l.recordFrom source.toNat which.toNat start.toNat
       (from_ = none → Gives (exec (.recordRead h source which start blocks) s) (fun t => Replied t h 0x50 0x04 [])) ∧
       (∀ a b, from_ = some (a, b) → l.domUp 6 = true → Gives (exec (.recordRead h source which start blocks) s) (fun t =>
         Replied t h 0x50 0 ([source, BitVec.ofNat 8 (min blocks.toNat (cdiv b.length 32))] ++ leBytes a 4 ++
           padTo (32 * min blocks.toNat (cdiv b.length 32)) 0 b)))))

/-- O54.  The transaction follows Table 14.7 and R478 to R481: begun, rolled back, timed out, validated, committed; staged once
the mate has confirmed where it must (R430, R455), and activated two bonds on. A commit that fails leaves it open. -/
def Obligations.TransactionsFollowTheTable : Prop :=
  ∀ (s : State) (h : MsgHdr) (f : MateHdr),
    let l := s.live
    let n := h.sess.toNat
    let x := l.img.txn
    let failed (t : State) : Prop := t.live.img.txn.st = .opened ∧ t.live.img.txn.outcome = 6 ∧ t.live.img.cur = l.img.cur ∧ t.live.img.slots = l.img.slots
    (Served l h 0x20 1 [] →
      let e := exec (.txnBegin h) s
      (l.keeper.live = false → Gives e (fun t => Replied t h 0x20 0x08 [] ∧ t.live.img.txn.st = x.st)) ∧
      (l.keeper.live = true →
        (x.st = .idle → Gives e (fun t => Replied t h 0x20 0 (leBytes (x.num + 1).toNat 2) ∧ t.live.img.txn.st = .opened ∧
          t.live.img.txn.num = x.num + 1 ∧ t.live.img.txn.owner = n ∧ t.live.img.txn.shadow = l.img.cur ∧ t.live.img.txn.raw = none)) ∧
        (x.st = .opened → Gives e (fun t => Replied t h 0x20 (if x.owner = n then 0x0C else 0x07) [])) ∧
        (x.st = .committing ∨ x.st = .pending → Gives e (fun t => Replied t h 0x20 0x01 [])))) ∧
    (Served l h 0x22 1 [] →
      let e := exec (.txnRollback h) s
      (x.st ≠ .opened → Gives e (fun t => Replied t h 0x22 0x06 [] ∧ t.live.img.txn.st = x.st)) ∧
      (x.st = .opened → x.owner ≠ n → Gives e (fun t => Replied t h 0x22 0x07 [] ∧ t.live.img.txn.st = .opened)) ∧
      (x.st = .opened → x.owner = n → Gives e (fun t => Replied t h 0x22 0 [] ∧ t.live.img.txn.st = .idle ∧ t.live.img.txn.outcome = 3 ∧
        t.live.img.cur = l.img.cur))) ∧
    (Served l h 0x23 0 [] →
      (x.st ≠ .opened ∨ x.owner ≠ n → Gives (exec (.txnStatus h) s) (fun t => Replied t h 0x23 0 l.txnStatus)) ∧
      (x.st = .opened → x.owner = n → Gives (exec (.txnStatus h) s) (fun t => Replied t h 0x23 0
        ([1, BitVec.ofNat 8 n] ++ leBytes x.num.toNat 2 ++ [BitVec.ofNat 8 x.outcome, 0] ++ leBytes 100 2 ++ leBytes x.lastAct 8)))) ∧
    (Served l h 0x21 1 [] →
      let e := exec (.txnCommit h) s
      (l.keeper.live = false → Gives e (fun t => Replied t h 0x21 (if l.fc.safe then 0x0C else 0x08) [] ∧ t.live.img.txn.st = x.st)) ∧
      (l.keeper.live = true →
        (x.st = .idle ∨ x.st = .pending → Gives e (fun t => Replied t h 0x21 0x06 [])) ∧
        (x.st = .committing → Gives e (fun t => Replied t h 0x21 0x01 [])) ∧
        (x.st = .opened → x.owner ≠ n → Gives e (fun t => Replied t h 0x21 0x07 [])) ∧
        (x.st = .opened → x.owner = n →
          (l.shadowDenied (l.sess n).cls = true → Gives e (fun t => Replied t h 0x21 0x02 (leBytes x.num.toNat 2 ++ [0, 0]) ∧ failed t)) ∧
          (l.shadowDenied (l.sess n).cls = false →
            Gives e (fun t => match (l.validate x.image.1 x.image.2).1 with
              | r :: rs => failed t ∧ Replied t h 0x21 (reasonStatus r.reason)
                  (leBytes x.num.toNat 2 ++ [BitVec.ofNat 8 (r :: rs).length, 0] ++ (r :: rs).flatMap VRep.octets)
              | [] => t.live.img.txn.st = .committing ∧ t.live.img.txn.ready = x.image.1 ∧
                  t.live.img.txn.held = some (h.port.val, MsgHdr.msess h) ∧ (t.live.mport h.port).reply = (l.mport h.port).reply ∧
                  t.live.img.cur = l.img.cur))))) ∧
    (∀ ok : Bool,
      let e := exec (.commitComplete ok) s
      let dst := if l.img.slot = some 0 then 1 else 0
      (x.st ≠ .committing ∨ l.needsMate = true ∨ l.fwWork = false → e = .next s) ∧
      (x.st = .committing → l.needsMate = false → l.fwWork = true →
        (ok = true → l.flashErase = true → l.flashProgram = true → Gives e (fun t => t.live.img.txn.st = .pending ∧
          t.live.img.txn.actBond = l.bond + 2 ∧ t.live.img.txn.held = none ∧ (t.live.storeSlot dst).img = x.ready ∧
          (t.live.storeSlot dst).used = true ∧ (∀ m, m ≠ dst → t.live.storeSlot m = l.storeSlot m) ∧ t.live.img.cur = l.img.cur ∧
          (∀ p m, x.held = some (p, m) →
            (t.live.mport p).reply = some (msgFrame m 0x21 (0 :: (leBytes x.num.toNat 2 ++ leBytes (l.bond + 2) 8)))))) ∧
        (ok = false ∨ l.flashErase = false ∨ l.flashProgram = false → Gives e (fun t => failed t ∧ Raised s t [l.detailOf 0xB003 0x0001])))) ∧
    (l.kUp = true → f.crcOk = true → x.st = .committing → x.mateOk = false → f.idx.toNat = l.keeper.imgAcked →
      let e := exec (.imgAck f) s
      (f.data.getD 0 2 = 0 → l.keeper.imgAcked + 1 < l.keeper.imgTx.length → Gives e (fun t => t.live.keeper.imgAcked = l.keeper.imgAcked + 1 ∧
        ∃ g, t.live.keeper.sent.head? = some g ∧ g.ftype = 5 ∧ g.data = l.keeper.imgTx.getD (l.keeper.imgAcked + 1) [])) ∧
      (f.data.getD 0 2 = 0 → l.keeper.imgTx.length ≤ l.keeper.imgAcked + 1 →
        (sliceB f.data 4 32 = x.ready.hash → Gives e (fun t => t.live.img.txn = { x with mateOk := true })) ∧
        (sliceB f.data 4 32 ≠ x.ready.hash → Gives e failed)) ∧
      (f.data.getD 0 2 = 1 → f.idx.toNat < l.keeper.imgTx.length → Gives e (fun t => t.live.img = l.img ∧
        ∃ g, t.live.keeper.sent.head? = some g ∧ g.ftype = 5 ∧ g.data = l.keeper.imgTx.getD f.idx.toNat [])) ∧
      (f.data.getD 0 2 = 2 → Gives e failed)) ∧
    (l.kUp = false ∨ f.crcOk = false ∨ x.st ≠ .committing → exec (.imgAck f) s = .next s) ∧
    (x.st = .committing → l.needsMate = true → x.syncAt + 400000000 ≤ l.now → Gives (exec .imageSyncTimeout s) failed) ∧
    (x.st ≠ .committing ∨ l.needsMate = false ∨ l.now < x.syncAt + 400000000 → exec .imageSyncTimeout s = .next s) ∧
    (x.st = .opened → x.lastAt + 2000000000 ≤ l.now → Gives (exec .txnTimeout s) (fun t => t.live.img.txn.st = .idle ∧
      t.live.img.txn.outcome = 4 ∧ t.live.img.cur = l.img.cur ∧ Raised s t [l.detailOf 0xB007 (0xD010 + x.owner) x.num.toNat])) ∧
    (x.st ≠ .opened ∨ l.now < x.lastAt + 2000000000 → exec .txnTimeout s = .next s) ∧
    (∀ (off : Word) (data : List Byte), Served l h 0x60 2 (leBytes off.toNat 4 ++ data) →
      let e := exec (.imageWrite h off data) s
      (l.keeper.live = false → Gives e (fun t => Replied t h 0x60 0x08 [] ∧ t.live.img.txn.raw = x.raw)) ∧
      (l.keeper.live = true →
        (258048 < off.toNat + data.length → Gives e (fun t => Replied t h 0x60 0x0C [] ∧ t.live.img.txn.raw = x.raw)) ∧
        (off.toNat + data.length ≤ 258048 →
          (x.st = .idle ∨ x.st = .pending → Gives e (fun t => Replied t h 0x60 0x06 [])) ∧
          (x.st = .opened → x.owner ≠ n → Gives e (fun t => Replied t h 0x60 0x07 [])) ∧
          (x.st = .opened → x.owner = n → Gives e (fun t => Replied t h 0x60 0 [] ∧ t.live.img.cur = l.img.cur ∧
            ∃ r, t.live.img.txn.raw = some r ∧ (∀ i, i < data.length → tget 0xFF r (off.toNat + i) = data.getD i 0) ∧
              ∀ a, a < off.toNat ∨ off.toNat + data.length ≤ a → tget 0xFF r a = tget 0xFF (x.raw.getD []) a)))))

/-- O55.  Packages are staged block by block, sealed, armed and confirmed, and the recovery ROM takes a bank's image (R590,
R591, R594, R595, R596, R600, Table 18.14 to Table 18.17). -/
def Obligations.UpdatesAreStagedAndArmed : Prop :=
  ∀ (s : State) (h : MsgHdr) (off crc : Word) (data : List Byte),
    let l := s.live
    let n := h.sess.toNat
    let g := l.sec.stg
    let len (k : Nat) : List Byte := leBytes k 4
    (Served l h 0x70 2 (leBytes off.toNat 4 ++ leBytes crc.toNat 4 ++ data) →
      let e := exec (.updateBlock h off crc data) s
      let same (t : State) : Prop := t.live.sec.stg.bytes = g.bytes ∧ t.live.sec.stg.state = g.state
      (g.state = 1 ∨ g.state = 2 → g.owner ≠ n → Gives e (fun t => Replied t h 0x70 0x01 (len g.bytes.length ++ [0]) ∧ same t)) ∧
      (g.state = 0 ∨ (g.state = 1 ∧ g.owner = n) →
        (crc32 data ≠ crc.toNat → Gives e (fun t => Replied t h 0x70 0x0C (len g.bytes.length ++ [1]) ∧ same t)) ∧
        (crc32 data = crc.toNat →
          (g.state = 0 → l.ustate = 0 ∨ l.ustate = 6 ∨ l.ustate = 7 → off = 0 → l.flashErase = true →
            Gives e (fun t => Replied t h 0x70 0 (len data.length ++ [0]) ∧ t.live.sec.stg.bytes = data ∧ t.live.sec.stg.state = 1 ∧
              t.live.sec.stg.owner = n ∧ t.live.sec.otp = l.sec.otp)) ∧
          (g.state = 0 → off ≠ 0 → Gives e (fun t => Replied t h 0x70 0x0C (len g.bytes.length ++ [2]) ∧ same t)) ∧
          (g.state = 1 → off.toNat = g.bytes.length → off.toNat + data.length ≤ 131072 → l.flashErase = true →
            Gives e (fun t => Replied t h 0x70 0 (len (g.bytes.length + data.length) ++ [0]) ∧ t.live.sec.stg.bytes = g.bytes ++ data ∧
              t.live.sec.stg.state = 1 ∧ t.live.sec.stg.owner = n)) ∧
          (g.state = 1 → off.toNat ≠ g.bytes.length →
            Gives e (fun t => same t ∧ (if g.lastOff = off.toNat ∧ g.lastLen = data.length then Replied t h 0x70 0 (len g.bytes.length ++ [0])
              else Replied t h 0x70 0x0C (len g.bytes.length ++ [2]))))))) ∧
    (Served l h 0x71 2 [] →
      let e := exec (.updateSeal h) s
      (g.state ≠ 1 → Gives e (fun t => Replied t h 0x71 0x0C [2])) ∧
      (g.state = 1 → g.owner ≠ n → Gives e (fun t => Replied t h 0x71 0x01 [0])) ∧
      (g.state = 1 → g.owner = n →
        let why := l.pkgCheck g.bytes
        Gives e (fun t => if why = 0 then Replied t h 0x71 0 [0] ∧ t.live.sec.stg.state = 2 ∧ t.live.sec.stg.bytes = g.bytes
          else Replied t h 0x71 0x0C [BitVec.ofNat 8 why] ∧ t.live.sec.stg.state = 0 ∧ t.live.sec.stg.bytes = [] ∧
            l.detailOf 0xC004 0xE001 why ∈ t.live.fc.details))) ∧
    (∀ restart : Bool, Served l h 0x72 2 [if restart then 1 else 0] →
      let e := exec (.updateArm h restart) s
      (l.fc.safe = true → Gives e (fun t => Replied t h 0x72 0x0C [0] ∧ t.live.sec = l.sec)) ∧
      (l.fc.safe = false →
        (g.state ≠ 2 → Gives e (fun t => Replied t h 0x72 0x0C [2])) ∧
        (g.state = 2 → g.owner ≠ n → Gives e (fun t => Replied t h 0x72 0x01 [0])) ∧
        (g.state = 2 → g.owner = n →
          (pkgKind g.bytes = 2 → Gives e (fun t => Replied t h 0x72 0 [0] ∧ t.live.moor.fwImage = pkgPayload g.bytes ∧ t.live.bootRec.state = 4)) ∧
          (pkgKind g.bytes ≠ 2 → l.armCheck restart = (0, 0) → Gives e (fun t => Replied t h 0x72 0 [0] ∧ t.live.bootRec.state = 3 ∧
            t.live.bootRec.bact = l.bootRec.bact ∧ t.live.pwr.restart = if restart then some 6 else l.pwr.restart)) ∧
          (∀ st why, pkgKind g.bytes ≠ 2 → l.armCheck restart = (st, why) → st ≠ 0 →
            Gives e (fun t => Replied t h 0x72 st [BitVec.ofNat 8 why] ∧ t.live.sec.boot = l.sec.boot ∧ t.live.pwr = l.pwr))))) ∧
    (∀ env : FuseEnv, Served l h 0x73 2 [] →
      let e := exec (.updateConfirm h env) s
      (l.ustate ≠ 5 ∨ l.sec.running ≠ some l.bootRec.bact → Gives e (fun t => Replied t h 0x73 0x0C [2] ∧ t.live.sec.boot = l.sec.boot)) ∧
      (l.ustate = 5 → l.sec.running = some l.bootRec.bact →
        Gives e (fun t => Replied t h 0x73 0 [0] ∧ t.live.bootRec.state = 6 ∧ t.live.bootRec.trial = 0 ∧ t.live.bootRec.bact = l.bootRec.bact))) ∧
    (Served l h 0x74 2 [] → Gives (exec (.updateStatus h) s) (fun t => Replied t h 0x74 0 l.updateStatus ∧ t.live.sec = l.sec)) ∧
    (Served l h 0x7F 2 [0] → Gives (exec (.recoveryEnter h) s) (fun t => Replied t h 0x7F 0 ([0, 0, 0, 0] ++ len l.sec.recBytes.length) ∧
      t.live.pwr.restart = some 7)) ∧
    (∀ body, l.portTakes h.port (msgFrame (MsgHdr.msess h) 0x7F body) = true → l.serving h.port = .rom → l.turn h.port = true → l.pwr.st ≠ .holdup → h.sess ≠ 0 →
      (l.sess n).opened = true → (l.sess n).pendg = false → (l.sess n).port = h.port → 2 ≤ (l.sess n).cls →
      (l.sess n).repeats { h := h, mop := 0x7F, body := body } = false → bodyOk 0x7F body = true →
      (body = [1, 0, 0, 0] ++ leBytes off.toNat 4 ++ leBytes crc.toNat 4 ++ data →
        let e := exec (.recoveryBlock h off crc data) s
        (crc32 data ≠ crc.toNat → Gives e (fun t => Replied t h 0x7F 0x0C ([1, 0, 0, 0] ++ len l.sec.recBytes.length) ∧
          t.live.sec.recBytes = l.sec.recBytes)) ∧
        (crc32 data = crc.toNat → off = 0 → l.sec.recBytes = [] → l.flashErase = true → Gives e (fun t =>
          Replied t h 0x7F 0 ([0, 0, 0, 0] ++ len data.length) ∧ t.live.sec.recBytes = data ∧ t.live.bank l.recBank = data ∧
          t.live.bank (!l.recBank) = l.bank (!l.recBank))) ∧
        (crc32 data = crc.toNat → off.toNat = l.sec.recBytes.length → off.toNat + data.length ≤ 131072 → l.flashErase = true → Gives e (fun t =>
          Replied t h 0x7F 0 ([0, 0, 0, 0] ++ len (l.sec.recBytes ++ data).length) ∧ t.live.sec.recBytes = l.sec.recBytes ++ data ∧
          t.live.bank l.recBank = l.sec.recBytes ++ data))) ∧
      (body = [2] →
        let why := l.bankWhy l.recBank
        Gives (exec (.recoveryFinish h) s) (fun t => if why = 0 then Replied t h 0x7F 0 ([0, 0, 0, 0] ++ len 0) ∧
            t.live.bootRec.bact = l.recBank ∧ t.live.bootRec.state = (if l.bankValid (!l.recBank) then 5 else 6) ∧ t.live.pwr.restart = some 7
          else Replied t h 0x7F 0x0C ([BitVec.ofNat 8 why, 0, 0, 0] ++ len 0) ∧ t.live.sec.boot = l.sec.boot)) ∧
      (body = [3] → Gives (exec (.recoveryAbort h) s) (fun t => Replied t h 0x7F 0 ([0, 0, 0, 0] ++ len 0) ∧ t.live.sec.recBytes = [] ∧
        t.live.sec.boot = l.sec.boot)))

/-- O56.  FUSE_CMD programs, re-burns, reads and locks words as Tables 18.8 to 18.10 allow, and changes no other word (R577,
R579, R580, R582, R584). -/
def Obligations.OtpCommandsFollowTheirTables : Prop :=
  ∀ (s : State) (h : MsgHdr) (a : Fin 512) (val : Word) (env : FuseEnv),
    let l := s.live
    let c := (l.sess h.sess.toNat).cls
    let enc := otpEnc val
    let w := (l.otpw a).norm
    let plain := a.val < 128 ∨ 131 < a.val
    let refusedBy (t : State) (res why : Nat) : Prop := Replied t h 0x80 0 (l.fuseNo a res why).octets ∧ t.live.sec = l.sec
    let burned (t : State) : Prop :=
      let b := burn enc env (l.otpw a)
      Replied t h 0x80 0 ({ result := b.result, reason := b.reason, pulses := b.pulses, read := b.word.norm } : FuseOut).octets ∧
        t.live.otpw a = b.word ∧ (∀ m, m ≠ a.val → t.live.otpw m = l.otpw m) ∧
        t.live.sec.intent = (if b.result = 2 then some (a.val, enc) else none)
    (Served l h 0x80 2 (fuseBody 1 a val) →
      let e := exec (.fuseProgram h a val env) s
      (l.fuseClass c a val = false → Gives e (fun t => refusedBy t 4 3)) ∧
      (l.fuseClass c a val = true →
        (l.locked (regionOf a) = true → Gives e (fun t => refusedBy t 3 0)) ∧
        (l.locked (regionOf a) = false →
          (l.fusePattern a val = false → Gives e (fun t => refusedBy t 4 7)) ∧
          (l.fusePattern a val = true → l.otpBlank a = false → Gives e (fun t => refusedBy t 4 4)) ∧
          (l.fusePattern a val = true → l.otpBlank a = true → plain →
            (l.fuseBar ≠ 0 → Gives e (fun t => refusedBy t 4 l.fuseBar)) ∧ (l.fuseBar = 0 → Gives e burned))))) ∧
    (Served l h 0x80 2 (fuseBody 2 a val) →
      let e := exec (.fuseReburn h a val env) s
      (l.reburnClass c a val = true → l.locked (regionOf a) = false →
        (w &&& ~~~enc ≠ 0 ∨ (w = 0 ∧ l.sec.intent ≠ some (a.val, enc)) → Gives e (fun t => refusedBy t 4 5)) ∧
        (w &&& ~~~enc = 0 → w ≠ 0 ∨ l.sec.intent = some (a.val, enc) → l.fuseBar = 0 → plain → Gives e burned)) ∧
      (l.reburnClass c a val = false → Gives e (fun t => refusedBy t 4 3))) ∧
    (Served l h 0x80 2 (fuseBody 3 a 0) →
      Gives (exec (.fuseReadNormal h a) s) (fun t => Replied t h 0x80 0 (l.fuseRead a 0).octets ∧ t.live.sec = l.sec)) ∧
    (Served l h 0x80 2 (fuseBody 4 a 0) →
      Gives (exec (.fuseReadMarginLo h a) s) (fun t => Replied t h 0x80 0 (l.fuseRead a 1).octets ∧ t.live.sec = l.sec)) ∧
    (Served l h 0x80 2 (fuseBody 5 a 0) →
      Gives (exec (.fuseReadMarginHi h a) s) (fun t => Replied t h 0x80 0 (l.fuseRead a 2).octets ∧ t.live.sec = l.sec)) ∧
    (∀ r : Fin 8, Served l h 0x80 2 (fuseBody 6 r 0) →
      let e := exec (.fuseLock h r env) s
      (lockWord r = none → Gives e (fun t => Replied t h 0x80 0 ({ result := 4, reason := 3 } : FuseOut).octets ∧ t.live.sec = l.sec)) ∧
      (∀ k, lockWord r = some k →
        (l.mayLock c r = false → Gives e (fun t => Replied t h 0x80 0 (l.fuseNo k 4 3).octets ∧ t.live.sec = l.sec)) ∧
        (l.mayLock c r = true → l.locked r = true → Gives e (fun t => Replied t h 0x80 0 (l.fuseNo k 3 0).octets ∧ t.live.sec = l.sec)) ∧
        (l.mayLock c r = true → l.locked r = false → l.lockReady r = true → l.fuseBar = 0 → Gives e (fun t =>
          t.live.otpw k = (burn (otpEnc (lockPattern r)) env (l.otpw k)).word ∧ ∀ m, m ≠ k → t.live.otpw m = l.otpw m))))

/-- O57.  The test port and debug access: IDCODE, BYPASS, SAMPLE and EXTEST (R568, R620), a mode that only its key opens (R568
to R570), and a reach that the power state and the lease limit (R571, R572, Table 18.4). -/
def Obligations.TestPortAndDebugAccess : Prop :=
  ∀ (s : State) (bits ps : List Bool) (hmac : List Byte) (m : BitVec 2) (n : Fin 8),
    let l := s.live
    let p := l.pins
    let d := l.sec.dbg
    let tries := ((l.now :: d.fails).filter (fun t => l.now < t + 200000000)).length
    let key := ¬ d.nonce = [] ∧ (l.dbgKeys m.toNat).any (fun k => hmacSha256 k (d.nonce ++ [BitVec.ofNat 8 m.toNat] ++ l.uid) = hmac) = true
    let answers (o : Host.Outcome State Fault Refusal) (a : DbgAns) : Prop := Gives o (fun t => t.live.pins.dbgAns = a ∧ t.live.sec = l.sec)
    (l.pwr.st ≠ .off →
      Gives (exec .jtagIdcode s) (fun t => t.live.pins = { p with tdo := (List.range 32).map (fun i => l.idcode.getLsbD i), extest := false } ∧
        SameBut [.pins] s t) ∧
      Gives (exec (.jtagBypass bits) s) (fun t => t.live.pins = { p with tdo := bypassBits bits, extest := false } ∧ SameBut [.pins] s t) ∧
      Gives (exec (.jtagSamplePreload ps bits) s) (fun t => t.live.pins = { p with tdo := ps, bsr := bits, extest := false } ∧ SameBut [.pins] s t) ∧
      (l.keeper.live = false → l.sec.lc ≠ 2 →
        Gives (exec (.jtagExtest true bits) s) (fun t => t.live.pins = { p with bsr := bits, extest := true } ∧ SameBut [.pins] s t)) ∧
      (∀ te, te = false ∨ l.keeper.live = true ∨ l.sec.lc = 2 →
        Gives (exec (.jtagExtest te bits) s) (fun t => t.live.pins = { p with tdo := bypassBits bits, extest := false } ∧ SameBut [.pins] s t)) ∧
      (l.pwr.resetLow = false →
        Gives (exec (.dbgauth .nonce) s) (fun t => t.live.sec.dbg.nonce.length = 16 ∧ t.live.pins.dbgOut = t.live.sec.dbg.nonce ∧
          t.live.sec.dbg.mode = d.mode) ∧
        Gives (exec (.dbgauth .close) s) (fun t => t.live.sec.dbg = { d with mode := 0, halted := [], stepped := [], coresHalted := false } ∧
          SameBut [.sec] s t) ∧
        (l.pwr.st = .holdup ∨ d.lockEnd ≠ none → exec (.dbgauth (.request m hmac)) s = .next s) ∧
        (l.pwr.st ≠ .holdup → d.lockEnd = none →
          (key → Gives (exec (.dbgauth (.request m hmac)) s) (fun t => t.live.sec.dbg.mode = m.toNat ∧ t.live.sec.dbg.nonce = [] ∧
            (m.toNat = 2 → l.detailOf 0xC003 0xE000 ∈ t.live.fc.details))) ∧
          (¬ key → Gives (exec (.dbgauth (.request m hmac)) s) (fun t => t.live.sec.dbg.mode = 0 ∧ t.live.sec.dbg.nonce = [] ∧
            (3 ≤ tries → t.live.sec.dbg.lockEnd = some (l.now + fld (l.hw 0xD000 0) 23 16 * 200000000)) ∧
            (tries < 3 → t.live.sec.dbg.lockEnd = none))))) ∧
      (l.reach = .none → ∀ r, answers (exec (.dbgacc r) s) .refused) ∧
      (l.reach = .f →
        (l.keeper.live = true → answers (exec (.dbgacc (.haltLane n)) s) .lease ∧ answers (exec (.dbgacc (.stepLane n)) s) .lease ∧
          ∀ a v, answers (exec (.dbgacc (.writeMem .loop a v)) s) .lease) ∧
        (l.keeper.live = false → Gives (exec (.dbgacc (.haltLane n)) s) (fun t => t.live.pins.dbgAns = .ok ∧ n.val ∈ t.live.sec.dbg.halted ∧
          t.live.loop = l.loop)) ∧
        Gives (exec (.dbgacc (.resumeLane n)) s) (fun t => t.live.pins.dbgAns = .ok ∧ n.val ∉ t.live.sec.dbg.halted)) ∧
      (l.reach ≠ .f → l.reach ≠ .none → answers (exec (.dbgacc (.haltLane n)) s) .refused ∧ answers (exec (.dbgacc .haltCores) s) .refused) ∧
      (∀ (lv : Fin 3) (a : Fin 512), l.reach = .aPlus ∨ l.reach = .f → Gives (exec (.dbgacc (.readOtp lv a)) s) (fun t =>
        t.live.pins.dbgAns = .ok ∧ t.live.pins.dbgOut = leBytes (l.fuseRead a lv).read.toNat 5 ∧ t.live.sec = l.sec))) ∧
    Gives (exec .trstLow s) (fun t => t.live.sec.dbg = { d with mode := 0, halted := [], stepped := [], coresHalted := false, nonce := [] } ∧
      t.live.pins = { p with extest := false } ∧ SameBut [.sec, .pins] s t) ∧
    (∀ at_, d.lockEnd = some at_ →
      (at_ ≤ l.now → Gives (exec .dbgauthLockEnd s) (fun t => t.live.sec.dbg = { d with lockEnd := none } ∧ SameBut [.sec] s t)) ∧
      (l.now < at_ → exec .dbgauthLockEnd s = .next s))

/-- O58.  The two-wire target and the host serial port take request octets and give status and reply octets (R491 to R497,
R499, R500, R505, R506); reading a reply whole consumes it. -/
def Obligations.PortsTakeAndGiveOctets : Prop :=
  ∀ (s : State) (k : Bool) (b : List Byte) (n : Nat),
    let l := s.live
    let takes (e : Host.Outcome State Fault Refusal) (p : Nat) : Prop :=
      (l.mport p).inbox = none → l.pstat p ≠ 1 → l.pstat p ≠ 2 →
        (∀ f, takeOctets b = .whole f → Gives e (fun t => (t.live.mport p).inbox = some f ∧ (t.live.mport p).reply = (l.mport p).reply)) ∧
        (∀ m, takeOctets b = .bad m → Gives e (fun t => (t.live.mport p).reply = some (msgFrame 0 0 [0x03]))) ∧
        (takeOctets b = .part → 4 ≤ b.length → Gives e (fun t => (t.live.mport p).reply = some (msgFrame (b.getD 2 0) (b.getD 3 0) [0x0B])))
    let busy (e : Host.Outcome State Fault Refusal) (p : Nat) : Prop :=
      (l.mport p).inbox ≠ none ∨ l.pstat p = 1 ∨ l.pstat p = 2 →
        Gives e (fun t => (t.live.mport p).inbox = (l.mport p).inbox ∧ (t.live.mport p).reply = (l.mport p).reply)
    let reads (e : Host.Outcome State Fault Refusal) (p m : Nat) (out : List Byte) : Prop :=
      l.pwr.restart = none → Gives e (fun t => (t.live.mport p).out = out ∧
        (∀ f, (l.mport p).reply = some f → (t.live.mport p).reply = if f.length < m then none else some f) ∧
        ((l.mport p).reply = none → (t.live.mport p).reply = none))
    (l.twAcks k = false → exec (.twWriteTransfer k b) s = .next s ∧ ∀ last, exec (.twReadTransfer k n last) s = .next s) ∧
    (l.twAcks k = true → takes (exec (.twWriteTransfer k b) s) 1 ∧ busy (exec (.twWriteTransfer k b) s) 1 ∧
      ∀ last, reads (exec (.twReadTransfer k n last) s) 1 (n - 1) ((l.statusByte 1 :: l.readOctets 1 (n - 1)).take n)) ∧
    (l.hspUp = false → ∀ c, exec (.hspWriteMessage b) s = .next s ∧ exec (.hspReadMessage n) s = .next s ∧ exec (.hspStatus n) s = .next s ∧
      exec (.hspReservedCmd c n) s = .next s) ∧
    (l.hspUp = true → takes (exec (.hspWriteMessage b) s) 0 ∧ busy (exec (.hspWriteMessage b) s) 0 ∧
      reads (exec (.hspReadMessage n) s) 0 n (l.statusByte 0 :: l.readOctets 0 n) ∧
      Gives (exec (.hspStatus n) s) (fun t => t.live.mport 0 = { l.mport 0 with out := List.replicate (n + 1) (l.statusByte 0), acks := [] } ∧
        SameBut [.msgs] s t) ∧
      (∀ c : Byte, c = 0 ∨ 3 < c.toNat → Gives (exec (.hspReservedCmd c n) s) (fun t => (t.live.mport 0).out = l.statusByte 0 :: List.replicate n 0xFF ∧
        (t.live.mport 0).inbox = (l.mport 0).inbox ∧ (t.live.mport 0).reply = (l.mport 0).reply))) ∧
    (l.pwr.st ≠ .off → l.pwr.resetLow = false → l.pwr.on.getLsbD 1 = false → l.ports.matchAt = none → l.ports.respReady = false →
      Gives (exec .twAddressMatch s) (fun t => t.live.ports.matchAt = some l.now)) ∧
    (l.pwr.on.getLsbD 1 = true → exec .twAddressMatch s = .next s) ∧
    (∀ at_, l.ports.matchAt = some at_ →
      (l.now < at_ + 12000 → exec .twWakeFail s = .next s ∧
        Gives (exec .responderReady s) (fun t => t.live.ports = { l.ports with matchAt := none, respReady := true } ∧ SameBut [.ports] s t)) ∧
      (at_ + 12000 ≤ l.now → exec .responderReady s = .next s ∧
        Gives (exec .twWakeFail s) (fun t => t.live.ports = { l.ports with matchAt := none }))) ∧
    (l.pwr.on.getLsbD 1 = true → fld (l.hw 0xD100 0) 31 30 ≠ 0 →
      Gives (exec .twSclTimeout s) (fun t => t.live.ports = { l.ports with sclto := true } ∧ Raised s t [l.detailOf 0xD010 0xD100 1]) ∧
      Gives (exec .twSdaTimeout s) (fun t => t.live.ports = { l.ports with sdato := true } ∧ Raised s t [l.detailOf 0xD011 0xD100 1])) ∧
    (fld (l.hw 0xD100 0) 31 30 = 0 → exec .twSclTimeout s = .next s ∧ exec .twSdaTimeout s = .next s)

/-- O59.  An initiator port runs one transfer at a time, in the order of R501; a transfer that fails is counted and its asker
told, and a bus that stays low disables the port (R500, R501, R503, R504). -/
def Obligations.InitiatorPortsRunTransfers : Prop :=
  ∀ (s : State) (p : Fin 2),
    let l := s.live
    let k := l.pi p
    (∀ a, nextAsker k.due = some a → l.piRuns p = true → k.active = none →
      (l.piOn p = true → k.recovering = false → Gives (exec (.pi2cTransferStart p false) s) (fun t =>
        t.live.pi p = { k with due := k.due.erase a, active := some a, xfer := l.askerXfer a } ∧ SameBut [.ports] s t)) ∧
      (l.piOn p = false → l.ports.waiting = [] → ∀ w, a = .firmware w → ∀ lost, Gives (exec (.pi2cTransferStart p lost) s) (fun t =>
        t.live.pi p = { k with due := k.due.erase a, xfer := none } ∧ t.live.gauge = l.gauge))) ∧
    (l.piOn p = true → k.recovering = true → ∀ lost, exec (.pi2cTransferStart p lost) s = .next s) ∧
    (∀ j, k.active = some (.air j) → l.piRuns p = true → l.ports.waiting = [] →
      let a := tget {} l.therm.air j
      (∀ data, Gives (exec (.pi2cTransferDone p (.done data)) s) (fun t => t.live.pi p = { k with active := none, xfer := none } ∧
        tget {} t.live.therm.air j = { a with t := tempBytes data, fails := 0, broken := false, read := true } ∧ t.live.fc = l.fc)) ∧
      Gives (exec (.pi2cTransferDone p .nack) s) (fun t => t.live.pi p = { k with active := none, xfer := none } ∧
        tget {} t.live.therm.air j = { a with fails := a.fails + 1, broken := a.broken || 3 ≤ a.fails + 1 } ∧
        Raised s t (if a.fails = 2 then [l.detailOf 0x8006 0x8FFF j] else []))) ∧
    (nextAsker k.due = none ∨ k.active ≠ none → ∀ lost, exec (.pi2cTransferStart p lost) s = .next s) ∧
    (∀ w, k.active = some (.firmware w) → l.piRuns p = true → l.ports.waiting = [] →
      (∀ data, Gives (exec (.pi2cTransferDone p (.done data)) s) (fun t => t.live.pi p = { k with active := none, xfer := none } ∧ t.live.fc = l.fc)) ∧
      Gives (exec (.pi2cTransferDone p .nack) s) (fun t => t.live.pi p = { k with active := none, xfer := none } ∧ t.live.fc = l.fc) ∧
      Gives (exec (.pi2cTransferDone p .arbLost) s) (fun t => t.live.pi p = { k with active := none, xfer := none, arbl := true } ∧
        Raised s t [l.detailOf 0xD013 (0xD102 + p) (2 + p)]) ∧
      (fld (l.hw (0xD102 + p) 0) 27 26 ≠ 0 → Gives (exec (.pi2cTimeout p) s) (fun t =>
        t.live.pi p = { k with active := none, xfer := none, pto := true } ∧ Raised s t [l.detailOf 0xD014 (0xD102 + p) (2 + p)]))) ∧
    (fld (l.hw (0xD102 + p) 0) 27 26 = 0 → exec (.pi2cTimeout p) s = .next s) ∧
    (l.pwr.on.getLsbD 1 = true → bit (l.hw (0xD102 + p) 0) 29 = true → k.active = none → k.recovering = true →
      Gives (exec (.busRecovery p true) s) (fun t => t.live.pi p = { k with recovering := false, stuck := false, dis := false } ∧ SameBut [.ports] s t) ∧
      (k.due = [] → Gives (exec (.busRecovery p false) s) (fun t =>
        t.live.pi p = { k with recovering := false, stuck := true, dis := true, recoverAt := l.now } ∧
        Raised s t [l.detailOf 0xD012 (0xD102 + p) (2 + p)]))) ∧
    (k.dis = true → k.recovering = false → bit (l.hw (0xD102 + p) 0) 28 = false → ∀ freed, exec (.busRecovery p freed) s = .next s)

/-- O60.  The recorder's pages, captures and snapshots (R514, R519, R520, R522, R524, R525, R526, R529, R531, R538). -/
def Obligations.RecorderKeepsItsMemories : Prop :=
  ∀ (s : State) (c : Fin 4) (ch : Fin 8) (a : Fin 2) (ok : Bool),
    let l := s.live
    let r := l.recd
    (l.flushDue = true → l.canFlush = true → r.unfl ≠ 0 →
      Gives (exec .flushPage s) (fun t => ∃ j, t.live.recd.job = some j ∧ j.pos = r.wpos ∧ j.page.recs = l.unflushed ∧
        j.page.pseq = (r.pseq + 1) % 2 ^ 32 ∧ t.live.recd.pseq = (r.pseq + 1) % 2 ^ 32 ∧ t.live.recd.ring = r.ring)) ∧
    (l.flushDue = false → l.flushingSlot = none → exec .flushPage s = .next s) ∧
    (r.job = none → exec (.flushPageDone ok) s = .next s) ∧
    (∀ j, r.job = some j → j.wait = true → l.flashProgram = false → exec (.flushPageDone ok) s = .next s) ∧
    (∀ j, r.job = some j → j.wait = false ∨ l.flashProgram = true →
      (j.page.capture = false → l.flushingSlot = none →
        Gives (exec (.flushPageDone true) s) (fun t => t.live.recd.job = none ∧ t.live.recd.wpos = nextPage j.pos ∧
          t.live.recd.unfl = r.unfl - j.page.recs.length ∧ tfind t.live.recd.flash j.pos = some { j.page with ok := true } ∧
          (l.flashErase = true → tfind t.live.recd.flash (nextPage j.pos) = none))) ∧
      (j.retried = true → Gives (exec (.flushPageDone false) s) (fun t => t.live.recd.job = none ∧ Raised s t [l.detailOf 0xE002 0xB000])) ∧
      (j.retried = false → l.flashErase = true → Gives (exec (.flushPageDone false) s) (fun t =>
        t.live.recd.job = some { pos := nextPage j.pos, page := j.page, retried := true } ∧ t.live.fc = l.fc))) ∧
    ((l.capSlot c).state = 2 → (l.capSlot c).post = 0 →
      Gives (exec (.captureFreeze c) s) (fun t => (t.live.capSlot c).state = 4 ∧ (t.live.capSlot c).count = (l.capSlot c).count + 1 ∧
        (t.live.capSlot c).points = (l.capSlot c).points ∧
        (l.pwr.on.getLsbD 6 = true → ∃ e, t.live.recd.ring.head? = some e ∧ e.etype = 7))) ∧
    ((l.capSlot c).state ≠ 2 ∨ (l.capSlot c).post ≠ 0 → exec (.captureFreeze c) s = .next s) ∧
    (∀ j, r.snap = some j →
      (j.waiting = true ∨ r.job.isSome = true → exec (.snapshotPageDone ok) s = .next s) ∧
      (j.waiting = false → r.job = none →
        (j.page ≠ 0 → Gives (exec (.snapshotPageDone ok) s) (fun t =>
          t.live.recd.snap = some { j with page := if j.page = 7 then 0 else j.page + 1 } ∧ (t.live.area j.area).hdrOk = (l.area j.area).hdrOk ∧
          (t.live.area j.area).content = j.content)) ∧
        (j.page = 0 → Gives (exec (.snapshotPageDone ok) s) (fun t => t.live.recd.snap = none ∧ (t.live.area j.area).hdrOk = ok ∧
          (t.live.area j.area).content = j.content))) ∧
      (j.late = false → j.askedAt + 5000000 ≤ l.now → Gives (exec .recSnapFail s) (fun t => Raised s t [l.detailOf 0xE005 0xB000] ∧
        t.live.recd = { r with snap := some { j with late := true } })) ∧
      (j.late = true ∨ l.now < j.askedAt + 5000000 → exec .recSnapFail s = .next s)) ∧
    (∀ at_, r.notArmed = some at_ →
      (l.pwr.st = .run → r.armed = none → at_ + 200000000 ≤ l.now → l.stands 0xE003 0xB000 = false →
        l.fc.details.any (fun d => d.code.toNat = 0xE003 && d.obj.toNat = 0xB000) = false →
        Gives (exec .recNotArmed s) (fun t => Raised s t [l.detailOf 0xE003 0xB000] ∧ SameBut [.fc] s t)) ∧
      (l.now < at_ + 200000000 → exec .recNotArmed s = .next s)) ∧
    (l.recUp = true → r.armDue = true → r.snap = none → r.armed = none → r.newest ≠ some a.val → l.flashErase = true →
      Gives (exec (.snapshotAreaArmed a) s) (fun t => t.live.recd.armed = some a.val ∧ t.live.area a = {} ∧ t.live.recd.notArmed = none ∧ t.live.recd.armDue = false)) ∧
    (r.newest = some a.val ∨ r.armed ≠ none ∨ r.armDue = false → exec (.snapshotAreaArmed a) s = .next s) ∧
    (∀ at_, (l.trace ch).pulse = some at_ →
      (at_ + 200 * l.cf (0xB100 + ch) 3 31 24 ≤ l.now → Gives (exec (.tracePulseEnd ch) s) (fun t =>
        t.live.trace ch = { l.trace ch with pulse := none } ∧
        (∀ g : Fin 16, l.cf (0xB100 + ch) 0 8 5 = g.val → t.live.pins.gpioOut.getLsbD g = false))) ∧
      (l.now < at_ + 200 * l.cf (0xB100 + ch) 3 31 24 → exec (.tracePulseEnd ch) s = .next s)) ∧
    (l.pwr.on.getLsbD 0 = true → r.clkAt + 200000000 ≤ l.now →
      Gives (exec .shelfClockTick s) (fun t => t.live.recd = { r with clkSec := r.clkSec + 1, clkAt := r.clkAt + 200000000 } ∧
        SameBut [.recd] s t)) ∧
    (l.now < r.clkAt + 200000000 → exec .shelfClockTick s = .next s) ∧
    (∀ secs, l.pwr.on.getLsbD 1 = true → Gives (exec (.sclockWrite secs) s) (fun t => t.live.recd.clkSec = secs ∧ t.live.recd.clkSet = true ∧
      t.live.recd.clkAt = l.now)) ∧
    (∀ (v : Byte) (n : Fin 128), 64 ≤ n.val → l.pwr.on.getLsbD 6 = true → l.occDue = true → Gives (exec (.occupancySample v) s) (fun t => t.live.ctr n =
      if fld (l.ctrWord n 2) 29 28 = 1 ∧ fld (l.ctrWord n 2) 6 0 < l.occupancy n v.toNat then (l.bumpCtr n 200).ctr n else l.ctr n)) ∧
    (l.occDue = false → ∀ v, exec (.occupancySample v) s = .next s)
end

