-- ==== Sys2Proof/Laws/Tbl.lean ====
section
/-! SUPPORT. Tables: what a read gives after a write, in every table, and that every operation keeps the canonical form. -/
namespace Sys2Proof.Machine

/-! ## Reading after writing -/

section Defaulted
variable {α : Type} (d : α)

/-- A number below every listed one reads the default. -/
theorem tget_dropWhile_same (t : Tbl α) (k : Nat) : tget d (t.dropWhile (fun p => p.1 ≤ k)) k = d := by
  induction t with
  | nil => rfl
  | cons p t ih =>
    obtain ⟨j, w⟩ := p
    by_cases h : j ≤ k
    · simpa [List.dropWhile, h] using ih
    · simp [List.dropWhile, h, tget, Nat.lt_of_not_le h]

/-- Dropping entries up to `k` changes no number above `k`. -/
theorem tget_dropWhile_above (t : Tbl α) (k m : Nat) (h : k < m) : tget d (t.dropWhile (fun p => p.1 ≤ k)) m = tget d t m := by
  induction t with
  | nil => rfl
  | cons p t ih =>
    obtain ⟨j, w⟩ := p
    by_cases hj : j ≤ k
    · have h1 : ¬ m < j := by omega
      have h2 : m ≠ j := by omega
      simpa [List.dropWhile, hj, tget, h1, h2] using ih
    · simp [List.dropWhile, hj]

/-- Dropping entries up to `k` leaves the default below `k`. -/
theorem tget_dropWhile_below (t : Tbl α) (k m : Nat) (h : m < k) : tget d (t.dropWhile (fun p => p.1 ≤ k)) m = d := by
  induction t with
  | nil => rfl
  | cons p t ih =>
    obtain ⟨j, w⟩ := p
    by_cases hj : j ≤ k
    · simpa [List.dropWhile, hj] using ih
    · have : m < j := by omega
      simp [List.dropWhile, hj, tget, this]

variable [DecidableEq α]

/-- Reading the number that was written gives the value written. -/
@[simp] theorem tget_tput_same (t : Tbl α) (k : Nat) (v : α) : tget d (tput d t k v) k = v := by
  induction t with
  | nil => by_cases h : v = d <;> simp [tput, tget, h]
  | cons p t ih =>
    obtain ⟨j, w⟩ := p
    unfold tput
    split
    · split <;> simp_all [tget]
    · split
      · split
        · subst_vars; exact tget_dropWhile_same _ _ _
        · simp [tget]
      · simp_all [tget]

/-- Reading another number gives what it gave before. -/
theorem tget_tput_other (t : Tbl α) (k : Nat) (v : α) (m : Nat) (h : m ≠ k) : tget d (tput d t k v) m = tget d t m := by
  induction t with
  | nil => by_cases hv : v = d <;> simp [tput, tget, hv, h]
  | cons p t ih =>
    obtain ⟨j, w⟩ := p
    unfold tput
    split
    next hk =>
      split
      · rfl
      · by_cases hm : m < k
        · simp [tget, hm, Nat.lt_trans hm hk]
        · simp [tget, hm, h]
    next hk =>
      split
      next hj =>
        subst hj
        split
        · rcases Nat.lt_or_gt_of_ne h with hm | hm
          · simp [tget, hm, tget_dropWhile_below d t k m hm]
          · simp [tget, Nat.lt_asymm hm, h, tget_dropWhile_above d t k m hm]
        · simp [tget, h]
      next => simp [tget, ih]

/-- Both together. -/
theorem tget_tput (t : Tbl α) (k : Nat) (v : α) (m : Nat) : tget d (tput d t k v) m = if m = k then v else tget d t m := by
  split
  next h => subst h; exact tget_tput_same d t m v
  next h => exact tget_tput_other d t k v m h

@[simp] theorem tget_tmod_same (t : Tbl α) (k : Nat) (f : α → α) : tget d (tmod d t k f) k = f (tget d t k) := tget_tput_same d t k _

theorem tget_tmod_other (t : Tbl α) (k : Nat) (f : α → α) (m : Nat) (h : m ≠ k) : tget d (tmod d t k f) m = tget d t m :=
  tget_tput_other d t k _ m h

theorem tget_tmod (t : Tbl α) (k : Nat) (f : α → α) (m : Nat) :
    tget d (tmod d t k f) m = if m = k then f (tget d t k) else tget d t m := tget_tput d t k _ m

/-! ## The canonical form -/

/-- Weaker lower bounds keep the form. -/
theorem wfFrom_mono (t : Tbl α) (a b : Option Nat) (h : ∀ x, b = some x → ∃ y, a = some y ∧ x ≤ y) (w : wfFrom d a t = true) : wfFrom d b t = true := by
  cases t with
  | nil => rfl
  | cons p t =>
    obtain ⟨j, v⟩ := p
    simp only [wfFrom, Bool.and_eq_true] at w ⊢
    refine ⟨⟨?_, w.1.2⟩, w.2⟩
    cases b with
    | none => rfl
    | some x =>
      obtain ⟨y, rfl, hy⟩ := h x rfl
      have := w.1.1
      simp only [decide_eq_true_eq] at this ⊢
      omega

/-- In canonical form nothing stands up to the bound. -/
theorem dropWhile_wf (t : Tbl α) (k : Nat) (w : wfFrom d (some k) t = true) : t.dropWhile (fun p => p.1 ≤ k) = t := by
  cases t with
  | nil => rfl
  | cons p t =>
    obtain ⟨j, v⟩ := p
    simp only [wfFrom, Bool.and_eq_true, decide_eq_true_eq] at w
    simp [List.dropWhile, Nat.not_le.mpr w.1.1]

theorem wfFrom_tput (t : Tbl α) (n : Option Nat) (k : Nat) (v : α) (hn : ∀ x, n = some x → x < k) (w : wfFrom d n t = true) :
    wfFrom d n (tput d t k v) = true := by
  induction t generalizing n with
  | nil =>
    by_cases h : v = d
    · simp [tput, h, wfFrom]
    · cases n with
      | none => simp [tput, h, wfFrom]
      | some x => simp [tput, h, wfFrom, hn x rfl]
  | cons p t ih =>
    obtain ⟨j, u⟩ := p
    simp only [wfFrom, Bool.and_eq_true] at w
    unfold tput
    split
    next hk =>
      split
      next => simp only [wfFrom, Bool.and_eq_true]; exact w
      next hv =>
        simp only [wfFrom, Bool.and_eq_true]
        refine ⟨⟨?_, by simpa using hv⟩, ⟨by simpa using hk, w.1.2⟩, w.2⟩
        cases n with
        | none => rfl
        | some x => simpa using hn x rfl
    next hk =>
      split
      next hj =>
        subst hj
        split
        next => rw [dropWhile_wf d t k w.2]; exact wfFrom_mono d t (some k) n (fun x hx => ⟨k, rfl, Nat.le_of_lt (hn x hx)⟩) w.2
        next hv => simp only [wfFrom, Bool.and_eq_true]; exact ⟨⟨w.1.1, by simpa using hv⟩, w.2⟩
      next hj =>
        simp only [wfFrom, Bool.and_eq_true]
        exact ⟨w.1, ih (some j) (fun x hx => by cases hx; omega) w.2⟩

/-- A write keeps the canonical form. -/
theorem tput_wf (t : Tbl α) (k : Nat) (v : α) (w : Tbl.wf d t = true) : Tbl.wf d (tput d t k v) = true :=
  wfFrom_tput d t none k v (fun _ h => by cases h) w

theorem tmod_wf (t : Tbl α) (k : Nat) (f : α → α) (w : Tbl.wf d t = true) : Tbl.wf d (tmod d t k f) = true := tput_wf d t k _ w

/-- Tables in canonical form that read alike are equal. -/
theorem wfFrom_none_of (t : Tbl α) (n : Option Nat) (w : wfFrom d n t = true) : Tbl.wf d t = true :=
  wfFrom_mono d t n none (fun _ h => by cases h) w

end Defaulted

/-! ## Tables whose entries may be absent -/

section Absent
variable {α : Type}

@[simp] theorem tfind_tset_same (t : Tbl α) (k : Nat) (v : α) : tfind (tset t k v) k = some v := by
  induction t with
  | nil => simp [tset, tfind]
  | cons p t ih =>
    obtain ⟨j, w⟩ := p
    unfold tset
    split
    · simp [tfind]
    · split
      · simp [tfind]
      · simp_all [tfind]

theorem tfind_tset_other (t : Tbl α) (k : Nat) (v : α) (m : Nat) (h : m ≠ k) : tfind (tset t k v) m = tfind t m := by
  induction t with
  | nil => simp [tset, tfind, h]
  | cons p t ih =>
    obtain ⟨j, w⟩ := p
    unfold tset
    split
    · simp [tfind, h]
    · split
      · subst_vars; simp [tfind, h]
      · simp [tfind, ih]

/-- The numbers of a table rise strictly. -/
def Tbl.rises : Tbl α → Prop
  | [] => True
  | p :: t => (∀ q ∈ t, p.1 < q.1) ∧ Tbl.rises t

theorem tset_mem (t : Tbl α) (k : Nat) (v : α) (q : Nat × α) (h : q ∈ tset t k v) : q = (k, v) ∨ q ∈ t := by
  induction t with
  | nil => simpa [tset] using h
  | cons p t ih =>
    obtain ⟨j, w⟩ := p
    unfold tset at h
    split at h
    · simpa using h
    · split at h
      · rcases List.mem_cons.mp h with h | h
        · exact .inl h
        · exact .inr (List.mem_cons_of_mem _ h)
      · rcases List.mem_cons.mp h with h | h
        · exact .inr (h ▸ List.mem_cons_self)
        · rcases ih h with h | h
          · exact .inl h
          · exact .inr (List.mem_cons_of_mem _ h)

/-- Setting a number keeps the order. -/
theorem tset_rises (t : Tbl α) (k : Nat) (v : α) (h : Tbl.rises t) : Tbl.rises (tset t k v) := by
  induction t with
  | nil => simp [tset, Tbl.rises]
  | cons p t ih =>
    obtain ⟨j, w⟩ := p
    obtain ⟨h1, h2⟩ := h
    unfold tset
    split
    next hk =>
      refine ⟨fun q hq => ?_, h1, h2⟩
      rcases List.mem_cons.mp hq with rfl | hq
      · exact hk
      · exact Nat.lt_trans hk (h1 q hq)
    next hk =>
      split
      next hj => subst hj; exact ⟨h1, h2⟩
      next hj =>
        refine ⟨fun q hq => ?_, ih h2⟩
        rcases tset_mem t k v q hq with rfl | hq
        · show j < k; omega
        · exact h1 q hq

/-- Keeping some of the entries keeps the order. -/
theorem filter_rises (t : Tbl α) (f : Nat × α → Bool) (h : Tbl.rises t) : Tbl.rises (t.filter f) := by
  induction t with
  | nil => trivial
  | cons p t ih =>
    obtain ⟨h1, h2⟩ := h
    by_cases hf : f p = true
    · rw [List.filter_cons_of_pos hf]
      exact ⟨fun q hq => h1 q (List.mem_filter.mp hq).1, ih h2⟩
    · rw [List.filter_cons_of_neg hf]
      exact ih h2

theorem tdrop_rises (t : Tbl α) (k : Nat) (h : Tbl.rises t) : Tbl.rises (tdrop t k) := filter_rises t _ h

/-- A number that is dropped is absent, and the others stand. -/
@[simp] theorem tfind_tdrop_same (t : Tbl α) (k : Nat) : tfind (tdrop t k) k = none := by
  induction t with
  | nil => rfl
  | cons p t ih =>
    by_cases h : p.1 = k
    · simpa [tdrop, h] using ih
    · have e : tdrop (p :: t) k = p :: tdrop t k := by simp [tdrop, h]
      rw [e]
      show (if k = p.1 then some p.2 else tfind (tdrop t k) k) = none
      rw [if_neg (fun x => h x.symm), ih]

theorem tfind_tdrop_other (t : Tbl α) (k m : Nat) (h : m ≠ k) : tfind (tdrop t k) m = tfind t m := by
  induction t with
  | nil => rfl
  | cons p t ih =>
    by_cases e : p.1 = k
    · have d : tdrop (p :: t) k = tdrop t k := by simp [tdrop, e]
      rw [d, ih]
      exact (if_neg (fun x => h (x.trans e))).symm
    · have d : tdrop (p :: t) k = p :: tdrop t k := by simp [tdrop, e]
      rw [d]
      show (if m = p.1 then some p.2 else tfind (tdrop t k) m) = if m = p.1 then some p.2 else tfind t m
      rw [ih]

end Absent

/-! ## Folds over the numbers below `n` and over lists -/

/-- What every single change keeps, the whole fold keeps. -/
theorem Live.forL_keeps {α β : Type} (r : Live → β) (l : Live) (xs : List α) (f : Live → α → Live) (h : ∀ l x, r (f l x) = r l) :
    r (l.forL xs f) = r l := by
  induction xs generalizing l with
  | nil => rfl
  | cons x xs ih => exact (ih (f l x)).trans (h l x)

theorem Live.each_keeps {β : Type} (r : Live → β) (l : Live) (n : Nat) (f : Live → Nat → Live) (h : ∀ l x, r (f l x) = r l) :
    r (l.each n f) = r l := Live.forL_keeps r l (List.range n) f h

end Sys2Proof.Machine
end

