-- ==== Sys2Proof/Laws/State.lean ====
section
/-! SUPPORT. What each update of one part of the state leaves as it was: one lemma for each field and each reader, true by
computation, so that no proof unfolds a record update; and what each update gives when its own part is read. -/
namespace Sys2Proof.Machine.Live


/-! ### `modRing` -/

@[simp] theorem modRing_now (l : Live) (n : Nat) (f : Ring → Ring) : (l.modRing n f).now = l.now := rfl
@[simp] theorem modRing_bond (l : Live) (n : Nat) (f : Ring → Ring) : (l.modRing n f).bond = l.bond := rfl
@[simp] theorem modRing_bondAt (l : Live) (n : Nat) (f : Ring → Ring) : (l.modRing n f).bondAt = l.bondAt := rfl
@[simp] theorem modRing_bondOn (l : Live) (n : Nat) (f : Ring → Ring) : (l.modRing n f).bondOn = l.bondOn := rfl
@[simp] theorem modRing_pwr (l : Live) (n : Nat) (f : Ring → Ring) : (l.modRing n f).pwr = l.pwr := rfl
@[simp] theorem modRing_slots (l : Live) (n : Nat) (f : Ring → Ring) : (l.modRing n f).slots = l.slots := rfl
@[simp] theorem modRing_moor (l : Live) (n : Nat) (f : Ring → Ring) : (l.modRing n f).moor = l.moor := rfl
@[simp] theorem modRing_loop (l : Live) (n : Nat) (f : Ring → Ring) : (l.modRing n f).loop = l.loop := rfl
@[simp] theorem modRing_rails (l : Live) (n : Nat) (f : Ring → Ring) : (l.modRing n f).rails = l.rails := rfl
@[simp] theorem modRing_vcp (l : Live) (n : Nat) (f : Ring → Ring) : (l.modRing n f).vcp = l.vcp := rfl
@[simp] theorem modRing_vcr (l : Live) (n : Nat) (f : Ring → Ring) : (l.modRing n f).vcr = l.vcr := rfl
@[simp] theorem modRing_pp (l : Live) (n : Nat) (f : Ring → Ring) : (l.modRing n f).pp = l.pp := rfl
@[simp] theorem modRing_gauge (l : Live) (n : Nat) (f : Ring → Ring) : (l.modRing n f).gauge = l.gauge := rfl
@[simp] theorem modRing_therm (l : Live) (n : Nat) (f : Ring → Ring) : (l.modRing n f).therm = l.therm := rfl
@[simp] theorem modRing_fc (l : Live) (n : Nat) (f : Ring → Ring) : (l.modRing n f).fc = l.fc := rfl
@[simp] theorem modRing_keeper (l : Live) (n : Nat) (f : Ring → Ring) : (l.modRing n f).keeper = l.keeper := rfl
@[simp] theorem modRing_img (l : Live) (n : Nat) (f : Ring → Ring) : (l.modRing n f).img = l.img := rfl
@[simp] theorem modRing_msgs (l : Live) (n : Nat) (f : Ring → Ring) : (l.modRing n f).msgs = l.msgs := rfl
@[simp] theorem modRing_ports (l : Live) (n : Nat) (f : Ring → Ring) : (l.modRing n f).ports = l.ports := rfl
@[simp] theorem modRing_recd (l : Live) (n : Nat) (f : Ring → Ring) : (l.modRing n f).recd = l.recd := rfl
@[simp] theorem modRing_sec (l : Live) (n : Nat) (f : Ring → Ring) : (l.modRing n f).sec = l.sec := rfl
@[simp] theorem modRing_adc (l : Live) (n : Nat) (f : Ring → Ring) : (l.modRing n f).adc = l.adc := rfl
@[simp] theorem modRing_pins (l : Live) (n : Nat) (f : Ring → Ring) : (l.modRing n f).pins = l.pins := rfl
@[simp] theorem modRing_host (l : Live) (n : Nat) (f : Ring → Ring) : (l.modRing n f).host = l.host := rfl
@[simp] theorem modRing_bondWrites (l : Live) (n : Nat) (f : Ring → Ring) : (l.modRing n f).bondWrites = l.bondWrites := rfl
@[simp] theorem modRing_w1c (l : Live) (n : Nat) (f : Ring → Ring) : (l.modRing n f).w1c = l.w1c := rfl
@[simp] theorem modRing_free (l : Live) (n : Nat) (f : Ring → Ring) : (l.modRing n f).free = l.free := rfl
@[simp] theorem modRing_slot (l : Live) (n : Nat) (f : Ring → Ring) (r s : Nat) : (l.modRing n f).slot r s = l.slot r s := rfl
@[simp] theorem modRing_stn (l : Live) (n : Nat) (f : Ring → Ring) (k : Nat) : (l.modRing n f).stn k = l.stn k := rfl
@[simp] theorem modRing_tile (l : Live) (n : Nat) (f : Ring → Ring) (k : Nat) : (l.modRing n f).tile k = l.tile k := rfl
@[simp] theorem modRing_lane (l : Live) (n : Nat) (f : Ring → Ring) (k : Nat) : (l.modRing n f).lane k = l.lane k := rfl
@[simp] theorem modRing_rail (l : Live) (n : Nat) (f : Ring → Ring) (k : Nat) : (l.modRing n f).rail k = l.rail k := rfl
@[simp] theorem modRing_vp (l : Live) (n : Nat) (f : Ring → Ring) (k : Nat) : (l.modRing n f).vp k = l.vp k := rfl
@[simp] theorem modRing_vr (l : Live) (n : Nat) (f : Ring → Ring) (k : Nat) : (l.modRing n f).vr k = l.vr k := rfl
@[simp] theorem modRing_inp (l : Live) (n : Nat) (f : Ring → Ring) (k : Nat) : (l.modRing n f).inp k = l.inp k := rfl
@[simp] theorem modRing_str (l : Live) (n : Nat) (f : Ring → Ring) (k : Nat) : (l.modRing n f).str k = l.str k := rfl
@[simp] theorem modRing_point (l : Live) (n : Nat) (f : Ring → Ring) (k : Nat) : (l.modRing n f).point k = l.point k := rfl
@[simp] theorem modRing_block (l : Live) (n : Nat) (f : Ring → Ring) (k : Nat) : (l.modRing n f).block k = l.block k := rfl
@[simp] theorem modRing_sess (l : Live) (n : Nat) (f : Ring → Ring) (k : Nat) : (l.modRing n f).sess k = l.sess k := rfl
@[simp] theorem modRing_mport (l : Live) (n : Nat) (f : Ring → Ring) (k : Nat) : (l.modRing n f).mport k = l.mport k := rfl
@[simp] theorem modRing_pi (l : Live) (n : Nat) (f : Ring → Ring) (k : Nat) : (l.modRing n f).pi k = l.pi k := rfl
@[simp] theorem modRing_capSlot (l : Live) (n : Nat) (f : Ring → Ring) (k : Nat) : (l.modRing n f).capSlot k = l.capSlot k := rfl
@[simp] theorem modRing_trace (l : Live) (n : Nat) (f : Ring → Ring) (k : Nat) : (l.modRing n f).trace k = l.trace k := rfl
@[simp] theorem modRing_otpw (l : Live) (n : Nat) (f : Ring → Ring) (k : Nat) : (l.modRing n f).otpw k = l.otpw k := rfl
@[simp] theorem modRing_ctr (l : Live) (n : Nat) (f : Ring → Ring) (k : Nat) : (l.modRing n f).ctr k = l.ctr k := rfl
@[simp] theorem modRing_hw (l : Live) (n : Nat) (f : Ring → Ring) (p q : Nat) : (l.modRing n f).hw p q = l.hw p q := rfl
@[simp] theorem modRing_cw (l : Live) (n : Nat) (f : Ring → Ring) (p q : Nat) : (l.modRing n f).cw p q = l.cw p q := rfl
@[simp] theorem modRing_given (l : Live) (n : Nat) (f : Ring → Ring) (p q : Nat) : (l.modRing n f).given p q = l.given p q := rfl
@[simp] theorem modRing_cf (l : Live) (n : Nat) (f : Ring → Ring) (p q hi lo : Nat) : (l.modRing n f).cf p q hi lo = l.cf p q hi lo := rfl
@[simp] theorem modRing_cb (l : Live) (n : Nat) (f : Ring → Ring) (p q b : Nat) : (l.modRing n f).cb p q b = l.cb p q b := rfl
@[simp] theorem modRing_dom (l : Live) (n : Nat) (f : Ring → Ring) (d : Nat) : (l.modRing n f).dom d = l.dom d := rfl
@[simp] theorem modRing_working (l : Live) (n : Nat) (f : Ring → Ring) : (l.modRing n f).working = l.working := rfl
@[simp] theorem modRing_fwUp (l : Live) (n : Nat) (f : Ring → Ring) : (l.modRing n f).fwUp = l.fwUp := rfl
@[simp] theorem modRing_tick (l : Live) (n : Nat) (f : Ring → Ring) : (l.modRing n f).tick = l.tick := rfl
@[simp] theorem modRing_ring_same (l : Live) (n : Nat) (f : Ring → Ring) : (l.modRing n f).ring n = f (l.ring n) := tget_tmod_same _ _ _ _
theorem modRing_ring_other (l : Live) (n : Nat) (f : Ring → Ring) (k : Nat) (h : k ≠ n) : (l.modRing n f).ring k = l.ring k := tget_tmod_other _ _ _ _ _ h
theorem modRing_ring (l : Live) (n : Nat) (f : Ring → Ring) (k : Nat) : (l.modRing n f).ring k = if k = n then f (l.ring n) else l.ring k := tget_tmod _ _ _ _ _

/-! ### `modStn` -/

@[simp] theorem modStn_now (l : Live) (n : Nat) (f : Stn → Stn) : (l.modStn n f).now = l.now := rfl
@[simp] theorem modStn_bond (l : Live) (n : Nat) (f : Stn → Stn) : (l.modStn n f).bond = l.bond := rfl
@[simp] theorem modStn_bondAt (l : Live) (n : Nat) (f : Stn → Stn) : (l.modStn n f).bondAt = l.bondAt := rfl
@[simp] theorem modStn_bondOn (l : Live) (n : Nat) (f : Stn → Stn) : (l.modStn n f).bondOn = l.bondOn := rfl
@[simp] theorem modStn_pwr (l : Live) (n : Nat) (f : Stn → Stn) : (l.modStn n f).pwr = l.pwr := rfl
@[simp] theorem modStn_rings (l : Live) (n : Nat) (f : Stn → Stn) : (l.modStn n f).rings = l.rings := rfl
@[simp] theorem modStn_slots (l : Live) (n : Nat) (f : Stn → Stn) : (l.modStn n f).slots = l.slots := rfl
@[simp] theorem modStn_loop (l : Live) (n : Nat) (f : Stn → Stn) : (l.modStn n f).loop = l.loop := rfl
@[simp] theorem modStn_rails (l : Live) (n : Nat) (f : Stn → Stn) : (l.modStn n f).rails = l.rails := rfl
@[simp] theorem modStn_vcp (l : Live) (n : Nat) (f : Stn → Stn) : (l.modStn n f).vcp = l.vcp := rfl
@[simp] theorem modStn_vcr (l : Live) (n : Nat) (f : Stn → Stn) : (l.modStn n f).vcr = l.vcr := rfl
@[simp] theorem modStn_pp (l : Live) (n : Nat) (f : Stn → Stn) : (l.modStn n f).pp = l.pp := rfl
@[simp] theorem modStn_gauge (l : Live) (n : Nat) (f : Stn → Stn) : (l.modStn n f).gauge = l.gauge := rfl
@[simp] theorem modStn_therm (l : Live) (n : Nat) (f : Stn → Stn) : (l.modStn n f).therm = l.therm := rfl
@[simp] theorem modStn_fc (l : Live) (n : Nat) (f : Stn → Stn) : (l.modStn n f).fc = l.fc := rfl
@[simp] theorem modStn_keeper (l : Live) (n : Nat) (f : Stn → Stn) : (l.modStn n f).keeper = l.keeper := rfl
@[simp] theorem modStn_img (l : Live) (n : Nat) (f : Stn → Stn) : (l.modStn n f).img = l.img := rfl
@[simp] theorem modStn_msgs (l : Live) (n : Nat) (f : Stn → Stn) : (l.modStn n f).msgs = l.msgs := rfl
@[simp] theorem modStn_ports (l : Live) (n : Nat) (f : Stn → Stn) : (l.modStn n f).ports = l.ports := rfl
@[simp] theorem modStn_recd (l : Live) (n : Nat) (f : Stn → Stn) : (l.modStn n f).recd = l.recd := rfl
@[simp] theorem modStn_sec (l : Live) (n : Nat) (f : Stn → Stn) : (l.modStn n f).sec = l.sec := rfl
@[simp] theorem modStn_adc (l : Live) (n : Nat) (f : Stn → Stn) : (l.modStn n f).adc = l.adc := rfl
@[simp] theorem modStn_pins (l : Live) (n : Nat) (f : Stn → Stn) : (l.modStn n f).pins = l.pins := rfl
@[simp] theorem modStn_host (l : Live) (n : Nat) (f : Stn → Stn) : (l.modStn n f).host = l.host := rfl
@[simp] theorem modStn_bondWrites (l : Live) (n : Nat) (f : Stn → Stn) : (l.modStn n f).bondWrites = l.bondWrites := rfl
@[simp] theorem modStn_w1c (l : Live) (n : Nat) (f : Stn → Stn) : (l.modStn n f).w1c = l.w1c := rfl
@[simp] theorem modStn_free (l : Live) (n : Nat) (f : Stn → Stn) : (l.modStn n f).free = l.free := rfl
@[simp] theorem modStn_moor_barred (l : Live) (n : Nat) (f : Stn → Stn) : (l.modStn n f).moor.barred = l.moor.barred := rfl
@[simp] theorem modStn_moor_barBy (l : Live) (n : Nat) (f : Stn → Stn) : (l.modStn n f).moor.barBy = l.moor.barBy := rfl
@[simp] theorem modStn_moor_passAt (l : Live) (n : Nat) (f : Stn → Stn) : (l.modStn n f).moor.passAt = l.moor.passAt := rfl
@[simp] theorem modStn_moor_fwImage (l : Live) (n : Nat) (f : Stn → Stn) : (l.modStn n f).moor.fwImage = l.moor.fwImage := rfl
@[simp] theorem modStn_moor_fwType (l : Live) (n : Nat) (f : Stn → Stn) : (l.modStn n f).moor.fwType = l.moor.fwType := rfl
@[simp] theorem modStn_moor_fwVendor (l : Live) (n : Nat) (f : Stn → Stn) : (l.modStn n f).moor.fwVendor = l.moor.fwVendor := rfl
@[simp] theorem modStn_moor_fwVer (l : Live) (n : Nat) (f : Stn → Stn) : (l.modStn n f).moor.fwVer = l.moor.fwVer := rfl
@[simp] theorem modStn_moor_fwBusy (l : Live) (n : Nat) (f : Stn → Stn) : (l.modStn n f).moor.fwBusy = l.moor.fwBusy := rfl
@[simp] theorem modStn_moor_fwTried (l : Live) (n : Nat) (f : Stn → Stn) : (l.modStn n f).moor.fwTried = l.moor.fwTried := rfl
@[simp] theorem modStn_moor_fwDone (l : Live) (n : Nat) (f : Stn → Stn) : (l.modStn n f).moor.fwDone = l.moor.fwDone := rfl
@[simp] theorem modStn_ring (l : Live) (n : Nat) (f : Stn → Stn) (k : Nat) : (l.modStn n f).ring k = l.ring k := rfl
@[simp] theorem modStn_slot (l : Live) (n : Nat) (f : Stn → Stn) (r s : Nat) : (l.modStn n f).slot r s = l.slot r s := rfl
@[simp] theorem modStn_tile (l : Live) (n : Nat) (f : Stn → Stn) (k : Nat) : (l.modStn n f).tile k = l.tile k := rfl
@[simp] theorem modStn_lane (l : Live) (n : Nat) (f : Stn → Stn) (k : Nat) : (l.modStn n f).lane k = l.lane k := rfl
@[simp] theorem modStn_rail (l : Live) (n : Nat) (f : Stn → Stn) (k : Nat) : (l.modStn n f).rail k = l.rail k := rfl
@[simp] theorem modStn_vp (l : Live) (n : Nat) (f : Stn → Stn) (k : Nat) : (l.modStn n f).vp k = l.vp k := rfl
@[simp] theorem modStn_vr (l : Live) (n : Nat) (f : Stn → Stn) (k : Nat) : (l.modStn n f).vr k = l.vr k := rfl
@[simp] theorem modStn_inp (l : Live) (n : Nat) (f : Stn → Stn) (k : Nat) : (l.modStn n f).inp k = l.inp k := rfl
@[simp] theorem modStn_str (l : Live) (n : Nat) (f : Stn → Stn) (k : Nat) : (l.modStn n f).str k = l.str k := rfl
@[simp] theorem modStn_point (l : Live) (n : Nat) (f : Stn → Stn) (k : Nat) : (l.modStn n f).point k = l.point k := rfl
@[simp] theorem modStn_block (l : Live) (n : Nat) (f : Stn → Stn) (k : Nat) : (l.modStn n f).block k = l.block k := rfl
@[simp] theorem modStn_sess (l : Live) (n : Nat) (f : Stn → Stn) (k : Nat) : (l.modStn n f).sess k = l.sess k := rfl
@[simp] theorem modStn_mport (l : Live) (n : Nat) (f : Stn → Stn) (k : Nat) : (l.modStn n f).mport k = l.mport k := rfl
@[simp] theorem modStn_pi (l : Live) (n : Nat) (f : Stn → Stn) (k : Nat) : (l.modStn n f).pi k = l.pi k := rfl
@[simp] theorem modStn_capSlot (l : Live) (n : Nat) (f : Stn → Stn) (k : Nat) : (l.modStn n f).capSlot k = l.capSlot k := rfl
@[simp] theorem modStn_trace (l : Live) (n : Nat) (f : Stn → Stn) (k : Nat) : (l.modStn n f).trace k = l.trace k := rfl
@[simp] theorem modStn_otpw (l : Live) (n : Nat) (f : Stn → Stn) (k : Nat) : (l.modStn n f).otpw k = l.otpw k := rfl
@[simp] theorem modStn_ctr (l : Live) (n : Nat) (f : Stn → Stn) (k : Nat) : (l.modStn n f).ctr k = l.ctr k := rfl
@[simp] theorem modStn_hw (l : Live) (n : Nat) (f : Stn → Stn) (p q : Nat) : (l.modStn n f).hw p q = l.hw p q := rfl
@[simp] theorem modStn_cw (l : Live) (n : Nat) (f : Stn → Stn) (p q : Nat) : (l.modStn n f).cw p q = l.cw p q := rfl
@[simp] theorem modStn_given (l : Live) (n : Nat) (f : Stn → Stn) (p q : Nat) : (l.modStn n f).given p q = l.given p q := rfl
@[simp] theorem modStn_cf (l : Live) (n : Nat) (f : Stn → Stn) (p q hi lo : Nat) : (l.modStn n f).cf p q hi lo = l.cf p q hi lo := rfl
@[simp] theorem modStn_cb (l : Live) (n : Nat) (f : Stn → Stn) (p q b : Nat) : (l.modStn n f).cb p q b = l.cb p q b := rfl
@[simp] theorem modStn_dom (l : Live) (n : Nat) (f : Stn → Stn) (d : Nat) : (l.modStn n f).dom d = l.dom d := rfl
@[simp] theorem modStn_working (l : Live) (n : Nat) (f : Stn → Stn) : (l.modStn n f).working = l.working := rfl
@[simp] theorem modStn_fwUp (l : Live) (n : Nat) (f : Stn → Stn) : (l.modStn n f).fwUp = l.fwUp := rfl
@[simp] theorem modStn_tick (l : Live) (n : Nat) (f : Stn → Stn) : (l.modStn n f).tick = l.tick := rfl
@[simp] theorem modStn_stn_same (l : Live) (n : Nat) (f : Stn → Stn) : (l.modStn n f).stn n = f (l.stn n) := tget_tmod_same _ _ _ _
theorem modStn_stn_other (l : Live) (n : Nat) (f : Stn → Stn) (k : Nat) (h : k ≠ n) : (l.modStn n f).stn k = l.stn k := tget_tmod_other _ _ _ _ _ h
theorem modStn_stn (l : Live) (n : Nat) (f : Stn → Stn) (k : Nat) : (l.modStn n f).stn k = if k = n then f (l.stn n) else l.stn k := tget_tmod _ _ _ _ _

/-! ### `modTile` -/

@[simp] theorem modTile_now (l : Live) (n : Nat) (f : Tile → Tile) : (l.modTile n f).now = l.now := rfl
@[simp] theorem modTile_bond (l : Live) (n : Nat) (f : Tile → Tile) : (l.modTile n f).bond = l.bond := rfl
@[simp] theorem modTile_bondAt (l : Live) (n : Nat) (f : Tile → Tile) : (l.modTile n f).bondAt = l.bondAt := rfl
@[simp] theorem modTile_bondOn (l : Live) (n : Nat) (f : Tile → Tile) : (l.modTile n f).bondOn = l.bondOn := rfl
@[simp] theorem modTile_pwr (l : Live) (n : Nat) (f : Tile → Tile) : (l.modTile n f).pwr = l.pwr := rfl
@[simp] theorem modTile_rings (l : Live) (n : Nat) (f : Tile → Tile) : (l.modTile n f).rings = l.rings := rfl
@[simp] theorem modTile_slots (l : Live) (n : Nat) (f : Tile → Tile) : (l.modTile n f).slots = l.slots := rfl
@[simp] theorem modTile_moor (l : Live) (n : Nat) (f : Tile → Tile) : (l.modTile n f).moor = l.moor := rfl
@[simp] theorem modTile_rails (l : Live) (n : Nat) (f : Tile → Tile) : (l.modTile n f).rails = l.rails := rfl
@[simp] theorem modTile_vcp (l : Live) (n : Nat) (f : Tile → Tile) : (l.modTile n f).vcp = l.vcp := rfl
@[simp] theorem modTile_vcr (l : Live) (n : Nat) (f : Tile → Tile) : (l.modTile n f).vcr = l.vcr := rfl
@[simp] theorem modTile_pp (l : Live) (n : Nat) (f : Tile → Tile) : (l.modTile n f).pp = l.pp := rfl
@[simp] theorem modTile_gauge (l : Live) (n : Nat) (f : Tile → Tile) : (l.modTile n f).gauge = l.gauge := rfl
@[simp] theorem modTile_therm (l : Live) (n : Nat) (f : Tile → Tile) : (l.modTile n f).therm = l.therm := rfl
@[simp] theorem modTile_fc (l : Live) (n : Nat) (f : Tile → Tile) : (l.modTile n f).fc = l.fc := rfl
@[simp] theorem modTile_keeper (l : Live) (n : Nat) (f : Tile → Tile) : (l.modTile n f).keeper = l.keeper := rfl
@[simp] theorem modTile_img (l : Live) (n : Nat) (f : Tile → Tile) : (l.modTile n f).img = l.img := rfl
@[simp] theorem modTile_msgs (l : Live) (n : Nat) (f : Tile → Tile) : (l.modTile n f).msgs = l.msgs := rfl
@[simp] theorem modTile_ports (l : Live) (n : Nat) (f : Tile → Tile) : (l.modTile n f).ports = l.ports := rfl
@[simp] theorem modTile_recd (l : Live) (n : Nat) (f : Tile → Tile) : (l.modTile n f).recd = l.recd := rfl
@[simp] theorem modTile_sec (l : Live) (n : Nat) (f : Tile → Tile) : (l.modTile n f).sec = l.sec := rfl
@[simp] theorem modTile_adc (l : Live) (n : Nat) (f : Tile → Tile) : (l.modTile n f).adc = l.adc := rfl
@[simp] theorem modTile_pins (l : Live) (n : Nat) (f : Tile → Tile) : (l.modTile n f).pins = l.pins := rfl
@[simp] theorem modTile_host (l : Live) (n : Nat) (f : Tile → Tile) : (l.modTile n f).host = l.host := rfl
@[simp] theorem modTile_bondWrites (l : Live) (n : Nat) (f : Tile → Tile) : (l.modTile n f).bondWrites = l.bondWrites := rfl
@[simp] theorem modTile_w1c (l : Live) (n : Nat) (f : Tile → Tile) : (l.modTile n f).w1c = l.w1c := rfl
@[simp] theorem modTile_free (l : Live) (n : Nat) (f : Tile → Tile) : (l.modTile n f).free = l.free := rfl
@[simp] theorem modTile_loop_slots (l : Live) (n : Nat) (f : Tile → Tile) : (l.modTile n f).loop.slots = l.loop.slots := rfl
@[simp] theorem modTile_loop_outs (l : Live) (n : Nat) (f : Tile → Tile) : (l.modTile n f).loop.outs = l.loop.outs := rfl
@[simp] theorem modTile_loop_pubs (l : Live) (n : Nat) (f : Tile → Tile) : (l.modTile n f).loop.pubs = l.loop.pubs := rfl
@[simp] theorem modTile_loop_pol (l : Live) (n : Nat) (f : Tile → Tile) : (l.modTile n f).loop.pol = l.loop.pol := rfl
@[simp] theorem modTile_loop_rcPool (l : Live) (n : Nat) (f : Tile → Tile) : (l.modTile n f).loop.rcPool = l.loop.rcPool := rfl
@[simp] theorem modTile_loop_latches (l : Live) (n : Nat) (f : Tile → Tile) : (l.modTile n f).loop.latches = l.loop.latches := rfl
@[simp] theorem modTile_loop_lanes (l : Live) (n : Nat) (f : Tile → Tile) : (l.modTile n f).loop.lanes = l.loop.lanes := rfl
@[simp] theorem modTile_loop_pendSched (l : Live) (n : Nat) (f : Tile → Tile) : (l.modTile n f).loop.pendSched = l.loop.pendSched := rfl
@[simp] theorem modTile_loop_pendDec (l : Live) (n : Nat) (f : Tile → Tile) : (l.modTile n f).loop.pendDec = l.loop.pendDec := rfl
@[simp] theorem modTile_loop_polQueue (l : Live) (n : Nat) (f : Tile → Tile) : (l.modTile n f).loop.polQueue = l.loop.polQueue := rfl
@[simp] theorem modTile_loop_polLate (l : Live) (n : Nat) (f : Tile → Tile) : (l.modTile n f).loop.polLate = l.loop.polLate := rfl
@[simp] theorem modTile_loop_eband (l : Live) (n : Nat) (f : Tile → Tile) : (l.modTile n f).loop.eband = l.loop.eband := rfl
@[simp] theorem modTile_loop_decact (l : Live) (n : Nat) (f : Tile → Tile) : (l.modTile n f).loop.decact = l.loop.decact := rfl
@[simp] theorem modTile_loop_vcnow (l : Live) (n : Nat) (f : Tile → Tile) : (l.modTile n f).loop.vcnow = l.loop.vcnow := rfl
@[simp] theorem modTile_ring (l : Live) (n : Nat) (f : Tile → Tile) (k : Nat) : (l.modTile n f).ring k = l.ring k := rfl
@[simp] theorem modTile_slot (l : Live) (n : Nat) (f : Tile → Tile) (r s : Nat) : (l.modTile n f).slot r s = l.slot r s := rfl
@[simp] theorem modTile_stn (l : Live) (n : Nat) (f : Tile → Tile) (k : Nat) : (l.modTile n f).stn k = l.stn k := rfl
@[simp] theorem modTile_lane (l : Live) (n : Nat) (f : Tile → Tile) (k : Nat) : (l.modTile n f).lane k = l.lane k := rfl
@[simp] theorem modTile_rail (l : Live) (n : Nat) (f : Tile → Tile) (k : Nat) : (l.modTile n f).rail k = l.rail k := rfl
@[simp] theorem modTile_vp (l : Live) (n : Nat) (f : Tile → Tile) (k : Nat) : (l.modTile n f).vp k = l.vp k := rfl
@[simp] theorem modTile_vr (l : Live) (n : Nat) (f : Tile → Tile) (k : Nat) : (l.modTile n f).vr k = l.vr k := rfl
@[simp] theorem modTile_inp (l : Live) (n : Nat) (f : Tile → Tile) (k : Nat) : (l.modTile n f).inp k = l.inp k := rfl
@[simp] theorem modTile_str (l : Live) (n : Nat) (f : Tile → Tile) (k : Nat) : (l.modTile n f).str k = l.str k := rfl
@[simp] theorem modTile_point (l : Live) (n : Nat) (f : Tile → Tile) (k : Nat) : (l.modTile n f).point k = l.point k := rfl
@[simp] theorem modTile_block (l : Live) (n : Nat) (f : Tile → Tile) (k : Nat) : (l.modTile n f).block k = l.block k := rfl
@[simp] theorem modTile_sess (l : Live) (n : Nat) (f : Tile → Tile) (k : Nat) : (l.modTile n f).sess k = l.sess k := rfl
@[simp] theorem modTile_mport (l : Live) (n : Nat) (f : Tile → Tile) (k : Nat) : (l.modTile n f).mport k = l.mport k := rfl
@[simp] theorem modTile_pi (l : Live) (n : Nat) (f : Tile → Tile) (k : Nat) : (l.modTile n f).pi k = l.pi k := rfl
@[simp] theorem modTile_capSlot (l : Live) (n : Nat) (f : Tile → Tile) (k : Nat) : (l.modTile n f).capSlot k = l.capSlot k := rfl
@[simp] theorem modTile_trace (l : Live) (n : Nat) (f : Tile → Tile) (k : Nat) : (l.modTile n f).trace k = l.trace k := rfl
@[simp] theorem modTile_otpw (l : Live) (n : Nat) (f : Tile → Tile) (k : Nat) : (l.modTile n f).otpw k = l.otpw k := rfl
@[simp] theorem modTile_ctr (l : Live) (n : Nat) (f : Tile → Tile) (k : Nat) : (l.modTile n f).ctr k = l.ctr k := rfl
@[simp] theorem modTile_hw (l : Live) (n : Nat) (f : Tile → Tile) (p q : Nat) : (l.modTile n f).hw p q = l.hw p q := rfl
@[simp] theorem modTile_cw (l : Live) (n : Nat) (f : Tile → Tile) (p q : Nat) : (l.modTile n f).cw p q = l.cw p q := rfl
@[simp] theorem modTile_given (l : Live) (n : Nat) (f : Tile → Tile) (p q : Nat) : (l.modTile n f).given p q = l.given p q := rfl
@[simp] theorem modTile_cf (l : Live) (n : Nat) (f : Tile → Tile) (p q hi lo : Nat) : (l.modTile n f).cf p q hi lo = l.cf p q hi lo := rfl
@[simp] theorem modTile_cb (l : Live) (n : Nat) (f : Tile → Tile) (p q b : Nat) : (l.modTile n f).cb p q b = l.cb p q b := rfl
@[simp] theorem modTile_dom (l : Live) (n : Nat) (f : Tile → Tile) (d : Nat) : (l.modTile n f).dom d = l.dom d := rfl
@[simp] theorem modTile_working (l : Live) (n : Nat) (f : Tile → Tile) : (l.modTile n f).working = l.working := rfl
@[simp] theorem modTile_fwUp (l : Live) (n : Nat) (f : Tile → Tile) : (l.modTile n f).fwUp = l.fwUp := rfl
@[simp] theorem modTile_tick (l : Live) (n : Nat) (f : Tile → Tile) : (l.modTile n f).tick = l.tick := rfl
@[simp] theorem modTile_tile_same (l : Live) (n : Nat) (f : Tile → Tile) : (l.modTile n f).tile n = f (l.tile n) := tget_tmod_same _ _ _ _
theorem modTile_tile_other (l : Live) (n : Nat) (f : Tile → Tile) (k : Nat) (h : k ≠ n) : (l.modTile n f).tile k = l.tile k := tget_tmod_other _ _ _ _ _ h
theorem modTile_tile (l : Live) (n : Nat) (f : Tile → Tile) (k : Nat) : (l.modTile n f).tile k = if k = n then f (l.tile n) else l.tile k := tget_tmod _ _ _ _ _

/-! ### `modLane` -/

@[simp] theorem modLane_now (l : Live) (n : Nat) (f : Lane → Lane) : (l.modLane n f).now = l.now := rfl
@[simp] theorem modLane_bond (l : Live) (n : Nat) (f : Lane → Lane) : (l.modLane n f).bond = l.bond := rfl
@[simp] theorem modLane_bondAt (l : Live) (n : Nat) (f : Lane → Lane) : (l.modLane n f).bondAt = l.bondAt := rfl
@[simp] theorem modLane_bondOn (l : Live) (n : Nat) (f : Lane → Lane) : (l.modLane n f).bondOn = l.bondOn := rfl
@[simp] theorem modLane_pwr (l : Live) (n : Nat) (f : Lane → Lane) : (l.modLane n f).pwr = l.pwr := rfl
@[simp] theorem modLane_rings (l : Live) (n : Nat) (f : Lane → Lane) : (l.modLane n f).rings = l.rings := rfl
@[simp] theorem modLane_slots (l : Live) (n : Nat) (f : Lane → Lane) : (l.modLane n f).slots = l.slots := rfl
@[simp] theorem modLane_moor (l : Live) (n : Nat) (f : Lane → Lane) : (l.modLane n f).moor = l.moor := rfl
@[simp] theorem modLane_rails (l : Live) (n : Nat) (f : Lane → Lane) : (l.modLane n f).rails = l.rails := rfl
@[simp] theorem modLane_vcp (l : Live) (n : Nat) (f : Lane → Lane) : (l.modLane n f).vcp = l.vcp := rfl
@[simp] theorem modLane_vcr (l : Live) (n : Nat) (f : Lane → Lane) : (l.modLane n f).vcr = l.vcr := rfl
@[simp] theorem modLane_pp (l : Live) (n : Nat) (f : Lane → Lane) : (l.modLane n f).pp = l.pp := rfl
@[simp] theorem modLane_gauge (l : Live) (n : Nat) (f : Lane → Lane) : (l.modLane n f).gauge = l.gauge := rfl
@[simp] theorem modLane_therm (l : Live) (n : Nat) (f : Lane → Lane) : (l.modLane n f).therm = l.therm := rfl
@[simp] theorem modLane_fc (l : Live) (n : Nat) (f : Lane → Lane) : (l.modLane n f).fc = l.fc := rfl
@[simp] theorem modLane_keeper (l : Live) (n : Nat) (f : Lane → Lane) : (l.modLane n f).keeper = l.keeper := rfl
@[simp] theorem modLane_img (l : Live) (n : Nat) (f : Lane → Lane) : (l.modLane n f).img = l.img := rfl
@[simp] theorem modLane_msgs (l : Live) (n : Nat) (f : Lane → Lane) : (l.modLane n f).msgs = l.msgs := rfl
@[simp] theorem modLane_ports (l : Live) (n : Nat) (f : Lane → Lane) : (l.modLane n f).ports = l.ports := rfl
@[simp] theorem modLane_recd (l : Live) (n : Nat) (f : Lane → Lane) : (l.modLane n f).recd = l.recd := rfl
@[simp] theorem modLane_sec (l : Live) (n : Nat) (f : Lane → Lane) : (l.modLane n f).sec = l.sec := rfl
@[simp] theorem modLane_adc (l : Live) (n : Nat) (f : Lane → Lane) : (l.modLane n f).adc = l.adc := rfl
@[simp] theorem modLane_pins (l : Live) (n : Nat) (f : Lane → Lane) : (l.modLane n f).pins = l.pins := rfl
@[simp] theorem modLane_host (l : Live) (n : Nat) (f : Lane → Lane) : (l.modLane n f).host = l.host := rfl
@[simp] theorem modLane_bondWrites (l : Live) (n : Nat) (f : Lane → Lane) : (l.modLane n f).bondWrites = l.bondWrites := rfl
@[simp] theorem modLane_w1c (l : Live) (n : Nat) (f : Lane → Lane) : (l.modLane n f).w1c = l.w1c := rfl
@[simp] theorem modLane_free (l : Live) (n : Nat) (f : Lane → Lane) : (l.modLane n f).free = l.free := rfl
@[simp] theorem modLane_loop_tiles (l : Live) (n : Nat) (f : Lane → Lane) : (l.modLane n f).loop.tiles = l.loop.tiles := rfl
@[simp] theorem modLane_loop_slots (l : Live) (n : Nat) (f : Lane → Lane) : (l.modLane n f).loop.slots = l.loop.slots := rfl
@[simp] theorem modLane_loop_outs (l : Live) (n : Nat) (f : Lane → Lane) : (l.modLane n f).loop.outs = l.loop.outs := rfl
@[simp] theorem modLane_loop_pubs (l : Live) (n : Nat) (f : Lane → Lane) : (l.modLane n f).loop.pubs = l.loop.pubs := rfl
@[simp] theorem modLane_loop_pol (l : Live) (n : Nat) (f : Lane → Lane) : (l.modLane n f).loop.pol = l.loop.pol := rfl
@[simp] theorem modLane_loop_rcPool (l : Live) (n : Nat) (f : Lane → Lane) : (l.modLane n f).loop.rcPool = l.loop.rcPool := rfl
@[simp] theorem modLane_loop_latches (l : Live) (n : Nat) (f : Lane → Lane) : (l.modLane n f).loop.latches = l.loop.latches := rfl
@[simp] theorem modLane_loop_pendSched (l : Live) (n : Nat) (f : Lane → Lane) : (l.modLane n f).loop.pendSched = l.loop.pendSched := rfl
@[simp] theorem modLane_loop_pendDec (l : Live) (n : Nat) (f : Lane → Lane) : (l.modLane n f).loop.pendDec = l.loop.pendDec := rfl
@[simp] theorem modLane_loop_polQueue (l : Live) (n : Nat) (f : Lane → Lane) : (l.modLane n f).loop.polQueue = l.loop.polQueue := rfl
@[simp] theorem modLane_loop_polLate (l : Live) (n : Nat) (f : Lane → Lane) : (l.modLane n f).loop.polLate = l.loop.polLate := rfl
@[simp] theorem modLane_loop_eband (l : Live) (n : Nat) (f : Lane → Lane) : (l.modLane n f).loop.eband = l.loop.eband := rfl
@[simp] theorem modLane_loop_decact (l : Live) (n : Nat) (f : Lane → Lane) : (l.modLane n f).loop.decact = l.loop.decact := rfl
@[simp] theorem modLane_loop_vcnow (l : Live) (n : Nat) (f : Lane → Lane) : (l.modLane n f).loop.vcnow = l.loop.vcnow := rfl
@[simp] theorem modLane_ring (l : Live) (n : Nat) (f : Lane → Lane) (k : Nat) : (l.modLane n f).ring k = l.ring k := rfl
@[simp] theorem modLane_slot (l : Live) (n : Nat) (f : Lane → Lane) (r s : Nat) : (l.modLane n f).slot r s = l.slot r s := rfl
@[simp] theorem modLane_stn (l : Live) (n : Nat) (f : Lane → Lane) (k : Nat) : (l.modLane n f).stn k = l.stn k := rfl
@[simp] theorem modLane_tile (l : Live) (n : Nat) (f : Lane → Lane) (k : Nat) : (l.modLane n f).tile k = l.tile k := rfl
@[simp] theorem modLane_rail (l : Live) (n : Nat) (f : Lane → Lane) (k : Nat) : (l.modLane n f).rail k = l.rail k := rfl
@[simp] theorem modLane_vp (l : Live) (n : Nat) (f : Lane → Lane) (k : Nat) : (l.modLane n f).vp k = l.vp k := rfl
@[simp] theorem modLane_vr (l : Live) (n : Nat) (f : Lane → Lane) (k : Nat) : (l.modLane n f).vr k = l.vr k := rfl
@[simp] theorem modLane_inp (l : Live) (n : Nat) (f : Lane → Lane) (k : Nat) : (l.modLane n f).inp k = l.inp k := rfl
@[simp] theorem modLane_str (l : Live) (n : Nat) (f : Lane → Lane) (k : Nat) : (l.modLane n f).str k = l.str k := rfl
@[simp] theorem modLane_point (l : Live) (n : Nat) (f : Lane → Lane) (k : Nat) : (l.modLane n f).point k = l.point k := rfl
@[simp] theorem modLane_block (l : Live) (n : Nat) (f : Lane → Lane) (k : Nat) : (l.modLane n f).block k = l.block k := rfl
@[simp] theorem modLane_sess (l : Live) (n : Nat) (f : Lane → Lane) (k : Nat) : (l.modLane n f).sess k = l.sess k := rfl
@[simp] theorem modLane_mport (l : Live) (n : Nat) (f : Lane → Lane) (k : Nat) : (l.modLane n f).mport k = l.mport k := rfl
@[simp] theorem modLane_pi (l : Live) (n : Nat) (f : Lane → Lane) (k : Nat) : (l.modLane n f).pi k = l.pi k := rfl
@[simp] theorem modLane_capSlot (l : Live) (n : Nat) (f : Lane → Lane) (k : Nat) : (l.modLane n f).capSlot k = l.capSlot k := rfl
@[simp] theorem modLane_trace (l : Live) (n : Nat) (f : Lane → Lane) (k : Nat) : (l.modLane n f).trace k = l.trace k := rfl
@[simp] theorem modLane_otpw (l : Live) (n : Nat) (f : Lane → Lane) (k : Nat) : (l.modLane n f).otpw k = l.otpw k := rfl
@[simp] theorem modLane_ctr (l : Live) (n : Nat) (f : Lane → Lane) (k : Nat) : (l.modLane n f).ctr k = l.ctr k := rfl
@[simp] theorem modLane_hw (l : Live) (n : Nat) (f : Lane → Lane) (p q : Nat) : (l.modLane n f).hw p q = l.hw p q := rfl
@[simp] theorem modLane_cw (l : Live) (n : Nat) (f : Lane → Lane) (p q : Nat) : (l.modLane n f).cw p q = l.cw p q := rfl
@[simp] theorem modLane_given (l : Live) (n : Nat) (f : Lane → Lane) (p q : Nat) : (l.modLane n f).given p q = l.given p q := rfl
@[simp] theorem modLane_cf (l : Live) (n : Nat) (f : Lane → Lane) (p q hi lo : Nat) : (l.modLane n f).cf p q hi lo = l.cf p q hi lo := rfl
@[simp] theorem modLane_cb (l : Live) (n : Nat) (f : Lane → Lane) (p q b : Nat) : (l.modLane n f).cb p q b = l.cb p q b := rfl
@[simp] theorem modLane_dom (l : Live) (n : Nat) (f : Lane → Lane) (d : Nat) : (l.modLane n f).dom d = l.dom d := rfl
@[simp] theorem modLane_working (l : Live) (n : Nat) (f : Lane → Lane) : (l.modLane n f).working = l.working := rfl
@[simp] theorem modLane_fwUp (l : Live) (n : Nat) (f : Lane → Lane) : (l.modLane n f).fwUp = l.fwUp := rfl
@[simp] theorem modLane_tick (l : Live) (n : Nat) (f : Lane → Lane) : (l.modLane n f).tick = l.tick := rfl
@[simp] theorem modLane_lane_same (l : Live) (n : Nat) (f : Lane → Lane) : (l.modLane n f).lane n = f (l.lane n) := tget_tmod_same _ _ _ _
theorem modLane_lane_other (l : Live) (n : Nat) (f : Lane → Lane) (k : Nat) (h : k ≠ n) : (l.modLane n f).lane k = l.lane k := tget_tmod_other _ _ _ _ _ h
theorem modLane_lane (l : Live) (n : Nat) (f : Lane → Lane) (k : Nat) : (l.modLane n f).lane k = if k = n then f (l.lane n) else l.lane k := tget_tmod _ _ _ _ _

/-! ### `modRail` -/

@[simp] theorem modRail_now (l : Live) (n : Nat) (f : Rail → Rail) : (l.modRail n f).now = l.now := rfl
@[simp] theorem modRail_bond (l : Live) (n : Nat) (f : Rail → Rail) : (l.modRail n f).bond = l.bond := rfl
@[simp] theorem modRail_bondAt (l : Live) (n : Nat) (f : Rail → Rail) : (l.modRail n f).bondAt = l.bondAt := rfl
@[simp] theorem modRail_bondOn (l : Live) (n : Nat) (f : Rail → Rail) : (l.modRail n f).bondOn = l.bondOn := rfl
@[simp] theorem modRail_pwr (l : Live) (n : Nat) (f : Rail → Rail) : (l.modRail n f).pwr = l.pwr := rfl
@[simp] theorem modRail_rings (l : Live) (n : Nat) (f : Rail → Rail) : (l.modRail n f).rings = l.rings := rfl
@[simp] theorem modRail_slots (l : Live) (n : Nat) (f : Rail → Rail) : (l.modRail n f).slots = l.slots := rfl
@[simp] theorem modRail_moor (l : Live) (n : Nat) (f : Rail → Rail) : (l.modRail n f).moor = l.moor := rfl
@[simp] theorem modRail_loop (l : Live) (n : Nat) (f : Rail → Rail) : (l.modRail n f).loop = l.loop := rfl
@[simp] theorem modRail_vcp (l : Live) (n : Nat) (f : Rail → Rail) : (l.modRail n f).vcp = l.vcp := rfl
@[simp] theorem modRail_vcr (l : Live) (n : Nat) (f : Rail → Rail) : (l.modRail n f).vcr = l.vcr := rfl
@[simp] theorem modRail_pp (l : Live) (n : Nat) (f : Rail → Rail) : (l.modRail n f).pp = l.pp := rfl
@[simp] theorem modRail_gauge (l : Live) (n : Nat) (f : Rail → Rail) : (l.modRail n f).gauge = l.gauge := rfl
@[simp] theorem modRail_therm (l : Live) (n : Nat) (f : Rail → Rail) : (l.modRail n f).therm = l.therm := rfl
@[simp] theorem modRail_fc (l : Live) (n : Nat) (f : Rail → Rail) : (l.modRail n f).fc = l.fc := rfl
@[simp] theorem modRail_keeper (l : Live) (n : Nat) (f : Rail → Rail) : (l.modRail n f).keeper = l.keeper := rfl
@[simp] theorem modRail_img (l : Live) (n : Nat) (f : Rail → Rail) : (l.modRail n f).img = l.img := rfl
@[simp] theorem modRail_msgs (l : Live) (n : Nat) (f : Rail → Rail) : (l.modRail n f).msgs = l.msgs := rfl
@[simp] theorem modRail_ports (l : Live) (n : Nat) (f : Rail → Rail) : (l.modRail n f).ports = l.ports := rfl
@[simp] theorem modRail_recd (l : Live) (n : Nat) (f : Rail → Rail) : (l.modRail n f).recd = l.recd := rfl
@[simp] theorem modRail_sec (l : Live) (n : Nat) (f : Rail → Rail) : (l.modRail n f).sec = l.sec := rfl
@[simp] theorem modRail_adc (l : Live) (n : Nat) (f : Rail → Rail) : (l.modRail n f).adc = l.adc := rfl
@[simp] theorem modRail_pins (l : Live) (n : Nat) (f : Rail → Rail) : (l.modRail n f).pins = l.pins := rfl
@[simp] theorem modRail_host (l : Live) (n : Nat) (f : Rail → Rail) : (l.modRail n f).host = l.host := rfl
@[simp] theorem modRail_bondWrites (l : Live) (n : Nat) (f : Rail → Rail) : (l.modRail n f).bondWrites = l.bondWrites := rfl
@[simp] theorem modRail_w1c (l : Live) (n : Nat) (f : Rail → Rail) : (l.modRail n f).w1c = l.w1c := rfl
@[simp] theorem modRail_free (l : Live) (n : Nat) (f : Rail → Rail) : (l.modRail n f).free = l.free := rfl
@[simp] theorem modRail_ring (l : Live) (n : Nat) (f : Rail → Rail) (k : Nat) : (l.modRail n f).ring k = l.ring k := rfl
@[simp] theorem modRail_slot (l : Live) (n : Nat) (f : Rail → Rail) (r s : Nat) : (l.modRail n f).slot r s = l.slot r s := rfl
@[simp] theorem modRail_stn (l : Live) (n : Nat) (f : Rail → Rail) (k : Nat) : (l.modRail n f).stn k = l.stn k := rfl
@[simp] theorem modRail_tile (l : Live) (n : Nat) (f : Rail → Rail) (k : Nat) : (l.modRail n f).tile k = l.tile k := rfl
@[simp] theorem modRail_lane (l : Live) (n : Nat) (f : Rail → Rail) (k : Nat) : (l.modRail n f).lane k = l.lane k := rfl
@[simp] theorem modRail_vp (l : Live) (n : Nat) (f : Rail → Rail) (k : Nat) : (l.modRail n f).vp k = l.vp k := rfl
@[simp] theorem modRail_vr (l : Live) (n : Nat) (f : Rail → Rail) (k : Nat) : (l.modRail n f).vr k = l.vr k := rfl
@[simp] theorem modRail_inp (l : Live) (n : Nat) (f : Rail → Rail) (k : Nat) : (l.modRail n f).inp k = l.inp k := rfl
@[simp] theorem modRail_str (l : Live) (n : Nat) (f : Rail → Rail) (k : Nat) : (l.modRail n f).str k = l.str k := rfl
@[simp] theorem modRail_point (l : Live) (n : Nat) (f : Rail → Rail) (k : Nat) : (l.modRail n f).point k = l.point k := rfl
@[simp] theorem modRail_block (l : Live) (n : Nat) (f : Rail → Rail) (k : Nat) : (l.modRail n f).block k = l.block k := rfl
@[simp] theorem modRail_sess (l : Live) (n : Nat) (f : Rail → Rail) (k : Nat) : (l.modRail n f).sess k = l.sess k := rfl
@[simp] theorem modRail_mport (l : Live) (n : Nat) (f : Rail → Rail) (k : Nat) : (l.modRail n f).mport k = l.mport k := rfl
@[simp] theorem modRail_pi (l : Live) (n : Nat) (f : Rail → Rail) (k : Nat) : (l.modRail n f).pi k = l.pi k := rfl
@[simp] theorem modRail_capSlot (l : Live) (n : Nat) (f : Rail → Rail) (k : Nat) : (l.modRail n f).capSlot k = l.capSlot k := rfl
@[simp] theorem modRail_trace (l : Live) (n : Nat) (f : Rail → Rail) (k : Nat) : (l.modRail n f).trace k = l.trace k := rfl
@[simp] theorem modRail_otpw (l : Live) (n : Nat) (f : Rail → Rail) (k : Nat) : (l.modRail n f).otpw k = l.otpw k := rfl
@[simp] theorem modRail_ctr (l : Live) (n : Nat) (f : Rail → Rail) (k : Nat) : (l.modRail n f).ctr k = l.ctr k := rfl
@[simp] theorem modRail_hw (l : Live) (n : Nat) (f : Rail → Rail) (p q : Nat) : (l.modRail n f).hw p q = l.hw p q := rfl
@[simp] theorem modRail_cw (l : Live) (n : Nat) (f : Rail → Rail) (p q : Nat) : (l.modRail n f).cw p q = l.cw p q := rfl
@[simp] theorem modRail_given (l : Live) (n : Nat) (f : Rail → Rail) (p q : Nat) : (l.modRail n f).given p q = l.given p q := rfl
@[simp] theorem modRail_cf (l : Live) (n : Nat) (f : Rail → Rail) (p q hi lo : Nat) : (l.modRail n f).cf p q hi lo = l.cf p q hi lo := rfl
@[simp] theorem modRail_cb (l : Live) (n : Nat) (f : Rail → Rail) (p q b : Nat) : (l.modRail n f).cb p q b = l.cb p q b := rfl
@[simp] theorem modRail_dom (l : Live) (n : Nat) (f : Rail → Rail) (d : Nat) : (l.modRail n f).dom d = l.dom d := rfl
@[simp] theorem modRail_working (l : Live) (n : Nat) (f : Rail → Rail) : (l.modRail n f).working = l.working := rfl
@[simp] theorem modRail_fwUp (l : Live) (n : Nat) (f : Rail → Rail) : (l.modRail n f).fwUp = l.fwUp := rfl
@[simp] theorem modRail_tick (l : Live) (n : Nat) (f : Rail → Rail) : (l.modRail n f).tick = l.tick := rfl
@[simp] theorem modRail_rail_same (l : Live) (n : Nat) (f : Rail → Rail) : (l.modRail n f).rail n = f (l.rail n) := tget_tmod_same _ _ _ _
theorem modRail_rail_other (l : Live) (n : Nat) (f : Rail → Rail) (k : Nat) (h : k ≠ n) : (l.modRail n f).rail k = l.rail k := tget_tmod_other _ _ _ _ _ h
theorem modRail_rail (l : Live) (n : Nat) (f : Rail → Rail) (k : Nat) : (l.modRail n f).rail k = if k = n then f (l.rail n) else l.rail k := tget_tmod _ _ _ _ _

/-! ### `modVp` -/

@[simp] theorem modVp_now (l : Live) (n : Nat) (f : VcPort → VcPort) : (l.modVp n f).now = l.now := rfl
@[simp] theorem modVp_bond (l : Live) (n : Nat) (f : VcPort → VcPort) : (l.modVp n f).bond = l.bond := rfl
@[simp] theorem modVp_bondAt (l : Live) (n : Nat) (f : VcPort → VcPort) : (l.modVp n f).bondAt = l.bondAt := rfl
@[simp] theorem modVp_bondOn (l : Live) (n : Nat) (f : VcPort → VcPort) : (l.modVp n f).bondOn = l.bondOn := rfl
@[simp] theorem modVp_pwr (l : Live) (n : Nat) (f : VcPort → VcPort) : (l.modVp n f).pwr = l.pwr := rfl
@[simp] theorem modVp_rings (l : Live) (n : Nat) (f : VcPort → VcPort) : (l.modVp n f).rings = l.rings := rfl
@[simp] theorem modVp_slots (l : Live) (n : Nat) (f : VcPort → VcPort) : (l.modVp n f).slots = l.slots := rfl
@[simp] theorem modVp_moor (l : Live) (n : Nat) (f : VcPort → VcPort) : (l.modVp n f).moor = l.moor := rfl
@[simp] theorem modVp_loop (l : Live) (n : Nat) (f : VcPort → VcPort) : (l.modVp n f).loop = l.loop := rfl
@[simp] theorem modVp_rails (l : Live) (n : Nat) (f : VcPort → VcPort) : (l.modVp n f).rails = l.rails := rfl
@[simp] theorem modVp_vcr (l : Live) (n : Nat) (f : VcPort → VcPort) : (l.modVp n f).vcr = l.vcr := rfl
@[simp] theorem modVp_pp (l : Live) (n : Nat) (f : VcPort → VcPort) : (l.modVp n f).pp = l.pp := rfl
@[simp] theorem modVp_gauge (l : Live) (n : Nat) (f : VcPort → VcPort) : (l.modVp n f).gauge = l.gauge := rfl
@[simp] theorem modVp_therm (l : Live) (n : Nat) (f : VcPort → VcPort) : (l.modVp n f).therm = l.therm := rfl
@[simp] theorem modVp_fc (l : Live) (n : Nat) (f : VcPort → VcPort) : (l.modVp n f).fc = l.fc := rfl
@[simp] theorem modVp_keeper (l : Live) (n : Nat) (f : VcPort → VcPort) : (l.modVp n f).keeper = l.keeper := rfl
@[simp] theorem modVp_img (l : Live) (n : Nat) (f : VcPort → VcPort) : (l.modVp n f).img = l.img := rfl
@[simp] theorem modVp_msgs (l : Live) (n : Nat) (f : VcPort → VcPort) : (l.modVp n f).msgs = l.msgs := rfl
@[simp] theorem modVp_ports (l : Live) (n : Nat) (f : VcPort → VcPort) : (l.modVp n f).ports = l.ports := rfl
@[simp] theorem modVp_recd (l : Live) (n : Nat) (f : VcPort → VcPort) : (l.modVp n f).recd = l.recd := rfl
@[simp] theorem modVp_sec (l : Live) (n : Nat) (f : VcPort → VcPort) : (l.modVp n f).sec = l.sec := rfl
@[simp] theorem modVp_adc (l : Live) (n : Nat) (f : VcPort → VcPort) : (l.modVp n f).adc = l.adc := rfl
@[simp] theorem modVp_pins (l : Live) (n : Nat) (f : VcPort → VcPort) : (l.modVp n f).pins = l.pins := rfl
@[simp] theorem modVp_host (l : Live) (n : Nat) (f : VcPort → VcPort) : (l.modVp n f).host = l.host := rfl
@[simp] theorem modVp_bondWrites (l : Live) (n : Nat) (f : VcPort → VcPort) : (l.modVp n f).bondWrites = l.bondWrites := rfl
@[simp] theorem modVp_w1c (l : Live) (n : Nat) (f : VcPort → VcPort) : (l.modVp n f).w1c = l.w1c := rfl
@[simp] theorem modVp_free (l : Live) (n : Nat) (f : VcPort → VcPort) : (l.modVp n f).free = l.free := rfl
@[simp] theorem modVp_ring (l : Live) (n : Nat) (f : VcPort → VcPort) (k : Nat) : (l.modVp n f).ring k = l.ring k := rfl
@[simp] theorem modVp_slot (l : Live) (n : Nat) (f : VcPort → VcPort) (r s : Nat) : (l.modVp n f).slot r s = l.slot r s := rfl
@[simp] theorem modVp_stn (l : Live) (n : Nat) (f : VcPort → VcPort) (k : Nat) : (l.modVp n f).stn k = l.stn k := rfl
@[simp] theorem modVp_tile (l : Live) (n : Nat) (f : VcPort → VcPort) (k : Nat) : (l.modVp n f).tile k = l.tile k := rfl
@[simp] theorem modVp_lane (l : Live) (n : Nat) (f : VcPort → VcPort) (k : Nat) : (l.modVp n f).lane k = l.lane k := rfl
@[simp] theorem modVp_rail (l : Live) (n : Nat) (f : VcPort → VcPort) (k : Nat) : (l.modVp n f).rail k = l.rail k := rfl
@[simp] theorem modVp_vr (l : Live) (n : Nat) (f : VcPort → VcPort) (k : Nat) : (l.modVp n f).vr k = l.vr k := rfl
@[simp] theorem modVp_inp (l : Live) (n : Nat) (f : VcPort → VcPort) (k : Nat) : (l.modVp n f).inp k = l.inp k := rfl
@[simp] theorem modVp_str (l : Live) (n : Nat) (f : VcPort → VcPort) (k : Nat) : (l.modVp n f).str k = l.str k := rfl
@[simp] theorem modVp_point (l : Live) (n : Nat) (f : VcPort → VcPort) (k : Nat) : (l.modVp n f).point k = l.point k := rfl
@[simp] theorem modVp_block (l : Live) (n : Nat) (f : VcPort → VcPort) (k : Nat) : (l.modVp n f).block k = l.block k := rfl
@[simp] theorem modVp_sess (l : Live) (n : Nat) (f : VcPort → VcPort) (k : Nat) : (l.modVp n f).sess k = l.sess k := rfl
@[simp] theorem modVp_mport (l : Live) (n : Nat) (f : VcPort → VcPort) (k : Nat) : (l.modVp n f).mport k = l.mport k := rfl
@[simp] theorem modVp_pi (l : Live) (n : Nat) (f : VcPort → VcPort) (k : Nat) : (l.modVp n f).pi k = l.pi k := rfl
@[simp] theorem modVp_capSlot (l : Live) (n : Nat) (f : VcPort → VcPort) (k : Nat) : (l.modVp n f).capSlot k = l.capSlot k := rfl
@[simp] theorem modVp_trace (l : Live) (n : Nat) (f : VcPort → VcPort) (k : Nat) : (l.modVp n f).trace k = l.trace k := rfl
@[simp] theorem modVp_otpw (l : Live) (n : Nat) (f : VcPort → VcPort) (k : Nat) : (l.modVp n f).otpw k = l.otpw k := rfl
@[simp] theorem modVp_ctr (l : Live) (n : Nat) (f : VcPort → VcPort) (k : Nat) : (l.modVp n f).ctr k = l.ctr k := rfl
@[simp] theorem modVp_hw (l : Live) (n : Nat) (f : VcPort → VcPort) (p q : Nat) : (l.modVp n f).hw p q = l.hw p q := rfl
@[simp] theorem modVp_cw (l : Live) (n : Nat) (f : VcPort → VcPort) (p q : Nat) : (l.modVp n f).cw p q = l.cw p q := rfl
@[simp] theorem modVp_given (l : Live) (n : Nat) (f : VcPort → VcPort) (p q : Nat) : (l.modVp n f).given p q = l.given p q := rfl
@[simp] theorem modVp_cf (l : Live) (n : Nat) (f : VcPort → VcPort) (p q hi lo : Nat) : (l.modVp n f).cf p q hi lo = l.cf p q hi lo := rfl
@[simp] theorem modVp_cb (l : Live) (n : Nat) (f : VcPort → VcPort) (p q b : Nat) : (l.modVp n f).cb p q b = l.cb p q b := rfl
@[simp] theorem modVp_dom (l : Live) (n : Nat) (f : VcPort → VcPort) (d : Nat) : (l.modVp n f).dom d = l.dom d := rfl
@[simp] theorem modVp_working (l : Live) (n : Nat) (f : VcPort → VcPort) : (l.modVp n f).working = l.working := rfl
@[simp] theorem modVp_fwUp (l : Live) (n : Nat) (f : VcPort → VcPort) : (l.modVp n f).fwUp = l.fwUp := rfl
@[simp] theorem modVp_tick (l : Live) (n : Nat) (f : VcPort → VcPort) : (l.modVp n f).tick = l.tick := rfl
@[simp] theorem modVp_vp_same (l : Live) (n : Nat) (f : VcPort → VcPort) : (l.modVp n f).vp n = f (l.vp n) := tget_tmod_same _ _ _ _
theorem modVp_vp_other (l : Live) (n : Nat) (f : VcPort → VcPort) (k : Nat) (h : k ≠ n) : (l.modVp n f).vp k = l.vp k := tget_tmod_other _ _ _ _ _ h
theorem modVp_vp (l : Live) (n : Nat) (f : VcPort → VcPort) (k : Nat) : (l.modVp n f).vp k = if k = n then f (l.vp n) else l.vp k := tget_tmod _ _ _ _ _

/-! ### `modVr` -/

@[simp] theorem modVr_now (l : Live) (n : Nat) (f : VcRail → VcRail) : (l.modVr n f).now = l.now := rfl
@[simp] theorem modVr_bond (l : Live) (n : Nat) (f : VcRail → VcRail) : (l.modVr n f).bond = l.bond := rfl
@[simp] theorem modVr_bondAt (l : Live) (n : Nat) (f : VcRail → VcRail) : (l.modVr n f).bondAt = l.bondAt := rfl
@[simp] theorem modVr_bondOn (l : Live) (n : Nat) (f : VcRail → VcRail) : (l.modVr n f).bondOn = l.bondOn := rfl
@[simp] theorem modVr_pwr (l : Live) (n : Nat) (f : VcRail → VcRail) : (l.modVr n f).pwr = l.pwr := rfl
@[simp] theorem modVr_rings (l : Live) (n : Nat) (f : VcRail → VcRail) : (l.modVr n f).rings = l.rings := rfl
@[simp] theorem modVr_slots (l : Live) (n : Nat) (f : VcRail → VcRail) : (l.modVr n f).slots = l.slots := rfl
@[simp] theorem modVr_moor (l : Live) (n : Nat) (f : VcRail → VcRail) : (l.modVr n f).moor = l.moor := rfl
@[simp] theorem modVr_loop (l : Live) (n : Nat) (f : VcRail → VcRail) : (l.modVr n f).loop = l.loop := rfl
@[simp] theorem modVr_rails (l : Live) (n : Nat) (f : VcRail → VcRail) : (l.modVr n f).rails = l.rails := rfl
@[simp] theorem modVr_vcp (l : Live) (n : Nat) (f : VcRail → VcRail) : (l.modVr n f).vcp = l.vcp := rfl
@[simp] theorem modVr_pp (l : Live) (n : Nat) (f : VcRail → VcRail) : (l.modVr n f).pp = l.pp := rfl
@[simp] theorem modVr_gauge (l : Live) (n : Nat) (f : VcRail → VcRail) : (l.modVr n f).gauge = l.gauge := rfl
@[simp] theorem modVr_therm (l : Live) (n : Nat) (f : VcRail → VcRail) : (l.modVr n f).therm = l.therm := rfl
@[simp] theorem modVr_fc (l : Live) (n : Nat) (f : VcRail → VcRail) : (l.modVr n f).fc = l.fc := rfl
@[simp] theorem modVr_keeper (l : Live) (n : Nat) (f : VcRail → VcRail) : (l.modVr n f).keeper = l.keeper := rfl
@[simp] theorem modVr_img (l : Live) (n : Nat) (f : VcRail → VcRail) : (l.modVr n f).img = l.img := rfl
@[simp] theorem modVr_msgs (l : Live) (n : Nat) (f : VcRail → VcRail) : (l.modVr n f).msgs = l.msgs := rfl
@[simp] theorem modVr_ports (l : Live) (n : Nat) (f : VcRail → VcRail) : (l.modVr n f).ports = l.ports := rfl
@[simp] theorem modVr_recd (l : Live) (n : Nat) (f : VcRail → VcRail) : (l.modVr n f).recd = l.recd := rfl
@[simp] theorem modVr_sec (l : Live) (n : Nat) (f : VcRail → VcRail) : (l.modVr n f).sec = l.sec := rfl
@[simp] theorem modVr_adc (l : Live) (n : Nat) (f : VcRail → VcRail) : (l.modVr n f).adc = l.adc := rfl
@[simp] theorem modVr_pins (l : Live) (n : Nat) (f : VcRail → VcRail) : (l.modVr n f).pins = l.pins := rfl
@[simp] theorem modVr_host (l : Live) (n : Nat) (f : VcRail → VcRail) : (l.modVr n f).host = l.host := rfl
@[simp] theorem modVr_bondWrites (l : Live) (n : Nat) (f : VcRail → VcRail) : (l.modVr n f).bondWrites = l.bondWrites := rfl
@[simp] theorem modVr_w1c (l : Live) (n : Nat) (f : VcRail → VcRail) : (l.modVr n f).w1c = l.w1c := rfl
@[simp] theorem modVr_free (l : Live) (n : Nat) (f : VcRail → VcRail) : (l.modVr n f).free = l.free := rfl
@[simp] theorem modVr_ring (l : Live) (n : Nat) (f : VcRail → VcRail) (k : Nat) : (l.modVr n f).ring k = l.ring k := rfl
@[simp] theorem modVr_slot (l : Live) (n : Nat) (f : VcRail → VcRail) (r s : Nat) : (l.modVr n f).slot r s = l.slot r s := rfl
@[simp] theorem modVr_stn (l : Live) (n : Nat) (f : VcRail → VcRail) (k : Nat) : (l.modVr n f).stn k = l.stn k := rfl
@[simp] theorem modVr_tile (l : Live) (n : Nat) (f : VcRail → VcRail) (k : Nat) : (l.modVr n f).tile k = l.tile k := rfl
@[simp] theorem modVr_lane (l : Live) (n : Nat) (f : VcRail → VcRail) (k : Nat) : (l.modVr n f).lane k = l.lane k := rfl
@[simp] theorem modVr_rail (l : Live) (n : Nat) (f : VcRail → VcRail) (k : Nat) : (l.modVr n f).rail k = l.rail k := rfl
@[simp] theorem modVr_vp (l : Live) (n : Nat) (f : VcRail → VcRail) (k : Nat) : (l.modVr n f).vp k = l.vp k := rfl
@[simp] theorem modVr_inp (l : Live) (n : Nat) (f : VcRail → VcRail) (k : Nat) : (l.modVr n f).inp k = l.inp k := rfl
@[simp] theorem modVr_str (l : Live) (n : Nat) (f : VcRail → VcRail) (k : Nat) : (l.modVr n f).str k = l.str k := rfl
@[simp] theorem modVr_point (l : Live) (n : Nat) (f : VcRail → VcRail) (k : Nat) : (l.modVr n f).point k = l.point k := rfl
@[simp] theorem modVr_block (l : Live) (n : Nat) (f : VcRail → VcRail) (k : Nat) : (l.modVr n f).block k = l.block k := rfl
@[simp] theorem modVr_sess (l : Live) (n : Nat) (f : VcRail → VcRail) (k : Nat) : (l.modVr n f).sess k = l.sess k := rfl
@[simp] theorem modVr_mport (l : Live) (n : Nat) (f : VcRail → VcRail) (k : Nat) : (l.modVr n f).mport k = l.mport k := rfl
@[simp] theorem modVr_pi (l : Live) (n : Nat) (f : VcRail → VcRail) (k : Nat) : (l.modVr n f).pi k = l.pi k := rfl
@[simp] theorem modVr_capSlot (l : Live) (n : Nat) (f : VcRail → VcRail) (k : Nat) : (l.modVr n f).capSlot k = l.capSlot k := rfl
@[simp] theorem modVr_trace (l : Live) (n : Nat) (f : VcRail → VcRail) (k : Nat) : (l.modVr n f).trace k = l.trace k := rfl
@[simp] theorem modVr_otpw (l : Live) (n : Nat) (f : VcRail → VcRail) (k : Nat) : (l.modVr n f).otpw k = l.otpw k := rfl
@[simp] theorem modVr_ctr (l : Live) (n : Nat) (f : VcRail → VcRail) (k : Nat) : (l.modVr n f).ctr k = l.ctr k := rfl
@[simp] theorem modVr_hw (l : Live) (n : Nat) (f : VcRail → VcRail) (p q : Nat) : (l.modVr n f).hw p q = l.hw p q := rfl
@[simp] theorem modVr_cw (l : Live) (n : Nat) (f : VcRail → VcRail) (p q : Nat) : (l.modVr n f).cw p q = l.cw p q := rfl
@[simp] theorem modVr_given (l : Live) (n : Nat) (f : VcRail → VcRail) (p q : Nat) : (l.modVr n f).given p q = l.given p q := rfl
@[simp] theorem modVr_cf (l : Live) (n : Nat) (f : VcRail → VcRail) (p q hi lo : Nat) : (l.modVr n f).cf p q hi lo = l.cf p q hi lo := rfl
@[simp] theorem modVr_cb (l : Live) (n : Nat) (f : VcRail → VcRail) (p q b : Nat) : (l.modVr n f).cb p q b = l.cb p q b := rfl
@[simp] theorem modVr_dom (l : Live) (n : Nat) (f : VcRail → VcRail) (d : Nat) : (l.modVr n f).dom d = l.dom d := rfl
@[simp] theorem modVr_working (l : Live) (n : Nat) (f : VcRail → VcRail) : (l.modVr n f).working = l.working := rfl
@[simp] theorem modVr_fwUp (l : Live) (n : Nat) (f : VcRail → VcRail) : (l.modVr n f).fwUp = l.fwUp := rfl
@[simp] theorem modVr_tick (l : Live) (n : Nat) (f : VcRail → VcRail) : (l.modVr n f).tick = l.tick := rfl
@[simp] theorem modVr_vr_same (l : Live) (n : Nat) (f : VcRail → VcRail) : (l.modVr n f).vr n = f (l.vr n) := tget_tmod_same _ _ _ _
theorem modVr_vr_other (l : Live) (n : Nat) (f : VcRail → VcRail) (k : Nat) (h : k ≠ n) : (l.modVr n f).vr k = l.vr k := tget_tmod_other _ _ _ _ _ h
theorem modVr_vr (l : Live) (n : Nat) (f : VcRail → VcRail) (k : Nat) : (l.modVr n f).vr k = if k = n then f (l.vr n) else l.vr k := tget_tmod _ _ _ _ _

/-! ### `modInp` -/

@[simp] theorem modInp_now (l : Live) (n : Nat) (f : Input → Input) : (l.modInp n f).now = l.now := rfl
@[simp] theorem modInp_bond (l : Live) (n : Nat) (f : Input → Input) : (l.modInp n f).bond = l.bond := rfl
@[simp] theorem modInp_bondAt (l : Live) (n : Nat) (f : Input → Input) : (l.modInp n f).bondAt = l.bondAt := rfl
@[simp] theorem modInp_bondOn (l : Live) (n : Nat) (f : Input → Input) : (l.modInp n f).bondOn = l.bondOn := rfl
@[simp] theorem modInp_pwr (l : Live) (n : Nat) (f : Input → Input) : (l.modInp n f).pwr = l.pwr := rfl
@[simp] theorem modInp_rings (l : Live) (n : Nat) (f : Input → Input) : (l.modInp n f).rings = l.rings := rfl
@[simp] theorem modInp_slots (l : Live) (n : Nat) (f : Input → Input) : (l.modInp n f).slots = l.slots := rfl
@[simp] theorem modInp_moor (l : Live) (n : Nat) (f : Input → Input) : (l.modInp n f).moor = l.moor := rfl
@[simp] theorem modInp_loop (l : Live) (n : Nat) (f : Input → Input) : (l.modInp n f).loop = l.loop := rfl
@[simp] theorem modInp_rails (l : Live) (n : Nat) (f : Input → Input) : (l.modInp n f).rails = l.rails := rfl
@[simp] theorem modInp_vcp (l : Live) (n : Nat) (f : Input → Input) : (l.modInp n f).vcp = l.vcp := rfl
@[simp] theorem modInp_vcr (l : Live) (n : Nat) (f : Input → Input) : (l.modInp n f).vcr = l.vcr := rfl
@[simp] theorem modInp_gauge (l : Live) (n : Nat) (f : Input → Input) : (l.modInp n f).gauge = l.gauge := rfl
@[simp] theorem modInp_therm (l : Live) (n : Nat) (f : Input → Input) : (l.modInp n f).therm = l.therm := rfl
@[simp] theorem modInp_fc (l : Live) (n : Nat) (f : Input → Input) : (l.modInp n f).fc = l.fc := rfl
@[simp] theorem modInp_keeper (l : Live) (n : Nat) (f : Input → Input) : (l.modInp n f).keeper = l.keeper := rfl
@[simp] theorem modInp_img (l : Live) (n : Nat) (f : Input → Input) : (l.modInp n f).img = l.img := rfl
@[simp] theorem modInp_msgs (l : Live) (n : Nat) (f : Input → Input) : (l.modInp n f).msgs = l.msgs := rfl
@[simp] theorem modInp_ports (l : Live) (n : Nat) (f : Input → Input) : (l.modInp n f).ports = l.ports := rfl
@[simp] theorem modInp_recd (l : Live) (n : Nat) (f : Input → Input) : (l.modInp n f).recd = l.recd := rfl
@[simp] theorem modInp_sec (l : Live) (n : Nat) (f : Input → Input) : (l.modInp n f).sec = l.sec := rfl
@[simp] theorem modInp_adc (l : Live) (n : Nat) (f : Input → Input) : (l.modInp n f).adc = l.adc := rfl
@[simp] theorem modInp_pins (l : Live) (n : Nat) (f : Input → Input) : (l.modInp n f).pins = l.pins := rfl
@[simp] theorem modInp_host (l : Live) (n : Nat) (f : Input → Input) : (l.modInp n f).host = l.host := rfl
@[simp] theorem modInp_bondWrites (l : Live) (n : Nat) (f : Input → Input) : (l.modInp n f).bondWrites = l.bondWrites := rfl
@[simp] theorem modInp_w1c (l : Live) (n : Nat) (f : Input → Input) : (l.modInp n f).w1c = l.w1c := rfl
@[simp] theorem modInp_free (l : Live) (n : Nat) (f : Input → Input) : (l.modInp n f).free = l.free := rfl
@[simp] theorem modInp_pp_st (l : Live) (n : Nat) (f : Input → Input) : (l.modInp n f).pp.st = l.pp.st := rfl
@[simp] theorem modInp_pp_x (l : Live) (n : Nat) (f : Input → Input) : (l.modInp n f).pp.x = l.pp.x := rfl
@[simp] theorem modInp_pp_f (l : Live) (n : Nat) (f : Input → Input) : (l.modInp n f).pp.f = l.pp.f := rfl
@[simp] theorem modInp_pp_sumC (l : Live) (n : Nat) (f : Input → Input) : (l.modInp n f).pp.sumC = l.pp.sumC := rfl
@[simp] theorem modInp_pp_pin (l : Live) (n : Nat) (f : Input → Input) : (l.modInp n f).pp.pin = l.pp.pin := rfl
@[simp] theorem modInp_pp_vset (l : Live) (n : Nat) (f : Input → Input) : (l.modInp n f).pp.vset = l.pp.vset := rfl
@[simp] theorem modInp_pp_vfloor (l : Live) (n : Nat) (f : Input → Input) : (l.modInp n f).pp.vfloor = l.pp.vfloor := rfl
@[simp] theorem modInp_pp_busSum (l : Live) (n : Nat) (f : Input → Input) : (l.modInp n f).pp.busSum = l.pp.busSum := rfl
@[simp] theorem modInp_pp_busN (l : Live) (n : Nat) (f : Input → Input) : (l.modInp n f).pp.busN = l.pp.busN := rfl
@[simp] theorem modInp_pp_vbus (l : Live) (n : Nat) (f : Input → Input) : (l.modInp n f).pp.vbus = l.pp.vbus := rfl
@[simp] theorem modInp_pp_vnow (l : Live) (n : Nat) (f : Input → Input) : (l.modInp n f).pp.vnow = l.pp.vnow := rfl
@[simp] theorem modInp_pp_inow (l : Live) (n : Nat) (f : Input → Input) : (l.modInp n f).pp.inow = l.pp.inow := rfl
@[simp] theorem modInp_pp_lowConv (l : Live) (n : Nat) (f : Input → Input) : (l.modInp n f).pp.lowConv = l.pp.lowConv := rfl
@[simp] theorem modInp_pp_deadRun (l : Live) (n : Nat) (f : Input → Input) : (l.modInp n f).pp.deadRun = l.pp.deadRun := rfl
@[simp] theorem modInp_pp_dipNow (l : Live) (n : Nat) (f : Input → Input) : (l.modInp n f).pp.dipNow = l.pp.dipNow := rfl
@[simp] theorem modInp_pp_dipPrev (l : Live) (n : Nat) (f : Input → Input) : (l.modInp n f).pp.dipPrev = l.pp.dipPrev := rfl
@[simp] theorem modInp_pp_surplus (l : Live) (n : Nat) (f : Input → Input) : (l.modInp n f).pp.surplus = l.pp.surplus := rfl
@[simp] theorem modInp_pp_levels (l : Live) (n : Nat) (f : Input → Input) : (l.modInp n f).pp.levels = l.pp.levels := rfl
@[simp] theorem modInp_pp_stack (l : Live) (n : Nat) (f : Input → Input) : (l.modInp n f).pp.stack = l.pp.stack := rfl
@[simp] theorem modInp_pp_sinceCap (l : Live) (n : Nat) (f : Input → Input) : (l.modInp n f).pp.sinceCap = l.pp.sinceCap := rfl
@[simp] theorem modInp_pp_sinceShed (l : Live) (n : Nat) (f : Input → Input) : (l.modInp n f).pp.sinceShed = l.pp.sinceShed := rfl
@[simp] theorem modInp_pp_noCapRun (l : Live) (n : Nat) (f : Input → Input) : (l.modInp n f).pp.noCapRun = l.pp.noCapRun := rfl
@[simp] theorem modInp_pp_ignored (l : Live) (n : Nat) (f : Input → Input) : (l.modInp n f).pp.ignored = l.pp.ignored := rfl
@[simp] theorem modInp_pp_grants (l : Live) (n : Nat) (f : Input → Input) : (l.modInp n f).pp.grants = l.pp.grants := rfl
@[simp] theorem modInp_pp_allow (l : Live) (n : Nat) (f : Input → Input) : (l.modInp n f).pp.allow = l.pp.allow := rfl
@[simp] theorem modInp_pp_discharged (l : Live) (n : Nat) (f : Input → Input) : (l.modInp n f).pp.discharged = l.pp.discharged := rfl
@[simp] theorem modInp_pp_final (l : Live) (n : Nat) (f : Input → Input) : (l.modInp n f).pp.final = l.pp.final := rfl
@[simp] theorem modInp_pp_energy (l : Live) (n : Nat) (f : Input → Input) : (l.modInp n f).pp.energy = l.pp.energy := rfl
@[simp] theorem modInp_pp_cused (l : Live) (n : Nat) (f : Input → Input) : (l.modInp n f).pp.cused = l.pp.cused := rfl
@[simp] theorem modInp_pp_measAt (l : Live) (n : Nat) (f : Input → Input) : (l.modInp n f).pp.measAt = l.pp.measAt := rfl
@[simp] theorem modInp_pp_measV (l : Live) (n : Nat) (f : Input → Input) : (l.modInp n f).pp.measV = l.pp.measV := rfl
@[simp] theorem modInp_pp_measE (l : Live) (n : Nat) (f : Input → Input) : (l.modInp n f).pp.measE = l.pp.measE := rfl
@[simp] theorem modInp_pp_measT (l : Live) (n : Nat) (f : Input → Input) : (l.modInp n f).pp.measT = l.pp.measT := rfl
@[simp] theorem modInp_pp_exitRun (l : Live) (n : Nat) (f : Input → Input) : (l.modInp n f).pp.exitRun = l.pp.exitRun := rfl
@[simp] theorem modInp_pp_tugs (l : Live) (n : Nat) (f : Input → Input) : (l.modInp n f).pp.tugs = l.pp.tugs := rfl
@[simp] theorem modInp_ring (l : Live) (n : Nat) (f : Input → Input) (k : Nat) : (l.modInp n f).ring k = l.ring k := rfl
@[simp] theorem modInp_slot (l : Live) (n : Nat) (f : Input → Input) (r s : Nat) : (l.modInp n f).slot r s = l.slot r s := rfl
@[simp] theorem modInp_stn (l : Live) (n : Nat) (f : Input → Input) (k : Nat) : (l.modInp n f).stn k = l.stn k := rfl
@[simp] theorem modInp_tile (l : Live) (n : Nat) (f : Input → Input) (k : Nat) : (l.modInp n f).tile k = l.tile k := rfl
@[simp] theorem modInp_lane (l : Live) (n : Nat) (f : Input → Input) (k : Nat) : (l.modInp n f).lane k = l.lane k := rfl
@[simp] theorem modInp_rail (l : Live) (n : Nat) (f : Input → Input) (k : Nat) : (l.modInp n f).rail k = l.rail k := rfl
@[simp] theorem modInp_vp (l : Live) (n : Nat) (f : Input → Input) (k : Nat) : (l.modInp n f).vp k = l.vp k := rfl
@[simp] theorem modInp_vr (l : Live) (n : Nat) (f : Input → Input) (k : Nat) : (l.modInp n f).vr k = l.vr k := rfl
@[simp] theorem modInp_str (l : Live) (n : Nat) (f : Input → Input) (k : Nat) : (l.modInp n f).str k = l.str k := rfl
@[simp] theorem modInp_point (l : Live) (n : Nat) (f : Input → Input) (k : Nat) : (l.modInp n f).point k = l.point k := rfl
@[simp] theorem modInp_block (l : Live) (n : Nat) (f : Input → Input) (k : Nat) : (l.modInp n f).block k = l.block k := rfl
@[simp] theorem modInp_sess (l : Live) (n : Nat) (f : Input → Input) (k : Nat) : (l.modInp n f).sess k = l.sess k := rfl
@[simp] theorem modInp_mport (l : Live) (n : Nat) (f : Input → Input) (k : Nat) : (l.modInp n f).mport k = l.mport k := rfl
@[simp] theorem modInp_pi (l : Live) (n : Nat) (f : Input → Input) (k : Nat) : (l.modInp n f).pi k = l.pi k := rfl
@[simp] theorem modInp_capSlot (l : Live) (n : Nat) (f : Input → Input) (k : Nat) : (l.modInp n f).capSlot k = l.capSlot k := rfl
@[simp] theorem modInp_trace (l : Live) (n : Nat) (f : Input → Input) (k : Nat) : (l.modInp n f).trace k = l.trace k := rfl
@[simp] theorem modInp_otpw (l : Live) (n : Nat) (f : Input → Input) (k : Nat) : (l.modInp n f).otpw k = l.otpw k := rfl
@[simp] theorem modInp_ctr (l : Live) (n : Nat) (f : Input → Input) (k : Nat) : (l.modInp n f).ctr k = l.ctr k := rfl
@[simp] theorem modInp_hw (l : Live) (n : Nat) (f : Input → Input) (p q : Nat) : (l.modInp n f).hw p q = l.hw p q := rfl
@[simp] theorem modInp_cw (l : Live) (n : Nat) (f : Input → Input) (p q : Nat) : (l.modInp n f).cw p q = l.cw p q := rfl
@[simp] theorem modInp_given (l : Live) (n : Nat) (f : Input → Input) (p q : Nat) : (l.modInp n f).given p q = l.given p q := rfl
@[simp] theorem modInp_cf (l : Live) (n : Nat) (f : Input → Input) (p q hi lo : Nat) : (l.modInp n f).cf p q hi lo = l.cf p q hi lo := rfl
@[simp] theorem modInp_cb (l : Live) (n : Nat) (f : Input → Input) (p q b : Nat) : (l.modInp n f).cb p q b = l.cb p q b := rfl
@[simp] theorem modInp_dom (l : Live) (n : Nat) (f : Input → Input) (d : Nat) : (l.modInp n f).dom d = l.dom d := rfl
@[simp] theorem modInp_working (l : Live) (n : Nat) (f : Input → Input) : (l.modInp n f).working = l.working := rfl
@[simp] theorem modInp_fwUp (l : Live) (n : Nat) (f : Input → Input) : (l.modInp n f).fwUp = l.fwUp := rfl
@[simp] theorem modInp_tick (l : Live) (n : Nat) (f : Input → Input) : (l.modInp n f).tick = l.tick := rfl
@[simp] theorem modInp_inp_same (l : Live) (n : Nat) (f : Input → Input) : (l.modInp n f).inp n = f (l.inp n) := tget_tmod_same _ _ _ _
theorem modInp_inp_other (l : Live) (n : Nat) (f : Input → Input) (k : Nat) (h : k ≠ n) : (l.modInp n f).inp k = l.inp k := tget_tmod_other _ _ _ _ _ h
theorem modInp_inp (l : Live) (n : Nat) (f : Input → Input) (k : Nat) : (l.modInp n f).inp k = if k = n then f (l.inp n) else l.inp k := tget_tmod _ _ _ _ _

/-! ### `modStr` -/

@[simp] theorem modStr_now (l : Live) (n : Nat) (f : Str → Str) : (l.modStr n f).now = l.now := rfl
@[simp] theorem modStr_bond (l : Live) (n : Nat) (f : Str → Str) : (l.modStr n f).bond = l.bond := rfl
@[simp] theorem modStr_bondAt (l : Live) (n : Nat) (f : Str → Str) : (l.modStr n f).bondAt = l.bondAt := rfl
@[simp] theorem modStr_bondOn (l : Live) (n : Nat) (f : Str → Str) : (l.modStr n f).bondOn = l.bondOn := rfl
@[simp] theorem modStr_pwr (l : Live) (n : Nat) (f : Str → Str) : (l.modStr n f).pwr = l.pwr := rfl
@[simp] theorem modStr_rings (l : Live) (n : Nat) (f : Str → Str) : (l.modStr n f).rings = l.rings := rfl
@[simp] theorem modStr_slots (l : Live) (n : Nat) (f : Str → Str) : (l.modStr n f).slots = l.slots := rfl
@[simp] theorem modStr_moor (l : Live) (n : Nat) (f : Str → Str) : (l.modStr n f).moor = l.moor := rfl
@[simp] theorem modStr_loop (l : Live) (n : Nat) (f : Str → Str) : (l.modStr n f).loop = l.loop := rfl
@[simp] theorem modStr_rails (l : Live) (n : Nat) (f : Str → Str) : (l.modStr n f).rails = l.rails := rfl
@[simp] theorem modStr_vcp (l : Live) (n : Nat) (f : Str → Str) : (l.modStr n f).vcp = l.vcp := rfl
@[simp] theorem modStr_vcr (l : Live) (n : Nat) (f : Str → Str) : (l.modStr n f).vcr = l.vcr := rfl
@[simp] theorem modStr_pp (l : Live) (n : Nat) (f : Str → Str) : (l.modStr n f).pp = l.pp := rfl
@[simp] theorem modStr_therm (l : Live) (n : Nat) (f : Str → Str) : (l.modStr n f).therm = l.therm := rfl
@[simp] theorem modStr_fc (l : Live) (n : Nat) (f : Str → Str) : (l.modStr n f).fc = l.fc := rfl
@[simp] theorem modStr_keeper (l : Live) (n : Nat) (f : Str → Str) : (l.modStr n f).keeper = l.keeper := rfl
@[simp] theorem modStr_img (l : Live) (n : Nat) (f : Str → Str) : (l.modStr n f).img = l.img := rfl
@[simp] theorem modStr_msgs (l : Live) (n : Nat) (f : Str → Str) : (l.modStr n f).msgs = l.msgs := rfl
@[simp] theorem modStr_ports (l : Live) (n : Nat) (f : Str → Str) : (l.modStr n f).ports = l.ports := rfl
@[simp] theorem modStr_recd (l : Live) (n : Nat) (f : Str → Str) : (l.modStr n f).recd = l.recd := rfl
@[simp] theorem modStr_sec (l : Live) (n : Nat) (f : Str → Str) : (l.modStr n f).sec = l.sec := rfl
@[simp] theorem modStr_adc (l : Live) (n : Nat) (f : Str → Str) : (l.modStr n f).adc = l.adc := rfl
@[simp] theorem modStr_pins (l : Live) (n : Nat) (f : Str → Str) : (l.modStr n f).pins = l.pins := rfl
@[simp] theorem modStr_host (l : Live) (n : Nat) (f : Str → Str) : (l.modStr n f).host = l.host := rfl
@[simp] theorem modStr_bondWrites (l : Live) (n : Nat) (f : Str → Str) : (l.modStr n f).bondWrites = l.bondWrites := rfl
@[simp] theorem modStr_w1c (l : Live) (n : Nat) (f : Str → Str) : (l.modStr n f).w1c = l.w1c := rfl
@[simp] theorem modStr_free (l : Live) (n : Nat) (f : Str → Str) : (l.modStr n f).free = l.free := rfl
@[simp] theorem modStr_gauge_ex (l : Live) (n : Nat) (f : Str → Str) : (l.modStr n f).gauge.ex = l.gauge.ex := rfl
@[simp] theorem modStr_gauge_exStr (l : Live) (n : Nat) (f : Str → Str) : (l.modStr n f).gauge.exStr = l.gauge.exStr := rfl
@[simp] theorem modStr_gauge_exHost (l : Live) (n : Nat) (f : Str → Str) : (l.modStr n f).gauge.exHost = l.gauge.exHost := rfl
@[simp] theorem modStr_gauge_exAt (l : Live) (n : Nat) (f : Str → Str) : (l.modStr n f).gauge.exAt = l.gauge.exAt := rfl
@[simp] theorem modStr_gauge_xlast (l : Live) (n : Nat) (f : Str → Str) : (l.modStr n f).gauge.xlast = l.gauge.xlast := rfl
@[simp] theorem modStr_ring (l : Live) (n : Nat) (f : Str → Str) (k : Nat) : (l.modStr n f).ring k = l.ring k := rfl
@[simp] theorem modStr_slot (l : Live) (n : Nat) (f : Str → Str) (r s : Nat) : (l.modStr n f).slot r s = l.slot r s := rfl
@[simp] theorem modStr_stn (l : Live) (n : Nat) (f : Str → Str) (k : Nat) : (l.modStr n f).stn k = l.stn k := rfl
@[simp] theorem modStr_tile (l : Live) (n : Nat) (f : Str → Str) (k : Nat) : (l.modStr n f).tile k = l.tile k := rfl
@[simp] theorem modStr_lane (l : Live) (n : Nat) (f : Str → Str) (k : Nat) : (l.modStr n f).lane k = l.lane k := rfl
@[simp] theorem modStr_rail (l : Live) (n : Nat) (f : Str → Str) (k : Nat) : (l.modStr n f).rail k = l.rail k := rfl
@[simp] theorem modStr_vp (l : Live) (n : Nat) (f : Str → Str) (k : Nat) : (l.modStr n f).vp k = l.vp k := rfl
@[simp] theorem modStr_vr (l : Live) (n : Nat) (f : Str → Str) (k : Nat) : (l.modStr n f).vr k = l.vr k := rfl
@[simp] theorem modStr_inp (l : Live) (n : Nat) (f : Str → Str) (k : Nat) : (l.modStr n f).inp k = l.inp k := rfl
@[simp] theorem modStr_point (l : Live) (n : Nat) (f : Str → Str) (k : Nat) : (l.modStr n f).point k = l.point k := rfl
@[simp] theorem modStr_block (l : Live) (n : Nat) (f : Str → Str) (k : Nat) : (l.modStr n f).block k = l.block k := rfl
@[simp] theorem modStr_sess (l : Live) (n : Nat) (f : Str → Str) (k : Nat) : (l.modStr n f).sess k = l.sess k := rfl
@[simp] theorem modStr_mport (l : Live) (n : Nat) (f : Str → Str) (k : Nat) : (l.modStr n f).mport k = l.mport k := rfl
@[simp] theorem modStr_pi (l : Live) (n : Nat) (f : Str → Str) (k : Nat) : (l.modStr n f).pi k = l.pi k := rfl
@[simp] theorem modStr_capSlot (l : Live) (n : Nat) (f : Str → Str) (k : Nat) : (l.modStr n f).capSlot k = l.capSlot k := rfl
@[simp] theorem modStr_trace (l : Live) (n : Nat) (f : Str → Str) (k : Nat) : (l.modStr n f).trace k = l.trace k := rfl
@[simp] theorem modStr_otpw (l : Live) (n : Nat) (f : Str → Str) (k : Nat) : (l.modStr n f).otpw k = l.otpw k := rfl
@[simp] theorem modStr_ctr (l : Live) (n : Nat) (f : Str → Str) (k : Nat) : (l.modStr n f).ctr k = l.ctr k := rfl
@[simp] theorem modStr_hw (l : Live) (n : Nat) (f : Str → Str) (p q : Nat) : (l.modStr n f).hw p q = l.hw p q := rfl
@[simp] theorem modStr_cw (l : Live) (n : Nat) (f : Str → Str) (p q : Nat) : (l.modStr n f).cw p q = l.cw p q := rfl
@[simp] theorem modStr_given (l : Live) (n : Nat) (f : Str → Str) (p q : Nat) : (l.modStr n f).given p q = l.given p q := rfl
@[simp] theorem modStr_cf (l : Live) (n : Nat) (f : Str → Str) (p q hi lo : Nat) : (l.modStr n f).cf p q hi lo = l.cf p q hi lo := rfl
@[simp] theorem modStr_cb (l : Live) (n : Nat) (f : Str → Str) (p q b : Nat) : (l.modStr n f).cb p q b = l.cb p q b := rfl
@[simp] theorem modStr_dom (l : Live) (n : Nat) (f : Str → Str) (d : Nat) : (l.modStr n f).dom d = l.dom d := rfl
@[simp] theorem modStr_working (l : Live) (n : Nat) (f : Str → Str) : (l.modStr n f).working = l.working := rfl
@[simp] theorem modStr_fwUp (l : Live) (n : Nat) (f : Str → Str) : (l.modStr n f).fwUp = l.fwUp := rfl
@[simp] theorem modStr_tick (l : Live) (n : Nat) (f : Str → Str) : (l.modStr n f).tick = l.tick := rfl
@[simp] theorem modStr_str_same (l : Live) (n : Nat) (f : Str → Str) : (l.modStr n f).str n = f (l.str n) := tget_tmod_same _ _ _ _
theorem modStr_str_other (l : Live) (n : Nat) (f : Str → Str) (k : Nat) (h : k ≠ n) : (l.modStr n f).str k = l.str k := tget_tmod_other _ _ _ _ _ h
theorem modStr_str (l : Live) (n : Nat) (f : Str → Str) (k : Nat) : (l.modStr n f).str k = if k = n then f (l.str n) else l.str k := tget_tmod _ _ _ _ _

/-! ### `modPoint` -/

@[simp] theorem modPoint_now (l : Live) (n : Nat) (f : Point → Point) : (l.modPoint n f).now = l.now := rfl
@[simp] theorem modPoint_bond (l : Live) (n : Nat) (f : Point → Point) : (l.modPoint n f).bond = l.bond := rfl
@[simp] theorem modPoint_bondAt (l : Live) (n : Nat) (f : Point → Point) : (l.modPoint n f).bondAt = l.bondAt := rfl
@[simp] theorem modPoint_bondOn (l : Live) (n : Nat) (f : Point → Point) : (l.modPoint n f).bondOn = l.bondOn := rfl
@[simp] theorem modPoint_pwr (l : Live) (n : Nat) (f : Point → Point) : (l.modPoint n f).pwr = l.pwr := rfl
@[simp] theorem modPoint_rings (l : Live) (n : Nat) (f : Point → Point) : (l.modPoint n f).rings = l.rings := rfl
@[simp] theorem modPoint_slots (l : Live) (n : Nat) (f : Point → Point) : (l.modPoint n f).slots = l.slots := rfl
@[simp] theorem modPoint_moor (l : Live) (n : Nat) (f : Point → Point) : (l.modPoint n f).moor = l.moor := rfl
@[simp] theorem modPoint_loop (l : Live) (n : Nat) (f : Point → Point) : (l.modPoint n f).loop = l.loop := rfl
@[simp] theorem modPoint_rails (l : Live) (n : Nat) (f : Point → Point) : (l.modPoint n f).rails = l.rails := rfl
@[simp] theorem modPoint_vcp (l : Live) (n : Nat) (f : Point → Point) : (l.modPoint n f).vcp = l.vcp := rfl
@[simp] theorem modPoint_vcr (l : Live) (n : Nat) (f : Point → Point) : (l.modPoint n f).vcr = l.vcr := rfl
@[simp] theorem modPoint_pp (l : Live) (n : Nat) (f : Point → Point) : (l.modPoint n f).pp = l.pp := rfl
@[simp] theorem modPoint_gauge (l : Live) (n : Nat) (f : Point → Point) : (l.modPoint n f).gauge = l.gauge := rfl
@[simp] theorem modPoint_fc (l : Live) (n : Nat) (f : Point → Point) : (l.modPoint n f).fc = l.fc := rfl
@[simp] theorem modPoint_keeper (l : Live) (n : Nat) (f : Point → Point) : (l.modPoint n f).keeper = l.keeper := rfl
@[simp] theorem modPoint_img (l : Live) (n : Nat) (f : Point → Point) : (l.modPoint n f).img = l.img := rfl
@[simp] theorem modPoint_msgs (l : Live) (n : Nat) (f : Point → Point) : (l.modPoint n f).msgs = l.msgs := rfl
@[simp] theorem modPoint_ports (l : Live) (n : Nat) (f : Point → Point) : (l.modPoint n f).ports = l.ports := rfl
@[simp] theorem modPoint_recd (l : Live) (n : Nat) (f : Point → Point) : (l.modPoint n f).recd = l.recd := rfl
@[simp] theorem modPoint_sec (l : Live) (n : Nat) (f : Point → Point) : (l.modPoint n f).sec = l.sec := rfl
@[simp] theorem modPoint_adc (l : Live) (n : Nat) (f : Point → Point) : (l.modPoint n f).adc = l.adc := rfl
@[simp] theorem modPoint_pins (l : Live) (n : Nat) (f : Point → Point) : (l.modPoint n f).pins = l.pins := rfl
@[simp] theorem modPoint_host (l : Live) (n : Nat) (f : Point → Point) : (l.modPoint n f).host = l.host := rfl
@[simp] theorem modPoint_bondWrites (l : Live) (n : Nat) (f : Point → Point) : (l.modPoint n f).bondWrites = l.bondWrites := rfl
@[simp] theorem modPoint_w1c (l : Live) (n : Nat) (f : Point → Point) : (l.modPoint n f).w1c = l.w1c := rfl
@[simp] theorem modPoint_free (l : Live) (n : Nat) (f : Point → Point) : (l.modPoint n f).free = l.free := rfl
@[simp] theorem modPoint_therm_die (l : Live) (n : Nat) (f : Point → Point) : (l.modPoint n f).therm.die = l.therm.die := rfl
@[simp] theorem modPoint_therm_air (l : Live) (n : Nat) (f : Point → Point) : (l.modPoint n f).therm.air = l.therm.air := rfl
@[simp] theorem modPoint_therm_dband (l : Live) (n : Nat) (f : Point → Point) : (l.modPoint n f).therm.dband = l.therm.dband := rfl
@[simp] theorem modPoint_therm_tdie (l : Live) (n : Nat) (f : Point → Point) : (l.modPoint n f).therm.tdie = l.therm.tdie := rfl
@[simp] theorem modPoint_therm_scrubAt (l : Live) (n : Nat) (f : Point → Point) : (l.modPoint n f).therm.scrubAt = l.therm.scrubAt := rfl
@[simp] theorem modPoint_ring (l : Live) (n : Nat) (f : Point → Point) (k : Nat) : (l.modPoint n f).ring k = l.ring k := rfl
@[simp] theorem modPoint_slot (l : Live) (n : Nat) (f : Point → Point) (r s : Nat) : (l.modPoint n f).slot r s = l.slot r s := rfl
@[simp] theorem modPoint_stn (l : Live) (n : Nat) (f : Point → Point) (k : Nat) : (l.modPoint n f).stn k = l.stn k := rfl
@[simp] theorem modPoint_tile (l : Live) (n : Nat) (f : Point → Point) (k : Nat) : (l.modPoint n f).tile k = l.tile k := rfl
@[simp] theorem modPoint_lane (l : Live) (n : Nat) (f : Point → Point) (k : Nat) : (l.modPoint n f).lane k = l.lane k := rfl
@[simp] theorem modPoint_rail (l : Live) (n : Nat) (f : Point → Point) (k : Nat) : (l.modPoint n f).rail k = l.rail k := rfl
@[simp] theorem modPoint_vp (l : Live) (n : Nat) (f : Point → Point) (k : Nat) : (l.modPoint n f).vp k = l.vp k := rfl
@[simp] theorem modPoint_vr (l : Live) (n : Nat) (f : Point → Point) (k : Nat) : (l.modPoint n f).vr k = l.vr k := rfl
@[simp] theorem modPoint_inp (l : Live) (n : Nat) (f : Point → Point) (k : Nat) : (l.modPoint n f).inp k = l.inp k := rfl
@[simp] theorem modPoint_str (l : Live) (n : Nat) (f : Point → Point) (k : Nat) : (l.modPoint n f).str k = l.str k := rfl
@[simp] theorem modPoint_block (l : Live) (n : Nat) (f : Point → Point) (k : Nat) : (l.modPoint n f).block k = l.block k := rfl
@[simp] theorem modPoint_sess (l : Live) (n : Nat) (f : Point → Point) (k : Nat) : (l.modPoint n f).sess k = l.sess k := rfl
@[simp] theorem modPoint_mport (l : Live) (n : Nat) (f : Point → Point) (k : Nat) : (l.modPoint n f).mport k = l.mport k := rfl
@[simp] theorem modPoint_pi (l : Live) (n : Nat) (f : Point → Point) (k : Nat) : (l.modPoint n f).pi k = l.pi k := rfl
@[simp] theorem modPoint_capSlot (l : Live) (n : Nat) (f : Point → Point) (k : Nat) : (l.modPoint n f).capSlot k = l.capSlot k := rfl
@[simp] theorem modPoint_trace (l : Live) (n : Nat) (f : Point → Point) (k : Nat) : (l.modPoint n f).trace k = l.trace k := rfl
@[simp] theorem modPoint_otpw (l : Live) (n : Nat) (f : Point → Point) (k : Nat) : (l.modPoint n f).otpw k = l.otpw k := rfl
@[simp] theorem modPoint_ctr (l : Live) (n : Nat) (f : Point → Point) (k : Nat) : (l.modPoint n f).ctr k = l.ctr k := rfl
@[simp] theorem modPoint_hw (l : Live) (n : Nat) (f : Point → Point) (p q : Nat) : (l.modPoint n f).hw p q = l.hw p q := rfl
@[simp] theorem modPoint_cw (l : Live) (n : Nat) (f : Point → Point) (p q : Nat) : (l.modPoint n f).cw p q = l.cw p q := rfl
@[simp] theorem modPoint_given (l : Live) (n : Nat) (f : Point → Point) (p q : Nat) : (l.modPoint n f).given p q = l.given p q := rfl
@[simp] theorem modPoint_cf (l : Live) (n : Nat) (f : Point → Point) (p q hi lo : Nat) : (l.modPoint n f).cf p q hi lo = l.cf p q hi lo := rfl
@[simp] theorem modPoint_cb (l : Live) (n : Nat) (f : Point → Point) (p q b : Nat) : (l.modPoint n f).cb p q b = l.cb p q b := rfl
@[simp] theorem modPoint_dom (l : Live) (n : Nat) (f : Point → Point) (d : Nat) : (l.modPoint n f).dom d = l.dom d := rfl
@[simp] theorem modPoint_working (l : Live) (n : Nat) (f : Point → Point) : (l.modPoint n f).working = l.working := rfl
@[simp] theorem modPoint_fwUp (l : Live) (n : Nat) (f : Point → Point) : (l.modPoint n f).fwUp = l.fwUp := rfl
@[simp] theorem modPoint_tick (l : Live) (n : Nat) (f : Point → Point) : (l.modPoint n f).tick = l.tick := rfl
@[simp] theorem modPoint_point_same (l : Live) (n : Nat) (f : Point → Point) : (l.modPoint n f).point n = f (l.point n) := tget_tmod_same _ _ _ _
theorem modPoint_point_other (l : Live) (n : Nat) (f : Point → Point) (k : Nat) (h : k ≠ n) : (l.modPoint n f).point k = l.point k := tget_tmod_other _ _ _ _ _ h
theorem modPoint_point (l : Live) (n : Nat) (f : Point → Point) (k : Nat) : (l.modPoint n f).point k = if k = n then f (l.point n) else l.point k := tget_tmod _ _ _ _ _

/-! ### `modBlock` -/

@[simp] theorem modBlock_now (l : Live) (n : Nat) (f : Block → Block) : (l.modBlock n f).now = l.now := rfl
@[simp] theorem modBlock_bond (l : Live) (n : Nat) (f : Block → Block) : (l.modBlock n f).bond = l.bond := rfl
@[simp] theorem modBlock_bondAt (l : Live) (n : Nat) (f : Block → Block) : (l.modBlock n f).bondAt = l.bondAt := rfl
@[simp] theorem modBlock_bondOn (l : Live) (n : Nat) (f : Block → Block) : (l.modBlock n f).bondOn = l.bondOn := rfl
@[simp] theorem modBlock_pwr (l : Live) (n : Nat) (f : Block → Block) : (l.modBlock n f).pwr = l.pwr := rfl
@[simp] theorem modBlock_rings (l : Live) (n : Nat) (f : Block → Block) : (l.modBlock n f).rings = l.rings := rfl
@[simp] theorem modBlock_slots (l : Live) (n : Nat) (f : Block → Block) : (l.modBlock n f).slots = l.slots := rfl
@[simp] theorem modBlock_moor (l : Live) (n : Nat) (f : Block → Block) : (l.modBlock n f).moor = l.moor := rfl
@[simp] theorem modBlock_loop (l : Live) (n : Nat) (f : Block → Block) : (l.modBlock n f).loop = l.loop := rfl
@[simp] theorem modBlock_rails (l : Live) (n : Nat) (f : Block → Block) : (l.modBlock n f).rails = l.rails := rfl
@[simp] theorem modBlock_vcp (l : Live) (n : Nat) (f : Block → Block) : (l.modBlock n f).vcp = l.vcp := rfl
@[simp] theorem modBlock_vcr (l : Live) (n : Nat) (f : Block → Block) : (l.modBlock n f).vcr = l.vcr := rfl
@[simp] theorem modBlock_pp (l : Live) (n : Nat) (f : Block → Block) : (l.modBlock n f).pp = l.pp := rfl
@[simp] theorem modBlock_gauge (l : Live) (n : Nat) (f : Block → Block) : (l.modBlock n f).gauge = l.gauge := rfl
@[simp] theorem modBlock_therm (l : Live) (n : Nat) (f : Block → Block) : (l.modBlock n f).therm = l.therm := rfl
@[simp] theorem modBlock_keeper (l : Live) (n : Nat) (f : Block → Block) : (l.modBlock n f).keeper = l.keeper := rfl
@[simp] theorem modBlock_img (l : Live) (n : Nat) (f : Block → Block) : (l.modBlock n f).img = l.img := rfl
@[simp] theorem modBlock_msgs (l : Live) (n : Nat) (f : Block → Block) : (l.modBlock n f).msgs = l.msgs := rfl
@[simp] theorem modBlock_ports (l : Live) (n : Nat) (f : Block → Block) : (l.modBlock n f).ports = l.ports := rfl
@[simp] theorem modBlock_recd (l : Live) (n : Nat) (f : Block → Block) : (l.modBlock n f).recd = l.recd := rfl
@[simp] theorem modBlock_sec (l : Live) (n : Nat) (f : Block → Block) : (l.modBlock n f).sec = l.sec := rfl
@[simp] theorem modBlock_adc (l : Live) (n : Nat) (f : Block → Block) : (l.modBlock n f).adc = l.adc := rfl
@[simp] theorem modBlock_pins (l : Live) (n : Nat) (f : Block → Block) : (l.modBlock n f).pins = l.pins := rfl
@[simp] theorem modBlock_host (l : Live) (n : Nat) (f : Block → Block) : (l.modBlock n f).host = l.host := rfl
@[simp] theorem modBlock_bondWrites (l : Live) (n : Nat) (f : Block → Block) : (l.modBlock n f).bondWrites = l.bondWrites := rfl
@[simp] theorem modBlock_w1c (l : Live) (n : Nat) (f : Block → Block) : (l.modBlock n f).w1c = l.w1c := rfl
@[simp] theorem modBlock_free (l : Live) (n : Nat) (f : Block → Block) : (l.modBlock n f).free = l.free := rfl
@[simp] theorem modBlock_fc_details (l : Live) (n : Nat) (f : Block → Block) : (l.modBlock n f).fc.details = l.fc.details := rfl
@[simp] theorem modBlock_fc_table (l : Live) (n : Nat) (f : Block → Block) : (l.modBlock n f).fc.table = l.fc.table := rfl
@[simp] theorem modBlock_fc_log (l : Live) (n : Nat) (f : Block → Block) : (l.modBlock n f).fc.log = l.fc.log := rfl
@[simp] theorem modBlock_fc_nextSeq (l : Live) (n : Nat) (f : Block → Block) : (l.modBlock n f).fc.nextSeq = l.fc.nextSeq := rfl
@[simp] theorem modBlock_fc_safe (l : Live) (n : Nat) (f : Block → Block) : (l.modBlock n f).fc.safe = l.fc.safe := rfl
@[simp] theorem modBlock_fc_safeCode (l : Live) (n : Nat) (f : Block → Block) : (l.modBlock n f).fc.safeCode = l.fc.safeCode := rfl
@[simp] theorem modBlock_fc_safeObj (l : Live) (n : Nat) (f : Block → Block) : (l.modBlock n f).fc.safeObj = l.fc.safeObj := rfl
@[simp] theorem modBlock_fc_ovfl (l : Live) (n : Nat) (f : Block → Block) : (l.modBlock n f).fc.ovfl = l.fc.ovfl := rfl
@[simp] theorem modBlock_fc_full (l : Live) (n : Nat) (f : Block → Block) : (l.modBlock n f).fc.full = l.fc.full := rfl
@[simp] theorem modBlock_fc_domLost (l : Live) (n : Nat) (f : Block → Block) : (l.modBlock n f).fc.domLost = l.fc.domLost := rfl
@[simp] theorem modBlock_fc_vlow (l : Live) (n : Nat) (f : Block → Block) : (l.modBlock n f).fc.vlow = l.fc.vlow := rfl
@[simp] theorem modBlock_fc_ilim (l : Live) (n : Nat) (f : Block → Block) : (l.modBlock n f).fc.ilim = l.fc.ilim := rfl
@[simp] theorem modBlock_fc_outWire (l : Live) (n : Nat) (f : Block → Block) : (l.modBlock n f).fc.outWire = l.fc.outWire := rfl
@[simp] theorem modBlock_fc_lost (l : Live) (n : Nat) (f : Block → Block) : (l.modBlock n f).fc.lost = l.fc.lost := rfl
@[simp] theorem modBlock_fc_changed (l : Live) (n : Nat) (f : Block → Block) : (l.modBlock n f).fc.changed = l.fc.changed := rfl
@[simp] theorem modBlock_fc_changedAt (l : Live) (n : Nat) (f : Block → Block) : (l.modBlock n f).fc.changedAt = l.fc.changedAt := rfl
@[simp] theorem modBlock_ring (l : Live) (n : Nat) (f : Block → Block) (k : Nat) : (l.modBlock n f).ring k = l.ring k := rfl
@[simp] theorem modBlock_slot (l : Live) (n : Nat) (f : Block → Block) (r s : Nat) : (l.modBlock n f).slot r s = l.slot r s := rfl
@[simp] theorem modBlock_stn (l : Live) (n : Nat) (f : Block → Block) (k : Nat) : (l.modBlock n f).stn k = l.stn k := rfl
@[simp] theorem modBlock_tile (l : Live) (n : Nat) (f : Block → Block) (k : Nat) : (l.modBlock n f).tile k = l.tile k := rfl
@[simp] theorem modBlock_lane (l : Live) (n : Nat) (f : Block → Block) (k : Nat) : (l.modBlock n f).lane k = l.lane k := rfl
@[simp] theorem modBlock_rail (l : Live) (n : Nat) (f : Block → Block) (k : Nat) : (l.modBlock n f).rail k = l.rail k := rfl
@[simp] theorem modBlock_vp (l : Live) (n : Nat) (f : Block → Block) (k : Nat) : (l.modBlock n f).vp k = l.vp k := rfl
@[simp] theorem modBlock_vr (l : Live) (n : Nat) (f : Block → Block) (k : Nat) : (l.modBlock n f).vr k = l.vr k := rfl
@[simp] theorem modBlock_inp (l : Live) (n : Nat) (f : Block → Block) (k : Nat) : (l.modBlock n f).inp k = l.inp k := rfl
@[simp] theorem modBlock_str (l : Live) (n : Nat) (f : Block → Block) (k : Nat) : (l.modBlock n f).str k = l.str k := rfl
@[simp] theorem modBlock_point (l : Live) (n : Nat) (f : Block → Block) (k : Nat) : (l.modBlock n f).point k = l.point k := rfl
@[simp] theorem modBlock_sess (l : Live) (n : Nat) (f : Block → Block) (k : Nat) : (l.modBlock n f).sess k = l.sess k := rfl
@[simp] theorem modBlock_mport (l : Live) (n : Nat) (f : Block → Block) (k : Nat) : (l.modBlock n f).mport k = l.mport k := rfl
@[simp] theorem modBlock_pi (l : Live) (n : Nat) (f : Block → Block) (k : Nat) : (l.modBlock n f).pi k = l.pi k := rfl
@[simp] theorem modBlock_capSlot (l : Live) (n : Nat) (f : Block → Block) (k : Nat) : (l.modBlock n f).capSlot k = l.capSlot k := rfl
@[simp] theorem modBlock_trace (l : Live) (n : Nat) (f : Block → Block) (k : Nat) : (l.modBlock n f).trace k = l.trace k := rfl
@[simp] theorem modBlock_otpw (l : Live) (n : Nat) (f : Block → Block) (k : Nat) : (l.modBlock n f).otpw k = l.otpw k := rfl
@[simp] theorem modBlock_ctr (l : Live) (n : Nat) (f : Block → Block) (k : Nat) : (l.modBlock n f).ctr k = l.ctr k := rfl
@[simp] theorem modBlock_hw (l : Live) (n : Nat) (f : Block → Block) (p q : Nat) : (l.modBlock n f).hw p q = l.hw p q := rfl
@[simp] theorem modBlock_cw (l : Live) (n : Nat) (f : Block → Block) (p q : Nat) : (l.modBlock n f).cw p q = l.cw p q := rfl
@[simp] theorem modBlock_given (l : Live) (n : Nat) (f : Block → Block) (p q : Nat) : (l.modBlock n f).given p q = l.given p q := rfl
@[simp] theorem modBlock_cf (l : Live) (n : Nat) (f : Block → Block) (p q hi lo : Nat) : (l.modBlock n f).cf p q hi lo = l.cf p q hi lo := rfl
@[simp] theorem modBlock_cb (l : Live) (n : Nat) (f : Block → Block) (p q b : Nat) : (l.modBlock n f).cb p q b = l.cb p q b := rfl
@[simp] theorem modBlock_dom (l : Live) (n : Nat) (f : Block → Block) (d : Nat) : (l.modBlock n f).dom d = l.dom d := rfl
@[simp] theorem modBlock_working (l : Live) (n : Nat) (f : Block → Block) : (l.modBlock n f).working = l.working := rfl
@[simp] theorem modBlock_fwUp (l : Live) (n : Nat) (f : Block → Block) : (l.modBlock n f).fwUp = l.fwUp := rfl
@[simp] theorem modBlock_tick (l : Live) (n : Nat) (f : Block → Block) : (l.modBlock n f).tick = l.tick := rfl
@[simp] theorem modBlock_block_same (l : Live) (n : Nat) (f : Block → Block) : (l.modBlock n f).block n = f (l.block n) := tget_tmod_same _ _ _ _
theorem modBlock_block_other (l : Live) (n : Nat) (f : Block → Block) (k : Nat) (h : k ≠ n) : (l.modBlock n f).block k = l.block k := tget_tmod_other _ _ _ _ _ h
theorem modBlock_block (l : Live) (n : Nat) (f : Block → Block) (k : Nat) : (l.modBlock n f).block k = if k = n then f (l.block n) else l.block k := tget_tmod _ _ _ _ _

/-! ### `modSess` -/

@[simp] theorem modSess_now (l : Live) (n : Nat) (f : Session → Session) : (l.modSess n f).now = l.now := rfl
@[simp] theorem modSess_bond (l : Live) (n : Nat) (f : Session → Session) : (l.modSess n f).bond = l.bond := rfl
@[simp] theorem modSess_bondAt (l : Live) (n : Nat) (f : Session → Session) : (l.modSess n f).bondAt = l.bondAt := rfl
@[simp] theorem modSess_bondOn (l : Live) (n : Nat) (f : Session → Session) : (l.modSess n f).bondOn = l.bondOn := rfl
@[simp] theorem modSess_pwr (l : Live) (n : Nat) (f : Session → Session) : (l.modSess n f).pwr = l.pwr := rfl
@[simp] theorem modSess_rings (l : Live) (n : Nat) (f : Session → Session) : (l.modSess n f).rings = l.rings := rfl
@[simp] theorem modSess_slots (l : Live) (n : Nat) (f : Session → Session) : (l.modSess n f).slots = l.slots := rfl
@[simp] theorem modSess_moor (l : Live) (n : Nat) (f : Session → Session) : (l.modSess n f).moor = l.moor := rfl
@[simp] theorem modSess_loop (l : Live) (n : Nat) (f : Session → Session) : (l.modSess n f).loop = l.loop := rfl
@[simp] theorem modSess_rails (l : Live) (n : Nat) (f : Session → Session) : (l.modSess n f).rails = l.rails := rfl
@[simp] theorem modSess_vcp (l : Live) (n : Nat) (f : Session → Session) : (l.modSess n f).vcp = l.vcp := rfl
@[simp] theorem modSess_vcr (l : Live) (n : Nat) (f : Session → Session) : (l.modSess n f).vcr = l.vcr := rfl
@[simp] theorem modSess_pp (l : Live) (n : Nat) (f : Session → Session) : (l.modSess n f).pp = l.pp := rfl
@[simp] theorem modSess_gauge (l : Live) (n : Nat) (f : Session → Session) : (l.modSess n f).gauge = l.gauge := rfl
@[simp] theorem modSess_therm (l : Live) (n : Nat) (f : Session → Session) : (l.modSess n f).therm = l.therm := rfl
@[simp] theorem modSess_fc (l : Live) (n : Nat) (f : Session → Session) : (l.modSess n f).fc = l.fc := rfl
@[simp] theorem modSess_keeper (l : Live) (n : Nat) (f : Session → Session) : (l.modSess n f).keeper = l.keeper := rfl
@[simp] theorem modSess_img (l : Live) (n : Nat) (f : Session → Session) : (l.modSess n f).img = l.img := rfl
@[simp] theorem modSess_ports (l : Live) (n : Nat) (f : Session → Session) : (l.modSess n f).ports = l.ports := rfl
@[simp] theorem modSess_recd (l : Live) (n : Nat) (f : Session → Session) : (l.modSess n f).recd = l.recd := rfl
@[simp] theorem modSess_sec (l : Live) (n : Nat) (f : Session → Session) : (l.modSess n f).sec = l.sec := rfl
@[simp] theorem modSess_adc (l : Live) (n : Nat) (f : Session → Session) : (l.modSess n f).adc = l.adc := rfl
@[simp] theorem modSess_pins (l : Live) (n : Nat) (f : Session → Session) : (l.modSess n f).pins = l.pins := rfl
@[simp] theorem modSess_host (l : Live) (n : Nat) (f : Session → Session) : (l.modSess n f).host = l.host := rfl
@[simp] theorem modSess_bondWrites (l : Live) (n : Nat) (f : Session → Session) : (l.modSess n f).bondWrites = l.bondWrites := rfl
@[simp] theorem modSess_w1c (l : Live) (n : Nat) (f : Session → Session) : (l.modSess n f).w1c = l.w1c := rfl
@[simp] theorem modSess_free (l : Live) (n : Nat) (f : Session → Session) : (l.modSess n f).free = l.free := rfl
@[simp] theorem modSess_msgs_ports (l : Live) (n : Nat) (f : Session → Session) : (l.modSess n f).msgs.ports = l.msgs.ports := rfl
@[simp] theorem modSess_msgs_events (l : Live) (n : Nat) (f : Session → Session) : (l.modSess n f).msgs.events = l.msgs.events := rfl
@[simp] theorem modSess_msgs_evSeq (l : Live) (n : Nat) (f : Session → Session) : (l.modSess n f).msgs.evSeq = l.msgs.evSeq := rfl
@[simp] theorem modSess_msgs_dis (l : Live) (n : Nat) (f : Session → Session) : (l.modSess n f).msgs.dis = l.msgs.dis := rfl
@[simp] theorem modSess_msgs_disRun (l : Live) (n : Nat) (f : Session → Session) : (l.modSess n f).msgs.disRun = l.msgs.disRun := rfl
@[simp] theorem modSess_msgs_dovfl (l : Live) (n : Nat) (f : Session → Session) : (l.modSess n f).msgs.dovfl = l.msgs.dovfl := rfl
@[simp] theorem modSess_msgs_gen (l : Live) (n : Nat) (f : Session → Session) : (l.modSess n f).msgs.gen = l.msgs.gen := rfl
@[simp] theorem modSess_msgs_published (l : Live) (n : Nat) (f : Session → Session) : (l.modSess n f).msgs.published = l.msgs.published := rfl
@[simp] theorem modSess_msgs_ngaps (l : Live) (n : Nat) (f : Session → Session) : (l.modSess n f).msgs.ngaps = l.msgs.ngaps := rfl
@[simp] theorem modSess_msgs_gbase (l : Live) (n : Nat) (f : Session → Session) : (l.modSess n f).msgs.gbase = l.msgs.gbase := rfl
@[simp] theorem modSess_msgs_glast (l : Live) (n : Nat) (f : Session → Session) : (l.modSess n f).msgs.glast = l.msgs.glast := rfl
@[simp] theorem modSess_ring (l : Live) (n : Nat) (f : Session → Session) (k : Nat) : (l.modSess n f).ring k = l.ring k := rfl
@[simp] theorem modSess_slot (l : Live) (n : Nat) (f : Session → Session) (r s : Nat) : (l.modSess n f).slot r s = l.slot r s := rfl
@[simp] theorem modSess_stn (l : Live) (n : Nat) (f : Session → Session) (k : Nat) : (l.modSess n f).stn k = l.stn k := rfl
@[simp] theorem modSess_tile (l : Live) (n : Nat) (f : Session → Session) (k : Nat) : (l.modSess n f).tile k = l.tile k := rfl
@[simp] theorem modSess_lane (l : Live) (n : Nat) (f : Session → Session) (k : Nat) : (l.modSess n f).lane k = l.lane k := rfl
@[simp] theorem modSess_rail (l : Live) (n : Nat) (f : Session → Session) (k : Nat) : (l.modSess n f).rail k = l.rail k := rfl
@[simp] theorem modSess_vp (l : Live) (n : Nat) (f : Session → Session) (k : Nat) : (l.modSess n f).vp k = l.vp k := rfl
@[simp] theorem modSess_vr (l : Live) (n : Nat) (f : Session → Session) (k : Nat) : (l.modSess n f).vr k = l.vr k := rfl
@[simp] theorem modSess_inp (l : Live) (n : Nat) (f : Session → Session) (k : Nat) : (l.modSess n f).inp k = l.inp k := rfl
@[simp] theorem modSess_str (l : Live) (n : Nat) (f : Session → Session) (k : Nat) : (l.modSess n f).str k = l.str k := rfl
@[simp] theorem modSess_point (l : Live) (n : Nat) (f : Session → Session) (k : Nat) : (l.modSess n f).point k = l.point k := rfl
@[simp] theorem modSess_block (l : Live) (n : Nat) (f : Session → Session) (k : Nat) : (l.modSess n f).block k = l.block k := rfl
@[simp] theorem modSess_mport (l : Live) (n : Nat) (f : Session → Session) (k : Nat) : (l.modSess n f).mport k = l.mport k := rfl
@[simp] theorem modSess_pi (l : Live) (n : Nat) (f : Session → Session) (k : Nat) : (l.modSess n f).pi k = l.pi k := rfl
@[simp] theorem modSess_capSlot (l : Live) (n : Nat) (f : Session → Session) (k : Nat) : (l.modSess n f).capSlot k = l.capSlot k := rfl
@[simp] theorem modSess_trace (l : Live) (n : Nat) (f : Session → Session) (k : Nat) : (l.modSess n f).trace k = l.trace k := rfl
@[simp] theorem modSess_otpw (l : Live) (n : Nat) (f : Session → Session) (k : Nat) : (l.modSess n f).otpw k = l.otpw k := rfl
@[simp] theorem modSess_ctr (l : Live) (n : Nat) (f : Session → Session) (k : Nat) : (l.modSess n f).ctr k = l.ctr k := rfl
@[simp] theorem modSess_hw (l : Live) (n : Nat) (f : Session → Session) (p q : Nat) : (l.modSess n f).hw p q = l.hw p q := rfl
@[simp] theorem modSess_cw (l : Live) (n : Nat) (f : Session → Session) (p q : Nat) : (l.modSess n f).cw p q = l.cw p q := rfl
@[simp] theorem modSess_given (l : Live) (n : Nat) (f : Session → Session) (p q : Nat) : (l.modSess n f).given p q = l.given p q := rfl
@[simp] theorem modSess_cf (l : Live) (n : Nat) (f : Session → Session) (p q hi lo : Nat) : (l.modSess n f).cf p q hi lo = l.cf p q hi lo := rfl
@[simp] theorem modSess_cb (l : Live) (n : Nat) (f : Session → Session) (p q b : Nat) : (l.modSess n f).cb p q b = l.cb p q b := rfl
@[simp] theorem modSess_dom (l : Live) (n : Nat) (f : Session → Session) (d : Nat) : (l.modSess n f).dom d = l.dom d := rfl
@[simp] theorem modSess_working (l : Live) (n : Nat) (f : Session → Session) : (l.modSess n f).working = l.working := rfl
@[simp] theorem modSess_fwUp (l : Live) (n : Nat) (f : Session → Session) : (l.modSess n f).fwUp = l.fwUp := rfl
@[simp] theorem modSess_tick (l : Live) (n : Nat) (f : Session → Session) : (l.modSess n f).tick = l.tick := rfl
@[simp] theorem modSess_sess_same (l : Live) (n : Nat) (f : Session → Session) : (l.modSess n f).sess n = f (l.sess n) := tget_tmod_same _ _ _ _
theorem modSess_sess_other (l : Live) (n : Nat) (f : Session → Session) (k : Nat) (h : k ≠ n) : (l.modSess n f).sess k = l.sess k := tget_tmod_other _ _ _ _ _ h
theorem modSess_sess (l : Live) (n : Nat) (f : Session → Session) (k : Nat) : (l.modSess n f).sess k = if k = n then f (l.sess n) else l.sess k := tget_tmod _ _ _ _ _

/-! ### `modMport` -/

@[simp] theorem modMport_now (l : Live) (n : Nat) (f : MsgPort → MsgPort) : (l.modMport n f).now = l.now := rfl
@[simp] theorem modMport_bond (l : Live) (n : Nat) (f : MsgPort → MsgPort) : (l.modMport n f).bond = l.bond := rfl
@[simp] theorem modMport_bondAt (l : Live) (n : Nat) (f : MsgPort → MsgPort) : (l.modMport n f).bondAt = l.bondAt := rfl
@[simp] theorem modMport_bondOn (l : Live) (n : Nat) (f : MsgPort → MsgPort) : (l.modMport n f).bondOn = l.bondOn := rfl
@[simp] theorem modMport_pwr (l : Live) (n : Nat) (f : MsgPort → MsgPort) : (l.modMport n f).pwr = l.pwr := rfl
@[simp] theorem modMport_rings (l : Live) (n : Nat) (f : MsgPort → MsgPort) : (l.modMport n f).rings = l.rings := rfl
@[simp] theorem modMport_slots (l : Live) (n : Nat) (f : MsgPort → MsgPort) : (l.modMport n f).slots = l.slots := rfl
@[simp] theorem modMport_moor (l : Live) (n : Nat) (f : MsgPort → MsgPort) : (l.modMport n f).moor = l.moor := rfl
@[simp] theorem modMport_loop (l : Live) (n : Nat) (f : MsgPort → MsgPort) : (l.modMport n f).loop = l.loop := rfl
@[simp] theorem modMport_rails (l : Live) (n : Nat) (f : MsgPort → MsgPort) : (l.modMport n f).rails = l.rails := rfl
@[simp] theorem modMport_vcp (l : Live) (n : Nat) (f : MsgPort → MsgPort) : (l.modMport n f).vcp = l.vcp := rfl
@[simp] theorem modMport_vcr (l : Live) (n : Nat) (f : MsgPort → MsgPort) : (l.modMport n f).vcr = l.vcr := rfl
@[simp] theorem modMport_pp (l : Live) (n : Nat) (f : MsgPort → MsgPort) : (l.modMport n f).pp = l.pp := rfl
@[simp] theorem modMport_gauge (l : Live) (n : Nat) (f : MsgPort → MsgPort) : (l.modMport n f).gauge = l.gauge := rfl
@[simp] theorem modMport_therm (l : Live) (n : Nat) (f : MsgPort → MsgPort) : (l.modMport n f).therm = l.therm := rfl
@[simp] theorem modMport_fc (l : Live) (n : Nat) (f : MsgPort → MsgPort) : (l.modMport n f).fc = l.fc := rfl
@[simp] theorem modMport_keeper (l : Live) (n : Nat) (f : MsgPort → MsgPort) : (l.modMport n f).keeper = l.keeper := rfl
@[simp] theorem modMport_img (l : Live) (n : Nat) (f : MsgPort → MsgPort) : (l.modMport n f).img = l.img := rfl
@[simp] theorem modMport_ports (l : Live) (n : Nat) (f : MsgPort → MsgPort) : (l.modMport n f).ports = l.ports := rfl
@[simp] theorem modMport_recd (l : Live) (n : Nat) (f : MsgPort → MsgPort) : (l.modMport n f).recd = l.recd := rfl
@[simp] theorem modMport_sec (l : Live) (n : Nat) (f : MsgPort → MsgPort) : (l.modMport n f).sec = l.sec := rfl
@[simp] theorem modMport_adc (l : Live) (n : Nat) (f : MsgPort → MsgPort) : (l.modMport n f).adc = l.adc := rfl
@[simp] theorem modMport_pins (l : Live) (n : Nat) (f : MsgPort → MsgPort) : (l.modMport n f).pins = l.pins := rfl
@[simp] theorem modMport_host (l : Live) (n : Nat) (f : MsgPort → MsgPort) : (l.modMport n f).host = l.host := rfl
@[simp] theorem modMport_bondWrites (l : Live) (n : Nat) (f : MsgPort → MsgPort) : (l.modMport n f).bondWrites = l.bondWrites := rfl
@[simp] theorem modMport_w1c (l : Live) (n : Nat) (f : MsgPort → MsgPort) : (l.modMport n f).w1c = l.w1c := rfl
@[simp] theorem modMport_free (l : Live) (n : Nat) (f : MsgPort → MsgPort) : (l.modMport n f).free = l.free := rfl
@[simp] theorem modMport_msgs_sess (l : Live) (n : Nat) (f : MsgPort → MsgPort) : (l.modMport n f).msgs.sess = l.msgs.sess := rfl
@[simp] theorem modMport_msgs_events (l : Live) (n : Nat) (f : MsgPort → MsgPort) : (l.modMport n f).msgs.events = l.msgs.events := rfl
@[simp] theorem modMport_msgs_evSeq (l : Live) (n : Nat) (f : MsgPort → MsgPort) : (l.modMport n f).msgs.evSeq = l.msgs.evSeq := rfl
@[simp] theorem modMport_msgs_dis (l : Live) (n : Nat) (f : MsgPort → MsgPort) : (l.modMport n f).msgs.dis = l.msgs.dis := rfl
@[simp] theorem modMport_msgs_disRun (l : Live) (n : Nat) (f : MsgPort → MsgPort) : (l.modMport n f).msgs.disRun = l.msgs.disRun := rfl
@[simp] theorem modMport_msgs_dovfl (l : Live) (n : Nat) (f : MsgPort → MsgPort) : (l.modMport n f).msgs.dovfl = l.msgs.dovfl := rfl
@[simp] theorem modMport_msgs_gen (l : Live) (n : Nat) (f : MsgPort → MsgPort) : (l.modMport n f).msgs.gen = l.msgs.gen := rfl
@[simp] theorem modMport_msgs_published (l : Live) (n : Nat) (f : MsgPort → MsgPort) : (l.modMport n f).msgs.published = l.msgs.published := rfl
@[simp] theorem modMport_msgs_ngaps (l : Live) (n : Nat) (f : MsgPort → MsgPort) : (l.modMport n f).msgs.ngaps = l.msgs.ngaps := rfl
@[simp] theorem modMport_msgs_gbase (l : Live) (n : Nat) (f : MsgPort → MsgPort) : (l.modMport n f).msgs.gbase = l.msgs.gbase := rfl
@[simp] theorem modMport_msgs_glast (l : Live) (n : Nat) (f : MsgPort → MsgPort) : (l.modMport n f).msgs.glast = l.msgs.glast := rfl
@[simp] theorem modMport_ring (l : Live) (n : Nat) (f : MsgPort → MsgPort) (k : Nat) : (l.modMport n f).ring k = l.ring k := rfl
@[simp] theorem modMport_slot (l : Live) (n : Nat) (f : MsgPort → MsgPort) (r s : Nat) : (l.modMport n f).slot r s = l.slot r s := rfl
@[simp] theorem modMport_stn (l : Live) (n : Nat) (f : MsgPort → MsgPort) (k : Nat) : (l.modMport n f).stn k = l.stn k := rfl
@[simp] theorem modMport_tile (l : Live) (n : Nat) (f : MsgPort → MsgPort) (k : Nat) : (l.modMport n f).tile k = l.tile k := rfl
@[simp] theorem modMport_lane (l : Live) (n : Nat) (f : MsgPort → MsgPort) (k : Nat) : (l.modMport n f).lane k = l.lane k := rfl
@[simp] theorem modMport_rail (l : Live) (n : Nat) (f : MsgPort → MsgPort) (k : Nat) : (l.modMport n f).rail k = l.rail k := rfl
@[simp] theorem modMport_vp (l : Live) (n : Nat) (f : MsgPort → MsgPort) (k : Nat) : (l.modMport n f).vp k = l.vp k := rfl
@[simp] theorem modMport_vr (l : Live) (n : Nat) (f : MsgPort → MsgPort) (k : Nat) : (l.modMport n f).vr k = l.vr k := rfl
@[simp] theorem modMport_inp (l : Live) (n : Nat) (f : MsgPort → MsgPort) (k : Nat) : (l.modMport n f).inp k = l.inp k := rfl
@[simp] theorem modMport_str (l : Live) (n : Nat) (f : MsgPort → MsgPort) (k : Nat) : (l.modMport n f).str k = l.str k := rfl
@[simp] theorem modMport_point (l : Live) (n : Nat) (f : MsgPort → MsgPort) (k : Nat) : (l.modMport n f).point k = l.point k := rfl
@[simp] theorem modMport_block (l : Live) (n : Nat) (f : MsgPort → MsgPort) (k : Nat) : (l.modMport n f).block k = l.block k := rfl
@[simp] theorem modMport_sess (l : Live) (n : Nat) (f : MsgPort → MsgPort) (k : Nat) : (l.modMport n f).sess k = l.sess k := rfl
@[simp] theorem modMport_pi (l : Live) (n : Nat) (f : MsgPort → MsgPort) (k : Nat) : (l.modMport n f).pi k = l.pi k := rfl
@[simp] theorem modMport_capSlot (l : Live) (n : Nat) (f : MsgPort → MsgPort) (k : Nat) : (l.modMport n f).capSlot k = l.capSlot k := rfl
@[simp] theorem modMport_trace (l : Live) (n : Nat) (f : MsgPort → MsgPort) (k : Nat) : (l.modMport n f).trace k = l.trace k := rfl
@[simp] theorem modMport_otpw (l : Live) (n : Nat) (f : MsgPort → MsgPort) (k : Nat) : (l.modMport n f).otpw k = l.otpw k := rfl
@[simp] theorem modMport_ctr (l : Live) (n : Nat) (f : MsgPort → MsgPort) (k : Nat) : (l.modMport n f).ctr k = l.ctr k := rfl
@[simp] theorem modMport_hw (l : Live) (n : Nat) (f : MsgPort → MsgPort) (p q : Nat) : (l.modMport n f).hw p q = l.hw p q := rfl
@[simp] theorem modMport_cw (l : Live) (n : Nat) (f : MsgPort → MsgPort) (p q : Nat) : (l.modMport n f).cw p q = l.cw p q := rfl
@[simp] theorem modMport_given (l : Live) (n : Nat) (f : MsgPort → MsgPort) (p q : Nat) : (l.modMport n f).given p q = l.given p q := rfl
@[simp] theorem modMport_cf (l : Live) (n : Nat) (f : MsgPort → MsgPort) (p q hi lo : Nat) : (l.modMport n f).cf p q hi lo = l.cf p q hi lo := rfl
@[simp] theorem modMport_cb (l : Live) (n : Nat) (f : MsgPort → MsgPort) (p q b : Nat) : (l.modMport n f).cb p q b = l.cb p q b := rfl
@[simp] theorem modMport_dom (l : Live) (n : Nat) (f : MsgPort → MsgPort) (d : Nat) : (l.modMport n f).dom d = l.dom d := rfl
@[simp] theorem modMport_working (l : Live) (n : Nat) (f : MsgPort → MsgPort) : (l.modMport n f).working = l.working := rfl
@[simp] theorem modMport_fwUp (l : Live) (n : Nat) (f : MsgPort → MsgPort) : (l.modMport n f).fwUp = l.fwUp := rfl
@[simp] theorem modMport_tick (l : Live) (n : Nat) (f : MsgPort → MsgPort) : (l.modMport n f).tick = l.tick := rfl
@[simp] theorem modMport_mport_same (l : Live) (n : Nat) (f : MsgPort → MsgPort) : (l.modMport n f).mport n = f (l.mport n) := tget_tmod_same _ _ _ _
theorem modMport_mport_other (l : Live) (n : Nat) (f : MsgPort → MsgPort) (k : Nat) (h : k ≠ n) : (l.modMport n f).mport k = l.mport k := tget_tmod_other _ _ _ _ _ h
theorem modMport_mport (l : Live) (n : Nat) (f : MsgPort → MsgPort) (k : Nat) : (l.modMport n f).mport k = if k = n then f (l.mport n) else l.mport k := tget_tmod _ _ _ _ _

/-! ### `modPi` -/

@[simp] theorem modPi_now (l : Live) (n : Nat) (f : Pi2c → Pi2c) : (l.modPi n f).now = l.now := rfl
@[simp] theorem modPi_bond (l : Live) (n : Nat) (f : Pi2c → Pi2c) : (l.modPi n f).bond = l.bond := rfl
@[simp] theorem modPi_bondAt (l : Live) (n : Nat) (f : Pi2c → Pi2c) : (l.modPi n f).bondAt = l.bondAt := rfl
@[simp] theorem modPi_bondOn (l : Live) (n : Nat) (f : Pi2c → Pi2c) : (l.modPi n f).bondOn = l.bondOn := rfl
@[simp] theorem modPi_pwr (l : Live) (n : Nat) (f : Pi2c → Pi2c) : (l.modPi n f).pwr = l.pwr := rfl
@[simp] theorem modPi_rings (l : Live) (n : Nat) (f : Pi2c → Pi2c) : (l.modPi n f).rings = l.rings := rfl
@[simp] theorem modPi_slots (l : Live) (n : Nat) (f : Pi2c → Pi2c) : (l.modPi n f).slots = l.slots := rfl
@[simp] theorem modPi_moor (l : Live) (n : Nat) (f : Pi2c → Pi2c) : (l.modPi n f).moor = l.moor := rfl
@[simp] theorem modPi_loop (l : Live) (n : Nat) (f : Pi2c → Pi2c) : (l.modPi n f).loop = l.loop := rfl
@[simp] theorem modPi_rails (l : Live) (n : Nat) (f : Pi2c → Pi2c) : (l.modPi n f).rails = l.rails := rfl
@[simp] theorem modPi_vcp (l : Live) (n : Nat) (f : Pi2c → Pi2c) : (l.modPi n f).vcp = l.vcp := rfl
@[simp] theorem modPi_vcr (l : Live) (n : Nat) (f : Pi2c → Pi2c) : (l.modPi n f).vcr = l.vcr := rfl
@[simp] theorem modPi_pp (l : Live) (n : Nat) (f : Pi2c → Pi2c) : (l.modPi n f).pp = l.pp := rfl
@[simp] theorem modPi_gauge (l : Live) (n : Nat) (f : Pi2c → Pi2c) : (l.modPi n f).gauge = l.gauge := rfl
@[simp] theorem modPi_therm (l : Live) (n : Nat) (f : Pi2c → Pi2c) : (l.modPi n f).therm = l.therm := rfl
@[simp] theorem modPi_fc (l : Live) (n : Nat) (f : Pi2c → Pi2c) : (l.modPi n f).fc = l.fc := rfl
@[simp] theorem modPi_keeper (l : Live) (n : Nat) (f : Pi2c → Pi2c) : (l.modPi n f).keeper = l.keeper := rfl
@[simp] theorem modPi_img (l : Live) (n : Nat) (f : Pi2c → Pi2c) : (l.modPi n f).img = l.img := rfl
@[simp] theorem modPi_msgs (l : Live) (n : Nat) (f : Pi2c → Pi2c) : (l.modPi n f).msgs = l.msgs := rfl
@[simp] theorem modPi_recd (l : Live) (n : Nat) (f : Pi2c → Pi2c) : (l.modPi n f).recd = l.recd := rfl
@[simp] theorem modPi_sec (l : Live) (n : Nat) (f : Pi2c → Pi2c) : (l.modPi n f).sec = l.sec := rfl
@[simp] theorem modPi_adc (l : Live) (n : Nat) (f : Pi2c → Pi2c) : (l.modPi n f).adc = l.adc := rfl
@[simp] theorem modPi_pins (l : Live) (n : Nat) (f : Pi2c → Pi2c) : (l.modPi n f).pins = l.pins := rfl
@[simp] theorem modPi_host (l : Live) (n : Nat) (f : Pi2c → Pi2c) : (l.modPi n f).host = l.host := rfl
@[simp] theorem modPi_bondWrites (l : Live) (n : Nat) (f : Pi2c → Pi2c) : (l.modPi n f).bondWrites = l.bondWrites := rfl
@[simp] theorem modPi_w1c (l : Live) (n : Nat) (f : Pi2c → Pi2c) : (l.modPi n f).w1c = l.w1c := rfl
@[simp] theorem modPi_free (l : Live) (n : Nat) (f : Pi2c → Pi2c) : (l.modPi n f).free = l.free := rfl
@[simp] theorem modPi_ports_addr (l : Live) (n : Nat) (f : Pi2c → Pi2c) : (l.modPi n f).ports.addr = l.ports.addr := rfl
@[simp] theorem modPi_ports_sclto (l : Live) (n : Nat) (f : Pi2c → Pi2c) : (l.modPi n f).ports.sclto = l.ports.sclto := rfl
@[simp] theorem modPi_ports_sdato (l : Live) (n : Nat) (f : Pi2c → Pi2c) : (l.modPi n f).ports.sdato = l.ports.sdato := rfl
@[simp] theorem modPi_ports_matchAt (l : Live) (n : Nat) (f : Pi2c → Pi2c) : (l.modPi n f).ports.matchAt = l.ports.matchAt := rfl
@[simp] theorem modPi_ports_respReady (l : Live) (n : Nat) (f : Pi2c → Pi2c) : (l.modPi n f).ports.respReady = l.ports.respReady := rfl
@[simp] theorem modPi_ports_respOpen (l : Live) (n : Nat) (f : Pi2c → Pi2c) : (l.modPi n f).ports.respOpen = l.ports.respOpen := rfl
@[simp] theorem modPi_ports_waiting (l : Live) (n : Nat) (f : Pi2c → Pi2c) : (l.modPi n f).ports.waiting = l.ports.waiting := rfl
@[simp] theorem modPi_ring (l : Live) (n : Nat) (f : Pi2c → Pi2c) (k : Nat) : (l.modPi n f).ring k = l.ring k := rfl
@[simp] theorem modPi_slot (l : Live) (n : Nat) (f : Pi2c → Pi2c) (r s : Nat) : (l.modPi n f).slot r s = l.slot r s := rfl
@[simp] theorem modPi_stn (l : Live) (n : Nat) (f : Pi2c → Pi2c) (k : Nat) : (l.modPi n f).stn k = l.stn k := rfl
@[simp] theorem modPi_tile (l : Live) (n : Nat) (f : Pi2c → Pi2c) (k : Nat) : (l.modPi n f).tile k = l.tile k := rfl
@[simp] theorem modPi_lane (l : Live) (n : Nat) (f : Pi2c → Pi2c) (k : Nat) : (l.modPi n f).lane k = l.lane k := rfl
@[simp] theorem modPi_rail (l : Live) (n : Nat) (f : Pi2c → Pi2c) (k : Nat) : (l.modPi n f).rail k = l.rail k := rfl
@[simp] theorem modPi_vp (l : Live) (n : Nat) (f : Pi2c → Pi2c) (k : Nat) : (l.modPi n f).vp k = l.vp k := rfl
@[simp] theorem modPi_vr (l : Live) (n : Nat) (f : Pi2c → Pi2c) (k : Nat) : (l.modPi n f).vr k = l.vr k := rfl
@[simp] theorem modPi_inp (l : Live) (n : Nat) (f : Pi2c → Pi2c) (k : Nat) : (l.modPi n f).inp k = l.inp k := rfl
@[simp] theorem modPi_str (l : Live) (n : Nat) (f : Pi2c → Pi2c) (k : Nat) : (l.modPi n f).str k = l.str k := rfl
@[simp] theorem modPi_point (l : Live) (n : Nat) (f : Pi2c → Pi2c) (k : Nat) : (l.modPi n f).point k = l.point k := rfl
@[simp] theorem modPi_block (l : Live) (n : Nat) (f : Pi2c → Pi2c) (k : Nat) : (l.modPi n f).block k = l.block k := rfl
@[simp] theorem modPi_sess (l : Live) (n : Nat) (f : Pi2c → Pi2c) (k : Nat) : (l.modPi n f).sess k = l.sess k := rfl
@[simp] theorem modPi_mport (l : Live) (n : Nat) (f : Pi2c → Pi2c) (k : Nat) : (l.modPi n f).mport k = l.mport k := rfl
@[simp] theorem modPi_capSlot (l : Live) (n : Nat) (f : Pi2c → Pi2c) (k : Nat) : (l.modPi n f).capSlot k = l.capSlot k := rfl
@[simp] theorem modPi_trace (l : Live) (n : Nat) (f : Pi2c → Pi2c) (k : Nat) : (l.modPi n f).trace k = l.trace k := rfl
@[simp] theorem modPi_otpw (l : Live) (n : Nat) (f : Pi2c → Pi2c) (k : Nat) : (l.modPi n f).otpw k = l.otpw k := rfl
@[simp] theorem modPi_ctr (l : Live) (n : Nat) (f : Pi2c → Pi2c) (k : Nat) : (l.modPi n f).ctr k = l.ctr k := rfl
@[simp] theorem modPi_hw (l : Live) (n : Nat) (f : Pi2c → Pi2c) (p q : Nat) : (l.modPi n f).hw p q = l.hw p q := rfl
@[simp] theorem modPi_cw (l : Live) (n : Nat) (f : Pi2c → Pi2c) (p q : Nat) : (l.modPi n f).cw p q = l.cw p q := rfl
@[simp] theorem modPi_given (l : Live) (n : Nat) (f : Pi2c → Pi2c) (p q : Nat) : (l.modPi n f).given p q = l.given p q := rfl
@[simp] theorem modPi_cf (l : Live) (n : Nat) (f : Pi2c → Pi2c) (p q hi lo : Nat) : (l.modPi n f).cf p q hi lo = l.cf p q hi lo := rfl
@[simp] theorem modPi_cb (l : Live) (n : Nat) (f : Pi2c → Pi2c) (p q b : Nat) : (l.modPi n f).cb p q b = l.cb p q b := rfl
@[simp] theorem modPi_dom (l : Live) (n : Nat) (f : Pi2c → Pi2c) (d : Nat) : (l.modPi n f).dom d = l.dom d := rfl
@[simp] theorem modPi_working (l : Live) (n : Nat) (f : Pi2c → Pi2c) : (l.modPi n f).working = l.working := rfl
@[simp] theorem modPi_fwUp (l : Live) (n : Nat) (f : Pi2c → Pi2c) : (l.modPi n f).fwUp = l.fwUp := rfl
@[simp] theorem modPi_tick (l : Live) (n : Nat) (f : Pi2c → Pi2c) : (l.modPi n f).tick = l.tick := rfl
@[simp] theorem modPi_pi_same (l : Live) (n : Nat) (f : Pi2c → Pi2c) : (l.modPi n f).pi n = f (l.pi n) := tget_tmod_same _ _ _ _
theorem modPi_pi_other (l : Live) (n : Nat) (f : Pi2c → Pi2c) (k : Nat) (h : k ≠ n) : (l.modPi n f).pi k = l.pi k := tget_tmod_other _ _ _ _ _ h
theorem modPi_pi (l : Live) (n : Nat) (f : Pi2c → Pi2c) (k : Nat) : (l.modPi n f).pi k = if k = n then f (l.pi n) else l.pi k := tget_tmod _ _ _ _ _

/-! ### `modCapSlot` -/

@[simp] theorem modCapSlot_now (l : Live) (n : Nat) (f : CapSlot → CapSlot) : (l.modCapSlot n f).now = l.now := rfl
@[simp] theorem modCapSlot_bond (l : Live) (n : Nat) (f : CapSlot → CapSlot) : (l.modCapSlot n f).bond = l.bond := rfl
@[simp] theorem modCapSlot_bondAt (l : Live) (n : Nat) (f : CapSlot → CapSlot) : (l.modCapSlot n f).bondAt = l.bondAt := rfl
@[simp] theorem modCapSlot_bondOn (l : Live) (n : Nat) (f : CapSlot → CapSlot) : (l.modCapSlot n f).bondOn = l.bondOn := rfl
@[simp] theorem modCapSlot_pwr (l : Live) (n : Nat) (f : CapSlot → CapSlot) : (l.modCapSlot n f).pwr = l.pwr := rfl
@[simp] theorem modCapSlot_rings (l : Live) (n : Nat) (f : CapSlot → CapSlot) : (l.modCapSlot n f).rings = l.rings := rfl
@[simp] theorem modCapSlot_slots (l : Live) (n : Nat) (f : CapSlot → CapSlot) : (l.modCapSlot n f).slots = l.slots := rfl
@[simp] theorem modCapSlot_moor (l : Live) (n : Nat) (f : CapSlot → CapSlot) : (l.modCapSlot n f).moor = l.moor := rfl
@[simp] theorem modCapSlot_loop (l : Live) (n : Nat) (f : CapSlot → CapSlot) : (l.modCapSlot n f).loop = l.loop := rfl
@[simp] theorem modCapSlot_rails (l : Live) (n : Nat) (f : CapSlot → CapSlot) : (l.modCapSlot n f).rails = l.rails := rfl
@[simp] theorem modCapSlot_vcp (l : Live) (n : Nat) (f : CapSlot → CapSlot) : (l.modCapSlot n f).vcp = l.vcp := rfl
@[simp] theorem modCapSlot_vcr (l : Live) (n : Nat) (f : CapSlot → CapSlot) : (l.modCapSlot n f).vcr = l.vcr := rfl
@[simp] theorem modCapSlot_pp (l : Live) (n : Nat) (f : CapSlot → CapSlot) : (l.modCapSlot n f).pp = l.pp := rfl
@[simp] theorem modCapSlot_gauge (l : Live) (n : Nat) (f : CapSlot → CapSlot) : (l.modCapSlot n f).gauge = l.gauge := rfl
@[simp] theorem modCapSlot_therm (l : Live) (n : Nat) (f : CapSlot → CapSlot) : (l.modCapSlot n f).therm = l.therm := rfl
@[simp] theorem modCapSlot_fc (l : Live) (n : Nat) (f : CapSlot → CapSlot) : (l.modCapSlot n f).fc = l.fc := rfl
@[simp] theorem modCapSlot_keeper (l : Live) (n : Nat) (f : CapSlot → CapSlot) : (l.modCapSlot n f).keeper = l.keeper := rfl
@[simp] theorem modCapSlot_img (l : Live) (n : Nat) (f : CapSlot → CapSlot) : (l.modCapSlot n f).img = l.img := rfl
@[simp] theorem modCapSlot_msgs (l : Live) (n : Nat) (f : CapSlot → CapSlot) : (l.modCapSlot n f).msgs = l.msgs := rfl
@[simp] theorem modCapSlot_ports (l : Live) (n : Nat) (f : CapSlot → CapSlot) : (l.modCapSlot n f).ports = l.ports := rfl
@[simp] theorem modCapSlot_sec (l : Live) (n : Nat) (f : CapSlot → CapSlot) : (l.modCapSlot n f).sec = l.sec := rfl
@[simp] theorem modCapSlot_adc (l : Live) (n : Nat) (f : CapSlot → CapSlot) : (l.modCapSlot n f).adc = l.adc := rfl
@[simp] theorem modCapSlot_pins (l : Live) (n : Nat) (f : CapSlot → CapSlot) : (l.modCapSlot n f).pins = l.pins := rfl
@[simp] theorem modCapSlot_host (l : Live) (n : Nat) (f : CapSlot → CapSlot) : (l.modCapSlot n f).host = l.host := rfl
@[simp] theorem modCapSlot_bondWrites (l : Live) (n : Nat) (f : CapSlot → CapSlot) : (l.modCapSlot n f).bondWrites = l.bondWrites := rfl
@[simp] theorem modCapSlot_w1c (l : Live) (n : Nat) (f : CapSlot → CapSlot) : (l.modCapSlot n f).w1c = l.w1c := rfl
@[simp] theorem modCapSlot_free (l : Live) (n : Nat) (f : CapSlot → CapSlot) : (l.modCapSlot n f).free = l.free := rfl
@[simp] theorem modCapSlot_recd_ring (l : Live) (n : Nat) (f : CapSlot → CapSlot) : (l.modCapSlot n f).recd.ring = l.recd.ring := rfl
@[simp] theorem modCapSlot_recd_unfl (l : Live) (n : Nat) (f : CapSlot → CapSlot) : (l.modCapSlot n f).recd.unfl = l.recd.unfl := rfl
@[simp] theorem modCapSlot_recd_unflAt (l : Live) (n : Nat) (f : CapSlot → CapSlot) : (l.modCapSlot n f).recd.unflAt = l.recd.unflAt := rfl
@[simp] theorem modCapSlot_recd_flushNow (l : Live) (n : Nat) (f : CapSlot → CapSlot) : (l.modCapSlot n f).recd.flushNow = l.recd.flushNow := rfl
@[simp] theorem modCapSlot_recd_dropRun (l : Live) (n : Nat) (f : CapSlot → CapSlot) : (l.modCapSlot n f).recd.dropRun = l.recd.dropRun := rfl
@[simp] theorem modCapSlot_recd_d0q (l : Live) (n : Nat) (f : CapSlot → CapSlot) : (l.modCapSlot n f).recd.d0q = l.recd.d0q := rfl
@[simp] theorem modCapSlot_recd_d0lost (l : Live) (n : Nat) (f : CapSlot → CapSlot) : (l.modCapSlot n f).recd.d0lost = l.recd.d0lost := rfl
@[simp] theorem modCapSlot_recd_rseq (l : Live) (n : Nat) (f : CapSlot → CapSlot) : (l.modCapSlot n f).recd.rseq = l.recd.rseq := rfl
@[simp] theorem modCapSlot_recd_pseq (l : Live) (n : Nat) (f : CapSlot → CapSlot) : (l.modCapSlot n f).recd.pseq = l.recd.pseq := rfl
@[simp] theorem modCapSlot_recd_bootcnt (l : Live) (n : Nat) (f : CapSlot → CapSlot) : (l.modCapSlot n f).recd.bootcnt = l.recd.bootcnt := rfl
@[simp] theorem modCapSlot_recd_flash (l : Live) (n : Nat) (f : CapSlot → CapSlot) : (l.modCapSlot n f).recd.flash = l.recd.flash := rfl
@[simp] theorem modCapSlot_recd_wpos (l : Live) (n : Nat) (f : CapSlot → CapSlot) : (l.modCapSlot n f).recd.wpos = l.recd.wpos := rfl
@[simp] theorem modCapSlot_recd_job (l : Live) (n : Nat) (f : CapSlot → CapSlot) : (l.modCapSlot n f).recd.job = l.recd.job := rfl
@[simp] theorem modCapSlot_recd_area0 (l : Live) (n : Nat) (f : CapSlot → CapSlot) : (l.modCapSlot n f).recd.area0 = l.recd.area0 := rfl
@[simp] theorem modCapSlot_recd_area1 (l : Live) (n : Nat) (f : CapSlot → CapSlot) : (l.modCapSlot n f).recd.area1 = l.recd.area1 := rfl
@[simp] theorem modCapSlot_recd_armed (l : Live) (n : Nat) (f : CapSlot → CapSlot) : (l.modCapSlot n f).recd.armed = l.recd.armed := rfl
@[simp] theorem modCapSlot_recd_notArmed (l : Live) (n : Nat) (f : CapSlot → CapSlot) : (l.modCapSlot n f).recd.notArmed = l.recd.notArmed := rfl
@[simp] theorem modCapSlot_recd_snap (l : Live) (n : Nat) (f : CapSlot → CapSlot) : (l.modCapSlot n f).recd.snap = l.recd.snap := rfl
@[simp] theorem modCapSlot_recd_snapDue (l : Live) (n : Nat) (f : CapSlot → CapSlot) : (l.modCapSlot n f).recd.snapDue = l.recd.snapDue := rfl
@[simp] theorem modCapSlot_recd_lastCap (l : Live) (n : Nat) (f : CapSlot → CapSlot) : (l.modCapSlot n f).recd.lastCap = l.recd.lastCap := rfl
@[simp] theorem modCapSlot_recd_traces (l : Live) (n : Nat) (f : CapSlot → CapSlot) : (l.modCapSlot n f).recd.traces = l.recd.traces := rfl
@[simp] theorem modCapSlot_recd_ctrs (l : Live) (n : Nat) (f : CapSlot → CapSlot) : (l.modCapSlot n f).recd.ctrs = l.recd.ctrs := rfl
@[simp] theorem modCapSlot_recd_samples (l : Live) (n : Nat) (f : CapSlot → CapSlot) : (l.modCapSlot n f).recd.samples = l.recd.samples := rfl
@[simp] theorem modCapSlot_recd_swrap (l : Live) (n : Nat) (f : CapSlot → CapSlot) : (l.modCapSlot n f).recd.swrap = l.recd.swrap := rfl
@[simp] theorem modCapSlot_recd_sampled (l : Live) (n : Nat) (f : CapSlot → CapSlot) : (l.modCapSlot n f).recd.sampled = l.recd.sampled := rfl
@[simp] theorem modCapSlot_recd_sleft (l : Live) (n : Nat) (f : CapSlot → CapSlot) : (l.modCapSlot n f).recd.sleft = l.recd.sleft := rfl
@[simp] theorem modCapSlot_recd_clkSet (l : Live) (n : Nat) (f : CapSlot → CapSlot) : (l.modCapSlot n f).recd.clkSet = l.recd.clkSet := rfl
@[simp] theorem modCapSlot_recd_clkSec (l : Live) (n : Nat) (f : CapSlot → CapSlot) : (l.modCapSlot n f).recd.clkSec = l.recd.clkSec := rfl
@[simp] theorem modCapSlot_recd_clkAt (l : Live) (n : Nat) (f : CapSlot → CapSlot) : (l.modCapSlot n f).recd.clkAt = l.recd.clkAt := rfl
@[simp] theorem modCapSlot_ring (l : Live) (n : Nat) (f : CapSlot → CapSlot) (k : Nat) : (l.modCapSlot n f).ring k = l.ring k := rfl
@[simp] theorem modCapSlot_slot (l : Live) (n : Nat) (f : CapSlot → CapSlot) (r s : Nat) : (l.modCapSlot n f).slot r s = l.slot r s := rfl
@[simp] theorem modCapSlot_stn (l : Live) (n : Nat) (f : CapSlot → CapSlot) (k : Nat) : (l.modCapSlot n f).stn k = l.stn k := rfl
@[simp] theorem modCapSlot_tile (l : Live) (n : Nat) (f : CapSlot → CapSlot) (k : Nat) : (l.modCapSlot n f).tile k = l.tile k := rfl
@[simp] theorem modCapSlot_lane (l : Live) (n : Nat) (f : CapSlot → CapSlot) (k : Nat) : (l.modCapSlot n f).lane k = l.lane k := rfl
@[simp] theorem modCapSlot_rail (l : Live) (n : Nat) (f : CapSlot → CapSlot) (k : Nat) : (l.modCapSlot n f).rail k = l.rail k := rfl
@[simp] theorem modCapSlot_vp (l : Live) (n : Nat) (f : CapSlot → CapSlot) (k : Nat) : (l.modCapSlot n f).vp k = l.vp k := rfl
@[simp] theorem modCapSlot_vr (l : Live) (n : Nat) (f : CapSlot → CapSlot) (k : Nat) : (l.modCapSlot n f).vr k = l.vr k := rfl
@[simp] theorem modCapSlot_inp (l : Live) (n : Nat) (f : CapSlot → CapSlot) (k : Nat) : (l.modCapSlot n f).inp k = l.inp k := rfl
@[simp] theorem modCapSlot_str (l : Live) (n : Nat) (f : CapSlot → CapSlot) (k : Nat) : (l.modCapSlot n f).str k = l.str k := rfl
@[simp] theorem modCapSlot_point (l : Live) (n : Nat) (f : CapSlot → CapSlot) (k : Nat) : (l.modCapSlot n f).point k = l.point k := rfl
@[simp] theorem modCapSlot_block (l : Live) (n : Nat) (f : CapSlot → CapSlot) (k : Nat) : (l.modCapSlot n f).block k = l.block k := rfl
@[simp] theorem modCapSlot_sess (l : Live) (n : Nat) (f : CapSlot → CapSlot) (k : Nat) : (l.modCapSlot n f).sess k = l.sess k := rfl
@[simp] theorem modCapSlot_mport (l : Live) (n : Nat) (f : CapSlot → CapSlot) (k : Nat) : (l.modCapSlot n f).mport k = l.mport k := rfl
@[simp] theorem modCapSlot_pi (l : Live) (n : Nat) (f : CapSlot → CapSlot) (k : Nat) : (l.modCapSlot n f).pi k = l.pi k := rfl
@[simp] theorem modCapSlot_trace (l : Live) (n : Nat) (f : CapSlot → CapSlot) (k : Nat) : (l.modCapSlot n f).trace k = l.trace k := rfl
@[simp] theorem modCapSlot_otpw (l : Live) (n : Nat) (f : CapSlot → CapSlot) (k : Nat) : (l.modCapSlot n f).otpw k = l.otpw k := rfl
@[simp] theorem modCapSlot_ctr (l : Live) (n : Nat) (f : CapSlot → CapSlot) (k : Nat) : (l.modCapSlot n f).ctr k = l.ctr k := rfl
@[simp] theorem modCapSlot_hw (l : Live) (n : Nat) (f : CapSlot → CapSlot) (p q : Nat) : (l.modCapSlot n f).hw p q = l.hw p q := rfl
@[simp] theorem modCapSlot_cw (l : Live) (n : Nat) (f : CapSlot → CapSlot) (p q : Nat) : (l.modCapSlot n f).cw p q = l.cw p q := rfl
@[simp] theorem modCapSlot_given (l : Live) (n : Nat) (f : CapSlot → CapSlot) (p q : Nat) : (l.modCapSlot n f).given p q = l.given p q := rfl
@[simp] theorem modCapSlot_cf (l : Live) (n : Nat) (f : CapSlot → CapSlot) (p q hi lo : Nat) : (l.modCapSlot n f).cf p q hi lo = l.cf p q hi lo := rfl
@[simp] theorem modCapSlot_cb (l : Live) (n : Nat) (f : CapSlot → CapSlot) (p q b : Nat) : (l.modCapSlot n f).cb p q b = l.cb p q b := rfl
@[simp] theorem modCapSlot_dom (l : Live) (n : Nat) (f : CapSlot → CapSlot) (d : Nat) : (l.modCapSlot n f).dom d = l.dom d := rfl
@[simp] theorem modCapSlot_working (l : Live) (n : Nat) (f : CapSlot → CapSlot) : (l.modCapSlot n f).working = l.working := rfl
@[simp] theorem modCapSlot_fwUp (l : Live) (n : Nat) (f : CapSlot → CapSlot) : (l.modCapSlot n f).fwUp = l.fwUp := rfl
@[simp] theorem modCapSlot_tick (l : Live) (n : Nat) (f : CapSlot → CapSlot) : (l.modCapSlot n f).tick = l.tick := rfl
@[simp] theorem modCapSlot_capSlot_same (l : Live) (n : Nat) (f : CapSlot → CapSlot) : (l.modCapSlot n f).capSlot n = f (l.capSlot n) := tget_tmod_same _ _ _ _
theorem modCapSlot_capSlot_other (l : Live) (n : Nat) (f : CapSlot → CapSlot) (k : Nat) (h : k ≠ n) : (l.modCapSlot n f).capSlot k = l.capSlot k := tget_tmod_other _ _ _ _ _ h
theorem modCapSlot_capSlot (l : Live) (n : Nat) (f : CapSlot → CapSlot) (k : Nat) : (l.modCapSlot n f).capSlot k = if k = n then f (l.capSlot n) else l.capSlot k := tget_tmod _ _ _ _ _

/-! ### `modTrace` -/

@[simp] theorem modTrace_now (l : Live) (n : Nat) (f : TraceCh → TraceCh) : (l.modTrace n f).now = l.now := rfl
@[simp] theorem modTrace_bond (l : Live) (n : Nat) (f : TraceCh → TraceCh) : (l.modTrace n f).bond = l.bond := rfl
@[simp] theorem modTrace_bondAt (l : Live) (n : Nat) (f : TraceCh → TraceCh) : (l.modTrace n f).bondAt = l.bondAt := rfl
@[simp] theorem modTrace_bondOn (l : Live) (n : Nat) (f : TraceCh → TraceCh) : (l.modTrace n f).bondOn = l.bondOn := rfl
@[simp] theorem modTrace_pwr (l : Live) (n : Nat) (f : TraceCh → TraceCh) : (l.modTrace n f).pwr = l.pwr := rfl
@[simp] theorem modTrace_rings (l : Live) (n : Nat) (f : TraceCh → TraceCh) : (l.modTrace n f).rings = l.rings := rfl
@[simp] theorem modTrace_slots (l : Live) (n : Nat) (f : TraceCh → TraceCh) : (l.modTrace n f).slots = l.slots := rfl
@[simp] theorem modTrace_moor (l : Live) (n : Nat) (f : TraceCh → TraceCh) : (l.modTrace n f).moor = l.moor := rfl
@[simp] theorem modTrace_loop (l : Live) (n : Nat) (f : TraceCh → TraceCh) : (l.modTrace n f).loop = l.loop := rfl
@[simp] theorem modTrace_rails (l : Live) (n : Nat) (f : TraceCh → TraceCh) : (l.modTrace n f).rails = l.rails := rfl
@[simp] theorem modTrace_vcp (l : Live) (n : Nat) (f : TraceCh → TraceCh) : (l.modTrace n f).vcp = l.vcp := rfl
@[simp] theorem modTrace_vcr (l : Live) (n : Nat) (f : TraceCh → TraceCh) : (l.modTrace n f).vcr = l.vcr := rfl
@[simp] theorem modTrace_pp (l : Live) (n : Nat) (f : TraceCh → TraceCh) : (l.modTrace n f).pp = l.pp := rfl
@[simp] theorem modTrace_gauge (l : Live) (n : Nat) (f : TraceCh → TraceCh) : (l.modTrace n f).gauge = l.gauge := rfl
@[simp] theorem modTrace_therm (l : Live) (n : Nat) (f : TraceCh → TraceCh) : (l.modTrace n f).therm = l.therm := rfl
@[simp] theorem modTrace_fc (l : Live) (n : Nat) (f : TraceCh → TraceCh) : (l.modTrace n f).fc = l.fc := rfl
@[simp] theorem modTrace_keeper (l : Live) (n : Nat) (f : TraceCh → TraceCh) : (l.modTrace n f).keeper = l.keeper := rfl
@[simp] theorem modTrace_img (l : Live) (n : Nat) (f : TraceCh → TraceCh) : (l.modTrace n f).img = l.img := rfl
@[simp] theorem modTrace_msgs (l : Live) (n : Nat) (f : TraceCh → TraceCh) : (l.modTrace n f).msgs = l.msgs := rfl
@[simp] theorem modTrace_ports (l : Live) (n : Nat) (f : TraceCh → TraceCh) : (l.modTrace n f).ports = l.ports := rfl
@[simp] theorem modTrace_sec (l : Live) (n : Nat) (f : TraceCh → TraceCh) : (l.modTrace n f).sec = l.sec := rfl
@[simp] theorem modTrace_adc (l : Live) (n : Nat) (f : TraceCh → TraceCh) : (l.modTrace n f).adc = l.adc := rfl
@[simp] theorem modTrace_pins (l : Live) (n : Nat) (f : TraceCh → TraceCh) : (l.modTrace n f).pins = l.pins := rfl
@[simp] theorem modTrace_host (l : Live) (n : Nat) (f : TraceCh → TraceCh) : (l.modTrace n f).host = l.host := rfl
@[simp] theorem modTrace_bondWrites (l : Live) (n : Nat) (f : TraceCh → TraceCh) : (l.modTrace n f).bondWrites = l.bondWrites := rfl
@[simp] theorem modTrace_w1c (l : Live) (n : Nat) (f : TraceCh → TraceCh) : (l.modTrace n f).w1c = l.w1c := rfl
@[simp] theorem modTrace_free (l : Live) (n : Nat) (f : TraceCh → TraceCh) : (l.modTrace n f).free = l.free := rfl
@[simp] theorem modTrace_recd_ring (l : Live) (n : Nat) (f : TraceCh → TraceCh) : (l.modTrace n f).recd.ring = l.recd.ring := rfl
@[simp] theorem modTrace_recd_unfl (l : Live) (n : Nat) (f : TraceCh → TraceCh) : (l.modTrace n f).recd.unfl = l.recd.unfl := rfl
@[simp] theorem modTrace_recd_unflAt (l : Live) (n : Nat) (f : TraceCh → TraceCh) : (l.modTrace n f).recd.unflAt = l.recd.unflAt := rfl
@[simp] theorem modTrace_recd_flushNow (l : Live) (n : Nat) (f : TraceCh → TraceCh) : (l.modTrace n f).recd.flushNow = l.recd.flushNow := rfl
@[simp] theorem modTrace_recd_dropRun (l : Live) (n : Nat) (f : TraceCh → TraceCh) : (l.modTrace n f).recd.dropRun = l.recd.dropRun := rfl
@[simp] theorem modTrace_recd_d0q (l : Live) (n : Nat) (f : TraceCh → TraceCh) : (l.modTrace n f).recd.d0q = l.recd.d0q := rfl
@[simp] theorem modTrace_recd_d0lost (l : Live) (n : Nat) (f : TraceCh → TraceCh) : (l.modTrace n f).recd.d0lost = l.recd.d0lost := rfl
@[simp] theorem modTrace_recd_rseq (l : Live) (n : Nat) (f : TraceCh → TraceCh) : (l.modTrace n f).recd.rseq = l.recd.rseq := rfl
@[simp] theorem modTrace_recd_pseq (l : Live) (n : Nat) (f : TraceCh → TraceCh) : (l.modTrace n f).recd.pseq = l.recd.pseq := rfl
@[simp] theorem modTrace_recd_bootcnt (l : Live) (n : Nat) (f : TraceCh → TraceCh) : (l.modTrace n f).recd.bootcnt = l.recd.bootcnt := rfl
@[simp] theorem modTrace_recd_flash (l : Live) (n : Nat) (f : TraceCh → TraceCh) : (l.modTrace n f).recd.flash = l.recd.flash := rfl
@[simp] theorem modTrace_recd_wpos (l : Live) (n : Nat) (f : TraceCh → TraceCh) : (l.modTrace n f).recd.wpos = l.recd.wpos := rfl
@[simp] theorem modTrace_recd_job (l : Live) (n : Nat) (f : TraceCh → TraceCh) : (l.modTrace n f).recd.job = l.recd.job := rfl
@[simp] theorem modTrace_recd_area0 (l : Live) (n : Nat) (f : TraceCh → TraceCh) : (l.modTrace n f).recd.area0 = l.recd.area0 := rfl
@[simp] theorem modTrace_recd_area1 (l : Live) (n : Nat) (f : TraceCh → TraceCh) : (l.modTrace n f).recd.area1 = l.recd.area1 := rfl
@[simp] theorem modTrace_recd_armed (l : Live) (n : Nat) (f : TraceCh → TraceCh) : (l.modTrace n f).recd.armed = l.recd.armed := rfl
@[simp] theorem modTrace_recd_notArmed (l : Live) (n : Nat) (f : TraceCh → TraceCh) : (l.modTrace n f).recd.notArmed = l.recd.notArmed := rfl
@[simp] theorem modTrace_recd_snap (l : Live) (n : Nat) (f : TraceCh → TraceCh) : (l.modTrace n f).recd.snap = l.recd.snap := rfl
@[simp] theorem modTrace_recd_snapDue (l : Live) (n : Nat) (f : TraceCh → TraceCh) : (l.modTrace n f).recd.snapDue = l.recd.snapDue := rfl
@[simp] theorem modTrace_recd_lastCap (l : Live) (n : Nat) (f : TraceCh → TraceCh) : (l.modTrace n f).recd.lastCap = l.recd.lastCap := rfl
@[simp] theorem modTrace_recd_caps (l : Live) (n : Nat) (f : TraceCh → TraceCh) : (l.modTrace n f).recd.caps = l.recd.caps := rfl
@[simp] theorem modTrace_recd_ctrs (l : Live) (n : Nat) (f : TraceCh → TraceCh) : (l.modTrace n f).recd.ctrs = l.recd.ctrs := rfl
@[simp] theorem modTrace_recd_samples (l : Live) (n : Nat) (f : TraceCh → TraceCh) : (l.modTrace n f).recd.samples = l.recd.samples := rfl
@[simp] theorem modTrace_recd_swrap (l : Live) (n : Nat) (f : TraceCh → TraceCh) : (l.modTrace n f).recd.swrap = l.recd.swrap := rfl
@[simp] theorem modTrace_recd_sampled (l : Live) (n : Nat) (f : TraceCh → TraceCh) : (l.modTrace n f).recd.sampled = l.recd.sampled := rfl
@[simp] theorem modTrace_recd_sleft (l : Live) (n : Nat) (f : TraceCh → TraceCh) : (l.modTrace n f).recd.sleft = l.recd.sleft := rfl
@[simp] theorem modTrace_recd_clkSet (l : Live) (n : Nat) (f : TraceCh → TraceCh) : (l.modTrace n f).recd.clkSet = l.recd.clkSet := rfl
@[simp] theorem modTrace_recd_clkSec (l : Live) (n : Nat) (f : TraceCh → TraceCh) : (l.modTrace n f).recd.clkSec = l.recd.clkSec := rfl
@[simp] theorem modTrace_recd_clkAt (l : Live) (n : Nat) (f : TraceCh → TraceCh) : (l.modTrace n f).recd.clkAt = l.recd.clkAt := rfl
@[simp] theorem modTrace_ring (l : Live) (n : Nat) (f : TraceCh → TraceCh) (k : Nat) : (l.modTrace n f).ring k = l.ring k := rfl
@[simp] theorem modTrace_slot (l : Live) (n : Nat) (f : TraceCh → TraceCh) (r s : Nat) : (l.modTrace n f).slot r s = l.slot r s := rfl
@[simp] theorem modTrace_stn (l : Live) (n : Nat) (f : TraceCh → TraceCh) (k : Nat) : (l.modTrace n f).stn k = l.stn k := rfl
@[simp] theorem modTrace_tile (l : Live) (n : Nat) (f : TraceCh → TraceCh) (k : Nat) : (l.modTrace n f).tile k = l.tile k := rfl
@[simp] theorem modTrace_lane (l : Live) (n : Nat) (f : TraceCh → TraceCh) (k : Nat) : (l.modTrace n f).lane k = l.lane k := rfl
@[simp] theorem modTrace_rail (l : Live) (n : Nat) (f : TraceCh → TraceCh) (k : Nat) : (l.modTrace n f).rail k = l.rail k := rfl
@[simp] theorem modTrace_vp (l : Live) (n : Nat) (f : TraceCh → TraceCh) (k : Nat) : (l.modTrace n f).vp k = l.vp k := rfl
@[simp] theorem modTrace_vr (l : Live) (n : Nat) (f : TraceCh → TraceCh) (k : Nat) : (l.modTrace n f).vr k = l.vr k := rfl
@[simp] theorem modTrace_inp (l : Live) (n : Nat) (f : TraceCh → TraceCh) (k : Nat) : (l.modTrace n f).inp k = l.inp k := rfl
@[simp] theorem modTrace_str (l : Live) (n : Nat) (f : TraceCh → TraceCh) (k : Nat) : (l.modTrace n f).str k = l.str k := rfl
@[simp] theorem modTrace_point (l : Live) (n : Nat) (f : TraceCh → TraceCh) (k : Nat) : (l.modTrace n f).point k = l.point k := rfl
@[simp] theorem modTrace_block (l : Live) (n : Nat) (f : TraceCh → TraceCh) (k : Nat) : (l.modTrace n f).block k = l.block k := rfl
@[simp] theorem modTrace_sess (l : Live) (n : Nat) (f : TraceCh → TraceCh) (k : Nat) : (l.modTrace n f).sess k = l.sess k := rfl
@[simp] theorem modTrace_mport (l : Live) (n : Nat) (f : TraceCh → TraceCh) (k : Nat) : (l.modTrace n f).mport k = l.mport k := rfl
@[simp] theorem modTrace_pi (l : Live) (n : Nat) (f : TraceCh → TraceCh) (k : Nat) : (l.modTrace n f).pi k = l.pi k := rfl
@[simp] theorem modTrace_capSlot (l : Live) (n : Nat) (f : TraceCh → TraceCh) (k : Nat) : (l.modTrace n f).capSlot k = l.capSlot k := rfl
@[simp] theorem modTrace_otpw (l : Live) (n : Nat) (f : TraceCh → TraceCh) (k : Nat) : (l.modTrace n f).otpw k = l.otpw k := rfl
@[simp] theorem modTrace_ctr (l : Live) (n : Nat) (f : TraceCh → TraceCh) (k : Nat) : (l.modTrace n f).ctr k = l.ctr k := rfl
@[simp] theorem modTrace_hw (l : Live) (n : Nat) (f : TraceCh → TraceCh) (p q : Nat) : (l.modTrace n f).hw p q = l.hw p q := rfl
@[simp] theorem modTrace_cw (l : Live) (n : Nat) (f : TraceCh → TraceCh) (p q : Nat) : (l.modTrace n f).cw p q = l.cw p q := rfl
@[simp] theorem modTrace_given (l : Live) (n : Nat) (f : TraceCh → TraceCh) (p q : Nat) : (l.modTrace n f).given p q = l.given p q := rfl
@[simp] theorem modTrace_cf (l : Live) (n : Nat) (f : TraceCh → TraceCh) (p q hi lo : Nat) : (l.modTrace n f).cf p q hi lo = l.cf p q hi lo := rfl
@[simp] theorem modTrace_cb (l : Live) (n : Nat) (f : TraceCh → TraceCh) (p q b : Nat) : (l.modTrace n f).cb p q b = l.cb p q b := rfl
@[simp] theorem modTrace_dom (l : Live) (n : Nat) (f : TraceCh → TraceCh) (d : Nat) : (l.modTrace n f).dom d = l.dom d := rfl
@[simp] theorem modTrace_working (l : Live) (n : Nat) (f : TraceCh → TraceCh) : (l.modTrace n f).working = l.working := rfl
@[simp] theorem modTrace_fwUp (l : Live) (n : Nat) (f : TraceCh → TraceCh) : (l.modTrace n f).fwUp = l.fwUp := rfl
@[simp] theorem modTrace_tick (l : Live) (n : Nat) (f : TraceCh → TraceCh) : (l.modTrace n f).tick = l.tick := rfl
@[simp] theorem modTrace_trace_same (l : Live) (n : Nat) (f : TraceCh → TraceCh) : (l.modTrace n f).trace n = f (l.trace n) := tget_tmod_same _ _ _ _
theorem modTrace_trace_other (l : Live) (n : Nat) (f : TraceCh → TraceCh) (k : Nat) (h : k ≠ n) : (l.modTrace n f).trace k = l.trace k := tget_tmod_other _ _ _ _ _ h
theorem modTrace_trace (l : Live) (n : Nat) (f : TraceCh → TraceCh) (k : Nat) : (l.modTrace n f).trace k = if k = n then f (l.trace n) else l.trace k := tget_tmod _ _ _ _ _

/-! ### `modSlot` -/

@[simp] theorem modSlot_now (l : Live) (n m : Nat) (f : Slot → Slot) : (l.modSlot n m f).now = l.now := rfl
@[simp] theorem modSlot_bond (l : Live) (n m : Nat) (f : Slot → Slot) : (l.modSlot n m f).bond = l.bond := rfl
@[simp] theorem modSlot_bondAt (l : Live) (n m : Nat) (f : Slot → Slot) : (l.modSlot n m f).bondAt = l.bondAt := rfl
@[simp] theorem modSlot_bondOn (l : Live) (n m : Nat) (f : Slot → Slot) : (l.modSlot n m f).bondOn = l.bondOn := rfl
@[simp] theorem modSlot_pwr (l : Live) (n m : Nat) (f : Slot → Slot) : (l.modSlot n m f).pwr = l.pwr := rfl
@[simp] theorem modSlot_rings (l : Live) (n m : Nat) (f : Slot → Slot) : (l.modSlot n m f).rings = l.rings := rfl
@[simp] theorem modSlot_moor (l : Live) (n m : Nat) (f : Slot → Slot) : (l.modSlot n m f).moor = l.moor := rfl
@[simp] theorem modSlot_loop (l : Live) (n m : Nat) (f : Slot → Slot) : (l.modSlot n m f).loop = l.loop := rfl
@[simp] theorem modSlot_rails (l : Live) (n m : Nat) (f : Slot → Slot) : (l.modSlot n m f).rails = l.rails := rfl
@[simp] theorem modSlot_vcp (l : Live) (n m : Nat) (f : Slot → Slot) : (l.modSlot n m f).vcp = l.vcp := rfl
@[simp] theorem modSlot_vcr (l : Live) (n m : Nat) (f : Slot → Slot) : (l.modSlot n m f).vcr = l.vcr := rfl
@[simp] theorem modSlot_pp (l : Live) (n m : Nat) (f : Slot → Slot) : (l.modSlot n m f).pp = l.pp := rfl
@[simp] theorem modSlot_gauge (l : Live) (n m : Nat) (f : Slot → Slot) : (l.modSlot n m f).gauge = l.gauge := rfl
@[simp] theorem modSlot_therm (l : Live) (n m : Nat) (f : Slot → Slot) : (l.modSlot n m f).therm = l.therm := rfl
@[simp] theorem modSlot_fc (l : Live) (n m : Nat) (f : Slot → Slot) : (l.modSlot n m f).fc = l.fc := rfl
@[simp] theorem modSlot_keeper (l : Live) (n m : Nat) (f : Slot → Slot) : (l.modSlot n m f).keeper = l.keeper := rfl
@[simp] theorem modSlot_img (l : Live) (n m : Nat) (f : Slot → Slot) : (l.modSlot n m f).img = l.img := rfl
@[simp] theorem modSlot_msgs (l : Live) (n m : Nat) (f : Slot → Slot) : (l.modSlot n m f).msgs = l.msgs := rfl
@[simp] theorem modSlot_ports (l : Live) (n m : Nat) (f : Slot → Slot) : (l.modSlot n m f).ports = l.ports := rfl
@[simp] theorem modSlot_recd (l : Live) (n m : Nat) (f : Slot → Slot) : (l.modSlot n m f).recd = l.recd := rfl
@[simp] theorem modSlot_sec (l : Live) (n m : Nat) (f : Slot → Slot) : (l.modSlot n m f).sec = l.sec := rfl
@[simp] theorem modSlot_adc (l : Live) (n m : Nat) (f : Slot → Slot) : (l.modSlot n m f).adc = l.adc := rfl
@[simp] theorem modSlot_pins (l : Live) (n m : Nat) (f : Slot → Slot) : (l.modSlot n m f).pins = l.pins := rfl
@[simp] theorem modSlot_host (l : Live) (n m : Nat) (f : Slot → Slot) : (l.modSlot n m f).host = l.host := rfl
@[simp] theorem modSlot_bondWrites (l : Live) (n m : Nat) (f : Slot → Slot) : (l.modSlot n m f).bondWrites = l.bondWrites := rfl
@[simp] theorem modSlot_w1c (l : Live) (n m : Nat) (f : Slot → Slot) : (l.modSlot n m f).w1c = l.w1c := rfl
@[simp] theorem modSlot_free (l : Live) (n m : Nat) (f : Slot → Slot) : (l.modSlot n m f).free = l.free := rfl
@[simp] theorem modSlot_ring (l : Live) (n m : Nat) (f : Slot → Slot) (k : Nat) : (l.modSlot n m f).ring k = l.ring k := rfl
@[simp] theorem modSlot_stn (l : Live) (n m : Nat) (f : Slot → Slot) (k : Nat) : (l.modSlot n m f).stn k = l.stn k := rfl
@[simp] theorem modSlot_tile (l : Live) (n m : Nat) (f : Slot → Slot) (k : Nat) : (l.modSlot n m f).tile k = l.tile k := rfl
@[simp] theorem modSlot_lane (l : Live) (n m : Nat) (f : Slot → Slot) (k : Nat) : (l.modSlot n m f).lane k = l.lane k := rfl
@[simp] theorem modSlot_rail (l : Live) (n m : Nat) (f : Slot → Slot) (k : Nat) : (l.modSlot n m f).rail k = l.rail k := rfl
@[simp] theorem modSlot_vp (l : Live) (n m : Nat) (f : Slot → Slot) (k : Nat) : (l.modSlot n m f).vp k = l.vp k := rfl
@[simp] theorem modSlot_vr (l : Live) (n m : Nat) (f : Slot → Slot) (k : Nat) : (l.modSlot n m f).vr k = l.vr k := rfl
@[simp] theorem modSlot_inp (l : Live) (n m : Nat) (f : Slot → Slot) (k : Nat) : (l.modSlot n m f).inp k = l.inp k := rfl
@[simp] theorem modSlot_str (l : Live) (n m : Nat) (f : Slot → Slot) (k : Nat) : (l.modSlot n m f).str k = l.str k := rfl
@[simp] theorem modSlot_point (l : Live) (n m : Nat) (f : Slot → Slot) (k : Nat) : (l.modSlot n m f).point k = l.point k := rfl
@[simp] theorem modSlot_block (l : Live) (n m : Nat) (f : Slot → Slot) (k : Nat) : (l.modSlot n m f).block k = l.block k := rfl
@[simp] theorem modSlot_sess (l : Live) (n m : Nat) (f : Slot → Slot) (k : Nat) : (l.modSlot n m f).sess k = l.sess k := rfl
@[simp] theorem modSlot_mport (l : Live) (n m : Nat) (f : Slot → Slot) (k : Nat) : (l.modSlot n m f).mport k = l.mport k := rfl
@[simp] theorem modSlot_pi (l : Live) (n m : Nat) (f : Slot → Slot) (k : Nat) : (l.modSlot n m f).pi k = l.pi k := rfl
@[simp] theorem modSlot_capSlot (l : Live) (n m : Nat) (f : Slot → Slot) (k : Nat) : (l.modSlot n m f).capSlot k = l.capSlot k := rfl
@[simp] theorem modSlot_trace (l : Live) (n m : Nat) (f : Slot → Slot) (k : Nat) : (l.modSlot n m f).trace k = l.trace k := rfl
@[simp] theorem modSlot_otpw (l : Live) (n m : Nat) (f : Slot → Slot) (k : Nat) : (l.modSlot n m f).otpw k = l.otpw k := rfl
@[simp] theorem modSlot_ctr (l : Live) (n m : Nat) (f : Slot → Slot) (k : Nat) : (l.modSlot n m f).ctr k = l.ctr k := rfl
@[simp] theorem modSlot_hw (l : Live) (n m : Nat) (f : Slot → Slot) (p q : Nat) : (l.modSlot n m f).hw p q = l.hw p q := rfl
@[simp] theorem modSlot_cw (l : Live) (n m : Nat) (f : Slot → Slot) (p q : Nat) : (l.modSlot n m f).cw p q = l.cw p q := rfl
@[simp] theorem modSlot_given (l : Live) (n m : Nat) (f : Slot → Slot) (p q : Nat) : (l.modSlot n m f).given p q = l.given p q := rfl
@[simp] theorem modSlot_cf (l : Live) (n m : Nat) (f : Slot → Slot) (p q hi lo : Nat) : (l.modSlot n m f).cf p q hi lo = l.cf p q hi lo := rfl
@[simp] theorem modSlot_cb (l : Live) (n m : Nat) (f : Slot → Slot) (p q b : Nat) : (l.modSlot n m f).cb p q b = l.cb p q b := rfl
@[simp] theorem modSlot_dom (l : Live) (n m : Nat) (f : Slot → Slot) (d : Nat) : (l.modSlot n m f).dom d = l.dom d := rfl
@[simp] theorem modSlot_working (l : Live) (n m : Nat) (f : Slot → Slot) : (l.modSlot n m f).working = l.working := rfl
@[simp] theorem modSlot_fwUp (l : Live) (n m : Nat) (f : Slot → Slot) : (l.modSlot n m f).fwUp = l.fwUp := rfl
@[simp] theorem modSlot_tick (l : Live) (n m : Nat) (f : Slot → Slot) : (l.modSlot n m f).tick = l.tick := rfl
@[simp] theorem modSlot_slot_same (l : Live) (n m : Nat) (f : Slot → Slot) : (l.modSlot n m f).slot n m = f (l.slot n m) := tget_tmod_same _ _ _ _
theorem modSlot_slot_other (l : Live) (n m : Nat) (f : Slot → Slot) (r s : Nat) (h : 32 * r + s ≠ 32 * n + m) : (l.modSlot n m f).slot r s = l.slot r s := tget_tmod_other _ _ _ _ _ h

/-! ### `modK` -/

@[simp] theorem modK_now (l : Live) (f : Keeper → Keeper) : (l.modK f).now = l.now := rfl
@[simp] theorem modK_bond (l : Live) (f : Keeper → Keeper) : (l.modK f).bond = l.bond := rfl
@[simp] theorem modK_bondAt (l : Live) (f : Keeper → Keeper) : (l.modK f).bondAt = l.bondAt := rfl
@[simp] theorem modK_bondOn (l : Live) (f : Keeper → Keeper) : (l.modK f).bondOn = l.bondOn := rfl
@[simp] theorem modK_pwr (l : Live) (f : Keeper → Keeper) : (l.modK f).pwr = l.pwr := rfl
@[simp] theorem modK_rings (l : Live) (f : Keeper → Keeper) : (l.modK f).rings = l.rings := rfl
@[simp] theorem modK_slots (l : Live) (f : Keeper → Keeper) : (l.modK f).slots = l.slots := rfl
@[simp] theorem modK_moor (l : Live) (f : Keeper → Keeper) : (l.modK f).moor = l.moor := rfl
@[simp] theorem modK_loop (l : Live) (f : Keeper → Keeper) : (l.modK f).loop = l.loop := rfl
@[simp] theorem modK_rails (l : Live) (f : Keeper → Keeper) : (l.modK f).rails = l.rails := rfl
@[simp] theorem modK_vcp (l : Live) (f : Keeper → Keeper) : (l.modK f).vcp = l.vcp := rfl
@[simp] theorem modK_vcr (l : Live) (f : Keeper → Keeper) : (l.modK f).vcr = l.vcr := rfl
@[simp] theorem modK_pp (l : Live) (f : Keeper → Keeper) : (l.modK f).pp = l.pp := rfl
@[simp] theorem modK_gauge (l : Live) (f : Keeper → Keeper) : (l.modK f).gauge = l.gauge := rfl
@[simp] theorem modK_therm (l : Live) (f : Keeper → Keeper) : (l.modK f).therm = l.therm := rfl
@[simp] theorem modK_fc (l : Live) (f : Keeper → Keeper) : (l.modK f).fc = l.fc := rfl
@[simp] theorem modK_img (l : Live) (f : Keeper → Keeper) : (l.modK f).img = l.img := rfl
@[simp] theorem modK_msgs (l : Live) (f : Keeper → Keeper) : (l.modK f).msgs = l.msgs := rfl
@[simp] theorem modK_ports (l : Live) (f : Keeper → Keeper) : (l.modK f).ports = l.ports := rfl
@[simp] theorem modK_recd (l : Live) (f : Keeper → Keeper) : (l.modK f).recd = l.recd := rfl
@[simp] theorem modK_sec (l : Live) (f : Keeper → Keeper) : (l.modK f).sec = l.sec := rfl
@[simp] theorem modK_adc (l : Live) (f : Keeper → Keeper) : (l.modK f).adc = l.adc := rfl
@[simp] theorem modK_pins (l : Live) (f : Keeper → Keeper) : (l.modK f).pins = l.pins := rfl
@[simp] theorem modK_host (l : Live) (f : Keeper → Keeper) : (l.modK f).host = l.host := rfl
@[simp] theorem modK_bondWrites (l : Live) (f : Keeper → Keeper) : (l.modK f).bondWrites = l.bondWrites := rfl
@[simp] theorem modK_w1c (l : Live) (f : Keeper → Keeper) : (l.modK f).w1c = l.w1c := rfl
@[simp] theorem modK_free (l : Live) (f : Keeper → Keeper) : (l.modK f).free = l.free := rfl
@[simp] theorem modK_ring (l : Live) (f : Keeper → Keeper) (k : Nat) : (l.modK f).ring k = l.ring k := rfl
@[simp] theorem modK_slot (l : Live) (f : Keeper → Keeper) (r s : Nat) : (l.modK f).slot r s = l.slot r s := rfl
@[simp] theorem modK_stn (l : Live) (f : Keeper → Keeper) (k : Nat) : (l.modK f).stn k = l.stn k := rfl
@[simp] theorem modK_tile (l : Live) (f : Keeper → Keeper) (k : Nat) : (l.modK f).tile k = l.tile k := rfl
@[simp] theorem modK_lane (l : Live) (f : Keeper → Keeper) (k : Nat) : (l.modK f).lane k = l.lane k := rfl
@[simp] theorem modK_rail (l : Live) (f : Keeper → Keeper) (k : Nat) : (l.modK f).rail k = l.rail k := rfl
@[simp] theorem modK_vp (l : Live) (f : Keeper → Keeper) (k : Nat) : (l.modK f).vp k = l.vp k := rfl
@[simp] theorem modK_vr (l : Live) (f : Keeper → Keeper) (k : Nat) : (l.modK f).vr k = l.vr k := rfl
@[simp] theorem modK_inp (l : Live) (f : Keeper → Keeper) (k : Nat) : (l.modK f).inp k = l.inp k := rfl
@[simp] theorem modK_str (l : Live) (f : Keeper → Keeper) (k : Nat) : (l.modK f).str k = l.str k := rfl
@[simp] theorem modK_point (l : Live) (f : Keeper → Keeper) (k : Nat) : (l.modK f).point k = l.point k := rfl
@[simp] theorem modK_block (l : Live) (f : Keeper → Keeper) (k : Nat) : (l.modK f).block k = l.block k := rfl
@[simp] theorem modK_sess (l : Live) (f : Keeper → Keeper) (k : Nat) : (l.modK f).sess k = l.sess k := rfl
@[simp] theorem modK_mport (l : Live) (f : Keeper → Keeper) (k : Nat) : (l.modK f).mport k = l.mport k := rfl
@[simp] theorem modK_pi (l : Live) (f : Keeper → Keeper) (k : Nat) : (l.modK f).pi k = l.pi k := rfl
@[simp] theorem modK_capSlot (l : Live) (f : Keeper → Keeper) (k : Nat) : (l.modK f).capSlot k = l.capSlot k := rfl
@[simp] theorem modK_trace (l : Live) (f : Keeper → Keeper) (k : Nat) : (l.modK f).trace k = l.trace k := rfl
@[simp] theorem modK_otpw (l : Live) (f : Keeper → Keeper) (k : Nat) : (l.modK f).otpw k = l.otpw k := rfl
@[simp] theorem modK_ctr (l : Live) (f : Keeper → Keeper) (k : Nat) : (l.modK f).ctr k = l.ctr k := rfl
@[simp] theorem modK_hw (l : Live) (f : Keeper → Keeper) (p q : Nat) : (l.modK f).hw p q = l.hw p q := rfl
@[simp] theorem modK_cw (l : Live) (f : Keeper → Keeper) (p q : Nat) : (l.modK f).cw p q = l.cw p q := rfl
@[simp] theorem modK_given (l : Live) (f : Keeper → Keeper) (p q : Nat) : (l.modK f).given p q = l.given p q := rfl
@[simp] theorem modK_cf (l : Live) (f : Keeper → Keeper) (p q hi lo : Nat) : (l.modK f).cf p q hi lo = l.cf p q hi lo := rfl
@[simp] theorem modK_cb (l : Live) (f : Keeper → Keeper) (p q b : Nat) : (l.modK f).cb p q b = l.cb p q b := rfl
@[simp] theorem modK_dom (l : Live) (f : Keeper → Keeper) (d : Nat) : (l.modK f).dom d = l.dom d := rfl
@[simp] theorem modK_working (l : Live) (f : Keeper → Keeper) : (l.modK f).working = l.working := rfl
@[simp] theorem modK_fwUp (l : Live) (f : Keeper → Keeper) : (l.modK f).fwUp = l.fwUp := rfl
@[simp] theorem modK_tick (l : Live) (f : Keeper → Keeper) : (l.modK f).tick = l.tick := rfl
@[simp] theorem modK_keeper (l : Live) (f : Keeper → Keeper) : (l.modK f).keeper = f l.keeper := rfl

/-! ### `modPwr` -/

@[simp] theorem modPwr_now (l : Live) (f : Pwr → Pwr) : (l.modPwr f).now = l.now := rfl
@[simp] theorem modPwr_bond (l : Live) (f : Pwr → Pwr) : (l.modPwr f).bond = l.bond := rfl
@[simp] theorem modPwr_bondAt (l : Live) (f : Pwr → Pwr) : (l.modPwr f).bondAt = l.bondAt := rfl
@[simp] theorem modPwr_bondOn (l : Live) (f : Pwr → Pwr) : (l.modPwr f).bondOn = l.bondOn := rfl
@[simp] theorem modPwr_rings (l : Live) (f : Pwr → Pwr) : (l.modPwr f).rings = l.rings := rfl
@[simp] theorem modPwr_slots (l : Live) (f : Pwr → Pwr) : (l.modPwr f).slots = l.slots := rfl
@[simp] theorem modPwr_moor (l : Live) (f : Pwr → Pwr) : (l.modPwr f).moor = l.moor := rfl
@[simp] theorem modPwr_loop (l : Live) (f : Pwr → Pwr) : (l.modPwr f).loop = l.loop := rfl
@[simp] theorem modPwr_rails (l : Live) (f : Pwr → Pwr) : (l.modPwr f).rails = l.rails := rfl
@[simp] theorem modPwr_vcp (l : Live) (f : Pwr → Pwr) : (l.modPwr f).vcp = l.vcp := rfl
@[simp] theorem modPwr_vcr (l : Live) (f : Pwr → Pwr) : (l.modPwr f).vcr = l.vcr := rfl
@[simp] theorem modPwr_pp (l : Live) (f : Pwr → Pwr) : (l.modPwr f).pp = l.pp := rfl
@[simp] theorem modPwr_gauge (l : Live) (f : Pwr → Pwr) : (l.modPwr f).gauge = l.gauge := rfl
@[simp] theorem modPwr_therm (l : Live) (f : Pwr → Pwr) : (l.modPwr f).therm = l.therm := rfl
@[simp] theorem modPwr_fc (l : Live) (f : Pwr → Pwr) : (l.modPwr f).fc = l.fc := rfl
@[simp] theorem modPwr_keeper (l : Live) (f : Pwr → Pwr) : (l.modPwr f).keeper = l.keeper := rfl
@[simp] theorem modPwr_img (l : Live) (f : Pwr → Pwr) : (l.modPwr f).img = l.img := rfl
@[simp] theorem modPwr_msgs (l : Live) (f : Pwr → Pwr) : (l.modPwr f).msgs = l.msgs := rfl
@[simp] theorem modPwr_ports (l : Live) (f : Pwr → Pwr) : (l.modPwr f).ports = l.ports := rfl
@[simp] theorem modPwr_recd (l : Live) (f : Pwr → Pwr) : (l.modPwr f).recd = l.recd := rfl
@[simp] theorem modPwr_sec (l : Live) (f : Pwr → Pwr) : (l.modPwr f).sec = l.sec := rfl
@[simp] theorem modPwr_adc (l : Live) (f : Pwr → Pwr) : (l.modPwr f).adc = l.adc := rfl
@[simp] theorem modPwr_pins (l : Live) (f : Pwr → Pwr) : (l.modPwr f).pins = l.pins := rfl
@[simp] theorem modPwr_host (l : Live) (f : Pwr → Pwr) : (l.modPwr f).host = l.host := rfl
@[simp] theorem modPwr_bondWrites (l : Live) (f : Pwr → Pwr) : (l.modPwr f).bondWrites = l.bondWrites := rfl
@[simp] theorem modPwr_w1c (l : Live) (f : Pwr → Pwr) : (l.modPwr f).w1c = l.w1c := rfl
@[simp] theorem modPwr_free (l : Live) (f : Pwr → Pwr) : (l.modPwr f).free = l.free := rfl
@[simp] theorem modPwr_ring (l : Live) (f : Pwr → Pwr) (k : Nat) : (l.modPwr f).ring k = l.ring k := rfl
@[simp] theorem modPwr_slot (l : Live) (f : Pwr → Pwr) (r s : Nat) : (l.modPwr f).slot r s = l.slot r s := rfl
@[simp] theorem modPwr_stn (l : Live) (f : Pwr → Pwr) (k : Nat) : (l.modPwr f).stn k = l.stn k := rfl
@[simp] theorem modPwr_tile (l : Live) (f : Pwr → Pwr) (k : Nat) : (l.modPwr f).tile k = l.tile k := rfl
@[simp] theorem modPwr_lane (l : Live) (f : Pwr → Pwr) (k : Nat) : (l.modPwr f).lane k = l.lane k := rfl
@[simp] theorem modPwr_rail (l : Live) (f : Pwr → Pwr) (k : Nat) : (l.modPwr f).rail k = l.rail k := rfl
@[simp] theorem modPwr_vp (l : Live) (f : Pwr → Pwr) (k : Nat) : (l.modPwr f).vp k = l.vp k := rfl
@[simp] theorem modPwr_vr (l : Live) (f : Pwr → Pwr) (k : Nat) : (l.modPwr f).vr k = l.vr k := rfl
@[simp] theorem modPwr_inp (l : Live) (f : Pwr → Pwr) (k : Nat) : (l.modPwr f).inp k = l.inp k := rfl
@[simp] theorem modPwr_str (l : Live) (f : Pwr → Pwr) (k : Nat) : (l.modPwr f).str k = l.str k := rfl
@[simp] theorem modPwr_point (l : Live) (f : Pwr → Pwr) (k : Nat) : (l.modPwr f).point k = l.point k := rfl
@[simp] theorem modPwr_block (l : Live) (f : Pwr → Pwr) (k : Nat) : (l.modPwr f).block k = l.block k := rfl
@[simp] theorem modPwr_sess (l : Live) (f : Pwr → Pwr) (k : Nat) : (l.modPwr f).sess k = l.sess k := rfl
@[simp] theorem modPwr_mport (l : Live) (f : Pwr → Pwr) (k : Nat) : (l.modPwr f).mport k = l.mport k := rfl
@[simp] theorem modPwr_pi (l : Live) (f : Pwr → Pwr) (k : Nat) : (l.modPwr f).pi k = l.pi k := rfl
@[simp] theorem modPwr_capSlot (l : Live) (f : Pwr → Pwr) (k : Nat) : (l.modPwr f).capSlot k = l.capSlot k := rfl
@[simp] theorem modPwr_trace (l : Live) (f : Pwr → Pwr) (k : Nat) : (l.modPwr f).trace k = l.trace k := rfl
@[simp] theorem modPwr_otpw (l : Live) (f : Pwr → Pwr) (k : Nat) : (l.modPwr f).otpw k = l.otpw k := rfl
@[simp] theorem modPwr_ctr (l : Live) (f : Pwr → Pwr) (k : Nat) : (l.modPwr f).ctr k = l.ctr k := rfl
@[simp] theorem modPwr_hw (l : Live) (f : Pwr → Pwr) (p q : Nat) : (l.modPwr f).hw p q = l.hw p q := rfl
@[simp] theorem modPwr_cw (l : Live) (f : Pwr → Pwr) (p q : Nat) : (l.modPwr f).cw p q = l.cw p q := rfl
@[simp] theorem modPwr_given (l : Live) (f : Pwr → Pwr) (p q : Nat) : (l.modPwr f).given p q = l.given p q := rfl
@[simp] theorem modPwr_cf (l : Live) (f : Pwr → Pwr) (p q hi lo : Nat) : (l.modPwr f).cf p q hi lo = l.cf p q hi lo := rfl
@[simp] theorem modPwr_cb (l : Live) (f : Pwr → Pwr) (p q b : Nat) : (l.modPwr f).cb p q b = l.cb p q b := rfl
@[simp] theorem modPwr_tick (l : Live) (f : Pwr → Pwr) : (l.modPwr f).tick = l.tick := rfl
@[simp] theorem modPwr_pwr (l : Live) (f : Pwr → Pwr) : (l.modPwr f).pwr = f l.pwr := rfl

/-! ### `modPp` -/

@[simp] theorem modPp_now (l : Live) (f : Power → Power) : (l.modPp f).now = l.now := rfl
@[simp] theorem modPp_bond (l : Live) (f : Power → Power) : (l.modPp f).bond = l.bond := rfl
@[simp] theorem modPp_bondAt (l : Live) (f : Power → Power) : (l.modPp f).bondAt = l.bondAt := rfl
@[simp] theorem modPp_bondOn (l : Live) (f : Power → Power) : (l.modPp f).bondOn = l.bondOn := rfl
@[simp] theorem modPp_pwr (l : Live) (f : Power → Power) : (l.modPp f).pwr = l.pwr := rfl
@[simp] theorem modPp_rings (l : Live) (f : Power → Power) : (l.modPp f).rings = l.rings := rfl
@[simp] theorem modPp_slots (l : Live) (f : Power → Power) : (l.modPp f).slots = l.slots := rfl
@[simp] theorem modPp_moor (l : Live) (f : Power → Power) : (l.modPp f).moor = l.moor := rfl
@[simp] theorem modPp_loop (l : Live) (f : Power → Power) : (l.modPp f).loop = l.loop := rfl
@[simp] theorem modPp_rails (l : Live) (f : Power → Power) : (l.modPp f).rails = l.rails := rfl
@[simp] theorem modPp_vcp (l : Live) (f : Power → Power) : (l.modPp f).vcp = l.vcp := rfl
@[simp] theorem modPp_vcr (l : Live) (f : Power → Power) : (l.modPp f).vcr = l.vcr := rfl
@[simp] theorem modPp_gauge (l : Live) (f : Power → Power) : (l.modPp f).gauge = l.gauge := rfl
@[simp] theorem modPp_therm (l : Live) (f : Power → Power) : (l.modPp f).therm = l.therm := rfl
@[simp] theorem modPp_fc (l : Live) (f : Power → Power) : (l.modPp f).fc = l.fc := rfl
@[simp] theorem modPp_keeper (l : Live) (f : Power → Power) : (l.modPp f).keeper = l.keeper := rfl
@[simp] theorem modPp_img (l : Live) (f : Power → Power) : (l.modPp f).img = l.img := rfl
@[simp] theorem modPp_msgs (l : Live) (f : Power → Power) : (l.modPp f).msgs = l.msgs := rfl
@[simp] theorem modPp_ports (l : Live) (f : Power → Power) : (l.modPp f).ports = l.ports := rfl
@[simp] theorem modPp_recd (l : Live) (f : Power → Power) : (l.modPp f).recd = l.recd := rfl
@[simp] theorem modPp_sec (l : Live) (f : Power → Power) : (l.modPp f).sec = l.sec := rfl
@[simp] theorem modPp_adc (l : Live) (f : Power → Power) : (l.modPp f).adc = l.adc := rfl
@[simp] theorem modPp_pins (l : Live) (f : Power → Power) : (l.modPp f).pins = l.pins := rfl
@[simp] theorem modPp_host (l : Live) (f : Power → Power) : (l.modPp f).host = l.host := rfl
@[simp] theorem modPp_bondWrites (l : Live) (f : Power → Power) : (l.modPp f).bondWrites = l.bondWrites := rfl
@[simp] theorem modPp_w1c (l : Live) (f : Power → Power) : (l.modPp f).w1c = l.w1c := rfl
@[simp] theorem modPp_free (l : Live) (f : Power → Power) : (l.modPp f).free = l.free := rfl
@[simp] theorem modPp_ring (l : Live) (f : Power → Power) (k : Nat) : (l.modPp f).ring k = l.ring k := rfl
@[simp] theorem modPp_slot (l : Live) (f : Power → Power) (r s : Nat) : (l.modPp f).slot r s = l.slot r s := rfl
@[simp] theorem modPp_stn (l : Live) (f : Power → Power) (k : Nat) : (l.modPp f).stn k = l.stn k := rfl
@[simp] theorem modPp_tile (l : Live) (f : Power → Power) (k : Nat) : (l.modPp f).tile k = l.tile k := rfl
@[simp] theorem modPp_lane (l : Live) (f : Power → Power) (k : Nat) : (l.modPp f).lane k = l.lane k := rfl
@[simp] theorem modPp_rail (l : Live) (f : Power → Power) (k : Nat) : (l.modPp f).rail k = l.rail k := rfl
@[simp] theorem modPp_vp (l : Live) (f : Power → Power) (k : Nat) : (l.modPp f).vp k = l.vp k := rfl
@[simp] theorem modPp_vr (l : Live) (f : Power → Power) (k : Nat) : (l.modPp f).vr k = l.vr k := rfl
@[simp] theorem modPp_str (l : Live) (f : Power → Power) (k : Nat) : (l.modPp f).str k = l.str k := rfl
@[simp] theorem modPp_point (l : Live) (f : Power → Power) (k : Nat) : (l.modPp f).point k = l.point k := rfl
@[simp] theorem modPp_block (l : Live) (f : Power → Power) (k : Nat) : (l.modPp f).block k = l.block k := rfl
@[simp] theorem modPp_sess (l : Live) (f : Power → Power) (k : Nat) : (l.modPp f).sess k = l.sess k := rfl
@[simp] theorem modPp_mport (l : Live) (f : Power → Power) (k : Nat) : (l.modPp f).mport k = l.mport k := rfl
@[simp] theorem modPp_pi (l : Live) (f : Power → Power) (k : Nat) : (l.modPp f).pi k = l.pi k := rfl
@[simp] theorem modPp_capSlot (l : Live) (f : Power → Power) (k : Nat) : (l.modPp f).capSlot k = l.capSlot k := rfl
@[simp] theorem modPp_trace (l : Live) (f : Power → Power) (k : Nat) : (l.modPp f).trace k = l.trace k := rfl
@[simp] theorem modPp_otpw (l : Live) (f : Power → Power) (k : Nat) : (l.modPp f).otpw k = l.otpw k := rfl
@[simp] theorem modPp_ctr (l : Live) (f : Power → Power) (k : Nat) : (l.modPp f).ctr k = l.ctr k := rfl
@[simp] theorem modPp_hw (l : Live) (f : Power → Power) (p q : Nat) : (l.modPp f).hw p q = l.hw p q := rfl
@[simp] theorem modPp_cw (l : Live) (f : Power → Power) (p q : Nat) : (l.modPp f).cw p q = l.cw p q := rfl
@[simp] theorem modPp_given (l : Live) (f : Power → Power) (p q : Nat) : (l.modPp f).given p q = l.given p q := rfl
@[simp] theorem modPp_cf (l : Live) (f : Power → Power) (p q hi lo : Nat) : (l.modPp f).cf p q hi lo = l.cf p q hi lo := rfl
@[simp] theorem modPp_cb (l : Live) (f : Power → Power) (p q b : Nat) : (l.modPp f).cb p q b = l.cb p q b := rfl
@[simp] theorem modPp_dom (l : Live) (f : Power → Power) (d : Nat) : (l.modPp f).dom d = l.dom d := rfl
@[simp] theorem modPp_working (l : Live) (f : Power → Power) : (l.modPp f).working = l.working := rfl
@[simp] theorem modPp_fwUp (l : Live) (f : Power → Power) : (l.modPp f).fwUp = l.fwUp := rfl
@[simp] theorem modPp_tick (l : Live) (f : Power → Power) : (l.modPp f).tick = l.tick := rfl
@[simp] theorem modPp_pp (l : Live) (f : Power → Power) : (l.modPp f).pp = f l.pp := rfl

/-! ### `modRec` -/

@[simp] theorem modRec_now (l : Live) (f : Recorder → Recorder) : (l.modRec f).now = l.now := rfl
@[simp] theorem modRec_bond (l : Live) (f : Recorder → Recorder) : (l.modRec f).bond = l.bond := rfl
@[simp] theorem modRec_bondAt (l : Live) (f : Recorder → Recorder) : (l.modRec f).bondAt = l.bondAt := rfl
@[simp] theorem modRec_bondOn (l : Live) (f : Recorder → Recorder) : (l.modRec f).bondOn = l.bondOn := rfl
@[simp] theorem modRec_pwr (l : Live) (f : Recorder → Recorder) : (l.modRec f).pwr = l.pwr := rfl
@[simp] theorem modRec_rings (l : Live) (f : Recorder → Recorder) : (l.modRec f).rings = l.rings := rfl
@[simp] theorem modRec_slots (l : Live) (f : Recorder → Recorder) : (l.modRec f).slots = l.slots := rfl
@[simp] theorem modRec_moor (l : Live) (f : Recorder → Recorder) : (l.modRec f).moor = l.moor := rfl
@[simp] theorem modRec_loop (l : Live) (f : Recorder → Recorder) : (l.modRec f).loop = l.loop := rfl
@[simp] theorem modRec_rails (l : Live) (f : Recorder → Recorder) : (l.modRec f).rails = l.rails := rfl
@[simp] theorem modRec_vcp (l : Live) (f : Recorder → Recorder) : (l.modRec f).vcp = l.vcp := rfl
@[simp] theorem modRec_vcr (l : Live) (f : Recorder → Recorder) : (l.modRec f).vcr = l.vcr := rfl
@[simp] theorem modRec_pp (l : Live) (f : Recorder → Recorder) : (l.modRec f).pp = l.pp := rfl
@[simp] theorem modRec_gauge (l : Live) (f : Recorder → Recorder) : (l.modRec f).gauge = l.gauge := rfl
@[simp] theorem modRec_therm (l : Live) (f : Recorder → Recorder) : (l.modRec f).therm = l.therm := rfl
@[simp] theorem modRec_fc (l : Live) (f : Recorder → Recorder) : (l.modRec f).fc = l.fc := rfl
@[simp] theorem modRec_keeper (l : Live) (f : Recorder → Recorder) : (l.modRec f).keeper = l.keeper := rfl
@[simp] theorem modRec_img (l : Live) (f : Recorder → Recorder) : (l.modRec f).img = l.img := rfl
@[simp] theorem modRec_msgs (l : Live) (f : Recorder → Recorder) : (l.modRec f).msgs = l.msgs := rfl
@[simp] theorem modRec_ports (l : Live) (f : Recorder → Recorder) : (l.modRec f).ports = l.ports := rfl
@[simp] theorem modRec_sec (l : Live) (f : Recorder → Recorder) : (l.modRec f).sec = l.sec := rfl
@[simp] theorem modRec_adc (l : Live) (f : Recorder → Recorder) : (l.modRec f).adc = l.adc := rfl
@[simp] theorem modRec_pins (l : Live) (f : Recorder → Recorder) : (l.modRec f).pins = l.pins := rfl
@[simp] theorem modRec_host (l : Live) (f : Recorder → Recorder) : (l.modRec f).host = l.host := rfl
@[simp] theorem modRec_bondWrites (l : Live) (f : Recorder → Recorder) : (l.modRec f).bondWrites = l.bondWrites := rfl
@[simp] theorem modRec_w1c (l : Live) (f : Recorder → Recorder) : (l.modRec f).w1c = l.w1c := rfl
@[simp] theorem modRec_free (l : Live) (f : Recorder → Recorder) : (l.modRec f).free = l.free := rfl
@[simp] theorem modRec_ring (l : Live) (f : Recorder → Recorder) (k : Nat) : (l.modRec f).ring k = l.ring k := rfl
@[simp] theorem modRec_slot (l : Live) (f : Recorder → Recorder) (r s : Nat) : (l.modRec f).slot r s = l.slot r s := rfl
@[simp] theorem modRec_stn (l : Live) (f : Recorder → Recorder) (k : Nat) : (l.modRec f).stn k = l.stn k := rfl
@[simp] theorem modRec_tile (l : Live) (f : Recorder → Recorder) (k : Nat) : (l.modRec f).tile k = l.tile k := rfl
@[simp] theorem modRec_lane (l : Live) (f : Recorder → Recorder) (k : Nat) : (l.modRec f).lane k = l.lane k := rfl
@[simp] theorem modRec_rail (l : Live) (f : Recorder → Recorder) (k : Nat) : (l.modRec f).rail k = l.rail k := rfl
@[simp] theorem modRec_vp (l : Live) (f : Recorder → Recorder) (k : Nat) : (l.modRec f).vp k = l.vp k := rfl
@[simp] theorem modRec_vr (l : Live) (f : Recorder → Recorder) (k : Nat) : (l.modRec f).vr k = l.vr k := rfl
@[simp] theorem modRec_inp (l : Live) (f : Recorder → Recorder) (k : Nat) : (l.modRec f).inp k = l.inp k := rfl
@[simp] theorem modRec_str (l : Live) (f : Recorder → Recorder) (k : Nat) : (l.modRec f).str k = l.str k := rfl
@[simp] theorem modRec_point (l : Live) (f : Recorder → Recorder) (k : Nat) : (l.modRec f).point k = l.point k := rfl
@[simp] theorem modRec_block (l : Live) (f : Recorder → Recorder) (k : Nat) : (l.modRec f).block k = l.block k := rfl
@[simp] theorem modRec_sess (l : Live) (f : Recorder → Recorder) (k : Nat) : (l.modRec f).sess k = l.sess k := rfl
@[simp] theorem modRec_mport (l : Live) (f : Recorder → Recorder) (k : Nat) : (l.modRec f).mport k = l.mport k := rfl
@[simp] theorem modRec_pi (l : Live) (f : Recorder → Recorder) (k : Nat) : (l.modRec f).pi k = l.pi k := rfl
@[simp] theorem modRec_otpw (l : Live) (f : Recorder → Recorder) (k : Nat) : (l.modRec f).otpw k = l.otpw k := rfl
@[simp] theorem modRec_hw (l : Live) (f : Recorder → Recorder) (p q : Nat) : (l.modRec f).hw p q = l.hw p q := rfl
@[simp] theorem modRec_cw (l : Live) (f : Recorder → Recorder) (p q : Nat) : (l.modRec f).cw p q = l.cw p q := rfl
@[simp] theorem modRec_given (l : Live) (f : Recorder → Recorder) (p q : Nat) : (l.modRec f).given p q = l.given p q := rfl
@[simp] theorem modRec_cf (l : Live) (f : Recorder → Recorder) (p q hi lo : Nat) : (l.modRec f).cf p q hi lo = l.cf p q hi lo := rfl
@[simp] theorem modRec_cb (l : Live) (f : Recorder → Recorder) (p q b : Nat) : (l.modRec f).cb p q b = l.cb p q b := rfl
@[simp] theorem modRec_dom (l : Live) (f : Recorder → Recorder) (d : Nat) : (l.modRec f).dom d = l.dom d := rfl
@[simp] theorem modRec_working (l : Live) (f : Recorder → Recorder) : (l.modRec f).working = l.working := rfl
@[simp] theorem modRec_fwUp (l : Live) (f : Recorder → Recorder) : (l.modRec f).fwUp = l.fwUp := rfl
@[simp] theorem modRec_tick (l : Live) (f : Recorder → Recorder) : (l.modRec f).tick = l.tick := rfl
@[simp] theorem modRec_recd (l : Live) (f : Recorder → Recorder) : (l.modRec f).recd = f l.recd := rfl

/-! ### `modFc` -/

@[simp] theorem modFc_now (l : Live) (f : Fc → Fc) : (l.modFc f).now = l.now := rfl
@[simp] theorem modFc_bond (l : Live) (f : Fc → Fc) : (l.modFc f).bond = l.bond := rfl
@[simp] theorem modFc_bondAt (l : Live) (f : Fc → Fc) : (l.modFc f).bondAt = l.bondAt := rfl
@[simp] theorem modFc_bondOn (l : Live) (f : Fc → Fc) : (l.modFc f).bondOn = l.bondOn := rfl
@[simp] theorem modFc_pwr (l : Live) (f : Fc → Fc) : (l.modFc f).pwr = l.pwr := rfl
@[simp] theorem modFc_rings (l : Live) (f : Fc → Fc) : (l.modFc f).rings = l.rings := rfl
@[simp] theorem modFc_slots (l : Live) (f : Fc → Fc) : (l.modFc f).slots = l.slots := rfl
@[simp] theorem modFc_moor (l : Live) (f : Fc → Fc) : (l.modFc f).moor = l.moor := rfl
@[simp] theorem modFc_loop (l : Live) (f : Fc → Fc) : (l.modFc f).loop = l.loop := rfl
@[simp] theorem modFc_rails (l : Live) (f : Fc → Fc) : (l.modFc f).rails = l.rails := rfl
@[simp] theorem modFc_vcp (l : Live) (f : Fc → Fc) : (l.modFc f).vcp = l.vcp := rfl
@[simp] theorem modFc_vcr (l : Live) (f : Fc → Fc) : (l.modFc f).vcr = l.vcr := rfl
@[simp] theorem modFc_pp (l : Live) (f : Fc → Fc) : (l.modFc f).pp = l.pp := rfl
@[simp] theorem modFc_gauge (l : Live) (f : Fc → Fc) : (l.modFc f).gauge = l.gauge := rfl
@[simp] theorem modFc_therm (l : Live) (f : Fc → Fc) : (l.modFc f).therm = l.therm := rfl
@[simp] theorem modFc_keeper (l : Live) (f : Fc → Fc) : (l.modFc f).keeper = l.keeper := rfl
@[simp] theorem modFc_img (l : Live) (f : Fc → Fc) : (l.modFc f).img = l.img := rfl
@[simp] theorem modFc_msgs (l : Live) (f : Fc → Fc) : (l.modFc f).msgs = l.msgs := rfl
@[simp] theorem modFc_ports (l : Live) (f : Fc → Fc) : (l.modFc f).ports = l.ports := rfl
@[simp] theorem modFc_recd (l : Live) (f : Fc → Fc) : (l.modFc f).recd = l.recd := rfl
@[simp] theorem modFc_sec (l : Live) (f : Fc → Fc) : (l.modFc f).sec = l.sec := rfl
@[simp] theorem modFc_adc (l : Live) (f : Fc → Fc) : (l.modFc f).adc = l.adc := rfl
@[simp] theorem modFc_pins (l : Live) (f : Fc → Fc) : (l.modFc f).pins = l.pins := rfl
@[simp] theorem modFc_host (l : Live) (f : Fc → Fc) : (l.modFc f).host = l.host := rfl
@[simp] theorem modFc_bondWrites (l : Live) (f : Fc → Fc) : (l.modFc f).bondWrites = l.bondWrites := rfl
@[simp] theorem modFc_w1c (l : Live) (f : Fc → Fc) : (l.modFc f).w1c = l.w1c := rfl
@[simp] theorem modFc_free (l : Live) (f : Fc → Fc) : (l.modFc f).free = l.free := rfl
@[simp] theorem modFc_ring (l : Live) (f : Fc → Fc) (k : Nat) : (l.modFc f).ring k = l.ring k := rfl
@[simp] theorem modFc_slot (l : Live) (f : Fc → Fc) (r s : Nat) : (l.modFc f).slot r s = l.slot r s := rfl
@[simp] theorem modFc_stn (l : Live) (f : Fc → Fc) (k : Nat) : (l.modFc f).stn k = l.stn k := rfl
@[simp] theorem modFc_tile (l : Live) (f : Fc → Fc) (k : Nat) : (l.modFc f).tile k = l.tile k := rfl
@[simp] theorem modFc_lane (l : Live) (f : Fc → Fc) (k : Nat) : (l.modFc f).lane k = l.lane k := rfl
@[simp] theorem modFc_rail (l : Live) (f : Fc → Fc) (k : Nat) : (l.modFc f).rail k = l.rail k := rfl
@[simp] theorem modFc_vp (l : Live) (f : Fc → Fc) (k : Nat) : (l.modFc f).vp k = l.vp k := rfl
@[simp] theorem modFc_vr (l : Live) (f : Fc → Fc) (k : Nat) : (l.modFc f).vr k = l.vr k := rfl
@[simp] theorem modFc_inp (l : Live) (f : Fc → Fc) (k : Nat) : (l.modFc f).inp k = l.inp k := rfl
@[simp] theorem modFc_str (l : Live) (f : Fc → Fc) (k : Nat) : (l.modFc f).str k = l.str k := rfl
@[simp] theorem modFc_point (l : Live) (f : Fc → Fc) (k : Nat) : (l.modFc f).point k = l.point k := rfl
@[simp] theorem modFc_sess (l : Live) (f : Fc → Fc) (k : Nat) : (l.modFc f).sess k = l.sess k := rfl
@[simp] theorem modFc_mport (l : Live) (f : Fc → Fc) (k : Nat) : (l.modFc f).mport k = l.mport k := rfl
@[simp] theorem modFc_pi (l : Live) (f : Fc → Fc) (k : Nat) : (l.modFc f).pi k = l.pi k := rfl
@[simp] theorem modFc_capSlot (l : Live) (f : Fc → Fc) (k : Nat) : (l.modFc f).capSlot k = l.capSlot k := rfl
@[simp] theorem modFc_trace (l : Live) (f : Fc → Fc) (k : Nat) : (l.modFc f).trace k = l.trace k := rfl
@[simp] theorem modFc_otpw (l : Live) (f : Fc → Fc) (k : Nat) : (l.modFc f).otpw k = l.otpw k := rfl
@[simp] theorem modFc_ctr (l : Live) (f : Fc → Fc) (k : Nat) : (l.modFc f).ctr k = l.ctr k := rfl
@[simp] theorem modFc_hw (l : Live) (f : Fc → Fc) (p q : Nat) : (l.modFc f).hw p q = l.hw p q := rfl
@[simp] theorem modFc_cw (l : Live) (f : Fc → Fc) (p q : Nat) : (l.modFc f).cw p q = l.cw p q := rfl
@[simp] theorem modFc_given (l : Live) (f : Fc → Fc) (p q : Nat) : (l.modFc f).given p q = l.given p q := rfl
@[simp] theorem modFc_cf (l : Live) (f : Fc → Fc) (p q hi lo : Nat) : (l.modFc f).cf p q hi lo = l.cf p q hi lo := rfl
@[simp] theorem modFc_cb (l : Live) (f : Fc → Fc) (p q b : Nat) : (l.modFc f).cb p q b = l.cb p q b := rfl
@[simp] theorem modFc_dom (l : Live) (f : Fc → Fc) (d : Nat) : (l.modFc f).dom d = l.dom d := rfl
@[simp] theorem modFc_working (l : Live) (f : Fc → Fc) : (l.modFc f).working = l.working := rfl
@[simp] theorem modFc_fwUp (l : Live) (f : Fc → Fc) : (l.modFc f).fwUp = l.fwUp := rfl
@[simp] theorem modFc_tick (l : Live) (f : Fc → Fc) : (l.modFc f).tick = l.tick := rfl
@[simp] theorem modFc_fc (l : Live) (f : Fc → Fc) : (l.modFc f).fc = f l.fc := rfl

/-! ### `modSec` -/

@[simp] theorem modSec_now (l : Live) (f : Sec → Sec) : (l.modSec f).now = l.now := rfl
@[simp] theorem modSec_bond (l : Live) (f : Sec → Sec) : (l.modSec f).bond = l.bond := rfl
@[simp] theorem modSec_bondAt (l : Live) (f : Sec → Sec) : (l.modSec f).bondAt = l.bondAt := rfl
@[simp] theorem modSec_bondOn (l : Live) (f : Sec → Sec) : (l.modSec f).bondOn = l.bondOn := rfl
@[simp] theorem modSec_pwr (l : Live) (f : Sec → Sec) : (l.modSec f).pwr = l.pwr := rfl
@[simp] theorem modSec_rings (l : Live) (f : Sec → Sec) : (l.modSec f).rings = l.rings := rfl
@[simp] theorem modSec_slots (l : Live) (f : Sec → Sec) : (l.modSec f).slots = l.slots := rfl
@[simp] theorem modSec_moor (l : Live) (f : Sec → Sec) : (l.modSec f).moor = l.moor := rfl
@[simp] theorem modSec_loop (l : Live) (f : Sec → Sec) : (l.modSec f).loop = l.loop := rfl
@[simp] theorem modSec_rails (l : Live) (f : Sec → Sec) : (l.modSec f).rails = l.rails := rfl
@[simp] theorem modSec_vcp (l : Live) (f : Sec → Sec) : (l.modSec f).vcp = l.vcp := rfl
@[simp] theorem modSec_vcr (l : Live) (f : Sec → Sec) : (l.modSec f).vcr = l.vcr := rfl
@[simp] theorem modSec_pp (l : Live) (f : Sec → Sec) : (l.modSec f).pp = l.pp := rfl
@[simp] theorem modSec_gauge (l : Live) (f : Sec → Sec) : (l.modSec f).gauge = l.gauge := rfl
@[simp] theorem modSec_therm (l : Live) (f : Sec → Sec) : (l.modSec f).therm = l.therm := rfl
@[simp] theorem modSec_fc (l : Live) (f : Sec → Sec) : (l.modSec f).fc = l.fc := rfl
@[simp] theorem modSec_keeper (l : Live) (f : Sec → Sec) : (l.modSec f).keeper = l.keeper := rfl
@[simp] theorem modSec_img (l : Live) (f : Sec → Sec) : (l.modSec f).img = l.img := rfl
@[simp] theorem modSec_msgs (l : Live) (f : Sec → Sec) : (l.modSec f).msgs = l.msgs := rfl
@[simp] theorem modSec_ports (l : Live) (f : Sec → Sec) : (l.modSec f).ports = l.ports := rfl
@[simp] theorem modSec_recd (l : Live) (f : Sec → Sec) : (l.modSec f).recd = l.recd := rfl
@[simp] theorem modSec_adc (l : Live) (f : Sec → Sec) : (l.modSec f).adc = l.adc := rfl
@[simp] theorem modSec_pins (l : Live) (f : Sec → Sec) : (l.modSec f).pins = l.pins := rfl
@[simp] theorem modSec_host (l : Live) (f : Sec → Sec) : (l.modSec f).host = l.host := rfl
@[simp] theorem modSec_bondWrites (l : Live) (f : Sec → Sec) : (l.modSec f).bondWrites = l.bondWrites := rfl
@[simp] theorem modSec_w1c (l : Live) (f : Sec → Sec) : (l.modSec f).w1c = l.w1c := rfl
@[simp] theorem modSec_free (l : Live) (f : Sec → Sec) : (l.modSec f).free = l.free := rfl
@[simp] theorem modSec_ring (l : Live) (f : Sec → Sec) (k : Nat) : (l.modSec f).ring k = l.ring k := rfl
@[simp] theorem modSec_slot (l : Live) (f : Sec → Sec) (r s : Nat) : (l.modSec f).slot r s = l.slot r s := rfl
@[simp] theorem modSec_stn (l : Live) (f : Sec → Sec) (k : Nat) : (l.modSec f).stn k = l.stn k := rfl
@[simp] theorem modSec_tile (l : Live) (f : Sec → Sec) (k : Nat) : (l.modSec f).tile k = l.tile k := rfl
@[simp] theorem modSec_lane (l : Live) (f : Sec → Sec) (k : Nat) : (l.modSec f).lane k = l.lane k := rfl
@[simp] theorem modSec_rail (l : Live) (f : Sec → Sec) (k : Nat) : (l.modSec f).rail k = l.rail k := rfl
@[simp] theorem modSec_vp (l : Live) (f : Sec → Sec) (k : Nat) : (l.modSec f).vp k = l.vp k := rfl
@[simp] theorem modSec_vr (l : Live) (f : Sec → Sec) (k : Nat) : (l.modSec f).vr k = l.vr k := rfl
@[simp] theorem modSec_inp (l : Live) (f : Sec → Sec) (k : Nat) : (l.modSec f).inp k = l.inp k := rfl
@[simp] theorem modSec_str (l : Live) (f : Sec → Sec) (k : Nat) : (l.modSec f).str k = l.str k := rfl
@[simp] theorem modSec_point (l : Live) (f : Sec → Sec) (k : Nat) : (l.modSec f).point k = l.point k := rfl
@[simp] theorem modSec_block (l : Live) (f : Sec → Sec) (k : Nat) : (l.modSec f).block k = l.block k := rfl
@[simp] theorem modSec_sess (l : Live) (f : Sec → Sec) (k : Nat) : (l.modSec f).sess k = l.sess k := rfl
@[simp] theorem modSec_mport (l : Live) (f : Sec → Sec) (k : Nat) : (l.modSec f).mport k = l.mport k := rfl
@[simp] theorem modSec_pi (l : Live) (f : Sec → Sec) (k : Nat) : (l.modSec f).pi k = l.pi k := rfl
@[simp] theorem modSec_capSlot (l : Live) (f : Sec → Sec) (k : Nat) : (l.modSec f).capSlot k = l.capSlot k := rfl
@[simp] theorem modSec_trace (l : Live) (f : Sec → Sec) (k : Nat) : (l.modSec f).trace k = l.trace k := rfl
@[simp] theorem modSec_ctr (l : Live) (f : Sec → Sec) (k : Nat) : (l.modSec f).ctr k = l.ctr k := rfl
@[simp] theorem modSec_hw (l : Live) (f : Sec → Sec) (p q : Nat) : (l.modSec f).hw p q = l.hw p q := rfl
@[simp] theorem modSec_cw (l : Live) (f : Sec → Sec) (p q : Nat) : (l.modSec f).cw p q = l.cw p q := rfl
@[simp] theorem modSec_given (l : Live) (f : Sec → Sec) (p q : Nat) : (l.modSec f).given p q = l.given p q := rfl
@[simp] theorem modSec_cf (l : Live) (f : Sec → Sec) (p q hi lo : Nat) : (l.modSec f).cf p q hi lo = l.cf p q hi lo := rfl
@[simp] theorem modSec_cb (l : Live) (f : Sec → Sec) (p q b : Nat) : (l.modSec f).cb p q b = l.cb p q b := rfl
@[simp] theorem modSec_dom (l : Live) (f : Sec → Sec) (d : Nat) : (l.modSec f).dom d = l.dom d := rfl
@[simp] theorem modSec_working (l : Live) (f : Sec → Sec) : (l.modSec f).working = l.working := rfl
@[simp] theorem modSec_fwUp (l : Live) (f : Sec → Sec) : (l.modSec f).fwUp = l.fwUp := rfl
@[simp] theorem modSec_tick (l : Live) (f : Sec → Sec) : (l.modSec f).tick = l.tick := rfl
@[simp] theorem modSec_sec (l : Live) (f : Sec → Sec) : (l.modSec f).sec = f l.sec := rfl

/-! ### `modLoop` -/

@[simp] theorem modLoop_now (l : Live) (f : Loop → Loop) : (l.modLoop f).now = l.now := rfl
@[simp] theorem modLoop_bond (l : Live) (f : Loop → Loop) : (l.modLoop f).bond = l.bond := rfl
@[simp] theorem modLoop_bondAt (l : Live) (f : Loop → Loop) : (l.modLoop f).bondAt = l.bondAt := rfl
@[simp] theorem modLoop_bondOn (l : Live) (f : Loop → Loop) : (l.modLoop f).bondOn = l.bondOn := rfl
@[simp] theorem modLoop_pwr (l : Live) (f : Loop → Loop) : (l.modLoop f).pwr = l.pwr := rfl
@[simp] theorem modLoop_rings (l : Live) (f : Loop → Loop) : (l.modLoop f).rings = l.rings := rfl
@[simp] theorem modLoop_slots (l : Live) (f : Loop → Loop) : (l.modLoop f).slots = l.slots := rfl
@[simp] theorem modLoop_moor (l : Live) (f : Loop → Loop) : (l.modLoop f).moor = l.moor := rfl
@[simp] theorem modLoop_rails (l : Live) (f : Loop → Loop) : (l.modLoop f).rails = l.rails := rfl
@[simp] theorem modLoop_vcp (l : Live) (f : Loop → Loop) : (l.modLoop f).vcp = l.vcp := rfl
@[simp] theorem modLoop_vcr (l : Live) (f : Loop → Loop) : (l.modLoop f).vcr = l.vcr := rfl
@[simp] theorem modLoop_pp (l : Live) (f : Loop → Loop) : (l.modLoop f).pp = l.pp := rfl
@[simp] theorem modLoop_gauge (l : Live) (f : Loop → Loop) : (l.modLoop f).gauge = l.gauge := rfl
@[simp] theorem modLoop_therm (l : Live) (f : Loop → Loop) : (l.modLoop f).therm = l.therm := rfl
@[simp] theorem modLoop_fc (l : Live) (f : Loop → Loop) : (l.modLoop f).fc = l.fc := rfl
@[simp] theorem modLoop_keeper (l : Live) (f : Loop → Loop) : (l.modLoop f).keeper = l.keeper := rfl
@[simp] theorem modLoop_img (l : Live) (f : Loop → Loop) : (l.modLoop f).img = l.img := rfl
@[simp] theorem modLoop_msgs (l : Live) (f : Loop → Loop) : (l.modLoop f).msgs = l.msgs := rfl
@[simp] theorem modLoop_ports (l : Live) (f : Loop → Loop) : (l.modLoop f).ports = l.ports := rfl
@[simp] theorem modLoop_recd (l : Live) (f : Loop → Loop) : (l.modLoop f).recd = l.recd := rfl
@[simp] theorem modLoop_sec (l : Live) (f : Loop → Loop) : (l.modLoop f).sec = l.sec := rfl
@[simp] theorem modLoop_adc (l : Live) (f : Loop → Loop) : (l.modLoop f).adc = l.adc := rfl
@[simp] theorem modLoop_pins (l : Live) (f : Loop → Loop) : (l.modLoop f).pins = l.pins := rfl
@[simp] theorem modLoop_host (l : Live) (f : Loop → Loop) : (l.modLoop f).host = l.host := rfl
@[simp] theorem modLoop_bondWrites (l : Live) (f : Loop → Loop) : (l.modLoop f).bondWrites = l.bondWrites := rfl
@[simp] theorem modLoop_w1c (l : Live) (f : Loop → Loop) : (l.modLoop f).w1c = l.w1c := rfl
@[simp] theorem modLoop_free (l : Live) (f : Loop → Loop) : (l.modLoop f).free = l.free := rfl
@[simp] theorem modLoop_ring (l : Live) (f : Loop → Loop) (k : Nat) : (l.modLoop f).ring k = l.ring k := rfl
@[simp] theorem modLoop_slot (l : Live) (f : Loop → Loop) (r s : Nat) : (l.modLoop f).slot r s = l.slot r s := rfl
@[simp] theorem modLoop_stn (l : Live) (f : Loop → Loop) (k : Nat) : (l.modLoop f).stn k = l.stn k := rfl
@[simp] theorem modLoop_rail (l : Live) (f : Loop → Loop) (k : Nat) : (l.modLoop f).rail k = l.rail k := rfl
@[simp] theorem modLoop_vp (l : Live) (f : Loop → Loop) (k : Nat) : (l.modLoop f).vp k = l.vp k := rfl
@[simp] theorem modLoop_vr (l : Live) (f : Loop → Loop) (k : Nat) : (l.modLoop f).vr k = l.vr k := rfl
@[simp] theorem modLoop_inp (l : Live) (f : Loop → Loop) (k : Nat) : (l.modLoop f).inp k = l.inp k := rfl
@[simp] theorem modLoop_str (l : Live) (f : Loop → Loop) (k : Nat) : (l.modLoop f).str k = l.str k := rfl
@[simp] theorem modLoop_point (l : Live) (f : Loop → Loop) (k : Nat) : (l.modLoop f).point k = l.point k := rfl
@[simp] theorem modLoop_block (l : Live) (f : Loop → Loop) (k : Nat) : (l.modLoop f).block k = l.block k := rfl
@[simp] theorem modLoop_sess (l : Live) (f : Loop → Loop) (k : Nat) : (l.modLoop f).sess k = l.sess k := rfl
@[simp] theorem modLoop_mport (l : Live) (f : Loop → Loop) (k : Nat) : (l.modLoop f).mport k = l.mport k := rfl
@[simp] theorem modLoop_pi (l : Live) (f : Loop → Loop) (k : Nat) : (l.modLoop f).pi k = l.pi k := rfl
@[simp] theorem modLoop_capSlot (l : Live) (f : Loop → Loop) (k : Nat) : (l.modLoop f).capSlot k = l.capSlot k := rfl
@[simp] theorem modLoop_trace (l : Live) (f : Loop → Loop) (k : Nat) : (l.modLoop f).trace k = l.trace k := rfl
@[simp] theorem modLoop_otpw (l : Live) (f : Loop → Loop) (k : Nat) : (l.modLoop f).otpw k = l.otpw k := rfl
@[simp] theorem modLoop_ctr (l : Live) (f : Loop → Loop) (k : Nat) : (l.modLoop f).ctr k = l.ctr k := rfl
@[simp] theorem modLoop_hw (l : Live) (f : Loop → Loop) (p q : Nat) : (l.modLoop f).hw p q = l.hw p q := rfl
@[simp] theorem modLoop_cw (l : Live) (f : Loop → Loop) (p q : Nat) : (l.modLoop f).cw p q = l.cw p q := rfl
@[simp] theorem modLoop_given (l : Live) (f : Loop → Loop) (p q : Nat) : (l.modLoop f).given p q = l.given p q := rfl
@[simp] theorem modLoop_cf (l : Live) (f : Loop → Loop) (p q hi lo : Nat) : (l.modLoop f).cf p q hi lo = l.cf p q hi lo := rfl
@[simp] theorem modLoop_cb (l : Live) (f : Loop → Loop) (p q b : Nat) : (l.modLoop f).cb p q b = l.cb p q b := rfl
@[simp] theorem modLoop_dom (l : Live) (f : Loop → Loop) (d : Nat) : (l.modLoop f).dom d = l.dom d := rfl
@[simp] theorem modLoop_working (l : Live) (f : Loop → Loop) : (l.modLoop f).working = l.working := rfl
@[simp] theorem modLoop_fwUp (l : Live) (f : Loop → Loop) : (l.modLoop f).fwUp = l.fwUp := rfl
@[simp] theorem modLoop_tick (l : Live) (f : Loop → Loop) : (l.modLoop f).tick = l.tick := rfl
@[simp] theorem modLoop_loop (l : Live) (f : Loop → Loop) : (l.modLoop f).loop = f l.loop := rfl

/-! ### `modTxn` -/

@[simp] theorem modTxn_now (l : Live) (f : Txn → Txn) : (l.modTxn f).now = l.now := rfl
@[simp] theorem modTxn_bond (l : Live) (f : Txn → Txn) : (l.modTxn f).bond = l.bond := rfl
@[simp] theorem modTxn_bondAt (l : Live) (f : Txn → Txn) : (l.modTxn f).bondAt = l.bondAt := rfl
@[simp] theorem modTxn_bondOn (l : Live) (f : Txn → Txn) : (l.modTxn f).bondOn = l.bondOn := rfl
@[simp] theorem modTxn_pwr (l : Live) (f : Txn → Txn) : (l.modTxn f).pwr = l.pwr := rfl
@[simp] theorem modTxn_rings (l : Live) (f : Txn → Txn) : (l.modTxn f).rings = l.rings := rfl
@[simp] theorem modTxn_slots (l : Live) (f : Txn → Txn) : (l.modTxn f).slots = l.slots := rfl
@[simp] theorem modTxn_moor (l : Live) (f : Txn → Txn) : (l.modTxn f).moor = l.moor := rfl
@[simp] theorem modTxn_loop (l : Live) (f : Txn → Txn) : (l.modTxn f).loop = l.loop := rfl
@[simp] theorem modTxn_rails (l : Live) (f : Txn → Txn) : (l.modTxn f).rails = l.rails := rfl
@[simp] theorem modTxn_vcp (l : Live) (f : Txn → Txn) : (l.modTxn f).vcp = l.vcp := rfl
@[simp] theorem modTxn_vcr (l : Live) (f : Txn → Txn) : (l.modTxn f).vcr = l.vcr := rfl
@[simp] theorem modTxn_pp (l : Live) (f : Txn → Txn) : (l.modTxn f).pp = l.pp := rfl
@[simp] theorem modTxn_gauge (l : Live) (f : Txn → Txn) : (l.modTxn f).gauge = l.gauge := rfl
@[simp] theorem modTxn_therm (l : Live) (f : Txn → Txn) : (l.modTxn f).therm = l.therm := rfl
@[simp] theorem modTxn_fc (l : Live) (f : Txn → Txn) : (l.modTxn f).fc = l.fc := rfl
@[simp] theorem modTxn_keeper (l : Live) (f : Txn → Txn) : (l.modTxn f).keeper = l.keeper := rfl
@[simp] theorem modTxn_msgs (l : Live) (f : Txn → Txn) : (l.modTxn f).msgs = l.msgs := rfl
@[simp] theorem modTxn_ports (l : Live) (f : Txn → Txn) : (l.modTxn f).ports = l.ports := rfl
@[simp] theorem modTxn_recd (l : Live) (f : Txn → Txn) : (l.modTxn f).recd = l.recd := rfl
@[simp] theorem modTxn_sec (l : Live) (f : Txn → Txn) : (l.modTxn f).sec = l.sec := rfl
@[simp] theorem modTxn_adc (l : Live) (f : Txn → Txn) : (l.modTxn f).adc = l.adc := rfl
@[simp] theorem modTxn_pins (l : Live) (f : Txn → Txn) : (l.modTxn f).pins = l.pins := rfl
@[simp] theorem modTxn_host (l : Live) (f : Txn → Txn) : (l.modTxn f).host = l.host := rfl
@[simp] theorem modTxn_bondWrites (l : Live) (f : Txn → Txn) : (l.modTxn f).bondWrites = l.bondWrites := rfl
@[simp] theorem modTxn_w1c (l : Live) (f : Txn → Txn) : (l.modTxn f).w1c = l.w1c := rfl
@[simp] theorem modTxn_free (l : Live) (f : Txn → Txn) : (l.modTxn f).free = l.free := rfl
@[simp] theorem modTxn_img_cur (l : Live) (f : Txn → Txn) : (l.modTxn f).img.cur = l.img.cur := rfl
@[simp] theorem modTxn_img_slot (l : Live) (f : Txn → Txn) : (l.modTxn f).img.slot = l.img.slot := rfl
@[simp] theorem modTxn_img_slots (l : Live) (f : Txn → Txn) : (l.modTxn f).img.slots = l.img.slots := rfl
@[simp] theorem modTxn_img_atStart (l : Live) (f : Txn → Txn) : (l.modTxn f).img.atStart = l.img.atStart := rfl
@[simp] theorem modTxn_img_iactb (l : Live) (f : Txn → Txn) : (l.modTxn f).img.iactb = l.img.iactb := rfl
@[simp] theorem modTxn_img_lseq (l : Live) (f : Txn → Txn) : (l.modTxn f).img.lseq = l.img.lseq := rfl
@[simp] theorem modTxn_ring (l : Live) (f : Txn → Txn) (k : Nat) : (l.modTxn f).ring k = l.ring k := rfl
@[simp] theorem modTxn_slot (l : Live) (f : Txn → Txn) (r s : Nat) : (l.modTxn f).slot r s = l.slot r s := rfl
@[simp] theorem modTxn_stn (l : Live) (f : Txn → Txn) (k : Nat) : (l.modTxn f).stn k = l.stn k := rfl
@[simp] theorem modTxn_tile (l : Live) (f : Txn → Txn) (k : Nat) : (l.modTxn f).tile k = l.tile k := rfl
@[simp] theorem modTxn_lane (l : Live) (f : Txn → Txn) (k : Nat) : (l.modTxn f).lane k = l.lane k := rfl
@[simp] theorem modTxn_rail (l : Live) (f : Txn → Txn) (k : Nat) : (l.modTxn f).rail k = l.rail k := rfl
@[simp] theorem modTxn_vp (l : Live) (f : Txn → Txn) (k : Nat) : (l.modTxn f).vp k = l.vp k := rfl
@[simp] theorem modTxn_vr (l : Live) (f : Txn → Txn) (k : Nat) : (l.modTxn f).vr k = l.vr k := rfl
@[simp] theorem modTxn_inp (l : Live) (f : Txn → Txn) (k : Nat) : (l.modTxn f).inp k = l.inp k := rfl
@[simp] theorem modTxn_str (l : Live) (f : Txn → Txn) (k : Nat) : (l.modTxn f).str k = l.str k := rfl
@[simp] theorem modTxn_point (l : Live) (f : Txn → Txn) (k : Nat) : (l.modTxn f).point k = l.point k := rfl
@[simp] theorem modTxn_block (l : Live) (f : Txn → Txn) (k : Nat) : (l.modTxn f).block k = l.block k := rfl
@[simp] theorem modTxn_sess (l : Live) (f : Txn → Txn) (k : Nat) : (l.modTxn f).sess k = l.sess k := rfl
@[simp] theorem modTxn_mport (l : Live) (f : Txn → Txn) (k : Nat) : (l.modTxn f).mport k = l.mport k := rfl
@[simp] theorem modTxn_pi (l : Live) (f : Txn → Txn) (k : Nat) : (l.modTxn f).pi k = l.pi k := rfl
@[simp] theorem modTxn_capSlot (l : Live) (f : Txn → Txn) (k : Nat) : (l.modTxn f).capSlot k = l.capSlot k := rfl
@[simp] theorem modTxn_trace (l : Live) (f : Txn → Txn) (k : Nat) : (l.modTxn f).trace k = l.trace k := rfl
@[simp] theorem modTxn_otpw (l : Live) (f : Txn → Txn) (k : Nat) : (l.modTxn f).otpw k = l.otpw k := rfl
@[simp] theorem modTxn_ctr (l : Live) (f : Txn → Txn) (k : Nat) : (l.modTxn f).ctr k = l.ctr k := rfl
@[simp] theorem modTxn_hw (l : Live) (f : Txn → Txn) (p q : Nat) : (l.modTxn f).hw p q = l.hw p q := rfl
@[simp] theorem modTxn_cw (l : Live) (f : Txn → Txn) (p q : Nat) : (l.modTxn f).cw p q = l.cw p q := rfl
@[simp] theorem modTxn_given (l : Live) (f : Txn → Txn) (p q : Nat) : (l.modTxn f).given p q = l.given p q := rfl
@[simp] theorem modTxn_cf (l : Live) (f : Txn → Txn) (p q hi lo : Nat) : (l.modTxn f).cf p q hi lo = l.cf p q hi lo := rfl
@[simp] theorem modTxn_cb (l : Live) (f : Txn → Txn) (p q b : Nat) : (l.modTxn f).cb p q b = l.cb p q b := rfl
@[simp] theorem modTxn_dom (l : Live) (f : Txn → Txn) (d : Nat) : (l.modTxn f).dom d = l.dom d := rfl
@[simp] theorem modTxn_working (l : Live) (f : Txn → Txn) : (l.modTxn f).working = l.working := rfl
@[simp] theorem modTxn_fwUp (l : Live) (f : Txn → Txn) : (l.modTxn f).fwUp = l.fwUp := rfl
@[simp] theorem modTxn_tick (l : Live) (f : Txn → Txn) : (l.modTxn f).tick = l.tick := rfl
@[simp] theorem modTxn_img_txn (l : Live) (f : Txn → Txn) : (l.modTxn f).img.txn = f l.img.txn := rfl

/-! ### `setHw` -/

@[simp] theorem setHw_now (l : Live) (o w : Nat) (v : Word) : (l.setHw o w v).now = l.now := rfl
@[simp] theorem setHw_bond (l : Live) (o w : Nat) (v : Word) : (l.setHw o w v).bond = l.bond := rfl
@[simp] theorem setHw_bondAt (l : Live) (o w : Nat) (v : Word) : (l.setHw o w v).bondAt = l.bondAt := rfl
@[simp] theorem setHw_bondOn (l : Live) (o w : Nat) (v : Word) : (l.setHw o w v).bondOn = l.bondOn := rfl
@[simp] theorem setHw_pwr (l : Live) (o w : Nat) (v : Word) : (l.setHw o w v).pwr = l.pwr := rfl
@[simp] theorem setHw_rings (l : Live) (o w : Nat) (v : Word) : (l.setHw o w v).rings = l.rings := rfl
@[simp] theorem setHw_slots (l : Live) (o w : Nat) (v : Word) : (l.setHw o w v).slots = l.slots := rfl
@[simp] theorem setHw_moor (l : Live) (o w : Nat) (v : Word) : (l.setHw o w v).moor = l.moor := rfl
@[simp] theorem setHw_loop (l : Live) (o w : Nat) (v : Word) : (l.setHw o w v).loop = l.loop := rfl
@[simp] theorem setHw_rails (l : Live) (o w : Nat) (v : Word) : (l.setHw o w v).rails = l.rails := rfl
@[simp] theorem setHw_vcp (l : Live) (o w : Nat) (v : Word) : (l.setHw o w v).vcp = l.vcp := rfl
@[simp] theorem setHw_vcr (l : Live) (o w : Nat) (v : Word) : (l.setHw o w v).vcr = l.vcr := rfl
@[simp] theorem setHw_pp (l : Live) (o w : Nat) (v : Word) : (l.setHw o w v).pp = l.pp := rfl
@[simp] theorem setHw_gauge (l : Live) (o w : Nat) (v : Word) : (l.setHw o w v).gauge = l.gauge := rfl
@[simp] theorem setHw_therm (l : Live) (o w : Nat) (v : Word) : (l.setHw o w v).therm = l.therm := rfl
@[simp] theorem setHw_fc (l : Live) (o w : Nat) (v : Word) : (l.setHw o w v).fc = l.fc := rfl
@[simp] theorem setHw_keeper (l : Live) (o w : Nat) (v : Word) : (l.setHw o w v).keeper = l.keeper := rfl
@[simp] theorem setHw_img (l : Live) (o w : Nat) (v : Word) : (l.setHw o w v).img = l.img := rfl
@[simp] theorem setHw_msgs (l : Live) (o w : Nat) (v : Word) : (l.setHw o w v).msgs = l.msgs := rfl
@[simp] theorem setHw_ports (l : Live) (o w : Nat) (v : Word) : (l.setHw o w v).ports = l.ports := rfl
@[simp] theorem setHw_recd (l : Live) (o w : Nat) (v : Word) : (l.setHw o w v).recd = l.recd := rfl
@[simp] theorem setHw_sec (l : Live) (o w : Nat) (v : Word) : (l.setHw o w v).sec = l.sec := rfl
@[simp] theorem setHw_adc (l : Live) (o w : Nat) (v : Word) : (l.setHw o w v).adc = l.adc := rfl
@[simp] theorem setHw_pins (l : Live) (o w : Nat) (v : Word) : (l.setHw o w v).pins = l.pins := rfl
@[simp] theorem setHw_bondWrites (l : Live) (o w : Nat) (v : Word) : (l.setHw o w v).bondWrites = l.bondWrites := rfl
@[simp] theorem setHw_w1c (l : Live) (o w : Nat) (v : Word) : (l.setHw o w v).w1c = l.w1c := rfl
@[simp] theorem setHw_free (l : Live) (o w : Nat) (v : Word) : (l.setHw o w v).free = l.free := rfl
@[simp] theorem setHw_ring (l : Live) (o w : Nat) (v : Word) (k : Nat) : (l.setHw o w v).ring k = l.ring k := rfl
@[simp] theorem setHw_slot (l : Live) (o w : Nat) (v : Word) (r s : Nat) : (l.setHw o w v).slot r s = l.slot r s := rfl
@[simp] theorem setHw_stn (l : Live) (o w : Nat) (v : Word) (k : Nat) : (l.setHw o w v).stn k = l.stn k := rfl
@[simp] theorem setHw_tile (l : Live) (o w : Nat) (v : Word) (k : Nat) : (l.setHw o w v).tile k = l.tile k := rfl
@[simp] theorem setHw_lane (l : Live) (o w : Nat) (v : Word) (k : Nat) : (l.setHw o w v).lane k = l.lane k := rfl
@[simp] theorem setHw_rail (l : Live) (o w : Nat) (v : Word) (k : Nat) : (l.setHw o w v).rail k = l.rail k := rfl
@[simp] theorem setHw_vp (l : Live) (o w : Nat) (v : Word) (k : Nat) : (l.setHw o w v).vp k = l.vp k := rfl
@[simp] theorem setHw_vr (l : Live) (o w : Nat) (v : Word) (k : Nat) : (l.setHw o w v).vr k = l.vr k := rfl
@[simp] theorem setHw_inp (l : Live) (o w : Nat) (v : Word) (k : Nat) : (l.setHw o w v).inp k = l.inp k := rfl
@[simp] theorem setHw_str (l : Live) (o w : Nat) (v : Word) (k : Nat) : (l.setHw o w v).str k = l.str k := rfl
@[simp] theorem setHw_point (l : Live) (o w : Nat) (v : Word) (k : Nat) : (l.setHw o w v).point k = l.point k := rfl
@[simp] theorem setHw_block (l : Live) (o w : Nat) (v : Word) (k : Nat) : (l.setHw o w v).block k = l.block k := rfl
@[simp] theorem setHw_sess (l : Live) (o w : Nat) (v : Word) (k : Nat) : (l.setHw o w v).sess k = l.sess k := rfl
@[simp] theorem setHw_mport (l : Live) (o w : Nat) (v : Word) (k : Nat) : (l.setHw o w v).mport k = l.mport k := rfl
@[simp] theorem setHw_pi (l : Live) (o w : Nat) (v : Word) (k : Nat) : (l.setHw o w v).pi k = l.pi k := rfl
@[simp] theorem setHw_capSlot (l : Live) (o w : Nat) (v : Word) (k : Nat) : (l.setHw o w v).capSlot k = l.capSlot k := rfl
@[simp] theorem setHw_trace (l : Live) (o w : Nat) (v : Word) (k : Nat) : (l.setHw o w v).trace k = l.trace k := rfl
@[simp] theorem setHw_otpw (l : Live) (o w : Nat) (v : Word) (k : Nat) : (l.setHw o w v).otpw k = l.otpw k := rfl
@[simp] theorem setHw_ctr (l : Live) (o w : Nat) (v : Word) (k : Nat) : (l.setHw o w v).ctr k = l.ctr k := rfl
@[simp] theorem setHw_cw (l : Live) (o w : Nat) (v : Word) (p q : Nat) : (l.setHw o w v).cw p q = l.cw p q := rfl
@[simp] theorem setHw_given (l : Live) (o w : Nat) (v : Word) (p q : Nat) : (l.setHw o w v).given p q = l.given p q := rfl
@[simp] theorem setHw_cf (l : Live) (o w : Nat) (v : Word) (p q hi lo : Nat) : (l.setHw o w v).cf p q hi lo = l.cf p q hi lo := rfl
@[simp] theorem setHw_cb (l : Live) (o w : Nat) (v : Word) (p q b : Nat) : (l.setHw o w v).cb p q b = l.cb p q b := rfl
@[simp] theorem setHw_dom (l : Live) (o w : Nat) (v : Word) (d : Nat) : (l.setHw o w v).dom d = l.dom d := rfl
@[simp] theorem setHw_working (l : Live) (o w : Nat) (v : Word) : (l.setHw o w v).working = l.working := rfl
@[simp] theorem setHw_fwUp (l : Live) (o w : Nat) (v : Word) : (l.setHw o w v).fwUp = l.fwUp := rfl
@[simp] theorem setHw_tick (l : Live) (o w : Nat) (v : Word) : (l.setHw o w v).tick = l.tick := rfl
@[simp] theorem setHw_hw_same (l : Live) (o w : Nat) (v : Word) : (l.setHw o w v).hw o w = v := tget_tput_same _ _ _ _
theorem setHw_hw_other (l : Live) (o w : Nat) (v : Word) (p q : Nat) (h : key p q ≠ key o w) : (l.setHw o w v).hw p q = l.hw p q := tget_tput_other _ _ _ _ _ h

/-! ### `raise` -/

@[simp] theorem raise_now (l : Live) (code obj aux val : Nat) (course : Half) : (l.raise code obj aux val course).now = l.now := rfl
@[simp] theorem raise_bond (l : Live) (code obj aux val : Nat) (course : Half) : (l.raise code obj aux val course).bond = l.bond := rfl
@[simp] theorem raise_bondAt (l : Live) (code obj aux val : Nat) (course : Half) : (l.raise code obj aux val course).bondAt = l.bondAt := rfl
@[simp] theorem raise_bondOn (l : Live) (code obj aux val : Nat) (course : Half) : (l.raise code obj aux val course).bondOn = l.bondOn := rfl
@[simp] theorem raise_pwr (l : Live) (code obj aux val : Nat) (course : Half) : (l.raise code obj aux val course).pwr = l.pwr := rfl
@[simp] theorem raise_rings (l : Live) (code obj aux val : Nat) (course : Half) : (l.raise code obj aux val course).rings = l.rings := rfl
@[simp] theorem raise_slots (l : Live) (code obj aux val : Nat) (course : Half) : (l.raise code obj aux val course).slots = l.slots := rfl
@[simp] theorem raise_moor (l : Live) (code obj aux val : Nat) (course : Half) : (l.raise code obj aux val course).moor = l.moor := rfl
@[simp] theorem raise_loop (l : Live) (code obj aux val : Nat) (course : Half) : (l.raise code obj aux val course).loop = l.loop := rfl
@[simp] theorem raise_rails (l : Live) (code obj aux val : Nat) (course : Half) : (l.raise code obj aux val course).rails = l.rails := rfl
@[simp] theorem raise_vcp (l : Live) (code obj aux val : Nat) (course : Half) : (l.raise code obj aux val course).vcp = l.vcp := rfl
@[simp] theorem raise_vcr (l : Live) (code obj aux val : Nat) (course : Half) : (l.raise code obj aux val course).vcr = l.vcr := rfl
@[simp] theorem raise_pp (l : Live) (code obj aux val : Nat) (course : Half) : (l.raise code obj aux val course).pp = l.pp := rfl
@[simp] theorem raise_gauge (l : Live) (code obj aux val : Nat) (course : Half) : (l.raise code obj aux val course).gauge = l.gauge := rfl
@[simp] theorem raise_therm (l : Live) (code obj aux val : Nat) (course : Half) : (l.raise code obj aux val course).therm = l.therm := rfl
@[simp] theorem raise_keeper (l : Live) (code obj aux val : Nat) (course : Half) : (l.raise code obj aux val course).keeper = l.keeper := rfl
@[simp] theorem raise_img (l : Live) (code obj aux val : Nat) (course : Half) : (l.raise code obj aux val course).img = l.img := rfl
@[simp] theorem raise_msgs (l : Live) (code obj aux val : Nat) (course : Half) : (l.raise code obj aux val course).msgs = l.msgs := rfl
@[simp] theorem raise_ports (l : Live) (code obj aux val : Nat) (course : Half) : (l.raise code obj aux val course).ports = l.ports := rfl
@[simp] theorem raise_recd (l : Live) (code obj aux val : Nat) (course : Half) : (l.raise code obj aux val course).recd = l.recd := rfl
@[simp] theorem raise_sec (l : Live) (code obj aux val : Nat) (course : Half) : (l.raise code obj aux val course).sec = l.sec := rfl
@[simp] theorem raise_adc (l : Live) (code obj aux val : Nat) (course : Half) : (l.raise code obj aux val course).adc = l.adc := rfl
@[simp] theorem raise_pins (l : Live) (code obj aux val : Nat) (course : Half) : (l.raise code obj aux val course).pins = l.pins := rfl
@[simp] theorem raise_host (l : Live) (code obj aux val : Nat) (course : Half) : (l.raise code obj aux val course).host = l.host := rfl
@[simp] theorem raise_bondWrites (l : Live) (code obj aux val : Nat) (course : Half) : (l.raise code obj aux val course).bondWrites = l.bondWrites := rfl
@[simp] theorem raise_w1c (l : Live) (code obj aux val : Nat) (course : Half) : (l.raise code obj aux val course).w1c = l.w1c := rfl
@[simp] theorem raise_free (l : Live) (code obj aux val : Nat) (course : Half) : (l.raise code obj aux val course).free = l.free := rfl
@[simp] theorem raise_fc_table (l : Live) (code obj aux val : Nat) (course : Half) : (l.raise code obj aux val course).fc.table = l.fc.table := rfl
@[simp] theorem raise_fc_log (l : Live) (code obj aux val : Nat) (course : Half) : (l.raise code obj aux val course).fc.log = l.fc.log := rfl
@[simp] theorem raise_fc_nextSeq (l : Live) (code obj aux val : Nat) (course : Half) : (l.raise code obj aux val course).fc.nextSeq = l.fc.nextSeq := rfl
@[simp] theorem raise_fc_blocks (l : Live) (code obj aux val : Nat) (course : Half) : (l.raise code obj aux val course).fc.blocks = l.fc.blocks := rfl
@[simp] theorem raise_fc_safe (l : Live) (code obj aux val : Nat) (course : Half) : (l.raise code obj aux val course).fc.safe = l.fc.safe := rfl
@[simp] theorem raise_fc_safeCode (l : Live) (code obj aux val : Nat) (course : Half) : (l.raise code obj aux val course).fc.safeCode = l.fc.safeCode := rfl
@[simp] theorem raise_fc_safeObj (l : Live) (code obj aux val : Nat) (course : Half) : (l.raise code obj aux val course).fc.safeObj = l.fc.safeObj := rfl
@[simp] theorem raise_fc_ovfl (l : Live) (code obj aux val : Nat) (course : Half) : (l.raise code obj aux val course).fc.ovfl = l.fc.ovfl := rfl
@[simp] theorem raise_fc_full (l : Live) (code obj aux val : Nat) (course : Half) : (l.raise code obj aux val course).fc.full = l.fc.full := rfl
@[simp] theorem raise_fc_domLost (l : Live) (code obj aux val : Nat) (course : Half) : (l.raise code obj aux val course).fc.domLost = l.fc.domLost := rfl
@[simp] theorem raise_fc_vlow (l : Live) (code obj aux val : Nat) (course : Half) : (l.raise code obj aux val course).fc.vlow = l.fc.vlow := rfl
@[simp] theorem raise_fc_ilim (l : Live) (code obj aux val : Nat) (course : Half) : (l.raise code obj aux val course).fc.ilim = l.fc.ilim := rfl
@[simp] theorem raise_fc_outWire (l : Live) (code obj aux val : Nat) (course : Half) : (l.raise code obj aux val course).fc.outWire = l.fc.outWire := rfl
@[simp] theorem raise_fc_lost (l : Live) (code obj aux val : Nat) (course : Half) : (l.raise code obj aux val course).fc.lost = l.fc.lost := rfl
@[simp] theorem raise_fc_changed (l : Live) (code obj aux val : Nat) (course : Half) : (l.raise code obj aux val course).fc.changed = l.fc.changed := rfl
@[simp] theorem raise_fc_changedAt (l : Live) (code obj aux val : Nat) (course : Half) : (l.raise code obj aux val course).fc.changedAt = l.fc.changedAt := rfl
@[simp] theorem raise_ring (l : Live) (code obj aux val : Nat) (course : Half) (k : Nat) : (l.raise code obj aux val course).ring k = l.ring k := rfl
@[simp] theorem raise_slot (l : Live) (code obj aux val : Nat) (course : Half) (r s : Nat) : (l.raise code obj aux val course).slot r s = l.slot r s := rfl
@[simp] theorem raise_stn (l : Live) (code obj aux val : Nat) (course : Half) (k : Nat) : (l.raise code obj aux val course).stn k = l.stn k := rfl
@[simp] theorem raise_tile (l : Live) (code obj aux val : Nat) (course : Half) (k : Nat) : (l.raise code obj aux val course).tile k = l.tile k := rfl
@[simp] theorem raise_lane (l : Live) (code obj aux val : Nat) (course : Half) (k : Nat) : (l.raise code obj aux val course).lane k = l.lane k := rfl
@[simp] theorem raise_rail (l : Live) (code obj aux val : Nat) (course : Half) (k : Nat) : (l.raise code obj aux val course).rail k = l.rail k := rfl
@[simp] theorem raise_vp (l : Live) (code obj aux val : Nat) (course : Half) (k : Nat) : (l.raise code obj aux val course).vp k = l.vp k := rfl
@[simp] theorem raise_vr (l : Live) (code obj aux val : Nat) (course : Half) (k : Nat) : (l.raise code obj aux val course).vr k = l.vr k := rfl
@[simp] theorem raise_inp (l : Live) (code obj aux val : Nat) (course : Half) (k : Nat) : (l.raise code obj aux val course).inp k = l.inp k := rfl
@[simp] theorem raise_str (l : Live) (code obj aux val : Nat) (course : Half) (k : Nat) : (l.raise code obj aux val course).str k = l.str k := rfl
@[simp] theorem raise_point (l : Live) (code obj aux val : Nat) (course : Half) (k : Nat) : (l.raise code obj aux val course).point k = l.point k := rfl
@[simp] theorem raise_block (l : Live) (code obj aux val : Nat) (course : Half) (k : Nat) : (l.raise code obj aux val course).block k = l.block k := rfl
@[simp] theorem raise_sess (l : Live) (code obj aux val : Nat) (course : Half) (k : Nat) : (l.raise code obj aux val course).sess k = l.sess k := rfl
@[simp] theorem raise_mport (l : Live) (code obj aux val : Nat) (course : Half) (k : Nat) : (l.raise code obj aux val course).mport k = l.mport k := rfl
@[simp] theorem raise_pi (l : Live) (code obj aux val : Nat) (course : Half) (k : Nat) : (l.raise code obj aux val course).pi k = l.pi k := rfl
@[simp] theorem raise_capSlot (l : Live) (code obj aux val : Nat) (course : Half) (k : Nat) : (l.raise code obj aux val course).capSlot k = l.capSlot k := rfl
@[simp] theorem raise_trace (l : Live) (code obj aux val : Nat) (course : Half) (k : Nat) : (l.raise code obj aux val course).trace k = l.trace k := rfl
@[simp] theorem raise_otpw (l : Live) (code obj aux val : Nat) (course : Half) (k : Nat) : (l.raise code obj aux val course).otpw k = l.otpw k := rfl
@[simp] theorem raise_ctr (l : Live) (code obj aux val : Nat) (course : Half) (k : Nat) : (l.raise code obj aux val course).ctr k = l.ctr k := rfl
@[simp] theorem raise_hw (l : Live) (code obj aux val : Nat) (course : Half) (p q : Nat) : (l.raise code obj aux val course).hw p q = l.hw p q := rfl
@[simp] theorem raise_cw (l : Live) (code obj aux val : Nat) (course : Half) (p q : Nat) : (l.raise code obj aux val course).cw p q = l.cw p q := rfl
@[simp] theorem raise_given (l : Live) (code obj aux val : Nat) (course : Half) (p q : Nat) : (l.raise code obj aux val course).given p q = l.given p q := rfl
@[simp] theorem raise_cf (l : Live) (code obj aux val : Nat) (course : Half) (p q hi lo : Nat) : (l.raise code obj aux val course).cf p q hi lo = l.cf p q hi lo := rfl
@[simp] theorem raise_cb (l : Live) (code obj aux val : Nat) (course : Half) (p q b : Nat) : (l.raise code obj aux val course).cb p q b = l.cb p q b := rfl
@[simp] theorem raise_dom (l : Live) (code obj aux val : Nat) (course : Half) (d : Nat) : (l.raise code obj aux val course).dom d = l.dom d := rfl
@[simp] theorem raise_working (l : Live) (code obj aux val : Nat) (course : Half) : (l.raise code obj aux val course).working = l.working := rfl
@[simp] theorem raise_fwUp (l : Live) (code obj aux val : Nat) (course : Half) : (l.raise code obj aux val course).fwUp = l.fwUp := rfl
@[simp] theorem raise_tick (l : Live) (code obj aux val : Nat) (course : Half) : (l.raise code obj aux val course).tick = l.tick := rfl

end Sys2Proof.Machine.Live
end

