-- ==== Sys2Proof/Laws/Parts.lean ====
section
/-! SUPPORT. What a function of the state leaves alone, said in one equation: `less m l` is the state `l` without the parts
that the bits of `m` name, and a function that changes no other part leaves `less m l` as it was.  The parts are numbered in
the order of the fields of `Live`. -/
namespace Sys2Proof.Machine.Live

/-- The state without the parts of `m`. -/
def less (m : Nat) (l : Live) : Live :=
  { now := if m.testBit 0 then 0 else l.now,
    bond := if m.testBit 1 then 0 else l.bond,
    bondAt := if m.testBit 2 then 0 else l.bondAt,
    bondOn := if m.testBit 3 then false else l.bondOn,
    pwr := if m.testBit 4 then {} else l.pwr,
    rings := if m.testBit 5 then [] else l.rings,
    slots := if m.testBit 6 then [] else l.slots,
    moor := if m.testBit 7 then {} else l.moor,
    loop := if m.testBit 8 then {} else l.loop,
    rails := if m.testBit 9 then [] else l.rails,
    vcp := if m.testBit 10 then [] else l.vcp,
    vcr := if m.testBit 11 then [] else l.vcr,
    pp := if m.testBit 12 then {} else l.pp,
    gauge := if m.testBit 13 then {} else l.gauge,
    therm := if m.testBit 14 then {} else l.therm,
    fc := if m.testBit 15 then {} else l.fc,
    keeper := if m.testBit 16 then {} else l.keeper,
    img := if m.testBit 17 then {} else l.img,
    msgs := if m.testBit 18 then {} else l.msgs,
    ports := if m.testBit 19 then {} else l.ports,
    recd := if m.testBit 20 then {} else l.recd,
    sec := if m.testBit 21 then {} else l.sec,
    adc := if m.testBit 22 then {} else l.adc,
    pins := if m.testBit 23 then {} else l.pins,
    host := if m.testBit 24 then [] else l.host,
    bondWrites := if m.testBit 25 then [] else l.bondWrites,
    w1c := if m.testBit 26 then [] else l.w1c,
    free := if m.testBit 27 then 0 else l.free }

theorem less_pick {α : Type} {a m : Nat} (h : a ||| m = m) (i : Nat) (d v : α) :
    (if m.testBit i then d else if a.testBit i then d else v) = if m.testBit i then d else v := by
  split
  next => rfl
  next hm =>
    have : a.testBit i = false := by
      rw [Bool.not_eq_true, ← h, Nat.testBit_or, Bool.or_eq_false_iff] at hm
      exact hm.1
    simp [this]

theorem less_less {a m : Nat} (h : a ||| m = m) (x : Live) : less m (less a x) = less m x := by
  simp only [less, less_pick h]

/-- What leaves all but a set of parts alone leaves all but a larger set alone. -/
theorem less_le {a m : Nat} {x y : Live} (h : a ||| m = m) (e : less a x = less a y) : less m x = less m y := by
  rw [← less_less h x, e, less_less h y]

theorem less_ite (m : Nat) (c : Prop) [Decidable c] (a b : Live) : less m (if c then a else b) = if c then less m a else less m b :=
  apply_ite (less m) c a b

theorem less_forL {α : Type} {m : Nat} {l : Live} {xs : List α} {f : Live → α → Live} (h : ∀ l x, less m (f l x) = less m l) :
    less m (l.forL xs f) = less m l := forL_keeps (less m) l xs f h

theorem less_each {m : Nat} {l : Live} {n : Nat} {f : Live → Nat → Live} (h : ∀ l x, less m (f l x) = less m l) :
    less m (l.each n f) = less m l := each_keeps (less m) l n f h

theorem less_foldl {α : Type} {m : Nat} {l : Live} {xs : List α} {f : Live → α → Live} (h : ∀ l x, less m (f l x) = less m l) :
    less m (xs.foldl f l) = less m l := forL_keeps (less m) l xs f h

/-! ## Reading a part that was left alone -/

theorem less_now {m : Nat} {x y : Live} (e : less m x = less m y) (h : m.testBit 0 = false) : x.now = y.now := by
  have := congrArg Live.now e; simpa [less, h] using this
theorem less_bond {m : Nat} {x y : Live} (e : less m x = less m y) (h : m.testBit 1 = false) : x.bond = y.bond := by
  have := congrArg Live.bond e; simpa [less, h] using this
theorem less_bondAt {m : Nat} {x y : Live} (e : less m x = less m y) (h : m.testBit 2 = false) : x.bondAt = y.bondAt := by
  have := congrArg Live.bondAt e; simpa [less, h] using this
theorem less_bondOn {m : Nat} {x y : Live} (e : less m x = less m y) (h : m.testBit 3 = false) : x.bondOn = y.bondOn := by
  have := congrArg Live.bondOn e; simpa [less, h] using this
theorem less_pwr {m : Nat} {x y : Live} (e : less m x = less m y) (h : m.testBit 4 = false) : x.pwr = y.pwr := by
  have := congrArg Live.pwr e; simpa [less, h] using this
theorem less_rings {m : Nat} {x y : Live} (e : less m x = less m y) (h : m.testBit 5 = false) : x.rings = y.rings := by
  have := congrArg Live.rings e; simpa [less, h] using this
theorem less_slots {m : Nat} {x y : Live} (e : less m x = less m y) (h : m.testBit 6 = false) : x.slots = y.slots := by
  have := congrArg Live.slots e; simpa [less, h] using this
theorem less_moor {m : Nat} {x y : Live} (e : less m x = less m y) (h : m.testBit 7 = false) : x.moor = y.moor := by
  have := congrArg Live.moor e; simpa [less, h] using this
theorem less_loop {m : Nat} {x y : Live} (e : less m x = less m y) (h : m.testBit 8 = false) : x.loop = y.loop := by
  have := congrArg Live.loop e; simpa [less, h] using this
theorem less_rails {m : Nat} {x y : Live} (e : less m x = less m y) (h : m.testBit 9 = false) : x.rails = y.rails := by
  have := congrArg Live.rails e; simpa [less, h] using this
theorem less_vcp {m : Nat} {x y : Live} (e : less m x = less m y) (h : m.testBit 10 = false) : x.vcp = y.vcp := by
  have := congrArg Live.vcp e; simpa [less, h] using this
theorem less_vcr {m : Nat} {x y : Live} (e : less m x = less m y) (h : m.testBit 11 = false) : x.vcr = y.vcr := by
  have := congrArg Live.vcr e; simpa [less, h] using this
theorem less_pp {m : Nat} {x y : Live} (e : less m x = less m y) (h : m.testBit 12 = false) : x.pp = y.pp := by
  have := congrArg Live.pp e; simpa [less, h] using this
theorem less_gauge {m : Nat} {x y : Live} (e : less m x = less m y) (h : m.testBit 13 = false) : x.gauge = y.gauge := by
  have := congrArg Live.gauge e; simpa [less, h] using this
theorem less_therm {m : Nat} {x y : Live} (e : less m x = less m y) (h : m.testBit 14 = false) : x.therm = y.therm := by
  have := congrArg Live.therm e; simpa [less, h] using this
theorem less_fc {m : Nat} {x y : Live} (e : less m x = less m y) (h : m.testBit 15 = false) : x.fc = y.fc := by
  have := congrArg Live.fc e; simpa [less, h] using this
theorem less_keeper {m : Nat} {x y : Live} (e : less m x = less m y) (h : m.testBit 16 = false) : x.keeper = y.keeper := by
  have := congrArg Live.keeper e; simpa [less, h] using this
theorem less_img {m : Nat} {x y : Live} (e : less m x = less m y) (h : m.testBit 17 = false) : x.img = y.img := by
  have := congrArg Live.img e; simpa [less, h] using this
theorem less_msgs {m : Nat} {x y : Live} (e : less m x = less m y) (h : m.testBit 18 = false) : x.msgs = y.msgs := by
  have := congrArg Live.msgs e; simpa [less, h] using this
theorem less_ports {m : Nat} {x y : Live} (e : less m x = less m y) (h : m.testBit 19 = false) : x.ports = y.ports := by
  have := congrArg Live.ports e; simpa [less, h] using this
theorem less_recd {m : Nat} {x y : Live} (e : less m x = less m y) (h : m.testBit 20 = false) : x.recd = y.recd := by
  have := congrArg Live.recd e; simpa [less, h] using this
theorem less_sec {m : Nat} {x y : Live} (e : less m x = less m y) (h : m.testBit 21 = false) : x.sec = y.sec := by
  have := congrArg Live.sec e; simpa [less, h] using this
theorem less_adc {m : Nat} {x y : Live} (e : less m x = less m y) (h : m.testBit 22 = false) : x.adc = y.adc := by
  have := congrArg Live.adc e; simpa [less, h] using this
theorem less_pins {m : Nat} {x y : Live} (e : less m x = less m y) (h : m.testBit 23 = false) : x.pins = y.pins := by
  have := congrArg Live.pins e; simpa [less, h] using this
theorem less_host {m : Nat} {x y : Live} (e : less m x = less m y) (h : m.testBit 24 = false) : x.host = y.host := by
  have := congrArg Live.host e; simpa [less, h] using this
theorem less_bondWrites {m : Nat} {x y : Live} (e : less m x = less m y) (h : m.testBit 25 = false) : x.bondWrites = y.bondWrites := by
  have := congrArg Live.bondWrites e; simpa [less, h] using this
theorem less_w1c {m : Nat} {x y : Live} (e : less m x = less m y) (h : m.testBit 26 = false) : x.w1c = y.w1c := by
  have := congrArg Live.w1c e; simpa [less, h] using this
theorem less_free {m : Nat} {x y : Live} (e : less m x = less m y) (h : m.testBit 27 = false) : x.free = y.free := by
  have := congrArg Live.free e; simpa [less, h] using this

/-! ## Updates of one part -/

@[simp] theorem less_set_now (l : Live) (v : Nat) (m : Nat) (h : 1 ||| m = m) : less m { l with now := v } = less m l := less_le h rfl
@[simp] theorem less_set_bond (l : Live) (v : Nat) (m : Nat) (h : 2 ||| m = m) : less m { l with bond := v } = less m l := less_le h rfl
@[simp] theorem less_set_bondAt (l : Live) (v : Nat) (m : Nat) (h : 4 ||| m = m) : less m { l with bondAt := v } = less m l := less_le h rfl
@[simp] theorem less_set_bondOn (l : Live) (v : Bool) (m : Nat) (h : 8 ||| m = m) : less m { l with bondOn := v } = less m l := less_le h rfl
@[simp] theorem less_set_pwr (l : Live) (v : Pwr) (m : Nat) (h : 16 ||| m = m) : less m { l with pwr := v } = less m l := less_le h rfl
@[simp] theorem less_set_rings (l : Live) (v : Tbl Ring) (m : Nat) (h : 32 ||| m = m) : less m { l with rings := v } = less m l := less_le h rfl
@[simp] theorem less_set_slots (l : Live) (v : Tbl Slot) (m : Nat) (h : 64 ||| m = m) : less m { l with slots := v } = less m l := less_le h rfl
@[simp] theorem less_set_moor (l : Live) (v : Moor) (m : Nat) (h : 128 ||| m = m) : less m { l with moor := v } = less m l := less_le h rfl
@[simp] theorem less_set_loop (l : Live) (v : Loop) (m : Nat) (h : 256 ||| m = m) : less m { l with loop := v } = less m l := less_le h rfl
@[simp] theorem less_set_rails (l : Live) (v : Tbl Rail) (m : Nat) (h : 512 ||| m = m) : less m { l with rails := v } = less m l := less_le h rfl
@[simp] theorem less_set_vcp (l : Live) (v : Tbl VcPort) (m : Nat) (h : 1024 ||| m = m) : less m { l with vcp := v } = less m l := less_le h rfl
@[simp] theorem less_set_vcr (l : Live) (v : Tbl VcRail) (m : Nat) (h : 2048 ||| m = m) : less m { l with vcr := v } = less m l := less_le h rfl
@[simp] theorem less_set_pp (l : Live) (v : Power) (m : Nat) (h : 4096 ||| m = m) : less m { l with pp := v } = less m l := less_le h rfl
@[simp] theorem less_set_gauge (l : Live) (v : Gauge) (m : Nat) (h : 8192 ||| m = m) : less m { l with gauge := v } = less m l := less_le h rfl
@[simp] theorem less_set_therm (l : Live) (v : Therm) (m : Nat) (h : 16384 ||| m = m) : less m { l with therm := v } = less m l := less_le h rfl
@[simp] theorem less_set_fc (l : Live) (v : Fc) (m : Nat) (h : 32768 ||| m = m) : less m { l with fc := v } = less m l := less_le h rfl
@[simp] theorem less_set_keeper (l : Live) (v : Keeper) (m : Nat) (h : 65536 ||| m = m) : less m { l with keeper := v } = less m l := less_le h rfl
@[simp] theorem less_set_img (l : Live) (v : Img) (m : Nat) (h : 131072 ||| m = m) : less m { l with img := v } = less m l := less_le h rfl
@[simp] theorem less_set_msgs (l : Live) (v : Msgs) (m : Nat) (h : 262144 ||| m = m) : less m { l with msgs := v } = less m l := less_le h rfl
@[simp] theorem less_set_ports (l : Live) (v : Ports) (m : Nat) (h : 524288 ||| m = m) : less m { l with ports := v } = less m l := less_le h rfl
@[simp] theorem less_set_recd (l : Live) (v : Recorder) (m : Nat) (h : 1048576 ||| m = m) : less m { l with recd := v } = less m l := less_le h rfl
@[simp] theorem less_set_sec (l : Live) (v : Sec) (m : Nat) (h : 2097152 ||| m = m) : less m { l with sec := v } = less m l := less_le h rfl
@[simp] theorem less_set_adc (l : Live) (v : Adc) (m : Nat) (h : 4194304 ||| m = m) : less m { l with adc := v } = less m l := less_le h rfl
@[simp] theorem less_set_pins (l : Live) (v : Pins) (m : Nat) (h : 8388608 ||| m = m) : less m { l with pins := v } = less m l := less_le h rfl
@[simp] theorem less_set_host (l : Live) (v : Tbl Word) (m : Nat) (h : 16777216 ||| m = m) : less m { l with host := v } = less m l := less_le h rfl
@[simp] theorem less_set_bondWrites (l : Live) (v : List (Nat × Word)) (m : Nat) (h : 33554432 ||| m = m) : less m { l with bondWrites := v } = less m l := less_le h rfl
@[simp] theorem less_set_w1c (l : Live) (v : Tbl Nat) (m : Nat) (h : 67108864 ||| m = m) : less m { l with w1c := v } = less m l := less_le h rfl
@[simp] theorem less_set_free (l : Live) (v : Nat) (m : Nat) (h : 134217728 ||| m = m) : less m { l with free := v } = less m l := less_le h rfl

/-! ### One part alone: what changes every other part leaves it -/

theorem same_now {x y : Live} (e : less 268435454 x = less 268435454 y) : x.now = y.now := less_now e (by decide)
theorem same_bond {x y : Live} (e : less 268435453 x = less 268435453 y) : x.bond = y.bond := less_bond e (by decide)
theorem same_bondAt {x y : Live} (e : less 268435451 x = less 268435451 y) : x.bondAt = y.bondAt := less_bondAt e (by decide)
theorem same_bondOn {x y : Live} (e : less 268435447 x = less 268435447 y) : x.bondOn = y.bondOn := less_bondOn e (by decide)
theorem same_pwr {x y : Live} (e : less 268435439 x = less 268435439 y) : x.pwr = y.pwr := less_pwr e (by decide)
theorem same_rings {x y : Live} (e : less 268435423 x = less 268435423 y) : x.rings = y.rings := less_rings e (by decide)
theorem same_slots {x y : Live} (e : less 268435391 x = less 268435391 y) : x.slots = y.slots := less_slots e (by decide)
theorem same_moor {x y : Live} (e : less 268435327 x = less 268435327 y) : x.moor = y.moor := less_moor e (by decide)
theorem same_loop {x y : Live} (e : less 268435199 x = less 268435199 y) : x.loop = y.loop := less_loop e (by decide)
theorem same_rails {x y : Live} (e : less 268434943 x = less 268434943 y) : x.rails = y.rails := less_rails e (by decide)
theorem same_vcp {x y : Live} (e : less 268434431 x = less 268434431 y) : x.vcp = y.vcp := less_vcp e (by decide)
theorem same_vcr {x y : Live} (e : less 268433407 x = less 268433407 y) : x.vcr = y.vcr := less_vcr e (by decide)
theorem same_pp {x y : Live} (e : less 268431359 x = less 268431359 y) : x.pp = y.pp := less_pp e (by decide)
theorem same_gauge {x y : Live} (e : less 268427263 x = less 268427263 y) : x.gauge = y.gauge := less_gauge e (by decide)
theorem same_therm {x y : Live} (e : less 268419071 x = less 268419071 y) : x.therm = y.therm := less_therm e (by decide)
theorem same_fc {x y : Live} (e : less 268402687 x = less 268402687 y) : x.fc = y.fc := less_fc e (by decide)
theorem same_keeper {x y : Live} (e : less 268369919 x = less 268369919 y) : x.keeper = y.keeper := less_keeper e (by decide)
theorem same_img {x y : Live} (e : less 268304383 x = less 268304383 y) : x.img = y.img := less_img e (by decide)
theorem same_msgs {x y : Live} (e : less 268173311 x = less 268173311 y) : x.msgs = y.msgs := less_msgs e (by decide)
theorem same_ports {x y : Live} (e : less 267911167 x = less 267911167 y) : x.ports = y.ports := less_ports e (by decide)
theorem same_recd {x y : Live} (e : less 267386879 x = less 267386879 y) : x.recd = y.recd := less_recd e (by decide)
theorem same_sec {x y : Live} (e : less 266338303 x = less 266338303 y) : x.sec = y.sec := less_sec e (by decide)
theorem same_adc {x y : Live} (e : less 264241151 x = less 264241151 y) : x.adc = y.adc := less_adc e (by decide)
theorem same_pins {x y : Live} (e : less 260046847 x = less 260046847 y) : x.pins = y.pins := less_pins e (by decide)
theorem same_host {x y : Live} (e : less 251658239 x = less 251658239 y) : x.host = y.host := less_host e (by decide)
theorem same_bondWrites {x y : Live} (e : less 234881023 x = less 234881023 y) : x.bondWrites = y.bondWrites := less_bondWrites e (by decide)
theorem same_w1c {x y : Live} (e : less 201326591 x = less 201326591 y) : x.w1c = y.w1c := less_w1c e (by decide)
theorem same_free {x y : Live} (e : less 134217727 x = less 134217727 y) : x.free = y.free := less_free e (by decide)

end Sys2Proof.Machine.Live
end

