-- ==== Sys2Proof/Laws/KeepOps.lean ====
section
/-! SUPPORT. What each operation of `Machine/Ops.lean` leaves alone: it changes no part of the state but those whose bits stand
in the number that its lemma names (the parts are numbered in `Laws/Parts.lean`). -/
namespace Sys2Proof.Machine.Live

set_option linter.unusedTactic false
set_option linter.unreachableTactic false
set_option linter.unusedSimpArgs false

@[simp] theorem draw_keep (l : Live) (w : Nat) (m : Nat) (h : 134217728 ||| m = m) : less m (Live.draw l w).2 = less m l := less_le h (by
  unfold Live.draw
  repeat' first
    | (with_reducible rfl)
    | (intro _)
    | (simp [less_ite]; done)
    | (with_reducible refine (less_forL (fun l x => ?_)).trans ?_)
    | (with_reducible refine (less_each (fun l x => ?_)).trans ?_)
    | (with_reducible refine (less_foldl (fun l x => ?_)).trans ?_)
    | split
    | simp [less_ite]
    | rfl)

@[simp] theorem drawBytes_keep (l : Live) (n : Nat) (m : Nat) (h : 134217728 ||| m = m) : less m (Live.drawBytes l n).2 = less m l := less_le h (by
  unfold Live.drawBytes
  repeat' first
    | (with_reducible rfl)
    | (intro _)
    | (simp [less_ite]; done)
    | (with_reducible refine (less_forL (fun l x => ?_)).trans ?_)
    | (with_reducible refine (less_each (fun l x => ?_)).trans ?_)
    | (with_reducible refine (less_foldl (fun l x => ?_)).trans ?_)
    | split
    | simp [less_ite]
    | rfl)

@[simp] theorem drawBelow_keep (l : Live) (n : Nat) (m : Nat) (h : 134217728 ||| m = m) : less m (Live.drawBelow l n).2 = less m l := less_le h (by
  unfold Live.drawBelow
  repeat' first
    | (with_reducible rfl)
    | (intro _)
    | (simp [less_ite]; done)
    | (with_reducible refine (less_forL (fun l x => ?_)).trans ?_)
    | (with_reducible refine (less_each (fun l x => ?_)).trans ?_)
    | (with_reducible refine (less_foldl (fun l x => ?_)).trans ?_)
    | split
    | simp [less_ite]
    | rfl)

@[simp] theorem drawRat_keep (l : Live) (m : Nat) (h : 134217728 ||| m = m) : less m (Live.drawRat l).2 = less m l := less_le h (by
  unfold Live.drawRat
  repeat' first
    | (with_reducible rfl)
    | (intro _)
    | (simp [less_ite]; done)
    | (with_reducible refine (less_forL (fun l x => ?_)).trans ?_)
    | (with_reducible refine (less_each (fun l x => ?_)).trans ?_)
    | (with_reducible refine (less_foldl (fun l x => ?_)).trans ?_)
    | split
    | simp [less_ite]
    | rfl)

@[simp] theorem modRing_keep (l : Live) (n : Nat) (f : Ring → Ring) (m : Nat) (h : 32 ||| m = m) : less m (Live.modRing l n f) = less m l := less_le h (by
  unfold Live.modRing
  repeat' first
    | (with_reducible rfl)
    | (intro _)
    | (simp [less_ite]; done)
    | (with_reducible refine (less_forL (fun l x => ?_)).trans ?_)
    | (with_reducible refine (less_each (fun l x => ?_)).trans ?_)
    | (with_reducible refine (less_foldl (fun l x => ?_)).trans ?_)
    | split
    | simp [less_ite]
    | rfl)

@[simp] theorem modSlot_keep (l : Live) (r s : Nat) (f : Slot → Slot) (m : Nat) (h : 64 ||| m = m) : less m (Live.modSlot l r s f) = less m l := less_le h (by
  unfold Live.modSlot
  repeat' first
    | (with_reducible rfl)
    | (intro _)
    | (simp [less_ite]; done)
    | (with_reducible refine (less_forL (fun l x => ?_)).trans ?_)
    | (with_reducible refine (less_each (fun l x => ?_)).trans ?_)
    | (with_reducible refine (less_foldl (fun l x => ?_)).trans ?_)
    | split
    | simp [less_ite]
    | rfl)

@[simp] theorem modStn_keep (l : Live) (n : Nat) (f : Stn → Stn) (m : Nat) (h : 128 ||| m = m) : less m (Live.modStn l n f) = less m l := less_le h (by
  unfold Live.modStn
  repeat' first
    | (with_reducible rfl)
    | (intro _)
    | (simp [less_ite]; done)
    | (with_reducible refine (less_forL (fun l x => ?_)).trans ?_)
    | (with_reducible refine (less_each (fun l x => ?_)).trans ?_)
    | (with_reducible refine (less_foldl (fun l x => ?_)).trans ?_)
    | split
    | simp [less_ite]
    | rfl)

@[simp] theorem modTile_keep (l : Live) (n : Nat) (f : Tile → Tile) (m : Nat) (h : 256 ||| m = m) : less m (Live.modTile l n f) = less m l := less_le h (by
  unfold Live.modTile
  repeat' first
    | (with_reducible rfl)
    | (intro _)
    | (simp [less_ite]; done)
    | (with_reducible refine (less_forL (fun l x => ?_)).trans ?_)
    | (with_reducible refine (less_each (fun l x => ?_)).trans ?_)
    | (with_reducible refine (less_foldl (fun l x => ?_)).trans ?_)
    | split
    | simp [less_ite]
    | rfl)

@[simp] theorem modLane_keep (l : Live) (n : Nat) (f : Lane → Lane) (m : Nat) (h : 256 ||| m = m) : less m (Live.modLane l n f) = less m l := less_le h (by
  unfold Live.modLane
  repeat' first
    | (with_reducible rfl)
    | (intro _)
    | (simp [less_ite]; done)
    | (with_reducible refine (less_forL (fun l x => ?_)).trans ?_)
    | (with_reducible refine (less_each (fun l x => ?_)).trans ?_)
    | (with_reducible refine (less_foldl (fun l x => ?_)).trans ?_)
    | split
    | simp [less_ite]
    | rfl)

@[simp] theorem modRail_keep (l : Live) (n : Nat) (f : Rail → Rail) (m : Nat) (h : 512 ||| m = m) : less m (Live.modRail l n f) = less m l := less_le h (by
  unfold Live.modRail
  repeat' first
    | (with_reducible rfl)
    | (intro _)
    | (simp [less_ite]; done)
    | (with_reducible refine (less_forL (fun l x => ?_)).trans ?_)
    | (with_reducible refine (less_each (fun l x => ?_)).trans ?_)
    | (with_reducible refine (less_foldl (fun l x => ?_)).trans ?_)
    | split
    | simp [less_ite]
    | rfl)

@[simp] theorem modVp_keep (l : Live) (n : Nat) (f : VcPort → VcPort) (m : Nat) (h : 1024 ||| m = m) : less m (Live.modVp l n f) = less m l := less_le h (by
  unfold Live.modVp
  repeat' first
    | (with_reducible rfl)
    | (intro _)
    | (simp [less_ite]; done)
    | (with_reducible refine (less_forL (fun l x => ?_)).trans ?_)
    | (with_reducible refine (less_each (fun l x => ?_)).trans ?_)
    | (with_reducible refine (less_foldl (fun l x => ?_)).trans ?_)
    | split
    | simp [less_ite]
    | rfl)

@[simp] theorem modVr_keep (l : Live) (n : Nat) (f : VcRail → VcRail) (m : Nat) (h : 2048 ||| m = m) : less m (Live.modVr l n f) = less m l := less_le h (by
  unfold Live.modVr
  repeat' first
    | (with_reducible rfl)
    | (intro _)
    | (simp [less_ite]; done)
    | (with_reducible refine (less_forL (fun l x => ?_)).trans ?_)
    | (with_reducible refine (less_each (fun l x => ?_)).trans ?_)
    | (with_reducible refine (less_foldl (fun l x => ?_)).trans ?_)
    | split
    | simp [less_ite]
    | rfl)

@[simp] theorem modInp_keep (l : Live) (n : Nat) (f : Input → Input) (m : Nat) (h : 4096 ||| m = m) : less m (Live.modInp l n f) = less m l := less_le h (by
  unfold Live.modInp
  repeat' first
    | (with_reducible rfl)
    | (intro _)
    | (simp [less_ite]; done)
    | (with_reducible refine (less_forL (fun l x => ?_)).trans ?_)
    | (with_reducible refine (less_each (fun l x => ?_)).trans ?_)
    | (with_reducible refine (less_foldl (fun l x => ?_)).trans ?_)
    | split
    | simp [less_ite]
    | rfl)

@[simp] theorem modStr_keep (l : Live) (n : Nat) (f : Str → Str) (m : Nat) (h : 8192 ||| m = m) : less m (Live.modStr l n f) = less m l := less_le h (by
  unfold Live.modStr
  repeat' first
    | (with_reducible rfl)
    | (intro _)
    | (simp [less_ite]; done)
    | (with_reducible refine (less_forL (fun l x => ?_)).trans ?_)
    | (with_reducible refine (less_each (fun l x => ?_)).trans ?_)
    | (with_reducible refine (less_foldl (fun l x => ?_)).trans ?_)
    | split
    | simp [less_ite]
    | rfl)

@[simp] theorem modPoint_keep (l : Live) (n : Nat) (f : Point → Point) (m : Nat) (h : 16384 ||| m = m) : less m (Live.modPoint l n f) = less m l := less_le h (by
  unfold Live.modPoint
  repeat' first
    | (with_reducible rfl)
    | (intro _)
    | (simp [less_ite]; done)
    | (with_reducible refine (less_forL (fun l x => ?_)).trans ?_)
    | (with_reducible refine (less_each (fun l x => ?_)).trans ?_)
    | (with_reducible refine (less_foldl (fun l x => ?_)).trans ?_)
    | split
    | simp [less_ite]
    | rfl)

@[simp] theorem modBlock_keep (l : Live) (n : Nat) (f : Block → Block) (m : Nat) (h : 32768 ||| m = m) : less m (Live.modBlock l n f) = less m l := less_le h (by
  unfold Live.modBlock
  repeat' first
    | (with_reducible rfl)
    | (intro _)
    | (simp [less_ite]; done)
    | (with_reducible refine (less_forL (fun l x => ?_)).trans ?_)
    | (with_reducible refine (less_each (fun l x => ?_)).trans ?_)
    | (with_reducible refine (less_foldl (fun l x => ?_)).trans ?_)
    | split
    | simp [less_ite]
    | rfl)

@[simp] theorem modSess_keep (l : Live) (n : Nat) (f : Session → Session) (m : Nat) (h : 262144 ||| m = m) : less m (Live.modSess l n f) = less m l := less_le h (by
  unfold Live.modSess
  repeat' first
    | (with_reducible rfl)
    | (intro _)
    | (simp [less_ite]; done)
    | (with_reducible refine (less_forL (fun l x => ?_)).trans ?_)
    | (with_reducible refine (less_each (fun l x => ?_)).trans ?_)
    | (with_reducible refine (less_foldl (fun l x => ?_)).trans ?_)
    | split
    | simp [less_ite]
    | rfl)

@[simp] theorem modMport_keep (l : Live) (n : Nat) (f : MsgPort → MsgPort) (m : Nat) (h : 262144 ||| m = m) : less m (Live.modMport l n f) = less m l := less_le h (by
  unfold Live.modMport
  repeat' first
    | (with_reducible rfl)
    | (intro _)
    | (simp [less_ite]; done)
    | (with_reducible refine (less_forL (fun l x => ?_)).trans ?_)
    | (with_reducible refine (less_each (fun l x => ?_)).trans ?_)
    | (with_reducible refine (less_foldl (fun l x => ?_)).trans ?_)
    | split
    | simp [less_ite]
    | rfl)

@[simp] theorem modPi_keep (l : Live) (n : Nat) (f : Pi2c → Pi2c) (m : Nat) (h : 524288 ||| m = m) : less m (Live.modPi l n f) = less m l := less_le h (by
  unfold Live.modPi
  repeat' first
    | (with_reducible rfl)
    | (intro _)
    | (simp [less_ite]; done)
    | (with_reducible refine (less_forL (fun l x => ?_)).trans ?_)
    | (with_reducible refine (less_each (fun l x => ?_)).trans ?_)
    | (with_reducible refine (less_foldl (fun l x => ?_)).trans ?_)
    | split
    | simp [less_ite]
    | rfl)

@[simp] theorem modCapSlot_keep (l : Live) (n : Nat) (f : CapSlot → CapSlot) (m : Nat) (h : 1048576 ||| m = m) : less m (Live.modCapSlot l n f) = less m l := less_le h (by
  unfold Live.modCapSlot
  repeat' first
    | (with_reducible rfl)
    | (intro _)
    | (simp [less_ite]; done)
    | (with_reducible refine (less_forL (fun l x => ?_)).trans ?_)
    | (with_reducible refine (less_each (fun l x => ?_)).trans ?_)
    | (with_reducible refine (less_foldl (fun l x => ?_)).trans ?_)
    | split
    | simp [less_ite]
    | rfl)

@[simp] theorem modTrace_keep (l : Live) (n : Nat) (f : TraceCh → TraceCh) (m : Nat) (h : 1048576 ||| m = m) : less m (Live.modTrace l n f) = less m l := less_le h (by
  unfold Live.modTrace
  repeat' first
    | (with_reducible rfl)
    | (intro _)
    | (simp [less_ite]; done)
    | (with_reducible refine (less_forL (fun l x => ?_)).trans ?_)
    | (with_reducible refine (less_each (fun l x => ?_)).trans ?_)
    | (with_reducible refine (less_foldl (fun l x => ?_)).trans ?_)
    | split
    | simp [less_ite]
    | rfl)

@[simp] theorem modK_keep (l : Live) (f : Keeper → Keeper) (m : Nat) (h : 65536 ||| m = m) : less m (Live.modK l f) = less m l := less_le h (by
  unfold Live.modK
  repeat' first
    | (with_reducible rfl)
    | (intro _)
    | (simp [less_ite]; done)
    | (with_reducible refine (less_forL (fun l x => ?_)).trans ?_)
    | (with_reducible refine (less_each (fun l x => ?_)).trans ?_)
    | (with_reducible refine (less_foldl (fun l x => ?_)).trans ?_)
    | split
    | simp [less_ite]
    | rfl)

@[simp] theorem modPwr_keep (l : Live) (f : Pwr → Pwr) (m : Nat) (h : 16 ||| m = m) : less m (Live.modPwr l f) = less m l := less_le h (by
  unfold Live.modPwr
  repeat' first
    | (with_reducible rfl)
    | (intro _)
    | (simp [less_ite]; done)
    | (with_reducible refine (less_forL (fun l x => ?_)).trans ?_)
    | (with_reducible refine (less_each (fun l x => ?_)).trans ?_)
    | (with_reducible refine (less_foldl (fun l x => ?_)).trans ?_)
    | split
    | simp [less_ite]
    | rfl)

@[simp] theorem modPp_keep (l : Live) (f : Power → Power) (m : Nat) (h : 4096 ||| m = m) : less m (Live.modPp l f) = less m l := less_le h (by
  unfold Live.modPp
  repeat' first
    | (with_reducible rfl)
    | (intro _)
    | (simp [less_ite]; done)
    | (with_reducible refine (less_forL (fun l x => ?_)).trans ?_)
    | (with_reducible refine (less_each (fun l x => ?_)).trans ?_)
    | (with_reducible refine (less_foldl (fun l x => ?_)).trans ?_)
    | split
    | simp [less_ite]
    | rfl)

@[simp] theorem modRec_keep (l : Live) (f : Recorder → Recorder) (m : Nat) (h : 1048576 ||| m = m) : less m (Live.modRec l f) = less m l := less_le h (by
  unfold Live.modRec
  repeat' first
    | (with_reducible rfl)
    | (intro _)
    | (simp [less_ite]; done)
    | (with_reducible refine (less_forL (fun l x => ?_)).trans ?_)
    | (with_reducible refine (less_each (fun l x => ?_)).trans ?_)
    | (with_reducible refine (less_foldl (fun l x => ?_)).trans ?_)
    | split
    | simp [less_ite]
    | rfl)

@[simp] theorem modFc_keep (l : Live) (f : Fc → Fc) (m : Nat) (h : 32768 ||| m = m) : less m (Live.modFc l f) = less m l := less_le h (by
  unfold Live.modFc
  repeat' first
    | (with_reducible rfl)
    | (intro _)
    | (simp [less_ite]; done)
    | (with_reducible refine (less_forL (fun l x => ?_)).trans ?_)
    | (with_reducible refine (less_each (fun l x => ?_)).trans ?_)
    | (with_reducible refine (less_foldl (fun l x => ?_)).trans ?_)
    | split
    | simp [less_ite]
    | rfl)

@[simp] theorem modSec_keep (l : Live) (f : Sec → Sec) (m : Nat) (h : 2097152 ||| m = m) : less m (Live.modSec l f) = less m l := less_le h (by
  unfold Live.modSec
  repeat' first
    | (with_reducible rfl)
    | (intro _)
    | (simp [less_ite]; done)
    | (with_reducible refine (less_forL (fun l x => ?_)).trans ?_)
    | (with_reducible refine (less_each (fun l x => ?_)).trans ?_)
    | (with_reducible refine (less_foldl (fun l x => ?_)).trans ?_)
    | split
    | simp [less_ite]
    | rfl)

@[simp] theorem modTxn_keep (l : Live) (f : Txn → Txn) (m : Nat) (h : 131072 ||| m = m) : less m (Live.modTxn l f) = less m l := less_le h (by
  unfold Live.modTxn
  repeat' first
    | (with_reducible rfl)
    | (intro _)
    | (simp [less_ite]; done)
    | (with_reducible refine (less_forL (fun l x => ?_)).trans ?_)
    | (with_reducible refine (less_each (fun l x => ?_)).trans ?_)
    | (with_reducible refine (less_foldl (fun l x => ?_)).trans ?_)
    | split
    | simp [less_ite]
    | rfl)

@[simp] theorem modLoop_keep (l : Live) (f : Loop → Loop) (m : Nat) (h : 256 ||| m = m) : less m (Live.modLoop l f) = less m l := less_le h (by
  unfold Live.modLoop
  repeat' first
    | (with_reducible rfl)
    | (intro _)
    | (simp [less_ite]; done)
    | (with_reducible refine (less_forL (fun l x => ?_)).trans ?_)
    | (with_reducible refine (less_each (fun l x => ?_)).trans ?_)
    | (with_reducible refine (less_foldl (fun l x => ?_)).trans ?_)
    | split
    | simp [less_ite]
    | rfl)

@[simp] theorem setHw_keep (l : Live) (oid w : Nat) (v : Word) (m : Nat) (h : 16777216 ||| m = m) : less m (Live.setHw l oid w v) = less m l := less_le h (by
  unfold Live.setHw
  repeat' first
    | (with_reducible rfl)
    | (intro _)
    | (simp [less_ite]; done)
    | (with_reducible refine (less_forL (fun l x => ?_)).trans ?_)
    | (with_reducible refine (less_each (fun l x => ?_)).trans ?_)
    | (with_reducible refine (less_foldl (fun l x => ?_)).trans ?_)
    | split
    | simp [less_ite]
    | rfl)

@[simp] theorem w1cSet_keep (l : Live) (oid w b : Nat) (m : Nat) (h : 67108864 ||| m = m) : less m (Live.w1cSet l oid w b) = less m l := less_le h (by
  unfold Live.w1cSet
  repeat' first
    | (with_reducible rfl)
    | (intro _)
    | (simp [less_ite]; done)
    | (with_reducible refine (less_forL (fun l x => ?_)).trans ?_)
    | (with_reducible refine (less_each (fun l x => ?_)).trans ?_)
    | (with_reducible refine (less_foldl (fun l x => ?_)).trans ?_)
    | split
    | simp [less_ite]
    | rfl)

@[simp] theorem setCtr_keep (l : Live) (n : Nat) (c : Counter) (m : Nat) (h : 1048576 ||| m = m) : less m (Live.setCtr l n c) = less m l := less_le h (by
  unfold Live.setCtr
  repeat' first
    | (with_reducible rfl)
    | (intro _)
    | (simp [less_ite]; done)
    | (with_reducible refine (less_forL (fun l x => ?_)).trans ?_)
    | (with_reducible refine (less_each (fun l x => ?_)).trans ?_)
    | (with_reducible refine (less_foldl (fun l x => ?_)).trans ?_)
    | split
    | simp [less_ite]
    | rfl)

@[simp] theorem addCtr_keep (l : Live) (n k : Nat) (m : Nat) (h : 68157440 ||| m = m) : less m (Live.addCtr l n k) = less m l := less_le h (by
  unfold Live.addCtr
  repeat' first
    | (with_reducible rfl)
    | (intro _)
    | (simp [less_ite]; done)
    | (with_reducible refine (less_forL (fun l x => ?_)).trans ?_)
    | (with_reducible refine (less_each (fun l x => ?_)).trans ?_)
    | (with_reducible refine (less_foldl (fun l x => ?_)).trans ?_)
    | split
    | simp [less_ite]
    | rfl)

@[simp] theorem bumpCtr_keep (l : Live) (n k : Nat) (m : Nat) (h : 68157440 ||| m = m) : less m (Live.bumpCtr l n k) = less m l := less_le h (by
  unfold Live.bumpCtr
  repeat' first
    | (with_reducible rfl)
    | (intro _)
    | (simp [less_ite]; done)
    | (with_reducible refine (less_forL (fun l x => ?_)).trans ?_)
    | (with_reducible refine (less_each (fun l x => ?_)).trans ?_)
    | (with_reducible refine (less_foldl (fun l x => ?_)).trans ?_)
    | split
    | simp [less_ite]
    | rfl)

@[simp] theorem countWith_keep (l : Live) (n k : Nat) (a : CntAttr) (m : Nat) (h : 68157440 ||| m = m) : less m (Live.countWith l n k a) = less m l := less_le h (by
  unfold Live.countWith
  repeat' first
    | (with_reducible rfl)
    | (intro _)
    | (simp [less_ite]; done)
    | (with_reducible refine (less_forL (fun l x => ?_)).trans ?_)
    | (with_reducible refine (less_each (fun l x => ?_)).trans ?_)
    | (with_reducible refine (less_foldl (fun l x => ?_)).trans ?_)
    | split
    | simp [less_ite]
    | rfl)

@[simp] theorem count_keep (l : Live) (n : Nat) (m : Nat) (h : 68157440 ||| m = m) : less m (Live.count l n) = less m l := less_le h (by
  unfold Live.count
  repeat' first
    | (with_reducible rfl)
    | (intro _)
    | (simp [less_ite]; done)
    | (with_reducible refine (less_forL (fun l x => ?_)).trans ?_)
    | (with_reducible refine (less_each (fun l x => ?_)).trans ?_)
    | (with_reducible refine (less_foldl (fun l x => ?_)).trans ?_)
    | split
    | simp [less_ite]
    | rfl)

@[simp] theorem countAlt_keep (l : Live) (n k : Nat) (isAlt : Bool) (m : Nat) (h : 68157440 ||| m = m) : less m (Live.countAlt l n k isAlt) = less m l := less_le h (by
  unfold Live.countAlt
  repeat' first
    | (with_reducible rfl)
    | (intro _)
    | (simp [less_ite]; done)
    | (with_reducible refine (less_forL (fun l x => ?_)).trans ?_)
    | (with_reducible refine (less_each (fun l x => ?_)).trans ?_)
    | (with_reducible refine (less_foldl (fun l x => ?_)).trans ?_)
    | split
    | simp [less_ite]
    | rfl)

@[simp] theorem flashBegin_keep (l : Live) (op : Nat) (m : Nat) (h : 16384 ||| m = m) : less m (Live.flashBegin l op) = less m l := less_le h (by
  unfold Live.flashBegin
  repeat' first
    | (with_reducible rfl)
    | (intro _)
    | (simp [less_ite]; done)
    | (with_reducible refine (less_forL (fun l x => ?_)).trans ?_)
    | (with_reducible refine (less_each (fun l x => ?_)).trans ?_)
    | (with_reducible refine (less_foldl (fun l x => ?_)).trans ?_)
    | split
    | simp [less_ite]
    | rfl)

@[simp] theorem flashEnd_keep (l : Live) (op : Nat) (m : Nat) (h : 16384 ||| m = m) : less m (Live.flashEnd l op) = less m l := less_le h (by
  unfold Live.flashEnd
  repeat' first
    | (with_reducible rfl)
    | (intro _)
    | (simp [less_ite]; done)
    | (with_reducible refine (less_forL (fun l x => ?_)).trans ?_)
    | (with_reducible refine (less_each (fun l x => ?_)).trans ?_)
    | (with_reducible refine (less_foldl (fun l x => ?_)).trans ?_)
    | split
    | simp [less_ite]
    | rfl)

@[simp] theorem raise_keep (l : Live) (code obj : Nat) (aux : Nat) (val : Nat) (course : Half) (m : Nat) (h : 32768 ||| m = m) : less m (Live.raise l code obj aux val course) = less m l := less_le h (by
  unfold Live.raise
  repeat' first
    | (with_reducible rfl)
    | (intro _)
    | (simp [less_ite]; done)
    | (with_reducible refine (less_forL (fun l x => ?_)).trans ?_)
    | (with_reducible refine (less_each (fun l x => ?_)).trans ?_)
    | (with_reducible refine (less_foldl (fun l x => ?_)).trans ?_)
    | split
    | simp [less_ite]
    | rfl)

@[simp] theorem raiseOnce_keep (l : Live) (code obj : Nat) (aux : Nat) (val : Nat) (m : Nat) (h : 32768 ||| m = m) : less m (Live.raiseOnce l code obj aux val) = less m l := less_le h (by
  unfold Live.raiseOnce
  repeat' first
    | (with_reducible rfl)
    | (intro _)
    | (simp [less_ite]; done)
    | (with_reducible refine (less_forL (fun l x => ?_)).trans ?_)
    | (with_reducible refine (less_each (fun l x => ?_)).trans ?_)
    | (with_reducible refine (less_foldl (fun l x => ?_)).trans ?_)
    | split
    | simp [less_ite]
    | rfl)

@[simp] theorem record_keep (l : Live) (etype : Nat) (pay : List Byte) (m : Nat) (h : 68190208 ||| m = m) : less m (Live.record l etype pay) = less m l := less_le h (by
  unfold Live.record
  repeat' first
    | (with_reducible rfl)
    | (intro _)
    | (simp [less_ite]; done)
    | (with_reducible refine (less_forL (fun l x => ?_)).trans ?_)
    | (with_reducible refine (less_each (fun l x => ?_)).trans ?_)
    | (with_reducible refine (less_foldl (fun l x => ?_)).trans ?_)
    | split
    | simp [less_ite]
    | rfl)

@[simp] theorem setPower_keep (l : Live) (st : PwrSt) (cause : Nat) (m : Nat) (h : 68190224 ||| m = m) : less m (Live.setPower l st cause) = less m l := less_le h (by
  unfold Live.setPower
  repeat' first
    | (with_reducible rfl)
    | (intro _)
    | (simp [less_ite]; done)
    | (with_reducible refine (less_forL (fun l x => ?_)).trans ?_)
    | (with_reducible refine (less_each (fun l x => ?_)).trans ?_)
    | (with_reducible refine (less_foldl (fun l x => ?_)).trans ?_)
    | split
    | simp [less_ite]
    | rfl)

@[simp] theorem hostEvent_keep (l : Live) (kind code obj aux : Nat) (m : Nat) (h : 262144 ||| m = m) : less m (Live.hostEvent l kind code obj aux) = less m l := less_le h (by
  unfold Live.hostEvent
  repeat' first
    | (with_reducible rfl)
    | (intro _)
    | (simp [less_ite]; done)
    | (with_reducible refine (less_forL (fun l x => ?_)).trans ?_)
    | (with_reducible refine (less_each (fun l x => ?_)).trans ?_)
    | (with_reducible refine (less_foldl (fun l x => ?_)).trans ?_)
    | split
    | simp [less_ite]
    | rfl)

@[simp] theorem idleTick_keep (l : Live) (m : Nat) (h : 1 ||| m = m) : less m (Live.idleTick l) = less m l := less_le h (by
  unfold Live.idleTick
  repeat' first
    | (with_reducible rfl)
    | (intro _)
    | (simp [less_ite]; done)
    | (with_reducible refine (less_forL (fun l x => ?_)).trans ?_)
    | (with_reducible refine (less_each (fun l x => ?_)).trans ?_)
    | (with_reducible refine (less_foldl (fun l x => ?_)).trans ?_)
    | split
    | simp [less_ite]
    | rfl)

end Sys2Proof.Machine.Live
end

