-- ==== Sys2Proof/Laws/KeepCode.lean ====
section
/-! SUPPORT. What each operation of `Machine/Code.lean` leaves alone: it changes no part of the state but those whose bits stand
in the number that its lemma names (the parts are numbered in `Laws/Parts.lean`). -/
namespace Sys2Proof.Machine.Live

set_option linter.unusedTactic false
set_option linter.unreachableTactic false
set_option linter.unusedSimpArgs false

@[simp] theorem ringCount_keep (l : Live) (n k times : Nat) (m : Nat) (h : 68157440 ||| m = m) : less m (Live.ringCount l n k times) = less m l := less_le h (by
  unfold Live.ringCount
  repeat' first
    | (with_reducible rfl)
    | (intro _)
    | (simp [less_ite]; done)
    | (with_reducible refine (less_forL (fun l x => ?_)).trans ?_)
    | (with_reducible refine (less_each (fun l x => ?_)).trans ?_)
    | (with_reducible refine (less_foldl (fun l x => ?_)).trans ?_)
    | split
    | simp [less_ite]
    | rfl)

@[simp] theorem codeErr_keep (l : Live) (n : Nat) (errs : List GroupErr) (m : Nat) (h : 68157440 ||| m = m) : less m (Live.codeErr l n errs) = less m l := less_le h (by
  unfold Live.codeErr
  repeat' first
    | (with_reducible rfl)
    | (intro _)
    | (simp [less_ite]; done)
    | (with_reducible refine (less_forL (fun l x => ?_)).trans ?_)
    | (with_reducible refine (less_each (fun l x => ?_)).trans ?_)
    | (with_reducible refine (less_foldl (fun l x => ?_)).trans ?_)
    | split
    | simp [less_ite]
    | rfl)

end Sys2Proof.Machine.Live
end

