-- ==== Sys2Proof/Laws/KeepOtp.lean ====
section
/-! SUPPORT. What each operation of `Machine/Otp.lean` leaves alone: it changes no part of the state but those whose bits stand
in the number that its lemma names (the parts are numbered in `Laws/Parts.lean`). -/
namespace Sys2Proof.Machine.Live

set_option linter.unusedTactic false
set_option linter.unreachableTactic false
set_option linter.unusedSimpArgs false

@[simp] theorem burnWord_keep (l : Live) (a : Nat) (enc : BitVec 40) (env : FuseEnv) (m : Nat) (h : 70254592 ||| m = m) : less m (Live.burnWord l a enc env).2 = less m l := less_le h (by
  unfold Live.burnWord
  repeat' first
    | (with_reducible rfl)
    | (intro _)
    | (simp [less_ite]; done)
    | (with_reducible refine (less_forL (fun l x => ?_)).trans ?_)
    | (with_reducible refine (less_each (fun l x => ?_)).trans ?_)
    | (with_reducible refine (less_foldl (fun l x => ?_)).trans ?_)
    | split
    | simp [less_ite]
    | rfl)

@[simp] theorem zeroise_keep (l : Live) (env : FuseEnv) (m : Nat) (h : 70254592 ||| m = m) : less m (Live.zeroise l env) = less m l := less_le h (by
  unfold Live.zeroise
  repeat' first
    | (with_reducible rfl)
    | (intro _)
    | (simp [less_ite]; done)
    | (with_reducible refine (less_forL (fun l x => ?_)).trans ?_)
    | (with_reducible refine (less_each (fun l x => ?_)).trans ?_)
    | (with_reducible refine (less_foldl (fun l x => ?_)).trans ?_)
    | split
    | simp [less_ite]
    | rfl)

end Sys2Proof.Machine.Live
end

