-- ==== Sys2Proof/Laws/KeepUpdate.lean ====
section
/-! SUPPORT. What each operation of `Machine/Update.lean` leaves alone: it changes no part of the state but those whose bits stand
in the number that its lemma names (the parts are numbered in `Laws/Parts.lean`). -/
namespace Sys2Proof.Machine.Live

set_option linter.unusedTactic false
set_option linter.unreachableTactic false
set_option linter.unusedSimpArgs false

@[simp] theorem setBoot_keep (l : Live) (f : BootRec → BootRec) (m : Nat) (h : 2097152 ||| m = m) : less m (Live.setBoot l f) = less m l := less_le h (by
  unfold Live.setBoot
  repeat' first
    | (with_reducible rfl)
    | (intro _)
    | (simp [less_ite]; done)
    | (with_reducible refine (less_forL (fun l x => ?_)).trans ?_)
    | (with_reducible refine (less_each (fun l x => ?_)).trans ?_)
    | (with_reducible refine (less_foldl (fun l x => ?_)).trans ?_)
    | split
    | simp [less_ite]
    | rfl)

@[simp] theorem updateRecord_keep (l : Live) (old : Nat) (m : Nat) (h : 68190208 ||| m = m) : less m (Live.updateRecord l old) = less m l := less_le h (by
  unfold Live.updateRecord
  repeat' first
    | (with_reducible rfl)
    | (intro _)
    | (simp [less_ite]; done)
    | (with_reducible refine (less_forL (fun l x => ?_)).trans ?_)
    | (with_reducible refine (less_each (fun l x => ?_)).trans ?_)
    | (with_reducible refine (less_foldl (fun l x => ?_)).trans ?_)
    | split
    | simp [less_ite]
    | rfl)

@[simp] theorem withUpdate_keep (l : Live) (f : Live → Live) (m : Nat) (h : 68190208 ||| m = m)
    (hf : ∀ l, less m (f l) = less m l) : less m (l.withUpdate f) = less m l := (updateRecord_keep _ _ m h).trans (hf l)

@[simp] theorem stgDrop_keep (l : Live) (m : Nat) (h : 70287360 ||| m = m) : less m (Live.stgDrop l) = less m l := less_le h (by
  unfold Live.stgDrop
  repeat' first
    | (with_reducible rfl)
    | (intro _)
    | (simp [less_ite]; done)
    | (with_reducible refine (less_forL (fun l x => ?_)).trans ?_)
    | (with_reducible refine (less_each (fun l x => ?_)).trans ?_)
    | (with_reducible refine (less_foldl (fun l x => ?_)).trans ?_)
    | split
    | simp [less_ite]
    | rfl)

@[simp] theorem stgClose_keep (l : Live) (sess : Nat) (m : Nat) (h : 70287360 ||| m = m) : less m (Live.stgClose l sess) = less m l := less_le h (by
  unfold Live.stgClose
  repeat' first
    | (with_reducible rfl)
    | (intro _)
    | (simp [less_ite]; done)
    | (with_reducible refine (less_forL (fun l x => ?_)).trans ?_)
    | (with_reducible refine (less_each (fun l x => ?_)).trans ?_)
    | (with_reducible refine (less_foldl (fun l x => ?_)).trans ?_)
    | split
    | simp [less_ite]
    | rfl)

@[simp] theorem setBank_keep (l : Live) (bk : Bool) (b : List Byte) (m : Nat) (h : 2097152 ||| m = m) : less m (Live.setBank l bk b) = less m l := less_le h (by
  unfold Live.setBank
  repeat' first
    | (with_reducible rfl)
    | (intro _)
    | (simp [less_ite]; done)
    | (with_reducible refine (less_forL (fun l x => ?_)).trans ?_)
    | (with_reducible refine (less_each (fun l x => ?_)).trans ?_)
    | (with_reducible refine (less_foldl (fun l x => ?_)).trans ?_)
    | split
    | simp [less_ite]
    | rfl)

@[simp] theorem applyUpdate_keep (l : Live) (flashOk : Bool) (m : Nat) (h : 70287360 ||| m = m) : less m (Live.applyUpdate l flashOk) = less m l := less_le h (by
  unfold Live.applyUpdate
  repeat' first
    | (with_reducible rfl)
    | (intro _)
    | (simp [less_ite]; done)
    | (with_reducible refine (less_forL (fun l x => ?_)).trans ?_)
    | (with_reducible refine (less_each (fun l x => ?_)).trans ?_)
    | (with_reducible refine (less_foldl (fun l x => ?_)).trans ?_)
    | split
    | simp [less_ite]
    | rfl)

@[simp] theorem trialRule_keep (l : Live) (m : Nat) (h : 70287360 ||| m = m) : less m (Live.trialRule l) = less m l := less_le h (by
  unfold Live.trialRule
  repeat' first
    | (with_reducible rfl)
    | (intro _)
    | (simp [less_ite]; done)
    | (with_reducible refine (less_forL (fun l x => ?_)).trans ?_)
    | (with_reducible refine (less_each (fun l x => ?_)).trans ?_)
    | (with_reducible refine (less_foldl (fun l x => ?_)).trans ?_)
    | split
    | simp [less_ite]
    | rfl)

@[simp] theorem secureBoot_keep (l : Live) (m : Nat) (h : 70287360 ||| m = m) : less m (Live.secureBoot l) = less m l := less_le h (by
  unfold Live.secureBoot
  repeat' first
    | (with_reducible rfl)
    | (intro _)
    | (simp [less_ite]; done)
    | (with_reducible refine (less_forL (fun l x => ?_)).trans ?_)
    | (with_reducible refine (less_each (fun l x => ?_)).trans ?_)
    | (with_reducible refine (less_foldl (fun l x => ?_)).trans ?_)
    | split
    | simp [less_ite]
    | rfl)

@[simp] theorem arvStep_keep (l : Live) (env : FuseEnv) (m : Nat) (h : 70287360 ||| m = m) : less m (Live.arvStep l env) = less m l := less_le h (by
  unfold Live.arvStep
  repeat' first
    | (with_reducible rfl)
    | (intro _)
    | (simp [less_ite]; done)
    | (with_reducible refine (less_forL (fun l x => ?_)).trans ?_)
    | (with_reducible refine (less_each (fun l x => ?_)).trans ?_)
    | (with_reducible refine (less_foldl (fun l x => ?_)).trans ?_)
    | split
    | simp [less_ite]
    | rfl)

@[simp] theorem arvResume_keep (l : Live) (m : Nat) (h : 2097152 ||| m = m) : less m (Live.arvResume l) = less m l := less_le h (by
  unfold Live.arvResume
  repeat' first
    | (with_reducible rfl)
    | (intro _)
    | (simp [less_ite]; done)
    | (with_reducible refine (less_forL (fun l x => ?_)).trans ?_)
    | (with_reducible refine (less_each (fun l x => ?_)).trans ?_)
    | (with_reducible refine (less_foldl (fun l x => ?_)).trans ?_)
    | split
    | simp [less_ite]
    | rfl)

@[simp] theorem arvSteps_keep (l : Live) (env : FuseEnv) (k m : Nat) (h : 70287360 ||| m = m) : less m (l.arvSteps env k) = less m l := by
  induction k generalizing l with
  | zero => rfl
  | succ k ih => exact (ih _).trans (arvStep_keep l env m h)

end Sys2Proof.Machine.Live
end

