-- ==== Sys2Proof/Laws/KeepQuantities.lean ====
section
/-! SUPPORT. What each operation of `Machine/Quantities.lean` leaves alone: it changes no part of the state but those whose bits stand
in the number that its lemma names (the parts are numbered in `Laws/Parts.lean`). -/
namespace Sys2Proof.Machine.Live

set_option linter.unusedTactic false
set_option linter.unreachableTactic false
set_option linter.unusedSimpArgs false

@[simp] theorem modMem_keep (l : Live) (r m : Nat) (f : Member → Member) (mm : Nat) (h : 512 ||| mm = mm) : less mm (Live.modMem l r m f) = less mm l := less_le h (by
  unfold Live.modMem
  repeat' first
    | (with_reducible rfl)
    | (intro _)
    | (simp [less_ite]; done)
    | (with_reducible refine (less_forL (fun l x => ?_)).trans ?_)
    | (with_reducible refine (less_each (fun l x => ?_)).trans ?_)
    | (with_reducible refine (less_foldl (fun l x => ?_)).trans ?_)
    | split
    | simp [less_ite]
    | rfl)

end Sys2Proof.Machine.Live
end

