-- ==== Sys2Proof/Laws/KeepRecorder.lean ====
section
/-! SUPPORT. What each operation of `Machine/Recorder.lean` leaves alone: it changes no part of the state but those whose bits stand
in the number that its lemma names (the parts are numbered in `Laws/Parts.lean`). -/
namespace Sys2Proof.Machine.Live

set_option linter.unusedTactic false
set_option linter.unreachableTactic false
set_option linter.unusedSimpArgs false

@[simp] theorem erasePage_keep (l : Live) (p : Nat) (m : Nat) (h : 1048576 ||| m = m) : less m (Live.erasePage l p) = less m l := less_le h (by
  unfold Live.erasePage
  repeat' first
    | (with_reducible rfl)
    | (intro _)
    | (simp [less_ite]; done)
    | (with_reducible refine (less_forL (fun l x => ?_)).trans ?_)
    | (with_reducible refine (less_each (fun l x => ?_)).trans ?_)
    | (with_reducible refine (less_foldl (fun l x => ?_)).trans ?_)
    | split
    | simp [less_ite]
    | rfl)

@[simp] theorem keepErased_keep (l : Live) (m : Nat) (h : 1048576 ||| m = m) : less m (Live.keepErased l) = less m l := less_le h (by
  unfold Live.keepErased
  repeat' first
    | (with_reducible rfl)
    | (intro _)
    | (simp [less_ite]; done)
    | (with_reducible refine (less_forL (fun l x => ?_)).trans ?_)
    | (with_reducible refine (less_each (fun l x => ?_)).trans ?_)
    | (with_reducible refine (less_foldl (fun l x => ?_)).trans ?_)
    | split
    | simp [less_ite]
    | rfl)

@[simp] theorem startPage_keep (l : Live) (page : FlushPage) (m : Nat) (h : 1064960 ||| m = m) : less m (Live.startPage l page) = less m l := less_le h (by
  unfold Live.startPage
  repeat' first
    | (with_reducible rfl)
    | (intro _)
    | (simp [less_ite]; done)
    | (with_reducible refine (less_forL (fun l x => ?_)).trans ?_)
    | (with_reducible refine (less_each (fun l x => ?_)).trans ?_)
    | (with_reducible refine (less_foldl (fun l x => ?_)).trans ?_)
    | split
    | simp [less_ite]
    | rfl)

@[simp] theorem startEvents_keep (l : Live) (m : Nat) (h : 1064960 ||| m = m) : less m (Live.startEvents l) = less m l := less_le h (by
  unfold Live.startEvents
  repeat' first
    | (with_reducible rfl)
    | (intro _)
    | (simp [less_ite]; done)
    | (with_reducible refine (less_forL (fun l x => ?_)).trans ?_)
    | (with_reducible refine (less_each (fun l x => ?_)).trans ?_)
    | (with_reducible refine (less_foldl (fun l x => ?_)).trans ?_)
    | split
    | simp [less_ite]
    | rfl)

@[simp] theorem startCapture_keep (l : Live) (m : Nat) (h : 1064960 ||| m = m) : less m (Live.startCapture l) = less m l := less_le h (by
  unfold Live.startCapture
  repeat' first
    | (with_reducible rfl)
    | (intro _)
    | (simp [less_ite]; done)
    | (with_reducible refine (less_forL (fun l x => ?_)).trans ?_)
    | (with_reducible refine (less_each (fun l x => ?_)).trans ?_)
    | (with_reducible refine (less_foldl (fun l x => ?_)).trans ?_)
    | split
    | simp [less_ite]
    | rfl)

@[simp] theorem pageFlushed_keep (l : Live) (p : FlushPage) (m : Nat) (h : 1048576 ||| m = m) : less m (Live.pageFlushed l p) = less m l := less_le h (by
  unfold Live.pageFlushed
  repeat' first
    | (with_reducible rfl)
    | (intro _)
    | (simp [less_ite]; done)
    | (with_reducible refine (less_forL (fun l x => ?_)).trans ?_)
    | (with_reducible refine (less_each (fun l x => ?_)).trans ?_)
    | (with_reducible refine (less_foldl (fun l x => ?_)).trans ?_)
    | split
    | simp [less_ite]
    | rfl)

@[simp] theorem rcmdFlush_keep (l : Live) (m : Nat) (h : 1064960 ||| m = m) : less m (Live.rcmdFlush l) = less m l := less_le h (by
  unfold Live.rcmdFlush
  repeat' first
    | (with_reducible rfl)
    | (intro _)
    | (simp [less_ite]; done)
    | (with_reducible refine (less_forL (fun l x => ?_)).trans ?_)
    | (with_reducible refine (less_each (fun l x => ?_)).trans ?_)
    | (with_reducible refine (less_foldl (fun l x => ?_)).trans ?_)
    | split
    | simp [less_ite]
    | rfl)

@[simp] theorem capApply_keep (l : Live) (m : Nat) (h : 1048576 ||| m = m) : less m (Live.capApply l) = less m l := less_le h (by
  unfold Live.capApply
  repeat' first
    | (with_reducible rfl)
    | (intro _)
    | (simp [less_ite]; done)
    | (with_reducible refine (less_forL (fun l x => ?_)).trans ?_)
    | (with_reducible refine (less_each (fun l x => ?_)).trans ?_)
    | (with_reducible refine (less_foldl (fun l x => ?_)).trans ?_)
    | split
    | simp [less_ite]
    | rfl)

@[simp] theorem capTrigger_keep (l : Live) (s : Nat) (code : Half) (m : Nat) (h : 1048576 ||| m = m) : less m (Live.capTrigger l s code) = less m l := less_le h (by
  unfold Live.capTrigger
  repeat' first
    | (with_reducible rfl)
    | (intro _)
    | (simp [less_ite]; done)
    | (with_reducible refine (less_forL (fun l x => ?_)).trans ?_)
    | (with_reducible refine (less_each (fun l x => ?_)).trans ?_)
    | (with_reducible refine (less_foldl (fun l x => ?_)).trans ?_)
    | split
    | simp [less_ite]
    | rfl)

@[simp] theorem capOccurrence_keep (l : Live) (code : Half) (cls : Cls) (m : Nat) (h : 1048576 ||| m = m) : less m (Live.capOccurrence l code cls) = less m l := less_le h (by
  unfold Live.capOccurrence
  repeat' first
    | (with_reducible rfl)
    | (intro _)
    | (simp [less_ite]; done)
    | (with_reducible refine (less_forL (fun l x => ?_)).trans ?_)
    | (with_reducible refine (less_each (fun l x => ?_)).trans ?_)
    | (with_reducible refine (less_foldl (fun l x => ?_)).trans ?_)
    | split
    | simp [less_ite]
    | rfl)

@[simp] theorem capPoint_keep (l : Live) (s : Nat) (pt : List Half) (m : Nat) (h : 1048576 ||| m = m) : less m (Live.capPoint l s pt) = less m l := less_le h (by
  unfold Live.capPoint
  repeat' first
    | (with_reducible rfl)
    | (intro _)
    | (simp [less_ite]; done)
    | (with_reducible refine (less_forL (fun l x => ?_)).trans ?_)
    | (with_reducible refine (less_each (fun l x => ?_)).trans ?_)
    | (with_reducible refine (less_foldl (fun l x => ?_)).trans ?_)
    | split
    | simp [less_ite]
    | rfl)

@[simp] theorem ccmdTrigger_keep (l : Live) (slot : Nat) (m : Nat) (h : 1048576 ||| m = m) : less m (Live.ccmdTrigger l slot) = less m l := less_le h (by
  unfold Live.ccmdTrigger
  repeat' first
    | (with_reducible rfl)
    | (intro _)
    | (simp [less_ite]; done)
    | (with_reducible refine (less_forL (fun l x => ?_)).trans ?_)
    | (with_reducible refine (less_each (fun l x => ?_)).trans ?_)
    | (with_reducible refine (less_foldl (fun l x => ?_)).trans ?_)
    | split
    | simp [less_ite]
    | rfl)

@[simp] theorem ccmdRearm_keep (l : Live) (slot : Nat) (m : Nat) (h : 1048576 ||| m = m) : less m (Live.ccmdRearm l slot) = less m l := less_le h (by
  unfold Live.ccmdRearm
  repeat' first
    | (with_reducible rfl)
    | (intro _)
    | (simp [less_ite]; done)
    | (with_reducible refine (less_forL (fun l x => ?_)).trans ?_)
    | (with_reducible refine (less_each (fun l x => ?_)).trans ?_)
    | (with_reducible refine (less_foldl (fun l x => ?_)).trans ?_)
    | split
    | simp [less_ite]
    | rfl)

@[simp] theorem modArea_keep (l : Live) (a : Nat) (f : SnapArea → SnapArea) (m : Nat) (h : 1048576 ||| m = m) : less m (Live.modArea l a f) = less m l := less_le h (by
  unfold Live.modArea
  repeat' first
    | (with_reducible rfl)
    | (intro _)
    | (simp [less_ite]; done)
    | (with_reducible refine (less_forL (fun l x => ?_)).trans ?_)
    | (with_reducible refine (less_each (fun l x => ?_)).trans ?_)
    | (with_reducible refine (less_foldl (fun l x => ?_)).trans ?_)
    | split
    | simp [less_ite]
    | rfl)

@[simp] theorem armWatch_keep (l : Live) (m : Nat) (h : 1048576 ||| m = m) : less m (Live.armWatch l) = less m l := less_le h (by
  unfold Live.armWatch
  repeat' first
    | (with_reducible rfl)
    | (intro _)
    | (simp [less_ite]; done)
    | (with_reducible refine (less_forL (fun l x => ?_)).trans ?_)
    | (with_reducible refine (less_each (fun l x => ?_)).trans ?_)
    | (with_reducible refine (less_foldl (fun l x => ?_)).trans ?_)
    | split
    | simp [less_ite]
    | rfl)

@[simp] theorem snapRequest_keep (l : Live) (cause : Nat) (m : Nat) (h : 1064960 ||| m = m) : less m (Live.snapRequest l cause) = less m l := less_le h (by
  unfold Live.snapRequest
  repeat' first
    | (with_reducible rfl)
    | (intro _)
    | (simp [less_ite]; done)
    | (with_reducible refine (less_forL (fun l x => ?_)).trans ?_)
    | (with_reducible refine (less_each (fun l x => ?_)).trans ?_)
    | (with_reducible refine (less_foldl (fun l x => ?_)).trans ?_)
    | split
    | simp [less_ite]
    | rfl)

@[simp] theorem snapBand_keep (l : Live) (m : Nat) (h : 1064960 ||| m = m) : less m (Live.snapBand l) = less m l := less_le h (by
  unfold Live.snapBand
  repeat' first
    | (with_reducible rfl)
    | (intro _)
    | (simp [less_ite]; done)
    | (with_reducible refine (less_forL (fun l x => ?_)).trans ?_)
    | (with_reducible refine (less_each (fun l x => ?_)).trans ?_)
    | (with_reducible refine (less_foldl (fun l x => ?_)).trans ?_)
    | split
    | simp [less_ite]
    | rfl)

@[simp] theorem armAsk_keep (l : Live) (m : Nat) (h : 1048576 ||| m = m) : less m (Live.armAsk l) = less m l := less_le h (by
  unfold Live.armAsk
  repeat' first
    | (with_reducible rfl)
    | (intro _)
    | (simp [less_ite]; done)
    | (with_reducible refine (less_forL (fun l x => ?_)).trans ?_)
    | (with_reducible refine (less_each (fun l x => ?_)).trans ?_)
    | (with_reducible refine (less_foldl (fun l x => ?_)).trans ?_)
    | split
    | simp [less_ite]
    | rfl)

@[simp] theorem rcmdSnapnow_keep (l : Live) (m : Nat) (h : 1064960 ||| m = m) : less m (Live.rcmdSnapnow l) = less m l := less_le h (by
  unfold Live.rcmdSnapnow
  repeat' first
    | (with_reducible rfl)
    | (intro _)
    | (simp [less_ite]; done)
    | (with_reducible refine (less_forL (fun l x => ?_)).trans ?_)
    | (with_reducible refine (less_each (fun l x => ?_)).trans ?_)
    | (with_reducible refine (less_foldl (fun l x => ?_)).trans ?_)
    | split
    | simp [less_ite]
    | rfl)

@[simp] theorem traceApply_keep (l : Live) (m : Nat) (h : 1048576 ||| m = m) : less m (Live.traceApply l) = less m l := less_le h (by
  unfold Live.traceApply
  repeat' first
    | (with_reducible rfl)
    | (intro _)
    | (simp [less_ite]; done)
    | (with_reducible refine (less_forL (fun l x => ?_)).trans ?_)
    | (with_reducible refine (less_each (fun l x => ?_)).trans ?_)
    | (with_reducible refine (less_foldl (fun l x => ?_)).trans ?_)
    | split
    | simp [less_ite]
    | rfl)

@[simp] theorem setGpio_keep (l : Live) (n : Nat) (v : Bool) (m : Nat) (h : 8388608 ||| m = m) : less m (Live.setGpio l n v) = less m l := less_le h (by
  unfold Live.setGpio
  repeat' first
    | (with_reducible rfl)
    | (intro _)
    | (simp [less_ite]; done)
    | (with_reducible refine (less_forL (fun l x => ?_)).trans ?_)
    | (with_reducible refine (less_each (fun l x => ?_)).trans ?_)
    | (with_reducible refine (less_foldl (fun l x => ?_)).trans ?_)
    | split
    | simp [less_ite]
    | rfl)

@[simp] theorem traceFire_keep (l : Live) (t kind : Nat) (value : W24) (m : Nat) (h : 76578816 ||| m = m) : less m (Live.traceFire l t kind value) = less m l := less_le h (by
  unfold Live.traceFire
  repeat' first
    | (with_reducible rfl)
    | (intro _)
    | (simp [less_ite]; done)
    | (with_reducible refine (less_forL (fun l x => ?_)).trans ?_)
    | (with_reducible refine (less_each (fun l x => ?_)).trans ?_)
    | (with_reducible refine (less_foldl (fun l x => ?_)).trans ?_)
    | split
    | simp [less_ite]
    | rfl)

@[simp] theorem traceStore_keep (l : Live) (t : Nat) (e : TraceEnt) (m : Nat) (h : 68157440 ||| m = m) : less m (Live.traceStore l t e) = less m l := less_le h (by
  unfold Live.traceStore
  repeat' first
    | (with_reducible rfl)
    | (intro _)
    | (simp [less_ite]; done)
    | (with_reducible refine (less_forL (fun l x => ?_)).trans ?_)
    | (with_reducible refine (less_each (fun l x => ?_)).trans ?_)
    | (with_reducible refine (less_foldl (fun l x => ?_)).trans ?_)
    | split
    | simp [less_ite]
    | rfl)

@[simp] theorem traceEntry_keep (l : Live) (t tile lane : Nat) (course : Half) (v : W24) (m : Nat) (h : 76578816 ||| m = m) : less m (Live.traceEntry l t tile lane course v) = less m l := less_le h (by
  unfold Live.traceEntry
  repeat' first
    | (with_reducible rfl)
    | (intro _)
    | (simp [less_ite]; done)
    | (with_reducible refine (less_forL (fun l x => ?_)).trans ?_)
    | (with_reducible refine (less_each (fun l x => ?_)).trans ?_)
    | (with_reducible refine (less_foldl (fun l x => ?_)).trans ?_)
    | split
    | simp [less_ite]
    | rfl)

@[simp] theorem traceAsk_keep (l : Live) (t kind : Nat) (m : Nat) (h : 76578816 ||| m = m) : less m (Live.traceAsk l t kind) = less m l := less_le h (by
  unfold Live.traceAsk
  repeat' first
    | (with_reducible rfl)
    | (intro _)
    | (simp [less_ite]; done)
    | (with_reducible refine (less_forL (fun l x => ?_)).trans ?_)
    | (with_reducible refine (less_each (fun l x => ?_)).trans ?_)
    | (with_reducible refine (less_foldl (fun l x => ?_)).trans ?_)
    | split
    | simp [less_ite]
    | rfl)

@[simp] theorem traceOccurrence_keep (l : Live) (code : Half) (m : Nat) (h : 76578816 ||| m = m) : less m (Live.traceOccurrence l code) = less m l := less_le h (by
  unfold Live.traceOccurrence
  repeat' first
    | (with_reducible rfl)
    | (intro _)
    | (simp [less_ite]; done)
    | (with_reducible refine (less_forL (fun l x => ?_)).trans ?_)
    | (with_reducible refine (less_each (fun l x => ?_)).trans ?_)
    | (with_reducible refine (less_foldl (fun l x => ?_)).trans ?_)
    | split
    | simp [less_ite]
    | rfl)

@[simp] theorem tcmdArm_keep (l : Live) (t : Nat) (m : Nat) (h : 1048576 ||| m = m) : less m (Live.tcmdArm l t) = less m l := less_le h (by
  unfold Live.tcmdArm
  repeat' first
    | (with_reducible rfl)
    | (intro _)
    | (simp [less_ite]; done)
    | (with_reducible refine (less_forL (fun l x => ?_)).trans ?_)
    | (with_reducible refine (less_each (fun l x => ?_)).trans ?_)
    | (with_reducible refine (less_foldl (fun l x => ?_)).trans ?_)
    | split
    | simp [less_ite]
    | rfl)

@[simp] theorem tcmdTrigger_keep (l : Live) (t : Nat) (m : Nat) (h : 76578816 ||| m = m) : less m (Live.tcmdTrigger l t) = less m l := less_le h (by
  unfold Live.tcmdTrigger
  repeat' first
    | (with_reducible rfl)
    | (intro _)
    | (simp [less_ite]; done)
    | (with_reducible refine (less_forL (fun l x => ?_)).trans ?_)
    | (with_reducible refine (less_each (fun l x => ?_)).trans ?_)
    | (with_reducible refine (less_foldl (fun l x => ?_)).trans ?_)
    | split
    | simp [less_ite]
    | rfl)

@[simp] theorem tcmdStop_keep (l : Live) (t : Nat) (m : Nat) (h : 1048576 ||| m = m) : less m (Live.tcmdStop l t) = less m l := less_le h (by
  unfold Live.tcmdStop
  repeat' first
    | (with_reducible rfl)
    | (intro _)
    | (simp [less_ite]; done)
    | (with_reducible refine (less_forL (fun l x => ?_)).trans ?_)
    | (with_reducible refine (less_each (fun l x => ?_)).trans ?_)
    | (with_reducible refine (less_foldl (fun l x => ?_)).trans ?_)
    | split
    | simp [less_ite]
    | rfl)

@[simp] theorem sampleGap_keep (l : Live) (m : Nat) (h : 134217728 ||| m = m) : less m (Live.sampleGap l).2 = less m l := less_le h (by
  unfold Live.sampleGap
  repeat' first
    | (with_reducible rfl)
    | (intro _)
    | (simp [less_ite]; done)
    | (with_reducible refine (less_forL (fun l x => ?_)).trans ?_)
    | (with_reducible refine (less_each (fun l x => ?_)).trans ?_)
    | (with_reducible refine (less_foldl (fun l x => ?_)).trans ?_)
    | split
    | simp [less_ite]
    | rfl)

@[simp] theorem sampleDispatch_keep (l : Live) (m : Nat) (h : 135266304 ||| m = m) : less m (Live.sampleDispatch l).2 = less m l := less_le h (by
  unfold Live.sampleDispatch
  repeat' first
    | (with_reducible rfl)
    | (intro _)
    | (simp [less_ite]; done)
    | (with_reducible refine (less_forL (fun l x => ?_)).trans ?_)
    | (with_reducible refine (less_each (fun l x => ?_)).trans ?_)
    | (with_reducible refine (less_foldl (fun l x => ?_)).trans ?_)
    | split
    | simp [less_ite]
    | rfl)

@[simp] theorem sampleStore_keep (l : Live) (e : Sample) (m : Nat) (h : 1048576 ||| m = m) : less m (Live.sampleStore l e) = less m l := less_le h (by
  unfold Live.sampleStore
  repeat' first
    | (with_reducible rfl)
    | (intro _)
    | (simp [less_ite]; done)
    | (with_reducible refine (less_forL (fun l x => ?_)).trans ?_)
    | (with_reducible refine (less_each (fun l x => ?_)).trans ?_)
    | (with_reducible refine (less_foldl (fun l x => ?_)).trans ?_)
    | split
    | simp [less_ite]
    | rfl)

@[simp] theorem setClock_keep (l : Live) (secs : Word) (m : Nat) (h : 68190208 ||| m = m) : less m (Live.setClock l secs) = less m l := less_le h (by
  unfold Live.setClock
  repeat' first
    | (with_reducible rfl)
    | (intro _)
    | (simp [less_ite]; done)
    | (with_reducible refine (less_forL (fun l x => ?_)).trans ?_)
    | (with_reducible refine (less_each (fun l x => ?_)).trans ?_)
    | (with_reducible refine (less_foldl (fun l x => ?_)).trans ?_)
    | split
    | simp [less_ite]
    | rfl)

@[simp] theorem pend_keep (l : Live) (oid w : Nat) (v : Word) (m : Nat) (h : 33554432 ||| m = m) : less m (Live.pend l oid w v) = less m l := less_le h (by
  unfold Live.pend
  repeat' first
    | (with_reducible rfl)
    | (intro _)
    | (simp [less_ite]; done)
    | (with_reducible refine (less_forL (fun l x => ?_)).trans ?_)
    | (with_reducible refine (less_each (fun l x => ?_)).trans ?_)
    | (with_reducible refine (less_foldl (fun l x => ?_)).trans ?_)
    | split
    | simp [less_ite]
    | rfl)

@[simp] theorem recReset_keep (l : Live) (m : Nat) (h : 1048576 ||| m = m) : less m (Live.recReset l) = less m l := less_le h (by
  unfold Live.recReset
  repeat' first
    | (with_reducible rfl)
    | (intro _)
    | (simp [less_ite]; done)
    | (with_reducible refine (less_forL (fun l x => ?_)).trans ?_)
    | (with_reducible refine (less_each (fun l x => ?_)).trans ?_)
    | (with_reducible refine (less_foldl (fun l x => ?_)).trans ?_)
    | split
    | simp [less_ite]
    | rfl)

end Sys2Proof.Machine.Live
end

