-- ==== Sys2Proof/Laws/KeepShared.lean ====
section
/-! SUPPORT. What each operation of `Machine/Shared.lean` leaves alone: it changes no part of the state but those whose bits stand
in the number that its lemma names (the parts are numbered in `Laws/Parts.lean`). -/
namespace Sys2Proof.Machine.Live

set_option linter.unusedTactic false
set_option linter.unreachableTactic false
set_option linter.unusedSimpArgs false

@[simp] theorem setPol_keep (l : Live) (n : Nat) (v : W24) (m : Nat) (h : 256 ||| m = m) : less m (Live.setPol l n v) = less m l := less_le h (by
  unfold Live.setPol
  repeat' first
    | (with_reducible rfl)
    | (intro _)
    | (simp [less_ite]; done)
    | (with_reducible refine (less_forL (fun l x => ?_)).trans ?_)
    | (with_reducible refine (less_each (fun l x => ?_)).trans ?_)
    | (with_reducible refine (less_foldl (fun l x => ?_)).trans ?_)
    | split
    | simp [less_ite]
    | rfl)

@[simp] theorem setOut_keep (l : Live) (t k : Nat) (v : W24) (m : Nat) (h : 256 ||| m = m) : less m (Live.setOut l t k v) = less m l := less_le h (by
  unfold Live.setOut
  repeat' first
    | (with_reducible rfl)
    | (intro _)
    | (simp [less_ite]; done)
    | (with_reducible refine (less_forL (fun l x => ?_)).trans ?_)
    | (with_reducible refine (less_each (fun l x => ?_)).trans ?_)
    | (with_reducible refine (less_foldl (fun l x => ?_)).trans ?_)
    | split
    | simp [less_ite]
    | rfl)

@[simp] theorem vcDown_keep (l : Live) (r : Nat) (m : Nat) (h : 2048 ||| m = m) : less m (Live.vcDown l r) = less m l := less_le h (by
  unfold Live.vcDown
  repeat' first
    | (with_reducible rfl)
    | (intro _)
    | (simp [less_ite]; done)
    | (with_reducible refine (less_forL (fun l x => ?_)).trans ?_)
    | (with_reducible refine (less_each (fun l x => ?_)).trans ?_)
    | (with_reducible refine (less_foldl (fun l x => ?_)).trans ?_)
    | split
    | simp [less_ite]
    | rfl)

@[simp] theorem railTo_keep (l : Live) (r : Nat) (st : RailSt) (m : Nat) (h : 2560 ||| m = m) : less m (Live.railTo l r st) = less m l := less_le h (by
  unfold Live.railTo
  repeat' first
    | (with_reducible rfl)
    | (intro _)
    | (simp [less_ite]; done)
    | (with_reducible refine (less_forL (fun l x => ?_)).trans ?_)
    | (with_reducible refine (less_each (fun l x => ?_)).trans ?_)
    | (with_reducible refine (less_foldl (fun l x => ?_)).trans ?_)
    | split
    | simp [less_ite]
    | rfl)

@[simp] theorem railIdle_keep (l : Live) (r : Nat) (cause : Nat) (m : Nat) (h : 2560 ||| m = m) : less m (Live.railIdle l r cause) = less m l := less_le h (by
  unfold Live.railIdle
  repeat' first
    | (with_reducible rfl)
    | (intro _)
    | (simp [less_ite]; done)
    | (with_reducible refine (less_forL (fun l x => ?_)).trans ?_)
    | (with_reducible refine (less_each (fun l x => ?_)).trans ?_)
    | (with_reducible refine (less_foldl (fun l x => ?_)).trans ?_)
    | split
    | simp [less_ite]
    | rfl)

@[simp] theorem inputAbsent_keep (l : Live) (j : Nat) (m : Nat) (h : 68161792 ||| m = m) : less m (Live.inputAbsent l j) = less m l := less_le h (by
  unfold Live.inputAbsent
  repeat' first
    | (with_reducible rfl)
    | (intro _)
    | (simp [less_ite]; done)
    | (with_reducible refine (less_forL (fun l x => ?_)).trans ?_)
    | (with_reducible refine (less_each (fun l x => ?_)).trans ?_)
    | (with_reducible refine (less_foldl (fun l x => ?_)).trans ?_)
    | split
    | simp [less_ite]
    | rfl)

@[simp] theorem unmoored_keep (l : Live) (s : Stn) (m : Nat) (h : 68162304 ||| m = m) : less m (Live.unmoored l s) = less m l := less_le h (by
  unfold Live.unmoored
  repeat' first
    | (with_reducible rfl)
    | (intro _)
    | (simp [less_ite]; done)
    | (with_reducible refine (less_forL (fun l x => ?_)).trans ?_)
    | (with_reducible refine (less_each (fun l x => ?_)).trans ?_)
    | (with_reducible refine (less_foldl (fun l x => ?_)).trans ?_)
    | split
    | simp [less_ite]
    | rfl)

@[simp] theorem stnTo_keep (l : Live) (i : Nat) (st : StnSt) (m : Nat) (h : 68178816 ||| m = m) : less m (Live.stnTo l i st) = less m l := less_le h (by
  unfold Live.stnTo
  repeat' first
    | (with_reducible rfl)
    | (intro _)
    | (simp [less_ite]; done)
    | (with_reducible refine (less_forL (fun l x => ?_)).trans ?_)
    | (with_reducible refine (less_each (fun l x => ?_)).trans ?_)
    | (with_reducible refine (less_foldl (fun l x => ?_)).trans ?_)
    | split
    | simp [less_ite]
    | rfl)

@[simp] theorem stnDrop_keep (l : Live) (i : Nat) (m : Nat) (h : 68178816 ||| m = m) : less m (Live.stnDrop l i) = less m l := less_le h (by
  unfold Live.stnDrop
  repeat' first
    | (with_reducible rfl)
    | (intro _)
    | (simp [less_ite]; done)
    | (with_reducible refine (less_forL (fun l x => ?_)).trans ?_)
    | (with_reducible refine (less_each (fun l x => ?_)).trans ?_)
    | (with_reducible refine (less_foldl (fun l x => ?_)).trans ?_)
    | split
    | simp [less_ite]
    | rfl)

@[simp] theorem buoyStn_keep (l : Live) (s : Stn) (m : Nat) (h : 64 ||| m = m) : less m (Live.buoyStn l s) = less m l := less_le h (by
  unfold Live.buoyStn
  repeat' first
    | (with_reducible rfl)
    | (intro _)
    | (simp [less_ite]; done)
    | (with_reducible refine (less_forL (fun l x => ?_)).trans ?_)
    | (with_reducible refine (less_each (fun l x => ?_)).trans ?_)
    | (with_reducible refine (less_foldl (fun l x => ?_)).trans ?_)
    | split
    | simp [less_ite]
    | rfl)

@[simp] theorem stnBar_keep (l : Live) (i : Nat) (why : StnReason) (by_ : Option Nat) (m : Nat) (h : 68178816 ||| m = m) : less m (Live.stnBar l i why by_) = less m l := less_le h (by
  unfold Live.stnBar
  repeat' first
    | (with_reducible rfl)
    | (intro _)
    | (simp [less_ite]; done)
    | (with_reducible refine (less_forL (fun l x => ?_)).trans ?_)
    | (with_reducible refine (less_each (fun l x => ?_)).trans ?_)
    | (with_reducible refine (less_foldl (fun l x => ?_)).trans ?_)
    | split
    | simp [less_ite]
    | rfl)

@[simp] theorem suspendTile_keep (l : Live) (t : Nat) (m : Nat) (h : 68180928 ||| m = m) : less m (Live.suspendTile l t) = less m l := less_le h (by
  unfold Live.suspendTile
  repeat' first
    | (with_reducible rfl)
    | (intro _)
    | (simp [less_ite]; done)
    | (with_reducible refine (less_forL (fun l x => ?_)).trans ?_)
    | (with_reducible refine (less_each (fun l x => ?_)).trans ?_)
    | (with_reducible refine (less_foldl (fun l x => ?_)).trans ?_)
    | split
    | simp [less_ite]
    | rfl)

@[simp] theorem ringLeaves_keep (l : Live) (n : Nat) (m : Nat) (h : 68180928 ||| m = m) : less m (Live.ringLeaves l n) = less m l := less_le h (by
  unfold Live.ringLeaves
  repeat' first
    | (with_reducible rfl)
    | (intro _)
    | (simp [less_ite]; done)
    | (with_reducible refine (less_forL (fun l x => ?_)).trans ?_)
    | (with_reducible refine (less_each (fun l x => ?_)).trans ?_)
    | (with_reducible refine (less_foldl (fun l x => ?_)).trans ?_)
    | split
    | simp [less_ite]
    | rfl)

@[simp] theorem ringTo_keep (l : Live) (n : Nat) (st : RingSt) (m : Nat) (h : 68246496 ||| m = m) : less m (Live.ringTo l n st) = less m l := less_le h (by
  unfold Live.ringTo
  repeat' first
    | (with_reducible rfl)
    | (intro _)
    | (simp [less_ite]; done)
    | (with_reducible refine (less_forL (fun l x => ?_)).trans ?_)
    | (with_reducible refine (less_each (fun l x => ?_)).trans ?_)
    | (with_reducible refine (less_foldl (fun l x => ?_)).trans ?_)
    | split
    | simp [less_ite]
    | rfl)

@[simp] theorem ringTrain_keep (l : Live) (n : Nat) (m : Nat) (h : 68246496 ||| m = m) : less m (Live.ringTrain l n) = less m l := less_le h (by
  unfold Live.ringTrain
  repeat' first
    | (with_reducible rfl)
    | (intro _)
    | (simp [less_ite]; done)
    | (with_reducible refine (less_forL (fun l x => ?_)).trans ?_)
    | (with_reducible refine (less_each (fun l x => ?_)).trans ?_)
    | (with_reducible refine (less_foldl (fun l x => ?_)).trans ?_)
    | split
    | simp [less_ite]
    | rfl)

@[simp] theorem countStatus_keep (l : Live) (a : CntAttr) (st m : Nat) (h : 68157440 ||| m = m) : less m (l.countStatus a st) = less m l := less_le h (by
  unfold Live.countStatus
  split <;> simp)

@[simp] theorem reply_keep (l : Live) (port : Nat) (msess mop : Byte) (status : Nat) (data : List Byte) (m : Nat) (h : 262144 ||| m = m) : less m (Live.reply l port msess mop status data) = less m l := less_le h (by
  unfold Live.reply
  repeat' first
    | (with_reducible rfl)
    | (intro _)
    | (simp [less_ite]; done)
    | (with_reducible refine (less_forL (fun l x => ?_)).trans ?_)
    | (with_reducible refine (less_each (fun l x => ?_)).trans ?_)
    | (with_reducible refine (less_foldl (fun l x => ?_)).trans ?_)
    | split
    | simp [less_ite]
    | rfl)

@[simp] theorem torn_keep (l : Live) (port : Nat) (got : List Byte) (m : Nat) (h : 68419584 ||| m = m) : less m (Live.torn l port got) = less m l := less_le h (by
  unfold Live.torn
  repeat' first
    | (with_reducible rfl)
    | (intro _)
    | (simp [less_ite]; done)
    | (with_reducible refine (less_forL (fun l x => ?_)).trans ?_)
    | (with_reducible refine (less_each (fun l x => ?_)).trans ?_)
    | (with_reducible refine (less_foldl (fun l x => ?_)).trans ?_)
    | split
    | simp [less_ite]
    | rfl)

@[simp] theorem tornNow_keep (l : Live) (port : Nat) (m : Nat) (h : 68419584 ||| m = m) : less m (Live.tornNow l port) = less m l := less_le h (by
  unfold Live.tornNow
  repeat' first
    | (with_reducible rfl)
    | (intro _)
    | (simp [less_ite]; done)
    | (with_reducible refine (less_forL (fun l x => ?_)).trans ?_)
    | (with_reducible refine (less_each (fun l x => ?_)).trans ?_)
    | (with_reducible refine (less_foldl (fun l x => ?_)).trans ?_)
    | split
    | simp [less_ite]
    | rfl)

@[simp] theorem replyKept_keep (l : Live) (port sess : Nat) (msess mop : Byte) (status : Nat) (data : List Byte) (m : Nat) (h : 262144 ||| m = m) : less m (Live.replyKept l port sess msess mop status data) = less m l := less_le h (by
  unfold Live.replyKept
  repeat' first
    | (with_reducible rfl)
    | (intro _)
    | (simp [less_ite]; done)
    | (with_reducible refine (less_forL (fun l x => ?_)).trans ?_)
    | (with_reducible refine (less_each (fun l x => ?_)).trans ?_)
    | (with_reducible refine (less_foldl (fun l x => ?_)).trans ?_)
    | split
    | simp [less_ite]
    | rfl)

@[simp] theorem answerCommit_keep (l : Live) (status : Nat) (data : List Byte) (m : Nat) (h : 68550656 ||| m = m) : less m (Live.answerCommit l status data) = less m l := less_le h (by
  unfold Live.answerCommit
  repeat' first
    | (with_reducible rfl)
    | (intro _)
    | (simp [less_ite]; done)
    | (with_reducible refine (less_forL (fun l x => ?_)).trans ?_)
    | (with_reducible refine (less_each (fun l x => ?_)).trans ?_)
    | (with_reducible refine (less_foldl (fun l x => ?_)).trans ?_)
    | split
    | simp [less_ite]
    | rfl)

@[simp] theorem txnEnd_keep (l : Live) (outcome kind : Nat) (m : Nat) (h : 393216 ||| m = m) : less m (Live.txnEnd l outcome kind) = less m l := less_le h (by
  unfold Live.txnEnd
  repeat' first
    | (with_reducible rfl)
    | (intro _)
    | (simp [less_ite]; done)
    | (with_reducible refine (less_forL (fun l x => ?_)).trans ?_)
    | (with_reducible refine (less_each (fun l x => ?_)).trans ?_)
    | (with_reducible refine (less_foldl (fun l x => ?_)).trans ?_)
    | split
    | simp [less_ite]
    | rfl)

@[simp] theorem txnRollback_keep (l : Live) (outcome : Nat) (m : Nat) (h : 68550656 ||| m = m) : less m (Live.txnRollback l outcome) = less m l := less_le h (by
  unfold Live.txnRollback
  repeat' first
    | (with_reducible rfl)
    | (intro _)
    | (simp [less_ite]; done)
    | (with_reducible refine (less_forL (fun l x => ?_)).trans ?_)
    | (with_reducible refine (less_each (fun l x => ?_)).trans ?_)
    | (with_reducible refine (less_foldl (fun l x => ?_)).trans ?_)
    | split
    | simp [less_ite]
    | rfl)

@[simp] theorem txnAbort_keep (l : Live) (m : Nat) (h : 68550656 ||| m = m) : less m (Live.txnAbort l) = less m l := less_le h (by
  unfold Live.txnAbort
  repeat' first
    | (with_reducible rfl)
    | (intro _)
    | (simp [less_ite]; done)
    | (with_reducible refine (less_forL (fun l x => ?_)).trans ?_)
    | (with_reducible refine (less_each (fun l x => ?_)).trans ?_)
    | (with_reducible refine (less_foldl (fun l x => ?_)).trans ?_)
    | split
    | simp [less_ite]
    | rfl)

@[simp] theorem txnCancel_keep (l : Live) (m : Nat) (h : 68550656 ||| m = m) : less m (Live.txnCancel l) = less m l := less_le h (by
  unfold Live.txnCancel
  repeat' first
    | (with_reducible rfl)
    | (intro _)
    | (simp [less_ite]; done)
    | (with_reducible refine (less_forL (fun l x => ?_)).trans ?_)
    | (with_reducible refine (less_each (fun l x => ?_)).trans ?_)
    | (with_reducible refine (less_foldl (fun l x => ?_)).trans ?_)
    | split
    | simp [less_ite]
    | rfl)

@[simp] theorem closeSess_keep (l : Live) (n : Nat) (m : Nat) (h : 70680592 ||| m = m) : less m (Live.closeSess l n) = less m l := less_le h (by
  unfold Live.closeSess
  repeat' first
    | (with_reducible rfl)
    | (intro _)
    | (simp [less_ite]; done)
    | (with_reducible refine (less_forL (fun l x => ?_)).trans ?_)
    | (with_reducible refine (less_each (fun l x => ?_)).trans ?_)
    | (with_reducible refine (less_foldl (fun l x => ?_)).trans ?_)
    | split
    | simp [less_ite]
    | rfl)

@[simp] theorem closeAll_keep (l : Live) (m : Nat) (h : 70680592 ||| m = m) : less m (Live.closeAll l) = less m l := less_le h (by
  unfold Live.closeAll
  repeat' first
    | (with_reducible rfl)
    | (intro _)
    | (simp [less_ite]; done)
    | (with_reducible refine (less_forL (fun l x => ?_)).trans ?_)
    | (with_reducible refine (less_each (fun l x => ?_)).trans ?_)
    | (with_reducible refine (less_foldl (fun l x => ?_)).trans ?_)
    | split
    | simp [less_ite]
    | rfl)

@[simp] theorem leaseClear_keep (l : Live) (m : Nat) (h : 68616192 ||| m = m) : less m (Live.leaseClear l) = less m l := less_le h (by
  unfold Live.leaseClear
  repeat' first
    | (with_reducible rfl)
    | (intro _)
    | (simp [less_ite]; done)
    | (with_reducible refine (less_forL (fun l x => ?_)).trans ?_)
    | (with_reducible refine (less_each (fun l x => ?_)).trans ?_)
    | (with_reducible refine (less_foldl (fun l x => ?_)).trans ?_)
    | split
    | simp [less_ite]
    | rfl)

@[simp] theorem keeperTo_keep (l : Live) (st : KSt) (m : Nat) (h : 68255744 ||| m = m) : less m (Live.keeperTo l st) = less m l := less_le h (by
  unfold Live.keeperTo
  repeat' first
    | (with_reducible rfl)
    | (intro _)
    | (simp [less_ite]; done)
    | (with_reducible refine (less_forL (fun l x => ?_)).trans ?_)
    | (with_reducible refine (less_each (fun l x => ?_)).trans ?_)
    | (with_reducible refine (less_foldl (fun l x => ?_)).trans ?_)
    | split
    | simp [less_ite]
    | rfl)

@[simp] theorem sendRelease_keep (l : Live) (m : Nat) (h : 65536 ||| m = m) : less m (Live.sendRelease l) = less m l := less_le h (by
  unfold Live.sendRelease
  repeat' first
    | (with_reducible rfl)
    | (intro _)
    | (simp [less_ite]; done)
    | (with_reducible refine (less_forL (fun l x => ?_)).trans ?_)
    | (with_reducible refine (less_each (fun l x => ?_)).trans ?_)
    | (with_reducible refine (less_foldl (fun l x => ?_)).trans ?_)
    | split
    | simp [less_ite]
    | rfl)

@[simp] theorem safeLatch_keep (l : Live) (code obj : Nat) (m : Nat) (h : 68667904 ||| m = m) : less m (Live.safeLatch l code obj) = less m l := less_le h (by
  unfold Live.safeLatch
  repeat' first
    | (with_reducible rfl)
    | (intro _)
    | (simp [less_ite]; done)
    | (with_reducible refine (less_forL (fun l x => ?_)).trans ?_)
    | (with_reducible refine (less_each (fun l x => ?_)).trans ?_)
    | (with_reducible refine (less_foldl (fun l x => ?_)).trans ?_)
    | split
    | simp [less_ite]
    | rfl)

@[simp] theorem d0Only_keep (l : Live) (m : Nat) (h : 134152184 ||| m = m) : less m l.d0Only = less m l := less_le h rfl

@[simp] theorem enterCold_keep (l : Live) (cause : Nat) (m : Nat) (h : 134152184 ||| m = m) : less m (Live.enterCold l cause) = less m l := less_le h (by
  unfold Live.enterCold
  repeat' first
    | (with_reducible rfl)
    | (intro _)
    | (simp [less_ite]; done)
    | (with_reducible refine (less_forL (fun l x => ?_)).trans ?_)
    | (with_reducible refine (less_each (fun l x => ?_)).trans ?_)
    | (with_reducible refine (less_foldl (fun l x => ?_)).trans ?_)
    | split
    | simp [less_ite]
    | rfl)

@[simp] theorem toCold_keep (l : Live) (m : Nat) (h : 134152184 ||| m = m) : less m (Live.toCold l) = less m l := less_le h (by
  unfold Live.toCold
  repeat' first
    | (with_reducible rfl)
    | (intro _)
    | (simp [less_ite]; done)
    | (with_reducible refine (less_forL (fun l x => ?_)).trans ?_)
    | (with_reducible refine (less_each (fun l x => ?_)).trans ?_)
    | (with_reducible refine (less_foldl (fun l x => ?_)).trans ?_)
    | split
    | simp [less_ite]
    | rfl)

@[simp] theorem shutdownEnd_keep (l : Live) (m : Nat) (h : 134152184 ||| m = m) : less m (Live.shutdownEnd l) = less m l := less_le h (by
  unfold Live.shutdownEnd
  repeat' first
    | (with_reducible rfl)
    | (intro _)
    | (simp [less_ite]; done)
    | (with_reducible refine (less_forL (fun l x => ?_)).trans ?_)
    | (with_reducible refine (less_each (fun l x => ?_)).trans ?_)
    | (with_reducible refine (less_foldl (fun l x => ?_)).trans ?_)
    | split
    | simp [less_ite]
    | rfl)

@[simp] theorem mateSend_keep (l : Live) (ftype : Nat) (epoch : Half) (seq : Word) (idx : Nat) (data : List Byte) (m : Nat) (h : 65536 ||| m = m) : less m (Live.mateSend l ftype epoch seq idx data) = less m l := less_le h (by
  unfold Live.mateSend
  repeat' first
    | (with_reducible rfl)
    | (intro _)
    | (simp [less_ite]; done)
    | (with_reducible refine (less_forL (fun l x => ?_)).trans ?_)
    | (with_reducible refine (less_each (fun l x => ?_)).trans ?_)
    | (with_reducible refine (less_foldl (fun l x => ?_)).trans ?_)
    | split
    | simp [less_ite]
    | rfl)

@[simp] theorem mateNote_keep (l : Live) (ftype : Nat) (epoch : Half) (data : List Byte) (m : Nat) (h : 65536 ||| m = m) : less m (Live.mateNote l ftype epoch data) = less m l := less_le h (by
  unfold Live.mateNote
  repeat' first
    | (with_reducible rfl)
    | (intro _)
    | (simp [less_ite]; done)
    | (with_reducible refine (less_forL (fun l x => ?_)).trans ?_)
    | (with_reducible refine (less_each (fun l x => ?_)).trans ?_)
    | (with_reducible refine (less_foldl (fun l x => ?_)).trans ?_)
    | split
    | simp [less_ite]
    | rfl)

@[simp] theorem goSend_keep (l : Live) (m : Nat) (h : 65536 ||| m = m) : less m (Live.goSend l) = less m l := less_le h (by
  unfold Live.goSend
  repeat' first
    | (with_reducible rfl)
    | (intro _)
    | (simp [less_ite]; done)
    | (with_reducible refine (less_forL (fun l x => ?_)).trans ?_)
    | (with_reducible refine (less_each (fun l x => ?_)).trans ?_)
    | (with_reducible refine (less_foldl (fun l x => ?_)).trans ?_)
    | split
    | simp [less_ite]
    | rfl)

@[simp] theorem releaseCheck_keep (l : Live) (m : Nat) (h : 134217720 ||| m = m) : less m (Live.releaseCheck l) = less m l := less_le h (by
  unfold Live.releaseCheck
  repeat' first
    | (with_reducible rfl)
    | (intro _)
    | (simp [less_ite]; done)
    | (with_reducible refine (less_forL (fun l x => ?_)).trans ?_)
    | (with_reducible refine (less_each (fun l x => ?_)).trans ?_)
    | (with_reducible refine (less_foldl (fun l x => ?_)).trans ?_)
    | split
    | simp [less_ite]
    | rfl)

@[simp] theorem releaseEnded_keep (l : Live) (n : Nat) (m : Nat) (h : 134217720 ||| m = m) : less m (Live.releaseEnded l n) = less m l := less_le h (by
  unfold Live.releaseEnded
  repeat' first
    | (with_reducible rfl)
    | (intro _)
    | (simp [less_ite]; done)
    | (with_reducible refine (less_forL (fun l x => ?_)).trans ?_)
    | (with_reducible refine (less_each (fun l x => ?_)).trans ?_)
    | (with_reducible refine (less_foldl (fun l x => ?_)).trans ?_)
    | split
    | simp [less_ite]
    | rfl)

end Sys2Proof.Machine.Live
end

