-- ==== Sys2Proof/Laws/KeepRails.lean ====
section
/-! SUPPORT. What each operation of `Machine/Rails.lean` leaves alone: it changes no part of the state but those whose bits stand
in the number that its lemma names (the parts are numbered in `Laws/Parts.lean`). -/
namespace Sys2Proof.Machine.Live

set_option linter.unusedTactic false
set_option linter.unreachableTactic false
set_option linter.unusedSimpArgs false

@[simp] theorem prebiasStart_keep (l : Live) (r : Nat) (v : Rat) (m : Nat) (h : 768 ||| m = m) : less m (Live.prebiasStart l r v) = less m l := less_le h (by
  unfold Live.prebiasStart
  repeat' first
    | (with_reducible rfl)
    | (intro _)
    | (simp [less_ite]; done)
    | (with_reducible refine (less_forL (fun l x => ?_)).trans ?_)
    | (with_reducible refine (less_each (fun l x => ?_)).trans ?_)
    | (with_reducible refine (less_foldl (fun l x => ?_)).trans ?_)
    | split
    | simp [less_ite]
    | rfl)

@[simp] theorem rotate_keep (l : Live) (r idx : Nat) (m : Nat) (h : 512 ||| m = m) : less m (Live.rotate l r idx) = less m l := less_le h (by
  unfold Live.rotate
  repeat' first
    | (with_reducible rfl)
    | (intro _)
    | (simp [less_ite]; done)
    | (with_reducible refine (less_forL (fun l x => ?_)).trans ?_)
    | (with_reducible refine (less_each (fun l x => ?_)).trans ?_)
    | (with_reducible refine (less_foldl (fun l x => ?_)).trans ?_)
    | split
    | simp [less_ite]
    | rfl)

@[simp] theorem railCourseStart_keep (l : Live) (r idx : Nat) (m : Nat) (h : 768 ||| m = m) : less m (Live.railCourseStart l r idx) = less m l := less_le h (by
  unfold Live.railCourseStart
  repeat' first
    | (with_reducible rfl)
    | (intro _)
    | (simp [less_ite]; done)
    | (with_reducible refine (less_forL (fun l x => ?_)).trans ?_)
    | (with_reducible refine (less_each (fun l x => ?_)).trans ?_)
    | (with_reducible refine (less_foldl (fun l x => ?_)).trans ?_)
    | split
    | simp [less_ite]
    | rfl)

@[simp] theorem countMember_keep (l : Live) (r m : Nat) (mm : Nat) (h : 512 ||| mm = mm) : less mm (Live.countMember l r m) = less mm l := less_le h (by
  unfold Live.countMember
  repeat' first
    | (with_reducible rfl)
    | (intro _)
    | (simp [less_ite]; done)
    | (with_reducible refine (less_forL (fun l x => ?_)).trans ?_)
    | (with_reducible refine (less_each (fun l x => ?_)).trans ?_)
    | (with_reducible refine (less_foldl (fun l x => ?_)).trans ?_)
    | split
    | simp [less_ite]
    | rfl)

@[simp] theorem railRate_keep (l : Live) (r : Nat) (m : Nat) (h : 512 ||| m = m) : less m (Live.railRate l r) = less m l := less_le h (by
  unfold Live.railRate
  repeat' first
    | (with_reducible rfl)
    | (intro _)
    | (simp [less_ite]; done)
    | (with_reducible refine (less_forL (fun l x => ?_)).trans ?_)
    | (with_reducible refine (less_each (fun l x => ?_)).trans ?_)
    | (with_reducible refine (less_foldl (fun l x => ?_)).trans ?_)
    | split
    | simp [less_ite]
    | rfl)

@[simp] theorem foldUpdate_keep (l : Live) (r : Nat) (m : Nat) (h : 512 ||| m = m) : less m (Live.foldUpdate l r) = less m l := less_le h (by
  unfold Live.foldUpdate
  repeat' first
    | (with_reducible rfl)
    | (intro _)
    | (simp [less_ite]; done)
    | (with_reducible refine (less_forL (fun l x => ?_)).trans ?_)
    | (with_reducible refine (less_each (fun l x => ?_)).trans ?_)
    | (with_reducible refine (less_foldl (fun l x => ?_)).trans ?_)
    | split
    | simp [less_ite]
    | rfl)

@[simp] theorem foldEnter_keep (l : Live) (r : Nat) (m : Nat) (h : 35328 ||| m = m) : less m (Live.foldEnter l r) = less m l := less_le h (by
  unfold Live.foldEnter
  repeat' first
    | (with_reducible rfl)
    | (intro _)
    | (simp [less_ite]; done)
    | (with_reducible refine (less_forL (fun l x => ?_)).trans ?_)
    | (with_reducible refine (less_each (fun l x => ?_)).trans ?_)
    | (with_reducible refine (less_foldl (fun l x => ?_)).trans ?_)
    | split
    | simp [less_ite]
    | rfl)

@[simp] theorem railOff_keep (l : Live) (r : Nat) (cause : Option Nat) (m : Nat) (h : 2560 ||| m = m) : less m (Live.railOff l r cause) = less m l := less_le h (by
  unfold Live.railOff
  repeat' first
    | (with_reducible rfl)
    | (intro _)
    | (simp [less_ite]; done)
    | (with_reducible refine (less_forL (fun l x => ?_)).trans ?_)
    | (with_reducible refine (less_each (fun l x => ?_)).trans ?_)
    | (with_reducible refine (less_foldl (fun l x => ?_)).trans ?_)
    | split
    | simp [less_ite]
    | rfl)

@[simp] theorem railStartUp_keep (l : Live) (r : Nat) (m : Nat) (h : 2560 ||| m = m) : less m (Live.railStartUp l r) = less m l := less_le h (by
  unfold Live.railStartUp
  repeat' first
    | (with_reducible rfl)
    | (intro _)
    | (simp [less_ite]; done)
    | (with_reducible refine (less_forL (fun l x => ?_)).trans ?_)
    | (with_reducible refine (less_each (fun l x => ?_)).trans ?_)
    | (with_reducible refine (less_foldl (fun l x => ?_)).trans ?_)
    | split
    | simp [less_ite]
    | rfl)

@[simp] theorem railTrip_keep (l : Live) (r cause : Nat) (m : Nat) (h : 35328 ||| m = m) : less m (Live.railTrip l r cause) = less m l := less_le h (by
  unfold Live.railTrip
  repeat' first
    | (with_reducible rfl)
    | (intro _)
    | (simp [less_ite]; done)
    | (with_reducible refine (less_forL (fun l x => ?_)).trans ?_)
    | (with_reducible refine (less_each (fun l x => ?_)).trans ?_)
    | (with_reducible refine (less_foldl (fun l x => ?_)).trans ?_)
    | split
    | simp [less_ite]
    | rfl)

@[simp] theorem railLatch_keep (l : Live) (r cause code : Nat) (m : Nat) (h : 35328 ||| m = m) : less m (Live.railLatch l r cause code) = less m l := less_le h (by
  unfold Live.railLatch
  repeat' first
    | (with_reducible rfl)
    | (intro _)
    | (simp [less_ite]; done)
    | (with_reducible refine (less_forL (fun l x => ?_)).trans ?_)
    | (with_reducible refine (less_each (fun l x => ?_)).trans ?_)
    | (with_reducible refine (less_foldl (fun l x => ?_)).trans ?_)
    | split
    | simp [less_ite]
    | rfl)

@[simp] theorem railRow_keep (l : Live) (r n : Nat) (m : Nat) (h : 35328 ||| m = m) : less m ((l.railRow r n).getD l) = less m l := less_le h (by
  have e (c : Bool) (x : Live) (hx : less 35328 x = less 35328 l) : less 35328 ((if c then some x else none).getD l) = less 35328 l := by
    cases c
    · rfl
    · exact hx
  unfold Live.railRow
  dsimp only
  split
  all_goals first
    | rfl
    | (refine e _ _ ?_; first | done | simp [less_ite]))

@[simp] theorem railTake_keep (r : Nat) (f : Nat) (ks : List Nat) (l : Live) (m : Nat) (h : 35328 ||| m = m) :
    less m (Live.railTake r f ks l) = less m l := less_le h (by
  induction f generalizing ks l with
  | zero => rfl
  | succ f ih =>
    simp only [Live.railTake]
    split
    · exact (ih _ _).trans (railRow_keep _ r _ _ (by decide))
    · rfl)

@[simp] theorem railRows_keep (l : Live) (r n : Nat) (m : Nat) (h : 35328 ||| m = m) : less m (Live.railRows l r n) = less m l := less_le h (by
  unfold Live.railRows
  repeat' first
    | (with_reducible rfl)
    | (intro _)
    | (simp [less_ite]; done)
    | (with_reducible refine (less_forL (fun l x => ?_)).trans ?_)
    | (with_reducible refine (less_each (fun l x => ?_)).trans ?_)
    | (with_reducible refine (less_foldl (fun l x => ?_)).trans ?_)
    | split
    | simp [less_ite]
    | rfl)

@[simp] theorem shedWork_keep (l : Live) (r : Nat) (m : Nat) (h : 512 ||| m = m) : less m (Live.shedWork l r) = less m l := less_le h (by
  unfold Live.shedWork
  repeat' first
    | (with_reducible rfl)
    | (intro _)
    | (simp [less_ite]; done)
    | (with_reducible refine (less_forL (fun l x => ?_)).trans ?_)
    | (with_reducible refine (less_each (fun l x => ?_)).trans ?_)
    | (with_reducible refine (less_foldl (fun l x => ?_)).trans ?_)
    | split
    | simp [less_ite]
    | rfl)

@[simp] theorem shedOne_keep (l : Live) (r : Nat) (m : Nat) (h : 512 ||| m = m) : less m (Live.shedOne l r) = less m l := less_le h (by
  unfold Live.shedOne
  repeat' first
    | (with_reducible rfl)
    | (intro _)
    | (simp [less_ite]; done)
    | (with_reducible refine (less_forL (fun l x => ?_)).trans ?_)
    | (with_reducible refine (less_each (fun l x => ?_)).trans ?_)
    | (with_reducible refine (less_foldl (fun l x => ?_)).trans ?_)
    | split
    | simp [less_ite]
    | rfl)

@[simp] theorem railCommitted_keep (l : Live) (r : Nat) (m : Nat) (h : 512 ||| m = m) : less m (Live.railCommitted l r) = less m l := less_le h (by
  unfold Live.railCommitted
  repeat' first
    | (with_reducible rfl)
    | (intro _)
    | (simp [less_ite]; done)
    | (with_reducible refine (less_forL (fun l x => ?_)).trans ?_)
    | (with_reducible refine (less_each (fun l x => ?_)).trans ?_)
    | (with_reducible refine (less_foldl (fun l x => ?_)).trans ?_)
    | split
    | simp [less_ite]
    | rfl)

@[simp] theorem settleWork_keep (l : Live) (r : Nat) (m : Nat) (h : 2048 ||| m = m) : less m (Live.settleWork l r) = less m l := less_le h (by
  unfold Live.settleWork
  repeat' first
    | (with_reducible rfl)
    | (intro _)
    | (simp [less_ite]; done)
    | (with_reducible refine (less_forL (fun l x => ?_)).trans ?_)
    | (with_reducible refine (less_each (fun l x => ?_)).trans ?_)
    | (with_reducible refine (less_foldl (fun l x => ?_)).trans ?_)
    | split
    | simp [less_ite]
    | rfl)

@[simp] theorem capWork_keep (l : Live) (r : Nat) (m : Nat) (h : 68159488 ||| m = m) : less m (Live.capWork l r) = less m l := less_le h (by
  unfold Live.capWork
  repeat' first
    | (with_reducible rfl)
    | (intro _)
    | (simp [less_ite]; done)
    | (with_reducible refine (less_forL (fun l x => ?_)).trans ?_)
    | (with_reducible refine (less_each (fun l x => ?_)).trans ?_)
    | (with_reducible refine (less_foldl (fun l x => ?_)).trans ?_)
    | split
    | simp [less_ite]
    | rfl)

@[simp] theorem lostCheck_keep (l : Live) (r : Nat) (m : Nat) (h : 33280 ||| m = m) : less m (Live.lostCheck l r) = less m l := less_le h (by
  unfold Live.lostCheck
  repeat' first
    | (with_reducible rfl)
    | (intro _)
    | (simp [less_ite]; done)
    | (with_reducible refine (less_forL (fun l x => ?_)).trans ?_)
    | (with_reducible refine (less_each (fun l x => ?_)).trans ?_)
    | (with_reducible refine (less_foldl (fun l x => ?_)).trans ?_)
    | split
    | simp [less_ite]
    | rfl)

@[simp] theorem phaseOpen_keep (l : Live) (r m : Nat) (mm : Nat) (h : 33280 ||| mm = mm) : less mm (Live.phaseOpen l r m) = less mm l := less_le h (by
  unfold Live.phaseOpen
  repeat' first
    | (with_reducible rfl)
    | (intro _)
    | (simp [less_ite]; done)
    | (with_reducible refine (less_forL (fun l x => ?_)).trans ?_)
    | (with_reducible refine (less_each (fun l x => ?_)).trans ?_)
    | (with_reducible refine (less_foldl (fun l x => ?_)).trans ?_)
    | split
    | simp [less_ite]
    | rfl)

@[simp] theorem senseFail_keep (l : Live) (r m : Nat) (mm : Nat) (h : 33280 ||| mm = mm) : less mm (Live.senseFail l r m) = less mm l := less_le h (by
  unfold Live.senseFail
  repeat' first
    | (with_reducible rfl)
    | (intro _)
    | (simp [less_ite]; done)
    | (with_reducible refine (less_forL (fun l x => ?_)).trans ?_)
    | (with_reducible refine (less_each (fun l x => ?_)).trans ?_)
    | (with_reducible refine (less_foldl (fun l x => ?_)).trans ?_)
    | split
    | simp [less_ite]
    | rfl)

@[simp] theorem railJudge_keep (l : Live) (r : Nat) (m : Nat) (h : 33280 ||| m = m) : less m (Live.railJudge l r) = less m l := less_le h (by
  unfold Live.railJudge
  repeat' first
    | (with_reducible rfl)
    | (intro _)
    | (simp [less_ite]; done)
    | (with_reducible refine (less_forL (fun l x => ?_)).trans ?_)
    | (with_reducible refine (less_each (fun l x => ?_)).trans ?_)
    | (with_reducible refine (less_foldl (fun l x => ?_)).trans ?_)
    | split
    | simp [less_ite]
    | rfl)

@[simp] theorem uvCheck_keep (l : Live) (r : Nat) (m : Nat) (h : 33280 ||| m = m) : less m (Live.uvCheck l r) = less m l := less_le h (by
  unfold Live.uvCheck
  repeat' first
    | (with_reducible rfl)
    | (intro _)
    | (simp [less_ite]; done)
    | (with_reducible refine (less_forL (fun l x => ?_)).trans ?_)
    | (with_reducible refine (less_each (fun l x => ?_)).trans ?_)
    | (with_reducible refine (less_foldl (fun l x => ?_)).trans ?_)
    | split
    | simp [less_ite]
    | rfl)

@[simp] theorem hicCheck_keep (l : Live) (r at_ : Nat) (m : Nat) (h : 512 ||| m = m) : less m (Live.hicCheck l r at_) = less m l := less_le h (by
  unfold Live.hicCheck
  repeat' first
    | (with_reducible rfl)
    | (intro _)
    | (simp [less_ite]; done)
    | (with_reducible refine (less_forL (fun l x => ?_)).trans ?_)
    | (with_reducible refine (less_each (fun l x => ?_)).trans ?_)
    | (with_reducible refine (less_foldl (fun l x => ?_)).trans ?_)
    | split
    | simp [less_ite]
    | rfl)

@[simp] theorem railJudged_keep (l : Live) (r : Nat) (m : Nat) (h : 35328 ||| m = m) : less m (Live.railJudged l r) = less m l := less_le h (by
  unfold Live.railJudged
  repeat' first
    | (with_reducible rfl)
    | (intro _)
    | (simp [less_ite]; done)
    | (with_reducible refine (less_forL (fun l x => ?_)).trans ?_)
    | (with_reducible refine (less_each (fun l x => ?_)).trans ?_)
    | (with_reducible refine (less_foldl (fun l x => ?_)).trans ?_)
    | split
    | simp [less_ite]
    | rfl)

@[simp] theorem railFinish_keep (l : Live) (r : Nat) (m : Nat) (h : 68192768 ||| m = m) : less m (Live.railFinish l r) = less m l := less_le h (by
  unfold Live.railFinish
  repeat' first
    | (with_reducible rfl)
    | (intro _)
    | (simp [less_ite]; done)
    | (with_reducible refine (less_forL (fun l x => ?_)).trans ?_)
    | (with_reducible refine (less_each (fun l x => ?_)).trans ?_)
    | (with_reducible refine (less_foldl (fun l x => ?_)).trans ?_)
    | split
    | simp [less_ite]
    | rfl)

@[simp] theorem railPart_keep (l : Live) (r n m : Nat) (h : 68192768 ||| m = m) : less m (l.railPart r n) = less m l := less_le h (by
  unfold Live.railPart
  split
  all_goals first
    | rfl
    | (repeat' first
        | (with_reducible rfl)
        | (with_reducible refine (less_each (fun l x => ?_)).trans ?_)
        | simp [less_ite]))

@[simp] theorem railUpTo_keep (l : Live) (r n : Nat) (m : Nat) (h : 68192768 ||| m = m) : less m (Live.railUpTo l r n) = less m l := less_le h (by
  unfold Live.railUpTo
  repeat' first
    | (with_reducible rfl)
    | (intro _)
    | (simp [less_ite]; done)
    | (with_reducible refine (less_forL (fun l x => ?_)).trans ?_)
    | (with_reducible refine (less_each (fun l x => ?_)).trans ?_)
    | (with_reducible refine (less_foldl (fun l x => ?_)).trans ?_)
    | split
    | simp [less_ite]
    | rfl)

@[simp] theorem railWork_keep (l : Live) (r : Nat) (m : Nat) (h : 68192768 ||| m = m) : less m (Live.railWork l r) = less m l := less_le h (by
  unfold Live.railWork
  repeat' first
    | (with_reducible rfl)
    | (intro _)
    | (simp [less_ite]; done)
    | (with_reducible refine (less_forL (fun l x => ?_)).trans ?_)
    | (with_reducible refine (less_each (fun l x => ?_)).trans ?_)
    | (with_reducible refine (less_foldl (fun l x => ?_)).trans ?_)
    | split
    | simp [less_ite]
    | rfl)

@[simp] theorem railEvent_keep (l : Live) (r parts : Nat) (f : Live → Live) (m : Nat) (h : 68192768 ||| m = m) (hf : ∀ l, less m (f l) = less m l) :
    less m (l.railEvent r parts f) = less m l := by
  unfold Live.railEvent
  split
  · exact (hf _).trans (railUpTo_keep l r parts m h)
  · rfl

@[simp] theorem railHandover_keep (l : Live) (r : Nat) (m : Nat) (h : 2560 ||| m = m) : less m (Live.railHandover l r) = less m l := less_le h (by
  unfold Live.railHandover
  repeat' first
    | (with_reducible rfl)
    | (intro _)
    | (simp [less_ite]; done)
    | (with_reducible refine (less_forL (fun l x => ?_)).trans ?_)
    | (with_reducible refine (less_each (fun l x => ?_)).trans ?_)
    | (with_reducible refine (less_foldl (fun l x => ?_)).trans ?_)
    | split
    | simp [less_ite]
    | rfl)

@[simp] theorem railMember_keep (l : Live) (r m : Nat) (mm : Nat) (h : 2560 ||| mm = mm) : less mm (Live.railMember l r m) = less mm l := less_le h (by
  unfold Live.railMember
  repeat' first
    | (with_reducible rfl)
    | (intro _)
    | (simp [less_ite]; done)
    | (with_reducible refine (less_forL (fun l x => ?_)).trans ?_)
    | (with_reducible refine (less_each (fun l x => ?_)).trans ?_)
    | (with_reducible refine (less_foldl (fun l x => ?_)).trans ?_)
    | split
    | simp [less_ite]
    | rfl)

@[simp] theorem rctl_keep (l : Live) (r : Nat) (w : Word) (m : Nat) (h : 2560 ||| m = m) : less m (Live.rctl l r w) = less m l := less_le h (by
  unfold Live.rctl
  repeat' first
    | (with_reducible rfl)
    | (intro _)
    | (simp [less_ite]; done)
    | (with_reducible refine (less_forL (fun l x => ?_)).trans ?_)
    | (with_reducible refine (less_each (fun l x => ?_)).trans ?_)
    | (with_reducible refine (less_foldl (fun l x => ?_)).trans ?_)
    | split
    | simp [less_ite]
    | rfl)

@[simp] theorem railTarget_keep (l : Live) (r v slew : Nat) (m : Nat) (h : 512 ||| m = m) : less m (Live.railTarget l r v slew) = less m l := less_le h (by
  unfold Live.railTarget
  repeat' first
    | (with_reducible rfl)
    | (intro _)
    | (simp [less_ite]; done)
    | (with_reducible refine (less_forL (fun l x => ?_)).trans ?_)
    | (with_reducible refine (less_each (fun l x => ?_)).trans ?_)
    | (with_reducible refine (less_foldl (fun l x => ?_)).trans ?_)
    | split
    | simp [less_ite]
    | rfl)

@[simp] theorem vsetTake_keep (l : Live) (r : Nat) (w : Word) (m : Nat) (h : 16777728 ||| m = m) : less m (Live.vsetTake l r w) = less m l := less_le h (by
  unfold Live.vsetTake
  repeat' first
    | (with_reducible rfl)
    | (intro _)
    | (simp [less_ite]; done)
    | (with_reducible refine (less_forL (fun l x => ?_)).trans ?_)
    | (with_reducible refine (less_each (fun l x => ?_)).trans ?_)
    | (with_reducible refine (less_foldl (fun l x => ?_)).trans ?_)
    | split
    | simp [less_ite]
    | rfl)

@[simp] theorem railCreate_keep (l : Live) (r : Nat) (m : Nat) (h : 2560 ||| m = m) : less m (Live.railCreate l r) = less m l := less_le h (by
  unfold Live.railCreate
  repeat' first
    | (with_reducible rfl)
    | (intro _)
    | (simp [less_ite]; done)
    | (with_reducible refine (less_forL (fun l x => ?_)).trans ?_)
    | (with_reducible refine (less_each (fun l x => ?_)).trans ?_)
    | (with_reducible refine (less_foldl (fun l x => ?_)).trans ?_)
    | split
    | simp [less_ite]
    | rfl)

@[simp] theorem railReboot_keep (l : Live) (r : Nat) (m : Nat) (h : 512 ||| m = m) : less m (Live.railReboot l r) = less m l := less_le h (by
  unfold Live.railReboot
  repeat' first
    | (with_reducible rfl)
    | (intro _)
    | (simp [less_ite]; done)
    | (with_reducible refine (less_forL (fun l x => ?_)).trans ?_)
    | (with_reducible refine (less_each (fun l x => ?_)).trans ?_)
    | (with_reducible refine (less_foldl (fun l x => ?_)).trans ?_)
    | split
    | simp [less_ite]
    | rfl)

end Sys2Proof.Machine.Live
end

