-- ==== Sys2Proof/Laws/KeepVc.lean ====
section
/-! SUPPORT. What each operation of `Machine/Vc.lean` leaves alone: it changes no part of the state but those whose bits stand
in the number that its lemma names (the parts are numbered in `Laws/Parts.lean`). -/
namespace Sys2Proof.Machine.Live

set_option linter.unusedTactic false
set_option linter.unreachableTactic false
set_option linter.unusedSimpArgs false

@[simp] theorem vcSetv_keep (l : Live) (p r : Nat) (w : Word) (m : Nat) (h : 68159488 ||| m = m) : less m (Live.vcSetv l p r w).2 = less m l := less_le h (by
  unfold Live.vcSetv
  repeat' first
    | (with_reducible rfl)
    | (intro _)
    | (simp [less_ite]; done)
    | (with_reducible refine (less_forL (fun l x => ?_)).trans ?_)
    | (with_reducible refine (less_each (fun l x => ?_)).trans ?_)
    | (with_reducible refine (less_foldl (fun l x => ?_)).trans ?_)
    | split
    | simp [less_ite]
    | rfl)

@[simp] theorem vcAckcap_keep (l : Live) (r : Nat) (w : Word) (m : Nat) (h : 2048 ||| m = m) : less m (Live.vcAckcap l r w).2 = less m l := less_le h (by
  unfold Live.vcAckcap
  repeat' first
    | (with_reducible rfl)
    | (intro _)
    | (simp [less_ite]; done)
    | (with_reducible refine (less_forL (fun l x => ?_)).trans ?_)
    | (with_reducible refine (less_each (fun l x => ?_)).trans ?_)
    | (with_reducible refine (less_foldl (fun l x => ?_)).trans ?_)
    | split
    | simp [less_ite]
    | rfl)

@[simp] theorem vcSetmode_keep (l : Live) (r : Nat) (w : Word) (m : Nat) (h : 2048 ||| m = m) : less m (Live.vcSetmode l r w).2 = less m l := less_le h (by
  unfold Live.vcSetmode
  repeat' first
    | (with_reducible rfl)
    | (intro _)
    | (simp [less_ite]; done)
    | (with_reducible refine (less_forL (fun l x => ?_)).trans ?_)
    | (with_reducible refine (less_each (fun l x => ?_)).trans ?_)
    | (with_reducible refine (less_foldl (fun l x => ?_)).trans ?_)
    | split
    | simp [less_ite]
    | rfl)

@[simp] theorem vcAct_keep (l : Live) (p : Nat) (w : Word) (m : Nat) (h : 68160512 ||| m = m) : less m (Live.vcAct l p w).1 = less m l := less_le h (by
  unfold Live.vcAct
  repeat' first
    | (with_reducible rfl)
    | (intro _)
    | (simp [less_ite]; done)
    | (with_reducible refine (less_forL (fun l x => ?_)).trans ?_)
    | (with_reducible refine (less_each (fun l x => ?_)).trans ?_)
    | (with_reducible refine (less_foldl (fun l x => ?_)).trans ?_)
    | split
    | simp [less_ite]
    | rfl)

@[simp] theorem vcCount_keep (l : Live) (p status : Nat) (m : Nat) (h : 68158464 ||| m = m) : less m (Live.vcCount l p status) = less m l := less_le h (by
  unfold Live.vcCount
  repeat' first
    | (with_reducible rfl)
    | (intro _)
    | (simp [less_ite]; done)
    | (with_reducible refine (less_forL (fun l x => ?_)).trans ?_)
    | (with_reducible refine (less_each (fun l x => ?_)).trans ?_)
    | (with_reducible refine (less_foldl (fun l x => ?_)).trans ?_)
    | split
    | simp [less_ite]
    | rfl)

@[simp] theorem vcCommand_keep (l : Live) (p : Nat) (w : Word) (answered : Bool) (m : Nat) (h : 68160512 ||| m = m) : less m (Live.vcCommand l p w answered) = less m l := less_le h (by
  unfold Live.vcCommand
  repeat' first
    | (with_reducible rfl)
    | (intro _)
    | (simp [less_ite]; done)
    | (with_reducible refine (less_forL (fun l x => ?_)).trans ?_)
    | (with_reducible refine (less_each (fun l x => ?_)).trans ?_)
    | (with_reducible refine (less_foldl (fun l x => ?_)).trans ?_)
    | split
    | simp [less_ite]
    | rfl)

@[simp] theorem vcFrame_keep (l : Live) (p : Nat) (w : Word) (contend : Bool) (m : Nat) (h : 68193280 ||| m = m) : less m (Live.vcFrame l p w contend) = less m l := less_le h (by
  unfold Live.vcFrame
  repeat' first
    | (with_reducible rfl)
    | (intro _)
    | (simp [less_ite]; done)
    | (with_reducible refine (less_forL (fun l x => ?_)).trans ?_)
    | (with_reducible refine (less_each (fun l x => ?_)).trans ?_)
    | (with_reducible refine (less_foldl (fun l x => ?_)).trans ?_)
    | split
    | simp [less_ite]
    | rfl)

@[simp] theorem vcAbandon_keep (l : Live) (p : Nat) (word : Option Word) (m : Nat) (h : 68160512 ||| m = m) : less m (Live.vcAbandon l p word) = less m l := less_le h (by
  unfold Live.vcAbandon
  repeat' first
    | (with_reducible rfl)
    | (intro _)
    | (simp [less_ite]; done)
    | (with_reducible refine (less_forL (fun l x => ?_)).trans ?_)
    | (with_reducible refine (less_each (fun l x => ?_)).trans ?_)
    | (with_reducible refine (less_foldl (fun l x => ?_)).trans ?_)
    | split
    | simp [less_ite]
    | rfl)

@[simp] theorem vcTake_keep (l : Live) (r : Nat) (m : Nat) (h : 68160000 ||| m = m) : less m (Live.vcTake l r) = less m l := less_le h (by
  unfold Live.vcTake
  repeat' first
    | (with_reducible rfl)
    | (intro _)
    | (simp [less_ite]; done)
    | (with_reducible refine (less_forL (fun l x => ?_)).trans ?_)
    | (with_reducible refine (less_each (fun l x => ?_)).trans ?_)
    | (with_reducible refine (less_foldl (fun l x => ?_)).trans ?_)
    | split
    | simp [less_ite]
    | rfl)

@[simp] theorem vcKeeper_keep (l : Live) (m : Nat) (h : 2048 ||| m = m) : less m (Live.vcKeeper l) = less m l := less_le h (by
  unfold Live.vcKeeper
  repeat' first
    | (with_reducible rfl)
    | (intro _)
    | (simp [less_ite]; done)
    | (with_reducible refine (less_forL (fun l x => ?_)).trans ?_)
    | (with_reducible refine (less_each (fun l x => ?_)).trans ?_)
    | (with_reducible refine (less_foldl (fun l x => ?_)).trans ?_)
    | split
    | simp [less_ite]
    | rfl)

end Sys2Proof.Machine.Live
end

