-- ==== Sys2Proof/Laws/KeepPattern.lean ====
section
/-! SUPPORT. What each operation of `Machine/Pattern.lean` leaves alone: it changes no part of the state but those whose bits stand
in the number that its lemma names (the parts are numbered in `Laws/Parts.lean`). -/
namespace Sys2Proof.Machine.Live

set_option linter.unusedTactic false
set_option linter.unreachableTactic false
set_option linter.unusedSimpArgs false

@[simp] theorem useStep_keep (l : Live) (lane : Nat) (m : Nat) (h : 2097152 ||| m = m) : less m (Live.useStep l lane) = less m l := less_le h (by
  unfold Live.useStep
  repeat' first
    | (with_reducible rfl)
    | (intro _)
    | (simp [less_ite]; done)
    | (with_reducible refine (less_forL (fun l x => ?_)).trans ?_)
    | (with_reducible refine (less_each (fun l x => ?_)).trans ?_)
    | (with_reducible refine (less_foldl (fun l x => ?_)).trans ?_)
    | split
    | simp [less_ite]
    | rfl)

@[simp] theorem patBad_keep (l : Live) (lane : Nat) (e : Eval) (m : Nat) (h : 33024 ||| m = m) : less m (Live.patBad l lane e) = less m l := less_le h (by
  unfold Live.patBad
  repeat' first
    | (with_reducible rfl)
    | (intro _)
    | (simp [less_ite]; done)
    | (with_reducible refine (less_forL (fun l x => ?_)).trans ?_)
    | (with_reducible refine (less_each (fun l x => ?_)).trans ?_)
    | (with_reducible refine (less_foldl (fun l x => ?_)).trans ?_)
    | split
    | simp [less_ite]
    | rfl)

@[simp] theorem patStep_keep (l : Live) (lane op : Nat) (f : PatFields) (body : Live → Eval → Live × Eval) (m : Nat) (h : 2130176 ||| m = m)
    (hb : ∀ l e, less m (body l e).1 = less m l) : less m (l.patStep lane op f body) = less m l := by
  have h2 := @less_le 2130176 m
  unfold Live.patStep
  split
  · rfl
  · split
    · rfl
    · dsimp only
      split
      · exact less_le h (by simp)
      · split
        · exact less_le h (by simp)
        · refine (less_le h (modLane_keep _ _ _ _ (by decide))).trans ((hb _ _).trans (less_le h (by simp)))

@[simp] theorem patLocal_keep (l : Live) (lane op : Nat) (f : PatFields) (body : Eval → Eval) (m : Nat) (h : 2130176 ||| m = m) : less m (Live.patLocal l lane op f body) = less m l := less_le h (by
  unfold Live.patLocal
  repeat' first
    | (with_reducible rfl)
    | (intro _)
    | (simp [less_ite]; done)
    | (with_reducible refine (less_forL (fun l x => ?_)).trans ?_)
    | (with_reducible refine (less_each (fun l x => ?_)).trans ?_)
    | (with_reducible refine (less_foldl (fun l x => ?_)).trans ?_)
    | split
    | simp [less_ite]
    | rfl)

@[simp] theorem tripOnce_keep (l : Live) (lane : Nat) (e : Eval) (n : BitVec 8) (v : W24) (m : Nat) (h : 68190208 ||| m = m) : less m (Live.tripOnce l lane e n v).1 = less m l := less_le h (by
  unfold Live.tripOnce
  repeat' first
    | (with_reducible rfl)
    | (intro _)
    | (simp [less_ite]; done)
    | (with_reducible refine (less_forL (fun l x => ?_)).trans ?_)
    | (with_reducible refine (less_each (fun l x => ?_)).trans ?_)
    | (with_reducible refine (less_foldl (fun l x => ?_)).trans ?_)
    | split
    | simp [less_ite]
    | rfl)

end Sys2Proof.Machine.Live
end

