-- ==== Sys2Proof/Laws/KeepMooring.lean ====
section
/-! SUPPORT. What each operation of `Machine/Mooring.lean` leaves alone: it changes no part of the state but those whose bits stand
in the number that its lemma names (the parts are numbered in `Laws/Parts.lean`). -/
namespace Sys2Proof.Machine.Live

set_option linter.unusedTactic false
set_option linter.unreachableTactic false
set_option linter.unusedSimpArgs false

@[simp] theorem tailBrick_keep (l : Live) (n : Nat) (b : BitVec 64) (m : Nat) (h : 32 ||| m = m) : less m (Live.tailBrick l n b) = less m l := less_le h (by
  unfold Live.tailBrick
  repeat' first
    | (with_reducible rfl)
    | (intro _)
    | (simp [less_ite]; done)
    | (with_reducible refine (less_forL (fun l x => ?_)).trans ?_)
    | (with_reducible refine (less_each (fun l x => ?_)).trans ?_)
    | (with_reducible refine (less_foldl (fun l x => ?_)).trans ?_)
    | split
    | simp [less_ite]
    | rfl)

@[simp] theorem stnPump_keep (l : Live) (i k m : Nat) (h : 160 ||| m = m) : less m (l.stnPump i k) = less m l := less_le h (by
  induction k generalizing l with
  | zero => rfl
  | succ k ih =>
    simp only [Live.stnPump]
    repeat' first
      | (with_reducible rfl)
      | (refine (ih _).trans ?_)
      | split
      | simp [less_ite])

@[simp] theorem stnAsk_keep (l : Live) (i : Nat) (q : MgmtReq) (m : Nat) (h : 160 ||| m = m) : less m (Live.stnAsk l i q) = less m l := less_le h (by
  unfold Live.stnAsk
  repeat' first
    | (with_reducible rfl)
    | (intro _)
    | (simp [less_ite]; done)
    | (with_reducible refine (less_forL (fun l x => ?_)).trans ?_)
    | (with_reducible refine (less_each (fun l x => ?_)).trans ?_)
    | (with_reducible refine (less_foldl (fun l x => ?_)).trans ?_)
    | split
    | simp [less_ite]
    | rfl)

@[simp] theorem stnDone_keep (l : Live) (i : Nat) (m : Nat) (h : 160 ||| m = m) : less m (Live.stnDone l i) = less m l := less_le h (by
  unfold Live.stnDone
  repeat' first
    | (with_reducible rfl)
    | (intro _)
    | (simp [less_ite]; done)
    | (with_reducible refine (less_forL (fun l x => ?_)).trans ?_)
    | (with_reducible refine (less_each (fun l x => ?_)).trans ?_)
    | (with_reducible refine (less_foldl (fun l x => ?_)).trans ?_)
    | split
    | simp [less_ite]
    | rfl)

@[simp] theorem sightAck_keep (l : Live) (i : Nat) (m : Nat) (h : 160 ||| m = m) : less m (Live.sightAck l i) = less m l := less_le h (by
  unfold Live.sightAck
  repeat' first
    | (with_reducible rfl)
    | (intro _)
    | (simp [less_ite]; done)
    | (with_reducible refine (less_forL (fun l x => ?_)).trans ?_)
    | (with_reducible refine (less_each (fun l x => ?_)).trans ?_)
    | (with_reducible refine (less_foldl (fun l x => ?_)).trans ?_)
    | split
    | simp [less_ite]
    | rfl)

@[simp] theorem descRead_keep (l : Live) (i w : Nat) (m : Nat) (h : 160 ||| m = m) : less m (Live.descRead l i w) = less m l := less_le h (by
  unfold Live.descRead
  repeat' first
    | (with_reducible rfl)
    | (intro _)
    | (simp [less_ite]; done)
    | (with_reducible refine (less_forL (fun l x => ?_)).trans ?_)
    | (with_reducible refine (less_each (fun l x => ?_)).trans ?_)
    | (with_reducible refine (less_foldl (fun l x => ?_)).trans ?_)
    | split
    | simp [less_ite]
    | rfl)

@[simp] theorem assignBrick_keep (l : Live) (i b : Nat) (only : Bool) (m : Nat) (h : 160 ||| m = m) : less m (Live.assignBrick l i b only) = less m l := less_le h (by
  unfold Live.assignBrick
  repeat' first
    | (with_reducible rfl)
    | (intro _)
    | (simp [less_ite]; done)
    | (with_reducible refine (less_forL (fun l x => ?_)).trans ?_)
    | (with_reducible refine (less_each (fun l x => ?_)).trans ?_)
    | (with_reducible refine (less_foldl (fun l x => ?_)).trans ?_)
    | split
    | simp [less_ite]
    | rfl)

@[simp] theorem sendUnassign_keep (l : Live) (i : Nat) (m : Nat) (h : 160 ||| m = m) : less m (Live.sendUnassign l i) = less m l := less_le h (by
  unfold Live.sendUnassign
  repeat' first
    | (with_reducible rfl)
    | (intro _)
    | (simp [less_ite]; done)
    | (with_reducible refine (less_forL (fun l x => ?_)).trans ?_)
    | (with_reducible refine (less_each (fun l x => ?_)).trans ?_)
    | (with_reducible refine (less_foldl (fun l x => ?_)).trans ?_)
    | split
    | simp [less_ite]
    | rfl)

@[simp] theorem stateRead_keep (l : Live) (i w : Nat) (m : Nat) (h : 160 ||| m = m) : less m (Live.stateRead l i w) = less m l := less_le h (by
  unfold Live.stateRead
  repeat' first
    | (with_reducible rfl)
    | (intro _)
    | (simp [less_ite]; done)
    | (with_reducible refine (less_forL (fun l x => ?_)).trans ?_)
    | (with_reducible refine (less_each (fun l x => ?_)).trans ?_)
    | (with_reducible refine (less_foldl (fun l x => ?_)).trans ?_)
    | split
    | simp [less_ite]
    | rfl)

@[simp] theorem paramWrite_keep (l : Live) (i idx v : Nat) (m : Nat) (h : 160 ||| m = m) : less m (Live.paramWrite l i idx v) = less m l := less_le h (by
  unfold Live.paramWrite
  repeat' first
    | (with_reducible rfl)
    | (intro _)
    | (simp [less_ite]; done)
    | (with_reducible refine (less_forL (fun l x => ?_)).trans ?_)
    | (with_reducible refine (less_each (fun l x => ?_)).trans ?_)
    | (with_reducible refine (less_foldl (fun l x => ?_)).trans ?_)
    | split
    | simp [less_ite]
    | rfl)

@[simp] theorem paramRead_keep (l : Live) (i idx : Nat) (m : Nat) (h : 160 ||| m = m) : less m (Live.paramRead l i idx) = less m l := less_le h (by
  unfold Live.paramRead
  repeat' first
    | (with_reducible rfl)
    | (intro _)
    | (simp [less_ite]; done)
    | (with_reducible refine (less_forL (fun l x => ?_)).trans ?_)
    | (with_reducible refine (less_each (fun l x => ?_)).trans ?_)
    | (with_reducible refine (less_foldl (fun l x => ?_)).trans ?_)
    | split
    | simp [less_ite]
    | rfl)

@[simp] theorem keeperYield_keep (l : Live) (m : Nat) (h : 134217720 ||| m = m) : less m (Live.keeperYield l) = less m l := less_le h (by
  unfold Live.keeperYield
  repeat' first
    | (with_reducible rfl)
    | (intro _)
    | (simp [less_ite]; done)
    | (with_reducible refine (less_forL (fun l x => ?_)).trans ?_)
    | (with_reducible refine (less_each (fun l x => ?_)).trans ?_)
    | (with_reducible refine (less_foldl (fun l x => ?_)).trans ?_)
    | split
    | simp [less_ite]
    | rfl)

@[simp] theorem leaseReport_keep (l : Live) (i : Nat) (m : Nat) (h : 134217720 ||| m = m) : less m (Live.leaseReport l i) = less m l := less_le h (by
  unfold Live.leaseReport
  repeat' first
    | (with_reducible rfl)
    | (intro _)
    | (simp [less_ite]; done)
    | (with_reducible refine (less_forL (fun l x => ?_)).trans ?_)
    | (with_reducible refine (less_each (fun l x => ?_)).trans ?_)
    | (with_reducible refine (less_foldl (fun l x => ?_)).trans ?_)
    | split
    | simp [less_ite]
    | rfl)

@[simp] theorem fwReported_keep (l : Live) (i : Nat) (m : Nat) (h : 32896 ||| m = m) : less m (Live.fwReported l i) = less m l := less_le h (by
  unfold Live.fwReported
  repeat' first
    | (with_reducible rfl)
    | (intro _)
    | (simp [less_ite]; done)
    | (with_reducible refine (less_forL (fun l x => ?_)).trans ?_)
    | (with_reducible refine (less_each (fun l x => ?_)).trans ?_)
    | (with_reducible refine (less_foldl (fun l x => ?_)).trans ?_)
    | split
    | simp [less_ite]
    | rfl)

@[simp] theorem identify_keep (l : Live) (i : Nat) (m : Nat) (h : 68211584 ||| m = m) : less m (Live.identify l i) = less m l := less_le h (by
  unfold Live.identify
  repeat' first
    | (with_reducible rfl)
    | (intro _)
    | (simp [less_ite]; done)
    | (with_reducible refine (less_forL (fun l x => ?_)).trans ?_)
    | (with_reducible refine (less_each (fun l x => ?_)).trans ?_)
    | (with_reducible refine (less_foldl (fun l x => ?_)).trans ?_)
    | split
    | simp [less_ite]
    | rfl)

@[simp] theorem descWord_keep (l : Live) (i : Nat) (w : Word) (m : Nat) (h : 68211616 ||| m = m) : less m (Live.descWord l i w) = less m l := less_le h (by
  unfold Live.descWord
  repeat' first
    | (with_reducible rfl)
    | (intro _)
    | (simp [less_ite]; done)
    | (with_reducible refine (less_forL (fun l x => ?_)).trans ?_)
    | (with_reducible refine (less_each (fun l x => ?_)).trans ?_)
    | (with_reducible refine (less_foldl (fun l x => ?_)).trans ?_)
    | split
    | simp [less_ite]
    | rfl)

@[simp] theorem fwStop_keep (l : Live) (i : Nat) (m : Nat) (h : 128 ||| m = m) : less m (Live.fwStop l i) = less m l := less_le h (by
  unfold Live.fwStop
  repeat' first
    | (with_reducible rfl)
    | (intro _)
    | (simp [less_ite]; done)
    | (with_reducible refine (less_forL (fun l x => ?_)).trans ?_)
    | (with_reducible refine (less_each (fun l x => ?_)).trans ?_)
    | (with_reducible refine (less_foldl (fun l x => ?_)).trans ?_)
    | split
    | simp [less_ite]
    | rfl)

@[simp] theorem fwOver_keep (l : Live) (i : Nat) (m : Nat) (h : 128 ||| m = m) : less m (Live.fwOver l i) = less m l := less_le h (by
  unfold Live.fwOver
  repeat' first
    | (with_reducible rfl)
    | (intro _)
    | (simp [less_ite]; done)
    | (with_reducible refine (less_forL (fun l x => ?_)).trans ?_)
    | (with_reducible refine (less_each (fun l x => ?_)).trans ?_)
    | (with_reducible refine (less_foldl (fun l x => ?_)).trans ?_)
    | split
    | simp [less_ite]
    | rfl)

@[simp] theorem fwFail_keep (l : Live) (i : Nat) (m : Nat) (h : 32896 ||| m = m) : less m (Live.fwFail l i) = less m l := less_le h (by
  unfold Live.fwFail
  repeat' first
    | (with_reducible rfl)
    | (intro _)
    | (simp [less_ite]; done)
    | (with_reducible refine (less_forL (fun l x => ?_)).trans ?_)
    | (with_reducible refine (less_each (fun l x => ?_)).trans ?_)
    | (with_reducible refine (less_foldl (fun l x => ?_)).trans ?_)
    | split
    | simp [less_ite]
    | rfl)

@[simp] theorem stnUnanswered_keep (l : Live) (i : Nat) (q : MgmtReq) (m : Nat) (h : 68211616 ||| m = m) : less m (Live.stnUnanswered l i q) = less m l := less_le h (by
  unfold Live.stnUnanswered
  repeat' first
    | (with_reducible rfl)
    | (intro _)
    | (simp [less_ite]; done)
    | (with_reducible refine (less_forL (fun l x => ?_)).trans ?_)
    | (with_reducible refine (less_each (fun l x => ?_)).trans ?_)
    | (with_reducible refine (less_foldl (fun l x => ?_)).trans ?_)
    | split
    | simp [less_ite]
    | rfl)

@[simp] theorem fwSend_keep (l : Live) (i b : Nat) (m : Nat) (h : 160 ||| m = m) : less m (Live.fwSend l i b) = less m l := less_le h (by
  unfold Live.fwSend
  repeat' first
    | (with_reducible rfl)
    | (intro _)
    | (simp [less_ite]; done)
    | (with_reducible refine (less_forL (fun l x => ?_)).trans ?_)
    | (with_reducible refine (less_each (fun l x => ?_)).trans ?_)
    | (with_reducible refine (less_foldl (fun l x => ?_)).trans ?_)
    | split
    | simp [less_ite]
    | rfl)

@[simp] theorem fwWhole_keep (l : Live) (i : Nat) (m : Nat) (h : 160 ||| m = m) : less m (Live.fwWhole l i) = less m l := less_le h (by
  unfold Live.fwWhole
  repeat' first
    | (with_reducible rfl)
    | (intro _)
    | (simp [less_ite]; done)
    | (with_reducible refine (less_forL (fun l x => ?_)).trans ?_)
    | (with_reducible refine (less_each (fun l x => ?_)).trans ?_)
    | (with_reducible refine (less_foldl (fun l x => ?_)).trans ?_)
    | split
    | simp [less_ite]
    | rfl)

@[simp] theorem fwReply_keep (l : Live) (i : Nat) (q : MgmtReq) (rstat : Nat) (m : Nat) (h : 32928 ||| m = m) : less m (Live.fwReply l i q rstat) = less m l := less_le h (by
  unfold Live.fwReply
  repeat' first
    | (with_reducible rfl)
    | (intro _)
    | (simp [less_ite]; done)
    | (with_reducible refine (less_forL (fun l x => ?_)).trans ?_)
    | (with_reducible refine (less_each (fun l x => ?_)).trans ?_)
    | (with_reducible refine (less_foldl (fun l x => ?_)).trans ?_)
    | split
    | simp [less_ite]
    | rfl)

@[simp] theorem fwParked_keep (l : Live) (i : Nat) (m : Nat) (h : 160 ||| m = m) : less m (Live.fwParked l i) = less m l := less_le h (by
  unfold Live.fwParked
  repeat' first
    | (with_reducible rfl)
    | (intro _)
    | (simp [less_ite]; done)
    | (with_reducible refine (less_forL (fun l x => ?_)).trans ?_)
    | (with_reducible refine (less_each (fun l x => ?_)).trans ?_)
    | (with_reducible refine (less_foldl (fun l x => ?_)).trans ?_)
    | split
    | simp [less_ite]
    | rfl)

@[simp] theorem fwStart_keep (l : Live) (m : Nat) (h : 160 ||| m = m) : less m (Live.fwStart l) = less m l := less_le h (by
  unfold Live.fwStart
  repeat' first
    | (with_reducible rfl)
    | (intro _)
    | (simp [less_ite]; done)
    | (with_reducible refine (less_forL (fun l x => ?_)).trans ?_)
    | (with_reducible refine (less_each (fun l x => ?_)).trans ?_)
    | (with_reducible refine (less_foldl (fun l x => ?_)).trans ?_)
    | split
    | simp [less_ite]
    | rfl)

@[simp] theorem assignReply_keep (l : Live) (i : Nat) (q : MgmtReq) (rstat : Nat) (m : Nat) (h : 224 ||| m = m) : less m (Live.assignReply l i q rstat) = less m l := less_le h (by
  unfold Live.assignReply
  repeat' first
    | (with_reducible rfl)
    | (intro _)
    | (simp [less_ite]; done)
    | (with_reducible refine (less_forL (fun l x => ?_)).trans ?_)
    | (with_reducible refine (less_each (fun l x => ?_)).trans ?_)
    | (with_reducible refine (less_foldl (fun l x => ?_)).trans ?_)
    | split
    | simp [less_ite]
    | rfl)

@[simp] theorem stateReply_keep (l : Live) (i : Nat) (q : MgmtReq) (rstat : Nat) (v : Word) (m : Nat) (h : 134217720 ||| m = m) : less m (Live.stateReply l i q rstat v) = less m l := less_le h (by
  unfold Live.stateReply
  repeat' first
    | (with_reducible rfl)
    | (intro _)
    | (simp [less_ite]; done)
    | (with_reducible refine (less_forL (fun l x => ?_)).trans ?_)
    | (with_reducible refine (less_each (fun l x => ?_)).trans ?_)
    | (with_reducible refine (less_foldl (fun l x => ?_)).trans ?_)
    | split
    | simp [less_ite]
    | rfl)

@[simp] theorem vtRead_keep (l : Live) (i : Nat) (v : Word) (m : Nat) (h : 66048 ||| m = m) : less m (Live.vtRead l i v) = less m l := less_le h (by
  unfold Live.vtRead
  repeat' first
    | (with_reducible rfl)
    | (intro _)
    | (simp [less_ite]; done)
    | (with_reducible refine (less_forL (fun l x => ?_)).trans ?_)
    | (with_reducible refine (less_each (fun l x => ?_)).trans ?_)
    | (with_reducible refine (less_foldl (fun l x => ?_)).trans ?_)
    | split
    | simp [less_ite]
    | rfl)

@[simp] theorem paramReply_keep (l : Live) (i : Nat) (q : MgmtReq) (rstat : Nat) (v : Word) (m : Nat) (h : 66176 ||| m = m) : less m (Live.paramReply l i q rstat v) = less m l := less_le h (by
  unfold Live.paramReply
  repeat' first
    | (with_reducible rfl)
    | (intro _)
    | (simp [less_ite]; done)
    | (with_reducible refine (less_forL (fun l x => ?_)).trans ?_)
    | (with_reducible refine (less_each (fun l x => ?_)).trans ?_)
    | (with_reducible refine (less_foldl (fun l x => ?_)).trans ?_)
    | split
    | simp [less_ite]
    | rfl)

@[simp] theorem stnReply_keep (l : Live) (i : Nat) (q : MgmtReq) (rstat : Nat) (v : Word) (m : Nat) (h : 134217720 ||| m = m) : less m (Live.stnReply l i q rstat v) = less m l := less_le h (by
  unfold Live.stnReply
  repeat' first
    | (with_reducible rfl)
    | (intro _)
    | (simp [less_ite]; done)
    | (with_reducible refine (less_forL (fun l x => ?_)).trans ?_)
    | (with_reducible refine (less_each (fun l x => ?_)).trans ?_)
    | (with_reducible refine (less_foldl (fun l x => ?_)).trans ?_)
    | split
    | simp [less_ite]
    | rfl)

@[simp] theorem resendDeferred_keep (l : Live) (m : Nat) (h : 160 ||| m = m) : less m (Live.resendDeferred l) = less m l := less_le h (by
  unfold Live.resendDeferred
  repeat' first
    | (with_reducible rfl)
    | (intro _)
    | (simp [less_ite]; done)
    | (with_reducible refine (less_forL (fun l x => ?_)).trans ?_)
    | (with_reducible refine (less_each (fun l x => ?_)).trans ?_)
    | (with_reducible refine (less_foldl (fun l x => ?_)).trans ?_)
    | split
    | simp [less_ite]
    | rfl)

@[simp] theorem bindRule_keep (l : Live) (i n : Nat) (r : Rule) (m : Nat) (h : 68178848 ||| m = m) : less m (Live.bindRule l i n r) = less m l := less_le h (by
  unfold Live.bindRule
  repeat' first
    | (with_reducible rfl)
    | (intro _)
    | (simp [less_ite]; done)
    | (with_reducible refine (less_forL (fun l x => ?_)).trans ?_)
    | (with_reducible refine (less_each (fun l x => ?_)).trans ?_)
    | (with_reducible refine (less_foldl (fun l x => ?_)).trans ?_)
    | split
    | simp [less_ite]
    | rfl)

@[simp] theorem matchStn_keep (l : Live) (i : Nat) (m : Nat) (h : 68211616 ||| m = m) : less m (Live.matchStn l i) = less m l := less_le h (by
  unfold Live.matchStn
  repeat' first
    | (with_reducible rfl)
    | (intro _)
    | (simp [less_ite]; done)
    | (with_reducible refine (less_forL (fun l x => ?_)).trans ?_)
    | (with_reducible refine (less_each (fun l x => ?_)).trans ?_)
    | (with_reducible refine (less_foldl (fun l x => ?_)).trans ?_)
    | split
    | simp [less_ite]
    | rfl)

@[simp] theorem handJoin_keep (l : Live) (t : Nat) (xs : List (Nat × Stn)) (m : Nat) (h : 768 ||| m = m) : less m (Live.handJoin l t xs) = less m l := less_le h (by
  unfold Live.handJoin
  repeat' first
    | (with_reducible rfl)
    | (intro _)
    | (simp [less_ite]; done)
    | (with_reducible refine (less_forL (fun l x => ?_)).trans ?_)
    | (with_reducible refine (less_each (fun l x => ?_)).trans ?_)
    | (with_reducible refine (less_foldl (fun l x => ?_)).trans ?_)
    | split
    | simp [less_ite]
    | rfl)

@[simp] theorem handStart_keep (l : Live) (t : Nat) (m : Nat) (h : 256 ||| m = m) : less m (Live.handStart l t) = less m l := less_le h (by
  unfold Live.handStart
  repeat' first
    | (with_reducible rfl)
    | (intro _)
    | (simp [less_ite]; done)
    | (with_reducible refine (less_forL (fun l x => ?_)).trans ?_)
    | (with_reducible refine (less_each (fun l x => ?_)).trans ?_)
    | (with_reducible refine (less_foldl (fun l x => ?_)).trans ?_)
    | split
    | simp [less_ite]
    | rfl)

@[simp] theorem inlimWork_keep (l : Live) (i : Nat) (m : Nat) (h : 160 ||| m = m) : less m (Live.inlimWork l i) = less m l := less_le h (by
  unfold Live.inlimWork
  repeat' first
    | (with_reducible rfl)
    | (intro _)
    | (simp [less_ite]; done)
    | (with_reducible refine (less_forL (fun l x => ?_)).trans ?_)
    | (with_reducible refine (less_each (fun l x => ?_)).trans ?_)
    | (with_reducible refine (less_foldl (fun l x => ?_)).trans ?_)
    | split
    | simp [less_ite]
    | rfl)

@[simp] theorem buoysetWork_keep (l : Live) (i : Nat) (m : Nat) (h : 160 ||| m = m) : less m (Live.buoysetWork l i) = less m l := less_le h (by
  unfold Live.buoysetWork
  repeat' first
    | (with_reducible rfl)
    | (intro _)
    | (simp [less_ite]; done)
    | (with_reducible refine (less_forL (fun l x => ?_)).trans ?_)
    | (with_reducible refine (less_each (fun l x => ?_)).trans ?_)
    | (with_reducible refine (less_foldl (fun l x => ?_)).trans ?_)
    | split
    | simp [less_ite]
    | rfl)

@[simp] theorem stnBond_keep (l : Live) (m : Nat) (h : 68178912 ||| m = m) : less m (Live.stnBond l) = less m l := less_le h (by
  unfold Live.stnBond
  repeat' first
    | (with_reducible rfl)
    | (intro _)
    | (simp [less_ite]; done)
    | (with_reducible refine (less_forL (fun l x => ?_)).trans ?_)
    | (with_reducible refine (less_each (fun l x => ?_)).trans ?_)
    | (with_reducible refine (less_foldl (fun l x => ?_)).trans ?_)
    | split
    | simp [less_ite]
    | rfl)

end Sys2Proof.Machine.Live
end

