-- ==== Sys2Proof/Laws/KeepLoop.lean ====
section
/-! SUPPORT. What each operation of `Machine/Loop.lean` leaves alone: it changes no part of the state but those whose bits stand
in the number that its lemma names (the parts are numbered in `Laws/Parts.lean`). -/
namespace Sys2Proof.Machine.Live

set_option linter.unusedTactic false
set_option linter.unreachableTactic false
set_option linter.unusedSimpArgs false

@[simp] theorem takeLatch_keep (l : Live) (n : Nat) (m : Nat) (h : 256 ||| m = m) : less m (Live.takeLatch l n) = less m l := less_le h (by
  unfold Live.takeLatch
  repeat' first
    | (with_reducible rfl)
    | (intro _)
    | (simp [less_ite]; done)
    | (with_reducible refine (less_forL (fun l x => ?_)).trans ?_)
    | (with_reducible refine (less_each (fun l x => ?_)).trans ?_)
    | (with_reducible refine (less_foldl (fun l x => ?_)).trans ?_)
    | split
    | simp [less_ite]
    | rfl)

@[simp] theorem startEval_keep (l : Live) (lane t : Nat) (ring : Option Nat) (num : Half) (m : Nat) (h : 202375424 ||| m = m) : less m (Live.startEval l lane t ring num) = less m l := less_le h (by
  unfold Live.startEval
  repeat' first
    | (with_reducible rfl)
    | (intro _)
    | (simp [less_ite]; done)
    | (with_reducible refine (less_forL (fun l x => ?_)).trans ?_)
    | (with_reducible refine (less_each (fun l x => ?_)).trans ?_)
    | (with_reducible refine (less_foldl (fun l x => ?_)).trans ?_)
    | split
    | simp [less_ite]
    | rfl)

@[simp] theorem decLatch_keep (l : Live) (t n : Nat) (m : Nat) (h : 68157696 ||| m = m) : less m (Live.decLatch l t n) = less m l := less_le h (by
  unfold Live.decLatch
  repeat' first
    | (with_reducible rfl)
    | (intro _)
    | (simp [less_ite]; done)
    | (with_reducible refine (less_forL (fun l x => ?_)).trans ?_)
    | (with_reducible refine (less_each (fun l x => ?_)).trans ?_)
    | (with_reducible refine (less_foldl (fun l x => ?_)).trans ?_)
    | split
    | simp [less_ite]
    | rfl)

@[simp] theorem decSkip_keep (l : Live) (t n : Nat) (m : Nat) (h : 68157696 ||| m = m) : less m (Live.decSkip l t n) = less m l := less_le h (by
  unfold Live.decSkip
  repeat' first
    | (with_reducible rfl)
    | (intro _)
    | (simp [less_ite]; done)
    | (with_reducible refine (less_forL (fun l x => ?_)).trans ?_)
    | (with_reducible refine (less_each (fun l x => ?_)).trans ?_)
    | (with_reducible refine (less_foldl (fun l x => ?_)).trans ?_)
    | split
    | simp [less_ite]
    | rfl)

@[simp] theorem decFinal_keep (l : Live) (n : Nat) (m : Nat) (h : 68157696 ||| m = m) : less m (Live.decFinal l n) = less m l := less_le h (by
  unfold Live.decFinal
  repeat' first
    | (with_reducible rfl)
    | (intro _)
    | (simp [less_ite]; done)
    | (with_reducible refine (less_forL (fun l x => ?_)).trans ?_)
    | (with_reducible refine (less_each (fun l x => ?_)).trans ?_)
    | (with_reducible refine (less_foldl (fun l x => ?_)).trans ?_)
    | split
    | simp [less_ite]
    | rfl)

@[simp] theorem laneRun_keep (lane f : Nat) (l : Live) (m : Nat) (h : 202375424 ||| m = m) :
    less m (Live.laneRun lane f l) = less m l := less_le h (by
  induction f generalizing l with
  | zero => rfl
  | succ f ih =>
    simp only [Live.laneRun]
    repeat' first
      | (with_reducible rfl)
      | (refine (ih _).trans ?_)
      | split
      | simp [less_ite])

@[simp] theorem sampleEval_keep (l : Live) (lane : Nat) (e : Eval) (discarded : Bool) (m : Nat) (h : 135266304 ||| m = m) : less m (Live.sampleEval l lane e discarded) = less m l := less_le h (by
  unfold Live.sampleEval
  repeat' first
    | (with_reducible rfl)
    | (intro _)
    | (simp [less_ite]; done)
    | (with_reducible refine (less_forL (fun l x => ?_)).trans ?_)
    | (with_reducible refine (less_each (fun l x => ?_)).trans ?_)
    | (with_reducible refine (less_foldl (fun l x => ?_)).trans ?_)
    | split
    | simp [less_ite]
    | rfl)

@[simp] theorem outGo_keep (l : Live) (r : Tbl Word) (port : Nat) (v : W24) (m : Nat) (h : 320 ||| m = m) : less m (Live.outGo l r port v) = less m l := less_le h (by
  unfold Live.outGo
  repeat' first
    | (with_reducible rfl)
    | (intro _)
    | (simp [less_ite]; done)
    | (with_reducible refine (less_forL (fun l x => ?_)).trans ?_)
    | (with_reducible refine (less_each (fun l x => ?_)).trans ?_)
    | (with_reducible refine (less_foldl (fun l x => ?_)).trans ?_)
    | split
    | simp [less_ite]
    | rfl)

@[simp] theorem commitEval_keep (l : Live) (lane : Nat) (e : Eval) (m : Nat) (h : 76579648 ||| m = m) : less m (Live.commitEval l lane e) = less m l := less_le h (by
  unfold Live.commitEval
  repeat' first
    | (with_reducible rfl)
    | (intro _)
    | (simp [less_ite]; done)
    | (with_reducible refine (less_forL (fun l x => ?_)).trans ?_)
    | (with_reducible refine (less_each (fun l x => ?_)).trans ?_)
    | (with_reducible refine (less_foldl (fun l x => ?_)).trans ?_)
    | split
    | simp [less_ite]
    | rfl)

@[simp] theorem policyDrop_keep (l : Live) (t lane : Nat) (m : Nat) (h : 68190464 ||| m = m) : less m (Live.policyDrop l t lane) = less m l := less_le h (by
  unfold Live.policyDrop
  repeat' first
    | (with_reducible rfl)
    | (intro _)
    | (simp [less_ite]; done)
    | (with_reducible refine (less_forL (fun l x => ?_)).trans ?_)
    | (with_reducible refine (less_each (fun l x => ?_)).trans ?_)
    | (with_reducible refine (less_foldl (fun l x => ?_)).trans ?_)
    | split
    | simp [less_ite]
    | rfl)

@[simp] theorem laneDrop_keep (l : Live) (lane : Nat) (e : Eval) (m : Nat) (h : 256 ||| m = m) : less m (Live.laneDrop l lane e) = less m l := less_le h (by
  unfold Live.laneDrop
  repeat' first
    | (with_reducible rfl)
    | (intro _)
    | (simp [less_ite]; done)
    | (with_reducible refine (less_forL (fun l x => ?_)).trans ?_)
    | (with_reducible refine (less_each (fun l x => ?_)).trans ?_)
    | (with_reducible refine (less_foldl (fun l x => ?_)).trans ?_)
    | split
    | simp [less_ite]
    | rfl)

@[simp] theorem courseDrop_keep (l : Live) (e : Eval) (m : Nat) (h : 68157696 ||| m = m) : less m (Live.courseDrop l e) = less m l := less_le h (by
  unfold Live.courseDrop
  repeat' first
    | (with_reducible rfl)
    | (intro _)
    | (simp [less_ite]; done)
    | (with_reducible refine (less_forL (fun l x => ?_)).trans ?_)
    | (with_reducible refine (less_each (fun l x => ?_)).trans ?_)
    | (with_reducible refine (less_foldl (fun l x => ?_)).trans ?_)
    | split
    | simp [less_ite]
    | rfl)

@[simp] theorem policyBond_keep (l : Live) (m : Nat) (h : 256 ||| m = m) : less m (Live.policyBond l) = less m l := less_le h (by
  unfold Live.policyBond
  repeat' first
    | (with_reducible rfl)
    | (intro _)
    | (simp [less_ite]; done)
    | (with_reducible refine (less_forL (fun l x => ?_)).trans ?_)
    | (with_reducible refine (less_each (fun l x => ?_)).trans ?_)
    | (with_reducible refine (less_foldl (fun l x => ?_)).trans ?_)
    | split
    | simp [less_ite]
    | rfl)

@[simp] theorem tug_keep (l : Live) (obj word lsb win lose asked applied : Nat) (m : Nat) (h : 68194304 ||| m = m) : less m (Live.tug l obj word lsb win lose asked applied) = less m l := less_le h (by
  unfold Live.tug
  repeat' first
    | (with_reducible rfl)
    | (intro _)
    | (simp [less_ite]; done)
    | (with_reducible refine (less_forL (fun l x => ?_)).trans ?_)
    | (with_reducible refine (less_each (fun l x => ?_)).trans ?_)
    | (with_reducible refine (less_foldl (fun l x => ?_)).trans ?_)
    | split
    | simp [less_ite]
    | rfl)

@[simp] theorem tugsEnd_keep (l : Live) (m : Nat) (h : 4096 ||| m = m) : less m (Live.tugsEnd l) = less m l := less_le h (by
  unfold Live.tugsEnd
  repeat' first
    | (with_reducible rfl)
    | (intro _)
    | (simp [less_ite]; done)
    | (with_reducible refine (less_forL (fun l x => ?_)).trans ?_)
    | (with_reducible refine (less_each (fun l x => ?_)).trans ?_)
    | (with_reducible refine (less_foldl (fun l x => ?_)).trans ?_)
    | split
    | simp [less_ite]
    | rfl)

@[simp] theorem vcoreTug_keep (l : Live) (b : Nat) (m : Nat) (h : 68194304 ||| m = m) : less m (Live.vcoreTug l b) = less m l := less_le h (by
  unfold Live.vcoreTug
  repeat' first
    | (with_reducible rfl)
    | (intro _)
    | (simp [less_ite]; done)
    | (with_reducible refine (less_forL (fun l x => ?_)).trans ?_)
    | (with_reducible refine (less_each (fun l x => ?_)).trans ?_)
    | (with_reducible refine (less_foldl (fun l x => ?_)).trans ?_)
    | split
    | simp [less_ite]
    | rfl)

@[simp] theorem vcoreBond_keep (l : Live) (m : Nat) (h : 68194560 ||| m = m) : less m (Live.vcoreBond l) = less m l := less_le h (by
  unfold Live.vcoreBond
  repeat' first
    | (with_reducible rfl)
    | (intro _)
    | (simp [less_ite]; done)
    | (with_reducible refine (less_forL (fun l x => ?_)).trans ?_)
    | (with_reducible refine (less_each (fun l x => ?_)).trans ?_)
    | (with_reducible refine (less_foldl (fun l x => ?_)).trans ?_)
    | split
    | simp [less_ite]
    | rfl)

end Sys2Proof.Machine.Live
end

