-- ==== Sys2Proof/Laws/KeepThermal.lean ====
section
/-! SUPPORT. What each operation of `Machine/Thermal.lean` leaves alone: it changes no part of the state but those whose bits stand
in the number that its lemma names (the parts are numbered in `Laws/Parts.lean`). -/
namespace Sys2Proof.Machine.Live

set_option linter.unusedTactic false
set_option linter.unreachableTactic false
set_option linter.unusedSimpArgs false

@[simp] theorem dieBand_keep (l : Live) (b : Nat) (m : Nat) (h : 68210944 ||| m = m) : less m (Live.dieBand l b) = less m l := less_le h (by
  unfold Live.dieBand
  repeat' first
    | (with_reducible rfl)
    | (intro _)
    | (simp [less_ite]; done)
    | (with_reducible refine (less_forL (fun l x => ?_)).trans ?_)
    | (with_reducible refine (less_each (fun l x => ?_)).trans ?_)
    | (with_reducible refine (less_foldl (fun l x => ?_)).trans ?_)
    | split
    | simp [less_ite]
    | rfl)

@[simp] theorem pointStart_keep (l : Live) (p : Nat) (m : Nat) (h : 16384 ||| m = m) : less m (Live.pointStart l p) = less m l := less_le h (by
  unfold Live.pointStart
  repeat' first
    | (with_reducible rfl)
    | (intro _)
    | (simp [less_ite]; done)
    | (with_reducible refine (less_forL (fun l x => ?_)).trans ?_)
    | (with_reducible refine (less_each (fun l x => ?_)).trans ?_)
    | (with_reducible refine (less_foldl (fun l x => ?_)).trans ?_)
    | split
    | simp [less_ite]
    | rfl)

@[simp] theorem sensorBreak_keep (l : Live) (p why : Nat) (m : Nat) (h : 68206592 ||| m = m) : less m (Live.sensorBreak l p why) = less m l := less_le h (by
  unfold Live.sensorBreak
  repeat' first
    | (with_reducible rfl)
    | (intro _)
    | (simp [less_ite]; done)
    | (with_reducible refine (less_forL (fun l x => ?_)).trans ?_)
    | (with_reducible refine (less_each (fun l x => ?_)).trans ?_)
    | (with_reducible refine (less_foldl (fun l x => ?_)).trans ?_)
    | split
    | simp [less_ite]
    | rfl)

@[simp] theorem ntcReading_keep (l : Live) (p code : Nat) (t : Option Rat) (m : Nat) (h : 68206592 ||| m = m) : less m (Live.ntcReading l p code t) = less m l := less_le h (by
  unfold Live.ntcReading
  repeat' first
    | (with_reducible rfl)
    | (intro _)
    | (simp [less_ite]; done)
    | (with_reducible refine (less_forL (fun l x => ?_)).trans ?_)
    | (with_reducible refine (less_each (fun l x => ?_)).trans ?_)
    | (with_reducible refine (less_foldl (fun l x => ?_)).trans ?_)
    | split
    | simp [less_ite]
    | rfl)

@[simp] theorem auxReading_keep (l : Live) (i : Nat) (a : BitVec 12) (m : Nat) (h : 68206592 ||| m = m) : less m (Live.auxReading l i a) = less m l := less_le h (by
  unfold Live.auxReading
  repeat' first
    | (with_reducible rfl)
    | (intro _)
    | (simp [less_ite]; done)
    | (with_reducible refine (less_forL (fun l x => ?_)).trans ?_)
    | (with_reducible refine (less_each (fun l x => ?_)).trans ?_)
    | (with_reducible refine (less_foldl (fun l x => ?_)).trans ?_)
    | split
    | simp [less_ite]
    | rfl)

@[simp] theorem auxPointReading_keep (l : Live) (ch : Nat) (code : Half) (m : Nat) (h : 68206592 ||| m = m) : less m (Live.auxPointReading l ch code) = less m l := less_le h (by
  unfold Live.auxPointReading
  repeat' first
    | (with_reducible rfl)
    | (intro _)
    | (simp [less_ite]; done)
    | (with_reducible refine (less_forL (fun l x => ?_)).trans ?_)
    | (with_reducible refine (less_each (fun l x => ?_)).trans ?_)
    | (with_reducible refine (less_foldl (fun l x => ?_)).trans ?_)
    | split
    | simp [less_ite]
    | rfl)

@[simp] theorem piAsk_keep (l : Live) (port : Nat) (a : Asker) (m : Nat) (h : 524288 ||| m = m) : less m (Live.piAsk l port a) = less m l := less_le h (by
  unfold Live.piAsk
  repeat' first
    | (with_reducible rfl)
    | (intro _)
    | (simp [less_ite]; done)
    | (with_reducible refine (less_forL (fun l x => ?_)).trans ?_)
    | (with_reducible refine (less_each (fun l x => ?_)).trans ?_)
    | (with_reducible refine (less_foldl (fun l x => ?_)).trans ?_)
    | split
    | simp [less_ite]
    | rfl)

@[simp] theorem airDone_keep (l : Live) (i : Nat) (data : Option (List Byte)) (m : Nat) (h : 49152 ||| m = m) : less m (Live.airDone l i data) = less m l := less_le h (by
  unfold Live.airDone
  repeat' first
    | (with_reducible rfl)
    | (intro _)
    | (simp [less_ite]; done)
    | (with_reducible refine (less_forL (fun l x => ?_)).trans ?_)
    | (with_reducible refine (less_each (fun l x => ?_)).trans ?_)
    | (with_reducible refine (less_foldl (fun l x => ?_)).trans ?_)
    | split
    | simp [less_ite]
    | rfl)

@[simp] theorem eccEffect_keep (l : Live) (a : FaultArg) (m : Nat) (h : 68574144 ||| m = m) : less m (Live.eccEffect l a) = less m l := less_le h (by
  unfold Live.eccEffect
  repeat' first
    | (with_reducible rfl)
    | (intro _)
    | (simp [less_ite]; done)
    | (with_reducible refine (less_forL (fun l x => ?_)).trans ?_)
    | (with_reducible refine (less_each (fun l x => ?_)).trans ?_)
    | (with_reducible refine (less_foldl (fun l x => ?_)).trans ?_)
    | split
    | simp [less_ite]
    | rfl)

@[simp] theorem eccCorrected_keep (l : Live) (m : MemSpace) (mm : Nat) (h : 16384 ||| mm = mm) : less mm (Live.eccCorrected l m) = less mm l := less_le h (by
  unfold Live.eccCorrected
  repeat' first
    | (with_reducible rfl)
    | (intro _)
    | (simp [less_ite]; done)
    | (with_reducible refine (less_forL (fun l x => ?_)).trans ?_)
    | (with_reducible refine (less_each (fun l x => ?_)).trans ?_)
    | (with_reducible refine (less_foldl (fun l x => ?_)).trans ?_)
    | split
    | simp [less_ite]
    | rfl)

@[simp] theorem eccFault_keep (l : Live) (a : FaultArg) (m : Nat) (h : 68606912 ||| m = m) : less m (Live.eccFault l a) = less m l := less_le h (by
  unfold Live.eccFault
  repeat' first
    | (with_reducible rfl)
    | (intro _)
    | (simp [less_ite]; done)
    | (with_reducible refine (less_forL (fun l x => ?_)).trans ?_)
    | (with_reducible refine (less_each (fun l x => ?_)).trans ?_)
    | (with_reducible refine (less_foldl (fun l x => ?_)).trans ?_)
    | split
    | simp [less_ite]
    | rfl)

end Sys2Proof.Machine.Live
end

