-- ==== Sys2Proof/Laws/KeepGauge.lean ====
section
/-! SUPPORT. What each operation of `Machine/Gauge.lean` leaves alone: it changes no part of the state but those whose bits stand
in the number that its lemma names (the parts are numbered in `Laws/Parts.lean`). -/
namespace Sys2Proof.Machine.Live

set_option linter.unusedTactic false
set_option linter.unreachableTactic false
set_option linter.unusedSimpArgs false

@[simp] theorem strUncert_keep (l : Live) (k : Nat) (m : Nat) (h : 40960 ||| m = m) : less m (Live.strUncert l k) = less m l := less_le h (by
  unfold Live.strUncert
  repeat' first
    | (with_reducible rfl)
    | (intro _)
    | (simp [less_ite]; done)
    | (with_reducible refine (less_forL (fun l x => ?_)).trans ?_)
    | (with_reducible refine (less_each (fun l x => ?_)).trans ?_)
    | (with_reducible refine (less_foldl (fun l x => ?_)).trans ?_)
    | split
    | simp [less_ite]
    | rfl)

@[simp] theorem strAux_keep (l : Live) (k : Nat) (a : BitVec 12) (m : Nat) (h : 8192 ||| m = m) : less m (Live.strAux l k a) = less m l := less_le h (by
  unfold Live.strAux
  repeat' first
    | (with_reducible rfl)
    | (intro _)
    | (simp [less_ite]; done)
    | (with_reducible refine (less_forL (fun l x => ?_)).trans ?_)
    | (with_reducible refine (less_each (fun l x => ?_)).trans ?_)
    | (with_reducible refine (less_foldl (fun l x => ?_)).trans ?_)
    | split
    | simp [less_ite]
    | rfl)

@[simp] theorem strSample_keep (l : Live) (k : Nat) (v i : Rat) (m : Nat) (h : 8192 ||| m = m) : less m (Live.strSample l k v i) = less m l := less_le h (by
  unfold Live.strSample
  repeat' first
    | (with_reducible rfl)
    | (intro _)
    | (simp [less_ite]; done)
    | (with_reducible refine (less_forL (fun l x => ?_)).trans ?_)
    | (with_reducible refine (less_each (fun l x => ?_)).trans ?_)
    | (with_reducible refine (less_foldl (fun l x => ?_)).trans ?_)
    | split
    | simp [less_ite]
    | rfl)

@[simp] theorem packDone_keep (l : Live) (k : Nat) (data : Option (List Byte)) (m : Nat) (h : 40960 ||| m = m) : less m (Live.packDone l k data) = less m l := less_le h (by
  unfold Live.packDone
  repeat' first
    | (with_reducible rfl)
    | (intro _)
    | (simp [less_ite]; done)
    | (with_reducible refine (less_forL (fun l x => ?_)).trans ?_)
    | (with_reducible refine (less_each (fun l x => ?_)).trans ?_)
    | (with_reducible refine (less_foldl (fun l x => ?_)).trans ?_)
    | split
    | simp [less_ite]
    | rfl)

@[simp] theorem strStep_keep (l : Live) (k at_ : Nat) (m : Nat) (h : 8192 ||| m = m) : less m (Live.strStep l k at_) = less m l := less_le h (by
  unfold Live.strStep
  repeat' first
    | (with_reducible rfl)
    | (intro _)
    | (simp [less_ite]; done)
    | (with_reducible refine (less_forL (fun l x => ?_)).trans ?_)
    | (with_reducible refine (less_each (fun l x => ?_)).trans ?_)
    | (with_reducible refine (less_foldl (fun l x => ?_)).trans ?_)
    | split
    | simp [less_ite]
    | rfl)

@[simp] theorem strCourse_keep (l : Live) (k period start : Nat) (m : Nat) (h : 40960 ||| m = m) : less m (Live.strCourse l k period start) = less m l := less_le h (by
  unfold Live.strCourse
  repeat' first
    | (with_reducible rfl)
    | (intro _)
    | (simp [less_ite]; done)
    | (with_reducible refine (less_forL (fun l x => ?_)).trans ?_)
    | (with_reducible refine (less_each (fun l x => ?_)).trans ?_)
    | (with_reducible refine (less_foldl (fun l x => ?_)).trans ?_)
    | split
    | simp [less_ite]
    | rfl)

@[simp] theorem slotErase_keep (l : Live) (k : Nat) (b : Bool) (m : Nat) (h : 8192 ||| m = m) : less m (Live.slotErase l k b) = less m l := less_le h (by
  unfold Live.slotErase
  repeat' first
    | (with_reducible rfl)
    | (intro _)
    | (simp [less_ite]; done)
    | (with_reducible refine (less_forL (fun l x => ?_)).trans ?_)
    | (with_reducible refine (less_each (fun l x => ?_)).trans ?_)
    | (with_reducible refine (less_foldl (fun l x => ?_)).trans ?_)
    | split
    | simp [less_ite]
    | rfl)

@[simp] theorem slotFill_keep (l : Live) (k : Nat) (b : Bool) (x : List Byte) (m : Nat) (h : 8192 ||| m = m) : less m (Live.slotFill l k b x) = less m l := less_le h (by
  unfold Live.slotFill
  repeat' first
    | (with_reducible rfl)
    | (intro _)
    | (simp [less_ite]; done)
    | (with_reducible refine (less_forL (fun l x => ?_)).trans ?_)
    | (with_reducible refine (less_each (fun l x => ?_)).trans ?_)
    | (with_reducible refine (less_foldl (fun l x => ?_)).trans ?_)
    | split
    | simp [less_ite]
    | rfl)

@[simp] theorem slotWrite_keep (l : Live) (k : Nat) (b : Bool) (x : List Byte) (again : Bool) (m : Nat) (h : 24576 ||| m = m) : less m (Live.slotWrite l k b x again) = less m l := less_le h (by
  unfold Live.slotWrite
  repeat' first
    | (with_reducible rfl)
    | (intro _)
    | (simp [less_ite]; done)
    | (with_reducible refine (less_forL (fun l x => ?_)).trans ?_)
    | (with_reducible refine (less_each (fun l x => ?_)).trans ?_)
    | (with_reducible refine (less_foldl (fun l x => ?_)).trans ?_)
    | split
    | simp [less_ite]
    | rfl)

@[simp] theorem strWrite_keep (l : Live) (k : Nat) (m : Nat) (h : 24576 ||| m = m) : less m (Live.strWrite l k) = less m l := less_le h (by
  unfold Live.strWrite
  repeat' first
    | (with_reducible rfl)
    | (intro _)
    | (simp [less_ite]; done)
    | (with_reducible refine (less_forL (fun l x => ?_)).trans ?_)
    | (with_reducible refine (less_each (fun l x => ?_)).trans ?_)
    | (with_reducible refine (less_foldl (fun l x => ?_)).trans ?_)
    | split
    | simp [less_ite]
    | rfl)

@[simp] theorem strDue_keep (l : Live) (k : Nat) (m : Nat) (h : 24576 ||| m = m) : less m (Live.strDue l k) = less m l := less_le h (by
  unfold Live.strDue
  repeat' first
    | (with_reducible rfl)
    | (intro _)
    | (simp [less_ite]; done)
    | (with_reducible refine (less_forL (fun l x => ?_)).trans ?_)
    | (with_reducible refine (less_each (fun l x => ?_)).trans ?_)
    | (with_reducible refine (less_foldl (fun l x => ?_)).trans ?_)
    | split
    | simp [less_ite]
    | rfl)

@[simp] theorem strHoldup_keep (l : Live) (m : Nat) (h : 24576 ||| m = m) : less m (Live.strHoldup l) = less m l := less_le h (by
  unfold Live.strHoldup
  repeat' first
    | (with_reducible rfl)
    | (intro _)
    | (simp [less_ite]; done)
    | (with_reducible refine (less_forL (fun l x => ?_)).trans ?_)
    | (with_reducible refine (less_each (fun l x => ?_)).trans ?_)
    | (with_reducible refine (less_foldl (fun l x => ?_)).trans ?_)
    | split
    | simp [less_ite]
    | rfl)

@[simp] theorem strLearn_keep (l : Live) (k : Nat) (seen want : Rat) (native : Bool) (m : Nat) (h : 68214784 ||| m = m) : less m (Live.strLearn l k seen want native) = less m l := less_le h (by
  unfold Live.strLearn
  repeat' first
    | (with_reducible rfl)
    | (intro _)
    | (simp [less_ite]; done)
    | (with_reducible refine (less_forL (fun l x => ?_)).trans ?_)
    | (with_reducible refine (less_each (fun l x => ?_)).trans ?_)
    | (with_reducible refine (less_foldl (fun l x => ?_)).trans ?_)
    | split
    | simp [less_ite]
    | rfl)

@[simp] theorem strReset_keep (l : Live) (k : Nat) (m : Nat) (h : 24576 ||| m = m) : less m (Live.strReset l k) = less m l := less_le h (by
  unfold Live.strReset
  repeat' first
    | (with_reducible rfl)
    | (intro _)
    | (simp [less_ite]; done)
    | (with_reducible refine (less_forL (fun l x => ?_)).trans ?_)
    | (with_reducible refine (less_each (fun l x => ?_)).trans ?_)
    | (with_reducible refine (less_foldl (fun l x => ?_)).trans ?_)
    | split
    | simp [less_ite]
    | rfl)

@[simp] theorem anchor_keep (l : Live) (k : Nat) (a : BitVec 64) (m : Nat) (h : 68165632 ||| m = m) : less m (Live.anchor l k a) = less m l := less_le h (by
  unfold Live.anchor
  repeat' first
    | (with_reducible rfl)
    | (intro _)
    | (simp [less_ite]; done)
    | (with_reducible refine (less_forL (fun l x => ?_)).trans ?_)
    | (with_reducible refine (less_each (fun l x => ?_)).trans ?_)
    | (with_reducible refine (less_foldl (fun l x => ?_)).trans ?_)
    | split
    | simp [less_ite]
    | rfl)

@[simp] theorem exEnd_keep (l : Live) (abort : Bool) (m : Nat) (h : 41216 ||| m = m) : less m (Live.exEnd l abort) = less m l := less_le h (by
  unfold Live.exEnd
  repeat' first
    | (with_reducible rfl)
    | (intro _)
    | (simp [less_ite]; done)
    | (with_reducible refine (less_forL (fun l x => ?_)).trans ?_)
    | (with_reducible refine (less_each (fun l x => ?_)).trans ?_)
    | (with_reducible refine (less_foldl (fun l x => ?_)).trans ?_)
    | split
    | simp [less_ite]
    | rfl)

@[simp] theorem exCheck_keep (l : Live) (m : Nat) (h : 41216 ||| m = m) : less m (Live.exCheck l) = less m l := less_le h (by
  unfold Live.exCheck
  repeat' first
    | (with_reducible rfl)
    | (intro _)
    | (simp [less_ite]; done)
    | (with_reducible refine (less_forL (fun l x => ?_)).trans ?_)
    | (with_reducible refine (less_each (fun l x => ?_)).trans ?_)
    | (with_reducible refine (less_foldl (fun l x => ?_)).trans ?_)
    | split
    | simp [less_ite]
    | rfl)

@[simp] theorem exSchedule_keep (l : Live) (m : Nat) (h : 41216 ||| m = m) : less m (Live.exSchedule l) = less m l := less_le h (by
  unfold Live.exSchedule
  repeat' first
    | (with_reducible rfl)
    | (intro _)
    | (simp [less_ite]; done)
    | (with_reducible refine (less_forL (fun l x => ?_)).trans ?_)
    | (with_reducible refine (less_each (fun l x => ?_)).trans ?_)
    | (with_reducible refine (less_foldl (fun l x => ?_)).trans ?_)
    | split
    | simp [less_ite]
    | rfl)

@[simp] theorem exStart_keep (l : Live) (m : Nat) (h : 41216 ||| m = m) : less m (Live.exStart l) = less m l := less_le h (by
  unfold Live.exStart
  repeat' first
    | (with_reducible rfl)
    | (intro _)
    | (simp [less_ite]; done)
    | (with_reducible refine (less_forL (fun l x => ?_)).trans ?_)
    | (with_reducible refine (less_each (fun l x => ?_)).trans ?_)
    | (with_reducible refine (less_foldl (fun l x => ?_)).trans ?_)
    | split
    | simp [less_ite]
    | rfl)

@[simp] theorem exBond_keep (l : Live) (m : Nat) (h : 41216 ||| m = m) : less m (Live.exBond l) = less m l := less_le h (by
  unfold Live.exBond
  repeat' first
    | (with_reducible rfl)
    | (intro _)
    | (simp [less_ite]; done)
    | (with_reducible refine (less_forL (fun l x => ?_)).trans ?_)
    | (with_reducible refine (less_each (fun l x => ?_)).trans ?_)
    | (with_reducible refine (less_foldl (fun l x => ?_)).trans ?_)
    | split
    | simp [less_ite]
    | rfl)

@[simp] theorem xcmdStart_keep (l : Live) (k : Nat) (m : Nat) (h : 8192 ||| m = m) : less m (Live.xcmdStart l k) = less m l := less_le h (by
  unfold Live.xcmdStart
  repeat' first
    | (with_reducible rfl)
    | (intro _)
    | (simp [less_ite]; done)
    | (with_reducible refine (less_forL (fun l x => ?_)).trans ?_)
    | (with_reducible refine (less_each (fun l x => ?_)).trans ?_)
    | (with_reducible refine (less_foldl (fun l x => ?_)).trans ?_)
    | split
    | simp [less_ite]
    | rfl)

@[simp] theorem xcmdAbort_keep (l : Live) (m : Nat) (h : 41216 ||| m = m) : less m (Live.xcmdAbort l) = less m l := less_le h (by
  unfold Live.xcmdAbort
  repeat' first
    | (with_reducible rfl)
    | (intro _)
    | (simp [less_ite]; done)
    | (with_reducible refine (less_forL (fun l x => ?_)).trans ?_)
    | (with_reducible refine (less_each (fun l x => ?_)).trans ?_)
    | (with_reducible refine (less_foldl (fun l x => ?_)).trans ?_)
    | split
    | simp [less_ite]
    | rfl)

@[simp] theorem anchorBond_keep (l : Live) (k : Nat) (m : Nat) (h : 8192 ||| m = m) : less m (Live.anchorBond l k) = less m l := less_le h (by
  unfold Live.anchorBond
  repeat' first
    | (with_reducible rfl)
    | (intro _)
    | (simp [less_ite]; done)
    | (with_reducible refine (less_forL (fun l x => ?_)).trans ?_)
    | (with_reducible refine (less_each (fun l x => ?_)).trans ?_)
    | (with_reducible refine (less_foldl (fun l x => ?_)).trans ?_)
    | split
    | simp [less_ite]
    | rfl)

@[simp] theorem socOcv_keep (l : Live) (k : Nat) (v : Rat) (m : Nat) (h : 134217728 ||| m = m) : less m (Live.socOcv l k v).2 = less m l := less_le h (by
  unfold Live.socOcv
  repeat' first
    | (with_reducible rfl)
    | (intro _)
    | (simp [less_ite]; done)
    | (with_reducible refine (less_forL (fun l x => ?_)).trans ?_)
    | (with_reducible refine (less_each (fun l x => ?_)).trans ?_)
    | (with_reducible refine (less_foldl (fun l x => ?_)).trans ?_)
    | split
    | simp [less_ite]
    | rfl)

@[simp] theorem cycleBond_keep (l : Live) (k : Nat) (m : Nat) (h : 202432512 ||| m = m) : less m (Live.cycleBond l k) = less m l := less_le h (by
  unfold Live.cycleBond
  repeat' first
    | (with_reducible rfl)
    | (intro _)
    | (simp [less_ite]; done)
    | (with_reducible refine (less_forL (fun l x => ?_)).trans ?_)
    | (with_reducible refine (less_each (fun l x => ?_)).trans ?_)
    | (with_reducible refine (less_foldl (fun l x => ?_)).trans ?_)
    | split
    | simp [less_ite]
    | rfl)

@[simp] theorem socBond_keep (l : Live) (k : Nat) (m : Nat) (h : 8192 ||| m = m) : less m (Live.socBond l k) = less m l := less_le h (by
  unfold Live.socBond
  repeat' first
    | (with_reducible rfl)
    | (intro _)
    | (simp [less_ite]; done)
    | (with_reducible refine (less_forL (fun l x => ?_)).trans ?_)
    | (with_reducible refine (less_each (fun l x => ?_)).trans ?_)
    | (with_reducible refine (less_foldl (fun l x => ?_)).trans ?_)
    | split
    | simp [less_ite]
    | rfl)

@[simp] theorem heatBond_keep (l : Live) (k : Nat) (m : Nat) (h : 8192 ||| m = m) : less m (Live.heatBond l k) = less m l := less_le h (by
  unfold Live.heatBond
  repeat' first
    | (with_reducible rfl)
    | (intro _)
    | (simp [less_ite]; done)
    | (with_reducible refine (less_forL (fun l x => ?_)).trans ?_)
    | (with_reducible refine (less_each (fun l x => ?_)).trans ?_)
    | (with_reducible refine (less_foldl (fun l x => ?_)).trans ?_)
    | split
    | simp [less_ite]
    | rfl)

@[simp] theorem tempBond_keep (l : Live) (k : Nat) (m : Nat) (h : 40960 ||| m = m) : less m (Live.tempBond l k) = less m l := less_le h (by
  unfold Live.tempBond
  repeat' first
    | (with_reducible rfl)
    | (intro _)
    | (simp [less_ite]; done)
    | (with_reducible refine (less_forL (fun l x => ?_)).trans ?_)
    | (with_reducible refine (less_each (fun l x => ?_)).trans ?_)
    | (with_reducible refine (less_foldl (fun l x => ?_)).trans ?_)
    | split
    | simp [less_ite]
    | rfl)

@[simp] theorem gaugeRegs_keep (l : Live) (k : Nat) (m : Nat) (h : 8388864 ||| m = m) : less m (Live.gaugeRegs l k) = less m l := less_le h (by
  unfold Live.gaugeRegs
  repeat' first
    | (with_reducible rfl)
    | (intro _)
    | (simp [less_ite]; done)
    | (with_reducible refine (less_forL (fun l x => ?_)).trans ?_)
    | (with_reducible refine (less_each (fun l x => ?_)).trans ?_)
    | (with_reducible refine (less_foldl (fun l x => ?_)).trans ?_)
    | split
    | simp [less_ite]
    | rfl)

@[simp] theorem heaterOff_keep (l : Live) (old : Live) (k : Nat) (m : Nat) (h : 8388608 ||| m = m) : less m (Live.heaterOff l old k) = less m l := less_le h (by
  unfold Live.heaterOff
  repeat' first
    | (with_reducible rfl)
    | (intro _)
    | (simp [less_ite]; done)
    | (with_reducible refine (less_forL (fun l x => ?_)).trans ?_)
    | (with_reducible refine (less_each (fun l x => ?_)).trans ?_)
    | (with_reducible refine (less_foldl (fun l x => ?_)).trans ?_)
    | split
    | simp [less_ite]
    | rfl)

@[simp] theorem gaugeRegsOff_keep (l : Live) (k : Nat) (m : Nat) (h : 256 ||| m = m) : less m (Live.gaugeRegsOff l k) = less m l := less_le h (by
  unfold Live.gaugeRegsOff
  repeat' first
    | (with_reducible rfl)
    | (intro _)
    | (simp [less_ite]; done)
    | (with_reducible refine (less_forL (fun l x => ?_)).trans ?_)
    | (with_reducible refine (less_each (fun l x => ?_)).trans ?_)
    | (with_reducible refine (less_foldl (fun l x => ?_)).trans ?_)
    | split
    | simp [less_ite]
    | rfl)

@[simp] theorem strFirmware_keep (l : Live) (k : Nat) (m : Nat) (h : 24576 ||| m = m) : less m (Live.strFirmware l k) = less m l := less_le h (by
  unfold Live.strFirmware
  repeat' first
    | (with_reducible rfl)
    | (intro _)
    | (simp [less_ite]; done)
    | (with_reducible refine (less_forL (fun l x => ?_)).trans ?_)
    | (with_reducible refine (less_each (fun l x => ?_)).trans ?_)
    | (with_reducible refine (less_foldl (fun l x => ?_)).trans ?_)
    | split
    | simp [less_ite]
    | rfl)

@[simp] theorem strBond_keep (l : Live) (k : Nat) (m : Nat) (h : 202432512 ||| m = m) : less m (Live.strBond l k) = less m l := less_le h (by
  unfold Live.strBond
  repeat' first
    | (with_reducible rfl)
    | (intro _)
    | (simp [less_ite]; done)
    | (with_reducible refine (less_forL (fun l x => ?_)).trans ?_)
    | (with_reducible refine (less_each (fun l x => ?_)).trans ?_)
    | (with_reducible refine (less_foldl (fun l x => ?_)).trans ?_)
    | split
    | simp [less_ite]
    | rfl)

@[simp] theorem gaugeBond_keep (l : Live) (m : Nat) (h : 210821376 ||| m = m) : less m (Live.gaugeBond l) = less m l := less_le h (by
  unfold Live.gaugeBond
  repeat' first
    | (with_reducible rfl)
    | (intro _)
    | (simp [less_ite]; done)
    | (with_reducible refine (less_forL (fun l x => ?_)).trans ?_)
    | (with_reducible refine (less_each (fun l x => ?_)).trans ?_)
    | (with_reducible refine (less_foldl (fun l x => ?_)).trans ?_)
    | split
    | simp [less_ite]
    | rfl)

@[simp] theorem strLoad_keep (l : Live) (k : Nat) (m : Nat) (h : 40960 ||| m = m) : less m (Live.strLoad l k) = less m l := less_le h (by
  unfold Live.strLoad
  repeat' first
    | (with_reducible rfl)
    | (intro _)
    | (simp [less_ite]; done)
    | (with_reducible refine (less_forL (fun l x => ?_)).trans ?_)
    | (with_reducible refine (less_each (fun l x => ?_)).trans ?_)
    | (with_reducible refine (less_foldl (fun l x => ?_)).trans ?_)
    | split
    | simp [less_ite]
    | rfl)

@[simp] theorem strCreate_keep (l : Live) (k : Nat) (start : Bool) (m : Nat) (h : 40960 ||| m = m) : less m (Live.strCreate l k start) = less m l := less_le h (by
  unfold Live.strCreate
  repeat' first
    | (with_reducible rfl)
    | (intro _)
    | (simp [less_ite]; done)
    | (with_reducible refine (less_forL (fun l x => ?_)).trans ?_)
    | (with_reducible refine (less_each (fun l x => ?_)).trans ?_)
    | (with_reducible refine (less_foldl (fun l x => ?_)).trans ?_)
    | split
    | simp [less_ite]
    | rfl)

@[simp] theorem strChanged_keep (l : Live) (old : Live) (k : Nat) (m : Nat) (h : 8396800 ||| m = m) : less m (Live.strChanged l old k) = less m l := less_le h (by
  unfold Live.strChanged
  repeat' first
    | (with_reducible rfl)
    | (intro _)
    | (simp [less_ite]; done)
    | (with_reducible refine (less_forL (fun l x => ?_)).trans ?_)
    | (with_reducible refine (less_each (fun l x => ?_)).trans ?_)
    | (with_reducible refine (less_foldl (fun l x => ?_)).trans ?_)
    | split
    | simp [less_ite]
    | rfl)

@[simp] theorem strRemoved_keep (l : Live) (old : Live) (k : Nat) (m : Nat) (h : 8429824 ||| m = m) : less m (Live.strRemoved l old k) = less m l := less_le h (by
  unfold Live.strRemoved
  repeat' first
    | (with_reducible rfl)
    | (intro _)
    | (simp [less_ite]; done)
    | (with_reducible refine (less_forL (fun l x => ?_)).trans ?_)
    | (with_reducible refine (less_each (fun l x => ?_)).trans ?_)
    | (with_reducible refine (less_foldl (fun l x => ?_)).trans ?_)
    | split
    | simp [less_ite]
    | rfl)

end Sys2Proof.Machine.Live
end

