-- ==== Sys2Proof/Laws/KeepPowerPath.lean ====
section
/-! SUPPORT. What each operation of `Machine/PowerPath.lean` leaves alone: it changes no part of the state but those whose bits stand
in the number that its lemma names (the parts are numbered in `Laws/Parts.lean`). -/
namespace Sys2Proof.Machine.Live

set_option linter.unusedTactic false
set_option linter.unreachableTactic false
set_option linter.unusedSimpArgs false

@[simp] theorem inpBond_keep (l : Live) (j : Nat) (s : Stn) (k : Slot) (late : Bool) (m : Nat) (h : 4096 ||| m = m) : less m (Live.inpBond l j s k late) = less m l := less_le h (by
  unfold Live.inpBond
  repeat' first
    | (with_reducible rfl)
    | (intro _)
    | (simp [less_ite]; done)
    | (with_reducible refine (less_forL (fun l x => ?_)).trans ?_)
    | (with_reducible refine (less_each (fun l x => ?_)).trans ?_)
    | (with_reducible refine (less_foldl (fun l x => ?_)).trans ?_)
    | split
    | simp [less_ite]
    | rfl)

@[simp] theorem stageSample_keep (l : Live) (j at_ : Nat) (q : Stn) (m : Nat) (h : 4096 ||| m = m) : less m (Live.stageSample l j at_ q) = less m l := less_le h (by
  unfold Live.stageSample
  repeat' first
    | (with_reducible rfl)
    | (intro _)
    | (simp [less_ite]; done)
    | (with_reducible refine (less_forL (fun l x => ?_)).trans ?_)
    | (with_reducible refine (less_each (fun l x => ?_)).trans ?_)
    | (with_reducible refine (less_foldl (fun l x => ?_)).trans ?_)
    | split
    | simp [less_ite]
    | rfl)

@[simp] theorem pairLost_keep (l : Live) (j : Nat) (m : Nat) (h : 68194304 ||| m = m) : less m (Live.pairLost l j) = less m l := less_le h (by
  unfold Live.pairLost
  repeat' first
    | (with_reducible rfl)
    | (intro _)
    | (simp [less_ite]; done)
    | (with_reducible refine (less_forL (fun l x => ?_)).trans ?_)
    | (with_reducible refine (less_each (fun l x => ?_)).trans ?_)
    | (with_reducible refine (less_foldl (fun l x => ?_)).trans ?_)
    | split
    | simp [less_ite]
    | rfl)

@[simp] theorem guardWork_keep (l : Live) (j : Nat) (m : Nat) (h : 68161536 ||| m = m) : less m (Live.guardWork l j) = less m l := less_le h (by
  unfold Live.guardWork
  repeat' first
    | (with_reducible rfl)
    | (intro _)
    | (simp [less_ite]; done)
    | (with_reducible refine (less_forL (fun l x => ?_)).trans ?_)
    | (with_reducible refine (less_each (fun l x => ?_)).trans ?_)
    | (with_reducible refine (less_foldl (fun l x => ?_)).trans ?_)
    | split
    | simp [less_ite]
    | rfl)

@[simp] theorem inputCourse_keep (l : Live) (j : Nat) (m : Nat) (h : 37120 ||| m = m) : less m (Live.inputCourse l j) = less m l := less_le h (by
  unfold Live.inputCourse
  repeat' first
    | (with_reducible rfl)
    | (intro _)
    | (simp [less_ite]; done)
    | (with_reducible refine (less_forL (fun l x => ?_)).trans ?_)
    | (with_reducible refine (less_each (fun l x => ?_)).trans ?_)
    | (with_reducible refine (less_foldl (fun l x => ?_)).trans ?_)
    | split
    | simp [less_ite]
    | rfl)

@[simp] theorem inpSend_keep (l : Live) (j : Nat) (m : Nat) (h : 4096 ||| m = m) : less m (Live.inpSend l j) = less m l := less_le h (by
  unfold Live.inpSend
  repeat' first
    | (with_reducible rfl)
    | (intro _)
    | (simp [less_ite]; done)
    | (with_reducible refine (less_forL (fun l x => ?_)).trans ?_)
    | (with_reducible refine (less_each (fun l x => ?_)).trans ?_)
    | (with_reducible refine (less_foldl (fun l x => ?_)).trans ?_)
    | split
    | simp [less_ite]
    | rfl)

@[simp] theorem setRef_keep (l : Live) (j : Nat) (a : Rat) (m : Nat) (h : 4352 ||| m = m) : less m (Live.setRef l j a) = less m l := less_le h (by
  unfold Live.setRef
  repeat' first
    | (with_reducible rfl)
    | (intro _)
    | (simp [less_ite]; done)
    | (with_reducible refine (less_forL (fun l x => ?_)).trans ?_)
    | (with_reducible refine (less_each (fun l x => ?_)).trans ?_)
    | (with_reducible refine (less_foldl (fun l x => ?_)).trans ?_)
    | split
    | simp [less_ite]
    | rfl)

@[simp] theorem refWork_keep (l : Live) (j : Nat) (m : Nat) (h : 68194560 ||| m = m) : less m (Live.refWork l j) = less m l := less_le h (by
  unfold Live.refWork
  repeat' first
    | (with_reducible rfl)
    | (intro _)
    | (simp [less_ite]; done)
    | (with_reducible refine (less_forL (fun l x => ?_)).trans ?_)
    | (with_reducible refine (less_each (fun l x => ?_)).trans ?_)
    | (with_reducible refine (less_foldl (fun l x => ?_)).trans ?_)
    | split
    | simp [less_ite]
    | rfl)

@[simp] theorem share__keep (l : Live) (m : Nat) (h : 4096 ||| m = m) : less m (Live.share_ l) = less m l := less_le h (by
  unfold Live.share_
  repeat' first
    | (with_reducible rfl)
    | (intro _)
    | (simp [less_ite]; done)
    | (with_reducible refine (less_forL (fun l x => ?_)).trans ?_)
    | (with_reducible refine (less_each (fun l x => ?_)).trans ?_)
    | (with_reducible refine (less_foldl (fun l x => ?_)).trans ?_)
    | split
    | simp [less_ite]
    | rfl)

@[simp] theorem windowEnd_keep (l : Live) (j : Nat) (m : Nat) (h : 68194304 ||| m = m) : less m (Live.windowEnd l j) = less m l := less_le h (by
  unfold Live.windowEnd
  repeat' first
    | (with_reducible rfl)
    | (intro _)
    | (simp [less_ite]; done)
    | (with_reducible refine (less_forL (fun l x => ?_)).trans ?_)
    | (with_reducible refine (less_each (fun l x => ?_)).trans ?_)
    | (with_reducible refine (less_foldl (fun l x => ?_)).trans ?_)
    | split
    | simp [less_ite]
    | rfl)

@[simp] theorem inpMeans_keep (l : Live) (j : Nat) (m : Nat) (h : 68194304 ||| m = m) : less m (Live.inpMeans l j) = less m l := less_le h (by
  unfold Live.inpMeans
  repeat' first
    | (with_reducible rfl)
    | (intro _)
    | (simp [less_ite]; done)
    | (with_reducible refine (less_forL (fun l x => ?_)).trans ?_)
    | (with_reducible refine (less_each (fun l x => ?_)).trans ?_)
    | (with_reducible refine (less_foldl (fun l x => ?_)).trans ?_)
    | split
    | simp [less_ite]
    | rfl)

@[simp] theorem inpEvents_keep (l : Live) (j : Nat) (m : Nat) (h : 68194304 ||| m = m) : less m (Live.inpEvents l j) = less m l := less_le h (by
  unfold Live.inpEvents
  repeat' first
    | (with_reducible rfl)
    | (intro _)
    | (simp [less_ite]; done)
    | (with_reducible refine (less_forL (fun l x => ?_)).trans ?_)
    | (with_reducible refine (less_each (fun l x => ?_)).trans ?_)
    | (with_reducible refine (less_foldl (fun l x => ?_)).trans ?_)
    | split
    | simp [less_ite]
    | rfl)

@[simp] theorem dither_keep (l : Live) (j : Nat) (m : Nat) (h : 4096 ||| m = m) : less m (Live.dither l j) = less m l := less_le h (by
  unfold Live.dither
  repeat' first
    | (with_reducible rfl)
    | (intro _)
    | (simp [less_ite]; done)
    | (with_reducible refine (less_forL (fun l x => ?_)).trans ?_)
    | (with_reducible refine (less_each (fun l x => ?_)).trans ?_)
    | (with_reducible refine (less_foldl (fun l x => ?_)).trans ?_)
    | split
    | simp [less_ite]
    | rfl)

@[simp] theorem grantWork_keep (l : Live) (m : Nat) (h : 68194560 ||| m = m) : less m (Live.grantWork l) = less m l := less_le h (by
  unfold Live.grantWork
  repeat' first
    | (with_reducible rfl)
    | (intro _)
    | (simp [less_ite]; done)
    | (with_reducible refine (less_forL (fun l x => ?_)).trans ?_)
    | (with_reducible refine (less_each (fun l x => ?_)).trans ?_)
    | (with_reducible refine (less_foldl (fun l x => ?_)).trans ?_)
    | split
    | simp [less_ite]
    | rfl)

@[simp] theorem setLevel_keep (l : Live) (r n : Nat) (m : Nat) (h : 4096 ||| m = m) : less m (Live.setLevel l r n) = less m l := less_le h (by
  unfold Live.setLevel
  repeat' first
    | (with_reducible rfl)
    | (intro _)
    | (simp [less_ite]; done)
    | (with_reducible refine (less_forL (fun l x => ?_)).trans ?_)
    | (with_reducible refine (less_each (fun l x => ?_)).trans ?_)
    | (with_reducible refine (less_foldl (fun l x => ?_)).trans ?_)
    | split
    | simp [less_ite]
    | rfl)

@[simp] theorem capStep_keep (l : Live) (m : Nat) (h : 68161536 ||| m = m) : less m (Live.capStep l) = less m l := less_le h (by
  unfold Live.capStep
  repeat' first
    | (with_reducible rfl)
    | (intro _)
    | (simp [less_ite]; done)
    | (with_reducible refine (less_forL (fun l x => ?_)).trans ?_)
    | (with_reducible refine (less_each (fun l x => ?_)).trans ?_)
    | (with_reducible refine (less_foldl (fun l x => ?_)).trans ?_)
    | split
    | simp [less_ite]
    | rfl)

@[simp] theorem shedRail_keep (l : Live) (r : Nat) (m : Nat) (h : 68162048 ||| m = m) : less m (Live.shedRail l r) = less m l := less_le h (by
  unfold Live.shedRail
  repeat' first
    | (with_reducible rfl)
    | (intro _)
    | (simp [less_ite]; done)
    | (with_reducible refine (less_forL (fun l x => ?_)).trans ?_)
    | (with_reducible refine (less_each (fun l x => ?_)).trans ?_)
    | (with_reducible refine (less_foldl (fun l x => ?_)).trans ?_)
    | split
    | simp [less_ite]
    | rfl)

@[simp] theorem shedStep_keep (l : Live) (m : Nat) (h : 68194816 ||| m = m) : less m (Live.shedStep l) = less m l := less_le h (by
  unfold Live.shedStep
  repeat' first
    | (with_reducible rfl)
    | (intro _)
    | (simp [less_ite]; done)
    | (with_reducible refine (less_forL (fun l x => ?_)).trans ?_)
    | (with_reducible refine (less_each (fun l x => ?_)).trans ?_)
    | (with_reducible refine (less_foldl (fun l x => ?_)).trans ?_)
    | split
    | simp [less_ite]
    | rfl)

@[simp] theorem undo_keep (l : Live) (m : Nat) (h : 4608 ||| m = m) : less m (Live.undo l) = less m l := less_le h (by
  unfold Live.undo
  repeat' first
    | (with_reducible rfl)
    | (intro _)
    | (simp [less_ite]; done)
    | (with_reducible refine (less_forL (fun l x => ?_)).trans ?_)
    | (with_reducible refine (less_each (fun l x => ?_)).trans ?_)
    | (with_reducible refine (less_foldl (fun l x => ?_)).trans ?_)
    | split
    | simp [less_ite]
    | rfl)

@[simp] theorem keepWork_keep (l : Live) (m : Nat) (h : 68194816 ||| m = m) : less m (Live.keepWork l) = less m l := less_le h (by
  unfold Live.keepWork
  repeat' first
    | (with_reducible rfl)
    | (intro _)
    | (simp [less_ite]; done)
    | (with_reducible refine (less_forL (fun l x => ?_)).trans ?_)
    | (with_reducible refine (less_each (fun l x => ?_)).trans ?_)
    | (with_reducible refine (less_foldl (fun l x => ?_)).trans ?_)
    | split
    | simp [less_ite]
    | rfl)

@[simp] theorem ignoredWork_keep (l : Live) (m : Nat) (h : 68194816 ||| m = m) : less m (Live.ignoredWork l) = less m l := less_le h (by
  unfold Live.ignoredWork
  repeat' first
    | (with_reducible rfl)
    | (intro _)
    | (simp [less_ite]; done)
    | (with_reducible refine (less_forL (fun l x => ?_)).trans ?_)
    | (with_reducible refine (less_each (fun l x => ?_)).trans ?_)
    | (with_reducible refine (less_foldl (fun l x => ?_)).trans ?_)
    | split
    | simp [less_ite]
    | rfl)

@[simp] theorem supplyTo_keep (l : Live) (st : SupplySt) (m : Nat) (h : 36864 ||| m = m) : less m (Live.supplyTo l st) = less m l := less_le h (by
  unfold Live.supplyTo
  repeat' first
    | (with_reducible rfl)
    | (intro _)
    | (simp [less_ite]; done)
    | (with_reducible refine (less_forL (fun l x => ?_)).trans ?_)
    | (with_reducible refine (less_each (fun l x => ?_)).trans ?_)
    | (with_reducible refine (less_foldl (fun l x => ?_)).trans ?_)
    | split
    | simp [less_ite]
    | rfl)

@[simp] theorem gateSet_keep (l : Live) (m : Nat) (h : 16 ||| m = m) : less m (Live.gateSet l) = less m l := less_le h (by
  unfold Live.gateSet
  repeat' first
    | (with_reducible rfl)
    | (intro _)
    | (simp [less_ite]; done)
    | (with_reducible refine (less_forL (fun l x => ?_)).trans ?_)
    | (with_reducible refine (less_each (fun l x => ?_)).trans ?_)
    | (with_reducible refine (less_foldl (fun l x => ?_)).trans ?_)
    | split
    | simp [less_ite]
    | rfl)

@[simp] theorem gateClear_keep (l : Live) (m : Nat) (h : 16 ||| m = m) : less m (Live.gateClear l) = less m l := less_le h (by
  unfold Live.gateClear
  repeat' first
    | (with_reducible rfl)
    | (intro _)
    | (simp [less_ite]; done)
    | (with_reducible refine (less_forL (fun l x => ?_)).trans ?_)
    | (with_reducible refine (less_each (fun l x => ?_)).trans ?_)
    | (with_reducible refine (less_foldl (fun l x => ?_)).trans ?_)
    | split
    | simp [less_ite]
    | rfl)

@[simp] theorem holdupShed_keep (l : Live) (allow p : Rat) (xs : List Nat) (m : Nat) (h : 68194816 ||| m = m) :
    less m (l.holdupShed allow p xs) = less m l := less_le h (by
  induction xs generalizing l p with
  | nil => rfl
  | cons x xs ih =>
    simp only [Live.holdupShed]
    repeat' first
      | (with_reducible rfl)
      | (refine (ih _ _).trans ?_)
      | split
      | simp [less_ite])

@[simp] theorem holdupBatch_keep (l : Live) (m : Nat) (h : 68194816 ||| m = m) : less m (Live.holdupBatch l) = less m l := less_le h (by
  unfold Live.holdupBatch
  repeat' first
    | (with_reducible rfl)
    | (intro _)
    | (simp [less_ite]; done)
    | (with_reducible refine (less_forL (fun l x => ?_)).trans ?_)
    | (with_reducible refine (less_each (fun l x => ?_)).trans ?_)
    | (with_reducible refine (less_foldl (fun l x => ?_)).trans ?_)
    | split
    | simp [less_ite]
    | rfl)

@[simp] theorem enterHoldup_keep (l : Live) (m : Nat) (h : 70709776 ||| m = m) : less m (Live.enterHoldup l) = less m l := less_le h (by
  unfold Live.enterHoldup
  repeat' first
    | (with_reducible rfl)
    | (intro _)
    | (simp [less_ite]; done)
    | (with_reducible refine (less_forL (fun l x => ?_)).trans ?_)
    | (with_reducible refine (less_each (fun l x => ?_)).trans ?_)
    | (with_reducible refine (less_foldl (fun l x => ?_)).trans ?_)
    | split
    | simp [less_ite]
    | rfl)

@[simp] theorem finalShed_keep (l : Live) (m : Nat) (h : 68194816 ||| m = m) : less m (Live.finalShed l) = less m l := less_le h (by
  unfold Live.finalShed
  repeat' first
    | (with_reducible rfl)
    | (intro _)
    | (simp [less_ite]; done)
    | (with_reducible refine (less_forL (fun l x => ?_)).trans ?_)
    | (with_reducible refine (less_each (fun l x => ?_)).trans ?_)
    | (with_reducible refine (less_foldl (fun l x => ?_)).trans ?_)
    | split
    | simp [less_ite]
    | rfl)

@[simp] theorem ppConversion_keep (l : Live) (ch : Nat) (code : Half) (m : Nat) (h : 68194816 ||| m = m) : less m (Live.ppConversion l ch code) = less m l := less_le h (by
  unfold Live.ppConversion
  repeat' first
    | (with_reducible rfl)
    | (intro _)
    | (simp [less_ite]; done)
    | (with_reducible refine (less_forL (fun l x => ?_)).trans ?_)
    | (with_reducible refine (less_each (fun l x => ?_)).trans ?_)
    | (with_reducible refine (less_foldl (fun l x => ?_)).trans ?_)
    | split
    | simp [less_ite]
    | rfl)

@[simp] theorem holdupExit_keep (l : Live) (m : Nat) (h : 68194320 ||| m = m) : less m (Live.holdupExit l) = less m l := less_le h (by
  unfold Live.holdupExit
  repeat' first
    | (with_reducible rfl)
    | (intro _)
    | (simp [less_ite]; done)
    | (with_reducible refine (less_forL (fun l x => ?_)).trans ?_)
    | (with_reducible refine (less_each (fun l x => ?_)).trans ?_)
    | (with_reducible refine (less_foldl (fun l x => ?_)).trans ?_)
    | split
    | simp [less_ite]
    | rfl)

@[simp] theorem supplyRow_keep (l : Live) (unmet sat : Bool) (n : Nat) (m : Nat) (h : 68194816 ||| m = m) : less m ((l.supplyRow unmet sat n).getD l) = less m l := less_le h (by
  have e (c : Bool) (x : Live) (hx : less 68194816 x = less 68194816 l) : less 68194816 ((if c then some x else none).getD l) = less 68194816 l := by
    cases c
    · rfl
    · exact hx
  unfold Live.supplyRow
  dsimp only
  split
  all_goals first
    | rfl
    | (refine e _ _ ?_; first | done | simp [less_ite]))

@[simp] theorem supplyTake_keep (unmet sat : Bool) (f : Nat) (ks : List Nat) (l : Live) (m : Nat) (h : 68194816 ||| m = m) :
    less m (Live.supplyTake unmet sat f ks l) = less m l := less_le h (by
  induction f generalizing ks l with
  | zero => rfl
  | succ f ih =>
    simp only [Live.supplyTake]
    split
    · exact (ih _ _).trans (supplyRow_keep _ unmet sat _ _ (by decide))
    · rfl)

@[simp] theorem supplyRows_keep (l : Live) (unmet sat : Bool) (m : Nat) (h : 68194816 ||| m = m) : less m (Live.supplyRows l unmet sat) = less m l := less_le h (by
  unfold Live.supplyRows
  repeat' first
    | (with_reducible rfl)
    | (intro _)
    | (simp [less_ite]; done)
    | (with_reducible refine (less_forL (fun l x => ?_)).trans ?_)
    | (with_reducible refine (less_each (fun l x => ?_)).trans ?_)
    | (with_reducible refine (less_foldl (fun l x => ?_)).trans ?_)
    | split
    | simp [less_ite]
    | rfl)

@[simp] theorem supplyBond_keep (l : Live) (m : Nat) (h : 70709776 ||| m = m) : less m (Live.supplyBond l) = less m l := less_le h (by
  unfold Live.supplyBond
  repeat' first
    | (with_reducible rfl)
    | (intro _)
    | (simp [less_ite]; done)
    | (with_reducible refine (less_forL (fun l x => ?_)).trans ?_)
    | (with_reducible refine (less_each (fun l x => ?_)).trans ?_)
    | (with_reducible refine (less_foldl (fun l x => ?_)).trans ?_)
    | split
    | simp [less_ite]
    | rfl)

@[simp] theorem assistCount_keep (l : Live) (m : Nat) (h : 68157440 ||| m = m) : less m (Live.assistCount l) = less m l := less_le h (by
  unfold Live.assistCount
  repeat' first
    | (with_reducible rfl)
    | (intro _)
    | (simp [less_ite]; done)
    | (with_reducible refine (less_forL (fun l x => ?_)).trans ?_)
    | (with_reducible refine (less_each (fun l x => ?_)).trans ?_)
    | (with_reducible refine (less_foldl (fun l x => ?_)).trans ?_)
    | split
    | simp [less_ite]
    | rfl)

@[simp] theorem stackPrune_keep (l : Live) (m : Nat) (h : 4096 ||| m = m) : less m (Live.stackPrune l) = less m l := less_le h (by
  unfold Live.stackPrune
  repeat' first
    | (with_reducible rfl)
    | (intro _)
    | (simp [less_ite]; done)
    | (with_reducible refine (less_forL (fun l x => ?_)).trans ?_)
    | (with_reducible refine (less_each (fun l x => ?_)).trans ?_)
    | (with_reducible refine (less_foldl (fun l x => ?_)).trans ?_)
    | split
    | simp [less_ite]
    | rfl)

@[simp] theorem ppBond_keep (l : Live) (m : Nat) (h : 70710032 ||| m = m) : less m (Live.ppBond l) = less m l := less_le h (by
  unfold Live.ppBond
  repeat' first
    | (with_reducible rfl)
    | (intro _)
    | (simp [less_ite]; done)
    | (with_reducible refine (less_forL (fun l x => ?_)).trans ?_)
    | (with_reducible refine (less_each (fun l x => ?_)).trans ?_)
    | (with_reducible refine (less_foldl (fun l x => ?_)).trans ?_)
    | split
    | simp [less_ite]
    | rfl)

@[simp] theorem inpCreate_keep (l : Live) (j : Nat) (m : Nat) (h : 4096 ||| m = m) : less m (Live.inpCreate l j) = less m l := less_le h (by
  unfold Live.inpCreate
  repeat' first
    | (with_reducible rfl)
    | (intro _)
    | (simp [less_ite]; done)
    | (with_reducible refine (less_forL (fun l x => ?_)).trans ?_)
    | (with_reducible refine (less_each (fun l x => ?_)).trans ?_)
    | (with_reducible refine (less_foldl (fun l x => ?_)).trans ?_)
    | split
    | simp [less_ite]
    | rfl)

@[simp] theorem inpRebind_keep (l : Live) (j : Nat) (m : Nat) (h : 4096 ||| m = m) : less m (Live.inpRebind l j) = less m l := less_le h (by
  unfold Live.inpRebind
  repeat' first
    | (with_reducible rfl)
    | (intro _)
    | (simp [less_ite]; done)
    | (with_reducible refine (less_forL (fun l x => ?_)).trans ?_)
    | (with_reducible refine (less_each (fun l x => ?_)).trans ?_)
    | (with_reducible refine (less_foldl (fun l x => ?_)).trans ?_)
    | split
    | simp [less_ite]
    | rfl)

@[simp] theorem inputMoored_keep (l : Live) (j : Nat) (m : Nat) (h : 68161792 ||| m = m) : less m (Live.inputMoored l j) = less m l := less_le h (by
  unfold Live.inputMoored
  repeat' first
    | (with_reducible rfl)
    | (intro _)
    | (simp [less_ite]; done)
    | (with_reducible refine (less_forL (fun l x => ?_)).trans ?_)
    | (with_reducible refine (less_each (fun l x => ?_)).trans ?_)
    | (with_reducible refine (less_foldl (fun l x => ?_)).trans ?_)
    | split
    | simp [less_ite]
    | rfl)

end Sys2Proof.Machine.Live
end

