-- ==== Sys2Proof/Laws/KeepCourse.lean ====
section
/-! SUPPORT. What each operation of `Machine/Course.lean` leaves alone: it changes no part of the state but those whose bits stand
in the number that its lemma names (the parts are numbered in `Laws/Parts.lean`). -/
namespace Sys2Proof.Machine.Live

set_option linter.unusedTactic false
set_option linter.unreachableTactic false
set_option linter.unusedSimpArgs false

@[simp] theorem put64_keep (l : Live) (n at_ : Nat) (b : BitVec 64) (m : Nat) (h : 32 ||| m = m) : less m (Live.put64 l n at_ b) = less m l := less_le h (by
  unfold Live.put64
  repeat' first
    | (with_reducible rfl)
    | (intro _)
    | (simp [less_ite]; done)
    | (with_reducible refine (less_forL (fun l x => ?_)).trans ?_)
    | (with_reducible refine (less_each (fun l x => ?_)).trans ?_)
    | (with_reducible refine (less_foldl (fun l x => ?_)).trans ?_)
    | split
    | simp [less_ite]
    | rfl)

@[simp] theorem put48_keep (l : Live) (n at_ : Nat) (b : BitVec 48) (m : Nat) (h : 32 ||| m = m) : less m (Live.put48 l n at_ b) = less m l := less_le h (by
  unfold Live.put48
  repeat' first
    | (with_reducible rfl)
    | (intro _)
    | (simp [less_ite]; done)
    | (with_reducible refine (less_forL (fun l x => ?_)).trans ?_)
    | (with_reducible refine (less_each (fun l x => ?_)).trans ?_)
    | (with_reducible refine (less_foldl (fun l x => ?_)).trans ?_)
    | split
    | simp [less_ite]
    | rfl)

@[simp] theorem putRun_keep (l : Live) (n at_ : Nat) (bs : List (BitVec 64)) (m : Nat) (h : 32 ||| m = m) : less m (Live.putRun l n at_ bs) = less m l := less_le h (by
  unfold Live.putRun
  repeat' first
    | (with_reducible rfl)
    | (intro _)
    | (simp [less_ite]; done)
    | (with_reducible refine (less_forL (fun l x => ?_)).trans ?_)
    | (with_reducible refine (less_each (fun l x => ?_)).trans ?_)
    | (with_reducible refine (less_foldl (fun l x => ?_)).trans ?_)
    | split
    | simp [less_ite]
    | rfl)

@[simp] theorem putRun48_keep (l : Live) (n at_ : Nat) (bs : List (BitVec 48)) (m : Nat) (h : 32 ||| m = m) : less m (Live.putRun48 l n at_ bs) = less m l := less_le h (by
  unfold Live.putRun48
  repeat' first
    | (with_reducible rfl)
    | (intro _)
    | (simp [less_ite]; done)
    | (with_reducible refine (less_forL (fun l x => ?_)).trans ?_)
    | (with_reducible refine (less_each (fun l x => ?_)).trans ?_)
    | (with_reducible refine (less_foldl (fun l x => ?_)).trans ?_)
    | split
    | simp [less_ite]
    | rfl)

@[simp] theorem dueWork_keep (l : Live) (n : Nat) (m : Nat) (h : 160 ||| m = m) : less m (Live.dueWork l n) = less m l := less_le h (by
  unfold Live.dueWork
  repeat' first
    | (with_reducible rfl)
    | (intro _)
    | (simp [less_ite]; done)
    | (with_reducible refine (less_forL (fun l x => ?_)).trans ?_)
    | (with_reducible refine (less_each (fun l x => ?_)).trans ?_)
    | (with_reducible refine (less_foldl (fun l x => ?_)).trans ?_)
    | split
    | simp [less_ite]
    | rfl)

@[simp] theorem upFinalize_keep (l : Live) (n : Nat) (m : Nat) (h : 68157920 ||| m = m) : less m (Live.upFinalize l n) = less m l := less_le h (by
  unfold Live.upFinalize
  repeat' first
    | (with_reducible rfl)
    | (intro _)
    | (simp [less_ite]; done)
    | (with_reducible refine (less_forL (fun l x => ?_)).trans ?_)
    | (with_reducible refine (less_each (fun l x => ?_)).trans ?_)
    | (with_reducible refine (less_foldl (fun l x => ?_)).trans ?_)
    | split
    | simp [less_ite]
    | rfl)

@[simp] theorem moor__keep (l : Live) (i : Nat) (m : Nat) (h : 68180864 ||| m = m) : less m (Live.moor_ l i) = less m l := less_le h (by
  unfold Live.moor_
  repeat' first
    | (with_reducible rfl)
    | (intro _)
    | (simp [less_ite]; done)
    | (with_reducible refine (less_forL (fun l x => ?_)).trans ?_)
    | (with_reducible refine (less_each (fun l x => ?_)).trans ?_)
    | (with_reducible refine (less_foldl (fun l x => ?_)).trans ?_)
    | split
    | simp [less_ite]
    | rfl)

@[simp] theorem brickUses_keep (l : Live) (n i : Nat) (k : Slot) (m : Nat) (h : 68218880 ||| m = m) : less m (Live.brickUses l n i k) = less m l := less_le h (by
  unfold Live.brickUses
  repeat' first
    | (with_reducible rfl)
    | (intro _)
    | (simp [less_ite]; done)
    | (with_reducible refine (less_forL (fun l x => ?_)).trans ?_)
    | (with_reducible refine (less_each (fun l x => ?_)).trans ?_)
    | (with_reducible refine (less_foldl (fun l x => ?_)).trans ?_)
    | split
    | simp [less_ite]
    | rfl)

@[simp] theorem upValid_keep (l : Live) (n s : Nat) (v : UpVals) (m : Nat) (h : 68221888 ||| m = m) : less m (Live.upValid l n s v) = less m l := less_le h (by
  unfold Live.upValid
  repeat' first
    | (with_reducible rfl)
    | (intro _)
    | (simp [less_ite]; done)
    | (with_reducible refine (less_forL (fun l x => ?_)).trans ?_)
    | (with_reducible refine (less_each (fun l x => ?_)).trans ?_)
    | (with_reducible refine (less_foldl (fun l x => ?_)).trans ?_)
    | split
    | simp [less_ite]
    | rfl)

@[simp] theorem sendDown_keep (l : Live) (n s : Nat) (d : Down) (m : Nat) (h : 96 ||| m = m) : less m (Live.sendDown l n s d) = less m l := less_le h (by
  unfold Live.sendDown
  repeat' first
    | (with_reducible rfl)
    | (intro _)
    | (simp [less_ite]; done)
    | (with_reducible refine (less_forL (fun l x => ?_)).trans ?_)
    | (with_reducible refine (less_each (fun l x => ?_)).trans ?_)
    | (with_reducible refine (less_foldl (fun l x => ?_)).trans ?_)
    | split
    | simp [less_ite]
    | rfl)

@[simp] theorem auxWork_keep (l : Live) (n : Nat) (ids : List Nat) (m : Nat) (h : 16384 ||| m = m) : less m (Live.auxWork l n ids) = less m l := less_le h (by
  unfold Live.auxWork
  repeat' first
    | (with_reducible rfl)
    | (intro _)
    | (simp [less_ite]; done)
    | (with_reducible refine (less_forL (fun l x => ?_)).trans ?_)
    | (with_reducible refine (less_each (fun l x => ?_)).trans ?_)
    | (with_reducible refine (less_foldl (fun l x => ?_)).trans ?_)
    | split
    | simp [less_ite]
    | rfl)

@[simp] theorem brickReport_keep (l : Live) (n : Nat) (release : Bool) (m : Nat) (h : 32768 ||| m = m) : less m (Live.brickReport l n release) = less m l := less_le h (by
  unfold Live.brickReport
  repeat' first
    | (with_reducible rfl)
    | (intro _)
    | (simp [less_ite]; done)
    | (with_reducible refine (less_forL (fun l x => ?_)).trans ?_)
    | (with_reducible refine (less_each (fun l x => ?_)).trans ?_)
    | (with_reducible refine (less_foldl (fun l x => ?_)).trans ?_)
    | split
    | simp [less_ite]
    | rfl)

@[simp] theorem rcClear_keep (l : Live) (t : Nat) (m : Nat) (h : 256 ||| m = m) : less m (Live.rcClear l t) = less m l := less_le h (by
  unfold Live.rcClear
  repeat' first
    | (with_reducible rfl)
    | (intro _)
    | (simp [less_ite]; done)
    | (with_reducible refine (less_forL (fun l x => ?_)).trans ?_)
    | (with_reducible refine (less_each (fun l x => ?_)).trans ?_)
    | (with_reducible refine (less_foldl (fun l x => ?_)).trans ?_)
    | split
    | simp [less_ite]
    | rfl)

@[simp] theorem rcCourse_keep (l : Live) (t n idx : Nat) (m : Nat) (h : 256 ||| m = m) : less m (Live.rcCourse l t n idx) = less m l := less_le h (by
  unfold Live.rcCourse
  repeat' first
    | (with_reducible rfl)
    | (intro _)
    | (simp [less_ite]; done)
    | (with_reducible refine (less_forL (fun l x => ?_)).trans ?_)
    | (with_reducible refine (less_each (fun l x => ?_)).trans ?_)
    | (with_reducible refine (less_foldl (fun l x => ?_)).trans ?_)
    | split
    | simp [less_ite]
    | rfl)

@[simp] theorem capCourse_keep (l : Live) (n : Nat) (m : Nat) (h : 1048576 ||| m = m) : less m (Live.capCourse l n) = less m l := less_le h (by
  unfold Live.capCourse
  repeat' first
    | (with_reducible rfl)
    | (intro _)
    | (simp [less_ite]; done)
    | (with_reducible refine (less_forL (fun l x => ?_)).trans ?_)
    | (with_reducible refine (less_each (fun l x => ?_)).trans ?_)
    | (with_reducible refine (less_foldl (fun l x => ?_)).trans ?_)
    | split
    | simp [less_ite]
    | rfl)

@[simp] theorem tailWork_keep (l : Live) (n at_ room : Nat) (m : Nat) (h : 160 ||| m = m) : less m (Live.tailWork l n at_ room) = less m l := less_le h (by
  unfold Live.tailWork
  repeat' first
    | (with_reducible rfl)
    | (intro _)
    | (simp [less_ite]; done)
    | (with_reducible refine (less_forL (fun l x => ?_)).trans ?_)
    | (with_reducible refine (less_each (fun l x => ?_)).trans ?_)
    | (with_reducible refine (less_foldl (fun l x => ?_)).trans ?_)
    | split
    | simp [less_ite]
    | rfl)

@[simp] theorem sendHeader_keep (l : Live) (n idx : Nat) (m : Nat) (h : 65568 ||| m = m) : less m (Live.sendHeader l n idx) = less m l := less_le h (by
  unfold Live.sendHeader
  repeat' first
    | (with_reducible rfl)
    | (intro _)
    | (simp [less_ite]; done)
    | (with_reducible refine (less_forL (fun l x => ?_)).trans ?_)
    | (with_reducible refine (less_each (fun l x => ?_)).trans ?_)
    | (with_reducible refine (less_foldl (fun l x => ?_)).trans ?_)
    | split
    | simp [less_ite]
    | rfl)

@[simp] theorem fillCourse_keep (l : Live) (n idx : Nat) (m : Nat) (h : 160 ||| m = m) : less m (Live.fillCourse l n idx) = less m l := less_le h (by
  unfold Live.fillCourse
  repeat' first
    | (with_reducible rfl)
    | (intro _)
    | (simp [less_ite]; done)
    | (with_reducible refine (less_forL (fun l x => ?_)).trans ?_)
    | (with_reducible refine (less_each (fun l x => ?_)).trans ?_)
    | (with_reducible refine (less_foldl (fun l x => ?_)).trans ?_)
    | split
    | simp [less_ite]
    | rfl)

@[simp] theorem courseStart_keep (l : Live) (n : Nat) (m : Nat) (h : 68288480 ||| m = m) : less m (l.courseStart n) = less m l := less_le h (by
  unfold Live.courseStart
  extract_lets x1 x2 x3 x4 x5 x6 x7 x8 x9 x10 x11 x12 x13 x14 x15 x16 x17 x18 x19 x20 x21
  have e3 : less 68288480 x3 = less 68288480 l := by
    simp only [x3]
    skip
    repeat' first
      | (with_reducible rfl)
      | (intro _)
      | (simp [less_ite]; done)
      | (with_reducible refine (less_forL (fun l x => ?_)).trans ?_)
      | (with_reducible refine (less_each (fun l x => ?_)).trans ?_)
      | (with_reducible refine (less_foldl (fun l x => ?_)).trans ?_)
      | split
      | simp [less_ite]
      | rfl
  have e4 : less 68288480 x4 = less 68288480 x3 := by
    simp only [x4]
    clear_value x3 
    repeat' first
      | (with_reducible rfl)
      | (intro _)
      | (simp [less_ite]; done)
      | (with_reducible refine (less_forL (fun l x => ?_)).trans ?_)
      | (with_reducible refine (less_each (fun l x => ?_)).trans ?_)
      | (with_reducible refine (less_foldl (fun l x => ?_)).trans ?_)
      | split
      | simp [less_ite]
      | rfl
  have e6 : less 68288480 x6 = less 68288480 x4 := by
    simp only [x6]
    clear_value x3 x4 
    repeat' first
      | (with_reducible rfl)
      | (intro _)
      | (simp [less_ite]; done)
      | (with_reducible refine (less_forL (fun l x => ?_)).trans ?_)
      | (with_reducible refine (less_each (fun l x => ?_)).trans ?_)
      | (with_reducible refine (less_foldl (fun l x => ?_)).trans ?_)
      | split
      | simp [less_ite]
      | rfl
  have e7 : less 68288480 x7 = less 68288480 x6 := by
    simp only [x7]
    clear_value x3 x4 x6 
    repeat' first
      | (with_reducible rfl)
      | (intro _)
      | (simp [less_ite]; done)
      | (with_reducible refine (less_forL (fun l x => ?_)).trans ?_)
      | (with_reducible refine (less_each (fun l x => ?_)).trans ?_)
      | (with_reducible refine (less_foldl (fun l x => ?_)).trans ?_)
      | split
      | simp [less_ite]
      | rfl
  have e8 : less 68288480 x8 = less 68288480 x7 := by
    simp only [x8]
    clear_value x3 x4 x6 x7 
    repeat' first
      | (with_reducible rfl)
      | (intro _)
      | (simp [less_ite]; done)
      | (with_reducible refine (less_forL (fun l x => ?_)).trans ?_)
      | (with_reducible refine (less_each (fun l x => ?_)).trans ?_)
      | (with_reducible refine (less_foldl (fun l x => ?_)).trans ?_)
      | split
      | simp [less_ite]
      | rfl
  have e10 : less 68288480 x10 = less 68288480 x8 := by
    simp only [x10]
    clear_value x3 x4 x6 x7 x8 
    repeat' first
      | (with_reducible rfl)
      | (intro _)
      | (simp [less_ite]; done)
      | (with_reducible refine (less_forL (fun l x => ?_)).trans ?_)
      | (with_reducible refine (less_each (fun l x => ?_)).trans ?_)
      | (with_reducible refine (less_foldl (fun l x => ?_)).trans ?_)
      | split
      | simp [less_ite]
      | rfl
  have e11 : less 68288480 x11 = less 68288480 x10 := by
    simp only [x11]
    clear_value x3 x4 x6 x7 x8 x10 
    repeat' first
      | (with_reducible rfl)
      | (intro _)
      | (simp [less_ite]; done)
      | (with_reducible refine (less_forL (fun l x => ?_)).trans ?_)
      | (with_reducible refine (less_each (fun l x => ?_)).trans ?_)
      | (with_reducible refine (less_foldl (fun l x => ?_)).trans ?_)
      | split
      | simp [less_ite]
      | rfl
  have e12 : less 68288480 x12 = less 68288480 x11 := by
    simp only [x12]
    clear_value x3 x4 x6 x7 x8 x10 x11 
    repeat' first
      | (with_reducible rfl)
      | (intro _)
      | (simp [less_ite]; done)
      | (with_reducible refine (less_forL (fun l x => ?_)).trans ?_)
      | (with_reducible refine (less_each (fun l x => ?_)).trans ?_)
      | (with_reducible refine (less_foldl (fun l x => ?_)).trans ?_)
      | split
      | simp [less_ite]
      | rfl
  have e13 : less 68288480 x13 = less 68288480 x12 := by
    simp only [x13]
    clear_value x3 x4 x6 x7 x8 x10 x11 x12 
    repeat' first
      | (with_reducible rfl)
      | (intro _)
      | (simp [less_ite]; done)
      | (with_reducible refine (less_forL (fun l x => ?_)).trans ?_)
      | (with_reducible refine (less_each (fun l x => ?_)).trans ?_)
      | (with_reducible refine (less_foldl (fun l x => ?_)).trans ?_)
      | split
      | simp [less_ite]
      | rfl
  have e14 : less 68288480 x14 = less 68288480 x13 := by
    simp only [x14]
    clear_value x3 x4 x6 x7 x8 x10 x11 x12 x13 
    repeat' first
      | (with_reducible rfl)
      | (intro _)
      | (simp [less_ite]; done)
      | (with_reducible refine (less_forL (fun l x => ?_)).trans ?_)
      | (with_reducible refine (less_each (fun l x => ?_)).trans ?_)
      | (with_reducible refine (less_foldl (fun l x => ?_)).trans ?_)
      | split
      | simp [less_ite]
      | rfl
  have e15 : less 68288480 x15 = less 68288480 x14 := by
    simp only [x15]
    clear_value x3 x4 x6 x7 x8 x10 x11 x12 x13 x14 
    repeat' first
      | (with_reducible rfl)
      | (intro _)
      | (simp [less_ite]; done)
      | (with_reducible refine (less_forL (fun l x => ?_)).trans ?_)
      | (with_reducible refine (less_each (fun l x => ?_)).trans ?_)
      | (with_reducible refine (less_foldl (fun l x => ?_)).trans ?_)
      | split
      | simp [less_ite]
      | rfl
  have e16 : less 68288480 x16 = less 68288480 x15 := by
    simp only [x16]
    clear_value x3 x4 x6 x7 x8 x10 x11 x12 x13 x14 x15 
    repeat' first
      | (with_reducible rfl)
      | (intro _)
      | (simp [less_ite]; done)
      | (with_reducible refine (less_forL (fun l x => ?_)).trans ?_)
      | (with_reducible refine (less_each (fun l x => ?_)).trans ?_)
      | (with_reducible refine (less_foldl (fun l x => ?_)).trans ?_)
      | split
      | simp [less_ite]
      | rfl
  have e18 : less 68288480 x18 = less 68288480 x16 := by
    simp only [x18]
    clear_value x3 x4 x6 x7 x8 x10 x11 x12 x13 x14 x15 x16 
    repeat' first
      | (with_reducible rfl)
      | (intro _)
      | (simp [less_ite]; done)
      | (with_reducible refine (less_forL (fun l x => ?_)).trans ?_)
      | (with_reducible refine (less_each (fun l x => ?_)).trans ?_)
      | (with_reducible refine (less_foldl (fun l x => ?_)).trans ?_)
      | split
      | simp [less_ite]
      | rfl
  have e19 : less 68288480 x19 = less 68288480 x18 := by
    simp only [x19]
    clear_value x3 x4 x6 x7 x8 x10 x11 x12 x13 x14 x15 x16 x18 
    repeat' first
      | (with_reducible rfl)
      | (intro _)
      | (simp [less_ite]; done)
      | (with_reducible refine (less_forL (fun l x => ?_)).trans ?_)
      | (with_reducible refine (less_each (fun l x => ?_)).trans ?_)
      | (with_reducible refine (less_foldl (fun l x => ?_)).trans ?_)
      | split
      | simp [less_ite]
      | rfl
  have e20 : less 68288480 x20 = less 68288480 x19 := by
    simp only [x20]
    clear_value x3 x4 x6 x7 x8 x10 x11 x12 x13 x14 x15 x16 x18 x19 
    repeat' first
      | (with_reducible rfl)
      | (intro _)
      | (simp [less_ite]; done)
      | (with_reducible refine (less_forL (fun l x => ?_)).trans ?_)
      | (with_reducible refine (less_each (fun l x => ?_)).trans ?_)
      | (with_reducible refine (less_foldl (fun l x => ?_)).trans ?_)
      | split
      | simp [less_ite]
      | rfl
  have e21 : less 68288480 x21 = less 68288480 x20 := by
    simp only [x21]
    clear_value x3 x4 x6 x7 x8 x10 x11 x12 x13 x14 x15 x16 x18 x19 x20 
    repeat' first
      | (with_reducible rfl)
      | (intro _)
      | (simp [less_ite]; done)
      | (with_reducible refine (less_forL (fun l x => ?_)).trans ?_)
      | (with_reducible refine (less_each (fun l x => ?_)).trans ?_)
      | (with_reducible refine (less_foldl (fun l x => ?_)).trans ?_)
      | split
      | simp [less_ite]
      | rfl
  clear_value x3 x4 x6 x7 x8 x10 x11 x12 x13 x14 x15 x16 x18 x19 x20 x21
  have e : less 68288480 x21 = less 68288480 l := (((((((((((((((e21).trans e20).trans e19).trans e18).trans e16).trans e15).trans e14).trans e13).trans e12).trans e11).trans e10).trans e8).trans e7).trans e6).trans e4).trans e3
  refine Eq.trans ?_ e
  repeat' first
    | (with_reducible rfl)
    | (intro _)
    | (simp [less_ite]; done)
    | (with_reducible refine (less_forL (fun l x => ?_)).trans ?_)
    | (with_reducible refine (less_each (fun l x => ?_)).trans ?_)
    | (with_reducible refine (less_foldl (fun l x => ?_)).trans ?_)
    | split
    | simp [less_ite]
    | rfl)

end Sys2Proof.Machine.Live
end

