-- ==== Sys2Proof/Laws/KeepFaults.lean ====
section
/-! SUPPORT. What each operation of `Machine/Faults.lean` leaves alone: it changes no part of the state but those whose bits stand
in the number that its lemma names (the parts are numbered in `Laws/Parts.lean`). -/
namespace Sys2Proof.Machine.Live

set_option linter.unusedTactic false
set_option linter.unreachableTactic false
set_option linter.unusedSimpArgs false

@[simp] theorem removeTile_keep (l : Live) (t : Nat) (m : Nat) (h : 68180928 ||| m = m) : less m (Live.removeTile l t) = less m l := less_le h (by
  unfold Live.removeTile
  repeat' first
    | (with_reducible rfl)
    | (intro _)
    | (simp [less_ite]; done)
    | (with_reducible refine (less_forL (fun l x => ?_)).trans ?_)
    | (with_reducible refine (less_each (fun l x => ?_)).trans ?_)
    | (with_reducible refine (less_foldl (fun l x => ?_)).trans ?_)
    | split
    | simp [less_ite]
    | rfl)

@[simp] theorem isolate_keep (l : Live) (d : Detail) (m : Nat) (h : 68180928 ||| m = m) : less m (Live.isolate l d) = less m l := less_le h (by
  unfold Live.isolate
  repeat' first
    | (with_reducible rfl)
    | (intro _)
    | (simp [less_ite]; done)
    | (with_reducible refine (less_forL (fun l x => ?_)).trans ?_)
    | (with_reducible refine (less_each (fun l x => ?_)).trans ?_)
    | (with_reducible refine (less_foldl (fun l x => ?_)).trans ?_)
    | split
    | simp [less_ite]
    | rfl)

@[simp] theorem askerFail_keep (l : Live) (a : Asker) (m : Nat) (h : 57344 ||| m = m) : less m (Live.askerFail l a) = less m l := less_le h (by
  unfold Live.askerFail
  repeat' first
    | (with_reducible rfl)
    | (intro _)
    | (simp [less_ite]; done)
    | (with_reducible refine (less_forL (fun l x => ?_)).trans ?_)
    | (with_reducible refine (less_each (fun l x => ?_)).trans ?_)
    | (with_reducible refine (less_foldl (fun l x => ?_)).trans ?_)
    | split
    | simp [less_ite]
    | rfl)

@[simp] theorem engineStop_keep (l : Live) (m : Nat) (h : 256 ||| m = m) : less m (Live.engineStop l) = less m l := less_le h (by
  unfold Live.engineStop
  repeat' first
    | (with_reducible rfl)
    | (intro _)
    | (simp [less_ite]; done)
    | (with_reducible refine (less_forL (fun l x => ?_)).trans ?_)
    | (with_reducible refine (less_each (fun l x => ?_)).trans ?_)
    | (with_reducible refine (less_foldl (fun l x => ?_)).trans ?_)
    | split
    | simp [less_ite]
    | rfl)

@[simp] theorem resetAction_keep (l : Live) (b : Nat) (m : Nat) (h : 73268192 ||| m = m) : less m (Live.resetAction l b) = less m l := less_le h (by
  unfold Live.resetAction
  repeat' first
    | (with_reducible rfl)
    | (intro _)
    | (simp [less_ite]; done)
    | (with_reducible refine (less_forL (fun l x => ?_)).trans ?_)
    | (with_reducible refine (less_each (fun l x => ?_)).trans ?_)
    | (with_reducible refine (less_foldl (fun l x => ?_)).trans ?_)
    | split
    | simp [less_ite]
    | rfl)

@[simp] theorem brickReset_keep (l : Live) (b : Nat) (m : Nat) (h : 32768 ||| m = m) : less m (Live.brickReset l b) = less m l := less_le h (by
  unfold Live.brickReset
  repeat' first
    | (with_reducible rfl)
    | (intro _)
    | (simp [less_ite]; done)
    | (with_reducible refine (less_forL (fun l x => ?_)).trans ?_)
    | (with_reducible refine (less_each (fun l x => ?_)).trans ?_)
    | (with_reducible refine (less_foldl (fun l x => ?_)).trans ?_)
    | split
    | simp [less_ite]
    | rfl)

@[simp] theorem blockReset_keep (l : Live) (b : Nat) (m : Nat) (h : 73268192 ||| m = m) : less m (Live.blockReset l b) = less m l := less_le h (by
  unfold Live.blockReset
  repeat' first
    | (with_reducible rfl)
    | (intro _)
    | (simp [less_ite]; done)
    | (with_reducible refine (less_forL (fun l x => ?_)).trans ?_)
    | (with_reducible refine (less_each (fun l x => ?_)).trans ?_)
    | (with_reducible refine (less_foldl (fun l x => ?_)).trans ?_)
    | split
    | simp [less_ite]
    | rfl)

@[simp] theorem absorb_keep (l : Live) (d : Detail) (cond : Bool) (m : Nat) (h : 68190208 ||| m = m) : less m (Live.absorb l d cond) = less m l := less_le h (by
  unfold Live.absorb
  repeat' first
    | (with_reducible rfl)
    | (intro _)
    | (simp [less_ite]; done)
    | (with_reducible refine (less_forL (fun l x => ?_)).trans ?_)
    | (with_reducible refine (less_each (fun l x => ?_)).trans ?_)
    | (with_reducible refine (less_foldl (fun l x => ?_)).trans ?_)
    | split
    | simp [less_ite]
    | rfl)

@[simp] theorem recordOcc_keep (l : Live) (o : Occ) (m : Nat) (h : 68190208 ||| m = m) : less m (Live.recordOcc l o) = less m l := less_le h (by
  unfold Live.recordOcc
  repeat' first
    | (with_reducible rfl)
    | (intro _)
    | (simp [less_ite]; done)
    | (with_reducible refine (less_forL (fun l x => ?_)).trans ?_)
    | (with_reducible refine (less_each (fun l x => ?_)).trans ?_)
    | (with_reducible refine (less_foldl (fun l x => ?_)).trans ?_)
    | split
    | simp [less_ite]
    | rfl)

@[simp] theorem takeOcc_keep (n : Nat) (l : Live) (d : Detail) (a b c : Bool) (m : Nat) (h : 81787872 ||| m = m) :
    less m (Live.takeOcc n l d a b c) = less m l := less_le h (by
  induction n generalizing l d a b c with
  | zero => rfl
  | succ n ih =>
    unfold Live.takeOcc
    split
    · rfl
    · split
      · simp
      · extract_lets w x1 x2 x3 full x4 x5 x6 x7
        have e5 : less 81787872 x5 = less 81787872 l := by simp [less_ite, x5, x4, x3, x2, x1]
        have e6 : less 81787872 x6 = less 81787872 x5 := by simp [x6]
        have e7 : less 81787872 x7 = less 81787872 x5 := by
          simp only [x7]
          clear_value x6 x5
          repeat' first
            | (with_reducible rfl)
            | split
            | (with_reducible refine (ih _ _ _ _ _).trans ?_)
            | (simpa using e6)
        clear_value x7
        split
        · exact (ih _ _ _ _ _).trans ((modFc_keep _ _ _ (by decide)).trans (e7.trans e5))
        · exact e7.trans e5)

@[simp] theorem take_keep (l : Live) (d : Detail) (m : Nat) (h : 81787872 ||| m = m) : less m (Live.take l d) = less m l := less_le h (by
  unfold Live.take
  repeat' first
    | (with_reducible rfl)
    | (intro _)
    | (simp [less_ite]; done)
    | (with_reducible refine (less_forL (fun l x => ?_)).trans ?_)
    | (with_reducible refine (less_each (fun l x => ?_)).trans ?_)
    | (with_reducible refine (less_foldl (fun l x => ?_)).trans ?_)
    | split
    | simp [less_ite]
    | rfl)

@[simp] theorem logSync_keep (l : Live) (m : Nat) (h : 32768 ||| m = m) : less m (Live.logSync l) = less m l := less_le h (by
  unfold Live.logSync
  repeat' first
    | (with_reducible rfl)
    | (intro _)
    | (simp [less_ite]; done)
    | (with_reducible refine (less_forL (fun l x => ?_)).trans ?_)
    | (with_reducible refine (less_each (fun l x => ?_)).trans ?_)
    | (with_reducible refine (less_foldl (fun l x => ?_)).trans ?_)
    | split
    | simp [less_ite]
    | rfl)

@[simp] theorem tablePrune_keep (l : Live) (m : Nat) (h : 32768 ||| m = m) : less m (Live.tablePrune l) = less m l := less_le h (by
  unfold Live.tablePrune
  repeat' first
    | (with_reducible rfl)
    | (intro _)
    | (simp [less_ite]; done)
    | (with_reducible refine (less_forL (fun l x => ?_)).trans ?_)
    | (with_reducible refine (less_each (fun l x => ?_)).trans ?_)
    | (with_reducible refine (less_foldl (fun l x => ?_)).trans ?_)
    | split
    | simp [less_ite]
    | rfl)

@[simp] theorem condBond_keep (l : Live) (m : Nat) (h : 32768 ||| m = m) : less m (Live.condBond l) = less m l := less_le h (by
  unfold Live.condBond
  repeat' first
    | (with_reducible rfl)
    | (intro _)
    | (simp [less_ite]; done)
    | (with_reducible refine (less_forL (fun l x => ?_)).trans ?_)
    | (with_reducible refine (less_each (fun l x => ?_)).trans ?_)
    | (with_reducible refine (less_foldl (fun l x => ?_)).trans ?_)
    | split
    | simp [less_ite]
    | rfl)

@[simp] theorem selftest_keep (l : Live) (ok : Bool) (m : Nat) (h : 81787872 ||| m = m) : less m (Live.selftest l ok) = less m l := less_le h (by
  unfold Live.selftest
  repeat' first
    | (with_reducible rfl)
    | (intro _)
    | (simp [less_ite]; done)
    | (with_reducible refine (less_forL (fun l x => ?_)).trans ?_)
    | (with_reducible refine (less_each (fun l x => ?_)).trans ?_)
    | (with_reducible refine (less_foldl (fun l x => ?_)).trans ?_)
    | split
    | simp [less_ite]
    | rfl)

@[simp] theorem unbar_keep (l : Live) (uid : BitVec 64) (m : Nat) (h : 68178848 ||| m = m) : less m (Live.unbar l uid) = less m l := less_le h (by
  unfold Live.unbar
  repeat' first
    | (with_reducible rfl)
    | (intro _)
    | (simp [less_ite]; done)
    | (with_reducible refine (less_forL (fun l x => ?_)).trans ?_)
    | (with_reducible refine (less_each (fun l x => ?_)).trans ?_)
    | (with_reducible refine (less_foldl (fun l x => ?_)).trans ?_)
    | split
    | simp [less_ite]
    | rfl)

@[simp] theorem clearEffect_keep (l : Live) (d : Detail) (m : Nat) (h : 68178848 ||| m = m) : less m (Live.clearEffect l d) = less m l := less_le h (by
  unfold Live.clearEffect
  repeat' first
    | (with_reducible rfl)
    | (intro _)
    | (simp [less_ite]; done)
    | (with_reducible refine (less_forL (fun l x => ?_)).trans ?_)
    | (with_reducible refine (less_each (fun l x => ?_)).trans ?_)
    | (with_reducible refine (less_foldl (fun l x => ?_)).trans ?_)
    | split
    | simp [less_ite]
    | rfl)

@[simp] theorem clearOcc_keep (l : Live) (o : Occ) (sess port : Nat) (m : Nat) (h : 68473760 ||| m = m) : less m (Live.clearOcc l o sess port) = less m l := less_le h (by
  unfold Live.clearOcc
  repeat' first
    | (with_reducible rfl)
    | (intro _)
    | (simp [less_ite]; done)
    | (with_reducible refine (less_forL (fun l x => ?_)).trans ?_)
    | (with_reducible refine (less_each (fun l x => ?_)).trans ?_)
    | (with_reducible refine (less_foldl (fun l x => ?_)).trans ?_)
    | split
    | simp [less_ite]
    | rfl)

@[simp] theorem faultClear_keep (l : Live) (may : Occ → Bool) (code obj : Half) (sess port : Nat) (m : Nat) (h : 68473760 ||| m = m) : less m (Live.faultClear l may code obj sess port).1 = less m l := less_le h (by
  unfold Live.faultClear
  repeat' first
    | (with_reducible rfl)
    | (intro _)
    | (simp [less_ite]; done)
    | (with_reducible refine (less_forL (fun l x => ?_)).trans ?_)
    | (with_reducible refine (less_each (fun l x => ?_)).trans ?_)
    | (with_reducible refine (less_foldl (fun l x => ?_)).trans ?_)
    | split
    | simp [less_ite]
    | rfl)

end Sys2Proof.Machine.Live
end

