-- ==== Sys2Proof/Laws/KeepKeeper.lean ====
section
/-! SUPPORT. What each operation of `Machine/Keeper.lean` leaves alone: it changes no part of the state but those whose bits stand
in the number that its lemma names (the parts are numbered in `Laws/Parts.lean`). -/
namespace Sys2Proof.Machine.Live

set_option linter.unusedTactic false
set_option linter.unreachableTactic false
set_option linter.unusedSimpArgs false

@[simp] theorem statusSend_keep (l : Live) (m : Nat) (h : 65536 ||| m = m) : less m (Live.statusSend l) = less m l := less_le h (by
  unfold Live.statusSend
  repeat' first
    | (with_reducible rfl)
    | (intro _)
    | (simp [less_ite]; done)
    | (with_reducible refine (less_forL (fun l x => ?_)).trans ?_)
    | (with_reducible refine (less_each (fun l x => ?_)).trans ?_)
    | (with_reducible refine (less_foldl (fun l x => ?_)).trans ?_)
    | split
    | simp [less_ite]
    | rfl)

@[simp] theorem keeperWake_keep (l : Live) (m : Nat) (h : 68190224 ||| m = m) : less m (Live.keeperWake l) = less m l := less_le h (by
  unfold Live.keeperWake
  repeat' first
    | (with_reducible rfl)
    | (intro _)
    | (simp [less_ite]; done)
    | (with_reducible refine (less_forL (fun l x => ?_)).trans ?_)
    | (with_reducible refine (less_each (fun l x => ?_)).trans ?_)
    | (with_reducible refine (less_foldl (fun l x => ?_)).trans ?_)
    | split
    | simp [less_ite]
    | rfl)

@[simp] theorem releaseYield_keep (l : Live) (m : Nat) (h : 134217720 ||| m = m) : less m (Live.releaseYield l) = less m l := less_le h (by
  unfold Live.releaseYield
  repeat' first
    | (with_reducible rfl)
    | (intro _)
    | (simp [less_ite]; done)
    | (with_reducible refine (less_forL (fun l x => ?_)).trans ?_)
    | (with_reducible refine (less_each (fun l x => ?_)).trans ?_)
    | (with_reducible refine (less_foldl (fun l x => ?_)).trans ?_)
    | split
    | simp [less_ite]
    | rfl)

@[simp] theorem ckptBlock_keep (l : Live) (i : Nat) (m : Nat) (h : 65536 ||| m = m) : less m (Live.ckptBlock l i) = less m l := less_le h (by
  unfold Live.ckptBlock
  repeat' first
    | (with_reducible rfl)
    | (intro _)
    | (simp [less_ite]; done)
    | (with_reducible refine (less_forL (fun l x => ?_)).trans ?_)
    | (with_reducible refine (less_each (fun l x => ?_)).trans ?_)
    | (with_reducible refine (less_foldl (fun l x => ?_)).trans ?_)
    | split
    | simp [less_ite]
    | rfl)

@[simp] theorem ckptPump_keep (l : Live) (k m : Nat) (h : 65536 ||| m = m) : less m (l.ckptPump k) = less m l := less_le h (by
  induction k generalizing l with
  | zero => rfl
  | succ k ih =>
    simp only [Live.ckptPump]
    repeat' first
      | (with_reducible rfl)
      | (refine (ih _).trans ?_)
      | split
      | simp [less_ite])

@[simp] theorem ckptMissed_keep (l : Live) (m : Nat) (h : 98304 ||| m = m) : less m (Live.ckptMissed l) = less m l := less_le h (by
  unfold Live.ckptMissed
  repeat' first
    | (with_reducible rfl)
    | (intro _)
    | (simp [less_ite]; done)
    | (with_reducible refine (less_forL (fun l x => ?_)).trans ?_)
    | (with_reducible refine (less_each (fun l x => ?_)).trans ?_)
    | (with_reducible refine (less_foldl (fun l x => ?_)).trans ?_)
    | split
    | simp [less_ite]
    | rfl)

@[simp] theorem ckptCapture_keep (l : Live) (m : Nat) (h : 134316032 ||| m = m) : less m (Live.ckptCapture l) = less m l := less_le h (by
  unfold Live.ckptCapture
  repeat' first
    | (with_reducible rfl)
    | (intro _)
    | (simp [less_ite]; done)
    | (with_reducible refine (less_forL (fun l x => ?_)).trans ?_)
    | (with_reducible refine (less_each (fun l x => ?_)).trans ?_)
    | (with_reducible refine (less_foldl (fun l x => ?_)).trans ?_)
    | split
    | simp [less_ite]
    | rfl)

@[simp] theorem ckptDone_keep (l : Live) (t : CkptTx) (m : Nat) (h : 68222976 ||| m = m) : less m (Live.ckptDone l t) = less m l := less_le h (by
  unfold Live.ckptDone
  repeat' first
    | (with_reducible rfl)
    | (intro _)
    | (simp [less_ite]; done)
    | (with_reducible refine (less_forL (fun l x => ?_)).trans ?_)
    | (with_reducible refine (less_each (fun l x => ?_)).trans ?_)
    | (with_reducible refine (less_foldl (fun l x => ?_)).trans ?_)
    | split
    | simp [less_ite]
    | rfl)

@[simp] theorem ckptAbandon_keep (l : Live) (m : Nat) (h : 98304 ||| m = m) : less m (Live.ckptAbandon l) = less m l := less_le h (by
  unfold Live.ckptAbandon
  repeat' first
    | (with_reducible rfl)
    | (intro _)
    | (simp [less_ite]; done)
    | (with_reducible refine (less_forL (fun l x => ?_)).trans ?_)
    | (with_reducible refine (less_each (fun l x => ?_)).trans ?_)
    | (with_reducible refine (less_foldl (fun l x => ?_)).trans ?_)
    | split
    | simp [less_ite]
    | rfl)

@[simp] theorem ckptAgain_keep (l : Live) (t : CkptTx) (i : Nat) (m : Nat) (h : 68255744 ||| m = m) : less m (Live.ckptAgain l t i) = less m l := less_le h (by
  unfold Live.ckptAgain
  repeat' first
    | (with_reducible rfl)
    | (intro _)
    | (simp [less_ite]; done)
    | (with_reducible refine (less_forL (fun l x => ?_)).trans ?_)
    | (with_reducible refine (less_each (fun l x => ?_)).trans ?_)
    | (with_reducible refine (less_foldl (fun l x => ?_)).trans ?_)
    | split
    | simp [less_ite]
    | rfl)

@[simp] theorem ckptReply_keep (l : Live) (f : MateHdr) (st : Nat) (m : Nat) (h : 65536 ||| m = m) : less m (Live.ckptReply l f st) = less m l := less_le h (by
  unfold Live.ckptReply
  repeat' first
    | (with_reducible rfl)
    | (intro _)
    | (simp [less_ite]; done)
    | (with_reducible refine (less_forL (fun l x => ?_)).trans ?_)
    | (with_reducible refine (less_each (fun l x => ?_)).trans ?_)
    | (with_reducible refine (less_foldl (fun l x => ?_)).trans ?_)
    | split
    | simp [less_ite]
    | rfl)

@[simp] theorem ckptStore_keep (l : Live) (f : MateHdr) (m : Nat) (h : 68222976 ||| m = m) : less m (Live.ckptStore l f) = less m l := less_le h (by
  unfold Live.ckptStore
  repeat' first
    | (with_reducible rfl)
    | (intro _)
    | (simp [less_ite]; done)
    | (with_reducible refine (less_forL (fun l x => ?_)).trans ?_)
    | (with_reducible refine (less_each (fun l x => ?_)).trans ?_)
    | (with_reducible refine (less_foldl (fun l x => ?_)).trans ?_)
    | split
    | simp [less_ite]
    | rfl)

@[simp] theorem restorePower_keep (l : Live) (c : Ckpt) (m : Nat) (h : 4608 ||| m = m) : less m (Live.restorePower l c) = less m l := less_le h (by
  unfold Live.restorePower
  repeat' first
    | (with_reducible rfl)
    | (intro _)
    | (simp [less_ite]; done)
    | (with_reducible refine (less_forL (fun l x => ?_)).trans ?_)
    | (with_reducible refine (less_each (fun l x => ?_)).trans ?_)
    | (with_reducible refine (less_foldl (fun l x => ?_)).trans ?_)
    | split
    | simp [less_ite]
    | rfl)

@[simp] theorem restoreGauge_keep (l : Live) (c : Ckpt) (stamp : Nat) (m : Nat) (h : 40960 ||| m = m) : less m (Live.restoreGauge l c stamp) = less m l := less_le h (by
  unfold Live.restoreGauge
  repeat' first
    | (with_reducible rfl)
    | (intro _)
    | (simp [less_ite]; done)
    | (with_reducible refine (less_forL (fun l x => ?_)).trans ?_)
    | (with_reducible refine (less_each (fun l x => ?_)).trans ?_)
    | (with_reducible refine (less_foldl (fun l x => ?_)).trans ?_)
    | split
    | simp [less_ite]
    | rfl)

@[simp] theorem restoreHeld_keep (l : Live) (c : Ckpt) (m : Nat) (h : 24576 ||| m = m) : less m (Live.restoreHeld l c) = less m l := less_le h (by
  unfold Live.restoreHeld
  repeat' first
    | (with_reducible rfl)
    | (intro _)
    | (simp [less_ite]; done)
    | (with_reducible refine (less_forL (fun l x => ?_)).trans ?_)
    | (with_reducible refine (less_each (fun l x => ?_)).trans ?_)
    | (with_reducible refine (less_foldl (fun l x => ?_)).trans ?_)
    | split
    | simp [less_ite]
    | rfl)

@[simp] theorem restoreVcs_keep (l : Live) (c : Ckpt) (m : Nat) (h : 2048 ||| m = m) : less m (Live.restoreVcs l c) = less m l := less_le h (by
  unfold Live.restoreVcs
  repeat' first
    | (with_reducible rfl)
    | (intro _)
    | (simp [less_ite]; done)
    | (with_reducible refine (less_forL (fun l x => ?_)).trans ?_)
    | (with_reducible refine (less_each (fun l x => ?_)).trans ?_)
    | (with_reducible refine (less_foldl (fun l x => ?_)).trans ?_)
    | split
    | simp [less_ite]
    | rfl)

@[simp] theorem restoreTherm_keep (l : Live) (c : Ckpt) (m : Nat) (h : 16384 ||| m = m) : less m (Live.restoreTherm l c) = less m l := less_le h (by
  unfold Live.restoreTherm
  repeat' first
    | (with_reducible rfl)
    | (intro _)
    | (simp [less_ite]; done)
    | (with_reducible refine (less_forL (fun l x => ?_)).trans ?_)
    | (with_reducible refine (less_each (fun l x => ?_)).trans ?_)
    | (with_reducible refine (less_foldl (fun l x => ?_)).trans ?_)
    | split
    | simp [less_ite]
    | rfl)

@[simp] theorem restoreRails_keep (l : Live) (c : Ckpt) (m : Nat) (h : 512 ||| m = m) : less m (Live.restoreRails l c) = less m l := less_le h (by
  unfold Live.restoreRails
  repeat' first
    | (with_reducible rfl)
    | (intro _)
    | (simp [less_ite]; done)
    | (with_reducible refine (less_forL (fun l x => ?_)).trans ?_)
    | (with_reducible refine (less_each (fun l x => ?_)).trans ?_)
    | (with_reducible refine (less_foldl (fun l x => ?_)).trans ?_)
    | split
    | simp [less_ite]
    | rfl)

@[simp] theorem restoreCounters_keep (l : Live) (c : Ckpt) (m : Nat) (h : 1048576 ||| m = m) : less m (Live.restoreCounters l c) = less m l := less_le h (by
  unfold Live.restoreCounters
  repeat' first
    | (with_reducible rfl)
    | (intro _)
    | (simp [less_ite]; done)
    | (with_reducible refine (less_forL (fun l x => ?_)).trans ?_)
    | (with_reducible refine (less_each (fun l x => ?_)).trans ?_)
    | (with_reducible refine (less_foldl (fun l x => ?_)).trans ?_)
    | split
    | simp [less_ite]
    | rfl)

@[simp] theorem restoreBarred_keep (l : Live) (c : Ckpt) (m : Nat) (h : 128 ||| m = m) : less m (Live.restoreBarred l c) = less m l := less_le h (by
  unfold Live.restoreBarred
  repeat' first
    | (with_reducible rfl)
    | (intro _)
    | (simp [less_ite]; done)
    | (with_reducible refine (less_forL (fun l x => ?_)).trans ?_)
    | (with_reducible refine (less_each (fun l x => ?_)).trans ?_)
    | (with_reducible refine (less_foldl (fun l x => ?_)).trans ?_)
    | split
    | simp [less_ite]
    | rfl)

@[simp] theorem withSection_keep (l : Live) (b : CkptBuf) (ty : Nat) (f : Live → Ckpt → Live) (m : Nat) (hf : ∀ l c, less m (f l c) = less m l) :
    less m (l.withSection b ty f) = less m l := by
  unfold Live.withSection
  split <;> simp [hf]

@[simp] theorem ckptRestore_keep (l : Live) (m : Nat) (h : 1178272 ||| m = m) : less m (Live.ckptRestore l) = less m l := less_le h (by
  unfold Live.ckptRestore
  repeat' first
    | (with_reducible rfl)
    | (intro _)
    | (simp [less_ite]; done)
    | (with_reducible refine (less_forL (fun l x => ?_)).trans ?_)
    | (with_reducible refine (less_each (fun l x => ?_)).trans ?_)
    | (with_reducible refine (less_foldl (fun l x => ?_)).trans ?_)
    | split
    | simp [less_ite]
    | rfl)

@[simp] theorem readySend_keep (l : Live) (m : Nat) (h : 65536 ||| m = m) : less m (Live.readySend l) = less m l := less_le h (by
  unfold Live.readySend
  repeat' first
    | (with_reducible rfl)
    | (intro _)
    | (simp [less_ite]; done)
    | (with_reducible refine (less_forL (fun l x => ?_)).trans ?_)
    | (with_reducible refine (less_each (fun l x => ?_)).trans ?_)
    | (with_reducible refine (less_foldl (fun l x => ?_)).trans ?_)
    | split
    | simp [less_ite]
    | rfl)

@[simp] theorem keeperChange_keep (l : Live) (m : Nat) (h : 70682640 ||| m = m) : less m (Live.keeperChange l) = less m l := less_le h (by
  unfold Live.keeperChange
  repeat' first
    | (with_reducible rfl)
    | (intro _)
    | (simp [less_ite]; done)
    | (with_reducible refine (less_forL (fun l x => ?_)).trans ?_)
    | (with_reducible refine (less_each (fun l x => ?_)).trans ?_)
    | (with_reducible refine (less_foldl (fun l x => ?_)).trans ?_)
    | split
    | simp [less_ite]
    | rfl)

@[simp] theorem claimBegin_keep (l : Live) (m : Nat) (h : 70748336 ||| m = m) : less m (Live.claimBegin l) = less m l := less_le h (by
  unfold Live.claimBegin
  repeat' first
    | (with_reducible rfl)
    | (intro _)
    | (simp [less_ite]; done)
    | (with_reducible refine (less_forL (fun l x => ?_)).trans ?_)
    | (with_reducible refine (less_each (fun l x => ?_)).trans ?_)
    | (with_reducible refine (less_foldl (fun l x => ?_)).trans ?_)
    | split
    | simp [less_ite]
    | rfl)

@[simp] theorem kcmd_keep (l : Live) (w : Word) (m : Nat) (h : 98304 ||| m = m) : less m (Live.kcmd l w) = less m l := less_le h (by
  unfold Live.kcmd
  repeat' first
    | (with_reducible rfl)
    | (intro _)
    | (simp [less_ite]; done)
    | (with_reducible refine (less_forL (fun l x => ?_)).trans ?_)
    | (with_reducible refine (less_each (fun l x => ?_)).trans ?_)
    | (with_reducible refine (less_foldl (fun l x => ?_)).trans ?_)
    | split
    | simp [less_ite]
    | rfl)

@[simp] theorem leaseReads_keep (l : Live) (m : Nat) (h : 160 ||| m = m) : less m (Live.leaseReads l) = less m l := less_le h (by
  unfold Live.leaseReads
  repeat' first
    | (with_reducible rfl)
    | (intro _)
    | (simp [less_ite]; done)
    | (with_reducible refine (less_forL (fun l x => ?_)).trans ?_)
    | (with_reducible refine (less_each (fun l x => ?_)).trans ?_)
    | (with_reducible refine (less_foldl (fun l x => ?_)).trans ?_)
    | split
    | simp [less_ite]
    | rfl)

@[simp] theorem ckptBond_keep (l : Live) (m : Nat) (h : 134316032 ||| m = m) : less m (Live.ckptBond l) = less m l := less_le h (by
  unfold Live.ckptBond
  repeat' first
    | (with_reducible rfl)
    | (intro _)
    | (simp [less_ite]; done)
    | (with_reducible refine (less_forL (fun l x => ?_)).trans ?_)
    | (with_reducible refine (less_each (fun l x => ?_)).trans ?_)
    | (with_reducible refine (less_foldl (fun l x => ?_)).trans ?_)
    | split
    | simp [less_ite]
    | rfl)

@[simp] theorem keeperBond_keep (l : Live) (m : Nat) (h : 134217720 ||| m = m) : less m (Live.keeperBond l) = less m l := less_le h (by
  unfold Live.keeperBond
  repeat' first
    | (with_reducible rfl)
    | (intro _)
    | (simp [less_ite]; done)
    | (with_reducible refine (less_forL (fun l x => ?_)).trans ?_)
    | (with_reducible refine (less_each (fun l x => ?_)).trans ?_)
    | (with_reducible refine (less_foldl (fun l x => ?_)).trans ?_)
    | split
    | simp [less_ite]
    | rfl)

end Sys2Proof.Machine.Live
end

