-- ==== Sys2Proof/Laws/KeepImage.lean ====
section
/-! SUPPORT. What each operation of `Machine/Image.lean` leaves alone: it changes no part of the state but those whose bits stand
in the number that its lemma names (the parts are numbered in `Laws/Parts.lean`). -/
namespace Sys2Proof.Machine.Live

set_option linter.unusedTactic false
set_option linter.unreachableTactic false
set_option linter.unusedSimpArgs false

@[simp] theorem under_keep (l : Live) (i : Image) (m : Nat) (h : 131072 ||| m = m) : less m (Live.under l i) = less m l := less_le h (by
  unfold Live.under
  repeat' first
    | (with_reducible rfl)
    | (intro _)
    | (simp [less_ite]; done)
    | (with_reducible refine (less_forL (fun l x => ?_)).trans ?_)
    | (with_reducible refine (less_each (fun l x => ?_)).trans ?_)
    | (with_reducible refine (less_foldl (fun l x => ?_)).trans ?_)
    | split
    | simp [less_ite]
    | rfl)

@[simp] theorem commitFail_keep (l : Live) (rs : List VRep) (m : Nat) (h : 68550656 ||| m = m) : less m (Live.commitFail l rs) = less m l := less_le h (by
  unfold Live.commitFail
  repeat' first
    | (with_reducible rfl)
    | (intro _)
    | (simp [less_ite]; done)
    | (with_reducible refine (less_forL (fun l x => ?_)).trans ?_)
    | (with_reducible refine (less_each (fun l x => ?_)).trans ?_)
    | (with_reducible refine (less_foldl (fun l x => ?_)).trans ?_)
    | split
    | simp [less_ite]
    | rfl)

@[simp] theorem imgSend_keep (l : Live) (k : Nat) (m : Nat) (h : 65536 ||| m = m) : less m (Live.imgSend l k) = less m l := less_le h (by
  unfold Live.imgSend
  repeat' first
    | (with_reducible rfl)
    | (intro _)
    | (simp [less_ite]; done)
    | (with_reducible refine (less_forL (fun l x => ?_)).trans ?_)
    | (with_reducible refine (less_each (fun l x => ?_)).trans ?_)
    | (with_reducible refine (less_foldl (fun l x => ?_)).trans ?_)
    | split
    | simp [less_ite]
    | rfl)

@[simp] theorem commitStart_keep (l : Live) (m : Nat) (h : 68616448 ||| m = m) : less m (Live.commitStart l) = less m l := less_le h (by
  unfold Live.commitStart
  repeat' first
    | (with_reducible rfl)
    | (intro _)
    | (simp [less_ite]; done)
    | (with_reducible refine (less_forL (fun l x => ?_)).trans ?_)
    | (with_reducible refine (less_each (fun l x => ?_)).trans ?_)
    | (with_reducible refine (less_foldl (fun l x => ?_)).trans ?_)
    | split
    | simp [less_ite]
    | rfl)

@[simp] theorem commitBroken_keep (l : Live) (reason : Nat) (m : Nat) (h : 68550656 ||| m = m) : less m (Live.commitBroken l reason) = less m l := less_le h (by
  unfold Live.commitBroken
  repeat' first
    | (with_reducible rfl)
    | (intro _)
    | (simp [less_ite]; done)
    | (with_reducible refine (less_forL (fun l x => ?_)).trans ?_)
    | (with_reducible refine (less_each (fun l x => ?_)).trans ?_)
    | (with_reducible refine (less_foldl (fun l x => ?_)).trans ?_)
    | split
    | simp [less_ite]
    | rfl)

@[simp] theorem modStore_keep (l : Live) (n : Nat) (f : StoreSlot → StoreSlot) (m : Nat) (h : 131072 ||| m = m) : less m (Live.modStore l n f) = less m l := less_le h (by
  unfold Live.modStore
  repeat' first
    | (with_reducible rfl)
    | (intro _)
    | (simp [less_ite]; done)
    | (with_reducible refine (less_forL (fun l x => ?_)).trans ?_)
    | (with_reducible refine (less_each (fun l x => ?_)).trans ?_)
    | (with_reducible refine (less_foldl (fun l x => ?_)).trans ?_)
    | split
    | simp [less_ite]
    | rfl)

@[simp] theorem stageImage_keep (l : Live) (n : Nat) (i : Image) (m : Nat) (h : 131072 ||| m = m) : less m (Live.stageImage l n i) = less m l := less_le h (by
  unfold Live.stageImage
  repeat' first
    | (with_reducible rfl)
    | (intro _)
    | (simp [less_ite]; done)
    | (with_reducible refine (less_forL (fun l x => ?_)).trans ?_)
    | (with_reducible refine (less_each (fun l x => ?_)).trans ?_)
    | (with_reducible refine (less_foldl (fun l x => ?_)).trans ?_)
    | split
    | simp [less_ite]
    | rfl)

@[simp] theorem chooseImage_keep (l : Live) (m : Nat) (h : 163840 ||| m = m) : less m (Live.chooseImage l) = less m l := less_le h (by
  unfold Live.chooseImage
  repeat' first
    | (with_reducible rfl)
    | (intro _)
    | (simp [less_ite]; done)
    | (with_reducible refine (less_forL (fun l x => ?_)).trans ?_)
    | (with_reducible refine (less_each (fun l x => ?_)).trans ?_)
    | (with_reducible refine (less_foldl (fun l x => ?_)).trans ?_)
    | split
    | simp [less_ite]
    | rfl)

end Sys2Proof.Machine.Live
end

