-- ==== Sys2Proof/Laws/KeepPower.lean ====
section
/-! SUPPORT. What each operation of `Machine/Power.lean` leaves alone: it changes no part of the state but those whose bits stand
in the number that its lemma names (the parts are numbered in `Laws/Parts.lean`). -/
namespace Sys2Proof.Machine.Live

set_option linter.unusedTactic false
set_option linter.unreachableTactic false
set_option linter.unusedSimpArgs false

@[simp] theorem flashOnly_keep (l : Live) (m : Nat) (h : 134217727 ||| m = m) : less m l.flashOnly = less m l := less_le h (by
  have e : l.stgDrop.d0Only.free = l.free := less_free (m := 134217727) (by simp) (by decide)
  unfold Live.flashOnly
  simp +decide [less, e])

@[simp] theorem strap_keep (l : Live) (t : Straps) (m : Nat) (h : 589840 ||| m = m) : less m (l.strap t) = less m l := less_le h rfl

@[simp] theorem resetState_keep (l : Live) (m : Nat) (h : 134217726 ||| m = m) : less m l.resetState = less m l := less_le h (by
  have e : less 134217726 l.closeAll.d0Only = less 134217726 l := by simp
  have e0 := less_now e (by decide)
  have e1 := less_free e (by decide)
  unfold Live.resetState
  simp +decide [less, e0, e1])

@[simp] theorem release_keep (l : Live) (cause : Nat) (m : Nat) (h : 134217726 ||| m = m) : less m (Live.release l cause) = less m l := less_le h (by
  unfold Live.release
  repeat' first
    | (with_reducible rfl)
    | (intro _)
    | (simp [less_ite]; done)
    | (with_reducible refine (less_forL (fun l x => ?_)).trans ?_)
    | (with_reducible refine (less_each (fun l x => ?_)).trans ?_)
    | (with_reducible refine (less_foldl (fun l x => ?_)).trans ?_)
    | split
    | simp [less_ite]
    | rfl)

@[simp] theorem safexit_keep (l : Live) (m : Nat) (h : 134217726 ||| m = m) : less m (Live.safexit l) = less m l := less_le h (by
  unfold Live.safexit
  repeat' first
    | (with_reducible rfl)
    | (intro _)
    | (simp [less_ite]; done)
    | (with_reducible refine (less_forL (fun l x => ?_)).trans ?_)
    | (with_reducible refine (less_each (fun l x => ?_)).trans ?_)
    | (with_reducible refine (less_foldl (fun l x => ?_)).trans ?_)
    | split
    | simp [less_ite]
    | rfl)

@[simp] theorem domOn_keep (l : Live) (m : BitVec 8) (mm : Nat) (h : 16 ||| mm = mm) : less mm (Live.domOn l m) = less mm l := less_le h (by
  unfold Live.domOn
  repeat' first
    | (with_reducible rfl)
    | (intro _)
    | (simp [less_ite]; done)
    | (with_reducible refine (less_forL (fun l x => ?_)).trans ?_)
    | (with_reducible refine (less_each (fun l x => ?_)).trans ?_)
    | (with_reducible refine (less_foldl (fun l x => ?_)).trans ?_)
    | split
    | simp [less_ite]
    | rfl)

@[simp] theorem toStage_keep (l : Live) (n : Nat) (m : Nat) (h : 16 ||| m = m) : less m (Live.toStage l n) = less m l := less_le h (by
  unfold Live.toStage
  repeat' first
    | (with_reducible rfl)
    | (intro _)
    | (simp [less_ite]; done)
    | (with_reducible refine (less_forL (fun l x => ?_)).trans ?_)
    | (with_reducible refine (less_each (fun l x => ?_)).trans ?_)
    | (with_reducible refine (less_foldl (fun l x => ?_)).trans ?_)
    | split
    | simp [less_ite]
    | rfl)

@[simp] theorem toHeld_keep (l : Live) (bad : List (Nat × Nat)) (m : Nat) (h : 134152184 ||| m = m) : less m (Live.toHeld l bad) = less m l := less_le h (by
  unfold Live.toHeld
  repeat' first
    | (with_reducible rfl)
    | (intro _)
    | (simp [less_ite]; done)
    | (with_reducible refine (less_forL (fun l x => ?_)).trans ?_)
    | (with_reducible refine (less_each (fun l x => ?_)).trans ?_)
    | (with_reducible refine (less_foldl (fun l x => ?_)).trans ?_)
    | split
    | simp [less_ite]
    | rfl)

@[simp] theorem otpDrifts_keep (l : Live) (ds : List OtpDrift) (m : Nat) (h : 2097152 ||| m = m) : less m (Live.otpDrifts l ds) = less m l := less_le h (by
  unfold Live.otpDrifts
  repeat' first
    | (with_reducible rfl)
    | (intro _)
    | (simp [less_ite]; done)
    | (with_reducible refine (less_forL (fun l x => ?_)).trans ?_)
    | (with_reducible refine (less_each (fun l x => ?_)).trans ?_)
    | (with_reducible refine (less_foldl (fun l x => ?_)).trans ?_)
    | split
    | simp [less_ite]
    | rfl)

@[simp] theorem bootTwo_keep (l : Live) (env : StageEnv) (m : Nat) (h : 134152184 ||| m = m) : less m (Live.bootTwo l env) = less m l := less_le h (by
  unfold Live.bootTwo
  repeat' first
    | (with_reducible rfl)
    | (intro _)
    | (simp [less_ite]; done)
    | (with_reducible refine (less_forL (fun l x => ?_)).trans ?_)
    | (with_reducible refine (less_each (fun l x => ?_)).trans ?_)
    | (with_reducible refine (less_foldl (fun l x => ?_)).trans ?_)
    | split
    | simp [less_ite]
    | rfl)

@[simp] theorem bootRecord_keep (l : Live) (m : Nat) (h : 68190208 ||| m = m) : less m (Live.bootRecord l) = less m l := less_le h (by
  unfold Live.bootRecord
  repeat' first
    | (with_reducible rfl)
    | (intro _)
    | (simp [less_ite]; done)
    | (with_reducible refine (less_forL (fun l x => ?_)).trans ?_)
    | (with_reducible refine (less_each (fun l x => ?_)).trans ?_)
    | (with_reducible refine (less_foldl (fun l x => ?_)).trans ?_)
    | split
    | simp [less_ite]
    | rfl)

@[simp] theorem storeSwap_keep (l : Live) (m : Nat) (h : 2228224 ||| m = m) : less m (Live.storeSwap l) = less m l := less_le h (by
  unfold Live.storeSwap
  repeat' first
    | (with_reducible rfl)
    | (intro _)
    | (simp [less_ite]; done)
    | (with_reducible refine (less_forL (fun l x => ?_)).trans ?_)
    | (with_reducible refine (less_each (fun l x => ?_)).trans ?_)
    | (with_reducible refine (less_foldl (fun l x => ?_)).trans ?_)
    | split
    | simp [less_ite]
    | rfl)

@[simp] theorem recorderOn_keep (l : Live) (m : Nat) (h : 68157440 ||| m = m) : less m (Live.recorderOn l) = less m l := less_le h (by
  unfold Live.recorderOn
  repeat' first
    | (with_reducible rfl)
    | (intro _)
    | (simp [less_ite]; done)
    | (with_reducible refine (less_forL (fun l x => ?_)).trans ?_)
    | (with_reducible refine (less_each (fun l x => ?_)).trans ?_)
    | (with_reducible refine (less_foldl (fun l x => ?_)).trans ?_)
    | split
    | simp [less_ite]
    | rfl)

@[simp] theorem stageFour_keep (l : Live) (m : Nat) (h : 68157456 ||| m = m) : less m (Live.stageFour l) = less m l := less_le h (by
  unfold Live.stageFour
  repeat' first
    | (with_reducible rfl)
    | (intro _)
    | (simp [less_ite]; done)
    | (with_reducible refine (less_forL (fun l x => ?_)).trans ?_)
    | (with_reducible refine (less_each (fun l x => ?_)).trans ?_)
    | (with_reducible refine (less_foldl (fun l x => ?_)).trans ?_)
    | split
    | simp [less_ite]
    | rfl)

@[simp] theorem bootThree_keep (l : Live) (env : StageEnv) (m : Nat) (h : 134152184 ||| m = m) : less m (Live.bootThree l env) = less m l := less_le h (by
  unfold Live.bootThree
  repeat' first
    | (with_reducible rfl)
    | (intro _)
    | (simp [less_ite]; done)
    | (with_reducible refine (less_forL (fun l x => ?_)).trans ?_)
    | (with_reducible refine (less_each (fun l x => ?_)).trans ?_)
    | (with_reducible refine (less_foldl (fun l x => ?_)).trans ?_)
    | split
    | simp [less_ite]
    | rfl)

@[simp] theorem imageStart_keep (l : Live) (m : Nat) (h : 229376 ||| m = m) : less m (Live.imageStart l) = less m l := less_le h (by
  unfold Live.imageStart
  repeat' first
    | (with_reducible rfl)
    | (intro _)
    | (simp [less_ite]; done)
    | (with_reducible refine (less_forL (fun l x => ?_)).trans ?_)
    | (with_reducible refine (less_each (fun l x => ?_)).trans ?_)
    | (with_reducible refine (less_foldl (fun l x => ?_)).trans ?_)
    | split
    | simp [less_ite]
    | rfl)

@[simp] theorem clockFrom_keep (l : Live) (b : CkptBuf) (m : Nat) (h : 1048576 ||| m = m) : less m (Live.clockFrom l b) = less m l := less_le h (by
  unfold Live.clockFrom
  repeat' first
    | (with_reducible rfl)
    | (intro _)
    | (simp [less_ite]; done)
    | split
    | simp [less_ite]
    | rfl)

@[simp] theorem ckptLoad_keep (l : Live) (m : Nat) (h : 1146880 ||| m = m) : less m (Live.ckptLoad l) = less m l := less_le h (by
  unfold Live.ckptLoad
  repeat' first
    | (with_reducible rfl)
    | (intro _)
    | (simp [less_ite]; done)
    | (with_reducible refine (less_forL (fun l x => ?_)).trans ?_)
    | (with_reducible refine (less_each (fun l x => ?_)).trans ?_)
    | (with_reducible refine (less_foldl (fun l x => ?_)).trans ?_)
    | split
    | simp [less_ite]
    | rfl)

@[simp] theorem snapFound_keep (l : Live) (m : Nat) (h : 68190208 ||| m = m) : less m (Live.snapFound l) = less m l := less_le h (by
  unfold Live.snapFound
  repeat' first
    | (with_reducible rfl)
    | (intro _)
    | (simp [less_ite]; done)
    | (with_reducible refine (less_forL (fun l x => ?_)).trans ?_)
    | (with_reducible refine (less_each (fun l x => ?_)).trans ?_)
    | (with_reducible refine (less_foldl (fun l x => ?_)).trans ?_)
    | split
    | simp [less_ite]
    | rfl)

@[simp] theorem settingsReset_keep (l : Live) (oid : Nat) (m : Nat) (h : 16809984 ||| m = m) : less m (Live.settingsReset l oid) = less m l := less_le h (by
  unfold Live.settingsReset
  repeat' first
    | (with_reducible rfl)
    | (intro _)
    | (simp [less_ite]; done)
    | (with_reducible refine (less_forL (fun l x => ?_)).trans ?_)
    | (with_reducible refine (less_each (fun l x => ?_)).trans ?_)
    | (with_reducible refine (less_foldl (fun l x => ?_)).trans ?_)
    | split
    | simp [less_ite]
    | rfl)

@[simp] theorem toRun_keep (l : Live) (cause : Nat) (m : Nat) (h : 68190224 ||| m = m) : less m (Live.toRun l cause) = less m l := less_le h (by
  unfold Live.toRun
  repeat' first
    | (with_reducible rfl)
    | (intro _)
    | (simp [less_ite]; done)
    | (with_reducible refine (less_forL (fun l x => ?_)).trans ?_)
    | (with_reducible refine (less_each (fun l x => ?_)).trans ?_)
    | (with_reducible refine (less_foldl (fun l x => ?_)).trans ?_)
    | split
    | simp [less_ite]
    | rfl)

@[simp] theorem bootFour_keep (l : Live) (env : StageEnv) (m : Nat) (h : 85688336 ||| m = m) : less m (Live.bootFour l env) = less m l := less_le h (by
  unfold Live.bootFour
  extract_lets x1 x2 x3 x4 x5 x6
  repeat' first
    | (with_reducible rfl)
    | (intro _)
    | (simp [less_ite]; done)
    | (with_reducible refine (less_forL (fun l x => ?_)).trans ?_)
    | (with_reducible refine (less_each (fun l x => ?_)).trans ?_)
    | (with_reducible refine (less_foldl (fun l x => ?_)).trans ?_)
    | split
    | simp [less_ite]
    | rfl
    | simp only [x6]
    | simp only [x5]
    | simp only [x4]
    | simp only [x3]
    | simp only [x2]
    | simp only [x1])

end Sys2Proof.Machine.Live
end

