-- ==== Sys2Proof/Laws/KeepSecurity.lean ====
section
/-! SUPPORT. What each operation of `Machine/Security.lean` leaves alone: it changes no part of the state but those whose bits stand
in the number that its lemma names (the parts are numbered in `Laws/Parts.lean`). -/
namespace Sys2Proof.Machine.Live

set_option linter.unusedTactic false
set_option linter.unreachableTactic false
set_option linter.unusedSimpArgs false

@[simp] theorem fuseRun_keep (l : Live) (env : FuseEnv) (xs : List (Nat × BitVec 40)) (o : FuseOut) (m : Nat) (h : 70254592 ||| m = m) :
    less m (l.fuseRun env xs o).1 = less m l := less_le h (by
  induction xs generalizing l o with
  | nil => rfl
  | cons x xs ih =>
    simp only [Live.fuseRun]
    split
    · simp
    · exact (ih _ _).trans (by simp))

@[simp] theorem returned_keep (l : Live) (env : FuseEnv) (m : Nat) (h : 70680592 ||| m = m) : less m (Live.returned l env) = less m l := less_le h (by
  unfold Live.returned
  repeat' first
    | (with_reducible rfl)
    | (intro _)
    | (simp [less_ite]; done)
    | (with_reducible refine (less_forL (fun l x => ?_)).trans ?_)
    | (with_reducible refine (less_each (fun l x => ?_)).trans ?_)
    | (with_reducible refine (less_foldl (fun l x => ?_)).trans ?_)
    | split
    | simp [less_ite]
    | rfl)

@[simp] theorem fuseProgram_keep (l : Live) (cls a : Nat) (val : Word) (env : FuseEnv) (m : Nat) (h : 70680592 ||| m = m) : less m (Live.fuseProgram l cls a val env).1 = less m l := less_le h (by
  unfold Live.fuseProgram
  repeat' first
    | (with_reducible rfl)
    | (intro _)
    | (simp [less_ite]; done)
    | (with_reducible refine (less_forL (fun l x => ?_)).trans ?_)
    | (with_reducible refine (less_each (fun l x => ?_)).trans ?_)
    | (with_reducible refine (less_foldl (fun l x => ?_)).trans ?_)
    | split
    | simp [less_ite]
    | rfl)

@[simp] theorem fuseReburn_keep (l : Live) (cls a : Nat) (val : Word) (env : FuseEnv) (m : Nat) (h : 70680592 ||| m = m) : less m (Live.fuseReburn l cls a val env).1 = less m l := less_le h (by
  unfold Live.fuseReburn
  repeat' first
    | (with_reducible rfl)
    | (intro _)
    | (simp [less_ite]; done)
    | (with_reducible refine (less_forL (fun l x => ?_)).trans ?_)
    | (with_reducible refine (less_each (fun l x => ?_)).trans ?_)
    | (with_reducible refine (less_foldl (fun l x => ?_)).trans ?_)
    | split
    | simp [less_ite]
    | rfl)

@[simp] theorem fuseLock_keep (l : Live) (cls r : Nat) (env : FuseEnv) (m : Nat) (h : 70254592 ||| m = m) : less m (Live.fuseLock l cls r env).1 = less m l := less_le h (by
  unfold Live.fuseLock
  repeat' first
    | (with_reducible rfl)
    | (intro _)
    | (simp [less_ite]; done)
    | (with_reducible refine (less_forL (fun l x => ?_)).trans ?_)
    | (with_reducible refine (less_each (fun l x => ?_)).trans ?_)
    | (with_reducible refine (less_foldl (fun l x => ?_)).trans ?_)
    | split
    | simp [less_ite]
    | rfl)

@[simp] theorem stgReason_keep (l : Live) (why : Nat) (m : Nat) (h : 2097152 ||| m = m) : less m (Live.stgReason l why) = less m l := less_le h (by
  unfold Live.stgReason
  repeat' first
    | (with_reducible rfl)
    | (intro _)
    | (simp [less_ite]; done)
    | (with_reducible refine (less_forL (fun l x => ?_)).trans ?_)
    | (with_reducible refine (less_each (fun l x => ?_)).trans ?_)
    | (with_reducible refine (less_foldl (fun l x => ?_)).trans ?_)
    | split
    | simp [less_ite]
    | rfl)

@[simp] theorem blockReply_keep (l : Live) (status why : Nat) (m : Nat) (h : 2097152 ||| m = m) : less m (Live.blockReply l status why).1 = less m l := less_le h (by
  unfold Live.blockReply
  repeat' first
    | (with_reducible rfl)
    | (intro _)
    | (simp [less_ite]; done)
    | (with_reducible refine (less_forL (fun l x => ?_)).trans ?_)
    | (with_reducible refine (less_each (fun l x => ?_)).trans ?_)
    | (with_reducible refine (less_foldl (fun l x => ?_)).trans ?_)
    | split
    | simp [less_ite]
    | rfl)

@[simp] theorem stgPut_keep (l : Live) (sess off : Nat) (data : List Byte) (m : Nat) (h : 2097152 ||| m = m) : less m (Live.stgPut l sess off data) = less m l := less_le h (by
  unfold Live.stgPut
  repeat' first
    | (with_reducible rfl)
    | (intro _)
    | (simp [less_ite]; done)
    | (with_reducible refine (less_forL (fun l x => ?_)).trans ?_)
    | (with_reducible refine (less_each (fun l x => ?_)).trans ?_)
    | (with_reducible refine (less_foldl (fun l x => ?_)).trans ?_)
    | split
    | simp [less_ite]
    | rfl)

@[simp] theorem updateBlock_keep (l : Live) (sess off : Nat) (crc : Word) (data : List Byte) (m : Nat) (h : 70287360 ||| m = m) : less m (Live.updateBlock l sess off crc data).1 = less m l := less_le h (by
  unfold Live.updateBlock
  repeat' first
    | (with_reducible rfl)
    | (intro _)
    | (simp [less_ite]; done)
    | (with_reducible refine (less_forL (fun l x => ?_)).trans ?_)
    | (with_reducible refine (less_each (fun l x => ?_)).trans ?_)
    | (with_reducible refine (less_foldl (fun l x => ?_)).trans ?_)
    | split
    | simp [less_ite]
    | rfl)

@[simp] theorem updateSeal_keep (l : Live) (sess : Nat) (m : Nat) (h : 70287360 ||| m = m) : less m (Live.updateSeal l sess).1 = less m l := less_le h (by
  unfold Live.updateSeal
  repeat' first
    | (with_reducible rfl)
    | (intro _)
    | (simp [less_ite]; done)
    | (with_reducible refine (less_forL (fun l x => ?_)).trans ?_)
    | (with_reducible refine (less_each (fun l x => ?_)).trans ?_)
    | (with_reducible refine (less_foldl (fun l x => ?_)).trans ?_)
    | split
    | simp [less_ite]
    | rfl)

@[simp] theorem relayOpen_keep (l : Live) (m : Nat) (h : 70287488 ||| m = m) : less m (Live.relayOpen l) = less m l := less_le h (by
  unfold Live.relayOpen
  repeat' first
    | (with_reducible rfl)
    | (intro _)
    | (simp [less_ite]; done)
    | (with_reducible refine (less_forL (fun l x => ?_)).trans ?_)
    | (with_reducible refine (less_each (fun l x => ?_)).trans ?_)
    | (with_reducible refine (less_foldl (fun l x => ?_)).trans ?_)
    | split
    | simp [less_ite]
    | rfl)

@[simp] theorem updateArm_keep (l : Live) (sess : Nat) (restart : Bool) (m : Nat) (h : 70287504 ||| m = m) : less m (Live.updateArm l sess restart).1 = less m l := less_le h (by
  unfold Live.updateArm
  repeat' first
    | (with_reducible rfl)
    | (intro _)
    | (simp [less_ite]; done)
    | (with_reducible refine (less_forL (fun l x => ?_)).trans ?_)
    | (with_reducible refine (less_each (fun l x => ?_)).trans ?_)
    | (with_reducible refine (less_foldl (fun l x => ?_)).trans ?_)
    | split
    | simp [less_ite]
    | rfl)

@[simp] theorem updateConfirm_keep (l : Live) (env : FuseEnv) (m : Nat) (h : 70287360 ||| m = m) : less m (Live.updateConfirm l env).1 = less m l := less_le h (by
  unfold Live.updateConfirm
  repeat' first
    | (with_reducible rfl)
    | (intro _)
    | (simp [less_ite]; done)
    | (with_reducible refine (less_forL (fun l x => ?_)).trans ?_)
    | (with_reducible refine (less_each (fun l x => ?_)).trans ?_)
    | (with_reducible refine (less_foldl (fun l x => ?_)).trans ?_)
    | split
    | simp [less_ite]
    | rfl)

@[simp] theorem recReply_keep (l : Live) (status why : Nat) (m : Nat) (h : 2097152 ||| m = m) : less m (Live.recReply l status why).1 = less m l := less_le h (by
  unfold Live.recReply
  repeat' first
    | (with_reducible rfl)
    | (intro _)
    | (simp [less_ite]; done)
    | (with_reducible refine (less_forL (fun l x => ?_)).trans ?_)
    | (with_reducible refine (less_each (fun l x => ?_)).trans ?_)
    | (with_reducible refine (less_foldl (fun l x => ?_)).trans ?_)
    | split
    | simp [less_ite]
    | rfl)

@[simp] theorem recoveryEnter_keep (l : Live) (m : Nat) (h : 2097168 ||| m = m) : less m (Live.recoveryEnter l).1 = less m l := less_le h (by
  unfold Live.recoveryEnter
  repeat' first
    | (with_reducible rfl)
    | (intro _)
    | (simp [less_ite]; done)
    | (with_reducible refine (less_forL (fun l x => ?_)).trans ?_)
    | (with_reducible refine (less_each (fun l x => ?_)).trans ?_)
    | (with_reducible refine (less_foldl (fun l x => ?_)).trans ?_)
    | split
    | simp [less_ite]
    | rfl)

@[simp] theorem recoveryBlock_keep (l : Live) (off : Nat) (crc : Word) (data : List Byte) (m : Nat) (h : 70254592 ||| m = m) : less m (Live.recoveryBlock l off crc data).1 = less m l := less_le h (by
  unfold Live.recoveryBlock
  repeat' first
    | (with_reducible rfl)
    | (intro _)
    | (simp [less_ite]; done)
    | (with_reducible refine (less_forL (fun l x => ?_)).trans ?_)
    | (with_reducible refine (less_each (fun l x => ?_)).trans ?_)
    | (with_reducible refine (less_foldl (fun l x => ?_)).trans ?_)
    | split
    | simp [less_ite]
    | rfl)

@[simp] theorem recoveryFinish_keep (l : Live) (m : Nat) (h : 70287376 ||| m = m) : less m (Live.recoveryFinish l).1 = less m l := less_le h (by
  unfold Live.recoveryFinish
  repeat' first
    | (with_reducible rfl)
    | (intro _)
    | (simp [less_ite]; done)
    | (with_reducible refine (less_forL (fun l x => ?_)).trans ?_)
    | (with_reducible refine (less_each (fun l x => ?_)).trans ?_)
    | (with_reducible refine (less_foldl (fun l x => ?_)).trans ?_)
    | split
    | simp [less_ite]
    | rfl)

@[simp] theorem recoveryAbort_keep (l : Live) (m : Nat) (h : 2097152 ||| m = m) : less m (Live.recoveryAbort l).1 = less m l := less_le h (by
  unfold Live.recoveryAbort
  repeat' first
    | (with_reducible rfl)
    | (intro _)
    | (simp [less_ite]; done)
    | (with_reducible refine (less_forL (fun l x => ?_)).trans ?_)
    | (with_reducible refine (less_each (fun l x => ?_)).trans ?_)
    | (with_reducible refine (less_foldl (fun l x => ?_)).trans ?_)
    | split
    | simp [less_ite]
    | rfl)

@[simp] theorem setPins_keep (l : Live) (f : Pins → Pins) (m : Nat) (h : 8388608 ||| m = m) : less m (Live.setPins l f) = less m l := less_le h (by
  unfold Live.setPins
  repeat' first
    | (with_reducible rfl)
    | (intro _)
    | (simp [less_ite]; done)
    | (with_reducible refine (less_forL (fun l x => ?_)).trans ?_)
    | (with_reducible refine (less_each (fun l x => ?_)).trans ?_)
    | (with_reducible refine (less_foldl (fun l x => ?_)).trans ?_)
    | split
    | simp [less_ite]
    | rfl)

@[simp] theorem dbgEnd_keep (l : Live) (m : Nat) (h : 2097152 ||| m = m) : less m (Live.dbgEnd l) = less m l := less_le h (by
  unfold Live.dbgEnd
  repeat' first
    | (with_reducible rfl)
    | (intro _)
    | (simp [less_ite]; done)
    | (with_reducible refine (less_forL (fun l x => ?_)).trans ?_)
    | (with_reducible refine (less_each (fun l x => ?_)).trans ?_)
    | (with_reducible refine (less_foldl (fun l x => ?_)).trans ?_)
    | split
    | simp [less_ite]
    | rfl)

@[simp] theorem dbgSay_keep (l : Live) (a : DbgAns) (out : List Byte) (m : Nat) (h : 8388608 ||| m = m) : less m (Live.dbgSay l a out) = less m l := less_le h (by
  unfold Live.dbgSay
  repeat' first
    | (with_reducible rfl)
    | (intro _)
    | (simp [less_ite]; done)
    | (with_reducible refine (less_forL (fun l x => ?_)).trans ?_)
    | (with_reducible refine (less_each (fun l x => ?_)).trans ?_)
    | (with_reducible refine (less_foldl (fun l x => ?_)).trans ?_)
    | split
    | simp [less_ite]
    | rfl)

@[simp] theorem dbgFull_keep (l : Live) (f : Live → Live) (m : Nat) (h : 8388608 ||| m = m) (hf : ∀ l, less m (f l) = less m l) :
    less m (l.dbgFull f) = less m l := by
  have e (x : Live) (a : DbgAns) (o : List Byte) : less m (x.dbgSay a o) = less m x := less_le h (by simp)
  unfold Live.dbgFull
  repeat' split
  all_goals simp [hf, e]

@[simp] theorem dbgLease_keep (l : Live) (f : Live → Live) (m : Nat) (h : 8388608 ||| m = m) (hf : ∀ l, less m (f l) = less m l) :
    less m (l.dbgLease f) = less m l := by
  have e (x : Live) (a : DbgAns) (o : List Byte) : less m (x.dbgSay a o) = less m x := less_le h (by simp)
  unfold Live.dbgLease
  repeat' split
  all_goals simp [hf, e]

@[simp] theorem dbgRead_keep (l : Live) (out : List Byte) (m : Nat) (h : 8388608 ||| m = m) : less m (Live.dbgRead l out) = less m l := less_le h (by
  unfold Live.dbgRead
  repeat' first
    | (with_reducible rfl)
    | (intro _)
    | (simp [less_ite]; done)
    | (with_reducible refine (less_forL (fun l x => ?_)).trans ?_)
    | (with_reducible refine (less_each (fun l x => ?_)).trans ?_)
    | (with_reducible refine (less_foldl (fun l x => ?_)).trans ?_)
    | split
    | simp [less_ite]
    | rfl)

@[simp] theorem modDbg_keep (l : Live) (f : Debug → Debug) (m : Nat) (h : 2097152 ||| m = m) : less m (Live.modDbg l f) = less m l := less_le h (by
  unfold Live.modDbg
  repeat' first
    | (with_reducible rfl)
    | (intro _)
    | (simp [less_ite]; done)
    | (with_reducible refine (less_forL (fun l x => ?_)).trans ?_)
    | (with_reducible refine (less_each (fun l x => ?_)).trans ?_)
    | (with_reducible refine (less_foldl (fun l x => ?_)).trans ?_)
    | split
    | simp [less_ite]
    | rfl)

@[simp] theorem dbgAccess_keep (l newest : Live) (r : DbgReq) (m : Nat) (h : 144703488 ||| m = m) : less m (Live.dbgAccess l newest r) = less m l := less_le h (by
  unfold Live.dbgAccess
  repeat' first
    | (with_reducible rfl)
    | (intro _)
    | (simp [less_ite]; done)
    | (with_reducible refine (less_forL (fun l x => ?_)).trans ?_)
    | (with_reducible refine (less_each (fun l x => ?_)).trans ?_)
    | (with_reducible refine (less_foldl (fun l x => ?_)).trans ?_)
    | split
    | simp [less_ite]
    | rfl)

end Sys2Proof.Machine.Live
end

