-- ==== Sys2Proof/Laws/KeepMessages.lean ====
section
/-! SUPPORT. What each operation of `Machine/Messages.lean` leaves alone: it changes no part of the state but those whose bits stand
in the number that its lemma names (the parts are numbered in `Laws/Parts.lean`). -/
namespace Sys2Proof.Machine.Live

set_option linter.unusedTactic false
set_option linter.unreachableTactic false
set_option linter.unusedSimpArgs false

@[simp] theorem arrive_keep (l : Live) (q : Req) (frame : List Byte) (m : Nat) (h : 68419584 ||| m = m) : less m (Live.arrive l q frame) = less m l := less_le h (by
  unfold Live.arrive
  repeat' first
    | (with_reducible rfl)
    | (intro _)
    | (simp [less_ite]; done)
    | (with_reducible refine (less_forL (fun l x => ?_)).trans ?_)
    | (with_reducible refine (less_each (fun l x => ?_)).trans ?_)
    | (with_reducible refine (less_foldl (fun l x => ?_)).trans ?_)
    | split
    | simp [less_ite]
    | rfl)

@[simp] theorem takeReq_keep (l : Live) (q : Req) (m : Nat) (h : 68419584 ||| m = m) : less m (Live.takeReq l q) = less m l := less_le h (by
  unfold Live.takeReq
  repeat' first
    | (with_reducible rfl)
    | (intro _)
    | (simp [less_ite]; done)
    | (with_reducible refine (less_forL (fun l x => ?_)).trans ?_)
    | (with_reducible refine (less_each (fun l x => ?_)).trans ?_)
    | (with_reducible refine (less_foldl (fun l x => ?_)).trans ?_)
    | split
    | simp [less_ite]
    | rfl)

@[simp] theorem setBatch_keep (l : Live) (b : List Nat) (m : Nat) (h : 262144 ||| m = m) : less m (Live.setBatch l b) = less m l := less_le h (by
  unfold Live.setBatch
  repeat' first
    | (with_reducible rfl)
    | (intro _)
    | (simp [less_ite]; done)
    | (with_reducible refine (less_forL (fun l x => ?_)).trans ?_)
    | (with_reducible refine (less_each (fun l x => ?_)).trans ?_)
    | (with_reducible refine (less_foldl (fun l x => ?_)).trans ?_)
    | split
    | simp [less_ite]
    | rfl)

@[simp] theorem answer_keep (l : Live) (q : Req) (status : Nat) (data : List Byte) (m : Nat) (h : 68419584 ||| m = m) : less m (Live.answer l q status data) = less m l := less_le h (by
  unfold Live.answer
  repeat' first
    | (with_reducible rfl)
    | (intro _)
    | (simp [less_ite]; done)
    | (with_reducible refine (less_forL (fun l x => ?_)).trans ?_)
    | (with_reducible refine (less_each (fun l x => ?_)).trans ?_)
    | (with_reducible refine (less_foldl (fun l x => ?_)).trans ?_)
    | split
    | simp [less_ite]
    | rfl)

@[simp] theorem answerKept_keep (l : Live) (q : Req) (status : Nat) (data : List Byte) (m : Nat) (h : 68419584 ||| m = m) : less m (Live.answerKept l q status data) = less m l := less_le h (by
  unfold Live.answerKept
  repeat' first
    | (with_reducible rfl)
    | (intro _)
    | (simp [less_ite]; done)
    | (with_reducible refine (less_forL (fun l x => ?_)).trans ?_)
    | (with_reducible refine (less_each (fun l x => ?_)).trans ?_)
    | (with_reducible refine (less_foldl (fun l x => ?_)).trans ?_)
    | split
    | simp [less_ite]
    | rfl)

@[simp] theorem state_prune_keep (s : State) (m : Nat) (h : 0 ||| m = m) : less m (State.prune s).live = less m s.live := less_le h (by
  unfold State.prune
  repeat' first
    | (with_reducible rfl)
    | (intro _)
    | (simp [less_ite]; done)
    | (with_reducible refine (less_forL (fun l x => ?_)).trans ?_)
    | (with_reducible refine (less_each (fun l x => ?_)).trans ?_)
    | (with_reducible refine (less_foldl (fun l x => ?_)).trans ?_)
    | split
    | simp [less_ite]
    | rfl)

@[simp] theorem touchSess_keep (l : Live) (n : Nat) (m : Nat) (h : 393216 ||| m = m) : less m (Live.touchSess l n) = less m l := less_le h (by
  unfold Live.touchSess
  repeat' first
    | (with_reducible rfl)
    | (intro _)
    | (simp [less_ite]; done)
    | (with_reducible refine (less_forL (fun l x => ?_)).trans ?_)
    | (with_reducible refine (less_each (fun l x => ?_)).trans ?_)
    | (with_reducible refine (less_foldl (fun l x => ?_)).trans ?_)
    | split
    | simp [less_ite]
    | rfl)

@[simp] theorem state_serveOp_keep (s : State) (q : Req) (check : Check) (run : State → Nat → Nat → Run) (m : Nat) (h : 68419584 ||| m = m)
    (hr : ∀ s n c, less m (run s n c).1.live = less m s.live) : less m (s.serveOp q check run).live = less m s.live := by
  unfold State.serveOp
  extract_lets n c st x1 x2
  split
  · exact less_le h (by simp)
  · split
    · exact less_le h (by simp)
    · have e1 : less m x1 = less m s.live := less_le h (by simp only [x1]; split <;> simp)
      have e2 : less m x2.1.live = less m s.live := (hr _ _ _).trans e1
      clear_value x2
      split
      · exact (less_le h (by simp)).trans e2
      · exact e2

@[simp] theorem state_serveFw_keep (s : State) (q : Req) (check : Check) (run : State → Nat → Nat → Run) (m : Nat) (h : 68550656 ||| m = m)
    (hr : ∀ s n c, less m (run s n c).1.live = less m s.live) : less m (s.serveFw q check run).live = less m s.live := by
  unfold State.serveFw
  extract_lets x1 x2 n k no x3 x4
  have e1 : less m x1 = less m s.live := less_le h (by simp [x1])
  have hs : 68419584 ||| m = m := by rw [← h, ← Nat.or_assoc]; rfl
  have e2 (st : Nat) : less m (no st).live = less m s.live :=
    (less_le (x := x1.answer q st []) (y := x1) h (by simp)).trans e1
  have e3 : less m x4.live = less m s.live :=
    (less_le (x := x1.touchSess n) (y := x1) h (by simp)).trans e1
  split
  · exact e2 _
  · split
    · split
      · exact (state_serveOp_keep x2 q check run m hs hr).trans e1
      · exact e2 _
    · split
      · exact e2 _
      · split
        · exact (less_le (y := x3) h (by simp)).trans e3
        · repeat' split
          all_goals first
            | exact (state_serveOp_keep x4 q check run m hs hr).trans e3
            | exact (less_le (x := x3.answer q 2 []) (y := x3) h (by simp)).trans e3

@[simp] theorem respRead_keep (l : Live) (q : Req) (m : Nat) (h : 68419584 ||| m = m) : less m (Live.respRead l q) = less m l := less_le h (by
  unfold Live.respRead
  repeat' first
    | (with_reducible rfl)
    | (intro _)
    | (simp [less_ite]; done)
    | (with_reducible refine (less_forL (fun l x => ?_)).trans ?_)
    | (with_reducible refine (less_each (fun l x => ?_)).trans ?_)
    | (with_reducible refine (less_foldl (fun l x => ?_)).trans ?_)
    | split
    | simp [less_ite]
    | rfl)

@[simp] theorem respond_keep (l : Live) (q : Req) (m : Nat) (h : 68943872 ||| m = m) : less m (Live.respond l q) = less m l := less_le h (by
  unfold Live.respond
  repeat' first
    | (with_reducible rfl)
    | (intro _)
    | (simp [less_ite]; done)
    | (with_reducible refine (less_forL (fun l x => ?_)).trans ?_)
    | (with_reducible refine (less_each (fun l x => ?_)).trans ?_)
    | (with_reducible refine (less_foldl (fun l x => ?_)).trans ?_)
    | split
    | simp [less_ite]
    | rfl)

@[simp] theorem state_serveTurn_keep (s : State) (q : Req) (check : Check) (run : State → Nat → Nat → Run) (m : Nat) (h : 68550656 ||| m = m)
    (hr : ∀ s n c, less m (run s n c).1.live = less m s.live) : less m (s.serveTurn q check run).live = less m s.live := by
  unfold State.serveTurn
  extract_lets p b
  split
  · exact (state_serveFw_keep _ q check run m (by rw [← h, ← Nat.or_assoc]; rfl) hr).trans (less_le h (by simp))
  · exact less_le h (by simp)

@[simp] theorem state_serve_keep (s : State) (q : Req) (check : Check) (run : State → Nat → Nat → Run) (m : Nat) (h : 69074944 ||| m = m)
    (hr : ∀ s n c, less m (run s n c).1.live = less m s.live) : less m (s.serve q check run).live = less m s.live := by
  unfold State.serve
  split
  · rfl
  · split
    · rfl
    · exact less_le h (by simp)
    · exact state_serveTurn_keep s q check run m (by rw [← h, ← Nat.or_assoc]; rfl) hr
    · exact state_serveTurn_keep s q check run m (by rw [← h, ← Nat.or_assoc]; rfl) hr

@[simp] theorem openSess_keep (l : Live) (port cls : Nat) (m : Nat) (h : 134479872 ||| m = m) : less m (Live.openSess l port cls).1 = less m l := less_le h (by
  unfold Live.openSess
  repeat' first
    | (with_reducible rfl)
    | (intro _)
    | (simp [less_ite]; done)
    | (with_reducible refine (less_forL (fun l x => ?_)).trans ?_)
    | (with_reducible refine (less_each (fun l x => ?_)).trans ?_)
    | (with_reducible refine (less_foldl (fun l x => ?_)).trans ?_)
    | split
    | simp [less_ite]
    | rfl)

@[simp] theorem authFailed_keep (l : Live) (q : CntAttr) (n port : Nat) (m : Nat) (h : 70680592 ||| m = m) : less m (Live.authFailed l q n port) = less m l := less_le h (by
  unfold Live.authFailed
  repeat' first
    | (with_reducible rfl)
    | (intro _)
    | (simp [less_ite]; done)
    | (with_reducible refine (less_forL (fun l x => ?_)).trans ?_)
    | (with_reducible refine (less_each (fun l x => ?_)).trans ?_)
    | (with_reducible refine (less_foldl (fun l x => ?_)).trans ?_)
    | split
    | simp [less_ite]
    | rfl)

@[simp] theorem authSess_keep (l : Live) (n : Nat) (hmac : List Byte) (m : Nat) (h : 70680592 ||| m = m) : less m (Live.authSess l n hmac).1 = less m l := less_le h (by
  unfold Live.authSess
  repeat' first
    | (with_reducible rfl)
    | (intro _)
    | (simp [less_ite]; done)
    | (with_reducible refine (less_forL (fun l x => ?_)).trans ?_)
    | (with_reducible refine (less_each (fun l x => ?_)).trans ?_)
    | (with_reducible refine (less_foldl (fun l x => ?_)).trans ?_)
    | split
    | simp [less_ite]
    | rfl)

@[simp] theorem piSet_keep (l : Live) (oid w : Nat) (v : Word) (m : Nat) (h : 17301504 ||| m = m) : less m (Live.piSet l oid w v) = less m l := less_le h (by
  unfold Live.piSet
  repeat' first
    | (with_reducible rfl)
    | (intro _)
    | (simp [less_ite]; done)
    | (with_reducible refine (less_forL (fun l x => ?_)).trans ?_)
    | (with_reducible refine (less_each (fun l x => ?_)).trans ?_)
    | (with_reducible refine (less_foldl (fun l x => ?_)).trans ?_)
    | split
    | simp [less_ite]
    | rfl)

@[simp] theorem writeNow_keep (l : Live) (oid w : Nat) (v : Word) (m : Nat) (h : 85753856 ||| m = m) : less m (Live.writeNow l oid w v) = less m l := less_le h (by
  unfold Live.writeNow
  repeat' first
    | (with_reducible rfl)
    | (intro _)
    | (simp [less_ite]; done)
    | (with_reducible refine (less_forL (fun l x => ?_)).trans ?_)
    | (with_reducible refine (less_each (fun l x => ?_)).trans ?_)
    | (with_reducible refine (less_foldl (fun l x => ?_)).trans ?_)
    | split
    | simp [less_ite]
    | rfl)

@[simp] theorem writeShadow_keep (l : Live) (oid : Nat) (ws : List (Nat × Word)) (m : Nat) (h : 131072 ||| m = m) : less m (Live.writeShadow l oid ws) = less m l := less_le h (by
  unfold Live.writeShadow
  repeat' first
    | (with_reducible rfl)
    | (intro _)
    | (simp [less_ite]; done)
    | (with_reducible refine (less_forL (fun l x => ?_)).trans ?_)
    | (with_reducible refine (less_each (fun l x => ?_)).trans ?_)
    | (with_reducible refine (less_foldl (fun l x => ?_)).trans ?_)
    | split
    | simp [less_ite]
    | rfl)

@[simp] theorem writeObj_keep (l : Live) (body : List Byte) (n : Nat) (m : Nat) (h : 119439360 ||| m = m) : less m (Live.writeObj l body n).1 = less m l := less_le h (by
  unfold Live.writeObj
  repeat' first
    | (with_reducible rfl)
    | (intro _)
    | (simp [less_ite]; done)
    | (with_reducible refine (less_forL (fun l x => ?_)).trans ?_)
    | (with_reducible refine (less_each (fun l x => ?_)).trans ?_)
    | (with_reducible refine (less_foldl (fun l x => ?_)).trans ?_)
    | split
    | simp [less_ite]
    | rfl)

@[simp] theorem state_write_keep (s : State) (body : List Byte) (n : Nat) (m : Nat) (h : 134217726 ||| m = m) : less m (State.write s body n).1.live = less m s.live := less_le h (by
  unfold State.write
  repeat' first
    | (with_reducible rfl)
    | (intro _)
    | (simp [less_ite]; done)
    | (with_reducible refine (less_forL (fun l x => ?_)).trans ?_)
    | (with_reducible refine (less_each (fun l x => ?_)).trans ?_)
    | (with_reducible refine (less_foldl (fun l x => ?_)).trans ?_)
    | split
    | simp [less_ite]
    | rfl)

@[simp] theorem state_pin_keep (s : State) (n : Nat) (m : Nat) (h : 262144 ||| m = m) : less m (State.pin s n).1.live = less m s.live := less_le h (by
  unfold State.pin
  repeat' first
    | (with_reducible rfl)
    | (intro _)
    | (simp [less_ite]; done)
    | (with_reducible refine (less_forL (fun l x => ?_)).trans ?_)
    | (with_reducible refine (less_each (fun l x => ?_)).trans ?_)
    | (with_reducible refine (less_foldl (fun l x => ?_)).trans ?_)
    | split
    | simp [less_ite]
    | rfl)

@[simp] theorem state_unpin_keep (s : State) (n g : Nat) (m : Nat) (h : 262144 ||| m = m) : less m (State.unpin s n g).1.live = less m s.live := less_le h (by
  unfold State.unpin
  repeat' first
    | (with_reducible rfl)
    | (intro _)
    | (simp [less_ite]; done)
    | (with_reducible refine (less_forL (fun l x => ?_)).trans ?_)
    | (with_reducible refine (less_each (fun l x => ?_)).trans ?_)
    | (with_reducible refine (less_foldl (fun l x => ?_)).trans ?_)
    | split
    | simp [less_ite]
    | rfl)

@[simp] theorem txnOpen_keep (l : Live) (n : Nat) (m : Nat) (h : 131072 ||| m = m) : less m (Live.txnOpen l n).1 = less m l := less_le h (by
  unfold Live.txnOpen
  repeat' first
    | (with_reducible rfl)
    | (intro _)
    | (simp [less_ite]; done)
    | (with_reducible refine (less_forL (fun l x => ?_)).trans ?_)
    | (with_reducible refine (less_each (fun l x => ?_)).trans ?_)
    | (with_reducible refine (less_foldl (fun l x => ?_)).trans ?_)
    | split
    | simp [less_ite]
    | rfl)

@[simp] theorem state_commit_keep (s : State) (q : Req) (n cls : Nat) (m : Nat) (h : 68616448 ||| m = m) : less m (State.commit s q n cls).1.live = less m s.live := less_le h (by
  unfold State.commit
  repeat' first
    | (with_reducible rfl)
    | (intro _)
    | (simp [less_ite]; done)
    | (with_reducible refine (less_forL (fun l x => ?_)).trans ?_)
    | (with_reducible refine (less_each (fun l x => ?_)).trans ?_)
    | (with_reducible refine (less_foldl (fun l x => ?_)).trans ?_)
    | split
    | simp [less_ite]
    | rfl)

@[simp] theorem imageWrite_keep (l : Live) (n off : Nat) (data : List Byte) (m : Nat) (h : 131072 ||| m = m) : less m (Live.imageWrite l n off data).1 = less m l := less_le h (by
  unfold Live.imageWrite
  repeat' first
    | (with_reducible rfl)
    | (intro _)
    | (simp [less_ite]; done)
    | (with_reducible refine (less_forL (fun l x => ?_)).trans ?_)
    | (with_reducible refine (less_each (fun l x => ?_)).trans ?_)
    | (with_reducible refine (less_foldl (fun l x => ?_)).trans ?_)
    | split
    | simp [less_ite]
    | rfl)

@[simp] theorem eventPoll_keep (l : Live) (n most : Nat) (m : Nat) (h : 68419584 ||| m = m) : less m (Live.eventPoll l n most).1 = less m l := less_le h (by
  unfold Live.eventPoll
  repeat' first
    | (with_reducible rfl)
    | (intro _)
    | (simp [less_ite]; done)
    | (with_reducible refine (less_forL (fun l x => ?_)).trans ?_)
    | (with_reducible refine (less_each (fun l x => ?_)).trans ?_)
    | (with_reducible refine (less_foldl (fun l x => ?_)).trans ?_)
    | split
    | simp [less_ite]
    | rfl)

@[simp] theorem counterRead_keep (l : Live) (first count : Nat) (clear : Bool) (m : Nat) (h : 1048576 ||| m = m) : less m (Live.counterRead l first count clear).1 = less m l := less_le h (by
  unfold Live.counterRead
  repeat' first
    | (with_reducible rfl)
    | (intro _)
    | (simp [less_ite]; done)
    | (with_reducible refine (less_forL (fun l x => ?_)).trans ?_)
    | (with_reducible refine (less_each (fun l x => ?_)).trans ?_)
    | (with_reducible refine (less_foldl (fun l x => ?_)).trans ?_)
    | split
    | simp [less_ite]
    | rfl)

@[simp] theorem disCount_keep (l : Live) (m : Nat) (h : 262144 ||| m = m) : less m (Live.disCount l) = less m l := less_le h (by
  unfold Live.disCount
  repeat' first
    | (with_reducible rfl)
    | (intro _)
    | (simp [less_ite]; done)
    | (with_reducible refine (less_forL (fun l x => ?_)).trans ?_)
    | (with_reducible refine (less_each (fun l x => ?_)).trans ?_)
    | (with_reducible refine (less_foldl (fun l x => ?_)).trans ?_)
    | split
    | simp [less_ite]
    | rfl)

@[simp] theorem disReconcile_keep (l : Live) (m : Nat) (h : 262144 ||| m = m) : less m (Live.disReconcile l) = less m l := less_le h (by
  unfold Live.disReconcile
  repeat' first
    | (with_reducible rfl)
    | (intro _)
    | (simp [less_ite]; done)
    | (with_reducible refine (less_forL (fun l x => ?_)).trans ?_)
    | (with_reducible refine (less_each (fun l x => ?_)).trans ?_)
    | (with_reducible refine (less_foldl (fun l x => ?_)).trans ?_)
    | split
    | simp [less_ite]
    | rfl)

end Sys2Proof.Machine.Live
end

