-- ==== Sys2Proof/Laws/KeepPorts.lean ====
section
/-! SUPPORT. What each operation of `Machine/Ports.lean` leaves alone: it changes no part of the state but those whose bits stand
in the number that its lemma names (the parts are numbered in `Laws/Parts.lean`). -/
namespace Sys2Proof.Machine.Live

set_option linter.unusedTactic false
set_option linter.unreachableTactic false
set_option linter.unusedSimpArgs false

@[simp] theorem portWrite_keep (l : Live) (port : Fin 3) (b : List Byte) (m : Nat) (h : 68419584 ||| m = m) : less m (Live.portWrite l port b).1 = less m l := less_le h (by
  unfold Live.portWrite
  repeat' first
    | (with_reducible rfl)
    | (intro _)
    | (simp [less_ite]; done)
    | (with_reducible refine (less_forL (fun l x => ?_)).trans ?_)
    | (with_reducible refine (less_each (fun l x => ?_)).trans ?_)
    | (with_reducible refine (less_foldl (fun l x => ?_)).trans ?_)
    | split
    | simp [less_ite]
    | rfl)

@[simp] theorem state_consume_keep (s : State) (port : Nat) (m : Nat) (h : 134217726 ||| m = m) : less m (State.consume s port).live = less m s.live := less_le h (by
  unfold State.consume
  repeat' first
    | (with_reducible rfl)
    | (intro _)
    | (simp [less_ite]; done)
    | (with_reducible refine (less_forL (fun l x => ?_)).trans ?_)
    | (with_reducible refine (less_each (fun l x => ?_)).trans ?_)
    | (with_reducible refine (less_foldl (fun l x => ?_)).trans ?_)
    | split
    | simp [less_ite]
    | rfl)

@[simp] theorem state_readDone_keep (s : State) (port n : Nat) (m : Nat) (h : 134217726 ||| m = m) : less m (State.readDone s port n).live = less m s.live := less_le h (by
  unfold State.readDone
  repeat' first
    | (with_reducible rfl)
    | (intro _)
    | (simp [less_ite]; done)
    | (with_reducible refine (less_forL (fun l x => ?_)).trans ?_)
    | (with_reducible refine (less_each (fun l x => ?_)).trans ?_)
    | (with_reducible refine (less_foldl (fun l x => ?_)).trans ?_)
    | split
    | simp [less_ite]
    | rfl)

@[simp] theorem portOut_keep (l : Live) (port : Nat) (out : List Byte) (acks : List Bool) (m : Nat) (h : 262144 ||| m = m) : less m (Live.portOut l port out acks) = less m l := less_le h (by
  unfold Live.portOut
  repeat' first
    | (with_reducible rfl)
    | (intro _)
    | (simp [less_ite]; done)
    | (with_reducible refine (less_forL (fun l x => ?_)).trans ?_)
    | (with_reducible refine (less_each (fun l x => ?_)).trans ?_)
    | (with_reducible refine (less_foldl (fun l x => ?_)).trans ?_)
    | split
    | simp [less_ite]
    | rfl)

@[simp] theorem twTimeout_keep (l : Live) (sda : Bool) (m : Nat) (h : 67665920 ||| m = m) : less m (Live.twTimeout l sda) = less m l := less_le h (by
  unfold Live.twTimeout
  repeat' first
    | (with_reducible rfl)
    | (intro _)
    | (simp [less_ite]; done)
    | (with_reducible refine (less_forL (fun l x => ?_)).trans ?_)
    | (with_reducible refine (less_each (fun l x => ?_)).trans ?_)
    | (with_reducible refine (less_foldl (fun l x => ?_)).trans ?_)
    | split
    | simp [less_ite]
    | rfl)

@[simp] theorem piIdle_keep (l : Live) (p : Nat) (m : Nat) (h : 17301504 ||| m = m) : less m (Live.piIdle l p) = less m l := less_le h (by
  unfold Live.piIdle
  repeat' first
    | (with_reducible rfl)
    | (intro _)
    | (simp [less_ite]; done)
    | (with_reducible refine (less_forL (fun l x => ?_)).trans ?_)
    | (with_reducible refine (less_each (fun l x => ?_)).trans ?_)
    | (with_reducible refine (less_foldl (fun l x => ?_)).trans ?_)
    | split
    | simp [less_ite]
    | rfl)

@[simp] theorem piFail_keep (l : Live) (p : Nat) (a : Asker) (m : Nat) (h : 85516288 ||| m = m) : less m (Live.piFail l p a) = less m l := less_le h (by
  unfold Live.piFail
  repeat' first
    | (with_reducible rfl)
    | (intro _)
    | (simp [less_ite]; done)
    | (with_reducible refine (less_forL (fun l x => ?_)).trans ?_)
    | (with_reducible refine (less_each (fun l x => ?_)).trans ?_)
    | (with_reducible refine (less_foldl (fun l x => ?_)).trans ?_)
    | split
    | simp [less_ite]
    | rfl)

@[simp] theorem piArb_keep (l : Live) (p : Nat) (a : Asker) (m : Nat) (h : 85516288 ||| m = m) : less m (Live.piArb l p a) = less m l := less_le h (by
  unfold Live.piArb
  repeat' first
    | (with_reducible rfl)
    | (intro _)
    | (simp [less_ite]; done)
    | (with_reducible refine (less_forL (fun l x => ?_)).trans ?_)
    | (with_reducible refine (less_each (fun l x => ?_)).trans ?_)
    | (with_reducible refine (less_foldl (fun l x => ?_)).trans ?_)
    | split
    | simp [less_ite]
    | rfl)

@[simp] theorem askerDone_keep (l : Live) (a : Asker) (data : List Byte) (m : Nat) (h : 57344 ||| m = m) : less m (Live.askerDone l a data) = less m l := less_le h (by
  unfold Live.askerDone
  repeat' first
    | (with_reducible rfl)
    | (intro _)
    | (simp [less_ite]; done)
    | (with_reducible refine (less_forL (fun l x => ?_)).trans ?_)
    | (with_reducible refine (less_each (fun l x => ?_)).trans ?_)
    | (with_reducible refine (less_foldl (fun l x => ?_)).trans ?_)
    | split
    | simp [less_ite]
    | rfl)

@[simp] theorem adcRef_keep (l : Live) (code : Half) (m : Nat) (h : 4227072 ||| m = m) : less m (Live.adcRef l code) = less m l := less_le h (by
  unfold Live.adcRef
  repeat' first
    | (with_reducible rfl)
    | (intro _)
    | (simp [less_ite]; done)
    | (with_reducible refine (less_forL (fun l x => ?_)).trans ?_)
    | (with_reducible refine (less_each (fun l x => ?_)).trans ?_)
    | (with_reducible refine (less_foldl (fun l x => ?_)).trans ?_)
    | split
    | simp [less_ite]
    | rfl)

@[simp] theorem adcStore_keep (l : Live) (c : Nat) (code : Half) (m : Nat) (h : 4194304 ||| m = m) : less m (Live.adcStore l c code) = less m l := less_le h (by
  unfold Live.adcStore
  repeat' first
    | (with_reducible rfl)
    | (intro _)
    | (simp [less_ite]; done)
    | (with_reducible refine (less_forL (fun l x => ?_)).trans ?_)
    | (with_reducible refine (less_each (fun l x => ?_)).trans ?_)
    | (with_reducible refine (less_foldl (fun l x => ?_)).trans ?_)
    | split
    | simp [less_ite]
    | rfl)

end Sys2Proof.Machine.Live
end

