-- ==== Sys2Proof/Laws/KeepBond.lean ====
section
/-! SUPPORT. What each operation of `Machine/Bond.lean` leaves alone: it changes no part of the state but those whose bits stand
in the number that its lemma names (the parts are numbered in `Laws/Parts.lean`). -/
namespace Sys2Proof.Machine.Live

set_option linter.unusedTactic false
set_option linter.unreachableTactic false
set_option linter.unusedSimpArgs false

@[simp] theorem bondWrite_keep (l : Live) (k : Nat) (v : Word) (m : Nat) (h : 93448960 ||| m = m) : less m (Live.bondWrite l k v) = less m l := less_le h (by
  unfold Live.bondWrite
  repeat' first
    | (with_reducible rfl)
    | (intro _)
    | (simp [less_ite]; done)
    | (with_reducible refine (less_forL (fun l x => ?_)).trans ?_)
    | (with_reducible refine (less_each (fun l x => ?_)).trans ?_)
    | (with_reducible refine (less_foldl (fun l x => ?_)).trans ?_)
    | split
    | simp [less_ite]
    | rfl)

@[simp] theorem bondWritesTaken_keep (l : Live) (m : Nat) (h : 127003392 ||| m = m) : less m (Live.bondWritesTaken l) = less m l := less_le h (by
  unfold Live.bondWritesTaken
  repeat' first
    | (with_reducible rfl)
    | (intro _)
    | (simp [less_ite]; done)
    | (with_reducible refine (less_forL (fun l x => ?_)).trans ?_)
    | (with_reducible refine (less_each (fun l x => ?_)).trans ?_)
    | (with_reducible refine (less_foldl (fun l x => ?_)).trans ?_)
    | split
    | simp [less_ite]
    | rfl)

@[simp] theorem envNote_keep (l : Live) (env : BondEnv) (m : Nat) (h : 4227088 ||| m = m) : less m (Live.envNote l env) = less m l := less_le h (by
  unfold Live.envNote
  repeat' first
    | (with_reducible rfl)
    | (intro _)
    | (simp [less_ite]; done)
    | (with_reducible refine (less_forL (fun l x => ?_)).trans ?_)
    | (with_reducible refine (less_each (fun l x => ?_)).trans ?_)
    | (with_reducible refine (less_foldl (fun l x => ?_)).trans ?_)
    | split
    | simp [less_ite]
    | rfl)

@[simp] theorem state_publish_keep (s : State) (m : Nat) (h : 262144 ||| m = m) : less m (State.publish s).live = less m s.live := less_le h (by
  unfold State.publish
  repeat' first
    | (with_reducible rfl)
    | (intro _)
    | (simp [less_ite]; done)
    | (with_reducible refine (less_forL (fun l x => ?_)).trans ?_)
    | (with_reducible refine (less_each (fun l x => ?_)).trans ?_)
    | (with_reducible refine (less_foldl (fun l x => ?_)).trans ?_)
    | split
    | simp [less_ite]
    | rfl)

@[simp] theorem state_republish_keep (s : State) (old : Nat) (m : Nat) (h : 262144 ||| m = m) : less m (State.republish s old).live = less m s.live := less_le h (by
  unfold State.republish
  repeat' first
    | (with_reducible rfl)
    | (intro _)
    | (simp [less_ite]; done)
    | (with_reducible refine (less_forL (fun l x => ?_)).trans ?_)
    | (with_reducible refine (less_each (fun l x => ?_)).trans ?_)
    | (with_reducible refine (less_foldl (fun l x => ?_)).trans ?_)
    | split
    | simp [less_ite]
    | rfl)

@[simp] theorem stnActivate_keep (l : Live) (new : Image) (m : Nat) (h : 68178880 ||| m = m) : less m (Live.stnActivate l new) = less m l := less_le h (by
  unfold Live.stnActivate
  repeat' first
    | (with_reducible rfl)
    | (intro _)
    | (simp [less_ite]; done)
    | (with_reducible refine (less_forL (fun l x => ?_)).trans ?_)
    | (with_reducible refine (less_each (fun l x => ?_)).trans ?_)
    | (with_reducible refine (less_foldl (fun l x => ?_)).trans ?_)
    | split
    | simp [less_ite]
    | rfl)

@[simp] theorem barActivate_keep (l : Live) (m : Nat) (h : 68178848 ||| m = m) : less m (Live.barActivate l) = less m l := less_le h (by
  unfold Live.barActivate
  repeat' first
    | (with_reducible rfl)
    | (intro _)
    | (simp [less_ite]; done)
    | (with_reducible refine (less_forL (fun l x => ?_)).trans ?_)
    | (with_reducible refine (less_each (fun l x => ?_)).trans ?_)
    | (with_reducible refine (less_foldl (fun l x => ?_)).trans ?_)
    | split
    | simp [less_ite]
    | rfl)

@[simp] theorem ringActivate_keep (l : Live) (n oldRate : Nat) (m : Nat) (h : 68279264 ||| m = m) : less m (Live.ringActivate l n oldRate) = less m l := less_le h (by
  unfold Live.ringActivate
  repeat' first
    | (with_reducible rfl)
    | (intro _)
    | (simp [less_ite]; done)
    | (with_reducible refine (less_forL (fun l x => ?_)).trans ?_)
    | (with_reducible refine (less_each (fun l x => ?_)).trans ?_)
    | (with_reducible refine (less_foldl (fun l x => ?_)).trans ?_)
    | split
    | simp [less_ite]
    | rfl)

@[simp] theorem lanesActivate_keep (l : Live) (m : Nat) (h : 256 ||| m = m) : less m (Live.lanesActivate l) = less m l := less_le h (by
  unfold Live.lanesActivate
  repeat' first
    | (with_reducible rfl)
    | (intro _)
    | (simp [less_ite]; done)
    | (with_reducible refine (less_forL (fun l x => ?_)).trans ?_)
    | (with_reducible refine (less_each (fun l x => ?_)).trans ?_)
    | (with_reducible refine (less_foldl (fun l x => ?_)).trans ?_)
    | split
    | simp [less_ite]
    | rfl)

@[simp] theorem lanesFinish_keep (l : Live) (m : Nat) (h : 202375424 ||| m = m) : less m (Live.lanesFinish l) = less m l := less_le h (by
  unfold Live.lanesFinish
  repeat' first
    | (with_reducible rfl)
    | (intro _)
    | (simp [less_ite]; done)
    | (with_reducible refine (less_forL (fun l x => ?_)).trans ?_)
    | (with_reducible refine (less_each (fun l x => ?_)).trans ?_)
    | (with_reducible refine (less_foldl (fun l x => ?_)).trans ?_)
    | split
    | simp [less_ite]
    | rfl)

@[simp] theorem tileDrop_keep (l : Live) (t : Nat) (m : Nat) (h : 256 ||| m = m) : less m (Live.tileDrop l t) = less m l := less_le h (by
  unfold Live.tileDrop
  repeat' first
    | (with_reducible rfl)
    | (intro _)
    | (simp [less_ite]; done)
    | (with_reducible refine (less_forL (fun l x => ?_)).trans ?_)
    | (with_reducible refine (less_each (fun l x => ?_)).trans ?_)
    | (with_reducible refine (less_foldl (fun l x => ?_)).trans ?_)
    | split
    | simp [less_ite]
    | rfl)

@[simp] theorem tileCreate_keep (l : Live) (t : Nat) (m : Nat) (h : 256 ||| m = m) : less m (Live.tileCreate l t) = less m l := less_le h (by
  unfold Live.tileCreate
  repeat' first
    | (with_reducible rfl)
    | (intro _)
    | (simp [less_ite]; done)
    | (with_reducible refine (less_forL (fun l x => ?_)).trans ?_)
    | (with_reducible refine (less_each (fun l x => ?_)).trans ?_)
    | (with_reducible refine (less_foldl (fun l x => ?_)).trans ?_)
    | split
    | simp [less_ite]
    | rfl)

@[simp] theorem tileChange_keep (l : Live) (old : Image) (t : Nat) (m : Nat) (h : 256 ||| m = m) : less m (Live.tileChange l old t) = less m l := less_le h (by
  unfold Live.tileChange
  repeat' first
    | (with_reducible rfl)
    | (intro _)
    | (simp [less_ite]; done)
    | (with_reducible refine (less_forL (fun l x => ?_)).trans ?_)
    | (with_reducible refine (less_each (fun l x => ?_)).trans ?_)
    | (with_reducible refine (less_foldl (fun l x => ?_)).trans ?_)
    | split
    | simp [less_ite]
    | rfl)

@[simp] theorem tilesActivate_keep (l : Live) (old : Image) (m : Nat) (h : 256 ||| m = m) : less m (Live.tilesActivate l old) = less m l := less_le h (by
  unfold Live.tilesActivate
  repeat' first
    | (with_reducible rfl)
    | (intro _)
    | (simp [less_ite]; done)
    | (with_reducible refine (less_forL (fun l x => ?_)).trans ?_)
    | (with_reducible refine (less_each (fun l x => ?_)).trans ?_)
    | (with_reducible refine (less_foldl (fun l x => ?_)).trans ?_)
    | split
    | simp [less_ite]
    | rfl)

@[simp] theorem railsActivate_keep (l : Live) (old : Live) (m : Nat) (h : 2560 ||| m = m) : less m (Live.railsActivate l old) = less m l := less_le h (by
  unfold Live.railsActivate
  repeat' first
    | (with_reducible rfl)
    | (intro _)
    | (simp [less_ite]; done)
    | (with_reducible refine (less_forL (fun l x => ?_)).trans ?_)
    | (with_reducible refine (less_each (fun l x => ?_)).trans ?_)
    | (with_reducible refine (less_foldl (fun l x => ?_)).trans ?_)
    | split
    | simp [less_ite]
    | rfl)

@[simp] theorem inputsActivate_keep (l : Live) (old : Live) (m : Nat) (h : 84939008 ||| m = m) : less m (Live.inputsActivate l old) = less m l := less_le h (by
  unfold Live.inputsActivate
  repeat' first
    | (with_reducible rfl)
    | (intro _)
    | (simp [less_ite]; done)
    | (with_reducible refine (less_forL (fun l x => ?_)).trans ?_)
    | (with_reducible refine (less_each (fun l x => ?_)).trans ?_)
    | (with_reducible refine (less_foldl (fun l x => ?_)).trans ?_)
    | split
    | simp [less_ite]
    | rfl)

@[simp] theorem stringsActivate_keep (l : Live) (old : Live) (start : Bool) (m : Nat) (h : 8429824 ||| m = m) : less m (Live.stringsActivate l old start) = less m l := less_le h (by
  unfold Live.stringsActivate
  repeat' first
    | (with_reducible rfl)
    | (intro _)
    | (simp [less_ite]; done)
    | (with_reducible refine (less_forL (fun l x => ?_)).trans ?_)
    | (with_reducible refine (less_each (fun l x => ?_)).trans ?_)
    | (with_reducible refine (less_foldl (fun l x => ?_)).trans ?_)
    | split
    | simp [less_ite]
    | rfl)

@[simp] theorem pointsActivate_keep (l : Live) (m : Nat) (h : 16384 ||| m = m) : less m (Live.pointsActivate l) = less m l := less_le h (by
  unfold Live.pointsActivate
  repeat' first
    | (with_reducible rfl)
    | (intro _)
    | (simp [less_ite]; done)
    | (with_reducible refine (less_forL (fun l x => ?_)).trans ?_)
    | (with_reducible refine (less_each (fun l x => ?_)).trans ?_)
    | (with_reducible refine (less_foldl (fun l x => ?_)).trans ?_)
    | split
    | simp [less_ite]
    | rfl)

@[simp] theorem activateRest_keep (l : Live) (m : Nat) (h : 72716304 ||| m = m) : less m l.activateRest = less m l := less_le h (by
  unfold Live.activateRest
  extract_lets x1 x2 x3 x4 x5 x6 x7 x8
  have e1 : less 72716304 x1 = less 72716304 l := by simp [x1]
  have e4 : less 72716304 x4 = less 72716304 x1 := rfl
  have e6 : less 72716304 x6 = less 72716304 x4 := rfl
  have e9 : less 72716304 x8 = less 72716304 x6 := by simp [x8, x7]
  have e := e9.trans (e6.trans (e4.trans e1))
  rw [less_ite, gateSet_keep x8 _ (by decide), toRun_keep x8 _ _ (by decide), ite_self]
  exact e)

@[simp] theorem activateImage_keep (l : Live) (new : Image) (slot : Option Nat) (start : Bool) (m : Nat) (h : 232258544 ||| m = m) : less m (Live.activateImage l new slot start) = less m l := less_le h (by
  unfold Live.activateImage
  repeat' first
    | (with_reducible rfl)
    | (intro _)
    | (simp [less_ite]; done)
    | (with_reducible refine (less_forL (fun l x => ?_)).trans ?_)
    | (with_reducible refine (less_each (fun l x => ?_)).trans ?_)
    | (with_reducible refine (less_foldl (fun l x => ?_)).trans ?_)
    | split
    | simp [less_ite]
    | rfl)

@[simp] theorem sactProgram_keep (l : Live) (n : Nat) (ok : Bool) (m : Nat) (h : 163840 ||| m = m) : less m (Live.sactProgram l n ok) = less m l := less_le h (by
  unfold Live.sactProgram
  repeat' first
    | (with_reducible rfl)
    | (intro _)
    | (simp [less_ite]; done)
    | (with_reducible refine (less_forL (fun l x => ?_)).trans ?_)
    | (with_reducible refine (less_each (fun l x => ?_)).trans ?_)
    | (with_reducible refine (less_foldl (fun l x => ?_)).trans ?_)
    | split
    | simp [less_ite]
    | rfl)

@[simp] theorem activation_keep (l : Live) (sactOk : Bool) (m : Nat) (h : 232258544 ||| m = m) : less m (Live.activation l sactOk) = less m l := less_le h (by
  unfold Live.activation
  repeat' first
    | (with_reducible rfl)
    | (intro _)
    | (simp [less_ite]; done)
    | (with_reducible refine (less_forL (fun l x => ?_)).trans ?_)
    | (with_reducible refine (less_each (fun l x => ?_)).trans ?_)
    | (with_reducible refine (less_foldl (fun l x => ?_)).trans ?_)
    | split
    | simp [less_ite]
    | rfl)

@[simp] theorem fwBond_keep (l : Live) (m : Nat) (h : 70287488 ||| m = m) : less m (Live.fwBond l) = less m l := less_le h (by
  unfold Live.fwBond
  repeat' first
    | (with_reducible rfl)
    | (intro _)
    | (simp [less_ite]; done)
    | (with_reducible refine (less_forL (fun l x => ?_)).trans ?_)
    | (with_reducible refine (less_each (fun l x => ?_)).trans ?_)
    | (with_reducible refine (less_foldl (fun l x => ?_)).trans ?_)
    | split
    | simp [less_ite]
    | rfl)

@[simp] theorem bandBond_keep (l : Live) (m : Nat) (h : 68279264 ||| m = m) : less m (Live.bandBond l) = less m l := less_le h (by
  unfold Live.bandBond
  repeat' first
    | (with_reducible rfl)
    | (intro _)
    | (simp [less_ite]; done)
    | (with_reducible refine (less_forL (fun l x => ?_)).trans ?_)
    | (with_reducible refine (less_each (fun l x => ?_)).trans ?_)
    | (with_reducible refine (less_foldl (fun l x => ?_)).trans ?_)
    | split
    | simp [less_ite]
    | rfl)

@[simp] theorem isolateBond_keep (l : Live) (m : Nat) (h : 256 ||| m = m) : less m (Live.isolateBond l) = less m l := less_le h (by
  unfold Live.isolateBond
  repeat' first
    | (with_reducible rfl)
    | (intro _)
    | (simp [less_ite]; done)
    | (with_reducible refine (less_forL (fun l x => ?_)).trans ?_)
    | (with_reducible refine (less_each (fun l x => ?_)).trans ?_)
    | (with_reducible refine (less_foldl (fun l x => ?_)).trans ?_)
    | split
    | simp [less_ite]
    | rfl)

@[simp] theorem policyStart_keep (l : Live) (m : Nat) (h : 256 ||| m = m) : less m (Live.policyStart l) = less m l := less_le h (by
  unfold Live.policyStart
  repeat' first
    | (with_reducible rfl)
    | (intro _)
    | (simp [less_ite]; done)
    | (with_reducible refine (less_forL (fun l x => ?_)).trans ?_)
    | (with_reducible refine (less_each (fun l x => ?_)).trans ?_)
    | (with_reducible refine (less_foldl (fun l x => ?_)).trans ?_)
    | split
    | simp [less_ite]
    | rfl)

@[simp] theorem keeperPart_keep (l : Live) (sactOk : Bool) (m : Nat) (h : 134217720 ||| m = m) : less m (Live.keeperPart l sactOk) = less m l := less_le h (by
  unfold Live.keeperPart
  repeat' first
    | (with_reducible rfl)
    | (intro _)
    | (simp [less_ite]; done)
    | (with_reducible refine (less_forL (fun l x => ?_)).trans ?_)
    | (with_reducible refine (less_each (fun l x => ?_)).trans ?_)
    | (with_reducible refine (less_foldl (fun l x => ?_)).trans ?_)
    | split
    | simp [less_ite]
    | rfl)

@[simp] theorem flashLate_keep (l : Live) (sactOk : Bool) (m : Nat) (h : 2260992 ||| m = m) : less m (Live.flashLate l sactOk) = less m l := less_le h (by
  unfold Live.flashLate
  repeat' first
    | (with_reducible rfl)
    | (intro _)
    | (simp [less_ite]; done)
    | (with_reducible refine (less_forL (fun l x => ?_)).trans ?_)
    | (with_reducible refine (less_each (fun l x => ?_)).trans ?_)
    | (with_reducible refine (less_foldl (fun l x => ?_)).trans ?_)
    | split
    | simp [less_ite]
    | rfl)

@[simp] theorem bondWork_keep (l : Live) (env : BondEnv) (m : Nat) (h : 268435448 ||| m = m) : less m (Live.bondWork l env) = less m l := less_le h (by
  unfold Live.bondWork
  repeat' first
    | (with_reducible rfl)
    | (intro _)
    | (simp [less_ite]; done)
    | (with_reducible refine (less_forL (fun l x => ?_)).trans ?_)
    | (with_reducible refine (less_each (fun l x => ?_)).trans ?_)
    | (with_reducible refine (less_foldl (fun l x => ?_)).trans ?_)
    | split
    | simp [less_ite]
    | rfl)

@[simp] theorem nextBond_keep (l : Live) (m : Nat) (h : 14 ||| m = m) : less m l.nextBond = less m l := less_le h rfl

@[simp] theorem state_bondRun_keep (s : State) (env : BondEnv) (m : Nat) (h : 268435454 ||| m = m) : less m (State.bondRun s env).live = less m s.live := less_le h (by
  unfold State.bondRun
  repeat' first
    | (with_reducible rfl)
    | (intro _)
    | (simp [less_ite]; done)
    | (with_reducible refine (less_forL (fun l x => ?_)).trans ?_)
    | (with_reducible refine (less_each (fun l x => ?_)).trans ?_)
    | (with_reducible refine (less_foldl (fun l x => ?_)).trans ?_)
    | split
    | simp [less_ite]
    | rfl)

@[simp] theorem state_bondIdle_keep (s : State) (env : BondEnv) (m : Nat) (h : 134216700 ||| m = m) : less m (State.bondIdle s env).live = less m s.live := less_le h (by
  unfold State.bondIdle
  repeat' first
    | (with_reducible rfl)
    | (intro _)
    | (simp [less_ite]; done)
    | (with_reducible refine (less_forL (fun l x => ?_)).trans ?_)
    | (with_reducible refine (less_each (fun l x => ?_)).trans ?_)
    | (with_reducible refine (less_foldl (fun l x => ?_)).trans ?_)
    | split
    | simp [less_ite]
    | rfl)

end Sys2Proof.Machine.Live
end

