-- ==== Sys2Proof/Laws/Exec.lean ====
section
/-! SUPPORT. What each command leaves alone: every command ends in a next state, leaves the queue as it was, keeps the order
of the published generations, and changes no part of the state but those whose bits its lemma names (`Laws/Parts.lean`
numbers the parts; bit 28 stands for the published generations). -/
namespace Sys2Proof.Machine

set_option linter.unusedTactic false
set_option linter.unreachableTactic false
set_option linter.unusedSimpArgs false
set_option linter.unusedVariables false
set_option linter.tactic.unusedName false

/-- `t` differs from `s` in no part but those of `m`, and in no command of the queue. -/
structure State.Keeps (m : Nat) (s t : State) : Prop where
  pending : t.pending = s.pending
  live : Live.less m t.live = Live.less m s.live
  gens : m.testBit 28 = false → t.gens = s.gens
  rises : Tbl.rises s.gens → Tbl.rises t.gens

/-- The outcome is a next state that differs from `s` in no part but those of `m`. -/
def Only (m : Nat) (s : State) (o : Host.Outcome State Fault Refusal) : Prop := ∃ t, o = .next t ∧ State.Keeps m s t

theorem State.Keeps.refl (m : Nat) (s : State) : State.Keeps m s s := ⟨rfl, rfl, fun _ => rfl, id⟩

theorem State.Keeps.trans {m : Nat} {s t u : State} (a : State.Keeps m s t) (b : State.Keeps m t u) : State.Keeps m s u :=
  ⟨b.pending.trans a.pending, b.live.trans a.live, fun h => (b.gens h).trans (a.gens h), fun h => b.rises (a.rises h)⟩

/-- A new value of what the controller holds, with the queue and the generations as they were. -/
theorem State.Keeps.live_of {m : Nat} {s : State} {l : Live} (h : Live.less m l = Live.less m s.live) :
    State.Keeps m s { s with live := l } := ⟨rfl, h, fun _ => rfl, id⟩

theorem State.Keeps.mono {a m : Nat} {s t : State} (h : a ||| m = m) (k : State.Keeps a s t) : State.Keeps m s t :=
  ⟨k.pending, Live.less_le h k.live, fun hm => k.gens (by
    rw [← h, Nat.testBit_or, Bool.or_eq_false_iff] at hm
    exact hm.1), k.rises⟩

theorem only_same (m : Nat) (s : State) : Only m s s.same := ⟨s, rfl, .refl m s⟩

theorem only_next {m : Nat} {s t : State} (h : State.Keeps m s t) : Only m s (.next t) := ⟨t, rfl, h⟩

theorem only_upd {m : Nat} {s : State} {f : Live → Live} (h : Live.less m (f s.live) = Live.less m s.live) : Only m s (s.upd f) :=
  ⟨_, rfl, .live_of h⟩

theorem only_ite {m : Nat} {s : State} {p : Prop} [Decidable p] {a b : Host.Outcome State Fault Refusal}
    (ha : Only m s a) (hb : Only m s b) : Only m s (if p then a else b) := by
  split
  · exact ha
  · exact hb

/-! ### Requests -/

theorem State.Keeps.prune (m : Nat) (s : State) (h : m.testBit 28 = true) : State.Keeps m s s.prune :=
  ⟨rfl, rfl, fun e => by simp [h] at e, filter_rises _ _⟩

theorem keeps_serveOp (m : Nat) (s : State) (q : Req) (check : Check) (run : State → Nat → Nat → Run) (h : 68419584 ||| m = m)
    (hr : ∀ s n c, State.Keeps m s (run s n c).1) : State.Keeps m s (s.serveOp q check run) := by
  unfold State.serveOp
  extract_lets n c st x1 x2
  split
  · exact .live_of (Live.less_le h (by simp))
  · split
    · exact .live_of (Live.less_le h (by simp))
    · have e1 : State.Keeps m s { s with live := x1 } := .live_of (Live.less_le h (by simp only [x1]; split <;> simp))
      have e2 : State.Keeps m s x2.1 := e1.trans (hr _ _ _)
      clear_value x2
      split
      · exact e2.trans (.live_of (Live.less_le h (by simp)))
      · exact e2

theorem keeps_serveFw (m : Nat) (s : State) (q : Req) (check : Check) (run : State → Nat → Nat → Run) (h : 68550656 ||| m = m)
    (hr : ∀ s n c, State.Keeps m s (run s n c).1) : State.Keeps m s (s.serveFw q check run) := by
  unfold State.serveFw
  extract_lets x1 x2 n k no x3 x4
  have hs : 68419584 ||| m = m := by rw [← h, ← Nat.or_assoc]; rfl
  have e1 : State.Keeps m s x2 := .live_of (Live.less_le h (by simp [x1]))
  have e2 (st : Nat) : State.Keeps m s (no st) := e1.trans (.live_of (Live.less_le h (by simp [x2])))
  have e3 : State.Keeps m s x4 := e1.trans (.live_of (Live.less_le h (by simp [x3, x2])))
  split
  · exact e2 _
  · split
    · split
      · exact e1.trans (keeps_serveOp m x2 q check run hs hr)
      · exact e2 _
    · split
      · exact e2 _
      · split
        · exact e3.trans (.live_of (Live.less_le h (by simp [x4])))
        · repeat' split
          all_goals first
            | exact e3.trans (keeps_serveOp m x4 q check run hs hr)
            | exact e3.trans (.live_of (Live.less_le h (by simp [x4])))

theorem keeps_serveTurn (m : Nat) (s : State) (q : Req) (check : Check) (run : State → Nat → Nat → Run) (h : 68550656 ||| m = m)
    (hr : ∀ s n c, State.Keeps m s (run s n c).1) : State.Keeps m s (s.serveTurn q check run) := by
  unfold State.serveTurn
  extract_lets p b
  split
  · exact State.Keeps.trans (.live_of (Live.less_le h (by simp))) (keeps_serveFw m _ q check run h hr)
  · exact .live_of (Live.less_le h (by simp))

/-- A request changes what its own operation changes, and what an answer changes. -/
theorem keeps_serve (m : Nat) (s : State) (q : Req) (check : Check) (run : State → Nat → Nat → Run) (h : 69074944 ||| m = m)
    (hr : ∀ s n c, State.Keeps m s (run s n c).1) : State.Keeps m s (s.serve q check run) := by
  unfold State.serve
  split
  · exact .refl m s
  · split
    · exact .refl m s
    · exact .live_of (Live.less_le h (by simp))
    · exact keeps_serveTurn m s q check run (by rw [← h, ← Nat.or_assoc]; rfl) hr
    · exact keeps_serveTurn m s q check run (by rw [← h, ← Nat.or_assoc]; rfl) hr

theorem keeps_onLive (m : Nat) (f : Live → Nat → Nat → Live × Nat × List Byte) (h : ∀ l n c, Live.less m (f l n c).1 = Live.less m l) :
    ∀ s n c, State.Keeps m s (onLive f s n c).1 := fun _ _ _ => .live_of (h _ _ _)

theorem keeps_pin (m : Nat) (s : State) (n : Nat) (h : 268697600 ||| m = m) : State.Keeps m s (s.pin n).1 := by
  have hb : m.testBit 28 = true := by rw [← h, Nat.testBit_or]; rfl
  refine ⟨?_, Live.state_pin_keep s n m (by rw [← h, ← Nat.or_assoc]; rfl), fun e => by simp [hb] at e, ?_⟩
  · unfold State.pin; extract_lets; repeat' split
    all_goals rfl
  · intro r; unfold State.pin; extract_lets l g keep
    split
    · exact r
    · show Tbl.rises keep
      simp only [keep]; split
      · exact r
      · exact tset_rises _ _ _ r

theorem keeps_unpin (m : Nat) (s : State) (n g : Nat) (h : 268697600 ||| m = m) : State.Keeps m s (s.unpin n g).1 := by
  have hb : m.testBit 28 = true := by rw [← h, Nat.testBit_or]; rfl
  refine ⟨?_, Live.state_unpin_keep s n g m (by rw [← h, ← Nat.or_assoc]; rfl), fun e => by simp [hb] at e, ?_⟩
  · unfold State.unpin; split
    all_goals rfl
  · intro r; unfold State.unpin; split
    · exact filter_rises _ _ r
    · exact r

theorem keeps_write (m : Nat) (s : State) (b : List Byte) (n : Nat) (h : 402653182 ||| m = m) : State.Keeps m s (s.write b n).1 := by
  have hb : m.testBit 28 = true := by rw [← h, Nat.testBit_or]; rfl
  refine ⟨?_, Live.state_write_keep s b n m (by rw [← h, ← Nat.or_assoc]; rfl), fun e => by simp [hb] at e, ?_⟩
  · unfold State.write; extract_lets; repeat' split
    all_goals rfl
  · intro r; unfold State.write; extract_lets; repeat' split
    all_goals first | exact r | trivial

theorem keeps_commit (m : Nat) (s : State) (q : Req) (n c : Nat) (h : 68616448 ||| m = m) : State.Keeps m s (s.commit q n c).1 := by
  have e : (s.commit q n c).1 = { s with live := (s.commit q n c).1.live } := by
    unfold State.commit; extract_lets; repeat' split
    all_goals rfl
  rw [e]
  exact .live_of (Live.state_commit_keep s q n c m h)

theorem keeps_consume (m : Nat) (s : State) (p : Nat) (h : 402653182 ||| m = m) : State.Keeps m s (s.consume p) := by
  have hb : m.testBit 28 = true := by rw [← h, Nat.testBit_or]; rfl
  refine ⟨?_, Live.state_consume_keep s p m (by rw [← h, ← Nat.or_assoc]; rfl), fun e => by simp [hb] at e, ?_⟩
  · unfold State.consume; extract_lets; split
    all_goals rfl
  · intro r; unfold State.consume; extract_lets; split
    · trivial
    · exact r

theorem keeps_readDone (m : Nat) (s : State) (p n : Nat) (h : 402653182 ||| m = m) : State.Keeps m s (s.readDone p n) := by
  unfold State.readDone
  split
  · split
    · exact keeps_consume m s p h
    · exact .refl m s
  · exact .refl m s

/-! ### The bond boundary -/

theorem keeps_publish (m : Nat) (s : State) (h : 268697600 ||| m = m) : State.Keeps m s s.publish := by
  have hb : m.testBit 28 = true := by rw [← h, Nat.testBit_or]; rfl
  exact ⟨rfl, Live.state_publish_keep s m (by rw [← h, ← Nat.or_assoc]; rfl), fun e => by simp [hb] at e,
    fun r => filter_rises _ _ (tset_rises _ _ _ r)⟩

theorem keeps_republish (m : Nat) (s : State) (o : Nat) (h : 268697600 ||| m = m) : State.Keeps m s (s.republish o) := by
  have hb : m.testBit 28 = true := by rw [← h, Nat.testBit_or]; rfl
  refine ⟨?_, Live.state_republish_keep s o m (by rw [← h, ← Nat.or_assoc]; rfl), fun e => by simp [hb] at e, ?_⟩
  · unfold State.republish; split
    all_goals rfl
  · intro r; unfold State.republish; split
    · exact filter_rises _ _ (tset_rises _ _ _ (tdrop_rises _ _ r))
    · exact r

theorem keeps_bondRun (m : Nat) (s : State) (env : BondEnv) (h : 536870910 ||| m = m) : State.Keeps m s (s.bondRun env) := by
  have hb : m.testBit 28 = true := by rw [← h, Nat.testBit_or]; rfl
  have hp : 268697600 ||| 268697600 = 268697600 := rfl
  have e : (s.bondRun env).pending = s.pending ∧ (Tbl.rises s.gens → Tbl.rises (s.bondRun env).gens) := by
    unfold State.bondRun
    extract_lets l s1 g l2 s2
    clear_value l
    split
    · exact ⟨rfl, id⟩
    · have e1 : State.Keeps 268697600 { s with live := l } s1 := keeps_publish _ _ hp
      clear_value s1 l2
      split
      · have e2 : State.Keeps 268697600 s2 (s2.republish g) := keeps_republish _ _ _ hp
        exact ⟨e2.pending.trans e1.pending, fun r => e2.rises (e1.rises r)⟩
      · exact ⟨e1.pending, e1.rises⟩
  exact ⟨e.1, Live.state_bondRun_keep s env m (by rw [← h, ← Nat.or_assoc]; rfl), fun e => by simp [hb] at e, e.2⟩

theorem keeps_bondIdle (m : Nat) (s : State) (env : BondEnv) (h : 402652156 ||| m = m) : State.Keeps m s (s.bondIdle env) := by
  have hb : m.testBit 28 = true := by rw [← h, Nat.testBit_or]; rfl
  refine ⟨?_, Live.state_bondIdle_keep s env m (by rw [← h, ← Nat.or_assoc]; rfl), fun e => by simp [hb] at e, ?_⟩
  · unfold State.bondIdle; dsimp only; repeat' split
    all_goals rfl
  · intro r; unfold State.bondIdle; dsimp only
    repeat' split
    all_goals first | exact r | exact filter_rises _ _ (tset_rises _ _ _ r)

@[simp] theorem fuseAnswer_fst (r : Live × FuseOut) : (fuseAnswer r).1 = r.1 := rfl

theorem less_if {m : Nat} {c : Prop} [Decidable c] {a b l : Live} (ha : Live.less m a = Live.less m l)
    (hb : Live.less m b = Live.less m l) : Live.less m (if c then a else b) = Live.less m l := by
  split
  · exact ha
  · exact hb

/-! ### The commands -/

theorem only_powerOnReset (straps : Straps) (s : State) : Only 402653183 s (execPowerOnReset straps s) := by
  exact only_next ⟨rfl, by simp, fun e => absurd e (by decide), fun _ => trivial⟩

theorem only_vinFall (s : State) : Only 402653183 s (execVinFall s) := by
  exact only_next ⟨rfl, by simp, fun e => absurd e (by decide), fun _ => trivial⟩

theorem only_resetAssert (s : State) : Only 402653182 s (execResetAssert s) := by
  unfold execResetAssert
  exact only_ite (only_same _ s) (only_next ⟨rfl, by simp, fun e => absurd e (by decide), fun _ => trivial⟩)

theorem only_resetRelease (straps : Straps) (s : State) : Only 134217726 s (execResetRelease straps s) := by
  unfold execResetRelease
  refine only_upd ?_
  beta_reduce
  repeat' first
    | (with_reducible rfl)
    | (intro _)
    | (simp [Live.less_ite]; done)
    | (with_reducible refine (Live.less_forL (fun l x => ?_)).trans ?_)
    | (with_reducible refine (Live.less_each (fun l x => ?_)).trans ?_)
    | (with_reducible refine (Live.less_foldl (fun l x => ?_)).trans ?_)
    | (with_reducible refine less_if ?_ ?_)
    | split
    | simp [Live.less_ite]
    | rfl

theorem only_wakeRequest (s : State) : Only 68190224 s (execWakeRequest s) := by
  unfold execWakeRequest
  refine only_upd ?_
  beta_reduce
  repeat' first
    | (with_reducible rfl)
    | (intro _)
    | (simp [Live.less_ite]; done)
    | (with_reducible refine (Live.less_forL (fun l x => ?_)).trans ?_)
    | (with_reducible refine (Live.less_each (fun l x => ?_)).trans ?_)
    | (with_reducible refine (Live.less_foldl (fun l x => ?_)).trans ?_)
    | (with_reducible refine less_if ?_ ?_)
    | split
    | simp [Live.less_ite]
    | rfl

theorem only_bootStageDone (env : StageEnv) (s : State) : Only 134217720 s (execBootStageDone env s) := by
  unfold execBootStageDone
  refine only_upd ?_
  beta_reduce
  repeat' first
    | (with_reducible rfl)
    | (intro _)
    | (simp [Live.less_ite]; done)
    | (with_reducible refine (Live.less_forL (fun l x => ?_)).trans ?_)
    | (with_reducible refine (Live.less_each (fun l x => ?_)).trans ?_)
    | (with_reducible refine (Live.less_foldl (fun l x => ?_)).trans ?_)
    | (with_reducible refine less_if ?_ ?_)
    | split
    | simp [Live.less_ite]
    | rfl

theorem only_stagedShutdown (s : State) : Only 134217720 s (execStagedShutdown s) := by
  unfold execStagedShutdown
  refine only_upd ?_
  beta_reduce
  repeat' first
    | (with_reducible rfl)
    | (intro _)
    | (simp [Live.less_ite]; done)
    | (with_reducible refine (Live.less_forL (fun l x => ?_)).trans ?_)
    | (with_reducible refine (Live.less_each (fun l x => ?_)).trans ?_)
    | (with_reducible refine (Live.less_foldl (fun l x => ?_)).trans ?_)
    | (with_reducible refine less_if ?_ ?_)
    | split
    | simp [Live.less_ite]
    | rfl

theorem only_powerReturn (s : State) : Only 134217726 s (execPowerReturn s) := by
  unfold execPowerReturn
  refine only_upd ?_
  beta_reduce
  repeat' first
    | (with_reducible rfl)
    | (intro _)
    | (simp [Live.less_ite]; done)
    | (with_reducible refine (Live.less_forL (fun l x => ?_)).trans ?_)
    | (with_reducible refine (Live.less_each (fun l x => ?_)).trans ?_)
    | (with_reducible refine (Live.less_foldl (fun l x => ?_)).trans ?_)
    | (with_reducible refine less_if ?_ ?_)
    | split
    | simp [Live.less_ite]
    | rfl

theorem only_serviceIdleTimeout (s : State) : Only 134152184 s (execServiceIdleTimeout s) := by
  unfold execServiceIdleTimeout
  refine only_upd ?_
  beta_reduce
  repeat' first
    | (with_reducible rfl)
    | (intro _)
    | (simp [Live.less_ite]; done)
    | (with_reducible refine (Live.less_forL (fun l x => ?_)).trans ?_)
    | (with_reducible refine (Live.less_each (fun l x => ?_)).trans ?_)
    | (with_reducible refine (Live.less_foldl (fun l x => ?_)).trans ?_)
    | (with_reducible refine less_if ?_ ?_)
    | split
    | simp [Live.less_ite]
    | rfl

theorem only_refLoss (s : State) : Only 68279280 s (execRefLoss s) := by
  unfold execRefLoss
  refine only_upd ?_
  beta_reduce
  repeat' first
    | (with_reducible rfl)
    | (intro _)
    | (simp [Live.less_ite]; done)
    | (with_reducible refine (Live.less_forL (fun l x => ?_)).trans ?_)
    | (with_reducible refine (Live.less_each (fun l x => ?_)).trans ?_)
    | (with_reducible refine (Live.less_foldl (fun l x => ?_)).trans ?_)
    | (with_reducible refine less_if ?_ ?_)
    | split
    | simp [Live.less_ite]
    | rfl

theorem only_refReturn (s : State) : Only 48 s (execRefReturn s) := by
  unfold execRefReturn
  refine only_upd ?_
  beta_reduce
  repeat' first
    | (with_reducible rfl)
    | (intro _)
    | (simp [Live.less_ite]; done)
    | (with_reducible refine (Live.less_forL (fun l x => ?_)).trans ?_)
    | (with_reducible refine (Live.less_each (fun l x => ?_)).trans ?_)
    | (with_reducible refine (Live.less_foldl (fun l x => ?_)).trans ?_)
    | (with_reducible refine less_if ?_ ?_)
    | split
    | simp [Live.less_ite]
    | rfl

theorem only_domainDown (domain : Fin 8) (s : State) : Only 32768 s (execDomainDown domain s) := by
  unfold execDomainDown
  refine only_upd ?_
  beta_reduce
  repeat' first
    | (with_reducible rfl)
    | (intro _)
    | (simp [Live.less_ite]; done)
    | (with_reducible refine (Live.less_forL (fun l x => ?_)).trans ?_)
    | (with_reducible refine (Live.less_each (fun l x => ?_)).trans ?_)
    | (with_reducible refine (Live.less_foldl (fun l x => ?_)).trans ?_)
    | (with_reducible refine less_if ?_ ?_)
    | split
    | simp [Live.less_ite]
    | rfl

theorem only_vcoreLow (cond : VcoreCond) (s : State) : Only 32768 s (execVcoreLow cond s) := by
  unfold execVcoreLow
  refine only_upd ?_
  beta_reduce
  repeat' first
    | (with_reducible rfl)
    | (intro _)
    | (simp [Live.less_ite]; done)
    | (with_reducible refine (Live.less_forL (fun l x => ?_)).trans ?_)
    | (with_reducible refine (Live.less_each (fun l x => ?_)).trans ?_)
    | (with_reducible refine (Live.less_foldl (fun l x => ?_)).trans ?_)
    | (with_reducible refine less_if ?_ ?_)
    | split
    | simp [Live.less_ite]
    | rfl

theorem only_vcoreIlim (s : State) : Only 32768 s (execVcoreIlim s) := by
  unfold execVcoreIlim
  refine only_upd ?_
  beta_reduce
  repeat' first
    | (with_reducible rfl)
    | (intro _)
    | (simp [Live.less_ite]; done)
    | (with_reducible refine (Live.less_forL (fun l x => ?_)).trans ?_)
    | (with_reducible refine (Live.less_each (fun l x => ?_)).trans ?_)
    | (with_reducible refine (Live.less_foldl (fun l x => ?_)).trans ?_)
    | (with_reducible refine less_if ?_ ?_)
    | split
    | simp [Live.less_ite]
    | rfl

theorem only_courseStart (ring : Fin 8) (s : State) : Only 134217720 s (execCourseStart ring s) := by
  unfold execCourseStart
  refine only_upd ?_
  beta_reduce
  repeat' first
    | (with_reducible rfl)
    | (intro _)
    | (simp [Live.less_ite]; done)
    | (with_reducible refine (Live.less_forL (fun l x => ?_)).trans ?_)
    | (with_reducible refine (Live.less_each (fun l x => ?_)).trans ?_)
    | (with_reducible refine (Live.less_foldl (fun l x => ?_)).trans ?_)
    | (with_reducible refine less_if ?_ ?_)
    | split
    | simp [Live.less_ite]
    | rfl

theorem only_bondBoundary (env : BondEnv) (s : State) : Only 536870910 s (execBondBoundary env s) := by
  unfold execBondBoundary
  refine only_ite (only_same _ s) ?_
  split
  · exact only_next ⟨rfl, by simp, fun e => absurd e (by decide), fun _ => trivial⟩
  · refine only_next ?_
    split
    · exact keeps_bondRun _ s env rfl
    · exact keeps_bondIdle _ s env rfl

theorem only_upBrickReceived (ring : Fin 8) (slot : Fin 32) (brick : BitVec 64) (errs : List GroupErr) (s : State) : Only 68221888 s (execUpBrickReceived ring slot brick errs s) := by
  unfold execUpBrickReceived
  refine only_upd ?_
  beta_reduce
  repeat' first
    | (with_reducible rfl)
    | (intro _)
    | (simp [Live.less_ite]; done)
    | (with_reducible refine (Live.less_forL (fun l x => ?_)).trans ?_)
    | (with_reducible refine (Live.less_each (fun l x => ?_)).trans ?_)
    | (with_reducible refine (Live.less_foldl (fun l x => ?_)).trans ?_)
    | (with_reducible refine less_if ?_ ?_)
    | split
    | simp [Live.less_ite]
    | rfl

theorem only_callBrick (ring : Fin 8) (s : State) : Only 68157536 s (execCallBrick ring s) := by
  unfold execCallBrick
  refine only_upd ?_
  beta_reduce
  repeat' first
    | (with_reducible rfl)
    | (intro _)
    | (simp [Live.less_ite]; done)
    | (with_reducible refine (Live.less_forL (fun l x => ?_)).trans ?_)
    | (with_reducible refine (Live.less_each (fun l x => ?_)).trans ?_)
    | (with_reducible refine (Live.less_foldl (fun l x => ?_)).trans ?_)
    | (with_reducible refine less_if ?_ ?_)
    | split
    | simp [Live.less_ite]
    | rfl

theorem only_upRetryReturn (ring : Fin 8) (s : State) : Only 68157920 s (execUpRetryReturn ring s) := by
  unfold execUpRetryReturn
  refine only_upd ?_
  beta_reduce
  repeat' first
    | (with_reducible rfl)
    | (intro _)
    | (simp [Live.less_ite]; done)
    | (with_reducible refine (Live.less_forL (fun l x => ?_)).trans ?_)
    | (with_reducible refine (Live.less_each (fun l x => ?_)).trans ?_)
    | (with_reducible refine (Live.less_foldl (fun l x => ?_)).trans ?_)
    | (with_reducible refine less_if ?_ ?_)
    | split
    | simp [Live.less_ite]
    | rfl

theorem only_downWindow (ring : Fin 8) (s : State) : Only 68209632 s (execDownWindow ring s) := by
  unfold execDownWindow
  refine only_upd ?_
  beta_reduce
  repeat' first
    | (with_reducible rfl)
    | (intro _)
    | (simp [Live.less_ite]; done)
    | (with_reducible refine (Live.less_forL (fun l x => ?_)).trans ?_)
    | (with_reducible refine (Live.less_each (fun l x => ?_)).trans ?_)
    | (with_reducible refine (Live.less_foldl (fun l x => ?_)).trans ?_)
    | (with_reducible refine less_if ?_ ?_)
    | split
    | simp [Live.less_ite]
    | rfl

theorem only_checkBrickReceived (ring : Fin 8) (brick : BitVec 48) (errs : List GroupErr) (s : State) : Only 68157472 s (execCheckBrickReceived ring brick errs s) := by
  unfold execCheckBrickReceived
  refine only_upd ?_
  beta_reduce
  repeat' first
    | (with_reducible rfl)
    | (intro _)
    | (simp [Live.less_ite]; done)
    | (with_reducible refine (Live.less_forL (fun l x => ?_)).trans ?_)
    | (with_reducible refine (Live.less_each (fun l x => ?_)).trans ?_)
    | (with_reducible refine (Live.less_foldl (fun l x => ?_)).trans ?_)
    | (with_reducible refine less_if ?_ ?_)
    | split
    | simp [Live.less_ite]
    | rfl

theorem only_headerReturn (ring : Fin 8) (header : BitVec 64) (errs : HeaderErrs) (delay : Nat) (s : State) : Only 68279264 s (execHeaderReturn ring header errs delay s) := by
  unfold execHeaderReturn
  refine only_upd ?_
  beta_reduce
  repeat' first
    | (with_reducible rfl)
    | (intro _)
    | (simp [Live.less_ite]; done)
    | (with_reducible refine (Live.less_forL (fun l x => ?_)).trans ?_)
    | (with_reducible refine (Live.less_each (fun l x => ?_)).trans ?_)
    | (with_reducible refine (Live.less_foldl (fun l x => ?_)).trans ?_)
    | (with_reducible refine less_if ?_ ?_)
    | split
    | simp [Live.less_ite]
    | rfl

theorem only_rangeCountReturn (ring : Fin 8) (brick : BitVec 64) (errs : List GroupErr) (delay : Nat) (s : State) : Only 68279264 s (execRangeCountReturn ring brick errs delay s) := by
  unfold execRangeCountReturn
  refine only_upd ?_
  beta_reduce
  repeat' first
    | (with_reducible rfl)
    | (intro _)
    | (simp [Live.less_ite]; done)
    | (with_reducible refine (Live.less_forL (fun l x => ?_)).trans ?_)
    | (with_reducible refine (Live.less_each (fun l x => ?_)).trans ?_)
    | (with_reducible refine (Live.less_foldl (fun l x => ?_)).trans ?_)
    | (with_reducible refine less_if ?_ ?_)
    | split
    | simp [Live.less_ite]
    | rfl

theorem only_ringRangeFail (ring : Fin 8) (s : State) : Only 68279264 s (execRingRangeFail ring s) := by
  unfold execRingRangeFail
  refine only_upd ?_
  beta_reduce
  repeat' first
    | (with_reducible rfl)
    | (intro _)
    | (simp [Live.less_ite]; done)
    | (with_reducible refine (Live.less_forL (fun l x => ?_)).trans ?_)
    | (with_reducible refine (Live.less_each (fun l x => ?_)).trans ?_)
    | (with_reducible refine (Live.less_foldl (fun l x => ?_)).trans ?_)
    | (with_reducible refine less_if ?_ ?_)
    | split
    | simp [Live.less_ite]
    | rfl

theorem only_trainingAligned (seen : RingSeen) (s : State) : Only 68246496 s (execTrainingAligned seen s) := by
  unfold execTrainingAligned
  refine only_upd ?_
  beta_reduce
  repeat' first
    | (with_reducible rfl)
    | (intro _)
    | (simp [Live.less_ite]; done)
    | (with_reducible refine (Live.less_forL (fun l x => ?_)).trans ?_)
    | (with_reducible refine (Live.less_each (fun l x => ?_)).trans ?_)
    | (with_reducible refine (Live.less_foldl (fun l x => ?_)).trans ?_)
    | (with_reducible refine less_if ?_ ?_)
    | split
    | simp [Live.less_ite]
    | rfl

theorem only_ringTrainFail (seen : RingSeen) (s : State) : Only 68190240 s (execRingTrainFail seen s) := by
  unfold execRingTrainFail
  refine only_upd ?_
  beta_reduce
  repeat' first
    | (with_reducible rfl)
    | (intro _)
    | (simp [Live.less_ite]; done)
    | (with_reducible refine (Live.less_forL (fun l x => ?_)).trans ?_)
    | (with_reducible refine (Live.less_each (fun l x => ?_)).trans ?_)
    | (with_reducible refine (Live.less_foldl (fun l x => ?_)).trans ?_)
    | (with_reducible refine less_if ?_ ?_)
    | split
    | simp [Live.less_ite]
    | rfl

theorem only_trainingRestart (ring : Fin 8) (s : State) : Only 32 s (execTrainingRestart ring s) := by
  unfold execTrainingRestart
  refine only_upd ?_
  beta_reduce
  repeat' first
    | (with_reducible rfl)
    | (intro _)
    | (simp [Live.less_ite]; done)
    | (with_reducible refine (Live.less_forL (fun l x => ?_)).trans ?_)
    | (with_reducible refine (Live.less_each (fun l x => ?_)).trans ?_)
    | (with_reducible refine (Live.less_foldl (fun l x => ?_)).trans ?_)
    | (with_reducible refine less_if ?_ ?_)
    | split
    | simp [Live.less_ite]
    | rfl

theorem only_alignmentLost (seen : RingSeen) (s : State) : Only 68279264 s (execAlignmentLost seen s) := by
  unfold execAlignmentLost
  refine only_upd ?_
  beta_reduce
  repeat' first
    | (with_reducible rfl)
    | (intro _)
    | (simp [Live.less_ite]; done)
    | (with_reducible refine (Live.less_forL (fun l x => ?_)).trans ?_)
    | (with_reducible refine (Live.less_each (fun l x => ?_)).trans ?_)
    | (with_reducible refine (Live.less_foldl (fun l x => ?_)).trans ?_)
    | (with_reducible refine less_if ?_ ?_)
    | split
    | simp [Live.less_ite]
    | rfl

theorem only_commaDrift (ring : Fin 8) (s : State) : Only 68279264 s (execCommaDrift ring s) := by
  unfold execCommaDrift
  refine only_upd ?_
  beta_reduce
  repeat' first
    | (with_reducible rfl)
    | (intro _)
    | (simp [Live.less_ite]; done)
    | (with_reducible refine (Live.less_forL (fun l x => ?_)).trans ?_)
    | (with_reducible refine (Live.less_each (fun l x => ?_)).trans ?_)
    | (with_reducible refine (Live.less_foldl (fun l x => ?_)).trans ?_)
    | (with_reducible refine less_if ?_ ?_)
    | split
    | simp [Live.less_ite]
    | rfl

theorem only_ringSlotLoss (ring : Fin 8) (slot : Fin 32) (s : State) : Only 68213696 s (execRingSlotLoss ring slot s) := by
  unfold execRingSlotLoss
  refine only_upd ?_
  beta_reduce
  repeat' first
    | (with_reducible rfl)
    | (intro _)
    | (simp [Live.less_ite]; done)
    | (with_reducible refine (Live.less_forL (fun l x => ?_)).trans ?_)
    | (with_reducible refine (Live.less_each (fun l x => ?_)).trans ?_)
    | (with_reducible refine (Live.less_foldl (fun l x => ?_)).trans ?_)
    | (with_reducible refine less_if ?_ ?_)
    | split
    | simp [Live.less_ite]
    | rfl

theorem only_buoyBrickReceived (ring : Fin 8) (brick : BitVec 64) (errs : List GroupErr) (s : State) : Only 68178848 s (execBuoyBrickReceived ring brick errs s) := by
  unfold execBuoyBrickReceived
  refine only_upd ?_
  beta_reduce
  repeat' first
    | (with_reducible rfl)
    | (intro _)
    | (simp [Live.less_ite]; done)
    | (with_reducible refine (Live.less_forL (fun l x => ?_)).trans ?_)
    | (with_reducible refine (Live.less_each (fun l x => ?_)).trans ?_)
    | (with_reducible refine (Live.less_foldl (fun l x => ?_)).trans ?_)
    | (with_reducible refine less_if ?_ ?_)
    | split
    | simp [Live.less_ite]
    | rfl

theorem only_mgmtReplyReceived (ring : Fin 8) (brick : BitVec 64) (errs : List GroupErr) (s : State) : Only 134217720 s (execMgmtReplyReceived ring brick errs s) := by
  unfold execMgmtReplyReceived
  refine only_upd ?_
  beta_reduce
  repeat' first
    | (with_reducible rfl)
    | (intro _)
    | (simp [Live.less_ite]; done)
    | (with_reducible refine (Live.less_forL (fun l x => ?_)).trans ?_)
    | (with_reducible refine (Live.less_each (fun l x => ?_)).trans ?_)
    | (with_reducible refine (Live.less_foldl (fun l x => ?_)).trans ?_)
    | (with_reducible refine less_if ?_ ?_)
    | split
    | simp [Live.less_ite]
    | rfl

theorem only_mgmtResend (stn : Fin 256) (s : State) : Only 160 s (execMgmtResend stn s) := by
  unfold execMgmtResend
  refine only_upd ?_
  beta_reduce
  repeat' first
    | (with_reducible rfl)
    | (intro _)
    | (simp [Live.less_ite]; done)
    | (with_reducible refine (Live.less_forL (fun l x => ?_)).trans ?_)
    | (with_reducible refine (Live.less_each (fun l x => ?_)).trans ?_)
    | (with_reducible refine (Live.less_foldl (fun l x => ?_)).trans ?_)
    | (with_reducible refine less_if ?_ ?_)
    | split
    | simp [Live.less_ite]
    | rfl

theorem only_mgmtUnanswered (stn : Fin 256) (s : State) : Only 68211616 s (execMgmtUnanswered stn s) := by
  unfold execMgmtUnanswered
  refine only_upd ?_
  beta_reduce
  repeat' first
    | (with_reducible rfl)
    | (intro _)
    | (simp [Live.less_ite]; done)
    | (with_reducible refine (Live.less_forL (fun l x => ?_)).trans ?_)
    | (with_reducible refine (Live.less_each (fun l x => ?_)).trans ?_)
    | (with_reducible refine (Live.less_foldl (fun l x => ?_)).trans ?_)
    | (with_reducible refine less_if ?_ ?_)
    | split
    | simp [Live.less_ite]
    | rfl

theorem only_stnIdentFail (stn : Fin 256) (s : State) : Only 68211584 s (execStnIdentFail stn s) := by
  unfold execStnIdentFail
  refine only_upd ?_
  beta_reduce
  repeat' first
    | (with_reducible rfl)
    | (intro _)
    | (simp [Live.less_ite]; done)
    | (with_reducible refine (Live.less_forL (fun l x => ?_)).trans ?_)
    | (with_reducible refine (Live.less_each (fun l x => ?_)).trans ?_)
    | (with_reducible refine (Live.less_foldl (fun l x => ?_)).trans ?_)
    | (with_reducible refine less_if ?_ ?_)
    | split
    | simp [Live.less_ite]
    | rfl

theorem only_sightAckRefresh (stn : Fin 256) (s : State) : Only 160 s (execSightAckRefresh stn s) := by
  unfold execSightAckRefresh
  refine only_upd ?_
  beta_reduce
  repeat' first
    | (with_reducible rfl)
    | (intro _)
    | (simp [Live.less_ite]; done)
    | (with_reducible refine (Live.less_forL (fun l x => ?_)).trans ?_)
    | (with_reducible refine (Live.less_each (fun l x => ?_)).trans ?_)
    | (with_reducible refine (Live.less_foldl (fun l x => ?_)).trans ?_)
    | (with_reducible refine less_if ?_ ?_)
    | split
    | simp [Live.less_ite]
    | rfl

theorem only_matchingPass (s : State) : Only 68277152 s (execMatchingPass s) := by
  unfold execMatchingPass
  refine only_upd ?_
  beta_reduce
  repeat' first
    | (with_reducible rfl)
    | (intro _)
    | (simp [Live.less_ite]; done)
    | (with_reducible refine (Live.less_forL (fun l x => ?_)).trans ?_)
    | (with_reducible refine (Live.less_each (fun l x => ?_)).trans ?_)
    | (with_reducible refine (Live.less_foldl (fun l x => ?_)).trans ?_)
    | (with_reducible refine less_if ?_ ?_)
    | split
    | simp [Live.less_ite]
    | rfl

theorem only_handoverCourse (tile : Fin 160) (s : State) : Only 768 s (execHandoverCourse tile s) := by
  unfold execHandoverCourse
  refine only_upd ?_
  beta_reduce
  repeat' first
    | (with_reducible rfl)
    | (intro _)
    | (simp [Live.less_ite]; done)
    | (with_reducible refine (Live.less_forL (fun l x => ?_)).trans ?_)
    | (with_reducible refine (Live.less_each (fun l x => ?_)).trans ?_)
    | (with_reducible refine (Live.less_foldl (fun l x => ?_)).trans ?_)
    | (with_reducible refine less_if ?_ ?_)
    | split
    | simp [Live.less_ite]
    | rfl

theorem only_stnHandoverFail (stn : Fin 256) (s : State) : Only 68211680 s (execStnHandoverFail stn s) := by
  unfold execStnHandoverFail
  refine only_upd ?_
  beta_reduce
  repeat' first
    | (with_reducible rfl)
    | (intro _)
    | (simp [Live.less_ite]; done)
    | (with_reducible refine (Live.less_forL (fun l x => ?_)).trans ?_)
    | (with_reducible refine (Live.less_each (fun l x => ?_)).trans ?_)
    | (with_reducible refine (Live.less_foldl (fun l x => ?_)).trans ?_)
    | (with_reducible refine less_if ?_ ?_)
    | split
    | simp [Live.less_ite]
    | rfl

theorem only_stnAdrift (stn : Fin 256) (s : State) : Only 68211584 s (execStnAdrift stn s) := by
  unfold execStnAdrift
  refine only_upd ?_
  beta_reduce
  repeat' first
    | (with_reducible rfl)
    | (intro _)
    | (simp [Live.less_ite]; done)
    | (with_reducible refine (Live.less_forL (fun l x => ?_)).trans ?_)
    | (with_reducible refine (Live.less_each (fun l x => ?_)).trans ?_)
    | (with_reducible refine (Live.less_foldl (fun l x => ?_)).trans ?_)
    | (with_reducible refine less_if ?_ ?_)
    | split
    | simp [Live.less_ite]
    | rfl

theorem only_stnUnstable (stn : Fin 256) (s : State) : Only 32896 s (execStnUnstable stn s) := by
  unfold execStnUnstable
  refine only_upd ?_
  beta_reduce
  repeat' first
    | (with_reducible rfl)
    | (intro _)
    | (simp [Live.less_ite]; done)
    | (with_reducible refine (Live.less_forL (fun l x => ?_)).trans ?_)
    | (with_reducible refine (Live.less_each (fun l x => ?_)).trans ?_)
    | (with_reducible refine (Live.less_foldl (fun l x => ?_)).trans ?_)
    | (with_reducible refine less_if ?_ ?_)
    | split
    | simp [Live.less_ite]
    | rfl

theorem only_tileDispatch (lane : Fin 8) (s : State) : Only 202375424 s (execTileDispatch lane s) := by
  unfold execTileDispatch
  refine only_upd ?_
  beta_reduce
  repeat' first
    | (with_reducible rfl)
    | (intro _)
    | (simp [Live.less_ite]; done)
    | (with_reducible refine (Live.less_forL (fun l x => ?_)).trans ?_)
    | (with_reducible refine (Live.less_each (fun l x => ?_)).trans ?_)
    | (with_reducible refine (Live.less_foldl (fun l x => ?_)).trans ?_)
    | (with_reducible refine less_if ?_ ?_)
    | split
    | simp [Live.less_ite]
    | rfl

theorem only_tileCommit (lane : Fin 8) (s : State) : Only 210797376 s (execTileCommit lane s) := by
  unfold execTileCommit
  refine only_upd ?_
  beta_reduce
  repeat' first
    | (with_reducible rfl)
    | (intro _)
    | (simp [Live.less_ite]; done)
    | (with_reducible refine (Live.less_forL (fun l x => ?_)).trans ?_)
    | (with_reducible refine (Live.less_each (fun l x => ?_)).trans ?_)
    | (with_reducible refine (Live.less_foldl (fun l x => ?_)).trans ?_)
    | (with_reducible refine less_if ?_ ?_)
    | split
    | simp [Live.less_ite]
    | rfl

theorem only_tileDiscard (lane : Fin 8) (s : State) : Only 202408192 s (execTileDiscard lane s) := by
  unfold execTileDiscard
  refine only_upd ?_
  beta_reduce
  repeat' first
    | (with_reducible rfl)
    | (intro _)
    | (simp [Live.less_ite]; done)
    | (with_reducible refine (Live.less_forL (fun l x => ?_)).trans ?_)
    | (with_reducible refine (Live.less_each (fun l x => ?_)).trans ?_)
    | (with_reducible refine (Live.less_foldl (fun l x => ?_)).trans ?_)
    | (with_reducible refine less_if ?_ ?_)
    | split
    | simp [Live.less_ite]
    | rfl

theorem only_loopOverrun (tile : Fin 160) (s : State) : Only 33024 s (execLoopOverrun tile s) := by
  unfold execLoopOverrun
  refine only_upd ?_
  beta_reduce
  repeat' first
    | (with_reducible rfl)
    | (intro _)
    | (simp [Live.less_ite]; done)
    | (with_reducible refine (Live.less_forL (fun l x => ?_)).trans ?_)
    | (with_reducible refine (Live.less_each (fun l x => ?_)).trans ?_)
    | (with_reducible refine (Live.less_foldl (fun l x => ?_)).trans ?_)
    | (with_reducible refine less_if ?_ ?_)
    | split
    | simp [Live.less_ite]
    | rfl

theorem only_loopStall (tile : Fin 160) (s : State) : Only 68213696 s (execLoopStall tile s) := by
  unfold execLoopStall
  refine only_upd ?_
  beta_reduce
  repeat' first
    | (with_reducible rfl)
    | (intro _)
    | (simp [Live.less_ite]; done)
    | (with_reducible refine (Live.less_forL (fun l x => ?_)).trans ?_)
    | (with_reducible refine (Live.less_each (fun l x => ?_)).trans ?_)
    | (with_reducible refine (Live.less_foldl (fun l x => ?_)).trans ?_)
    | (with_reducible refine less_if ?_ ?_)
    | split
    | simp [Live.less_ite]
    | rfl

theorem only_policyDispatch (s : State) : Only 202375424 s (execPolicyDispatch s) := by
  unfold execPolicyDispatch
  refine only_upd ?_
  beta_reduce
  repeat' first
    | (with_reducible rfl)
    | (intro _)
    | (simp [Live.less_ite]; done)
    | (with_reducible refine (Live.less_forL (fun l x => ?_)).trans ?_)
    | (with_reducible refine (Live.less_each (fun l x => ?_)).trans ?_)
    | (with_reducible refine (Live.less_foldl (fun l x => ?_)).trans ?_)
    | (with_reducible refine less_if ?_ ?_)
    | split
    | simp [Live.less_ite]
    | rfl

theorem only_loopPolicyLate (s : State) : Only 202408192 s (execLoopPolicyLate s) := by
  unfold execLoopPolicyLate
  refine only_upd ?_
  beta_reduce
  repeat' first
    | (with_reducible rfl)
    | (intro _)
    | (simp [Live.less_ite]; done)
    | (with_reducible refine (Live.less_forL (fun l x => ?_)).trans ?_)
    | (with_reducible refine (Live.less_each (fun l x => ?_)).trans ?_)
    | (with_reducible refine (Live.less_foldl (fun l x => ?_)).trans ?_)
    | (with_reducible refine less_if ?_ ?_)
    | split
    | simp [Live.less_ite]
    | rfl

theorem only_vcpinWrite (code : Byte) (s : State) : Only 33554432 s (execVcpinWrite code s) := by
  unfold execVcpinWrite
  refine only_upd ?_
  beta_reduce
  repeat' first
    | (with_reducible rfl)
    | (intro _)
    | (simp [Live.less_ite]; done)
    | (with_reducible refine (Live.less_forL (fun l x => ?_)).trans ?_)
    | (with_reducible refine (Live.less_each (fun l x => ?_)).trans ?_)
    | (with_reducible refine (Live.less_foldl (fun l x => ?_)).trans ?_)
    | (with_reducible refine less_if ?_ ?_)
    | split
    | simp [Live.less_ite]
    | rfl

theorem only_opNop (lane : Fin 8) (f : PatFields) (s : State) : Only 2130176 s (execOpNop lane f s) := by
  unfold execOpNop
  refine only_upd ?_
  beta_reduce
  repeat' first
    | (with_reducible rfl)
    | (intro _)
    | (simp [Live.less_ite]; done)
    | (with_reducible refine (Live.less_forL (fun l x => ?_)).trans ?_)
    | (with_reducible refine (Live.less_each (fun l x => ?_)).trans ?_)
    | (with_reducible refine (Live.less_foldl (fun l x => ?_)).trans ?_)
    | (with_reducible refine less_if ?_ ?_)
    | split
    | simp [Live.less_ite]
    | rfl

theorem only_opEnd (lane : Fin 8) (f : PatFields) (s : State) : Only 70287616 s (execOpEnd lane f s) := by
  unfold execOpEnd
  refine only_upd ?_
  beta_reduce
  repeat' first
    | (with_reducible rfl)
    | (intro _)
    | (simp [Live.less_ite]; done)
    | (with_reducible refine (Live.less_forL (fun l x => ?_)).trans ?_)
    | (with_reducible refine (Live.less_each (fun l x => ?_)).trans ?_)
    | (with_reducible refine (Live.less_foldl (fun l x => ?_)).trans ?_)
    | (with_reducible refine less_if ?_ ?_)
    | split
    | simp [Live.less_ite]
    | rfl

theorem only_opMac (lane : Fin 8) (f : PatFields) (s : State) : Only 2130176 s (execOpMac lane f s) := by
  unfold execOpMac
  refine only_upd ?_
  beta_reduce
  repeat' first
    | (with_reducible rfl)
    | (intro _)
    | (simp [Live.less_ite]; done)
    | (with_reducible refine (Live.less_forL (fun l x => ?_)).trans ?_)
    | (with_reducible refine (Live.less_each (fun l x => ?_)).trans ?_)
    | (with_reducible refine (Live.less_foldl (fun l x => ?_)).trans ?_)
    | (with_reducible refine less_if ?_ ?_)
    | split
    | simp [Live.less_ite]
    | rfl

theorem only_opMsu (lane : Fin 8) (f : PatFields) (s : State) : Only 2130176 s (execOpMsu lane f s) := by
  unfold execOpMsu
  refine only_upd ?_
  beta_reduce
  repeat' first
    | (with_reducible rfl)
    | (intro _)
    | (simp [Live.less_ite]; done)
    | (with_reducible refine (Live.less_forL (fun l x => ?_)).trans ?_)
    | (with_reducible refine (Live.less_each (fun l x => ?_)).trans ?_)
    | (with_reducible refine (Live.less_foldl (fun l x => ?_)).trans ?_)
    | (with_reducible refine less_if ?_ ?_)
    | split
    | simp [Live.less_ite]
    | rfl

theorem only_opMul (lane : Fin 8) (f : PatFields) (s : State) : Only 2130176 s (execOpMul lane f s) := by
  unfold execOpMul
  refine only_upd ?_
  beta_reduce
  repeat' first
    | (with_reducible rfl)
    | (intro _)
    | (simp [Live.less_ite]; done)
    | (with_reducible refine (Live.less_forL (fun l x => ?_)).trans ?_)
    | (with_reducible refine (Live.less_each (fun l x => ?_)).trans ?_)
    | (with_reducible refine (Live.less_foldl (fun l x => ?_)).trans ?_)
    | (with_reducible refine less_if ?_ ?_)
    | split
    | simp [Live.less_ite]
    | rfl

theorem only_opClra (lane : Fin 8) (f : PatFields) (s : State) : Only 2130176 s (execOpClra lane f s) := by
  unfold execOpClra
  refine only_upd ?_
  beta_reduce
  repeat' first
    | (with_reducible rfl)
    | (intro _)
    | (simp [Live.less_ite]; done)
    | (with_reducible refine (Live.less_forL (fun l x => ?_)).trans ?_)
    | (with_reducible refine (Live.less_each (fun l x => ?_)).trans ?_)
    | (with_reducible refine (Live.less_foldl (fun l x => ?_)).trans ?_)
    | (with_reducible refine less_if ?_ ?_)
    | split
    | simp [Live.less_ite]
    | rfl

theorem only_opRnd (lane : Fin 8) (f : PatFields) (s : State) : Only 2130176 s (execOpRnd lane f s) := by
  unfold execOpRnd
  refine only_upd ?_
  beta_reduce
  repeat' first
    | (with_reducible rfl)
    | (intro _)
    | (simp [Live.less_ite]; done)
    | (with_reducible refine (Live.less_forL (fun l x => ?_)).trans ?_)
    | (with_reducible refine (Live.less_each (fun l x => ?_)).trans ?_)
    | (with_reducible refine (Live.less_foldl (fun l x => ?_)).trans ?_)
    | (with_reducible refine less_if ?_ ?_)
    | split
    | simp [Live.less_ite]
    | rfl

theorem only_opAdd (lane : Fin 8) (f : PatFields) (s : State) : Only 2130176 s (execOpAdd lane f s) := by
  unfold execOpAdd
  refine only_upd ?_
  beta_reduce
  repeat' first
    | (with_reducible rfl)
    | (intro _)
    | (simp [Live.less_ite]; done)
    | (with_reducible refine (Live.less_forL (fun l x => ?_)).trans ?_)
    | (with_reducible refine (Live.less_each (fun l x => ?_)).trans ?_)
    | (with_reducible refine (Live.less_foldl (fun l x => ?_)).trans ?_)
    | (with_reducible refine less_if ?_ ?_)
    | split
    | simp [Live.less_ite]
    | rfl

theorem only_opSub (lane : Fin 8) (f : PatFields) (s : State) : Only 2130176 s (execOpSub lane f s) := by
  unfold execOpSub
  refine only_upd ?_
  beta_reduce
  repeat' first
    | (with_reducible rfl)
    | (intro _)
    | (simp [Live.less_ite]; done)
    | (with_reducible refine (Live.less_forL (fun l x => ?_)).trans ?_)
    | (with_reducible refine (Live.less_each (fun l x => ?_)).trans ?_)
    | (with_reducible refine (Live.less_foldl (fun l x => ?_)).trans ?_)
    | (with_reducible refine less_if ?_ ?_)
    | split
    | simp [Live.less_ite]
    | rfl

theorem only_opNeg (lane : Fin 8) (f : PatFields) (s : State) : Only 2130176 s (execOpNeg lane f s) := by
  unfold execOpNeg
  refine only_upd ?_
  beta_reduce
  repeat' first
    | (with_reducible rfl)
    | (intro _)
    | (simp [Live.less_ite]; done)
    | (with_reducible refine (Live.less_forL (fun l x => ?_)).trans ?_)
    | (with_reducible refine (Live.less_each (fun l x => ?_)).trans ?_)
    | (with_reducible refine (Live.less_foldl (fun l x => ?_)).trans ?_)
    | (with_reducible refine less_if ?_ ?_)
    | split
    | simp [Live.less_ite]
    | rfl

theorem only_opAbs (lane : Fin 8) (f : PatFields) (s : State) : Only 2130176 s (execOpAbs lane f s) := by
  unfold execOpAbs
  refine only_upd ?_
  beta_reduce
  repeat' first
    | (with_reducible rfl)
    | (intro _)
    | (simp [Live.less_ite]; done)
    | (with_reducible refine (Live.less_forL (fun l x => ?_)).trans ?_)
    | (with_reducible refine (Live.less_each (fun l x => ?_)).trans ?_)
    | (with_reducible refine (Live.less_foldl (fun l x => ?_)).trans ?_)
    | (with_reducible refine less_if ?_ ?_)
    | split
    | simp [Live.less_ite]
    | rfl

theorem only_opShl (lane : Fin 8) (f : PatFields) (s : State) : Only 2130176 s (execOpShl lane f s) := by
  unfold execOpShl
  refine only_upd ?_
  beta_reduce
  repeat' first
    | (with_reducible rfl)
    | (intro _)
    | (simp [Live.less_ite]; done)
    | (with_reducible refine (Live.less_forL (fun l x => ?_)).trans ?_)
    | (with_reducible refine (Live.less_each (fun l x => ?_)).trans ?_)
    | (with_reducible refine (Live.less_foldl (fun l x => ?_)).trans ?_)
    | (with_reducible refine less_if ?_ ?_)
    | split
    | simp [Live.less_ite]
    | rfl

theorem only_opShr (lane : Fin 8) (f : PatFields) (s : State) : Only 2130176 s (execOpShr lane f s) := by
  unfold execOpShr
  refine only_upd ?_
  beta_reduce
  repeat' first
    | (with_reducible rfl)
    | (intro _)
    | (simp [Live.less_ite]; done)
    | (with_reducible refine (Live.less_forL (fun l x => ?_)).trans ?_)
    | (with_reducible refine (Live.less_each (fun l x => ?_)).trans ?_)
    | (with_reducible refine (Live.less_foldl (fun l x => ?_)).trans ?_)
    | (with_reducible refine less_if ?_ ?_)
    | split
    | simp [Live.less_ite]
    | rfl

theorem only_opMov (lane : Fin 8) (f : PatFields) (s : State) : Only 2130176 s (execOpMov lane f s) := by
  unfold execOpMov
  refine only_upd ?_
  beta_reduce
  repeat' first
    | (with_reducible rfl)
    | (intro _)
    | (simp [Live.less_ite]; done)
    | (with_reducible refine (Live.less_forL (fun l x => ?_)).trans ?_)
    | (with_reducible refine (Live.less_each (fun l x => ?_)).trans ?_)
    | (with_reducible refine (Live.less_foldl (fun l x => ?_)).trans ?_)
    | (with_reducible refine less_if ?_ ?_)
    | split
    | simp [Live.less_ite]
    | rfl

theorem only_opLdi (lane : Fin 8) (f : PatFields) (s : State) : Only 2130176 s (execOpLdi lane f s) := by
  unfold execOpLdi
  refine only_upd ?_
  beta_reduce
  repeat' first
    | (with_reducible rfl)
    | (intro _)
    | (simp [Live.less_ite]; done)
    | (with_reducible refine (Live.less_forL (fun l x => ?_)).trans ?_)
    | (with_reducible refine (Live.less_each (fun l x => ?_)).trans ?_)
    | (with_reducible refine (Live.less_foldl (fun l x => ?_)).trans ?_)
    | (with_reducible refine less_if ?_ ?_)
    | split
    | simp [Live.less_ite]
    | rfl

theorem only_opLds (lane : Fin 8) (f : PatFields) (s : State) : Only 2130176 s (execOpLds lane f s) := by
  unfold execOpLds
  refine only_upd ?_
  beta_reduce
  repeat' first
    | (with_reducible rfl)
    | (intro _)
    | (simp [Live.less_ite]; done)
    | (with_reducible refine (Live.less_forL (fun l x => ?_)).trans ?_)
    | (with_reducible refine (Live.less_each (fun l x => ?_)).trans ?_)
    | (with_reducible refine (Live.less_foldl (fun l x => ?_)).trans ?_)
    | (with_reducible refine less_if ?_ ?_)
    | split
    | simp [Live.less_ite]
    | rfl

theorem only_opSts (lane : Fin 8) (f : PatFields) (s : State) : Only 2130176 s (execOpSts lane f s) := by
  unfold execOpSts
  refine only_upd ?_
  beta_reduce
  repeat' first
    | (with_reducible rfl)
    | (intro _)
    | (simp [Live.less_ite]; done)
    | (with_reducible refine (Live.less_forL (fun l x => ?_)).trans ?_)
    | (with_reducible refine (Live.less_each (fun l x => ?_)).trans ?_)
    | (with_reducible refine (Live.less_foldl (fun l x => ?_)).trans ?_)
    | (with_reducible refine less_if ?_ ?_)
    | split
    | simp [Live.less_ite]
    | rfl

theorem only_opLdc (lane : Fin 8) (f : PatFields) (s : State) : Only 2130176 s (execOpLdc lane f s) := by
  unfold execOpLdc
  refine only_upd ?_
  beta_reduce
  repeat' first
    | (with_reducible rfl)
    | (intro _)
    | (simp [Live.less_ite]; done)
    | (with_reducible refine (Live.less_forL (fun l x => ?_)).trans ?_)
    | (with_reducible refine (Live.less_each (fun l x => ?_)).trans ?_)
    | (with_reducible refine (Live.less_foldl (fun l x => ?_)).trans ?_)
    | (with_reducible refine less_if ?_ ?_)
    | split
    | simp [Live.less_ite]
    | rfl

theorem only_opIn (lane : Fin 8) (f : PatFields) (s : State) : Only 2130176 s (execOpIn lane f s) := by
  unfold execOpIn
  refine only_upd ?_
  beta_reduce
  repeat' first
    | (with_reducible rfl)
    | (intro _)
    | (simp [Live.less_ite]; done)
    | (with_reducible refine (Live.less_forL (fun l x => ?_)).trans ?_)
    | (with_reducible refine (Live.less_each (fun l x => ?_)).trans ?_)
    | (with_reducible refine (Live.less_foldl (fun l x => ?_)).trans ?_)
    | (with_reducible refine less_if ?_ ?_)
    | split
    | simp [Live.less_ite]
    | rfl

theorem only_opOut (lane : Fin 8) (f : PatFields) (s : State) : Only 2130176 s (execOpOut lane f s) := by
  unfold execOpOut
  refine only_upd ?_
  beta_reduce
  repeat' first
    | (with_reducible rfl)
    | (intro _)
    | (simp [Live.less_ite]; done)
    | (with_reducible refine (Live.less_forL (fun l x => ?_)).trans ?_)
    | (with_reducible refine (Live.less_each (fun l x => ?_)).trans ?_)
    | (with_reducible refine (Live.less_foldl (fun l x => ?_)).trans ?_)
    | (with_reducible refine less_if ?_ ?_)
    | split
    | simp [Live.less_ite]
    | rfl

theorem only_opPub (lane : Fin 8) (f : PatFields) (s : State) : Only 2130176 s (execOpPub lane f s) := by
  unfold execOpPub
  refine only_upd ?_
  beta_reduce
  repeat' first
    | (with_reducible rfl)
    | (intro _)
    | (simp [Live.less_ite]; done)
    | (with_reducible refine (Live.less_forL (fun l x => ?_)).trans ?_)
    | (with_reducible refine (Live.less_each (fun l x => ?_)).trans ?_)
    | (with_reducible refine (Live.less_foldl (fun l x => ?_)).trans ?_)
    | (with_reducible refine less_if ?_ ?_)
    | split
    | simp [Live.less_ite]
    | rfl

theorem only_opClamp (lane : Fin 8) (f : PatFields) (s : State) : Only 2130176 s (execOpClamp lane f s) := by
  unfold execOpClamp
  refine only_upd ?_
  beta_reduce
  repeat' first
    | (with_reducible rfl)
    | (intro _)
    | (simp [Live.less_ite]; done)
    | (with_reducible refine (Live.less_forL (fun l x => ?_)).trans ?_)
    | (with_reducible refine (Live.less_each (fun l x => ?_)).trans ?_)
    | (with_reducible refine (Live.less_foldl (fun l x => ?_)).trans ?_)
    | (with_reducible refine less_if ?_ ?_)
    | split
    | simp [Live.less_ite]
    | rfl

theorem only_opMin (lane : Fin 8) (f : PatFields) (s : State) : Only 2130176 s (execOpMin lane f s) := by
  unfold execOpMin
  refine only_upd ?_
  beta_reduce
  repeat' first
    | (with_reducible rfl)
    | (intro _)
    | (simp [Live.less_ite]; done)
    | (with_reducible refine (Live.less_forL (fun l x => ?_)).trans ?_)
    | (with_reducible refine (Live.less_each (fun l x => ?_)).trans ?_)
    | (with_reducible refine (Live.less_foldl (fun l x => ?_)).trans ?_)
    | (with_reducible refine less_if ?_ ?_)
    | split
    | simp [Live.less_ite]
    | rfl

theorem only_opMax (lane : Fin 8) (f : PatFields) (s : State) : Only 2130176 s (execOpMax lane f s) := by
  unfold execOpMax
  refine only_upd ?_
  beta_reduce
  repeat' first
    | (with_reducible rfl)
    | (intro _)
    | (simp [Live.less_ite]; done)
    | (with_reducible refine (Live.less_forL (fun l x => ?_)).trans ?_)
    | (with_reducible refine (Live.less_each (fun l x => ?_)).trans ?_)
    | (with_reducible refine (Live.less_foldl (fun l x => ?_)).trans ?_)
    | (with_reducible refine less_if ?_ ?_)
    | split
    | simp [Live.less_ite]
    | rfl

theorem only_opCmplt (lane : Fin 8) (f : PatFields) (s : State) : Only 2130176 s (execOpCmplt lane f s) := by
  unfold execOpCmplt
  refine only_upd ?_
  beta_reduce
  repeat' first
    | (with_reducible rfl)
    | (intro _)
    | (simp [Live.less_ite]; done)
    | (with_reducible refine (Live.less_forL (fun l x => ?_)).trans ?_)
    | (with_reducible refine (Live.less_each (fun l x => ?_)).trans ?_)
    | (with_reducible refine (Live.less_foldl (fun l x => ?_)).trans ?_)
    | (with_reducible refine less_if ?_ ?_)
    | split
    | simp [Live.less_ite]
    | rfl

theorem only_opCmpgt (lane : Fin 8) (f : PatFields) (s : State) : Only 2130176 s (execOpCmpgt lane f s) := by
  unfold execOpCmpgt
  refine only_upd ?_
  beta_reduce
  repeat' first
    | (with_reducible rfl)
    | (intro _)
    | (simp [Live.less_ite]; done)
    | (with_reducible refine (Live.less_forL (fun l x => ?_)).trans ?_)
    | (with_reducible refine (Live.less_each (fun l x => ?_)).trans ?_)
    | (with_reducible refine (Live.less_foldl (fun l x => ?_)).trans ?_)
    | (with_reducible refine less_if ?_ ?_)
    | split
    | simp [Live.less_ite]
    | rfl

theorem only_opSel (lane : Fin 8) (f : PatFields) (s : State) : Only 2130176 s (execOpSel lane f s) := by
  unfold execOpSel
  refine only_upd ?_
  beta_reduce
  repeat' first
    | (with_reducible rfl)
    | (intro _)
    | (simp [Live.less_ite]; done)
    | (with_reducible refine (Live.less_forL (fun l x => ?_)).trans ?_)
    | (with_reducible refine (Live.less_each (fun l x => ?_)).trans ?_)
    | (with_reducible refine (Live.less_foldl (fun l x => ?_)).trans ?_)
    | (with_reducible refine less_if ?_ ?_)
    | split
    | simp [Live.less_ite]
    | rfl

theorem only_opTrip (lane : Fin 8) (f : PatFields) (s : State) : Only 70287616 s (execOpTrip lane f s) := by
  unfold execOpTrip
  refine only_upd ?_
  beta_reduce
  repeat' first
    | (with_reducible rfl)
    | (intro _)
    | (simp [Live.less_ite]; done)
    | (with_reducible refine (Live.less_forL (fun l x => ?_)).trans ?_)
    | (with_reducible refine (Live.less_each (fun l x => ?_)).trans ?_)
    | (with_reducible refine (Live.less_foldl (fun l x => ?_)).trans ?_)
    | (with_reducible refine less_if ?_ ?_)
    | split
    | simp [Live.less_ite]
    | rfl

theorem only_opRcrd (lane : Fin 8) (f : PatFields) (s : State) : Only 2130176 s (execOpRcrd lane f s) := by
  unfold execOpRcrd
  refine only_upd ?_
  beta_reduce
  repeat' first
    | (with_reducible rfl)
    | (intro _)
    | (simp [Live.less_ite]; done)
    | (with_reducible refine (Live.less_forL (fun l x => ?_)).trans ?_)
    | (with_reducible refine (Live.less_each (fun l x => ?_)).trans ?_)
    | (with_reducible refine (Live.less_foldl (fun l x => ?_)).trans ?_)
    | (with_reducible refine less_if ?_ ?_)
    | split
    | simp [Live.less_ite]
    | rfl

theorem only_opRcwr (lane : Fin 8) (f : PatFields) (s : State) : Only 2130176 s (execOpRcwr lane f s) := by
  unfold execOpRcwr
  refine only_upd (Live.patStep_keep _ _ _ _ _ _ rfl fun l e => ?_)
  beta_reduce
  split
  · rfl
  · rfl

theorem only_opTap (lane : Fin 8) (f : PatFields) (s : State) : Only 2130176 s (execOpTap lane f s) := by
  unfold execOpTap
  refine only_upd ?_
  beta_reduce
  repeat' first
    | (with_reducible rfl)
    | (intro _)
    | (simp [Live.less_ite]; done)
    | (with_reducible refine (Live.less_forL (fun l x => ?_)).trans ?_)
    | (with_reducible refine (Live.less_each (fun l x => ?_)).trans ?_)
    | (with_reducible refine (Live.less_foldl (fun l x => ?_)).trans ?_)
    | (with_reducible refine less_if ?_ ?_)
    | split
    | simp [Live.less_ite]
    | rfl

theorem only_loopBadOp (lane : Fin 8) (word : Word) (s : State) : Only 2130176 s (execLoopBadOp lane word s) := by
  unfold execLoopBadOp
  refine only_upd ?_
  beta_reduce
  repeat' first
    | (with_reducible rfl)
    | (intro _)
    | (simp [Live.less_ite]; done)
    | (with_reducible refine (Live.less_forL (fun l x => ?_)).trans ?_)
    | (with_reducible refine (Live.less_each (fun l x => ?_)).trans ?_)
    | (with_reducible refine (Live.less_foldl (fun l x => ?_)).trans ?_)
    | (with_reducible refine less_if ?_ ?_)
    | split
    | simp [Live.less_ite]
    | rfl

theorem only_railCourseWork (rail : Fin 48) (s : State) : Only 68192768 s (execRailCourseWork rail s) := by
  unfold execRailCourseWork
  refine only_upd ?_
  beta_reduce
  repeat' first
    | (with_reducible rfl)
    | (intro _)
    | (simp [Live.less_ite]; done)
    | (with_reducible refine (Live.less_forL (fun l x => ?_)).trans ?_)
    | (with_reducible refine (Live.less_each (fun l x => ?_)).trans ?_)
    | (with_reducible refine (Live.less_foldl (fun l x => ?_)).trans ?_)
    | (with_reducible refine less_if ?_ ?_)
    | split
    | simp [Live.less_ite]
    | rfl

theorem only_railOv (rail : Fin 48) (s : State) : Only 68192768 s (execRailOv rail s) := by
  unfold execRailOv
  refine only_upd ?_
  beta_reduce
  repeat' first
    | (with_reducible rfl)
    | (intro _)
    | (simp [Live.less_ite]; done)
    | (with_reducible refine (Live.less_forL (fun l x => ?_)).trans ?_)
    | (with_reducible refine (Live.less_each (fun l x => ?_)).trans ?_)
    | (with_reducible refine (Live.less_foldl (fun l x => ?_)).trans ?_)
    | (with_reducible refine less_if ?_ ?_)
    | split
    | simp [Live.less_ite]
    | rfl

theorem only_railUv (rail : Fin 48) (s : State) : Only 68192768 s (execRailUv rail s) := by
  unfold execRailUv
  refine only_upd ?_
  beta_reduce
  repeat' first
    | (with_reducible rfl)
    | (intro _)
    | (simp [Live.less_ite]; done)
    | (with_reducible refine (Live.less_forL (fun l x => ?_)).trans ?_)
    | (with_reducible refine (Live.less_each (fun l x => ?_)).trans ?_)
    | (with_reducible refine (Live.less_foldl (fun l x => ?_)).trans ?_)
    | (with_reducible refine less_if ?_ ?_)
    | split
    | simp [Live.less_ite]
    | rfl

theorem only_fbtimeExpiry (rail : Fin 48) (s : State) : Only 68192768 s (execFbtimeExpiry rail s) := by
  unfold execFbtimeExpiry
  refine only_upd ?_
  beta_reduce
  repeat' first
    | (with_reducible rfl)
    | (intro _)
    | (simp [Live.less_ite]; done)
    | (with_reducible refine (Live.less_forL (fun l x => ?_)).trans ?_)
    | (with_reducible refine (Live.less_each (fun l x => ?_)).trans ?_)
    | (with_reducible refine (Live.less_foldl (fun l x => ?_)).trans ?_)
    | (with_reducible refine less_if ?_ ?_)
    | split
    | simp [Live.less_ite]
    | rfl

theorem only_hictimeExpiry (rail : Fin 48) (s : State) : Only 68192768 s (execHictimeExpiry rail s) := by
  unfold execHictimeExpiry
  refine only_upd ?_
  beta_reduce
  repeat' first
    | (with_reducible rfl)
    | (intro _)
    | (simp [Live.less_ite]; done)
    | (with_reducible refine (Live.less_forL (fun l x => ?_)).trans ?_)
    | (with_reducible refine (Live.less_each (fun l x => ?_)).trans ?_)
    | (with_reducible refine (Live.less_foldl (fun l x => ?_)).trans ?_)
    | (with_reducible refine less_if ?_ ?_)
    | split
    | simp [Live.less_ite]
    | rfl

theorem only_railSsFail (rail : Fin 48) (s : State) : Only 68192768 s (execRailSsFail rail s) := by
  unfold execRailSsFail
  refine only_upd ?_
  beta_reduce
  repeat' first
    | (with_reducible rfl)
    | (intro _)
    | (simp [Live.less_ite]; done)
    | (with_reducible refine (Live.less_forL (fun l x => ?_)).trans ?_)
    | (with_reducible refine (Live.less_each (fun l x => ?_)).trans ?_)
    | (with_reducible refine (Live.less_foldl (fun l x => ?_)).trans ?_)
    | (with_reducible refine less_if ?_ ?_)
    | split
    | simp [Live.less_ite]
    | rfl

theorem only_hiccntReset (rail : Fin 48) (s : State) : Only 512 s (execHiccntReset rail s) := by
  unfold execHiccntReset
  refine only_upd ?_
  beta_reduce
  repeat' first
    | (with_reducible rfl)
    | (intro _)
    | (simp [Live.less_ite]; done)
    | (with_reducible refine (Live.less_forL (fun l x => ?_)).trans ?_)
    | (with_reducible refine (Live.less_each (fun l x => ?_)).trans ?_)
    | (with_reducible refine (Live.less_foldl (fun l x => ?_)).trans ?_)
    | (with_reducible refine less_if ?_ ?_)
    | split
    | simp [Live.less_ite]
    | rfl

theorem only_railPhaseOpen (rail : Fin 48) (member : Fin 8) (s : State) : Only 68192768 s (execRailPhaseOpen rail member s) := by
  unfold execRailPhaseOpen
  refine only_upd ?_
  beta_reduce
  repeat' first
    | (with_reducible rfl)
    | (intro _)
    | (simp [Live.less_ite]; done)
    | (with_reducible refine (Live.less_forL (fun l x => ?_)).trans ?_)
    | (with_reducible refine (Live.less_each (fun l x => ?_)).trans ?_)
    | (with_reducible refine (Live.less_foldl (fun l x => ?_)).trans ?_)
    | (with_reducible refine less_if ?_ ?_)
    | split
    | simp [Live.less_ite]
    | rfl

theorem only_railSenseFail (rail : Fin 48) (member : Fin 8) (s : State) : Only 68192768 s (execRailSenseFail rail member s) := by
  unfold execRailSenseFail
  refine only_upd (Live.railEvent_keep _ _ _ _ _ rfl fun l => ?_)
  exact (Live.senseFail_keep _ _ _ _ rfl).trans (Live.less_each fun l x => Live.phaseOpen_keep _ _ _ _ rfl)

theorem only_phaseShed (rail : Fin 48) (s : State) : Only 68192768 s (execPhaseShed rail s) := by
  unfold execPhaseShed
  refine only_upd ?_
  beta_reduce
  repeat' first
    | (with_reducible rfl)
    | (intro _)
    | (simp [Live.less_ite]; done)
    | (with_reducible refine (Live.less_forL (fun l x => ?_)).trans ?_)
    | (with_reducible refine (Live.less_each (fun l x => ?_)).trans ?_)
    | (with_reducible refine (Live.less_foldl (fun l x => ?_)).trans ?_)
    | (with_reducible refine less_if ?_ ?_)
    | split
    | simp [Live.less_ite]
    | rfl

theorem only_rctlOn (rail : Fin 48) (s : State) : Only 33554432 s (execRctlOn rail s) := by
  unfold execRctlOn
  refine only_upd ?_
  beta_reduce
  repeat' first
    | (with_reducible rfl)
    | (intro _)
    | (simp [Live.less_ite]; done)
    | (with_reducible refine (Live.less_forL (fun l x => ?_)).trans ?_)
    | (with_reducible refine (Live.less_each (fun l x => ?_)).trans ?_)
    | (with_reducible refine (Live.less_foldl (fun l x => ?_)).trans ?_)
    | (with_reducible refine less_if ?_ ?_)
    | split
    | simp [Live.less_ite]
    | rfl

theorem only_rctlOff (rail : Fin 48) (s : State) : Only 33554432 s (execRctlOff rail s) := by
  unfold execRctlOff
  refine only_upd ?_
  beta_reduce
  repeat' first
    | (with_reducible rfl)
    | (intro _)
    | (simp [Live.less_ite]; done)
    | (with_reducible refine (Live.less_forL (fun l x => ?_)).trans ?_)
    | (with_reducible refine (Live.less_each (fun l x => ?_)).trans ?_)
    | (with_reducible refine (Live.less_foldl (fun l x => ?_)).trans ?_)
    | (with_reducible refine less_if ?_ ?_)
    | split
    | simp [Live.less_ite]
    | rfl

theorem only_rctlUnlatch (rail : Fin 48) (s : State) : Only 33554432 s (execRctlUnlatch rail s) := by
  unfold execRctlUnlatch
  refine only_upd ?_
  beta_reduce
  repeat' first
    | (with_reducible rfl)
    | (intro _)
    | (simp [Live.less_ite]; done)
    | (with_reducible refine (Live.less_forL (fun l x => ?_)).trans ?_)
    | (with_reducible refine (Live.less_each (fun l x => ?_)).trans ?_)
    | (with_reducible refine (Live.less_foldl (fun l x => ?_)).trans ?_)
    | (with_reducible refine less_if ?_ ?_)
    | split
    | simp [Live.less_ite]
    | rfl

theorem only_rctlRestore (rail : Fin 48) (pmask : Byte) (s : State) : Only 33554432 s (execRctlRestore rail pmask s) := by
  unfold execRctlRestore
  refine only_upd ?_
  beta_reduce
  repeat' first
    | (with_reducible rfl)
    | (intro _)
    | (simp [Live.less_ite]; done)
    | (with_reducible refine (Live.less_forL (fun l x => ?_)).trans ?_)
    | (with_reducible refine (Live.less_each (fun l x => ?_)).trans ?_)
    | (with_reducible refine (Live.less_foldl (fun l x => ?_)).trans ?_)
    | (with_reducible refine less_if ?_ ?_)
    | split
    | simp [Live.less_ite]
    | rfl

theorem only_vsetWrite (rail : Fin 48) (vset : Half) (hslew : BitVec 3) (s : State) : Only 33554432 s (execVsetWrite rail vset hslew s) := by
  unfold execVsetWrite
  refine only_upd ?_
  beta_reduce
  repeat' first
    | (with_reducible rfl)
    | (intro _)
    | (simp [Live.less_ite]; done)
    | (with_reducible refine (Live.less_forL (fun l x => ?_)).trans ?_)
    | (with_reducible refine (Live.less_each (fun l x => ?_)).trans ?_)
    | (with_reducible refine (Live.less_foldl (fun l x => ?_)).trans ?_)
    | (with_reducible refine less_if ?_ ?_)
    | split
    | simp [Live.less_ite]
    | rfl

theorem only_setv (port : Fin 16) (c : VcCmd) (value : BitVec 12) (slew : BitVec 3) (s : State) : Only 68193280 s (execSetv port c value slew s) := by
  unfold execSetv
  refine only_upd ?_
  beta_reduce
  repeat' first
    | (with_reducible rfl)
    | (intro _)
    | (simp [Live.less_ite]; done)
    | (with_reducible refine (Live.less_forL (fun l x => ?_)).trans ?_)
    | (with_reducible refine (Live.less_each (fun l x => ?_)).trans ?_)
    | (with_reducible refine (Live.less_foldl (fun l x => ?_)).trans ?_)
    | (with_reducible refine less_if ?_ ?_)
    | split
    | simp [Live.less_ite]
    | rfl

theorem only_getv (port : Fin 16) (c : VcCmd) (arg : Fin 3) (s : State) : Only 68193280 s (execGetv port c arg s) := by
  unfold execGetv
  refine only_upd ?_
  beta_reduce
  repeat' first
    | (with_reducible rfl)
    | (intro _)
    | (simp [Live.less_ite]; done)
    | (with_reducible refine (Live.less_forL (fun l x => ?_)).trans ?_)
    | (with_reducible refine (Live.less_each (fun l x => ?_)).trans ?_)
    | (with_reducible refine (Live.less_foldl (fun l x => ?_)).trans ?_)
    | (with_reducible refine less_if ?_ ?_)
    | split
    | simp [Live.less_ite]
    | rfl

theorem only_geti (port : Fin 16) (c : VcCmd) (arg : Fin 3) (s : State) : Only 68193280 s (execGeti port c arg s) := by
  unfold execGeti
  refine only_upd ?_
  beta_reduce
  repeat' first
    | (with_reducible rfl)
    | (intro _)
    | (simp [Live.less_ite]; done)
    | (with_reducible refine (Live.less_forL (fun l x => ?_)).trans ?_)
    | (with_reducible refine (Live.less_each (fun l x => ?_)).trans ?_)
    | (with_reducible refine (Live.less_foldl (fun l x => ?_)).trans ?_)
    | (with_reducible refine less_if ?_ ?_)
    | split
    | simp [Live.less_ite]
    | rfl

theorem only_getp (port : Fin 16) (c : VcCmd) (s : State) : Only 68193280 s (execGetp port c s) := by
  unfold execGetp
  refine only_upd ?_
  beta_reduce
  repeat' first
    | (with_reducible rfl)
    | (intro _)
    | (simp [Live.less_ite]; done)
    | (with_reducible refine (Live.less_forL (fun l x => ?_)).trans ?_)
    | (with_reducible refine (Live.less_each (fun l x => ?_)).trans ?_)
    | (with_reducible refine (Live.less_foldl (fun l x => ?_)).trans ?_)
    | (with_reducible refine less_if ?_ ?_)
    | split
    | simp [Live.less_ite]
    | rfl

theorem only_getstatRail (port : Fin 16) (c : VcCmd) (s : State) : Only 68193280 s (execGetstatRail port c s) := by
  unfold execGetstatRail
  refine only_upd ?_
  beta_reduce
  repeat' first
    | (with_reducible rfl)
    | (intro _)
    | (simp [Live.less_ite]; done)
    | (with_reducible refine (Live.less_forL (fun l x => ?_)).trans ?_)
    | (with_reducible refine (Live.less_each (fun l x => ?_)).trans ?_)
    | (with_reducible refine (Live.less_foldl (fun l x => ?_)).trans ?_)
    | (with_reducible refine less_if ?_ ?_)
    | split
    | simp [Live.less_ite]
    | rfl

theorem only_getstatSummary (port : Fin 16) (c : VcCmd) (s : State) : Only 68193280 s (execGetstatSummary port c s) := by
  unfold execGetstatSummary
  refine only_upd ?_
  beta_reduce
  repeat' first
    | (with_reducible rfl)
    | (intro _)
    | (simp [Live.less_ite]; done)
    | (with_reducible refine (Live.less_forL (fun l x => ?_)).trans ?_)
    | (with_reducible refine (Live.less_each (fun l x => ?_)).trans ?_)
    | (with_reducible refine (Live.less_foldl (fun l x => ?_)).trans ?_)
    | (with_reducible refine less_if ?_ ?_)
    | split
    | simp [Live.less_ite]
    | rfl

theorem only_ackcap (port : Fin 16) (c : VcCmd) (level : BitVec 5) (s : State) : Only 68193280 s (execAckcap port c level s) := by
  unfold execAckcap
  refine only_upd ?_
  beta_reduce
  repeat' first
    | (with_reducible rfl)
    | (intro _)
    | (simp [Live.less_ite]; done)
    | (with_reducible refine (Live.less_forL (fun l x => ?_)).trans ?_)
    | (with_reducible refine (Live.less_each (fun l x => ?_)).trans ?_)
    | (with_reducible refine (Live.less_foldl (fun l x => ?_)).trans ?_)
    | (with_reducible refine less_if ?_ ?_)
    | split
    | simp [Live.less_ite]
    | rfl

theorem only_setmodeAuto (port : Fin 16) (c : VcCmd) (value : BitVec 12) (s : State) : Only 68193280 s (execSetmodeAuto port c value s) := by
  unfold execSetmodeAuto
  refine only_upd ?_
  beta_reduce
  repeat' first
    | (with_reducible rfl)
    | (intro _)
    | (simp [Live.less_ite]; done)
    | (with_reducible refine (Live.less_forL (fun l x => ?_)).trans ?_)
    | (with_reducible refine (Live.less_each (fun l x => ?_)).trans ?_)
    | (with_reducible refine (Live.less_foldl (fun l x => ?_)).trans ?_)
    | (with_reducible refine less_if ?_ ?_)
    | split
    | simp [Live.less_ite]
    | rfl

theorem only_setmodeFull (port : Fin 16) (c : VcCmd) (value : BitVec 12) (s : State) : Only 68193280 s (execSetmodeFull port c value s) := by
  unfold execSetmodeFull
  refine only_upd ?_
  beta_reduce
  repeat' first
    | (with_reducible rfl)
    | (intro _)
    | (simp [Live.less_ite]; done)
    | (with_reducible refine (Live.less_forL (fun l x => ?_)).trans ?_)
    | (with_reducible refine (Live.less_each (fun l x => ?_)).trans ?_)
    | (with_reducible refine (Live.less_foldl (fun l x => ?_)).trans ?_)
    | (with_reducible refine less_if ?_ ?_)
    | split
    | simp [Live.less_ite]
    | rfl

theorem only_setmodeEvmask (port : Fin 16) (c : VcCmd) (value : BitVec 12) (s : State) : Only 68193280 s (execSetmodeEvmask port c value s) := by
  unfold execSetmodeEvmask
  refine only_upd ?_
  beta_reduce
  repeat' first
    | (with_reducible rfl)
    | (intro _)
    | (simp [Live.less_ite]; done)
    | (with_reducible refine (Live.less_forL (fun l x => ?_)).trans ?_)
    | (with_reducible refine (Live.less_each (fun l x => ?_)).trans ?_)
    | (with_reducible refine (Live.less_foldl (fun l x => ?_)).trans ?_)
    | (with_reducible refine less_if ?_ ?_)
    | split
    | simp [Live.less_ite]
    | rfl

theorem only_ping (port : Fin 16) (c : VcCmd) (sync : Bool) (s : State) : Only 68193280 s (execPing port c sync s) := by
  unfold execPing
  refine only_upd ?_
  beta_reduce
  repeat' first
    | (with_reducible rfl)
    | (intro _)
    | (simp [Live.less_ite]; done)
    | (with_reducible refine (Live.less_forL (fun l x => ?_)).trans ?_)
    | (with_reducible refine (Live.less_each (fun l x => ?_)).trans ?_)
    | (with_reducible refine (Live.less_foldl (fun l x => ?_)).trans ?_)
    | (with_reducible refine less_if ?_ ?_)
    | split
    | simp [Live.less_ite]
    | rfl

theorem only_vcFrameTimeout (port : Fin 16) (word : Option Word) (s : State) : Only 68160512 s (execVcFrameTimeout port word s) := by
  unfold execVcFrameTimeout
  refine only_upd ?_
  beta_reduce
  repeat' first
    | (with_reducible rfl)
    | (intro _)
    | (simp [Live.less_ite]; done)
    | (with_reducible refine (Live.less_forL (fun l x => ?_)).trans ?_)
    | (with_reducible refine (Live.less_each (fun l x => ?_)).trans ?_)
    | (with_reducible refine (Live.less_foldl (fun l x => ?_)).trans ?_)
    | (with_reducible refine less_if ?_ ?_)
    | split
    | simp [Live.less_ite]
    | rfl

theorem only_setvSettled (rail : Fin 48) (s : State) : Only 68159488 s (execSetvSettled rail s) := by
  unfold execSetvSettled
  refine only_upd ?_
  beta_reduce
  repeat' first
    | (with_reducible rfl)
    | (intro _)
    | (simp [Live.less_ite]; done)
    | (with_reducible refine (Live.less_forL (fun l x => ?_)).trans ?_)
    | (with_reducible refine (Live.less_each (fun l x => ?_)).trans ?_)
    | (with_reducible refine (Live.less_foldl (fun l x => ?_)).trans ?_)
    | (with_reducible refine less_if ?_ ?_)
    | split
    | simp [Live.less_ite]
    | rfl

theorem only_vcSettleFail (rail : Fin 48) (s : State) : Only 34816 s (execVcSettleFail rail s) := by
  unfold execVcSettleFail
  refine only_upd ?_
  beta_reduce
  repeat' first
    | (with_reducible rfl)
    | (intro _)
    | (simp [Live.less_ite]; done)
    | (with_reducible refine (Live.less_forL (fun l x => ?_)).trans ?_)
    | (with_reducible refine (Live.less_each (fun l x => ?_)).trans ?_)
    | (with_reducible refine (Live.less_foldl (fun l x => ?_)).trans ?_)
    | (with_reducible refine less_if ?_ ?_)
    | split
    | simp [Live.less_ite]
    | rfl

theorem only_vcCapNoack (rail : Fin 48) (s : State) : Only 38912 s (execVcCapNoack rail s) := by
  unfold execVcCapNoack
  refine only_upd ?_
  beta_reduce
  repeat' first
    | (with_reducible rfl)
    | (intro _)
    | (simp [Live.less_ite]; done)
    | (with_reducible refine (Live.less_forL (fun l x => ?_)).trans ?_)
    | (with_reducible refine (Live.less_each (fun l x => ?_)).trans ?_)
    | (with_reducible refine (Live.less_foldl (fun l x => ?_)).trans ?_)
    | (with_reducible refine less_if ?_ ?_)
    | split
    | simp [Live.less_ite]
    | rfl

theorem only_vcCrcBurst (port : Fin 16) (s : State) : Only 33792 s (execVcCrcBurst port s) := by
  unfold execVcCrcBurst
  refine only_upd ?_
  beta_reduce
  repeat' first
    | (with_reducible rfl)
    | (intro _)
    | (simp [Live.less_ite]; done)
    | (with_reducible refine (Live.less_forL (fun l x => ?_)).trans ?_)
    | (with_reducible refine (Live.less_each (fun l x => ?_)).trans ?_)
    | (with_reducible refine (Live.less_foldl (fun l x => ?_)).trans ?_)
    | (with_reducible refine less_if ?_ ?_)
    | split
    | simp [Live.less_ite]
    | rfl

theorem only_vcBankChange (bank : Fin 4) (millivolts : Nat) (inFrame : List (Fin 4 × Option Word)) (s : State) : Only 72354816 s (execVcBankChange bank millivolts inFrame s) := by
  unfold execVcBankChange
  refine only_upd ?_
  beta_reduce
  repeat' first
    | (with_reducible rfl)
    | (intro _)
    | (simp [Live.less_ite]; done)
    | (with_reducible refine (Live.less_forL (fun l x => ?_)).trans ?_)
    | (with_reducible refine (Live.less_each (fun l x => ?_)).trans ?_)
    | (with_reducible refine (Live.less_foldl (fun l x => ?_)).trans ?_)
    | (with_reducible refine less_if ?_ ?_)
    | split
    | simp [Live.less_ite]
    | rfl

theorem only_inputStage (input : Fin 64) (s : State) : Only 68194304 s (execInputStage input s) := by
  unfold execInputStage
  refine only_upd ?_
  beta_reduce
  repeat' first
    | (with_reducible rfl)
    | (intro _)
    | (simp [Live.less_ite]; done)
    | (with_reducible refine (Live.less_forL (fun l x => ?_)).trans ?_)
    | (with_reducible refine (Live.less_each (fun l x => ?_)).trans ?_)
    | (with_reducible refine (Live.less_foldl (fun l x => ?_)).trans ?_)
    | (with_reducible refine less_if ?_ ?_)
    | split
    | simp [Live.less_ite]
    | rfl

theorem only_ppPairLost (input : Fin 64) (s : State) : Only 68194304 s (execPpPairLost input s) := by
  unfold execPpPairLost
  refine only_upd ?_
  beta_reduce
  repeat' first
    | (with_reducible rfl)
    | (intro _)
    | (simp [Live.less_ite]; done)
    | (with_reducible refine (Live.less_forL (fun l x => ?_)).trans ?_)
    | (with_reducible refine (Live.less_each (fun l x => ?_)).trans ?_)
    | (with_reducible refine (Live.less_foldl (fun l x => ?_)).trans ?_)
    | (with_reducible refine less_if ?_ ?_)
    | split
    | simp [Live.less_ite]
    | rfl

theorem only_ppGuardRepeat (input : Fin 64) (s : State) : Only 36864 s (execPpGuardRepeat input s) := by
  unfold execPpGuardRepeat
  refine only_upd ?_
  beta_reduce
  repeat' first
    | (with_reducible rfl)
    | (intro _)
    | (simp [Live.less_ite]; done)
    | (with_reducible refine (Live.less_forL (fun l x => ?_)).trans ?_)
    | (with_reducible refine (Live.less_each (fun l x => ?_)).trans ?_)
    | (with_reducible refine (Live.less_foldl (fun l x => ?_)).trans ?_)
    | (with_reducible refine less_if ?_ ?_)
    | split
    | simp [Live.less_ite]
    | rfl

theorem only_gholdExpiry (input : Fin 64) (s : State) : Only 68194560 s (execGholdExpiry input s) := by
  unfold execGholdExpiry
  refine only_upd ?_
  beta_reduce
  repeat' first
    | (with_reducible rfl)
    | (intro _)
    | (simp [Live.less_ite]; done)
    | (with_reducible refine (Live.less_forL (fun l x => ?_)).trans ?_)
    | (with_reducible refine (Live.less_each (fun l x => ?_)).trans ?_)
    | (with_reducible refine (Live.less_foldl (fun l x => ?_)).trans ?_)
    | (with_reducible refine less_if ?_ ?_)
    | split
    | simp [Live.less_ite]
    | rfl

theorem only_pfailLow (s : State) : Only 70709776 s (execPfailLow s) := by
  unfold execPfailLow
  refine only_upd ?_
  beta_reduce
  repeat' first
    | (with_reducible rfl)
    | (intro _)
    | (simp [Live.less_ite]; done)
    | (with_reducible refine (Live.less_forL (fun l x => ?_)).trans ?_)
    | (with_reducible refine (Live.less_each (fun l x => ?_)).trans ?_)
    | (with_reducible refine (Live.less_foldl (fun l x => ?_)).trans ?_)
    | (with_reducible refine less_if ?_ ?_)
    | split
    | simp [Live.less_ite]
    | rfl

theorem only_vbusLow (s : State) : Only 70709776 s (execVbusLow s) := by
  unfold execVbusLow
  refine only_upd ?_
  beta_reduce
  repeat' first
    | (with_reducible rfl)
    | (intro _)
    | (simp [Live.less_ite]; done)
    | (with_reducible refine (Live.less_forL (fun l x => ?_)).trans ?_)
    | (with_reducible refine (Live.less_each (fun l x => ?_)).trans ?_)
    | (with_reducible refine (Live.less_foldl (fun l x => ?_)).trans ?_)
    | (with_reducible refine less_if ?_ ?_)
    | split
    | simp [Live.less_ite]
    | rfl

theorem only_adcConversion (channel : Option (Fin 16)) (code : Half) (s : State) : Only 72405504 s (execAdcConversion channel code s) := by
  unfold execAdcConversion
  refine only_upd ?_
  beta_reduce
  repeat' first
    | (with_reducible rfl)
    | (intro _)
    | (simp [Live.less_ite]; done)
    | (with_reducible refine (Live.less_forL (fun l x => ?_)).trans ?_)
    | (with_reducible refine (Live.less_each (fun l x => ?_)).trans ?_)
    | (with_reducible refine (Live.less_foldl (fun l x => ?_)).trans ?_)
    | (with_reducible refine less_if ?_ ?_)
    | split
    | simp [Live.less_ite]
    | rfl

theorem only_adcRange (channel : Fin 16) (s : State) : Only 4227072 s (execAdcRange channel s) := by
  unfold execAdcRange
  refine only_upd ?_
  beta_reduce
  repeat' first
    | (with_reducible rfl)
    | (intro _)
    | (simp [Live.less_ite]; done)
    | (with_reducible refine (Live.less_forL (fun l x => ?_)).trans ?_)
    | (with_reducible refine (Live.less_each (fun l x => ?_)).trans ?_)
    | (with_reducible refine (Live.less_foldl (fun l x => ?_)).trans ?_)
    | (with_reducible refine less_if ?_ ?_)
    | split
    | simp [Live.less_ite]
    | rfl

theorem only_cbusMeasure (s : State) : Only 36864 s (execCbusMeasure s) := by
  unfold execCbusMeasure
  refine only_upd ?_
  beta_reduce
  repeat' first
    | (with_reducible rfl)
    | (intro _)
    | (simp [Live.less_ite]; done)
    | (with_reducible refine (Live.less_forL (fun l x => ?_)).trans ?_)
    | (with_reducible refine (Live.less_each (fun l x => ?_)).trans ?_)
    | (with_reducible refine (Live.less_foldl (fun l x => ?_)).trans ?_)
    | (with_reducible refine less_if ?_ ?_)
    | split
    | simp [Live.less_ite]
    | rfl

theorem only_fullAnchor (str : Fin 16) (s : State) : Only 68165632 s (execFullAnchor str s) := by
  unfold execFullAnchor
  refine only_upd ?_
  beta_reduce
  repeat' first
    | (with_reducible rfl)
    | (intro _)
    | (simp [Live.less_ite]; done)
    | (with_reducible refine (Live.less_forL (fun l x => ?_)).trans ?_)
    | (with_reducible refine (Live.less_each (fun l x => ?_)).trans ?_)
    | (with_reducible refine (Live.less_foldl (fun l x => ?_)).trans ?_)
    | (with_reducible refine less_if ?_ ?_)
    | split
    | simp [Live.less_ite]
    | rfl

theorem only_emptyAnchor (str : Fin 16) (s : State) : Only 68215040 s (execEmptyAnchor str s) := by
  unfold execEmptyAnchor
  refine only_upd ?_
  beta_reduce
  repeat' first
    | (with_reducible rfl)
    | (intro _)
    | (simp [Live.less_ite]; done)
    | (with_reducible refine (Live.less_forL (fun l x => ?_)).trans ?_)
    | (with_reducible refine (Live.less_each (fun l x => ?_)).trans ?_)
    | (with_reducible refine (Live.less_foldl (fun l x => ?_)).trans ?_)
    | (with_reducible refine less_if ?_ ?_)
    | split
    | simp [Live.less_ite]
    | rfl

theorem only_impedanceMeasure (str : Fin 16) (s : State) : Only 68165632 s (execImpedanceMeasure str s) := by
  unfold execImpedanceMeasure
  refine only_upd ?_
  extract_lets k q h i1 v1 di adi r good l1 rn l2 l3
  split
  · refine less_if rfl ?_
    have e1 : Live.less 68165632 l1 = Live.less 68165632 s.live := Live.modStr_keep _ _ _ _ rfl
    have e2 : Live.less 68165632 l2 = Live.less 68165632 l1 := Live.modStr_keep _ _ _ _ rfl
    have e3 : Live.less 68165632 l3 = Live.less 68165632 l2 := Live.count_keep _ _ _ rfl
    exact less_if e1 (less_if ((Live.modStr_keep l3 _ _ _ rfl).trans (e3.trans (e2.trans e1))) (e3.trans (e2.trans e1)))
  · rfl

theorem only_packMonitorRead (str : Fin 16) (s : State) : Only 532480 s (execPackMonitorRead str s) := by
  unfold execPackMonitorRead
  refine only_upd ?_
  beta_reduce
  repeat' first
    | (with_reducible rfl)
    | (intro _)
    | (simp [Live.less_ite]; done)
    | (with_reducible refine (Live.less_forL (fun l x => ?_)).trans ?_)
    | (with_reducible refine (Live.less_each (fun l x => ?_)).trans ?_)
    | (with_reducible refine (Live.less_foldl (fun l x => ?_)).trans ?_)
    | (with_reducible refine less_if ?_ ?_)
    | split
    | simp [Live.less_ite]
    | rfl

theorem only_capStale (str : Fin 16) (s : State) : Only 57344 s (execCapStale str s) := by
  unfold execCapStale
  refine only_upd ?_
  extract_lets k q
  exact less_if (by simp) rfl

theorem only_journalPeriod (str : Fin 16) (s : State) : Only 24576 s (execJournalPeriod str s) := by
  unfold execJournalPeriod
  refine only_upd ?_
  beta_reduce
  repeat' first
    | (with_reducible rfl)
    | (intro _)
    | (simp [Live.less_ite]; done)
    | (with_reducible refine (Live.less_forL (fun l x => ?_)).trans ?_)
    | (with_reducible refine (Live.less_each (fun l x => ?_)).trans ?_)
    | (with_reducible refine (Live.less_foldl (fun l x => ?_)).trans ?_)
    | (with_reducible refine less_if ?_ ?_)
    | split
    | simp [Live.less_ite]
    | rfl

theorem only_learnedRecordDone (str : Fin 16) (ok : Bool) (s : State) : Only 68214784 s (execLearnedRecordDone str ok s) := by
  unfold execLearnedRecordDone
  refine only_upd ?_
  beta_reduce
  extract_lets k
  split
  · rfl
  · rename_i l0 x1 b x again heq
    extract_lets l1 l2 l3
    have e0 : Live.less 68214784 l0 = Live.less 68214784 s.live := (Live.modStr_keep _ _ _ _ rfl).trans (Live.flashEnd_keep _ _ _ rfl)
    have e1 : Live.less 68214784 l1 = Live.less 68214784 l0 := (Live.modStr_keep _ _ _ _ rfl).trans (Live.slotFill_keep _ _ _ _ _ rfl)
    have e2 : Live.less 68214784 l2 = Live.less 68214784 l1 := less_if (Live.slotErase_keep _ _ _ _ rfl) rfl
    have e3 : Live.less 68214784 l3 = Live.less 68214784 l0 := less_if (Live.slotErase_keep _ _ _ _ rfl) rfl
    refine less_if ?_ (less_if ?_ ?_)
    · exact (Live.strWrite_keep _ _ _ rfl).trans ((Live.count_keep _ _ _ rfl).trans (e2.trans (e1.trans e0)))
    · exact (Live.strWrite_keep _ _ _ rfl).trans ((Live.raise_keep _ _ _ _ _ _ _ rfl).trans (e3.trans e0))
    · exact (Live.strWrite_keep _ _ _ rfl).trans ((Live.modStr_keep _ _ _ _ rfl).trans e0)

theorem only_gcmdResetlearn (str : Fin 16) (s : State) : Only 33554432 s (execGcmdResetlearn str s) := by
  unfold execGcmdResetlearn
  refine only_upd ?_
  beta_reduce
  repeat' first
    | (with_reducible rfl)
    | (intro _)
    | (simp [Live.less_ite]; done)
    | (with_reducible refine (Live.less_forL (fun l x => ?_)).trans ?_)
    | (with_reducible refine (Live.less_each (fun l x => ?_)).trans ?_)
    | (with_reducible refine (Live.less_foldl (fun l x => ?_)).trans ?_)
    | (with_reducible refine less_if ?_ ?_)
    | split
    | simp [Live.less_ite]
    | rfl

theorem only_xcmdStart (str : Fin 16) (s : State) : Only 33554432 s (execXcmdStart str s) := by
  unfold execXcmdStart
  refine only_upd ?_
  beta_reduce
  repeat' first
    | (with_reducible rfl)
    | (intro _)
    | (simp [Live.less_ite]; done)
    | (with_reducible refine (Live.less_forL (fun l x => ?_)).trans ?_)
    | (with_reducible refine (Live.less_each (fun l x => ?_)).trans ?_)
    | (with_reducible refine (Live.less_foldl (fun l x => ?_)).trans ?_)
    | (with_reducible refine less_if ?_ ?_)
    | split
    | simp [Live.less_ite]
    | rfl

theorem only_xcmdAbort (s : State) : Only 33554432 s (execXcmdAbort s) := by
  unfold execXcmdAbort
  refine only_upd ?_
  beta_reduce
  repeat' first
    | (with_reducible rfl)
    | (intro _)
    | (simp [Live.less_ite]; done)
    | (with_reducible refine (Live.less_forL (fun l x => ?_)).trans ?_)
    | (with_reducible refine (Live.less_each (fun l x => ?_)).trans ?_)
    | (with_reducible refine (Live.less_foldl (fun l x => ?_)).trans ?_)
    | (with_reducible refine less_if ?_ ?_)
    | split
    | simp [Live.less_ite]
    | rfl

theorem only_exerciseTimeout (s : State) : Only 41216 s (execExerciseTimeout s) := by
  unfold execExerciseTimeout
  refine only_upd ?_
  beta_reduce
  repeat' first
    | (with_reducible rfl)
    | (intro _)
    | (simp [Live.less_ite]; done)
    | (with_reducible refine (Live.less_forL (fun l x => ?_)).trans ?_)
    | (with_reducible refine (Live.less_each (fun l x => ?_)).trans ?_)
    | (with_reducible refine (Live.less_foldl (fun l x => ?_)).trans ?_)
    | (with_reducible refine less_if ?_ ?_)
    | split
    | simp [Live.less_ite]
    | rfl

theorem only_dieSensorRead (sixteenths : List Int) (s : State) : Only 68210944 s (execDieSensorRead sixteenths s) := by
  unfold execDieSensorRead
  refine only_upd ?_
  beta_reduce
  repeat' first
    | (with_reducible rfl)
    | (intro _)
    | (simp [Live.less_ite]; done)
    | (with_reducible refine (Live.less_forL (fun l x => ?_)).trans ?_)
    | (with_reducible refine (Live.less_each (fun l x => ?_)).trans ?_)
    | (with_reducible refine (Live.less_foldl (fun l x => ?_)).trans ?_)
    | (with_reducible refine less_if ?_ ?_)
    | split
    | simp [Live.less_ite]
    | rfl

theorem only_pointUpdate (point : Fin 288) (s : State) : Only 68206592 s (execPointUpdate point s) := by
  unfold execPointUpdate
  refine only_upd ?_
  extract_lets p k dt pw amb corr kc st d1 d2 d3 ths mband band th0 th hot l1 l2 l3 l4
  have e1 : Live.less 68206592 l1 = Live.less 68206592 s.live := Live.modPoint_keep _ _ _ _ rfl
  have e2 : Live.less 68206592 l2 = Live.less 68206592 l1 := Live.count_keep _ _ _ rfl
  have e3 : Live.less 68206592 l3 = Live.less 68206592 l2 := less_if (Live.count_keep _ _ _ rfl) rfl
  have e4 : Live.less 68206592 l4 = Live.less 68206592 l3 := less_if (by simp) rfl
  have e := e4.trans (e3.trans (e2.trans e1))
  exact less_if rfl (less_if ((Live.raise_keep l4 _ _ _ _ _ _ rfl).trans e) e)

theorem only_airSensorRead (sensor : Fin 4) (s : State) : Only 540672 s (execAirSensorRead sensor s) := by
  unfold execAirSensorRead
  refine only_upd ?_
  beta_reduce
  repeat' first
    | (with_reducible rfl)
    | (intro _)
    | (simp [Live.less_ite]; done)
    | (with_reducible refine (Live.less_forL (fun l x => ?_)).trans ?_)
    | (with_reducible refine (Live.less_each (fun l x => ?_)).trans ?_)
    | (with_reducible refine (Live.less_foldl (fun l x => ?_)).trans ?_)
    | (with_reducible refine less_if ?_ ?_)
    | split
    | simp [Live.less_ite]
    | rfl

theorem only_scrubPass (found : ScrubFound) (s : State) : Only 68606912 s (execScrubPass found s) := by
  unfold execScrubPass
  refine only_upd ?_
  beta_reduce
  repeat' first
    | (with_reducible rfl)
    | (intro _)
    | (simp [Live.less_ite]; done)
    | (with_reducible refine (Live.less_forL (fun l x => ?_)).trans ?_)
    | (with_reducible refine (Live.less_each (fun l x => ?_)).trans ?_)
    | (with_reducible refine (Live.less_foldl (fun l x => ?_)).trans ?_)
    | (with_reducible refine less_if ?_ ?_)
    | split
    | simp [Live.less_ite]
    | rfl

theorem only_occurrenceTaken (d : Option FaultArg) (s : State) : Only 81787872 s (execOccurrenceTaken d s) := by
  unfold execOccurrenceTaken
  refine only_upd ?_
  beta_reduce
  repeat' first
    | (with_reducible rfl)
    | (intro _)
    | (simp [Live.less_ite]; done)
    | (with_reducible refine (Live.less_forL (fun l x => ?_)).trans ?_)
    | (with_reducible refine (Live.less_each (fun l x => ?_)).trans ?_)
    | (with_reducible refine (Live.less_foldl (fun l x => ?_)).trans ?_)
    | (with_reducible refine less_if ?_ ?_)
    | split
    | simp [Live.less_ite]
    | rfl

theorem only_wireFault (code obj aux : Half) (reads : PairFault) (s : State) : Only 81787872 s (execWireFault code obj aux reads s) := by
  unfold execWireFault
  refine only_upd ?_
  beta_reduce
  repeat' first
    | (with_reducible rfl)
    | (intro _)
    | (simp [Live.less_ite]; done)
    | (with_reducible refine (Live.less_forL (fun l x => ?_)).trans ?_)
    | (with_reducible refine (Live.less_each (fun l x => ?_)).trans ?_)
    | (with_reducible refine (Live.less_foldl (fun l x => ?_)).trans ?_)
    | (with_reducible refine less_if ?_ ?_)
    | split
    | simp [Live.less_ite]
    | rfl

theorem only_blockBack (block : Fin 16) (s : State) : Only 1097984 s (execBlockBack block s) := by
  unfold execBlockBack
  refine only_upd ?_
  beta_reduce
  repeat' first
    | (with_reducible rfl)
    | (intro _)
    | (simp [Live.less_ite]; done)
    | (with_reducible refine (Live.less_forL (fun l x => ?_)).trans ?_)
    | (with_reducible refine (Live.less_each (fun l x => ?_)).trans ?_)
    | (with_reducible refine (Live.less_foldl (fun l x => ?_)).trans ?_)
    | (with_reducible refine less_if ?_ ?_)
    | split
    | simp [Live.less_ite]
    | rfl

theorem only_shadowWindowClose (block : Fin 16) (s : State) : Only 81787872 s (execShadowWindowClose block s) := by
  unfold execShadowWindowClose
  refine only_upd ?_
  beta_reduce
  repeat' first
    | (with_reducible rfl)
    | (intro _)
    | (simp [Live.less_ite]; done)
    | (with_reducible refine (Live.less_forL (fun l x => ?_)).trans ?_)
    | (with_reducible refine (Live.less_each (fun l x => ?_)).trans ?_)
    | (with_reducible refine (Live.less_foldl (fun l x => ?_)).trans ?_)
    | (with_reducible refine less_if ?_ ?_)
    | split
    | simp [Live.less_ite]
    | rfl

theorem only_faultLogCopy (s : State) : Only 68190208 s (execFaultLogCopy s) := by
  unfold execFaultLogCopy
  refine only_upd ?_
  beta_reduce
  repeat' first
    | (with_reducible rfl)
    | (intro _)
    | (simp [Live.less_ite]; done)
    | (with_reducible refine (Live.less_forL (fun l x => ?_)).trans ?_)
    | (with_reducible refine (Live.less_each (fun l x => ?_)).trans ?_)
    | (with_reducible refine (Live.less_foldl (fun l x => ?_)).trans ?_)
    | (with_reducible refine less_if ?_ ?_)
    | split
    | simp [Live.less_ite]
    | rfl

theorem only_faultClear (h : MsgHdr) (code obj : Half) (s : State) : Only 69129120 s (execFaultClear h code obj s) := by
  refine only_next (keeps_serve _ s _ _ _ rfl ?_)
  exact (keeps_onLive _ _ fun l n c => by
    beta_reduce
    repeat' first
      | (with_reducible rfl)
      | (intro _)
      | (simp [Live.less_ite]; done)
      | (with_reducible refine (Live.less_forL (fun l x => ?_)).trans ?_)
      | (with_reducible refine (Live.less_each (fun l x => ?_)).trans ?_)
      | (with_reducible refine (Live.less_foldl (fun l x => ?_)).trans ?_)
      | (with_reducible refine less_if ?_ ?_)
      | split
      | simp [Live.less_ite]
      | rfl)

theorem only_safexit (s : State) : Only 402653182 s (execSafexit s) := by
  unfold execSafexit
  exact only_ite (only_next ⟨rfl, by simp, fun e => absurd e (by decide), fun _ => trivial⟩) (only_same _ s)

theorem only_heartbeatToggle (s : State) : Only 65536 s (execHeartbeatToggle s) := by
  unfold execHeartbeatToggle
  refine only_upd ?_
  beta_reduce
  repeat' first
    | (with_reducible rfl)
    | (intro _)
    | (simp [Live.less_ite]; done)
    | (with_reducible refine (Live.less_forL (fun l x => ?_)).trans ?_)
    | (with_reducible refine (Live.less_each (fun l x => ?_)).trans ?_)
    | (with_reducible refine (Live.less_foldl (fun l x => ?_)).trans ?_)
    | (with_reducible refine less_if ?_ ?_)
    | split
    | simp [Live.less_ite]
    | rfl

theorem only_hbinEdge (s : State) : Only 134217720 s (execHbinEdge s) := by
  unfold execHbinEdge
  refine only_upd ?_
  refine less_if rfl ?_
  extract_lets l
  have e : Live.less 134217720 l = Live.less 134217720 s.live := Live.modK_keep _ _ _ rfl
  clear_value l
  rw [← e]
  split
  · simp [Live.less_ite]
  · simp [Live.less_ite]
  · refine less_if rfl ?_
    simp
  · refine less_if rfl ?_
    simp
  · rfl

theorem only_heartbeatSilence (s : State) : Only 134217720 s (execHeartbeatSilence s) := by
  unfold execHeartbeatSilence
  refine only_upd ?_
  refine less_if rfl ?_
  extract_lets l lw lc
  have ew : Live.less 134217720 lw = Live.less 134217720 l := by simp [lw]
  have ec : Live.less 134217720 lc = Live.less 134217720 l := by simp [lc]
  have e : Live.less 134217720 l = Live.less 134217720 s.live := Live.modK_keep _ _ _ rfl
  clear_value lw lc l
  rw [← e]
  split
  · refine less_if (less_if rfl (by simp)) (less_if rfl ?_)
    refine less_if ?_ ew
    simp [ew]
  · refine less_if ?_ rfl
    simp [ec]
  · refine less_if ?_ rfl
    simp [ec]
  · rfl

theorem only_mateStatus (f : MateHdr) (s : State) : Only 134217720 s (execMateStatus f s) := by
  unfold execMateStatus
  refine only_upd ?_
  beta_reduce
  repeat' first
    | (with_reducible rfl)
    | (intro _)
    | (simp [Live.less_ite]; done)
    | (with_reducible refine (Live.less_forL (fun l x => ?_)).trans ?_)
    | (with_reducible refine (Live.less_each (fun l x => ?_)).trans ?_)
    | (with_reducible refine (Live.less_foldl (fun l x => ?_)).trans ?_)
    | (with_reducible refine less_if ?_ ?_)
    | split
    | simp [Live.less_ite]
    | rfl

theorem only_kprMateDown (s : State) : Only 98304 s (execKprMateDown s) := by
  unfold execKprMateDown
  refine only_upd ?_
  beta_reduce
  repeat' first
    | (with_reducible rfl)
    | (intro _)
    | (simp [Live.less_ite]; done)
    | (with_reducible refine (Live.less_forL (fun l x => ?_)).trans ?_)
    | (with_reducible refine (Live.less_each (fun l x => ?_)).trans ?_)
    | (with_reducible refine (Live.less_foldl (fun l x => ?_)).trans ?_)
    | (with_reducible refine less_if ?_ ?_)
    | split
    | simp [Live.less_ite]
    | rfl

theorem only_ckptData (f : MateHdr) (s : State) : Only 68222976 s (execCkptData f s) := by
  unfold execCkptData
  refine only_upd ?_
  beta_reduce
  repeat' first
    | (with_reducible rfl)
    | (intro _)
    | (simp [Live.less_ite]; done)
    | (with_reducible refine (Live.less_forL (fun l x => ?_)).trans ?_)
    | (with_reducible refine (Live.less_each (fun l x => ?_)).trans ?_)
    | (with_reducible refine (Live.less_foldl (fun l x => ?_)).trans ?_)
    | (with_reducible refine less_if ?_ ?_)
    | split
    | simp [Live.less_ite]
    | rfl

theorem only_ckptAck (f : MateHdr) (s : State) : Only 68255744 s (execCkptAck f s) := by
  unfold execCkptAck
  refine only_upd ?_
  beta_reduce
  repeat' first
    | (with_reducible rfl)
    | (intro _)
    | (simp [Live.less_ite]; done)
    | (with_reducible refine (Live.less_forL (fun l x => ?_)).trans ?_)
    | (with_reducible refine (Live.less_each (fun l x => ?_)).trans ?_)
    | (with_reducible refine (Live.less_foldl (fun l x => ?_)).trans ?_)
    | (with_reducible refine less_if ?_ ?_)
    | split
    | simp [Live.less_ite]
    | rfl

theorem only_ckptBlockTimeout (idx : Fin 30) (s : State) : Only 68255744 s (execCkptBlockTimeout idx s) := by
  unfold execCkptBlockTimeout
  refine only_upd ?_
  beta_reduce
  repeat' first
    | (with_reducible rfl)
    | (intro _)
    | (simp [Live.less_ite]; done)
    | (with_reducible refine (Live.less_forL (fun l x => ?_)).trans ?_)
    | (with_reducible refine (Live.less_each (fun l x => ?_)).trans ?_)
    | (with_reducible refine (Live.less_foldl (fun l x => ?_)).trans ?_)
    | (with_reducible refine less_if ?_ ?_)
    | split
    | simp [Live.less_ite]
    | rfl

theorem only_claimNotice (_f : MateHdr) (s : State) : Only 0 s (execClaimNotice _f s) := by
  exact only_same _ s

theorem only_imgData (f : MateHdr) (s : State) : Only 196624 s (execImgData f s) := by
  unfold execImgData
  refine only_upd ?_
  beta_reduce
  repeat' first
    | (with_reducible rfl)
    | (intro _)
    | (simp [Live.less_ite]; done)
    | (with_reducible refine (Live.less_forL (fun l x => ?_)).trans ?_)
    | (with_reducible refine (Live.less_each (fun l x => ?_)).trans ?_)
    | (with_reducible refine (Live.less_foldl (fun l x => ?_)).trans ?_)
    | (with_reducible refine less_if ?_ ?_)
    | split
    | simp [Live.less_ite]
    | rfl

theorem only_imgAck (f : MateHdr) (s : State) : Only 68616192 s (execImgAck f s) := by
  unfold execImgAck
  refine only_upd ?_
  beta_reduce
  repeat' first
    | (with_reducible rfl)
    | (intro _)
    | (simp [Live.less_ite]; done)
    | (with_reducible refine (Live.less_forL (fun l x => ?_)).trans ?_)
    | (with_reducible refine (Live.less_each (fun l x => ?_)).trans ?_)
    | (with_reducible refine (Live.less_foldl (fun l x => ?_)).trans ?_)
    | (with_reducible refine less_if ?_ ?_)
    | split
    | simp [Live.less_ite]
    | rfl

theorem only_imageSyncTimeout (s : State) : Only 68550656 s (execImageSyncTimeout s) := by
  unfold execImageSyncTimeout
  refine only_upd ?_
  beta_reduce
  repeat' first
    | (with_reducible rfl)
    | (intro _)
    | (simp [Live.less_ite]; done)
    | (with_reducible refine (Live.less_forL (fun l x => ?_)).trans ?_)
    | (with_reducible refine (Live.less_each (fun l x => ?_)).trans ?_)
    | (with_reducible refine (Live.less_foldl (fun l x => ?_)).trans ?_)
    | (with_reducible refine less_if ?_ ?_)
    | split
    | simp [Live.less_ite]
    | rfl

theorem only_handoverReq (f : MateHdr) (s : State) : Only 68255760 s (execHandoverReq f s) := by
  unfold execHandoverReq
  refine only_upd ?_
  beta_reduce
  repeat' first
    | (with_reducible rfl)
    | (intro _)
    | (simp [Live.less_ite]; done)
    | (with_reducible refine (Live.less_forL (fun l x => ?_)).trans ?_)
    | (with_reducible refine (Live.less_each (fun l x => ?_)).trans ?_)
    | (with_reducible refine (Live.less_foldl (fun l x => ?_)).trans ?_)
    | (with_reducible refine less_if ?_ ?_)
    | split
    | simp [Live.less_ite]
    | rfl

theorem only_handoverReady (f : MateHdr) (s : State) : Only 65536 s (execHandoverReady f s) := by
  unfold execHandoverReady
  refine only_upd ?_
  beta_reduce
  repeat' first
    | (with_reducible rfl)
    | (intro _)
    | (simp [Live.less_ite]; done)
    | (with_reducible refine (Live.less_forL (fun l x => ?_)).trans ?_)
    | (with_reducible refine (Live.less_each (fun l x => ?_)).trans ?_)
    | (with_reducible refine (Live.less_foldl (fun l x => ?_)).trans ?_)
    | (with_reducible refine less_if ?_ ?_)
    | split
    | simp [Live.less_ite]
    | rfl

theorem only_handoverGo (f : MateHdr) (s : State) : Only 65536 s (execHandoverGo f s) := by
  unfold execHandoverGo
  refine only_upd ?_
  beta_reduce
  repeat' first
    | (with_reducible rfl)
    | (intro _)
    | (simp [Live.less_ite]; done)
    | (with_reducible refine (Live.less_forL (fun l x => ?_)).trans ?_)
    | (with_reducible refine (Live.less_each (fun l x => ?_)).trans ?_)
    | (with_reducible refine (Live.less_foldl (fun l x => ?_)).trans ?_)
    | (with_reducible refine less_if ?_ ?_)
    | split
    | simp [Live.less_ite]
    | rfl

theorem only_kcmdHandover (s : State) : Only 33554432 s (execKcmdHandover s) := by
  unfold execKcmdHandover
  refine only_upd ?_
  beta_reduce
  repeat' first
    | (with_reducible rfl)
    | (intro _)
    | (simp [Live.less_ite]; done)
    | (with_reducible refine (Live.less_forL (fun l x => ?_)).trans ?_)
    | (with_reducible refine (Live.less_each (fun l x => ?_)).trans ?_)
    | (with_reducible refine (Live.less_foldl (fun l x => ?_)).trans ?_)
    | (with_reducible refine less_if ?_ ?_)
    | split
    | simp [Live.less_ite]
    | rfl

theorem only_kcmdAbort (s : State) : Only 33554432 s (execKcmdAbort s) := by
  unfold execKcmdAbort
  refine only_upd ?_
  beta_reduce
  repeat' first
    | (with_reducible rfl)
    | (intro _)
    | (simp [Live.less_ite]; done)
    | (with_reducible refine (Live.less_forL (fun l x => ?_)).trans ?_)
    | (with_reducible refine (Live.less_each (fun l x => ?_)).trans ?_)
    | (with_reducible refine (Live.less_foldl (fun l x => ?_)).trans ?_)
    | (with_reducible refine less_if ?_ ?_)
    | split
    | simp [Live.less_ite]
    | rfl

theorem only_kprHandoverFail (s : State) : Only 98304 s (execKprHandoverFail s) := by
  unfold execKprHandoverFail
  refine only_upd ?_
  beta_reduce
  repeat' first
    | (with_reducible rfl)
    | (intro _)
    | (simp [Live.less_ite]; done)
    | (with_reducible refine (Live.less_forL (fun l x => ?_)).trans ?_)
    | (with_reducible refine (Live.less_each (fun l x => ?_)).trans ?_)
    | (with_reducible refine (Live.less_foldl (fun l x => ?_)).trans ?_)
    | (with_reducible refine less_if ?_ ?_)
    | split
    | simp [Live.less_ite]
    | rfl

theorem only_warmingDone (s : State) : Only 68255872 s (execWarmingDone s) := by
  unfold execWarmingDone
  refine only_upd ?_
  beta_reduce
  repeat' first
    | (with_reducible rfl)
    | (intro _)
    | (simp [Live.less_ite]; done)
    | (with_reducible refine (Live.less_forL (fun l x => ?_)).trans ?_)
    | (with_reducible refine (Live.less_each (fun l x => ?_)).trans ?_)
    | (with_reducible refine (Live.less_foldl (fun l x => ?_)).trans ?_)
    | (with_reducible refine less_if ?_ ?_)
    | split
    | simp [Live.less_ite]
    | rfl

theorem only_claimWaitExpiry (s : State) : Only 65536 s (execClaimWaitExpiry s) := by
  unfold execClaimWaitExpiry
  refine only_upd ?_
  beta_reduce
  repeat' first
    | (with_reducible rfl)
    | (intro _)
    | (simp [Live.less_ite]; done)
    | (with_reducible refine (Live.less_forL (fun l x => ?_)).trans ?_)
    | (with_reducible refine (Live.less_each (fun l x => ?_)).trans ?_)
    | (with_reducible refine (Live.less_foldl (fun l x => ?_)).trans ?_)
    | (with_reducible refine less_if ?_ ?_)
    | split
    | simp [Live.less_ite]
    | rfl

theorem only_claimStart (s : State) : Only 68255744 s (execClaimStart s) := by
  unfold execClaimStart
  refine only_upd ?_
  beta_reduce
  repeat' first
    | (with_reducible rfl)
    | (intro _)
    | (simp [Live.less_ite]; done)
    | (with_reducible refine (Live.less_forL (fun l x => ?_)).trans ?_)
    | (with_reducible refine (Live.less_each (fun l x => ?_)).trans ?_)
    | (with_reducible refine (Live.less_foldl (fun l x => ?_)).trans ?_)
    | (with_reducible refine less_if ?_ ?_)
    | split
    | simp [Live.less_ite]
    | rfl

theorem only_claimWindowEnd (s : State) : Only 134217720 s (execClaimWindowEnd s) := by
  unfold execClaimWindowEnd
  refine only_upd ?_
  beta_reduce
  repeat' first
    | (with_reducible rfl)
    | (intro _)
    | (simp [Live.less_ite]; done)
    | (with_reducible refine (Live.less_forL (fun l x => ?_)).trans ?_)
    | (with_reducible refine (Live.less_each (fun l x => ?_)).trans ?_)
    | (with_reducible refine (Live.less_foldl (fun l x => ?_)).trans ?_)
    | (with_reducible refine less_if ?_ ?_)
    | split
    | simp [Live.less_ite]
    | rfl

theorem only_dmissAllSlots (ring : Fin 8) (s : State) : Only 160 s (execDmissAllSlots ring s) := by
  unfold execDmissAllSlots
  refine only_upd ?_
  beta_reduce
  repeat' first
    | (with_reducible rfl)
    | (intro _)
    | (simp [Live.less_ite]; done)
    | (with_reducible refine (Live.less_forL (fun l x => ?_)).trans ?_)
    | (with_reducible refine (Live.less_each (fun l x => ?_)).trans ?_)
    | (with_reducible refine (Live.less_foldl (fun l x => ?_)).trans ?_)
    | (with_reducible refine less_if ?_ ?_)
    | split
    | simp [Live.less_ite]
    | rfl

theorem only_commitComplete (flashOk : Bool) (s : State) : Only 68583424 s (execCommitComplete flashOk s) := by
  unfold execCommitComplete
  refine only_upd ?_
  beta_reduce
  repeat' first
    | (with_reducible rfl)
    | (intro _)
    | (simp [Live.less_ite]; done)
    | (with_reducible refine (Live.less_forL (fun l x => ?_)).trans ?_)
    | (with_reducible refine (Live.less_each (fun l x => ?_)).trans ?_)
    | (with_reducible refine (Live.less_foldl (fun l x => ?_)).trans ?_)
    | (with_reducible refine less_if ?_ ?_)
    | split
    | simp [Live.less_ite]
    | rfl

theorem only_msgOpen (h : MsgHdr) (cls : BitVec 2) (s : State) : Only 203292672 s (execMsgOpen h cls s) := by
  refine only_next (keeps_serve _ s _ _ _ rfl ?_)
  exact (keeps_onLive _ _ fun l n c => by
    beta_reduce
    repeat' first
      | (with_reducible rfl)
      | (intro _)
      | (simp [Live.less_ite]; done)
      | (with_reducible refine (Live.less_forL (fun l x => ?_)).trans ?_)
      | (with_reducible refine (Live.less_each (fun l x => ?_)).trans ?_)
      | (with_reducible refine (Live.less_foldl (fun l x => ?_)).trans ?_)
      | (with_reducible refine less_if ?_ ?_)
      | split
      | simp [Live.less_ite]
      | rfl)

theorem only_msgAuth (h : MsgHdr) (hmac : List Byte) (s : State) : Only 71204880 s (execMsgAuth h hmac s) := by
  refine only_next (keeps_serve _ s _ _ _ rfl ?_)
  exact (keeps_onLive _ _ fun l n c => by
    beta_reduce
    repeat' first
      | (with_reducible rfl)
      | (intro _)
      | (simp [Live.less_ite]; done)
      | (with_reducible refine (Live.less_forL (fun l x => ?_)).trans ?_)
      | (with_reducible refine (Live.less_each (fun l x => ?_)).trans ?_)
      | (with_reducible refine (Live.less_foldl (fun l x => ?_)).trans ?_)
      | (with_reducible refine less_if ?_ ?_)
      | split
      | simp [Live.less_ite]
      | rfl)

theorem only_msgClose (h : MsgHdr) (s : State) : Only 71204880 s (execMsgClose h s) := by
  refine only_next (keeps_serve _ s _ _ _ rfl ?_)
  exact (keeps_onLive _ _ fun l n c => by
    beta_reduce
    repeat' first
      | (with_reducible rfl)
      | (intro _)
      | (simp [Live.less_ite]; done)
      | (with_reducible refine (Live.less_forL (fun l x => ?_)).trans ?_)
      | (with_reducible refine (Live.less_each (fun l x => ?_)).trans ?_)
      | (with_reducible refine (Live.less_foldl (fun l x => ?_)).trans ?_)
      | (with_reducible refine less_if ?_ ?_)
      | split
      | simp [Live.less_ite]
      | rfl)

theorem only_msgRead (h : MsgHdr) (obj : Half) (first count flags : Byte) (gen : List Byte) (s : State) : Only 69074944 s (execMsgRead h obj first count flags gen s) := by
  refine only_next (keeps_serve _ s _ _ _ rfl ?_)
  exact fun s _ _ => .refl _ s

theorem only_msgWrite (h : MsgHdr) (obj : Half) (first : Byte) (words : List Word) (s : State) : Only 402653182 s (execMsgWrite h obj first words s) := by
  refine only_next (keeps_serve _ s _ _ _ rfl ?_)
  exact fun s n _ => keeps_write _ s _ n rfl

theorem only_snapPin (h : MsgHdr) (s : State) : Only 337510400 s (execSnapPin h s) := by
  refine only_next (keeps_serve _ s _ _ _ rfl ?_)
  exact fun s n _ => keeps_pin _ s n rfl

theorem only_snapRelease (h : MsgHdr) (gen : BitVec 48) (s : State) : Only 337510400 s (execSnapRelease h gen s) := by
  refine only_next (keeps_serve _ s _ _ _ rfl ?_)
  exact fun s n _ => keeps_unpin _ s n _ rfl

theorem only_txnBegin (h : MsgHdr) (s : State) : Only 69074944 s (execTxnBegin h s) := by
  refine only_next (keeps_serve _ s _ _ _ rfl ?_)
  exact (keeps_onLive _ _ fun l n c => by
    beta_reduce
    repeat' first
      | (with_reducible rfl)
      | (intro _)
      | (simp [Live.less_ite]; done)
      | (with_reducible refine (Live.less_forL (fun l x => ?_)).trans ?_)
      | (with_reducible refine (Live.less_each (fun l x => ?_)).trans ?_)
      | (with_reducible refine (Live.less_foldl (fun l x => ?_)).trans ?_)
      | (with_reducible refine less_if ?_ ?_)
      | split
      | simp [Live.less_ite]
      | rfl)

theorem only_txnCommit (h : MsgHdr) (s : State) : Only 69140736 s (execTxnCommit h s) := by
  refine only_next (keeps_serve _ s _ _ _ rfl ?_)
  exact fun s n c => keeps_commit _ s _ n c rfl

theorem only_txnRollback (h : MsgHdr) (s : State) : Only 69074944 s (execTxnRollback h s) := by
  refine only_next (keeps_serve _ s _ _ _ rfl ?_)
  exact (keeps_onLive _ _ fun l n c => by
    beta_reduce
    repeat' first
      | (with_reducible rfl)
      | (intro _)
      | (simp [Live.less_ite]; done)
      | (with_reducible refine (Live.less_forL (fun l x => ?_)).trans ?_)
      | (with_reducible refine (Live.less_each (fun l x => ?_)).trans ?_)
      | (with_reducible refine (Live.less_foldl (fun l x => ?_)).trans ?_)
      | (with_reducible refine less_if ?_ ?_)
      | split
      | simp [Live.less_ite]
      | rfl)

theorem only_txnStatus (h : MsgHdr) (s : State) : Only 69074944 s (execTxnStatus h s) := by
  refine only_next (keeps_serve _ s _ _ _ rfl ?_)
  exact (keeps_onLive _ _ fun l n c => by
    beta_reduce
    repeat' first
      | (with_reducible rfl)
      | (intro _)
      | (simp [Live.less_ite]; done)
      | (with_reducible refine (Live.less_forL (fun l x => ?_)).trans ?_)
      | (with_reducible refine (Live.less_each (fun l x => ?_)).trans ?_)
      | (with_reducible refine (Live.less_foldl (fun l x => ?_)).trans ?_)
      | (with_reducible refine less_if ?_ ?_)
      | split
      | simp [Live.less_ite]
      | rfl)

theorem only_eventPoll (h : MsgHdr) (most : Byte) (s : State) : Only 69074944 s (execEventPoll h most s) := by
  refine only_next (keeps_serve _ s _ _ _ rfl ?_)
  exact (keeps_onLive _ _ fun l n c => by
    beta_reduce
    repeat' first
      | (with_reducible rfl)
      | (intro _)
      | (simp [Live.less_ite]; done)
      | (with_reducible refine (Live.less_forL (fun l x => ?_)).trans ?_)
      | (with_reducible refine (Live.less_each (fun l x => ?_)).trans ?_)
      | (with_reducible refine (Live.less_foldl (fun l x => ?_)).trans ?_)
      | (with_reducible refine less_if ?_ ?_)
      | split
      | simp [Live.less_ite]
      | rfl)

theorem only_counterRead (h : MsgHdr) (first count flags : Byte) (s : State) : Only 69074944 s (execCounterRead h first count flags s) := by
  refine only_next (keeps_serve _ s _ _ _ rfl ?_)
  exact (keeps_onLive _ _ fun l n c => by
    beta_reduce
    repeat' first
      | (with_reducible rfl)
      | (intro _)
      | (simp [Live.less_ite]; done)
      | (with_reducible refine (Live.less_forL (fun l x => ?_)).trans ?_)
      | (with_reducible refine (Live.less_each (fun l x => ?_)).trans ?_)
      | (with_reducible refine (Live.less_foldl (fun l x => ?_)).trans ?_)
      | (with_reducible refine less_if ?_ ?_)
      | split
      | simp [Live.less_ite]
      | rfl)

theorem only_sampleRead (h : MsgHdr) (first : Half) (count : Byte) (s : State) : Only 69074944 s (execSampleRead h first count s) := by
  refine only_next (keeps_serve _ s _ _ _ rfl ?_)
  exact (keeps_onLive _ _ fun l n c => by
    beta_reduce
    repeat' first
      | (with_reducible rfl)
      | (intro _)
      | (simp [Live.less_ite]; done)
      | (with_reducible refine (Live.less_forL (fun l x => ?_)).trans ?_)
      | (with_reducible refine (Live.less_each (fun l x => ?_)).trans ?_)
      | (with_reducible refine (Live.less_foldl (fun l x => ?_)).trans ?_)
      | (with_reducible refine less_if ?_ ?_)
      | split
      | simp [Live.less_ite]
      | rfl)

theorem only_recordRead (h : MsgHdr) (source which : Byte) (start : Word) (blocks : Byte) (s : State) : Only 69074944 s (execRecordRead h source which start blocks s) := by
  refine only_next (keeps_serve _ s _ _ _ rfl ?_)
  exact (keeps_onLive _ _ fun l n c => by
    beta_reduce
    repeat' first
      | (with_reducible rfl)
      | (intro _)
      | (simp [Live.less_ite]; done)
      | (with_reducible refine (Live.less_forL (fun l x => ?_)).trans ?_)
      | (with_reducible refine (Live.less_each (fun l x => ?_)).trans ?_)
      | (with_reducible refine (Live.less_foldl (fun l x => ?_)).trans ?_)
      | (with_reducible refine less_if ?_ ?_)
      | split
      | simp [Live.less_ite]
      | rfl)

theorem only_imageWrite (h : MsgHdr) (offset : Word) (data : List Byte) (s : State) : Only 69074944 s (execImageWrite h offset data s) := by
  refine only_next (keeps_serve _ s _ _ _ rfl ?_)
  exact (keeps_onLive _ _ fun l n c => by
    beta_reduce
    repeat' first
      | (with_reducible rfl)
      | (intro _)
      | (simp [Live.less_ite]; done)
      | (with_reducible refine (Live.less_forL (fun l x => ?_)).trans ?_)
      | (with_reducible refine (Live.less_each (fun l x => ?_)).trans ?_)
      | (with_reducible refine (Live.less_foldl (fun l x => ?_)).trans ?_)
      | (with_reducible refine less_if ?_ ?_)
      | split
      | simp [Live.less_ite]
      | rfl)

theorem only_updateBlock (h : MsgHdr) (offset crc : Word) (data : List Byte) (s : State) : Only 71204864 s (execUpdateBlock h offset crc data s) := by
  refine only_next (keeps_serve _ s _ _ _ rfl ?_)
  exact (keeps_onLive _ _ fun l n c => by
    beta_reduce
    repeat' first
      | (with_reducible rfl)
      | (intro _)
      | (simp [Live.less_ite]; done)
      | (with_reducible refine (Live.less_forL (fun l x => ?_)).trans ?_)
      | (with_reducible refine (Live.less_each (fun l x => ?_)).trans ?_)
      | (with_reducible refine (Live.less_foldl (fun l x => ?_)).trans ?_)
      | (with_reducible refine less_if ?_ ?_)
      | split
      | simp [Live.less_ite]
      | rfl)

theorem only_updateSeal (h : MsgHdr) (s : State) : Only 71204864 s (execUpdateSeal h s) := by
  refine only_next (keeps_serve _ s _ _ _ rfl ?_)
  exact (keeps_onLive _ _ fun l n c => by
    beta_reduce
    repeat' first
      | (with_reducible rfl)
      | (intro _)
      | (simp [Live.less_ite]; done)
      | (with_reducible refine (Live.less_forL (fun l x => ?_)).trans ?_)
      | (with_reducible refine (Live.less_each (fun l x => ?_)).trans ?_)
      | (with_reducible refine (Live.less_foldl (fun l x => ?_)).trans ?_)
      | (with_reducible refine less_if ?_ ?_)
      | split
      | simp [Live.less_ite]
      | rfl)

theorem only_updateArm (h : MsgHdr) (restart : Bool) (s : State) : Only 71205008 s (execUpdateArm h restart s) := by
  refine only_next (keeps_serve _ s _ _ _ rfl ?_)
  exact (keeps_onLive _ _ fun l n c => by
    beta_reduce
    repeat' first
      | (with_reducible rfl)
      | (intro _)
      | (simp [Live.less_ite]; done)
      | (with_reducible refine (Live.less_forL (fun l x => ?_)).trans ?_)
      | (with_reducible refine (Live.less_each (fun l x => ?_)).trans ?_)
      | (with_reducible refine (Live.less_foldl (fun l x => ?_)).trans ?_)
      | (with_reducible refine less_if ?_ ?_)
      | split
      | simp [Live.less_ite]
      | rfl)

theorem only_updateConfirm (h : MsgHdr) (env : FuseEnv) (s : State) : Only 71204864 s (execUpdateConfirm h env s) := by
  refine only_next (keeps_serve _ s _ _ _ rfl ?_)
  exact (keeps_onLive _ _ fun l n c => by
    beta_reduce
    repeat' first
      | (with_reducible rfl)
      | (intro _)
      | (simp [Live.less_ite]; done)
      | (with_reducible refine (Live.less_forL (fun l x => ?_)).trans ?_)
      | (with_reducible refine (Live.less_each (fun l x => ?_)).trans ?_)
      | (with_reducible refine (Live.less_foldl (fun l x => ?_)).trans ?_)
      | (with_reducible refine less_if ?_ ?_)
      | split
      | simp [Live.less_ite]
      | rfl)

theorem only_updateStatus (h : MsgHdr) (s : State) : Only 69074944 s (execUpdateStatus h s) := by
  refine only_next (keeps_serve _ s _ _ _ rfl ?_)
  exact (keeps_onLive _ _ fun l n c => by
    beta_reduce
    repeat' first
      | (with_reducible rfl)
      | (intro _)
      | (simp [Live.less_ite]; done)
      | (with_reducible refine (Live.less_forL (fun l x => ?_)).trans ?_)
      | (with_reducible refine (Live.less_each (fun l x => ?_)).trans ?_)
      | (with_reducible refine (Live.less_foldl (fun l x => ?_)).trans ?_)
      | (with_reducible refine less_if ?_ ?_)
      | split
      | simp [Live.less_ite]
      | rfl)

theorem only_recoveryEnter (h : MsgHdr) (s : State) : Only 71172112 s (execRecoveryEnter h s) := by
  refine only_next (keeps_serve _ s _ _ _ rfl ?_)
  exact (keeps_onLive _ _ fun l n c => by
    beta_reduce
    repeat' first
      | (with_reducible rfl)
      | (intro _)
      | (simp [Live.less_ite]; done)
      | (with_reducible refine (Live.less_forL (fun l x => ?_)).trans ?_)
      | (with_reducible refine (Live.less_each (fun l x => ?_)).trans ?_)
      | (with_reducible refine (Live.less_foldl (fun l x => ?_)).trans ?_)
      | (with_reducible refine less_if ?_ ?_)
      | split
      | simp [Live.less_ite]
      | rfl)

theorem only_recoveryBlock (h : MsgHdr) (offset crc : Word) (data : List Byte) (s : State) : Only 71172096 s (execRecoveryBlock h offset crc data s) := by
  refine only_next (keeps_serve _ s _ _ _ rfl ?_)
  exact (keeps_onLive _ _ fun l n c => by
    beta_reduce
    repeat' first
      | (with_reducible rfl)
      | (intro _)
      | (simp [Live.less_ite]; done)
      | (with_reducible refine (Live.less_forL (fun l x => ?_)).trans ?_)
      | (with_reducible refine (Live.less_each (fun l x => ?_)).trans ?_)
      | (with_reducible refine (Live.less_foldl (fun l x => ?_)).trans ?_)
      | (with_reducible refine less_if ?_ ?_)
      | split
      | simp [Live.less_ite]
      | rfl)

theorem only_recoveryFinish (h : MsgHdr) (s : State) : Only 71204880 s (execRecoveryFinish h s) := by
  refine only_next (keeps_serve _ s _ _ _ rfl ?_)
  exact (keeps_onLive _ _ fun l n c => by
    beta_reduce
    repeat' first
      | (with_reducible rfl)
      | (intro _)
      | (simp [Live.less_ite]; done)
      | (with_reducible refine (Live.less_forL (fun l x => ?_)).trans ?_)
      | (with_reducible refine (Live.less_each (fun l x => ?_)).trans ?_)
      | (with_reducible refine (Live.less_foldl (fun l x => ?_)).trans ?_)
      | (with_reducible refine less_if ?_ ?_)
      | split
      | simp [Live.less_ite]
      | rfl)

theorem only_recoveryAbort (h : MsgHdr) (s : State) : Only 71172096 s (execRecoveryAbort h s) := by
  refine only_next (keeps_serve _ s _ _ _ rfl ?_)
  exact (keeps_onLive _ _ fun l n c => by
    beta_reduce
    repeat' first
      | (with_reducible rfl)
      | (intro _)
      | (simp [Live.less_ite]; done)
      | (with_reducible refine (Live.less_forL (fun l x => ?_)).trans ?_)
      | (with_reducible refine (Live.less_each (fun l x => ?_)).trans ?_)
      | (with_reducible refine (Live.less_foldl (fun l x => ?_)).trans ?_)
      | (with_reducible refine less_if ?_ ?_)
      | split
      | simp [Live.less_ite]
      | rfl)

theorem only_fuseProgram (h : MsgHdr) (addr : Fin 512) (val : Word) (env : FuseEnv) (s : State) : Only 71204880 s (execFuseProgram h addr val env s) := by
  refine only_next (keeps_serve _ s _ _ _ rfl ?_)
  exact (keeps_onLive _ _ fun l n c => by
    beta_reduce
    repeat' first
      | (with_reducible rfl)
      | (intro _)
      | (simp [Live.less_ite]; done)
      | (with_reducible refine (Live.less_forL (fun l x => ?_)).trans ?_)
      | (with_reducible refine (Live.less_each (fun l x => ?_)).trans ?_)
      | (with_reducible refine (Live.less_foldl (fun l x => ?_)).trans ?_)
      | (with_reducible refine less_if ?_ ?_)
      | split
      | simp [Live.less_ite]
      | rfl)

theorem only_fuseReburn (h : MsgHdr) (addr : Fin 512) (val : Word) (env : FuseEnv) (s : State) : Only 71204880 s (execFuseReburn h addr val env s) := by
  refine only_next (keeps_serve _ s _ _ _ rfl ?_)
  exact (keeps_onLive _ _ fun l n c => by
    beta_reduce
    repeat' first
      | (with_reducible rfl)
      | (intro _)
      | (simp [Live.less_ite]; done)
      | (with_reducible refine (Live.less_forL (fun l x => ?_)).trans ?_)
      | (with_reducible refine (Live.less_each (fun l x => ?_)).trans ?_)
      | (with_reducible refine (Live.less_foldl (fun l x => ?_)).trans ?_)
      | (with_reducible refine less_if ?_ ?_)
      | split
      | simp [Live.less_ite]
      | rfl)

theorem only_fuseReadNormal (h : MsgHdr) (addr : Fin 512) (s : State) : Only 69074944 s (execFuseReadNormal h addr s) := by
  refine only_next (keeps_serve _ s _ _ _ rfl ?_)
  exact (keeps_onLive _ _ fun l n c => by
    beta_reduce
    repeat' first
      | (with_reducible rfl)
      | (intro _)
      | (simp [Live.less_ite]; done)
      | (with_reducible refine (Live.less_forL (fun l x => ?_)).trans ?_)
      | (with_reducible refine (Live.less_each (fun l x => ?_)).trans ?_)
      | (with_reducible refine (Live.less_foldl (fun l x => ?_)).trans ?_)
      | (with_reducible refine less_if ?_ ?_)
      | split
      | simp [Live.less_ite]
      | rfl)

theorem only_fuseReadMarginLo (h : MsgHdr) (addr : Fin 512) (s : State) : Only 69074944 s (execFuseReadMarginLo h addr s) := by
  refine only_next (keeps_serve _ s _ _ _ rfl ?_)
  exact (keeps_onLive _ _ fun l n c => by
    beta_reduce
    repeat' first
      | (with_reducible rfl)
      | (intro _)
      | (simp [Live.less_ite]; done)
      | (with_reducible refine (Live.less_forL (fun l x => ?_)).trans ?_)
      | (with_reducible refine (Live.less_each (fun l x => ?_)).trans ?_)
      | (with_reducible refine (Live.less_foldl (fun l x => ?_)).trans ?_)
      | (with_reducible refine less_if ?_ ?_)
      | split
      | simp [Live.less_ite]
      | rfl)

theorem only_fuseReadMarginHi (h : MsgHdr) (addr : Fin 512) (s : State) : Only 69074944 s (execFuseReadMarginHi h addr s) := by
  refine only_next (keeps_serve _ s _ _ _ rfl ?_)
  exact (keeps_onLive _ _ fun l n c => by
    beta_reduce
    repeat' first
      | (with_reducible rfl)
      | (intro _)
      | (simp [Live.less_ite]; done)
      | (with_reducible refine (Live.less_forL (fun l x => ?_)).trans ?_)
      | (with_reducible refine (Live.less_each (fun l x => ?_)).trans ?_)
      | (with_reducible refine (Live.less_foldl (fun l x => ?_)).trans ?_)
      | (with_reducible refine less_if ?_ ?_)
      | split
      | simp [Live.less_ite]
      | rfl)

theorem only_fuseLock (h : MsgHdr) (region : Fin 8) (env : FuseEnv) (s : State) : Only 71172096 s (execFuseLock h region env s) := by
  refine only_next (keeps_serve _ s _ _ _ rfl ?_)
  exact (keeps_onLive _ _ fun l n c => by
    beta_reduce
    repeat' first
      | (with_reducible rfl)
      | (intro _)
      | (simp [Live.less_ite]; done)
      | (with_reducible refine (Live.less_forL (fun l x => ?_)).trans ?_)
      | (with_reducible refine (Live.less_each (fun l x => ?_)).trans ?_)
      | (with_reducible refine (Live.less_foldl (fun l x => ?_)).trans ?_)
      | (with_reducible refine less_if ?_ ?_)
      | split
      | simp [Live.less_ite]
      | rfl)

theorem only_sessionAuthTimeout (sess : Fin 16) (s : State) : Only 70680592 s (execSessionAuthTimeout sess s) := by
  unfold execSessionAuthTimeout
  refine only_upd ?_
  beta_reduce
  repeat' first
    | (with_reducible rfl)
    | (intro _)
    | (simp [Live.less_ite]; done)
    | (with_reducible refine (Live.less_forL (fun l x => ?_)).trans ?_)
    | (with_reducible refine (Live.less_each (fun l x => ?_)).trans ?_)
    | (with_reducible refine (Live.less_foldl (fun l x => ?_)).trans ?_)
    | (with_reducible refine less_if ?_ ?_)
    | split
    | simp [Live.less_ite]
    | rfl

theorem only_sessionIdleTimeout (sess : Fin 16) (s : State) : Only 70680592 s (execSessionIdleTimeout sess s) := by
  unfold execSessionIdleTimeout
  refine only_upd ?_
  beta_reduce
  repeat' first
    | (with_reducible rfl)
    | (intro _)
    | (simp [Live.less_ite]; done)
    | (with_reducible refine (Live.less_forL (fun l x => ?_)).trans ?_)
    | (with_reducible refine (Live.less_each (fun l x => ?_)).trans ?_)
    | (with_reducible refine (Live.less_foldl (fun l x => ?_)).trans ?_)
    | (with_reducible refine less_if ?_ ?_)
    | split
    | simp [Live.less_ite]
    | rfl

theorem only_authLockEnd (port : Fin 3) (s : State) : Only 262144 s (execAuthLockEnd port s) := by
  unfold execAuthLockEnd
  refine only_upd ?_
  beta_reduce
  repeat' first
    | (with_reducible rfl)
    | (intro _)
    | (simp [Live.less_ite]; done)
    | (with_reducible refine (Live.less_forL (fun l x => ?_)).trans ?_)
    | (with_reducible refine (Live.less_each (fun l x => ?_)).trans ?_)
    | (with_reducible refine (Live.less_foldl (fun l x => ?_)).trans ?_)
    | (with_reducible refine less_if ?_ ?_)
    | split
    | simp [Live.less_ite]
    | rfl

theorem only_snapPinExpiry (gen : BitVec 48) (s : State) : Only 268697600 s (execSnapPinExpiry gen s) := by
  unfold execSnapPinExpiry
  extract_lets l
  have e : Live.less 262144 l = Live.less 262144 s.live := by
    simp only [l]
    exact Live.less_each (fun l n => by simp)
  exact only_next ((State.Keeps.live_of (Live.less_le rfl e)).trans (.prune _ _ rfl))

theorem only_txnTimeout (s : State) : Only 68583424 s (execTxnTimeout s) := by
  unfold execTxnTimeout
  refine only_upd ?_
  beta_reduce
  repeat' first
    | (with_reducible rfl)
    | (intro _)
    | (simp [Live.less_ite]; done)
    | (with_reducible refine (Live.less_forL (fun l x => ?_)).trans ?_)
    | (with_reducible refine (Live.less_each (fun l x => ?_)).trans ?_)
    | (with_reducible refine (Live.less_foldl (fun l x => ?_)).trans ?_)
    | (with_reducible refine less_if ?_ ?_)
    | split
    | simp [Live.less_ite]
    | rfl

theorem only_disagreementListed (row : Fin 32) (obj : Half) (s : State) : Only 67371008 s (execDisagreementListed row obj s) := by
  unfold execDisagreementListed
  refine only_upd ?_
  beta_reduce
  repeat' first
    | (with_reducible rfl)
    | (intro _)
    | (simp [Live.less_ite]; done)
    | (with_reducible refine (Live.less_forL (fun l x => ?_)).trans ?_)
    | (with_reducible refine (Live.less_each (fun l x => ?_)).trans ?_)
    | (with_reducible refine (Live.less_foldl (fun l x => ?_)).trans ?_)
    | (with_reducible refine less_if ?_ ?_)
    | split
    | simp [Live.less_ite]
    | rfl

theorem only_twWriteTransfer (keeperAddr : Bool) (octets : List Byte) (s : State) : Only 68419584 s (execTwWriteTransfer keeperAddr octets s) := by
  unfold execTwWriteTransfer
  refine only_upd ?_
  beta_reduce
  repeat' first
    | (with_reducible rfl)
    | (intro _)
    | (simp [Live.less_ite]; done)
    | (with_reducible refine (Live.less_forL (fun l x => ?_)).trans ?_)
    | (with_reducible refine (Live.less_each (fun l x => ?_)).trans ?_)
    | (with_reducible refine (Live.less_foldl (fun l x => ?_)).trans ?_)
    | (with_reducible refine less_if ?_ ?_)
    | split
    | simp [Live.less_ite]
    | rfl

theorem only_twReadTransfer (keeperAddr : Bool) (count : Nat) (_lastAcked : Bool) (s : State) : Only 402653182 s (execTwReadTransfer keeperAddr count _lastAcked s) := by
  unfold execTwReadTransfer
  dsimp only
  refine only_ite (only_same _ s) (only_next ?_)
  exact (State.Keeps.live_of (s := s) (by simp)).trans (keeps_readDone _ _ _ _ rfl)

theorem only_twAddressMatch (s : State) : Only 68681728 s (execTwAddressMatch s) := by
  unfold execTwAddressMatch
  refine only_upd ?_
  beta_reduce
  repeat' first
    | (with_reducible rfl)
    | (intro _)
    | (simp [Live.less_ite]; done)
    | (with_reducible refine (Live.less_forL (fun l x => ?_)).trans ?_)
    | (with_reducible refine (Live.less_each (fun l x => ?_)).trans ?_)
    | (with_reducible refine (Live.less_foldl (fun l x => ?_)).trans ?_)
    | (with_reducible refine less_if ?_ ?_)
    | split
    | simp [Live.less_ite]
    | rfl

theorem only_twWakeFail (s : State) : Only 68681728 s (execTwWakeFail s) := by
  unfold execTwWakeFail
  refine only_upd ?_
  beta_reduce
  repeat' first
    | (with_reducible rfl)
    | (intro _)
    | (simp [Live.less_ite]; done)
    | (with_reducible refine (Live.less_forL (fun l x => ?_)).trans ?_)
    | (with_reducible refine (Live.less_each (fun l x => ?_)).trans ?_)
    | (with_reducible refine (Live.less_foldl (fun l x => ?_)).trans ?_)
    | (with_reducible refine less_if ?_ ?_)
    | split
    | simp [Live.less_ite]
    | rfl

theorem only_twSclTimeout (s : State) : Only 67665920 s (execTwSclTimeout s) := by
  unfold execTwSclTimeout
  refine only_upd ?_
  beta_reduce
  repeat' first
    | (with_reducible rfl)
    | (intro _)
    | (simp [Live.less_ite]; done)
    | (with_reducible refine (Live.less_forL (fun l x => ?_)).trans ?_)
    | (with_reducible refine (Live.less_each (fun l x => ?_)).trans ?_)
    | (with_reducible refine (Live.less_foldl (fun l x => ?_)).trans ?_)
    | (with_reducible refine less_if ?_ ?_)
    | split
    | simp [Live.less_ite]
    | rfl

theorem only_twSdaTimeout (s : State) : Only 67665920 s (execTwSdaTimeout s) := by
  unfold execTwSdaTimeout
  refine only_upd ?_
  beta_reduce
  repeat' first
    | (with_reducible rfl)
    | (intro _)
    | (simp [Live.less_ite]; done)
    | (with_reducible refine (Live.less_forL (fun l x => ?_)).trans ?_)
    | (with_reducible refine (Live.less_each (fun l x => ?_)).trans ?_)
    | (with_reducible refine (Live.less_foldl (fun l x => ?_)).trans ?_)
    | (with_reducible refine less_if ?_ ?_)
    | split
    | simp [Live.less_ite]
    | rfl

theorem only_hspWriteMessage (octets : List Byte) (s : State) : Only 68419584 s (execHspWriteMessage octets s) := by
  unfold execHspWriteMessage
  refine only_upd ?_
  beta_reduce
  repeat' first
    | (with_reducible rfl)
    | (intro _)
    | (simp [Live.less_ite]; done)
    | (with_reducible refine (Live.less_forL (fun l x => ?_)).trans ?_)
    | (with_reducible refine (Live.less_each (fun l x => ?_)).trans ?_)
    | (with_reducible refine (Live.less_foldl (fun l x => ?_)).trans ?_)
    | (with_reducible refine less_if ?_ ?_)
    | split
    | simp [Live.less_ite]
    | rfl

theorem only_hspReadMessage (count : Nat) (s : State) : Only 402653182 s (execHspReadMessage count s) := by
  unfold execHspReadMessage
  dsimp only
  refine only_ite (only_same _ s) (only_next ?_)
  exact (State.Keeps.live_of (s := s) (by simp)).trans (keeps_readDone _ _ _ _ rfl)

theorem only_hspStatus (count : Nat) (s : State) : Only 262144 s (execHspStatus count s) := by
  unfold execHspStatus
  refine only_upd ?_
  beta_reduce
  repeat' first
    | (with_reducible rfl)
    | (intro _)
    | (simp [Live.less_ite]; done)
    | (with_reducible refine (Live.less_forL (fun l x => ?_)).trans ?_)
    | (with_reducible refine (Live.less_each (fun l x => ?_)).trans ?_)
    | (with_reducible refine (Live.less_foldl (fun l x => ?_)).trans ?_)
    | (with_reducible refine less_if ?_ ?_)
    | split
    | simp [Live.less_ite]
    | rfl

theorem only_hspReservedCmd (cmd : Byte) (count : Nat) (s : State) : Only 68419584 s (execHspReservedCmd cmd count s) := by
  unfold execHspReservedCmd
  refine only_upd ?_
  beta_reduce
  repeat' first
    | (with_reducible rfl)
    | (intro _)
    | (simp [Live.less_ite]; done)
    | (with_reducible refine (Live.less_forL (fun l x => ?_)).trans ?_)
    | (with_reducible refine (Live.less_each (fun l x => ?_)).trans ?_)
    | (with_reducible refine (Live.less_foldl (fun l x => ?_)).trans ?_)
    | (with_reducible refine less_if ?_ ?_)
    | split
    | simp [Live.less_ite]
    | rfl

theorem only_pi2cTransferStart (port : Fin 2) (arbLost : Bool) (s : State) : Only 85516288 s (execPi2cTransferStart port arbLost s) := by
  unfold execPi2cTransferStart
  refine only_upd ?_
  beta_reduce
  repeat' first
    | (with_reducible rfl)
    | (intro _)
    | (simp [Live.less_ite]; done)
    | (with_reducible refine (Live.less_forL (fun l x => ?_)).trans ?_)
    | (with_reducible refine (Live.less_each (fun l x => ?_)).trans ?_)
    | (with_reducible refine (Live.less_foldl (fun l x => ?_)).trans ?_)
    | (with_reducible refine less_if ?_ ?_)
    | split
    | simp [Live.less_ite]
    | rfl

theorem only_pi2cTransferDone (port : Fin 2) (result : PiEnd) (s : State) : Only 85516288 s (execPi2cTransferDone port result s) := by
  unfold execPi2cTransferDone
  refine only_upd ?_
  beta_reduce
  repeat' first
    | (with_reducible rfl)
    | (intro _)
    | (simp [Live.less_ite]; done)
    | (with_reducible refine (Live.less_forL (fun l x => ?_)).trans ?_)
    | (with_reducible refine (Live.less_each (fun l x => ?_)).trans ?_)
    | (with_reducible refine (Live.less_foldl (fun l x => ?_)).trans ?_)
    | (with_reducible refine less_if ?_ ?_)
    | split
    | simp [Live.less_ite]
    | rfl

theorem only_pi2cTimeout (port : Fin 2) (s : State) : Only 85516288 s (execPi2cTimeout port s) := by
  unfold execPi2cTimeout
  refine only_upd ?_
  beta_reduce
  repeat' first
    | (with_reducible rfl)
    | (intro _)
    | (simp [Live.less_ite]; done)
    | (with_reducible refine (Live.less_forL (fun l x => ?_)).trans ?_)
    | (with_reducible refine (Live.less_each (fun l x => ?_)).trans ?_)
    | (with_reducible refine (Live.less_foldl (fun l x => ?_)).trans ?_)
    | (with_reducible refine less_if ?_ ?_)
    | split
    | simp [Live.less_ite]
    | rfl

theorem only_busRecovery (port : Fin 2) (freed : Bool) (s : State) : Only 68739072 s (execBusRecovery port freed s) := by
  unfold execBusRecovery
  refine only_upd ?_
  beta_reduce
  repeat' first
    | (with_reducible rfl)
    | (intro _)
    | (simp [Live.less_ite]; done)
    | (with_reducible refine (Live.less_forL (fun l x => ?_)).trans ?_)
    | (with_reducible refine (Live.less_each (fun l x => ?_)).trans ?_)
    | (with_reducible refine (Live.less_foldl (fun l x => ?_)).trans ?_)
    | (with_reducible refine less_if ?_ ?_)
    | split
    | simp [Live.less_ite]
    | rfl

theorem only_flushPage (s : State) : Only 1064960 s (execFlushPage s) := by
  unfold execFlushPage
  refine only_upd ?_
  beta_reduce
  repeat' first
    | (with_reducible rfl)
    | (intro _)
    | (simp [Live.less_ite]; done)
    | (with_reducible refine (Live.less_forL (fun l x => ?_)).trans ?_)
    | (with_reducible refine (Live.less_each (fun l x => ?_)).trans ?_)
    | (with_reducible refine (Live.less_foldl (fun l x => ?_)).trans ?_)
    | (with_reducible refine less_if ?_ ?_)
    | split
    | simp [Live.less_ite]
    | rfl

theorem only_flushPageDone (ok : Bool) (s : State) : Only 68206592 s (execFlushPageDone ok s) := by
  unfold execFlushPageDone
  refine only_upd ?_
  beta_reduce
  repeat' first
    | (with_reducible rfl)
    | (intro _)
    | (simp [Live.less_ite]; done)
    | (with_reducible refine (Live.less_forL (fun l x => ?_)).trans ?_)
    | (with_reducible refine (Live.less_each (fun l x => ?_)).trans ?_)
    | (with_reducible refine (Live.less_foldl (fun l x => ?_)).trans ?_)
    | (with_reducible refine less_if ?_ ?_)
    | split
    | simp [Live.less_ite]
    | rfl

theorem only_snapshotPageDone (ok : Bool) (s : State) : Only 134152184 s (execSnapshotPageDone ok s) := by
  unfold execSnapshotPageDone
  refine only_upd ?_
  beta_reduce
  repeat' first
    | (with_reducible rfl)
    | (intro _)
    | (simp [Live.less_ite]; done)
    | (with_reducible refine (Live.less_forL (fun l x => ?_)).trans ?_)
    | (with_reducible refine (Live.less_each (fun l x => ?_)).trans ?_)
    | (with_reducible refine (Live.less_foldl (fun l x => ?_)).trans ?_)
    | (with_reducible refine less_if ?_ ?_)
    | split
    | simp [Live.less_ite]
    | rfl

theorem only_recSnapFail (s : State) : Only 1081344 s (execRecSnapFail s) := by
  unfold execRecSnapFail
  refine only_upd ?_
  beta_reduce
  repeat' first
    | (with_reducible rfl)
    | (intro _)
    | (simp [Live.less_ite]; done)
    | (with_reducible refine (Live.less_forL (fun l x => ?_)).trans ?_)
    | (with_reducible refine (Live.less_each (fun l x => ?_)).trans ?_)
    | (with_reducible refine (Live.less_foldl (fun l x => ?_)).trans ?_)
    | (with_reducible refine less_if ?_ ?_)
    | split
    | simp [Live.less_ite]
    | rfl

theorem only_recNotArmed (s : State) : Only 32768 s (execRecNotArmed s) := by
  unfold execRecNotArmed
  refine only_upd ?_
  beta_reduce
  repeat' first
    | (with_reducible rfl)
    | (intro _)
    | (simp [Live.less_ite]; done)
    | (with_reducible refine (Live.less_forL (fun l x => ?_)).trans ?_)
    | (with_reducible refine (Live.less_each (fun l x => ?_)).trans ?_)
    | (with_reducible refine (Live.less_foldl (fun l x => ?_)).trans ?_)
    | (with_reducible refine less_if ?_ ?_)
    | split
    | simp [Live.less_ite]
    | rfl

theorem only_captureFreeze (slot : Fin 4) (s : State) : Only 68206592 s (execCaptureFreeze slot s) := by
  unfold execCaptureFreeze
  refine only_upd ?_
  beta_reduce
  repeat' first
    | (with_reducible rfl)
    | (intro _)
    | (simp [Live.less_ite]; done)
    | (with_reducible refine (Live.less_forL (fun l x => ?_)).trans ?_)
    | (with_reducible refine (Live.less_each (fun l x => ?_)).trans ?_)
    | (with_reducible refine (Live.less_foldl (fun l x => ?_)).trans ?_)
    | (with_reducible refine less_if ?_ ?_)
    | split
    | simp [Live.less_ite]
    | rfl

theorem only_rcmdSnapnow (s : State) : Only 33554432 s (execRcmdSnapnow s) := by
  unfold execRcmdSnapnow
  refine only_upd ?_
  beta_reduce
  repeat' first
    | (with_reducible rfl)
    | (intro _)
    | (simp [Live.less_ite]; done)
    | (with_reducible refine (Live.less_forL (fun l x => ?_)).trans ?_)
    | (with_reducible refine (Live.less_each (fun l x => ?_)).trans ?_)
    | (with_reducible refine (Live.less_foldl (fun l x => ?_)).trans ?_)
    | (with_reducible refine less_if ?_ ?_)
    | split
    | simp [Live.less_ite]
    | rfl

theorem only_rcmdFlush (s : State) : Only 33554432 s (execRcmdFlush s) := by
  unfold execRcmdFlush
  refine only_upd ?_
  beta_reduce
  repeat' first
    | (with_reducible rfl)
    | (intro _)
    | (simp [Live.less_ite]; done)
    | (with_reducible refine (Live.less_forL (fun l x => ?_)).trans ?_)
    | (with_reducible refine (Live.less_each (fun l x => ?_)).trans ?_)
    | (with_reducible refine (Live.less_foldl (fun l x => ?_)).trans ?_)
    | (with_reducible refine less_if ?_ ?_)
    | split
    | simp [Live.less_ite]
    | rfl

theorem only_ccmdTrigger (slot : Fin 4) (s : State) : Only 33554432 s (execCcmdTrigger slot s) := by
  unfold execCcmdTrigger
  refine only_upd ?_
  beta_reduce
  repeat' first
    | (with_reducible rfl)
    | (intro _)
    | (simp [Live.less_ite]; done)
    | (with_reducible refine (Live.less_forL (fun l x => ?_)).trans ?_)
    | (with_reducible refine (Live.less_each (fun l x => ?_)).trans ?_)
    | (with_reducible refine (Live.less_foldl (fun l x => ?_)).trans ?_)
    | (with_reducible refine less_if ?_ ?_)
    | split
    | simp [Live.less_ite]
    | rfl

theorem only_ccmdRearm (slot : Fin 4) (s : State) : Only 33554432 s (execCcmdRearm slot s) := by
  unfold execCcmdRearm
  refine only_upd ?_
  beta_reduce
  repeat' first
    | (with_reducible rfl)
    | (intro _)
    | (simp [Live.less_ite]; done)
    | (with_reducible refine (Live.less_forL (fun l x => ?_)).trans ?_)
    | (with_reducible refine (Live.less_each (fun l x => ?_)).trans ?_)
    | (with_reducible refine (Live.less_foldl (fun l x => ?_)).trans ?_)
    | (with_reducible refine less_if ?_ ?_)
    | split
    | simp [Live.less_ite]
    | rfl

theorem only_tcmdArm (ch : Fin 8) (s : State) : Only 33554432 s (execTcmdArm ch s) := by
  unfold execTcmdArm
  refine only_upd ?_
  beta_reduce
  repeat' first
    | (with_reducible rfl)
    | (intro _)
    | (simp [Live.less_ite]; done)
    | (with_reducible refine (Live.less_forL (fun l x => ?_)).trans ?_)
    | (with_reducible refine (Live.less_each (fun l x => ?_)).trans ?_)
    | (with_reducible refine (Live.less_foldl (fun l x => ?_)).trans ?_)
    | (with_reducible refine less_if ?_ ?_)
    | split
    | simp [Live.less_ite]
    | rfl

theorem only_tcmdTrigger (ch : Fin 8) (s : State) : Only 33554432 s (execTcmdTrigger ch s) := by
  unfold execTcmdTrigger
  refine only_upd ?_
  beta_reduce
  repeat' first
    | (with_reducible rfl)
    | (intro _)
    | (simp [Live.less_ite]; done)
    | (with_reducible refine (Live.less_forL (fun l x => ?_)).trans ?_)
    | (with_reducible refine (Live.less_each (fun l x => ?_)).trans ?_)
    | (with_reducible refine (Live.less_foldl (fun l x => ?_)).trans ?_)
    | (with_reducible refine less_if ?_ ?_)
    | split
    | simp [Live.less_ite]
    | rfl

theorem only_tcmdStop (ch : Fin 8) (s : State) : Only 33554432 s (execTcmdStop ch s) := by
  unfold execTcmdStop
  refine only_upd ?_
  beta_reduce
  repeat' first
    | (with_reducible rfl)
    | (intro _)
    | (simp [Live.less_ite]; done)
    | (with_reducible refine (Live.less_forL (fun l x => ?_)).trans ?_)
    | (with_reducible refine (Live.less_each (fun l x => ?_)).trans ?_)
    | (with_reducible refine (Live.less_foldl (fun l x => ?_)).trans ?_)
    | (with_reducible refine less_if ?_ ?_)
    | split
    | simp [Live.less_ite]
    | rfl

theorem only_tracePulseEnd (ch : Fin 8) (s : State) : Only 9437184 s (execTracePulseEnd ch s) := by
  unfold execTracePulseEnd
  refine only_upd ?_
  beta_reduce
  repeat' first
    | (with_reducible rfl)
    | (intro _)
    | (simp [Live.less_ite]; done)
    | (with_reducible refine (Live.less_forL (fun l x => ?_)).trans ?_)
    | (with_reducible refine (Live.less_each (fun l x => ?_)).trans ?_)
    | (with_reducible refine (Live.less_foldl (fun l x => ?_)).trans ?_)
    | (with_reducible refine less_if ?_ ?_)
    | split
    | simp [Live.less_ite]
    | rfl

theorem only_sclockWrite (secs : Word) (s : State) : Only 68190208 s (execSclockWrite secs s) := by
  unfold execSclockWrite
  refine only_upd ?_
  beta_reduce
  repeat' first
    | (with_reducible rfl)
    | (intro _)
    | (simp [Live.less_ite]; done)
    | (with_reducible refine (Live.less_forL (fun l x => ?_)).trans ?_)
    | (with_reducible refine (Live.less_each (fun l x => ?_)).trans ?_)
    | (with_reducible refine (Live.less_foldl (fun l x => ?_)).trans ?_)
    | (with_reducible refine less_if ?_ ?_)
    | split
    | simp [Live.less_ite]
    | rfl

theorem only_shelfClockTick (s : State) : Only 1048576 s (execShelfClockTick s) := by
  unfold execShelfClockTick
  refine only_upd ?_
  beta_reduce
  repeat' first
    | (with_reducible rfl)
    | (intro _)
    | (simp [Live.less_ite]; done)
    | (with_reducible refine (Live.less_forL (fun l x => ?_)).trans ?_)
    | (with_reducible refine (Live.less_each (fun l x => ?_)).trans ?_)
    | (with_reducible refine (Live.less_foldl (fun l x => ?_)).trans ?_)
    | (with_reducible refine less_if ?_ ?_)
    | split
    | simp [Live.less_ite]
    | rfl

theorem only_jtagIdcode (s : State) : Only 8388608 s (execJtagIdcode s) := by
  unfold execJtagIdcode
  refine only_upd ?_
  beta_reduce
  repeat' first
    | (with_reducible rfl)
    | (intro _)
    | (simp [Live.less_ite]; done)
    | (with_reducible refine (Live.less_forL (fun l x => ?_)).trans ?_)
    | (with_reducible refine (Live.less_each (fun l x => ?_)).trans ?_)
    | (with_reducible refine (Live.less_foldl (fun l x => ?_)).trans ?_)
    | (with_reducible refine less_if ?_ ?_)
    | split
    | simp [Live.less_ite]
    | rfl

theorem only_jtagBypass (bits : List Bool) (s : State) : Only 8388608 s (execJtagBypass bits s) := by
  unfold execJtagBypass
  refine only_upd ?_
  beta_reduce
  repeat' first
    | (with_reducible rfl)
    | (intro _)
    | (simp [Live.less_ite]; done)
    | (with_reducible refine (Live.less_forL (fun l x => ?_)).trans ?_)
    | (with_reducible refine (Live.less_each (fun l x => ?_)).trans ?_)
    | (with_reducible refine (Live.less_foldl (fun l x => ?_)).trans ?_)
    | (with_reducible refine less_if ?_ ?_)
    | split
    | simp [Live.less_ite]
    | rfl

theorem only_jtagSamplePreload (pins preload : List Bool) (s : State) : Only 8388608 s (execJtagSamplePreload pins preload s) := by
  unfold execJtagSamplePreload
  refine only_upd ?_
  beta_reduce
  repeat' first
    | (with_reducible rfl)
    | (intro _)
    | (simp [Live.less_ite]; done)
    | (with_reducible refine (Live.less_forL (fun l x => ?_)).trans ?_)
    | (with_reducible refine (Live.less_each (fun l x => ?_)).trans ?_)
    | (with_reducible refine (Live.less_foldl (fun l x => ?_)).trans ?_)
    | (with_reducible refine less_if ?_ ?_)
    | split
    | simp [Live.less_ite]
    | rfl

theorem only_jtagExtest (testEn : Bool) (preload : List Bool) (s : State) : Only 8388608 s (execJtagExtest testEn preload s) := by
  unfold execJtagExtest
  refine only_upd ?_
  beta_reduce
  repeat' first
    | (with_reducible rfl)
    | (intro _)
    | (simp [Live.less_ite]; done)
    | (with_reducible refine (Live.less_forL (fun l x => ?_)).trans ?_)
    | (with_reducible refine (Live.less_each (fun l x => ?_)).trans ?_)
    | (with_reducible refine (Live.less_foldl (fun l x => ?_)).trans ?_)
    | (with_reducible refine less_if ?_ ?_)
    | split
    | simp [Live.less_ite]
    | rfl

theorem only_dbgauth (a : DbgAuth) (s : State) : Only 212893696 s (execDbgauth a s) := by
  unfold execDbgauth
  refine only_upd ?_
  beta_reduce
  repeat' first
    | (with_reducible rfl)
    | (intro _)
    | (simp [Live.less_ite]; done)
    | (with_reducible refine (Live.less_forL (fun l x => ?_)).trans ?_)
    | (with_reducible refine (Live.less_each (fun l x => ?_)).trans ?_)
    | (with_reducible refine (Live.less_foldl (fun l x => ?_)).trans ?_)
    | (with_reducible refine less_if ?_ ?_)
    | split
    | simp [Live.less_ite]
    | rfl

theorem only_dbgacc (r : DbgReq) (s : State) : Only 144703488 s (execDbgacc r s) := by
  unfold execDbgacc
  refine only_upd ?_
  beta_reduce
  repeat' first
    | (with_reducible rfl)
    | (intro _)
    | (simp [Live.less_ite]; done)
    | (with_reducible refine (Live.less_forL (fun l x => ?_)).trans ?_)
    | (with_reducible refine (Live.less_each (fun l x => ?_)).trans ?_)
    | (with_reducible refine (Live.less_foldl (fun l x => ?_)).trans ?_)
    | (with_reducible refine less_if ?_ ?_)
    | split
    | simp [Live.less_ite]
    | rfl

theorem only_trstLow (s : State) : Only 10485760 s (execTrstLow s) := by
  unfold execTrstLow
  refine only_upd ?_
  beta_reduce
  repeat' first
    | (with_reducible rfl)
    | (intro _)
    | (simp [Live.less_ite]; done)
    | (with_reducible refine (Live.less_forL (fun l x => ?_)).trans ?_)
    | (with_reducible refine (Live.less_each (fun l x => ?_)).trans ?_)
    | (with_reducible refine (Live.less_foldl (fun l x => ?_)).trans ?_)
    | (with_reducible refine less_if ?_ ?_)
    | split
    | simp [Live.less_ite]
    | rfl

theorem only_vcBadCommand (port : Fin 16) (word : Word) (contend : Bool) (s : State) : Only 68193280 s (execVcBadCommand port word contend s) := by
  unfold execVcBadCommand
  refine only_upd ?_
  beta_reduce
  repeat' first
    | (with_reducible rfl)
    | (intro _)
    | (simp [Live.less_ite]; done)
    | (with_reducible refine (Live.less_forL (fun l x => ?_)).trans ?_)
    | (with_reducible refine (Live.less_each (fun l x => ?_)).trans ?_)
    | (with_reducible refine (Live.less_foldl (fun l x => ?_)).trans ?_)
    | (with_reducible refine less_if ?_ ?_)
    | split
    | simp [Live.less_ite]
    | rfl

theorem only_msgBadRequest (port : Fin 3) (frame : List Byte) (s : State) : Only 68419584 s (execMsgBadRequest port frame s) := by
  unfold execMsgBadRequest
  refine only_upd ?_
  beta_reduce
  repeat' first
    | (with_reducible rfl)
    | (intro _)
    | (simp [Live.less_ite]; done)
    | (with_reducible refine (Live.less_forL (fun l x => ?_)).trans ?_)
    | (with_reducible refine (Live.less_each (fun l x => ?_)).trans ?_)
    | (with_reducible refine (Live.less_foldl (fun l x => ?_)).trans ?_)
    | (with_reducible refine less_if ?_ ?_)
    | split
    | simp [Live.less_ite]
    | rfl

theorem only_occupancySample (vcFrames : Byte) (s : State) : Only 68157440 s (execOccupancySample vcFrames s) := by
  unfold execOccupancySample
  refine only_upd ?_
  beta_reduce
  repeat' first
    | (with_reducible rfl)
    | (intro _)
    | (simp [Live.less_ite]; done)
    | (with_reducible refine (Live.less_forL (fun l x => ?_)).trans ?_)
    | (with_reducible refine (Live.less_each (fun l x => ?_)).trans ?_)
    | (with_reducible refine (Live.less_foldl (fun l x => ?_)).trans ?_)
    | (with_reducible refine less_if ?_ ?_)
    | split
    | simp [Live.less_ite]
    | rfl

theorem only_dbgauthLockEnd (s : State) : Only 2097152 s (execDbgauthLockEnd s) := by
  unfold execDbgauthLockEnd
  refine only_upd ?_
  beta_reduce
  repeat' first
    | (with_reducible rfl)
    | (intro _)
    | (simp [Live.less_ite]; done)
    | (with_reducible refine (Live.less_forL (fun l x => ?_)).trans ?_)
    | (with_reducible refine (Live.less_each (fun l x => ?_)).trans ?_)
    | (with_reducible refine (Live.less_foldl (fun l x => ?_)).trans ?_)
    | (with_reducible refine less_if ?_ ?_)
    | split
    | simp [Live.less_ite]
    | rfl

theorem only_responderReady (s : State) : Only 524288 s (execResponderReady s) := by
  unfold execResponderReady
  refine only_upd ?_
  beta_reduce
  repeat' first
    | (with_reducible rfl)
    | (intro _)
    | (simp [Live.less_ite]; done)
    | (with_reducible refine (Live.less_forL (fun l x => ?_)).trans ?_)
    | (with_reducible refine (Live.less_each (fun l x => ?_)).trans ?_)
    | (with_reducible refine (Live.less_foldl (fun l x => ?_)).trans ?_)
    | (with_reducible refine less_if ?_ ?_)
    | split
    | simp [Live.less_ite]
    | rfl

theorem only_snapshotAreaArmed (area : Fin 2) (s : State) : Only 1048576 s (execSnapshotAreaArmed area s) := by
  unfold execSnapshotAreaArmed
  refine only_upd ?_
  beta_reduce
  repeat' first
    | (with_reducible rfl)
    | (intro _)
    | (simp [Live.less_ite]; done)
    | (with_reducible refine (Live.less_forL (fun l x => ?_)).trans ?_)
    | (with_reducible refine (Live.less_each (fun l x => ?_)).trans ?_)
    | (with_reducible refine (Live.less_foldl (fun l x => ?_)).trans ?_)
    | (with_reducible refine less_if ?_ ?_)
    | split
    | simp [Live.less_ite]
    | rfl

end Sys2Proof.Machine
end

