-- ==== Sys2Proof/Laws/Frame.lean ====
section
/-! SUPPORT. From the masks of `Laws/Exec.lean` to the parts that the statements name. -/
namespace Sys2Proof.Machine

/-- The number of a part in `Laws/Parts.lean`; 28 is that of the generations. -/
def Part.bit : Part → Nat
  | .now => 0
  | .bond => 1
  | .bondAt => 2
  | .bondOn => 3
  | .pwr => 4
  | .rings => 5
  | .slots => 6
  | .moor => 7
  | .loop => 8
  | .rails => 9
  | .vcp => 10
  | .vcr => 11
  | .pp => 12
  | .gauge => 13
  | .therm => 14
  | .fc => 15
  | .keeper => 16
  | .img => 17
  | .msgs => 18
  | .ports => 19
  | .recd => 20
  | .sec => 21
  | .adc => 22
  | .pins => 23
  | .host => 24
  | .bondWrites => 25
  | .w1c => 26
  | .free => 27
  | .gens => 28

theorem State.Keeps.part {m : Nat} {s t : State} (k : State.Keeps m s t) (p : Part) (h : m.testBit p.bit = false) : p.same s t := by
  cases p with
  | now => exact Live.less_now k.live h
  | bond => exact Live.less_bond k.live h
  | bondAt => exact Live.less_bondAt k.live h
  | bondOn => exact Live.less_bondOn k.live h
  | pwr => exact Live.less_pwr k.live h
  | rings => exact Live.less_rings k.live h
  | slots => exact Live.less_slots k.live h
  | moor => exact Live.less_moor k.live h
  | loop => exact Live.less_loop k.live h
  | rails => exact Live.less_rails k.live h
  | vcp => exact Live.less_vcp k.live h
  | vcr => exact Live.less_vcr k.live h
  | pp => exact Live.less_pp k.live h
  | gauge => exact Live.less_gauge k.live h
  | therm => exact Live.less_therm k.live h
  | fc => exact Live.less_fc k.live h
  | keeper => exact Live.less_keeper k.live h
  | img => exact Live.less_img k.live h
  | msgs => exact Live.less_msgs k.live h
  | ports => exact Live.less_ports k.live h
  | recd => exact Live.less_recd k.live h
  | sec => exact Live.less_sec k.live h
  | adc => exact Live.less_adc k.live h
  | pins => exact Live.less_pins k.live h
  | host => exact Live.less_host k.live h
  | bondWrites => exact Live.less_bondWrites k.live h
  | w1c => exact Live.less_w1c k.live h
  | free => exact Live.less_free k.live h
  | gens => exact k.gens h

/-- What keeps all but the parts of a mask keeps all but a list of parts that holds them. -/
theorem State.Keeps.sameBut {m : Nat} {s t : State} (k : State.Keeps m s t) (ps : List Part)
    (h : allParts.all (fun p => ps.contains p || !m.testBit p.bit) = true) : SameBut ps s t := by
  refine ⟨k.pending, fun p hp => k.part p ?_⟩
  have hm : p ∈ allParts := by cases p <;> decide
  have := List.all_eq_true.mp h p hm
  simp only [Bool.or_eq_true, List.contains_iff_mem, Bool.not_eq_true'] at this
  exact this.resolve_left hp

theorem Only.gives {m : Nat} {s : State} {o : Host.Outcome State Fault Refusal} (h : Only m s o) (ps : List Part)
    (hp : allParts.all (fun p => ps.contains p || !m.testBit p.bit) = true) : Gives o (SameBut ps s) := by
  obtain ⟨t, e, k⟩ := h
  exact ⟨t, e, k.sameBut ps hp⟩

/-- The next state of a command whose meaning answers `t`. -/
theorem Only.of_next {m : Nat} {s t : State} {o : Host.Outcome State Fault Refusal} (h : Only m s o) (e : o = .next t) :
    State.Keeps m s t := by
  obtain ⟨t', e', k⟩ := h
  rw [e] at e'
  cases e'
  exact k

end Sys2Proof.Machine
end

