-- ==== Sys2Proof/Laws/Extra.lean ====
section
/-! SUPPORT. Lemmas about the shared operations that cross parts: what closing sessions, the reset, COLD and the recorder leave
of a part they touch, and what a request that the port takes comes to. -/
open Sys2Proof Sys2Proof.Machine
namespace Sys2Proof.Machine.Live


theorem foldl_same {α β γ : Type} (g : α → β) (f : α → γ → α) (h : ∀ a n, g (f a n) = g a) (xs : List γ) (a : α) :
    g (xs.foldl f a) = g a := by
  induction xs generalizing a with
  | nil => rfl
  | cons x xs ih => rw [List.foldl_cons, ih, h]

theorem updateRecord_sec (l : Live) (n : Nat) : (l.updateRecord n).sec = l.sec := same_sec (by simp)
theorem txnRollback_sec (l : Live) (n : Nat) : (l.txnRollback n).sec = l.sec := same_sec (by simp)
@[simp] theorem stgDrop_otp (l : Live) : l.stgDrop.sec.otp = l.sec.otp := by
  unfold Live.stgDrop
  split
  · rfl
  · unfold Live.withUpdate
    rw [updateRecord_sec]
    rfl
@[simp] theorem stgDrop_keeper (l : Live) : l.stgDrop.keeper = l.keeper := same_keeper (by simp)
@[simp] theorem closeSess_otp (l : Live) (n : Nat) : (l.closeSess n).sec.otp = l.sec.otp := by
  unfold Live.closeSess Live.stgClose
  extract_lets a b c
  have e : a.sec = l.sec := by
    simp only [a]
    split
    · exact txnRollback_sec _ _
    · rfl
  have ec : c.sec = b.sec := by
    simp only [c]
    split <;> rfl
  simp only [Live.modSess_sec, ec, b]
  split
  · rw [stgDrop_otp, e]
  · rw [e]
@[simp] theorem closeAll_otp (l : Live) : l.closeAll.sec.otp = l.sec.otp := by
  have h (a : Live) (n : Nat) : (if (a.sess n).opened || (a.sess n).pendg then a.closeSess n else a).sec.otp = a.sec.otp := by
    split
    · exact closeSess_otp _ _
    · rfl
  unfold Live.closeAll Live.each
  generalize List.range 16 = xs
  induction xs generalizing l with
  | nil => rfl
  | cons x xs ih => rw [List.foldl_cons, ih]; exact h l x
@[simp] theorem closeAll_keeper (l : Live) : l.closeAll.keeper = l.keeper := same_keeper (by simp)
@[simp] theorem closeAll_now (l : Live) : l.closeAll.now = l.now := same_now (by simp)
/-- The close of a session may restart the idle time of service (R557), and nothing else of the power state. -/
theorem closeSess_pwr (l : Live) (n : Nat) : ∃ t, (l.closeSess n).pwr = { l.pwr with idleAt := t } := by
  unfold Live.closeSess Live.stgClose
  extract_lets a b c
  have ea : a.pwr = l.pwr := same_pwr (by simp [a, less_ite])
  have eb : b.pwr = l.pwr := (same_pwr (by simp [b, less_ite])).trans ea
  simp only [Live.modSess_pwr, c]
  split
  · exact ⟨b.now, by show { b.pwr with idleAt := b.now } = _; rw [eb]⟩
  · exact ⟨l.pwr.idleAt, by rw [eb]⟩
theorem closeAll_pwr (l : Live) : ∃ t, l.closeAll.pwr = { l.pwr with idleAt := t } := by
  unfold Live.closeAll Live.each
  generalize List.range 16 = xs
  induction xs generalizing l with
  | nil => exact ⟨_, rfl⟩
  | cons x xs ih =>
    obtain ⟨t, e⟩ := ih (if (l.sess x).opened || (l.sess x).pendg then l.closeSess x else l)
    obtain ⟨u, f⟩ := closeSess_pwr l x
    refine ⟨t, ?_⟩
    rw [List.foldl_cons, e]
    split
    · rw [f]
    · rfl

/-! the shelf clock -/
def clock (l : Live) : Bool × Word × Nat := (l.recd.clkSet, l.recd.clkSec, l.recd.clkAt)
@[simp] theorem addCtr_clock (l : Live) (n k : Nat) : (l.addCtr n k).clock = l.clock := by
  have h (a : Live) (c : Counter) : (a.setCtr n c).clock = a.clock := rfl
  unfold Live.addCtr
  extract_lets c s w a
  rw [h]
  simp only [a]
  split <;> rfl
@[simp] theorem bumpCtr_clock (l : Live) (n k : Nat) : (l.bumpCtr n k).clock = l.clock := by
  unfold Live.bumpCtr
  extract_lets s a
  split
  · rw [addCtr_clock]; rfl
  · split
    · rfl
    · rw [addCtr_clock]
@[simp] theorem countWith_clock (l : Live) (n k : Nat) (a : CntAttr) : (l.countWith n k a).clock = l.clock := by
  unfold Live.countWith
  split
  · rw [bumpCtr_clock]
  · split
    · rw [bumpCtr_clock]
    · rfl
  · rfl
@[simp] theorem count_clock (l : Live) (n : Nat) : (l.count n).clock = l.clock := countWith_clock _ _ _ _
@[simp] theorem record_clock (l : Live) (n : Nat) (p : List Byte) : (l.record n p).clock = l.clock := by
  have hr (l : Live) (a b c d) (e : Half) : (l.raise a b c d e).clock = l.clock := rfl
  unfold Live.record
  dsimp only
  split
  · split
    · split
      · rw [count_clock, count_clock]; rfl
      · rw [hr, count_clock, count_clock]; rfl
    · rw [count_clock]; rfl
  · split <;> rfl

/-! resets and COLD -/
theorem clock_eq {a b : Live} (h : a.clock = b.clock) : a.recd.clkSet = b.recd.clkSet ∧ a.recd.clkSec = b.recd.clkSec := by
  simp only [clock, Prod.mk.injEq] at h
  exact ⟨h.1, h.2.1⟩
theorem hostEvent_clock (l : Live) (a b c d : Nat) : (l.hostEvent a b c d).clock = l.clock := rfl
theorem closeAll_clock (l : Live) : l.closeAll.clock = l.clock := by
  have h1 (a : Live) (n : Nat) : (a.txnRollback n).clock = a.clock := by
    unfold Live.txnRollback; split
    · rw [count_clock]; rfl
    · rfl
  have h0 (a : Live) : a.stgDrop.clock = a.clock := by
    unfold Live.stgDrop; split
    · rfl
    · unfold Live.withUpdate Live.updateRecord
      split
      · rfl
      · rw [record_clock]; rfl
  have h2 (a : Live) (n : Nat) : (a.closeSess n).clock = a.clock := by
    unfold Live.closeSess Live.stgClose
    extract_lets x y z
    have e : x.clock = a.clock := by
      simp only [x]; split
      · exact h1 _ _
      · rfl
    have e2 : y.clock = x.clock := by
      simp only [y]; split
      · exact h0 _
      · rfl
    have e3 : z.clock = y.clock := by
      simp only [z]; split <;> rfl
    exact e3.trans (e2.trans e)
  have h (a : Live) (n : Nat) : (if (a.sess n).opened || (a.sess n).pendg then a.closeSess n else a).clock = a.clock := by
    split
    · exact h2 _ _
    · rfl
  unfold Live.closeAll Live.each
  generalize List.range 16 = xs
  induction xs generalizing l with
  | nil => rfl
  | cons x xs ih => rw [List.foldl_cons, ih]; exact h l x
theorem resetState_now (l : Live) : l.resetState.now = l.now := same_now (by simp)
theorem resetState_otp (l : Live) : l.resetState.sec.otp = l.sec.otp := by
  have e := Live.closeAll_otp l
  unfold Live.resetState Live.d0Only
  generalize l.closeAll = k at e ⊢
  exact e
theorem resetState_clk (l : Live) : l.resetState.recd.clkSet = l.recd.clkSet ∧ l.resetState.recd.clkSec = l.recd.clkSec := by
  have e := clock_eq (closeAll_clock l)
  unfold Live.resetState Live.d0Only
  generalize l.closeAll = k at e ⊢
  exact e
theorem setPower_st0 (l : Live) (p : PwrSt) (c : Nat) : (l.setPower p c).pwr.st = p := by
  unfold Live.setPower; split
  · assumption
  · rfl
theorem record_pwr_same (l : Live) (p) (c) : (l.record p c).pwr = l.pwr := same_pwr (by simp)
theorem setPower_pwr (l : Live) (p : PwrSt) (c : Nat) : (l.setPower p c).pwr = { l.pwr with st := p } := by
  unfold Live.setPower; split
  · rename_i h; rw [← h]
  · simp only [record_pwr_same]
theorem setPower_keeper (l : Live) (p : PwrSt) (c : Nat) : (l.setPower p c).keeper = l.keeper := same_keeper (by simp)
theorem enterCold_pwr (l : Live) (c : Nat) : ∃ t, (l.enterCold c).pwr = { l.pwr with idleAt := t, st := PwrSt.cold, on := 1, rgate := 0, vgate := 0, tgate := 0, leanen := false, recovery := false, coldDue := false } := by
  obtain ⟨t, e⟩ := closeAll_pwr l
  refine ⟨t, ?_⟩
  unfold Live.enterCold; rw [setPower_pwr]; simp only [Live.d0Only, e]
theorem enterCold_keeper (l : Live) (c : Nat) : (l.enterCold c).keeper = l.keeper := by
  unfold Live.enterCold; rw [setPower_keeper]; simp only [Live.d0Only, closeAll_keeper]
theorem resetState_pwr (l : Live) : l.resetState.pwr = { strapRole := l.pwr.strapRole, strapAddr := l.pwr.strapAddr, strapRec := l.pwr.strapRec, pfailN := l.pwr.pfailN, pfailAt := l.pwr.pfailAt, refLoss := l.pwr.refLoss, timeEst := l.pwr.timeEst, stageAt := l.now } := by
  simp only [Live.resetState]
theorem leaseClear_keeper (l : Live) : l.leaseClear.keeper = { l.keeper with live := false, hbout := if l.keeper.live then false else l.keeper.hbout } := by
  unfold Live.leaseClear; split
  · have e (l : Live) : l.txnAbort.keeper = l.keeper := same_keeper (by simp)
    rename_i h
    rw [e]; simp [h]
  · rename_i h
    have h : l.keeper.live = false := by simpa using h
    cases hk : l.keeper
    rw [hk] at h
    simp_all
theorem leaseClear_pwr (l : Live) : l.leaseClear.pwr = l.pwr := same_pwr (by simp)

theorem portTakes_reply {l : Live} {p : Nat} {f : List Byte} (h : l.portTakes p f = true) (hp : p ≠ 2) : (l.mport p).reply = none := by
  unfold Live.portTakes at h
  simp [hp] at h
  exact h.1.1
end Sys2Proof.Machine.Live

namespace Sys2Proof.Machine

/-- What a request of `Served` comes to before its operation's own checks: the batch goes on to the next port, the port's
counters, and the session's idle time. -/
def Live.asked (l : Live) (q : Req) : Live := ((l.setBatch (l.batch (MsgHdr.port_ q.h)).tail).takeReq q).touchSess (MsgHdr.sess_ q.h)

/-- And before the operation: the session keeps the request as its last. -/
def Live.begun (l : Live) (q : Req) : Live :=
  (l.asked q).modSess (MsgHdr.sess_ q.h) fun k => { k with last := some (q.h.seq, q.mop_, q.mcrc), reply := [] }

theorem Live.countWith_sess (l : Live) (c k : Nat) (x : CntAttr) (n : Nat) : (l.countWith c k x).sess n = l.sess n := by
  have e : (l.countWith c k x).msgs = l.msgs := Live.same_msgs (by simp)
  show tget _ (l.countWith c k x).msgs.sess n = tget _ l.msgs.sess n
  rw [e]

theorem Live.takeReq_sess (l : Live) (q : Req) (n : Nat) : (l.takeReq q).sess n = l.sess n := by
  unfold Live.takeReq Live.arrive
  rw [countWith_sess]
  extract_lets p f a l1
  have e1 : l1.sess n = l.sess n := rfl
  split
  · rw [countWith_sess, e1]
  · split
    · rw [countWith_sess, e1]
    · exact e1

theorem Live.takeReq_pwr (l : Live) (q : Req) : (l.takeReq q).pwr = l.pwr := Live.same_pwr (by simp)
theorem Live.asked_pwr (l : Live) (q : Req) : (l.asked q).pwr = l.pwr := by
  have e : (l.asked q).pwr = (l.setBatch (l.batch (MsgHdr.port_ q.h)).tail).pwr := Live.same_pwr (by simp [Live.asked])
  exact e

/-- Touching a session changes its `lastAt` alone. -/
theorem Live.touchSess_sess (l : Live) (n : Nat) : (l.touchSess n).sess n = { l.sess n with lastAt := l.now } := by
  have e : (l.modSess n fun k => { k with lastAt := l.now }).sess n = { l.sess n with lastAt := l.now } := by
    simp
  unfold Live.touchSess
  extract_lets l1
  split
  · exact e
  · exact e

/-- What the port does with a request of `Served`: the operation's checks, and the operation under the session's class. -/
theorem State.serve_served (s : State) (q : Req) (check : Check) (run : State → Nat → Nat → Run)
    (hs : Served s.live q.h q.mop q.cls q.body) (hm : q.mop ≠ 2) :
    s.serve q check run =
      if check { s with live := s.live.asked q } q.h.sess.toNat (s.live.sess q.h.sess.toNat).cls = 0 then
        match (run { s with live := s.live.begun q } q.h.sess.toNat (s.live.sess q.h.sess.toNat).cls).2 with
        | some a => { (run { s with live := s.live.begun q } q.h.sess.toNat (s.live.sess q.h.sess.toNat).cls).1 with live := (run { s with live := s.live.begun q } q.h.sess.toNat (s.live.sess q.h.sess.toNat).cls).1.live.answerKept q a.1 a.2 }
        | none => (run { s with live := s.live.begun q } q.h.sess.toNat (s.live.sess q.h.sess.toNat).cls).1
      else { s with live := (s.live.asked q).answer q (check { s with live := s.live.asked q } q.h.sess.toNat (s.live.sess q.h.sess.toNat).cls) [] } := by
  have hsess : q.h.sess.toNat ≠ 0 := fun h => hs.number (by simpa using BitVec.eq_of_toNat_eq h)
  have hrec : s.live.pwr.recovery = false := by
    have := hs.firmware
    unfold Live.serving at this
    split at this
    · split at this <;> simp at this
    · rename_i h
      simpa using h
  unfold State.serve
  have ht : s.live.portTakes (MsgHdr.port_ q.h) q.frame = true := hs.takes
  rw [if_neg (by simp [ht])]
  have hf : s.live.serving (MsgHdr.port_ q.h) = .firmware := hs.firmware
  simp only [hf]
  unfold State.serveTurn
  extract_lets p b
  have htn : s.live.turn p = true := hs.turn
  rw [if_pos htn]
  unfold State.serveFw
  dsimp only
  rw [if_neg (by simp [hs.body, Live.takeReq_pwr, Live.setBatch, hrec])]
  have e0 : MsgHdr.sess_ q.h = q.h.sess.toNat := rfl
  rw [if_neg (by simpa [e0] using hsess)]
  have es : ((s.live.setBatch b.tail).takeReq q).sess q.h.sess.toNat = s.live.sess q.h.sess.toNat := Live.takeReq_sess _ q _
  have hw : ((s.live.setBatch b.tail).takeReq q).pwr = s.live.pwr := Live.takeReq_pwr _ q
  rw [if_neg (by simp only [e0, es, hs.opened, hs.port, MsgHdr.port_]; simp)]
  have er : (((s.live.setBatch b.tail).takeReq q).sess (MsgHdr.sess_ q.h)).repeats q = false := by
    rw [e0, es]
    have := hs.fresh
    unfold Session.repeats at this ⊢
    exact this
  rw [if_neg (by rw [er]; simp)]
  have ec : ¬ (s.live.sess q.h.sess.toNat).cls < q.cls := by have := hs.cls; omega
  rw [if_neg (by simp [e0, es, hs.authed, hm, ec])]
  unfold State.serveOp
  dsimp only
  have e1 : (((s.live.setBatch b.tail).takeReq q).touchSess (MsgHdr.sess_ q.h)) = s.live.asked q := rfl
  have ecls : ((s.live.asked q).sess q.h.sess.toNat).cls = (s.live.sess q.h.sess.toNat).cls := by
    show ((((s.live.setBatch b.tail).takeReq q).touchSess q.h.sess.toNat).sess q.h.sess.toNat).cls = _
    rw [Live.touchSess_sess, es]
  have hp := hs.power
  simp only [e0] at e1 ⊢
  simp only [e1, ecls, Live.asked_pwr]
  by_cases hc : check { s with live := s.live.asked q } q.h.sess.toNat (s.live.sess q.h.sess.toNat).cls = 0
  · rw [if_neg (by simp [hc]), if_pos hc, if_neg (by simp [hp]), if_neg hsess]
    rfl
  · rw [if_pos hc, if_neg hc]

/-- The reply to a request that nothing executed. -/
theorem answer_replied (s : State) (l : Live) (q : Req) (st : Nat) (data : List Byte) :
    Replied { s with live := l.answer q st data } q.h q.mop st data := by
  unfold Replied Live.answer Live.reply
  simp [Req.mop_, MsgHdr.port_]

/-- The reply to a request that its session executed. -/
theorem answerKept_replied (s : State) (l : Live) (q : Req) (st : Nat) (data : List Byte) :
    Replied { s with live := l.answerKept q st data } q.h q.mop st data := by
  unfold Replied Live.answerKept Live.replyKept Live.reply
  simp [Req.mop_, MsgHdr.port_]

/-! ## Digests -/

theorem beBytes_length (v n : Nat) : (beBytes v n).length = n := by
  induction n with
  | zero => rfl
  | succ n ih => simp [beBytes, ih]

/-- A digest has 32 octets. -/
theorem sha256_length (m : List Byte) : (sha256 m).length = 32 := by
  unfold sha256
  simp [List.length_flatMap, beBytes_length]
theorem hmacSha256_length (k m : List Byte) : (hmacSha256 k m).length = 32 := by
  unfold hmacSha256
  exact sha256_length _

end Sys2Proof.Machine
end

