-- ==== Sys2Proof/Laws/PerInstr.lean ====
section
/-! SUPPORT. What holds of every command as syntax, by constructor. -/
namespace Sys2Proof.Laws.PatternFields
open Sys2Proof Sys2Proof.Machine

/-- A pattern instruction names one of the 8 lanes, and a 6-bit opcode (R186). -/
def Statement (i : Instr) : Prop := ∀ lane op f, patternOf i = some (lane, op, f) → lane < 8 ∧ op < 64

theorem of_none {i : Instr} (h : patternOf i = none) : Statement i := by
  intro lane op f e
  rw [h] at e
  cases e

theorem of_some {i : Instr} {lane : Fin 8} {op : Nat} {f : PatFields} (h : patternOf i = some (lane.val, op, f)) (ho : op < 64) :
    Statement i := by
  intro m o g e
  rw [h] at e
  cases e
  exact ⟨lane.isLt, ho⟩

theorem powerOnReset (straps : Straps) : Statement (.powerOnReset straps) := of_none rfl
theorem vinFall : Statement .vinFall := of_none rfl
theorem resetAssert : Statement .resetAssert := of_none rfl
theorem resetRelease (straps : Straps) : Statement (.resetRelease straps) := of_none rfl
theorem wakeRequest : Statement .wakeRequest := of_none rfl
theorem bootStageDone (env : StageEnv) : Statement (.bootStageDone env) := of_none rfl
theorem stagedShutdown : Statement .stagedShutdown := of_none rfl
theorem powerReturn : Statement .powerReturn := of_none rfl
theorem serviceIdleTimeout : Statement .serviceIdleTimeout := of_none rfl
theorem refLoss : Statement .refLoss := of_none rfl
theorem refReturn : Statement .refReturn := of_none rfl
theorem domainDown (domain : Fin 8) : Statement (.domainDown domain) := of_none rfl
theorem vcoreLow (cond : VcoreCond) : Statement (.vcoreLow cond) := of_none rfl
theorem vcoreIlim : Statement .vcoreIlim := of_none rfl
theorem courseStart (ring : Fin 8) : Statement (.courseStart ring) := of_none rfl
theorem bondBoundary (env : BondEnv) : Statement (.bondBoundary env) := of_none rfl
theorem upBrickReceived (ring : Fin 8) (slot : Fin 32) (brick : BitVec 64) (errs : List GroupErr) : Statement (.upBrickReceived ring slot brick errs) := of_none rfl
theorem callBrick (ring : Fin 8) : Statement (.callBrick ring) := of_none rfl
theorem upRetryReturn (ring : Fin 8) : Statement (.upRetryReturn ring) := of_none rfl
theorem downWindow (ring : Fin 8) : Statement (.downWindow ring) := of_none rfl
theorem checkBrickReceived (ring : Fin 8) (brick : BitVec 48) (errs : List GroupErr) : Statement (.checkBrickReceived ring brick errs) := of_none rfl
theorem headerReturn (ring : Fin 8) (header : BitVec 64) (errs : HeaderErrs) (delay : Nat) : Statement (.headerReturn ring header errs delay) := of_none rfl
theorem rangeCountReturn (ring : Fin 8) (brick : BitVec 64) (errs : List GroupErr) (delay : Nat) : Statement (.rangeCountReturn ring brick errs delay) := of_none rfl
theorem ringRangeFail (ring : Fin 8) : Statement (.ringRangeFail ring) := of_none rfl
theorem trainingAligned (seen : RingSeen) : Statement (.trainingAligned seen) := of_none rfl
theorem ringTrainFail (seen : RingSeen) : Statement (.ringTrainFail seen) := of_none rfl
theorem trainingRestart (ring : Fin 8) : Statement (.trainingRestart ring) := of_none rfl
theorem alignmentLost (seen : RingSeen) : Statement (.alignmentLost seen) := of_none rfl
theorem commaDrift (ring : Fin 8) : Statement (.commaDrift ring) := of_none rfl
theorem ringSlotLoss (ring : Fin 8) (slot : Fin 32) : Statement (.ringSlotLoss ring slot) := of_none rfl
theorem buoyBrickReceived (ring : Fin 8) (brick : BitVec 64) (errs : List GroupErr) : Statement (.buoyBrickReceived ring brick errs) := of_none rfl
theorem mgmtReplyReceived (ring : Fin 8) (brick : BitVec 64) (errs : List GroupErr) : Statement (.mgmtReplyReceived ring brick errs) := of_none rfl
theorem mgmtResend (stn : Fin 256) : Statement (.mgmtResend stn) := of_none rfl
theorem mgmtUnanswered (stn : Fin 256) : Statement (.mgmtUnanswered stn) := of_none rfl
theorem stnIdentFail (stn : Fin 256) : Statement (.stnIdentFail stn) := of_none rfl
theorem sightAckRefresh (stn : Fin 256) : Statement (.sightAckRefresh stn) := of_none rfl
theorem matchingPass : Statement .matchingPass := of_none rfl
theorem handoverCourse (tile : Fin 160) : Statement (.handoverCourse tile) := of_none rfl
theorem stnHandoverFail (stn : Fin 256) : Statement (.stnHandoverFail stn) := of_none rfl
theorem stnAdrift (stn : Fin 256) : Statement (.stnAdrift stn) := of_none rfl
theorem stnUnstable (stn : Fin 256) : Statement (.stnUnstable stn) := of_none rfl
theorem tileDispatch (lane : Fin 8) : Statement (.tileDispatch lane) := of_none rfl
theorem tileCommit (lane : Fin 8) : Statement (.tileCommit lane) := of_none rfl
theorem tileDiscard (lane : Fin 8) : Statement (.tileDiscard lane) := of_none rfl
theorem loopOverrun (tile : Fin 160) : Statement (.loopOverrun tile) := of_none rfl
theorem loopStall (tile : Fin 160) : Statement (.loopStall tile) := of_none rfl
theorem policyDispatch : Statement .policyDispatch := of_none rfl
theorem loopPolicyLate : Statement .loopPolicyLate := of_none rfl
theorem vcpinWrite (code : Byte) : Statement (.vcpinWrite code) := of_none rfl
theorem opNop (lane : Fin 8) (f : PatFields) : Statement (.opNop lane f) := of_some rfl (by decide)
theorem opEnd (lane : Fin 8) (f : PatFields) : Statement (.opEnd lane f) := of_some rfl (by decide)
theorem opMac (lane : Fin 8) (f : PatFields) : Statement (.opMac lane f) := of_some rfl (by decide)
theorem opMsu (lane : Fin 8) (f : PatFields) : Statement (.opMsu lane f) := of_some rfl (by decide)
theorem opMul (lane : Fin 8) (f : PatFields) : Statement (.opMul lane f) := of_some rfl (by decide)
theorem opClra (lane : Fin 8) (f : PatFields) : Statement (.opClra lane f) := of_some rfl (by decide)
theorem opRnd (lane : Fin 8) (f : PatFields) : Statement (.opRnd lane f) := of_some rfl (by decide)
theorem opAdd (lane : Fin 8) (f : PatFields) : Statement (.opAdd lane f) := of_some rfl (by decide)
theorem opSub (lane : Fin 8) (f : PatFields) : Statement (.opSub lane f) := of_some rfl (by decide)
theorem opNeg (lane : Fin 8) (f : PatFields) : Statement (.opNeg lane f) := of_some rfl (by decide)
theorem opAbs (lane : Fin 8) (f : PatFields) : Statement (.opAbs lane f) := of_some rfl (by decide)
theorem opShl (lane : Fin 8) (f : PatFields) : Statement (.opShl lane f) := of_some rfl (by decide)
theorem opShr (lane : Fin 8) (f : PatFields) : Statement (.opShr lane f) := of_some rfl (by decide)
theorem opMov (lane : Fin 8) (f : PatFields) : Statement (.opMov lane f) := of_some rfl (by decide)
theorem opLdi (lane : Fin 8) (f : PatFields) : Statement (.opLdi lane f) := of_some rfl (by decide)
theorem opLds (lane : Fin 8) (f : PatFields) : Statement (.opLds lane f) := of_some rfl (by decide)
theorem opSts (lane : Fin 8) (f : PatFields) : Statement (.opSts lane f) := of_some rfl (by decide)
theorem opLdc (lane : Fin 8) (f : PatFields) : Statement (.opLdc lane f) := of_some rfl (by decide)
theorem opIn (lane : Fin 8) (f : PatFields) : Statement (.opIn lane f) := of_some rfl (by decide)
theorem opOut (lane : Fin 8) (f : PatFields) : Statement (.opOut lane f) := of_some rfl (by decide)
theorem opPub (lane : Fin 8) (f : PatFields) : Statement (.opPub lane f) := of_some rfl (by decide)
theorem opClamp (lane : Fin 8) (f : PatFields) : Statement (.opClamp lane f) := of_some rfl (by decide)
theorem opMin (lane : Fin 8) (f : PatFields) : Statement (.opMin lane f) := of_some rfl (by decide)
theorem opMax (lane : Fin 8) (f : PatFields) : Statement (.opMax lane f) := of_some rfl (by decide)
theorem opCmplt (lane : Fin 8) (f : PatFields) : Statement (.opCmplt lane f) := of_some rfl (by decide)
theorem opCmpgt (lane : Fin 8) (f : PatFields) : Statement (.opCmpgt lane f) := of_some rfl (by decide)
theorem opSel (lane : Fin 8) (f : PatFields) : Statement (.opSel lane f) := of_some rfl (by decide)
theorem opTrip (lane : Fin 8) (f : PatFields) : Statement (.opTrip lane f) := of_some rfl (by decide)
theorem opRcrd (lane : Fin 8) (f : PatFields) : Statement (.opRcrd lane f) := of_some rfl (by decide)
theorem opRcwr (lane : Fin 8) (f : PatFields) : Statement (.opRcwr lane f) := of_some rfl (by decide)
theorem opTap (lane : Fin 8) (f : PatFields) : Statement (.opTap lane f) := of_some rfl (by decide)
theorem loopBadOp (lane : Fin 8) (word : Word) : Statement (.loopBadOp lane word) := of_none rfl
theorem railCourseWork (rail : Fin 48) : Statement (.railCourseWork rail) := of_none rfl
theorem railOv (rail : Fin 48) : Statement (.railOv rail) := of_none rfl
theorem railUv (rail : Fin 48) : Statement (.railUv rail) := of_none rfl
theorem fbtimeExpiry (rail : Fin 48) : Statement (.fbtimeExpiry rail) := of_none rfl
theorem hictimeExpiry (rail : Fin 48) : Statement (.hictimeExpiry rail) := of_none rfl
theorem railSsFail (rail : Fin 48) : Statement (.railSsFail rail) := of_none rfl
theorem hiccntReset (rail : Fin 48) : Statement (.hiccntReset rail) := of_none rfl
theorem railPhaseOpen (rail : Fin 48) (member : Fin 8) : Statement (.railPhaseOpen rail member) := of_none rfl
theorem railSenseFail (rail : Fin 48) (member : Fin 8) : Statement (.railSenseFail rail member) := of_none rfl
theorem phaseShed (rail : Fin 48) : Statement (.phaseShed rail) := of_none rfl
theorem rctlOn (rail : Fin 48) : Statement (.rctlOn rail) := of_none rfl
theorem rctlOff (rail : Fin 48) : Statement (.rctlOff rail) := of_none rfl
theorem rctlUnlatch (rail : Fin 48) : Statement (.rctlUnlatch rail) := of_none rfl
theorem rctlRestore (rail : Fin 48) (pmask : Byte) : Statement (.rctlRestore rail pmask) := of_none rfl
theorem vsetWrite (rail : Fin 48) (vset : Half) (hslew : BitVec 3) : Statement (.vsetWrite rail vset hslew) := of_none rfl
theorem setv (port : Fin 16) (c : VcCmd) (value : BitVec 12) (slew : BitVec 3) : Statement (.setv port c value slew) := of_none rfl
theorem getv (port : Fin 16) (c : VcCmd) (arg : Fin 3) : Statement (.getv port c arg) := of_none rfl
theorem geti (port : Fin 16) (c : VcCmd) (arg : Fin 3) : Statement (.geti port c arg) := of_none rfl
theorem getp (port : Fin 16) (c : VcCmd) : Statement (.getp port c) := of_none rfl
theorem getstatRail (port : Fin 16) (c : VcCmd) : Statement (.getstatRail port c) := of_none rfl
theorem getstatSummary (port : Fin 16) (c : VcCmd) : Statement (.getstatSummary port c) := of_none rfl
theorem ackcap (port : Fin 16) (c : VcCmd) (level : BitVec 5) : Statement (.ackcap port c level) := of_none rfl
theorem setmodeAuto (port : Fin 16) (c : VcCmd) (value : BitVec 12) : Statement (.setmodeAuto port c value) := of_none rfl
theorem setmodeFull (port : Fin 16) (c : VcCmd) (value : BitVec 12) : Statement (.setmodeFull port c value) := of_none rfl
theorem setmodeEvmask (port : Fin 16) (c : VcCmd) (value : BitVec 12) : Statement (.setmodeEvmask port c value) := of_none rfl
theorem ping (port : Fin 16) (c : VcCmd) (sync : Bool) : Statement (.ping port c sync) := of_none rfl
theorem vcFrameTimeout (port : Fin 16) (word : Option Word) : Statement (.vcFrameTimeout port word) := of_none rfl
theorem setvSettled (rail : Fin 48) : Statement (.setvSettled rail) := of_none rfl
theorem vcSettleFail (rail : Fin 48) : Statement (.vcSettleFail rail) := of_none rfl
theorem vcCapNoack (rail : Fin 48) : Statement (.vcCapNoack rail) := of_none rfl
theorem vcCrcBurst (port : Fin 16) : Statement (.vcCrcBurst port) := of_none rfl
theorem vcBankChange (bank : Fin 4) (millivolts : Nat) (inFrame : List (Fin 4 × Option Word)) : Statement (.vcBankChange bank millivolts inFrame) := of_none rfl
theorem inputStage (input : Fin 64) : Statement (.inputStage input) := of_none rfl
theorem ppPairLost (input : Fin 64) : Statement (.ppPairLost input) := of_none rfl
theorem ppGuardRepeat (input : Fin 64) : Statement (.ppGuardRepeat input) := of_none rfl
theorem gholdExpiry (input : Fin 64) : Statement (.gholdExpiry input) := of_none rfl
theorem pfailLow : Statement .pfailLow := of_none rfl
theorem vbusLow : Statement .vbusLow := of_none rfl
theorem adcConversion (channel : Option (Fin 16)) (code : Half) : Statement (.adcConversion channel code) := of_none rfl
theorem adcRange (channel : Fin 16) : Statement (.adcRange channel) := of_none rfl
theorem cbusMeasure : Statement .cbusMeasure := of_none rfl
theorem fullAnchor (str : Fin 16) : Statement (.fullAnchor str) := of_none rfl
theorem emptyAnchor (str : Fin 16) : Statement (.emptyAnchor str) := of_none rfl
theorem impedanceMeasure (str : Fin 16) : Statement (.impedanceMeasure str) := of_none rfl
theorem packMonitorRead (str : Fin 16) : Statement (.packMonitorRead str) := of_none rfl
theorem capStale (str : Fin 16) : Statement (.capStale str) := of_none rfl
theorem journalPeriod (str : Fin 16) : Statement (.journalPeriod str) := of_none rfl
theorem learnedRecordDone (str : Fin 16) (ok : Bool) : Statement (.learnedRecordDone str ok) := of_none rfl
theorem gcmdResetlearn (str : Fin 16) : Statement (.gcmdResetlearn str) := of_none rfl
theorem xcmdStart (str : Fin 16) : Statement (.xcmdStart str) := of_none rfl
theorem xcmdAbort : Statement .xcmdAbort := of_none rfl
theorem exerciseTimeout : Statement .exerciseTimeout := of_none rfl
theorem dieSensorRead (sixteenths : List Int) : Statement (.dieSensorRead sixteenths) := of_none rfl
theorem pointUpdate (point : Fin 288) : Statement (.pointUpdate point) := of_none rfl
theorem airSensorRead (sensor : Fin 4) : Statement (.airSensorRead sensor) := of_none rfl
theorem scrubPass (found : ScrubFound) : Statement (.scrubPass found) := of_none rfl
theorem occurrenceTaken (d : Option FaultArg) : Statement (.occurrenceTaken d) := of_none rfl
theorem wireFault (code obj aux : Half) (reads : PairFault) : Statement (.wireFault code obj aux reads) := of_none rfl
theorem blockBack (block : Fin 16) : Statement (.blockBack block) := of_none rfl
theorem shadowWindowClose (block : Fin 16) : Statement (.shadowWindowClose block) := of_none rfl
theorem faultLogCopy : Statement .faultLogCopy := of_none rfl
theorem faultClear (h : MsgHdr) (code obj : Half) : Statement (.faultClear h code obj) := of_none rfl
theorem safexit : Statement .safexit := of_none rfl
theorem heartbeatToggle : Statement .heartbeatToggle := of_none rfl
theorem hbinEdge : Statement .hbinEdge := of_none rfl
theorem heartbeatSilence : Statement .heartbeatSilence := of_none rfl
theorem mateStatus (f : MateHdr) : Statement (.mateStatus f) := of_none rfl
theorem kprMateDown : Statement .kprMateDown := of_none rfl
theorem ckptData (f : MateHdr) : Statement (.ckptData f) := of_none rfl
theorem ckptAck (f : MateHdr) : Statement (.ckptAck f) := of_none rfl
theorem ckptBlockTimeout (idx : Fin 30) : Statement (.ckptBlockTimeout idx) := of_none rfl
theorem claimNotice (f : MateHdr) : Statement (.claimNotice f) := of_none rfl
theorem imgData (f : MateHdr) : Statement (.imgData f) := of_none rfl
theorem imgAck (f : MateHdr) : Statement (.imgAck f) := of_none rfl
theorem imageSyncTimeout : Statement .imageSyncTimeout := of_none rfl
theorem handoverReq (f : MateHdr) : Statement (.handoverReq f) := of_none rfl
theorem handoverReady (f : MateHdr) : Statement (.handoverReady f) := of_none rfl
theorem handoverGo (f : MateHdr) : Statement (.handoverGo f) := of_none rfl
theorem kcmdHandover : Statement .kcmdHandover := of_none rfl
theorem kcmdAbort : Statement .kcmdAbort := of_none rfl
theorem kprHandoverFail : Statement .kprHandoverFail := of_none rfl
theorem warmingDone : Statement .warmingDone := of_none rfl
theorem claimWaitExpiry : Statement .claimWaitExpiry := of_none rfl
theorem claimStart : Statement .claimStart := of_none rfl
theorem claimWindowEnd : Statement .claimWindowEnd := of_none rfl
theorem dmissAllSlots (ring : Fin 8) : Statement (.dmissAllSlots ring) := of_none rfl
theorem commitComplete (flashOk : Bool) : Statement (.commitComplete flashOk) := of_none rfl
theorem msgOpen (h : MsgHdr) (cls : BitVec 2) : Statement (.msgOpen h cls) := of_none rfl
theorem msgAuth (h : MsgHdr) (hmac : List Byte) : Statement (.msgAuth h hmac) := of_none rfl
theorem msgClose (h : MsgHdr) : Statement (.msgClose h) := of_none rfl
theorem msgRead (h : MsgHdr) (obj : Half) (first count flags : Byte) (gen : List Byte) : Statement (.msgRead h obj first count flags gen) := of_none rfl
theorem msgWrite (h : MsgHdr) (obj : Half) (first : Byte) (words : List Word) : Statement (.msgWrite h obj first words) := of_none rfl
theorem snapPin (h : MsgHdr) : Statement (.snapPin h) := of_none rfl
theorem snapRelease (h : MsgHdr) (gen : BitVec 48) : Statement (.snapRelease h gen) := of_none rfl
theorem txnBegin (h : MsgHdr) : Statement (.txnBegin h) := of_none rfl
theorem txnCommit (h : MsgHdr) : Statement (.txnCommit h) := of_none rfl
theorem txnRollback (h : MsgHdr) : Statement (.txnRollback h) := of_none rfl
theorem txnStatus (h : MsgHdr) : Statement (.txnStatus h) := of_none rfl
theorem eventPoll (h : MsgHdr) (most : Byte) : Statement (.eventPoll h most) := of_none rfl
theorem counterRead (h : MsgHdr) (first count flags : Byte) : Statement (.counterRead h first count flags) := of_none rfl
theorem sampleRead (h : MsgHdr) (first : Half) (count : Byte) : Statement (.sampleRead h first count) := of_none rfl
theorem recordRead (h : MsgHdr) (source which : Byte) (start : Word) (blocks : Byte) : Statement (.recordRead h source which start blocks) := of_none rfl
theorem imageWrite (h : MsgHdr) (offset : Word) (data : List Byte) : Statement (.imageWrite h offset data) := of_none rfl
theorem updateBlock (h : MsgHdr) (offset crc : Word) (data : List Byte) : Statement (.updateBlock h offset crc data) := of_none rfl
theorem updateSeal (h : MsgHdr) : Statement (.updateSeal h) := of_none rfl
theorem updateArm (h : MsgHdr) (restart : Bool) : Statement (.updateArm h restart) := of_none rfl
theorem updateConfirm (h : MsgHdr) (env : FuseEnv) : Statement (.updateConfirm h env) := of_none rfl
theorem updateStatus (h : MsgHdr) : Statement (.updateStatus h) := of_none rfl
theorem recoveryEnter (h : MsgHdr) : Statement (.recoveryEnter h) := of_none rfl
theorem recoveryBlock (h : MsgHdr) (offset crc : Word) (data : List Byte) : Statement (.recoveryBlock h offset crc data) := of_none rfl
theorem recoveryFinish (h : MsgHdr) : Statement (.recoveryFinish h) := of_none rfl
theorem recoveryAbort (h : MsgHdr) : Statement (.recoveryAbort h) := of_none rfl
theorem fuseProgram (h : MsgHdr) (addr : Fin 512) (val : Word) (env : FuseEnv) : Statement (.fuseProgram h addr val env) := of_none rfl
theorem fuseReburn (h : MsgHdr) (addr : Fin 512) (val : Word) (env : FuseEnv) : Statement (.fuseReburn h addr val env) := of_none rfl
theorem fuseReadNormal (h : MsgHdr) (addr : Fin 512) : Statement (.fuseReadNormal h addr) := of_none rfl
theorem fuseReadMarginLo (h : MsgHdr) (addr : Fin 512) : Statement (.fuseReadMarginLo h addr) := of_none rfl
theorem fuseReadMarginHi (h : MsgHdr) (addr : Fin 512) : Statement (.fuseReadMarginHi h addr) := of_none rfl
theorem fuseLock (h : MsgHdr) (region : Fin 8) (env : FuseEnv) : Statement (.fuseLock h region env) := of_none rfl
theorem sessionAuthTimeout (sess : Fin 16) : Statement (.sessionAuthTimeout sess) := of_none rfl
theorem sessionIdleTimeout (sess : Fin 16) : Statement (.sessionIdleTimeout sess) := of_none rfl
theorem authLockEnd (port : Fin 3) : Statement (.authLockEnd port) := of_none rfl
theorem snapPinExpiry (gen : BitVec 48) : Statement (.snapPinExpiry gen) := of_none rfl
theorem txnTimeout : Statement .txnTimeout := of_none rfl
theorem disagreementListed (row : Fin 32) (obj : Half) : Statement (.disagreementListed row obj) := of_none rfl
theorem twWriteTransfer (keeperAddr : Bool) (octets : List Byte) : Statement (.twWriteTransfer keeperAddr octets) := of_none rfl
theorem twReadTransfer (keeperAddr : Bool) (count : Nat) (lastAcked : Bool) : Statement (.twReadTransfer keeperAddr count lastAcked) := of_none rfl
theorem twAddressMatch : Statement .twAddressMatch := of_none rfl
theorem twWakeFail : Statement .twWakeFail := of_none rfl
theorem twSclTimeout : Statement .twSclTimeout := of_none rfl
theorem twSdaTimeout : Statement .twSdaTimeout := of_none rfl
theorem hspWriteMessage (octets : List Byte) : Statement (.hspWriteMessage octets) := of_none rfl
theorem hspReadMessage (count : Nat) : Statement (.hspReadMessage count) := of_none rfl
theorem hspStatus (count : Nat) : Statement (.hspStatus count) := of_none rfl
theorem hspReservedCmd (cmd : Byte) (count : Nat) : Statement (.hspReservedCmd cmd count) := of_none rfl
theorem pi2cTransferStart (port : Fin 2) (arbLost : Bool) : Statement (.pi2cTransferStart port arbLost) := of_none rfl
theorem pi2cTransferDone (port : Fin 2) (result : PiEnd) : Statement (.pi2cTransferDone port result) := of_none rfl
theorem pi2cTimeout (port : Fin 2) : Statement (.pi2cTimeout port) := of_none rfl
theorem busRecovery (port : Fin 2) (freed : Bool) : Statement (.busRecovery port freed) := of_none rfl
theorem flushPage : Statement .flushPage := of_none rfl
theorem flushPageDone (ok : Bool) : Statement (.flushPageDone ok) := of_none rfl
theorem snapshotPageDone (ok : Bool) : Statement (.snapshotPageDone ok) := of_none rfl
theorem recSnapFail : Statement .recSnapFail := of_none rfl
theorem recNotArmed : Statement .recNotArmed := of_none rfl
theorem captureFreeze (slot : Fin 4) : Statement (.captureFreeze slot) := of_none rfl
theorem rcmdSnapnow : Statement .rcmdSnapnow := of_none rfl
theorem rcmdFlush : Statement .rcmdFlush := of_none rfl
theorem ccmdTrigger (slot : Fin 4) : Statement (.ccmdTrigger slot) := of_none rfl
theorem ccmdRearm (slot : Fin 4) : Statement (.ccmdRearm slot) := of_none rfl
theorem tcmdArm (ch : Fin 8) : Statement (.tcmdArm ch) := of_none rfl
theorem tcmdTrigger (ch : Fin 8) : Statement (.tcmdTrigger ch) := of_none rfl
theorem tcmdStop (ch : Fin 8) : Statement (.tcmdStop ch) := of_none rfl
theorem tracePulseEnd (ch : Fin 8) : Statement (.tracePulseEnd ch) := of_none rfl
theorem sclockWrite (secs : Word) : Statement (.sclockWrite secs) := of_none rfl
theorem shelfClockTick : Statement .shelfClockTick := of_none rfl
theorem jtagIdcode : Statement .jtagIdcode := of_none rfl
theorem jtagBypass (bits : List Bool) : Statement (.jtagBypass bits) := of_none rfl
theorem jtagSamplePreload (pins preload : List Bool) : Statement (.jtagSamplePreload pins preload) := of_none rfl
theorem jtagExtest (testEn : Bool) (preload : List Bool) : Statement (.jtagExtest testEn preload) := of_none rfl
theorem dbgauth (a : DbgAuth) : Statement (.dbgauth a) := of_none rfl
theorem dbgacc (r : DbgReq) : Statement (.dbgacc r) := of_none rfl
theorem trstLow : Statement .trstLow := of_none rfl
theorem vcBadCommand (port : Fin 16) (word : Word) (contend : Bool) : Statement (.vcBadCommand port word contend) := of_none rfl
theorem msgBadRequest (port : Fin 3) (frame : List Byte) : Statement (.msgBadRequest port frame) := of_none rfl
theorem occupancySample (vcFrames : Byte) : Statement (.occupancySample vcFrames) := of_none rfl
theorem dbgauthLockEnd : Statement .dbgauthLockEnd := of_none rfl
theorem responderReady : Statement .responderReady := of_none rfl
theorem snapshotAreaArmed (area : Fin 2) : Statement (.snapshotAreaArmed area) := of_none rfl

end Sys2Proof.Laws.PatternFields
end

