-- ==== Sys2Proof/Tests/Slice0.lean ====
section
/-! SUPPORT. Tests: the ill-formed terms that the checks refuse, worked figures of the manual, one step of many commands, and
for every statement with hypotheses concrete states and operands that meet them. -/
open Sys2Proof Sys2Proof.Machine
namespace Sys2Proof.Tests

set_option Elab.async false

/-! ## Small states -/

/-- A state of the controller with an empty queue. -/
def mk (l : Live) : State := { State.reset with live := l }
/-- The state that a command leaves. -/
def after (o : Host.Outcome State Fault Refusal) : Live := match o with | .next t => t.live | _ => {}
/-- The answer of a command. -/
def isNext (o : Host.Outcome State Fault Refusal) : Bool := match o with | .next _ => true | _ => false

/-- A boot stage. -/
def bootAt (n : Nat) : Live := { Live.reset with pwr := { stage := n } }
/-- RUN, with every domain on, at a bond boundary. -/
def runL : Live :=
  { Live.reset with now := 200000000, bond := 1000, bondAt := 200000000, bondOn := true, pwr := { st := .run, on := 0xFF } }

/-- A shelf image of given words. -/
def image (ws : Tbl Word) : Image := { words := ws, given := ws.map (·.1) }
/-- RUN under an image. -/
def runI (ws : Tbl Word) : Live := { runL with img := { cur := image ws } }
/-- Ring 0 at 8 kHz... with one thing set. -/
def withRing (l : Live) (g : Ring) : Live := { l with rings := [(0, g)] }

/-! ## Witnesses: concrete states and operands that meet the hypotheses of each statement, clause by clause -/

theorem witness_StepRunsFrontCommand : ({ State.reset with pending := [.vinFall] } : State).pending = .vinFall :: [] := rfl
theorem witness_StepIdlesOneTick : State.reset.pending = [] := rfl
theorem witness_EveryStepKeepsInvariant : State.reset.Inv ∧ step State.reset = .next { State.reset with live := { Live.reset with now := 1 } } :=
  ⟨⟨List.Pairwise.nil, by decide, by decide, by decide⟩, rfl⟩

theorem witness_ResetsKeepFlashAndDropTheRest : (mk runL).live.pwr.st ≠ .off ∧
    (mk { runL with pwr := { runL.pwr with st := .off } }).live.pwr.st = .off ∧
    (mk { runL with pwr := { runL.pwr with resetLow := true } }).live.pwr.resetLow = true ∧ (mk runL).live.pwr.resetLow = false := by
  decide +kernel

theorem otpDec_enc (d : Word) : otpDec (otpEnc d) = some (d, false) := by
  have e : (otpEnc d).setWidth 32 = d := by
    unfold otpEnc
    generalize otpCheck d = c
    apply BitVec.eq_of_getLsbD_eq
    intro i hi
    rw [BitVec.getLsbD_setWidth]
    simp only [hi, decide_true, Bool.true_and]
    exact (BitVec.getLsbD_append (x := c) (y := d)).trans (by simp [hi])
  unfold otpDec otpGood
  simp [e]
/-- A bank of a package with no payload, and the digest of a key that its Onwick signature verifies under. -/
def pkgKey : List Word := [0x87F52BA8, 0x08B67837, 0x120541CA, 0xDB1C7607, 0x7F102EFD, 0x3AAE3945, 0xE90AF9FB, 0xAA8D0B21]
def pkgSigned : List Byte :=
  List.replicate 52 0 ++ beBytes 0xe3b0c44298fc1c149afbf4c8996fb92427ae41e4649b934ca495991b7852b855 32 ++ List.replicate 48 0 ++ [0x60, 0x41] ++
  List.replicate 22 0 ++ leBytes 0x41428cbb 4 ++ List.replicate 8 0 ++
  beBytes 0x42eb1b95452a457b659e0df2c208ae64f42712e248789146c71a0b3e564963c7 32 ++
  beBytes 0x42eb1b95452a457b659e0df2c208ae64f42712e248789146c71a0b3e564963c7 32 ++ List.replicate 64 0
def burntKey (d : Word) : OtpWord := { norm := otpEnc d, lo := otpEnc d, hi := otpEnc d }
/-- Boot stage 3, where Onwick key slot 0 holds that digest. -/
def signedL (a b : List Byte) : Live :=
  { bootAt 3 with
    sec := { boot := some {}, bankA := a, bankB := b,
             otp := [(144, burntKey 0x87F52BA8), (145, burntKey 0x08B67837), (146, burntKey 0x120541CA), (147, burntKey 0xDB1C7607),
                     (148, burntKey 0x7F102EFD), (149, burntKey 0x3AAE3945), (150, burntKey 0xE90AF9FB), (151, burntKey 0xAA8D0B21)] } }
theorem otpEnc_burnt (d : Word) (h : d ≠ 0) : otpEnc d ≠ 0 := by
  intro e
  have x := otpDec_enc d
  rw [e, show (0 : BitVec 40) = otpEnc 0 from by decide +kernel, otpDec_enc] at x
  exact h (by simpa using x.symm)
theorem signedL_key (a b : List Byte) : (signedL a b).otpBytes 144 8 = pkgKey.flatMap (fun d => leBytes d.toNat 4) := by
  have h (d : Word) (l : Live) (n : Nat) (e : (l.otpw n).norm = otpEnc d) : l.otpData n = d := by
    unfold Live.otpData
    rw [e, otpDec_enc]
  unfold Live.otpBytes
  simp only [show List.range 8 = [0, 1, 2, 3, 4, 5, 6, 7] from rfl, List.flatMap_cons, List.flatMap_nil, pkgKey]
  rw [h 0x87F52BA8 _ (144 + 0) rfl, h 0x08B67837 _ (144 + 1) rfl, h 0x120541CA _ (144 + 2) rfl, h 0xDB1C7607 _ (144 + 3) rfl,
    h 0x7F102EFD _ (144 + 4) rfl, h 0x3AAE3945 _ (144 + 5) rfl, h 0xE90AF9FB _ (144 + 6) rfl, h 0xAA8D0B21 _ (144 + 7) rfl]
theorem signedL_slot (a b : List Byte) : (signedL a b).onwickSlot 0 = true := by
  have h : (signedL a b).otpBlank 144 = false := by
    unfold Live.otpBlank
    exact decide_eq_false (otpEnc_burnt 0x87F52BA8 (by decide))
  unfold Live.onwickSlot
  simp only [show List.range 8 = [0, 1, 2, 3, 4, 5, 6, 7] from rfl, List.any_cons, show 144 + 8 * 0 + 0 = 144 from rfl, h,
    show (signedL a b).revoked = (signedL [] []).revoked from rfl, Bool.not_false, Bool.true_or]
  decide +kernel
theorem signedL_valid (a b : List Byte) (k : Bool) (h : (signedL a b).bank k = pkgSigned) : (signedL a b).bankValid k = true := by
  unfold Live.bankValid Live.onwickSigOk
  simp only [h, show numAt (pkgSig pkgSigned (pkgUrlen pkgSigned)) 0 1 = 0 from by decide +kernel, signedL_slot,
    show (144 + 8 * 0 : Nat) = 144 from rfl, signedL_key, show (signedL a b).sec.lc = 0 from rfl,
    show (signedL a b).arvN = (signedL [] []).arvN from rfl, show decide ((0 : Nat) ≠ 2) = true from rfl, Bool.true_or, Bool.true_and]
  decide +kernel

/-- Every cell of the reserved OTP word 138 is burnt. -/
def otpBad : Live :=
  { bootAt 2 with sec := { otp := [(138, { norm := zeroisedWord, lo := zeroisedWord, hi := zeroisedWord })] } }
theorem witness_BootStagesFollowTheTable :
    ((bootAt 1).pwr.st = .boot ∧ (bootAt 1).pwr.resetLow = false ∧ (bootAt 1).pwr.recovery = false ∧ (bootAt 1).pwr.stage = 1 ∧
      (bootAt 1).pwr.refLoss = false) ∧
    ({ bootAt 1 with pwr := { refLoss := true } } : Live).pwr.stage = 1 ∧
    ((bootAt 2).pwr.stage = 2 ∧ ({} : StageEnv).drift = [] ∧ (bootAt 2).zeroiseDue = false ∧ (bootAt 2).otpFailures = []) ∧
    (otpBad.zeroiseDue = false ∧ otpBad.otpFailures = (138, 2) :: []) ∧
    (let l : Live := { bootAt 3 with therm := { dband := 5 } }; l.pwr.stage = 3 ∧ l.bootFlash = true ∧ l.therm.dband = 5) ∧
    ((bootAt 3).therm.dband ≠ 5 ∧ ({ romOk := false } : StageEnv).romOk = false ∧ ({ lockOk := false } : StageEnv).lockOk = false) ∧
    (let l : Live := { bootAt 3 with sec := { boot := some {} } }
     l.sec.boot = some {} ∧ ({} : BootRec).state ≠ 3 ∧ ({} : BootRec).state ≠ 4 ∧ ({} : BootRec).state ≠ 5 ∧ l.pwr.coldDue = false ∧
       l.recstrap = false ∧ l.pwr.cause ≠ 7 ∧ ({} : StageEnv).romOk = true ∧ ({} : StageEnv).lockOk = true ∧ l.bankValid false = false ∧
       l.bankValid true = false) ∧
    ((signedL pkgSigned []).sec.boot = some {} ∧ (signedL pkgSigned []).bankValid false = true) ∧
    ((signedL [] pkgSigned).bankValid false = false ∧ (signedL [] pkgSigned).bankValid true = true) ∧
    ((bootAt 4).pwr.stage = 4 ∧ (bootAt 4).pwr.svcBoot = false) ∧
    ({ bootAt 4 with pwr := { stage := 4, svcBoot := true } } : Live).pwr.svcBoot = true := by
  have ha := signedL_valid
  repeat' first | exact ha _ _ _ rfl | decide +kernel | apply And.intro

def coldL : Live := { Live.reset with pwr := { st := .cold, stage := 4 }, keeper := { st := .watch } }
def svcL : Live := { runL with pwr := { runL.pwr with st := .lean, service := true } , now := 24000000000 }
theorem witness_WakeShutdownAndPowerReturn :
    (coldL.pwr.st = .cold ∧ coldL.pwr.shut = false ∧ coldL.keeper.st = .watch) ∧ runL.pwr.st ≠ .cold ∧
    (let l : Live := { coldL with now := 20000000, pwr := { coldL.pwr with shut := true, pfailN := true } }
     l.pwr.shut = true ∧ l.pwr.pfailN = true ∧ l.pwr.pfailAt + fld (l.hw 0xD200 0) 30 23 * 2000000 ≤ l.now) ∧
    (svcL.pwr.st = .lean ∧ svcL.pwr.service = true ∧ (∀ n, n < 16 → (svcL.sess n).opened = false) ∧
      svcL.pwr.idleAt + fld (svcL.hw 0xD200 0) 22 15 * 200000000 ≤ svcL.now) ∧
    (let l : Live := { runL with pwr := { runL.pwr with st := .holdup }, pp := { final := true } }
     l.pwr.st = .holdup ∧ l.pp.final = true ∧ l.recd.snap = none ∧ l.recWrites = 0 ∧ l.keeper.coldAfter = 0 ∧
       (∀ n, n < 8 → (l.ring n).st ≠ .running) ∧ l.keeper.releasing = []) := by decide +kernel

theorem witness_SupplyAndReferenceFaultsAct :
    (let l := withRing runL { st := .running }
     l.pwr.refLoss = false ∧ l.pwr.st ≠ .off ∧ (l.ring 0).st ≠ .off ∧ (l.ring 0).st = .running ∧ (l.ring 7).st = .off) ∧
    (let l := withRing { runL with pwr := { runL.pwr with refLoss := true } } { st := .training, refSilent := true }
     l.pwr.refLoss = true ∧ (l.ring 0).refSilent = true ∧ (l.ring 1).refSilent = false) ∧
    (runL.pwr.on.getLsbD 0 = true ∧ runL.pwr.on.getLsbD 7 = true ∧ 0 ∉ runL.fc.domLost ∧ 7 ∉ runL.fc.domLost) := by decide +kernel

theorem witness_RingTrainingFollowsTheTable :
    (let g : Ring := { st := .training }; g.st = .training ∧ g.refSilent = false ∧ g.silent = false) ∧
    (let l := withRing { runL with now := 400000 } { st := .training }
     (l.ring 0).silent = false ∧ (l.ring 0).since + 400000 ≤ l.now) ∧
    (let l := withRing { runL with now := 200000 } { st := .training, silent := true }
     (l.ring 0).silent = true ∧ (l.ring 0).since + 200000 ≤ l.now) ∧
    (let g : Ring := { st := .running, drift := 16 }; g.st = .running ∧ 16 ≤ g.drift) ∧
    (let g : Ring := { st := .ranging, drift := 15 }; g.st = .ranging ∧ g.drift < 16) := by decide +kernel

/-- RANGE_COUNT with hop count 3 and accumulated delay 9. -/
def range39 : BitVec 64 := seal64 (8 * 2 ^ 52 + 1 * 2 ^ 40 + 3 * 2 ^ 32 + 9 * 2 ^ 8)
theorem witness_RangingEndsOnAgreement :
    (rangeCountOk range39 [] = true ∧ rangeHop range39 = 3 ∧ rangeAcc range39 = 9 ∧ rangeCountOk range39 [.invalid] = false) ∧
    (let g : Ring := { st := .ranging, inCourse := true, passes := 7 }; g.inCourse = true ∧ g.passes < 8 ∧ g.lastPass = none ∧ g.rangeGot = false) ∧
    (let g : Ring := { st := .ranging, inCourse := true, passes := 7, lastPass := some (3, 9, 102) }
     g.lastPass = some (3, 9, 102) ∧ 102 ≤ 100 + 2 ∧ 100 ≤ 102 + 2 ∧ 99 + 2 < 102) ∧
    (let g : Ring := { st := .ranging, passes := 8, rangeGot := true }; 8 ≤ g.passes ∧ g.rangeGot = true) := by decide +kernel

theorem witness_ReturnedHeadersAreJudged :
    (let g : Ring := { st := .running, inCourse := true, hdrFails := 1 }; g.inCourse = true ∧ g.hdrFails + 1 < 3) ∧
    (let g : Ring := { st := .running, inCourse := true, hdrFails := 2 }; g.st = .running ∧ 3 ≤ g.hdrFails + 1) ∧
    (∃ h : BitVec 64, headerOk h = true) ∧ (∃ h : BitVec 64, headerOk h = false) ∧ [GroupErr.disparity] ≠ [] :=
  ⟨by decide, by decide, ⟨headerOf 5 1 8 0, by decide +kernel⟩, ⟨0, by decide +kernel⟩, by decide⟩

/-- A rule that places a station of type 1 at slot 0 of ring 0, member 0 of tile 0. -/
def rule0 : Rule := { stype := 1, hop := 1 }
/-- Ring 0 at 40 kHz, tile 0 bound to slot 0 of ring 0, rail 0 on tile 0. -/
def words0 : Tbl Word :=
  [(key (oRing 0) 1, 0x58000000), (key (oTile 0) 0, 0), (key (oTile 0) 52, 0x1000), (key (oRail 0) 0, 0)]
def img0 : Image := { image words0 with rules := [rule0] }
def tileL : Live :=
  { runL with
    img := { cur := img0 }
    rings := [(0, { st := .running, inCourse := true, runCourse := true, start := 200000000 })]
    loop := { tiles := [(0, { st := .running })] } }

theorem witness_LostSlotSuspendsItsTile :
    (let l : Live := { tileL with slots := [(0, { active := true, lost := 3 })] }
     l.slotTile 0 0 = some 0 ∧ (l.slot 0 0).active = true ∧ 3 ≤ (l.slot 0 0).lost ∧ (l.slot 0 0).lossDone = false ∧ (l.tile 0).st ≠ .unused) ∧
    (let l : Live := { tileL with slots := [(0, { active := true, lost := 2 })] }
     l.slotTile 0 0 = some 0 ∧ (l.slot 0 0).active = true ∧ (l.slot 0 0).lost < 3) ∧
    (let l : Live := { tileL with slots := [(0, { active := true, lost := 4, lossDone := true })] }; (l.slot 0 0).lossDone = true) := by
  decide +kernel
theorem witness_CourseStartsOnTheGrid :
    (let l := withRing { tileL with now := 200001000 } { st := .running }
     l.courseDue 0 = true ∧ l.keeper.coldAfter = 0) ∧
    (let l := withRing { tileL with now := 200001000 } { st := .ranging, inCourse := true, start := 200000000 }
     l.courseDue 0 = true ∧ (l.ring 0).st = .ranging ∧ (l.ring 0).inCourse = true ∧ (l.ring 0).rangeGot = false) := by decide +kernel

/-- An up-brick of slot 0 in course 0. -/
def upBrick0 : BitVec 64 := seal64 (1 * 2 ^ 52)
def chk0 : BitVec 48 := seal48 (7 * 2 ^ 36 + 5)
/-- Ring 0, with one pair and one retry position, `dt` ticks after its course's start. -/
def courseL (dt : Nat) (g : Ring) : Live :=
  { tileL with
    now := 200000000 + dt
    rings := [(0, { g with st := .running, inCourse := true, runCourse := true, start := 200000000, pairs := 1, retry := 1 })]
    slots := [(0, { active := true })]
    keeper := { st := .keeper, live := true } }
theorem witness_BricksOfACourseAreJudged :
    ((tileL.ring 0).st = .running ∧ (tileL.ring 0).inCourse = true ∧ (tileL.ring 0).runCourse = true) ∧
    (let l := courseL 8 {}
     (l.ring 0).upFinal = false ∧ (l.slot 0 0).active = true ∧ (l.slotRule 0 0).isSome = true ∧ (l.slot 0 0).up ≠ .valid ∧
       l.upAt 0 ≤ l.linePos 0 ∧ upBrickOk upBrick0 0 (l.ring 0).num = true ∧ upBrickOk 0 0 (l.ring 0).num = false) ∧
    (let l := courseL 17 {}
     (l.ring 0).upFinal = false ∧ (l.ring 0).called = false ∧ (l.ring 0).retry ≠ 0 ∧ l.lineIn 0 (l.callAt 0) (l.retryAt 0) = true) ∧
    (let l := courseL 32 {}; (l.ring 0).upFinal = false ∧ l.finalAt 0 ≤ l.linePos 0) ∧
    (let l := courseL 88 {}
     (l.ring 0).downSent = false ∧ l.lineIn 0 (l.downAt 0 + 24 * ((l.ring 0).pairs - 1)) (l.checkAt 0 + 24) = true ∧ l.mayDown 0 = true) ∧
    ({ courseL 88 {} with keeper := {} } : Live).mayDown 0 = false ∧
    (let l := courseL 97 { downSent := true }
     (l.ring 0).downSent = true ∧ (l.ring 0).retry ≠ 0 ∧ (l.ring 0).checked = false ∧ l.lineIn 0 (l.checkAt 0 + 24) (l.dretryAt 0 + 5) = true ∧
       ok48 chk0 = true ∧ nbits chk0.toNat 47 44 = 7 ∧ ok48 (chk0 ^^^ 1) = false) ∧
    ((withRing tileL { st := .running, inCourse := true }).ring 0).runCourse = false := by decide +kernel

/-- The announcement of a type 1 station at hop 63. -/
def buoy63 : BitVec 64 := seal64 (4 * 2 ^ 52 + 0x123456 * 2 ^ 28 + 1 * 2 ^ 24 + 63 * 2 ^ 16)
theorem witness_AnnouncementMakesSightedRecord :
    (tileL.ring 0).st = .running ∧ ((withRing tileL { st := .overbooked }).ring 0).st = .overbooked ∧ tileL.fwWork = true ∧
    ok64 buoy63 = true ∧ nbits buoy63.toNat 63 60 = 4 ∧ 1 ≤ nbits buoy63.toNat 35 32 ∧ nbits buoy63.toNat 35 32 ≤ 7 ∧
    1 ≤ nbits buoy63.toNat 31 24 ∧ nbits buoy63.toNat 31 24 ≤ 63 ∧
    tileL.hopStn 0 (nbits buoy63.toNat 31 24) = none ∧ tileL.freeStn = some 0 ∧
    (let l : Live := { tileL with moor := { stns := [(0, { st := .identified, hop := 63, shash := 0x123456 })] } }
     l.hopStn 0 (nbits buoy63.toNat 31 24) = some 0 ∧ (l.stn 0).shash.toNat = nbits buoy63.toNat 59 36) ∧
    ok64 (buoy63 ^^^ 1) = false := by decide +kernel

/-- Station 0 at hop 1 of ring 0 waits for an answer to a request. -/
def asksL (st : StnSt) (mop : BitVec 4) : Live :=
  { tileL with moor := { stns := [(0, { st := st, hop := 1, mseq := 1, req := some { mop := mop } })] } }
/-- A DESC_READ reply of hop 1 with a status, an `MSEQ` and a word. -/
def reply5 (st mseq w : Nat) : BitVec 64 :=
  seal64 (8 * 2 ^ 52 + st * 2 ^ 47 + 2 ^ 46 + mseq * 2 ^ 44 + 5 * 2 ^ 40 + w * 2 ^ 8 + 1)
theorem witness_ManagementRequestsAreTracked :
    (asksL .sighted 5).fwWork = true ∧
    (let l := asksL .sighted 5
     (l.stn 0).req = some { mop := 5 } ∧ (l.stn 0).reqDefer = false ∧ (l.stn 0).reqAt + 20000 ≤ l.now) ∧
    (let l := asksL .matched 6
     (l.stn 0).req = some { mop := 6 } ∧ (l.stn 0).st = .matched ∧ (l.stn 0).reqFirst + ({ mop := 6 } : MgmtReq).patience ≤ l.now) ∧
    (let l := asksL .sighted 5
     let b := reply5 5 1 0
     (l.ring 0).st = .running ∧ ok64 b = true ∧ nbits b.toNat 63 60 = 8 ∧ nbits b.toNat 54 54 = 1 ∧
       l.hopStn 0 (nbits b.toNat 15 8) = some 0 ∧ nbits b.toNat 51 48 = (5 : BitVec 4).toNat ∧ (5 : BitVec 4) ≠ 0 ∧
       nbits b.toNat 53 52 = (l.stn 0).mseq.toNat ∧ nbits b.toNat 59 55 = 5 ∧ (l.stn 0).reqBusy < 7) ∧
    (let l := asksL .sighted 5
     let b := reply5 0 1 0xABCD
     ok64 b = true ∧ nbits b.toNat 59 55 = 0 ∧ nbits b.toNat 53 52 = (l.stn 0).mseq.toNat ∧ (l.stn 0).st = .sighted ∧ (l.stn 0).desc.length < 15) ∧
    (let l := asksL .sighted 5
     ok64 (reply5 0 2 0) = true ∧ nbits (reply5 0 2 0).toNat 53 52 ≠ (l.stn 0).mseq.toNat ∧ ok64 (reply5 6 1 0) = true ∧
       5 < nbits (reply5 6 1 0).toNat 59 55) ∧
    (let q : Stn := { st := .sighted, dcrcFails := 3 }; q.st = .sighted ∧ 3 ≤ q.dcrcFails) ∧
    (let q : Stn := { st := .sighted, unanswered := 8 }; q.st = .sighted ∧ 8 ≤ q.unanswered) ∧
    (let l : Live := { asksL .identified 1 with now := 204800000 }
     (l.stn 0).st ≠ .unseen ∧ (l.stn 0).rule = none ∧ (l.stn 0).ackAt + 204800000 ≤ l.now) := by decide +kernel

theorem witness_MatchingPassSettlesIdentifiedStations :
    (let l := asksL .identified 1
     l.working = true ∧ l.fwWork = true ∧ l.now = l.bondAt ∧ l.now % 2000000 = 0 ∧ Tbl.wf {} l.moor.stns = true ∧
       (l.stn 0).st = .identified ∧ l.fwForeign (l.stn 0) = false) ∧
    (let l : Live := { asksL .identified 1 with sec := { bankA := List.replicate 160 2, running := some false } }
     l.fwForeign (l.stn 0) = true) := by decide +kernel

/-- The controller holds the lease; station 0 is MATCHED as member 0 of tile 0 and has told its duty. -/
def handL : Live :=
  { tileL with
    keeper := { st := .keeper, live := true }
    loop := { tiles := [(0, { st := .waiting })] }
    slots := [(0, { active := true, validRun := 64 })]
    moor := { stns := [(0, { st := .matched, hop := 1, rule := some 0, bricks := 1, tile := some 0, assigned := 0x0F, stateDuty := some 800, stateAt := 200000000, leaseSeen := true, lease := { state := 1 } })] } }
theorem handL_members : handL.members 0 = handL.stns := by
  simp [Live.members, Live.stns, handL, tileL]
/-- The same tile while it runs: the member joins it. -/
def joinL : Live := { handL with loop := { tiles := [(0, { st := .running })] } }
theorem joinL_members : joinL.members 0 = joinL.stns := by
  simp [Live.members, Live.stns, joinL, handL, tileL]
theorem witness_HandoverAndLossOfAStation :
    (let l : Live := { handL with img := { cur := image words0 }, loop := { tiles := [(0, { st := .suspended })] } }
     l.hasTile 0 = true ∧ l.mayHand = true ∧ l.isolated 0 = false ∧ l.tileRules 0 = [] ∧ (l.tile 0).st = .suspended ∧ l.working = true) ∧
    (handL.handReady 0 = true ∧ handL.tileRules 0 ≠ [] ∧ handL.tileStarted 0 = false ∧
      (∀ p ∈ handL.dueMembers 0, handL.freshDuty p.2 = true) ∧ handL.tKind 0 ≠ 4) ∧
    (joinL.handReady 0 = true ∧ joinL.tileRules 0 ≠ [] ∧ joinL.tileStarted 0 = true ∧
      ((joinL.dueMembers 0).filter (fun p => joinL.freshDuty p.2)).head?.map (·.1) = some 0 ∧ joinL.tileRail 0 = some 0) ∧
    (let q : Stn := { st := .matched, assignBad := true }; q.st = .matched ∧ q.assignBad = true) ∧
    (let q : Stn := { st := .matched, dueFor := 64 }; q.st = .matched ∧ q.assignBad = false ∧ 64 ≤ q.dueFor) ∧
    (let q : Stn := { st := .moored, silentRun := 8 }; q.st = .moored ∧ 8 ≤ q.silentRun) ∧
    (let q : Stn := { st := .matched, suspends := [997, 998, 999, 1] }; q.st ≠ .unseen ∧ 4 ≤ (q.suspends.filter (fun b => 1000 < b + 1000)).length) := by
  refine ⟨by decide +kernel, ?_, ?_, by decide, by decide, by decide, by decide⟩
  · unfold Live.handReady Live.handDue Live.tileStarted Live.dueMembers
    rw [handL_members]
    decide +kernel
  · unfold Live.handReady Live.handDue Live.tileStarted Live.dueMembers
    rw [joinL_members]
    decide +kernel

def laneL : Live :=
  { tileL with
    rings := [(0, { st := .running, inCourse := true, start := 200000000, upFinal := true })]
    loop := { tiles := [(0, { st := .running })], lanes := [(0, { sched := [(0, 0)], cycle := 1000, base := 200000000 })] } }
theorem witness_LaneDispatchesItsNextEntry :
    (let l := laneL
     let k := l.lane 0
     l.working = true ∧ k.ev = none ∧ k.cycle ≠ 0 ∧ l.laneHeld 0 = false ∧ k.sched[k.pos]? = some (0, 0) ∧ l.courseTile 0 = true ∧
       l.tileRing 0 = some 0 ∧ k.since ≤ k.base + 0 * l.period 0 ∧ k.base + 0 * l.period 0 ≤ l.now ∧ (l.ring 0).inCourse = true ∧
       (l.ring 0).start = k.base + 0 * l.period 0 ∧ l.fc.safe = false ∧ l.isolated 0 = false ∧ (l.tile 0).st = .running ∧
       l.decimated 0 0 (l.ring 0).num = false ∧ l.inputsFinal 0 = true) ∧
    (let e : Eval := {}; e.ended = false) ∧ (let e : Eval := { ended := true }; e.dropped = false) ∧
    (let l : Live := { laneL with sec := { dbg := { halted := [0] } } }; l.laneHeld 0 = true) := by
  decide +kernel

/-- Lane 0 runs an evaluation of tile 0. -/
def evalL (e : Eval) : Live := { laneL with loop := { laneL.loop with lanes := [(0, { ev := some e })] } }
theorem witness_CommitIsWholeAndDiscardIsNothing :
    (let e : Eval := { ring := none, ended := true, startAt := 200000000 }
     let l := evalL e
     (l.lane 0).ev = some e ∧ e.dropped = false ∧ (l.tile e.tile).st = .running ∧ l.isolated e.tile = false ∧ e.ended = true ∧
       e.bad = false ∧ l.late e = false) ∧
    (let e : Eval := { ring := none, startAt := 199999999 }
     let l := evalL e
     (l.lane 0).ev = some e ∧ l.fc.safe = false ∧ l.late e = true) ∧
    (let e : Eval := { ring := some 0, ended := true, bad := true, startAt := 200000000 }
     e.ended = true ∧ e.bad = true ∧ (evalL e).fc.safe = false) ∧
    (let e : Eval := { ring := none, startAt := 200000000 }
     e.handover = false ∧ (evalL e).late e = false ∧ e.ended = false) := by decide +kernel

theorem witness_OverrunsStallAndPolicyTilesAreLate :
    (let l : Live := { tileL with loop := { tiles := [(0, { st := .running, ovr := 2 })] } }
     l.courseTile 0 = true ∧ 2 ≤ (l.tile 0).ovr ∧ (l.tile 0).overrun = false) ∧
    (let l : Live := { tileL with loop := { tiles := [(0, { st := .running, ovr := 1 })] } }; (l.tile 0).ovr < 2) ∧
    (let l : Live := { tileL with loop := { tiles := [(0, { st := .running, ovr := 8 })] } }
     l.courseTile 0 = true ∧ 8 ≤ (l.tile 0).ovr ∧ (l.tile 0).stalled = false ∧ (l.tile 0).st = .running) ∧
    (let l : Live := { runL with loop := { tiles := [(1, { st := .running })], polQueue := [1] } }
     l.policyLane = some 7 ∧ l.working = true ∧ l.fc.safe = false ∧ (l.lane 7).ev = none ∧ l.laneHeld 7 = false ∧
       l.loop.polQueue = 1 :: [] ∧ (l.tile 1).st = .running ∧ l.isolated 1 = false) ∧
    (let l : Live := { runL with loop := { tiles := [(1, { st := .running })], polLate := [1], lanes := [(7, { ev := some { tile := 2, startAt := 199999999 } })] } }
     l.policyLane = some 7 ∧ ∃ e, (l.lane 7).ev = some e ∧ e.ring = none ∧ e.dropped = false ∧ e.startAt < l.bondAt) :=
  by
  repeat' first | exact ⟨{ tile := 2, startAt := 199999999 }, by decide +kernel⟩ | decide +kernel | apply And.intro

/-- Lane 0 runs an evaluation with some register values. -/
def ev0 : Eval := { w := [(1, 0x7FFFFF), (2, 0x800000), (3, 5)], acc := -5 }
/-- The same registers, where the library word at the evaluation is an instruction. -/
def evOp (op : Nat) (f : PatFields) (e : Eval := ev0) : Eval := { e with lib := [(0, patWord op f)] }
/-- Lane 0 runs that evaluation, and the library word is the instruction. -/
def Meets (op : Nat) (f : PatFields) : Prop :=
  Executes (mk (evalL (evOp op f))) 0 f (evOp op f) ∧ (evOp op f).word = patWord op f
theorem meets (op : Nat) (f : PatFields) (h : f.pred = false) : Meets op f := ⟨⟨⟨rfl, rfl, rfl⟩, by simp [h]⟩, rfl⟩
/-- The statements on pattern instructions: a lane that executes each instruction, with fields that meet each clause, at its ends. -/
theorem witness_SumsSaturateAndNeverWrap :
    (∀ op, Meets op { dst := 15, srca := 1, srcb := 2 } ∧ Meets op { srca := 2 }) ∧
    ({ dst := 15, srca := 1, srcb := 2 } : PatFields).imm = 0 ∧ ({ srca := 2 } : PatFields).srcb = 0 :=
  ⟨fun op => ⟨meets op _ rfl, meets op _ rfl⟩, rfl, rfl⟩
theorem witness_ShiftsAndConstantsFit :
    (∀ op, Meets op { srca := 11, imm := 23 }) ∧ (23 : BitVec 13).toNat ≤ 23 ∧ (11 : BitVec 4).toNat ≤ 11 ∧
    Meets 0x18 { imm := 15 } ∧ (15 : BitVec 13).toNat < 16 :=
  ⟨fun op => meets op _ rfl, by decide, by decide, meets _ _ rfl, by decide⟩
theorem witness_ProductsAccumulateExactly :
    (∀ op, Meets op { srca := 1, srcb := 2, imm := 1 }) ∧ (1 : BitVec 13).toNat ≤ 1 ∧
    Meets 0x07 {} ∧ Meets 0x08 { dst := 15, imm := 7 } ∧ (7 : BitVec 13).toNat < 8 :=
  ⟨fun op => meets op _ rfl, by decide, meets _ _ rfl, meets _ _ rfl, by decide⟩
theorem witness_ComparesAndLimitsSetP :
    (∀ op, Meets op { dst := 4, srca := 1, srcb := 14, imm := 4 }) ∧ (14 : BitVec 4).toNat ≤ 14 ∧
    (∀ op, Meets op { imm := 5 } ∧ Meets op { imm := 6 } ∧ Meets op { srca := 1, imm := 3 } ∧ Meets op { srca := 1, imm := 7 } ∧
      Meets op { imm := 11 }) :=
  ⟨fun op => meets op _ rfl, by decide, fun op => ⟨meets op _ rfl, meets op _ rfl, meets op _ rfl, meets op _ rfl, meets op _ rfl⟩⟩
theorem witness_LoadsReadWhatDispatchLatched :
    (∀ op, Meets op { dst := 1, imm := 59 } ∧ Meets op { dst := 1, imm := 31 } ∧ Meets op { dst := 1 }) ∧
    (59 : BitVec 13).toNat < 64 ∧ (59 : BitVec 13).toNat % 16 < 12 ∧ (31 : BitVec 13).toNat < 32 :=
  ⟨fun op => ⟨meets op _ rfl, meets op _ rfl, meets op _ rfl⟩, by decide, by decide, by decide⟩
theorem witness_StoresAreBuffered :
    (∀ op, Meets op { srca := 1, imm := 31 } ∧ Meets op { srca := 1, imm := 3 } ∧ Meets op { srca := 1, imm := 7 } ∧ Meets op { srca := 1 }) ∧
    (31 : BitVec 13).toNat < 32 ∧ (3 : BitVec 13).toNat < 4 ∧ (7 : BitVec 13).toNat < 8 :=
  ⟨fun op => ⟨meets op _ rfl, meets op _ rfl, meets op _ rfl, meets op _ rfl⟩, by decide, by decide, by decide⟩
theorem witness_EndRunsMainAndTripRaisesOnce :
    LaneRuns (mk (evalL ev0)) 0 ev0 ∧ ev0.inRebase = false ∧ ev0.word = patWord 0x00 {} ∧ Meets 0x01 {} ∧
    (let e := evOp 0x01 {} { inRebase := true }
     LaneRuns (mk (evalL e)) 0 e ∧ e.inRebase = true ∧ e.word = patWord 0x01 {}) ∧
    (let f : PatFields := { srca := 1, imm := 255 }; Meets 0x28 f ∧ f.dst = 0 ∧ f.srcb = 0 ∧ f.imm.toNat < 256) :=
  ⟨⟨rfl, rfl, by decide⟩, rfl, by decide, meets _ _ rfl, ⟨⟨rfl, rfl, rfl⟩, rfl, rfl⟩, meets _ _ rfl, rfl, rfl, by decide⟩
theorem witness_PredicateAndReservedEncodings :
    (let f : PatFields := { pred := true }
     patternOf (.opAdd 0 f) = some (0, 0x0C, f) ∧ LaneRuns (mk (evalL (evOp 0x0C f))) 0 (evOp 0x0C f) ∧ (evOp 0x0C f).word = patWord 0x0C f ∧
       patReserved 0x0C f = false ∧ (evOp 0x0C f).p = false) ∧
    (let f : PatFields := { imm := 1 }
     patternOf (.opAdd 0 f) = some (0, 0x0C, f) ∧ patReserved 0x0C f = true ∧ Meets 0x0C f ∧
       -- the library word is the ADD, not a SUB
       patternOf (.opSub 0 f) = some (0, 0x0D, f) ∧ (evOp 0x0C f).word ≠ patWord 0x0D f) ∧
    (patReserved 0x3F {} = true ∧ Meets 0x3F {}) ∧ ((mk laneL).live.lane 0).ev = none :=
  ⟨⟨rfl, ⟨rfl, rfl, rfl⟩, rfl, by decide, rfl⟩, ⟨rfl, by decide, meets _ _ rfl, rfl, by decide⟩, ⟨by decide, meets _ _ rfl⟩, by decide⟩

theorem witness_HostCommandsWaitForTheBoundary :
    (let l := runI [(key 0x4000 2, 0x00C80064)]
     l.railPort 0 = none ∧ l.cf 0x4000 2 15 0 ≤ 200 ∧ 200 ≤ l.cf 0x4000 2 31 16 ∧ 99 < l.cf 0x4000 2 15 0 ∧ l.cf 0x4000 2 31 16 < 201) ∧
    runL.pwr.on.getLsbD 1 = true := by decide +kernel

theorem witness_BoundaryNumbersAndPublishes :
    (runL.now ≤ runL.bondAt) ∧
    (let l : Live := { runL with now := 200200000, pwr := { runL.pwr with restart := some 6 } }
     l.now % 200000 = 0 ∧ l.bondAt < l.now ∧ l.pwr.st ≠ .off ∧ l.pwr.resetLow = false ∧ l.pwr.restart = some 6) ∧
    (let l : Live := { runL with now := 200200000, pwr := { st := .boot, stage := 4, on := 0xFF } }
     l.now % 200000 = 0 ∧ l.bondAt < l.now ∧ l.pwr.restart = none ∧ l.working = false ∧ l.fwUp = true) ∧
    (let l : Live := { runL with now := 200200000 }
     l.now % 200000 = 0 ∧ l.bondAt < l.now ∧ l.pwr.restart = none ∧ l.working = true) := by decide +kernel

def railL (k : Rail) : Live := { runL with img := { cur := img0 }, rails := [(0, k)] }
theorem witness_WaitingWordsActAtTheBoundary :
    ((railL { live := true, st := .latched }).rail 0).live = true ∧ ((railL { live := true, st := .latched }).rail 0).st = .latched ∧
    (railL {}).railPort 0 = none ∧ (railL {}).rcf 0 2 15 0 ≤ fld 0 31 16 ∧ fld 0 31 16 ≤ (railL {}).rcf 0 2 31 16 ∧
    ((railL {}).rail 0).live = false ∧ (runI [(key 0xB100 0, 0x80000000)]).cb 0xB100 0 31 = true ∧
    (({ runL with recd := { traces := [(0, { state := 2 })] } } : Live).trace 0).state = 2 ∧
    (({ runL with recd := { caps := [(0, { state := 3 })] } } : Live).capSlot 0).state = 3 := by decide +kernel

/-- A rail of one phase whose member, station 0, is MOORED. -/
def phaseL (k : Rail) : Live :=
  { tileL with
    img := { cur := { img0 with words := words0 ++ [(key (oRail 0) 4, 0x00004000), (key (oRail 0) 5, 0x01010000)],
                                given := words0.map (·.1) ++ [key (oRail 0) 4, key (oRail 0) 5] } }
    rings := [(0, { st := .running, inCourse := true, runCourse := true, start := 200000000, upFinal := true })]
    moor := { stns := [(0, { st := .moored, hop := 1, rule := some 0, bricks := 1, tile := some 0 })] }
    rails := [(0, k)] }
/-- The same rail, whose course work has come to a stage. -/
def stageL (n : Nat) (k : Rail) : Live := phaseL { k with workAt := some 200000000, stage := n }
theorem witness_RailTripsFollowTheTable :
    ((phaseL { st := .on }).railDue 0 = true ∧ (phaseL { st := .on }).railStage 0 = 0) ∧
    (let l := stageL 3 { st := .on, ovCnt := 4 }
     l.railDue 0 = true ∧ l.railStage 0 ≤ 3 ∧ ((l.railUpTo 0 3).rail 0).st.ramps = true ∧ ((l.railUpTo 0 3).rail 0).ovCnt ≠ 0 ∧
       (l.railUpTo 0 3).rcf 0 4 15 12 ≤ ((l.railUpTo 0 3).rail 0).ovCnt) ∧
    (let l := (stageL 3 { st := .on, ovCnt := 3 }).railUpTo 0 3; (l.rail 0).ovCnt < l.rcf 0 4 15 12) ∧
    (let l := (stageL 3 { st := .on, uvCnt := 1 }).railUpTo 0 3
     (l.rail 0).st = .on ∧ (l.rail 0).uvCnt ≠ 0 ∧ l.rcf 0 4 11 4 ≤ (l.rail 0).uvCnt ∧ (l.rail 0).uvRaised = false) ∧
    (let l := (stageL 3 { st := .foldback, fbAt := 199800000 }).railUpTo 0 3
     (l.rail 0).st = .foldback ∧ (l.rail 0).fbAt + l.rcf 0 5 31 24 * 200000 ≤ l.railStart 0 ∧ (l.rail 0).ovCnt = 0 ∧ (l.rail 0).rotPrev = 0) ∧
    (let l := (stageL 3 { st := .hiccup, intent := true, hicAt := 198000000 }).railUpTo 0 3
     (l.rail 0).st = .hiccup ∧ (l.rail 0).intent = true ∧ (l.rail 0).shedOrd = false ∧ (l.rail 0).ovCnt = 0 ∧ (l.rail 0).rotPrev = 0 ∧
       (l.rail 0).hicAt + l.rcf 0 5 23 16 * 2000000 ≤ l.railStart 0) ∧
    (let l := (stageL 3 { st := .softstart, reachedAt := some 198000000, window := [16000000] }).railUpTo 0 3
     (l.rail 0).reachedAt = some 198000000 ∧ (l.rail 0).st = .softstart ∧ 198000000 + 2000000 ≤ l.railStart 0 ∧ l.aboveUv 0 = false) ∧
    (phaseL { st := .on, workAt := some 200000000, stage := 4 }).railStage 0 = 4 ∧ runL.railDue 0 = false ∧
    (let l := phaseL { st := .on, onAt := 0 }; (l.rail 0).st = .on ∧ (l.rail 0).onAt + 200000000 ≤ l.now) := by decide +kernel

theorem witness_RailMembersAreRemovedAndShed :
    (let l := stageL 1 { st := .on, members := [(0, { openCnt := 16 })] }
     l.railDue 0 = true ∧ l.railStage 0 ≤ 1 ∧ (l.railUpTo 0 1).mAct 0 0 = true ∧ 16 ≤ ((l.railUpTo 0 1).mem 0 0).openCnt) ∧
    (let l := (stageL 1 { st := .on, members := [(0, { rangeCnt := 4, openCnt := 15 })] }).railUpTo 0 1
     (∀ n, n < 8 → (l.mem 0 n).openCnt < 16) ∧ l.senseBad 0 0 = true) ∧
    (let s : Live := { stageL 4 { st := .on, dwellAt := some 200000000, i := some (-1) } with
                       img := { cur := { img0 with words := [(key (oRing 0) 1, 0x58000000), (key (oTile 0) 52, 0x1000), (key (oRail 0) 0, 8)],
                                                   given := words0.map (·.1) } } }
     let l := ((s.railUpTo 0 4).modRail 0 fun q => { q with workAt := some ((s.railUpTo 0 4).railStart 0), stage := 5 }).shedWork 0
     s.railDue 0 = true ∧ s.railStage 0 ≤ 4 ∧
     (l.rail 0).dwellAt = some 200000000 ∧ l.shedActs 0 = true ∧ l.nmin 0 < (l.acts 0).length ∧
       200000000 + l.rcf 0 5 11 0 * 20000 ≤ l.railStart 0 ∧
       (l.acts 0)[((l.rail 0).rho + (l.acts 0).length - 1) % (l.acts 0).length]? = some 0) ∧
    (stageL 2 {}).railStage 0 = 2 ∧ (stageL 5 {}).railStage 0 = 5 := by decide +kernel

theorem witness_RailCourseWorkIsDoneOnce :
    ((stageL 6 { st := .on }).railStage 0 = 6 ∧ runL.railDue 0 = false) ∧
    ((phaseL { st := .on }).railDue 0 = true ∧ (phaseL { st := .on }).railStage 0 < 6) ∧
    (let s := stageL 3 { st := .on }
     let l := s.railUpTo 0 3
     s.railDue 0 = true ∧ s.railStage 0 ≤ 3 ∧ (l.rail 0).st.regulates = true ∧ (l.rail 0).intent = false ∧ (l.rail 0).ovCnt = 0 ∧
       (l.rail 0).rotPrev = 0) ∧
    (let l := (stageL 3 { st := .foldback, fbAt := 200000000 }).railUpTo 0 3
     (l.rail 0).st = .foldback ∧ l.railStart 0 < (l.rail 0).fbAt + l.rcf 0 5 31 24 * 200000) ∧
    (let l := (stageL 3 { st := .softstart }).railUpTo 0 3; (l.rail 0).st = .softstart ∧ (l.rail 0).reachedAt = none) := by decide +kernel

/-- Port 0 is enabled, its bank is powered, and RAILSEL 0 names rail 0. -/
def vcL (k : Rail) (q : VcRail) : Live :=
  { tileL with
    img := { cur := { img0 with words := words0 ++ [(key (oRail 0) 2, 0x00C80064), (key (oVc 0) 0, 0x03FFFF80 ||| 1)],
                                given := words0.map (·.1) ++ [key (oRail 0) 2, key (oVc 0) 0] } }
    keeper := { st := .keeper, live := true }
    adc := { vbok := 0xF }
    rails := [(0, k)]
    vcr := [(0, q)] }
theorem witness_VoltagePortReads :
    (vcL {} {}).vcServes 0 = true ∧ (vcL {} {}).fc.safe = false ∧ (vcL {} {}).portRail 0 0 = some 0 ∧ ({} : VcCmd).contend = false ∧
    ((vcL { seen := { i := some 0 } } {}).rail 0).seen.i = some 0 ∧ ((vcL { seen := { i := none } } {}).rail 0).seen.i = none ∧
    runL.vcServes 0 = false := by decide +kernel
theorem witness_VoltagePortCommandsAreJudged :
    (vcL {} {}).vcServes 0 = true ∧ (vcL {} {}).portRail 0 0 = some 0 ∧ ((vcL {} {}).rail 0).st = .idle ∧
    (vcL {} {}).portRail 0 1 = none ∧ ({ vcL {} {} with fc := { safe := true } } : Live).vcServes 0 = true ∧
    (let l := vcL { st := .on, vt := mv16 150 } { calm := 2 }
     (l.rail 0).st ≠ .idle ∧
       -- 99 mV and 201 mV are out of the rail's range, 100 mV and 200 mV in it
       99 < l.rcf 0 2 15 0 ∧ l.rcf 0 2 31 16 < 201 ∧ ¬ 100 < l.rcf 0 2 15 0 ∧ ¬ l.rcf 0 2 31 16 < 200 ∧ l.cf (oVc 0) 1 7 5 = 0 ∧
       (l.rail 0).st.regulates = true ∧ mv16 150 = (l.rail 0).vt ∧ (l.vr 0).outst = none ∧ 2 ≤ (l.vr 0).calm ∧
       mv16 151 ≠ (l.rail 0).vt) ∧
    (let l := vcL { st := .on, vt := mv16 150 } { level := 7, ack := 8 }; (l.rail 0).vt < mv16 151 ∧ (l.vr 0).level < (l.vr 0).ack) ∧
    (vcL { st := .latched } {}).railPort 0 = some 0 ∧
    (let w : Word := BitVec.ofNat 32 (crc8 0 24 + 1); vcCrcOk w = false) ∧ vcCrcOk 0 = true ∧ vcMalformed 0 = true := by
  decide +kernel

theorem witness_VoltagePortEvents :
    (let q : VcRail := { outst := some { run := 2 } }; ∃ c, q.outst = some c ∧ 2 ≤ c.run) ∧
    (let q : VcRail := { outst := some { run := 1 } }; ∃ c, q.outst = some c ∧ c.run < 2) ∧
    (let l := vcL {} { outst := some { calmAt := some 200000000 } }
     ∃ c, (l.vr 0).outst = some c ∧ l.railPort 0 = some 0 ∧ c.calmAt = some 200000000 ∧ c.failed = false ∧
       200000000 + l.cf (oVc 0) 1 15 8 * 200000 ≤ l.now) ∧
    (let l := vcL {} { grace := some 199800000 }
     (l.vr 0).grace = some 199800000 ∧ l.railBound 0 = some 0 ∧ 199800000 + l.cf (oVc 0) 0 6 0 * 200000 ≤ l.now) ∧
    (let l : Live := { runL with vcp := [(0, { badCrc := 16 }), (1, { badCrc := 15 })] }; 16 ≤ (l.vp 0).badCrc ∧ (l.vp 1).badCrc < 16) :=
  ⟨⟨_, rfl, by decide⟩, ⟨_, rfl, by decide⟩, ⟨{ calmAt := some 200000000 }, by decide +kernel⟩, by decide +kernel, by decide +kernel⟩

/-- The MOORED station of a pair, whose descriptor gives it source 0x1. -/
def inStn : Stn :=
  { st := .moored, hop := 1, rule := some 0, bricks := 1, tile := some 0,
    desc := [0, 0, 0, 0x00640000, 0x00640064, 0, 0, 0, 0, 0, 0, 0, 0x00000001] }
/-- Input 0 is tile 0, whose pair is station 0 of source 0x1; its slot 0 has a sample. -/
def inL (i : Input) (aux : BitVec 12 := 4095) : Live :=
  { phaseL {} with
    img := { cur := { img0 with words := [(key (oRing 0) 1, 0x58000000), (key (oTile 0) 0, 1), (key (oTile 0) 52, 0x10006000)],
                                given := words0.map (·.1) ++ [key (oTile 0) 52] } }
    slots := [(0, { active := true, up := .valid, cur := { aux := aux, imeas := 100 }, auxSrc := 1 })]
    moor := { stns := [(0, inStn)] }
    pp := { inputs := [(0, i)] } }
theorem witness_InputGuardFollowsTheTable :
    (let l := inL { st := .sharing, lowRun := 3 } 0
     l.stageDue 0 = some (200000000, inStn) ∧ (l.slot inStn.ring inStn.slot).usable = true ∧ (l.inp 0).st.guards = true ∧
       (l.inpSample inStn (l.slot 0 0)).1.getD (l.inp 0).vin < 60 ∧ 4 ≤ (l.inp 0).lowRun + 1) ∧
    (let l := inL { st := .sharing, rhat := some 1 }
     l.stageDue 0 = some (200000000, inStn) ∧ (l.inp 0).st.guards = true ∧ (l.inp 0).rg = some 1 ∧ l.mains 0 = false ∧ (l.inp 0).lowRun + 1 < 4) ∧
    (let l : Live := { inL { st := .sharing } with slots := [(0, { active := true, up := .failed })] }
     l.stageDue 0 = some (200000000, inStn) ∧ (l.slot inStn.ring inStn.slot).usable = false) ∧
    (let l := inL { workAt := some 200000000 }; l.stageDue 0 = none) ∧
    (let l := inL { st := .sharing, lowRun := 4, workAt := some 200000000 }
     l.stageDue 0 = none ∧ (l.inp 0).st.guards = true ∧ 4 ≤ (l.inp 0).lowRun) ∧
    (let i : Input := { st := .sharing, lowRun := 3 }; i.lowRun < 4) ∧
    (let i : Input := { trips := [1000, 900, 800, 1], tripsNew := 4 }; i.trips[3]? = some 1 ∧ 4 ≤ i.tripsNew ∧ 1000 < 1 + 1000) ∧
    (let l := inL { st := .guarded, tripAt := 950 }; (l.inp 0).st = .guarded ∧ (l.inp 0).backOff = none ∧ (l.inp 0).tripAt + l.ghold ≤ l.bond) ∧
    (let l := inL { st := .guarded, tripAt := 951 }; l.bond < (l.inp 0).tripAt + l.ghold) := by decide +kernel

theorem witness_PowerFailEntersHoldup :
    (runL.pwr.st = .run ∧ runL.pp.st ≠ .holdup) ∧ ((bootAt 3).pwr.st ≠ .run ∧ (bootAt 3).pwr.st ≠ .lean ∧ (bootAt 3).pwr.st ≠ .off) ∧
    (let l : Live := { runL with pp := { lowConv := 4 } }; l.pwr.st = .run ∧ l.pp.st ≠ .holdup ∧ 4 ≤ l.pp.lowConv) ∧
    (let l : Live := { runL with pp := { lowConv := 3 } }; l.pp.lowConv < 4) ∧
    (let l : Live := { runL with pp := { st := .holdup, measAt := some 199600000, measV := 2, measE := 1, vnow := 1 } }
     l.pp.measAt = some 199600000 ∧ l.measuring = true ∧ 199600000 + 400000 ≤ l.now ∧
       0 < l.pp.measV * l.pp.measV - l.pp.vnow * l.pp.vnow) := by decide +kernel

def adcL (a : Adc) : Live := { runI [(key 0x6FFF 9, 0x2F000000)] with adc := a }
theorem witness_ConversionsGoRoundRobin :
    ((adcL { lastAt := 199999801 }).now < (adcL { lastAt := 199999801 }).adc.lastAt + 200) ∧
    (let l := adcL { lastAt := 199999800, refDue := true }; l.pwr.on.getLsbD 4 = true ∧ l.adc.lastAt + 200 ≤ l.now ∧ l.adc.refDue = true) ∧
    (let l := adcL { next := 3 }; l.adc.refDue = false ∧ l.adcNext = some 2 ∧ l.adcNext ≠ some 3) ∧
    (let l := adcL { runs := [(2, 16), (3, 15)] }
     16 ≤ tget 0 l.adc.runs 2 ∧ 2 ∉ l.adc.raised ∧ 2 ∈ l.adcBound ∧ tget 0 l.adc.runs 3 < 16) := by decide +kernel

/-- String 0 is tile 0, of 1 Ah; its member is station 0. -/
def strL (q : Str) : Live :=
  { phaseL {} with
    img := { cur := { img0 with words := words0 ++ [(key (oStr 0) 0, 100), (key (oStr 0) 9, 0x01040000)],
                                given := words0.map (·.1) ++ [key (oStr 0) 0, key (oStr 0) 9] } }
    gauge := { strs := [(0, q)] } }
/-- The string after a discharge of three quarters of its nominal capacity. -/
def learnL : Live := strL { live := true, emptyRun := 20, cycle := true, ifs := 1, qcap := 1000, a := 442314000000000000 }
theorem witness_AnchorsSetTheAccumulator :
    (let l := strL { live := true, fullRun := 60000 }
     (l.str 0).live = true ∧ (l.str 0).fullDone = false ∧ (l.str 0).fullRun ≠ 0 ∧ l.ttermBonds 0 ≤ (l.str 0).fullRun) ∧
    (let l := strL { live := true, fullRun := 59999 }; (l.str 0).fullRun < l.ttermBonds 0) ∧
    (let l := strL { live := true, emptyRun := 20 }; l.emptyDue 0 = true ∧ (l.str 0).reset = false ∧ (l.str 0).learns = false) ∧
    (let l : Live := { strL { live := true, emptyRun := 20 } with gauge := { strs := [(0, { live := true, emptyRun := 20 })], ex := .running } }
     l.emptyDue 0 = true ∧ l.gauge.ex = .running ∧ l.gauge.exStr = 0) ∧
    -- a cycle that ends with less than half the nominal capacity, and one that learns at its full measure
    (let l := strL { live := true, emptyRun := 20, cycle := true, a := 0 }
     l.emptyDue 0 = true ∧ (l.str 0).learns = true ∧ l.coresUp = true ∧ (l.str 0).mah < l.qnom 0 / 2) ∧
    (let l := strL { live := true, emptyRun := 20, cycle := true, ifs := 1, qcap := 1000, a := 2 ^ 62 }
     l.emptyDue 0 = true ∧ (l.str 0).learns = true ∧ l.coresUp = true ∧ 6 / 5 * l.qnom 0 < (l.str 0).mah) ∧
    (let l := learnL
     l.emptyDue 0 = true ∧ (l.str 0).learns = true ∧ l.coresUp = true ∧ l.qnom 0 / 2 ≤ (l.str 0).mah ∧ (l.str 0).mah ≤ 6 / 5 * l.qnom 0) ∧
    (let l : Live := { strL { live := true, emptyRun := 20, cycle := true } with sec := { dbg := { coresHalted := true } } }; l.coresUp = false) ∧
    (strL { live := true, emptyRun := 19 }).emptyDue 0 = false := by decide +kernel

def stepHist : List (Rat × Rat × Bool) := List.replicate 8 (12, 5, true)
theorem witness_MeasurementsJournalsAndTimedReads :
    (let l := strL { live := true, stepAt := some 199800000, stepI0 := 0, stepV0 := 13, hist := stepHist, tcell := 45 }
     (l.str 0).stepAt = some 199800000 ∧ l.tileStart (l.strTile 0) = some 200000000 ∧ 199800000 + 200000 ≤ 200000000 ∧
       (l.str 0).stepOk = true ∧ ((l.str 0).hist.take 8).length = 8 ∧
       (∀ x ∈ (l.str 0).hist.take 8, x.2.2 = true ∧ |x.2.1 - 5| ≤ |(5 : Rat) - (l.str 0).stepI0| / 10) ∧ l.dimin 0 ≤ |(5 : Rat) - (l.str 0).stepI0| ∧
       sumR (((l.str 0).hist.take 8).map (·.2.1)) / 8 = 5 ∧ sumR (((l.str 0).hist.take 8).map (·.1)) / 8 = 12 ∧
       0 ≤ (l.str 0).tcell ∧ (l.str 0).tcell ≤ 45 ∧ (1 / 10000 : Rat) ≤ -(12 - 13) / (5 - 0) ∧ -(12 - 13 : Rat) / (5 - 0) ≤ 2) ∧
    (let l := strL { live := true, stepAt := some 199800001 }
     (l.str 0).stepAt = some 199800001 ∧ l.tileStart (l.strTile 0) = some 200000000 ∧ 200000000 < 199800001 + 200000) ∧
    (let l : Live := { strL { live := true } with recd := { clkSec := 34560000 } }
     l.coresUp = true ∧ (l.str 0).live = true ∧ (l.str 0).stale = false ∧ l.sf 0 7 31 16 400 * 86400 ≤ l.learnAge 0 ∧
       (l.emptyDue 0 && (l.str 0).learns) = false) ∧
    (let l : Live := { strL { live := true, a := 5 } with now := 720000000000 * 24 }
     (l.str 0).a ≠ (l.str 0).lastAcc ∧ (l.str 0).writing = none ∧
       ((l.sf 0 9 31 24 24 * 720000000000 : Nat) : Int) ≤ (l.sinceWrite 0).getD ((l.now : Int) - (l.str 0).madeAt)) ∧
    (let q : Str := { writing := some (true, [], false) }; q.writing = some (true, [], false) ∧ q.due = false ∧ q.retry = none) ∧
    (let q : Str := { writing := some (true, [], true) }; q.writing = some (true, [], true) ∧ q.retry = none) ∧ runL.recErase = true ∧
    ({ runL with pwr := { runL.pwr with st := .holdup } } : Live).recErase = false ∧
    (let l : Live := { strL {} with gauge := { ex := .due, exHost := true }, bond := 3600000 }
     l.gauge.ex = .due ∧ l.gauge.exHost = true ∧ l.gauge.exAt + 3600000 ≤ l.bond) ∧
    (let l : Live := { strL {} with gauge := { ex := .due }, recd := { clkSec := 3600 } }
     l.gauge.exHost = false ∧ l.clockHour ≠ l.cf 0x7FFF 0 15 8) ∧
    (let l := strL { live := true }; l.working = true ∧ l.cb (oStr 0) 9 18 = true ∧ (l.str 0).pkAt + 200000000 ≤ l.now) ∧
    (let l := strL { live := true, pkAt := 1 }; l.now < (l.str 0).pkAt + 200000000) ∧
    (let l := runI [(key 0x8FFF 0, 0x80000000)]
     l.pwr.on.getLsbD 4 = true ∧ l.working = true ∧ l.airEn 0 = true ∧ ∀ a, (tget {} l.therm.air 0).askAt = some a → a + 200000000 ≤ l.now) := by
  have h : (tget {} (runI [(key 0x8FFF 0, 0x80000000)]).therm.air 0).askAt = none := by decide +kernel
  repeat' first | exact fun a ha => nomatch h.symm.trans ha | decide +kernel | apply And.intro

def pointL (k : Point) : Live := { tileL with moor := { stns := [(0, { st := .moored })] }, therm := { points := [(0, k)] } }
theorem witness_TemperaturesFollowTheirSensors :
    (runL.pwr.on.getLsbD 4 = true ∧ runL.pwr.st ≠ .off) ∧
    (let ts : List Int := [-960, -720, -960, -720, -960, -720, -960, -720]
     ts.length = 8 ∧ (∀ x ∈ ts, -960 ≤ x ∧ x ≤ 3200) ∧ (∀ x ∈ ts, ∀ y ∈ ts, x ≤ y + 240)) ∧ runL.dieDue = true ∧
    (∀ i, i < 8 → (tget {} runL.therm.die i).broken = false) ∧
    (let ts : List Int := [-961, 0, 0, 0, 0, 0, 0, 3201]; ts.length = 8 ∧ ts[0]? = some (-961) ∧ (-961 : Int) < -960 ∧ (3200 : Int) < 3201) ∧
    (let l := pointL { run := true, lastAt := 198000000 }
     (l.point 0).run = true ∧ l.pointRuns 0 = true ∧ (l.point 0).lastAt + (l.point 0).period ≤ l.now ∧ (l.point 0).broken = false ∧
       (l.point 0).fresh = false ∧ (l.point 0).newNtc = false) ∧
    (let l := pointL { run := true, lastAt := 198000001 }; l.now < (l.point 0).lastAt + (l.point 0).period) ∧
    (let l : Live := { runL with therm := { dieAt := some 199980001 } }; l.therm.dieAt = some 199980001 ∧ l.now < 199980001 + 20000) ∧
    (let a : FaultArg := { code := 0x1006, obj := 0x1000 }
     a.code ≠ 0x3003 ∧ a.code ≠ 0x3004 ∧ a.code ≠ 0xB005 ∧ a.code ≠ 0xD015 ∧ eccCodes.contains a.code.toNat = true ∧ runL.eccHere a = true) ∧
    (runL.therm.scrubAt + scrubPeriod runL.therm.dband ≤ runL.now) ∧
    (let l : Live := { runL with therm := { scrubAt := 1 } }; l.now < l.therm.scrubAt + scrubPeriod l.therm.dband) := by decide +kernel

/-- Session 1 of port 0 is open at class FACTORY. -/
def withSess (l : Live) (cls : Nat := 3) : Live := { l with msgs := { l.msgs with sess := [(1, { opened := true, cls := cls, lastAt := l.now })] } }
def h1 : MsgHdr := { sess := 1 }
def servedB (l : Live) (mop cls : Nat) (body : List Byte) : Bool :=
  l.portTakes 0 (msgFrame (MsgHdr.msess h1) (BitVec.ofNat 8 mop) body) && l.serving 0 = .firmware && l.turn 0 && l.pwr.st ≠ .holdup &&
    (l.sess 1).opened && !(l.sess 1).pendg && (l.sess 1).port = 0 && decide (cls ≤ (l.sess 1).cls) &&
    !(l.sess 1).repeats { h := h1, mop := mop, body := body } && bodyOk mop body
/-- A request under that session is one that the controller serves. -/
theorem served_of {l : Live} {mop cls : Nat} {body : List Byte} (h : servedB l mop cls body = true) : Served l h1 mop cls body := by
  simp only [servedB, Bool.and_eq_true, decide_eq_true_eq, Bool.not_eq_true', ne_eq] at h
  obtain ⟨⟨⟨⟨⟨⟨⟨⟨⟨a, b⟩, k⟩, c⟩, d⟩, e⟩, f⟩, g⟩, i⟩, j⟩ := h
  exact ⟨a, b, k, c, by decide, d, e, f, g, i, j⟩

def occ (code obj : Half) (cls : Cls) : Occ := { d := { code := code, obj := obj }, cls := cls }
def raisedL (d : Detail) (t : List Occ := []) : Live := { tileL with fc := { details := [d], table := t }, moor := { stns := [(0, { st := .moored })] } }
theorem raisedL_ordered (d : Detail) (t : List Occ) : (raisedL d t).ordered = [d] := by simp [Live.ordered, raisedL]
/-- Of two details of one tick, that of the lower subsystem is taken first (R32). -/
theorem ordered_bySubsystem :
    ({ tileL with fc := { details := [{ code := 0x7001, obj := 0x7000 }, { code := 0x6001, obj := 0x6000 }] } } : Live).ordered.map (·.code) = [0x6001, 0x7001] := by
  simp [Live.ordered, List.mergeSort, List.merge, Detail.before]
  decide +kernel
theorem witness_OccurrencesAreTakenAndRouted :
    (let d : Detail := { code := 0x0005 }
     (raisedL d).pwr.on.getLsbD 1 = true ∧ (raisedL d).ordered = [d] ∧ (raisedL d).routeOf 0x0005 = none) ∧
    (let d : Detail := { code := 0x2001, obj := 0x2000 }
     (raisedL d).routeOf 0x2001 = some .log ∧ (raisedL d).fc.table.any (fun o => o.same d) = false ∧ (raisedL d).tableUsed < 63) ∧
    (let d : Detail := { code := 0x2001, obj := 0x2000 }
     (raisedL d [occ 0x2001 0x2000 .log]).fc.table.any (fun o => o.same d) = true) ∧
    (let d : Detail := { code := 0x2004, obj := 0x2000 }
     (raisedL d).routeOf 0x2004 = some .alert ∧ (raisedL d).windowOf d = none ∧ (raisedL d).fc.safe = false) ∧
    (let d : Detail := { code := 0x2007, obj := 0x2000 }
     (raisedL d).routeOf 0x2007 = some .isolate ∧ (raisedL d).windowOf d = none ∧ d.obj.toNat = 0x2000 + 0 ∧ ((raisedL d).stn 0).st = .moored) ∧
    (let d : Detail := { code := 0x0001 }
     (raisedL d).routeOf 0x0001 = some .safe ∧ (raisedL d).windowOf d = none) ∧
    (let d : Detail := { code := 0x3004, obj := 0x3000 }
     (raisedL d).routeOf 0x3004 = some .reset ∧ blockOf d = some 8 ∧ (raisedL d).windowOf d = none ∧
       (((raisedL d).block 8).resets.filter (fun x => (raisedL d).bond < x + 1000)).length < (raisedL d).rstmax) ∧
    (runL.pwr.on.getLsbD (srcDomain 0xE002) = true ∧ runL.routeOf 0xE002 = some .alert ∧ runL.tableUsed < 63 ∧
      runL.fc.table.any (fun o => o.stands && o.d.code = 0xE002 && o.d.obj = 0xB000) = false) ∧
    (let a : FaultArg := { code := 0x2004, obj := 0x2000 }
     eccCodes.contains a.code.toNat = false ∧ runL.routeOf a.code.toNat = some .alert ∧ runL.tableUsed < 63 ∧
       runL.fc.table.any (fun o => o.stands && o.d.code = a.code && o.d.obj = a.obj) = false) ∧
    (let a : FaultArg := { code := 0x3003, obj := 0x3000 }; eccCodes.contains a.code.toNat = true ∧ runL.eccHere a = false) := by
  refine ⟨⟨by decide +kernel, raisedL_ordered _ _, by decide +kernel⟩, ?_⟩
  decide +kernel

theorem witness_WindowsLogsAndClears :
    (let l : Live := { runL with fc := { blocks := [(8, { closeAt := some 200000000 })] } }
     l.winOpen 8 = true ∧ (l.block 8).back = false ∧ l.blockBack 8 = true ∧ (l.block 8).closeAt = some 200000000 ∧ 200000000 ≤ l.now ∧
       l.fc.table.filter (fun o => o.conseq && o.stands && o.window = 8) = [] ∧ l.tableUsed < 63 ∧ l.stands 0x9005 0x9FFF = false ∧
       l.fc.safe = false) ∧
    (let o : Occ := { occ 0x3001 0x3000 .log with conseq := true, window := 8, cond := true, newNow := true }
     let l : Live := { runL with fc := { blocks := [(8, { closeAt := some 200000000, back := true })], table := [o] } }
     l.fc.table.filter (fun o => o.conseq && o.stands && o.window = 8) = [o] ∧ l.condOf o = true ∧ (l.block 8).back = true ∧
       l.fc.table.filter (fun x => x.same o.d) = [o] ∧ (l.routeOf o.d.code.toNat).isSome = true ∧ l.tableUsed < 63) ∧
    (let o := occ 0x3001 0x3000 .log
     let l : Live := { runL with fc := { table := [o] } }
     l.fwUp = true ∧ l.sec.dbg.coresHalted = false ∧ l.fc.table.filter (fun o => o.seq.isNone) = [o] ∧ o.d.code ≠ 0x9006 ∧ l.pwr.on.getLsbD 6 = true) ∧
    (let l := withSess { runL with fc := { table := [{ occ 0x2004 0x2000 .alert with newNow := false }] } }
     servedB l 0x31 1 (leBytes 0x2004 2 ++ leBytes 0x2000 2) = true ∧ l.mayClearObj (l.sess 1).cls 0x2000 = true ∧
       l.asleep 0x2000 = false ∧ l.domUp (objDom 0x2000) = true ∧
       l.fc.table.find? (fun o => o.stands && o.d.code = 0x2004 && o.d.obj = 0x2001) = none ∧
       ∃ o, l.fc.table.find? (fun o => o.stands && o.d.code = 0x2004 && o.d.obj = 0x2000) = some o ∧ l.mayClear o = true) ∧
    (let l := withSess { runL with fc := { table := [occ 0x2004 0x2000 .alert] } }
     ∃ o, l.fc.table.find? (fun o => o.stands && o.d.code = 0x2004 && o.d.obj = 0x2000) = some o ∧ l.mayClear o = false) ∧
    (let l : Live := { withSess runL with pwr := { st := .lean, service := true, on := 0x03 } }
     servedB l 0x31 1 (leBytes 0x1003 2 ++ leBytes 0x1000 2) = true ∧ l.mayClearObj (l.sess 1).cls 0x1000 = true ∧ l.asleep 0x1000 = true) ∧
    (let l : Live := { runL with fc := { safe := true, table := [occ 0x0001 0 .safe] } }; l.safeHeld = true) ∧
    (let l : Live := { runL with fc := { safe := true } }; l.safeHeld = false ∧ l.pwr.on.getLsbD 1 = true) :=
  by
  repeat' first | exact ⟨_, rfl, by decide +kernel⟩ | decide +kernel | apply And.intro

/-- A controller whose keeper core is in one state. -/
def kL (k : Keeper) : Live := { runL with keeper := k }
def status16 : MateHdr := { data := List.replicate 24 1 }
theorem witness_KeeperFollowsItsTable :
    (let l := kL { st := .keeper, live := true }; l.kUp = true ∧ l.keeper.live = true ∧ l.tick % 20000 = 0 ∧ l.keeper.hboutAt ≠ l.now) ∧
    (kL { st := .claiming, roleB := true }).kUp = true ∧ (kL { st := .warming, handIn := true }).keeper.handIn = true ∧
    (let l := kL { st := .watch, mateAt := some 199999999, mateLease := true, hbinAt := some 199800000 }
     l.waitFrom + 200000 ≤ l.now ∧ l.mateHeard = true ∧ l.keeper.mateLease = true ∧ l.keeper.brokenRaised = false) ∧
    (let l := kL { st := .watch }; l.waitFrom + 200000 ≤ l.now ∧ l.mateHeard = false ∧ l.retired = false ∧ l.hearsA = false) ∧
    (let l := kL { st := .watch, roleB := true, mateAt := some 199999999, mateState := 1 }
     l.waitFrom + 200000 ≤ l.now ∧ l.keeper.mateLease = false ∧ l.hearsA = true ∧ l.retired = false) ∧
    (let l := kL { st := .warming, roleB := true, handIn := true }; l.kUp = true ∧ l.keeper.handIn = true) ∧
    (let l : Live := { kL { st := .watch } with sec := { lc := 4 } }; l.retired = true) ∧
    (let l : Live := { kL { st := .watch } with pwr := { runL.pwr with st := .cold } }; l.pwr.st = .cold ∧ l.kUp = true) ∧
    (let l := kL { st := .keeper, tieWait := true }; l.keeper.st = .keeper ∧ l.keeper.tieWait = true ∧ l.waitFrom + 200000 ≤ l.now) ∧
    (let l := kL { hbinAt := some 199800001 }; l.now < l.waitFrom + 200000) ∧
    (status16.crcOk = true ∧ 16 ≤ status16.data.length ∧ status16.flags.getLsbD 0 = false ∧ 1 ≤ (status16.data.getD 0 0).toNat ∧
      (status16.data.getD 0 0).toNat ≤ 4) ∧
    (let l : Live := { kL {} with sec := { bankA := List.replicate 160 2, running := some false } }
     l.mateRange = some (0x0202, 0x0202) ∧ leNat (sliceB status16.data 2 2) < 0x0202 ∧ l.keeper.incompat = false) ∧
    (let l := kL { mateen := true, mateAt := some 198000000 }
     l.keeper.mateen = true ∧ l.keeper.downRaised = false ∧ max l.keeper.resetAt (l.keeper.mateAt.getD 0) + 10 * 200000 ≤ l.now) ∧
    (let k : Keeper := { hand := .asked 0 }; k.hand = .asked 0 ∧ 0 + 400000000 ≤ ({ runL with now := 400000000 } : Live).now ∧
      runL.now < 0 + 400000000) := by decide +kernel

def claimL (k : Keeper) (q : Stn) : Live := { kL k with moor := { stns := [(0, q)] } }
theorem witness_ClaimsGoByEpoch :
    (let l := kL { st := .warming }; l.keeper.st = .warming ∧ l.working = true ∧ l.img.atStart = none) ∧
    (let l := kL { st := .waiting, tl := 800, hbinAt := some 157600000 }
     l.kUp = true ∧ max l.keeper.resetAt (l.keeper.hbinAt.getD 0) + (l.keeper.tl * 50000 * 105 / 100 + 400000) ≤ l.now) ∧
    (let l := kL { st := .waiting, tl := 800, hbinAt := some 157600001 }
     l.now < max l.keeper.resetAt (l.keeper.hbinAt.getD 0) + (l.keeper.tl * 50000 * 105 / 100 + 400000)) ∧
    (let l := kL { st := .waiting, passSeen := true, waited := true }
     l.keeper.handIn = false ∧ l.working = true ∧ l.claimReady = true ∧ l.hearsA = false ∧ l.flashProgram = true) ∧
    (let l := kL { st := .waiting, waited := true }; l.claimReady = false) ∧
    (let l := claimL { st := .claiming, live := true, claimAt := 200000000 } { st := .moored, leaseSeen := true, lease := { state := 1 } }
     l.keeper.st = .claiming ∧ l.keeper.live = true ∧ l.boundStns ≠ [] ∧ l.boundStns.all (fun p => l.leaseOk p.2) = true ∧
       l.boundStns.any (fun p => l.leaseOk p.2) = true) ∧
    (let l := claimL { st := .claiming, live := true, tl := 800, claimAt := 157600000 } { st := .moored }
     l.keeper.claimAt + (l.keeper.tl * 50000 * 105 / 100 + 400000) ≤ l.now ∧ l.boundStns.any (fun p => l.leaseOk p.2) = false) ∧
    (let l := claimL { st := .claiming, live := true, tl := 800, claimAt := 157600001 } { st := .moored }
     l.now < l.keeper.claimAt + (l.keeper.tl * 50000 * 105 / 100 + 400000) ∧ l.boundStns.all (fun p => l.leaseOk p.2) = false) ∧
    (let l : Live := { claimL { st := .keeper, live := true } { st := .moored } with rings := [(0, { dmissRun := 8 })] }
     l.keeper.st = .keeper ∧ 8 ≤ (l.ring 0).dmissRun ∧ l.boundStns ≠ []) := by decide +kernel

/-- The first block of a checkpoint of two blocks, sequence number 7. -/
def head7 : List Byte := [0, 0, 2, 0, 7, 0, 0, 0]
theorem witness_BlocksGoOverTheMateLink :
    (let f : MateHdr := { seq := 7, data := head7 }
     runL.kUp = true ∧ f.crcOk = true ∧ runL.keeper.incompat = false ∧ f.idx = 0 ∧ (ckptHead f.data).seq = f.seq ∧ 2 ≤ (ckptHead f.data).blk ∧
       (ckptHead f.data).blk ≤ 30) ∧
    (let f : MateHdr := { seq := 7, idx := 1 }
     let k : Keeper := { bufA := { state := 1, blk := 2, seq := 7, blocks := [(0, head7)] } }
     k.fillsA = true ∧ f.idx ≠ 0 ∧ f.idx.toNat < k.bufA.blk ∧ k.bufA.blk ≤ 30 ∧ k.bufA.state = 1 ∧ k.bufA.seq = f.seq) ∧
    (let x : CkptTx := { seq := 7, blocks := [[1], [2]], acked := [0], sends := [(0, 1), (1, 7)], sentAt := [(0, 0), (1, 199980000)] }
     let f : MateHdr := { seq := 7, idx := 1, data := [0] }
     f.seq = x.seq ∧ (tfind x.sends f.idx.toNat).isSome = true ∧ f.idx.toNat ∉ x.acked ∧ f.data.getD 0 0 = 0 ∧
       x.acked.length + 1 = x.blocks.length ∧ (tfind x.sends 1).getD 0 < 8 ∧ tfind x.sentAt 1 = some 199980000 ∧
       199980000 + 20000 ≤ runL.now ∧ 0 ∈ x.acked) ∧
    (let x : CkptTx := { seq := 7, blocks := [[1], [2]], sends := [(0, 1), (1, 8)], sentAt := [(0, 0), (1, 199980001)] }
     x.acked.length + 1 ≠ x.blocks.length ∧ 8 ≤ (tfind x.sends 1).getD 0 ∧ tfind x.sentAt 1 = some 199980001 ∧
       runL.now < 199980001 + 20000) ∧
    (let f : MateHdr := { seq := 3, idx := 1, data := [1] }
     let k : Keeper := { mateen := true, imgCount := 3 }
     k.live = false ∧ k.incompat = false ∧ f.data.length ≤ 1024 ∧ runL.flashErase = true ∧ f.idx ≠ 0 ∧ f.idx.toNat < f.seq.toNat ∧
       k.imgCount = f.seq.toNat ∧ 0 < f.seq.toNat ∧ 0 ≠ f.idx.toNat ∧ tfind k.imgRx 0 = none) ∧
    (let f : MateHdr := { seq := 1, idx := 0, data := [1] }; f.idx = 0 ∧ f.seq = 1 ∧ f.data.length ≤ 1024) := by decide +kernel

theorem unlocked (k m : List Byte) : (hmacSha256 k m).length = 32 := hmacSha256_length k m
/-- A port with room for a request of an opcode. -/
def freeB (l : Live) (h : MsgHdr) (mop : Nat) (body : List Byte) : Bool :=
  l.portTakes h.port (msgFrame (MsgHdr.msess h) (BitVec.ofNat 8 mop) body) && l.serving h.port = .firmware && l.turn h.port
def pendL : Live := { runL with msgs := { sess := [(1, { pendg := true, cls := 3, lastAt := 200000000, nonce := List.replicate 16 7 })] } }
theorem pendL_free (hmac : List Byte) : pendL.portTakes 0 (msgFrame (MsgHdr.msess h1) 0x02 hmac) = true ∧ pendL.serving 0 = .firmware ∧ pendL.turn 0 = true :=
  ⟨rfl, rfl, rfl⟩
theorem witness_SessionsOpenAndClose :
    (freeB runL {} 0x01 [3] = true ∧ runL.pwr.st ≠ .holdup ∧ runL.classOpens 3 = true ∧ runL.classOpens 2 = false ∧
      (runL.mport 0).lockEnd = none ∧ runL.freeSess = some 1 ∧ freeB runL {} 0x01 [0] = true ∧ runL.classOpens 0 = true) ∧
    (let l : Live := { runL with msgs := { sess := (List.range 8).map (fun n => (n + 1, { opened := true })) } }; l.freeSess = none) ∧
    -- an AUTH that is right, one that is wrong
    (let hmac := hmacSha256 pendL.transportKey (pendL.authText 1)
     hmac.length = 32 ∧ (pendL.sess 1).pendg = true ∧ (pendL.sess 1).port = 0 ∧
       (pendL.sess 1).repeats { h := h1, mop := 0x02, body := hmac } = false ∧ pendL.classKey (pendL.sess 1).cls = some pendL.transportKey) ∧
    (let l : Live := { pendL with sec := { lc := 4 } }; l.classKey 1 = none) ∧
    servedB (withSess runL) 0x03 0 [] = true ∧
    (let l : Live := { withSess runL with img := { txn := { st := .opened, owner := 1 } } }; l.img.txn.st = .opened ∧ l.img.txn.owner = 1) ∧
    (let l : Live := { pendL with now := 2000000000 }; (l.sess 1).pendg = true ∧ (l.sess 1).openAt + 2000000000 ≤ l.now) ∧
    (let l : Live := { pendL with now := 1999999999 }; l.now < (l.sess 1).openAt + 2000000000) ∧
    (let l : Live := { withSess runL with now := 200000000 + runL.sidle }; (l.sess 1).opened = true ∧ (l.sess 1).lastAt + l.sidle ≤ l.now) ∧
    (let l : Live := { runL with msgs := { ports := [(0, { lockEnd := some 200000000 }), (1, { lockEnd := some 200000001 })] } }
     (l.mport 0).lockEnd = some 200000000 ∧ 200000000 ≤ l.now ∧ (l.mport 1).lockEnd = some 200000001 ∧ l.now < 200000001) ∧
    (let f : List Byte := [0x5A, 0, 0, 0x03, 0, 0]
     runL.portTakes 0 f = true ∧ runL.serving 0 = .firmware ∧ (!frameLenOk f || !frameCrcOk f) = true) ∧
    (let f := msgFrame 0x10 0x0F []
     (!frameLenOk f || !frameCrcOk f) = false ∧ (!bodyOk (f.getD 3 0).toNat (sliceB f 4 (f.length - 6))) = true) ∧
    (let f := msgFrame 0x10 0x03 []
     (!frameLenOk f || !frameCrcOk f) = false ∧ (!bodyOk (f.getD 3 0).toNat (sliceB f 4 (f.length - 6))) = false) :=
  by
  repeat' first | exact unlocked _ _ | rfl | decide +kernel | apply And.intro

/-- A session, and the newest generation published. -/
def pubL (l : Live) : Live := { withSess l with msgs := { (withSess l).msgs with published := true, gen := 9 } }
def pubS (l : Live) : State := { live := pubL l, gens := [(9, pubL l)], pending := [] }
def leased (l : Live) : Live := { l with keeper := { st := .keeper, live := true } }
def inTxn (l : Live) (t : TxnSt) (owner : Nat := 1) : Live := leased { l with img := { l.img with txn := { st := t, owner := owner } } }
theorem witness_ReadsWritesAndPins :
    (let s := pubS runL
     servedB s.live 0x10 0 (leBytes 0xD000 2 ++ [0, 1, 0]) = true ∧ s.readCheck (leBytes 0xD000 2 ++ [0, 1, 0]) 3 = 0 ∧
       s.live.msgs.published = true ∧ (tfind s.gens s.live.msgs.gen).isSome = true ∧
       s.readCheck (leBytes 0x1FFF 2 ++ [0, 1, 0]) 3 ≠ 0) ∧
    (let s : State := { pubS runL with live := { pubL runL with msgs := { (pubL runL).msgs with sess := [(1, { opened := true, cls := 3, pins := [(9, 0)] })] } } }
     let b (k : BitVec 48) : List Byte := leBytes 0xD000 2 ++ [0, 1, 2] ++ leBytes k.toNat 6
     servedB s.live 0x10 0 (b 9) = true ∧ s.readCheck (b 9) 3 = 0 ∧ (s.pinnedGen 9).isSome = true ∧ s.readCheck (b 8) 3 = 0 ∧ s.pinnedGen 8 = none ∧
       servedB s.live 0x13 0 (leBytes 9 6) = true ∧ (s.live.sess 1).pins.any (fun p => p.1 = 9) = true ∧
       (s.live.sess 1).pins.any (fun p => p.1 = 8) = false) ∧
    (let s := pubS (inTxn runL .opened)
     servedB s.live 0x10 0 (leBytes 0xD000 2 ++ [0, 1, 1]) = true ∧ s.readCheck (leBytes 0xD000 2 ++ [0, 1, 1]) 3 = 0 ∧
       s.live.img.txn.st = .opened ∧ s.live.img.txn.owner = 1) ∧
    -- a WRITE of a word of each effect
    (let s := pubS (leased runL)
     let b (o : Nat) (w : Byte) (v : Word) : List Byte := leBytes o 2 ++ [w, 1] ++ leBytes v.toNat 4
     servedB s.live 0x11 1 (b 0xD000 0 0x3C0A03E8) = true ∧ safexitBit (b 0xD000 0 0x3C0A03E8) = false ∧
       s.writeCheck (b 0xD000 0 0x3C0A03E8) 3 = 0 ∧ (writeWords (b 0xD000 0 0x3C0A03E8)).all (fun p => p.2 &&& rsvMask 0xD000 p.1 = 0) = true ∧
       writeEffs 0xD000 (writeWords (b 0xD000 0 0x3C0A03E8)) = [3] ∧ s.live.writeOk 0xD000 (writeWords (b 0xD000 0 0x3C0A03E8)) = true ∧
       s.writeCheck (b 0xA000 1 0x40000000) 3 = 0 ∧ writeEffs 0xA000 (writeWords (b 0xA000 1 0x40000000)) = [1] ∧
       s.live.writeOk 0xA000 (writeWords (b 0xA000 1 0x40000000)) = true ∧
       s.writeCheck (b 0xA000 0 0) 3 = 0 ∧ writeEffs 0xA000 (writeWords (b 0xA000 0 0)) = [0] ∧
       s.writeCheck (b 0xE010 0 0) 3 = 0 ∧ writeEffs 0xE010 (writeWords (b 0xE010 0 0)) = [] ∧
       s.writeCheck (b 0x1FFF 0 0) 3 ≠ 0) ∧
    (let b : List Byte := leBytes 0xA000 2 ++ [0, 2] ++ leBytes 0 4 ++ leBytes 0x40000000 4
     2 ≤ (writeEffs 0xA000 (writeWords b)).length) ∧
    (let s := pubS (inTxn runL .opened); s.live.img.txn.st = .opened ∧ s.live.img.txn.owner = 1 ∧ s.live.img.txn.raw = none) ∧
    (let s := pubS runL; servedB s.live 0x12 0 [] = true ∧ s.live.pinned.length < 2) ∧
    (let l : Live := { pubL runL with msgs := { (pubL runL).msgs with sess := [(1, { opened := true, cls := 3, pins := [(7, 0), (8, 0)] })] } }
     l.pinned.contains l.msgs.gen = false ∧ 2 ≤ l.pinned.length) := by decide +kernel

theorem witness_EventsCountersAndRecordsAreRead :
    (servedB (withSess runL) 0x30 0 [14] = true ∧ ((withSess runL).msgs.events.filter (fun e => ((withSess runL).sess 1).ptr < e.seq)) = []) ∧
    (let l : Live := { withSess runL with msgs := { (withSess runL).msgs with events := [{ seq := 2 }, { seq := 1 }] } }
     (l.msgs.events.filter (fun e => (l.sess 1).ptr < e.seq)).reverse = { seq := 1 } :: [{ seq := 2 }] ∧
       (([{ seq := 1 }, { seq := 2 }] : List HostEvent).take 14).getLast? = some { seq := 2 }) ∧
    (let l : Live := { tileL with msgs := { disRun := [(65536 * 1 + 0x3000, 999)] } }
     l.disCase 1 0x3000 = some (0, 1, 0) ∧ l.fwUp = true ∧ l.graceBonds ≤ tget 0 l.msgs.disRun (65536 * 1 + 0x3000) + 1 ∧
       l.disListed 1 0x3000 = false ∧ (List.range 32).find? (fun e => (tfind l.msgs.dis e).isNone) = some 0) ∧
    (let l : Live := { tileL with msgs := { disRun := [(65536 * 1 + 0x3000, 998)] } }
     tget 0 l.msgs.disRun (65536 * 1 + 0x3000) + 1 < l.graceBonds) ∧
    (let l : Live := { runL with msgs := { dis := (List.range 32).map (fun e => (e, {})) } }
     (List.range 32).find? (fun e => (tfind l.msgs.dis e).isNone) = none) ∧
    runL.disCase 1 0x3000 = none ∧
    (servedB (withSess runL) 0x40 0 [0, 19, 1] = true ∧ (withSess runL).counterCheck 0 19 1 3 = 0 ∧ (withSess runL).counterCheck 127 2 0 3 ≠ 0) ∧
    (servedB (withSess runL) 0x41 1 (leBytes 498 2 ++ [14]) = true ∧ 498 + 14 ≤ 512 ∧ (withSess runL).domUp 6 = true ∧ 512 < 499 + 14) ∧
    (servedB (withSess runL) 0x50 1 ([0, 0] ++ leBytes 0 4 ++ [1]) = true ∧ (withSess runL).recordFrom 0xFF 0 0 = none) ∧
    (let l : Live := { withSess runL with recd := { ring := [{ seq := 5 }] } }; (l.recordFrom 0 0 5).isSome = true) := by decide +kernel

theorem witness_TransactionsFollowTheTable :
    (servedB (withSess runL) 0x20 1 [] = true ∧ (withSess runL).keeper.live = false) ∧
    (let l := leased (withSess runL); servedB l 0x20 1 [] = true ∧ l.keeper.live = true ∧ l.img.txn.st = .idle) ∧
    (let l := inTxn (withSess runL) .opened
     servedB l 0x20 1 [] = true ∧ servedB l 0x21 1 [] = true ∧ servedB l 0x22 1 [] = true ∧ servedB l 0x23 0 [] = true ∧
       servedB l 0x60 2 (leBytes 258044 4 ++ [1, 2, 3, 4]) = true ∧ 258044 + 4 ≤ 258048 ∧ 258048 < 258045 + 4 ∧
       l.img.txn.st = .opened ∧ l.img.txn.owner = 1 ∧ l.shadowDenied (l.sess 1).cls = false) ∧
    (let l := inTxn (withSess runL 1) .opened
     let m : Live := { l with img := { l.img with txn := { l.img.txn with shadow := image [(key 0xA000 0, 1)] } } }
     (m.sess 1).cls = 1 ∧ m.shadowDenied 1 = true) ∧
    (let l := inTxn (withSess runL) .committing
     l.img.txn.st = .committing ∧ l.needsMate = false ∧ l.fwWork = true ∧ l.flashErase = true ∧ l.flashProgram = true ∧ l.kUp = true ∧ l.img.txn.mateOk = false ∧
       l.keeper.imgTx.length ≤ l.keeper.imgAcked + 1) ∧
    (let f : MateHdr := { data := [0] }; f.crcOk = true ∧ f.idx.toNat = 0 ∧ f.data.getD 0 2 = 0 ∧ sliceB f.data 4 32 = []) ∧
    (let l := inTxn (withSess runL) .committing
     let m : Live := { l with keeper := { l.keeper with imgTx := [[1], [2]] } }; m.keeper.imgAcked + 1 < m.keeper.imgTx.length) ∧
    (let f : MateHdr := { data := [2] }; f.data.getD 0 2 = 2) ∧ (let f : MateHdr := { data := [1] }; f.data.getD 0 2 = 1) ∧
    (let l := inTxn { withSess (runI [(key 0xA000 0, 0x00200000)]) with now := 400000000 } .committing
     let m : Live := { l with keeper := { l.keeper with mateAt := some 400000000 } }
     m.img.txn.st = .committing ∧ m.needsMate = true ∧ m.img.txn.syncAt + 400000000 ≤ m.now) ∧
    (let l := inTxn { withSess runL with now := 2000000000 } .opened; l.img.txn.st = .opened ∧ l.img.txn.lastAt + 2000000000 ≤ l.now) ∧
    (let l := inTxn { withSess runL with now := 1999999999 } .opened; l.now < l.img.txn.lastAt + 2000000000) := by decide +kernel

def stgL (g : Staging) : Live := { withSess runL with sec := { stg := g } }
def data4 : List Byte := [1, 2, 3, 4]
def block (off : Nat) (crc : Nat) : List Byte := leBytes off 4 ++ leBytes crc 4 ++ data4
/-- A header whose version is 9 and whose kind is 1. -/
def pkg9 : List Byte := [0, 0, 0, 0, 0, 0, 1, 0, 9] ++ List.replicate 151 0
def romL : Live :=
  { runL with
    pwr := { st := .boot, stage := 2, recovery := true, on := 0xFF }
    msgs := { sess := [(1, { opened := true, cls := 3 })] } }
theorem witness_UpdatesAreStagedAndArmed :
    (let l := stgL {}
     servedB l 0x70 2 (block 0 (crc32 data4)) = true ∧ l.sec.stg.state = 0 ∧ crc32 data4 = (BitVec.ofNat 32 (crc32 data4) : Word).toNat ∧
       l.ustate = 0 ∧ l.flashErase = true ∧ crc32 data4 ≠ 0 ∧ servedB l 0x70 2 (block 4 (crc32 data4)) = true) ∧
    (let l := stgL { state := 1, owner := 1, bytes := data4 }
     l.sec.stg.state = 1 ∧ l.sec.stg.owner = 1 ∧ (4 : Word).toNat = l.sec.stg.bytes.length ∧ 4 + data4.length ≤ 131072 ∧
       (8 : Word).toNat ≠ l.sec.stg.bytes.length ∧ servedB l 0x71 2 [] = true) ∧
    (let l := stgL { state := 2, owner := 2 }; l.sec.stg.state = 2 ∧ l.sec.stg.owner ≠ 1 ∧ servedB l 0x72 2 [0] = true) ∧
    (let l := stgL { state := 2, owner := 1, bytes := pkg9 }
     l.fc.safe = false ∧ pkgKind l.sec.stg.bytes ≠ 2 ∧ l.armCheck false = (0, 0) ∧ servedB l 0x72 2 [1] = true) ∧
    (let l := stgL { state := 2, owner := 1, bytes := [0, 0, 0, 0, 0, 0, 2] }; pkgKind l.sec.stg.bytes = 2) ∧
    (let l := stgL { state := 2, owner := 1 }; l.armCheck false = (0x0C, 8)) ∧
    (let l : Live := { stgL {} with fc := { safe := true } }; servedB l 0x72 2 [0] = true ∧ l.fc.safe = true) ∧
    (let l : Live := { withSess runL with sec := { boot := some { state := 5 }, running := some false } }
     servedB l 0x73 2 [] = true ∧ l.ustate = 5 ∧ l.sec.running = some l.bootRec.bact) ∧
    (servedB (stgL {}) 0x73 2 [] = true ∧ (stgL {}).ustate ≠ 5 ∧ servedB (stgL {}) 0x74 2 [] = true ∧ servedB (stgL {}) 0x7F 2 [0] = true) ∧
    (let l := romL
     let b : List Byte := [1, 0, 0, 0] ++ leBytes 0 4 ++ leBytes (crc32 data4) 4 ++ data4
     let ok (b : List Byte) : Bool := l.portTakes 0 (msgFrame (MsgHdr.msess h1) 0x7F b) && !(l.sess 1).repeats { h := h1, mop := 0x7F, body := b } && bodyOk 0x7F b
     l.serving 0 = .rom ∧ l.turn 0 = true ∧ l.pwr.st ≠ .holdup ∧ (l.sess 1).opened = true ∧ (l.sess 1).pendg = false ∧ (l.sess 1).port = 0 ∧ 2 ≤ (l.sess 1).cls ∧
       ok b = true ∧ ok [2] = true ∧ ok [3] = true ∧ l.sec.recBytes = [] ∧ l.flashErase = true) ∧
    (let l : Live := { romL with sec := { recBytes := data4 } }; (4 : Word).toNat = l.sec.recBytes.length) := by decide +kernel

def fuseL (s : Sec) (cls : Nat := 3) : Live := { withSess { runL with pwr := { runL.pwr with vinNow := 3000 } } cls with sec := s }
/-- OTP words that hold no data but their burnt cells, where the check bits do not matter. -/
def burnt : OtpWord := { norm := zeroisedWord, lo := zeroisedWord, hi := zeroisedWord }
theorem witness_OtpCommandsFollowTheirTables :
    (servedB (fuseL {}) 0x80 2 (fuseBody 1 0 5) = true ∧ (fuseL {}).fuseClass 3 0 5 = true ∧ (fuseL {} 2).fuseClass 2 0 5 = false ∧
      (fuseL {}).locked (regionOf 0) = false ∧ (fuseL {}).fusePattern 0 5 = true ∧ (fuseL {}).otpBlank 0 = true ∧ (fuseL {}).fuseBar = 0 ∧
      ((0 : Fin 512).val < 128 ∨ 131 < (0 : Fin 512).val)) ∧
    ((fuseL {}).fuseClass 3 128 5 = true ∧ (fuseL {}).fusePattern 128 5 = false) ∧
    ((fuseL { otp := [(0, burnt)] }).otpBlank 0 = false ∧ (fuseL { otp := [(0, burnt)] }).locked 0 = false) ∧
    (let l : Live := { fuseL {} with pwr := { runL.pwr with vinNow := 2999 } }; l.fuseBar ≠ 0) ∧
    (servedB (fuseL {}) 0x80 2 (fuseBody 2 0 5) = true ∧ (fuseL {}).reburnClass 3 0 5 = true ∧ ((fuseL {}).otpw 0).norm = 0 ∧
      (fuseL {}).sec.intent = none ∧ (fuseL {} 2).reburnClass 2 0 5 = false) ∧
    (servedB (fuseL {}) 0x80 2 (fuseBody 3 511 0) = true ∧ servedB (fuseL {}) 0x80 2 (fuseBody 4 511 0) = true ∧
      servedB (fuseL {}) 0x80 2 (fuseBody 5 511 0) = true ∧ servedB (fuseL {}) 0x80 2 (fuseBody 6 0 0) = true ∧
      servedB (fuseL {}) 0x80 2 (fuseBody 6 7 0) = true) ∧
    (lockWord 2 = none ∧ lockWord 0 = some 132 ∧ (fuseL {}).mayLock 2 0 = false ∧ (fuseL {}).mayLock 3 0 = true ∧ (fuseL {}).locked 0 = false) := by
  decide +kernel
/-- Region 0 is locked; an intent record names a blank word; region 0 is ready to be locked. -/
theorem witness_OtpCommandsFollowTheirTables_locks :
    (fuseL { otp := [(132, { norm := otpEnc (lockPattern 0) })] }).locked 0 = true ∧
    (fuseL { intent := some (0, otpEnc 5) }).sec.intent = some (0, otpEnc 5) ∧
    (let l := fuseL { otp := [(0, { norm := otpEnc 5, lo := otpEnc 5, hi := otpEnc 5 })] }
     (l.otpw 0).norm &&& ~~~ otpEnc 5 = 0 ∧ (l.otpw 0).norm ≠ 0) := by
  refine ⟨?_, rfl, ?_, ?_⟩
  · have e : (fuseL { otp := [(132, { norm := otpEnc (lockPattern 0) })] }).otpData 132 = lockPattern 0 := by
      unfold Live.otpData
      show (match otpDec (otpEnc (lockPattern 0)) with | some (d, _) => d | none => 0) = _
      rw [otpDec_enc]
    unfold Live.locked
    simp only [lockWord, e, decide_true]
  · show otpEnc 5 &&& ~~~ otpEnc 5 = 0
    simp
  · show otpEnc 5 ≠ 0
    intro h
    have e := otpDec_enc 5
    rw [h] at e
    exact absurd e (by decide +kernel)

def dbgL (d : Debug) (k : Keeper := {}) : Live := { runL with sec := { dbg := d }, keeper := k }
theorem witness_TestPortAndDebugAccess :
    (runL.pwr.st ≠ .off ∧ runL.pwr.resetLow = false ∧ runL.keeper.live = false ∧ runL.sec.lc ≠ 2 ∧ runL.sec.dbg.lockEnd = none ∧
      runL.pwr.st ≠ .holdup ∧ runL.reach = .none) ∧
    (dbgL { lockEnd := some 200000000 }).sec.dbg.lockEnd = some 200000000 ∧ 200000000 ≤ runL.now ∧ runL.now < 200000001 ∧
    (dbgL { mode := 2 }).reach = .f ∧ (dbgL { mode := 2 } { live := true }).keeper.live = true ∧ (dbgL { mode := 1 }).reach = .s ∧
    ({ dbgL { mode := 2 } with pwr := { st := .cold } } : Live).reach = .aPlus ∧
    ((runL.now :: [1, 199999999]).filter (fun t => runL.now < t + 200000000)).length = 3 ∧
    ((runL.now :: [0, 199999999]).filter (fun t => runL.now < t + 200000000)).length = 2 := by decide +kernel
theorem dbgKeys_blank (l : Live) (a : l.keyMissing 216 = true) (b : l.keyRegionOk 0 = true) (c : l.sec.lc = 0) :
    l.dbgKeys 2 = [l.transportKey] := by simp [Live.dbgKeys, a, b, c]
/-- A key that opens a debug mode, and one that does not. -/
theorem witness_TestPortAndDebugAccess_keys :
    (let l := dbgL { nonce := [1] }
     let hmac := hmacSha256 l.transportKey ([1] ++ [2] ++ l.uid)
     ¬ l.sec.dbg.nonce = [] ∧ (l.dbgKeys 2).any (fun k => hmacSha256 k (l.sec.dbg.nonce ++ [BitVec.ofNat 8 2] ++ l.uid) = hmac) = true) ∧
    (let l := dbgL {}; l.sec.dbg.nonce = []) := by
  refine ⟨⟨by decide, ?_⟩, rfl⟩
  have e : (dbgL { nonce := [1] }).dbgKeys 2 = [(dbgL { nonce := [1] }).transportKey] :=
    dbgKeys_blank _ (by decide +kernel) (by decide +kernel) rfl
  simp only [e, List.any_cons, List.any_nil, Bool.or_false, decide_eq_true_eq]
  rfl

def twL (p : MsgPort) : Live := { runL with msgs := { ports := [(0, p), (1, p)] } }
theorem witness_PortsTakeAndGiveOctets :
    (runL.twAcks false = true ∧ runL.twAcks true = false ∧ runL.hspUp = true ∧ (runL.mport 1).inbox = none ∧ runL.pstat 1 ≠ 1 ∧ runL.pstat 1 ≠ 2) ∧
    takeOctets (msgFrame 0x10 0x03 []) = .whole (msgFrame 0x10 0x03 []) ∧ takeOctets [0] = .bad 0 ∧
    (takeOctets [0x5A, 1, 0x10, 0x03] = .part ∧ 4 ≤ ([0x5A, 1, 0x10, 0x03] : List Byte).length) ∧
    ((twL { inbox := some [] }).mport 1).inbox ≠ none ∧ (twL { reply := some [] }).pstat 1 = 1 ∧ (twL { reply := some [] }).pwr.restart = none ∧
    ({ runL with pwr := { runL.pwr with on := 0 } } : Live).hspUp = false ∧
    (let l : Live := { runL with pwr := { st := .cold, on := 1 } }
     l.pwr.st ≠ .off ∧ l.pwr.resetLow = false ∧ l.pwr.on.getLsbD 1 = false ∧ l.ports.matchAt = none ∧ l.ports.respReady = false) ∧
    (let l : Live := { runL with ports := { matchAt := some 199988000 } }; l.ports.matchAt = some 199988000 ∧ 199988000 + 12000 ≤ l.now) ∧
    (let l : Live := { runL with ports := { matchAt := some 199988001 } }; l.ports.matchAt = some 199988001 ∧ l.now < 199988001 + 12000) ∧
    (runL.pwr.on.getLsbD 1 = true ∧ fld (runL.hw 0xD100 0) 31 30 ≠ 0 ∧ fld (({ runL with host := [] } : Live).hw 0xD100 0) 31 30 = 0) := by
  decide +kernel

def piL (k : Pi2c) : Live := { runL with ports := { pi := [(0, k)] } }
theorem witness_InitiatorPortsRunTransfers :
    (let l := piL { due := [.firmware 1, .gauge 0] }
     nextAsker (l.pi 0).due = some (.gauge 0) ∧ l.piRuns 0 = true ∧ (l.pi 0).active = none ∧ l.piOn 0 = true ∧ (l.pi 0).recovering = false) ∧
    (let l := piL { due := [.firmware 1], dis := true }; nextAsker (l.pi 0).due = some (.firmware 1) ∧ l.piOn 0 = false ∧ l.ports.waiting = []) ∧
    nextAsker [] = none ∧
    (let l := piL { active := some (.firmware 1) }
     (l.pi 0).active = some (.firmware 1) ∧ l.piRuns 0 = true ∧ l.ports.waiting = [] ∧ fld (l.hw 0xD102 0) 27 26 ≠ 0) ∧
    fld (({ runL with host := [] } : Live).hw 0xD102 0) 27 26 = 0 ∧
    (let l := piL { active := some (.air 3) }; (l.pi 0).active = some (.air 3) ∧ l.piRuns 0 = true ∧ l.ports.waiting = []) ∧
    (let l := piL { recovering := true }; l.piOn 0 = true ∧ (l.pi 0).recovering = true) ∧
    (let l := piL { recovering := true }
     l.pwr.on.getLsbD 1 = true ∧ bit (l.hw 0xD102 0) 29 = true ∧ (l.pi 0).active = none ∧ (l.pi 0).recovering = true ∧ (l.pi 0).due = []) ∧
    (let l : Live := { piL { dis := true } with host := [] }; (l.pi 0).dis = true ∧ (l.pi 0).recovering = false ∧ bit (l.hw 0xD102 0) 28 = false) := by
  decide +kernel

def recL (r : Recorder) : Live := { runL with recd := r }
theorem witness_RecorderKeepsItsMemories :
    (let l := recL { unfl := 63, ring := List.replicate 63 {} }; l.flushDue = true ∧ l.canFlush = true ∧ l.recd.unfl ≠ 0) ∧
    (let l := recL { unfl := 62, unflAt := 200000000 }; l.flushDue = false ∧ l.flushingSlot = none ∧ l.recd.job = none) ∧
    (let j : FlushJob := { pos := 127 }
     j.wait = false ∧ (recL { job := some j }).recd.job = some j ∧ j.page.capture = false ∧ (recL { job := some j }).flushingSlot = none ∧ j.retried = false ∧
       (recL { job := some j }).flashErase = true) ∧
    (let j : FlushJob := { wait := true }
     let l : Live := { recL { job := some j } with therm := { dband := 5 } }
     l.recd.job = some j ∧ j.wait = true ∧ l.flashProgram = false) ∧
    (let j : FlushJob := { retried := true }; (recL { job := some j }).recd.job = some j ∧ j.retried = true) ∧
    (let l := recL { caps := [(0, { state := 2 }), (1, { state := 2, post := 1 })] }
     (l.capSlot 0).state = 2 ∧ (l.capSlot 0).post = 0 ∧ (l.capSlot 1).post ≠ 0 ∧ l.pwr.on.getLsbD 6 = true) ∧
    (let j : SnapJob := { page := 7, askedAt := 195000000 }
     let l := recL { snap := some j }
     l.recd.snap = some j ∧ j.waiting = false ∧ l.recd.job = none ∧ j.page ≠ 0 ∧ j.late = false ∧ j.askedAt + 5000000 ≤ l.now) ∧
    (let j : SnapJob := { page := 0, askedAt := 195000001 }; j.waiting = false ∧ j.page = 0 ∧ runL.now < j.askedAt + 5000000) ∧
    (let j : SnapJob := { waiting := true }; j.waiting = true) ∧
    (let l := recL { notArmed := some 0 }
     l.recd.notArmed = some 0 ∧ l.pwr.st = .run ∧ l.recd.armed = none ∧ 0 + 200000000 ≤ l.now ∧ l.stands 0xE003 0xB000 = false ∧
       l.fc.details.any (fun d => d.code.toNat = 0xE003 && d.obj.toNat = 0xB000) = false ∧ l.now < 1 + 200000000) ∧
    (let l := recL { armDue := true }; l.recUp = true ∧ l.recd.armDue = true ∧ l.recd.snap = none ∧ l.recd.armed = none ∧ l.recd.newest ≠ some 1 ∧
       l.flashErase = true ∧ runL.recd.armDue = false) ∧
    (let l := recL { armed := some 1 }; l.recd.armed ≠ none) ∧
    (let l : Live := { runI [(key 0xB100 0, 0x000001E0), (key 0xB100 3, 0x05000000)] with recd := { traces := [(0, { pulse := some 199999000 })] } }
     (l.trace 0).pulse = some 199999000 ∧ 199999000 + 200 * l.cf 0xB100 3 31 24 ≤ l.now ∧ l.cf 0xB100 0 8 5 = 15 ∧
       l.now < 199999001 + 200 * l.cf 0xB100 3 31 24) ∧
    (runL.pwr.on.getLsbD 0 = true ∧ runL.recd.clkAt + 200000000 ≤ runL.now ∧ runL.now < (recL { clkAt := 1 }).recd.clkAt + 200000000) ∧
    (64 ≤ (127 : Fin 128).val ∧ 64 ≤ (64 : Fin 128).val ∧ runL.pwr.on.getLsbD 1 = true ∧ runL.pwr.on.getLsbD 6 = true ∧ runL.occDue = true ∧ (recL { occAt := some 200000000 }).occDue = false) := by
  repeat' first | decide +kernel | apply And.intro

def lockL : Live :=
  let w := otpEnc (BitVec.ofNat 32 ((fuseL {}).regionCrc 0))
  fuseL { otp := [(63, { norm := w, lo := w, hi := w })] }
theorem enc_cls (d : Word) : ({ norm := otpEnc d, lo := otpEnc d, hi := otpEnc d } : OtpWord).cls = 0 := by
  unfold OtpWord.cls
  simp [otpDec_enc]
/-- Region 0 holds its CRC. -/
theorem witness_OtpCommandsFollowTheirTables_ready : lockL.lockReady 0 = true := by
  have c : (lockL.otpw 63).cls = 0 := enc_cls _
  have d : lockL.otpData 63 = BitVec.ofNat 32 ((fuseL {}).regionCrc 0) := by
    have e : (lockL.otpw 63).norm = otpEnc (BitVec.ofNat 32 ((fuseL {}).regionCrc 0)) := rfl
    unfold Live.otpData
    rw [e, otpDec_enc]
  have r : (BitVec.ofNat 32 ((fuseL {}).regionCrc 0) : Word).toNat = lockL.regionCrc 0 := by decide +kernel
  have z : (List.range 63).all (fun i => (lockL.otpw (0 + i)).cls = 0) = true := by decide +kernel
  have q : (List.range (63 - 0 + 1)).all (fun i => (lockL.otpw (0 + i)).cls = 0) = true := by
    rw [show 63 - 0 + 1 = 62 + 1 + 1 from rfl, List.range_succ, List.all_append, z]
    simp only [List.all_cons, List.all_nil, Nat.zero_add, c]
    decide
  unfold Live.lockReady
  simp only [show regionSpan 0 = (0, 63) from rfl, c, d, r, q]
  decide

/-! ## Ill-formed terms, one for each check -/

def b0 : Byte := 0
theorem test_wf_fuse_pulses : (Instr.fuseProgram {} 0 0 { pulses := List.replicate 41 1 }).wf = false := by decide
theorem test_wf_fuse_reburn : (Instr.fuseReburn {} 0 0 { pulses := List.replicate 41 1 }).wf = false := by decide
theorem test_wf_fuse_lock : (Instr.fuseLock {} 0 { pulses := List.replicate 41 1 }).wf = false := by decide
theorem test_wf_update_confirm : (Instr.updateConfirm {} { pulses := List.replicate 41 1 }).wf = false := by decide
theorem test_wf_boot_stage : (Instr.bootStageDone { fuse := { pulses := List.replicate 41 1 } }).wf = false := by decide
theorem test_wf_bond : (Instr.bondBoundary { fuse := { pulses := List.replicate 41 1 } }).wf = false := by decide
theorem test_wf_die_sensors : (Instr.dieSensorRead [400, 400]).wf = false := by decide
theorem test_wf_bank_volts : (Instr.vcBankChange 0 4001 []).wf = false := by decide
theorem test_wf_bank_ports : (Instr.vcBankChange 0 1800 (List.replicate 5 (0, none))).wf = false := by decide
theorem test_wf_auth : (Instr.msgAuth {} (List.replicate 31 0)).wf = false := by decide
theorem test_wf_read_none : (Instr.msgRead {} 0 0 0 0 []).wf = false := by decide
theorem test_wf_read_count : (Instr.msgRead {} 0 0 59 0 []).wf = false := by decide
theorem test_wf_read_flags : (Instr.msgRead {} 0 0 1 4 []).wf = false := by decide
theorem test_wf_read_gen : (Instr.msgRead {} 0 0 1 2 [1]).wf = false := by decide
theorem test_wf_read_nogen : (Instr.msgRead {} 0 0 1 0 [1]).wf = false := by decide
theorem test_wf_write_none : (Instr.msgWrite {} 0 0 []).wf = false := by decide
theorem test_wf_write_many : (Instr.msgWrite {} 0 0 (List.replicate 59 0)).wf = false := by decide
theorem test_wf_image_short : (Instr.imageWrite {} 0 [1, 2, 3]).wf = false := by decide
theorem test_wf_image_long : (Instr.imageWrite {} 0 (List.replicate 233 0)).wf = false := by decide +kernel
theorem test_wf_block_short : (Instr.updateBlock {} 0 0 []).wf = false := by decide
theorem test_wf_block_long : (Instr.updateBlock {} 0 0 (List.replicate 228 0)).wf = false := by decide +kernel
theorem test_wf_block_odd : (Instr.updateBlock {} 0 0 [1, 2, 3, 4, 5]).wf = false := by decide
theorem test_wf_recovery_block : (Instr.recoveryBlock {} 0 0 [1]).wf = false := by decide
theorem test_wf_status : (Instr.mateStatus { data := List.replicate 1025 0 }).wf = false := by decide +kernel
theorem test_wf_ckpt : (Instr.ckptData { data := List.replicate 1025 0 }).wf = false := by decide +kernel
theorem test_wf_img : (Instr.imgData { data := List.replicate 1025 0 }).wf = false := by decide +kernel
theorem test_wf_row_zero : (Instr.disagreementListed 0 0).wf = false := by decide
theorem test_wf_row_seven : (Instr.disagreementListed 7 0).wf = false := by decide
theorem test_wf_hsp_reserved : (Instr.hspReservedCmd 3 0).wf = false := by decide
theorem test_wf_good : (Instr.msgRead {} 0x1000 0 1 0 []).wf = true ∧ (Instr.hspReservedCmd 4 0).wf = true ∧
    (Instr.updateBlock {} 0 0 [1, 2, 3, 4]).wf = true := by decide

/-! ## The queue, and words of no bits -/

theorem test_step_fifo : (after (step { mk runL with pending := [.resetAssert, .vinFall] })).pwr.resetLow = true := by decide +kernel
theorem test_step_idle : (after (step State.reset)).now = 1 := by decide +kernel
theorem test_no_bits : decodeTableWord 32 0 = none := rfl

/-! ## Figures that the manual works out -/

/-- The request of the manual's example: READ of word 9 of RAIL 0 under session 1, sequence 3, `MCRC` 0x4FC1. -/
theorem test_frame_example : msgFrame 0x13 0x10 [0x00, 0x40, 0x09, 0x01, 0x00] =
    [0x5A, 0x05, 0x13, 0x10, 0x00, 0x40, 0x09, 0x01, 0x00, 0xC1, 0x4F] := by decide +kernel
/-- SHA-256 of "abc" (FIPS 180-4's example). -/
theorem test_sha256 : sha256 [0x61, 0x62, 0x63] =
    [0xBA, 0x78, 0x16, 0xBF, 0x8F, 0x01, 0xCF, 0xEA, 0x41, 0x41, 0x40, 0xDE, 0x5D, 0xAE, 0x22, 0x23,
     0xB0, 0x03, 0x61, 0xA3, 0x96, 0x17, 0x7A, 0x9C, 0xB4, 0x10, 0xFF, 0x61, 0xF2, 0x00, 0x15, 0xAD] := by decide +kernel
/-! ## One step -/

/-- What an instruction leaves of an evaluation whose library word it is. -/
def evAfter (i : Instr) (e : Eval) : Eval :=
  match patternOf i with
  | some (_, op, f) => (((after (exec i (mk (evalL (evOp op f e))))).lane 0).ev).getD {}
  | none => {}
def regAfter (i : Instr) (e : Eval) (d : BitVec 4) : W24 := (evAfter i e).wreg d
/-- LDI of IMM 0x0800 shifted by 11 is 0x400000, one half (R188). -/
theorem test_ldi : regAfter (.opLdi 0 { dst := 2, srca := 11, imm := 0x0800 }) {} 2 = 0x400000 := by decide +kernel
theorem test_add_saturates : regAfter (.opAdd 0 { dst := 1, srca := 1, srcb := 3 }) ev0 1 = 0x7FFFFF := by decide +kernel
theorem test_sub_saturates : regAfter (.opSub 0 { dst := 2, srca := 2, srcb := 3 }) ev0 2 = 0x800000 := by decide +kernel
theorem test_neg_saturates : regAfter (.opNeg 0 { dst := 4, srca := 2 }) ev0 4 = 0x7FFFFF := by decide +kernel
theorem test_abs_saturates : regAfter (.opAbs 0 { dst := 4, srca := 2 }) ev0 4 = 0x7FFFFF := by decide +kernel
theorem test_shl_saturates : regAfter (.opShl 0 { dst := 4, srca := 3, imm := 23 }) ev0 4 = 0x7FFFFF := by decide +kernel
theorem test_shr_down : regAfter (.opShr 0 { dst := 4, srca := 2, imm := 23 }) ev0 4 = 0xFFFFFF := by decide +kernel
theorem test_mac : (evAfter (.opMac 0 { srca := 3, srcb := 3, imm := 1 }) ev0).acc = 95 := by decide +kernel
theorem test_msu : (evAfter (.opMsu 0 { srca := 3, srcb := 3, imm := 1 }) ev0).acc = -105 := by decide +kernel
theorem test_rnd : regAfter (.opRnd 0 { dst := 4, imm := 0 }) { acc := 3 * 2 ^ 24 } 4 = 2 := by decide +kernel
theorem test_max_setp : (evAfter (.opMax 0 { dst := 5, srca := 3, srcb := 1, imm := 4 }) ev0).p = true := by decide +kernel
theorem test_sts_lds : (evAfter (.opSts 0 { srca := 3, imm := 17 }) { ev0 with p := true }).slotWord 1 = 0x01000005 := by decide +kernel
theorem test_bad_op : (after (exec (.opAdd 0 { imm := 1 }) (mk (evalL (evOp 0x0C { imm := 1 }))))).fc.details.map (·.code) = [0x3006] := by decide +kernel
theorem test_trip : (after (exec (.opTrip 0 { srca := 3, imm := 7 }) (mk (evalL (evOp 0x28 { srca := 3, imm := 7 }))))).fc.details.map (·.code) = [0x3107] := by decide +kernel
theorem test_pred : evAfter (.opAdd 0 { dst := 1, srca := 3, srcb := 3, pred := true }) ev0 = { evOp 0x0C { dst := 1, srca := 3, srcb := 3, pred := true } with pc := 1 } := by decide +kernel

theorem test_por : (after (exec (.powerOnReset { role := true, addr := 5 }) State.reset)).ports.addr = 5 := by decide +kernel
theorem test_boot1 : (after (exec (.bootStageDone {}) (mk (bootAt 1)))).pwr.stage = 2 := by decide +kernel
theorem test_train : ((after (exec (.trainingAligned ⟨0, []⟩) (mk (withRing runL { st := .training })))).ring 0).st = .ranging := by decide +kernel
theorem test_train_fail : (after (exec (.ringTrainFail ⟨0, []⟩) (mk (withRing { runL with now := 400000 } { st := .training })))).fc.details.map (·.code) =
    [0x1003] := by decide +kernel
theorem test_align_lost : ((after (exec (.alignmentLost ⟨0, []⟩) (mk tileL))).ring 0).st = .training := by decide +kernel
theorem test_course : ((after (exec (.courseStart 0) (mk (withRing { tileL with now := 200001000 } { st := .running })))).ring 0).idx = 1 := by
  decide +kernel
theorem test_up_brick : ((after (exec (.upBrickReceived 0 0 upBrick0 []) (mk (courseL 8 {})))).slot 0 0).up = .valid := by
  decide +kernel
theorem test_up_brick_bad : ((after (exec (.upBrickReceived 0 0 0 []) (mk (courseL 8 {})))).slot 0 0).up = .failed := by
  decide +kernel
theorem test_buoy : ((after (exec (.buoyBrickReceived 0 buoy63 []) (mk tileL))).stn 0).hop = 63 := by decide +kernel
theorem test_commit : tget 0 (after (exec (.tileCommit 0) (mk (evalL { ended := true, startAt := 200000000, outs := [(1, 7)], outSet := [1] })))).loop.outs 1 = 7 := by
  decide +kernel
theorem test_dispatch : (((after (exec (.tileDispatch 0) (mk laneL))).lane 0).ev).isSome = true := by decide +kernel
theorem test_rail_ov : ((after (exec (.railOv 0) (mk (stageL 3 { st := .on, ovCnt := 4 })))).rail 0).st = .latched := by decide +kernel
theorem test_rail_on : (after (exec (.rctlOn 3) (mk runL))).bondWrites = [(0x4003 * 256 + 7, 0x40000000)] := by decide +kernel
/-- PING's short response: status 0, RAILSEL 1, TAG 2. -/
theorem test_ping : ((after (exec (.ping 0 { railsel := 1, tag := 2 } false) (mk (vcL {} {})))).vp 0).resp.toNat / 256 = 0x06 := by decide +kernel
/-- A rail in IDLE answers SETV with status 5. -/
theorem test_setv_idle : ((after (exec (.setv 0 {} 150 0) (mk (vcL {} {})))).vp 0).resp.toNat / 256 = 0x50 := by decide +kernel
theorem test_pfail : (after (exec .pfailLow (mk runL))).pwr.st = .holdup := by decide +kernel
theorem test_full_anchor : ((after (exec (.fullAnchor 0) (mk (strL { live := true, fullRun := 60000, a := 7 })))).str 0).a = 0 := by decide +kernel
theorem test_scrub : (after (exec (.scrubPass {}) (mk runL))).therm.scrubAt = 200000000 := by decide +kernel
theorem test_occurrence : (after (exec (.occurrenceTaken none) (mk (raisedL { code := 0x2004, obj := 0x2000 })))).fc.table.map (·.cls) = [.alert] := by
  decide +kernel
theorem test_safe_state : (after (exec (.occurrenceTaken none) (mk (raisedL { code := 0x0001 })))).fc.safe = true := by decide +kernel
theorem test_heartbeat : (after (exec .heartbeatToggle (mk (kL { st := .keeper, live := true })))).keeper.hbout = true := by decide +kernel
theorem test_silence : (after (exec .heartbeatSilence (mk (kL { st := .watch })))).keeper.st = .warming := by decide +kernel
theorem test_claim : (after (exec .claimStart (mk (kL { st := .waiting, passSeen := true, waited := true, stored := 4 })))).keeper.stored = 5 := by
  decide +kernel
theorem test_open : ((after (exec (.msgOpen {} 0) (mk runL))).sess 1).opened = true := by decide +kernel
theorem test_close : ((after (exec (.msgClose h1) (mk (withSess runL)))).sess 1).opened = false := by decide +kernel
/-- READ of `0xD000` word 0 gives the reset value of Table 14.9: SIDLE 60, ALOCK 10, DGRACE 1000. -/
theorem test_read : ((after (exec (.msgRead h1 0xD000 0 1 0 []) (pubS runL))).mport 0).reply =
    some (msgFrame 0x10 0x10 [0x00, 0x00, 9, 0, 0, 0, 0, 0, 0xE8, 0x03, 0x0A, 0x3C]) := by decide +kernel
theorem test_write : (after (exec (.msgWrite h1 0xD000 0 [0x3C0A03E9]) (mk (withSess runL)))).hw 0xD000 0 = 0x3C0A03E9 := by decide +kernel
theorem test_txn : (after (exec (.txnBegin h1) (mk (leased (withSess runL))))).img.txn.st = .opened := by decide +kernel
theorem test_txn_no_lease : (after (exec (.txnBegin h1) (mk (withSess runL)))).img.txn.st = .idle := by decide +kernel
theorem test_block : (after (exec (.updateBlock h1 0 (BitVec.ofNat 32 (crc32 data4)) data4) (mk (withSess runL)))).sec.stg.bytes = data4 := by decide +kernel
theorem test_fuse_locked : (after (exec (.fuseProgram h1 0 5 {}) (mk (fuseL {} 2)))).sec.otp = [] := by decide +kernel
theorem test_hsp : ((after (exec (.hspWriteMessage (msgFrame 0 0x01 [0])) (mk runL))).mport 0).inbox = some (msgFrame 0 0x01 [0]) := by decide +kernel
theorem test_bypass : (after (exec (.jtagBypass [true, true]) (mk runL))).pins.tdo = [false, true] := by decide +kernel
theorem test_sclock : (after (exec (.sclockWrite 77) (mk runL))).recd.clkSec = 77 := by decide +kernel
theorem test_clock : (after (exec .shelfClockTick (mk runL))).recd.clkSec = 1 := by decide +kernel
theorem test_bond : (after (exec (.bondBoundary {}) (mk { runL with now := 200200000 }))).bond = 1001 := by decide +kernel

/-! ## Balls (Table 19.1: 147 signal and 177 supply balls, 24 of them `VCORE`; the example of `VC5`) -/

def allBalls : List Ball := (List.range 18).flatMap (fun r => (List.range 18).map (fun c => ballAt r (c + 1)))
theorem test_ballCounts :
    allBalls.countP (fun b => b.type ≠ .supply) = 147 ∧ allBalls.countP (· = .vcore) = 24 ∧ allBalls.countP (· = .gnd) = 108 := by
  decide +kernel
theorem test_ballVc5 : ballAt 16 4 = .vclk 5 ∧ ballAt 16 5 = .vdio 5 ∧ ballAt 16 6 = .valertN 5 := by decide

end Sys2Proof.Tests
end

section
/-! PROOFS. The scope of the model: the tick that an empty queue takes, what reset leaves, and the host commands that wait for
the next bond boundary. -/
open Sys2Proof Sys2Proof.Machine
namespace Sys2Proof.Machine

/-! ## The change of one part -/

/-- A command that changes the controller's part by `f` gives what holds of the changed state, and leaves every part alone
that `f` leaves alone. -/
theorem upd_gives_sameBut {m : Nat} {s : State} {f : Live → Live} (h : Live.less m (f s.live) = Live.less m s.live)
    (ps : List Part) (hps : allParts.all (fun p => ps.contains p || !m.testBit p.bit) = true) {P : State → Prop}
    (hP : P { s with live := f s.live }) : Gives (s.upd f) (fun t => P t ∧ SameBut ps s t) :=
  ⟨_, rfl, hP, (State.Keeps.live_of h).sameBut ps hps⟩

/-- A change counts only for what it makes of the state that it meets. -/
theorem upd_congr {s : State} {f g : Live → Live} (h : f s.live = g s.live) : s.upd f = s.upd g := by
  simp only [State.upd, h]

/-! ## The idle tick (R4, log entry 1) -/

theorem step_of_pending_nil {s : State} (h : s.pending = []) : step s = s.upd Live.idleTick := by
  simp only [step, h, State.upd]

theorem idleTick_now (l : Live) : l.idleTick.now = if l.pwr.st = .off then l.now else l.now + 1 := by
  unfold Live.idleTick
  split <;> rfl

/-- Settles O2: the step is `Live.idleTick`, which changes the tick count alone. -/
theorem stepIdlesOneTick : Obligations.StepIdlesOneTick := by
  intro s hempty
  rw [step_of_pending_nil hempty]
  exact upd_gives_sameBut (Live.idleTick_keep s.live 1 rfl) [.now] (by decide) (idleTick_now s.live)

/-! ## Reset (R4, R16, R540, R543) -/

/-- The first boundary lies at tick 0, and no generation and no command is there to break the order or the form. -/
theorem reset_inv : State.reset.Inv where
  gens := List.Pairwise.nil
  grid := Nat.zero_mod _
  past := Nat.le_refl 0
  queue := fun _ h => nomatch h

/-- An empty table reads as its default everywhere. -/
@[simp] theorem tget_nil {α : Type} (d : α) (n : Nat) : tget d [] n = d := rfl

theorem reset_boot_stage : Live.reset.pwr.st = .boot ∧ Live.reset.pwr.stage = 1 ∧ Live.reset.pwr.on = 1 :=
  ⟨rfl, rfl, rfl⟩

theorem reset_ring (n : Nat) : Live.reset.ring n = {} := tget_nil _ n
theorem reset_stn (n : Nat) : Live.reset.stn n = {} := tget_nil _ n
theorem reset_tile (n : Nat) : Live.reset.tile n = {} := tget_nil _ n
theorem reset_rail (n : Nat) : Live.reset.rail n = {} := tget_nil _ n
theorem reset_inp (n : Nat) : Live.reset.inp n = {} := tget_nil _ n
theorem reset_sess (n : Nat) : Live.reset.sess n = {} := tget_nil _ n

/-- Settles O5: every table is empty after reset, so each of its entries is the unused one. -/
theorem resetLeavesBootStageOneInTheInvariant : Obligations.ResetLeavesBootStageOneInTheInvariant := by
  obtain ⟨hst, hstage, hon⟩ := reset_boot_stage
  refine ⟨reset_inv, hst, hstage, hon, rfl, rfl, rfl, rfl, reset_ring, ?_, ?_, ?_, ?_, ?_, rfl, rfl, rfl, rfl, rfl, rfl, rfl⟩
  · exact fun n => congrArg Stn.st (reset_stn n)
  · exact fun n => congrArg Tile.st (reset_tile n)
  · exact fun n => congrArg Rail.st (reset_rail n)
  · exact fun n => congrArg Input.st (reset_inp n)
  · exact fun n => congrArg Session.opened (reset_sess n)

/-! ## Fields as shifted words -/

/-- A number that fits its field is placed by a shift. -/
theorem put_of_lt {v width : Nat} (lo : Nat) (h : v < 2 ^ width) : put v lo width = BitVec.ofNat 32 v <<< lo := by
  rw [put, Nat.mod_eq_of_lt h]
  apply BitVec.eq_of_toNat_eq
  simp [Nat.shiftLeft_eq]

/-- The bits of a field are placed by a shift. -/
theorem put_toNat {width : Nat} (x : BitVec width) (lo : Nat) : put x.toNat lo width = x.setWidth 32 <<< lo := by
  rw [put_of_lt lo x.isLt, BitVec.ofNat_toNat]

/-! ## Commands that wait for the bond boundary (Tables 6.5, 9.4, 9.5, 12.9 and 16.8) -/

/-- The write of `v` to word `w` of object `oid` waits in `t` behind those that wait in `s`, and nothing else has changed. -/
def WriteWaits (s : State) (oid w : Nat) (v : Word) (t : State) : Prop :=
  t.live.bondWrites = s.live.bondWrites ++ [(256 * oid + w, v)] ∧ SameBut [.bondWrites] s t

/-- A write put behind the waiting ones by `Live.pend` waits there. -/
theorem upd_pend_waits (s : State) (oid w : Nat) {v v' : Word} (hv : v = v') :
    Gives (s.upd fun l => l.pend oid w v) (WriteWaits s oid w v') := by
  subst hv
  exact upd_gives_sameBut (Live.pend_keep s.live oid w v 33554432 rfl) [.bondWrites] (by decide) rfl

/-! ### Rails (R221, R222, R236, R240) -/

theorem rctlRestore_waits (s : State) (r : Fin 48) (m : Byte) :
    Gives (exec (.rctlRestore r m) s) (WriteWaits s (0x4000 + r) 7 (0x10000000#32 ||| m.setWidth 32 <<< 20)) :=
  upd_pend_waits s _ 7 (congrArg (0x10000000#32 ||| ·) (put_toNat m 20))

/-- `VSET` is admitted when no port serves the rail and the target lies in `VMIN` to `VMAX` (R215). -/
theorem vsetOk_iff (l : Live) (r v : Nat) :
    l.vsetOk r v = true ↔ l.railPort r = none ∧ l.cf (0x4000 + r) 2 15 0 ≤ v ∧ v ≤ l.cf (0x4000 + r) 2 31 16 := by
  simp only [Live.vsetOk, Bool.and_eq_true, Option.isNone_iff_eq_none, decide_eq_true_eq, and_assoc]
  exact Iff.rfl

theorem exec_vsetWrite_of_vsetOk {s : State} {r : Fin 48} {v : Half} (g : BitVec 3) (h : s.live.vsetOk r v.toNat = true) :
    exec (.vsetWrite r v g) s = s.upd fun l => l.pend (oRail r) 8 (put v.toNat 16 16 ||| put g.toNat 13 3) :=
  upd_congr (if_pos h)

theorem exec_vsetWrite_of_not_vsetOk {s : State} {r : Fin 48} {v : Half} (g : BitVec 3) (h : ¬ s.live.vsetOk r v.toNat = true) :
    exec (.vsetWrite r v g) s = .next s :=
  upd_congr (g := id) (if_neg h)

theorem vsetWrite_waits (s : State) (r : Fin 48) (v : Half) (g : BitVec 3) (hport : s.live.railPort r = none)
    (hlo : s.live.cf (0x4000 + r) 2 15 0 ≤ v.toNat) (hhi : v.toNat ≤ s.live.cf (0x4000 + r) 2 31 16) :
    Gives (exec (.vsetWrite r v g) s) (WriteWaits s (0x4000 + r) 8 (v.setWidth 32 <<< 16 ||| g.setWidth 32 <<< 13)) := by
  rw [exec_vsetWrite_of_vsetOk g ((vsetOk_iff _ _ _).mpr ⟨hport, hlo, hhi⟩)]
  exact upd_pend_waits s _ 8 (congrArg₂ (· ||| ·) (put_toNat v 16) (put_toNat g 13))

theorem vsetWrite_same (s : State) (r : Fin 48) (v : Half) (g : BitVec 3)
    (h : s.live.railPort r ≠ none ∨ v.toNat < s.live.cf (0x4000 + r) 2 15 0 ∨ s.live.cf (0x4000 + r) 2 31 16 < v.toNat) :
    exec (.vsetWrite r v g) s = .next s := by
  refine exec_vsetWrite_of_not_vsetOk g fun hok => ?_
  obtain ⟨hport, hlo, hhi⟩ := (vsetOk_iff _ _ _).mp hok
  rcases h with h | h | h
  · exact h hport
  · omega
  · omega

/-! ### The policy word of the pins (R160) and the exercise of a string (R335) -/

theorem vcpinWrite_waits (s : State) (v : Byte) (hdom : s.live.pwr.on.getLsbD 1 = true) :
    Gives (exec (.vcpinWrite v) s) (WriteWaits s 0x3FFF 0 (v.setWidth 32 <<< 24)) := by
  have hexec : exec (.vcpinWrite v) s = s.upd fun l => l.pend 0x3FFF 0 (put v.toNat 24 8) :=
    upd_congr (if_pos hdom)
  rw [hexec]
  exact upd_pend_waits s _ 0 (put_toNat v 24)

theorem xcmdStart_waits (s : State) (k : Fin 16) :
    Gives (exec (.xcmdStart k) s) (WriteWaits s 0x7FFF 2 (0x40000000#32 ||| BitVec.ofNat 32 k.val <<< 26)) :=
  upd_pend_waits s _ 2 (congrArg (0x40000000#32 ||| ·) (put_of_lt (width := 4) 26 k.isLt))

/-- Settles O31: each command puts its word behind the waiting ones by `Live.pend`; `VCPIN` needs domain 1 and `VSET` an
admitted target. A command without operands writes a fixed code to bits [31:30], so its word is one literal. -/
theorem hostCommandsWaitForTheBoundary : Obligations.HostCommandsWaitForTheBoundary := by
  intro s
  have waits (oid w : Nat) {v v' : Word} (hv : v = v') := upd_pend_waits s oid w hv
  refine ⟨fun r => ⟨waits _ 7 rfl, waits _ 7 rfl, waits _ 7 rfl, rctlRestore_waits s r, vsetWrite_waits s r, vsetWrite_same s r⟩,
    vcpinWrite_waits s, fun k => ⟨waits _ 11 rfl, xcmdStart_waits s k⟩, waits _ 2 rfl, waits _ 1 rfl, waits _ 1 rfl,
    waits _ 3 rfl, waits _ 3 rfl, fun k => ⟨waits _ 6 rfl, waits _ 6 rfl⟩,
    fun k => ⟨waits _ 5 rfl, waits _ 5 rfl, waits _ 5 rfl⟩⟩

end Sys2Proof.Machine
end

section
/-! PROOFS. What every command leaves alone, and the invariant that every step keeps. -/
open Sys2Proof Sys2Proof.Machine
namespace Sys2Proof.Machine

/-! ## What every command leaves alone -/

/-- The mask of `Laws/Parts.lean` whose bits are those of a list of parts. -/
def partsMask (ps : List Part) : Nat := ps.foldr (fun p m => 2 ^ p.bit ||| m) 0

theorem Part.bit_injective : Function.Injective Part.bit := by
  have hinv : ∀ p : Part, allParts[p.bit]? = some p := fun p => by cases p <;> rfl
  exact fun p q h => Option.some.inj ((hinv p).symm.trans ((congrArg (allParts[·]?) h).trans (hinv q)))

/-- The mask of a list has the bit of a part outside it clear. -/
theorem partsMask_testBit {ps : List Part} {p : Part} (h : p ∉ ps) : (partsMask ps).testBit p.bit = false := by
  induction ps with
  | nil => exact Nat.zero_testBit _
  | cons q qs ih =>
    obtain ⟨hne, hqs⟩ := not_or.mp (mt List.mem_cons.mpr h)
    have hbit : q.bit ≠ p.bit := fun e => hne (Part.bit_injective e).symm
    show (2 ^ q.bit ||| partsMask qs).testBit p.bit = false
    rw [Nat.testBit_or, Nat.testBit_two_pow_of_ne hbit, ih hqs, Bool.or_false]

/-- The lemmas of `Laws/Exec.lean` in one table: their masks are those of the parts that `Instr.parts` lists. -/
theorem exec_only : ∀ (c : Instr) (s : State), Only (partsMask c.parts) s (exec c s)
  | .powerOnReset _, s => only_powerOnReset _ s
  | .vinFall, s => only_vinFall s
  | .resetAssert, s => only_resetAssert s
  | .resetRelease _, s => only_resetRelease _ s
  | .wakeRequest, s => only_wakeRequest s
  | .bootStageDone _, s => only_bootStageDone _ s
  | .stagedShutdown, s => only_stagedShutdown s
  | .powerReturn, s => only_powerReturn s
  | .serviceIdleTimeout, s => only_serviceIdleTimeout s
  | .refLoss, s => only_refLoss s
  | .refReturn, s => only_refReturn s
  | .domainDown _, s => only_domainDown _ s
  | .vcoreLow _, s => only_vcoreLow _ s
  | .vcoreIlim, s => only_vcoreIlim s
  | .courseStart _, s => only_courseStart _ s
  | .bondBoundary _, s => only_bondBoundary _ s
  | .upBrickReceived _ _ _ _, s => only_upBrickReceived _ _ _ _ s
  | .callBrick _, s => only_callBrick _ s
  | .upRetryReturn _, s => only_upRetryReturn _ s
  | .downWindow _, s => only_downWindow _ s
  | .checkBrickReceived _ _ _, s => only_checkBrickReceived _ _ _ s
  | .headerReturn _ _ _ _, s => only_headerReturn _ _ _ _ s
  | .rangeCountReturn _ _ _ _, s => only_rangeCountReturn _ _ _ _ s
  | .ringRangeFail _, s => only_ringRangeFail _ s
  | .trainingAligned _, s => only_trainingAligned _ s
  | .ringTrainFail _, s => only_ringTrainFail _ s
  | .trainingRestart _, s => only_trainingRestart _ s
  | .alignmentLost _, s => only_alignmentLost _ s
  | .commaDrift _, s => only_commaDrift _ s
  | .ringSlotLoss _ _, s => only_ringSlotLoss _ _ s
  | .buoyBrickReceived _ _ _, s => only_buoyBrickReceived _ _ _ s
  | .mgmtReplyReceived _ _ _, s => only_mgmtReplyReceived _ _ _ s
  | .mgmtResend _, s => only_mgmtResend _ s
  | .mgmtUnanswered _, s => only_mgmtUnanswered _ s
  | .stnIdentFail _, s => only_stnIdentFail _ s
  | .sightAckRefresh _, s => only_sightAckRefresh _ s
  | .matchingPass, s => only_matchingPass s
  | .handoverCourse _, s => only_handoverCourse _ s
  | .stnHandoverFail _, s => only_stnHandoverFail _ s
  | .stnAdrift _, s => only_stnAdrift _ s
  | .stnUnstable _, s => only_stnUnstable _ s
  | .tileDispatch _, s => only_tileDispatch _ s
  | .tileCommit _, s => only_tileCommit _ s
  | .tileDiscard _, s => only_tileDiscard _ s
  | .loopOverrun _, s => only_loopOverrun _ s
  | .loopStall _, s => only_loopStall _ s
  | .policyDispatch, s => only_policyDispatch s
  | .loopPolicyLate, s => only_loopPolicyLate s
  | .vcpinWrite _, s => only_vcpinWrite _ s
  | .opNop _ _, s => only_opNop _ _ s
  | .opEnd _ _, s => only_opEnd _ _ s
  | .opMac _ _, s => only_opMac _ _ s
  | .opMsu _ _, s => only_opMsu _ _ s
  | .opMul _ _, s => only_opMul _ _ s
  | .opClra _ _, s => only_opClra _ _ s
  | .opRnd _ _, s => only_opRnd _ _ s
  | .opAdd _ _, s => only_opAdd _ _ s
  | .opSub _ _, s => only_opSub _ _ s
  | .opNeg _ _, s => only_opNeg _ _ s
  | .opAbs _ _, s => only_opAbs _ _ s
  | .opShl _ _, s => only_opShl _ _ s
  | .opShr _ _, s => only_opShr _ _ s
  | .opMov _ _, s => only_opMov _ _ s
  | .opLdi _ _, s => only_opLdi _ _ s
  | .opLds _ _, s => only_opLds _ _ s
  | .opSts _ _, s => only_opSts _ _ s
  | .opLdc _ _, s => only_opLdc _ _ s
  | .opIn _ _, s => only_opIn _ _ s
  | .opOut _ _, s => only_opOut _ _ s
  | .opPub _ _, s => only_opPub _ _ s
  | .opClamp _ _, s => only_opClamp _ _ s
  | .opMin _ _, s => only_opMin _ _ s
  | .opMax _ _, s => only_opMax _ _ s
  | .opCmplt _ _, s => only_opCmplt _ _ s
  | .opCmpgt _ _, s => only_opCmpgt _ _ s
  | .opSel _ _, s => only_opSel _ _ s
  | .opTrip _ _, s => only_opTrip _ _ s
  | .opRcrd _ _, s => only_opRcrd _ _ s
  | .opRcwr _ _, s => only_opRcwr _ _ s
  | .opTap _ _, s => only_opTap _ _ s
  | .loopBadOp _ _, s => only_loopBadOp _ _ s
  | .railCourseWork _, s => only_railCourseWork _ s
  | .railOv _, s => only_railOv _ s
  | .railUv _, s => only_railUv _ s
  | .fbtimeExpiry _, s => only_fbtimeExpiry _ s
  | .hictimeExpiry _, s => only_hictimeExpiry _ s
  | .railSsFail _, s => only_railSsFail _ s
  | .hiccntReset _, s => only_hiccntReset _ s
  | .railPhaseOpen _ _, s => only_railPhaseOpen _ _ s
  | .railSenseFail _ _, s => only_railSenseFail _ _ s
  | .phaseShed _, s => only_phaseShed _ s
  | .rctlOn _, s => only_rctlOn _ s
  | .rctlOff _, s => only_rctlOff _ s
  | .rctlUnlatch _, s => only_rctlUnlatch _ s
  | .rctlRestore _ _, s => only_rctlRestore _ _ s
  | .vsetWrite _ _ _, s => only_vsetWrite _ _ _ s
  | .setv _ _ _ _, s => only_setv _ _ _ _ s
  | .getv _ _ _, s => only_getv _ _ _ s
  | .geti _ _ _, s => only_geti _ _ _ s
  | .getp _ _, s => only_getp _ _ s
  | .getstatRail _ _, s => only_getstatRail _ _ s
  | .getstatSummary _ _, s => only_getstatSummary _ _ s
  | .ackcap _ _ _, s => only_ackcap _ _ _ s
  | .setmodeAuto _ _ _, s => only_setmodeAuto _ _ _ s
  | .setmodeFull _ _ _, s => only_setmodeFull _ _ _ s
  | .setmodeEvmask _ _ _, s => only_setmodeEvmask _ _ _ s
  | .ping _ _ _, s => only_ping _ _ _ s
  | .vcFrameTimeout _ _, s => only_vcFrameTimeout _ _ s
  | .setvSettled _, s => only_setvSettled _ s
  | .vcSettleFail _, s => only_vcSettleFail _ s
  | .vcCapNoack _, s => only_vcCapNoack _ s
  | .vcCrcBurst _, s => only_vcCrcBurst _ s
  | .vcBankChange _ _ _, s => only_vcBankChange _ _ _ s
  | .inputStage _, s => only_inputStage _ s
  | .ppPairLost _, s => only_ppPairLost _ s
  | .ppGuardRepeat _, s => only_ppGuardRepeat _ s
  | .gholdExpiry _, s => only_gholdExpiry _ s
  | .pfailLow, s => only_pfailLow s
  | .vbusLow, s => only_vbusLow s
  | .adcConversion _ _, s => only_adcConversion _ _ s
  | .adcRange _, s => only_adcRange _ s
  | .cbusMeasure, s => only_cbusMeasure s
  | .fullAnchor _, s => only_fullAnchor _ s
  | .emptyAnchor _, s => only_emptyAnchor _ s
  | .impedanceMeasure _, s => only_impedanceMeasure _ s
  | .packMonitorRead _, s => only_packMonitorRead _ s
  | .capStale _, s => only_capStale _ s
  | .journalPeriod _, s => only_journalPeriod _ s
  | .learnedRecordDone _ _, s => only_learnedRecordDone _ _ s
  | .gcmdResetlearn _, s => only_gcmdResetlearn _ s
  | .xcmdStart _, s => only_xcmdStart _ s
  | .xcmdAbort, s => only_xcmdAbort s
  | .exerciseTimeout, s => only_exerciseTimeout s
  | .dieSensorRead _, s => only_dieSensorRead _ s
  | .pointUpdate _, s => only_pointUpdate _ s
  | .airSensorRead _, s => only_airSensorRead _ s
  | .scrubPass _, s => only_scrubPass _ s
  | .occurrenceTaken _, s => only_occurrenceTaken _ s
  | .wireFault _ _ _ _, s => only_wireFault _ _ _ _ s
  | .blockBack _, s => only_blockBack _ s
  | .shadowWindowClose _, s => only_shadowWindowClose _ s
  | .faultLogCopy, s => only_faultLogCopy s
  | .faultClear _ _ _, s => only_faultClear _ _ _ s
  | .safexit, s => only_safexit s
  | .heartbeatToggle, s => only_heartbeatToggle s
  | .hbinEdge, s => only_hbinEdge s
  | .heartbeatSilence, s => only_heartbeatSilence s
  | .mateStatus _, s => only_mateStatus _ s
  | .kprMateDown, s => only_kprMateDown s
  | .ckptData _, s => only_ckptData _ s
  | .ckptAck _, s => only_ckptAck _ s
  | .ckptBlockTimeout _, s => only_ckptBlockTimeout _ s
  | .claimNotice f, s => only_claimNotice f s
  | .imgData _, s => only_imgData _ s
  | .imgAck _, s => only_imgAck _ s
  | .imageSyncTimeout, s => only_imageSyncTimeout s
  | .handoverReq _, s => only_handoverReq _ s
  | .handoverReady _, s => only_handoverReady _ s
  | .handoverGo _, s => only_handoverGo _ s
  | .kcmdHandover, s => only_kcmdHandover s
  | .kcmdAbort, s => only_kcmdAbort s
  | .kprHandoverFail, s => only_kprHandoverFail s
  | .warmingDone, s => only_warmingDone s
  | .claimWaitExpiry, s => only_claimWaitExpiry s
  | .claimStart, s => only_claimStart s
  | .claimWindowEnd, s => only_claimWindowEnd s
  | .dmissAllSlots _, s => only_dmissAllSlots _ s
  | .commitComplete _, s => only_commitComplete _ s
  | .msgOpen _ _, s => only_msgOpen _ _ s
  | .msgAuth _ _, s => only_msgAuth _ _ s
  | .msgClose _, s => only_msgClose _ s
  | .msgRead _ _ _ _ _ _, s => only_msgRead _ _ _ _ _ _ s
  | .msgWrite _ _ _ _, s => only_msgWrite _ _ _ _ s
  | .snapPin _, s => only_snapPin _ s
  | .snapRelease _ _, s => only_snapRelease _ _ s
  | .txnBegin _, s => only_txnBegin _ s
  | .txnCommit _, s => only_txnCommit _ s
  | .txnRollback _, s => only_txnRollback _ s
  | .txnStatus _, s => only_txnStatus _ s
  | .eventPoll _ _, s => only_eventPoll _ _ s
  | .counterRead _ _ _ _, s => only_counterRead _ _ _ _ s
  | .sampleRead _ _ _, s => only_sampleRead _ _ _ s
  | .recordRead _ _ _ _ _, s => only_recordRead _ _ _ _ _ s
  | .imageWrite _ _ _, s => only_imageWrite _ _ _ s
  | .updateBlock _ _ _ _, s => only_updateBlock _ _ _ _ s
  | .updateSeal _, s => only_updateSeal _ s
  | .updateArm _ _, s => only_updateArm _ _ s
  | .updateConfirm _ _, s => only_updateConfirm _ _ s
  | .updateStatus _, s => only_updateStatus _ s
  | .recoveryEnter _, s => only_recoveryEnter _ s
  | .recoveryBlock _ _ _ _, s => only_recoveryBlock _ _ _ _ s
  | .recoveryFinish _, s => only_recoveryFinish _ s
  | .recoveryAbort _, s => only_recoveryAbort _ s
  | .fuseProgram _ _ _ _, s => only_fuseProgram _ _ _ _ s
  | .fuseReburn _ _ _ _, s => only_fuseReburn _ _ _ _ s
  | .fuseReadNormal _ _, s => only_fuseReadNormal _ _ s
  | .fuseReadMarginLo _ _, s => only_fuseReadMarginLo _ _ s
  | .fuseReadMarginHi _ _, s => only_fuseReadMarginHi _ _ s
  | .fuseLock _ _ _, s => only_fuseLock _ _ _ s
  | .sessionAuthTimeout _, s => only_sessionAuthTimeout _ s
  | .sessionIdleTimeout _, s => only_sessionIdleTimeout _ s
  | .authLockEnd _, s => only_authLockEnd _ s
  | .snapPinExpiry _, s => only_snapPinExpiry _ s
  | .txnTimeout, s => only_txnTimeout s
  | .disagreementListed _ _, s => only_disagreementListed _ _ s
  | .twWriteTransfer _ _, s => only_twWriteTransfer _ _ s
  | .twReadTransfer addr count acked, s => only_twReadTransfer addr count acked s
  | .twAddressMatch, s => only_twAddressMatch s
  | .twWakeFail, s => only_twWakeFail s
  | .twSclTimeout, s => only_twSclTimeout s
  | .twSdaTimeout, s => only_twSdaTimeout s
  | .hspWriteMessage _, s => only_hspWriteMessage _ s
  | .hspReadMessage _, s => only_hspReadMessage _ s
  | .hspStatus _, s => only_hspStatus _ s
  | .hspReservedCmd _ _, s => only_hspReservedCmd _ _ s
  | .pi2cTransferStart _ _, s => only_pi2cTransferStart _ _ s
  | .pi2cTransferDone _ _, s => only_pi2cTransferDone _ _ s
  | .pi2cTimeout _, s => only_pi2cTimeout _ s
  | .busRecovery _ _, s => only_busRecovery _ _ s
  | .flushPage, s => only_flushPage s
  | .flushPageDone _, s => only_flushPageDone _ s
  | .snapshotPageDone _, s => only_snapshotPageDone _ s
  | .recSnapFail, s => only_recSnapFail s
  | .recNotArmed, s => only_recNotArmed s
  | .captureFreeze _, s => only_captureFreeze _ s
  | .rcmdSnapnow, s => only_rcmdSnapnow s
  | .rcmdFlush, s => only_rcmdFlush s
  | .ccmdTrigger _, s => only_ccmdTrigger _ s
  | .ccmdRearm _, s => only_ccmdRearm _ s
  | .tcmdArm _, s => only_tcmdArm _ s
  | .tcmdTrigger _, s => only_tcmdTrigger _ s
  | .tcmdStop _, s => only_tcmdStop _ s
  | .tracePulseEnd _, s => only_tracePulseEnd _ s
  | .sclockWrite _, s => only_sclockWrite _ s
  | .shelfClockTick, s => only_shelfClockTick s
  | .jtagIdcode, s => only_jtagIdcode s
  | .jtagBypass _, s => only_jtagBypass _ s
  | .jtagSamplePreload _ _, s => only_jtagSamplePreload _ _ s
  | .jtagExtest _ _, s => only_jtagExtest _ _ s
  | .dbgauth _, s => only_dbgauth _ s
  | .dbgacc _, s => only_dbgacc _ s
  | .trstLow, s => only_trstLow s
  | .vcBadCommand _ _ _, s => only_vcBadCommand _ _ _ s
  | .msgBadRequest _ _, s => only_msgBadRequest _ _ s
  | .occupancySample _, s => only_occupancySample _ s
  | .dbgauthLockEnd, s => only_dbgauthLockEnd s
  | .responderReady, s => only_responderReady s
  | .snapshotAreaArmed _, s => only_snapshotAreaArmed _ s

/-- Settles O3: what the mask of a command's parts admits is a change of those parts. -/
theorem everyCommandKeepsOtherParts : Obligations.EveryCommandKeepsOtherParts := by
  intro c s
  obtain ⟨t, hnext, hkeeps⟩ := exec_only c s
  exact ⟨t, hnext, hkeeps.pending, fun p hp => hkeeps.part p (partsMask_testBit hp)⟩

/-! ## The invariant of every step (R48, R471) -/

theorem numbersRise_iff_rises {α : Type} (t : Tbl α) : numbersRise t ↔ Tbl.rises t := by
  induction t with
  | nil => exact ⟨fun _ => trivial, fun _ => List.Pairwise.nil⟩
  | cons p t ih => exact List.pairwise_cons.trans (and_congr_right fun _ => ih)

/-- The last bond boundary lies on the grid of the timebase and not in the future (R48). -/
structure Live.OnGrid (l : Live) : Prop where
  grid : l.bondAt % bondTicks = 0
  past : l.bondAt ≤ l.now

/-- What changes neither the tick count nor the boundary keeps the grid. -/
theorem Live.OnGrid.of_less {m : Nat} {l k : Live} (hl : l.OnGrid) (h : Live.less m k = Live.less m l)
    (hnow : m.testBit 0 = false) (hbond : m.testBit 2 = false) : k.OnGrid := by
  have hb := Live.less_bondAt h hbond
  exact ⟨hb ▸ hl.grid, (Live.less_now h hnow).symm ▸ hb ▸ hl.past⟩

/-- A reset puts the last boundary at tick 0. -/
theorem Live.OnGrid.of_bondAt_zero {l : Live} (h : l.bondAt = 0) : l.OnGrid where
  grid := by rw [h, Nat.zero_mod]
  past := h ▸ Nat.zero_le _

theorem release_onGrid (l : Live) (cause : Nat) : (l.release cause).OnGrid := .of_bondAt_zero rfl

theorem exec_gives_onGrid_of_parts {c : Instr} {s : State} (hs : s.live.OnGrid) (hnow : c.parts.contains .now = false)
    (hbond : c.parts.contains .bondAt = false) : Gives (exec c s) (fun t => t.live.OnGrid) := by
  obtain ⟨t, hnext, hkeeps⟩ := exec_only c s
  have hbit {p : Part} (hp : c.parts.contains p = false) : (partsMask c.parts).testBit p.bit = false :=
    partsMask_testBit (by simpa using hp)
  exact ⟨t, hnext, hs.of_less hkeeps.live (hbit hnow) (hbit hbond)⟩

/-! ### The boundary -/

theorem Live.bondDue_grid {l : Live} (h : l.bondDue = true) : l.now % bondTicks = 0 := by
  simp only [Live.bondDue, Bool.and_eq_true, decide_eq_true_eq] at h
  exact h.1.1.1

/-- A boundary that is taken at a tick of the grid lies on it. -/
theorem Live.OnGrid.at_boundary {l : Live} {n : Nat} (h : n % bondTicks = 0) (hnow : n ≤ l.now) :
    Live.OnGrid { l with bondAt := n } := ⟨h, hnow⟩

/-- Past `Live.nextBond`, the work of a bond changes neither the tick count nor the boundary. -/
theorem bondRun_less (s : State) (env : BondEnv) :
    Live.less 268435450 (s.bondRun env).live = Live.less 268435450 s.live.nextBond := by
  unfold State.bondRun
  dsimp only
  split
  · simp
  · split <;> simp

theorem bondIdle_less (s : State) (env : BondEnv) :
    Live.less 268435450 (s.bondIdle env).live = Live.less 268435450 { s.live with bondAt := s.live.now, bondOn := false } := by
  unfold State.bondIdle
  dsimp only
  repeat' split
  all_goals simp

theorem bondRun_onGrid {s : State} (env : BondEnv) (h : s.live.now % bondTicks = 0) : (s.bondRun env).live.OnGrid :=
  have hnext : s.live.nextBond.OnGrid := ⟨h, Nat.le_refl _⟩
  hnext.of_less (bondRun_less s env) (by decide) (by decide)

theorem bondIdle_onGrid {s : State} (env : BondEnv) (h : s.live.now % bondTicks = 0) : (s.bondIdle env).live.OnGrid :=
  have hnext : Live.OnGrid { s.live with bondAt := s.live.now, bondOn := false } := ⟨h, Nat.le_refl _⟩
  hnext.of_less (bondIdle_less s env) (by decide) (by decide)

theorem release_now (l : Live) (cause : Nat) : (l.release cause).now = l.now := Live.same_now (by simp)

theorem bondBoundary_onGrid (env : BondEnv) {s : State} (hs : s.live.OnGrid) :
    Gives (exec (.bondBoundary env) s) (fun t => t.live.OnGrid) := by
  show Gives (execBondBoundary env s) _
  unfold execBondBoundary
  split
  · exact ⟨_, rfl, hs⟩
  · rename_i hdue
    have hnow : s.live.now % bondTicks = 0 := Live.bondDue_grid (by simpa using hdue)
    split
    · exact ⟨_, rfl, .at_boundary hnow (release_now s.live _).ge⟩
    · refine ⟨_, rfl, ?_⟩
      split
      · exact bondRun_onGrid env hnow
      · exact bondIdle_onGrid env hnow

/-! ### Requests and replies that may end in a reset (R389, R493) -/

/-- `P` is kept by the operation of a request and by every change of the parts that an answer changes (those of `keeps_serve`),
and so by the request. -/
structure Serves (P : State → Prop) (run : State → Nat → Nat → Run) : Prop where
  live : ∀ s l, Live.less 69074944 l = Live.less 69074944 s.live → P s → P { s with live := l }
  run : ∀ s n c, P s → P (run s n c).1

section Serves

variable {P : State → Prop} {run : State → Nat → Nat → Run}

theorem Serves.serveOp (h : Serves P run) {s : State} (q : Req) (check : Check) (hs : P s) : P (s.serveOp q check run) := by
  unfold State.serveOp
  extract_lets n c st l r
  have hl : P { s with live := l } := h.live s l (by simp only [l]; split <;> simp) hs
  have hr : P r.1 := h.run _ n c hl
  clear_value r
  split
  · exact h.live s _ (by simp) hs
  · split
    · exact h.live s _ (by simp) hs
    · split
      · exact h.live r.1 _ (by simp) hr
      · exact hr

theorem Serves.serveFw (h : Serves P run) {s : State} (q : Req) (check : Check) (hs : P s) : P (s.serveFw q check run) := by
  unfold State.serveFw
  extract_lets l s1 n k no l2 s2
  have hs1 : P s1 := h.live s l (by simp [l]) hs
  have hs2 : P s2 := h.live s1 l2 (by simp [l2, s1]) hs1
  have hno (st : Nat) : P (no st) := h.live s1 _ (by simp [s1]) hs1
  have hdenied : P { s2 with live := l2.answer q 0x02 [] } := h.live s2 _ (by simp [s2]) hs2
  have hop : P (s2.serveOp q check run) := h.serveOp q check hs2
  split
  · exact hno _
  · split
    · split
      · exact h.serveOp q check hs1
      · exact hno _
    · split
      · exact hno _
      · split
        · exact h.live s2 _ (by simp [s2]) hs2
        · repeat' split
          all_goals assumption

theorem Serves.serveTurn (h : Serves P run) {s : State} (q : Req) (check : Check) (hs : P s) : P (s.serveTurn q check run) := by
  unfold State.serveTurn
  extract_lets p b
  split
  · exact h.serveFw q check (h.live s _ (by simp) hs)
  · exact h.live s _ (by simp) hs

theorem Serves.serve (h : Serves P run) {s : State} (q : Req) (check : Check) (hs : P s) : P (s.serve q check run) := by
  unfold State.serve
  split
  · exact hs
  · split
    · exact hs
    · exact h.live s _ (by simp) hs
    · exact h.serveTurn q check hs
    · exact h.serveTurn q check hs

end Serves

theorem write_onGrid {s : State} (body : List Byte) (n : Nat) (hs : s.live.OnGrid) : (s.write body n).1.live.OnGrid := by
  unfold State.write
  extract_lets r
  split
  · split
    · exact hs
    · exact release_onGrid r.1 2
  · exact hs.of_less (Live.writeObj_keep s.live body n 119439360 rfl) (by decide) (by decide)

theorem serves_onGrid_write (body : List Byte) : Serves (fun s => s.live.OnGrid) (fun s n _ => s.write body n) where
  live := fun _ _ hl hs => hs.of_less hl (by decide) (by decide)
  run := fun _ n _ hs => write_onGrid body n hs

theorem consume_onGrid {s : State} (port : Nat) (hs : s.live.OnGrid) : (s.consume port).live.OnGrid := by
  unfold State.consume
  extract_lets l
  split
  · exact release_onGrid l _
  · exact hs.of_less (m := 262144) (by simp [l]) (by decide) (by decide)

theorem readDone_onGrid {s : State} (port n : Nat) (hs : s.live.OnGrid) : (s.readDone port n).live.OnGrid := by
  unfold State.readDone
  split
  · split
    · exact consume_onGrid port hs
    · exact hs
  · exact hs

/-- What a port delivers leaves the grid, and so does the reply that it consumes. -/
theorem portOut_readDone_onGrid {s : State} (port n : Nat) (out : List Byte) (hs : s.live.OnGrid) :
    (({ s with live := s.live.portOut port out [] } : State).readDone port n).live.OnGrid :=
  readDone_onGrid port n (hs.of_less (Live.portOut_keep s.live port out [] 262144 rfl) (by decide) (by decide))

/-! ### Every step -/

/-- Every command keeps the last boundary on the grid: it is put at 0 by a reset, at a due tick by BOND_BOUNDARY, and left
alone by every other command. -/
theorem exec_gives_onGrid (c : Instr) {s : State} (hs : s.live.OnGrid) : Gives (exec c s) (fun t => t.live.OnGrid) := by
  cases c with
  | powerOnReset straps => exact ⟨_, rfl, .of_bondAt_zero rfl⟩
  | vinFall => exact ⟨_, rfl, .of_bondAt_zero rfl⟩
  | resetAssert =>
    show Gives (execResetAssert s) _
    unfold execResetAssert
    split
    · exact ⟨_, rfl, hs⟩
    · exact ⟨_, rfl, .of_bondAt_zero rfl⟩
  | resetRelease straps =>
    refine ⟨_, rfl, ?_⟩
    dsimp only
    split
    · exact .of_bondAt_zero rfl
    · exact hs
  | powerReturn =>
    refine ⟨_, rfl, ?_⟩
    dsimp only
    split
    · exact release_onGrid _ 5
    · exact hs
  | safexit =>
    show Gives (execSafexit s) _
    unfold execSafexit
    split
    · exact ⟨_, rfl, release_onGrid _ 2⟩
    · exact ⟨_, rfl, hs⟩
  | bondBoundary env => exact bondBoundary_onGrid env hs
  | msgWrite h obj first words => exact ⟨_, rfl, (serves_onGrid_write _).serve _ _ hs⟩
  | twReadTransfer addr count acked =>
    show Gives (execTwReadTransfer addr count acked s) _
    unfold execTwReadTransfer
    extract_lets l out
    split
    · exact ⟨_, rfl, hs⟩
    · exact ⟨_, rfl, portOut_readDone_onGrid 1 _ _ hs⟩
  | hspReadMessage count =>
    show Gives (execHspReadMessage count s) _
    unfold execHspReadMessage
    extract_lets l
    split
    · exact ⟨_, rfl, hs⟩
    · exact ⟨_, rfl, portOut_readDone_onGrid 0 _ _ hs⟩
  | _ => exact exec_gives_onGrid_of_parts hs rfl rfl

theorem idleTick_onGrid {l : Live} (hl : l.OnGrid) : l.idleTick.OnGrid := by
  unfold Live.idleTick
  split
  · exact hl
  · exact ⟨hl.grid, Nat.le_succ_of_le hl.past⟩

theorem State.Inv.onGrid {s : State} (h : s.Inv) : s.live.OnGrid := ⟨h.grid, h.past⟩

theorem State.Inv.of_onGrid {s : State} (gens : numbersRise s.gens) (hgrid : s.live.OnGrid)
    (queue : ∀ c ∈ s.pending, c.wf = true) : s.Inv := ⟨gens, hgrid.grid, hgrid.past, queue⟩

/-- A command on a state of the invariant ends in one of it. -/
theorem exec_inv {c : Instr} {s t : State} (hs : s.Inv) (h : exec c s = .next t) : t.Inv := by
  have hkeeps := (exec_only c s).of_next h
  obtain ⟨u, hu, hgrid⟩ := exec_gives_onGrid c hs.onGrid
  obtain rfl : t = u := Host.Outcome.next.inj (h.symm.trans hu)
  refine .of_onGrid ?_ hgrid (hkeeps.pending ▸ hs.queue)
  exact (numbersRise_iff_rises _).mpr (hkeeps.rises ((numbersRise_iff_rises _).mp hs.gens))

/-- Settles O4: the idle tick moves the tick count alone, and a command runs on the rest of the queue. -/
theorem everyStepKeepsInvariant : Obligations.EveryStepKeepsInvariant := by
  intro s hs t hstep
  cases hq : s.pending with
  | nil =>
    obtain rfl : _ = t := Host.Outcome.next.inj ((step_of_pending_nil hq).symm.trans hstep)
    exact .of_onGrid hs.gens (idleTick_onGrid hs.onGrid) hs.queue
  | cons c rest =>
    have hexec : exec c { s with pending := rest } = .next t := by rw [← hstep, step, hq]
    have hrest : State.Inv { s with pending := rest } :=
      ⟨hs.gens, hs.grid, hs.past, fun d hd => hs.queue d (hq ▸ List.mem_cons_of_mem c hd)⟩
    exact exec_inv hrest hexec

end Sys2Proof.Machine
end

section
/-! PROOFS. The reference and the supplies: what their loss and their return do, ring by ring, and the details that they send. -/
open Sys2Proof Sys2Proof.Machine
namespace Sys2Proof.Machine

/-! ## Training of one ring (R99) -/

theorem Live.ring_congr {l k : Live} (h : k.rings = l.rings) (n : Nat) : k.ring n = l.ring n := by
  rw [Live.ring, h, Live.ring]

theorem Live.ringLeaves_ring (l : Live) (n k : Nat) : (l.ringLeaves n).ring k = l.ring k :=
  Live.ring_congr (Live.same_rings (by simp)) k

theorem Live.ringTo_ring_other (l : Live) (st : RingSt) {n k : Nat} (h : k ≠ n) : (l.ringTo n st).ring k = l.ring k := by
  unfold Live.ringTo
  extract_lets old l1 l2
  have h1 : l1.ring k = l.ring k := by
    simp only [l1]
    split
    · exact Live.ringLeaves_ring l n k
    · rfl
  have h2 : l2.ring k = l.ring k := (Live.modRing_ring_other _ _ _ _ h).trans h1
  split
  · exact h2
  · exact h2

theorem Live.ringTrain_ring_other (l : Live) {n k : Nat} (h : k ≠ n) : (l.ringTrain n).ring k = l.ring k :=
  (Live.modRing_ring_other _ _ _ _ h).trans (Live.ringTo_ring_other l _ h)

theorem Live.ringTo_st (l : Live) (n : Nat) (st : RingSt) : ((l.ringTo n st).ring n).st = st := by
  unfold Live.ringTo
  dsimp only
  split <;> simp

theorem Live.ringTrain_st (l : Live) (n : Nat) : ((l.ringTrain n).ring n).st = .training := by
  simp [Live.ringTrain, Live.ringTo_st]

theorem Live.ringTrain_refSilent (l : Live) (n : Nat) : ((l.ringTrain n).ring n).refSilent = l.pwr.refLoss := by
  simp [Live.ringTrain]

/-! ## Details sent to the collector (R371, R372) -/

theorem Live.detailOf_mem_raise (l : Live) (code obj aux : Nat) : l.detailOf code obj aux ∈ (l.raise code obj aux).fc.details :=
  List.mem_append_right _ (List.mem_singleton_self _)

/-- A detail is stamped with the tick, and nothing else of the state. -/
theorem Live.detailOf_congr {l k : Live} (h : k.now = l.now) (code obj aux : Nat) : k.detailOf code obj aux = l.detailOf code obj aux := by
  simp only [Live.detailOf, Live.tick, h]

/-! ## Work that visits the rings one by one -/

/-- `k` comes of `l` by changes that leave the tick and the power state and take no detail back. -/
structure Live.Leads (l k : Live) : Prop where
  now : k.now = l.now
  pwr : k.pwr = l.pwr
  details : l.fc.details ⊆ k.fc.details

theorem Live.Leads.refl (l : Live) : l.Leads l := ⟨rfl, rfl, List.Subset.refl _⟩

theorem Live.Leads.trans {l k j : Live} (a : l.Leads k) (b : k.Leads j) : l.Leads j :=
  ⟨b.now.trans a.now, b.pwr.trans a.pwr, List.Subset.trans a.details b.details⟩

theorem Live.ringTrain_leads (l : Live) (n : Nat) : l.Leads (l.ringTrain n) where
  now := Live.same_now (by simp)
  pwr := Live.same_pwr (by simp)
  details := by
    have hfc : (l.ringTrain n).fc = l.fc := Live.same_fc (by simp)
    rw [hfc]
    exact List.Subset.refl _

theorem Live.raise_leads (l : Live) (code obj : Nat) : l.Leads (l.raise code obj) :=
  ⟨rfl, rfl, List.subset_append_left _ _⟩

/-- Work on one ring: it leaves the other rings, and it leads on. -/
structure RingWork (f : Live → Nat → Live) : Prop where
  other : ∀ (l : Live) {n k : Nat}, k ≠ n → (f l n).ring k = l.ring k
  leads : ∀ (l : Live) (n : Nat), l.Leads (f l n)

/-- What the work on rings makes of ring `n`: the work meets the ring as it was, in a state `a` on the way. -/
def WorkedAt (f : Live → Nat → Live) (l k : Live) (n : Nat) : Prop :=
  ∃ a, l.Leads a ∧ a.ring n = l.ring n ∧ k.ring n = (f a n).ring n ∧ (f a n).Leads k

theorem Live.each_succ (l : Live) (n : Nat) (f : Live → Nat → Live) : l.each (n + 1) f = f (l.each n f) n := by
  simp [Live.each, List.range_succ]

theorem RingWork.each_leads {f : Live → Nat → Live} (h : RingWork f) (l : Live) (n : Nat) : l.Leads (l.each n f) := by
  induction n with
  | zero => exact .refl l
  | succ n ih => exact Live.each_succ l n f ▸ ih.trans (h.leads _ n)

theorem RingWork.each_ring_above {f : Live → Nat → Live} (h : RingWork f) (l : Live) {n k : Nat} (hk : n ≤ k) :
    (l.each n f).ring k = l.ring k := by
  induction n with
  | zero => rfl
  | succ n ih =>
    rw [Live.each_succ, h.other _ (by omega)]
    exact ih (by omega)

theorem RingWork.each_worked {f : Live → Nat → Live} (h : RingWork f) (l : Live) {n k : Nat} (hk : k < n) :
    WorkedAt f l (l.each n f) k := by
  induction n with
  | zero => exact absurd hk (Nat.not_lt_zero k)
  | succ n ih =>
    rw [Live.each_succ]
    rcases Nat.lt_succ_iff_lt_or_eq.mp hk with hlt | rfl
    · obtain ⟨a, hla, hring, hout, hlead⟩ := ih hlt
      exact ⟨a, hla, hring, (h.other _ (by omega)).trans hout, hlead.trans (h.leads _ n)⟩
    · exact ⟨l.each k f, h.each_leads l k, h.each_ring_above l (Nat.le_refl k), rfl, .refl _⟩

/-! ## Loss of the reference and its return (R33, R34) -/

/-- What REF_LOSS does to one ring. -/
def Live.refSilence (l : Live) (n : Nat) : Live :=
  match (l.ring n).st with
  | .off => l
  | .running => (l.raise 0x1002 (oRing n)).ringTrain n
  | .overbooked => (l.raise 0x1002 (oRing n)).ringTrain n
  | _ => l.ringTrain n

theorem Live.refSilence_off {l : Live} {n : Nat} (h : (l.ring n).st = .off) : l.refSilence n = l := by
  simp only [Live.refSilence, h]

theorem Live.refSilence_course {l : Live} {n : Nat} (h : (l.ring n).st = .running ∨ (l.ring n).st = .overbooked) :
    l.refSilence n = (l.raise 0x1002 (oRing n)).ringTrain n := by
  rcases h with h | h <;> simp only [Live.refSilence, h]

/-- A ring that is not OFF trains; one that carried a course is reported first. -/
theorem Live.refSilence_eq_ringTrain {l : Live} {n : Nat} (h : (l.ring n).st ≠ .off) :
    ∃ k, l.Leads k ∧ k.rings = l.rings ∧ l.refSilence n = k.ringTrain n := by
  unfold Live.refSilence
  split
  · contradiction
  · exact ⟨_, l.raise_leads _ _, rfl, rfl⟩
  · exact ⟨_, l.raise_leads _ _, rfl, rfl⟩
  · exact ⟨l, .refl l, rfl, rfl⟩

theorem ringWork_refSilence : RingWork Live.refSilence where
  other := by
    intro l n k hk
    by_cases hoff : (l.ring n).st = .off
    · rw [Live.refSilence_off hoff]
    · obtain ⟨j, _, hrings, htrain⟩ := Live.refSilence_eq_ringTrain hoff
      rw [htrain, Live.ringTrain_ring_other j hk, Live.ring_congr hrings]
  leads := by
    intro l n
    by_cases hoff : (l.ring n).st = .off
    · rw [Live.refSilence_off hoff]
      exact .refl l
    · obtain ⟨j, hlead, _, htrain⟩ := Live.refSilence_eq_ringTrain hoff
      exact htrain ▸ hlead.trans (j.ringTrain_leads n)

theorem Live.refSilence_trains {l : Live} {n : Nat} (h : (l.ring n).st ≠ .off) :
    ((l.refSilence n).ring n).st = .training ∧ ((l.refSilence n).ring n).refSilent = l.pwr.refLoss := by
  obtain ⟨j, hlead, _, htrain⟩ := Live.refSilence_eq_ringTrain h
  rw [htrain, ← hlead.pwr]
  exact ⟨j.ringTrain_st n, j.ringTrain_refSilent n⟩

theorem Live.refSilence_reports {l : Live} {n : Nat} (h : (l.ring n).st = .running ∨ (l.ring n).st = .overbooked) :
    l.detailOf 0x1002 (oRing n) ∈ (l.refSilence n).fc.details := by
  rw [Live.refSilence_course h]
  exact (Live.ringTrain_leads _ n).details (l.detailOf_mem_raise _ _ 0)

/-- What REF_LOSS notes before it silences the rings. -/
def Live.refLost (l : Live) : Live := (l.modPwr fun p => { p with refLoss := true, timeEst := true }).raise 0x0001 0

theorem Live.refLost_ring (l : Live) (n : Nat) : l.refLost.ring n = l.ring n := rfl
theorem Live.refLost_now (l : Live) : l.refLost.now = l.now := rfl

theorem exec_refLoss {s : State} (hloss : s.live.pwr.refLoss = false) (hoff : s.live.pwr.st ≠ .off) :
    exec .refLoss s = s.upd fun l => l.refLost.each 8 Live.refSilence := by
  refine upd_congr (f := fun l => if l.pwr.refLoss || l.pwr.st = .off then l else l.refLost.each 8 Live.refSilence) ?_
  exact if_neg (by simp [hloss, hoff])

theorem refLoss_acts {s : State} (hloss : s.live.pwr.refLoss = false) (hoff : s.live.pwr.st ≠ .off) :
    Gives (exec .refLoss s) (fun t => t.live.pwr.refLoss = true ∧ t.live.pwr.timeEst = true ∧
      s.live.detailOf 0x0001 0 ∈ t.live.fc.details ∧
      (∀ n, n < 8 → (s.live.ring n).st ≠ .off → (t.live.ring n).st = .training ∧ (t.live.ring n).refSilent = true) ∧
      (∀ n, n < 8 → (s.live.ring n).st = .running ∨ (s.live.ring n).st = .overbooked →
        s.live.detailOf 0x1002 (0x1000 + n) ∈ t.live.fc.details) ∧
      (∀ n, (s.live.ring n).st = .off → t.live.ring n = s.live.ring n)) := by
  have hlead := ringWork_refSilence.each_leads s.live.refLost 8
  have hat (n : Nat) (hn : n < 8) := ringWork_refSilence.each_worked s.live.refLost hn
  have habove (n : Nat) (hn : 8 ≤ n) := ringWork_refSilence.each_ring_above s.live.refLost hn
  have hexec := exec_refLoss hloss hoff
  simp only [State.upd, Live.refLost_ring, WorkedAt] at hexec hat habove
  generalize s.live.refLost.each 8 Live.refSilence = k at hexec hlead hat habove
  refine ⟨_, hexec, ?_, ?_, ?_, fun n hn hst => ?_, fun n hn hst => ?_, fun n hst => ?_⟩
  · exact congrArg Pwr.refLoss hlead.pwr
  · exact congrArg Pwr.timeEst hlead.pwr
  · exact hlead.details (Live.detailOf_mem_raise _ 0x0001 0 0)
  · obtain ⟨a, hla, hring, hout, _⟩ := hat n hn
    obtain ⟨htrain, hsilent⟩ := Live.refSilence_trains (hring.symm ▸ hst)
    rw [hout]
    exact ⟨htrain, hsilent.trans (congrArg Pwr.refLoss hla.pwr)⟩
  · obtain ⟨a, hla, hring, _, hlast⟩ := hat n hn
    have hmem := hlast.details (Live.refSilence_reports (hring.symm ▸ hst))
    rwa [Live.detailOf_congr (hla.now.trans s.live.refLost_now)] at hmem
  · rcases Nat.lt_or_ge n 8 with hn | hn
    · obtain ⟨a, _, hring, hout, _⟩ := hat n hn
      rw [hout, Live.refSilence_off (hring.symm ▸ hst), hring]
    · exact habove n hn

/-- What REF_RETURN does to one ring. -/
def Live.refWake (l : Live) (n : Nat) : Live :=
  if (l.ring n).refSilent then l.modRing n fun r => { r with refSilent := false, silent := false, since := l.now } else l

theorem Live.refWake_of_refSilent {l : Live} {n : Nat} (h : (l.ring n).refSilent = true) :
    (l.refWake n).ring n = { l.ring n with refSilent := false, silent := false, since := l.now } := by
  rw [Live.refWake, if_pos h, Live.modRing_ring_same]

theorem Live.refWake_of_not_refSilent {l : Live} {n : Nat} (h : (l.ring n).refSilent = false) : l.refWake n = l :=
  if_neg (by simp [h])

theorem ringWork_refWake : RingWork Live.refWake where
  other := by
    intro l n k hk
    unfold Live.refWake
    split
    · exact Live.modRing_ring_other _ _ _ _ hk
    · rfl
  leads := by
    intro l n
    unfold Live.refWake
    split
    · exact ⟨rfl, rfl, List.Subset.refl _⟩
    · exact .refl l

/-- What REF_RETURN notes before it lets the rings train. -/
def Live.refBack (l : Live) : Live := l.modPwr fun p => { p with refLoss := false, timeEst := false }

theorem Live.refBack_ring (l : Live) (n : Nat) : l.refBack.ring n = l.ring n := rfl
theorem Live.refBack_now (l : Live) : l.refBack.now = l.now := rfl

theorem exec_refReturn {s : State} (h : s.live.pwr.refLoss = true) :
    exec .refReturn s = s.upd fun l => l.refBack.each 8 Live.refWake :=
  upd_congr (f := fun l => if !l.pwr.refLoss then l else l.refBack.each 8 Live.refWake) (if_neg (by simp [h]))

theorem refReturn_acts {s : State} (h : s.live.pwr.refLoss = true) :
    Gives (exec .refReturn s) (fun t => t.live.pwr.refLoss = false ∧ t.live.pwr.timeEst = false ∧
      (∀ n, n < 8 → (s.live.ring n).refSilent = true →
        t.live.ring n = { s.live.ring n with refSilent := false, silent := false, since := s.live.now }) ∧
      (∀ n, (s.live.ring n).refSilent = false → t.live.ring n = s.live.ring n)) := by
  have hlead := ringWork_refWake.each_leads s.live.refBack 8
  have hat (n : Nat) (hn : n < 8) := ringWork_refWake.each_worked s.live.refBack hn
  have habove (n : Nat) (hn : 8 ≤ n) := ringWork_refWake.each_ring_above s.live.refBack hn
  have hexec := exec_refReturn h
  simp only [State.upd, Live.refBack_ring, WorkedAt] at hexec hat habove
  generalize s.live.refBack.each 8 Live.refWake = k at hexec hlead hat habove
  refine ⟨_, hexec, ?_, ?_, fun n hn hsil => ?_, fun n hsil => ?_⟩
  · exact congrArg Pwr.refLoss hlead.pwr
  · exact congrArg Pwr.timeEst hlead.pwr
  · obtain ⟨a, hla, hring, hout, _⟩ := hat n hn
    rw [hout, Live.refWake_of_refSilent (hring.symm ▸ hsil), hring, hla.now, Live.refBack_now]
  · rcases Nat.lt_or_ge n 8 with hn | hn
    · obtain ⟨a, _, hring, hout, _⟩ := hat n hn
      rw [hout, Live.refWake_of_not_refSilent (hring.symm ▸ hsil), hring]
    · exact habove n hn

/-! ## Supply faults (R37, R376, R608) -/

/-- A source sends its detail and the collector notes the source; nothing outside the collector changes. -/
theorem upd_raise_gives (s : State) (code obj aux : Nat) (f : Fc → Fc) :
    Gives (s.upd fun l => (l.raise code obj aux).modFc f) (fun t =>
      t.live.fc = f (s.live.raise code obj aux).fc ∧ SameBut [.fc] s t) :=
  upd_gives_sameBut (m := 32768) (by simp) [.fc] (by decide) rfl

theorem domainDown_raises {s : State} {d : Fin 8} (hon : s.live.pwr.on.getLsbD d = true) (hnew : d.val ∉ s.live.fc.domLost) :
    Gives (exec (.domainDown d) s) (fun t => Raised s t [s.live.detailOf 0x0002 0 d] ∧ SameBut [.fc] s t) := by
  have hexec : exec (.domainDown d) s =
      s.upd fun l => (l.raise 0x0002 0 d).modFc fun f => { f with domLost := f.domLost ++ [d.val] } :=
    upd_congr (if_pos (by simpa [Live.dom, hon] using hnew))
  obtain ⟨t, hnext, hfc, hframe⟩ := upd_raise_gives s 0x0002 0 d _
  exact ⟨t, hexec.trans hnext, congrArg Fc.details hfc, hframe⟩

theorem vcoreLow_raises {s : State} (cond : VcoreCond) (hoff : s.live.pwr.st ≠ .off) :
    Gives (exec (.vcoreLow cond) s) (fun t => Raised s t [s.live.detailOf 0x0003 0 (vcoreNum cond)] ∧ SameBut [.fc] s t) := by
  have hexec : exec (.vcoreLow cond) s = s.upd fun l => (l.raise 0x0003 0 (vcoreNum cond)).modFc fun f =>
      { f with vlow := if f.vlow.contains (vcoreNum cond) then f.vlow else f.vlow ++ [vcoreNum cond] } :=
    upd_congr (f := fun l => if l.pwr.st = .off then l else _) (if_neg hoff)
  obtain ⟨t, hnext, hfc, hframe⟩ := upd_raise_gives s 0x0003 0 (vcoreNum cond) _
  exact ⟨t, hexec.trans hnext, congrArg Fc.details hfc, hframe⟩

theorem vcoreIlim_raises {s : State} (hoff : s.live.pwr.st ≠ .off) :
    Gives (exec .vcoreIlim s) (fun t => Raised s t [s.live.detailOf 0x0004 0] ∧ t.live.fc.ilim = true ∧ SameBut [.fc] s t) := by
  have hexec : exec .vcoreIlim s = s.upd fun l => (l.raise 0x0004 0).modFc fun f => { f with ilim := true } :=
    upd_congr (f := fun l => if l.pwr.st = .off then l else _) (if_neg hoff)
  obtain ⟨t, hnext, hfc, hframe⟩ := upd_raise_gives s 0x0004 0 0 _
  exact ⟨t, hexec.trans hnext, congrArg Fc.details hfc, congrArg Fc.ilim hfc, hframe⟩

/-- Settles O9: each clause is what its event does, the reference ring by ring. -/
theorem supplyAndReferenceFaultsAct : Obligations.SupplyAndReferenceFaultsAct :=
  ⟨fun _ => ⟨refLoss_acts, refReturn_acts⟩,
    fun _ => ⟨fun _ => domainDown_raises, fun hoff =>
      ⟨vcoreLow_raises .undervoltage hoff, vcoreLow_raises .mismatch hoff, vcoreIlim_raises hoff⟩⟩⟩

end Sys2Proof.Machine
end

section
/-! PROOFS. The start of a course: what a ring holds of it when its header has been sent. -/
open Sys2Proof Sys2Proof.Machine
namespace Sys2Proof.Machine

/-! ## The start of a course (R45, R57, R58, R81, R98) -/

/-- What a ring holds of a course that starts: `g` is the ring before it, `g'` with the course under way. -/
structure CourseBegun (g g' : Ring) (start idx num : Nat) : Prop where
  inCourse : g'.inCourse = true
  start : g'.start = start
  idx : g'.idx = idx
  num : g'.num = BitVec.ofNat 16 num
  called : g'.called = false
  downSent : g'.downSent = false
  checked : g'.checked = false
  runCourse : g'.runCourse = decide (g'.st = .running)
  upFinal : g'.upFinal = !g'.runCourse
  passes : g'.passes = g.rangeEnd.passes
  lastPass : g'.lastPass = g.rangeEnd.lastPass

theorem Ring.rangeEnd_st (g : Ring) : g.rangeEnd.st = g.st := by
  unfold Ring.rangeEnd
  split <;> rfl

theorem Ring.rangeEnd_start (g : Ring) : g.rangeEnd.start = g.start := by
  unfold Ring.rangeEnd
  split <;> rfl

theorem Ring.rangeEnd_missed {g : Ring} (hst : g.st = .ranging) (hin : g.inCourse = true) (hgot : g.rangeGot = false) :
    g.rangeEnd = { g with passes := g.passes + 1, lastPass := none } :=
  if_pos (by simp [hst, hin, hgot])

/-- The header begins the course. -/
theorem sendHeader_begins (l : Live) (n idx : Nat) :
    CourseBegun (l.ring n) ((l.sendHeader n idx).ring n) (l.ring n).start idx (l.bond * l.perBond n + idx) := by
  unfold Live.sendHeader
  extract_lets g k num run rel flags h l1
  have hring : (l1.modK fun k => if rel then
      { k with releaseRings := k.releaseRings.filter (· ≠ n), releasing := if k.coldAfter = 0 then [] else n :: k.releasing }
      else k).ring n = l1.ring n := rfl
  rw [hring]
  simp only [l1, Live.modRing_ring_same]
  exact ⟨rfl, Ring.rangeEnd_start _, rfl, rfl, rfl, rfl, rfl, by simp only [Ring.rangeEnd_st, run, g], rfl, rfl, rfl⟩

/-! ### The items behind the header -/

/-- A ring without what the tail and the windows put on the line. -/
def Ring.bare (g : Ring) : Ring := { g with line := [], mgmtq := [] }

/-- The items on the line and the bricks that wait for the tail are no part of what a course begins with. -/
theorem CourseBegun.of_bare {g g' h : Ring} {start idx num : Nat} (hb : CourseBegun g g' start idx num) (e : h.bare = g'.bare) :
    CourseBegun g h start idx num where
  inCourse := (congrArg Ring.inCourse e).trans hb.inCourse
  start := (congrArg Ring.start e).trans hb.start
  idx := (congrArg Ring.idx e).trans hb.idx
  num := (congrArg Ring.num e).trans hb.num
  called := (congrArg Ring.called e).trans hb.called
  downSent := (congrArg Ring.downSent e).trans hb.downSent
  checked := (congrArg Ring.checked e).trans hb.checked
  runCourse := (congrArg Ring.runCourse e).trans (hb.runCourse.trans (congrArg (fun r : Ring => decide (r.st = .running)) e).symm)
  upFinal := (congrArg Ring.upFinal e).trans (hb.upFinal.trans (congrArg (fun r : Ring => !r.runCourse) e).symm)
  passes := (congrArg Ring.passes e).trans hb.passes
  lastPass := (congrArg Ring.lastPass e).trans hb.lastPass

theorem modRing_bare (l : Live) (n : Nat) {f : Ring → Ring} (hf : ∀ g, (f g).bare = g.bare) (k : Nat) :
    ((l.modRing n f).ring k).bare = (l.ring k).bare := by
  rw [Live.modRing_ring]
  split
  next h => rw [h, hf]
  next => rfl

theorem put64_bare (l : Live) (n at_ : Nat) (b : BitVec 64) (k : Nat) : ((l.put64 n at_ b).ring k).bare = (l.ring k).bare :=
  modRing_bare l n (by exact fun _ => rfl) k

theorem putRun_bare (l : Live) (n at_ : Nat) (bs : List (BitVec 64)) (k : Nat) :
    ((l.putRun n at_ bs).ring k).bare = (l.ring k).bare :=
  Live.forL_keeps (fun l => (l.ring k).bare) l _ _ fun l p => put64_bare l n _ p.2 k

theorem tailWork_bare (l : Live) (n at_ room k : Nat) : ((l.tailWork n at_ room).ring k).bare = (l.ring k).bare := by
  unfold Live.tailWork
  extract_lets os due qs rest l1 l2
  have h1 : (l1.ring k).bare = (l.ring k).bare := putRun_bare _ _ _ _ _
  have h2 : (l2.ring k).bare = (l1.ring k).bare := modRing_bare l1 n (by exact fun _ => rfl) k
  refine (Live.forL_keeps (fun l => (l.ring k).bare) l2 (due ++ rest) _ fun _ _ => ?_).trans (h2.trans h1)
  rfl

theorem fillCourse_bare (l : Live) (n idx k : Nat) : ((l.fillCourse n idx).ring k).bare = (l.ring k).bare := by
  unfold Live.fillCourse
  extract_lets g room at_ l1 d l2
  split
  · exact (tailWork_bare _ _ _ _ _).trans (put64_bare _ _ _ _ _)
  · have h1 : (l1.ring k).bare = (l.ring k).bare := by
      simp only [l1]
      split
      · exact putRun_bare _ _ _ _ _
      · rfl
    exact (tailWork_bare _ _ _ _ _).trans ((putRun_bare _ _ _ _ _).trans h1)

/-! ### The course -/

/-- The courses per bond are those of the image in force. -/
theorem Live.perBond_congr {l k : Live} (h : k.img = l.img) (n : Nat) : k.perBond n = l.perBond n := by
  unfold Live.perBond Live.rate Live.given Live.cf Live.cw
  rw [h]

/-- The start of a course is noted and its header sent. -/
def Live.courseHeader (l : Live) (n idx : Nat) : Live := (l.modRing n fun g => { g with start := l.now }).sendHeader n idx

/-- Before its header a course's start leaves the timebase and the image as they are, and a RANGING ring; behind it, only
items of the line are added to the ring. -/
theorem courseStart_header (l : Live) (n : Nat) :
    ∃ k, Live.less 68288480 k = Live.less 68288480 l ∧ ((l.ring n).st = .ranging → k.ring n = l.ring n) ∧
      ((l.courseStart n).ring n).bare = ((k.courseHeader n ((l.now - l.bondAt) / l.period n)).ring n).bare := by
  unfold Live.courseStart
  extract_lets old idx l1 l2 mine l3 l4 l5 rel l6 l7 l8 l9 l10 l11 rs l12 l13 l14 l15 l16
  have hstrings : Live.less 40960 l3 = Live.less 40960 l2 := Live.less_forL fun a x => by split <;> simp
  refine ⟨l5, ?_, fun hranging => ?_, ?_⟩
  · have hbefore : Live.less 68288480 l2 = Live.less 68288480 l := by simp [l2, l1, Live.less_ite]
    have hafter : Live.less 68288480 l5 = Live.less 68288480 l3 := by simp [l5, l4, Live.less_ite]
    exact hafter.trans ((Live.less_le rfl hstrings).trans hbefore)
  · have h1 : l1 = l := if_neg (by simp [hranging])
    have h2 : l2.ring n = l1.ring n := Live.ring_congr (Live.same_rings (by simp [l2])) n
    have h3 : l3.ring n = l.ring n := by rw [Live.ring_congr (Live.less_rings hstrings (by decide)), h2, h1]
    have h4 : l4 = l3 := if_neg (by simp [h3, hranging])
    have h5 : l5.ring n = l4.ring n := Live.ring_congr (Live.same_rings (by simp [l5, Live.less_ite])) n
    rw [h5, h4, h3]
  · have h8 : l8.rings = l6.rings := Live.same_rings (by simp [l8, l7, Live.less_ite])
    have h9 : l9.rings = l8.rings := Live.same_rings (Live.less_forL fun _ _ => by split <;> simp)
    have h10 : l10.rings = l9.rings := Live.same_rings (Live.less_forL fun _ _ => by simp)
    have h11 : l11.rings = l10.rings := Live.same_rings (Live.less_forL fun _ _ => by simp)
    have hrs : rs.rings = l11.rings := Live.same_rings (Live.less_forL fun _ _ => by simp)
    have h13 : l13.rings = rs.rings :=
      Live.same_rings (less_if rfl (Live.less_forL fun _ _ => by simp))
    have h14 : l14.rings = l13.rings := Live.same_rings (by simp [l14])
    have h15 : l15.rings = l14.rings :=
      Live.same_rings (less_if rfl (Live.less_forL fun _ _ => by simp))
    have h16 : l16.rings = l15.rings := Live.same_rings (Live.less_each fun _ _ => by split <;> simp)
    have hbehind : l16.rings = l6.rings := by rw [h16, h15, h14, h13, hrs, h11, h10, h9, h8]
    rw [fillCourse_bare, Live.ring_congr hbehind]
    rfl

theorem courseHeader_begins (l : Live) (n idx : Nat) :
    CourseBegun { l.ring n with start := l.now } ((l.courseHeader n idx).ring n) l.now idx (l.bond * l.perBond n + idx) := by
  have h := sendHeader_begins (l.modRing n fun g => { g with start := l.now }) n idx
  rw [Live.modRing_ring_same] at h
  exact h

theorem courseStart_begins (l : Live) (n : Nat) :
    ∃ g : Ring, ((l.ring n).st = .ranging → g = { l.ring n with start := l.now }) ∧
      CourseBegun g ((l.courseStart n).ring n) l.now ((l.now - l.bondAt) / l.period n)
        (l.bond * l.perBond n + (l.now - l.bondAt) / l.period n) := by
  obtain ⟨k, hless, hranging, hbare⟩ := courseStart_header l n
  have hnow : k.now = l.now := Live.less_now hless (by decide)
  have hbond : k.bond = l.bond := Live.less_bond hless (by decide)
  have himg : k.img = l.img := Live.less_img hless (by decide)
  have hbegun := (courseHeader_begins k n ((l.now - l.bondAt) / l.period n)).of_bare hbare
  rw [hnow, hbond, Live.perBond_congr himg] at hbegun
  exact ⟨_, fun hst => by rw [hranging hst], hbegun⟩

theorem Live.courseDue_working {l : Live} {n : Nat} (h : l.courseDue n = true) : l.working = true := by
  unfold Live.courseDue at h
  simp only [Bool.and_eq_true] at h
  tauto

theorem exec_courseStart {s : State} {n : Fin 8} (hdue : s.live.courseDue n = true) (hcold : s.live.keeper.coldAfter = 0) :
    exec (.courseStart n) s = s.upd fun l => l.courseStart n := by
  have hended : s.live.releaseEnded n = s.live := if_pos hcold
  refine upd_congr ((if_pos hdue).trans ?_)
  dsimp only
  rw [hended, if_pos (Live.courseDue_working hdue)]

/-- Settles O14: the timebase gives the course its number, the header notes it, and a RANGING ring comes to its header as it was. -/
theorem courseStartsOnTheGrid : Obligations.CourseStartsOnTheGrid := by
  intro s n hdue hcold
  obtain ⟨g, hg, hbegun⟩ := courseStart_begins s.live n
  have hnow : (s.live.courseStart n).now = s.live.now := Live.same_now (by simp)
  have hbond : (s.live.courseStart n).bond = s.live.bond := Live.same_bond (by simp)
  have hexec := exec_courseStart hdue hcold
  simp only [State.upd] at hexec
  generalize s.live.courseStart n = k at hexec hbegun hnow hbond
  refine ⟨_, hexec, hbegun.inCourse, hbegun.start, hbegun.idx, hbegun.num, hbegun.called, hbegun.downSent, hbegun.checked,
    hnow, hbond, hbegun.runCourse, hbegun.upFinal, fun hst hin hgot => ?_⟩
  have hmissed : g.rangeEnd = { g with passes := g.passes + 1, lastPass := none } := by
    rw [hg hst]
    exact Ring.rangeEnd_missed hst hin hgot
  refine ⟨hbegun.passes.trans ?_, hbegun.lastPass.trans ?_⟩
  · rw [hmissed, hg hst]
  · rw [hmissed]

end Sys2Proof.Machine
end

section
/-! PROOFS. Training of a ring: alignment, a training failure and its silence, and the loss of alignment. -/
open Sys2Proof Sys2Proof.Machine
namespace Sys2Proof.Machine

/-! ## Counters apart (Table 2.20) -/

/-- `k` is `l` but for counters and their overflow bits. -/
def Live.Counted (l k : Live) : Prop := Live.less 68157440 k = Live.less 68157440 l

namespace Live.Counted
variable {l k : Live}

theorem now (h : l.Counted k) : k.now = l.now := Live.less_now h (by decide)
theorem fc (h : l.Counted k) : k.fc = l.fc := Live.less_fc h (by decide)
theorem img (h : l.Counted k) : k.img = l.img := Live.less_img h (by decide)
theorem ring (h : l.Counted k) (n : Nat) : k.ring n = l.ring n := Live.ring_congr (Live.less_rings h (by decide)) n

theorem trans {j : Live} (a : l.Counted k) (b : k.Counted j) : l.Counted j := Eq.trans b a

end Live.Counted

theorem Live.codeErr_counted (l : Live) (n : Nat) (errs : List GroupErr) : l.Counted (l.codeErr n errs) :=
  Live.codeErr_keep l n errs _ rfl

theorem Live.ringCount_counted (l : Live) (n k times : Nat) : l.Counted (l.ringCount n k times) :=
  Live.ringCount_keep l n k times _ rfl

/-! ## A ring's change of state (Table 2.17) -/

/-- What a change of state makes of the ring itself. -/
def Ring.entered (g : Ring) (st : RingSt) (now : Nat) : Ring :=
  { g with
    st := st, since := now, drift := 0, dmissRun := 0, hdrFails := 0
    inCourse := if st = .running || st = .overbooked || st = .ranging then g.inCourse else false
    mgmtq := if st = .running || st = .overbooked then g.mgmtq else [] }

theorem Live.ringTo_ring_same (l : Live) (n : Nat) (st : RingSt) : (l.ringTo n st).ring n = (l.ring n).entered st l.now := by
  unfold Live.ringTo
  extract_lets old l1 l2
  have hring : l1.ring n = l.ring n := by
    simp only [l1]
    split
    · exact Live.ringLeaves_ring l n n
    · rfl
  have hnow : l1.now = l.now := Live.same_now (by simp [l1, Live.less_ite])
  have hafter : l2.ring n = (l.ring n).entered st l.now := by
    simp only [l2, Live.modRing_ring_same, hring, hnow]
    rfl
  split
  · exact hafter
  · exact hafter

/-- A ring that was not RUNNING takes no tile and no station with it. -/
theorem Live.ringTo_keep_of_not_running {l : Live} {n : Nat} (st : RingSt) (h : (l.ring n).st ≠ .running) :
    Live.less 65568 (l.ringTo n st) = Live.less 65568 l := by
  simp [Live.ringTo, h, Live.less_ite]

theorem Live.ringTrain_ring_same (l : Live) (n : Nat) :
    (l.ringTrain n).ring n = { (l.ring n).entered .training l.now with
      passes := 0, lastPass := none, silent := false, refSilent := l.pwr.refLoss } := by
  rw [Live.ringTrain, Live.modRing_ring_same, Live.ringTo_ring_same]

theorem Live.ringTrain_fc (l : Live) (n : Nat) : (l.ringTrain n).fc = l.fc := Live.same_fc (by simp)

/-- A ring that trains again after a detail of its own: exactly that detail is sent. -/
theorem raise_ringTrain_raised {s : State} {k : Live} (n code obj : Nat) (hnow : k.now = s.live.now) (hfc : k.fc = s.live.fc) :
    Raised s { s with live := (k.raise code obj).ringTrain n } [s.live.detailOf code obj] := by
  unfold Raised
  rw [Live.ringTrain_fc, ← Live.detailOf_congr hnow, ← hfc]
  rfl

theorem Live.ringLost_of_running {l : Live} {n : Nat} (h : (l.ring n).st = .running) :
    l.ringLost n = (l.raise 0x1002 (oRing n)).ringTrain n := by
  simp only [Live.ringLost, h]

theorem Live.ringLost_of_ranging {l : Live} {n : Nat} (h : (l.ring n).st = .ranging) : l.ringLost n = l.ringTrain n := by
  simp only [Live.ringLost, h]

/-- What the loss of a RUNNING ring comes to: it trains, its course ends, and `RING_DOWN` is sent. -/
structure RingDown (s : State) (n : Nat) (t : State) : Prop where
  st : (t.live.ring n).st = .training
  inCourse : (t.live.ring n).inCourse = false
  raised : Raised s t [s.live.detailOf 0x1002 (oRing n)]

theorem RingDown.reported {s t : State} {n : Nat} (h : RingDown s n t) : s.live.detailOf 0x1002 (oRing n) ∈ t.live.fc.details := by
  rw [h.raised]
  exact List.mem_append_right _ (List.mem_singleton_self _)

/-- The ring may be lost in a state on the way that has the tick and the collector of `s`. -/
theorem ringLost_ringDown {s : State} {k : Live} {n : Nat} (hst : (k.ring n).st = .running) (hnow : k.now = s.live.now)
    (hfc : k.fc = s.live.fc) : RingDown s n { s with live := k.ringLost n } := by
  rw [Live.ringLost_of_running hst]
  exact ⟨Live.ringTrain_st _ n, congrArg Ring.inCourse (Live.ringTrain_ring_same _ n), raise_ringTrain_raised n _ _ hnow hfc⟩

/-! ## Training (R99, R132, Table 2.17) -/

/-- What a command makes of the controller's part, with all but a list of parts as it was. -/
theorem live_sameBut {m : Nat} {s : State} {k : Live} (h : Live.less m k = Live.less m s.live) (ps : List Part)
    (hps : allParts.all (fun p => ps.contains p || !m.testBit p.bit) = true) : SameBut ps s { s with live := k } :=
  (State.Keeps.live_of h).sameBut ps hps

section Training
variable {s : State} {n : Fin 8} (errs : List GroupErr)

theorem trainingAligned_ranges (hst : (s.live.ring n).st = .training) (href : (s.live.ring n).refSilent = false)
    (hsil : (s.live.ring n).silent = false) :
    Gives (exec (.trainingAligned ⟨n, errs⟩) s) (fun t => (t.live.ring n).st = .ranging ∧ (t.live.ring n).passes = 0 ∧
      (t.live.ring n).since = s.live.now ∧ (t.live.ring n).lastPass = none ∧ (∀ m, m ≠ n.val → t.live.ring m = s.live.ring m) ∧
      SameBut [.rings, .keeper, .recd, .w1c] s t) := by
  have hcount := s.live.codeErr_counted n errs
  have hring := hcount.ring n
  have hexec : exec (.trainingAligned ⟨n, errs⟩) s = s.upd fun l =>
      ((l.codeErr n errs).ringTo n .ranging).modRing n fun g => { g with passes := 0, lastPass := none } := by
    show execTrainingAligned _ s = _
    unfold execTrainingAligned
    exact upd_congr (if_pos (by simp [hring, hst, href, hsil]))
  have hto := Live.ringTo_keep_of_not_running .ranging (l := s.live.codeErr n errs) (n := n) (by simp [hring, hst])
  refine ⟨_, hexec, ?_, ?_, ?_, ?_, fun m hm => ?_,
    live_sameBut (m := 68223008) (by simp [Live.less_le (m := 68223008) rfl hto]) _ (by decide)⟩
  · simp [Live.ringTo_st]
  · simp
  · simp only [Live.modRing_ring_same, Live.ringTo_ring_same, hcount.now]
    rfl
  · simp
  · simp [Live.modRing_ring_other _ _ _ _ hm, Live.ringTo_ring_other _ _ hm, hcount.ring]

theorem ringTrainFail_silences (hst : (s.live.ring n).st = .training) (href : (s.live.ring n).refSilent = false)
    (hsil : (s.live.ring n).silent = false) (hlong : (s.live.ring n).since + 400000 ≤ s.live.now) :
    Gives (exec (.ringTrainFail ⟨n, errs⟩) s) (fun t => (t.live.ring n).st = .training ∧ (t.live.ring n).silent = true ∧
      (t.live.ring n).since = s.live.now ∧ Raised s t [s.live.detailOf 0x1003 (0x1000 + n)] ∧
      (∀ m, m ≠ n.val → t.live.ring m = s.live.ring m) ∧ SameBut [.rings, .fc, .recd, .w1c] s t) := by
  have hcount := s.live.codeErr_counted n errs
  have hring := hcount.ring n
  have hexec : exec (.ringTrainFail ⟨n, errs⟩) s = s.upd fun l =>
      ((l.codeErr n errs).raise 0x1003 (oRing n)).modRing n fun g => { g with silent := true, since := (l.codeErr n errs).now } := by
    show execRingTrainFail _ s = _
    unfold execRingTrainFail
    exact upd_congr (if_pos (by simp [hring, hcount.now, hst, href, hsil, hlong]))
  refine ⟨_, hexec, ?_, ?_, ?_, ?_, fun m hm => ?_, live_sameBut (m := 68190240) (by simp) _ (by decide)⟩
  · simp [hring, hst]
  · simp
  · simp [hcount.now]
  · simp only [Raised, ← hcount.fc, ← Live.detailOf_congr hcount.now]
    rfl
  · rw [Live.modRing_ring_other _ _ _ _ hm, ← hcount.ring]
    rfl

theorem trainingRestart_trains (hst : (s.live.ring n).st = .training) (href : (s.live.ring n).refSilent = false)
    (hsil : (s.live.ring n).silent = true) (hlong : (s.live.ring n).since + 200000 ≤ s.live.now) :
    Gives (exec (.trainingRestart n) s) (fun t => t.live.ring n = { s.live.ring n with silent := false, since := s.live.now } ∧
      (∀ m, m ≠ n.val → t.live.ring m = s.live.ring m) ∧ SameBut [.rings] s t) := by
  have hexec : exec (.trainingRestart n) s = s.upd fun l => l.modRing n fun g => { g with silent := false, since := l.now } := by
    show execTrainingRestart _ s = _
    unfold execTrainingRestart
    exact upd_congr (if_pos (by simp [hst, href, hsil, hlong]))
  exact ⟨_, hexec, Live.modRing_ring_same _ _ _, fun m hm => Live.modRing_ring_other _ _ _ _ hm,
    live_sameBut (m := 32) (by simp) _ (by decide)⟩

theorem alignmentLost_of_running (hst : (s.live.ring n).st = .running) : Gives (exec (.alignmentLost ⟨n, errs⟩) s) (RingDown s n) := by
  have hcount := s.live.codeErr_counted n errs
  exact ⟨_, rfl, ringLost_ringDown (by rw [hcount.ring, hst]) hcount.now hcount.fc⟩

theorem alignmentLost_of_ranging (hst : (s.live.ring n).st = .ranging) :
    Gives (exec (.alignmentLost ⟨n, errs⟩) s) (fun t => (t.live.ring n).st = .training ∧ Raised s t []) := by
  have hcount := s.live.codeErr_counted n errs
  have hexec : exec (.alignmentLost ⟨n, errs⟩) s = s.upd fun l => (l.codeErr n errs).ringTrain n := by
    show execAlignmentLost _ s = _
    unfold execAlignmentLost
    exact upd_congr (Live.ringLost_of_ranging (by rw [hcount.ring, hst]))
  refine ⟨_, hexec, Live.ringTrain_st _ _, ?_⟩
  rw [Raised, Live.ringTrain_fc, hcount.fc, List.append_nil]

theorem exec_commaDrift_of_le (h : 16 ≤ (s.live.ring n).drift) : exec (.commaDrift n) s = s.upd fun l => l.ringLost n := by
  show execCommaDrift _ s = _
  unfold execCommaDrift
  exact upd_congr (if_pos h)

theorem exec_commaDrift_of_lt (h : (s.live.ring n).drift < 16) : exec (.commaDrift n) s = .next s := by
  show execCommaDrift _ s = _
  unfold execCommaDrift
  exact upd_congr (g := id) (if_neg (Nat.not_le_of_lt h))

end Training

/-- Settles O10: each row of Table 2.17 is what its event does; a ring that is lost is `Live.ringLost`. -/
theorem ringTrainingFollowsTheTable : Obligations.RingTrainingFollowsTheTable := by
  intro s n errs
  refine ⟨fun hst href => ⟨trainingAligned_ranges errs hst href, ringTrainFail_silences errs hst href,
    trainingRestart_trains hst href⟩, fun hst => ⟨?_, fun hdrift => ?_⟩, alignmentLost_of_ranging errs, exec_commaDrift_of_lt⟩
  · obtain ⟨t, hnext, hdown⟩ := alignmentLost_of_running errs hst
    exact ⟨t, hnext, hdown.st, hdown.inCourse, hdown.raised⟩
  · have hdown := ringLost_ringDown hst rfl rfl
    exact ⟨_, exec_commaDrift_of_le hdrift, hdown.st, hdown.raised⟩

end Sys2Proof.Machine
end

section
/-! PROOFS. What a ring makes of the headers and of the RANGE_COUNTs that come back to it. -/
open Sys2Proof Sys2Proof.Machine
namespace Sys2Proof.Machine

/-! ## Returned headers (R65, R99, R132) -/

/-- A header that came back bad: code groups that failed, or a CRC that does. -/
def headerFailed (h : BitVec 64) (errs : List GroupErr) : Bool := !errs.isEmpty || !headerOk h

theorem headerFailed_iff (h : BitVec 64) (errs : List GroupErr) : headerFailed h errs = true ↔ errs ≠ [] ∨ headerOk h = false := by
  simp [headerFailed]

/-- The returning comma is out by more than 0.8 ns, on a ring whose D_meas stands. -/
def Ring.commaOut (g : Ring) (delay : Nat) : Bool :=
  g.st ≠ .ranging && 2 < (if delay < g.dmeas then g.dmeas - delay else delay - g.dmeas)

theorem Ring.commaOut_iff (g : Ring) (delay : Nat) :
    g.commaOut delay = true ↔ g.st ≠ .ranging ∧ (delay + 2 < g.dmeas ∨ g.dmeas + 2 < delay) := by
  have hdist : 2 < (if delay < g.dmeas then g.dmeas - delay else delay - g.dmeas) ↔ delay + 2 < g.dmeas ∨ g.dmeas + 2 < delay := by
    split <;> omega
  simp [Ring.commaOut, hdist]

/-- The ring with a returned header counted. -/
def Ring.returned (g : Ring) (failed out : Bool) : Ring :=
  { g with hdrFails := if failed then g.hdrFails + 1 else 0, drift := if out then g.drift + 1 else 0 }

/-- What a returned header is counted as, before the ring is judged. -/
def Live.headerBack (l : Live) (n : Nat) (h : BitVec 64) (errs : HeaderErrs) (delay : Nat) : Live :=
  ((l.codeErr n (errs.header ++ errs.fill)).ringCount n 5 (if h ≠ (l.ring n).hdr then 1 else 0)).modRing n fun g =>
    g.returned (headerFailed h errs.header) ((l.ring n).commaOut delay)

theorem Live.headerBack_counted (l : Live) (n : Nat) (h : BitVec 64) (errs : HeaderErrs) (delay : Nat) :
    ∃ k, l.Counted k ∧ l.headerBack n h errs delay =
      k.modRing n fun g => g.returned (headerFailed h errs.header) ((l.ring n).commaOut delay) :=
  ⟨_, (l.codeErr_counted n _).trans (Live.ringCount_counted _ n 5 _), rfl⟩

theorem Live.headerBack_ring_same (l : Live) (n : Nat) (h : BitVec 64) (errs : HeaderErrs) (delay : Nat) :
    (l.headerBack n h errs delay).ring n = (l.ring n).returned (headerFailed h errs.header) ((l.ring n).commaOut delay) := by
  obtain ⟨k, hk, hback⟩ := l.headerBack_counted n h errs delay
  rw [hback, Live.modRing_ring_same, hk.ring]

section HeaderReturn
variable {s : State} {n : Fin 8} {h : BitVec 64} {errs : HeaderErrs} {delay : Nat}

theorem exec_headerReturn (hin : (s.live.ring n).inCourse = true) :
    exec (.headerReturn n h errs delay) s = s.upd fun l =>
      if (l.ring n).st = .running && 3 ≤ ((l.headerBack n h errs delay).ring n).hdrFails
      then (l.headerBack n h errs delay).ringLost n else l.headerBack n h errs delay := by
  show execHeaderReturn _ _ _ _ s = _
  unfold execHeaderReturn
  exact upd_congr (if_neg (by simp [hin]))

theorem headerReturn_counts (hin : (s.live.ring n).inCourse = true)
    (hstay : (s.live.ring n).st ≠ .running ∨ ((s.live.ring n).returned (headerFailed h errs.header) ((s.live.ring n).commaOut delay)).hdrFails < 3) :
    Gives (exec (.headerReturn n h errs delay) s) (fun t =>
      t.live.ring n = (s.live.ring n).returned (headerFailed h errs.header) ((s.live.ring n).commaOut delay) ∧
      SameBut [.rings, .recd, .w1c] s t) := by
  have hback := s.live.headerBack_ring_same n h errs delay
  have hexec : exec (.headerReturn n h errs delay) s = s.upd fun l => l.headerBack n h errs delay := by
    rw [exec_headerReturn hin]
    refine upd_congr (if_neg ?_)
    rw [hback]
    simpa [imp_iff_not_or] using hstay
  obtain ⟨k, hk, hmod⟩ := s.live.headerBack_counted n h errs delay
  refine ⟨_, hexec, hback, live_sameBut (m := 68157472) ?_ _ (by decide)⟩
  simp [hmod, Live.less_le (m := 68157472) rfl hk]

theorem headerReturn_loses (hin : (s.live.ring n).inCourse = true) (hst : (s.live.ring n).st = .running)
    (hthree : 3 ≤ ((s.live.ring n).returned (headerFailed h errs.header) ((s.live.ring n).commaOut delay)).hdrFails) :
    Gives (exec (.headerReturn n h errs delay) s) (RingDown s n) := by
  have hback := s.live.headerBack_ring_same n h errs delay
  have hexec : exec (.headerReturn n h errs delay) s = s.upd fun l => (l.headerBack n h errs delay).ringLost n := by
    rw [exec_headerReturn hin]
    exact upd_congr (if_pos (by simp [hback, hst, hthree]))
  obtain ⟨k, hk, hmod⟩ := s.live.headerBack_counted n h errs delay
  refine ⟨_, hexec, ringLost_ringDown ?_ ?_ ?_⟩
  · rw [hback]
    exact hst
  · exact (congrArg Live.now hmod).trans hk.now
  · exact (congrArg Live.fc hmod).trans hk.fc

end HeaderReturn

/-- Settles O12: the header is counted by `Ring.returned`, and a third bad one in a row loses a RUNNING ring. -/
theorem returnedHeadersAreJudged : Obligations.ReturnedHeadersAreJudged := by
  intro s n h errs fill delay hin bad run off
  have hrun : ((s.live.ring n).returned (headerFailed h errs) ((s.live.ring n).commaOut delay)).hdrFails = run :=
    if_congr (headerFailed_iff h errs) rfl rfl
  have hdrift : ((s.live.ring n).returned (headerFailed h errs) ((s.live.ring n).commaOut delay)).drift =
      if off then (s.live.ring n).drift + 1 else 0 :=
    if_congr ((s.live.ring n).commaOut_iff delay) rfl rfl
  rw [← hrun, ← hdrift]
  refine ⟨headerReturn_counts (errs := ⟨errs, fill⟩) hin, fun hst hthree => ?_⟩
  obtain ⟨t, hnext, hdown⟩ := headerReturn_loses (errs := ⟨errs, fill⟩) hin hst hthree
  exact ⟨t, hnext, hdown.st, hdown.reported⟩

end Sys2Proof.Machine
end

section
/-! PROOFS. Ranging: the passes of RANGE_COUNT, their agreement, and what ranging leaves the ring with. -/
open Sys2Proof Sys2Proof.Machine
namespace Sys2Proof.Machine

/-! ## What ranging lays down (R97) -/

/-- The results of ranging. -/
def Ring.range (g : Ring) : Bool × BitVec 8 × BitVec 24 × Nat := (g.ranged, g.hops, g.acc, g.dmeas)

/-- The ring has courses: RUNNING, or OVERBOOKED where its layout does not fit (R77). -/
def Ring.courses (g : Ring) : Prop := g.st = .running ∨ g.st = .overbooked

theorem Live.relayout_ring_other (l : Live) (fresh : Bool) {n m : Nat} (h : m ≠ n) : (l.relayout n fresh).ring m = l.ring m := by
  unfold Live.relayout
  extract_lets b l1 fits narrow
  have h1 : l1.ring m = l.ring m := Live.modRing_ring_other _ _ _ _ h
  have hfits : fits.ring m = l1.ring m := by
    simp only [fits]
    split
    · exact Live.ringTo_ring_other l1 _ h
    · rfl
  have hnarrow : narrow.ring m = l1.ring m := by
    simp only [narrow]
    split
    · exact Live.ringTo_ring_other _ _ h
    · rfl
  split
  · exact (Live.modRing_ring_other _ _ _ _ h).trans (hfits.trans h1)
  · exact (Live.modRing_ring_other _ _ _ _ h).trans (hnarrow.trans h1)

/-- A layout that does not fit takes a RUNNING ring to OVERBOOKED, with the results of its ranging. -/
theorem Live.relayout_of_running {l : Live} {n : Nat} (fresh : Bool) (h : (l.ring n).st = .running) :
    ((l.relayout n fresh).ring n).range = (l.ring n).range ∧ ((l.relayout n fresh).ring n).courses := by
  unfold Live.relayout
  extract_lets b l1 fits narrow
  have hst : (l1.ring n).st = .running := by simp [l1, h]
  have hrange : (l1.ring n).range = (l.ring n).range := by
    simp only [l1, Live.modRing_ring_same]
    rfl
  have hfits : fits = l1 := if_neg (by simp [hst])
  have hnarrow : narrow.ring n = (l1.ring n).entered .overbooked l1.now := by
    simp only [narrow, hst, if_true, Live.ringTo_ring_same]
    rfl
  split
  · rw [Live.modRing_ring_same, hfits]
    exact ⟨hrange, .inl hst⟩
  · rw [Live.modRing_ring_same, hnarrow]
    exact ⟨hrange, .inr rfl⟩

/-- What bricks in the tail, the mark of the links and a detail leave alone, the bricks of R97 leave alone. -/
theorem Live.rangeSend_keeps {β : Type} (r : Live → β) {n : Nat} (htail : ∀ l b, r (l.tailBrick n b) = r l)
    (hlink : ∀ (l : Live) bad, r (l.modRing n fun g => { g with linkBad := bad }) = r l)
    (hraise : ∀ l, r (l.raise 0x1007 (oRing n)) = r l) (l : Live) (hop acc delay : Nat) :
    r (l.rangeSend n hop acc delay) = r l := by
  unfold Live.rangeSend
  extract_lets total links l1 uniform
  have h1 : r l1 = r l := hlink l false
  split
  next => exact (htail _ _).trans h1
  next ds _ =>
    have hcum : r (l1.forL (cumBricks 1 0 (ds.take hop)) fun l b => l.tailBrick n b) = r l1 := Live.forL_keeps r l1 _ _ htail
    have huniform : r (uniform _) = r l1 := (htail _ _).trans ((hlink (l1.raise 0x1007 (oRing n)) true).trans (hraise l1))
    dsimp only
    rw [apply_ite r, hcum, huniform, ite_self, h1]

theorem Live.rangeSend_ring_other (l : Live) (hop acc delay : Nat) {n m : Nat} (h : m ≠ n) :
    (l.rangeSend n hop acc delay).ring m = l.ring m :=
  Live.rangeSend_keeps (fun l => l.ring m) (fun _ _ => Live.modRing_ring_other _ _ _ _ h)
    (fun _ _ => Live.modRing_ring_other _ _ _ _ h) (fun _ => rfl) l hop acc delay

theorem Live.rangeSend_range (l : Live) (n hop acc delay : Nat) :
    (((l.rangeSend n hop acc delay).ring n).range, ((l.rangeSend n hop acc delay).ring n).st) = ((l.ring n).range, (l.ring n).st) :=
  Live.rangeSend_keeps (fun l => ((l.ring n).range, (l.ring n).st))
    (fun l b => by simp only [Live.tailBrick, Live.modRing_ring_same]; rfl)
    (fun l b => by simp only [Live.modRing_ring_same]; rfl) (fun _ => rfl) l hop acc delay

/-- What two passes that agree make of the ring and its stations. -/
def Live.rangeDone (l : Live) (n : Nat) (hop : BitVec 8) (acc : BitVec 24) (delay : Nat) : Live :=
  (((l.modRing n fun g => { g with
    ranged := true, hops := hop, acc := acc, dmeas := delay, passes := 0, lastPass := none
    rangeGot := true }).ringTo n .running).relayout n true).rangeSend n hop.toNat acc.toNat delay

theorem Live.rangeDone_ring_other (l : Live) (hop : BitVec 8) (acc : BitVec 24) (delay : Nat) {n m : Nat} (h : m ≠ n) :
    (l.rangeDone n hop acc delay).ring m = l.ring m := by
  rw [Live.rangeDone, Live.rangeSend_ring_other _ _ _ _ h, Live.relayout_ring_other _ _ h, Live.ringTo_ring_other _ _ h,
    Live.modRing_ring_other _ _ _ _ h]

theorem Live.rangeDone_ring_same (l : Live) (n : Nat) (hop : BitVec 8) (acc : BitVec 24) (delay : Nat) :
    ((l.rangeDone n hop acc delay).ring n).range = (true, hop, acc, delay) ∧ ((l.rangeDone n hop acc delay).ring n).courses := by
  unfold Live.rangeDone
  set done := (l.modRing n _).ringTo n .running with hdone
  have hring : done.ring n = _ := Live.ringTo_ring_same _ n .running
  rw [Live.modRing_ring_same] at hring
  obtain ⟨hrange, hcourses⟩ := Live.relayout_of_running (l := done) (n := n) true (by rw [hring]; rfl)
  obtain ⟨hsent, hst⟩ := Prod.mk.inj ((done.relayout n true).rangeSend_range n hop.toNat acc.toNat delay)
  refine ⟨?_, ?_⟩
  · rw [hsent, hrange, hring]
    rfl
  · rw [Ring.courses, hst]
    exact hcourses

/-! ## The passes (R54, R97, R98) -/

/-- A pass agrees with the one before: the same `HOP` and `ACC`, and delays within 0.8 ns. -/
def passAgrees (hop : BitVec 8) (acc : BitVec 24) (delay : Nat) : Option (BitVec 8 × BitVec 24 × Nat) → Bool
  | some (h, a, d) => h = hop && a = acc && (if d < delay then delay - d else d - delay) ≤ 2
  | none => false

theorem passAgrees_some_iff {hop h : BitVec 8} {acc a : BitVec 24} {delay d : Nat} :
    passAgrees hop acc delay (some (h, a, d)) = true ↔ h = hop ∧ a = acc ∧ d ≤ delay + 2 ∧ delay ≤ d + 2 := by
  have hnear : (if d < delay then delay - d else d - delay) ≤ 2 ↔ d ≤ delay + 2 ∧ delay ≤ d + 2 := by
    split <;> omega
  simp [passAgrees, hnear, and_assoc]

/-- A pass that is kept for the next to agree with. -/
def Ring.passKept (g : Ring) (hop : BitVec 8) (acc : BitVec 24) (delay : Nat) : Ring :=
  { g with passes := g.passes + 1, lastPass := some (hop, acc, delay), rangeGot := true }

/-- The ring waits for the RANGE_COUNT of its pass, and this one is intact. -/
structure RangeCounts (g : Ring) (brick : BitVec 64) (errs : List GroupErr) : Prop where
  st : g.st = .ranging
  inCourse : g.inCourse = true
  rangeGot : g.rangeGot = false
  passes : g.passes < 8
  ok : rangeCountOk brick errs = true

section Passes
variable {s : State} {n : Fin 8} {brick : BitVec 64} {errs : List GroupErr} {delay : Nat}

theorem exec_rangeCountReturn (h : RangeCounts (s.live.ring n) brick errs) :
    exec (.rangeCountReturn n brick errs delay) s = s.upd fun l =>
      if passAgrees (rangeHop brick) (rangeAcc brick) delay (l.ring n).lastPass
      then (l.codeErr n errs).rangeDone n (rangeHop brick) (rangeAcc brick) delay
      else (l.codeErr n errs).modRing n fun g => g.passKept (rangeHop brick) (rangeAcc brick) delay := by
  show execRangeCountReturn _ _ _ _ s = _
  unfold execRangeCountReturn
  refine upd_congr ((if_neg ?_).trans ?_)
  · simp [h.st, h.inCourse, h.rangeGot, h.ok, Nat.not_le_of_lt h.passes]
  · rfl

theorem exec_rangeCountReturn_of_not (h : rangeCountOk brick errs = false ∨ (s.live.ring n).rangeGot = true) :
    exec (.rangeCountReturn n brick errs delay) s = s.upd fun l => l.codeErr n errs := by
  show execRangeCountReturn _ _ _ _ s = _
  unfold execRangeCountReturn
  refine upd_congr (if_pos ?_)
  rcases h with h | h <;> simp [h]

theorem rangeCountReturn_keeps (h : RangeCounts (s.live.ring n) brick errs)
    (hno : ¬ passAgrees (rangeHop brick) (rangeAcc brick) delay (s.live.ring n).lastPass = true) :
    Gives (exec (.rangeCountReturn n brick errs delay) s) (fun t =>
      t.live.ring n = (s.live.ring n).passKept (rangeHop brick) (rangeAcc brick) delay ∧
      (∀ m, m ≠ n.val → t.live.ring m = s.live.ring m) ∧ SameBut [.rings, .recd, .w1c] s t) := by
  have hcount := s.live.codeErr_counted n errs
  have hexec : exec (.rangeCountReturn n brick errs delay) s = s.upd fun l =>
      (l.codeErr n errs).modRing n fun g => g.passKept (rangeHop brick) (rangeAcc brick) delay := by
    rw [exec_rangeCountReturn h]
    exact upd_congr (if_neg hno)
  refine ⟨_, hexec, ?_, fun m hm => ?_, live_sameBut (m := 68157472) (by simp) _ (by decide)⟩
  · simp [hcount.ring]
  · simp [Live.modRing_ring_other _ _ _ _ hm, hcount.ring]

theorem rangeCountReturn_ends (h : RangeCounts (s.live.ring n) brick errs)
    (hyes : passAgrees (rangeHop brick) (rangeAcc brick) delay (s.live.ring n).lastPass = true) :
    Gives (exec (.rangeCountReturn n brick errs delay) s) (fun t =>
      (t.live.ring n).range = (true, rangeHop brick, rangeAcc brick, delay) ∧ (t.live.ring n).courses ∧
      ∀ m, m ≠ n.val → t.live.ring m = s.live.ring m) := by
  have hexec : exec (.rangeCountReturn n brick errs delay) s = s.upd fun l =>
      (l.codeErr n errs).rangeDone n (rangeHop brick) (rangeAcc brick) delay := by
    rw [exec_rangeCountReturn h]
    exact upd_congr (if_pos hyes)
  obtain ⟨hrange, hcourses⟩ := (s.live.codeErr n errs).rangeDone_ring_same n (rangeHop brick) (rangeAcc brick) delay
  have hothers (m : Nat) (hm : m ≠ n.val) :
      ((s.live.codeErr n errs).rangeDone n (rangeHop brick) (rangeAcc brick) delay).ring m = s.live.ring m := by
    rw [Live.rangeDone_ring_other _ _ _ _ hm, (s.live.codeErr_counted n errs).ring]
  simp only [State.upd] at hexec
  generalize (s.live.codeErr n errs).rangeDone n (rangeHop brick) (rangeAcc brick) delay = k at hexec hrange hcourses hothers
  exact ⟨_, hexec, hrange, hcourses, hothers⟩

theorem ringRangeFail_trains (hst : (s.live.ring n).st = .ranging) (height : 8 ≤ (s.live.ring n).passes) :
    Gives (exec (.ringRangeFail n) s) (fun t => (t.live.ring n).st = .training ∧ (t.live.ring n).passes = 0 ∧
      Raised s t [s.live.detailOf 0x1004 (0x1000 + n)]) := by
  have hexec : exec (.ringRangeFail n) s = s.upd fun l => (l.raise 0x1004 (oRing n)).ringTrain n := by
    show execRingRangeFail _ s = _
    unfold execRingRangeFail
    exact upd_congr (if_pos (by simp [hst, height]))
  exact ⟨_, hexec, Live.ringTrain_st _ n, congrArg Ring.passes (Live.ringTrain_ring_same _ n),
    raise_ringTrain_raised n _ _ rfl rfl⟩

end Passes

/-- Settles O11: a pass is kept, or agrees with the one kept; a damaged or a second RANGE_COUNT is only counted. -/
theorem rangingEndsOnAgreement : Obligations.RangingEndsOnAgreement := by
  intro s n brick errs delay hst hop acc kept
  refine ⟨fun hin hgot hpasses hok => ?_, fun hno => ?_, ringRangeFail_trains hst⟩
  · have hcounts : RangeCounts (s.live.ring n) brick errs := ⟨hst, hin, hgot, hpasses, hok⟩
    refine ⟨fun hlast => ?_, fun h a d hlast hother => ?_, fun d hlast hle hge => ?_⟩
    · exact rangeCountReturn_keeps hcounts (by simp [hlast, passAgrees])
    · refine rangeCountReturn_keeps hcounts ?_
      rw [hlast, passAgrees_some_iff]
      rintro ⟨hh, ha, hle, hge⟩
      rcases hother with h | h | h | h
      · exact h hh
      · exact h ha
      · omega
      · omega
    · obtain ⟨t, hnext, hrange, hcourses, hothers⟩ := rangeCountReturn_ends (delay := delay) hcounts
        (by rw [hlast, passAgrees_some_iff]; exact ⟨rfl, rfl, hle, hge⟩)
      simp only [Ring.range, Prod.mk.injEq] at hrange
      obtain ⟨hranged, hhops, hacc, hdmeas⟩ := hrange
      exact ⟨t, hnext, hranged, hhops, hacc, hdmeas, hcourses, hothers⟩
  · exact ⟨_, exec_rangeCountReturn_of_not hno, live_sameBut (m := 68157440) (by simp) _ (by decide)⟩

end Sys2Proof.Machine
end

section
/-! PROOFS. Lost slots: the suspension of a tile, its members, its slots and its rail. -/
open Sys2Proof Sys2Proof.Machine
namespace Sys2Proof.Machine

/-! ## Slots that receive `BUOY` = 1 (R93) -/

theorem Live.modSlot_slot (l : Live) (n m : Nat) (f : Slot → Slot) (r k : Nat) :
    (l.modSlot n m f).slot r k = if 32 * r + k = 32 * n + m then f (l.slot r k) else l.slot r k := by
  unfold Live.slot Live.modSlot
  rw [tget_tmod]
  split
  next h => rw [h]
  next => rfl

/-- What `Live.buoyStn` makes of a slot. -/
def Slot.buoy (k : Slot) : Slot := { k with buoyed := k.active }

/-- The change leaves the slot, or gives it `BUOY` = 1. -/
def Live.Buoys (l l' : Live) (r k : Nat) : Prop := l'.slot r k = l.slot r k ∨ l'.slot r k = (l.slot r k).buoy

/-- A slot that has `BUOY` = 1 keeps it. -/
theorem Live.Buoys.of_buoy {a b c : Live} {r k : Nat} (h : b.slot r k = (a.slot r k).buoy) (h' : b.Buoys c r k) :
    c.slot r k = (a.slot r k).buoy := by
  rcases h' with h' | h' <;> rw [h', h]
  rfl

theorem Live.Buoys.trans {a b c : Live} {r k : Nat} (h : a.Buoys b r k) (h' : b.Buoys c r k) : a.Buoys c r k := by
  rcases h with h | h
  · rwa [Live.Buoys, ← h]
  · exact .inr (h'.of_buoy h)

section Fold
variable {α : Type} {f : Live → α → Live} {r k : Nat} (hf : ∀ (l : Live) (x : α), l.Buoys (f l x) r k)
include hf

theorem Live.forL_buoys (l : Live) (xs : List α) : l.Buoys (l.forL xs f) r k := by
  induction xs generalizing l with
  | nil => exact .inl rfl
  | cons x xs ih => exact (hf l x).trans (ih (f l x))

theorem Live.forL_buoy (l : Live) {xs : List α} {x : α} (hx : ∀ l, (f l x).slot r k = (l.slot r k).buoy) (hmem : x ∈ xs) :
    (l.forL xs f).slot r k = (l.slot r k).buoy := by
  induction xs generalizing l with
  | nil => cases hmem
  | cons y ys ih =>
    rcases List.mem_cons.mp hmem with rfl | hmem
    · exact (Live.forL_buoys hf (f l x) ys).of_buoy (hx l)
    · refine (ih (f l y) hmem).trans ?_
      rcases hf l y with h | h <;> rw [h]
      rfl

end Fold

theorem Live.modSlot_buoys (l : Live) (n m r k : Nat) : l.Buoys (l.modSlot n m Slot.buoy) r k := by
  rw [Live.Buoys, Live.modSlot_slot]
  split
  · exact .inr rfl
  · exact .inl rfl

theorem Live.buoyStn_eq (l : Live) (q : Stn) : l.buoyStn q = l.forL q.slots fun l p => l.modSlot p.1 p.2 Slot.buoy := rfl

theorem Live.buoyStn_buoys (l : Live) (q : Stn) (r k : Nat) : l.Buoys (l.buoyStn q) r k :=
  l.buoyStn_eq q ▸ Live.forL_buoys (fun l p => l.modSlot_buoys p.1 p.2 r k) l q.slots

theorem Live.buoyStn_slot (l : Live) {q : Stn} {p : Nat × Nat} (h : p ∈ q.slots) :
    (l.buoyStn q).slot p.1 p.2 = (l.slot p.1 p.2).buoy :=
  l.buoyStn_eq q ▸ Live.forL_buoy (fun l x => l.modSlot_buoys x.1 x.2 p.1 p.2) l (fun l => l.modSlot_slot_same p.1 p.2 Slot.buoy) h

/-! ## A tile is suspended (R93, R99, R156) -/

/-- What the suspension of its tile does to one member. -/
def Live.suspendMember (l : Live) (p : Nat × Stn) : Live :=
  ((if p.2.st = .moored then l.stnTo p.1 .matched else l).modStn p.1 fun q =>
    { q with dueFor := 0, handed := false, holdoff := true }).buoyStn p.2

/-- The tile with its members gone, before its rail. -/
def Live.tileEmptied (l : Live) (t : Nat) : Live :=
  (l.modTile t fun k => { k with st := .suspended, handover := none, handing := [], committed := false }).forL
    (l.members t) Live.suspendMember

theorem Live.inputAbsent_tiles (l : Live) (j : Nat) : (l.inputAbsent j).loop.tiles = l.loop.tiles := by
  unfold Live.inputAbsent
  extract_lets st l1
  split
  · rfl
  · split
    · have hcount : (l1.count 98).loop = l1.loop := Live.same_loop (by simp)
      rw [hcount]
      rfl
    · rfl

theorem Live.unmoored_tiles (l : Live) (q : Stn) : (l.unmoored q).loop.tiles = l.loop.tiles := by
  unfold Live.unmoored
  split
  · rfl
  next t _ =>
    extract_lets l1
    have hrails : l1.loop = l.loop := by
      simp only [l1]
      split <;> rfl
    split
    · rw [Live.inputAbsent_tiles, hrails]
    · rw [hrails]

theorem Live.stnTo_tiles (l : Live) (i : Nat) (st : StnSt) : (l.stnTo i st).loop.tiles = l.loop.tiles := by
  unfold Live.stnTo
  extract_lets q l1
  split
  · exact Live.unmoored_tiles l1 q
  · rfl

theorem Live.suspendMember_tiles (l : Live) (p : Nat × Stn) : (l.suspendMember p).loop.tiles = l.loop.tiles := by
  have hslots (k : Live) : (k.buoyStn p.2).loop = k.loop := Live.same_loop (by simp)
  rw [Live.suspendMember, hslots]
  split
  · exact l.stnTo_tiles p.1 .matched
  · rfl

/-- Before its slots a member's suspension leaves every slot as it is. -/
theorem Live.suspendMember_slots (l : Live) (p : Nat × Stn) :
    ∃ k : Live, (∀ r j, k.slot r j = l.slot r j) ∧ l.suspendMember p = k.buoyStn p.2 := by
  refine ⟨_, fun r j => ?_, rfl⟩
  have hslots : (if p.2.st = .moored then l.stnTo p.1 .matched else l).slots = l.slots := Live.same_slots (by simp [Live.less_ite])
  simp only [Live.slot, Live.modStn_slots, hslots]

theorem Live.suspendMember_buoys (l : Live) (p : Nat × Stn) (r j : Nat) : l.Buoys (l.suspendMember p) r j := by
  obtain ⟨k, hslot, hmember⟩ := l.suspendMember_slots p
  rw [hmember, Live.Buoys, ← hslot]
  exact k.buoyStn_buoys p.2 r j

theorem Live.suspendMember_slot (l : Live) (p : Nat × Stn) {q : Nat × Nat} (h : q ∈ p.2.slots) :
    (l.suspendMember p).slot q.1 q.2 = (l.slot q.1 q.2).buoy := by
  obtain ⟨k, hslot, hmember⟩ := l.suspendMember_slots p
  rw [hmember, ← hslot]
  exact k.buoyStn_slot h

theorem Live.tileEmptied_tile (l : Live) (t u : Nat) :
    (l.tileEmptied t).tile u =
      if u = t then { l.tile t with st := .suspended, handover := none, handing := [], committed := false } else l.tile u := by
  have htiles : (l.tileEmptied t).loop.tiles = _ := Live.forL_keeps (fun l => l.loop.tiles) _ _ _ Live.suspendMember_tiles
  rw [Live.tile, htiles]
  exact Live.modTile_tile l t _ u

theorem Live.tileEmptied_slot (l : Live) (t : Nat) {p : Nat × Stn} (hp : p ∈ l.members t) {q : Nat × Nat} (hq : q ∈ p.2.slots) :
    (l.tileEmptied t).slot q.1 q.2 = (l.slot q.1 q.2).buoy :=
  Live.forL_buoy (fun l p => l.suspendMember_buoys p q.1 q.2) _ (fun l => l.suspendMember_slot p hq) hp

theorem Live.tileRail_congr {l k : Live} (h : k.img = l.img) (t : Nat) : k.tileRail t = l.tileRail t := by
  unfold Live.tileRail Live.railNums Live.railTile Live.given Live.cf Live.cw
  rw [h]

theorem Live.tileEmptied_tileRail (l : Live) (t : Nat) : (l.tileEmptied t).tileRail t = l.tileRail t := by
  refine Live.tileRail_congr (Live.same_img ?_) t
  unfold Live.tileEmptied Live.suspendMember
  exact (Live.less_forL fun l p => by simp [Live.less_ite]).trans (by simp)

/-- The suspension of a tile in use empties it, and then stops its rail. -/
theorem Live.suspendTile_of_used {l : Live} {t : Nat} (hused : (l.tile t).st ≠ .unused) :
    l.suspendTile t = (l.tileRail t).elim (l.tileEmptied t) fun r => (l.tileEmptied t).railIdle r 7 := by
  refine (if_neg hused).trans ?_
  rw [← l.tileEmptied_tileRail]
  show (match (l.tileEmptied t).tileRail t with | some r => (l.tileEmptied t).railIdle r 7 | none => l.tileEmptied t) = _
  cases (l.tileEmptied t).tileRail t <;> rfl

theorem Live.suspendTile_less {l : Live} {t : Nat} (hused : (l.tile t).st ≠ .unused) :
    Live.less 2560 (l.suspendTile t) = Live.less 2560 (l.tileEmptied t) := by
  rw [Live.suspendTile_of_used hused]
  cases l.tileRail t with
  | none => rfl
  | some r => exact Live.railIdle_keep _ r 7 2560 rfl

theorem Live.railTo_st (l : Live) (r : Nat) (st : RailSt) : ((l.railTo r st).rail r).st = st := by
  unfold Live.railTo
  extract_lets old l1
  have h1 : (l1.rail r).st = st := by simp [l1]
  split
  · have hdown : (l1.vcDown r).rails = l1.rails := Live.same_rails (by simp)
    rwa [Live.rail, hdown]
  · exact h1

theorem Live.railIdle_st (l : Live) (r cause : Nat) : ((l.railIdle r cause).rail r).st = .idle := by
  unfold Live.railIdle
  split
  · assumption
  · rw [Live.modRail_rail_same]
    exact l.railTo_st r .idle

section SuspendTile
variable {l : Live} {t : Nat} (hused : (l.tile t).st ≠ .unused)
include hused

theorem Live.suspendTile_tile_same : ((l.suspendTile t).tile t).st = .suspended := by
  rw [Live.tile, Live.less_loop (Live.suspendTile_less hused) (by decide)]
  exact congrArg Tile.st ((l.tileEmptied_tile t t).trans (if_pos rfl))

theorem Live.suspendTile_tile_other {u : Nat} (h : u ≠ t) : (l.suspendTile t).tile u = l.tile u := by
  rw [Live.tile, Live.less_loop (Live.suspendTile_less hused) (by decide)]
  exact (l.tileEmptied_tile t u).trans (if_neg h)

theorem Live.suspendTile_slot {p : Nat × Stn} (hp : p ∈ l.members t) {q : Nat × Nat} (hq : q ∈ p.2.slots) :
    (l.suspendTile t).slot q.1 q.2 = (l.slot q.1 q.2).buoy := by
  rw [Live.slot, Live.less_slots (Live.suspendTile_less hused) (by decide)]
  exact l.tileEmptied_slot t hp hq

theorem Live.suspendTile_rail {r : Nat} (hr : l.tileRail t = some r) : ((l.suspendTile t).rail r).st = .idle := by
  rw [Live.suspendTile_of_used hused, hr]
  exact Live.railIdle_st _ r 7

end SuspendTile

/-! ## RING_SLOT_LOSS (R93, R129) -/

/-- The bond is noted with each member, as one of the suspensions of its tile. -/
def Live.noteSuspends (l : Live) (ms : List (Nat × Stn)) : Live :=
  l.forL ms fun l p => l.modStn p.1 fun q => { q with suspends := l.bond :: q.suspends }

theorem Live.noteSuspends_keep (l : Live) (ms : List (Nat × Stn)) : Live.less 128 (l.noteSuspends ms) = Live.less 128 l :=
  Live.less_forL fun l p => by simp

theorem Live.modStn_suspends_subset (l : Live) (i j : Nat) (b : Nat) :
    (l.stn j).suspends ⊆ ((l.modStn i fun q => { q with suspends := b :: q.suspends }).stn j).suspends := by
  rw [Live.modStn_stn]
  split
  next h => exact h ▸ List.subset_cons_self _ _
  next => exact List.Subset.refl _

theorem Live.noteSuspends_subset (l : Live) (ms : List (Nat × Stn)) (j : Nat) :
    (l.stn j).suspends ⊆ ((l.noteSuspends ms).stn j).suspends := by
  induction ms generalizing l with
  | nil => exact List.Subset.refl _
  | cons p ms ih => exact List.Subset.trans (l.modStn_suspends_subset p.1 j l.bond) (ih _)

theorem Live.noteSuspends_notes (l : Live) {ms : List (Nat × Stn)} {p : Nat × Stn} (h : p ∈ ms) :
    l.bond ∈ ((l.noteSuspends ms).stn p.1).suspends := by
  induction ms generalizing l with
  | nil => cases h
  | cons q ms ih =>
    rcases List.mem_cons.mp h with rfl | h
    · refine Live.noteSuspends_subset _ ms p.1 ?_
      simp
    · exact ih (l.modStn q.1 _) h

/-- What the loss of slot `k` of ring `n` does to its tile `t`. -/
def Live.slotLost (l : Live) (n k t : Nat) : Live :=
  let down := (l.suspendTile t).raise 0x1001 (oTile t) n k
  (if (l.tile t).st = .suspended then down else down.noteSuspends (l.members t)).modSlot n k fun q => { q with lossDone := true }

/-- Behind the suspension only the collector, the stations' notes and the mark of the slot change. -/
theorem Live.slotLost_less (l : Live) (n k t : Nat) :
    Live.less 32960 (l.slotLost n k t) = Live.less 32960 (l.suspendTile t) := by
  unfold Live.slotLost
  have hnote (k : Live) : Live.less 32960 (k.noteSuspends (l.members t)) = Live.less 32960 k :=
    Live.less_le rfl (k.noteSuspends_keep _)
  simp [Live.less_ite, hnote]

theorem Live.slotLost_fc (l : Live) (n k t : Nat) : (l.slotLost n k t).fc = ((l.suspendTile t).raise 0x1001 (oTile t) n k).fc := by
  refine Live.same_fc ?_
  have hnote (k : Live) : Live.less 268402687 (k.noteSuspends (l.members t)) = Live.less 268402687 k :=
    Live.less_le rfl (k.noteSuspends_keep _)
  simp [Live.slotLost, Live.less_ite, hnote]

/-- The mark of the slot that is lost is no part of what `BUOY` = 1 changes. -/
theorem Live.slotLost_buoyed (l : Live) (n k t r j : Nat) : ((l.slotLost n k t).slot r j).buoyed = ((l.suspendTile t).slot r j).buoyed := by
  have hslots : (if (l.tile t).st = .suspended then (l.suspendTile t).raise 0x1001 (oTile t) n k
      else ((l.suspendTile t).raise 0x1001 (oTile t) n k).noteSuspends (l.members t)).slots = (l.suspendTile t).slots := by
    split
    · rfl
    · exact (Live.less_slots (Live.noteSuspends_keep _ _) (by decide)).trans rfl
  unfold Live.slotLost
  rw [Live.modSlot_slot]
  split <;> simp only [Live.slot, hslots]

section SlotLoss
variable {s : State} {n : Fin 8} {k : Fin 32} {tl : Nat}

theorem exec_ringSlotLoss (htile : s.live.slotTile n k = some tl) (hact : (s.live.slot n k).active = true)
    (hlost : 3 ≤ (s.live.slot n k).lost) (hnew : (s.live.slot n k).lossDone = false) :
    exec (.ringSlotLoss n k) s = s.upd fun l => l.slotLost n k tl := by
  show execRingSlotLoss _ _ s = _
  unfold execRingSlotLoss
  refine upd_congr ?_
  simp only [htile]
  refine (if_pos (by simp [hact, hlost, hnew])).trans ?_
  simp [Live.slotLost, Live.noteSuspends]

theorem exec_ringSlotLoss_of_not (h : (s.live.slot n k).lost < 3 ∨ (s.live.slot n k).lossDone = true) :
    exec (.ringSlotLoss n k) s = .next s := by
  have hno : ((s.live.slot n k).active && decide (3 ≤ (s.live.slot n k).lost) && !(s.live.slot n k).lossDone) = false := by
    rcases h with h | h
    · simp [Nat.not_le_of_lt h]
    · simp [h]
  show execRingSlotLoss _ _ s = _
  unfold execRingSlotLoss
  refine upd_congr (g := id) ?_
  cases s.live.slotTile n k with
  | none => rfl
  | some t => exact if_neg (by simp [hno])

end SlotLoss

/-- Settles O13: the loss suspends the slot's tile by `Live.suspendTile`, and notes the bond with each member of a tile that was
not suspended before. -/
theorem lostSlotSuspendsItsTile : Obligations.LostSlotSuspendsItsTile := by
  intro s n k tl htile hact
  refine ⟨fun hlost hnew hused => ?_, exec_ringSlotLoss_of_not⟩
  have hless := s.live.slotLost_less n k tl
  have hrings : (s.live.slotLost n k tl).rings = s.live.rings :=
    (Live.less_rings hless (by decide)).trans (Live.same_rings (by simp))
  have hloop := Live.less_loop hless (by decide)
  have hrails := Live.less_rails hless (by decide)
  refine ⟨_, exec_ringSlotLoss htile hact hlost hnew, ?_, ?_, ?_, fun u hu => ?_, fun m => ?_, fun p hp q hq => ?_,
    fun hst p hp => ?_, fun r hr => ?_⟩
  · simp only [Live.tile, hloop]
    exact Live.suspendTile_tile_same hused
  · simp [Live.slotLost]
  · have hnow : (s.live.suspendTile tl).now = s.live.now := Live.same_now (by simp)
    simp only [Live.slotLost_fc]
    exact List.mem_append_right _ (List.mem_singleton.mpr (by simp [Live.detailOf, Live.tick, hnow, oTile]))
  · simp only [Live.tile, hloop]
    exact Live.suspendTile_tile_other hused hu
  · exact Live.ring_congr hrings m
  · simp only [Live.slotLost_buoyed, Live.suspendTile_slot hused hp hq]
    rfl
  · have hbond : ((s.live.suspendTile tl).raise 0x1001 (oTile tl) n k).bond = s.live.bond := Live.same_bond (by simp)
    have hnote := Live.noteSuspends_notes ((s.live.suspendTile tl).raise 0x1001 (oTile tl) n k) hp
    simp only [Live.slotLost, if_neg hst, Live.modSlot_stn]
    rwa [hbond] at hnote
  · simp only [Live.rail, hrails]
    exact Live.suspendTile_rail hused hr

end Sys2Proof.Machine
end

section
/-! PROOFS. The course work of a rail only sends details: what the collector holds besides them stays. -/
open Sys2Proof Sys2Proof.Machine
namespace Sys2Proof.Machine.Live

/-- What the collector holds besides the details that wait. -/
def held (l : Live) : Fc := { l.fc with details := [] }

theorem held_safe {l k : Live} (h : k.held = l.held) : k.fc.safe = l.fc.safe :=
  show k.held.safe = l.held.safe from congrArg Fc.safe h

theorem held_of_less {l k : Live} (h : less 268402687 k = less 268402687 l) : k.held = l.held :=
  congrArg (fun f : Fc => { f with details := [] }) (same_fc h)

theorem raise_held {l k : Live} (h : less 268402687 k = less 268402687 l) (code obj aux : Nat) :
    (k.raise code obj aux).held = l.held :=
  show k.held = l.held from held_of_less h

/-! ## Details of the course work (R225, R231 to R233) -/

theorem lostCheck_held (l : Live) (r : Nat) : (l.lostCheck r).held = l.held := by
  unfold lostCheck
  extract_lets lost was l1
  split <;> rfl

theorem phaseOpen_held (l : Live) (r m : Nat) : (l.phaseOpen r m).held = l.held := by
  unfold phaseOpen
  split
  · exact raise_held (by simp) _ _ _
  · rfl

theorem senseFail_held (l : Live) (r m : Nat) : (l.senseFail r m).held = l.held := by
  unfold senseFail
  split
  · exact raise_held (by simp) _ _ _
  · rfl

theorem uvCheck_held (l : Live) (r : Nat) : (l.uvCheck r).held = l.held := by
  unfold uvCheck
  dsimp only
  split <;> rfl

theorem railJudge_held (l : Live) (r : Nat) : (l.railJudge r).held = l.held := by
  unfold railJudge
  extract_lets l1 l2 ov uv l3
  have h2 : l2.held = l.held := (lostCheck_held _ r).trans (held_of_less (by simp [l1]))
  have h3 : l3.held = l2.held := rfl
  split
  · exact (held_of_less (by simp)).trans (h3.trans h2)
  · exact h3.trans h2

/-! ## The rows of Table 6.3 -/

theorem railTrip_held (l : Live) (r cause : Nat) : (l.railTrip r cause).held = l.held := by
  unfold railTrip
  dsimp only
  split <;> exact raise_held (by simp) _ _ _

theorem foldEnter_held (l : Live) (r : Nat) : (l.foldEnter r).held = l.held :=
  raise_held (by simp) _ _ _

theorem railLatch_held (l : Live) (r cause code : Nat) : (l.railLatch r cause code).held = l.held :=
  raise_held (by simp) _ _ _

/-- A row whose event is not there leaves the rail. -/
theorem row_held {l k : Live} (c : Bool) (h : k.held = l.held) : ((if c then some k else none).getD l).held = l.held := by
  cases c
  · rfl
  · exact h

theorem railRow_held (l : Live) (r n : Nat) : ((l.railRow r n).getD l).held = l.held := by
  unfold railRow
  dsimp only
  split
  case h_1 => exact row_held _ (railLatch_held l r 4 _)
  case h_2 => exact row_held _ (railLatch_held l r 5 _)
  case h_3 => exact row_held _ (railTrip_held l r 3)
  case h_4 => exact row_held _ (railTrip_held l r 6)
  case h_12 => exact row_held _ (foldEnter_held l r)
  case h_14 => rfl
  all_goals exact row_held _ (held_of_less (by simp))

theorem railTake_held (r f : Nat) (ks : List Nat) (l : Live) : (railTake r f ks l).held = l.held := by
  induction f generalizing ks l with
  | zero => rfl
  | succ f ih =>
    unfold railTake
    split
    · exact (ih _ _).trans (railRow_held l r _)
    · rfl

theorem railRows_held (l : Live) (r n : Nat) : (l.railRows r n).held = l.held := railTake_held r _ _ l

theorem railJudged_held (l : Live) (r : Nat) : (l.railJudged r).held = l.held := by
  unfold railJudged
  extract_lets l1 k step
  have hafter : (l1.modRail r fun k => { k with rotPrev := (l1.rots r).length, stepSeen := k.stepSeen || step }).held = l1.held :=
    held_of_less (by simp)
  have hrows : l1.held = ((l.uvCheck r).hicCheck r (l.railStart r)).held := railRows_held _ r 12
  have hic : ((l.uvCheck r).hicCheck r (l.railStart r)).held = (l.uvCheck r).held := held_of_less (by simp)
  rw [hafter, hrows, hic, uvCheck_held]

/-! ## The whole of it (R217, R237) -/

theorem railFinish_held (l : Live) (r : Nat) : (l.railFinish r).held = l.held := by
  have hwork : (l.railFinish r).held = (l.lostCheck r).held := held_of_less (by simp [railFinish])
  rw [hwork, lostCheck_held]

theorem railPart_held (l : Live) (r n : Nat) : (l.railPart r n).held = l.held := by
  unfold railPart
  split
  · exact held_of_less (less_each fun l m => by simp)
  · exact (each_keeps held _ 8 _ fun l m => senseFail_held l r m).trans (each_keeps held l 8 _ fun l m => phaseOpen_held l r m)
  · exact railJudge_held l r
  · exact railJudged_held l r
  · exact held_of_less (by simp)
  · exact railFinish_held l r
  · rfl

theorem railWork_held (l : Live) (r : Nat) : (l.railWork r).held = l.held := by
  unfold railWork
  split
  · exact forL_keeps held l _ _ fun l k => railPart_held _ r k
  · rfl

end Sys2Proof.Machine.Live
end

section
/-! PROOFS. The up-bricks of a course: what is valid, what is called for again, and when the inputs are final. -/
open Sys2Proof Sys2Proof.Machine
namespace Sys2Proof.Machine

theorem Live.slot_congr {l k : Live} (h : k.slots = l.slots) (n j : Nat) : k.slot n j = l.slot n j := by
  rw [Live.slot, h, Live.slot]

/-! ## Positions on the line (Table 2.10) -/

namespace Live.Counted
variable {l k : Live} (h : l.Counted k)
include h

theorem slot (n j : Nat) : k.slot n j = l.slot n j :=
  Live.slot_congr (Live.less_slots h (by decide)) n j

theorem slotRule (n j : Nat) : k.slotRule n j = l.slotRule n j := by
  rw [Live.slotRule, h.img, Live.slotRule]

theorem lconv (n : Nat) : k.lconv n = l.lconv n := by
  simp only [Live.lconv, Live.cf, Live.cw, h.img]

theorem rate (n : Nat) : k.rate n = l.rate n := by
  unfold Live.rate Live.given Live.cf Live.cw
  rw [h.img]

theorem linePos (n : Nat) : k.linePos n = l.linePos n := by
  unfold Live.linePos Live.commaOff
  rw [h.now, h.ring, h.rate]

theorem upAt (n : Nat) : k.upAt n = l.upAt n := by
  simp only [Live.upAt, h.lconv]

theorem dplanNow (n : Nat) : k.dplanNow n = l.dplanNow n := by
  simp only [Live.dplanNow, Live.dmeasOf, Live.ringSlots, h.img, h.ring]

theorem checkAt (n : Nat) : k.checkAt n = l.checkAt n := by
  simp only [Live.checkAt, Live.downAt, Live.retryAt, Live.callAt, h.upAt, h.dplanNow, h.ring]

theorem dretryAt (n : Nat) : k.dretryAt n = l.dretryAt n := by
  simp only [Live.dretryAt, h.checkAt, h.dplanNow]

theorem lineIn (n a b : Nat) : k.lineIn n a b = l.lineIn n a b := by
  simp only [Live.lineIn, h.linePos]

end Live.Counted

/-! ## Up-bricks (R87, R93) -/

/-- A slot with a valid up-brick: `DMISS` after a brick that was sent is a lost course. -/
def Slot.heard (k : Slot) (v : UpVals) : Slot :=
  { k with
    up := .valid, cur := v, auxSrc := if v.dmissF then k.auxSrc else k.auxSent, dmiss := v.dmissF
    lost := if v.dmissF && k.sentPrev then k.lost + 1 else 0
    lossDone := v.dmissF && k.sentPrev && k.lossDone }

theorem Live.upValid_slots (l : Live) (n j : Nat) (v : UpVals) :
    (l.upValid n j v).slots = (l.modSlot n j fun _ => (l.slot n j).heard v).slots := by
  unfold Live.upValid
  extract_lets k miss l1 l2
  have h1 : l1.slots = l.slots := Live.same_slots (by simp [l1, Live.less_ite])
  have h2 : l2.slots = (l.modSlot n j fun _ => (l.slot n j).heard v).slots := by
    simp only [l2, Live.modSlot, h1]
    rfl
  split
  · exact h2
  · refine (Live.same_slots ?_).trans h2
    simp [Live.less_ite]

theorem Live.modSlot_slots_other (l : Live) (n j : Nat) (f : Slot → Slot) {m : Nat} (h : m ≠ 32 * n + j) :
    tget {} (l.modSlot n j f).slots m = tget {} l.slots m := tget_tmod_other _ _ _ _ _ h

section UpBricks
variable {s : State} {n : Fin 8} {k : Fin 32} {b : BitVec 64} {errs : List GroupErr}

/-- The up-brick of a slot is due: the course carries its items, its inputs are not final, and the slot has none yet. -/
structure UpDue (l : Live) (n k : Nat) : Prop where
  st : (l.ring n).st = .running
  inCourse : (l.ring n).inCourse = true
  runCourse : (l.ring n).runCourse = true
  upFinal : (l.ring n).upFinal = false
  active : (l.slot n k).active = true
  rule : (l.slotRule n k).isSome = true
  up : (l.slot n k).up ≠ .valid
  at_ : l.upAt n ≤ l.linePos n

theorem exec_upBrickReceived (h : UpDue s.live n k) :
    exec (.upBrickReceived n k b errs) s = s.upd fun l =>
      if !errs.isEmpty || !upBrickOk b k (s.live.ring n).num then (l.codeErr n errs).modSlot n k fun q => { q with up := .failed }
      else (l.codeErr n errs).upValid n k (upVals b) := by
  have hcount := s.live.codeErr_counted n errs
  have hrule : (s.live.slotRule n k).isNone = false := by simpa using h.rule
  show execUpBrickReceived _ _ _ _ s = _
  unfold execUpBrickReceived
  exact upd_congr (if_neg (by simp [hcount.slotRule, hcount.linePos, hcount.upAt, h.st, h.inCourse, h.runCourse, h.upFinal,
    h.active, hrule, h.up, h.at_]))

theorem upBrickReceived_valid (h : UpDue s.live n k) (herrs : errs = []) (hok : upBrickOk b k (s.live.ring n).num = true) :
    Gives (exec (.upBrickReceived n k b errs) s) (fun t => t.live.slot n k = (s.live.slot n k).heard (upVals b) ∧
      ∀ m, m ≠ 32 * n.val + k.val → tget {} t.live.slots m = tget {} s.live.slots m) := by
  have hexec : exec (.upBrickReceived n k b errs) s = s.upd fun l => (l.codeErr n errs).upValid n k (upVals b) := by
    rw [exec_upBrickReceived h]
    exact upd_congr (if_neg (by simp [herrs, hok]))
  have hslots : ((s.live.codeErr n errs).upValid n k (upVals b)).slots =
      (s.live.modSlot n k fun _ => (s.live.slot n k).heard (upVals b)).slots := by
    have hcount := s.live.codeErr_counted n errs
    rw [Live.upValid_slots, hcount.slot, Live.modSlot, Live.less_slots hcount (by decide)]
    rfl
  refine ⟨_, hexec, ?_, fun m hm => ?_⟩
  · simp only [Live.slot, hslots]
    exact Live.modSlot_slot_same s.live n k _
  · simp only [hslots]
    exact Live.modSlot_slots_other s.live n k _ hm

theorem upBrickReceived_failed (h : UpDue s.live n k) (hbad : errs ≠ [] ∨ upBrickOk b k (s.live.ring n).num = false) :
    Gives (exec (.upBrickReceived n k b errs) s) (fun t => t.live.slot n k = { s.live.slot n k with up := .failed } ∧
      SameBut [.slots, .recd, .w1c] s t) := by
  have hexec : exec (.upBrickReceived n k b errs) s = s.upd fun l => (l.codeErr n errs).modSlot n k fun q => { q with up := .failed } := by
    rw [exec_upBrickReceived h]
    exact upd_congr (if_pos (by simpa using hbad))
  refine ⟨_, hexec, ?_, live_sameBut (m := 68157504) (by simp) _ (by decide)⟩
  simp [(s.live.codeErr_counted n errs).slot]

end UpBricks

/-! ## The call brick (R87, R90) -/

/-- The active slots of a ring that have no valid up-brick. -/
def Live.unheard (l : Live) (n : Nat) : List Nat := (l.activeSlots n).filter fun j => (l.slot n j).up ≠ .valid

/-- The call brick goes out, with the retries behind it. -/
def Live.callOut (l : Live) (n : Nat) : Live :=
  let bad := l.unheard n
  let retries := (l.ring n).retry
  let l := l.forL bad fun l j => l.modSlot n j fun q => { q with up := .failed }
  let l := (l.modRing n fun g => { g with called := true, reqmap := slotMap bad }).ringCount n 1 bad.length
  let l := l.put48 n (l.callAt n) (callBrickOf (slotMap bad))
  l.putRun n (l.retryAt n) (((l.retryOrder n bad).take retries).map retryBrickOf)

theorem put48_bare (l : Live) (n at_ : Nat) (b : BitVec 48) (k : Nat) : ((l.put48 n at_ b).ring k).bare = (l.ring k).bare :=
  modRing_bare l n (by exact fun _ => rfl) k

theorem callOut_bare (l : Live) (n : Nat) :
    ((l.callOut n).ring n).bare = { l.ring n with called := true, reqmap := slotMap (l.unheard n) }.bare := by
  unfold Live.callOut
  extract_lets bad retries l1 l2 l3
  have h1 : l1.ring n = l.ring n := Live.ring_congr (Live.same_rings (Live.less_forL fun _ _ => by simp)) n
  have h2 : l2.ring n = { l1.ring n with called := true, reqmap := slotMap bad } :=
    ((Live.ringCount_counted _ n 1 _).ring n).trans (Live.modRing_ring_same _ _ _)
  rw [putRun_bare, put48_bare, h2, h1]

section CallBrick
variable {s : State} {n : Fin 8}

theorem callBrick_calls (hst : (s.live.ring n).st = .running) (hin : (s.live.ring n).inCourse = true)
    (hrun : (s.live.ring n).runCourse = true) (hopen : (s.live.ring n).upFinal = false) (hnew : (s.live.ring n).called = false)
    (hretry : (s.live.ring n).retry ≠ 0) (hline : s.live.lineIn n (s.live.callAt n) (s.live.retryAt n) = true) :
    Gives (exec (.callBrick n) s) (fun t => (t.live.ring n).called = true ∧ (t.live.ring n).reqmap = slotMap (s.live.unheard n) ∧
      SameBut [.rings, .slots, .recd, .w1c] s t) := by
  have hexec : exec (.callBrick n) s = s.upd fun l => l.callOut n := by
    show execCallBrick _ s = _
    unfold execCallBrick
    exact upd_congr (if_neg (by simp [hst, hin, hrun, hopen, hnew, hretry, hline]))
  have hbare := callOut_bare s.live n
  exact ⟨_, hexec, congrArg Ring.called hbare, congrArg Ring.reqmap hbare,
    ((only_callBrick n s).of_next hexec).sameBut _ (by decide)⟩

theorem exec_callBrick_of_not (hrun : (s.live.ring n).runCourse = false) : exec (.callBrick n) s = .next s := by
  show execCallBrick _ s = _
  unfold execCallBrick
  exact upd_congr (g := id) (if_pos (by simp [hrun]))

end CallBrick

/-! ## The inputs become final (R91, R93, R147) -/

theorem tailBrick_bare (l : Live) (n : Nat) (b : BitVec 64) (k : Nat) : ((l.tailBrick n b).ring k).bare = (l.ring k).bare :=
  modRing_bare l n (by exact fun _ => rfl) k

theorem stnPump_bare (l : Live) (i c k : Nat) : ((l.stnPump i c).ring k).bare = (l.ring k).bare := by
  induction c generalizing l with
  | zero => rfl
  | succ c ih =>
    unfold Live.stnPump
    dsimp only
    split
    · split
      · rw [ih]
        exact tailBrick_bare _ _ _ k
      · exact tailBrick_bare _ _ _ k
    · rfl

theorem stnAsk_bare (l : Live) (i : Nat) (q : MgmtReq) (k : Nat) : ((l.stnAsk i q).ring k).bare = (l.ring k).bare :=
  stnPump_bare _ i _ k

theorem stateRead_bare (l : Live) (i w k : Nat) : ((l.stateRead i w).ring k).bare = (l.ring k).bare := by
  unfold Live.stateRead
  refine (apply_ite (fun l : Live => (l.ring k).bare) _ _ _).trans ?_
  rw [stnAsk_bare, ite_self]

theorem dueWork_bare (l : Live) (n k : Nat) : ((l.dueWork n).ring k).bare = (l.ring k).bare := by
  refine Live.forL_keeps (fun l => (l.ring k).bare) l _ _ fun l t => ?_
  refine Live.forL_keeps (fun l => (l.ring k).bare) l _ _ fun l p => ?_
  dsimp only
  split
  · rfl
  · split
    · rfl
    · split
      · split
        · exact stateRead_bare _ p.1 0 k
        · rfl
      · split <;> rfl

/-- The ring with final inputs. -/
def Ring.final (g : Ring) (dmissRun : Nat) : Ring := { g with upFinal := true, dmissRun := dmissRun }

theorem Ring.final_of_upFinal {g : Ring} (h : g.upFinal = true) : g.final g.dmissRun = g :=
  congrArg (fun b => { g with upFinal := b }) h.symm

theorem Slot.final_sentNow (k : Slot) : k.final.sentNow = k.sentNow := by
  unfold Slot.final
  split
  · rfl
  · split <;> rfl

theorem upFinalize_bare (l : Live) {n : Nat} (hin : (l.ring n).inCourse = true) :
    ∃ run, ((l.upFinalize n).ring n).bare = ((l.ring n).final run).bare := by
  by_cases hfinal : (l.ring n).upFinal = true
  · refine ⟨(l.ring n).dmissRun, ?_⟩
    rw [Ring.final_of_upFinal hfinal, Live.upFinalize, if_pos (by simp [hfinal])]
  · rw [Live.upFinalize, if_neg (by simp [hfinal, hin])]
    extract_lets xs lost l1 l2 ids l3 allMiss l4
    have h1 : l1.ring n = l.ring n := (l.ringCount_counted n 2 lost).ring n
    have h2 : l2.rings = l1.rings := Live.same_rings (Live.less_forL fun _ _ => by simp)
    have h3 : l3.rings = l2.rings := Live.same_rings (Live.less_forL fun _ _ => by simp)
    have hdec : (l4.decFinal n).rings = l4.rings := Live.same_rings (by simp)
    rw [dueWork_bare, Live.ring_congr hdec, Live.modRing_ring_same, Live.ring_congr (h3.trans h2), h1]
    exact ⟨_, rfl⟩

theorem upFinalize_sentNow (l : Live) (n r j : Nat) : ((l.upFinalize n).slot r j).sentNow = (l.slot r j).sentNow := by
  unfold Live.upFinalize
  extract_lets g xs lost l1 l2 ids l3 allMiss l4
  split
  · rfl
  · have h1 : (l1.slot r j) = l.slot r j := (l.ringCount_counted n 2 lost).slot r j
    have h2 : (l2.slot r j).sentNow = (l1.slot r j).sentNow := by
      refine Live.forL_keeps (fun l => (l.slot r j).sentNow) l1 xs _ fun l i => ?_
      rw [Live.modSlot_slot]
      split
      · exact Slot.final_sentNow _
      · rfl
    have hafter : ((l4.decFinal n).dueWork n).slots = l2.slots := by
      have h3 : l3.slots = l2.slots := Live.same_slots (Live.less_forL fun _ _ => by simp)
      exact (Live.same_slots (by simp [l4])).trans h3
    rw [Live.slot, hafter, ← h1, ← h2]
    rfl

section UpRetryReturn
variable {s : State} {n : Fin 8}

theorem upRetryReturn_finals (hst : (s.live.ring n).st = .running) (hin : (s.live.ring n).inCourse = true)
    (hrun : (s.live.ring n).runCourse = true) (hline : s.live.finalAt n ≤ s.live.linePos n) :
    Gives (exec (.upRetryReturn n) s) (fun t => (t.live.ring n).upFinal = true) := by
  have hexec : exec (.upRetryReturn n) s = s.upd fun l => l.upFinalize n := by
    show execUpRetryReturn _ s = _
    unfold execUpRetryReturn
    exact upd_congr (if_pos (by simp [hst, hrun, hline]))
  obtain ⟨run, hbare⟩ := upFinalize_bare s.live hin
  exact ⟨_, hexec, congrArg Ring.upFinal hbare⟩

theorem exec_upRetryReturn_of_not (hrun : (s.live.ring n).runCourse = false) : exec (.upRetryReturn n) s = .next s := by
  show execUpRetryReturn _ s = _
  unfold execUpRetryReturn
  exact upd_congr (g := id) (if_neg (by simp [hrun]))

end UpRetryReturn

end Sys2Proof.Machine
end

section
/-! PROOFS. The down window and the check brick of a course. -/
open Sys2Proof Sys2Proof.Machine
namespace Sys2Proof.Machine

/-! ## Before the window (R70, R217, R388) -/

/-- The inputs are final, the work of the ring's rails is done, and the reactions that change the bricks are reported. -/
def Live.downReady (l : Live) (n : Nat) : Live :=
  let l := l.upFinalize n
  (l.forL (l.railNums.filter fun r => l.railRing r = some n) Live.railWork).brickReport n false

/-- Behind the inputs only the rails and the collector change, with their ports and counters. -/
theorem Live.downReady_less (l : Live) (n : Nat) : Live.less 68192768 (l.downReady n) = Live.less 68192768 (l.upFinalize n) :=
  (Live.brickReport_keep _ n false _ rfl).trans (Live.less_forL fun l r => Live.railWork_keep l r _ rfl)

theorem Live.downReady_ring (l : Live) (n k : Nat) : (l.downReady n).ring k = (l.upFinalize n).ring k :=
  Live.ring_congr (Live.less_rings (l.downReady_less n) (by decide)) k

theorem Live.downReady_sentNow (l : Live) (n r j : Nat) : ((l.downReady n).slot r j).sentNow = (l.slot r j).sentNow := by
  rw [Live.slot, Live.less_slots (l.downReady_less n) (by decide)]
  exact upFinalize_sentNow l n r j

theorem Live.downReady_ringSlots (l : Live) (n : Nat) : (l.downReady n).ringSlots n = l.ringSlots n := by
  have himg : (l.upFinalize n).img = l.img := Live.same_img (by simp)
  rw [Live.ringSlots, Live.less_img (l.downReady_less n) (by decide), himg, Live.ringSlots]

theorem Live.downReady_safe (l : Live) (n : Nat) : (l.downReady n).fc.safe = l.fc.safe := by
  have hrails (k : Live) (rs : List Nat) : (k.forL rs Live.railWork).held = k.held :=
    Live.forL_keeps Live.held k rs _ Live.railWork_held
  have hfinal : (l.upFinalize n).fc = l.fc := Live.same_fc (by simp)
  exact (Live.held_safe (hrails _ _)).trans (congrArg Fc.safe hfinal)

theorem Live.downReady_mayDown (l : Live) {n : Nat} (hin : (l.ring n).inCourse = true) : (l.downReady n).mayDown n = l.mayDown n := by
  obtain ⟨run, hbare⟩ := upFinalize_bare l hin
  have hst : ((l.upFinalize n).ring n).st = (l.ring n).st := (congrArg Ring.st hbare :)
  have hhdr : ((l.upFinalize n).ring n).hdr = (l.ring n).hdr := (congrArg Ring.hdr hbare :)
  have hkeeper : (l.downReady n).keeper = l.keeper :=
    (Live.less_keeper (l.downReady_less n) (by decide)).trans (Live.same_keeper (by simp))
  rw [Live.mayDown, l.downReady_safe, hkeeper, l.downReady_ring, hst, hhdr, Live.mayDown]

/-! ## The bricks of the window (R70, R75, R125, R130) -/

/-- One slot's brick `x` goes out, with the `AUXSEL` of its station from `sel`. -/
def Live.sendSlot (n : Nat) (sel : List (Nat × Nat)) (l : Live) (x : Nat × Down × Bool × Bool) : Live :=
  let a : Nat := match l.slotStn n x.1 with | some i => ((sel.find? fun p => p.1 = i).map (·.2)).getD 0 | none => 0
  let l := l.sendDown n x.1 { x.2.1 with auxsel := BitVec.ofNat 2 a }
  let l := if x.2.2.1 then l.count 2 else l
  if x.2.2.2 then
    match l.slotStn n x.1 with
    | some i => (l.modSlot n x.1 fun k => { k with buoyed := false }).modStn i fun s =>
        { s with handed := s.handed || s.st = .matched, alone := s.alone || (s.st = .matched && (l.tile (s.tile.getD 0)).alone) }
    | none => l
  else l

/-- Every slot's brick goes out. -/
def Live.sendSlots (l : Live) (n : Nat) : Live :=
  let xs := l.ringSlots n
  let ids := (xs.filterMap (l.slotStn n)).dedup
  let sel := ids.map fun i => (i, (l.auxselOf i (l.ring n).idx).1)
  (l.forL (xs.map fun j => (j, l.downOf n j)) (Live.sendSlot n sel)).auxWork n ids

/-- The down window goes out. -/
def Live.windowOut (l : Live) (n : Nat) : Live :=
  let l := l.downReady n
  let l := if !l.mayDown n then l else l.sendSlots n
  let l := if 0 < (l.ring n).retry then l.put48 n (l.checkAt n) checkBrickOf else l
  l.modRing n fun g => { g with downSent := true }

theorem sendDown_bare (l : Live) (n j : Nat) (d : Down) (k : Nat) : ((l.sendDown n j d).ring k).bare = (l.ring k).bare :=
  put48_bare _ n _ _ k

theorem sendDown_sentNow (l : Live) (n j : Nat) (d : Down) (r i : Nat) :
    ((l.sendDown n j d).slot r i).sentNow = if 32 * r + i = 32 * n + j then true else (l.slot r i).sentNow := by
  unfold Live.sendDown
  extract_lets num b at_
  have hput (a : Live) : (a.put48 n at_ b).slot r i = a.slot r i := rfl
  rw [hput, Live.modSlot_slot]
  split
  · dsimp only
    split <;> rfl
  · rfl

/-- What follows a slot's brick: a count, the slot's `BUOY` and its station. -/
theorem sendSlot_sent (n : Nat) (sel : List (Nat × Nat)) (l : Live) (x : Nat × Down × Bool × Bool) :
    ∃ d, (∀ k, ((Live.sendSlot n sel l x).ring k) = (l.sendDown n x.1 d).ring k) ∧
      ∀ r i, ((Live.sendSlot n sel l x).slot r i).sentNow = ((l.sendDown n x.1 d).slot r i).sentNow := by
  unfold Live.sendSlot
  extract_lets a d l1 l2
  have hcount : l1.Counted l2 := by
    simp only [l2]
    split
    · exact Live.count_keep l1 2 _ rfl
    · rfl
  refine ⟨{ d with auxsel := BitVec.ofNat 2 a }, fun k => ?_, fun r i => ?_⟩
  · refine Eq.trans ?_ (hcount.ring k)
    split
    · split <;> rfl
    · rfl
  · rw [← hcount.slot]
    split
    · split
      · rw [Live.modStn_slot, Live.modSlot_slot]
        split <;> rfl
      · rfl
    · rfl

theorem sendSlot_bare (n : Nat) (sel : List (Nat × Nat)) (l : Live) (x : Nat × Down × Bool × Bool) (k : Nat) :
    ((Live.sendSlot n sel l x).ring k).bare = (l.ring k).bare := by
  obtain ⟨d, hring, _⟩ := sendSlot_sent n sel l x
  rw [hring, sendDown_bare]

theorem sendSlot_sentNow (n : Nat) (sel : List (Nat × Nat)) (l : Live) (x : Nat × Down × Bool × Bool) (r i : Nat) :
    ((Live.sendSlot n sel l x).slot r i).sentNow = if 32 * r + i = 32 * n + x.1 then true else (l.slot r i).sentNow := by
  obtain ⟨d, _, hsent⟩ := sendSlot_sent n sel l x
  rw [hsent, sendDown_sentNow]

/-- A slot whose brick has gone out, or goes out among these, has been sent one. -/
theorem forL_sendSlot_sentNow (n : Nat) (sel : List (Nat × Nat)) (j : Nat) (xs : List (Nat × Down × Bool × Bool)) (l : Live)
    (h : (l.slot n j).sentNow = true ∨ ∃ x ∈ xs, x.1 = j) : ((l.forL xs (Live.sendSlot n sel)).slot n j).sentNow = true := by
  induction xs generalizing l with
  | nil =>
    rcases h with h | ⟨_, hx, _⟩
    · exact h
    · cases hx
  | cons y ys ih =>
    refine ih (Live.sendSlot n sel l y) ?_
    rw [sendSlot_sentNow]
    rcases h with h | ⟨x, hx, hj⟩
    · exact .inl (by simp [h])
    · rcases List.mem_cons.mp hx with rfl | hx
      · exact .inl (if_pos (by rw [hj]))
      · exact .inr ⟨x, hx, hj⟩

theorem sendSlots_bare (l : Live) (n k : Nat) : ((l.sendSlots n).ring k).bare = (l.ring k).bare := by
  unfold Live.sendSlots
  extract_lets xs ids sel
  have haux (a : Live) : (a.auxWork n ids).rings = a.rings := Live.same_rings (by simp)
  rw [Live.ring_congr (haux _)]
  exact Live.forL_keeps (fun l => (l.ring k).bare) l _ _ fun l x => sendSlot_bare n sel l x k

theorem sendSlots_sentNow (l : Live) {n j : Nat} (h : j ∈ l.ringSlots n) : ((l.sendSlots n).slot n j).sentNow = true := by
  unfold Live.sendSlots
  extract_lets xs ids sel
  have haux (a : Live) : (a.auxWork n ids).slots = a.slots := Live.same_slots (by simp)
  rw [Live.slot, haux]
  exact forL_sendSlot_sentNow n sel j _ l (.inr ⟨_, List.mem_map_of_mem h, rfl⟩)

/-! ## The window (R75) -/

theorem windowOut_ring (l : Live) {n : Nat} (hin : (l.ring n).inCourse = true) :
    ((l.windowOut n).ring n).downSent = true ∧ ((l.windowOut n).ring n).upFinal = true := by
  unfold Live.windowOut
  extract_lets l1 l2 l3
  obtain ⟨run, hbare⟩ := upFinalize_bare l hin
  have h1 : l1.ring n = (l.upFinalize n).ring n := l.downReady_ring n n
  have h2 : (l2.ring n).bare = (l1.ring n).bare := by
    simp only [l2]
    split
    · rfl
    · exact sendSlots_bare l1 n n
  have h3 : (l3.ring n).bare = (l2.ring n).bare := by
    simp only [l3]
    split
    · exact put48_bare l2 n _ _ n
    · rfl
  rw [Live.modRing_ring_same]
  refine ⟨rfl, ?_⟩
  exact (congrArg Ring.upFinal (h3.trans (h2.trans ((congrArg Ring.bare h1).trans hbare))) :)

theorem windowOut_slots (l : Live) (n : Nat) :
    (l.windowOut n).slots = (if !(l.downReady n).mayDown n then l.downReady n else (l.downReady n).sendSlots n).slots := by
  unfold Live.windowOut
  extract_lets l1 l2 l3
  have h3 : l3.slots = l2.slots := Live.same_slots (by simp [l3, Live.less_ite])
  exact (Live.modRing_slots l3 n _).trans h3

section DownWindow
variable {s : State} {n : Fin 8}

theorem downWindow_sends (hst : (s.live.ring n).st = .running) (hin : (s.live.ring n).inCourse = true)
    (hrun : (s.live.ring n).runCourse = true) (hnew : (s.live.ring n).downSent = false)
    (hline : s.live.lineIn n (s.live.downAt n + 24 * ((s.live.ring n).pairs - 1)) (s.live.checkAt n + 24) = true) :
    Gives (exec (.downWindow n) s) (fun t => (t.live.ring n).downSent = true ∧ (t.live.ring n).upFinal = true ∧
      (s.live.mayDown n = true → ∀ k ∈ s.live.ringSlots n, (t.live.slot n k).sentNow = true) ∧
      (s.live.mayDown n = false → ∀ m k, (t.live.slot m k).sentNow = (s.live.slot m k).sentNow)) := by
  have hexec : exec (.downWindow n) s = s.upd fun l => l.windowOut n := by
    show execDownWindow _ s = _
    unfold execDownWindow
    refine upd_congr ((if_neg ?_).trans ?_)
    · simp [hst, hin, hrun, hnew, hline]
    · rfl
  obtain ⟨hsent, hfinal⟩ := windowOut_ring s.live hin
  have hslots := windowOut_slots s.live n
  rw [s.live.downReady_mayDown hin] at hslots
  simp only [State.upd] at hexec
  generalize s.live.windowOut n = k at hexec hsent hfinal hslots
  refine ⟨_, hexec, hsent, hfinal, fun hmay j hj => ?_, fun hmay m j => ?_⟩
  · rw [if_neg (by simp [hmay])] at hslots
    rw [Live.slot_congr hslots]
    exact sendSlots_sentNow _ ((s.live.downReady_ringSlots n).symm ▸ hj)
  · rw [if_pos (by simp [hmay])] at hslots
    rw [Live.slot_congr hslots]
    exact s.live.downReady_sentNow n m j

theorem exec_downWindow_of_not (h : (s.live.ring n).downSent = true ∨ (s.live.ring n).runCourse = false) :
    exec (.downWindow n) s = .next s := by
  show execDownWindow _ s = _
  unfold execDownWindow
  refine upd_congr (g := id) (if_pos ?_)
  rcases h with h | h <;> simp [h]

end DownWindow

/-! ## The check brick (R89, R90) -/

theorem putRun48_bare (l : Live) (n at_ : Nat) (bs : List (BitVec 48)) (k : Nat) :
    ((l.putRun48 n at_ bs).ring k).bare = (l.ring k).bare :=
  Live.forL_keeps (fun l => (l.ring k).bare) l _ _ fun l p => put48_bare l n _ p.2 k

section CheckBrick
variable {s : State} {n : Fin 8} {b : BitVec 48} {errs : List GroupErr}

/-- The check brick of a course is due. -/
structure CheckDue (l : Live) (n : Nat) : Prop where
  st : (l.ring n).st = .running
  inCourse : (l.ring n).inCourse = true
  runCourse : (l.ring n).runCourse = true
  downSent : (l.ring n).downSent = true
  retry : (l.ring n).retry ≠ 0
  checked : (l.ring n).checked = false
  line : l.lineIn n (l.checkAt n + 24) (l.dretryAt n + 5) = true

/-- The ring once its check brick is back. -/
def Live.checkBack (l : Live) (n : Nat) (errs : List GroupErr) : Live := (l.codeErr n errs).modRing n fun g => { g with checked := true }

/-- What a good check brick marks is noted, and sent again where the window may carry bricks. -/
def Live.checkMarked (l : Live) (n : Nat) (marks : BitVec 32) (retries : Nat) : Live :=
  let xs := (l.activeSlots n).filter fun j => marks.getLsbD j && (l.slot n j).sentNow
  let l := (l.modRing n fun g => { g with failmap := marks }).ringCount n 3 xs.length
  if !l.mayDown n then l else l.putRun48 n (l.dretryAt n) (((l.retryOrder n xs).take retries).map fun j => (l.slot n j).sent)

theorem Live.checkBack_ring (l : Live) (n : Nat) (errs : List GroupErr) :
    (l.checkBack n errs).ring n = { l.ring n with checked := true } := by
  rw [Live.checkBack, Live.modRing_ring_same, (l.codeErr_counted n errs).ring]

theorem checkMarked_bare (l : Live) (n : Nat) (marks : BitVec 32) (retries : Nat) :
    ((l.checkMarked n marks retries).ring n).bare = { l.ring n with failmap := marks }.bare := by
  unfold Live.checkMarked
  extract_lets xs l1
  have h1 : l1.ring n = { l.ring n with failmap := marks } :=
    ((Live.ringCount_counted _ n 3 _).ring n).trans (Live.modRing_ring_same _ _ _)
  rw [← h1]
  split
  · rfl
  · exact putRun48_bare l1 n _ _ n

theorem checkBrick_guard (h : CheckDue s.live n) :
    ¬ ((s.live.ring n).st ≠ .running || !(s.live.ring n).inCourse || !(s.live.ring n).runCourse || !(s.live.ring n).downSent ||
      (s.live.ring n).retry = 0 || (s.live.ring n).checked ||
      !(s.live.codeErr n errs).lineIn n ((s.live.codeErr n errs).checkAt n + 24) ((s.live.codeErr n errs).dretryAt n + 5)) = true := by
  have hcount := s.live.codeErr_counted n errs
  simp [hcount.lineIn, hcount.checkAt, hcount.dretryAt, h.st, h.inCourse, h.runCourse, h.downSent, h.retry, h.checked, h.line]

theorem checkBrickReceived_failed (h : CheckDue s.live n) (hbad : errs ≠ [] ∨ ok48 b = false ∨ nbits b.toNat 47 44 ≠ 7) :
    Gives (exec (.checkBrickReceived n b errs) s) (fun t => t.live.ring n = { s.live.ring n with checked := true } ∧
      SameBut [.rings, .recd, .w1c] s t) := by
  have hexec : exec (.checkBrickReceived n b errs) s = s.upd fun l => (l.checkBack n errs).ringCount n 5 1 := by
    show execCheckBrickReceived _ _ _ s = _
    unfold execCheckBrickReceived
    refine upd_congr ((if_neg (checkBrick_guard h)).trans (if_pos ?_))
    simpa [or_assoc] using hbad
  refine ⟨_, hexec, ?_, ((only_checkBrickReceived n b errs s).of_next hexec).sameBut _ (by decide)⟩
  exact ((Live.ringCount_counted _ n 5 1).ring n).trans (s.live.checkBack_ring n errs)

theorem checkBrickReceived_passes (h : CheckDue s.live n) (herrs : errs = []) (hok : ok48 b = true) (htype : nbits b.toNat 47 44 = 7) :
    Gives (exec (.checkBrickReceived n b errs) s) (fun t => (t.live.ring n).checked = true ∧
      (t.live.ring n).failmap = BitVec.ofNat 32 (nbits b.toNat 39 8) ∧ SameBut [.rings, .recd, .w1c] s t) := by
  have hexec : exec (.checkBrickReceived n b errs) s = s.upd fun l =>
      (l.checkBack n errs).checkMarked n (BitVec.ofNat 32 (nbits b.toNat 39 8)) (s.live.ring n).retry := by
    show execCheckBrickReceived _ _ _ s = _
    unfold execCheckBrickReceived
    refine upd_congr ((if_neg (checkBrick_guard h)).trans ((if_neg ?_).trans ?_))
    · simp [herrs, hok, htype]
    · rfl
  have hbare := checkMarked_bare (s.live.checkBack n errs) n (BitVec.ofNat 32 (nbits b.toNat 39 8)) (s.live.ring n).retry
  rw [s.live.checkBack_ring] at hbare
  simp only [State.upd] at hexec
  generalize (s.live.checkBack n errs).checkMarked n _ _ = k at hexec hbare
  exact ⟨_, hexec, congrArg Ring.checked hbare, congrArg Ring.failmap hbare,
    ((only_checkBrickReceived n b errs s).of_next hexec).sameBut _ (by decide)⟩

end CheckBrick

/-- Settles O15: a slot's brick is heard or failed, the ring's own record follows each event, and a course that began
header-only has none of these. -/
theorem bricksOfACourseAreJudged : Obligations.BricksOfACourseAreJudged := by
  intro s n hst hin
  refine ⟨fun hrun => ⟨fun k b errs hopen hact hrule hup hline => ?_, callBrick_calls hst hin hrun, fun _ hline =>
    upRetryReturn_finals hst hin hrun hline, downWindow_sends hst hin hrun, fun b errs hsent hretry hnew hline => ?_⟩,
    fun hsent => exec_downWindow_of_not (.inl hsent),
    fun hrun => ⟨exec_callBrick_of_not hrun, exec_upRetryReturn_of_not hrun, exec_downWindow_of_not (.inr hrun)⟩⟩
  · have hdue : UpDue s.live n k := ⟨hst, hin, hrun, hopen, hact, hrule, hup, hline⟩
    refine ⟨fun herrs hok => ?_, upBrickReceived_failed hdue⟩
    obtain ⟨t, hnext, hslot, hothers⟩ := upBrickReceived_valid hdue herrs hok
    refine ⟨t, hnext, ?_, ?_, ?_, ?_, hothers⟩
    · rw [hslot]
      rfl
    · rw [hslot]
      rfl
    · simp [hslot, Slot.heard]
    · rw [hslot]
      exact hact
  · have hdue : CheckDue s.live n := ⟨hst, hin, hrun, hsent, hretry, hnew, hline⟩
    exact ⟨checkBrickReceived_failed hdue, checkBrickReceived_passes hdue⟩

end Sys2Proof.Machine
end

section
/-! PROOFS. Requests to a station, and its record: what the work on either leaves of the record and of the other stations. -/
open Sys2Proof Sys2Proof.Machine
namespace Sys2Proof.Machine

/-! ## Requests (R113 to R115) -/

/-- The record without its requests. -/
def Stn.bare (q : Stn) : Stn :=
  { q with mseq := 0, req := none, reqAt := 0, reqFirst := 0, reqBusy := 0, reqDefer := false, queue := [] }

/-- `k` comes of `l` by work on station `i` alone. -/
def Live.ForStn (l k : Live) (i : Nat) : Prop := ∀ j, j ≠ i → k.stn j = l.stn j

theorem Live.ForStn.trans {l k j : Live} {i : Nat} (a : l.ForStn k i) (b : k.ForStn j i) : l.ForStn j i :=
  fun m hm => (b m hm).trans (a m hm)

theorem Live.modStn_forStn (l : Live) (i : Nat) (f : Stn → Stn) : l.ForStn (l.modStn i f) i :=
  fun j hj => l.modStn_stn_other i f j hj

/-- `k` comes of `l` by work on the requests to station `i`. -/
structure Live.Talks (l k : Live) (i : Nat) : Prop where
  bare : (k.stn i).bare = (l.stn i).bare
  others : l.ForStn k i

theorem Live.Talks.refl (l : Live) (i : Nat) : l.Talks l i := ⟨rfl, fun _ _ => rfl⟩

theorem Live.Talks.trans {l k j : Live} {i : Nat} (a : l.Talks k i) (b : k.Talks j i) : l.Talks j i :=
  ⟨b.bare.trans a.bare, a.others.trans b.others⟩

theorem Live.modStn_talks (l : Live) (i : Nat) {f : Stn → Stn} (hf : ∀ q, (f q).bare = q.bare) : l.Talks (l.modStn i f) i :=
  ⟨by rw [Live.modStn_stn_same, hf], l.modStn_forStn i f⟩

theorem Live.tailBrick_talks (l : Live) (n : Nat) (b : BitVec 64) (i : Nat) : l.Talks (l.tailBrick n b) i :=
  ⟨rfl, fun _ _ => rfl⟩

theorem Live.stnPump_talks (l : Live) (i c : Nat) : l.Talks (l.stnPump i c) i := by
  induction c generalizing l with
  | zero => exact .refl l i
  | succ c ih =>
    unfold Live.stnPump
    dsimp only
    split
    · split
      · exact ((l.tailBrick_talks _ _ i).trans (Live.modStn_talks _ i (by exact fun _ => rfl))).trans (ih _)
      · exact (l.tailBrick_talks _ _ i).trans (Live.modStn_talks _ i (by exact fun _ => rfl))
    · exact .refl l i

theorem Live.stnAsk_talks (l : Live) (i : Nat) (q : MgmtReq) : l.Talks (l.stnAsk i q) i :=
  (l.modStn_talks i (by exact fun _ => rfl)).trans (Live.stnPump_talks _ i _)

theorem Live.stnDone_talks (l : Live) (i : Nat) : l.Talks (l.stnDone i) i :=
  (l.modStn_talks i (by exact fun _ => rfl)).trans (Live.stnPump_talks _ i _)

theorem Live.descRead_talks (l : Live) (i w : Nat) : l.Talks (l.descRead i w) i := l.stnAsk_talks i _

theorem Live.assignBrick_talks (l : Live) (i b : Nat) (only : Bool) : l.Talks (l.assignBrick i b only) i := l.stnAsk_talks i _

theorem Live.forL_talks {α : Type} {i : Nat} {f : Live → α → Live} (hf : ∀ (l : Live) (x : α), l.Talks (f l x) i) (l : Live) (xs : List α) :
    l.Talks (l.forL xs f) i := by
  induction xs generalizing l with
  | nil => exact .refl l i
  | cons x xs ih => exact (hf l x).trans (ih (f l x))

/-- SIGHT_ACK is a request, and its tick is noted (R110). -/
theorem Live.sightAck_bare (l : Live) (i : Nat) : ((l.sightAck i).stn i).bare = { (l.stn i).bare with ackAt := l.now } := by
  rw [← (l.stnAsk_talks i ((l.stn i).byHop 4 ((l.stn i).shash.toNat * 256))).bare]
  exact congrArg Stn.bare (Live.modStn_stn_same _ i _)

theorem Live.sightAck_forStn (l : Live) (i : Nat) : l.ForStn (l.sightAck i) i :=
  (l.stnAsk_talks i _).others.trans (Live.modStn_forStn _ i _)

theorem Live.sendUnassign_bare (l : Live) (i : Nat) : ((l.sendUnassign i).stn i).bare = { (l.stn i).bare with unassign := false } := by
  rw [← (l.stnAsk_talks i ((l.stn i).byHop 7 0)).bare]
  exact congrArg Stn.bare (Live.modStn_stn_same _ i _)

/-! ### A station with no request -/

/-- No request is out, and none waits. -/
structure Stn.Idle (q : Stn) : Prop where
  req : q.req = none
  queue : q.queue = []

/-- A request that no reply answers leaves the station as free as it was (Table 3.5). -/
theorem Live.stnAsk_idle {l : Live} {i : Nat} {q : MgmtReq} (h : (l.stn i).Idle) (hq : q.quiet = true) :
    ((l.stnAsk i q).stn i).Idle := by
  constructor <;> simp [Live.stnAsk, Live.stnPump, Live.tailBrick, h.req, h.queue, hq]

/-- A request that is to be answered goes out at once to a station with none. -/
theorem Live.stnAsk_req {l : Live} {i : Nat} {q : MgmtReq} (h : (l.stn i).Idle) (hq : q.quiet = false) :
    ((l.stnAsk i q).stn i).req = some q := by
  simp [Live.stnAsk, Live.stnPump, Live.tailBrick, h.req, h.queue, hq]

theorem Live.sightAck_idle {l : Live} {i : Nat} (h : (l.stn i).Idle) : ((l.sightAck i).stn i).Idle := by
  have hask := Live.stnAsk_idle (q := (l.stn i).byHop 4 ((l.stn i).shash.toNat * 256)) h rfl
  unfold Live.sightAck
  dsimp only
  rw [Live.modStn_stn_same]
  exact ⟨hask.req, hask.queue⟩

/-! ## The record (Table 3.8) -/

/-- What follows when a station leaves MOORED is no change of a record. -/
theorem Live.stnTo_moor (l : Live) (i : Nat) (st : StnSt) : (l.stnTo i st).moor = (l.modStn i fun q => { q with st := st }).moor := by
  unfold Live.stnTo
  dsimp only
  split
  · exact (Live.modPoint_moor _ _ _).trans (Live.same_moor (by simp))
  · rfl

theorem Live.stn_congr {l k : Live} (h : k.moor = l.moor) (j : Nat) : k.stn j = l.stn j := by
  rw [Live.stn, h, Live.stn]

theorem Live.stnTo_stn_same (l : Live) (i : Nat) (st : StnSt) : (l.stnTo i st).stn i = { l.stn i with st := st } :=
  (Live.stn_congr (l.stnTo_moor i st) i).trans (l.modStn_stn_same i _)

theorem Live.stnTo_forStn (l : Live) (i : Nat) (st : StnSt) : l.ForStn (l.stnTo i st) i :=
  fun j hj => (Live.stn_congr (l.stnTo_moor i st) j).trans (l.modStn_stn_other i _ j hj)

theorem Live.stnDrop_stn_same (l : Live) (i : Nat) : (l.stnDrop i).stn i = {} := tget_tput_same _ _ _ _

theorem Live.stnDrop_forStn (l : Live) (i : Nat) : l.ForStn (l.stnDrop i) i :=
  fun j hj => (tget_tput_other _ _ _ _ _ hj).trans (l.stnTo_forStn i .unseen j hj)

/-- Beside the record, barring adds to the lists of barred identifiers. -/
theorem Live.stnBar_stn (l : Live) (i : Nat) (why : StnReason) (by_ : Option Nat) (j : Nat) :
    (l.stnBar i why by_).stn j = ((l.stnTo i .barred).modStn i fun q => { q with reason := why }).stn j := by
  cases by_ <;> rfl

theorem Live.stnBar_stn_same (l : Live) (i : Nat) (why : StnReason) (by_ : Option Nat) :
    (l.stnBar i why by_).stn i = { l.stn i with st := .barred, reason := why } := by
  rw [Live.stnBar_stn, Live.modStn_stn_same, Live.stnTo_stn_same]

theorem Live.stnBar_forStn (l : Live) (i : Nat) (why : StnReason) (by_ : Option Nat) : l.ForStn (l.stnBar i why by_) i :=
  fun j hj => (l.stnBar_stn i why by_ j).trans (((l.stnTo_forStn i .barred).trans (Live.modStn_forStn _ i _)) j hj)

/-- A station's detail is sent behind those that `s` has sent. -/
theorem raise_raised {s : State} {k : Live} (hnow : k.now = s.live.now) (hfc : k.fc = s.live.fc) (code obj aux : Nat) :
    Raised s { s with live := k.raise code obj aux } [s.live.detailOf code obj aux] := by
  rw [Raised, ← Live.detailOf_congr hnow, ← hfc]
  rfl

end Sys2Proof.Machine
end

section
/-! PROOFS. Announcements: the record that one makes, and the one that it acknowledges. -/
open Sys2Proof Sys2Proof.Machine
namespace Sys2Proof.Machine

/-! ## Announcements (R107, R110, R128) -/

/-- Groups without an error count nothing. -/
theorem Live.codeErr_nil (l : Live) (n : Nat) : l.codeErr n [] = l := by
  unfold Live.codeErr
  split
  · rfl
  · exact if_pos rfl

theorem nbits_lt (v hi lo : Nat) : nbits v hi lo < 2 ^ (hi - lo + 1) := Nat.mod_lt _ (Nat.two_pow_pos _)

/-- The record that the announcement `b` makes on ring `n`. -/
def sightedBy (n : Nat) (b : BitVec 64) : Stn :=
  { st := .sighted, ring := n, hop := nbits b.toNat 31 24, shash := BitVec.ofNat 24 (nbits b.toNat 59 36),
    stype := BitVec.ofNat 4 (nbits b.toNat 35 32) }

/-- A new record is acknowledged, and its descriptor is asked for. -/
def Live.sightNew (l : Live) (j : Nat) (q : Stn) : Live := ((l.modStn j fun _ => q).sightAck j).descRead j 0

theorem Live.sightNew_bare (l : Live) (j : Nat) (q : Stn) : ((l.sightNew j q).stn j).bare = { q.bare with ackAt := l.now } := by
  rw [Live.sightNew, (Live.descRead_talks _ j 0).bare, Live.sightAck_bare, Live.modStn_stn_same]
  rfl

theorem Live.sightNew_forStn (l : Live) (j : Nat) (q : Stn) : l.ForStn (l.sightNew j q) j :=
  ((l.modStn_forStn j _).trans (Live.sightAck_forStn _ j)).trans (Live.descRead_talks _ j 0).others

theorem Live.descRead_req {l : Live} {i : Nat} (h : (l.stn i).Idle) (w : Nat) : ((l.descRead i w).stn i).req.map (·.mop) = some 5 :=
  congrArg (Option.map (·.mop)) (Live.stnAsk_req (q := (l.stn i).byHop 5 (w * 2 ^ 28)) h rfl)

/-- The first DESC_READ is out. -/
theorem Live.sightNew_req (l : Live) (j : Nat) {q : Stn} (h : q.Idle) : ((l.sightNew j q).stn j).req.map (·.mop) = some 5 := by
  have hidle : (((l.modStn j fun _ => q).sightAck j).stn j).Idle := Live.sightAck_idle (by rwa [Live.modStn_stn_same])
  exact Live.descRead_req hidle 0

section Buoy
variable {s : State} {n : Fin 8} {b : BitVec 64} {errs : List GroupErr}

/-- A valid announcement on a ring that carries MGMT bricks. -/
structure BuoyDue (l : Live) (n : Nat) (b : BitVec 64) : Prop where
  st : (l.ring n).st = .running ∨ (l.ring n).st = .overbooked
  fwWork : l.fwWork = true
  ok : ok64 b = true
  type : nbits b.toNat 63 60 = 4
  stypeLo : 1 ≤ nbits b.toNat 35 32
  stypeHi : nbits b.toNat 35 32 ≤ 7
  hopLo : 1 ≤ nbits b.toNat 31 24
  hopHi : nbits b.toNat 31 24 ≤ 63

theorem BuoyDue.carried {l : Live} {n : Nat} (h : BuoyDue l n b) :
    ¬ (((l.ring n).st ≠ .running && (l.ring n).st ≠ .overbooked) || !l.fwWork) = true := by
  rcases h.st with hst | hst <;> simp [hst, h.fwWork]

theorem BuoyDue.valid {l : Live} {n : Nat} (h : BuoyDue l n b) :
    ¬ (!(([] : List GroupErr).isEmpty && ok64 b && nbits b.toNat 63 60 = 4 && 1 ≤ nbits b.toNat 35 32 && nbits b.toNat 35 32 ≤ 7 &&
      1 ≤ nbits b.toNat 31 24 && nbits b.toNat 31 24 ≤ 63)) = true := by
  simp [h.ok, h.type, h.stypeLo, h.stypeHi, h.hopLo, h.hopHi]

/-- At a free hop the announcement makes a record, where one is free. -/
theorem exec_buoy_new {j : Nat} (h : BuoyDue s.live n b) (hhop : s.live.hopStn n (nbits b.toNat 31 24) = none)
    (hfree : s.live.freeStn = some j) : exec (.buoyBrickReceived n b []) s = s.upd fun l => l.sightNew j (sightedBy n b) := by
  show execBuoyBrickReceived _ _ _ s = _
  unfold execBuoyBrickReceived
  refine upd_congr ?_
  simp only [Live.codeErr_nil]
  refine (if_neg h.carried).trans ((if_neg h.valid).trans ?_)
  simp only [hhop, hfree]
  rfl

/-- An announcement from the record that holds the hop is acknowledged. -/
theorem exec_buoy_known {i : Nat} (h : BuoyDue s.live n b) (hhop : s.live.hopStn n (nbits b.toNat 31 24) = some i)
    (hash : (s.live.stn i).shash.toNat = nbits b.toNat 59 36) :
    exec (.buoyBrickReceived n b []) s = s.upd fun l => l.sightAck i := by
  have hsame : (s.live.stn i).shash = BitVec.ofNat 24 (nbits b.toNat 59 36) := by rw [← hash, BitVec.ofNat_toNat, BitVec.setWidth_eq]
  show execBuoyBrickReceived _ _ _ s = _
  unfold execBuoyBrickReceived
  refine upd_congr ?_
  simp only [Live.codeErr_nil]
  refine (if_neg h.carried).trans ((if_neg h.valid).trans ?_)
  simp only [hhop]
  exact if_pos hsame

/-- A damaged brick counts its code errors, and makes nothing. -/
theorem exec_buoy_damaged (h : errs ≠ [] ∨ ok64 b = false) :
    exec (.buoyBrickReceived n b errs) s = s.upd fun l => l.codeErr n errs := by
  show execBuoyBrickReceived _ _ _ s = _
  unfold execBuoyBrickReceived
  refine upd_congr ((ite_congr rfl (fun _ => rfl) fun _ => if_pos ?_).trans (ite_self _))
  rcases h with h | h <;> simp [h]

theorem buoy_sights {j : Nat} (h : BuoyDue s.live n b) (hhop : s.live.hopStn n (nbits b.toNat 31 24) = none)
    (hfree : s.live.freeStn = some j) :
    Gives (exec (.buoyBrickReceived n b []) s) (fun t => (t.live.stn j).bare = { (sightedBy n b).bare with ackAt := s.live.now } ∧
      (t.live.stn j).req.map (·.mop) = some 5 ∧ s.live.ForStn t.live j ∧ SameBut [.rings, .moor] s t) :=
  ⟨_, exec_buoy_new h hhop hfree, s.live.sightNew_bare j _, s.live.sightNew_req j ⟨rfl, rfl⟩, s.live.sightNew_forStn j _,
    live_sameBut (m := 160) (by simp [Live.sightNew]) _ (by decide)⟩

end Buoy

/-- Settles O16: a record comes of `Live.sightNew`, an announcement of a known station is `Live.sightAck`, and a damaged one
is counted by `Live.codeErr` alone. -/
theorem announcementMakesSightedRecord : Obligations.AnnouncementMakesSightedRecord := by
  intro s n b errs hst
  refine ⟨fun hfw herrs hok htype hlo hhi hhop1 hhop63 => ?_, fun hbad => ?_⟩
  · subst herrs
    have hdue : BuoyDue s.live n b := ⟨hst, hfw, hok, htype, hlo, hhi, hhop1, hhop63⟩
    refine ⟨fun j hhop hfree => ?_, fun i hhop hash => ?_⟩
    · obtain ⟨t, hnext, hbare, hreq, hothers, hframe⟩ := buoy_sights hdue hhop hfree
      refine ⟨t, hnext, congrArg Stn.st hbare, congrArg Stn.ring hbare, congrArg Stn.hop hbare, ?_, ?_,
        congrArg Stn.desc hbare, hreq, hothers, hframe⟩
      · refine (congrArg (fun q => q.shash.toNat) hbare).trans ?_
        exact Nat.mod_eq_of_lt (nbits_lt _ _ _)
      · refine (congrArg (fun q => q.stype.toNat) hbare).trans ?_
        exact Nat.mod_eq_of_lt (nbits_lt _ _ _)
    · have hbare := s.live.sightAck_bare i
      exact ⟨_, exec_buoy_known hdue hhop hash, (congrArg Stn.st hbare :), (congrArg Stn.ackAt hbare :), s.live.sightAck_forStn i,
        live_sameBut (m := 160) (by simp) _ (by decide)⟩
  · exact ⟨_, exec_buoy_damaged hbad, live_sameBut (m := 68157440) (by simp) _ (by decide)⟩

end Sys2Proof.Machine
end

section
/-! PROOFS. The requests to a station: sent again, unanswered, put off or answered; and the stations that cannot be identified. -/
open Sys2Proof Sys2Proof.Machine
namespace Sys2Proof.Machine

/-! ## A request without a reply (R115, R116) -/

theorem exec_mgmtResend {s : State} {i : Fin 256} {q : MgmtReq} (hreq : (s.live.stn i).req = some q)
    (hnow : (s.live.stn i).reqDefer = false) (hdue : (s.live.stn i).reqAt + 20000 ≤ s.live.now) (hfw : s.live.fwWork = true) :
    exec (.mgmtResend i) s = s.upd fun l =>
      (l.tailBrick (l.stn i).ring (q.brick (l.stn i).mseq)).modStn i fun r => { r with reqAt := l.now } := by
  show execMgmtResend _ s = _
  unfold execMgmtResend
  refine upd_congr ?_
  simp only [hreq]
  exact if_pos (by simp [hnow, hdue, hfw])

theorem Live.tailBrick_mgmtq (l : Live) (n : Nat) (b : BitVec 64) : ((l.tailBrick n b).ring n).mgmtq = (l.ring n).mgmtq ++ [b] :=
  congrArg Ring.mgmtq (l.modRing_ring_same n _)

theorem mgmtResend_sends {s : State} {i : Fin 256} {q : MgmtReq} (hreq : (s.live.stn i).req = some q)
    (hnow : (s.live.stn i).reqDefer = false) (hdue : (s.live.stn i).reqAt + 20000 ≤ s.live.now) (hfw : s.live.fwWork = true) :
    Gives (exec (.mgmtResend i) s) (fun t => t.live.stn i = { s.live.stn i with reqAt := s.live.now } ∧
      (t.live.ring (s.live.stn i).ring).mgmtq = (s.live.ring (s.live.stn i).ring).mgmtq ++ [q.brick (s.live.stn i).mseq] ∧
      (∀ j, j ≠ i.val → t.live.stn j = s.live.stn j) ∧ SameBut [.rings, .moor] s t) :=
  ⟨_, exec_mgmtResend hreq hnow hdue hfw, Live.modStn_stn_same _ i _, s.live.tailBrick_mgmtq _ _,
    Live.modStn_forStn (s.live.tailBrick _ _) i _, live_sameBut (m := 160) (by simp) _ (by decide)⟩

/-- The record with a request that went unanswered. -/
def Stn.missed (r : Stn) (q : MgmtReq) : Stn :=
  { r with
    unanswered := r.unanswered + 1, leaseSeen := r.leaseSeen || (q.mop = 8 && q.mtag = 3)
    assignBad := r.assignBad || (q.mop = 6 && r.st = .matched) }

theorem Live.ite_modStn_stn_same (c : Prop) [Decidable c] (l : Live) (i : Nat) (f : Stn → Stn) :
    (if c then l.modStn i f else l).stn i = if c then f (l.stn i) else l.stn i := by
  rw [apply_ite (Live.stn · i), Live.modStn_stn_same]

theorem Stn.ite_leaseSeen (r : Stn) (c : Bool) :
    (if c then { r with leaseSeen := true } else r) = { r with leaseSeen := r.leaseSeen || c } := by
  cases c <;> simp

theorem Stn.ite_assignBad (r : Stn) (c : Bool) :
    (if c then { r with assignBad := true } else r) = { r with assignBad := r.assignBad || c } := by
  cases c <;> simp

/-- A bound station keeps its place when a request that is no step of a relay goes unanswered. -/
theorem Live.stnUnanswered_of_bound {l : Live} {i : Nat} {q : MgmtReq} (hst : (l.stn i).st = .matched ∨ (l.stn i).st = .moored)
    (hA : q.mop ≠ 0xA) (hC : q.mop ≠ 0xC) (hD : q.mop ≠ 0xD) :
    ∃ k, k.stn i = (l.stn i).missed q ∧ Live.less 160 k = Live.less 160 l ∧ l.stnUnanswered i q = k.stnDone i := by
  unfold Live.stnUnanswered
  extract_lets l1 r l2 l3 l4 l5
  have hr : r = { l.stn i with unanswered := (l.stn i).unanswered + 1 } := Live.modStn_stn_same l i _
  have hrst : r.st = (l.stn i).st := by rw [hr]
  have h4 : l4 = l3 := if_neg (by simp only [hA, hC, hD, decide_false, Bool.or_false, Bool.and_false]; exact Bool.false_ne_true)
  have hplace : ¬ ((r.st = .identified || r.st = .barred) && 8 ≤ r.unanswered) = true := by
    rcases hst with h | h <;> simp [hrst, h]
  have hseen : ¬ (r.st = .sighted && r.unanswered < 8) = true := by
    rcases hst with h | h <;> simp [hrst, h]
  have h2 : l2.stn i = { r with leaseSeen := r.leaseSeen || (q.mop = 8 && q.mtag = 3) } :=
    (Live.ite_modStn_stn_same _ l1 i _).trans (r.ite_leaseSeen _)
  have h3 : l3.stn i = (l.stn i).missed q := by
    refine (Live.ite_modStn_stn_same _ l2 i _).trans ((Stn.ite_assignBad _ _).trans ?_)
    rw [h2, hrst, hr]
    rfl
  refine ⟨l3, h3, by simp [l3, l2, l1, Live.less_ite], ?_⟩
  rw [if_neg hplace, if_neg hseen, ← h4]

theorem mgmtUnanswered_counts {s : State} {i : Fin 256} {q : MgmtReq} (hreq : (s.live.stn i).req = some q)
    (hnow : (s.live.stn i).reqDefer = false) (hlate : (s.live.stn i).reqFirst + q.patience ≤ s.live.now)
    (hfw : s.live.fwWork = true) (hst : (s.live.stn i).st = .matched ∨ (s.live.stn i).st = .moored)
    (hA : q.mop ≠ 0xA) (hC : q.mop ≠ 0xC) (hD : q.mop ≠ 0xD) :
    Gives (exec (.mgmtUnanswered i) s) (fun t => (t.live.stn i).bare = ((s.live.stn i).missed q).bare ∧ SameBut [.rings, .moor] s t) := by
  obtain ⟨k, hstn, hless, hdone⟩ := Live.stnUnanswered_of_bound hst hA hC hD
  have hexec : exec (.mgmtUnanswered i) s = s.upd fun _ => k.stnDone i := by
    show execMgmtUnanswered _ s = _
    unfold execMgmtUnanswered
    refine upd_congr ?_
    simp only [hreq]
    exact (if_pos (by simp [hnow, hlate, hfw])).trans hdone
  exact ⟨_, hexec, (k.stnDone_talks i).bare.trans (congrArg Stn.bare hstn),
    live_sameBut (m := 160) ((Live.stnDone_keep k i _ rfl).trans hless) _ (by decide)⟩

/-! ## Replies (R114, R116) -/

/-- Another BUSY reply puts the request off to the next bond. -/
theorem Live.stnReply_busy {l : Live} {i : Nat} (q : MgmtReq) (v : Word) (h : (l.stn i).reqBusy < 7) :
    l.stnReply i q 5 v = l.modStn i fun r => { r with reqBusy := r.reqBusy + 1, reqDefer := true } :=
  (if_pos rfl).trans (if_neg (by omega))

/-- The record with one more word of its descriptor. -/
def Stn.described (r : Stn) (w : Word) : Stn := { r with desc := r.desc ++ [w], unanswered := 0 }

theorem Stn.described_bare (r : Stn) (w : Word) : (r.described w).bare = r.bare.described w := rfl

/-- A word of a descriptor that has room joins it, and the next one is asked for. -/
theorem Live.descWord_of_room {l : Live} {i : Nat} {w : Word} (h : (l.stn i).desc.length < 15) :
    l.descWord i w = (l.modStn i (·.described w)).descRead i ((l.stn i).desc.length + 1) := by
  unfold Live.descWord
  extract_lets l1 r
  have hr : r.desc = (l.stn i).desc ++ [w] := congrArg Stn.desc (Live.modStn_stn_same l i _)
  have hlen : r.desc.length = (l.stn i).desc.length + 1 := by rw [hr, List.length_append, List.length_singleton]
  rw [if_pos (by omega), hlen]
  rfl

/-- A reply has come: the requests that wait go on. -/
def Live.answered (l : Live) (i : Nat) : Live := (l.modStn i fun r => { r with unanswered := 0 }).stnDone i

theorem Live.answered_bare (l : Live) (i : Nat) : ((l.answered i).stn i).bare = { (l.stn i).bare with unanswered := 0 } := by
  rw [Live.answered, (Live.stnDone_talks _ i).bare, Live.modStn_stn_same]
  rfl

/-- A DESC_READ that is answered OK while the descriptor has room. -/
theorem Live.stnReply_desc {l : Live} {i : Nat} {q : MgmtReq} (w : Word) (hmop : q.mop = 5) (hst : (l.stn i).st = .sighted)
    (hroom : (l.stn i).desc.length < 15) :
    l.stnReply i q 0 w = ((l.answered i).modStn i (·.described w)).descRead i ((l.stn i).desc.length + 1) := by
  have hbare := l.answered_bare i
  have hst2 : ((l.answered i).stn i).st = .sighted := (congrArg Stn.st hbare :).trans hst
  have hdesc : ((l.answered i).stn i).desc = (l.stn i).desc := (congrArg Stn.desc hbare :)
  unfold Live.stnReply
  extract_lets bad l1 l2
  have h2 : l2 = l.answered i := by simp [l2, l1, bad, Live.answered]
  rw [if_neg (by decide), if_pos hmop, h2, if_neg (by simp [hst2]), if_pos rfl, Live.descWord_of_room (hdesc ▸ hroom), hdesc]

section Reply
variable {s : State} {n : Fin 8} {b : BitVec 64} {i : Nat} {q : MgmtReq}

/-- A reply brick from station `i`, to the kind of request that is out. -/
structure ReplyDue (l : Live) (n : Nat) (b : BitVec 64) (i : Nat) (q : MgmtReq) : Prop where
  st : (l.ring n).st = .running
  fwWork : l.fwWork = true
  ok : ok64 b = true
  type : nbits b.toNat 63 60 = 8
  reply : nbits b.toNat 54 54 = 1
  hop : l.hopStn n (nbits b.toNat 15 8) = some i
  req : (l.stn i).req = some q
  mop : nbits b.toNat 51 48 = q.mop.toNat
  mopPos : q.mop ≠ 0

/-- It answers the request when its `MSEQ` and its status do (R114, R116). -/
theorem exec_mgmtReplyReceived (h : ReplyDue s.live n b i q) :
    exec (.mgmtReplyReceived n b []) s = s.upd fun l =>
      if nbits b.toNat 51 48 ≠ q.mop.toNat || nbits b.toNat 53 52 ≠ (l.stn i).mseq.toNat || 5 < nbits b.toNat 59 55 || (l.stn i).reqDefer
      then l else l.stnReply i q (nbits b.toNat 59 55) (BitVec.ofNat 32 (nbits b.toNat 47 16)) := by
  have hpos : q.mop.toNat ≠ 0 := fun h0 => h.mopPos (BitVec.eq_of_toNat_eq h0)
  show execMgmtReplyReceived _ _ _ s = _
  unfold execMgmtReplyReceived
  refine upd_congr ?_
  simp only [Live.codeErr_nil]
  refine (if_neg ?_).trans ((if_neg ?_).trans ?_)
  · simp [h.st, h.fwWork]
  · simp [h.ok, h.type, h.reply, h.mop, hpos]
  · simp only [h.hop, h.req]

theorem mgmtReply_ignored (h : ReplyDue s.live n b i q)
    (hbad : nbits b.toNat 53 52 ≠ (s.live.stn i).mseq.toNat ∨ 5 < nbits b.toNat 59 55) :
    exec (.mgmtReplyReceived n b []) s = .next s := by
  rw [exec_mgmtReplyReceived h]
  refine upd_congr (g := id) (if_pos ?_)
  rcases hbad with h | h <;> simp [h]

theorem exec_mgmtReply_answers {rstat : Nat} (h : ReplyDue s.live n b i q) (hnow : (s.live.stn i).reqDefer = false)
    (hseq : nbits b.toNat 53 52 = (s.live.stn i).mseq.toNat) (hstat : nbits b.toNat 59 55 = rstat) (hfive : rstat ≤ 5) :
    exec (.mgmtReplyReceived n b []) s = s.upd fun l => l.stnReply i q rstat (BitVec.ofNat 32 (nbits b.toNat 47 16)) := by
  rw [exec_mgmtReplyReceived h]
  subst hstat
  exact upd_congr (if_neg (by simp [h.mop, hseq, hnow, hfive]))

theorem mgmtReply_defers (h : ReplyDue s.live n b i q) (hnow : (s.live.stn i).reqDefer = false)
    (hseq : nbits b.toNat 53 52 = (s.live.stn i).mseq.toNat) (hstat : nbits b.toNat 59 55 = 5) (hbusy : (s.live.stn i).reqBusy < 7) :
    Gives (exec (.mgmtReplyReceived n b []) s) (fun t =>
      t.live.stn i = { s.live.stn i with reqBusy := (s.live.stn i).reqBusy + 1, reqDefer := true } ∧ SameBut [.moor] s t) := by
  have hexec : exec (.mgmtReplyReceived n b []) s =
      s.upd fun l => l.modStn i fun r => { r with reqBusy := r.reqBusy + 1, reqDefer := true } :=
    (exec_mgmtReply_answers h hnow hseq hstat (Nat.le_refl 5)).trans (upd_congr (Live.stnReply_busy q _ hbusy))
  exact ⟨_, hexec, Live.modStn_stn_same _ i _, live_sameBut (m := 128) (by simp) _ (by decide)⟩

theorem mgmtReply_describes (h : ReplyDue s.live n b i q) (hnow : (s.live.stn i).reqDefer = false)
    (hseq : nbits b.toNat 53 52 = (s.live.stn i).mseq.toNat) (hstat : nbits b.toNat 59 55 = 0) (hmop : q.mop = 5)
    (hst : (s.live.stn i).st = .sighted) (hroom : (s.live.stn i).desc.length < 15) :
    Gives (exec (.mgmtReplyReceived n b []) s) (fun t =>
      (t.live.stn i).bare = ((s.live.stn i).described (BitVec.ofNat 32 (nbits b.toNat 47 16))).bare ∧ SameBut [.rings, .moor] s t) := by
  have hexec : exec (.mgmtReplyReceived n b []) s = s.upd fun l =>
      ((l.answered i).modStn i (·.described (BitVec.ofNat 32 (nbits b.toNat 47 16)))).descRead i ((l.stn i).desc.length + 1) :=
    (exec_mgmtReply_answers h hnow hseq hstat (Nat.zero_le 5)).trans (upd_congr (Live.stnReply_desc _ hmop hst hroom))
  refine ⟨_, hexec, ?_, live_sameBut (m := 160) (by simp [Live.answered]) _ (by decide)⟩
  rw [(Live.descRead_talks _ i _).bare, Live.modStn_stn_same, Stn.described_bare, s.live.answered_bare]
  rfl

end Reply

/-! ## Stations that cannot be identified, and tracked ones without a slot (R110, R128) -/

section Tracked
variable {s : State} {i : Fin 256}

theorem stnIdentFail_drops (hfw : s.live.fwWork = true) (hst : (s.live.stn i).st = .sighted)
    (hfail : 3 ≤ (s.live.stn i).dcrcFails ∨ 8 ≤ (s.live.stn i).unanswered) :
    Gives (exec (.stnIdentFail i) s) (fun t => t.live.stn i = {} ∧ Raised s t [s.live.detailOf 0x2001 (oStn i) (s.live.stn i).aux] ∧
      s.live.ForStn t.live i) := by
  have hexec : exec (.stnIdentFail i) s = s.upd fun l => (l.raise 0x2001 (oStn i) (l.stn i).aux).stnDrop i := by
    show execStnIdentFail _ s = _
    unfold execStnIdentFail
    exact upd_congr (if_pos (by simp [hfw, hst, hfail]))
  refine ⟨_, hexec, Live.stnDrop_stn_same _ i, ?_, Live.stnDrop_forStn (s.live.raise _ _ _) i⟩
  have hfc (l : Live) : (l.stnDrop i).fc = l.fc := Live.same_fc (by simp)
  simp only [Raised, hfc]
  rfl

theorem exec_sightAckRefresh (hfw : s.live.fwWork = true) (hst : (s.live.stn i).st ≠ .unseen) (hrule : (s.live.stn i).rule = none)
    (hdue : (s.live.stn i).ackAt + 204800000 ≤ s.live.now) :
    exec (.sightAckRefresh i) s = s.upd fun l => l.sightAck i := by
  show execSightAckRefresh _ s = _
  unfold execSightAckRefresh
  exact upd_congr (if_pos (by simp [hfw, hst, hrule, hdue]))

end Tracked

/-- SIGHT_ACK notes its tick with the station, and leaves its place and the other stations. -/
theorem upd_sightAck_gives (s : State) (i : Nat) :
    Gives (s.upd fun l => l.sightAck i) (fun t => (t.live.stn i).ackAt = s.live.now ∧ (t.live.stn i).st = (s.live.stn i).st ∧
      (∀ j, j ≠ i → t.live.stn j = s.live.stn j) ∧ SameBut [.rings, .moor] s t) := by
  have hbare := s.live.sightAck_bare i
  exact ⟨_, rfl, (congrArg Stn.ackAt hbare :), (congrArg Stn.st hbare :), s.live.sightAck_forStn i,
    live_sameBut (m := 160) (by simp) _ (by decide)⟩

/-- Settles O17: each clause is what its event makes of the record without its requests; only a reply to the request that is out,
with its `MSEQ`, comes to `Live.stnReply`. -/
theorem managementRequestsAreTracked : Obligations.ManagementRequestsAreTracked := by
  intro s i hfw
  refine ⟨fun q hreq hnow => ⟨fun hdue => mgmtResend_sends hreq hnow hdue hfw, fun hlate hA hC hD hst => ?_,
    fun n b hring hok htype hreply hhop hmop hpos => ?_⟩, stnIdentFail_drops hfw, fun hst hrule hdue => ?_⟩
  · obtain ⟨t, hnext, hbare, hframe⟩ := mgmtUnanswered_counts hreq hnow hlate hfw hst hA hC hD
    exact ⟨t, hnext, (congrArg Stn.unanswered hbare :), (congrArg Stn.assignBad hbare :), (congrArg Stn.st hbare :), hframe⟩
  · have hdue : ReplyDue s.live n b i q := ⟨hring, hfw, hok, htype, hreply, hhop, hreq, hmop, hpos⟩
    refine ⟨mgmtReply_ignored hdue, fun hseq => ⟨mgmtReply_defers hdue hnow hseq, fun hstat hfive hst hroom => ?_⟩⟩
    obtain ⟨t, hnext, hbare, hframe⟩ := mgmtReply_describes hdue hnow hseq hstat hfive hst hroom
    exact ⟨t, hnext, (congrArg Stn.desc hbare :), (congrArg Stn.st hbare :).trans hst, hframe⟩
  · rw [exec_sightAckRefresh hfw hst hrule hdue]
    exact upd_sightAck_gives s i

end Sys2Proof.Machine
end

section
/-! PROOFS. The matching pass: what it makes of one station, and that it comes to every identified station once. -/
open Sys2Proof Sys2Proof.Machine
namespace Sys2Proof.Machine

/-! ## One station in the pass (R127, R597) -/

theorem mem_numbered {α : Type} {k n : Nat} {xs : List α} {x : α} (h : (n, x) ∈ numbered k xs) : k ≤ n ∧ xs[n - k]? = some x := by
  induction xs generalizing k with
  | nil => cases h
  | cons y ys ih =>
    rcases List.mem_cons.mp h with h | h
    · cases h
      simp
    · obtain ⟨hle, hget⟩ := ih h
      refine ⟨by omega, ?_⟩
      rwa [show n - k = n - (k + 1) + 1 by omega, List.getElem?_cons_succ]

/-- The record is bound to a rule of its ring and type whose checks `q` passes. -/
def Live.Bound (l : Live) (q q' : Stn) : Prop :=
  q'.st = .matched ∧ ∃ n r, q'.rule = some n ∧ l.img.cur.rules[n]? = some r ∧ r.ring = q.ring ∧ r.stype = q.stype ∧ r.refuses q = none

/-- What the pass makes of the record `q` of an identified station. -/
structure Live.MatchSettles (l : Live) (q q' : Stn) : Prop where
  placed : l.Bound q q' ∨ q'.st = .barred ∨ q'.st = .identified ∧ q'.reason = .unplaced
  foreign : l.fwForeign q = true → q'.st = .barred ∧ q'.reason = .firmware

/-- The pass judges by the image in force and the bank that runs. -/
theorem Live.MatchSettles.of_congr {l k : Live} {q q' : Stn} (h : k.MatchSettles q q') (himg : k.img = l.img) (hsec : k.sec = l.sec) :
    l.MatchSettles q q' := by
  refine ⟨?_, fun hforeign => h.foreign ?_⟩
  · have hplaced := h.placed
    rwa [Live.Bound, himg] at hplaced
  · unfold Live.fwForeign Live.bank at hforeign ⊢
    rwa [hsec]

/-- A bound record, before its ASSIGN requests. -/
def Live.bindStn (l : Live) (i n : Nat) (r : Rule) : Live :=
  (l.stnTo i .matched).modStn i fun q =>
    { q with
      reason := .none, rule := some n, slot := r.slot, bricks := r.bricks, tile := some r.tile, member := r.member
      mgmtSlot := false, assigned := 0, assignBad := false, silentRun := 0, dueFor := 0, handed := false, holdoff := false
      leaseSeen := false, leaseRep := false, everMoored := false, inlim := none, stateDuty := none }

theorem Live.bindRule_talks (l : Live) (i n : Nat) (r : Rule) : (l.bindStn i n r).Talks (l.bindRule i n r) i :=
  Live.forL_talks (fun l b => l.assignBrick_talks i b false) _ _

theorem Live.bindRule_stn_same (l : Live) (i n : Nat) (r : Rule) :
    ((l.bindRule i n r).stn i).st = .matched ∧ ((l.bindRule i n r).stn i).rule = some n := by
  have hbare := (l.bindRule_talks i n r).bare
  have hst : ((l.bindStn i n r).stn i).st = .matched := by rw [Live.bindStn, Live.modStn_stn_same, Live.stnTo_stn_same]
  have hrule : ((l.bindStn i n r).stn i).rule = some n := by rw [Live.bindStn, Live.modStn_stn_same]
  exact ⟨(congrArg Stn.st hbare :).trans hst, (congrArg Stn.rule hbare :).trans hrule⟩

theorem Live.bindRule_forStn (l : Live) (i n : Nat) (r : Rule) : l.ForStn (l.bindRule i n r) i :=
  ((l.stnTo_forStn i .matched).trans (Live.modStn_forStn _ i _)).trans (l.bindRule_talks i n r).others

theorem Live.matchStn_forStn (l : Live) (i : Nat) : l.ForStn (l.matchStn i) i := by
  have hbar (why : StnReason) : l.ForStn ((l.raise 0x2002 (oStn i) (l.stn i).aux).stnBar i why (some 0x2002)) i :=
    Live.stnBar_forStn (l.raise 0x2002 (oStn i) (l.stn i).aux) i why _
  unfold Live.matchStn
  dsimp only
  split
  · exact hbar _
  · split
    · exact l.bindRule_forStn i _ _
    · split
      · exact hbar _
      · exact l.modStn_forStn i _

theorem Live.matchStn_settles {l : Live} {i : Nat} (h : (l.stn i).st = .identified) : l.MatchSettles (l.stn i) ((l.matchStn i).stn i) := by
  have hbar (why : StnReason) : ((l.raise 0x2002 (oStn i) (l.stn i).aux).stnBar i why (some 0x2002)).stn i =
      { l.stn i with st := .barred, reason := why } := Live.stnBar_stn_same _ i why _
  unfold Live.matchStn
  dsimp only
  split
  case isTrue hforeign =>
    rw [hbar]
    exact ⟨.inr (.inl rfl), fun _ => ⟨rfl, rfl⟩⟩
  case isFalse hhome =>
    refine ⟨?_, fun hforeign => absurd hforeign hhome⟩
    split
    next p hfind =>
      obtain ⟨hmem, hmatch⟩ := List.mem_filter.mp (List.mem_of_find?_eq_some hfind)
      have hpass : p.2.refuses (l.stn i) = none := by simpa using List.find?_some hfind
      simp only [Live.ruleMatches, Bool.and_eq_true, decide_eq_true_eq] at hmatch
      obtain ⟨⟨⟨hring, htype⟩, _⟩, _⟩ := hmatch
      obtain ⟨hst, hrule⟩ := l.bindRule_stn_same i p.1 p.2
      exact .inl ⟨hst, p.1, p.2, hrule, (mem_numbered hmem).2, hring, htype, hpass⟩
    next =>
      split
      · rw [hbar]
        exact .inr (.inl rfl)
      · rw [Live.modStn_stn_same]
        exact .inr (.inr ⟨h, rfl⟩)

/-! ## The stations of the pass -/

/-- Where the numbers of a table rise, what is listed for a number is what the number reads as. -/
theorem tget_of_mem {α : Type} (d : α) {t : Tbl α} (h : Tbl.rises t) {k : Nat} {v : α} (hmem : (k, v) ∈ t) : tget d t k = v := by
  induction t with
  | nil => cases hmem
  | cons p t ih =>
    obtain ⟨j, w⟩ := p
    obtain ⟨hlow, hrest⟩ := h
    rcases List.mem_cons.mp hmem with heq | hmem
    · cases heq
      simp [tget]
    · have hlt : j < k := hlow _ hmem
      simp [tget, Nat.lt_asymm hlt, Nat.ne_of_gt hlt, ih hrest hmem]

/-- A number that reads as other than the default is listed. -/
theorem mem_of_tget {α : Type} (d : α) {t : Tbl α} {k : Nat} (h : tget d t k ≠ d) : (k, tget d t k) ∈ t := by
  induction t with
  | nil => exact absurd rfl h
  | cons p t ih =>
    obtain ⟨j, w⟩ := p
    unfold tget at h ⊢
    split
    next hlt => exact absurd (if_pos hlt) h
    next hge =>
      rw [if_neg hge] at h
      split
      next heq => exact heq ▸ List.mem_cons_self
      next hne =>
        rw [if_neg hne] at h
        exact List.mem_cons_of_mem _ (ih h)

/-- The numbers of a table in canonical form rise, above its bound. -/
theorem rises_of_wfFrom {α : Type} [DecidableEq α] (d : α) {t : Tbl α} {n : Option Nat} (h : wfFrom d n t = true) :
    Tbl.rises t ∧ ∀ m, n = some m → ∀ q ∈ t, m < q.1 := by
  induction t generalizing n with
  | nil => exact ⟨trivial, fun _ _ _ hq => nomatch hq⟩
  | cons p t ih =>
    obtain ⟨j, w⟩ := p
    simp only [wfFrom, Bool.and_eq_true] at h
    obtain ⟨⟨hbound, _⟩, hrest⟩ := h
    obtain ⟨hrises, habove⟩ := ih hrest
    refine ⟨⟨habove j rfl, hrises⟩, fun m hm q hq => ?_⟩
    subst hm
    have hlow : m < j := by simpa using hbound
    rcases List.mem_cons.mp hq with rfl | hq
    · exact hlow
    · exact Nat.lt_trans hlow (habove j rfl q hq)

/-- The identified stations, by ring and hop (R127). -/
def Live.identifiedStns (l : Live) : List Nat :=
  ((l.stns.filter (fun p => p.2.st = .identified)).mergeSort (fun a b => a.2.ring * 64 + a.2.hop ≤ b.2.ring * 64 + b.2.hop)).map (·.1)

theorem Live.identifiedStns_perm (l : Live) : (l.identifiedStns).Perm ((l.stns.filter (fun p => p.2.st = .identified)).map (·.1)) :=
  (List.mergeSort_perm _ _).map _

theorem Live.identifiedStns_nodup {l : Live} (h : Tbl.wf {} l.moor.stns = true) : l.identifiedStns.Nodup := by
  have hrises : numbersRise l.stns := (numbersRise_iff_rises _).mpr (rises_of_wfFrom _ h).1
  refine l.identifiedStns_perm.nodup_iff.mpr (List.pairwise_map.mpr ?_)
  exact (hrises.imp fun hlt => Nat.ne_of_lt hlt).filter _

theorem Live.mem_identifiedStns {l : Live} (h : Tbl.wf {} l.moor.stns = true) (i : Nat) :
    i ∈ l.identifiedStns ↔ (l.stn i).st = .identified := by
  rw [l.identifiedStns_perm.mem_iff, List.mem_map]
  constructor
  · rintro ⟨⟨j, q⟩, hmem, rfl⟩
    obtain ⟨hlisted, hst⟩ := List.mem_filter.mp hmem
    rw [Live.stn, tget_of_mem ({} : Stn) (rises_of_wfFrom _ h).1 hlisted]
    simpa using hst
  · intro hst
    have hused : tget {} l.moor.stns i ≠ {} := fun hempty => by
      rw [Live.stn, hempty] at hst
      cases hst
    exact ⟨(i, l.stn i), List.mem_filter.mpr ⟨mem_of_tget ({} : Stn) hused, by simpa using hst⟩, rfl⟩

/-! ## The pass -/

theorem Live.forL_matchStn_same {l : Live} (xs : List Nat) {i : Nat} (h : i ∉ xs) : (l.forL xs Live.matchStn).stn i = l.stn i := by
  induction xs generalizing l with
  | nil => rfl
  | cons x xs ih =>
    obtain ⟨hne, hrest⟩ := not_or.mp (mt List.mem_cons.mpr h)
    exact (ih hrest).trans (l.matchStn_forStn x i hne)

theorem Live.forL_matchStn_settles {l : Live} {xs : List Nat} (hnodup : xs.Nodup) {i : Nat} (h : i ∈ xs) (hst : (l.stn i).st = .identified) :
    l.MatchSettles (l.stn i) ((l.forL xs Live.matchStn).stn i) := by
  induction xs generalizing l with
  | nil => cases h
  | cons x xs ih =>
    obtain ⟨hx, hnodup⟩ := List.nodup_cons.mp hnodup
    show l.MatchSettles (l.stn i) (((l.matchStn x).forL xs Live.matchStn).stn i)
    by_cases hix : i = x
    · subst hix
      rw [Live.forL_matchStn_same xs hx]
      exact Live.matchStn_settles hst
    · have hsame : (l.matchStn x).stn i = l.stn i := l.matchStn_forStn x i hix
      have hrest := ih hnodup ((List.mem_cons.mp h).resolve_left hix) (hsame ▸ hst)
      rw [hsame] at hrest
      exact hrest.of_congr (Live.same_img (by simp)) (Live.same_sec (by simp))

/-- The identified stations are matched, and the tick of the pass is noted. -/
def Live.matchAll (l : Live) : Live :=
  let k := l.forL l.identifiedStns Live.matchStn
  { k with moor := { k.moor with passAt := k.now } }

theorem Live.matchAll_passAt (l : Live) : l.matchAll.moor.passAt = l.now :=
  Live.same_now (Live.less_forL fun _ _ => by simp)

/-- Behind the stations only the keeper notes the pass. -/
theorem exec_matchingPass {s : State} (hwork : s.live.working = true) (hfw : s.live.fwWork = true) (hbond : s.live.now = s.live.bondAt)
    (hten : s.live.now % 2000000 = 0) : ∃ f, exec .matchingPass s = s.upd fun l => l.matchAll.modK f := by
  show ∃ f, execMatchingPass s = _
  unfold execMatchingPass
  exact ⟨_, upd_congr (if_pos (by simp [hwork, hfw, ← hbond, hten]))⟩

/-- Settles O18: the pass comes to every identified station once, by `Live.matchStn`, which changes no other. -/
theorem matchingPassSettlesIdentifiedStations : Obligations.MatchingPassSettlesIdentifiedStations := by
  intro s hwork hfw hbond hten hwf
  obtain ⟨f, hexec⟩ := exec_matchingPass hwork hfw hbond hten
  refine ⟨_, hexec, s.live.matchAll_passAt, fun i => ?_⟩
  have hstn : (s.live.matchAll.modK f).stn i = (s.live.forL s.live.identifiedStns Live.matchStn).stn i := rfl
  have hmem := Live.mem_identifiedStns hwf i
  have hsettles (hst : (s.live.stn i).st = .identified) : s.live.MatchSettles (s.live.stn i) ((s.live.matchAll.modK f).stn i) := by
    rw [hstn]
    exact Live.forL_matchStn_settles (Live.identifiedStns_nodup hwf) (hmem.mpr hst) hst
  refine ⟨fun hst => (hsettles hst).placed, fun hst => (hsettles hst).foreign, fun hst => ?_⟩
  rw [hstn, Live.forL_matchStn_same _ (mt hmem.mp hst)]

end Sys2Proof.Machine
end

section
/-! PROOFS. Handover of a tile's members, and the ways in which a station leaves its place. -/
open Sys2Proof Sys2Proof.Machine
namespace Sys2Proof.Machine

/-! ## Handover (R130, R131, R174) -/

section Handover
variable {s : State} {tl : Fin 160}

theorem handoverCourse_resumes (htile : s.live.hasTile tl = true) (hmay : s.live.mayHand = true) (hiso : s.live.isolated tl = false)
    (hrules : s.live.tileRules tl = []) (hst : (s.live.tile tl).st = .suspended) (hwork : s.live.working = true) :
    Gives (exec (.handoverCourse tl) s) (fun t => t.live.tile tl = { s.live.tile tl with st := .running, rebase := true } ∧
      SameBut [.loop] s t) := by
  have hexec : exec (.handoverCourse tl) s = s.upd fun l => l.modTile tl fun k => { k with st := .running, rebase := true } := by
    show execHandoverCourse _ s = _
    unfold execHandoverCourse
    exact upd_congr (if_pos (by simp [htile, hmay, hiso, hrules, hst, hwork]))
  exact ⟨_, hexec, Live.modTile_tile_same _ _ _, live_sameBut (m := 256) (by simp) _ (by decide)⟩

/-- The due members with a fresh report of their duty (R130). -/
def Live.freshMembers (l : Live) (t : Nat) : List (Nat × Stn) := (l.dueMembers t).filter fun p => l.freshDuty p.2

/-- A tile with rules is handed over in a course that can be its handover course, once a member is due and fresh. -/
theorem exec_handoverCourse (hready : s.live.handReady tl = true) (hrules : s.live.tileRules tl ≠ [])
    (hfresh : s.live.freshMembers tl ≠ []) :
    exec (.handoverCourse tl) s =
      s.upd fun l => if l.tileStarted tl then l.handJoin tl ((l.freshMembers tl).take 1) else l.handStart tl := by
  show execHandoverCourse _ s = _
  unfold execHandoverCourse
  have hgo : (!s.live.handReady tl || (s.live.freshMembers tl).isEmpty) = false := by simpa [hready] using hfresh
  exact upd_congr ((if_neg (by simp [hrules])).trans (if_neg (ne_true_of_eq_false hgo)))

/-- A tile that is ready has a due member. -/
theorem Live.dueMembers_ne_nil {l : Live} {t : Nat} (h : l.handReady t = true) : l.dueMembers t ≠ [] := by
  simp only [Live.handReady, Live.handDue, Bool.and_eq_true, Bool.not_eq_true', List.isEmpty_eq_false_iff] at h
  tauto

/-- The tile with its members handed over, at the mean of their duties. -/
def Tile.handed (k : Tile) (xs : List (Nat × Stn)) : Tile :=
  { k with handing := xs.map (·.1), handover := some (meanDuty (xs.filterMap (·.2.stateDuty))) }

theorem Live.handStart_of_fresh {l : Live} {t : Nat} (hready : l.handReady t = true) (hnew : l.tileStarted t = false)
    (hall : l.freshMembers t = l.dueMembers t) :
    l.handStart t =
      (if l.tKind t = 4 then (l.modTile t (·.handed (l.dueMembers t))).modLoop fun e => { e with polQueue := t :: e.polQueue.filter (· ≠ t) }
        else l.modTile t (·.handed (l.dueMembers t))) := by
  unfold Live.freshMembers at hall
  unfold Live.handStart
  dsimp only
  rw [hall]
  exact if_pos (by simp [hready, hnew])

theorem handoverCourse_starts (hready : s.live.handReady tl = true) (hrules : s.live.tileRules tl ≠ [])
    (hnew : s.live.tileStarted tl = false) (hall : ∀ p ∈ s.live.dueMembers tl, s.live.freshDuty p.2 = true) :
    Gives (exec (.handoverCourse tl) s) (fun t => t.live.tile tl = (s.live.tile tl).handed (s.live.dueMembers tl) ∧
      (s.live.tKind tl = 4 → t.live.loop.polQueue.head? = some tl.val) ∧
      (s.live.tKind tl ≠ 4 → t.live.loop.polQueue = s.live.loop.polQueue) ∧ SameBut [.loop] s t) := by
  have hfresh : s.live.freshMembers tl = s.live.dueMembers tl := List.filter_eq_self.mpr hall
  have hexec : exec (.handoverCourse tl) s = s.upd fun l => l.handStart tl := by
    rw [exec_handoverCourse hready hrules (hfresh ▸ Live.dueMembers_ne_nil hready)]
    exact upd_congr (if_neg (by simp [hnew]))
  have hstart := Live.handStart_of_fresh hready hnew hfresh
  refine ⟨_, hexec, ?_, fun hpol => ?_, fun hcourse => ?_, live_sameBut (m := 256) (by simp) _ (by decide)⟩
  · simp only [hstart]
    split
    · exact Live.modTile_tile_same s.live tl (·.handed _)
    · exact Live.modTile_tile_same s.live tl _
  · simp only [hstart, if_pos hpol]
    rfl
  · simp only [hstart, if_neg hcourse]
    rfl

/-- The rail takes the member in as active and healthy, and its dwell starts again (R220, R236). -/
theorem Live.handJoin_one (l : Live) (t : Nat) (p : Nat × Stn) :
    l.handJoin t [p] = (l.tileRail t).elim (l.modTile t fun k => { k with handing := [p.1], alone := true }) fun r =>
      ((l.modTile t fun k => { k with handing := [p.1], alone := true }).modMem r p.2.member fun _ => {}).modRail r
        fun k => { k with dwellAt := none } := by
  unfold Live.handJoin
  extract_lets l1
  rw [show l1.tileRail t = l.tileRail t from Live.tileRail_congr rfl t]
  cases l.tileRail t <;> rfl

theorem handoverCourse_joins {p : Nat × Stn} {rest : List (Nat × Stn)} (hready : s.live.handReady tl = true)
    (hrules : s.live.tileRules tl ≠ []) (hstarted : s.live.tileStarted tl = true) (hfresh : s.live.freshMembers tl = p :: rest) :
    Gives (exec (.handoverCourse tl) s) (fun t =>
      t.live.tile tl = { s.live.tile tl with handing := [p.1], alone := true } ∧
      (∀ r, s.live.tileRail tl = some r → (t.live.rail r).dwellAt = none ∧ tget {} (t.live.rail r).members p.2.member = {}) ∧
      SameBut [.loop, .rails] s t) := by
  have hexec : exec (.handoverCourse tl) s = s.upd fun l => l.handJoin tl [p] := by
    rw [exec_handoverCourse hready hrules (by simp [hfresh])]
    exact upd_congr ((if_pos hstarted).trans (by rw [hfresh]; rfl))
  have hjoin := s.live.handJoin_one tl p
  refine ⟨_, hexec, ?_, fun r hr => ?_, live_sameBut (m := 768) (by simp) _ (by decide)⟩
  · simp only [hjoin]
    cases s.live.tileRail tl <;> exact Live.modTile_tile_same s.live tl _
  · simp [hjoin, hr, Live.modMem]

end Handover

/-! ## Stations that leave their place (R128, R129, Table 3.8) -/

section Leave
variable {s : State} {i : Fin 256}

/-- A binding that fails is undone (Table 3.8), and UNASSIGN goes out. -/
def Live.unbindStn (l : Live) (i : Nat) : Live := ((l.stnTo i .identified).modStn i fun q => { q.unbind with assignBad := false }).sendUnassign i

/-- The slots of a record are no longer assigned. -/
def Live.freeSlots (l : Live) (q : Stn) : Live := l.forL q.slots fun l p => l.modSlot p.1 p.2 fun k => { k with assigned := false }

theorem Live.sendUnassign_place (l : Live) (i : Nat) :
    ((l.sendUnassign i).stn i).st = (l.stn i).st ∧ ((l.sendUnassign i).stn i).rule = (l.stn i).rule :=
  ⟨(congrArg Stn.st (l.sendUnassign_bare i) :), (congrArg Stn.rule (l.sendUnassign_bare i) :)⟩

theorem Live.unbindStn_stn_same (l : Live) (i : Nat) :
    ((l.unbindStn i).stn i).st = .identified ∧ ((l.unbindStn i).stn i).rule = none := by
  obtain ⟨hst, hrule⟩ := Live.sendUnassign_place ((l.stnTo i .identified).modStn i fun q => { q.unbind with assignBad := false }) i
  rw [Live.modStn_stn_same, Live.stnTo_stn_same] at hst hrule
  exact ⟨hst, hrule⟩

theorem Live.freeSlots_keep (l : Live) (q : Stn) : Live.less 64 (l.freeSlots q) = Live.less 64 l := Live.less_forL fun _ _ => by simp

theorem Live.unbindStn_keep (l : Live) (i : Nat) : Live.less 68178848 (l.unbindStn i) = Live.less 68178848 l := by
  simp [Live.unbindStn]

theorem exec_stnHandoverFail_of_assignBad (hst : (s.live.stn i).st = .matched) (hbad : (s.live.stn i).assignBad = true) :
    exec (.stnHandoverFail i) s = s.upd fun l => ((l.freeSlots (l.stn i)).unbindStn i).raise 0x2005 (oStn i) (l.stn i).aux := by
  show execStnHandoverFail _ s = _
  unfold execStnHandoverFail
  refine upd_congr ?_
  dsimp only
  rw [if_neg (by simp [hst]), if_pos hbad]
  rfl

theorem stnHandoverFail_unbinds (hst : (s.live.stn i).st = .matched) (hbad : (s.live.stn i).assignBad = true) :
    Gives (exec (.stnHandoverFail i) s) (fun t => (t.live.stn i).st = .identified ∧ (t.live.stn i).rule = none ∧
      Raised s t [s.live.detailOf 0x2005 (oStn i) (s.live.stn i).aux]) := by
  have hexec := exec_stnHandoverFail_of_assignBad hst hbad
  have hslots := s.live.freeSlots_keep (s.live.stn i)
  have hless := Live.unbindStn_keep (s.live.freeSlots (s.live.stn i)) i
  obtain ⟨hplace, hrule⟩ := Live.unbindStn_stn_same (s.live.freeSlots (s.live.stn i)) i
  have hnow := (Live.less_now hless (by decide)).trans (Live.less_now hslots (by decide))
  have hfc := (Live.less_fc hless (by decide)).trans (Live.less_fc hslots (by decide))
  simp only [State.upd] at hexec
  generalize (s.live.freeSlots (s.live.stn i)).unbindStn i = k at hexec hplace hrule hnow hfc
  exact ⟨_, hexec, hplace, hrule, raise_raised hnow hfc _ _ _⟩

theorem stnHandoverFail_holds (hst : (s.live.stn i).st = .matched) (hbad : (s.live.stn i).assignBad = false)
    (hdue : 64 ≤ (s.live.stn i).dueFor) :
    Gives (exec (.stnHandoverFail i) s) (fun t => t.live.stn i = { s.live.stn i with dueFor := 0, handed := false, holdoff := true } ∧
      Raised s t [s.live.detailOf 0x2005 (oStn i) (s.live.stn i).aux]) := by
  have hexec : exec (.stnHandoverFail i) s = s.upd fun l =>
      (l.modStn i fun q => { q with dueFor := 0, handed := false, holdoff := true }).raise 0x2005 (oStn i) (l.stn i).aux := by
    show execStnHandoverFail _ s = _
    unfold execStnHandoverFail
    exact upd_congr ((if_neg (by simp [hst])).trans ((if_neg (by simp [hbad])).trans (if_pos hdue)))
  exact ⟨_, hexec, Live.modStn_stn_same _ _ _, raise_raised (k := s.live.modStn i _) rfl rfl _ _ _⟩

theorem stnAdrift_drifts (hst : (s.live.stn i).st = .matched ∨ (s.live.stn i).st = .moored) (hsilent : 8 ≤ (s.live.stn i).silentRun) :
    Gives (exec (.stnAdrift i) s) (fun t => t.live.stn i = { s.live.stn i with st := .adrift } ∧
      Raised s t [s.live.detailOf 0x2004 (oStn i) (s.live.stn i).aux]) := by
  have hexec : exec (.stnAdrift i) s = s.upd fun l => (l.stnTo i .adrift).raise 0x2004 (oStn i) (l.stn i).aux := by
    show execStnAdrift _ s = _
    unfold execStnAdrift
    exact upd_congr (if_pos (by simpa [hsilent] using hst))
  exact ⟨_, hexec, s.live.stnTo_stn_same i _, raise_raised (Live.same_now (by simp)) (Live.same_fc (by simp)) _ _ _⟩

theorem stnUnstable_forgets (hst : (s.live.stn i).st ≠ .unseen)
    (hfour : 4 ≤ ((s.live.stn i).suspends.filter (fun b => s.live.bond < b + 1000)).length) :
    Gives (exec (.stnUnstable i) s) (fun t => t.live.stn i = { s.live.stn i with suspends := [] } ∧
      Raised s t [s.live.detailOf 0x2007 (oStn i) (s.live.stn i).aux] ∧ SameBut [.moor, .fc] s t) := by
  have hexec : exec (.stnUnstable i) s = s.upd fun l =>
      (l.modStn i fun q => { q with suspends := [] }).raise 0x2007 (oStn i) (l.stn i).aux := by
    show execStnUnstable _ s = _
    unfold execStnUnstable
    exact upd_congr (if_pos (by simp [hst, hfour]))
  exact ⟨_, hexec, Live.modStn_stn_same _ _ _, raise_raised (k := s.live.modStn i _) rfl rfl _ _ _,
    live_sameBut (m := 32896) (by simp) _ (by decide)⟩

end Leave

/-- Settles O19: a tile resumes, starts (`Live.handStart`) or takes one member in (`Live.handJoin`), and each way out of a place is
what its event does to the record, with one detail. -/
theorem handoverAndLossOfAStation : Obligations.HandoverAndLossOfAStation := by
  intro s
  refine ⟨fun tl => handoverCourse_resumes, fun tl hready hrules => ⟨fun hnew hall => ?_, fun p rest hstarted hfresh =>
    handoverCourse_joins hready hrules hstarted hfresh⟩, fun i => ⟨stnHandoverFail_unbinds, stnHandoverFail_holds,
    stnAdrift_drifts, stnUnstable_forgets⟩⟩
  obtain ⟨t, hnext, htile, hqueue⟩ := handoverCourse_starts hready hrules hnew hall
  exact ⟨t, hnext, congrArg Tile.handing htile, congrArg Tile.handover htile, hqueue⟩

end Sys2Proof.Machine
end

section
/-! PROOFS. One instruction on a lane: what its lane's evaluation becomes, and the stores, which write into the evaluation alone. -/
open Sys2Proof Sys2Proof.Machine
namespace Sys2Proof.Machine

/-! ## One instruction on a lane (R181, R185) -/

/-- Apart from its trail, a note leaves an evaluation as it is. -/
theorem Eval.note_eq (e : Eval) (op : Nat) (pfalse : Bool) : ∃ tr, e.note op pfalse = { e with trail := tr } := by
  unfold Eval.note
  split
  · exact ⟨_, rfl⟩
  · exact ⟨e.trail, rfl⟩

section Instruction
variable {s : State} {lane op : Nat} {f : PatFields} {e : Eval}

/-- An encoding that is not reserved, and that executes, does what its opcode does. -/
theorem Live.patStep_of_executes (h : Executes s lane f e) (hword : e.word = patWord op f) (hres : patReserved op f = false)
    (body : Live → Eval → Live × Eval) :
    s.live.patStep lane op f body = (body (s.live.useStep lane) (e.note op false)).1.modLane lane
      fun k => { k with ev := some (body (s.live.useStep lane) (e.note op false)).2 } := by
  obtain ⟨⟨hev, hrun, hfree⟩, hpred⟩ := h
  have hskip : (f.pred && !e.p) = false := by simpa using hpred
  simp [Live.patStep, hev, hrun, hfree, hword, hres, hskip]

/-- An instruction that changes nothing but the evaluation moves its lane on, whatever stands in the trail. -/
theorem laneGoes_of_body {body : Live → Eval → Live × Eval} {q : Eval → Prop} (h : Executes s lane f e)
    (hword : e.word = patWord op f) (hres : patReserved op f = false)
    (hbody : ∀ tr, ∃ e', body (s.live.useStep lane) { e with trail := tr } = (s.live.useStep lane, e') ∧ q e') :
    LaneGoes s lane (s.upd fun l => l.patStep lane op f body) q := by
  obtain ⟨tr, hnote⟩ := e.note_eq op false
  obtain ⟨e', hgoes, hq⟩ := hbody tr
  have hstep := Live.patStep_of_executes h hword hres body
  simp only [hnote, hgoes] at hstep
  refine ⟨_, rfl, ?_⟩
  simp only [hstep]
  exact ⟨live_sameBut (m := 2097408) (by simp) _ (by decide), rfl, fun m hm => Live.modLane_lane_other _ _ _ _ hm, rfl, e',
    Live.modLane_lane_same _ _ _, hq⟩

/-- The same of an instruction that is named: its own fields are the only ones that it can have. -/
theorem instrGoes_of_body {c : Instr} {body : Live → Eval → Live × Eval} {q : Eval → Prop} (h : Executes s lane f e)
    (hc : patternOf c = some (lane, op, f)) (hexec : exec c s = s.upd fun l => l.patStep lane op f body)
    (hres : patReserved op f = false)
    (hbody : ∀ tr, ∃ e', body (s.live.useStep lane) { e with trail := tr } = (s.live.useStep lane, e') ∧ q e') :
    InstrGoes s lane e c q := by
  intro n op' f' hc' hword
  obtain ⟨rfl, rfl, rfl⟩ : lane = n ∧ op = op' ∧ f = f' := by simpa [hc] using hc'
  exact hexec ▸ laneGoes_of_body h hword hres hbody

theorem instrGoes_of_local {c : Instr} {body : Eval → Eval} {q : Eval → Prop} (h : Executes s lane f e)
    (hc : patternOf c = some (lane, op, f)) (hexec : exec c s = s.upd fun l => l.patLocal lane op f body)
    (hres : patReserved op f = false) (hq : ∀ tr, q (body { e with trail := tr }).advance) : InstrGoes s lane e c q :=
  instrGoes_of_body h hc hexec hres fun tr => ⟨_, rfl, hq tr⟩

end Instruction

/-! ## Encodings of the stores (Table 5.3) -/

/-- A field below a power of two has no bit that the mask of that power leaves out. -/
theorem imm_and_mask {imm : BitVec 13} {k : Nat} (h : imm.toNat < 2 ^ k) (hk : k ≤ 13) :
    imm &&& BitVec.ofNat 13 (2 ^ k - 1) = imm := by
  have hmask : 2 ^ k - 1 < 2 ^ 13 :=
    Nat.lt_of_lt_of_le (Nat.sub_lt (Nat.two_pow_pos k) Nat.one_pos) (Nat.pow_le_pow_right (by decide) hk)
  refine BitVec.eq_of_toNat_eq ?_
  rw [BitVec.toNat_and, BitVec.toNat_ofNat, Nat.mod_eq_of_lt hmask, Nat.and_two_pow_sub_one_of_lt_two_pow h]

/-- An opcode that uses `SRCA` and the low bits of `IMM`, and none of those with reserved values of their own, is reserved for no
other reason than a field that it does not use. -/
theorem patReserved_of_srca {op k : Nat} {f : PatFields} (huses : patUses op = some (false, true, false, 2 ^ k - 1)) (hpred : 1 < op)
    (hown : op ∉ [0x10, 0x11, 0x15, 0x1C, 0x20, 0x24, 0x25]) (hk : k ≤ 13) (hdst : f.dst = 0) (hsrcb : f.srcb = 0)
    (himm : f.imm.toNat < 2 ^ k) : patReserved op f = false := by
  simp only [List.mem_cons, List.not_mem_nil, or_false, not_or] at hown
  obtain ⟨h10, h11, h15, h1C, h20, h24, h25⟩ := hown
  simp [patReserved, huses, hdst, hsrcb, imm_and_mask himm hk, h10, h11, h15, h1C, h20, h24, h25, Nat.not_le_of_lt hpred]

/-! ## Buffered writes (R151, R183) -/

theorem mem_mark {k n : Nat} {l : List Nat} : n ∈ mark k l ↔ n = k ∨ n ∈ l := by
  unfold mark
  split
  next h =>
    rw [List.contains_iff_mem] at h
    exact ⟨.inr, fun hn => hn.elim (fun hn => hn ▸ h) id⟩
  next => exact List.mem_cons

theorem mem_mark_same (k : Nat) (l : List Nat) : k ∈ mark k l := mem_mark.mpr (.inl rfl)

theorem mem_mark_other {k n : Nat} {l : List Nat} (h : n ≠ k) : n ∈ mark k l ↔ n ∈ l := mem_mark.trans (or_iff_right h)

/-- A write to place `k` stands there, and leaves the other places as they were. -/
theorem buffered_write {α : Type} [DecidableEq α] (d : α) (t : Tbl α) (l : List Nat) (k : Nat) (v : α) :
    tget d (tput d t k v) k = v ∧ k ∈ mark k l ∧ ∀ n, n ≠ k → tget d (tput d t k v) n = tget d t n ∧ (n ∈ mark k l ↔ n ∈ l) :=
  ⟨tget_tput_same d t k v, mem_mark_same k l, fun _ hn => ⟨tget_tput_other d t k v _ hn, mem_mark_other hn⟩⟩

/-! ### State slots (R204) -/

/-- The word that `STS` buffers: `INTEG` of the word before, `SAT` and `VALUE`. -/
def storedWord (old : Word) (sat : Bool) (v : W24) : Word := (old &&& 0x02000000) ||| flag sat 24 ||| v.setWidth 32

theorem storedWord_getLsbD (old : Word) (sat : Bool) (v : W24) (i : Nat) :
    (storedWord old sat v).getLsbD i = (old.getLsbD 25 && decide (i = 25) || sat && decide (i = 24) || v.getLsbD i) := by
  have hinteg : (0x02000000 : Word) = BitVec.twoPow 32 25 := rfl
  have hsat : flag sat 24 = if sat then BitVec.twoPow 32 24 else 0 := rfl
  have hflag : (flag sat 24).getLsbD i = (sat && decide (i = 24)) := by
    rw [hsat]
    cases sat
    · simp
    · rw [if_pos rfl, BitVec.getLsbD_twoPow]
      simp [eq_comm]
  have hv : (v.setWidth 32).getLsbD i = v.getLsbD i := by
    rw [BitVec.getLsbD_setWidth, Bool.and_eq_right_iff_imp]
    exact fun hi => decide_eq_true (Nat.lt_of_lt_of_le (BitVec.lt_of_getLsbD hi) (by decide))
  have hkept : (old &&& 0x02000000).getLsbD i = (old.getLsbD 25 && decide (i = 25)) := by
    rw [hinteg, BitVec.getLsbD_and, BitVec.getLsbD_twoPow]
    by_cases h : i = 25
    · simp [h]
    · simp [h, Ne.symm h]
  rw [storedWord, BitVec.getLsbD_or, BitVec.getLsbD_or, hkept, hflag, hv]

/-- `VALUE`, `SAT` and `INTEG` of a stored word. -/
theorem storedWord_value (old : Word) (sat : Bool) (v : W24) : (storedWord old sat v).setWidth 24 = v := by
  refine BitVec.eq_of_getLsbD_eq fun i hi => ?_
  have h24 : i ≠ 24 := Nat.ne_of_lt hi
  have h25 : i ≠ 25 := Nat.ne_of_lt (Nat.lt_trans hi (by decide))
  simp [storedWord_getLsbD, hi, h24, h25]

theorem storedWord_sat (old : Word) (sat : Bool) (v : W24) : (storedWord old sat v).getLsbD 24 = sat := by
  rw [storedWord_getLsbD, BitVec.getLsbD_of_ge v 24 (by decide)]
  simp

theorem storedWord_integ (old : Word) (sat : Bool) (v : W24) : (storedWord old sat v).getLsbD 25 = old.getLsbD 25 := by
  rw [storedWord_getLsbD, BitVec.getLsbD_of_ge v 25 (by decide)]
  simp

theorem Eval.storeSlot_slotWord (e : Eval) (i : Nat) (v : W24) (sat : Bool) :
    (e.storeSlot i v sat).slotWord i = storedWord (e.slotWord i) sat v := by
  have hset : (mark i e.slotSet).contains i = true := List.contains_iff_mem.mpr (mem_mark_same i _)
  exact (if_pos hset).trans (tget_tput_same _ _ _ _)

theorem Eval.storeSlot_slotWord_other (e : Eval) {i n : Nat} (v : W24) (sat : Bool) (h : n ≠ i) :
    (e.storeSlot i v sat).slotWord n = e.slotWord n := by
  have hset : (mark i e.slotSet).contains n = e.slotSet.contains n := by
    rw [Bool.eq_iff_iff, List.contains_iff_mem, List.contains_iff_mem, mem_mark_other h]
  simp only [Eval.slotWord, Eval.storeSlot, hset, tget_tput_other _ _ _ _ _ h]

/-! ### The repetitive-control entry (R201) -/

theorem satW_bounds (w : Nat) (v : Int) : -(2 ^ (w - 1) : Int) ≤ satW w v ∧ satW w v < (2 ^ (w - 1) : Int) := by
  have hpos : (0 : Int) < 2 ^ (w - 1) := Int.pow_pos (by decide)
  unfold satW
  split
  · omega
  · split <;> omega

theorem ofInt_satW_toInt {w : Nat} (hw : 0 < w) (v : Int) : (BitVec.ofInt w (satW w v)).toInt = satW w v :=
  BitVec.toInt_ofInt_eq_self hw (satW_bounds w v).1 (satW_bounds w v).2

/-- sat16 gives the code of the held value (R187). -/
theorem sat16_toInt (v : Int) : (sat16 v).toInt = held16 v := by
  refine (ofInt_satW_toInt (by decide) v).trans ?_
  unfold satW held16
  split
  · omega
  · split <;> omega

/-! ## The stores -/

section Stores
variable {s : State} {lane : Fin 8} {f : PatFields} {e : Eval} (h : Executes s lane f e) (hdst : f.dst = 0) (hsrcb : f.srcb = 0)
include h hdst hsrcb

theorem sts_stores (himm : f.imm.toNat < 32) :
    InstrGoes s lane e (.opSts lane f) (fun e' =>
      e' = { e with pc := e.pc + 1, trail := e'.trail, slots := e'.slots, slotSet := e'.slotSet } ∧
      f.imm.toNat % 16 ∈ e'.slotSet ∧ (e'.slotWord (f.imm.toNat % 16)).setWidth 24 = e.wreg f.srca ∧
      (e'.slotWord (f.imm.toNat % 16)).getLsbD 24 = (decide (16 ≤ f.imm.toNat) && e.p) ∧
      (e'.slotWord (f.imm.toNat % 16)).getLsbD 25 = (e.slotWord (f.imm.toNat % 16)).getLsbD 25 ∧
      ∀ n, n ≠ f.imm.toNat % 16 → e'.slotWord n = e.slotWord n ∧ (n ∈ e'.slotSet ↔ n ∈ e.slotSet)) := by
  have hbit : f.imm.getLsbD 4 = decide (16 ≤ f.imm.toNat) := by
    rw [BitVec.getLsbD, Nat.testBit_eq_decide_div_mod_eq, decide_eq_decide]
    omega
  refine instrGoes_of_local h rfl rfl (patReserved_of_srca (k := 5) rfl (by decide) (by decide) (by decide) hdst hsrcb himm)
    fun tr => ?_
  have hword := Eval.storeSlot_slotWord { e with trail := tr } (f.imm.toNat % 16) (e.wreg f.srca) (f.imm.getLsbD 4 && e.p)
  refine ⟨rfl, mem_mark_same _ _, ?_, ?_, ?_, fun n hn => ⟨Eval.storeSlot_slotWord_other _ _ _ hn, mem_mark_other hn⟩⟩
  · exact (congrArg (BitVec.setWidth 24) hword).trans (storedWord_value _ _ _)
  · exact (congrArg (BitVec.getLsbD · 24) hword).trans ((storedWord_sat _ _ _).trans (by rw [hbit]))
  · exact (congrArg (BitVec.getLsbD · 25) hword).trans (storedWord_integ _ _ _)

/-- `RCWR` replaces the entry that the evaluation has buffered, or else the stored one; where it may not, it only moves on. -/
theorem rcwr_stores (himm : f.imm = 0) :
    InstrGoes s lane e (.opRcwr lane f) (fun e' =>
      if s.live.rcUsable e = true ∧ e.frozen = false ∧ e.ranRebase = false ∧ e.inRebase = false then
        ∃ v, e' = { e with pc := e.pc + 1, trail := e'.trail, rc := some v } ∧
          v.toInt = held16 (roundEven (recRcq e.record *
            (e.rc.getD (tget 0 s.live.loop.rcPool (recRcBase e.record + (s.live.tile e.tile).rcK))).toInt * 256 +
              recRcl e.record * (e.wreg f.srca).toInt) 16)
      else e' = { e with pc := e.pc + 1, trail := e'.trail }) := by
  refine instrGoes_of_body h rfl rfl (patReserved_of_srca (k := 0) rfl (by decide) (by decide) (by decide) hdst hsrcb (by simp [himm])) fun tr => ?_
  have hgo : (s.live.rcUsable e && !e.frozen && !e.ranRebase && !e.inRebase) = true ↔
      s.live.rcUsable e = true ∧ e.frozen = false ∧ e.ranRebase = false ∧ e.inRebase = false := by simp [and_assoc]
  by_cases hmay : (s.live.rcUsable e && !e.frozen && !e.ranRebase && !e.inRebase) = true
  · refine ⟨_, if_pos hmay, ?_⟩
    rw [if_pos (hgo.mp hmay)]
    exact ⟨_, rfl, sat16_toInt _⟩
  · refine ⟨_, if_neg hmay, ?_⟩
    rw [if_neg (mt hgo.mpr hmay)]
    rfl

end Stores

/-- Settles O28: every store is an instruction of `instrGoes_of_body`, whose effect is one buffered write. -/
theorem storesAreBuffered : Obligations.StoresAreBuffered := by
  intro s lane f e h hdst hsrcb
  refine ⟨sts_stores h hdst hsrcb, fun himm => ?_, fun himm => ⟨?_, ?_⟩, rcwr_stores h hdst hsrcb⟩
  · refine instrGoes_of_local h rfl rfl
      (patReserved_of_srca (k := 2) rfl (by decide) (by decide) (by decide) hdst hsrcb himm) fun tr => ⟨rfl, ?_⟩
    simp only [Nat.mod_eq_of_lt himm]
    exact buffered_write 0 e.outs e.outSet f.imm.toNat (e.wreg f.srca)
  · refine instrGoes_of_local h rfl rfl
      (patReserved_of_srca (k := 3) rfl (by decide) (by decide) (by decide) hdst hsrcb himm) fun tr => ⟨rfl, ?_⟩
    simp only [Nat.mod_eq_of_lt himm]
    exact buffered_write 0 e.pubs e.pubSet f.imm.toNat (e.wreg f.srca)
  · refine instrGoes_of_local h rfl rfl
      (patReserved_of_srca (k := 3) rfl (by decide) (by decide) (by decide) hdst hsrcb himm) fun tr => ⟨rfl, ?_⟩
    simp only [Nat.mod_eq_of_lt himm]
    exact buffered_write 0 e.taps e.tapSet f.imm.toNat (e.wreg f.srca)

end Sys2Proof.Machine
end

section
/-! PROOFS. Dispatch: the evaluation that a lane starts, and the inputs that it latches. -/
open Sys2Proof Sys2Proof.Machine
namespace Sys2Proof.Machine

/-! ## The start of an evaluation (R138, R142, R163, R173) -/

/-- A table that is filled from a list reads the list's values from `k` on. -/
theorem tget_foldl_numbered {α : Type} [DecidableEq α] (d : α) (xs : List α) (k : Nat) (t : Tbl α) (i : Nat) :
    tget d ((numbered k xs).foldl (fun c p => tput d c p.1 p.2) t) i = if i < k then tget d t i else xs[i - k]?.getD (tget d t i) := by
  induction xs generalizing k t with
  | nil => simp [numbered]
  | cons x xs ih =>
    refine (ih (k + 1) (tput d t k x)).trans ?_
    rw [tget_tput]
    rcases Nat.lt_trichotomy i k with h | rfl | h
    · simp [h, Nat.lt_succ_of_lt h, Nat.ne_of_lt h]
    · simp
    · obtain ⟨j, rfl⟩ := Nat.exists_eq_add_of_lt h
      have hne : k + j + 1 ≠ k := Nat.ne_of_gt h
      have htail : k + j + 1 - k = j + 1 ∧ k + j + 1 - (k + 1) = j := by omega
      simp [hne, Nat.not_lt_of_lt h, htail]

/-- A tile whose record has changed owes a REBASE (R173). -/
def Live.rebased (l : Live) (t : Nat) : Live := l.modTile t fun k => { k with rebase := k.rebase || k.changed }

/-- The value and status of input port `i` of a tile with the record `r`, as a dispatch in a course of `rg`, or in a bond, latches
them. -/
def Live.portAt (l : Live) (r : Tbl Word) (t : Nat) (rg : Option Nat) (i : Nat) : W24 × UpStat :=
  (l.rebased t).latchInput ((l.rebased t).latchOf (rg.getD 8)) t (recIn r i) rg.isNone

/-- What a dispatch makes of an evaluation of tile `t`, whose record is `r`. -/
structure Live.Begins (l : Live) (r : Tbl Word) (t : Nat) (rg : Option Nat) (num : Half) (e : Eval) : Prop where
  tile : e.tile = t
  ring : e.ring = rg
  num : e.num = num
  record : e.record = r
  lib : e.lib = l.img.cur.lib
  inRebase : e.inRebase = ((l.tile t).rebase || (l.tile t).changed || (l.tile t).handover.isSome)
  pc : e.pc = if e.inRebase then recPrebase r else recPmain r
  startAt : e.startAt = l.now
  regs : e.w = [] ∧ e.acc = 0 ∧ e.p = false
  going : e.ended = false ∧ e.dropped = false ∧ e.bad = false
  unwritten : e.outSet = [] ∧ e.slotSet = [] ∧ e.pubSet = [] ∧ e.tapSet = []
  inputs : ∀ i, i < 8 → tget 0 e.ins i = (l.portAt r t rg i).1 ∧ e.sts[i]? = some (l.portAt r t rg i).2

/-- Beside the recorder's parts, a dispatch changes what its tile owes and its lane's evaluation. -/
theorem Live.startEval_begins (l : Live) (lane t : Nat) (rg : Option Nat) (num : Half) :
    ∃ e, (l.startEval lane t rg num).loop = ((l.rebased t).modLane lane fun k => { k with ev := some e }).loop ∧
      l.Begins (l.record_ t) t rg num e := by
  unfold Live.startEval
  generalize l.record_ t = r
  extract_lets k r' l1 lt vs sts fresh smp l2 l3 rb e
  have hless : Live.less 202375168 l3 = Live.less 202375168 l1 := by simp [l3, l2, smp]
  have hloop : l3.loop = l1.loop := Live.less_loop hless (by decide)
  have himg : l3.img = l1.img := Live.less_img hless (by decide)
  have hnow : l3.now = l1.now := Live.less_now hless (by decide)
  have hport (i : Nat) (hi : i < 8) : vs[i]? = some (l.portAt r t rg i) := by
    simp only [vs, List.getElem?_map, List.getElem?_range hi]
    rfl
  have hsts (i : Nat) (hi : i < 8) : e.sts[i]? = some (l.portAt r t rg i).2 := by simp [e, sts, hport i hi]
  have hins (i : Nat) (hi : i < 8) : tget 0 e.ins i = (l.portAt r t rg i).1 := by
    simp [e, tget_foldl_numbered, hport i hi]
  refine ⟨e, by simp only [Live.modLane, hloop]; rfl, rfl, rfl, rfl, rfl, congrArg (·.cur.lib) himg, rfl, rfl, hnow, ⟨rfl, rfl, rfl⟩,
    ⟨rfl, rfl, rfl⟩, ⟨rfl, rfl, rfl, rfl⟩, fun i hi => ⟨hins i hi, hsts i hi⟩⟩

section Start
variable (l : Live) (lane t : Nat) (rg : Option Nat) (num : Half)

theorem Live.startEval_lane : ∃ e, (l.startEval lane t rg num).lane lane = { l.lane lane with ev := some e } ∧
    l.Begins (l.record_ t) t rg num e := by
  obtain ⟨e, hloop, hbegins⟩ := l.startEval_begins lane t rg num
  refine ⟨e, ?_, hbegins⟩
  rw [Live.lane, hloop]
  exact Live.modLane_lane_same (l.rebased t) lane _

theorem Live.startEval_lane_other {j : Nat} (h : j ≠ lane) : (l.startEval lane t rg num).lane j = l.lane j := by
  obtain ⟨e, hloop, -⟩ := l.startEval_begins lane t rg num
  rw [Live.lane, hloop]
  exact Live.modLane_lane_other (l.rebased t) lane _ j h

theorem Live.startEval_tile (u : Nat) : (l.startEval lane t rg num).tile u = (l.rebased t).tile u := by
  obtain ⟨e, hloop, -⟩ := l.startEval_begins lane t rg num
  rw [Live.tile, hloop]
  rfl

theorem Live.startEval_polQueue : (l.startEval lane t rg num).loop.polQueue = l.loop.polQueue := by
  obtain ⟨e, hloop, -⟩ := l.startEval_begins lane t rg num
  rw [hloop]
  rfl

end Start

/-! ## What of a lane no other part reads -/

section ModLane
variable (l : Live) (lane : Nat) (f : Lane → Lane)

/-- What leaves the schedules alone leaves alone which tiles are isolated. -/
theorem Live.modLane_isolated (hf : ∀ k, (f k).sched = k.sched) (t : Nat) : (l.modLane lane f).isolated t = l.isolated t := by
  have hsched (j : Nat) : ((l.modLane lane f).lane j).sched = (l.lane j).sched := by
    rw [Live.modLane_lane]
    split
    next h => rw [hf, h]
    next => rfl
  unfold Live.isolated Live.isolates
  simp only [hsched]
  rfl

/-- What a dispatch latches is nothing of the lanes. -/
theorem Live.Begins.of_modLane {r : Tbl Word} {t : Nat} {rg : Option Nat} {num : Half} {e : Eval} {l : Live} {lane : Nat} {f : Lane → Lane}
    (h : (l.modLane lane f).Begins r t rg num e) : l.Begins r t rg num e :=
  { h with inputs := h.inputs }

end ModLane

/-! ## The entry that a lane has come to (R149) -/

/-- The entry of tile `t` in the present course of ring `n`, which starts at `at_`, and whose inputs are final. -/
structure Live.EntryDue (l : Live) (t n at_ : Nat) : Prop where
  course : l.courseTile t = true
  ring : l.tileRing t = some n
  past : at_ ≤ l.now
  inCourse : (l.ring n).inCourse = true
  start : (l.ring n).start = at_
  safe : l.fc.safe = false
  free : l.isolated t = false
  running : (l.tile t).st = .running
  whole : l.decimated t n (l.ring n).num = false
  final : l.inputsFinal t = true

theorem Live.EntryDue.entryDo {l : Live} {t n at_ : Nat} (h : l.EntryDue t n at_) : l.entryDo t at_ = .start n (l.ring n).num := by
  simp [Live.entryDo, h.ring, Nat.not_lt_of_le h.past, h.start, h.inCourse, h.safe, h.free, h.running, h.whole, h.final]

/-- A course tile that runs has started. -/
theorem Live.tileStarted_of_running {l : Live} {t : Nat} (hcourse : l.courseTile t = true) (hrun : (l.tile t).st = .running) :
    l.tileStarted t = true := by
  simp only [Live.courseTile, Bool.and_eq_true, decide_eq_true_eq] at hcourse
  simp [Live.tileStarted, hrun, hcourse.2]

/-- No handover starts a tile that has started. -/
theorem Live.handStart_of_started {l : Live} {t : Nat} (h : l.tileStarted t = true) : l.handStart t = l := by
  simp [Live.handStart, h]

/-- The lane starts the entry that it has come to. -/
theorem Live.laneRun_of_due {l : Live} {lane f t c n : Nat} (hentry : (l.lane lane).sched[(l.lane lane).pos]? = some (t, c))
    (hsince : (l.lane lane).since ≤ (l.lane lane).base + c * l.period n) (h : l.EntryDue t n ((l.lane lane).base + c * l.period n)) :
    Live.laneRun lane (f + 1) l =
      (l.modLane lane fun k => { k with pos := k.pos + 1 }).startEval lane t (some n) (l.ring n).num := by
  have hperiod : l.tilePeriod t = l.period n := by simp [Live.tilePeriod, h.ring]
  have hstart : l.handStart t = l := Live.handStart_of_started (Live.tileStarted_of_running h.course h.running)
  simp [Live.laneRun, hentry, hperiod, hstart, Nat.not_lt_of_le hsince, h.entryDo]

/-! ## TILE_DISPATCH -/

section Dispatch
variable {s : State} {lane : Fin 8}

theorem tileDispatch_waits {e : Eval} (hev : (s.live.lane lane).ev = some e) (h : e.ended = false ∨ e.dropped = false) :
    exec (.tileDispatch lane) s = .next s := by
  show execTileDispatch _ s = _
  unfold execTileDispatch
  have hbusy : (s.live.lane lane).free = false := by rcases h with h | h <;> simp [Lane.free, hev, h]
  exact upd_congr (g := id) (if_pos (by simp [hbusy]))

theorem tileDispatch_held (h : s.live.laneHeld lane = true) : exec (.tileDispatch lane) s = .next s := by
  show execTileDispatch _ s = _
  unfold execTileDispatch
  exact upd_congr (g := id) (if_pos (by simp [h]))

/-- A lane that runs no evaluation is left as it is where it is cleared of one. -/
theorem Live.clearLane_lane {l : Live} {lane : Nat} (hev : (l.lane lane).ev = none) (j : Nat) :
    (l.modLane lane fun k => { k with ev := none }).lane j = l.lane j := by
  rw [Live.modLane_lane]
  split
  next h => rw [h, ← hev]
  next => rfl

/-- The lane is free, and the entry that it has come to, of tile `t` in course `c` of its cycle, is due on ring `n`. -/
structure Live.LaneDue (l : Live) (lane t c n : Nat) : Prop where
  working : l.working = true
  ev : (l.lane lane).ev = none
  cycle : (l.lane lane).cycle ≠ 0
  held : l.laneHeld lane = false
  entry : (l.lane lane).sched[(l.lane lane).pos]? = some (t, c)
  since : (l.lane lane).since ≤ (l.lane lane).base + c * l.period n
  due : l.EntryDue t n ((l.lane lane).base + c * l.period n)

/-- A lane that is due takes its entry, and goes on to the next. -/
theorem exec_tileDispatch {t c n : Nat} (h : s.live.LaneDue lane t c n) :
    exec (.tileDispatch lane) s = s.upd fun l =>
      ((l.modLane lane fun k => { k with ev := none }).modLane lane fun k => { k with pos := k.pos + 1 }).startEval lane t (some n)
        (l.ring n).num := by
  show execTileDispatch _ s = _
  unfold execTileDispatch
  refine upd_congr ((if_neg (by simp [h.working, Lane.free, h.ev, h.cycle, h.held])).trans ?_)
  have hbusy : ((s.live.lane lane).sched.all fun e => (s.live.tile e.1).st ≠ .running) = false :=
    List.all_eq_false.mpr ⟨_, List.mem_of_getElem? h.entry, by simp [h.due.running]⟩
  simp only [hbusy, Bool.false_and, Bool.false_eq_true, if_false]
  have hlane := Live.clearLane_lane h.ev lane
  have hdue : (s.live.modLane lane fun k => { k with ev := none }).EntryDue t n ((s.live.lane lane).base + c * s.live.period n) :=
    { h.due with free := (Live.modLane_isolated s.live lane (fun k => { k with ev := none }) (fun _ => rfl) t).trans h.due.free }
  obtain ⟨f, hfuel⟩ : ∃ f, ((s.live.now - (s.live.lane lane).base) / (s.live.lane lane).cycle + 2) *
      ((s.live.lane lane).sched.length + 1) = f + 1 := Nat.exists_eq_succ_of_ne_zero (by simp)
  simp only [hlane, Live.modLane_now, hfuel]
  exact Live.laneRun_of_due (by rw [hlane]; exact h.entry) (by rw [hlane]; exact h.since) (by rw [hlane]; exact hdue)

theorem tileDispatch_starts {t c n : Nat} (h : s.live.LaneDue lane t c n) :
    Gives (exec (.tileDispatch lane) s) (fun u => (u.live.tile t = (s.live.rebased t).tile t) ∧
      (∀ j : Fin 8, j ≠ lane → u.live.lane j = s.live.lane j) ∧
      ∃ e, u.live.lane lane = { s.live.lane lane with pos := (s.live.lane lane).pos + 1, ev := some e } ∧
        s.live.Begins (s.live.record_ t) t (some n) (s.live.ring n).num e) := by
  refine ⟨_, exec_tileDispatch h, ?_⟩
  obtain ⟨e, hlane, hbegins⟩ := Live.startEval_lane ((s.live.modLane lane fun k => { k with ev := none }).modLane lane
    fun k => { k with pos := k.pos + 1 }) lane t (some n) (s.live.ring n).num
  refine ⟨Live.startEval_tile _ _ _ _ _ t, fun j hj => ?_, e, ?_, hbegins.of_modLane.of_modLane⟩
  · have hne : j.val ≠ lane.val := fun hv => hj (Fin.ext hv)
    refine (Live.startEval_lane_other _ _ _ _ _ hne).trans ?_
    rw [Live.modLane_lane_other _ _ _ _ hne, Live.clearLane_lane h.ev]
  · refine hlane.trans ?_
    rw [Live.modLane_lane_same, Live.clearLane_lane h.ev]

end Dispatch

/-- Settles O20: the lane's entry is due (`Live.EntryDue`), and the evaluation is what `Live.startEval_begins` says. -/
theorem laneDispatchesItsNextEntry : Obligations.LaneDispatchesItsNextEntry := by
  intro s lane t n c
  refine ⟨fun e => tileDispatch_waits, tileDispatch_held, fun hwork hev hcycle hheld hentry hcourse hring hsince hpast hin hstart hsafe
    hfree hrun hwhole hfinal => ?_⟩
  obtain ⟨u, hnext, htile, hothers, e, hlane, hbegins⟩ := tileDispatch_starts
    ⟨hwork, hev, hcycle, hheld, hentry, hsince, ⟨hcourse, hring, hpast, hin, hstart, hsafe, hfree, hrun, hwhole, hfinal⟩⟩
  obtain ⟨hw, hacc, hp⟩ := hbegins.regs
  obtain ⟨hended, hdropped, hbad⟩ := hbegins.going
  obtain ⟨houts, hslots, hpubs, htaps⟩ := hbegins.unwritten
  exact ⟨u, hnext, congrArg Lane.pos hlane, by rw [hlane], by rw [hlane], htile, hothers, e,
    congrArg Lane.ev hlane, hbegins.tile, hbegins.ring, hbegins.num, hbegins.record, hbegins.lib, hbegins.inRebase, hbegins.pc, hw, hacc,
    hp, hbegins.startAt, hended, hdropped, hbad, houts, hslots, hpubs, htaps, hbegins.inputs⟩

end Sys2Proof.Machine
end

section
/-! PROOFS. Commit: every buffered write of an evaluation at once, and what a commit leaves alone. -/
open Sys2Proof Sys2Proof.Machine
namespace Sys2Proof.Machine

/-! ## Writes to numbered places -/

section Places
variable {α : Type} {rd : Live → Nat → α} {f : Live → Nat → Live} {b : Nat} {w : Nat → α → α}
  (hf : ∀ l i m, rd (f l i) m = if m = b + i then w i (rd l m) else rd l m)
include hf

/-- A fold whose `i`th step changes place `b + i` alone changes each of the places from `b` on once. -/
theorem Live.each_places (l : Live) (n m : Nat) : rd (l.each n f) m = if b ≤ m ∧ m < b + n then w (m - b) (rd l m) else rd l m := by
  induction n with
  | zero => exact (if_neg (by omega)).symm
  | succ n ih =>
    rw [Live.each_succ, hf, ih]
    rcases Nat.lt_trichotomy m (b + n) with h | rfl | h
    · simp [Nat.ne_of_lt h, h, show m < b + (n + 1) by omega]
    · simp
    · simp [Nat.ne_of_gt h, Nat.not_lt_of_lt h, show ¬ m < b + (n + 1) by omega]

end Places

/-! ## The buffered writes (R151, R173, R183) -/

/-- The commit is the first under a changed record that starts afresh (R173). -/
def Live.startsFresh (l : Live) (e : Eval) : Bool := (l.tile e.tile).changed && recFresh e.record

/-- The state slots that the evaluation wrote, or all of them. -/
def Live.commitSlots (l : Live) (e : Eval) (fresh : Bool) : Live :=
  l.each 16 fun l i =>
    if fresh || e.slotSet.contains i then
      l.modLoop fun p => { p with slots := tput 0 p.slots (16 * e.tile + i) (e.slotWord i &&& 0x01FFFFFF) }
    else l

/-- The outputs that the evaluation wrote, and where they go. -/
def Live.commitOuts (l : Live) (e : Eval) (fresh : Bool) : Live :=
  l.each 4 fun l i =>
    if e.outSet.contains i then (l.setOut e.tile i (tget 0 e.outs i)).outGo e.record i (tget 0 e.outs i)
    else if fresh then l.setOut e.tile i 0 else l

/-- The publications that the evaluation wrote. -/
def Live.commitPubs (l : Live) (e : Eval) : Live :=
  l.each 8 fun l i => if e.pubSet.contains i then l.modLoop fun p => { p with pubs := tput 0 p.pubs (8 * e.tile + i) (tget 0 e.pubs i) } else l

/-- The entry that the evaluation learned, at phase `k` of the tile's table. -/
def Live.commitRc (l : Live) (e : Eval) (k : Nat) : Live :=
  e.rc.elim l fun v => l.modLoop fun p => { p with rcPool := tput 0 p.rcPool (recRcBase e.record + k) v }

/-- Everything that the evaluation wrote. -/
def Live.commitWrites (l : Live) (e : Eval) : Live :=
  (((l.commitSlots e (l.startsFresh e)).commitOuts e (l.startsFresh e)).commitPubs e).commitRc e (l.tile e.tile).rcK

/-- What it sent to the trace channels. -/
def Live.commitTaps (l : Live) (lane : Nat) (e : Eval) : Live :=
  l.each 8 fun l c => if e.tapSet.contains c then l.traceEntry c e.tile lane e.num (tget 0 e.taps c) else l

/-- The tile after a commit. -/
def Tile.commit (k : Tile) (e : Eval) : Tile :=
  { k with ovr := 0, overrun := false, stalled := false, rebase := k.rebase && !e.ranRebase, changed := k.changed && !e.ranRebase,
           everCommitted := true, committed := e.ring.isSome, discarded := false,
           st := if e.handover then .running else k.st, handover := if e.handover then none else k.handover }

/-- The tile's record of the commit, with the duty that it committed. -/
def Live.commitTile (l : Live) (e : Eval) : Live :=
  let l := l.modTile e.tile (·.commit e)
  l.modTile e.tile fun k => { k with duty := dutyOf e.record 0 (l.outp e.tile 0) }

/-- Counters, and the rail that the tile runs. -/
def Live.commitNoted (l : Live) (lane t : Nat) : Live :=
  let l := (l.count 0).count (8 + lane)
  (l.tileRail t).elim l l.railCommitted

theorem Live.commitEval_eq (l : Live) (lane : Nat) (e : Eval) :
    l.commitEval lane e = (((l.commitWrites e).commitTaps lane e).commitTile e).commitNoted lane e.tile := by
  unfold Live.commitEval
  extract_lets t k r fresh l1 l2 l3 l4 l5 l6 l7 l8
  have hwrites : l4 = l.commitWrites e := by
    simp only [l4, Live.commitWrites, Live.commitRc]
    cases e.rc <;> rfl
  have htile : l7 = ((l.commitWrites e).commitTaps lane e).commitTile e := hwrites ▸ rfl
  simp only [Live.commitNoted, ← htile]
  show _ = (l8.tileRail t).elim l8 l8.railCommitted
  cases l8.tileRail t <;> rfl

/-! ## What each of them writes, and leaves -/

section Writes
variable (l : Live) (e : Eval) (fresh : Bool)

theorem Live.commitSlots_keeps : { (l.commitSlots e fresh).loop with slots := [] } = { l.loop with slots := [] } :=
  Live.each_keeps (fun l => { l.loop with slots := [] }) _ _ _ fun l i => by split <;> rfl

theorem Live.outGo_keeps (r : Tbl Word) (port : Nat) (v : W24) : { (l.outGo r port v).loop with pol := [] } = { l.loop with pol := [] } := by
  unfold Live.outGo
  dsimp only
  split <;> rfl

theorem Live.commitOuts_keeps :
    { (l.commitOuts e fresh).loop with outs := [], pol := [] } = { l.loop with outs := [], pol := [] } :=
  Live.each_keeps (fun l => { l.loop with outs := [], pol := [] }) _ _ _ fun l i => by
    split
    · exact congrArg (fun p : Loop => { p with outs := [] }) ((l.setOut e.tile i _).outGo_keeps e.record i _)
    · split <;> rfl

theorem Live.commitPubs_keeps : { (l.commitPubs e).loop with pubs := [] } = { l.loop with pubs := [] } :=
  Live.each_keeps (fun l => { l.loop with pubs := [] }) _ _ _ fun l i => by split <;> rfl

theorem Live.commitRc_keeps (k : Nat) : { (l.commitRc e k).loop with rcPool := [] } = { l.loop with rcPool := [] } := by
  unfold Live.commitRc
  cases e.rc <;> rfl

/-- What a commit makes of state slot `i`, of output `i` and of publication `i` of its tile, that held `v`. -/
def Eval.newSlot (e : Eval) (fresh : Bool) (i : Nat) (v : Word) : Word :=
  if fresh = true ∨ i ∈ e.slotSet then e.slotWord i &&& 0x01FFFFFF else v
def Eval.newOut (e : Eval) (fresh : Bool) (i : Nat) (v : W24) : W24 :=
  if i ∈ e.outSet then tget 0 e.outs i else if fresh then 0 else v
def Eval.newPub (e : Eval) (i : Nat) (v : W24) : W24 := if i ∈ e.pubSet then tget 0 e.pubs i else v

theorem Live.commitSlots_places (m : Nat) : tget 0 (l.commitSlots e fresh).loop.slots m =
    if 16 * e.tile ≤ m ∧ m < 16 * e.tile + 16 then e.newSlot fresh (m - 16 * e.tile) (tget 0 l.loop.slots m) else tget 0 l.loop.slots m := by
  refine Live.each_places (rd := fun l m => tget 0 l.loop.slots m) (fun l i m => ?_) l 16 m
  simp only [Eval.newSlot, Bool.or_eq_true, List.contains_iff_mem]
  split
  next => exact tget_tput _ _ _ _ _
  next => exact (ite_self _).symm

theorem Live.commitOuts_places (m : Nat) : tget 0 (l.commitOuts e fresh).loop.outs m =
    if 4 * e.tile ≤ m ∧ m < 4 * e.tile + 4 then e.newOut fresh (m - 4 * e.tile) (tget 0 l.loop.outs m) else tget 0 l.loop.outs m := by
  refine Live.each_places (rd := fun l m => tget 0 l.loop.outs m) (fun l i m => ?_) l 4 m
  simp only [Eval.newOut, List.contains_iff_mem]
  split
  next h =>
    have hgo := congrArg Loop.outs ((l.setOut e.tile i (tget 0 e.outs i)).outGo_keeps e.record i (tget 0 e.outs i))
    exact (congrArg (tget 0 · m) hgo).trans (tget_tput _ _ _ _ _)
  next h =>
    split
    · exact tget_tput _ _ _ _ _
    · exact (ite_self _).symm

theorem Live.commitPubs_places (m : Nat) : tget 0 (l.commitPubs e).loop.pubs m =
    if 8 * e.tile ≤ m ∧ m < 8 * e.tile + 8 then e.newPub (m - 8 * e.tile) (tget 0 l.loop.pubs m) else tget 0 l.loop.pubs m := by
  refine Live.each_places (rd := fun l m => tget 0 l.loop.pubs m) (fun l i m => ?_) l 8 m
  simp only [Eval.newPub, List.contains_iff_mem]
  split
  next => exact tget_tput _ _ _ _ _
  next => exact (ite_self _).symm

theorem Live.commitWrites_slots (m : Nat) : tget 0 (l.commitWrites e).loop.slots m =
    if 16 * e.tile ≤ m ∧ m < 16 * e.tile + 16 then e.newSlot (l.startsFresh e) (m - 16 * e.tile) (tget 0 l.loop.slots m)
    else tget 0 l.loop.slots m := by
  unfold Live.commitWrites
  generalize l.startsFresh e = fresh
  have houts := congrArg Loop.slots ((l.commitSlots e fresh).commitOuts_keeps e fresh)
  have hpubs := congrArg Loop.slots (((l.commitSlots e fresh).commitOuts e fresh).commitPubs_keeps e)
  have hrc := congrArg Loop.slots ((((l.commitSlots e fresh).commitOuts e fresh).commitPubs e).commitRc_keeps e (l.tile e.tile).rcK)
  dsimp only at houts hpubs hrc
  rw [hrc, hpubs, houts, Live.commitSlots_places]

theorem Live.commitWrites_outs (m : Nat) : tget 0 (l.commitWrites e).loop.outs m =
    if 4 * e.tile ≤ m ∧ m < 4 * e.tile + 4 then e.newOut (l.startsFresh e) (m - 4 * e.tile) (tget 0 l.loop.outs m)
    else tget 0 l.loop.outs m := by
  unfold Live.commitWrites
  generalize l.startsFresh e = fresh
  have hslots := congrArg Loop.outs (l.commitSlots_keeps e fresh)
  have hpubs := congrArg Loop.outs (((l.commitSlots e fresh).commitOuts e fresh).commitPubs_keeps e)
  have hrc := congrArg Loop.outs ((((l.commitSlots e fresh).commitOuts e fresh).commitPubs e).commitRc_keeps e (l.tile e.tile).rcK)
  dsimp only at hslots hpubs hrc
  rw [hrc, hpubs, Live.commitOuts_places, hslots]

theorem Live.commitWrites_pubs (m : Nat) : tget 0 (l.commitWrites e).loop.pubs m =
    if 8 * e.tile ≤ m ∧ m < 8 * e.tile + 8 then e.newPub (m - 8 * e.tile) (tget 0 l.loop.pubs m) else tget 0 l.loop.pubs m := by
  unfold Live.commitWrites
  generalize l.startsFresh e = fresh
  have hslots := congrArg Loop.pubs (l.commitSlots_keeps e fresh)
  have houts := congrArg Loop.pubs ((l.commitSlots e fresh).commitOuts_keeps e fresh)
  have hrc := congrArg Loop.pubs ((((l.commitSlots e fresh).commitOuts e fresh).commitPubs e).commitRc_keeps e (l.tile e.tile).rcK)
  dsimp only at hslots houts hrc
  rw [hrc, Live.commitPubs_places, houts, hslots]

/-- The writes leave what the engine holds of tiles and lanes. -/
theorem Live.commitWrites_keeps :
    { (l.commitWrites e).loop with slots := [], outs := [], pubs := [], pol := [], rcPool := [] } =
      { l.loop with slots := [], outs := [], pubs := [], pol := [], rcPool := [] } := by
  refine (congrArg (fun p : Loop => { p with slots := [], outs := [], pubs := [], pol := [] }) (Live.commitRc_keeps _ e _)).trans ?_
  refine (congrArg (fun p : Loop => { p with slots := [], outs := [], pol := [], rcPool := [] }) (Live.commitPubs_keeps _ e)).trans ?_
  refine (congrArg (fun p : Loop => { p with slots := [], pubs := [], rcPool := [] }) (Live.commitOuts_keeps _ e _)).trans ?_
  exact congrArg (fun p : Loop => { p with outs := [], pubs := [], pol := [], rcPool := [] }) (l.commitSlots_keeps e _)

theorem Live.commitWrites_fc : (l.commitWrites e).fc = l.fc := by
  have hslots (fresh : Bool) : (l.commitSlots e fresh).fc = l.fc := Live.each_keeps Live.fc _ _ _ fun l i => by split <;> rfl
  have houts (l : Live) (fresh : Bool) : (l.commitOuts e fresh).fc = l.fc := Live.each_keeps Live.fc _ _ _ fun l i => by
    split
    · exact Live.same_fc (by simp)
    · split <;> rfl
  have hpubs (l : Live) : (l.commitPubs e).fc = l.fc := Live.each_keeps Live.fc _ _ _ fun l i => by split <;> rfl
  have hrc (l : Live) (k : Nat) : (l.commitRc e k).fc = l.fc := by
    unfold Live.commitRc
    cases e.rc <;> rfl
  rw [Live.commitWrites, hrc, hpubs, houts, hslots]

end Writes

/-! ## The rest of a commit -/

section Rest
variable (l : Live) (lane : Nat) (e : Eval)

theorem Live.commitTaps_loop : (l.commitTaps lane e).loop = l.loop :=
  Live.each_keeps Live.loop _ _ _ fun l c => by
    split
    · exact Live.same_loop (by simp)
    · rfl

theorem Live.commitTaps_of_nil (h : e.tapSet = []) : l.commitTaps lane e = l :=
  Live.each_keeps id _ _ _ fun l c => if_neg (by simp [h])

theorem Live.commitNoted_keep (t : Nat) : Live.less 68157952 (l.commitNoted lane t) = Live.less 68157952 l := by
  unfold Live.commitNoted
  extract_lets l1
  have hcounts : Live.less 68157952 l1 = Live.less 68157952 l := by simp [l1]
  cases l1.tileRail t with
  | none => exact hcounts
  | some q => exact (Live.railCommitted_keep l1 q 68157952 rfl).trans hcounts

theorem Live.commitTile_tile (u : Nat) : (l.commitTile e).tile u =
    if u = e.tile then { (l.tile u).commit e with duty := dutyOf e.record 0 (l.outp e.tile 0) } else l.tile u := by
  unfold Live.commitTile
  rw [Live.modTile_tile]
  split
  next h =>
    rw [Live.modTile_tile_same, h]
    rfl
  next h => exact Live.modTile_tile_other _ _ _ _ h

/-- What the engine holds beside the tiles is as the writes left it. -/
theorem Live.commitEval_loop : (l.commitEval lane e).loop = ((l.commitWrites e).commitTile e).loop := by
  rw [Live.commitEval_eq, Live.less_loop (Live.commitNoted_keep _ lane e.tile) (by decide)]
  simp only [Live.commitTile, Live.modTile, Live.outp, Live.commitTaps_loop]

theorem Live.commitEval_fc (h : e.tapSet = []) : (l.commitEval lane e).fc = l.fc := by
  rw [Live.commitEval_eq, Live.less_fc (Live.commitNoted_keep _ lane e.tile) (by decide), Live.commitTaps_of_nil _ _ _ h]
  exact l.commitWrites_fc e

end Rest

/-! ## TILE_COMMIT -/

section Commit
variable {s : State} {lane : Fin 8} {e : Eval}

/-- The evaluation of a tile that runs may commit: it has ended, and its deadline has not come. -/
structure Live.CommitDue (l : Live) (lane : Nat) (e : Eval) : Prop where
  ev : (l.lane lane).ev = some e
  kept : e.dropped = false
  running : (l.tile e.tile).st = .running
  free : l.isolated e.tile = false
  ended : e.ended = true
  good : e.bad = false
  early : l.late e = false

theorem exec_tileCommit (h : s.live.CommitDue lane e) :
    exec (.tileCommit lane) s = s.upd fun l => ((l.commitEval lane e).sampleEval lane e false).modLane lane fun k => { k with ev := none } := by
  show execTileCommit _ s = _
  unfold execTileCommit
  refine upd_congr ?_
  simp only [h.ev]
  exact if_pos (by simp [h.kept, h.running, h.free, h.ended, h.good, h.early])

/-- What a commit of the evaluation on `lane` makes of the controller: `k`. -/
structure Live.Committed (l : Live) (lane : Nat) (e : Eval) (k : Live) : Prop where
  outs : k.loop.outs = (l.commitWrites e).loop.outs
  pubs : k.loop.pubs = (l.commitWrites e).loop.pubs
  slots : k.loop.slots = (l.commitWrites e).loop.slots
  tile : k.tile e.tile = { (l.tile e.tile).commit e with duty := dutyOf e.record 0 ((l.commitWrites e).outp e.tile 0) }
  tiles : ∀ m, m ≠ e.tile → k.tile m = l.tile m
  ev : (k.lane lane).ev = none
  fc : e.tapSet = [] → k.fc = l.fc

theorem tileCommit_commits (h : s.live.CommitDue lane e) :
    Gives (exec (.tileCommit lane) s) (fun t => s.live.Committed lane e t.live) := by
  have hloop : ((s.live.commitEval lane e).sampleEval lane e false).loop = ((s.live.commitWrites e).commitTile e).loop :=
    (Live.same_loop (by simp)).trans (s.live.commitEval_loop lane e)
  have hfc : ((s.live.commitEval lane e).sampleEval lane e false).fc = (s.live.commitEval lane e).fc := Live.same_fc (by simp)
  have hkeeps := congrArg Loop.tiles (s.live.commitWrites_keeps e)
  refine ⟨_, exec_tileCommit h, ?_⟩
  dsimp only at hkeeps ⊢
  generalize (s.live.commitEval lane e).sampleEval lane e false = k at *
  have hread (m : Nat) : (s.live.commitWrites e).tile m = s.live.tile m := by rw [Live.tile, hkeeps, Live.tile]
  have htile (m : Nat) : k.tile m = ((s.live.commitWrites e).commitTile e).tile m := by rw [Live.tile, hloop, Live.tile]
  refine ⟨(congrArg Loop.outs hloop :), (congrArg Loop.pubs hloop :), (congrArg Loop.slots hloop :), ?_, fun m hm => ?_, ?_, fun htaps => ?_⟩
  · rw [Live.modLane_tile, htile, Live.commitTile_tile, if_pos rfl, hread]
  · rw [Live.modLane_tile, htile, Live.commitTile_tile, if_neg hm, hread]
  · rw [Live.modLane_lane_same]
  · rw [Live.modLane_fc, hfc, s.live.commitEval_fc lane e htaps]

section Read
variable {l k : Live} {lane : Nat} (h : l.Committed lane e k)
include h

theorem Live.Committed.outp {i : Nat} (hi : i < 4) : k.outp e.tile i = e.newOut (l.startsFresh e) i (l.outp e.tile i) := by
  rw [Live.outp, h.outs, Live.commitWrites_outs, if_pos (by omega), Nat.add_sub_cancel_left, Live.outp]

theorem Live.Committed.pub {i : Nat} (hi : i < 8) :
    tget 0 k.loop.pubs (8 * e.tile + i) = e.newPub i (tget 0 l.loop.pubs (8 * e.tile + i)) := by
  rw [h.pubs, Live.commitWrites_pubs, if_pos (by omega), Nat.add_sub_cancel_left]

theorem Live.Committed.slot {i : Nat} (hi : i < 16) :
    tget 0 k.loop.slots (16 * e.tile + i) = e.newSlot (l.startsFresh e) i (tget 0 l.loop.slots (16 * e.tile + i)) := by
  rw [h.slots, Live.commitWrites_slots, if_pos (by omega), Nat.add_sub_cancel_left]

theorem Live.Committed.outs_other {m : Nat} (hm : m / 4 ≠ e.tile) : tget 0 k.loop.outs m = tget 0 l.loop.outs m := by
  rw [h.outs, Live.commitWrites_outs, if_neg (by omega)]

theorem Live.Committed.pubs_other {m : Nat} (hm : m / 8 ≠ e.tile) : tget 0 k.loop.pubs m = tget 0 l.loop.pubs m := by
  rw [h.pubs, Live.commitWrites_pubs, if_neg (by omega)]

theorem Live.Committed.slots_other {m : Nat} (hm : m / 16 ≠ e.tile) : tget 0 k.loop.slots m = tget 0 l.loop.slots m := by
  rw [h.slots, Live.commitWrites_slots, if_neg (by omega)]

end Read

end Commit

end Sys2Proof.Machine
end

section
/-! PROOFS. Discard: what a discarded evaluation costs its tile, and that nothing of it becomes visible. -/
open Sys2Proof Sys2Proof.Machine
namespace Sys2Proof.Machine

/-! ## The cost of a discard (R153, R176) -/

section Drop
variable (l : Live) (t lane : Nat) (e : Eval)

theorem Live.policyDrop_loop : (l.policyDrop t lane).loop = (l.modTile t fun k => { k with ovr := min 255 (k.ovr + 1) }).loop := by
  have hcounts : ((l.count 1).count 6).loop = l.loop := Live.same_loop (by simp)
  simp only [Live.policyDrop, Live.raise_loop, Live.modTile, hcounts]

theorem Live.policyDrop_details :
    (l.policyDrop t lane).fc.details = l.fc.details ++ [l.detailOf 0x3005 (oTile t) lane] := by
  have hcounts : ((l.count 1).count 6).fc = l.fc := Live.same_fc (by simp)
  have hnow : ((l.count 1).count 6).now = l.now := Live.same_now (by simp)
  rw [← Live.detailOf_congr hnow, ← hcounts]
  rfl

/-- The evaluation belongs to the present course of its ring. -/
def Live.presentCourse (l : Live) (e : Eval) : Bool := e.ring.elim false fun n => (l.ring n).num = e.num

/-- The tile of a discarded evaluation, which was of the present course or not: a POLICY tile has no course, and a handover that
a course tile carried out has not taken place (R174). -/
def Tile.drop (k : Tile) (e : Eval) (mine : Bool) : Tile :=
  if e.ring.isNone then { k with ovr := min 255 (k.ovr + 1) }
  else { k with ovr := min 255 (k.ovr + 1), discarded := k.discarded || mine, handover := if e.handover then none else k.handover,
                handing := if e.handover then [] else k.handing }

theorem Tile.drop_ovr (k : Tile) (e : Eval) (mine : Bool) : (k.drop e mine).ovr = min 255 (k.ovr + 1) := by
  unfold Tile.drop
  split <;> rfl

theorem Tile.drop_discarded (k : Tile) {e : Eval} (mine : Bool) {n : Nat} (h : e.ring = some n) :
    (k.drop e mine).discarded = (k.discarded || mine) := by
  simp [Tile.drop, h]

theorem Live.courseDrop_fc : (l.courseDrop e).fc = l.fc := Live.same_fc (by simp)

/-- An evaluation is discarded, of a POLICY tile or of a course tile. -/
def Live.drop (l : Live) (lane : Nat) (e : Eval) : Live := if e.ring.isNone then l.policyDrop e.tile lane else l.courseDrop e

theorem Live.drop_loop : (l.drop lane e).loop = (l.modTile e.tile (·.drop e (l.presentCourse e))).loop := by
  have hcount : (l.count 1).loop = l.loop := Live.same_loop (by simp)
  unfold Live.drop Tile.drop
  split
  · exact l.policyDrop_loop e.tile lane
  · unfold Live.courseDrop Live.presentCourse
    cases e.ring <;> simp only [Live.modTile, hcount] <;> rfl

end Drop

/-! ## TILE_DISCARD (R153, R154) -/

section Discard
variable {s : State} {lane : Fin 8} {e : Eval}

/-- The evaluation is let go, and sampled where it was chosen (R534). -/
def Live.letGo (l : Live) (lane : Nat) (e : Eval) : Live := (l.sampleEval lane e true).laneDrop lane e

theorem Live.letGo_loop (l : Live) (lane : Nat) (e : Eval) : (l.letGo lane e).loop = (l.laneDrop lane e).loop := by
  have hsample : (l.sampleEval lane e true).loop = l.loop := Live.same_loop (by simp)
  simp only [Live.letGo, Live.laneDrop, Live.modLane, hsample]

theorem Live.letGo_keep (l : Live) (lane : Nat) (e : Eval) : Live.less 135266560 (l.letGo lane e) = Live.less 135266560 l := by
  simp [Live.letGo]

theorem exec_tileDiscard_of_late (hev : (s.live.lane lane).ev = some e) (hkept : e.dropped = false)
    (h : s.live.late e = true ∨ e.ended = true ∧ e.bad = true) :
    exec (.tileDiscard lane) s = s.upd fun l => (l.drop lane e).letGo lane e := by
  show execTileDiscard _ s = _
  unfold execTileDiscard
  refine upd_congr ?_
  simp only [hev, hkept]
  exact (if_neg Bool.false_ne_true).trans (if_pos (by simpa using h))

theorem exec_tileDiscard_of_suspended (hev : (s.live.lane lane).ev = some e) (hkept : e.dropped = false)
    (hearly : s.live.late e = false) (hwhole : e.ended = false ∨ e.bad = false) (hst : (s.live.tile e.tile).st = .suspended)
    (hhand : e.handover = false) : exec (.tileDiscard lane) s = s.upd fun l => l.letGo lane e := by
  show execTileDiscard _ s = _
  unfold execTileDiscard
  refine upd_congr ?_
  simp only [hev, hkept]
  refine (if_neg Bool.false_ne_true).trans ((if_neg ?_).trans (if_pos ?_))
  · rcases hwhole with h | h <;> simp [hearly, h]
  · simp [hst, hhand]

/-- A discard leaves everything but the tile, the lane and what is told of it. -/
theorem tileDiscard_drops (hev : (s.live.lane lane).ev = some e) (hkept : e.dropped = false)
    (h : s.live.late e = true ∨ e.ended = true ∧ e.bad = true) :
    Gives (exec (.tileDiscard lane) s) (fun t =>
      t.live.loop = ((s.live.modTile e.tile (·.drop e (s.live.presentCourse e))).laneDrop lane e).loop ∧
      t.live.slots = s.live.slots ∧ t.live.fc = (s.live.drop lane e).fc) := by
  refine ⟨_, exec_tileDiscard_of_late hev hkept h, ?_, ?_, Live.less_fc (Live.letGo_keep _ lane e) (by decide)⟩
  · simp only [Live.letGo_loop, Live.laneDrop, Live.modLane, Live.drop_loop]
  · refine (Live.less_slots (Live.letGo_keep _ lane e) (by decide)).trans ?_
    unfold Live.drop
    split <;> exact Live.same_slots (by simp)

theorem Live.laneDrop_ev (l : Live) (lane : Nat) (e : Eval) :
    ((l.laneDrop lane e).lane lane).ev = if e.ended then none else some { e with dropped := true } :=
  congrArg Lane.ev (Live.modLane_lane_same l lane _)

/-- The suspension of a tile changes no deadline. -/
theorem Live.modTile_late (l : Live) (t : Nat) (f : Tile → Tile) (e : Eval) : (l.modTile t f).late e = l.late e := rfl

theorem tileDiscard_lets_go {u : State} {f : Tile → Tile} (hf : ∀ k, (f k).st = .suspended) (hu : u.live = s.live.modTile e.tile f)
    (hev : (s.live.lane lane).ev = some e) (hkept : e.dropped = false) (hhand : e.handover = false) (hearly : s.live.late e = false)
    (hwhole : e.ended = false ∨ e.bad = false) :
    Gives (exec (.tileDiscard lane) u) (fun t => t.live.loop = { u.live.loop with lanes := t.live.loop.lanes } ∧
      (t.live.lane lane).ev = (if e.ended then none else some { e with dropped := true }) ∧ t.live.fc = u.live.fc) := by
  have hst : (u.live.tile e.tile).st = .suspended := by rw [hu, Live.modTile_tile_same, hf]
  have hlate : u.live.late e = false := by rw [hu, Live.modTile_late, hearly]
  have hlane : (u.live.lane lane).ev = some e := by rw [hu, Live.modTile_lane, hev]
  refine ⟨_, exec_tileDiscard_of_suspended hlane hkept hlate hwhole hst hhand, ?_, ?_, Live.less_fc (Live.letGo_keep _ lane e) (by decide)⟩
  · simp only [Live.letGo_loop]
    rfl
  · simp only [Live.lane, Live.letGo_loop]
    exact u.live.laneDrop_ev lane e

end Discard

/-- Settles O21: a commit is `Live.Committed`, a discard changes what `tileDiscard_drops` says, and a suspended tile's evaluation
is let go. -/
theorem commitIsWholeAndDiscardIsNothing : Obligations.CommitIsWholeAndDiscardIsNothing := by
  intro s lane e hev hkept hrun hfree
  refine ⟨fun hended hgood hearly => ?_, fun _ hdrop => ?_, fun hhand hearly hwhole u hu =>
    tileDiscard_lets_go (fun _ => rfl) hu hev hkept hhand hearly hwhole⟩
  · obtain ⟨t, hnext, h⟩ := tileCommit_commits ⟨hev, hkept, hrun, hfree, hended, hgood, hearly⟩
    refine ⟨t, hnext, fun k => h.outp, fun k => h.pub, fun k => h.slot, fun m => h.outs_other, fun m => h.pubs_other, fun m => h.slots_other,
      h.tiles, ?_, ?_, ?_, ?_, h.ev, h.fc⟩
    all_goals rw [h.tile]; rfl
  · obtain ⟨t, hnext, hloop, hslots, hfc⟩ := tileDiscard_drops hev hkept hdrop
    have htile (m : Nat) : t.live.tile m = (s.live.modTile e.tile (·.drop e (s.live.presentCourse e))).tile m := by rw [Live.tile, hloop]; rfl
    refine ⟨t, hnext, (congrArg Loop.outs hloop :), (congrArg Loop.slots hloop :), (congrArg Loop.pubs hloop :),
      (congrArg Loop.rcPool hloop :), (congrArg Loop.pol hloop :), hslots, ?_, fun m hm => ?_, fun n hring => ⟨?_, ?_⟩, fun hring => ?_, ?_⟩
    · rw [htile, Live.modTile_tile_same, Tile.drop_ovr]
    · rw [htile, Live.modTile_tile_other _ _ _ _ hm]
    · rw [htile, Live.modTile_tile_same, Tile.drop_discarded _ _ hring, Live.presentCourse, hring]
      rfl
    · rw [hfc, Live.drop, hring]
      exact s.live.courseDrop_fc e
    · rw [Raised, hfc, Live.drop, hring]
      exact s.live.policyDrop_details e.tile lane
    · rw [Live.lane, hloop]
      exact Live.laneDrop_ev _ lane e

end Sys2Proof.Machine
end

section
/-! PROOFS. Overruns and POLICY tiles: what a run of discards raises, and the POLICY tiles of a bond. -/
open Sys2Proof Sys2Proof.Machine
namespace Sys2Proof.Machine

/-! ## Runs of discards (R155, R156) -/

section Runs
variable {s : State} {tile : Fin 160}

theorem exec_loopOverrun (hcourse : s.live.courseTile tile = true) (hovr : 2 ≤ (s.live.tile tile).ovr)
    (hfirst : (s.live.tile tile).overrun = false) :
    exec (.loopOverrun tile) s = s.upd fun l =>
      (l.modTile tile fun k => { k with overrun := true }).raise 0x3001 (oTile tile) (l.laneOf tile) := by
  show execLoopOverrun _ s = _
  unfold execLoopOverrun
  exact upd_congr (if_pos (by simp [hcourse, hovr, hfirst]))

theorem loopOverrun_raises (hcourse : s.live.courseTile tile = true) (hovr : 2 ≤ (s.live.tile tile).ovr)
    (hfirst : (s.live.tile tile).overrun = false) :
    Gives (exec (.loopOverrun tile) s) (fun t => Raised s t [s.live.detailOf 0x3001 (oTile tile) (s.live.laneOf tile)] ∧
      t.live.tile tile = { s.live.tile tile with overrun := true } ∧ (∀ m, m ≠ tile.val → t.live.tile m = s.live.tile m) ∧
      SameBut [.loop, .fc] s t) :=
  ⟨_, exec_loopOverrun hcourse hovr hfirst, raise_raised (k := s.live.modTile tile fun k => { k with overrun := true }) rfl rfl _ _ _,
    Live.modTile_tile_same s.live tile _, fun m => Live.modTile_tile_other s.live tile _ m,
    live_sameBut (m := 33024) (by simp) _ (by decide)⟩

/-- A run of discards that is short, or was raised before, raises nothing. -/
theorem loopOverrun_quiet (h : (s.live.tile tile).ovr < 2 ∨ (s.live.tile tile).overrun = true) :
    exec (.loopOverrun tile) s = .next s := by
  show execLoopOverrun _ s = _
  unfold execLoopOverrun
  refine upd_congr (g := id) (if_neg ?_)
  rcases h with h | h <;> simp [h]

theorem exec_loopStall (hcourse : s.live.courseTile tile = true) (hovr : 8 ≤ (s.live.tile tile).ovr)
    (hfirst : (s.live.tile tile).stalled = false) (hrun : (s.live.tile tile).st = .running) :
    exec (.loopStall tile) s = s.upd fun l =>
      ((l.suspendTile tile).modTile tile fun k => { k with stalled := true }).raise 0x3002 (oTile tile) (l.laneOf tile) := by
  show execLoopStall _ s = _
  unfold execLoopStall
  refine upd_congr ((if_pos (by simp [hcourse, hovr, hfirst])).trans ?_)
  rw [if_pos hrun]

/-- A suspended tile keeps its count of discards (R153). -/
theorem Live.suspendTile_ovr {l : Live} {t : Nat} (hused : (l.tile t).st ≠ .unused) : ((l.suspendTile t).tile t).ovr = (l.tile t).ovr := by
  rw [Live.tile, Live.less_loop (Live.suspendTile_less hused) (by decide)]
  exact (congrArg Tile.ovr (l.tileEmptied_tile t t)).trans (by simp)

theorem loopStall_suspends (hcourse : s.live.courseTile tile = true) (hovr : 8 ≤ (s.live.tile tile).ovr)
    (hfirst : (s.live.tile tile).stalled = false) (hrun : (s.live.tile tile).st = .running) :
    Gives (exec (.loopStall tile) s) (fun t => Raised s t [s.live.detailOf 0x3002 (oTile tile) (s.live.laneOf tile)] ∧
      (t.live.tile tile).st = .suspended ∧ (t.live.tile tile).stalled = true ∧ (t.live.tile tile).ovr = (s.live.tile tile).ovr ∧
      (∀ p ∈ s.live.members tile, ∀ q ∈ p.2.slots, (t.live.slot q.1 q.2).buoyed = (s.live.slot q.1 q.2).active) ∧
      (∀ r, s.live.tileRail tile = some r → (t.live.rail r).st = .idle)) := by
  have hused : (s.live.tile tile).st ≠ .unused := by simp [hrun]
  have hnow : (s.live.suspendTile tile).now = s.live.now := Live.same_now (by simp)
  have hfc : (s.live.suspendTile tile).fc = s.live.fc := Live.same_fc (by simp)
  have htile := Live.modTile_tile_same (s.live.suspendTile tile) tile fun k => { k with stalled := true }
  refine ⟨_, exec_loopStall hcourse hovr hfirst hrun,
    raise_raised (k := (s.live.suspendTile tile).modTile tile fun k => { k with stalled := true }) hnow hfc _ _ _,
    (congrArg Tile.st htile).trans (Live.suspendTile_tile_same hused), congrArg Tile.stalled htile,
    (congrArg Tile.ovr htile).trans (Live.suspendTile_ovr hused), fun p hp q hq => ?_, fun r hr => Live.suspendTile_rail hused hr⟩
  exact congrArg Slot.buoyed (Live.suspendTile_slot hused hp hq)

end Runs

/-! ## POLICY_DISPATCH (R176) -/

section PolicyDispatch
variable {s : State} {n t : Nat} {rest : List Nat}

/-- The policy lane is free, and the tile at the head of the bond's queue may run. -/
structure Live.PolicyDue (l : Live) (n t : Nat) (rest : List Nat) : Prop where
  lane : l.policyLane = some n
  working : l.working = true
  safe : l.fc.safe = false
  ev : (l.lane n).ev = none
  held : l.laneHeld n = false
  queue : l.loop.polQueue = t :: rest
  running : (l.tile t).st = .running
  free : l.isolated t = false

theorem exec_policyDispatch (h : s.live.PolicyDue n t rest) :
    exec .policyDispatch s = s.upd fun l => (l.modLoop fun e => { e with polQueue := rest }).startEval n t none 0 := by
  have hhead : s.live.loop.polQueue.dropWhile (fun t => (s.live.tile t).st ≠ .running || s.live.isolated t) = t :: rest := by
    rw [h.queue]
    exact List.dropWhile_cons_of_neg (by simp [h.running, h.free])
  show execPolicyDispatch s = _
  unfold execPolicyDispatch
  refine upd_congr ?_
  simp only [h.lane, hhead]
  exact if_neg (by simp [h.working, h.safe, Lane.free, h.ev, h.held])

theorem policyDispatch_starts (h : s.live.PolicyDue n t rest) :
    Gives (exec .policyDispatch s) (fun u => u.live.loop.polQueue = rest ∧ ∃ e, (u.live.lane n).ev = some e ∧ e.tile = t ∧
      e.ring = none ∧ e.num = 0 ∧ e.w = [] ∧ e.acc = 0 ∧ e.p = false) := by
  obtain ⟨e, hlane, hbegins⟩ := Live.startEval_lane (s.live.modLoop fun e => { e with polQueue := rest }) n t none 0
  exact ⟨_, exec_policyDispatch h, Live.startEval_polQueue _ n t none 0, e, congrArg Lane.ev hlane, hbegins.tile, hbegins.ring,
    hbegins.num, hbegins.regs⟩

end PolicyDispatch

/-! ## LOOP_POLICY_LATE (R176) -/

/-- `k` comes of `l` by discards, which leave the tick, every tile's state, the late tiles and the outputs as they were. -/
structure Live.Drops (l k : Live) : Prop where
  now : k.now = l.now
  st : ∀ m, (k.tile m).st = (l.tile m).st
  polLate : k.loop.polLate = l.loop.polLate
  outs : k.loop.outs = l.loop.outs

theorem Live.Drops.refl (l : Live) : l.Drops l := ⟨rfl, fun _ => rfl, rfl, rfl⟩

theorem Live.Drops.trans {l k j : Live} (h : l.Drops k) (g : k.Drops j) : l.Drops j :=
  ⟨g.now.trans h.now, fun m => (g.st m).trans (h.st m), g.polLate.trans h.polLate, g.outs.trans h.outs⟩

theorem Live.policyDrop_drops (l : Live) (t lane : Nat) : l.Drops (l.policyDrop t lane) := by
  have hloop := l.policyDrop_loop t lane
  refine ⟨Live.same_now (by simp), fun m => ?_, (congrArg Loop.polLate hloop :), (congrArg Loop.outs hloop :)⟩
  rw [Live.tile, hloop]
  refine (congrArg Tile.st (Live.modTile_tile l t _ m)).trans ?_
  split
  next h => rw [h]
  next => rfl

theorem Live.letGo_drops (l : Live) (lane : Nat) (e : Eval) : l.Drops (l.letGo lane e) := by
  have hloop := l.letGo_loop lane e
  exact ⟨Live.less_now (Live.letGo_keep l lane e) (by decide), fun m => by rw [Live.tile, hloop]; rfl,
    (congrArg Loop.polLate hloop :), (congrArg Loop.outs hloop :)⟩

/-- A late tile is discarded where it runs. -/
def Live.lateDrop (n : Nat) (l : Live) (t : Nat) : Live := if (l.tile t).st = .running then l.policyDrop t n else l

theorem Live.lateDrop_drops (n : Nat) (l : Live) (t : Nat) : l.Drops (l.lateDrop n t) := by
  unfold Live.lateDrop
  split
  · exact l.policyDrop_drops t n
  · exact .refl l

/-- The details that the discard of a bond's late tiles sends. -/
def Live.lateDetails (l : Live) (n : Nat) (ts : List Nat) : List Detail :=
  (ts.filter fun m => (l.tile m).st = .running).map fun m => l.detailOf 0x3005 (oTile m) n

theorem Live.Drops.lateDetails {l k : Live} (h : l.Drops k) (n : Nat) (ts : List Nat) : k.lateDetails n ts = l.lateDetails n ts := by
  simp only [Live.lateDetails, h.st, Live.detailOf_congr h.now]

theorem Live.lateDrop_details (n : Nat) (l : Live) (t : Nat) : (l.lateDrop n t).fc.details = l.fc.details ++ l.lateDetails n [t] := by
  unfold Live.lateDrop Live.lateDetails
  split
  next h => simp [h, l.policyDrop_details t n]
  next h => simp [h]

theorem Live.lateDetails_cons (l : Live) (n t : Nat) (ts : List Nat) : l.lateDetails n (t :: ts) = l.lateDetails n [t] ++ l.lateDetails n ts := by
  simp only [Live.lateDetails, ← List.map_append, ← List.filter_append, List.singleton_append]

/-- The late tiles are discarded one by one, and each that runs sends its detail. -/
theorem Live.forL_lateDrop (n : Nat) (l : Live) (ts : List Nat) :
    l.Drops (l.forL ts (Live.lateDrop n)) ∧ (l.forL ts (Live.lateDrop n)).fc.details = l.fc.details ++ l.lateDetails n ts := by
  induction ts generalizing l with
  | nil => exact ⟨.refl l, (List.append_nil _).symm⟩
  | cons t ts ih =>
    have hhead := l.lateDrop_drops n t
    obtain ⟨hdrops, hdetails⟩ := ih (l.lateDrop n t)
    refine ⟨hhead.trans hdrops, hdetails.trans ?_⟩
    rw [l.lateDrop_details, hhead.lateDetails, l.lateDetails_cons n t ts, List.append_assoc]

/-- The evaluation of the policy lane that the bond boundary found unfinished is discarded. -/
def Live.lateEval (l : Live) (n : Nat) : Live :=
  match (l.lane n).ev with
  | some e => if e.ring.isNone && !e.dropped && e.startAt < l.bondAt then (l.policyDrop e.tile n).letGo n e else l
  | none => l

theorem Live.lateEval_drops (l : Live) (n : Nat) : l.Drops (l.lateEval n) := by
  unfold Live.lateEval
  split
  · split
    · exact (l.policyDrop_drops _ n).trans (Live.letGo_drops _ n _)
    · exact .refl l
  · exact .refl l

theorem Live.lateEval_of_none {l : Live} {n : Nat} (h : (l.lane n).ev = none) : l.lateEval n = l := by
  simp [Live.lateEval, h]

theorem Live.lateEval_details {l : Live} {n : Nat} {e : Eval} (hev : (l.lane n).ev = some e) (hring : e.ring = none)
    (hkept : e.dropped = false) (hlate : e.startAt < l.bondAt) :
    (l.lateEval n).fc.details = l.fc.details ++ [l.detailOf 0x3005 (oTile e.tile) n] := by
  have hdrop : l.lateEval n = (l.policyDrop e.tile n).letGo n e := by simp [Live.lateEval, hev, hring, hkept, hlate]
  rw [hdrop, Live.less_fc (Live.letGo_keep _ n e) (by decide), Live.policyDrop_details]

section PolicyLate
variable {s : State} {n : Nat}

theorem exec_loopPolicyLate (h : s.live.policyLane = some n) :
    exec .loopPolicyLate s = s.upd fun l =>
      ((l.lateEval n).forL (l.lateEval n).loop.polLate (Live.lateDrop n)).modLoop fun e => { e with polLate := [] } := by
  show execLoopPolicyLate s = _
  unfold execLoopPolicyLate
  refine upd_congr ?_
  rw [h]
  rfl

/-- What the discard of the late evaluation has sent comes before the late tiles' details. -/
theorem loopPolicyLate_drops (h : s.live.policyLane = some n) :
    Gives (exec .loopPolicyLate s) (fun t => t.live.loop.polLate = [] ∧ t.live.loop.outs = s.live.loop.outs ∧
      t.live.fc.details = (s.live.lateEval n).fc.details ++ s.live.lateDetails n s.live.loop.polLate) := by
  have heval := s.live.lateEval_drops n
  obtain ⟨hdrops, hdetails⟩ := Live.forL_lateDrop n (s.live.lateEval n) (s.live.lateEval n).loop.polLate
  refine ⟨_, exec_loopPolicyLate h, rfl, hdrops.outs.trans heval.outs, hdetails.trans ?_⟩
  rw [heval.lateDetails, heval.polLate]

end PolicyLate

/-- Settles O22: a run of discards is raised once and then stalls its tile; the policy lane takes the head of its queue, and what
the bond left late is discarded in order (`Live.forL_lateDrop`). -/
theorem overrunsStallAndPolicyTilesAreLate : Obligations.OverrunsStallAndPolicyTilesAreLate := by
  intro s tile
  refine ⟨loopOverrun_raises, loopOverrun_quiet, loopStall_suspends, fun n t rest hlane hwork hsafe hev hheld hqueue hrun hfree =>
    policyDispatch_starts ⟨hlane, hwork, hsafe, hev, hheld, hqueue, hrun, hfree⟩, fun n hlane => ?_⟩
  obtain ⟨t, hnext, hlate, houts, hdetails⟩ := loopPolicyLate_drops hlane
  refine ⟨t, hnext, hlate, houts, fun hev => ?_, fun e hev hring hkept hstart => ?_⟩
  · rwa [Live.lateEval_of_none hev] at hdetails
  · rw [Live.lateEval_details hev hring hkept hstart, List.append_assoc] at hdetails
    exact hdetails

end Sys2Proof.Machine
end

section
/-! PROOFS. Pattern instructions that write a register or the accumulator: sums, shifts, constants and products. -/
open Sys2Proof Sys2Proof.Machine
namespace Sys2Proof.Machine

/-! ## Encodings (Table 5.3, R207) -/

/-- What R193 and R207 reserve of an opcode, beyond the fields that it does not use. -/
def ownReserved (op : Nat) (f : PatFields) : Bool :=
  (op ≤ 1 && f.pred) || (op = 0x1C && 12 ≤ f.imm.toNat % 16) ||
  (op = 0x20 && (f.imm.toNat % 4 = 3 || (f.imm.toNat % 4 = 0 && f.srcb = 15))) ||
  ((op = 0x24 || op = 0x25) && (f.imm.toNat / 4 % 4 = 3 || (f.imm.toNat / 4 % 4 = 2 && (f.srca ≠ 0 || f.srcb ≠ 0)))) ||
  ((op = 0x10 || op = 0x11) && 23 < f.imm.toNat % 32) || (op = 0x15 && 11 < f.srca.toNat)

/-- Where the fields that an opcode does not use are zero, only a rule of its own can reserve an encoding. -/
theorem patReserved_of_uses {op m : Nat} {d a b : Bool} {f : PatFields} (huses : patUses op = some (d, a, b, m))
    (hdst : d = true ∨ f.dst = 0) (hsrca : a = true ∨ f.srca = 0) (hsrcb : b = true ∨ f.srcb = 0)
    (himm : f.imm &&& BitVec.ofNat 13 m = f.imm) (hown : ownReserved op f = false) : patReserved op f = false := by
  have hd : (!d && decide (f.dst ≠ 0)) = false := by rcases hdst with h | h <;> simp [h]
  have ha : (!a && decide (f.srca ≠ 0)) = false := by rcases hsrca with h | h <;> simp [h]
  have hb : (!b && decide (f.srcb ≠ 0)) = false := by rcases hsrcb with h | h <;> simp [h]
  simpa only [patReserved, huses, hd, ha, hb, himm, ne_eq, not_true_eq_false, decide_false, Bool.false_or, ownReserved] using hown

theorem imm_and_of_zero {imm : BitVec 13} (h : imm = 0) (m : Nat) : imm &&& BitVec.ofNat 13 m = imm := by
  simp [h]

/-! ## Saturation (R187) -/

theorem satW_eq (w : Nat) (v : Int) : satW w v = min (max v (-(2 ^ (w - 1) : Int))) ((2 ^ (w - 1) : Int) - 1) := by
  have hpos : (0 : Int) < 2 ^ (w - 1) := Int.pow_pos (by decide)
  unfold satW
  split
  · omega
  · split <;> omega

theorem satW_24 (v : Int) : satW 24 v = held24 v := satW_eq 24 v

/-- sat24 and sat56 give the code of the held value. -/
theorem sat24_toInt (v : Int) : (sat24 v).toInt = held24 v := (ofInt_satW_toInt (by decide) v).trans (satW_24 v)
theorem sat56_toInt (v : Int) : (sat56 v).toInt = held56 v := (ofInt_satW_toInt (by decide) v).trans (satW_eq 56 v)

theorem w24_bounds (a : W24) : -8388608 ≤ a.toInt ∧ a.toInt < 8388608 := ⟨a.le_toInt, a.toInt_lt⟩

/-! ## What an instruction writes -/

theorem Eval.setW_wrote (e : Eval) (tr : List (Nat × Nat × Bool × Bool)) (d : BitVec 4) {v : W24} {x : Int} (p : Bool)
    (hv : v.toInt = x) : Wrote e (Eval.advance { Eval.setW { e with trail := tr } d v with p := p }) d x p :=
  ⟨rfl, (congrArg BitVec.toInt (tget_tput_same _ _ _ _)).trans hv,
    fun _ hn => tget_tput_other _ _ _ _ _ (mt BitVec.eq_of_toNat_eq hn)⟩

section Instruction
variable {s : State} {lane op : Nat} {f : PatFields} {e : Eval} {c : Instr} {body : Eval → Eval}

/-- An instruction that leaves `v` in a register and P at `p`. -/
theorem wrote_of_local {d : BitVec 4} {x : Int} {p : Bool} (v : W24) (h : Executes s lane f e) (hc : patternOf c = some (lane, op, f))
    (hexec : exec c s = s.upd fun l => l.patLocal lane op f body) (hres : patReserved op f = false)
    (hbody : ∀ tr, body { e with trail := tr } = { Eval.setW { e with trail := tr } d v with p := p }) (hv : v.toInt = x) :
    InstrGoes s lane e c (fun e' => Wrote e e' d x p) :=
  instrGoes_of_local h hc hexec hres fun tr => (hbody tr).symm ▸ e.setW_wrote tr d p hv

/-- An instruction that leaves `v` in the accumulator. -/
theorem accumulated_of_local {x : Int} (v : Acc) (h : Executes s lane f e) (hc : patternOf c = some (lane, op, f))
    (hexec : exec c s = s.upd fun l => l.patLocal lane op f body) (hres : patReserved op f = false)
    (hbody : ∀ tr, body { e with trail := tr } = { e with trail := tr, acc := v }) (hv : v.toInt = x) :
    InstrGoes s lane e c (fun e' => e' = { e with pc := e.pc + 1, trail := e'.trail, acc := e'.acc } ∧ e'.acc.toInt = x) :=
  instrGoes_of_local h hc hexec hres fun tr => (hbody tr).symm ▸ ⟨rfl, hv⟩

end Instruction

/-! ## Sums -/

/-- Settles O23: each instruction writes one register, and the code that it writes is that of the held sum. -/
theorem sumsSaturateAndNeverWrap : Obligations.SumsSaturateAndNeverWrap := by
  intro s lane f e h himm a b
  have hmask := imm_and_of_zero himm 0
  have hfree {op : Nat} {b : Bool} (huses : patUses op = some (true, true, b, 0)) (hsrcb : b = true ∨ f.srcb = 0)
      (hown : ownReserved op f = false) : patReserved op f = false :=
    patReserved_of_uses huses (.inl rfl) (.inl rfl) hsrcb hmask hown
  refine ⟨?_, ?_, ?_, fun hsrcb => ⟨?_, ?_, ?_⟩⟩
  · exact wrote_of_local (sat24 (a + b)) h rfl rfl (hfree rfl (.inl rfl) rfl) (fun _ => rfl) (sat24_toInt _)
  · exact wrote_of_local (sat24 (a - b)) h rfl rfl (hfree rfl (.inl rfl) rfl) (fun _ => rfl) (sat24_toInt _)
  · exact wrote_of_local (if e.p then e.wreg f.srca else e.wreg f.srcb) h rfl rfl (hfree rfl (.inl rfl) rfl) (fun _ => rfl)
      (apply_ite BitVec.toInt _ _ _)
  · exact wrote_of_local (sat24 (-a)) h rfl rfl (hfree rfl (.inr hsrcb) rfl) (fun _ => rfl) (sat24_toInt _)
  · exact wrote_of_local (sat24 a.natAbs) h rfl rfl (hfree rfl (.inr hsrcb) rfl) (fun _ => rfl) (sat24_toInt _)
  · exact wrote_of_local (e.wreg f.srca) h rfl rfl (hfree rfl (.inr hsrcb) rfl) (fun _ => rfl) rfl

/-! ## Shifts and constants -/

/-- A shift to the right rounds toward minus infinity, and always fits. -/
theorem ofInt_toInt_div_two_pow (a : W24) (k : Nat) : (BitVec.ofInt 24 (a.toInt / 2 ^ k)).toInt = a.toInt / 2 ^ k := by
  have hshift : a.toInt / 2 ^ k = a.toInt >>> k := by simp [Int.shiftRight_eq_div_pow]
  rw [hshift]
  exact BitVec.toInt_sshiftRight

/-- Thirteen signed bits that are shifted by 11 at most fit (R188). -/
theorem ofInt_toInt_mul_two_pow (imm : BitVec 13) {k : Nat} (hk : k ≤ 11) :
    (BitVec.ofInt 24 (imm.toInt * 2 ^ k)).toInt = imm.toInt * 2 ^ k := by
  have hpos : (0 : Int) < 2 ^ k := Int.pow_pos (by decide)
  have hle : (2 : Int) ^ k ≤ 2 ^ 11 := pow_le_pow_right₀ (by decide) hk
  have hlo : -4096 ≤ imm.toInt := imm.le_toInt
  have hhi : imm.toInt < 4096 := imm.toInt_lt
  refine BitVec.toInt_ofInt_eq_self (by decide) ?_ ?_
  · show (-8388608 : Int) ≤ _
    nlinarith
  · show _ < (8388608 : Int)
    nlinarith

/-- The encodings of the shifts are those that shift by 23 at most. -/
theorem patReserved_of_shift {op : Nat} {f : PatFields} (hop : op = 0x10 ∨ op = 0x11) (hsrcb : f.srcb = 0) (himm : f.imm.toNat ≤ 23) :
    patReserved op f = false := by
  have hmask : f.imm &&& BitVec.ofNat 13 31 = f.imm := imm_and_mask (k := 5) (by omega) (by decide)
  have hown : ownReserved op f = false := by
    have h32 : f.imm.toNat % 32 ≤ 23 := (Nat.mod_le _ _).trans himm
    rcases hop with rfl | rfl <;> simpa [ownReserved] using h32
  rcases hop with rfl | rfl
  · exact patReserved_of_uses rfl (.inl rfl) (.inl rfl) (.inr hsrcb) hmask hown
  · exact patReserved_of_uses rfl (.inl rfl) (.inl rfl) (.inr hsrcb) hmask hown

section Shifts
variable {s : State} {lane : Fin 8} {f : PatFields} {e : Eval} (h : Executes s lane f e) (hsrcb : f.srcb = 0)
include h hsrcb

theorem shl_writes (himm : f.imm.toNat ≤ 23) : InstrGoes s lane e (.opShl lane f)
    (fun e' => Wrote e e' f.dst (held24 ((e.wreg f.srca).toInt * 2 ^ f.imm.toNat)) e.p) :=
  wrote_of_local (sat24 ((e.wreg f.srca).toInt * 2 ^ (f.imm.toNat % 32))) h rfl rfl (patReserved_of_shift (.inl rfl) hsrcb himm)
    (fun _ => rfl) (by rw [sat24_toInt, Nat.mod_eq_of_lt (by omega)])

theorem shr_writes (himm : f.imm.toNat ≤ 23) : InstrGoes s lane e (.opShr lane f)
    (fun e' => Wrote e e' f.dst ((e.wreg f.srca).toInt / 2 ^ f.imm.toNat) e.p) :=
  wrote_of_local (BitVec.ofInt 24 ((e.wreg f.srca).toInt / 2 ^ (f.imm.toNat % 32))) h rfl rfl
    (patReserved_of_shift (.inr rfl) hsrcb himm) (fun _ => rfl) (by rw [ofInt_toInt_div_two_pow, Nat.mod_eq_of_lt (by omega)])

theorem ldi_writes (hsrca : f.srca.toNat ≤ 11) : InstrGoes s lane e (.opLdi lane f)
    (fun e' => Wrote e e' f.dst (f.imm.toInt * 2 ^ f.srca.toNat) e.p) := by
  refine wrote_of_local (BitVec.ofInt 24 (f.imm.toInt * 2 ^ f.srca.toNat)) h rfl rfl
    (patReserved_of_uses rfl (.inl rfl) (.inl rfl) (.inr hsrcb) (imm_and_mask (k := 13) f.imm.isLt (by decide)) ?_)
    (fun _ => rfl) (ofInt_toInt_mul_two_pow f.imm hsrca)
  simpa [ownReserved] using hsrca

theorem ldc_writes (hsrca : f.srca = 0) (himm : f.imm.toNat < 16) : InstrGoes s lane e (.opLdc lane f)
    (fun e' => Wrote e e' f.dst (held24 ((recCoef e.record f.imm.toNat).toInt * 8)) e.p) := by
  have hsel : e.coef (f.imm.setWidth 4) = recCoef e.record f.imm.toNat := by
    rw [Eval.coef, BitVec.toNat_setWidth, Nat.mod_eq_of_lt himm]
  exact wrote_of_local (sat24 ((e.coef (f.imm.setWidth 4)).toInt * 8)) h rfl rfl
    (patReserved_of_uses rfl (.inl rfl) (.inr hsrca) (.inr hsrcb) (imm_and_mask (k := 4) himm (by decide)) rfl)
    (fun _ => rfl) (by rw [sat24_toInt, hsel])

end Shifts

/-- Settles O24: each instruction writes one register, `SHL` and `LDC` the held value, `SHR` and `LDI` one that fits. -/
theorem shiftsAndConstantsFit : Obligations.ShiftsAndConstantsFit := by
  intro s lane f e h hsrcb a
  exact ⟨fun himm => ⟨shl_writes h hsrcb himm, shr_writes h hsrcb himm⟩, ldi_writes h hsrcb, ldc_writes h hsrcb⟩

/-! ## Products -/

/-- The product term: a register times a register or times a coefficient, in units of the accumulator. -/
theorem Eval.prod_eq (e : Eval) {f : PatFields} (himm : f.imm.toNat ≤ 1) :
    e.prod f = if f.imm = 1 then (e.wreg f.srca).toInt * (e.wreg f.srcb).toInt * 4
      else (e.wreg f.srca).toInt * (recCoef e.record f.srcb.toNat).toInt * 32 := by
  have hcases : f.imm = 0 ∨ f.imm = 1 := by bv_omega
  rcases hcases with hbk | hbk
  · simp [Eval.prod, hbk, prodC, Eval.coef]
  · simp [Eval.prod, hbk, prodW]

theorem abs_toInt_mul_le (a b : W24) : |a.toInt * b.toInt| ≤ 70368744177664 := by
  have habs (a : W24) : |a.toInt| ≤ 8388608 := abs_le.mpr ⟨(w24_bounds a).1, (w24_bounds a).2.le⟩
  rw [abs_mul]
  exact mul_le_mul (habs a) (habs b) (abs_nonneg _) (by decide)

/-- A product alone fits the accumulator. -/
theorem held56_prod (e : Eval) (f : PatFields) : held56 (e.prod f) = e.prod f := by
  have hw := abs_le.mp (abs_toInt_mul_le (e.wreg f.srca) (e.wreg f.srcb))
  have hc := abs_le.mp (abs_toInt_mul_le (e.wreg f.srca) (e.coef f.srcb))
  unfold held56 Eval.prod prodW prodC
  split <;> omega

/-- Settles O25: the accumulator takes the held exact sum; a product alone fits, and only `RND` rounds. -/
theorem productsAccumulateExactly : Obligations.ProductsAccumulateExactly := by
  intro s lane f e h hdst acc p
  refine ⟨fun himm => ?_, fun hsrca hsrcb himm => ?_, fun d hsrca hsrcb himm => ?_⟩
  · have hmask : f.imm &&& BitVec.ofNat 13 1 = f.imm := imm_and_mask (k := 1) (Nat.lt_succ_of_le himm) (by decide)
    have hfree {op : Nat} (huses : patUses op = some (false, true, true, 1)) (hown : ownReserved op f = false) :
        patReserved op f = false := patReserved_of_uses huses (.inr hdst) (.inl rfl) (.inl rfl) hmask hown
    have hprod : e.prod f = p := e.prod_eq himm
    refine ⟨?_, ?_, ?_⟩
    · exact accumulated_of_local (sat56 (e.acc.toInt + e.prod f)) h rfl rfl (hfree rfl rfl) (fun _ => rfl) (hprod ▸ sat56_toInt _)
    · exact accumulated_of_local (sat56 (e.acc.toInt - e.prod f)) h rfl rfl (hfree rfl rfl) (fun _ => rfl) (hprod ▸ sat56_toInt _)
    · exact accumulated_of_local (sat56 (e.prod f)) h rfl rfl (hfree rfl rfl) (fun _ => rfl)
        ((sat56_toInt _).trans ((held56_prod e f).trans hprod))
  · exact accumulated_of_local 0 h rfl rfl
      (patReserved_of_uses rfl (.inr hdst) (.inr hsrca) (.inr hsrcb) (imm_and_of_zero himm 0) rfl) (fun _ => rfl) rfl
  · have h8 : f.imm.toNat % 8 = f.imm.toNat := Nat.mod_eq_of_lt himm
    exact wrote_of_local (rndAcc e.acc (f.imm.toNat % 8)) (f := { f with dst := d }) h rfl rfl
      (patReserved_of_uses rfl (.inl rfl) (.inr hsrca) (.inr hsrcb) (imm_and_mask (k := 3) himm (by decide)) rfl) (fun _ => rfl)
      ((sat24_toInt _).trans (by rw [h8]))

end Sys2Proof.Machine
end

section
/-! PROOFS. Limits and compares (R189, R192, R193). -/
open Sys2Proof Sys2Proof.Machine
namespace Sys2Proof.Machine

/-! ## Minimum, maximum and limits -/

/-- `SETP` sets P and leaves the rest of what the instruction did. -/
theorem Eval.ite_setP (b q : Bool) (e : Eval) : (if b then { e with p := q } else e) = { e with p := if b then q else e.p } := by
  cases b
  · rfl
  · rfl

theorem ite_slt_toInt_min (a b : W24) : (if b.slt a then b else a).toInt = min a.toInt b.toInt := by
  simp only [apply_ite BitVec.toInt, BitVec.slt_iff_toInt_lt, min_comm a.toInt, min_def_lt]

theorem ite_slt_toInt_max (a b : W24) : (if a.slt b then b else a).toInt = max a.toInt b.toInt := by
  simp only [apply_ite BitVec.toInt, BitVec.slt_iff_toInt_lt, max_def_lt]

/-- A code that is limited to codes fits. -/
theorem ofInt_clampW_toInt (a : W24) {lo hi : Int} (hlo : -8388608 ≤ lo ∧ lo < 8388608) (hhi : -8388608 ≤ hi ∧ hi < 8388608) :
    (BitVec.ofInt 24 (clampW a.toInt lo hi).1).toInt = min (max a.toInt lo) hi := by
  have ha := w24_bounds a
  refine BitVec.toInt_ofInt_eq_self (by decide) ?_ ?_
  · show (-8388608 : Int) ≤ min (max a.toInt lo) hi
    omega
  · show min (max a.toInt lo) hi < (8388608 : Int)
    omega

theorem held24_natAbs_bounds (v : Int) : 0 ≤ held24 v.natAbs ∧ held24 v.natAbs < 8388608 := by
  unfold held24
  omega

section Operands
variable {e : Eval} {f : PatFields}

/-- The bounds of `CLAMP` by its form (R192). -/
theorem Eval.clampBounds_registers (h : f.imm.toNat % 4 = 0) :
    e.clampBounds f = ((e.wreg f.srcb).toInt, (e.wreg (f.srcb + 1)).toInt) := by
  simp only [Eval.clampBounds, h]

theorem Eval.clampBounds_record (h : f.imm.toNat % 4 = 1) :
    e.clampBounds f = ((recOmin e.record).toInt, (recOmax e.record).toInt) := by
  simp only [Eval.clampBounds, h]

theorem Eval.clampBounds_magnitude (h : f.imm.toNat % 4 = 2) :
    e.clampBounds f = (-held24 (e.wreg f.srcb).toInt.natAbs, held24 (e.wreg f.srcb).toInt.natAbs) := by
  simp only [Eval.clampBounds, h, satW_24]

/-- The operands of a compare by its form (R193). -/
theorem Eval.cmpOps_registers (h : f.imm.toNat / 4 % 4 = 0) : e.cmpOps f = ((e.wreg f.srca).toInt, (e.wreg f.srcb).toInt) := by
  simp only [Eval.cmpOps, h]

theorem Eval.cmpOps_zero (h : f.imm.toNat / 4 % 4 = 1) : e.cmpOps f = ((e.wreg f.srca).toInt, 0) := by
  simp only [Eval.cmpOps, h]

theorem Eval.cmpOps_acc (h : f.imm.toNat / 4 % 4 = 2) : e.cmpOps f = (e.acc.toInt, 0) := by
  simp only [Eval.cmpOps, h]

end Operands

section Limits
variable {s : State} {lane : Fin 8} {f : PatFields} {e : Eval} (h : Executes s lane f e)
include h

/-- `MIN` and `MAX` have no rule of their own: the bit of `SETP` is all that they use of `IMM`. -/
theorem min_max_write (himm : f.imm = 0 ∨ f.imm = 4) :
    InstrGoes s lane e (.opMin lane f) (fun e' => Wrote e e' f.dst (min (e.wreg f.srca).toInt (e.wreg f.srcb).toInt)
      (if f.imm.getLsbD 2 then decide ((e.wreg f.srcb).toInt < (e.wreg f.srca).toInt) else e.p)) ∧
    InstrGoes s lane e (.opMax lane f) (fun e' => Wrote e e' f.dst (max (e.wreg f.srca).toInt (e.wreg f.srcb).toInt)
      (if f.imm.getLsbD 2 then decide ((e.wreg f.srca).toInt < (e.wreg f.srcb).toInt) else e.p)) := by
  have hmask : f.imm &&& BitVec.ofNat 13 4 = f.imm := by rcases himm with hi | hi <;> simp [hi]
  have hfree {op : Nat} (huses : patUses op = some (true, true, true, 4)) (hown : ownReserved op f = false) :
      patReserved op f = false := patReserved_of_uses huses (.inl rfl) (.inl rfl) (.inl rfl) hmask hown
  exact ⟨wrote_of_local _ h rfl rfl (hfree rfl rfl) (fun _ => Eval.ite_setP _ _ _) (ite_slt_toInt_min (e.wreg f.srca) (e.wreg f.srcb)),
    wrote_of_local _ h rfl rfl (hfree rfl rfl) (fun _ => Eval.ite_setP _ _ _) (ite_slt_toInt_max (e.wreg f.srca) (e.wreg f.srcb))⟩

/-- `CLAMP` limits to the bounds of its form, and `SETP` says whether it limited. -/
theorem clamp_limits {lo hi : Int} (himm : f.imm.toNat < 8) (hform : f.imm.toNat % 4 ≠ 3)
    (hpair : f.imm.toNat % 4 = 0 → f.srcb ≠ 15) (hbounds : e.clampBounds f = (lo, hi)) (hlo : -8388608 ≤ lo ∧ lo < 8388608)
    (hhi : -8388608 ≤ hi ∧ hi < 8388608) :
    InstrGoes s lane e (.opClamp lane f) (fun e' => Wrote e e' f.dst (min (max (e.wreg f.srca).toInt lo) hi)
      (if f.imm.getLsbD 2 then decide ((e.wreg f.srca).toInt < lo ∨ hi < (e.wreg f.srca).toInt) else e.p)) := by
  have hmask := imm_and_mask (k := 3) himm (by decide)
  have hown : ownReserved 0x20 f = false := by simpa [ownReserved, hform] using hpair
  obtain ⟨rfl, rfl⟩ : (e.clampBounds f).1 = lo ∧ (e.clampBounds f).2 = hi := by simp [hbounds]
  rw [Bool.decide_or]
  exact wrote_of_local _ h rfl rfl (patReserved_of_uses rfl (.inl rfl) (.inl rfl) (.inl rfl) hmask hown)
    (fun _ => Eval.ite_setP _ _ _) (ofInt_clampW_toInt (e.wreg f.srca) hlo hhi)

end Limits

/-! ## Compares -/

/-- P by the mode of a compare (R193). -/
theorem cmpP_eq : ∀ (m : Nat) (p r : Bool), cmpP m p r = if m = 0 then r else if m = 1 then p && r else if m = 2 then p || r else !r
  | 0, _, _ => rfl
  | 1, _, _ => rfl
  | 2, _, _ => rfl
  | _ + 3, _, _ => rfl

section Compares
variable {s : State} {lane : Fin 8} {f : PatFields} {e : Eval}

/-- The encodings of the compares: form 2 takes neither source. -/
theorem patReserved_of_compare {op : Nat} (hop : op = 0x24 ∨ op = 0x25) (hdst : f.dst = 0) (himm : f.imm.toNat < 12)
    (hacc : 8 ≤ f.imm.toNat → f.srca = 0 ∧ f.srcb = 0) : patReserved op f = false := by
  have hmask : f.imm &&& BitVec.ofNat 13 15 = f.imm := imm_and_mask (k := 4) (by omega) (by decide)
  have hown : ownReserved op f = false := by
    have hform : f.imm.toNat / 4 % 4 ≠ 3 := by omega
    have hzero : f.imm.toNat / 4 % 4 = 2 → f.srca = 0 ∧ f.srcb = 0 := fun h2 => hacc (by omega)
    rcases hop with rfl | rfl <;> simpa [ownReserved, hform] using hzero
  rcases hop with rfl | rfl
  · exact patReserved_of_uses rfl (.inr hdst) (.inl rfl) (.inl rfl) hmask hown
  · exact patReserved_of_uses rfl (.inr hdst) (.inl rfl) (.inl rfl) hmask hown

/-- A compare sets P, by its mode, to how its operands compare. -/
theorem compares_set_p {x y : Int} (h : Executes s lane f e) (hdst : f.dst = 0) (himm : f.imm.toNat < 12)
    (hacc : 8 ≤ f.imm.toNat → f.srca = 0 ∧ f.srcb = 0) (hops : e.cmpOps f = (x, y)) :
    InstrGoes s lane e (.opCmplt lane f)
      (fun e' => e' = { e with pc := e.pc + 1, trail := e'.trail, p := cmpP (f.imm.toNat % 4) e.p (x < y) }) ∧
    InstrGoes s lane e (.opCmpgt lane f)
      (fun e' => e' = { e with pc := e.pc + 1, trail := e'.trail, p := cmpP (f.imm.toNat % 4) e.p (y < x) }) := by
  obtain ⟨rfl, rfl⟩ : (e.cmpOps f).1 = x ∧ (e.cmpOps f).2 = y := by simp [hops]
  exact ⟨instrGoes_of_local h rfl rfl (patReserved_of_compare (.inl rfl) hdst himm hacc) fun _ => rfl,
    instrGoes_of_local h rfl rfl (patReserved_of_compare (.inr rfl) hdst himm hacc) fun _ => rfl⟩

end Compares

/-- Settles O26: a limit or a compare takes the operands of its form, and each form's are signed codes. -/
theorem comparesAndLimitsSetP : Obligations.ComparesAndLimitsSetP := by
  intro s lane f e h a b setp lim cmp
  have hb := w24_bounds (e.wreg f.srcb)
  have hheld := held24_natAbs_bounds b
  have hcmp {x y : Int} (hdst : f.dst = 0) (himm : f.imm.toNat < 12) (hacc : 8 ≤ f.imm.toNat → f.srca = 0 ∧ f.srcb = 0)
      (hops : e.cmpOps f = (x, y)) : cmp (.opCmplt lane f) (decide (x < y)) ∧ cmp (.opCmpgt lane f) (decide (y < x)) := by
    have hboth := compares_set_p h hdst himm hacc hops
    simp only [cmpP_eq] at hboth
    exact hboth
  refine ⟨fun himm => ?_, fun himm => ?_, fun himm => ?_, fun hdst himm => ?_, fun hdst hlo hhi => ?_,
    fun hdst hsrca hsrcb hlo hhi => ?_⟩
  · obtain ⟨hmin, hmax⟩ := min_max_write h himm
    obtain ⟨hlt, hform⟩ : f.imm.toNat < 8 ∧ f.imm.toNat % 4 = 0 := by bv_omega
    refine ⟨hmin, hmax, fun hsrcb => ?_⟩
    exact clamp_limits h hlt (by omega) (fun _ => by bv_omega) (Eval.clampBounds_registers hform) hb (w24_bounds _)
  · obtain ⟨hlt, hform⟩ : f.imm.toNat < 8 ∧ f.imm.toNat % 4 = 1 := by bv_omega
    exact clamp_limits h hlt (by omega) (by omega) (Eval.clampBounds_record hform) (w24_bounds _) (w24_bounds _)
  · obtain ⟨hlt, hform⟩ : f.imm.toNat < 8 ∧ f.imm.toNat % 4 = 2 := by bv_omega
    exact clamp_limits h hlt (by omega) (by omega) (Eval.clampBounds_magnitude hform) (by omega) (by omega)
  · exact hcmp hdst (by omega) (by omega) (Eval.cmpOps_registers (by omega))
  · exact hcmp hdst (by omega) (by omega) (Eval.cmpOps_zero (by omega))
  · exact hcmp hdst hhi (fun _ => ⟨hsrca, hsrcb⟩) (Eval.cmpOps_acc (by omega))

end Sys2Proof.Machine
end

section
/-! PROOFS. The common part of every pattern instruction (R181, R185, R207), and the instructions that do more than move the
lane's evaluation on: `END` and `TRIP`. -/
open Sys2Proof Sys2Proof.Machine
namespace Sys2Proof.Machine

/-! ## What one instruction does on a lane -/

theorem Live.patStep_of_none {l : Live} {lane : Nat} (h : (l.lane lane).ev = none) (op : Nat) (f : PatFields)
    (body : Live → Eval → Live × Eval) : l.patStep lane op f body = l := by
  simp only [Live.patStep, h]

section Step
variable {s : State} {lane op : Nat} {f : PatFields} {e : Eval} (h : LaneRuns s lane e)
include h

theorem Live.patStep_of_word_ne (hword : e.word ≠ patWord op f) (body : Live → Eval → Live × Eval) :
    s.live.patStep lane op f body = s.live := by
  obtain ⟨hev, -, -⟩ := h
  simp [Live.patStep, hev, hword]

theorem Live.patStep_of_reserved (hword : e.word = patWord op f) (hres : patReserved op f = true)
    (body : Live → Eval → Live × Eval) :
    s.live.patStep lane op f body = (s.live.useStep lane).patBad lane (e.note op (f.pred && !e.p)) := by
  obtain ⟨hev, hrun, hfree⟩ := h
  simp [Live.patStep, hev, hrun, hfree, hword, hres]

theorem Live.patStep_of_skipped (hword : e.word = patWord op f) (hres : patReserved op f = false) (hpred : f.pred = true)
    (hp : e.p = false) (body : Live → Eval → Live × Eval) :
    s.live.patStep lane op f body = (s.live.useStep lane).modLane lane fun k => { k with ev := some (e.note op true).advance } := by
  obtain ⟨hev, hrun, hfree⟩ := h
  simp [Live.patStep, hev, hrun, hfree, hword, hres, hpred, hp]

end Step

/-- Every pattern instruction is `Live.patStep` with its own opcode and fields. -/
theorem exec_of_patternOf {c : Instr} {lane op : Nat} {f : PatFields} (h : patternOf c = some (lane, op, f)) :
    ∃ body, ∀ s, exec c s = s.upd fun l => l.patStep lane op f body := by
  unfold patternOf at h
  split at h <;> cases h <;> exact ⟨_, fun _ => rfl⟩

/-- An instruction that changes more than its evaluation, but nothing of the engine: `k` is what it makes of the rest. -/
theorem gives_of_body {s : State} {lane op : Nat} {f : PatFields} {e : Eval} {c : Instr} {body : Live → Eval → Live × Eval} {k : Live}
    {q : Eval → Prop} (h : Executes s lane f e) (hword : e.word = patWord op f) (hres : patReserved op f = false)
    (hexec : exec c s = s.upd fun l => l.patStep lane op f body) (hloop : k.loop = s.live.loop)
    (hbody : ∀ tr, ∃ e', body (s.live.useStep lane) { e with trail := tr } = (k, e') ∧ q e') :
    Gives (exec c s) (fun t => t.live.loop.outs = s.live.loop.outs ∧ t.live.fc = k.fc ∧
      (∀ m, m ≠ lane → t.live.lane m = s.live.lane m) ∧ ∃ e', (t.live.lane lane).ev = some e' ∧ q e') := by
  obtain ⟨tr, hnote⟩ := e.note_eq op false
  obtain ⟨e', hgoes, hq⟩ := hbody tr
  have hstep := Live.patStep_of_executes h hword hres body
  simp only [hnote, hgoes] at hstep
  have hlane (m : Nat) : k.lane m = s.live.lane m := congrArg (fun x : Loop => tget ({} : Lane) x.lanes m) hloop
  refine ⟨_, hexec, ?_⟩
  simp only [hstep]
  exact ⟨(Live.modLane_loop_outs k lane _).trans (congrArg Loop.outs hloop), rfl,
    fun m hm => (Live.modLane_lane_other _ _ _ _ hm).trans (hlane m), e', congrArg Lane.ev (Live.modLane_lane_same _ _ _), hq⟩

/-! ## `END` and `TRIP` -/

theorem Eval.endEntry_of_main {e : Eval} (h : e.inRebase = false) : e.endEntry = { e with ended := true } := by
  simp [Eval.endEntry, h]

theorem Eval.endEntry_of_rebase {e : Eval} (h : e.inRebase = true) : e.endEntry =
    { e with inRebase := false, ranRebase := true, w := [], acc := 0, p := false, pc := recPmain e.record } := by
  simp [Eval.endEntry, h]

theorem LaneRuns.executes {s : State} {lane : Nat} {e : Eval} (h : LaneRuns s lane e) {f : PatFields} (hf : f.pred = false) :
    Executes s lane f e :=
  ⟨h, fun hp => absurd (hf.symm.trans hp) (by decide)⟩

/-- A step that is used and an event that is counted change nothing of the engine and the collector: the mask is that of the
Secure Core, the recorder and the W1C bits. -/
theorem Live.count_useStep_keep (l : Live) (lane n : Nat) : Live.less 70254592 ((l.useStep lane).count n) = Live.less 70254592 l := by
  simp

section EndTrip
variable {s : State} {lane : Fin 8} {e : Eval}

theorem end_ends_main (h : LaneRuns s lane e) (hmain : e.inRebase = false) :
    InstrGoes s lane e (.opEnd lane {}) (fun e' => e' = { e with ended := true, trail := e'.trail }) := by
  refine instrGoes_of_body (h.executes rfl) rfl rfl rfl fun tr => ⟨{ e with ended := true, trail := tr }, ?_, rfl⟩
  have hkeep : (if e.inRebase then (s.live.useStep lane).count 5 else s.live.useStep lane) = s.live.useStep lane := by simp [hmain]
  exact Prod.ext hkeep (Eval.endEntry_of_main hmain)

theorem end_starts_main (h : LaneRuns s lane e) (hrebase : e.inRebase = true) (hword : e.word = patWord 0x01 {}) :
    Gives (exec (.opEnd lane {}) s) (fun t => t.live.loop.outs = s.live.loop.outs ∧ t.live.fc = s.live.fc ∧
      (∀ m, m ≠ lane.val → t.live.lane m = s.live.lane m) ∧ ∃ e', (t.live.lane lane).ev = some e' ∧
        e' = { e with inRebase := false, ranRebase := true, w := [], acc := 0, p := false, pc := recPmain e.record,
                      trail := e'.trail }) := by
  have hkeep := s.live.count_useStep_keep lane 5
  rw [← Live.less_fc hkeep (by decide)]
  refine gives_of_body (h.executes rfl) hword rfl rfl (Live.less_loop hkeep (by decide)) fun tr =>
    ⟨{ e with inRebase := false, ranRebase := true, w := [], acc := 0, p := false, pc := recPmain e.record, trail := tr }, ?_, rfl⟩
  have hcount : (if e.inRebase then (s.live.useStep lane).count 5 else s.live.useStep lane) = (s.live.useStep lane).count 5 := by
    simp [hrebase]
  exact Prod.ext hcount (Eval.endEntry_of_rebase hrebase)

/-- A code that the evaluation has tripped before is counted and no more; a new one is raised and noted. -/
theorem Live.tripOnce_of_mem (l : Live) (lane : Nat) {e : Eval} {n : BitVec 8} (v : W24) (h : n ∈ e.trips) :
    l.tripOnce lane e n v = (l.count 7, e) := by
  simp [Live.tripOnce, h]

theorem Live.tripOnce_of_not_mem (l : Live) (lane : Nat) {e : Eval} {n : BitVec 8} (v : W24) (h : n ∉ e.trips) :
    l.tripOnce lane e n v = ((l.count 7).raise (0x3100 + n.toNat) (oTile e.tile) lane (v.signExtend 32).toNat e.num,
      { e with trips := n :: e.trips }) := by
  simp [Live.tripOnce, h]

section Trip
variable {f : PatFields} (h : Executes s lane f e) (hdst : f.dst = 0) (hsrcb : f.srcb = 0) (himm : f.imm.toNat < 256)
  (hword : e.word = patWord 0x28 f)
include h hdst hsrcb himm hword

/-- What `TRIP` leaves of the engine, when `k` and `codes` are what the trip comes to. -/
theorem trip_gives {k : Live} {codes : List (BitVec 8)} (hloop : k.loop = s.live.loop) (hmem : f.imm.setWidth 8 ∈ codes)
    (htrip : ∀ tr, (s.live.useStep lane).tripOnce lane { e with trail := tr } (f.imm.setWidth 8) (e.wreg f.srca) =
      (k, { e with trail := tr, trips := codes })) :
    Gives (exec (.opTrip lane f) s) (fun t => t.live.loop.outs = s.live.loop.outs ∧ t.live.fc = k.fc ∧
      (∀ m, m ≠ lane.val → t.live.lane m = s.live.lane m) ∧ ∃ e', (t.live.lane lane).ev = some e' ∧
        e' = { e with pc := e.pc + 1, trail := e'.trail, trips := e'.trips } ∧ f.imm.setWidth 8 ∈ e'.trips) :=
  gives_of_body h hword (patReserved_of_srca (k := 8) rfl (by decide) (by decide) (by decide) hdst hsrcb himm) rfl hloop fun tr =>
    ⟨_, congrArg (fun r : Live × Eval => (r.1, r.2.advance)) (htrip tr), rfl, hmem⟩

theorem trip_raises_once :
    Gives (exec (.opTrip lane f) s) (fun t => t.live.loop.outs = s.live.loop.outs ∧
      (∀ m, m ≠ lane.val → t.live.lane m = s.live.lane m) ∧
      (∃ e', (t.live.lane lane).ev = some e' ∧ e' = { e with pc := e.pc + 1, trail := e'.trail, trips := e'.trips } ∧
        f.imm.setWidth 8 ∈ e'.trips) ∧
      (if f.imm.setWidth 8 ∈ e.trips then t.live.fc = s.live.fc
       else Raised s t [s.live.detailOf (0x3100 + f.imm.toNat) (oTile e.tile) lane ((e.wreg f.srca).signExtend 32).toNat e.num])) := by
  have hkeep := s.live.count_useStep_keep lane 7
  have hloop := Live.less_loop hkeep (by decide)
  have hfc := Live.less_fc hkeep (by decide)
  by_cases hin : f.imm.setWidth 8 ∈ e.trips
  · obtain ⟨t, hnext, houts, htfc, hother, hev⟩ := trip_gives h hdst hsrcb himm hword hloop hin fun tr =>
      Live.tripOnce_of_mem _ _ (e := { e with trail := tr }) _ hin
    refine ⟨t, hnext, houts, hother, hev, ?_⟩
    rw [if_pos hin, htfc, hfc]
  · obtain ⟨t, hnext, houts, htfc, hother, hev⟩ := trip_gives h hdst hsrcb himm hword
      (k := ((s.live.useStep lane).count 7).raise (0x3100 + (f.imm.setWidth 8).toNat) (oTile e.tile) lane
        ((e.wreg f.srca).signExtend 32).toNat e.num) hloop List.mem_cons_self fun tr =>
      Live.tripOnce_of_not_mem _ _ (e := { e with trail := tr }) _ hin
    have hcode : (f.imm.setWidth 8).toNat = f.imm.toNat := by rw [BitVec.toNat_setWidth, Nat.mod_eq_of_lt himm]
    refine ⟨t, hnext, houts, hother, hev, ?_⟩
    rw [if_neg hin, Raised, htfc, ← hfc, ← hcode]
    simp only [Live.detailOf, Live.tick, ← Live.less_now hkeep (by decide)]
    rfl

end Trip
end EndTrip

/-- Settles O29: `END` is `Eval.endEntry`, and `TRIP` sends a detail where the code is not among the evaluation's own. -/
theorem endRunsMainAndTripRaisesOnce : Obligations.EndRunsMainAndTripRaisesOnce := by
  intro s lane e h
  exact ⟨instrGoes_of_local (h.executes rfl) rfl rfl rfl fun _ => rfl, end_ends_main h, end_starts_main h,
    fun f hpred => trip_raises_once ⟨h, hpred⟩⟩

end Sys2Proof.Machine
end

section
/-! PROOFS. The predicate and reserved encodings (R185, R207). -/
open Sys2Proof Sys2Proof.Machine
namespace Sys2Proof.Machine

/-! ## The fields of an instruction word (Table 5.2) -/

theorem put_toNat_of_lt {v lo width : Nat} (hv : v < 2 ^ width) (h : lo + width ≤ 32) : (put v lo width).toNat = v * 2 ^ lo := by
  have hlt : v * 2 ^ lo < 2 ^ 32 := calc
    v * 2 ^ lo < 2 ^ width * 2 ^ lo := Nat.mul_lt_mul_of_pos_right hv (Nat.two_pow_pos _)
    _ = 2 ^ (lo + width) := by rw [← Nat.pow_add, Nat.add_comm]
    _ ≤ 2 ^ 32 := Nat.pow_le_pow_right (by decide) h
  rw [put, Nat.mod_eq_of_lt hv, BitVec.toNat_ofNat, Nat.shiftLeft_eq, Nat.mod_eq_of_lt hlt]

theorem flag_eq_put (b : Bool) (lo : Nat) : flag b lo = put b.toNat lo 1 := by
  cases b
  · simp [flag, put]
  · rfl

/-- A field that is placed below another joins it. -/
theorem or_field {a b n w : Nat} (h : b < 2 ^ w) : a * 2 ^ (n + w) ||| b * 2 ^ n = (a * 2 ^ w + b) * 2 ^ n := by
  rw [Nat.add_comm n w, Nat.pow_add, ← Nat.mul_assoc, ← Nat.shiftLeft_eq _ n, ← Nat.shiftLeft_eq b n, ← Nat.shiftLeft_or_distrib,
    Nat.mul_comm a, ← Nat.two_pow_add_eq_or_of_lt h, Nat.shiftLeft_eq]

/-- The fields stand side by side. -/
theorem patWord_toNat {op : Nat} (f : PatFields) (h : op < 64) : (patWord op f).toNat =
    ((((op * 2 ^ 4 + f.dst.toNat) * 2 ^ 4 + f.srca.toNat) * 2 ^ 4 + f.srcb.toNat) * 2 ^ 1 + f.pred.toNat) * 2 ^ 13 + f.imm.toNat := by
  have hdst (a : Nat) : a * 2 ^ 26 ||| f.dst.toNat * 2 ^ 22 = _ := or_field f.dst.isLt
  have hsrca (a : Nat) : a * 2 ^ 22 ||| f.srca.toNat * 2 ^ 18 = _ := or_field f.srca.isLt
  have hsrcb (a : Nat) : a * 2 ^ 18 ||| f.srcb.toNat * 2 ^ 14 = _ := or_field f.srcb.isLt
  have hpred (a : Nat) : a * 2 ^ 14 ||| f.pred.toNat * 2 ^ 13 = _ := or_field (w := 1) f.pred.toNat_lt
  have himm (a : Nat) : a * 2 ^ 13 ||| f.imm.toNat * 2 ^ 0 = _ := or_field (n := 0) f.imm.isLt
  simp only [patWord, flag_eq_put, BitVec.toNat_or]
  rw [put_toNat_of_lt (width := 6) h (by decide), put_toNat_of_lt f.dst.isLt (by decide), put_toNat_of_lt f.srca.isLt (by decide),
    put_toNat_of_lt f.srcb.isLt (by decide), put_toNat_of_lt (width := 1) f.pred.toNat_lt (by decide),
    put_toNat_of_lt f.imm.isLt (by decide), hdst, hsrca, hsrcb, hpred, himm, Nat.pow_zero, Nat.mul_one]

section Fields
variable {op : Nat} (f : PatFields) (h : op < 64)
include h

/-- Each field is read back. -/
theorem fld_patWord : fld (patWord op f) 31 26 = op ∧ fld (patWord op f) 25 22 = f.dst.toNat ∧
    fld (patWord op f) 21 18 = f.srca.toNat ∧
    fld (patWord op f) 17 14 = f.srcb.toNat ∧ fld (patWord op f) 12 0 = f.imm.toNat ∧ bit (patWord op f) 13 = f.pred := by
  have hdst := f.dst.isLt
  have hsrca := f.srca.isLt
  have hsrcb := f.srcb.isLt
  have hpred := f.pred.toNat_lt
  have himm := f.imm.isLt
  have hbit : (patWord op f).toNat / 2 ^ 13 % 2 = f.pred.toNat := by
    rw [patWord_toNat f h]
    omega
  simp only [fld, Nat.shiftRight_eq_div_pow, patWord_toNat f h]
  refine ⟨by omega, by omega, by omega, by omega, by omega, ?_⟩
  rw [bit, BitVec.getLsbD, Nat.testBit_eq_decide_div_mod_eq, hbit]
  cases f.pred <;> rfl

/-- A reserved word names its own opcode and fields. -/
theorem exec_loopBadOp_patWord (lane : Fin 8) (hres : patReserved op f = true) (s : State) :
    exec (.loopBadOp lane (patWord op f)) s = s.upd fun l => l.patStep lane op f fun l e => (l, e) := by
  obtain ⟨hop, hdst, hsrca, hsrcb, himm, hpred⟩ := fld_patWord f h
  show execLoopBadOp lane (patWord op f) s = _
  simp [execLoopBadOp, hop, hdst, hsrca, hsrcb, himm, hpred, hres]

end Fields

/-! ## The lane's evaluation moves on -/

section Moves
variable {s : State} {lane op : Nat} {f : PatFields} {e : Eval} {c : Instr} {body : Live → Eval → Live × Eval}
  (hexec : exec c s = s.upd fun l => l.patStep lane op f body)
include hexec

theorem exec_of_no_evaluation (h : (s.live.lane lane).ev = none) : exec c s = .next s := by
  rw [hexec, State.upd, Live.patStep_of_none h]

theorem exec_of_word_ne (h : LaneRuns s lane e) (hword : e.word ≠ patWord op f) : exec c s = .next s := by
  rw [hexec, State.upd, Live.patStep_of_word_ne h hword]

/-- Under a false predicate the evaluation moves on (R185). -/
theorem laneGoes_of_skipped (h : LaneRuns s lane e) (hword : e.word = patWord op f) (hres : patReserved op f = false)
    (hpred : f.pred = true) (hp : e.p = false) :
    LaneGoes s lane (exec c s) (fun e' => e' = { e with pc := e.pc + 1, trail := e'.trail }) := by
  obtain ⟨tr, hnote⟩ := e.note_eq op true
  rw [hexec, State.upd, Live.patStep_of_skipped h hword hres hpred hp, hnote]
  exact ⟨_, rfl, live_sameBut (m := 2097408) (by simp) _ (by decide), rfl, fun m hm => Live.modLane_lane_other _ _ _ _ hm, rfl, _,
    Live.modLane_lane_same _ _ _, rfl⟩

/-- A reserved encoding marks its evaluation and sends one detail (R207). -/
theorem gives_of_reserved (h : LaneRuns s lane e) (hword : e.word = patWord op f) (hres : patReserved op f = true) :
    Gives (exec c s) (fun t => Raised s t [s.live.detailOf 0x3006 (oTile e.tile) lane] ∧
      t.live.fc = { s.live.fc with details := t.live.fc.details } ∧ SameBut [.loop, .sec, .fc] s t ∧
      t.live.loop = { s.live.loop with lanes := t.live.loop.lanes } ∧ (∀ m, m ≠ lane → t.live.lane m = s.live.lane m) ∧
      ∃ e', t.live.lane lane = { s.live.lane lane with ev := some e' } ∧
        e' = { e with bad := true, pc := e.pc + 1, trail := e'.trail }) := by
  obtain ⟨tr, hnote⟩ := e.note_eq op (f.pred && !e.p)
  rw [hexec, State.upd, Live.patStep_of_reserved h hword hres, hnote]
  exact ⟨_, rfl, rfl, rfl, live_sameBut (m := 2130176) (by simp) _ (by decide), rfl,
    fun m hm => Live.modLane_lane_other _ _ _ _ hm, _, Live.modLane_lane_same _ _ _, rfl⟩

end Moves

/-- Settles O30: every pattern instruction, and the word of a reserved encoding, is `Live.patStep`, whose branches are these. -/
theorem predicateAndReservedEncodings : Obligations.PredicateAndReservedEncodings := by
  refine ⟨fun s c lane op f e hc h hword hres hpred hp => ?_, fun s c lane op f e hc => ?_, fun s c lane op f e hc h hword => ?_⟩
  · obtain ⟨body, hexec⟩ := exec_of_patternOf hc
    exact laneGoes_of_skipped (hexec s) h hword hres hpred hp
  · obtain ⟨hres, body, hexec⟩ : patReserved op f = true ∧ ∃ body, exec c s = s.upd fun l => l.patStep lane op f body := by
      obtain ⟨hc, hres⟩ | ⟨m, rfl, rfl, hop, hres⟩ := hc
      · obtain ⟨body, hexec⟩ := exec_of_patternOf hc
        exact ⟨hres, body, hexec s⟩
      · exact ⟨hres, _, exec_loopBadOp_patWord f hop m hres s⟩
    exact ⟨fun h hword => gives_of_reserved hexec h hword hres, exec_of_no_evaluation hexec⟩
  · obtain ⟨body, hexec⟩ := exec_of_patternOf hc
    exact exec_of_word_ne (hexec s) h hword

end Sys2Proof.Machine
end

section
/-! PROOFS. The loads (R182, R190, R191, R200). -/
open Sys2Proof Sys2Proof.Machine
namespace Sys2Proof.Machine

/-- The status of an input port is one of the three of R143; a slot of the ring has two more, which no dispatch latches
(`Live.latchInput_status`). -/
def UpStat.Latched (st : UpStat) : Prop := st = .valid ∨ st = .predicted ∨ st = .held

/-- P by the status mode of `IN` (Table 5.4), where the status is one that dispatch latches. -/
theorem inP_eq {st : UpStat} (h : st.Latched) (p : Bool) : ∀ {m : Nat}, m < 4 → inP m st p =
    if m = 0 then p else if m = 1 then decide (st = .valid) else if m = 2 then decide (st ≠ .held) else decide (st = .held)
  | 0, _ => rfl
  | 1, _ => rfl
  | 2, _ => by rcases h with rfl | rfl | rfl <;> rfl
  | 3, _ => rfl

theorem Live.brickIn_status (l : Live) (ring slot field : Nat) (policy : Bool) : (l.brickIn ring slot field policy).2.Latched := by
  unfold Live.brickIn
  extract_lets k now v st
  have hst : st.Latched := by
    unfold UpStat.Latched st
    split_ifs <;> simp
  by_cases hheld : st = .held
  · rw [if_pos hheld]
    exact .inr (.inr rfl)
  · rw [if_neg hheld]
    split <;> exact hst

theorem Live.latchInput_status (l : Live) (lt : Latch) (t b : Nat) (policy : Bool) : (l.latchInput lt t b policy).2.Latched := by
  unfold Live.latchInput
  split
  · exact l.brickIn_status _ _ _ _
  · dsimp only
    split
    · exact .inl rfl
    · exact .inr (.inr rfl)
  · dsimp only
    split
    · exact .inr (.inr rfl)
    · exact .inl rfl
  all_goals exact .inl rfl

/-- What dispatch latches for an input port is one of the three statuses. -/
theorem Live.Begins.status_latched {l : Live} {r : Tbl Word} {t : Nat} {rg : Option Nat} {num : Half} {e : Eval}
    (h : l.Begins r t rg num e) {i : Nat} (hi : i < 8) : (e.sts.getD i .valid).Latched := by
  obtain ⟨-, hsts⟩ := h.inputs i hi
  rw [List.getD_eq_getElem?_getD, hsts]
  exact Live.latchInput_status _ _ _ _ _

theorem Eval.inSel_eq (e : Eval) (i : Nat) : e.inSel i =
    (if i < 8 then tget 0 e.ins i else tget 0 e.conts (i - 8), if i < 8 then e.sts.getD i .valid else .valid) := by
  unfold Eval.inSel
  split <;> rfl

/-! ## The loads, where the status of the port that is read is one that dispatch latches -/

section Loads
variable {s : State} {lane : Fin 8} {f : PatFields} {e : Eval} (h : Executes s lane f e) (hsrca : f.srca = 0) (hsrcb : f.srcb = 0)
include h hsrca hsrcb

theorem in_loads (himm : f.imm.toNat < 64) (hsel : f.imm.toNat % 16 < 12)
    (hst : f.imm.toNat % 16 < 8 → (e.sts.getD (f.imm.toNat % 16) .valid).Latched) :
    let i := f.imm.toNat % 16
    let m := f.imm.toNat / 16
    let st := if i < 8 then e.sts.getD i .valid else .valid
    InstrGoes s lane e (.opIn lane f)
      (fun e' => Wrote e e' f.dst (if i < 8 then tget 0 e.ins i else tget 0 e.conts (i - 8)).toInt
        (if m = 0 then e.p else if m = 1 then decide (st = .valid) else if m = 2 then decide (st ≠ .held) else decide (st = .held))) := by
  intro i m st
  have hlatched : st.Latched := by
    unfold st
    split
    · exact hst ‹_›
    · exact .inl rfl
  have hm : m < 4 := Nat.div_lt_of_lt_mul himm
  have hown : ownReserved 0x1C f = false := by simpa [ownReserved] using hsel
  have hp : inP (m % 4) (e.inSel i).2 e.p = inP m st e.p := by rw [Nat.mod_eq_of_lt hm, e.inSel_eq]
  rw [← inP_eq hlatched e.p hm, ← hp]
  exact wrote_of_local (e.inSel i).1 h rfl rfl
    (patReserved_of_uses rfl (.inl rfl) (.inr hsrca) (.inr hsrcb) (imm_and_mask (k := 6) himm (by decide)) hown) (fun _ => rfl)
    (by rw [e.inSel_eq])

theorem lds_loads (himm : f.imm.toNat < 32) :
    let i := f.imm.toNat % 16
    let v := if i ∈ e.slotSet then tget 0 e.slots i else tget 0 e.slots0 i
    InstrGoes s lane e (.opLds lane f)
      (fun e' => Wrote e e' f.dst (v.setWidth 24).toInt (if f.imm.toNat < 16 then e.p else v.getLsbD 24)) := by
  intro i v
  have hv : e.slotWord i = v := by simp [Eval.slotWord, v]
  have hbit : f.imm.getLsbD 4 = decide (¬ f.imm.toNat < 16) := by
    rw [BitVec.getLsbD, Nat.testBit_eq_decide_div_mod_eq, decide_eq_decide]
    omega
  have hp : (if f.imm.toNat < 16 then e.p else v.getLsbD 24) = if f.imm.getLsbD 4 then bit (e.slotWord i) 24 else e.p := by
    simp only [hbit, hv, decide_eq_true_eq, ite_not, bit]
  rw [hp, ← hv]
  exact wrote_of_local _ h rfl rfl
    (patReserved_of_uses rfl (.inl rfl) (.inr hsrca) (.inr hsrcb) (imm_and_mask (k := 5) himm (by decide)) rfl)
    (fun _ => Eval.ite_setP _ _ _) rfl

theorem rcrd_loads (himm : f.imm = 0) :
    let k := s.live.tile e.tile
    InstrGoes s lane e (.opRcrd lane f)
      (fun e' => Wrote e e' f.dst (if s.live.rcUsable e then
        (tget 0 s.live.loop.rcPool (recRcBase e.record + (k.rcK + recRclead e.record) % k.rcM)).toInt * 256 else 0) e.p) := by
  intro k
  let entry := s.live.rcEntry e ((k.rcK + recRclead e.record) % k.rcM)
  have hres : patReserved 0x2C f = false :=
    patReserved_of_uses rfl (.inl rfl) (.inr hsrca) (.inr hsrcb) (imm_and_of_zero himm 0) rfl
  have hfits : (BitVec.ofInt 24 (entry.toInt * 256)).toInt = entry.toInt * 256 := by
    have hlo : -32768 ≤ entry.toInt := entry.le_toInt
    have hhi : entry.toInt < 32768 := entry.toInt_lt
    refine BitVec.toInt_ofInt_eq_self (by decide) ?_ ?_
    · show (-8388608 : Int) ≤ _
      omega
    · show _ < (8388608 : Int)
      omega
  refine instrGoes_of_body h rfl rfl hres fun tr =>
    ⟨_, rfl, e.setW_wrote tr f.dst (v := if s.live.rcUsable e then BitVec.ofInt 24 (entry.toInt * 256) else 0) e.p ?_⟩
  rw [apply_ite BitVec.toInt, hfits]
  rfl

end Loads

/-! ## The refutation of O27 -/

/-- The status of input 0 is that of a slot that still waits for its brick, and the library word is an `IN` of that port with
status mode 2. -/
def waitingEval : Eval := { sts := [.waiting], lib := [(0, patWord 0x1C { imm := 32 })] }
/-- Lane 0 runs that evaluation. -/
def waitingState : State := { State.reset with live := State.reset.live.modLane 0 fun k => { k with ev := some waitingEval } }

/-- Refutes O27: the statement is about any evaluation, and a status that is neither valid nor predicted nor held sets P to 0 in
mode 2 (Table 5.4), where the statement has 1.  Dispatch latches no such status, and for those that it does latch the clauses hold
(`in_loads`, `lds_loads`, `rcrd_loads`). -/
theorem not_loadsReadWhatDispatchLatched : ¬ Obligations.LoadsReadWhatDispatchLatched := by
  intro hall
  have hruns : Executes waitingState 0 { imm := 32 } waitingEval := ⟨⟨rfl, rfl, rfl⟩, fun _ => by contradiction⟩
  obtain ⟨hin, -, -⟩ := hall waitingState 0 { imm := 32 } waitingEval hruns rfl rfl
  obtain ⟨t, hnext, -, -, -, -, e', hlane, hwrote, -, -⟩ := hin (by decide) (by decide) 0 0x1C { imm := 32 } rfl rfl
  have hstatement : e'.p = true := congrArg Eval.p hwrote
  have hmodel : some e'.p = some false := by
    cases hnext
    exact (congrArg (fun k : Lane => k.ev.map Eval.p) hlane).symm
  simp [hstatement] at hmodel

end Sys2Proof.Machine
end

section
/-! PROOFS. The rows of Table 6.3: the states that each leaves, what the course work does where it meets one of them, and the
changes of a rail that they make. -/
open Sys2Proof Sys2Proof.Machine
namespace Sys2Proof.Machine

/-! ## What a rail's work reads, where it does not write -/

theorem Live.rcf_congr {l k : Live} (h : k.img = l.img) (r w hi lo : Nat) : k.rcf r w hi lo = l.rcf r w hi lo := by
  simp only [Live.rcf, Live.cf, Live.cw, h]

theorem Live.railStart_congr {l k : Live} (himg : k.img = l.img) (hrings : k.rings = l.rings) (r : Nat) :
    k.railStart r = l.railStart r := by
  have hring : k.railRing r = l.railRing r := by
    unfold Live.railRing Live.tileRing Live.tileRings Live.tileRules Live.tIn Live.railTile Live.cf Live.cw
    rw [himg]
  simp only [Live.railStart, hring, Live.ring_congr hrings]

/-- The members in rotation are those of the stations, the handover and the rail's own notes (R210, R220). -/
theorem Live.rots_congr {l k : Live} {r : Nat} (himg : k.img = l.img) (hmoor : k.moor = l.moor) (hloop : k.loop = l.loop)
    (hmem : (k.rail r).members = (l.rail r).members) : k.rots r = l.rots r := by
  have htile : k.railTile r = l.railTile r := by simp only [Live.railTile, Live.cf, Live.cw, himg]
  have hstn (m : Nat) : k.mStn r m = l.mStn r m := by
    simp only [Live.mStn, Live.memberStn, Live.members, Live.stns, htile, hmoor]
  have hrot (m : Nat) : k.mRot r m = l.mRot r m := by
    simp only [Live.mRot, Live.mMoored, Live.mJoined, Live.mem, hstn, htile, Live.tile, hloop, hmem]
  simp only [Live.rots, funext hrot]

/-! ## A rail's state changes (R260) -/

theorem Live.rail_congr {l k : Live} (h : k.rails = l.rails) (m : Nat) : k.rail m = l.rail m := by
  rw [Live.rail, h, Live.rail]

/-- Of the rails a change of state changes the state of one; what the ports keep of it is no part of them. -/
theorem Live.railTo_rail (l : Live) (r : Nat) (st : RailSt) (m : Nat) :
    (l.railTo r st).rail m = (l.modRail r fun k => { k with st := st }).rail m := by
  unfold Live.railTo
  extract_lets old l1
  split
  · exact Live.rail_congr (Live.same_rails (by simp [l1])) m
  · rfl

theorem Live.railTo_of_not_regulates {l : Live} {r : Nat} (h : (l.rail r).st.regulates = false) (st : RailSt) :
    l.railTo r st = l.modRail r fun k => { k with st := st } := by
  unfold Live.railTo
  exact if_neg (by simp [h])

/-- The rail, when its state and then some of its fields have changed. -/
theorem Live.railTo_modRail_rail (l : Live) (r : Nat) (st : RailSt) (f : Rail → Rail) :
    ((l.railTo r st).modRail r f).rail r = f { l.rail r with st := st } := by
  rw [Live.modRail_rail_same, Live.railTo_rail, Live.modRail_rail_same]

theorem Live.railTo_modRail_rail_other (l : Live) (st : RailSt) (f : Rail → Rail) {r m : Nat} (h : m ≠ r) :
    ((l.railTo r st).modRail r f).rail m = l.rail m := by
  rw [Live.modRail_rail_other _ _ _ _ h, Live.railTo_rail, Live.modRail_rail_other _ _ _ _ h]

/-- A rail runs out of phases: no member is in rotation, and one was in the last course (Table 6.3). -/
def Live.NoPhase (l : Live) (r : Nat) : Prop := l.rots r = [] ∧ (l.rail r).rotPrev ≠ 0

/-- `OVN` courses in a row lay above an over-voltage window (R225). -/
def Live.OverN (l : Live) (r : Nat) : Prop := (l.rail r).ovCnt ≠ 0 ∧ l.rcf r 4 15 12 ≤ (l.rail r).ovCnt

/-- A change of a rail that leaves its members and its count of phases leaves it with a phase. -/
theorem Live.NoPhase.of_keep {l k : Live} {r : Nat} (hless : Live.less 35328 k = Live.less 35328 l)
    (hmem : (k.rail r).members = (l.rail r).members) (hprev : (k.rail r).rotPrev = (l.rail r).rotPrev) (h : k.NoPhase r) :
    l.NoPhase r := by
  obtain ⟨hrots, hnot⟩ := h
  have hsame : k.rots r = l.rots r := Live.rots_congr (Live.less_img hless (by decide)) (Live.less_moor hless (by decide))
    (Live.less_loop hless (by decide)) hmem
  exact ⟨hsame ▸ hrots, hprev ▸ hnot⟩

/-! ## Rows whose event is not there -/

/-- The rows of Table 6.3 that leave a state, of those that the course work judges. -/
def RailSt.rows : RailSt → List Nat
  | .idle => []
  | .off => [1, 8]
  | .softstart => [0, 1, 3, 4, 5, 10, 11]
  | .on => [0, 1, 4, 5, 11]
  | .foldback => [0, 1, 2, 4, 5, 12]
  | .hiccup => [1, 5, 9]
  | .latched => []
  | .stopping => [0, 1, 6, 7]

section Rows
variable {l : Live} {r : Nat}

theorem Live.railRow_of_not_mem_rows {n : Nat} (h : n ∉ (l.rail r).st.rows) : l.railRow r n = none := by
  unfold Live.railRow
  dsimp only
  split
  case h_14 => rfl
  all_goals
    refine if_neg ?_
    cases hst : (l.rail r).st <;> simp_all [RailSt.rows, RailSt.ramps, RailSt.regulates]

/-- None of these rows is met. -/
def Live.Quiet (l : Live) (r : Nat) (ns : List Nat) : Prop := ∀ n ∈ ns, l.railRow r n = none

/-- Of a list of rows, those count that leave the rail's state. -/
theorem Live.quiet_of_rows {ns : List Nat} (h : ∀ n ∈ (l.rail r).st.rows, n ∈ ns → l.railRow r n = none) : l.Quiet r ns := by
  intro n hn
  by_cases hmem : n ∈ (l.rail r).st.rows
  · exact h n hmem hn
  · exact Live.railRow_of_not_mem_rows hmem

theorem Live.railRow_over_none (h : ¬ l.OverN r) : l.railRow r 0 = none := by
  simp only [Live.OverN, not_and] at h
  simpa [Live.railRow] using fun _ hcnt hle => absurd hle (Nat.not_le_of_lt (by simpa using h hcnt))

theorem Live.railRow_phase_none (h : ¬ l.NoPhase r) : l.railRow r 1 = none := by
  simp only [Live.NoPhase, not_and] at h
  simpa [Live.railRow] using fun _ hrots hprev => absurd hprev (h hrots)

/-- A rail whose intent is set and that no order sheds does not stop. -/
theorem Live.railRow_stop_none (hintent : (l.rail r).intent = true) (hshed : (l.rail r).shedOrd = false) :
    l.railRow r 4 = none ∧ l.railRow r 5 = none := by
  simp [Live.railRow, hintent, hshed]

theorem Live.railRow_start_none (hintent : (l.rail r).intent = false) : l.railRow r 8 = none := by
  simp [Live.railRow, hintent]

theorem Live.railRow_stopNow_none (h : (l.rail r).stopNow = 0) : l.railRow r 6 = none := by
  simp [Live.railRow, h]

theorem Live.railRow_ramped_none (h : (l.rail r).vr ≠ 0) : l.railRow r 7 = none := by
  simp [Live.railRow, h]

theorem Live.railRow_fold_none (h : (l.rail r).st = .foldback → l.railStart r < (l.rail r).fbAt + l.rcf r 5 31 24 * 200000) :
    l.railRow r 2 = none := by
  refine if_neg fun hc => ?_
  simp only [Bool.and_eq_true, decide_eq_true_eq] at hc
  obtain ⟨⟨hst, hle⟩, -⟩ := hc
  rw [bondTicks] at hle
  exact absurd hle (Nat.not_le_of_lt (h hst))

theorem Live.railRow_ssFail_none (h : (l.rail r).st = .softstart → (l.rail r).reachedAt = none ∨ l.aboveUv r = true) :
    l.railRow r 3 = none := by
  refine if_neg fun hc => ?_
  simp only [Bool.and_eq_true, decide_eq_true_eq, Bool.not_eq_true'] at hc
  obtain ⟨⟨⟨hst, hat⟩, hlow⟩, -⟩ := hc
  rcases h hst with hnone | habove
  · simp [hnone] at hat
  · simp [habove] at hlow

/-! ## Rows that are taken -/

theorem Live.railRow_over (hramps : (l.rail r).st.ramps = true) (hover : l.OverN r) :
    l.railRow r 0 = some (l.railLatch r 4 0x4001) := by
  obtain ⟨hcnt, hle⟩ := hover
  have hidle : (l.rail r).st ≠ .idle := fun h => by simp [h, RailSt.ramps] at hramps
  simp [Live.railRow, hramps, hcnt, hle, hidle]

theorem Live.railRow_fold (hst : (l.rail r).st = .foldback) (hat : (l.rail r).fbAt + l.rcf r 5 31 24 * 200000 ≤ l.railStart r) :
    l.railRow r 2 = some (l.railTrip r 3) := by
  simp [Live.railRow, bondTicks, hst, hat]

theorem Live.railRow_ssFail {a : Nat} (hst : (l.rail r).st = .softstart) (hreach : (l.rail r).reachedAt = some a)
    (hat : a + 2000000 ≤ l.railStart r) (hlow : l.aboveUv r = false) :
    l.railRow r 3 = some ((l.railTrip r 6).raise 0x400A (oRail r)) := by
  simp [Live.railRow, hst, hreach, hat, hlow]

theorem Live.railRow_hiccup (hst : (l.rail r).st = .hiccup) (hintent : (l.rail r).intent = true) (hshed : (l.rail r).shedOrd = false)
    (hat : (l.rail r).hicAt + l.rcf r 5 23 16 * 2000000 ≤ l.railStart r) : l.railRow r 9 = some (l.railStartUp r) := by
  simp [Live.railRow, hst, hintent, hshed, bondTicks, Nat.mul_assoc, hat]

end Rows

/-! ## The rows in turn (R21) -/

theorem Live.railTake_of_quiet {l : Live} {r : Nat} {ns : List Nat} (h : l.Quiet r ns) (f : Nat) : Live.railTake r f ns l = l := by
  cases f with
  | zero => rfl
  | succ f =>
    have hfind : ns.find? (fun n => (l.railRow r n).isSome) = none := List.find?_eq_none.mpr fun n hn => by simp [h n hn]
    simp only [Live.railTake, hfind]

/-- The first row that is met is taken, and the others are judged against what it makes. -/
theorem Live.railTake_of_taken {l k : Live} {r n : Nat} {before after : List Nat} (hquiet : l.Quiet r before)
    (htaken : l.railRow r n = some k) (f : Nat) :
    Live.railTake r (f + 1) (before ++ n :: after) l = Live.railTake r f ((before ++ n :: after).filter (· ≠ n)) k := by
  have hfind : (before ++ n :: after).find? (fun n => (l.railRow r n).isSome) = some n := by
    rw [List.find?_append, List.find?_eq_none.mpr fun m hm => by simp [hquiet m hm]]
    simp [htaken]
  simp only [Live.railTake, hfind, htaken, Option.getD_some]

theorem Live.railRows_of_quiet {l : Live} {r n : Nat} (h : l.Quiet r (List.range (n + 1))) : l.railRows r n = l :=
  Live.railTake_of_quiet h (n + 1)

/-- Row `n` is taken where no row before it is met, and none of them is met in what it makes. -/
theorem Live.railRows_of_taken {l k : Live} {r n : Nat} (hbefore : l.Quiet r (List.range n)) (htaken : l.railRow r n = some k)
    (hafter : k.Quiet r (List.range n)) : l.railRows r n = k := by
  unfold Live.railRows
  rw [List.range_succ, Live.railTake_of_taken hbefore htaken]
  refine Live.railTake_of_quiet (fun m hm => hafter m ?_) n
  simp only [List.mem_filter, List.mem_append, List.mem_singleton, decide_eq_true_eq] at hm
  exact hm.1.resolve_right hm.2

end Sys2Proof.Machine
end

section
/-! PROOFS. What ends a rail's normal regulation: the events of a rail that its course work judges (R222 to R225, R237). -/
open Sys2Proof Sys2Proof.Machine
namespace Sys2Proof.Machine

/-! ## An event of a rail comes behind the course work before it (R237) -/

/-- The state when the course work of a rail has come to a part. -/
def State.railUpTo (s : State) (r n : Nat) : State := { s with live := s.live.railUpTo r n }

theorem upd_railEvent_of_due {s : State} {r parts : Nat} (hdue : s.live.railDue r = true) (hstage : s.live.railStage r ≤ parts)
    (f : Live → Live) : (s.upd fun l => l.railEvent r parts f) = (s.railUpTo r parts).upd f :=
  upd_congr (g := fun l => f (l.railUpTo r parts)) (if_pos (by simp [hdue, hstage]))

theorem upd_railEvent_of_not {s : State} {r parts : Nat} (h : s.live.railDue r = false ∨ parts < s.live.railStage r)
    (f : Live → Live) : (s.upd fun l => l.railEvent r parts f) = .next s := by
  have hno : (s.live.railDue r && decide (s.live.railStage r ≤ parts)) = false := by
    rcases h with h | h
    · simp [h]
    · simp [Nat.not_le_of_lt h]
  exact upd_congr (g := id) (if_neg (ne_true_of_eq_false hno))

theorem gives_of_eq {o o' : Host.Outcome State Fault Refusal} {P : State → Prop} (h : o = o') (hP : Gives o' P) : Gives o P := h ▸ hP

/-- A change that makes `k` of the controller's part gives what holds of `k`. -/
theorem upd_gives_of_eq {v : State} {f : Live → Live} {k : Live} (h : f v.live = k) {P : State → Prop} (hP : P { v with live := k }) :
    Gives (v.upd f) P :=
  ⟨_, rfl, h ▸ hP⟩

/-- A detail is sent behind changes of the rail and its ports. -/
theorem Live.raise_details_of_keep {l k : Live} (h : Live.less 2560 k = Live.less 2560 l) (code obj aux : Nat) :
    (k.raise code obj aux).fc.details = l.fc.details ++ [l.detailOf code obj aux] := by
  rw [← Live.detailOf_congr (Live.less_now h (by decide)), ← Live.less_fc h (by decide)]
  rfl

/-! ## Over-voltage latches the rail (R225) -/

theorem Live.railLatch_rail (l : Live) (r cause code : Nat) :
    (l.railLatch r cause code).rail r = { l.rail r with st := .latched, cause := cause, vfb := none, ovCnt := 0 } :=
  l.railTo_modRail_rail r .latched fun k => { k with cause := cause, vfb := none, ovCnt := 0 }

theorem Live.railLatch_rail_other (l : Live) (cause code : Nat) {r m : Nat} (h : m ≠ r) :
    (l.railLatch r cause code).rail m = l.rail m :=
  l.railTo_modRail_rail_other .latched (fun k => { k with cause := cause, vfb := none, ovCnt := 0 }) h

theorem Live.railLatch_details (l : Live) (r cause code : Nat) :
    (l.railLatch r cause code).fc.details = l.fc.details ++ [l.detailOf code (oRail r)] :=
  Live.raise_details_of_keep (by simp) _ _ _

/-! ## Fold-back that lasts and a soft start that fails (R222, R224) -/

/-- Another hiccup follows a trip: `FBLATCH` is 0 and `HICMAX` is not reached (Table 6.3). -/
def Live.hiccups (l : Live) (r : Nat) : Bool :=
  !l.cb (oRail r) 0 5 && (l.rcf r 5 15 12 = 0 || (l.rail r).hiccnt < l.rcf r 5 15 12)

/-- The rail after a trip. -/
def Rail.tripped (k : Rail) (hic : Bool) (cause at_ : Nat) : Rail :=
  if hic then { k with st := .hiccup, hiccnt := k.hiccnt + 1, cause := cause, vfb := none, hicAt := at_ }
  else { k with st := .latched, cause := cause, vfb := none }

theorem Rail.tripped_cause (k : Rail) (hic : Bool) (cause at_ : Nat) : (k.tripped hic cause at_).cause = cause := by
  cases hic <;> rfl

theorem Rail.tripped_vfb (k : Rail) (hic : Bool) (cause at_ : Nat) : (k.tripped hic cause at_).vfb = none := by
  cases hic <;> rfl

theorem Rail.tripped_st (k : Rail) (hic : Bool) (cause at_ : Nat) :
    (k.tripped hic cause at_).st = if hic then .hiccup else .latched := by
  cases hic <;> rfl

theorem Live.railTrip_of_hiccups {l : Live} {r : Nat} (h : l.hiccups r = true) (cause : Nat) : l.railTrip r cause =
    ((l.railTo r .hiccup).modRail r fun k =>
      { k with hiccnt := k.hiccnt + 1, cause := cause, vfb := none, hicAt := l.railStart r }).raise 0x4004 (oRail r) :=
  if_pos h

theorem Live.railTrip_of_not_hiccups {l : Live} {r : Nat} (h : l.hiccups r = false) (cause : Nat) : l.railTrip r cause =
    ((l.railTo r .latched).modRail r fun k => { k with cause := cause, vfb := none }).raise 0x4005 (oRail r) :=
  if_neg (ne_true_of_eq_false h)

theorem Live.railTrip_rail (l : Live) (r cause : Nat) :
    (l.railTrip r cause).rail r = (l.rail r).tripped (l.hiccups r) cause (l.railStart r) := by
  cases h : l.hiccups r
  · rw [Live.railTrip_of_not_hiccups h]
    exact l.railTo_modRail_rail r .latched fun k => { k with cause := cause, vfb := none }
  · rw [Live.railTrip_of_hiccups h]
    exact l.railTo_modRail_rail r .hiccup fun k => { k with hiccnt := k.hiccnt + 1, cause := cause, vfb := none, hicAt := l.railStart r }

theorem Live.railTrip_details (l : Live) (r cause : Nat) : (l.railTrip r cause).fc.details =
    l.fc.details ++ [l.detailOf (if l.hiccups r then 0x4004 else 0x4005) (oRail r)] := by
  cases h : l.hiccups r
  · rw [Live.railTrip_of_not_hiccups h]
    exact Live.raise_details_of_keep (by simp) _ _ _
  · rw [Live.railTrip_of_hiccups h]
    exact Live.raise_details_of_keep (by simp) _ _ _

section Rows
variable {v : State} {r : Nat}

/-- After a trip no row before `n` is met: of those that leave HICCUP and LATCHED only the want of a phase comes so early. -/
theorem Live.quiet_of_tripped {l k : Live} (hphase : ¬ l.NoPhase r) (hless : Live.less 35328 k = Live.less 35328 l) {cause : Nat}
    (hrail : k.rail r = (l.railTrip r cause).rail r) {n : Nat} (hn : n ≤ 5) : k.Quiet r (List.range n) := by
  rw [Live.railTrip_rail] at hrail
  have hphase' : ¬ k.NoPhase r := by
    refine mt (Live.NoPhase.of_keep hless ?_ ?_) hphase
    all_goals
      rw [hrail]
      cases l.hiccups r <;> rfl
  refine Live.quiet_of_rows fun m hm hlt => ?_
  rw [List.mem_range] at hlt
  rw [hrail, Rail.tripped_st] at hm
  have hrow : m = 1 := by
    split at hm
    · simp only [RailSt.rows, List.mem_cons, List.not_mem_nil, or_false] at hm
      omega
    · simp [RailSt.rows] at hm
  exact hrow ▸ Live.railRow_phase_none hphase'

/-! ## The events, in the state that the course work before them leaves -/

theorem railRows_over_latches (hramps : (v.live.rail r).st.ramps = true) (hover : v.live.OverN r) :
    Gives (v.upd fun l => l.railRows r 0) (fun t => Raised v t [v.live.detailOf 0x4001 (oRail r)] ∧ (t.live.rail r).st = .latched ∧
      (t.live.rail r).cause = 4 ∧ (∀ m, m ≠ r → t.live.rail m = v.live.rail m) ∧ SameBut [.rails, .vcr, .fc] v t) := by
  have hrows : v.live.railRows r 0 = v.live.railLatch r 4 0x4001 :=
    Live.railRows_of_taken (by simp [Live.Quiet]) (Live.railRow_over hramps hover) (by simp [Live.Quiet])
  have hrail := v.live.railLatch_rail r 4 0x4001
  exact upd_gives_of_eq hrows ⟨v.live.railLatch_details r 4 0x4001, congrArg Rail.st hrail, congrArg Rail.cause hrail,
    fun m => v.live.railLatch_rail_other 4 0x4001, live_sameBut (m := 35328) (by simp) _ (by decide)⟩

theorem railRows_over_same (h : (v.live.rail r).st.ramps = false ∨ ¬ v.live.OverN r) :
    (v.upd fun l => l.railRows r 0) = .next v := by
  have hnone : v.live.railRow r 0 = none := by
    rcases h with hst | hover
    · exact Live.railRow_of_not_mem_rows fun hmem => by cases hs : (v.live.rail r).st <;> simp_all [RailSt.ramps, RailSt.rows]
    · exact Live.railRow_over_none hover
  exact upd_congr (g := id) (Live.railRows_of_quiet (by simpa [Live.Quiet] using hnone))

theorem Live.uvCheck_of_under {l : Live} (hst : (l.rail r).st = .on) (hcnt : (l.rail r).uvCnt ≠ 0)
    (hle : l.rcf r 4 11 4 ≤ (l.rail r).uvCnt) (hnew : (l.rail r).uvRaised = false) :
    l.uvCheck r = (l.modRail r fun k => { k with uvRaised := true }).raise 0x4002 (oRail r) :=
  if_pos (by simp [hst, hcnt, hle, hnew])

/-- `RAIL_UV` is raised once in a run of courses; the state does not change (R225). -/
theorem uvCheck_raises (hst : (v.live.rail r).st = .on) (hcnt : (v.live.rail r).uvCnt ≠ 0)
    (hle : v.live.rcf r 4 11 4 ≤ (v.live.rail r).uvCnt) (hnew : (v.live.rail r).uvRaised = false) :
    Gives (v.upd fun l => l.uvCheck r) (fun t => Raised v t [v.live.detailOf 0x4002 (oRail r)] ∧
      t.live.rail r = { v.live.rail r with uvRaised := true } ∧ SameBut [.rails, .fc] v t) := by
  have hcheck := Live.uvCheck_of_under hst hcnt hle hnew
  have hdetails : (v.live.uvCheck r).fc.details = _ := hcheck ▸ Live.raise_details_of_keep (l := v.live) (by simp) _ _ _
  have hrail : (v.live.uvCheck r).rail r = { v.live.rail r with uvRaised := true } :=
    hcheck ▸ v.live.modRail_rail_same r fun k => { k with uvRaised := true }
  exact ⟨_, rfl, hdetails, hrail, live_sameBut (m := 33280) (by simp) _ (by decide)⟩

theorem railRows_fold_trips (hst : (v.live.rail r).st = .foldback)
    (hat : (v.live.rail r).fbAt + v.live.rcf r 5 31 24 * 200000 ≤ v.live.railStart r) (hover : ¬ v.live.OverN r)
    (hphase : ¬ v.live.NoPhase r) :
    Gives (v.upd fun l => l.railRows r 2) (fun t =>
      t.live.rail r = (v.live.rail r).tripped (v.live.hiccups r) 3 (v.live.railStart r) ∧
      Raised v t [v.live.detailOf (if v.live.hiccups r then 0x4004 else 0x4005) (oRail r)] ∧ SameBut [.rails, .vcr, .fc] v t) := by
  have hbefore : v.live.Quiet r (List.range 2) := Live.quiet_of_rows (by
    simp [hst, RailSt.rows, Live.railRow_over_none hover, Live.railRow_phase_none hphase])
  have hrows : v.live.railRows r 2 = v.live.railTrip r 3 := Live.railRows_of_taken hbefore (Live.railRow_fold hst hat)
    (Live.quiet_of_tripped hphase (by simp) rfl (by decide))
  exact upd_gives_of_eq hrows ⟨v.live.railTrip_rail r 3, v.live.railTrip_details r 3, live_sameBut (m := 35328) (by simp) _ (by decide)⟩

theorem railRows_ssFail_trips {a : Nat} (hreach : (v.live.rail r).reachedAt = some a) (hst : (v.live.rail r).st = .softstart)
    (hat : a + 2000000 ≤ v.live.railStart r) (hlow : v.live.aboveUv r = false) (hover : ¬ v.live.OverN r)
    (hphase : ¬ v.live.NoPhase r) :
    Gives (v.upd fun l => l.railRows r 3) (fun t =>
      t.live.rail r = (v.live.rail r).tripped (v.live.hiccups r) 6 (v.live.railStart r) ∧
      Raised v t [v.live.detailOf (if v.live.hiccups r then 0x4004 else 0x4005) (oRail r), v.live.detailOf 0x400A (oRail r)] ∧
      SameBut [.rails, .vcr, .fc] v t) := by
  have hbefore : v.live.Quiet r (List.range 3) := Live.quiet_of_rows (by
    simp [hst, RailSt.rows, Live.railRow_over_none hover, Live.railRow_phase_none hphase])
  have hrows : v.live.railRows r 3 = (v.live.railTrip r 6).raise 0x400A (oRail r) :=
    Live.railRows_of_taken hbefore (Live.railRow_ssFail hst hreach hat hlow)
      (Live.quiet_of_tripped (cause := 6) (k := (v.live.railTrip r 6).raise _ _) hphase (by simp) rfl (by decide))
  have hnow : (v.live.railTrip r 6).now = v.live.now := Live.same_now (by simp)
  have hdetails : ((v.live.railTrip r 6).raise 0x400A (oRail r)).fc.details = _ ++ [(v.live.railTrip r 6).detailOf 0x400A (oRail r)] := rfl
  rw [v.live.railTrip_details, Live.detailOf_congr hnow, List.append_assoc] at hdetails
  exact upd_gives_of_eq hrows ⟨v.live.railTrip_rail r 6, hdetails, live_sameBut (m := 35328) (by simp) _ (by decide)⟩

/-! ## The hiccup ends, and 1 s in ON (R222, R223) -/

/-- The rail when a soft start begins. -/
def Live.started (l : Live) (r : Nat) : Rail :=
  { l.rail r with st := .softstart, vt := (l.rail r).vtLast, slew := l.ssslew r, vfb := none, prebias := some (l.railVoltage r),
                  reachedAt := none, ssReached := false }

theorem Live.railStartUp_rail (l : Live) (r : Nat) : (l.railStartUp r).rail r = l.started r :=
  l.railTo_modRail_rail r .softstart _

/-- A rail that does not regulate has nothing for its ports to void. -/
theorem Live.railStartUp_keep_vcr {l : Live} (h : (l.rail r).st.regulates = false) : Live.less 512 (l.railStartUp r) = Live.less 512 l := by
  simp [Live.railStartUp, Live.railTo_of_not_regulates h]

/-- A soft start that has just begun meets no row but those for the end of one: it neither stops nor has failed. -/
theorem Live.quiet_of_started {l : Live} (hintent : (l.rail r).intent = true) (hshed : (l.rail r).shedOrd = false)
    (hov : (l.rail r).ovCnt = 0) (hphase : ¬ l.NoPhase r) {n : Nat} (hn : n ≤ 10) : (l.railStartUp r).Quiet r (List.range n) := by
  have hrail := l.railStartUp_rail r
  have hphase' : ¬ (l.railStartUp r).NoPhase r :=
    mt (Live.NoPhase.of_keep (l := l) (by simp) (by rw [hrail]; rfl) (by rw [hrail]; rfl)) hphase
  obtain ⟨hramp, hoff⟩ := Live.railRow_stop_none (l := l.railStartUp r) (r := r) (by rw [hrail]; exact hintent) (by rw [hrail]; exact hshed)
  have hover : ¬ (l.railStartUp r).OverN r := fun h => h.1 (by rw [hrail]; exact hov)
  have hfail := Live.railRow_ssFail_none (l := l.railStartUp r) (r := r) fun _ => .inl (by rw [hrail]; rfl)
  refine Live.quiet_of_rows fun m hm hlt => ?_
  rw [List.mem_range] at hlt
  simp only [hrail, Live.started, RailSt.rows, List.mem_cons, List.not_mem_nil, or_false] at hm
  rcases hm with rfl | rfl | rfl | rfl | rfl | rfl | rfl
  · exact Live.railRow_over_none hover
  · exact Live.railRow_phase_none hphase'
  · exact hfail
  · exact hramp
  · exact hoff
  all_goals omega

theorem railRows_hiccup_starts (hst : (v.live.rail r).st = .hiccup) (hintent : (v.live.rail r).intent = true)
    (hshed : (v.live.rail r).shedOrd = false) (hov : (v.live.rail r).ovCnt = 0) (hphase : ¬ v.live.NoPhase r)
    (hat : (v.live.rail r).hicAt + v.live.rcf r 5 23 16 * 2000000 ≤ v.live.railStart r) :
    Gives (v.upd fun l => l.railRows r 9) (fun t => t.live.rail r = v.live.started r ∧ SameBut [.rails] v t) := by
  have hbefore : v.live.Quiet r (List.range 9) := Live.quiet_of_rows (by
    simp [hst, RailSt.rows, Live.railRow_phase_none hphase, (Live.railRow_stop_none hintent hshed).2])
  have hrows : v.live.railRows r 9 = v.live.railStartUp r := Live.railRows_of_taken hbefore
    (Live.railRow_hiccup hst hintent hshed hat) (Live.quiet_of_started hintent hshed hov hphase (by decide))
  exact upd_gives_of_eq hrows ⟨v.live.railStartUp_rail r,
    live_sameBut (m := 512) (Live.railStartUp_keep_vcr (by rw [hst]; rfl)) _ (by decide)⟩

theorem Live.hicCheck_of_held {l : Live} {at_ : Nat} (hst : (l.rail r).st = .on) (hat : (l.rail r).onAt + secTicks ≤ at_) :
    l.hicCheck r at_ = l.modRail r fun k => { k with hiccnt := 0 } :=
  if_pos (by simp [hst, hat])

theorem hicCheck_resets (hst : (v.live.rail r).st = .on) (hat : (v.live.rail r).onAt + secTicks ≤ v.live.now) :
    Gives (v.upd fun l => l.hicCheck r l.now) (fun t => t.live.rail r = { v.live.rail r with hiccnt := 0 } ∧
      (∀ m, m ≠ r → t.live.rail m = v.live.rail m) ∧ SameBut [.rails] v t) := by
  have hcheck := Live.hicCheck_of_held hst hat
  have hrail (m : Nat) : (v.live.hicCheck r v.live.now).rail m = _ := (congrArg (·.rail m) hcheck).trans (v.live.modRail_rail r _ m)
  exact ⟨_, rfl, (hrail r).trans (if_pos rfl), fun m hm => (hrail m).trans (if_neg hm),
    live_sameBut (m := 512) (by simp) _ (by decide)⟩

theorem hicCheck_same (hst : (v.live.rail r).st ≠ .on) : (v.upd fun l => l.hicCheck r l.now) = .next v :=
  upd_congr (g := id) (if_neg (by simp [hst]))

end Rows

/-- Settles O34: each event is the row of its name, taken in the state that the course work before it leaves, where no row listed
before it is met. -/
theorem railTripsFollowTheTable : Obligations.RailTripsFollowTheTable := by
  refine ⟨fun s r hdue hstage => ?_, fun s r h => ?_, fun s r => ⟨hicCheck_resets, hicCheck_same⟩⟩
  · have hevent := upd_railEvent_of_due hdue hstage
    refine ⟨fun hramps hover => ?_, fun h => ?_, fun hst hcnt hle hnew => ?_, fun hst hat hover hphase => ?_,
      fun hst hintent hshed hov hphase hat => ?_, fun a hreach hst hat hlow hover hphase => ?_⟩
    · exact gives_of_eq (hevent _) (railRows_over_latches (v := s.railUpTo r 3) hramps hover)
    · exact (hevent _).trans (railRows_over_same (v := s.railUpTo r 3) h)
    · exact gives_of_eq (hevent _) (uvCheck_raises (v := s.railUpTo r 3) hst hcnt hle hnew)
    · obtain ⟨t, hnext, hrail, hdetails, hframe⟩ := railRows_fold_trips (v := s.railUpTo r 3) hst hat hover hphase
      refine ⟨t, (hevent _).trans hnext, hrail ▸ Rail.tripped_cause _ _ _ _, hrail ▸ Rail.tripped_vfb _ _ _ _, ?_, hframe⟩
      show if (s.railUpTo r 3).live.hiccups r = true then _ else _
      split
      next hhic =>
        rw [hhic] at hrail hdetails
        exact ⟨congrArg Rail.st hrail, congrArg Rail.hiccnt hrail, hdetails⟩
      next hhic =>
        rw [Bool.eq_false_of_not_eq_true hhic] at hrail hdetails
        exact ⟨congrArg Rail.st hrail, hdetails⟩
    · obtain ⟨t, hnext, hrail, hframe⟩ := railRows_hiccup_starts (v := s.railUpTo r 3) hst hintent hshed hov hphase hat
      exact ⟨t, (hevent _).trans hnext, congrArg Rail.st hrail, congrArg Rail.vt hrail, congrArg Rail.prebias hrail,
        (congrArg Rail.hiccnt hrail :), hframe⟩
    · obtain ⟨t, hnext, hrail, hdetails, hframe⟩ := railRows_ssFail_trips (v := s.railUpTo r 3) hreach hst hat hlow hover hphase
      exact ⟨t, (hevent _).trans hnext, hrail ▸ Rail.tripped_cause _ _ _ _, hrail ▸ Rail.tripped_st _ _ _ _, hdetails, hframe⟩
  · have hsame := upd_railEvent_of_not h
    exact ⟨hsame _, hsame _, hsame _, hsame _, hsame _⟩

end Sys2Proof.Machine
end

section
/-! PROOFS. The members of a rail: an open phase, a failed sense, and the member that fires last (R219, R229, R231, R232, R237). -/
open Sys2Proof Sys2Proof.Machine
namespace Sys2Proof.Machine

/-! ## Members -/

theorem Live.modMem_mem (l : Live) (r m : Nat) (f : Member → Member) (n : Nat) :
    (l.modMem r m f).mem r n = if n = m then f (l.mem r m) else l.mem r n := by
  unfold Live.mem Live.modMem
  rw [Live.modRail_rail_same]
  exact tget_tmod ({} : Member) _ _ _ _

/-- A change of other fields of a rail leaves its members. -/
theorem Live.modRail_mem {l : Live} {r : Nat} {f : Rail → Rail} (h : (f (l.rail r)).members = (l.rail r).members) (n : Nat) :
    (l.modRail r f).mem r n = l.mem r n := by
  simp only [Live.mem, Live.modRail_rail_same, h]

theorem Live.railRate_mem (l : Live) (r n : Nat) : (l.railRate r).mem r n = l.mem r n := Live.modRail_mem rfl n

/-! ## Open phases (R229, R231) and failed senses (R232) -/

section Member
variable {l : Live} {r m : Nat}

theorem Live.phaseOpen_of_closed (h : (l.mem r m).openCnt < 16) : l.phaseOpen r m = l :=
  if_neg (by simp [h])

theorem Live.phaseOpen_mem (hact : l.mAct r m = true) (hopen : 16 ≤ (l.mem r m).openCnt) (n : Nat) :
    (l.phaseOpen r m).mem r n = if n = m then { removed := true } else l.mem r n := by
  unfold Live.phaseOpen
  rw [if_pos (by simp [hact, hopen])]
  extract_lets l1 count l2
  have hcap : ((l2.modRail r fun k => { k with capOpen := k.rrail :: k.capOpen }).raise 0x4006 (oRail r) m).mem r n = l2.mem r n :=
    Live.modRail_mem (f := fun k => { k with capOpen := k.rrail :: k.capOpen }) rfl n
  have hrate : l2.mem r n = l1.mem r n :=
    (Live.railRate_mem _ r n).trans (Live.modRail_mem (f := fun k => { k with rho := if count = 0 then k.rho else k.rho % count }) rfl n)
  rw [hcap, hrate, Live.modMem_mem]

theorem Live.phaseOpen_details (hact : l.mAct r m = true) (hopen : 16 ≤ (l.mem r m).openCnt) :
    (l.phaseOpen r m).fc.details = l.fc.details ++ [l.detailOf 0x4006 (oRail r) m] := by
  unfold Live.phaseOpen
  rw [if_pos (by simp [hact, hopen])]
  exact Live.raise_details_of_keep (by simp) _ _ _

theorem Live.each_of_same {f : Live → Nat → Live} {n : Nat} (h : ∀ k, k < n → f l k = l) : l.each n f = l := by
  induction n with
  | zero => rfl
  | succ n ih => rw [Live.each_succ, ih fun k hk => h k (Nat.lt_succ_of_lt hk), h n (Nat.lt_succ_self n)]

/-- Where no phase is open, a sense is judged on the rail as it is. -/
theorem Live.senseFail_of_closed (hclosed : ∀ n, n < 8 → (l.mem r n).openCnt < 16) :
    (l.each 8 fun l m => l.phaseOpen r m).senseFail r m = l.senseFail r m := by
  rw [Live.each_of_same fun n hn => Live.phaseOpen_of_closed (hclosed n hn)]

theorem Live.senseFail_of_bad (h : l.senseBad r m = true) :
    l.senseFail r m = (l.modMem r m fun k => { k with senseF := true }).raise 0x4007 (oRail r) m := if_pos h

theorem Live.senseFail_of_good (h : l.senseBad r m = false) : l.senseFail r m = l := if_neg (ne_true_of_eq_false h)

end Member

section Events
variable {v : State} {r m : Nat}

theorem phaseOpen_removes (hact : v.live.mAct r m = true) (hopen : 16 ≤ (v.live.mem r m).openCnt) :
    Gives (v.upd fun l => l.phaseOpen r m) (fun t => t.live.mem r m = { removed := true } ∧
      (∀ n, n ≠ m → t.live.mem r n = v.live.mem r n) ∧ Raised v t [v.live.detailOf 0x4006 (oRail r) m] ∧
      SameBut [.rails, .fc] v t) := by
  have hmem := Live.phaseOpen_mem hact hopen
  exact ⟨_, rfl, (hmem m).trans (if_pos rfl), fun n hn => (hmem n).trans (if_neg hn), Live.phaseOpen_details hact hopen,
    live_sameBut (m := 33280) (by simp) _ (by decide)⟩

theorem senseFail_marks (hclosed : ∀ n, n < 8 → (v.live.mem r n).openCnt < 16) (hbad : v.live.senseBad r m = true) :
    Gives (v.upd fun l => (l.each 8 fun l m => l.phaseOpen r m).senseFail r m) (fun t =>
      t.live.mem r m = { v.live.mem r m with senseF := true } ∧ (∀ n, n ≠ m → t.live.mem r n = v.live.mem r n) ∧
      Raised v t [v.live.detailOf 0x4007 (oRail r) m] ∧ SameBut [.rails, .fc] v t) := by
  have hfail := (Live.senseFail_of_closed hclosed).trans (Live.senseFail_of_bad hbad)
  have hmem := v.live.modMem_mem r m fun k => { k with senseF := true }
  have hdetails := Live.raise_details_of_keep (l := v.live) (k := v.live.modMem r m fun k => { k with senseF := true }) (by simp)
    0x4007 (oRail r) m
  exact gives_of_eq (upd_congr (g := fun _ => (v.live.modMem r m fun k => { k with senseF := true }).raise 0x4007 (oRail r) m) hfail)
    ⟨_, rfl, (hmem m).trans (if_pos rfl), fun n hn => (hmem n).trans (if_neg hn), hdetails,
      live_sameBut (m := 33280) (by simp) _ (by decide)⟩

theorem senseFail_same (hclosed : ∀ n, n < 8 → (v.live.mem r n).openCnt < 16) (hgood : v.live.senseBad r m = false) :
    (v.upd fun l => (l.each 8 fun l m => l.phaseOpen r m).senseFail r m) = .next v :=
  upd_congr (g := id) ((Live.senseFail_of_closed hclosed).trans (Live.senseFail_of_good hgood))

end Events

/-! ## The course work in steps (R237) -/

/-- One part of the course work, with its place noted. -/
def Live.railStep (l : Live) (r n : Nat) : Live :=
  (l.modRail r fun q => { q with workAt := some (l.railStart r), stage := n }).railPart r n

theorem Live.railUpTo_eq (l : Live) (r n : Nat) :
    l.railUpTo r n = l.forL ((List.range (n + 1)).filter fun k => l.railStage r < k) fun l k => l.railStep r k := rfl

/-- What has been done of the course work is not done again. -/
theorem Live.railUpTo_of_le {l : Live} {r n : Nat} (h : n ≤ l.railStage r) : l.railUpTo r n = l := by
  have hnone : (List.range (n + 1)).filter (fun k => l.railStage r < k) = [] := by
    simp only [List.filter_eq_nil_iff, List.mem_range, decide_eq_true_eq]
    omega
  rw [Live.railUpTo_eq, hnone]
  rfl

theorem Live.railUpTo_succ {l : Live} {r n : Nat} (h : l.railStage r ≤ n) :
    l.railUpTo r (n + 1) = (l.railUpTo r n).railStep r (n + 1) := by
  have hlast : (List.range (n + 2)).filter (fun k => l.railStage r < k) =
      (List.range (n + 1)).filter (fun k => l.railStage r < k) ++ [n + 1] := by
    rw [List.range_succ, List.filter_append]
    simp [Nat.lt_succ_of_le h]
  rw [Live.railUpTo_eq, hlast, Live.forL, List.foldl_append]
  rfl

/-! ## The member that fires last is shed (R219) -/

theorem Live.modRail_congr {l : Live} {r : Nat} {f g : Rail → Rail} (h : f (l.rail r) = g (l.rail r)) : l.modRail r f = l.modRail r g :=
  congrArg (fun k => { l with rails := tput {} l.rails r k }) h

/-- The dwell runs in a course that adds no member. -/
theorem Live.shedWork_eq (l : Live) (r : Nat) :
    ∃ xs d, (d ≠ none → xs = []) ∧ l.shedWork r = l.modRail r fun k => { k with addPend := xs, dwellAt := d } := by
  have hrests (ys : List Nat) : ∃ xs d, (d ≠ none → xs = []) ∧ (l.modRail r fun k => { k with addPend := ys, dwellAt := none }) =
      l.modRail r fun k => { k with addPend := xs, dwellAt := d } := ⟨ys, none, fun h => absurd rfl h, rfl⟩
  unfold Live.shedWork
  extract_lets n sl t k
  split
  · exact hrests sl
  split
  · exact hrests _
  split
  · exact hrests _
  split
  · exact hrests _
  split
  · refine ⟨[], some ((l.rail r).dwellAt.getD t), fun _ => rfl, Live.modRail_congr ?_⟩
    cases (l.rail r).dwellAt <;> rfl
  · exact hrests []

theorem Live.shedWork_addPend {l : Live} {r a : Nat} (h : ((l.shedWork r).rail r).dwellAt = some a) :
    ((l.shedWork r).rail r).addPend = [] := by
  obtain ⟨xs, d, hrests, hwork⟩ := l.shedWork_eq r
  rw [hwork, Live.modRail_rail_same] at h ⊢
  have hdwell : d = some a := h
  exact hrests (hdwell ▸ Option.some_ne_none a)

theorem Live.shedOne_addPend (l : Live) (r : Nat) : ((l.shedOne r).rail r).addPend = (l.rail r).addPend := by
  unfold Live.shedOne
  dsimp only
  split
  · split
    · split
      · simp [Live.modMem]
      · rfl
    · rfl
  · rfl

theorem Live.railCommitted_of_none {l : Live} {r : Nat} (h : (l.rail r).addPend = []) : l.railCommitted r = l := by
  unfold Live.railCommitted
  simp [h]

/-- What becomes of member `x` and of the rail, when it is shed. -/
theorem Live.shedOne_of_dwelt {l : Live} {r a x : Nat} (hdwell : (l.rail r).dwellAt = some a) (hacts : l.shedActs r = true)
    (hmin : l.nmin r < (l.acts r).length) (hat : a + l.rcf r 5 11 0 * 20000 ≤ l.railStart r)
    (hlast : (l.acts r)[((l.rail r).rho + (l.acts r).length - 1) % (l.acts r).length]? = some x) :
    l.shedOne r = (l.modMem r x fun k => { k with shed := true, shedAt := l.railStart r, activeFor := 0 }).modRail r
      fun k => { k with dwellAt := none, rho := k.rho % ((l.acts r).length - 1) } := by
  unfold Live.shedOne
  simp [hdwell, hacts, hmin, hat, hlast]

theorem shedOne_sheds {v : State} {l : Live} {r a x : Nat} (hv : v.live = l.shedWork r) (hdwell : (v.live.rail r).dwellAt = some a)
    (hacts : v.live.shedActs r = true) (hmin : v.live.nmin r < (v.live.acts r).length)
    (hat : a + v.live.rcf r 5 11 0 * 20000 ≤ v.live.railStart r)
    (hlast : (v.live.acts r)[((v.live.rail r).rho + (v.live.acts r).length - 1) % (v.live.acts r).length]? = some x) :
    Gives (v.upd fun l => (l.shedOne r).railCommitted r) (fun t => (t.live.mem r x).shed = true ∧
      (t.live.mem r x).shedAt = v.live.railStart r ∧ (∀ n, n ≠ x → t.live.mem r n = v.live.mem r n) ∧
      (t.live.rail r).dwellAt = none ∧ SameBut [.rails] v t) := by
  have hnone : (v.live.rail r).addPend = [] := by
    rw [hv] at hdwell ⊢
    exact Live.shedWork_addPend hdwell
  have hcommit : (v.live.shedOne r).railCommitted r = v.live.shedOne r :=
    Live.railCommitted_of_none ((v.live.shedOne_addPend r).trans hnone)
  have hshed := hcommit.trans (Live.shedOne_of_dwelt hdwell hacts hmin hat hlast)
  have hmem (n : Nat) : ((v.live.shedOne r).railCommitted r).mem r n = _ :=
    (congrArg (·.mem r n) hshed).trans ((Live.modRail_mem rfl n).trans (v.live.modMem_mem r x _ n))
  refine ⟨_, rfl, ?_, ?_, fun n hn => (hmem n).trans (if_neg hn), ?_, live_sameBut (m := 512) (by simp) _ (by decide)⟩
  · exact congrArg Member.shed ((hmem x).trans (if_pos rfl))
  · exact congrArg Member.shedAt ((hmem x).trans (if_pos rfl))
  · exact (congrArg (fun l => (l.rail r).dwellAt) hshed).trans (congrArg Rail.dwellAt (Live.modRail_rail_same _ r _))

/-! ## PHASE_SHED -/

theorem exec_phaseShed_of_due {s : State} {r : Fin 48} (hdue : s.live.railDue r = true) (hstage : s.live.railStage r ≤ 4) :
    exec (.phaseShed r) s = (State.upd { s with live := ((s.live.railUpTo r 4).modRail r fun q =>
      { q with workAt := some ((s.live.railUpTo r 4).railStart r), stage := 5 }).shedWork r } fun l => (l.shedOne r).railCommitted r) := by
  refine upd_congr (f := fun l => if l.railDue r then l.railUpTo r 5 else l) (g := fun l => ((((l.railUpTo r 4).modRail r fun q =>
      { q with workAt := some ((l.railUpTo r 4).railStart r), stage := 5 }).shedWork r).shedOne r).railCommitted r) ?_
  rw [if_pos hdue, Live.railUpTo_succ hstage]
  rfl

theorem exec_phaseShed_of_not {s : State} {r : Fin 48} (h : s.live.railDue r = false ∨ 5 ≤ s.live.railStage r) :
    exec (.phaseShed r) s = .next s := by
  refine upd_congr (f := fun l => if l.railDue r then l.railUpTo r 5 else l) (g := id) ?_
  rcases h with h | h
  · exact if_neg (by simp [h])
  · rw [Live.railUpTo_of_le h, ite_self]
    rfl

/-- Settles O35: the events of a member come behind the classification, `Live.phaseOpen` and `Live.senseFail`; shedding comes behind
the rows of Table 6.3, and in its course no member is added, so that the one that is shed stays so. -/
theorem railMembersAreRemovedAndShed : Obligations.RailMembersAreRemovedAndShed := by
  refine ⟨fun s r m hdue hstage => ?_, fun s r hdue hstage a x hdwell hacts hmin hat hlast => ?_, fun s r m => ⟨fun h => ?_, exec_phaseShed_of_not⟩⟩
  · have hevent := upd_railEvent_of_due hdue hstage
    refine ⟨fun hact hopen => ?_, fun hclosed => ?_, fun hclosed => ⟨fun hbad => ?_, fun hgood => ?_⟩⟩
    · exact gives_of_eq (hevent _) (phaseOpen_removes (v := s.railUpTo r 1) hact hopen)
    · exact (hevent _).trans (upd_congr (s := s.railUpTo r 1) (g := id) (Live.phaseOpen_of_closed hclosed))
    · exact gives_of_eq (hevent _) (senseFail_marks (v := s.railUpTo r 1) hclosed hbad)
    · exact (hevent _).trans (senseFail_same (v := s.railUpTo r 1) hclosed hgood)
  · exact gives_of_eq (exec_phaseShed_of_due hdue hstage) (shedOne_sheds rfl hdwell hacts hmin hat hlast)
  · have hsame := upd_railEvent_of_not h
    exact ⟨hsame _, hsame _⟩

end Sys2Proof.Machine
end

section
/-! PROOFS. What each part of a rail's course work leaves of the rails: the other rails, and what the rows of Table 6.3 alone change
of its own (R237). -/
open Sys2Proof Sys2Proof.Machine
namespace Sys2Proof.Machine

/-! ## What a change of one rail leaves of the rails -/

/-- The rails, where only what `g` shows of rail `r` counts. -/
def Live.railsAs (l : Live) (r : Nat) (g : Rail → Rail) (m : Nat) : Rail := if m = r then g (l.rail r) else l.rail m

/-- What the rows of Table 6.3 alone change of a rail in its course work: its state, the cause of it and the target. -/
def Rail.ruled (k : Rail) : Rail := { st := k.st, cause := k.cause, vt := k.vt }

/-- The other rails. -/
def Live.otherRails (l : Live) (r : Nat) : Nat → Rail := l.railsAs r fun _ => {}

/-- The rails without what the rows of Table 6.3 do not rule of rail `r`. -/
def Live.ruledRails (l : Live) (r : Nat) : Nat → Rail := l.railsAs r Rail.ruled

section View
variable {l k : Live} {r : Nat}

theorem Live.railsAs_of_rails (h : k.rails = l.rails) (g : Rail → Rail) : k.railsAs r g = l.railsAs r g := by
  funext m
  simp only [Live.railsAs, Live.rail_congr h]

theorem Live.modRail_railsAs (l : Live) (r : Nat) {f g : Rail → Rail} (h : ∀ k, g (f k) = g k) :
    (l.modRail r f).railsAs r g = l.railsAs r g := by
  funext m
  unfold Live.railsAs
  split
  · rw [Live.modRail_rail_same, h]
  next hm => exact Live.modRail_rail_other l r f m hm

theorem Live.otherRails_rail (h : k.otherRails r = l.otherRails r) {m : Nat} (hm : m ≠ r) : k.rail m = l.rail m := by
  simpa [Live.otherRails, Live.railsAs, hm] using congrFun h m

theorem Live.ruledRails_rail (h : k.ruledRails r = l.ruledRails r) : (k.rail r).ruled = (l.rail r).ruled := by
  simpa [Live.ruledRails, Live.railsAs] using congrFun h r

theorem Rail.ruled_eq_iff {a b : Rail} : a.ruled = b.ruled ↔ a.st = b.st ∧ a.cause = b.cause ∧ a.vt = b.vt := by
  simp only [Rail.ruled, Rail.mk.injEq]
  tauto

theorem Live.ruledRails_st (h : k.ruledRails r = l.ruledRails r) : (k.rail r).st = (l.rail r).st :=
  (Rail.ruled_eq_iff.mp (Live.ruledRails_rail h)).1

theorem Live.otherRails_of_ruledRails (h : k.ruledRails r = l.ruledRails r) : k.otherRails r = l.otherRails r := by
  funext m
  have hm := congrFun h m
  unfold Live.otherRails Live.ruledRails Live.railsAs at *
  split
  · rfl
  next hne => simpa [hne] using hm

theorem Live.modRail_otherRails (l : Live) (r : Nat) (f : Rail → Rail) : (l.modRail r f).otherRails r = l.otherRails r :=
  l.modRail_railsAs r (f := f) fun _ => rfl

theorem Live.modRail_ruledRails (l : Live) (r : Nat) (f : Rail → Rail) (h : ∀ k, (f k).ruled = k.ruled := by intro _; rfl) :
    (l.modRail r f).ruledRails r = l.ruledRails r :=
  l.modRail_railsAs r h

theorem Live.modMem_ruledRails (l : Live) (r m : Nat) (f : Member → Member) : (l.modMem r m f).ruledRails r = l.ruledRails r :=
  l.modRail_ruledRails r _

theorem Live.railTo_otherRails (l : Live) (r : Nat) (st : RailSt) : (l.railTo r st).otherRails r = l.otherRails r := by
  rw [← l.modRail_otherRails r fun k => { k with st := st }]
  funext m
  simp only [Live.otherRails, Live.railsAs, Live.railTo_rail]

theorem Live.railTo_modRail_otherRails (l : Live) (r : Nat) (st : RailSt) (f : Rail → Rail) :
    ((l.railTo r st).modRail r f).otherRails r = l.otherRails r :=
  (Live.modRail_otherRails _ r f).trans (l.railTo_otherRails r st)

theorem Live.raise_otherRails (l : Live) (r code obj : Nat) : (l.raise code obj).otherRails r = l.otherRails r := rfl

end View

/-! ## The parts beside the rows of Table 6.3 -/

theorem Live.countMember_ruledRails (l : Live) (r m : Nat) : (l.countMember r m).ruledRails r = l.ruledRails r := by
  unfold Live.countMember
  dsimp only
  split
  · exact l.modMem_ruledRails r m _
  split
  · exact l.modMem_ruledRails r m _
  · exact l.modMem_ruledRails r m _

theorem Live.railRate_ruledRails (l : Live) (r : Nat) : (l.railRate r).ruledRails r = l.ruledRails r :=
  l.modRail_ruledRails r _

theorem Live.phaseOpen_ruledRails (l : Live) (r m : Nat) : (l.phaseOpen r m).ruledRails r = l.ruledRails r := by
  unfold Live.phaseOpen
  split
  · extract_lets l1 n l2
    have hcap : (l2.modRail r fun k => { k with capOpen := k.rrail :: k.capOpen }).ruledRails r = l2.ruledRails r :=
      l2.modRail_ruledRails r _
    have hrho : (l1.modRail r fun k => { k with rho := if n = 0 then k.rho else k.rho % n }).ruledRails r = l1.ruledRails r :=
      l1.modRail_ruledRails r _
    exact hcap.trans ((Live.railRate_ruledRails _ r).trans (hrho.trans (l.modMem_ruledRails r m _)))
  · rfl

theorem Live.senseFail_ruledRails (l : Live) (r m : Nat) : (l.senseFail r m).ruledRails r = l.ruledRails r := by
  unfold Live.senseFail
  split
  · exact l.modMem_ruledRails r m fun k => { k with senseF := true }
  · rfl

theorem Live.lostCheck_ruledRails (l : Live) (r : Nat) : (l.lostCheck r).ruledRails r = l.ruledRails r := by
  unfold Live.lostCheck
  extract_lets lost was l1
  have hnote : l1.ruledRails r = l.ruledRails r := l.modRail_ruledRails r _
  split
  · exact hnote
  · exact hnote

theorem Live.foldUpdate_ruledRails (l : Live) (r : Nat) : (l.foldUpdate r).ruledRails r = l.ruledRails r :=
  l.modRail_ruledRails r _

theorem Live.railJudge_ruledRails (l : Live) (r : Nat) : (l.railJudge r).ruledRails r = l.ruledRails r := by
  unfold Live.railJudge
  extract_lets l1 l2 ov uv l3
  have hmeasured : l1.ruledRails r = l.ruledRails r := l.modRail_ruledRails r _
  have hrated : l2.ruledRails r = l1.ruledRails r := (Live.lostCheck_ruledRails _ r).trans (l1.railRate_ruledRails r)
  have hcounted : l3.ruledRails r = l2.ruledRails r := l2.modRail_ruledRails r _
  have hall := hcounted.trans (hrated.trans hmeasured)
  split
  · exact (l3.foldUpdate_ruledRails r).trans hall
  · exact hall

theorem Live.uvCheck_ruledRails (l : Live) (r : Nat) : (l.uvCheck r).ruledRails r = l.ruledRails r := by
  unfold Live.uvCheck
  dsimp only
  split
  · exact l.modRail_ruledRails r fun k => { k with uvRaised := true }
  · rfl

theorem Live.hicCheck_ruledRails (l : Live) (r at_ : Nat) : (l.hicCheck r at_).ruledRails r = l.ruledRails r := by
  unfold Live.hicCheck
  split
  · exact l.modRail_ruledRails r _
  · rfl

theorem Live.shedWork_ruledRails (l : Live) (r : Nat) : (l.shedWork r).ruledRails r = l.ruledRails r := by
  obtain ⟨xs, d, -, hwork⟩ := l.shedWork_eq r
  rw [hwork]
  exact l.modRail_ruledRails r _

theorem Live.shedOne_ruledRails (l : Live) (r : Nat) : (l.shedOne r).ruledRails r = l.ruledRails r := by
  unfold Live.shedOne
  dsimp only
  split
  · split
    · split
      · exact (Live.modRail_ruledRails _ r _).trans (l.modMem_ruledRails r _ _)
      · rfl
    · rfl
  · rfl

theorem Live.railCommitted_ruledRails (l : Live) (r : Nat) : (l.railCommitted r).ruledRails r = l.ruledRails r := by
  unfold Live.railCommitted
  extract_lets k xs
  split
  · rfl
  · exact (Live.modRail_ruledRails _ r _).trans
      (Live.forL_keeps (·.ruledRails r) l _ _ fun l m => l.modMem_ruledRails r m _)

theorem Live.lostCheck_rail (l : Live) (r : Nat) : (l.lostCheck r).rail r = { l.rail r with lostRaised := l.senseLost r } := by
  unfold Live.lostCheck
  dsimp only
  split
  · exact l.modRail_rail_same r fun k => { k with lostRaised := l.senseLost r }
  · exact l.modRail_rail_same r fun k => { k with lostRaised := l.senseLost r }

/-- Settling and the cap level are the port's. -/
theorem Live.portWork_rails (l : Live) (r : Nat) : ((l.settleWork r).capWork r).rails = l.rails := Live.same_rails (by simp)

theorem Live.railFinish_ruledRails (l : Live) (r : Nat) : (l.railFinish r).ruledRails r = l.ruledRails r :=
  (Live.modRail_ruledRails _ r _).trans ((Live.railsAs_of_rails (Live.portWork_rails _ r) _).trans (l.lostCheck_ruledRails r))

/-- The end of the course work notes two things with the rail. -/
theorem Live.railFinish_rail (l : Live) (r : Nat) :
    ∃ lost seen, (l.railFinish r).rail r = { l.rail r with lostRaised := lost, seen := seen } := by
  refine ⟨l.senseLost r, ((l.railFinish r).rail r).seen, ?_⟩
  unfold Live.railFinish
  rw [Live.modRail_rail_same, Live.rail_congr (Live.portWork_rails _ r), Live.lostCheck_rail]

/-! ## The rows of Table 6.3 -/

theorem Live.railTrip_otherRails (l : Live) (r cause : Nat) : (l.railTrip r cause).otherRails r = l.otherRails r := by
  cases h : l.hiccups r
  · rw [Live.railTrip_of_not_hiccups h, Live.raise_otherRails, Live.railTo_modRail_otherRails]
  · rw [Live.railTrip_of_hiccups h, Live.raise_otherRails, Live.railTo_modRail_otherRails]

theorem Live.railLatch_otherRails (l : Live) (r cause code : Nat) : (l.railLatch r cause code).otherRails r = l.otherRails r := by
  rw [Live.railLatch, Live.raise_otherRails, Live.railTo_modRail_otherRails]

theorem Live.foldEnter_otherRails (l : Live) (r : Nat) : (l.foldEnter r).otherRails r = l.otherRails r := by
  rw [Live.foldEnter, Live.raise_otherRails, Live.otherRails_of_ruledRails (Live.foldUpdate_ruledRails _ r),
    Live.railTo_modRail_otherRails]

theorem Live.railRow_otherRails (l : Live) (r n : Nat) : ((l.railRow r n).getD l).otherRails r = l.otherRails r := by
  have hrow (c : Bool) {k : Live} (h : k.otherRails r = l.otherRails r) :
      ((if c then some k else none).getD l).otherRails r = l.otherRails r := by
    cases c
    · rfl
    · exact h
  unfold Live.railRow
  dsimp only
  split
  case h_1 => exact hrow _ (l.railLatch_otherRails r 4 _)
  case h_2 => exact hrow _ (l.railLatch_otherRails r 5 _)
  case h_3 => exact hrow _ (l.railTrip_otherRails r 3)
  case h_4 => exact hrow _ ((Live.raise_otherRails _ r _ _).trans (l.railTrip_otherRails r 6))
  case h_12 => exact hrow _ (l.foldEnter_otherRails r)
  case h_14 => rfl
  all_goals exact hrow _ (l.railTo_modRail_otherRails r _ _)

theorem Live.railTake_otherRails (r f : Nat) (ns : List Nat) (l : Live) : (Live.railTake r f ns l).otherRails r = l.otherRails r := by
  induction f generalizing ns l with
  | zero => rfl
  | succ f ih =>
    unfold Live.railTake
    split
    · exact (ih _ _).trans (l.railRow_otherRails r _)
    · rfl

theorem Live.railJudged_otherRails (l : Live) (r : Nat) : (l.railJudged r).otherRails r = l.otherRails r := by
  unfold Live.railJudged
  extract_lets l1 k step
  have hrows : l1.otherRails r = l.otherRails r := (Live.railTake_otherRails r _ _ _).trans
    (Live.otherRails_of_ruledRails ((Live.hicCheck_ruledRails _ r _).trans (l.uvCheck_ruledRails r)))
  exact (Live.modRail_otherRails l1 r _).trans hrows

/-! ## One part of the course work, and all of it (R237) -/

theorem Live.railPart_ruledRails {n : Nat} (hn : n ≠ 4) (l : Live) (r : Nat) : (l.railPart r n).ruledRails r = l.ruledRails r := by
  unfold Live.railPart
  split
  · exact Live.each_keeps (·.ruledRails r) l 8 _ fun l m => l.countMember_ruledRails r m
  · exact (Live.each_keeps (·.ruledRails r) _ 8 _ fun l m => l.senseFail_ruledRails r m).trans
      (Live.each_keeps (·.ruledRails r) l 8 _ fun l m => l.phaseOpen_ruledRails r m)
  · exact l.railJudge_ruledRails r
  · contradiction
  · exact (Live.railCommitted_ruledRails _ r).trans ((Live.shedOne_ruledRails _ r).trans (l.shedWork_ruledRails r))
  · exact l.railFinish_ruledRails r
  · rfl

theorem Live.railPart_otherRails (l : Live) (r n : Nat) : (l.railPart r n).otherRails r = l.otherRails r := by
  by_cases hn : n = 4
  · subst hn
    exact l.railJudged_otherRails r
  · exact Live.otherRails_of_ruledRails (Live.railPart_ruledRails hn l r)

theorem Live.railStep_otherRails (l : Live) (r n : Nat) : (l.railStep r n).otherRails r = l.otherRails r :=
  (Live.railPart_otherRails _ r n).trans (l.modRail_otherRails r _)

theorem Live.railUpTo_otherRails (l : Live) (r n : Nat) : (l.railUpTo r n).otherRails r = l.otherRails r :=
  Live.forL_keeps (·.otherRails r) l _ _ fun l k => l.railStep_otherRails r k

theorem Live.railStep_ruledRails {n : Nat} (hn : n ≠ 4) (l : Live) (r : Nat) : (l.railStep r n).ruledRails r = l.ruledRails r :=
  (Live.railPart_ruledRails hn _ r).trans (l.modRail_ruledRails r _)

/-! ## IDLE and LATCHED stay (Table 6.3) -/

/-- What the rows of Table 6.3 meet: the course work has come to its fourth part, and has made the checks that change no state. -/
def Live.rowsMeet (l : Live) (r : Nat) : Live :=
  ((l.modRail r fun q => { q with workAt := some (l.railStart r), stage := 4 }).uvCheck r).hicCheck r (l.railStart r)

theorem Live.rowsMeet_ruledRails (l : Live) (r : Nat) : (l.rowsMeet r).ruledRails r = l.ruledRails r :=
  (Live.hicCheck_ruledRails _ r _).trans ((Live.uvCheck_ruledRails _ r).trans (l.modRail_ruledRails r _))

/-- Behind its rows the fourth part notes the phases and the load step alone. -/
theorem Live.railStep_rows (l : Live) (r : Nat) : (l.railStep r 4).ruledRails r = ((l.rowsMeet r).railRows r 12).ruledRails r :=
  ((l.rowsMeet r).railRows r 12).modRail_ruledRails r _

/-- A rail in a state that no row leaves keeps it, and its cause and target. -/
theorem Live.railStep_ruledRails_of_rests {l : Live} {r : Nat} (h : (l.rail r).st.rows = []) (n : Nat) :
    (l.railStep r n).ruledRails r = l.ruledRails r := by
  by_cases hn : n = 4
  · have hst : ((l.rowsMeet r).rail r).st = (l.rail r).st := Live.ruledRails_st (l.rowsMeet_ruledRails r)
    have hquiet : (l.rowsMeet r).Quiet r (List.range 13) := Live.quiet_of_rows fun m hm => by simp [hst, h] at hm
    rw [hn, Live.railStep_rows, Live.railRows_of_quiet hquiet, Live.rowsMeet_ruledRails]
  · exact Live.railStep_ruledRails hn l r

theorem Live.railUpTo_ruledRails_of_rests {l : Live} {r : Nat} (h : (l.rail r).st.rows = []) (n : Nat) :
    (l.railUpTo r n).ruledRails r = l.ruledRails r := by
  induction n with
  | zero => rw [Live.railUpTo_of_le (Nat.zero_le _)]
  | succ n ih =>
    rcases Nat.lt_or_ge n (l.railStage r) with hn | hn
    · rw [Live.railUpTo_of_le hn]
    · have hst : ((l.railUpTo r n).rail r).st = (l.rail r).st := Live.ruledRails_st ih
      rw [Live.railUpTo_succ hn, Live.railStep_ruledRails_of_rests (hst ▸ h), ih]

end Sys2Proof.Machine
end

section
/-! PROOFS. The course work of a rail is done once, and a rail whose intent is withdrawn stops in it (R217, R237, Table 6.3). -/
open Sys2Proof Sys2Proof.Machine
namespace Sys2Proof.Machine

/-! ## What the rows of Table 6.3 meet -/

theorem Live.uvCheck_rail (l : Live) (r : Nat) : ∃ raised, (l.uvCheck r).rail r = { l.rail r with uvRaised := raised } := by
  unfold Live.uvCheck
  dsimp only
  split
  · exact ⟨true, l.modRail_rail_same r fun k => { k with uvRaised := true }⟩
  · exact ⟨_, rfl⟩

theorem Live.hicCheck_rail (l : Live) (r at_ : Nat) : ∃ n, (l.hicCheck r at_).rail r = { l.rail r with hiccnt := n } := by
  unfold Live.hicCheck
  split
  · exact ⟨0, l.modRail_rail_same r fun k => { k with hiccnt := 0 }⟩
  · exact ⟨_, rfl⟩

theorem Live.rowsMeet_rail (l : Live) (r : Nat) : ∃ raised n, (l.rowsMeet r).rail r =
    { l.rail r with workAt := some (l.railStart r), stage := 4, uvRaised := raised, hiccnt := n } := by
  obtain ⟨raised, huv⟩ := (l.modRail r fun q => { q with workAt := some (l.railStart r), stage := 4 }).uvCheck_rail r
  obtain ⟨n, hhic⟩ := Live.hicCheck_rail ((l.modRail r fun q => { q with workAt := some (l.railStart r), stage := 4 }).uvCheck r) r
    (l.railStart r)
  rw [huv, Live.modRail_rail_same] at hhic
  exact ⟨raised, n, hhic⟩

/-! ## A rail whose intent is withdrawn (Table 6.3) -/

/-- The rail when its ramp to 0 begins. -/
def Live.rampDown (l : Live) (r : Nat) : Live :=
  (l.railTo r .stopping).modRail r fun k => { k with vt := 0, slew := l.ssslew r, vfb := none, stopNow := 0, cause := k.stopCause }

theorem Live.rampDown_rail (l : Live) (r : Nat) : (l.rampDown r).rail r =
    { l.rail r with st := .stopping, vt := 0, slew := l.ssslew r, vfb := none, stopNow := 0, cause := (l.rail r).stopCause } :=
  l.railTo_modRail_rail r .stopping fun k => { k with vt := 0, slew := l.ssslew r, vfb := none, stopNow := 0, cause := k.stopCause }

/-- The intent of the rail is withdrawn, and neither over-voltage nor the want of a phase ends it first. -/
structure Live.Withdrawn (l : Live) (r : Nat) : Prop where
  intent : (l.rail r).intent = false
  ovCnt : (l.rail r).ovCnt = 0
  phase : ¬ l.NoPhase r

/-- A change that leaves the intent, the over-voltage count and the phases leaves the rail withdrawn. -/
theorem Live.Withdrawn.of_keep {l k : Live} {r : Nat} (h : l.Withdrawn r) (hless : Live.less 35328 k = Live.less 35328 l)
    (hintent : (k.rail r).intent = (l.rail r).intent) (hov : (k.rail r).ovCnt = (l.rail r).ovCnt)
    (hmem : (k.rail r).members = (l.rail r).members) (hprev : (k.rail r).rotPrev = (l.rail r).rotPrev) : k.Withdrawn r where
  intent := hintent.trans h.intent
  ovCnt := hov.trans h.ovCnt
  phase := mt (Live.NoPhase.of_keep hless hmem hprev) h.phase

section Withdrawn
variable {l : Live} {r : Nat} (h : l.Withdrawn r)
include h

theorem Live.Withdrawn.stopCause : (l.rail r).stopCause = 1 := if_pos (by simp [h.intent])

theorem Live.Withdrawn.over_none : l.railRow r 0 = none := Live.railRow_over_none fun hover => hover.1 h.ovCnt

theorem Live.Withdrawn.phase_none : l.railRow r 1 = none := Live.railRow_phase_none h.phase

/-- OFF is the end of it: no row takes a withdrawn rail out of it. -/
theorem Live.Withdrawn.quiet_of_off (hst : (l.rail r).st = .off) (ns : List Nat) : l.Quiet r ns :=
  Live.quiet_of_rows (by simp [hst, RailSt.rows, h.phase_none, Live.railRow_start_none h.intent])

theorem Live.Withdrawn.railRow_softStop (hreg : (l.rail r).st.regulates = true) (hsoft : l.cb (oRail r) 0 4 = true) :
    l.railRow r 4 = some (l.rampDown r) := by
  have hidle : (l.rail r).st ≠ .idle := fun hst => by simp [hst, RailSt.regulates] at hreg
  simp [Live.railRow, Live.rampDown, h.intent, hreg, hsoft, hidle]

theorem Live.Withdrawn.railRow_hardStop (hreg : (l.rail r).st.regulates = true) : l.railRow r 5 = some (l.railOff r (some 1)) := by
  have hidle : (l.rail r).st ≠ .idle := fun hst => by simp [hst, RailSt.regulates] at hreg
  simp [Live.railRow, h.intent, hreg, hidle, h.stopCause]

end Withdrawn

theorem Live.railRow_hardStop_none {l : Live} {r : Nat} (hsoft : l.cb (oRail r) 0 4 = false) : l.railRow r 4 = none := by
  simp [Live.railRow, hsoft]

theorem Live.railRow_ramped {l : Live} {r : Nat} (hst : (l.rail r).st = .stopping) (hvr : (l.rail r).vr = 0) :
    l.railRow r 7 = some (l.railOff r none) := by
  simp [Live.railRow, hst, hvr]

theorem Live.railOff_rail (l : Live) (r : Nat) (cause : Option Nat) : (l.railOff r cause).rail r =
    { l.rail r with st := .off, vfb := none, stopNow := 0, dwellAt := none, cause := cause.getD (l.rail r).cause } :=
  l.railTo_modRail_rail r .off fun k => { k with vfb := none, stopNow := 0, dwellAt := none, cause := cause.getD k.cause }

theorem Live.Withdrawn.railOff {l : Live} {r : Nat} (h : l.Withdrawn r) (cause : Option Nat) : (l.railOff r cause).Withdrawn r := by
  have hrail := l.railOff_rail r cause
  exact h.of_keep (by simp) (by rw [hrail]) (by rw [hrail]) (by rw [hrail]) (by rw [hrail])

/-- A withdrawn rail regulates, and its course meets no row listed before those that stop it. -/
structure Live.Stops (l : Live) (r : Nat) : Prop extends l.Withdrawn r where
  regulates : (l.rail r).st.regulates = true
  fold : (l.rail r).st = .foldback → l.railStart r < (l.rail r).fbAt + l.rcf r 5 31 24 * 200000
  soft : (l.rail r).st = .softstart → (l.rail r).reachedAt = none ∨ l.aboveUv r = true

theorem Live.Withdrawn.rampDown {l : Live} {r : Nat} (h : l.Withdrawn r) : (l.rampDown r).Withdrawn r := by
  have hrail := l.rampDown_rail r
  exact h.of_keep (by simp [Live.rampDown]) (by rw [hrail]) (by rw [hrail]) (by rw [hrail]) (by rw [hrail])

section Stops
variable {l : Live} {r : Nat} (h : l.Stops r)
include h

theorem Live.Stops.quiet_before : l.Quiet r [0, 1, 2, 3] := by
  simp [Live.Quiet, h.over_none, h.phase_none, Live.railRow_fold_none h.fold, Live.railRow_ssFail_none h.soft]

/-- Without a soft stop the rail goes off at once. -/
theorem Live.Stops.railRows_hardStop (hsoft : l.cb (oRail r) 0 4 = false) : l.railRows r 12 = l.railOff r (some 1) := by
  have hbefore : l.Quiet r [0, 1, 2, 3, 4] := by
    simpa [Live.Quiet, or_imp, forall_and, Live.railRow_hardStop_none hsoft] using h.quiet_before
  show Live.railTake r 13 ([0, 1, 2, 3, 4] ++ 5 :: [6, 7, 8, 9, 10, 11, 12]) l = _
  rw [Live.railTake_of_taken hbefore (h.railRow_hardStop h.regulates)]
  exact Live.railTake_of_quiet ((h.toWithdrawn.railOff (some 1)).quiet_of_off (by rw [Live.railOff_rail]) _) 12

/-- With it the ramp to 0 begins, and ends in the same course where there is nothing to ramp. -/
theorem Live.Stops.railRows_softStop (hsoft : l.cb (oRail r) 0 4 = true) :
    l.railRows r 12 = if (l.rail r).vr ≠ 0 then l.rampDown r else (l.rampDown r).railOff r none := by
  have hdown := h.toWithdrawn.rampDown
  have hrail := l.rampDown_rail r
  have hnow : (l.rampDown r).railRow r 6 = none := Live.railRow_stopNow_none (by rw [hrail])
  show Live.railTake r 13 ([0, 1, 2, 3] ++ 4 :: [5, 6, 7, 8, 9, 10, 11, 12]) l = _
  rw [Live.railTake_of_taken h.quiet_before (h.railRow_softStop h.regulates hsoft)]
  split
  next hvr =>
    have hramped : (l.rampDown r).railRow r 7 = none := Live.railRow_ramped_none (by rw [hrail]; exact hvr)
    exact Live.railTake_of_quiet (Live.quiet_of_rows (by simp [hrail, RailSt.rows, hdown.over_none, hdown.phase_none, hnow, hramped])) 12
  next hvr =>
    have hvr : ((l.rampDown r).rail r).vr = 0 := by simpa [hrail] using hvr
    have hbefore : (l.rampDown r).Quiet r [0, 1, 2, 3, 5, 6] := Live.quiet_of_rows (by
      simp [hrail, RailSt.rows, hdown.over_none, hdown.phase_none, hnow])
    show Live.railTake r 12 ([0, 1, 2, 3, 5, 6] ++ 7 :: [8, 9, 10, 11, 12]) (l.rampDown r) = _
    rw [Live.railTake_of_taken hbefore (Live.railRow_ramped (by rw [hrail]) hvr)]
    exact Live.railTake_of_quiet ((hdown.railOff none).quiet_of_off (by rw [Live.railOff_rail]) _) 11

/-- What the rows make of the state, its cause and the target. -/
theorem Live.Stops.railRows_rail : ((l.railRows r 12).rail r).cause = 1 ∧
    ((l.railRows r 12).rail r).st = (if l.cb (oRail r) 0 4 = true ∧ (l.rail r).vr ≠ 0 then .stopping else .off) ∧
    (l.cb (oRail r) 0 4 = true → ((l.railRows r 12).rail r).vt = 0) := by
  cases hsoft : l.cb (oRail r) 0 4
  · rw [h.railRows_hardStop hsoft, Live.railOff_rail]
    simp
  · rw [h.railRows_softStop hsoft]
    split
    next hvr =>
      rw [Live.rampDown_rail]
      simp [hvr, h.stopCause]
    next hvr =>
      rw [Live.railOff_rail, Live.rampDown_rail]
      simp [hvr, h.stopCause]

end Stops

/-- The checks before the rows change nothing of what the rows that stop a rail read. -/
theorem Live.Stops.rowsMeet {l : Live} {r : Nat} (h : l.Stops r) : (l.rowsMeet r).Stops r := by
  obtain ⟨raised, n, hrail⟩ := l.rowsMeet_rail r
  have hless : Live.less 33280 (l.rowsMeet r) = Live.less 33280 l := by simp [Live.rowsMeet]
  have himg := Live.less_img hless (by decide)
  have hstart := Live.railStart_congr himg (Live.less_rings hless (by decide)) r
  have habove : (l.rowsMeet r).aboveUv r = l.aboveUv r := by
    simp only [Live.aboveUv, hrail, Live.rcf_congr himg]
  refine ⟨h.toWithdrawn.of_keep (Live.less_le (by decide) hless) ?_ ?_ ?_ ?_, ?_, ?_, ?_⟩
  all_goals rw [hrail]
  · exact h.regulates
  · rw [hstart, Live.rcf_congr himg]
    exact h.fold
  · rw [habove]
    exact h.soft

/-! ## RAIL_COURSE_WORK -/

section Exec
variable {s : State} {r : Fin 48}

theorem exec_railCourseWork_of_due (hdue : s.live.railDue r = true) :
    exec (.railCourseWork r) s = s.upd fun l => l.railUpTo r 6 :=
  upd_congr (f := fun l => l.railWork r) (if_pos hdue)

theorem exec_railCourseWork_of_not (h : s.live.railDue r = false ∨ 6 ≤ s.live.railStage r) : exec (.railCourseWork r) s = .next s := by
  refine upd_congr (f := fun l => l.railWork r) (g := id) ?_
  unfold Live.railWork
  rcases h with h | h
  · exact if_neg (by simp [h])
  · rw [Live.railUpTo_of_le h, ite_self]
    rfl

/-- The course work ends with its last part, of this course. -/
theorem Live.railUpTo_six {l : Live} {n : Nat} (h : l.railStage n < 6) :
    ((l.railUpTo n 6).rail n).workAt = some (l.railStart n) ∧ ((l.railUpTo n 6).rail n).stage = 6 := by
  rw [Live.railUpTo_succ (Nat.le_of_lt_succ h)]
  obtain ⟨lost, seen, hrail⟩ := Live.railFinish_rail ((l.railUpTo n 5).modRail n fun q =>
    { q with workAt := some ((l.railUpTo n 5).railStart n), stage := 6 }) n
  have hstart : (l.railUpTo n 5).railStart n = l.railStart n :=
    Live.railStart_congr (Live.same_img (by simp)) (Live.same_rings (by simp)) n
  rw [Live.modRail_rail_same] at hrail
  exact ⟨(congrArg Rail.workAt hrail).trans (congrArg some hstart), congrArg Rail.stage hrail⟩

theorem railCourseWork_completes (hdue : s.live.railDue r = true) (hstage : s.live.railStage r < 6) :
    Gives (exec (.railCourseWork r) s) (fun t => (t.live.rail r).workAt = some (s.live.railStart r) ∧ (t.live.rail r).stage = 6 ∧
      (∀ m, m ≠ r.val → t.live.rail m = s.live.rail m) ∧
      ((s.live.rail r).st = .idle ∨ (s.live.rail r).st = .latched → (t.live.rail r).st = (s.live.rail r).st) ∧
      SameBut [.rails, .vcr, .fc, .recd, .w1c] s t) := by
  obtain ⟨hat, hend⟩ := Live.railUpTo_six hstage
  refine ⟨_, exec_railCourseWork_of_due hdue, hat, hend, fun m => Live.otherRails_rail (s.live.railUpTo_otherRails r 6), fun hst => ?_,
    live_sameBut (m := 68192768) (by simp) _ (by decide)⟩
  have hrests : (s.live.rail r).st.rows = [] := by rcases hst with h | h <;> rw [h] <;> rfl
  exact Live.ruledRails_st (Live.railUpTo_ruledRails_of_rests hrests 6)

/-- Behind the rows of Table 6.3 the course work leaves the state, its cause and the target. -/
theorem Live.railUpTo_six_ruled {l : Live} {n : Nat} (h : l.railStage n ≤ 3) :
    ((l.railUpTo n 6).rail n).ruled = ((((l.railUpTo n 3).rowsMeet n).railRows n 12).rail n).ruled := by
  refine Live.ruledRails_rail ?_
  rw [Live.railUpTo_succ (by omega), Live.railStep_ruledRails (by decide), Live.railUpTo_succ (by omega),
    Live.railStep_ruledRails (by decide), Live.railUpTo_succ h, Live.railStep_rows]

theorem railCourseWork_stops (hdue : s.live.railDue r = true) (hstage : s.live.railStage r ≤ 3) (h : (s.live.railUpTo r 3).Stops r) :
    Gives (exec (.railCourseWork r) s) (fun t => (t.live.rail r).cause = 1 ∧
      (t.live.rail r).st = (if (s.live.railUpTo r 3).cb (oRail r) 0 4 = true ∧ ((s.live.railUpTo r 3).rail r).vr ≠ 0
        then .stopping else .off) ∧
      ((s.live.railUpTo r 3).cb (oRail r) 0 4 = true → (t.live.rail r).vt = 0)) := by
  obtain ⟨hstSame, hcauseSame, hvtSame⟩ := Rail.ruled_eq_iff.mp (Live.railUpTo_six_ruled hstage)
  obtain ⟨raised, n, hrail⟩ := (s.live.railUpTo r 3).rowsMeet_rail r
  have hcb : ((s.live.railUpTo r 3).rowsMeet r).cb (oRail r) 0 4 = (s.live.railUpTo r 3).cb (oRail r) 0 4 := by
    have himg : ((s.live.railUpTo r 3).rowsMeet r).img = (s.live.railUpTo r 3).img := Live.same_img (by simp [Live.rowsMeet])
    simp only [Live.cb, Live.cw, himg]
  obtain ⟨hcause, hst, hvt⟩ := h.rowsMeet.railRows_rail
  have hvr : (((s.live.railUpTo r 3).rowsMeet r).rail r).vr = ((s.live.railUpTo r 3).rail r).vr := by rw [hrail]
  rw [hcb, hvr] at hst
  rw [hcb] at hvt
  exact ⟨_, exec_railCourseWork_of_due hdue, hcauseSame.trans hcause, hstSame.trans hst, fun hsoft => hvtSame.trans (hvt hsoft)⟩

end Exec

/-- Settles O36: the parts of the course work are done in turn and each once, only the rows of Table 6.3 change the state, and of these
the first that a withdrawn rail meets are those that stop it. -/
theorem railCourseWorkIsDoneOnce : Obligations.RailCourseWorkIsDoneOnce := by
  refine fun s r => ⟨exec_railCourseWork_of_not, railCourseWork_completes, fun hdue hstage => ?_⟩
  intro l k hreg hintent hov hphase hfold hsoft
  have hphase' : ¬ l.NoPhase r := fun hno => hphase.elim (fun hrots => hrots hno.1) hno.2
  exact railCourseWork_stops hdue hstage ⟨⟨hintent, hov, hphase'⟩, hreg, hfold, hsoft⟩

end Sys2Proof.Machine
end

section
/-! PROOFS. The voltage command ports: the fields of a command word, what a command does by the order of the status codes, and the
response that the port drives (Tables 7.5 to 7.7). -/
open Sys2Proof Sys2Proof.Machine
namespace Sys2Proof.Machine

/-! ## The command word (Table 7.5) -/

theorem crcBit_lt {w poly : Nat} (hpoly : poly < 2 ^ w) (crc : Nat) (b : Bool) : crcBit w poly crc b < 2 ^ w := by
  have hshift : (crc <<< 1) % 2 ^ w < 2 ^ w := Nat.mod_lt _ (Nat.two_pow_pos w)
  simp only [crcBit]
  split
  · exact Nat.xor_lt_two_pow hshift hpoly
  · exact hshift

theorem crc8_lt (v n : Nat) : crc8 v n < 256 :=
  List.foldlRecOn (motive := (· < 256)) (bitsMsb v n) (crcBit 8 0x07) (by decide) fun crc _ b _ => crcBit_lt (w := 8) (by decide) crc b

/-- What a command word says: its operation, the command's rail and tag, its value and its argument. -/
structure VcWordOf (w : Word) (op : Nat) (c : VcCmd) (value arg : Nat) : Prop where
  crc : vcCrcOk w = true
  op : fld w 31 28 = op
  railsel : fld w 27 26 = c.railsel.toNat
  tag : fld w 25 24 = c.tag.toNat
  value : fld w 23 12 = value
  arg : fld w 11 8 = arg

/-- The 24 bits before `VCRC`. -/
def vcBody (op : Nat) (c : VcCmd) (value arg : Nat) : Nat :=
  op * 2 ^ 20 + c.railsel.toNat * 2 ^ 18 + c.tag.toNat * 2 ^ 16 + value * 16 + arg

section Word
variable {op value arg : Nat} (c : VcCmd) (hop : op < 16) (hvalue : value < 4096) (harg : arg < 16)
include hop hvalue harg

theorem vcWord_toNat : (vcWord op c.railsel.toNat c.tag.toNat value arg).toNat =
    vcBody op c value arg * 256 + crc8 (vcBody op c value arg) 24 := by
  have hrail : c.railsel.toNat < 4 := c.railsel.isLt
  have htag : c.tag.toNat < 4 := c.tag.isLt
  have hbody : vcBody op c value arg < 2 ^ 24 := by
    unfold vcBody
    omega
  have hcrc := crc8_lt (vcBody op c value arg) 24
  have hword : vcWord op c.railsel.toNat c.tag.toNat value arg =
      BitVec.ofNat 32 (vcBody op c value arg * 256 + crc8 (vcBody op c value arg) 24) := by
    simp only [vcWord, vcBody, Nat.mod_eq_of_lt hop, Nat.mod_eq_of_lt hvalue, Nat.mod_eq_of_lt harg, Nat.mod_eq_of_lt hrail,
      Nat.mod_eq_of_lt htag]
  rw [hword, BitVec.toNat_ofNat]
  omega

theorem vcWord_says : VcWordOf (vcWord op c.railsel.toNat c.tag.toNat value arg) op c value arg := by
  have hrail : c.railsel.toNat < 4 := c.railsel.isLt
  have htag : c.tag.toNat < 4 := c.tag.isLt
  have hcrc := crc8_lt (vcBody op c value arg) 24
  have hword := vcWord_toNat c hop hvalue harg
  have hbody : vcBody op c value arg =
      op * 2 ^ 20 + c.railsel.toNat * 2 ^ 18 + c.tag.toNat * 2 ^ 16 + value * 16 + arg := rfl
  have hdiv : (vcWord op c.railsel.toNat c.tag.toNat value arg).toNat / 256 = vcBody op c value arg := by omega
  refine ⟨?_, ?_, ?_, ?_, ?_, ?_⟩ <;> simp only [vcCrcOk, hdiv, fld, Nat.shiftRight_eq_div_pow, decide_eq_true_eq]
  all_goals omega

end Word

/-- A narrower field with the same low end. -/
theorem fld_low (w : Word) {hi mid lo : Nat} (h : mid ≤ hi) : fld w mid lo = fld w hi lo % 2 ^ (mid - lo + 1) :=
  (Nat.mod_mod_of_dvd _ (Nat.pow_dvd_pow 2 (by omega))).symm

theorem bit_eq_fld (w : Word) (n : Nat) : bit w n = decide (fld w n n = 1) := by
  rw [bit, BitVec.getLsbD, Nat.testBit_eq_decide_div_mod_eq, fld, Nat.shiftRight_eq_div_pow, Nat.sub_self, Nat.zero_add, Nat.pow_one]

namespace VcWordOf
variable {w : Word} {op : Nat} {c : VcCmd} {value arg : Nat} (h : VcWordOf w op c value arg)
include h

theorem bit_arg : bit w 8 = decide (arg % 2 = 1) := by
  rw [bit_eq_fld, fld_low w (by decide : 8 ≤ 11), h.arg]
  rfl

theorem slew (harg : arg < 8) : fld w 10 8 = arg := by
  rw [fld_low w (by decide : 10 ≤ 11), h.arg]
  exact Nat.mod_eq_of_lt harg

theorem level (hvalue : value < 32) : fld w 16 12 = value := by
  rw [fld_low w (by decide : 16 ≤ 23), h.value]
  exact Nat.mod_eq_of_lt hvalue

theorem mask (hvalue : value < 4) : fld w 13 12 = value := by
  rw [fld_low w (by decide : 13 ≤ 23), h.value]
  exact Nat.mod_eq_of_lt hvalue

end VcWordOf

/-- A command word that Table 7.7 allows. -/
structure VcAllowed (w : Word) (op : Nat) (c : VcCmd) (value arg : Nat) : Prop extends VcWordOf w op c value arg where
  ok : vcMalformed w = false

section Allowed
variable (c : VcCmd)

theorem vcAllowed_setv (value : BitVec 12) (slew : BitVec 3) :
    VcAllowed (vcWord 1 c.railsel.toNat c.tag.toNat value.toNat slew.toNat) 1 c value.toNat slew.toNat := by
  have hslew : slew.toNat < 8 := slew.isLt
  have h := vcWord_says c (by decide : 1 < 16) value.isLt (Nat.lt_of_lt_of_le hslew (by decide))
  exact ⟨h, by simp [vcMalformed, h.op, h.arg, hslew]⟩

/-- GETV and GETI, of three quantities each. -/
theorem vcAllowed_get {op : Nat} (hop : op = 2 ∨ op = 3) (a : Fin 3) :
    VcAllowed (vcWord op c.railsel.toNat c.tag.toNat 0 a) op c 0 a := by
  have h := vcWord_says (op := op) (arg := a) c (by omega) (by decide : 0 < 4096) (by omega)
  exact ⟨h, by rcases hop with rfl | rfl <;> simp [vcMalformed, h.op, h.value, h.arg]⟩

/-- GETP, GETSTAT and PING. -/
theorem vcAllowed_bare {op a : Nat} (hop : op = 4 ∧ a = 0 ∨ (op = 5 ∨ op = 8) ∧ a < 2) :
    VcAllowed (vcWord op c.railsel.toNat c.tag.toNat 0 a) op c 0 a := by
  have h := vcWord_says (op := op) (arg := a) c (by omega) (by decide : 0 < 4096) (by omega)
  exact ⟨h, by rcases hop with ⟨rfl, rfl⟩ | ⟨rfl | rfl, ha⟩ <;> simp_all [vcMalformed, h.op, h.value, h.arg]⟩

theorem vcAllowed_ackcap (level : BitVec 5) :
    VcAllowed (vcWord 6 c.railsel.toNat c.tag.toNat level.toNat 0) 6 c level.toNat 0 := by
  have hlevel : level.toNat < 32 := level.isLt
  have h := vcWord_says c (by decide : 6 < 16) (Nat.lt_of_lt_of_le hlevel (by decide)) (by decide : 0 < 16)
  exact ⟨h, by simp [vcMalformed, h.op, h.value, h.arg, hlevel]⟩

theorem vcSays_setmode (value : BitVec 12) {a : Nat} (ha : a < 16) :
    VcWordOf (vcWord 7 c.railsel.toNat c.tag.toNat value.toNat a) 7 c value.toNat a :=
  vcWord_says c (by decide) value.isLt ha

/-- SETMODE: `AUTO` and `FULL` without a value, `EVMASK` with two bits. -/
theorem vcAllowed_setmode {value : BitVec 12} {a : Nat} (ha : a < 2 ∧ value = 0 ∨ a = 2 ∧ value.toNat < 4) :
    VcAllowed (vcWord 7 c.railsel.toNat c.tag.toNat value.toNat a) 7 c value.toNat a := by
  have h := vcSays_setmode c value (by omega : a < 16)
  refine ⟨h, ?_⟩
  simp only [vcMalformed, h.op, h.value, h.arg]
  rcases ha with ⟨ha, rfl⟩ | ⟨rfl, hvalue⟩
  · interval_cases a <;> rfl
  · simpa using hvalue

end Allowed

/-! ## Ports and counters apart -/

/-- `k` is `l` but for what the ports keep, the counters and their overflow bits. -/
def Live.PortsOnly (l k : Live) : Prop := Live.less 68158464 k = Live.less 68158464 l

namespace Live.PortsOnly
variable {l k : Live} (h : l.PortsOnly k)
include h

theorem now : k.now = l.now := Live.less_now h (by decide)
theorem fc : k.fc = l.fc := Live.less_fc h (by decide)
theorem img : k.img = l.img := Live.less_img h (by decide)
theorem rails : k.rails = l.rails := Live.less_rails h (by decide)
theorem vcr : k.vcr = l.vcr := Live.less_vcr h (by decide)
theorem rail (r : Nat) : k.rail r = l.rail r := Live.rail_congr h.rails r
theorem vr (r : Nat) : k.vr r = l.vr r := by rw [Live.vr, h.vcr, Live.vr]
theorem cf (o w hi lo : Nat) : k.cf o w hi lo = l.cf o w hi lo := by simp only [Live.cf, Live.cw, h.img]
theorem rcf (r w hi lo : Nat) : k.rcf r w hi lo = l.rcf r w hi lo := Live.rcf_congr h.img r w hi lo

theorem portRail (p n : Nat) : k.portRail p n = l.portRail p n := by
  unfold Live.portRail Live.given Live.cf Live.cw
  rw [h.img]

theorem vcSummary (p : Nat) : k.vcSummary p = l.vcSummary p := by
  simp only [Live.vcSummary, h.portRail, h.vr]

theorem trans {j : Live} (a : k.PortsOnly j) : l.PortsOnly j := Eq.trans a h

omit h in
theorem sameBut {s : State} (h : s.live.PortsOnly k) : SameBut [.vcp, .recd, .w1c] s { s with live := k } :=
  live_sameBut h _ (by decide)

end Live.PortsOnly

theorem Live.PortsOnly.vcGetv {l k : Live} (h : l.PortsOnly k) (r a : Nat) : k.vcGetv r a = l.vcGetv r a := by
  simp only [Live.vcGetv, h.rail]

theorem Live.PortsOnly.vcGeti {l k : Live} (h : l.PortsOnly k) (r a : Nat) : k.vcGeti r a = l.vcGeti r a := by
  unfold Live.vcGeti
  rw [h.rail]

theorem Live.PortsOnly.vcGetp {l k : Live} (h : l.PortsOnly k) (r : Nat) : k.vcGetp r = l.vcGetp r := by
  simp only [Live.vcGetp, h.rail]

/-! ## A frame is heard -/

/-- The command has been counted, and a word whose `VCRC` passes noted. -/
def Live.vcHeard (l : Live) (p : Nat) (w : Word) : Live :=
  if vcCrcOk w then (l.countWith 64 1 { req := some p }).modVp p fun v => { v with lastCmd := w } else l.countWith 64 1 { req := some p }

theorem Live.countWith_vcp (l : Live) (n k : Nat) (a : CntAttr) : (l.countWith n k a).vcp = l.vcp := Live.same_vcp (by simp)

theorem Live.countWith_vp (l : Live) (n k : Nat) (a : CntAttr) (p : Nat) : (l.countWith n k a).vp p = l.vp p := by
  rw [Live.vp, Live.countWith_vcp, Live.vp]

theorem Live.countWith_vr (l : Live) (n k : Nat) (a : CntAttr) (r : Nat) : (l.countWith n k a).vr r = l.vr r := by
  rw [Live.vr, Live.same_vcr (Live.countWith_keep l n k a _ rfl), Live.vr]

section Heard
variable (l : Live) (p : Nat) (w : Word)

theorem Live.vcHeard_portsOnly : l.PortsOnly (l.vcHeard p w) := by
  simp [Live.PortsOnly, Live.vcHeard, Live.less_ite]

theorem Live.vcHeard_vp_same : (l.vcHeard p w).vp p = if vcCrcOk w then { l.vp p with lastCmd := w } else l.vp p := by
  unfold Live.vcHeard
  split <;> simp [Live.countWith_vp]

theorem Live.vcHeard_vp_other {m : Nat} (h : m ≠ p) : (l.vcHeard p w).vp m = l.vp m := by
  unfold Live.vcHeard
  split <;> simp [Live.modVp_vp_other _ _ _ _ h, Live.countWith_vp]

end Heard

/-! ## The port answers (Table 7.6) -/

/-- The response and its width. -/
def vcReply (w : Word) (st : Nat) : Option Nat → Word
  | some d => vcLong (fld w 27 26) (fld w 25 24) d
  | none => vcShort st (fld w 27 26) (fld w 25 24)
def vcReplyLen (d : Option Nat) : Nat := if d.isSome then 32 else 16

/-- A response is counted and driven. -/
def Live.vcAnswer (k : Live) (p : Nat) (w : Word) (st : Nat) (d : Option Nat) : Live :=
  (k.vcCount p st).modVp p fun v => { v with resp := vcReply w st d, respLen := vcReplyLen d }

theorem Live.vcCommand_of_act {l k : Live} {p : Nat} {w : Word} {st : Nat} {d : Option Nat}
    (hact : (l.vcHeard p w).vcAct p w = (k, st, d)) : l.vcCommand p w true = k.vcAnswer p w st d := by
  unfold Live.vcHeard at hact
  simp only [Live.vcCommand, hact]
  cases d <;> rfl

theorem Live.vcCount_vp_same (l : Live) (p st : Nat) :
    (l.vcCount p st).vp p = if st = 6 then { l.vp p with badCrc := (l.vp p).badCrc + 1 } else l.vp p := by
  unfold Live.vcCount
  split <;> simp_all [Live.countWith_vp]

theorem Live.vcCount_vp_other (l : Live) {p m : Nat} (st : Nat) (h : m ≠ p) : (l.vcCount p st).vp m = l.vp m := by
  unfold Live.vcCount
  split <;> simp [Live.countWith_vp, Live.modVp_vp_other _ _ _ _ h]

section Answer
variable (k : Live) (p : Nat) (w : Word) (st : Nat) (d : Option Nat)

theorem Live.vcAnswer_portsOnly : k.PortsOnly (k.vcAnswer p w st d) := by
  simp [Live.PortsOnly, Live.vcAnswer]

theorem Live.vcAnswer_vp_same : (k.vcAnswer p w st d).vp p = { (k.vp p) with
    badCrc := (if st = 6 then (k.vp p).badCrc + 1 else (k.vp p).badCrc), resp := vcReply w st d, respLen := vcReplyLen d } := by
  rw [Live.vcAnswer, Live.modVp_vp_same, Live.vcCount_vp_same]
  split <;> rfl

theorem Live.vcAnswer_vp_other {m : Nat} (h : m ≠ p) : (k.vcAnswer p w st d).vp m = k.vp m := by
  rw [Live.vcAnswer, Live.modVp_vp_other _ _ _ _ h, Live.vcCount_vp_other k st h]

end Answer

section Reply
variable {w : Word} {op value arg : Nat} {c : VcCmd} (h : VcWordOf w op c value arg) (k : Live) (p st : Nat)
include h

theorem VcWordOf.vcAnswer_short : ((k.vcAnswer p w st none).vp p).resp = vcShort st c.railsel.toNat c.tag.toNat ∧
    ((k.vcAnswer p w st none).vp p).respLen = 16 := by
  simp [Live.vcAnswer_vp_same, vcReply, vcReplyLen, h.railsel, h.tag]

theorem VcWordOf.vcAnswer_long (d : Nat) : ((k.vcAnswer p w st (some d)).vp p).resp = vcLong c.railsel.toNat c.tag.toNat d ∧
    ((k.vcAnswer p w st (some d)).vp p).respLen = 32 := by
  simp [Live.vcAnswer_vp_same, vcReply, vcReplyLen, h.railsel, h.tag]

end Reply

/-! ## What a command does, in the order of the status codes (R253) -/

section Act
variable {l : Live} {p : Nat} {w : Word}

theorem Live.vcAct_badCrc (h : vcCrcOk w = false) : l.vcAct p w = (l, 6, none) := if_pos (by simp [h])

theorem Live.vcAct_malformed (hcrc : vcCrcOk w = true) (h : vcMalformed w = true) : l.vcAct p w = (l, 3, none) := by
  simp [Live.vcAct, hcrc, h]

variable {op : Nat} {c : VcCmd} {value arg r : Nat} (h : VcAllowed w op c value arg)
include h

theorem Live.vcAct_safe (hop : op ≠ 8) (hsafe : l.fc.safe = true) : l.vcAct p w = (l, 4, none) := by
  simp [Live.vcAct, h.crc, h.ok, hsafe, h.op, hop]

theorem Live.vcAct_unbound (hop : op ≠ 8) (hsafe : l.fc.safe = false) (hrail : l.portRail p c.railsel.toNat = none) :
    l.vcAct p w = (l, 0xF, none) := by
  simp [Live.vcAct, h.crc, h.ok, hsafe, h.op, hop, h.railsel, hrail]

omit h in
/-- The port takes commands for the rail. -/
structure Live.VcTakes (l : Live) (p : Nat) (c : VcCmd) (r : Nat) : Prop where
  safe : l.fc.safe = false
  rail : l.portRail p c.railsel.toNat = some r

theorem Live.vcAct_idle (ht : l.VcTakes p c r) (hop : op = 1 ∨ op = 6 ∨ op = 7) (hidle : (l.rail r).st = .idle) :
    l.vcAct p w = (l, 5, none) := by
  have hping : op ≠ 8 := by omega
  simp [Live.vcAct, h.crc, h.ok, ht.safe, h.op, hping, h.railsel, ht.rail, hidle, or_assoc, hop]

end Act

section Rows
variable {l : Live} {p r : Nat} {w : Word} {c : VcCmd} {value arg : Nat}

theorem Live.vcAct_setv (h : VcAllowed w 1 c value arg) (ht : l.VcTakes p c r) (hst : (l.rail r).st ≠ .idle) :
    l.vcAct p w = ((l.vcSetv p r w).2, (l.vcSetv p r w).1, none) := by
  simp [Live.vcAct, h.crc, h.ok, ht.safe, h.op, h.railsel, ht.rail, hst]

theorem Live.vcAct_getv (h : VcAllowed w 2 c value arg) (ht : l.VcTakes p c r) : l.vcAct p w = (l, 0, some (l.vcGetv r arg)) := by
  simp [Live.vcAct, h.crc, h.ok, ht.safe, h.op, h.railsel, ht.rail, h.arg]

theorem Live.vcAct_geti (h : VcAllowed w 3 c value arg) (ht : l.VcTakes p c r) : l.vcAct p w = (l, 0, some (l.vcGeti r arg)) := by
  simp [Live.vcAct, h.crc, h.ok, ht.safe, h.op, h.railsel, ht.rail, h.arg]

theorem Live.vcAct_getp (h : VcAllowed w 4 c value arg) (ht : l.VcTakes p c r) : l.vcAct p w = (l, 0, some (l.vcGetp r)) := by
  simp [Live.vcAct, h.crc, h.ok, ht.safe, h.op, h.railsel, ht.rail]

theorem Live.vcAct_getstat (h : VcAllowed w 5 c value 0) (ht : l.VcTakes p c r) :
    l.vcAct p w = (l.modVr r VcRail.cleared, 0, some (l.vr r).stat) := by
  simp [Live.vcAct, h.crc, h.ok, ht.safe, h.op, h.railsel, ht.rail, h.bit_arg]

theorem Live.vcAct_summary (h : VcAllowed w 5 c value 1) (ht : l.VcTakes p c r) : l.vcAct p w = (l, 0, some (l.vcSummary p)) := by
  simp [Live.vcAct, h.crc, h.ok, ht.safe, h.op, h.railsel, ht.rail, h.bit_arg]

theorem Live.vcAct_ackcap (h : VcAllowed w 6 c value arg) (ht : l.VcTakes p c r) (hst : (l.rail r).st ≠ .idle) :
    l.vcAct p w = ((l.vcAckcap r w).2, (l.vcAckcap r w).1, none) := by
  simp [Live.vcAct, h.crc, h.ok, ht.safe, h.op, h.railsel, ht.rail, hst]

theorem Live.vcAct_setmode (h : VcAllowed w 7 c value arg) (ht : l.VcTakes p c r) (hst : (l.rail r).st ≠ .idle) :
    l.vcAct p w = ((l.vcSetmode r w).2, (l.vcSetmode r w).1, none) := by
  simp [Live.vcAct, h.crc, h.ok, ht.safe, h.op, h.railsel, ht.rail, hst]

theorem Live.vcAct_ping (h : VcAllowed w 8 c value arg) : l.vcAct p w =
    ((if arg % 2 = 1 then l.modVp p fun v => { v with syncs := List.range 8 } else l), 0, none) := by
  simp [Live.vcAct, h.crc, h.ok, h.op, h.bit_arg]

end Rows

theorem Live.VcTakes.heard {l : Live} {p r : Nat} {c : VcCmd} (h : l.VcTakes p c r) (q : Nat) (w : Word) :
    (l.vcHeard q w).VcTakes p c r where
  safe := by rw [(l.vcHeard_portsOnly q w).fc, h.safe]
  rail := by rw [(l.vcHeard_portsOnly q w).portRail, h.rail]

/-! ## A frame -/

theorem Live.vcFrame_of_not_serves {l : Live} {p : Nat} (h : l.vcServes p = false) (w : Word) (contend : Bool) :
    l.vcFrame p w contend = l := if_pos (by simp [h])

theorem Live.vcFrame_whole {l : Live} {p : Nat} (h : l.vcServes p = true) (w : Word) : l.vcFrame p w false = l.vcCommand p w true := by
  simp [Live.vcFrame, h]

theorem Live.vcFrame_contended {l : Live} {p : Nat} (h : l.vcServes p = true) (w : Word) :
    l.vcFrame p w true = (l.vcCommand p w false).raise 0x5003 (oVc p) := by
  simp [Live.vcFrame, h]

/-- A read is answered, and leaves all but its port and the counters as they were. -/
def VcReadsBack (s : State) (p : Nat) (c : VcCmd) (d : Nat) (t : State) : Prop :=
  (t.live.vp p).resp = vcLong c.railsel.toNat c.tag.toNat d ∧ (t.live.vp p).respLen = 32 ∧
    (∀ m, m ≠ p → t.live.vp m = s.live.vp m) ∧ SameBut [.vcp, .recd, .w1c] s t

/-- The instruction is a whole frame of the word on a port that serves. -/
structure VcSends (s : State) (p : Nat) (w : Word) (i : Instr) : Prop where
  serves : s.live.vcServes p = true
  runs : exec i s = s.upd fun l => l.vcFrame p w false

namespace VcSends
variable {s : State} {p : Nat} {w : Word} {i : Instr} (h : VcSends s p w i)
include h

theorem answers {k : Live} {st : Nat} {d : Option Nat} (hact : (s.live.vcHeard p w).vcAct p w = (k, st, d)) :
    exec i s = .next { s with live := k.vcAnswer p w st d } := by
  rw [h.runs, State.upd, Live.vcFrame_whole h.serves, Live.vcCommand_of_act hact]

theorem reads {op value arg d : Nat} {c : VcCmd} (hw : VcWordOf w op c value arg)
    (hact : (s.live.vcHeard p w).vcAct p w = (s.live.vcHeard p w, 0, some d)) : Gives (exec i s) (VcReadsBack s p c d) := by
  have honly := (s.live.vcHeard_portsOnly p w).trans (Live.vcAnswer_portsOnly _ p w 0 (some d))
  obtain ⟨hresp, hlen⟩ := hw.vcAnswer_long (s.live.vcHeard p w) p 0 d
  refine ⟨_, h.answers hact, hresp, hlen, fun m hm => ?_, honly.sameBut⟩
  rw [Live.vcAnswer_vp_other _ _ _ _ _ hm, Live.vcHeard_vp_other _ _ _ hm]

theorem getstat {r : Nat} {c : VcCmd} (hw : VcAllowed w 5 c 0 0) (ht : s.live.VcTakes p c r) :
    Gives (exec i s) (fun t => (t.live.vp p).resp = vcLong c.railsel.toNat c.tag.toNat (s.live.vr r).stat ∧
      (t.live.vp p).respLen = 32 ∧ t.live.vr r = (s.live.vr r).cleared ∧ (∀ m, m ≠ r → t.live.vr m = s.live.vr m) ∧
      SameBut [.vcp, .vcr, .recd, .w1c] s t) := by
  have hheard := s.live.vcHeard_portsOnly p w
  have hanswer := Live.vcAnswer_portsOnly ((s.live.vcHeard p w).modVr r VcRail.cleared) p w 0 (some ((s.live.vcHeard p w).vr r).stat)
  obtain ⟨hresp, hlen⟩ := hw.vcAnswer_long ((s.live.vcHeard p w).modVr r VcRail.cleared) p 0 ((s.live.vcHeard p w).vr r).stat
  refine ⟨_, h.answers (Live.vcAct_getstat hw (ht.heard p w)), ?_, hlen, ?_, fun m hm => ?_, ?_⟩
  · rw [hresp, hheard.vr]
  · rw [hanswer.vr, Live.modVr_vr_same, hheard.vr]
  · rw [hanswer.vr, Live.modVr_vr_other _ _ _ _ hm, hheard.vr]
  · exact live_sameBut (m := 68160512) (by simp [Live.vcAnswer, Live.vcHeard, Live.less_ite]) _ (by decide)

theorem ping {c : VcCmd} {b : Bool} (hw : VcAllowed w 8 c 0 (if b then 1 else 0)) :
    Gives (exec i s) (fun t => (t.live.vp p).resp = vcShort 0 c.railsel.toNat c.tag.toNat ∧ (t.live.vp p).respLen = 16 ∧
      (t.live.vp p).syncs = (if b then List.range 8 else (s.live.vp p).syncs) ∧ SameBut [.vcp, .recd, .w1c] s t) := by
  obtain ⟨hresp, hlen⟩ := hw.vcAnswer_short _ p 0
  refine ⟨_, h.answers (Live.vcAct_ping hw), hresp, hlen, ?_, ?_⟩
  · cases b <;> simp [Live.vcAnswer_vp_same, Live.vcHeard_vp_same, hw.crc]
  · exact live_sameBut (m := 68158464) (by simp [Live.vcAnswer, Live.vcHeard, Live.less_ite]) _ (by decide)

end VcSends

end Sys2Proof.Machine
end

section
/-! PROOFS. The operations of a voltage command port that read (R251, R252, R262, R264, R269), and a port that is not served (R270,
R272). -/
open Sys2Proof Sys2Proof.Machine
namespace Sys2Proof.Machine

theorem vcFrames_not_served {s : State} {p : Fin 16} (c : VcCmd) (h : s.live.vcServes p = false) :
    ∀ i, i ∈ [Instr.getv p c 0, .geti p c 0, .getp p c, .getstatRail p c, .getstatSummary p c, .ping p c true,
      .setv p c 0 0, .ackcap p c 0, .setmodeAuto p c 0, .vcFrameTimeout p none] → exec i s = .next s := by
  have hframe (w : Word) : (s.upd fun l => l.vcFrame p w c.contend) = .next s :=
    upd_congr (g := id) (Live.vcFrame_of_not_serves h w c.contend)
  have hout : (s.upd fun l => l.vcAbandon p none) = .next s := upd_congr (g := id) (if_pos (by simp [h]))
  simp only [List.forall_mem_cons]
  exact ⟨hframe _, hframe _, hframe _, hframe _, hframe _, hframe _, hframe _, hframe _, hframe _, hout, by simp⟩

section Reads
variable {s : State} {p : Fin 16} {c : VcCmd} {r : Nat} (hserves : s.live.vcServes p = true) (hwhole : c.contend = false)
  (ht : s.live.VcTakes p c r)
include hserves hwhole

/-- What carries a command is a whole frame of its word. -/
theorem vcSends {w : Word} {i : Instr} (h : exec i s = s.upd fun l => l.vcFrame p w c.contend) : VcSends s p w i :=
  ⟨hserves, by rw [h, hwhole]⟩

include ht

theorem getv_readsBack (a : Fin 3) : Gives (exec (.getv p c a) s) (VcReadsBack s p c (s.live.vcGetv r a)) := by
  have hw := vcAllowed_get c (.inl rfl) a
  rw [← (s.live.vcHeard_portsOnly p _).vcGetv]
  exact (vcSends hserves hwhole rfl).reads hw.toVcWordOf (Live.vcAct_getv hw (ht.heard _ _))

theorem geti_readsBack (a : Fin 3) : Gives (exec (.geti p c a) s) (VcReadsBack s p c (s.live.vcGeti r a)) := by
  have hw := vcAllowed_get c (.inr rfl) a
  rw [← (s.live.vcHeard_portsOnly p _).vcGeti]
  exact (vcSends hserves hwhole rfl).reads hw.toVcWordOf (Live.vcAct_geti hw (ht.heard _ _))

theorem getp_readsBack : Gives (exec (.getp p c) s) (VcReadsBack s p c (s.live.vcGetp r)) := by
  have hw := vcAllowed_bare c (.inl ⟨rfl, rfl⟩)
  rw [← (s.live.vcHeard_portsOnly p _).vcGetp]
  exact (vcSends hserves hwhole rfl).reads hw.toVcWordOf (Live.vcAct_getp hw (ht.heard _ _))

theorem getstatSummary_readsBack : Gives (exec (.getstatSummary p c) s) (VcReadsBack s p c (s.live.vcSummary p)) := by
  have hw := vcAllowed_bare (a := 1) c (.inr ⟨.inl rfl, by decide⟩)
  rw [← (s.live.vcHeard_portsOnly p _).vcSummary]
  exact (vcSends hserves hwhole rfl).reads hw.toVcWordOf (Live.vcAct_summary hw (ht.heard _ _))

end Reads

theorem Live.vcGeti_known {l : Live} {r : Nat} {i : Rat} (h : (l.rail r).seen.i = some i) : l.vcGeti r 0 = vcAmps i := by
  unfold Live.vcGeti
  simp only [h]

theorem Live.vcGeti_unknown {l : Live} {r : Nat} (h : (l.rail r).seen.i = none) : l.vcGeti r 0 = 0x8000 := by
  unfold Live.vcGeti
  simp only [h]

theorem Live.vcGetp_known {l : Live} {r : Nat} {i : Rat} (h : (l.rail r).seen.i = some i) :
    l.vcGetp r = satNat ((l.rail r).seen.v * i / 10000000000) 0xFFFE := by
  simp only [Live.vcGetp, h]

theorem Live.vcGetp_unknown {l : Live} {r : Nat} (h : (l.rail r).seen.i = none) : l.vcGetp r = 0xFFFF := by
  simp only [Live.vcGetp, h]

/-- Settles O37: each read is a whole frame of its word, which an open port answers from the state as it was heard. That the answer is of
the latest complete course work is the model's choice (log entry 90). -/
theorem voltagePortReads : Obligations.VoltagePortReads := by
  intro s p c l answers
  refine ⟨fun hserves hwhole => ⟨fun r hsafe hrail => ?_, fun b => ?_⟩, fun hshut => vcFrames_not_served c hshut⟩
  · have ht : s.live.VcTakes p c r := ⟨hsafe, hrail⟩
    have hgetv := getv_readsBack hserves hwhole ht
    have hgeti := geti_readsBack hserves hwhole ht
    have hgetp := getp_readsBack hserves hwhole ht
    exact ⟨hgetv 0, hgetv 1, hgetv 2,
      fun i hi => ⟨Live.vcGeti_known hi ▸ hgeti 0, Live.vcGetp_known hi ▸ hgetp⟩,
      fun hi => ⟨Live.vcGeti_unknown hi ▸ hgeti 0, Live.vcGetp_unknown hi ▸ hgetp⟩,
      hgeti 1, hgeti 2, getstatSummary_readsBack hserves hwhole ht,
      (vcSends hserves hwhole rfl).getstat (vcAllowed_bare c (.inr ⟨.inl rfl, by decide⟩)) ht⟩
  · exact (vcSends hserves hwhole rfl).ping (vcAllowed_bare c (.inr ⟨.inr rfl, by cases b <;> decide⟩))

end Sys2Proof.Machine
end

section
/-! PROOFS. The operations of a voltage command port that are judged: SETV, ACKCAP and SETMODE in the order of the status codes (R253,
R254, R261, R265, R267), bad words and abandoned frames (R247, R248). -/
open Sys2Proof Sys2Proof.Machine
namespace Sys2Proof.Machine

/-! ## A short response -/

/-- A judged command is answered with a status, the rails are as they were, and `q` holds. -/
def VcReplied (s : State) (p : Nat) (c : VcCmd) (st : Nat) (q : State → Prop) (t : State) : Prop :=
  (t.live.vp p).resp = vcShort st c.railsel.toNat c.tag.toNat ∧ (t.live.vp p).respLen = 16 ∧ t.live.rails = s.live.rails ∧ q t

/-- No effect but on the ports and the counters. -/
def VcIdle (s t : State) : Prop := t.live.vcr = s.live.vcr ∧ SameBut [.vcp, .recd, .w1c] s t

namespace VcSends
variable {s : State} {p : Nat} {w : Word} {i : Instr} (h : VcSends s p w i)
  {op value arg st : Nat} {c : VcCmd} (hw : VcWordOf w op c value arg)
include h hw

/-- A command that is refused has no other effect. -/
theorem idles (hact : (s.live.vcHeard p w).vcAct p w = (s.live.vcHeard p w, st, none)) :
    Gives (exec i s) (VcReplied s p c st (VcIdle s)) := by
  have honly := (s.live.vcHeard_portsOnly p w).trans (Live.vcAnswer_portsOnly _ p w st none)
  obtain ⟨hresp, hlen⟩ := hw.vcAnswer_short (s.live.vcHeard p w) p st
  exact ⟨_, h.answers hact, hresp, hlen, honly.rails, honly.vcr, honly.sameBut⟩

/-- A command that is accepted changes what the port keeps of the rail. -/
theorem changes {k : Live} {r : Nat} {f : VcRail → VcRail} (hk : (s.live.vcHeard p w).PortsOnly k)
    (hact : (s.live.vcHeard p w).vcAct p w = (k.modVr r f, st, none)) :
    Gives (exec i s) (VcReplied s p c st fun t => t.live.vr r = f (s.live.vr r)) := by
  have honly := (s.live.vcHeard_portsOnly p w).trans hk
  have hanswer := Live.vcAnswer_portsOnly (k.modVr r f) p w st none
  obtain ⟨hresp, hlen⟩ := hw.vcAnswer_short (k.modVr r f) p st
  have hvr := (hanswer.vr r).trans ((Live.modVr_vr_same _ _ _).trans (congrArg f (honly.vr r)))
  exact ⟨_, h.answers hact, hresp, hlen, hanswer.rails.trans honly.rails, hvr⟩

end VcSends

/-! ## SETV (R254, R258, R261) -/

section Setv
variable (l : Live) (p r value slew : Nat)

/-- The slew or the voltage is out of range. -/
abbrev Live.SetvBad : Prop := l.cf (oVc p) 1 7 5 < slew ∨ value < l.rcf r 2 15 0 ∨ l.rcf r 2 31 16 < value
/-- The rail has settled at the voltage. -/
abbrev Live.SetvDone : Prop := mv16 value = (l.rail r).vt ∧ (l.vr r).outst = none ∧ 2 ≤ (l.vr r).calm
/-- A cap that is not acknowledged forbids the rise. -/
abbrev Live.SetvCapped : Prop := (l.rail r).vt < mv16 value ∧ (l.vr r).level < (l.vr r).ack

/-- The command as it waits for a course. -/
def Live.setvCmd (l : Live) (c : VcCmd) (value slew : Nat) : SetvCmd := { tag := c.tag, value := mv16 value, slew := slew, at_ := l.now }

end Setv

section Setv
variable {l : Live} {p r : Nat} {w : Word} {c : VcCmd} {value slew : Nat}

theorem Live.PortsOnly.setv {k : Live} (h : l.PortsOnly k) : (k.SetvBad p r value slew ↔ l.SetvBad p r value slew) ∧
    (k.SetvDone r value ↔ l.SetvDone r value) ∧ (k.SetvCapped r value ↔ l.SetvCapped r value) := by
  simp only [Live.SetvBad, Live.SetvDone, Live.SetvCapped, h.cf, h.rcf, h.rail, h.vr, and_self]

variable (h : VcWordOf w 1 c value slew) (hslew : slew < 8)
include h hslew

/-- The order in which a SETV is judged. -/
theorem Live.vcSetv_eq : l.vcSetv p r w =
    if l.SetvBad p r value slew then (3, l)
    else if (l.rail r).st.regulates = false then (4, l)
    else if l.SetvDone r value then (1, l)
    else if l.SetvCapped r value then (7, l)
    else (0, (l.countWith 65 1 { req := some p }).modVr r fun q => { q with queue := q.queue ++ [l.setvCmd c value slew] }) := by
  simp [Live.vcSetv, Live.setvCmd, h.slew hslew, h.value, h.tag, or_assoc, and_assoc]

end Setv

namespace VcSends
variable {s : State} {p : Nat} {w : Word} {i : Instr} (h : VcSends s p w i) {op value arg r : Nat} {c : VcCmd}

section Refused
variable (hw : VcAllowed w op c value arg)
include h hw

theorem safe_idles (hop : op ≠ 8) (hsafe : s.live.fc.safe = true) : Gives (exec i s) (VcReplied s p c 4 (VcIdle s)) := by
  have hheard := s.live.vcHeard_portsOnly p w
  exact h.idles hw.toVcWordOf (Live.vcAct_safe hw hop (by rwa [hheard.fc]))

theorem unbound_idles (hop : op ≠ 8) (hsafe : s.live.fc.safe = false) (hrail : s.live.portRail p c.railsel.toNat = none) :
    Gives (exec i s) (VcReplied s p c 0xF (VcIdle s)) := by
  have hheard := s.live.vcHeard_portsOnly p w
  exact h.idles hw.toVcWordOf (Live.vcAct_unbound hw hop (by rwa [hheard.fc]) (by rwa [hheard.portRail]))

theorem rail_idles (hop : op = 1 ∨ op = 6 ∨ op = 7) (ht : s.live.VcTakes p c r) (hst : (s.live.rail r).st = .idle) :
    Gives (exec i s) (VcReplied s p c 5 (VcIdle s)) := by
  have hheard := s.live.vcHeard_portsOnly p w
  exact h.idles hw.toVcWordOf (Live.vcAct_idle hw (ht.heard p w) hop (by rwa [hheard.rail]))

end Refused

section Setv
variable {slew : Nat} (hw : VcAllowed w 1 c value slew) (hslew : slew < 8) (ht : s.live.VcTakes p c r)
  (hst : (s.live.rail r).st ≠ .idle)
include hw hslew ht hst

omit h in
/-- The state as it was heard is judged as the state itself. -/
theorem vcAct_setv : (s.live.vcHeard p w).vcAct p w =
    if s.live.SetvBad p r value slew then (s.live.vcHeard p w, 3, none)
    else if (s.live.rail r).st.regulates = false then (s.live.vcHeard p w, 4, none)
    else if s.live.SetvDone r value then (s.live.vcHeard p w, 1, none)
    else if s.live.SetvCapped r value then (s.live.vcHeard p w, 7, none)
    else (((s.live.vcHeard p w).countWith 65 1 { req := some p }).modVr r fun q =>
      { q with queue := q.queue ++ [s.live.setvCmd c value slew] }, 0, none) := by
  have hheard := s.live.vcHeard_portsOnly p w
  obtain ⟨hbad, hdone, hcapped⟩ := hheard.setv (p := p) (r := r) (value := value) (slew := slew)
  rw [Live.vcAct_setv hw (ht.heard p w) (by rwa [hheard.rail]), Live.vcSetv_eq hw.toVcWordOf hslew]
  simp only [hbad, hdone, hcapped, hheard.rail, Live.setvCmd, hheard.now]
  split_ifs <;> rfl

include h

theorem setv_bad (hbad : s.live.SetvBad p r value slew) : Gives (exec i s) (VcReplied s p c 3 (VcIdle s)) :=
  h.idles hw.toVcWordOf (by rw [vcAct_setv hw hslew ht hst, if_pos hbad])

variable (hbad : ¬ s.live.SetvBad p r value slew)
include hbad

theorem setv_off (hreg : (s.live.rail r).st.regulates = false) : Gives (exec i s) (VcReplied s p c 4 (VcIdle s)) :=
  h.idles hw.toVcWordOf (by rw [vcAct_setv hw hslew ht hst, if_neg hbad, if_pos hreg])

variable (hreg : (s.live.rail r).st.regulates = true)
include hreg

theorem setv_done (hdone : s.live.SetvDone r value) : Gives (exec i s) (VcReplied s p c 1 (VcIdle s)) :=
  h.idles hw.toVcWordOf (by rw [vcAct_setv hw hslew ht hst, if_neg hbad, if_neg (by simp [hreg]), if_pos hdone])

variable (hdone : ¬ s.live.SetvDone r value)
include hdone

theorem setv_capped (hcapped : s.live.SetvCapped r value) : Gives (exec i s) (VcReplied s p c 7 (VcIdle s)) :=
  h.idles hw.toVcWordOf (by rw [vcAct_setv hw hslew ht hst, if_neg hbad, if_neg (by simp [hreg]), if_neg hdone, if_pos hcapped])

theorem setv_queued (hcapped : ¬ s.live.SetvCapped r value) : Gives (exec i s) (VcReplied s p c 0 fun t =>
    t.live.vr r = { s.live.vr r with queue := (s.live.vr r).queue ++ [s.live.setvCmd c value slew] }) :=
  h.changes hw.toVcWordOf (Live.countWith_keep _ _ _ _ _ rfl)
    (by rw [vcAct_setv hw hslew ht hst, if_neg hbad, if_neg (by simp [hreg]), if_neg hdone, if_neg hcapped])

end Setv

/-! ## ACKCAP (R267) and SETMODE (R265) -/

section Ackcap
variable (hw : VcAllowed w 6 c value 0) (hvalue : value < 32) (ht : s.live.VcTakes p c r) (hst : (s.live.rail r).st ≠ .idle)
include hw hvalue ht hst

omit h in
theorem vcAct_ackcap : (s.live.vcHeard p w).vcAct p w =
    if 16 < value then (s.live.vcHeard p w, 3, none)
    else if value = (s.live.vr r).level then ((s.live.vcHeard p w).modVr r fun q => { q with ack := q.level, grace := none }, 0, none)
    else (s.live.vcHeard p w, 2, none) := by
  have hheard := s.live.vcHeard_portsOnly p w
  rw [Live.vcAct_ackcap hw (ht.heard p w) (by rwa [hheard.rail])]
  simp only [Live.vcAckcap, hw.level hvalue, hheard.vr]
  split_ifs <;> rfl

include h

theorem ackcap_bad (hbad : 16 < value) : Gives (exec i s) (VcReplied s p c 3 (VcIdle s)) :=
  h.idles hw.toVcWordOf (by rw [vcAct_ackcap hw hvalue ht hst, if_pos hbad])

theorem ackcap_stale (hle : value ≤ 16) (hne : value ≠ (s.live.vr r).level) : Gives (exec i s) (VcReplied s p c 2 (VcIdle s)) :=
  h.idles hw.toVcWordOf (by rw [vcAct_ackcap hw hvalue ht hst, if_neg (Nat.not_lt_of_le hle), if_neg hne])

theorem ackcap_taken (hle : value ≤ 16) (heq : value = (s.live.vr r).level) : Gives (exec i s) (VcReplied s p c 0 fun t =>
    t.live.vr r = { s.live.vr r with ack := (s.live.vr r).level, grace := none }) :=
  h.changes hw.toVcWordOf rfl (by rw [vcAct_ackcap hw hvalue ht hst, if_neg (Nat.not_lt_of_le hle), if_pos heq])

end Ackcap

end VcSends

/-- The mode that a value and an argument ask for. -/
def vcMode (value : Nat) : Nat → ModeCmd
  | 0 => .auto
  | 1 => .full
  | _ => .evmask (BitVec.ofNat 2 value)

theorem Live.vcSetmode_eq {w : Word} {op value arg : Nat} {c : VcCmd} (h : VcWordOf w op c value arg)
    (hvalue : value < 4) (l : Live) (r : Nat) :
    l.vcSetmode r w = (0, l.modVr r fun q => { q with modes := q.modes ++ [(vcMode value arg, l.now)] }) := by
  unfold Live.vcSetmode
  rw [h.arg, h.mask hvalue]
  rcases arg with _ | _ | _ <;> rfl

/-- The mode waits for a course. -/
theorem VcSends.setmode_queued {s : State} {p : Nat} {w : Word} {i : Instr} (h : VcSends s p w i) {value arg r : Nat} {c : VcCmd}
    (hw : VcAllowed w 7 c value arg) (hvalue : value < 4) (ht : s.live.VcTakes p c r) (hst : (s.live.rail r).st ≠ .idle) :
    Gives (exec i s) (VcReplied s p c 0 fun t =>
      t.live.vr r = { s.live.vr r with modes := (s.live.vr r).modes ++ [(vcMode value arg, s.live.now)] }) := by
  have hheard := s.live.vcHeard_portsOnly p w
  exact h.changes hw.toVcWordOf rfl (by
    rw [Live.vcAct_setmode hw (ht.heard p w) (by rwa [hheard.rail]), Live.vcSetmode_eq hw.toVcWordOf hvalue, hheard.now])

/-! ## Words that are bad, and frames that are abandoned (R247, R248, R253) -/

/-- A command that is not answered leaves the port without a response. -/
theorem Live.vcCommand_unanswered_respLen (l : Live) (p : Nat) (w : Word) : ((l.vcCommand p w false).vp p).respLen = 0 :=
  congrArg VcPort.respLen (Live.modVp_vp_same _ p _)

section Bad
variable {s : State} {p : Fin 16} (hserves : s.live.vcServes p = true)
include hserves

theorem vcSends_bad {w : Word} (hbad : vcCrcOk w = false ∨ vcMalformed w = true) : VcSends s p w (.vcBadCommand p w false) where
  serves := hserves
  runs := by
    show execVcBadCommand p w false s = _
    unfold execVcBadCommand
    exact upd_congr (if_pos (by simpa using hbad))

theorem vcBadCommand_badCrc {w : Word} (hcrc : vcCrcOk w = false) : Gives (exec (.vcBadCommand p w false) s) (fun t =>
    (t.live.vp p).resp = vcShort 6 (fld w 27 26) (fld w 25 24) ∧ (t.live.vp p).badCrc = (s.live.vp p).badCrc + 1 ∧
    SameBut [.vcp, .recd, .w1c] s t) := by
  have honly := (s.live.vcHeard_portsOnly p w).trans (Live.vcAnswer_portsOnly _ p w 6 none)
  refine ⟨_, (vcSends_bad hserves (.inl hcrc)).answers (Live.vcAct_badCrc hcrc), ?_, ?_, honly.sameBut⟩
  · simp [Live.vcAnswer_vp_same, vcReply]
  · simp [Live.vcAnswer_vp_same, Live.vcHeard_vp_same, hcrc]

theorem vcBadCommand_malformed {w : Word} (hcrc : vcCrcOk w = true) (hbad : vcMalformed w = true) :
    Gives (exec (.vcBadCommand p w false) s) (fun t =>
      (t.live.vp p).resp = vcShort 3 (fld w 27 26) (fld w 25 24) ∧ (t.live.vp p).badCrc = (s.live.vp p).badCrc ∧
      (t.live.vp p).lastCmd = w ∧ SameBut [.vcp, .recd, .w1c] s t) := by
  have honly := (s.live.vcHeard_portsOnly p w).trans (Live.vcAnswer_portsOnly _ p w 3 none)
  refine ⟨_, (vcSends_bad hserves (.inr hbad)).answers (Live.vcAct_malformed hcrc hbad), ?_, ?_, ?_, honly.sameBut⟩
  · simp [Live.vcAnswer_vp_same, vcReply]
  · simp [Live.vcAnswer_vp_same, Live.vcHeard_vp_same, hcrc]
  · simp [Live.vcAnswer_vp_same, Live.vcHeard_vp_same, hcrc]

theorem vcFrameTimeout_silent : Gives (exec (.vcFrameTimeout p none) s) (fun t =>
    (t.live.vp p).respLen = 0 ∧ SameBut [.vcp, .recd, .w1c] s t) := by
  have hout : s.live.vcAbandon p none = (s.live.countWith 70 1 { req := some p.val }).modVp p fun v => { v with resp := 0, respLen := 0 } :=
    if_neg (by simp [hserves])
  refine upd_gives_of_eq (f := fun l => l.vcAbandon p none) hout ⟨?_, live_sameBut (m := 68158464) (by simp) _ (by decide)⟩
  exact congrArg VcPort.respLen (Live.modVp_vp_same _ _ _)

/-- Under contention the command acts, but its response is lost (R248). -/
theorem contended_silent {i : Instr} {c : VcCmd} {w : Word} (h : exec i s = s.upd fun l => l.vcFrame p w c.contend)
    (hc : c.contend = true) :
    Gives (exec i s) (fun t => (t.live.vp p).respLen = 0 ∧ Raised s t [s.live.detailOf 0x5003 (oVc p)]) := by
  have hexec : exec i s = s.upd fun l => (l.vcCommand p w false).raise 0x5003 (oVc p) := by
    rw [h, hc]
    exact upd_congr (Live.vcFrame_contended hserves w)
  refine ⟨_, hexec, ?_, raise_raised (Live.same_now (by simp)) (Live.same_fc (by simp)) _ _ _⟩
  simp [Live.vcCommand_unanswered_respLen]

end Bad

/-! ## The judgement (R253) -/

section Judged
variable {s : State} {p : Fin 16} {c : VcCmd} {r : Nat} (hserves : s.live.vcServes p = true) (hwhole : c.contend = false)
include hserves hwhole

/-- An `EVMASK` of more than two bits is malformed. -/
theorem setmodeEvmask_bad {m : BitVec 12} (hm : 4 ≤ m.toNat) :
    Gives (exec (.setmodeEvmask p c m) s) (VcReplied s p c 3 (VcIdle s)) := by
  have hw := vcSays_setmode c m (by decide : 2 < 16)
  exact (vcSends hserves hwhole rfl).idles hw (Live.vcAct_malformed hw.crc (by simpa [vcMalformed, hw.op, hw.value, hw.arg] using hm))

variable (ht : s.live.VcTakes p c r)
include ht

theorem setmode_judged (hst : (s.live.rail r).st ≠ .idle) :
    Gives (exec (.setmodeAuto p c 0) s) (VcReplied s p c 0 fun t =>
      t.live.vr r = { s.live.vr r with modes := (s.live.vr r).modes ++ [(.auto, s.live.now)] }) ∧
    Gives (exec (.setmodeFull p c 0) s) (VcReplied s p c 0 fun t =>
      t.live.vr r = { s.live.vr r with modes := (s.live.vr r).modes ++ [(.full, s.live.now)] }) ∧
    ∀ m : BitVec 12, m.toNat < 4 → Gives (exec (.setmodeEvmask p c m) s) (VcReplied s p c 0 fun t =>
      t.live.vr r = { s.live.vr r with modes := (s.live.vr r).modes ++ [(.evmask (m.setWidth 2), s.live.now)] }) := by
  refine ⟨?_, ?_, fun m hm => ?_⟩
  · exact (vcSends hserves hwhole rfl).setmode_queued (vcAllowed_setmode (a := 0) c (.inl ⟨by decide, rfl⟩)) (by decide) ht hst
  · exact (vcSends hserves hwhole rfl).setmode_queued (vcAllowed_setmode (a := 1) c (.inl ⟨by decide, rfl⟩)) (by decide) ht hst
  · exact (vcSends hserves hwhole rfl).setmode_queued (vcAllowed_setmode c (.inr ⟨rfl, hm⟩)) hm ht hst

end Judged

/-- Settles O38: the port judges a command of the state as it was heard, where only ports and counters differ. -/
theorem voltagePortCommandsAreJudged : Obligations.VoltagePortCommandsAreJudged := by
  intro s p c hserves l replies idle
  refine ⟨fun hc hsafe v g => ?_, fun hc hsafe hrail v g => ?_, fun r hc hsafe hrail => ?_, fun w => vcBadCommand_badCrc hserves,
    fun w => vcBadCommand_malformed hserves, vcFrameTimeout_silent hserves, fun v g => contended_silent hserves rfl⟩
  · exact (vcSends hserves hc rfl).safe_idles (vcAllowed_setv c v g) (by decide) hsafe
  · exact (vcSends hserves hc rfl).unbound_idles (vcAllowed_setv c v g) (by decide) hsafe hrail
  · have ht : s.live.VcTakes p c r := ⟨hsafe, hrail⟩
    refine ⟨fun hst => ⟨fun v g => ?_, fun a => ?_, ?_⟩, fun hst => ⟨fun v g => ?_, fun a => ?_, ?_⟩⟩
    · exact (vcSends hserves hc rfl).rail_idles (vcAllowed_setv c v g) (.inl rfl) ht hst
    · exact (vcSends hserves hc rfl).rail_idles (vcAllowed_ackcap c a) (.inr (.inl rfl)) ht hst
    · exact (vcSends hserves hc rfl).rail_idles (vcAllowed_setmode c (.inl ⟨by decide, rfl⟩)) (.inr (.inr rfl)) ht hst
    · have hsends : VcSends s p _ (.setv p c v g) := vcSends hserves hc rfl
      have hw := vcAllowed_setv c v g
      exact ⟨hsends.setv_bad hw g.isLt ht hst, hsends.setv_off hw g.isLt ht hst, hsends.setv_done hw g.isLt ht hst,
        hsends.setv_capped hw g.isLt ht hst, hsends.setv_queued hw g.isLt ht hst⟩
    · have hsends : VcSends s p _ (.ackcap p c a) := vcSends hserves hc rfl
      have hw := vcAllowed_ackcap c a
      exact ⟨hsends.ackcap_bad hw a.isLt ht hst, hsends.ackcap_stale hw a.isLt ht hst, hsends.ackcap_taken hw a.isLt ht hst⟩
    · obtain ⟨hauto, hfull, hmask⟩ := setmode_judged hserves hc ht hst
      exact ⟨hauto, hfull, hmask, fun m hm => setmodeEvmask_bad hserves hc hm⟩

end Sys2Proof.Machine
end

section
/-! PROOFS. The events of the voltage command ports: how a SETV settles or fails (R257, R259), a cap that is not acknowledged (R268), a
burst of bad words (R274) and the level of a bank (R610). -/
open Sys2Proof Sys2Proof.Machine
namespace Sys2Proof.Machine

/-! ## What an event of a rail makes of it (R257, R259, R268) -/

section Rail
variable {s : State} {r : Fin 48} {c : SetvCmd}

theorem setvSettled_sets (hout : (s.live.vr r).outst = some c) (hrun : 2 ≤ c.run) :
    Gives (exec (.setvSettled r) s) (fun t => t.live.vr r = { s.live.vr r with set := true, stag := c.tag, outst := none } ∧
      (∀ m, m ≠ r.val → t.live.vr m = s.live.vr m) ∧ SameBut [.vcr, .recd, .w1c] s t) := by
  have hexec : exec (.setvSettled r) s = s.upd fun l =>
      (l.countWith 67 1 { req := l.railPort r }).modVr r fun v => { v with set := true, stag := c.tag, outst := none } := by
    show execSetvSettled _ s = _
    unfold execSetvSettled
    exact upd_congr (by simp only [hout, if_pos hrun])
  refine ⟨_, hexec, ?_, fun m hm => ?_, live_sameBut (m := 68159488) (by simp) _ (by decide)⟩
  · rw [Live.modVr_vr_same, Live.countWith_vr]
  · rw [Live.modVr_vr_other _ _ _ _ hm, Live.countWith_vr]

theorem setvSettled_of_lt (hout : (s.live.vr r).outst = some c) (hrun : c.run < 2) : exec (.setvSettled r) s = .next s := by
  show execSetvSettled _ s = _
  unfold execSetvSettled
  exact upd_congr (g := id) (by simp [hout, Nat.not_le_of_lt hrun])

theorem vcSettleFail_marks {n a : Nat} (hout : (s.live.vr r).outst = some c) (hport : s.live.railPort r = some n)
    (hcalm : c.calmAt = some a) (hfailed : c.failed = false) (hlong : a + s.live.cf (oVc n) 1 15 8 * 200000 ≤ s.live.now) :
    Gives (exec (.vcSettleFail r) s) (fun t =>
      t.live.vr r = { s.live.vr r with sfail := true, outst := some { c with failed := true } } ∧
      Raised s t [s.live.detailOf 0x5002 (oVc n) r] ∧ SameBut [.vcr, .fc] s t) := by
  have hexec : exec (.vcSettleFail r) s = s.upd fun l =>
      (l.modVr r fun v => { v with sfail := true, outst := some { c with failed := true } }).raise 0x5002 (oVc n) r := by
    show execVcSettleFail _ s = _
    unfold execVcSettleFail
    exact upd_congr (by simp [hout, hport, hcalm, hfailed, bondTicks, hlong])
  exact ⟨_, hexec, by simp, rfl, live_sameBut (m := 34816) (by simp) _ (by decide)⟩

/-- The rail draws more than its cap. -/
def Live.overCap (l : Live) (r : Nat) : Bool :=
  match l.cap r, (l.rail r).i with | some a, some i => decide (a < i) | _, _ => false

/-- A rail above its cap is noted for shedding (R299). -/
def Power.ignoring (q : Power) (r : Nat) : Power :=
  { q with ignored := if q.ignored.contains r then q.ignored else q.ignored ++ [r] }

theorem Power.mem_ignoring (q : Power) (r : Nat) : r ∈ (q.ignoring r).ignored := by
  unfold Power.ignoring
  split <;> simp_all

theorem vcCapNoack_raises {g n : Nat} (hgrace : (s.live.vr r).grace = some g) (hbound : s.live.railBound r = some n)
    (hlong : g + s.live.cf (oVc n) 0 6 0 * 200000 ≤ s.live.now) :
    Gives (exec (.vcCapNoack r) s) (fun t => t.live.vr r = { s.live.vr r with grace := none } ∧
      Raised s t [s.live.detailOf 0x5001 (oRail r) n, s.live.detailOf 0x6007 (oRail r)] ∧ SameBut [.vcr, .fc, .pp] s t ∧
      ((∃ a i, s.live.cap r = some a ∧ (s.live.rail r).i = some i ∧ a < i) → r.val ∈ t.live.pp.ignored)) := by
  let k := ((s.live.modVr r fun v => { v with grace := none }).raise 0x5001 (oRail r) n).raise 0x6007 (oRail r)
  have hexec : exec (.vcCapNoack r) s = s.upd fun l => if l.overCap r then k.modPp fun q => q.ignoring r else k := by
    show execVcCapNoack _ s = _
    unfold execVcCapNoack
    refine upd_congr ?_
    simp only [hgrace, hbound]
    exact if_pos hlong
  have hvr : k.vr r = { s.live.vr r with grace := none } := by simp [k]
  have hraised : k.fc.details = s.live.fc.details ++ [s.live.detailOf 0x5001 (oRail r) n, s.live.detailOf 0x6007 (oRail r)] :=
    List.append_assoc _ _ _
  refine ⟨_, hexec, ?_, ?_, live_sameBut (m := 38912) (by simp [k, Live.less_ite]) _ (by decide), ?_⟩
  · dsimp only
    split <;> exact hvr
  · dsimp only [Raised]
    split <;> exact hraised
  · rintro ⟨a, i, hcap, hi, hlt⟩
    have hover : s.live.overCap r = true := by simp [Live.overCap, hcap, hi, hlt]
    dsimp only
    rw [if_pos hover]
    exact Power.mem_ignoring _ _

end Rail

/-! ## A burst of bad words (R274) -/

section Burst
variable {s : State} {p : Fin 16}

theorem vcCrcBurst_raises (h : 16 ≤ (s.live.vp p).badCrc) : Gives (exec (.vcCrcBurst p) s) (fun t =>
    t.live.vp p = { s.live.vp p with badCrc := 0 } ∧ Raised s t [s.live.detailOf 0x5004 (oVc p)] ∧ SameBut [.vcp, .fc] s t) := by
  have hexec : exec (.vcCrcBurst p) s = s.upd fun l => (l.modVp p fun v => { v with badCrc := 0 }).raise 0x5004 (oVc p) :=
    upd_congr (if_pos h)
  exact ⟨_, hexec, by simp, rfl, live_sameBut (m := 33792) (by simp) _ (by decide)⟩

theorem vcCrcBurst_of_lt (h : (s.live.vp p).badCrc < 16) : exec (.vcCrcBurst p) s = .next s :=
  upd_congr (g := id) (if_neg (Nat.not_le_of_lt h))

end Burst

/-! ## The level of a bank (R610) -/

/-- The level that the controller has of a bank. -/
def Adc.bank (a : Adc) (b : Nat) : Nat := if !a.vbok.getLsbD b then 0 else if a.vb18.getLsbD b then 2 else 1

/-- The bank is put on a level. -/
def Adc.setBank (a : Adc) (b level : Nat) : Adc :=
  { a with
    vbok := if level = 0 then a.vbok &&& ~~~BitVec.ofNat 4 (2 ^ b) else a.vbok ||| BitVec.ofNat 4 (2 ^ b)
    vb18 := if level = 2 then a.vb18 ||| BitVec.ofNat 4 (2 ^ b) else a.vb18 &&& ~~~BitVec.ofNat 4 (2 ^ b) }

theorem bankMask_getLsbD : ∀ b m : Fin 4, (BitVec.ofNat 4 (2 ^ b.val)).getLsbD m = decide (m = b) := by decide

theorem bankSet_getLsbD (x : BitVec 4) (b m : Fin 4) :
    (x ||| BitVec.ofNat 4 (2 ^ b.val)).getLsbD m = if m = b then true else x.getLsbD m := by
  rw [BitVec.getLsbD_or, bankMask_getLsbD]
  split
  next h => rw [decide_eq_true h, Bool.or_true]
  next h => rw [decide_eq_false h, Bool.or_false]

theorem bankClear_getLsbD (x : BitVec 4) (b m : Fin 4) :
    (x &&& ~~~BitVec.ofNat 4 (2 ^ b.val)).getLsbD m = if m = b then false else x.getLsbD m := by
  rw [BitVec.getLsbD_and, BitVec.getLsbD_not, bankMask_getLsbD, decide_eq_true m.isLt, Bool.true_and]
  split
  next h => rw [decide_eq_true h, Bool.not_true, Bool.and_false]
  next h => rw [decide_eq_false h, Bool.not_false, Bool.and_true]

theorem Adc.setBank_vbok (a : Adc) (b m : Fin 4) (level : Nat) :
    (a.setBank b level).vbok.getLsbD m = if m = b then decide (level ≠ 0) else a.vbok.getLsbD m := by
  by_cases h : level = 0
  · rw [Adc.setBank, if_pos h, bankClear_getLsbD, decide_eq_false (not_not_intro h)]
  · rw [Adc.setBank, if_neg h, bankSet_getLsbD, decide_eq_true h]

theorem Adc.setBank_vb18 (a : Adc) (b m : Fin 4) (level : Nat) :
    (a.setBank b level).vb18.getLsbD m = if m = b then decide (level = 2) else a.vb18.getLsbD m := by
  by_cases h : level = 2
  · rw [Adc.setBank, if_pos h, bankSet_getLsbD, decide_eq_true h]
  · rw [Adc.setBank, if_neg h, bankClear_getLsbD, decide_eq_false h]

/-- The 1.8 V flag of a bank that is down says nothing. -/
theorem Adc.bank_reads {a : Adc} {b level : Nat} (h : a.bank b = level) :
    a.vbok.getLsbD b = decide (level ≠ 0) ∧ (level ≠ 0 → a.vb18.getLsbD b = decide (level = 2)) := by
  subst h
  unfold Adc.bank
  cases a.vbok.getLsbD b <;> cases a.vb18.getLsbD b <;> simp

theorem bankLevel_high {old mv : Nat} (h : 1500 ≤ mv) : bankLevel old mv = 2 := if_pos h

theorem bankLevel_mid {old mv : Nat} (hlow : 1050 ≤ mv) (hhigh : mv < 1450) : bankLevel old mv = 1 := by
  have hno : ¬ 1500 ≤ mv := by omega
  have hkeep : ¬ 1450 ≤ mv := by omega
  simp [bankLevel, hno, hkeep, hlow]

theorem bankLevel_low {old mv : Nat} (h : mv < 1000) : bankLevel old mv = 0 := by
  have hno : ¬ 1500 ≤ mv := by omega
  have hkeep : ¬ 1450 ≤ mv := by omega
  have hmid : ¬ 1050 ≤ mv := by omega
  have hlow : ¬ 1000 ≤ mv := by omega
  simp [bankLevel, hno, hkeep, hmid, hlow]

/-- Frames in progress are abandoned, and the bank is on its new level. -/
def Live.bankTo (l : Live) (b : Fin 4) (level : Nat) (fs : List (Fin 4 × Option Word)) : Live :=
  let k := l.forL fs fun l f => l.vcAbandon (4 * b + f.1) f.2
  { k with adc := k.adc.setBank b level }

/-- The frames that a change of level abandons leave the monitors alone. -/
theorem Live.bankTo_adc (l : Live) (b : Fin 4) (level : Nat) (fs : List (Fin 4 × Option Word)) :
    (l.bankTo b level fs).adc = l.adc.setBank b level := by
  have hadc : (l.forL fs fun l f => l.vcAbandon (4 * b + f.1) f.2).adc = l.adc := Live.same_adc (Live.less_forL fun l f => by simp)
  exact congrArg (Adc.setBank · b level) hadc

section Bank
variable {s : State} {b : Fin 4} {mv level : Nat} (h : bankLevel (s.live.adc.bank b) mv = level) (fs : List (Fin 4 × Option Word))
include h

theorem exec_vcBankChange_of_eq (hsame : s.live.adc.bank b = level) : exec (.vcBankChange b mv fs) s = .next s := by
  subst h
  show execVcBankChange b mv fs s = _
  unfold execVcBankChange
  exact upd_congr (g := id) (if_pos hsame)

theorem exec_vcBankChange_of_ne (hne : s.live.adc.bank b ≠ level) :
    exec (.vcBankChange b mv fs) s = s.upd fun l => l.bankTo b level fs := by
  subst h
  show execVcBankChange b mv fs s = _
  unfold execVcBankChange
  exact upd_congr (if_neg hne)

theorem vcBankChange_level : Gives (exec (.vcBankChange b mv fs) s) (fun t =>
    t.live.adc.vbok.getLsbD b = decide (level ≠ 0) ∧ (level ≠ 0 → t.live.adc.vb18.getLsbD b = decide (level = 2)) ∧
    ∀ m : Fin 4, m ≠ b → t.live.adc.vbok.getLsbD m = s.live.adc.vbok.getLsbD m ∧
      t.live.adc.vb18.getLsbD m = s.live.adc.vb18.getLsbD m) := by
  by_cases hsame : s.live.adc.bank b = level
  · obtain ⟨hok, h18⟩ := Adc.bank_reads hsame
    exact ⟨s, exec_vcBankChange_of_eq h fs hsame, hok, h18, fun m _ => ⟨rfl, rfl⟩⟩
  · refine ⟨_, exec_vcBankChange_of_ne h fs hsame, ?_⟩
    simp +contextual [Live.bankTo_adc, Adc.setBank_vbok, Adc.setBank_vb18, -BitVec.getLsbD_eq_getElem]

end Bank

/-- Settles O39: each event is one change that its guard allows, and a bank follows `bankLevel`. -/
theorem voltagePortEvents : Obligations.VoltagePortEvents := by
  intro s r p l q
  refine ⟨fun c => setvSettled_sets, fun c => setvSettled_of_lt, fun c n a => vcSettleFail_marks, fun g n => vcCapNoack_raises,
    vcCrcBurst_raises, vcCrcBurst_of_lt, fun b mv => ⟨fun hhigh fs => ?_, fun hlow hhigh fs => ?_, fun hlow fs => ?_⟩⟩
  · obtain ⟨t, hexec, hok, h18, hother⟩ := vcBankChange_level (bankLevel_high hhigh) fs
    exact ⟨t, hexec, hok, h18 (by decide), hother⟩
  · obtain ⟨t, hexec, hok, h18, -⟩ := vcBankChange_level (bankLevel_mid hlow hhigh) fs
    exact ⟨t, hexec, hok, h18 (by decide)⟩
  · obtain ⟨t, hexec, hok, -, -⟩ := vcBankChange_level (bankLevel_low hlow) fs
    exact ⟨t, hexec, hok⟩

end Sys2Proof.Machine
end

section
/-! PROOFS. The input stage: the sample of a course, a lost pair (Table 8.2), the collapse guard and its trips (R287, R289, R291), and
the end of the guard. -/
open Sys2Proof Sys2Proof.Machine
namespace Sys2Proof.Machine

/-! ## Inputs and settings that a change leaves -/

theorem Live.inp_congr {l k : Live} (h : k.pp.inputs = l.pp.inputs) (n : Nat) : k.inp n = l.inp n := by
  rw [Live.inp, h, Live.inp]

theorem Live.count_pp (l : Live) (n : Nat) : (l.count n).pp = l.pp := Live.same_pp (by simp)

theorem Live.count_inp (l : Live) (n j : Nat) : (l.count n).inp j = l.inp j := Live.inp_congr (congrArg Power.inputs (l.count_pp n)) j

section Settings
variable {l k : Live} (h : k.img = l.img)
include h

theorem Live.ppf_congr (w hi lo dflt : Nat) : k.ppf w hi lo dflt = l.ppf w hi lo dflt := by
  unfold Live.ppf Live.given Live.cf Live.cw
  rw [h]

theorem Live.gtrip_congr : k.gtrip = l.gtrip := by
  rw [Live.gtrip, Live.ppf_congr h, Live.gtrip]

theorem Live.gback_congr : k.gback = l.gback := by
  rw [Live.gback, Live.ppf_congr h, Live.gback]

theorem Live.mains_congr (j : Nat) : k.mains j = l.mains j := by
  simp only [Live.mains, Live.cb, Live.cw, h]

end Settings

/-! ## The sample of a course (R279) -/

/-- The input with the sample `x` of the course that started at `at_`; without a new V_in it keeps the last. -/
def Input.sampled (i : Input) (at_ : Nat) (x : Option Rat × Rat) : Input :=
  let v := x.1.getD i.vin
  { i with workAt := some at_, vin := v, icur := x.2, lowRun := if i.st.guards && v < 60 then i.lowRun + 1 else 0 }

theorem Input.sampled_lowRun (i : Input) (at_ : Nat) (x : Option Rat × Rat) :
    (i.sampled at_ x).lowRun = if i.st.guards = true ∧ x.1.getD i.vin < 60 then i.lowRun + 1 else 0 :=
  if_congr (by simp) rfl rfl

section Sample
variable {l : Live} {j at_ : Nat} {q : Stn}

theorem Live.stageSample_of_unusable (h : (l.slot q.ring q.slot).usable = false) :
    l.stageSample j at_ q = l.modInp j fun i => { i with workAt := some at_ } := by
  unfold Live.stageSample
  exact if_pos (by rw [h]; rfl)

theorem Live.stageSample_inp_same (h : (l.slot q.ring q.slot).usable = true) :
    (l.stageSample j at_ q).inp j = (l.inp j).sampled at_ (l.inpSample q (l.slot q.ring q.slot)) := by
  unfold Live.stageSample
  dsimp only
  rw [if_neg (by simp [h]), Live.modInp_inp_same, Live.modInp_inp_same, Live.modInp_inp_same]
  rfl

theorem Live.stageSample_inp_other {m : Nat} (hm : m ≠ j) : (l.stageSample j at_ q).inp m = l.inp m := by
  unfold Live.stageSample
  extract_lets slot l1 x l2
  have h1 : l1.inp m = l.inp m := Live.modInp_inp_other _ _ _ _ hm
  split
  · exact h1
  · exact (Live.modInp_inp_other _ _ _ _ hm).trans ((Live.modInp_inp_other _ _ _ _ hm).trans h1)

theorem Live.stageSample_trips : ((l.stageSample j at_ q).inp j).trips = (l.inp j).trips := by
  cases h : (l.slot q.ring q.slot).usable
  · rw [Live.stageSample_of_unusable h, Live.modInp_inp_same]
  · rw [Live.stageSample_inp_same h]
    rfl

end Sample

/-! ## A lost pair (R291, Table 8.2) -/

/-- V_in of a guarded input has been low in four courses, one behind the other. -/
def Input.lost (i : Input) : Bool := i.st.guards && 4 ≤ i.lowRun

theorem Input.lost_iff {i : Input} : i.lost = true ↔ i.st.guards = true ∧ 4 ≤ i.lowRun := by
  simp [Input.lost]

theorem Input.not_lost_iff {i : Input} : i.lost = false ↔ i.st.guards = false ∨ i.lowRun < 4 := by
  rw [← Bool.not_eq_true, Input.lost_iff, not_and_or, Bool.not_eq_true, not_le]

/-- The input behind the loss of its pair. -/
def Input.lose (i : Input) : Input :=
  { i with st := .dark, rhat := none, rlast := none, restored := false, lostNow := true, backOff := none, lowRun := 0, probeBond := 0 }

/-- What the loss of input `j`'s pair makes of `s`. -/
def PairLost (s : State) (j : Nat) (t : State) : Prop :=
  (t.live.inp j).st = .dark ∧ (t.live.inp j).rhat = none ∧ (t.live.inp j).lostNow = true ∧ (t.live.inp j).backOff = none ∧
    (t.live.inp j).trips = (s.live.inp j).trips ∧ Raised s t [s.live.detailOf 0x6003 (oInput j)] ∧
    (∀ m, m ≠ j → t.live.inp m = s.live.inp m) ∧ SameBut [.pp, .fc, .recd, .w1c] s t

section Loss
variable {l : Live} {j : Nat}

theorem Live.pairLost_of_lost (h : (l.inp j).lost = true) :
    l.pairLost j = ((l.modInp j Input.lose).count 98).raise 0x6003 (oInput j) := if_pos h

theorem Live.pairLost_of_not (h : (l.inp j).lost = false) : l.pairLost j = l := if_neg (ne_true_of_eq_false h)

theorem Live.pairLost_inp (h : (l.inp j).lost = true) (m : Nat) :
    (l.pairLost j).inp m = if m = j then (l.inp j).lose else l.inp m := by
  rw [Live.pairLost_of_lost h, Live.raise_inp, Live.count_inp, Live.modInp_inp]

/-- The pair is lost in a state `k` on the way, in which the input has the trips and the other inputs are those of `s`. -/
theorem pairLost_loses {s : State} {k : Live} (hkeep : Live.less 4096 k = Live.less 4096 s.live)
    (htrips : (k.inp j).trips = (s.live.inp j).trips) (hother : ∀ m, m ≠ j → k.inp m = s.live.inp m)
    (hlost : (k.inp j).lost = true) : PairLost s j { s with live := k.pairLost j } := by
  have hinp := Live.pairLost_inp hlost
  have hself : (k.pairLost j).inp j = (k.inp j).lose := (hinp j).trans (if_pos rfl)
  have hcounted : Live.less 68161536 ((k.modInp j Input.lose).count 98) = Live.less 68161536 s.live := by
    simp [Live.less_le (m := 68161536) (by decide) hkeep]
  refine ⟨congrArg Input.st hself, congrArg Input.rhat hself, congrArg Input.lostNow hself, congrArg Input.backOff hself,
    (congrArg Input.trips hself).trans htrips, ?_, fun m hm => ?_, ?_⟩
  · rw [Live.pairLost_of_lost hlost]
    exact raise_raised (Live.less_now hcounted (by decide)) (Live.less_fc hcounted (by decide)) _ _ 0
  · exact ((hinp m).trans (if_neg hm)).trans (hother m hm)
  · refine live_sameBut (m := 68194304) ?_ _ (by decide)
    simp [Live.less_le (m := 68194304) (by decide) hkeep]

end Loss

/-! ## The collapse guard (R287, R288) -/

/-- V̂_s of the guard, behind the resistance R_g. -/
def Input.behind (i : Input) (rg : Rat) : Rat := i.vin + i.icur * rg

/-- The collapse index κ. -/
def Input.index (i : Input) (rg : Rat) : Rat := if i.behind rg = 0 then 0 else 2 * i.icur * rg / i.behind rg

/-- The input when its guard trips in bond `bond`, with the back-off current. -/
def Input.trip (i : Input) (back : Rat) (bond : Nat) : Input :=
  { i with backOff := some (back, if i.icur = 0 then 0 else back / i.icur), trips := bond :: i.trips, tripsNew := i.tripsNew + 1, tripAt := bond }

/-- The input without what its guard changes. -/
def Input.unguarded (i : Input) : Input := { i with kappa := 0, backOff := none, trips := [], tripsNew := 0, tripAt := 0 }

theorem Input.sample_of_unguarded {a b : Input} (h : a.unguarded = b.unguarded) :
    a.workAt = b.workAt ∧ a.vin = b.vin ∧ a.icur = b.icur ∧ a.st = b.st ∧ a.lowRun = b.lowRun :=
  ⟨(congrArg Input.workAt h :), (congrArg Input.vin h :), (congrArg Input.icur h :), (congrArg Input.st h :), (congrArg Input.lowRun h :)⟩

/-- What the guard makes of the watched input `i` with resistance R_g: `k` has the index, and a trip above `GTRIP`. -/
structure Live.Guards (l : Live) (i : Input) (rg : Rat) (k : Input) : Prop where
  kappa : k.kappa = i.index rg
  trip : l.gtrip < i.index rg → k = Input.trip { i with kappa := i.index rg } (l.gback * i.behind rg / (2 * rg)) l.bond
  calm : i.index rg ≤ l.gtrip → k = { i with kappa := i.index rg }

theorem Live.Guards.congr {l l' : Live} {i k : Input} {rg : Rat} (h : l'.Guards i rg k) (himg : l'.img = l.img)
    (hbond : l'.bond = l.bond) : l.Guards i rg k := by
  refine ⟨h.kappa, ?_, ?_⟩
  · rw [← Live.gtrip_congr himg, ← Live.gback_congr himg, ← hbond]
    exact h.trip
  · rw [← Live.gtrip_congr himg]
    exact h.calm

section Guard
variable {l : Live} {j : Nat}

/-- An input with no estimate has no guard. -/
theorem Live.guardWork_of_rg_none (h : (l.inp j).rg = none) : l.guardWork j = l := by
  simp only [Live.guardWork, h]

/-- The guard of an input that it watches and that does not run on the mains. -/
theorem Live.guardWork_of_rg_some {rg : Rat} (hrg : (l.inp j).rg = some rg) (hguards : (l.inp j).st.guards = true)
    (hmains : l.mains j = false) :
    l.guardWork j = if l.gtrip < (l.inp j).index rg then
      ((l.modInp j fun i => { i with kappa := (l.inp j).index rg }).count 97).modInp j
        fun i => i.trip (l.gback * (l.inp j).behind rg / (2 * rg)) l.bond
    else l.modInp j fun i => { i with kappa := (l.inp j).index rg } := by
  simp only [Live.guardWork, hrg]
  exact if_neg (by simp [hguards, hmains])

section Watched
variable {rg : Rat} (hrg : (l.inp j).rg = some rg) (hguards : (l.inp j).st.guards = true) (hmains : l.mains j = false)
include hrg hguards hmains

theorem Live.guardWork_guards : l.Guards (l.inp j) rg ((l.guardWork j).inp j) := by
  rw [Live.guardWork_of_rg_some hrg hguards hmains]
  split
  next htrip =>
    rw [Live.modInp_inp_same, Live.count_inp, Live.modInp_inp_same]
    exact ⟨rfl, fun _ => rfl, fun hcalm => absurd htrip (not_lt_of_ge hcalm)⟩
  next hcalm =>
    rw [Live.modInp_inp_same]
    exact ⟨rfl, fun htrip => absurd htrip hcalm, fun _ => rfl⟩

end Watched

/-- The guard does nothing, or the input is watched and has an estimate. -/
theorem Live.guardWork_idle_or_watched (l : Live) (j : Nat) :
    l.guardWork j = l ∨ ∃ rg, (l.inp j).rg = some rg ∧ (l.inp j).st.guards = true ∧ l.mains j = false := by
  cases hrg : (l.inp j).rg with
  | none => exact .inl (Live.guardWork_of_rg_none hrg)
  | some rg =>
    by_cases hwatch : (l.inp j).st.guards = true ∧ l.mains j = false
    · exact .inr ⟨rg, rfl, hwatch⟩
    · refine .inl ?_
      simp only [Live.guardWork, hrg]
      exact if_pos (by simpa [or_iff_not_imp_left] using hwatch)

theorem Live.guardWork_unguarded (l : Live) (j : Nat) : ((l.guardWork j).inp j).unguarded = (l.inp j).unguarded := by
  rcases l.guardWork_idle_or_watched j with hidle | ⟨rg, hrg, hguards, hmains⟩
  · rw [hidle]
  have hguard := Live.guardWork_guards hrg hguards hmains
  rcases lt_or_ge l.gtrip ((l.inp j).index rg) with htrip | hcalm
  · rw [hguard.trip htrip]
    rfl
  · rw [hguard.calm hcalm]
    rfl

theorem Live.guardWork_inp_other (l : Live) {j m : Nat} (hm : m ≠ j) : (l.guardWork j).inp m = l.inp m := by
  rcases l.guardWork_idle_or_watched j with hidle | ⟨rg, hrg, hguards, hmains⟩
  · rw [hidle]
  rw [Live.guardWork_of_rg_some hrg hguards hmains]
  split
  · rw [Live.modInp_inp_other _ _ _ _ hm, Live.count_inp, Live.modInp_inp_other _ _ _ _ hm]
  · exact Live.modInp_inp_other _ _ _ _ hm

end Guard

/-! ## INPUT_STAGE and PP_PAIR_LOST -/

section Stage
variable {s : State} {j : Fin 64} {at_ : Nat} {q : Stn}

theorem exec_inputStage_of_none (hdue : s.live.stageDue j = none) : exec (.inputStage j) s = .next s := by
  show execInputStage j s = _
  unfold execInputStage
  exact upd_congr (g := id) (by simp only [hdue, id])

section Due
variable (hdue : s.live.stageDue j = some (at_, q))
include hdue

theorem exec_inputStage_of_usable (husable : (s.live.slot q.ring q.slot).usable = true) :
    exec (.inputStage j) s = s.upd fun l => ((l.stageSample j at_ q).pairLost j).guardWork j := by
  show execInputStage j s = _
  unfold execInputStage
  refine upd_congr ?_
  simp only [hdue]
  exact if_pos husable

theorem inputStage_of_unusable (hunusable : (s.live.slot q.ring q.slot).usable = false) : Gives (exec (.inputStage j) s) (fun u =>
    u.live.inp j = { s.live.inp j with workAt := some at_ } ∧ SameBut [.pp] s u) := by
  have hexec : exec (.inputStage j) s = s.upd fun l => l.modInp j fun i => { i with workAt := some at_ } := by
    show execInputStage j s = _
    unfold execInputStage
    refine upd_congr ?_
    simp only [hdue]
    exact (if_neg (ne_true_of_eq_false hunusable)).trans (Live.stageSample_of_unusable hunusable)
  exact ⟨_, hexec, Live.modInp_inp_same _ _ _, live_sameBut (m := 4096) (by simp) _ (by decide)⟩

/-- The sample has been taken, and the pair is lost: without an estimate the guard has nothing to do. -/
theorem inputStage_loses (husable : (s.live.slot q.ring q.slot).usable = true)
    (hlost : ((s.live.inp j).sampled at_ (s.live.inpSample q (s.live.slot q.ring q.slot))).lost = true) :
    Gives (exec (.inputStage j) s) (fun u => (u.live.inp j).workAt = some at_ ∧ PairLost s j u) := by
  have hsample := Live.stageSample_inp_same (j := j) (at_ := at_) husable
  have hlost' : ((s.live.stageSample j at_ q).inp j).lost = true := hsample ▸ hlost
  have hinp := (Live.pairLost_inp hlost' j).trans (if_pos rfl)
  have hguard : ((s.live.stageSample j at_ q).pairLost j).guardWork j = (s.live.stageSample j at_ q).pairLost j :=
    Live.guardWork_of_rg_none (congrArg Input.rg hinp)
  refine gives_of_eq (exec_inputStage_of_usable hdue husable) (upd_gives_of_eq hguard ⟨?_, ?_⟩)
  · exact (congrArg Input.workAt hinp).trans (congrArg Input.workAt hsample)
  · exact pairLost_loses (by simp) Live.stageSample_trips (fun m hm => Live.stageSample_inp_other hm) hlost'

/-- The sample has been taken and the pair is there: the guard works on the sample. -/
theorem exec_inputStage_of_kept (husable : (s.live.slot q.ring q.slot).usable = true)
    (hkept : ((s.live.inp j).sampled at_ (s.live.inpSample q (s.live.slot q.ring q.slot))).lost = false) :
    exec (.inputStage j) s = s.upd fun l => (l.stageSample j at_ q).guardWork j := by
  have hpair : (s.live.stageSample j at_ q).pairLost j = s.live.stageSample j at_ q :=
    Live.pairLost_of_not (Live.stageSample_inp_same husable ▸ hkept)
  exact (exec_inputStage_of_usable hdue husable).trans (upd_congr (congrArg (Live.guardWork · j) hpair))

theorem inputStage_samples (husable : (s.live.slot q.ring q.slot).usable = true) {i : Input}
    (hi : (s.live.inp j).sampled at_ (s.live.inpSample q (s.live.slot q.ring q.slot)) = i) (hkept : i.lost = false) :
    Gives (exec (.inputStage j) s) (fun u => (u.live.inp j).unguarded = i.unguarded ∧
      (∀ m, m ≠ j.val → u.live.inp m = s.live.inp m) ∧ SameBut [.pp, .recd, .w1c] s u ∧
      ∀ rg, i.rg = some rg → i.st.guards = true → s.live.mains j = false → s.live.Guards i rg (u.live.inp j)) := by
  have hinp : (s.live.stageSample j at_ q).inp j = i := (Live.stageSample_inp_same husable).trans hi
  have himg : (s.live.stageSample j at_ q).img = s.live.img := Live.same_img (by simp)
  have hbond : (s.live.stageSample j at_ q).bond = s.live.bond := Live.same_bond (by simp)
  refine ⟨_, exec_inputStage_of_kept hdue husable (hi ▸ hkept), ?_, fun m hm => ?_, ?_, fun rg hrg hguards hmains => ?_⟩
  · exact hinp ▸ Live.guardWork_unguarded _ j
  · exact (Live.guardWork_inp_other _ hm).trans (Live.stageSample_inp_other hm)
  · exact live_sameBut (m := 68161536) (by simp) _ (by decide)
  · subst hinp
    exact (Live.guardWork_guards hrg hguards ((Live.mains_congr himg _).trans hmains)).congr himg hbond

end Due

/-- The state when the sample of the course has been taken, where it is due. -/
def Live.staged (l : Live) (j : Nat) : Live :=
  match l.stageDue j with | some (at_, q) => l.stageSample j at_ q | none => l

theorem Live.staged_keep (l : Live) (j : Nat) : Live.less 4096 (l.staged j) = Live.less 4096 l := by
  unfold Live.staged
  split
  · simp
  · rfl

theorem Live.staged_trips (l : Live) (j : Nat) : ((l.staged j).inp j).trips = (l.inp j).trips := by
  unfold Live.staged
  split
  · exact Live.stageSample_trips
  · rfl

theorem Live.staged_inp_other (l : Live) {j m : Nat} (hm : m ≠ j) : (l.staged j).inp m = l.inp m := by
  unfold Live.staged
  split
  · exact Live.stageSample_inp_other hm
  · rfl

theorem ppPairLost_loses (hlost : ((s.live.staged j).inp j).lost = true) : Gives (exec (.ppPairLost j) s) (PairLost s j) := by
  have hexec : exec (.ppPairLost j) s = s.upd fun l => (l.staged j).pairLost j := by
    show execPpPairLost j s = _
    unfold execPpPairLost
    exact upd_congr (if_pos hlost)
  exact ⟨_, hexec, pairLost_loses (s.live.staged_keep j) (s.live.staged_trips j) (fun m hm => s.live.staged_inp_other hm) hlost⟩

theorem ppPairLost_of_not (hkept : ((s.live.staged j).inp j).lost = false) : exec (.ppPairLost j) s = .next s :=
  upd_congr (g := id) (if_neg (ne_true_of_eq_false hkept))

end Stage

/-! ## Repeated trips (R289) -/

section Repeat
variable {s : State} {j : Fin 64}

theorem ppGuardRepeat_cuts {b : Nat} (htrip : (s.live.inp j).trips[3]? = some b) (hnew : 4 ≤ (s.live.inp j).tripsNew)
    (hbond : s.live.bond < b + 1000) :
    Gives (exec (.ppGuardRepeat j) s) (fun t =>
      t.live.inp j = { s.live.inp j with
        tripsNew := 0, khCut := if s.live.khNow j ≤ 100 then (s.live.inp j).khCut else (s.live.inp j).khCut + 10 } ∧
      Raised s t [s.live.detailOf 0x6002 (oInput j)] ∧ SameBut [.pp, .fc] s t) := by
  have hexec : exec (.ppGuardRepeat j) s = s.upd fun l => (l.modInp j fun i =>
      { i with tripsNew := 0, khCut := if l.khNow j ≤ 100 then i.khCut else i.khCut + 10 }).raise 0x6002 (oInput j) := by
    show execPpGuardRepeat j s = _
    unfold execPpGuardRepeat
    refine upd_congr ?_
    simp only [htrip]
    exact if_pos (by simp [hnew, hbond])
  exact ⟨_, hexec, Live.modInp_inp_same _ _ _, rfl, live_sameBut (m := 36864) (by simp) _ (by decide)⟩

theorem ppGuardRepeat_of_lt (h : (s.live.inp j).tripsNew < 4) : exec (.ppGuardRepeat j) s = .next s := by
  show execPpGuardRepeat j s = _
  unfold execPpGuardRepeat
  refine upd_congr (g := id) ?_
  dsimp only
  split
  · exact if_neg (by simp [h])
  · rfl

end Repeat

/-! ## The end of the guard (R292, Table 8.2) -/

/-- The record of a tug and its counter leave the Power Path Manager; the tug is listed there. -/
theorem Live.tug_pp (l : Live) (obj word lsb win lose asked applied : Nat) :
    ∃ ts, (l.tug obj word lsb win lose asked applied).pp = { l.pp with tugs := ts } := by
  unfold Live.tug
  extract_lets same goes k
  split
  · exact ⟨_, rfl⟩
  · exact ⟨k.pp.tugs, Live.same_pp (y := k) (by simp)⟩

theorem Live.tug_inp (l : Live) (obj word lsb win lose asked applied j : Nat) :
    (l.tug obj word lsb win lose asked applied).inp j = l.inp j := by
  obtain ⟨ts, h⟩ := l.tug_pp obj word lsb win lose asked applied
  have hinputs := congrArg Power.inputs h
  exact Live.inp_congr hinputs j

theorem Live.setRef_st (l : Live) (j : Nat) (a : Rat) : ((l.setRef j a).inp j).st = (l.inp j).st := by
  unfold Live.setRef
  split
  · rw [Live.modInp_inp_same]
    rfl
  · rfl

theorem Live.refWork_st (l : Live) (j : Nat) : ((l.refWork j).inp j).st = (l.inp j).st := by
  unfold Live.refWork
  extract_lets i m fixed l1 want l2 p lv1 l3 l4
  have h1 : (l1.inp j).st = (l.inp j).st := by rw [Live.modInp_inp_same]
  have tugs (c : Prop) [Decidable c] {k : Live} (a b d e f g h : Nat) (hk : (k.inp j).st = (l.inp j).st) :
      ((if c then l1.tug a b d e f g h else k).inp j).st = (l.inp j).st := by
    split
    · rw [Live.tug_inp, h1]
    · exact hk
  split
  · exact (Live.setRef_st l2 j 0).trans (tugs _ _ _ _ _ _ _ _ h1)
  split
  · exact (Live.setRef_st l3 j _).trans (tugs _ _ _ _ _ _ _ _ (tugs _ _ _ _ _ _ _ _ h1))
  · exact (Live.setRef_st l4 j want).trans (tugs _ _ _ _ _ _ _ _ h1)

section Expiry
variable {s : State} {j : Fin 64}

theorem gholdExpiry_shares (hst : (s.live.inp j).st = .guarded) (hback : (s.live.inp j).backOff = none)
    (hlong : (s.live.inp j).tripAt + s.live.ghold ≤ s.live.bond) :
    Gives (exec (.gholdExpiry j) s) (fun t => (t.live.inp j).st = .sharing) := by
  have hexec : exec (.gholdExpiry j) s = s.upd fun l => (l.modInp j fun i => { i with st := .sharing }).refWork j := by
    show execGholdExpiry j s = _
    unfold execGholdExpiry
    exact upd_congr (if_pos (by simp [hst, hback, hlong]))
  refine ⟨_, hexec, (Live.refWork_st _ j).trans ?_⟩
  rw [Live.modInp_inp_same]

theorem gholdExpiry_of_not (h : (s.live.inp j).st ≠ .guarded ∨ s.live.bond < (s.live.inp j).tripAt + s.live.ghold) :
    exec (.gholdExpiry j) s = .next s := by
  refine upd_congr (g := id) (if_neg fun hall => ?_)
  simp only [Bool.and_eq_true, decide_eq_true_eq] at hall
  obtain ⟨⟨hst, -⟩, hlong⟩ := hall
  rcases h with h | h
  · exact h hst
  · exact absurd hlong (Nat.not_le_of_lt h)

end Expiry

/-- Settles O40: the sample, `Live.pairLost` and `Live.guardWork` in this order; a lost pair has no estimate, so that the guard does
nothing behind it. -/
theorem inputGuardFollowsTheTable : Obligations.InputGuardFollowsTheTable := by
  intro s j l i lost
  refine ⟨exec_inputStage_of_none, fun at_ q hdue husable => ⟨fun hguards hlow => ?_, fun hkept => ?_⟩,
    fun at_ q => inputStage_of_unusable, ⟨fun hguards hlow => ?_, fun hkept => ?_⟩, fun b => ppGuardRepeat_cuts, ppGuardRepeat_of_lt,
    gholdExpiry_shares, gholdExpiry_of_not⟩
  · exact inputStage_loses hdue husable (Input.lost_iff.mpr ⟨hguards, hlow.trans_eq (Input.sampled_lowRun _ at_ _).symm⟩)
  · have hnot : (i.sampled at_ (l.inpSample q (l.slot q.ring q.slot))).lost = false :=
      Input.not_lost_iff.mpr (hkept.imp_right (Input.sampled_lowRun _ _ _).trans_lt)
    obtain ⟨u, hexec, hinp, hother, hframe, hguard⟩ := inputStage_samples hdue husable rfl hnot
    obtain ⟨hwork, hvin, hicur, hst, hrun⟩ := Input.sample_of_unguarded hinp
    refine ⟨u, hexec, hwork, hvin, hicur, hst, hrun.trans (Input.sampled_lowRun _ _ _), hother, hframe, fun rg hrg hguards hmains => ?_⟩
    obtain ⟨hkappa, htrip, hcalm⟩ := hguard rg hrg hguards hmains
    exact ⟨hkappa,
      fun h => ⟨(congrArg Input.trips (htrip h) :), (congrArg Input.tripAt (htrip h) :), _, (congrArg Input.backOff (htrip h) :)⟩,
      fun h => ⟨(congrArg Input.trips (hcalm h) :), (congrArg Input.backOff (hcalm h) :)⟩⟩
  · exact ppPairLost_loses (Input.lost_iff.mpr ⟨hguards, hlow⟩)
  · exact ppPairLost_of_not (Input.not_lost_iff.mpr hkept)

end Sys2Proof.Machine
end

section
/-! PROOFS. The entry to HOLDUP, by PFAIL_N or a low bus (R300 to R302, R556), and the measurement of the hold-up capacitance
(R304). -/
open Sys2Proof Sys2Proof.Machine
namespace Sys2Proof.Machine

/-! ## Records and counters take no detail back -/

theorem Live.Leads.of_keep {l k : Live} (h : Live.less 268402670 k = Live.less 268402670 l) : l.Leads k where
  now := Live.less_now h (by decide)
  pwr := Live.less_pwr h (by decide)
  details := by rw [Live.less_fc h (by decide)]; exact List.Subset.refl _

theorem Live.count_leads (l : Live) (n : Nat) : l.Leads (l.count n) := .of_keep (by simp)

/-- A record may find the event ring full, which sends a detail (R517). -/
theorem Live.record_leads (l : Live) (etype : Nat) (pay : List Byte) : l.Leads (l.record etype pay) := by
  have kept {k : Live} (h : Live.less 268402670 k = Live.less 268402670 l) : l.Leads k := .of_keep h
  unfold Live.record
  extract_lets r mk lost r' l1 l2
  split
  · have h1 : l.Leads l1 := kept (by simp [l1])
    split
    · have h2 : l.Leads l2 := h1.trans (l1.count_leads 114)
      split
      · exact h2
      · exact h2.trans (l2.raise_leads 0xE004 0xB000)
    · exact h1
  split
  · exact kept (by simp)
  · exact kept (by simp)

theorem Live.setPower_details (l : Live) (st : PwrSt) (cause : Nat) : l.fc.details ⊆ (l.setPower st cause).fc.details := by
  unfold Live.setPower
  split
  · exact List.Subset.refl _
  · exact (l.record_leads _ _).details

theorem Live.tug_leads (l : Live) (obj word lsb win lose asked applied : Nat) : l.Leads (l.tug obj word lsb win lose asked applied) := by
  unfold Live.tug
  extract_lets same goes l1
  split
  · exact .of_keep (by simp)
  · have h1 : l.Leads l1 := .of_keep (by simp [l1])
    exact h1.trans ((l1.count_leads 96).trans (Live.record_leads _ _ _))

/-! ## The sheds of HOLDUP (R302) -/

/-- `k` comes of `l` by sheds: they leave the supply state, and they lead on. -/
structure Live.Sheds (l k : Live) : Prop extends l.Leads k where
  supply : k.pp.st = l.pp.st

theorem Live.Sheds.refl (l : Live) : l.Sheds l := ⟨.refl l, rfl⟩

theorem Live.Sheds.trans {l k j : Live} (a : l.Sheds k) (b : k.Sheds j) : l.Sheds j :=
  ⟨a.toLeads.trans b.toLeads, b.supply.trans a.supply⟩

theorem Live.modPp_sheds (l : Live) {f : Power → Power} (h : (f l.pp).st = l.pp.st) : l.Sheds (l.modPp f) :=
  ⟨.of_keep (by simp), h⟩

theorem Live.tug_sheds (l : Live) (obj word lsb win lose asked applied : Nat) : l.Sheds (l.tug obj word lsb win lose asked applied) := by
  obtain ⟨ts, h⟩ := l.tug_pp obj word lsb win lose asked applied
  have hst := congrArg Power.st h
  exact ⟨l.tug_leads obj word lsb win lose asked applied, hst⟩

theorem Live.shedRail_sheds (l : Live) (r : Nat) : l.Sheds (l.shedRail r) := by
  refine ⟨.of_keep (by simp), ?_⟩
  rw [Live.shedRail, Live.modPp_pp, Live.count_pp]
  rfl

theorem Live.holdupShed_sheds (allow p : Rat) (rs : List Nat) (l : Live) : l.Sheds (l.holdupShed allow p rs) := by
  induction rs generalizing l p with
  | nil => exact .refl l
  | cons r rs ih =>
    unfold Live.holdupShed
    extract_lets share z l1
    split
    · exact .refl l
    · have h1 : l.Sheds l1 := by
        simp only [l1]
        split
        · exact l.tug_sheds _ _ _ _ _ _ _
        · exact .refl l
      exact h1.trans ((l1.shedRail_sheds r).trans ((Live.modPp_sheds _ rfl).trans (ih _ _)))

theorem Live.holdupBatch_sheds (l : Live) : l.Sheds l.holdupBatch := by
  unfold Live.holdupBatch
  split
  · exact .refl l
  · exact Live.holdupShed_sheds _ _ _ l

/-! ## The entry (R301, R302, R340, R455, R556) -/

/-- The controller works, and not in HOLDUP: it is in RUN, or in LEAN as keeper. -/
def Live.mayHold (l : Live) : Prop := l.pwr.st = .run ∨ (l.pwr.st = .lean ∧ l.pwr.service = false)

/-- The supply state at the entry. -/
def Power.holdup (p : Power) : Power :=
  { p with st := .holdup, hshed := [], cused := none, measAt := none, exitRun := 0, vnow := if p.vnow = 0 then p.vbus else p.vnow }

/-- The entry is noted: the supply state, the counter, the fault, and the end of an activation that waits. -/
def Live.holdupNoted (l : Live) : Live := (((l.modPp Power.holdup).countWith 102 1 {}).raise 0x6009 0x6FFF).txnCancel

/-- Debug access is over. -/
def Sec.undebugged (s : Sec) : Sec := { s with dbg := { s.dbg with mode := 0, halted := [], stepped := [], coresHalted := false } }

/-- The power state is HOLDUP with its gates, and debug access is over. -/
def Live.holdupSet (l : Live) : Live := ((l.setPower .holdup 3).gateSet).modSec Sec.undebugged

/-- What must be stored is asked for, and the energy is known. -/
def Live.holdupStored (l : Live) : Live :=
  let k := (l.snapRequest 1).strHoldup
  k.modPp fun p => { p with energy := k.eNow }

theorem Live.enterHoldup_of_mayHold {l : Live} (h : l.mayHold) (hpp : l.pp.st ≠ .holdup) :
    l.enterHoldup = l.holdupNoted.holdupSet.holdupStored.holdupBatch := by
  unfold Live.enterHoldup
  rw [if_neg]
  · rfl
  · rcases h with hrun | ⟨hlean, hservice⟩
    · simp [hpp, hrun]
    · simp [hpp, hlean, hservice]

theorem Live.enterHoldup_of_not {l : Live} (h : ¬ l.mayHold) : l.enterHoldup = l := by
  unfold Live.enterHoldup
  refine if_pos ?_
  simp only [Bool.or_eq_true, Bool.not_eq_true', ← Bool.not_eq_true]
  exact .inr fun hst => h (by simpa [Live.mayHold] using hst)

section Noted
variable (l : Live)

theorem Live.holdupNoted_pp : l.holdupNoted.pp = l.pp.holdup :=
  Live.same_pp (y := l.modPp Power.holdup) (by simp [Live.holdupNoted])

theorem Live.holdupNoted_pwr : l.holdupNoted.pwr = l.pwr := Live.same_pwr (by simp [Live.holdupNoted])

theorem Live.holdupNoted_details : l.detailOf 0x6009 0x6FFF ∈ l.holdupNoted.fc.details := by
  let k := (l.modPp Power.holdup).countWith 102 1 {}
  have hnow : k.now = l.now := Live.same_now (by simp [k])
  have hfc : l.holdupNoted.fc = (k.raise 0x6009 0x6FFF).fc := Live.same_fc (by simp [Live.holdupNoted, k])
  rw [hfc, ← Live.detailOf_congr hnow]
  exact k.detailOf_mem_raise 0x6009 0x6FFF 0

end Noted

section Set
variable (l : Live)

theorem Live.holdupSet_pp : l.holdupSet.pp = l.pp := Live.same_pp (by simp [Live.holdupSet])

theorem Live.holdupSet_pwr_st : l.holdupSet.pwr.st = .holdup := Live.setPower_st0 l .holdup 3

theorem Live.holdupSet_pfailN : l.holdupSet.pwr.pfailN = l.pwr.pfailN :=
  (congrArg Pwr.pfailN (Live.setPower_pwr l .holdup 3) :)

theorem Live.holdupSet_details : l.fc.details ⊆ l.holdupSet.fc.details := l.setPower_details .holdup 3

end Set

theorem Live.holdupStored_sheds (l : Live) : l.Sheds l.holdupStored where
  toLeads := .of_keep (by simp [Live.holdupStored])
  supply := by
    have h : ((l.snapRequest 1).strHoldup).pp = l.pp := Live.same_pp (by simp)
    exact (congrArg Power.st h :)

/-- What the entry to HOLDUP makes of `l`. -/
structure Live.Held (l k : Live) : Prop where
  power : k.pwr.st = .holdup
  supply : k.pp.st = .holdup
  raised : l.detailOf 0x6009 0x6FFF ∈ k.fc.details
  mode : k.sec.dbg.mode = 0
  halted : k.sec.dbg.halted = []
  keeper : k.keeper = l.keeper

theorem Live.Held.of_same {l l' k : Live} (h : l'.Held k) (hnow : l'.now = l.now) (hkeeper : l'.keeper = l.keeper) : l.Held k :=
  ⟨h.power, h.supply, Live.detailOf_congr hnow 0x6009 0x6FFF 0 ▸ h.raised, h.mode, h.halted, h.keeper.trans hkeeper⟩

section Entered
variable {l : Live} (h : l.mayHold) (hpp : l.pp.st ≠ .holdup)
include h hpp

theorem Live.enterHoldup_sheds : l.holdupNoted.holdupSet.Sheds l.enterHoldup := by
  rw [Live.enterHoldup_of_mayHold h hpp]
  exact (Live.holdupStored_sheds _).trans (Live.holdupBatch_sheds _)

theorem Live.enterHoldup_sec : l.enterHoldup.sec = l.holdupNoted.holdupSet.sec := by
  rw [Live.enterHoldup_of_mayHold h hpp]
  exact Live.same_sec (by simp [Live.holdupStored])

theorem Live.enterHoldup_pfailN : l.enterHoldup.pwr.pfailN = l.pwr.pfailN := by
  rw [(Live.enterHoldup_sheds h hpp).pwr, Live.holdupSet_pfailN, Live.holdupNoted_pwr]

theorem Live.enterHoldup_held : l.Held l.enterHoldup := by
  have hsheds := Live.enterHoldup_sheds h hpp
  refine ⟨?_, ?_, hsheds.details (Live.holdupSet_details _ l.holdupNoted_details), ?_, ?_, Live.same_keeper (by simp)⟩
  · rw [hsheds.pwr, Live.holdupSet_pwr_st]
  · rw [hsheds.supply, Live.holdupSet_pp, Live.holdupNoted_pp]
    rfl
  · rw [Live.enterHoldup_sec h hpp]
    rfl
  · rw [Live.enterHoldup_sec h hpp]
    rfl

end Entered

/-! ## PFAIL_LOW and VBUS_LOW (R300, R301, R556) -/

section Entry
variable {s : State}

theorem exec_pfailLow_of_on (h : s.live.pwr.st ≠ .off) :
    exec .pfailLow s = s.upd fun l => (l.modPwr fun p => { p with pfailN := false }).enterHoldup := by
  show execPfailLow s = _
  unfold execPfailLow
  exact upd_congr (if_neg h)

theorem pfailLow_holds (h : s.live.mayHold) (hpp : s.live.pp.st ≠ .holdup) :
    Gives (exec .pfailLow s) (fun t => s.live.Held t.live ∧ t.live.pwr.pfailN = false) := by
  have hon : s.live.pwr.st ≠ .off := by
    rcases h with h | ⟨h, -⟩ <;> simp [h]
  have hheld := Live.enterHoldup_held (l := s.live.modPwr fun p => { p with pfailN := false }) h hpp
  exact ⟨_, exec_pfailLow_of_on hon, hheld.of_same rfl rfl, Live.enterHoldup_pfailN h hpp⟩

theorem pfailLow_notes (h : ¬ s.live.mayHold) (hon : s.live.pwr.st ≠ .off) : Gives (exec .pfailLow s) (fun t =>
    t.live.pwr = { s.live.pwr with pfailN := false } ∧ SameBut [.pwr] s t) := by
  have hnot : (s.live.modPwr fun p => { p with pfailN := false }).enterHoldup = s.live.modPwr fun p => { p with pfailN := false } :=
    Live.enterHoldup_of_not h
  exact gives_of_eq (exec_pfailLow_of_on hon) (upd_gives_of_eq hnot ⟨rfl, live_sameBut (m := 16) (by simp) _ (by decide)⟩)

theorem vbusLow_holds (h : s.live.mayHold) (hpp : s.live.pp.st ≠ .holdup) (hlow : 4 ≤ s.live.pp.lowConv) :
    Gives (exec .vbusLow s) (fun t => s.live.Held t.live) := by
  have hexec : exec .vbusLow s = s.upd fun l => (l.modPp fun p => { p with lowConv := 0 }).enterHoldup := by
    show execVbusLow s = _
    unfold execVbusLow
    exact upd_congr (if_pos hlow)
  have hheld := Live.enterHoldup_held (l := s.live.modPp fun p => { p with lowConv := 0 }) h hpp
  exact ⟨_, hexec, hheld.of_same rfl rfl⟩

theorem vbusLow_of_lt (h : s.live.pp.lowConv < 4) : exec .vbusLow s = .next s := by
  show execVbusLow s = _
  unfold execVbusLow
  exact upd_congr (g := id) (if_neg (Nat.not_le_of_lt h))

end Entry

/-! ## CBUS_MEASURE (R304) -/

/-- The capacitance that the interval shows. -/
def Power.cbus (p : Power) : Rat := 2 * p.measE / (p.measV * p.measV - p.vnow * p.vnow)

/-- The voltage has fallen, and the capacitance is below nine tenths of that of the image. -/
def Live.cbusLow (l : Live) : Prop :=
  0 < l.pp.measV * l.pp.measV - l.pp.vnow * l.pp.vnow ∧ l.pp.cbus < 9 / 10 * ((l.cf 0x6FFF 2 31 16 : Rat) / 10000)

/-- A new interval begins. -/
def Live.cbusNext (l : Live) : Live := l.modPp fun p => { p with measAt := some l.now, measV := p.vnow, measE := 0, measT := l.now }

section Measure
variable {s : State} {a : Nat} (hat : s.live.pp.measAt = some a) (hmeas : s.live.measuring = true) (hlong : a + 400000 ≤ s.live.now)
include hat hmeas hlong

theorem exec_cbusMeasure_of_due : exec .cbusMeasure s = s.upd fun l =>
    if 0 < l.pp.measV * l.pp.measV - l.pp.vnow * l.pp.vnow && l.pp.cbus < 9 / 10 * ((l.cf 0x6FFF 2 31 16 : Rat) / 10000) then
      (l.cbusNext.modPp fun p => { p with cused := some l.pp.cbus }).raise 0x600A 0x6FFF
    else l.cbusNext := by
  show execCbusMeasure s = _
  unfold execCbusMeasure
  refine upd_congr ?_
  simp only [hat]
  exact if_neg (by simp [hmeas, hlong])

theorem cbusMeasure_low (hlow : s.live.cbusLow) : Gives (exec .cbusMeasure s) (fun t =>
    t.live.pp = { s.live.cbusNext.pp with cused := some s.live.pp.cbus } ∧ Raised s t [s.live.detailOf 0x600A 0x6FFF] ∧
      SameBut [.pp, .fc] s t) := by
  obtain ⟨hfall, hsmall⟩ := hlow
  have hexec := (exec_cbusMeasure_of_due hat hmeas hlong).trans
    (upd_congr (g := fun l => (l.cbusNext.modPp fun p => { p with cused := some l.pp.cbus }).raise 0x600A 0x6FFF) (if_pos (by simp [hfall, hsmall])))
  exact ⟨_, hexec, rfl, rfl, live_sameBut (m := 36864) (by simp [Live.cbusNext]) _ (by decide)⟩

theorem cbusMeasure_of_not (hnot : ¬ s.live.cbusLow) : Gives (exec .cbusMeasure s) (fun t =>
    t.live.pp = s.live.cbusNext.pp ∧ t.live.fc = s.live.fc ∧ SameBut [.pp, .fc] s t) := by
  have hexec := (exec_cbusMeasure_of_due hat hmeas hlong).trans
    (upd_congr (g := Live.cbusNext) (if_neg (by simpa [Live.cbusLow] using hnot)))
  exact ⟨_, hexec, rfl, rfl, live_sameBut (m := 4096) (by simp [Live.cbusNext]) _ (by decide)⟩

end Measure

/-- Settles O41: the entry to HOLDUP is `Live.enterHoldup`, which does nothing in a controller that does not work; the capacitance is
that of `Power.cbus`. -/
theorem powerFailEntersHoldup : Obligations.PowerFailEntersHoldup := by
  intro s l works held
  refine ⟨fun hworks hpp => ?_, pfailLow_notes, fun hworks hpp hlow => ?_, vbusLow_of_lt, fun a hat hmeas hlong => ?_⟩
  · obtain ⟨t, hexec, hheld, hpfail⟩ := pfailLow_holds hworks hpp
    exact ⟨t, hexec, ⟨hheld.power, hheld.supply, hheld.raised, hheld.mode, hheld.halted, hheld.keeper⟩, hpfail⟩
  · obtain ⟨t, hexec, hheld⟩ := vbusLow_holds hworks hpp hlow
    exact ⟨t, hexec, hheld.power, hheld.supply, hheld.raised, hheld.mode, hheld.halted, hheld.keeper⟩
  · by_cases hlow : l.cbusLow
    · obtain ⟨t, hexec, hpp, hraised, hframe⟩ := cbusMeasure_low hat hmeas hlong hlow
      refine ⟨t, hexec, (congrArg Power.measAt hpp :), (congrArg Power.measV hpp :), (congrArg Power.measE hpp :), ?_, hframe⟩
      exact Eq.mpr (if_pos hlow) ⟨(congrArg Power.cused hpp :), hraised⟩
    · obtain ⟨t, hexec, hpp, hfc, hframe⟩ := cbusMeasure_of_not hat hmeas hlong hlow
      refine ⟨t, hexec, (congrArg Power.measAt hpp :), (congrArg Power.measV hpp :), (congrArg Power.measE hpp :), ?_, hframe⟩
      exact Eq.mpr (if_neg hlow) ⟨(congrArg Power.cused hpp :), hfc⟩

end Sys2Proof.Machine
end

section
/-! PROOFS. The writes of a string's learned record (R337 to R340): what a write that is asked for, begun or verified leaves of the
string, of the other strings and of its slots. -/
open Sys2Proof Sys2Proof.Machine
namespace Sys2Proof.Machine

/-! ## Strings and slots that a change leaves -/

theorem Live.str_congr {l k : Live} (h : k.gauge.strs = l.gauge.strs) (n : Nat) : k.str n = l.str n := by
  rw [Live.str, h, Live.str]

theorem Live.slotRec_congr {l k : Live} (h : k.gauge.flash = l.gauge.flash) (n : Nat) (b : Bool) : k.slotRec n b = l.slotRec n b := by
  rw [Live.slotRec, h, Live.slotRec]

theorem Live.count_gauge (l : Live) (n : Nat) : (l.count n).gauge = l.gauge := Live.same_gauge (by simp)

theorem Live.count_str (l : Live) (n k : Nat) : (l.count n).str k = l.str k := Live.str_congr (congrArg Gauge.strs (l.count_gauge n)) k

theorem Live.count_fc (l : Live) (n : Nat) : (l.count n).fc = l.fc := Live.same_fc (by simp)

theorem Live.count_clkSec (l : Live) (n : Nat) : (l.count n).recd.clkSec = l.recd.clkSec := (Live.clock_eq (l.count_clock n)).2

theorem slotPage_ne (k : Nat) (b : Bool) : slotPage k (!b) ≠ slotPage k b := by cases b <;> simp [slotPage]

section Slots
variable (l : Live) (k : Nat) (b : Bool) (x : List Byte)

theorem Live.slotRec_slotFill_same : (l.slotFill k b x).slotRec k b = some (GaugeRec.ofBytes x) := by
  simp [Live.slotRec, Live.slotFill]

theorem Live.slotRec_slotErase_same : (l.slotErase k b).slotRec k b = none := by
  simp [Live.slotRec, Live.slotErase]

theorem Live.slotRec_slotErase_of_ne {c : Bool} (h : slotPage k c ≠ slotPage k b) : (l.slotErase k b).slotRec k c = l.slotRec k c := by
  simp only [Live.slotRec, Live.slotErase, tfind_tdrop_other _ _ _ h]

end Slots

/-! ## A write that begins (R338, R339) -/

/-- The string without what the writes of its record change. -/
def Str.unwritten (s : Str) : Str := { s with writing := none, retry := none, due := false, afterAnchor := false }

/-- `j` comes of `l` by a write of string `k`'s record, begun or put off: nothing else of a string changes, and a write that was due
is due still or has begun. -/
structure Live.Writes (l j : Live) (k : Nat) : Prop where
  keep : Live.less 24576 j = Live.less 24576 l
  rest : (j.str k).unwritten = (l.str k).unwritten
  other : ∀ m, m ≠ k → j.str m = l.str m
  pending : (l.str k).due = true → (j.str k).due = true ∨ (j.str k).writing.isSome = true

section Write
variable (l : Live) (k : Nat)

theorem Live.Writes.refl : l.Writes l k := ⟨rfl, rfl, fun _ _ => rfl, .inl⟩

theorem Live.slotWrite_str_same (b : Bool) (x : List Byte) (again : Bool) :
    (l.slotWrite k b x again).str k = { l.str k with writing := some (b, x, again), retry := none } :=
  Live.modStr_str_same _ k _

theorem Live.slotWrite_writes (b : Bool) (x : List Byte) (again : Bool) : l.Writes (l.slotWrite k b x again) k where
  keep := by simp
  rest := by
    rw [Live.slotWrite_str_same]
    rfl
  other m hm := Live.modStr_str_other _ k _ m hm
  pending _ := .inr (by rw [Live.slotWrite_str_same]; rfl)

end Write

section Writes
variable {l j : Live} {k : Nat}

/-- The marks of a write that has begun are set. -/
theorem Live.Writes.marked (a : l.Writes j k) {f : Str → Str} (hf : ∀ q : Str, (f q).unwritten = q.unwritten)
    (hwriting : (f (j.str k)).writing.isSome = true) : l.Writes (j.modStr k f) k where
  keep := (Live.modStr_keep j k f _ rfl).trans a.keep
  rest := by rw [Live.modStr_str_same, hf, a.rest]
  other m hm := (Live.modStr_str_other j k f m hm).trans (a.other m hm)
  pending _ := .inr (by rw [Live.modStr_str_same]; exact hwriting)

theorem Live.strWrite_writes (l : Live) (k : Nat) : l.Writes (l.strWrite k) k := by
  unfold Live.strWrite
  extract_lets q
  split
  · exact .refl l k
  split
  next b x _ =>
    split
    · exact l.slotWrite_writes k b x true
    · exact .refl l k
  next =>
    split
    · exact (l.slotWrite_writes k _ _ false).marked (fun _ => rfl) (by rw [Live.slotWrite_str_same]; rfl)
    · exact .refl l k

theorem Live.strWrite_of_idle (hdue : (l.str k).due = false) (hretry : (l.str k).retry = none) : l.strWrite k = l := by
  unfold Live.strWrite
  simp [hdue, hretry]

theorem Live.strWrite_of_wait (h : l.coresUp = false ∨ l.recErase = false) {p : Bool × List Byte} (hretry : (l.str k).retry = some p) :
    l.strWrite k = l := by
  unfold Live.strWrite
  rcases h with h | h <;> simp [h, hretry]

theorem Live.strWrite_of_retry (hcores : l.coresUp = true) (herase : l.recErase = true) (hwriting : (l.str k).writing = none)
    {b : Bool} {x : List Byte} (hretry : (l.str k).retry = some (b, x)) : l.strWrite k = l.slotWrite k b x true := by
  have hband : l.flashProgram = true := by
    simp only [Live.recErase, Live.flashErase, Bool.and_eq_true, decide_eq_true_eq] at herase
    simp only [Live.flashProgram, decide_eq_true_eq]
    omega
  unfold Live.strWrite
  simp [hcores, herase, hwriting, hretry, hband]

/-- A write that is asked for is due or has begun. -/
theorem Live.strDue_pends (l : Live) (k : Nat) : ((l.strDue k).str k).due = true ∨ ((l.strDue k).str k).writing.isSome = true :=
  (Live.strWrite_writes _ k).pending (by rw [Live.modStr_str_same])

theorem Live.strDue_writes (l : Live) (k : Nat) : l.Writes (l.strDue k) k where
  keep := by simp
  rest := (Live.strWrite_writes _ k).rest.trans (by rw [Live.modStr_str_same]; rfl)
  other m hm := ((Live.strWrite_writes _ k).other m hm).trans (Live.modStr_str_other l k _ m hm)
  pending _ := l.strDue_pends k

end Writes

end Sys2Proof.Machine
end

section
/-! PROOFS. The anchors (R323, R324) and the learning of capacity at the end of a native cycle (R328). -/
open Sys2Proof Sys2Proof.Machine
namespace Sys2Proof.Machine

/-! ## An anchor event's own part (R323, R324, R330) -/

/-- The string at an anchor that sets A to `a`. -/
def Str.anchored (s : Str) (a : BitVec 64) : Str :=
  { s with a := a, uncert := false, fast := true, stepOk := false, afterAnchor := true }

theorem Live.anchor_str_same (l : Live) (k : Nat) (a : BitVec 64) : (l.anchor k a).str k = (l.str k).anchored a := by
  rw [Live.anchor, Live.modStr_str_same, Live.count_str]
  rfl

theorem Live.anchor_str_other (l : Live) {k m : Nat} (a : BitVec 64) (hm : m ≠ k) : (l.anchor k a).str m = l.str m :=
  (Live.modStr_str_other _ k _ m hm).trans (l.count_str 108 m)

/-! ## FULL_ANCHOR (R323, R328, R329) -/

/-- The string after its FULL anchor, which opens a cycle, and a partial segment where `lmode`. -/
def Str.filled (s : Str) (lmode : Bool) : Str :=
  { s with fulla := true, emptya := false, fullDone := true, cycle := true, cycleVoid := false, seg := lmode, segVoid := false,
           restRun := 0 }

section Full
variable {s : State} {n : Fin 16}

theorem fullAnchor_fills (hlive : (s.live.str n).live = true) (hnew : (s.live.str n).fullDone = false)
    (hrun : (s.live.str n).fullRun ≠ 0) (hlong : s.live.ttermBonds n ≤ (s.live.str n).fullRun) :
    Gives (exec (.fullAnchor n) s) (fun t => t.live.str n = ((s.live.str n).anchored 0).filled (s.live.lmode n) ∧
      (∀ m, m ≠ n.val → t.live.str m = s.live.str m) ∧ SameBut [.gauge, .recd, .w1c] s t) := by
  have hexec : exec (.fullAnchor n) s = s.upd fun l => (l.anchor n 0).modStr n fun q => q.filled (s.live.lmode n) := by
    show execFullAnchor n s = _
    unfold execFullAnchor
    exact upd_congr (if_pos (by simp [hlive, hnew, hrun, hlong]))
  refine ⟨_, hexec, ?_, fun m hm => ?_, live_sameBut (m := 68165632) (by simp) _ (by decide)⟩
  · exact (Live.modStr_str_same _ _ _).trans (by rw [Live.anchor_str_same])
  · exact (Live.modStr_str_other _ _ _ m hm).trans (s.live.anchor_str_other 0 hm)

theorem fullAnchor_of_not (h : (s.live.str n).fullDone = true ∨ (s.live.str n).fullRun < s.live.ttermBonds n) :
    exec (.fullAnchor n) s = .next s := by
  show execFullAnchor n s = _
  unfold execFullAnchor
  refine upd_congr (g := id) (if_neg ?_)
  rcases h with h | h
  · simp [h]
  · simp [Nat.not_le_of_lt h]

end Full

/-! ## The learning of capacity (R328) -/

/-- The string that has learned capacity `q` from a native cycle, at shelf-clock second `sec`. -/
def Str.relearned (s : Str) (q : Rat) (sec : Nat) : Str :=
  { s with qcap := q, learned := true, nlearn := s.nlearn + 1, fade := 1, stale := false, rlearn := s.rn, tlearn := sec }

/-- A capacity held to the jump limit about the present one. -/
def Live.jumpHeld (l : Live) (k : Nat) (want : Rat) : Rat :=
  let j := (l.sf k 6 7 0 10 : Rat) / 100
  clampR want ((l.str k).qcap * (1 - j)) ((l.str k).qcap * (1 + j))

/-- A jump that is held back is reported. -/
def Live.jumpNoted (l : Live) (k : Nat) (want : Rat) : Live := if l.jumpHeld k want ≠ want then l.raise 0x7002 (oStr k) else l

theorem Live.jumpNoted_recd (l : Live) (k : Nat) (want : Rat) : (l.jumpNoted k want).recd = l.recd := by
  unfold Live.jumpNoted
  split <;> rfl

theorem Live.jumpNoted_str (l : Live) (k : Nat) (want : Rat) (m : Nat) : (l.jumpNoted k want).str m = l.str m := by
  unfold Live.jumpNoted
  split <;> rfl

theorem Live.jumpNoted_details (l : Live) (k : Nat) (want : Rat) : (l.jumpNoted k want).fc.details =
    l.fc.details ++ if l.jumpHeld k want = want then [] else [l.detailOf 0x7002 (oStr k)] := by
  unfold Live.jumpNoted
  by_cases hjump : l.jumpHeld k want = want
  · simp [hjump]
  · rw [if_pos hjump, if_neg hjump]
    rfl

section Learn
variable (l : Live) (k : Nat) {seen want : Rat} {native : Bool}

theorem Live.strLearn_of_outside (h : seen < l.qnom k / 2 ∨ 6 / 5 * l.qnom k < seen) :
    l.strLearn k seen want native = l.raise 0x7001 (oStr k) :=
  if_pos (by simpa using h)

section Inside
variable (hlow : l.qnom k / 2 ≤ seen) (hhigh : seen ≤ 6 / 5 * l.qnom k)
include hlow hhigh

theorem Live.strLearn_of_inside : l.strLearn k seen want true =
    (((l.jumpNoted k want).modStr k fun q =>
      (q.relearned (l.jumpHeld k want) (l.jumpNoted k want).recd.clkSec.toNat).flags).count 110).strDue k :=
  if_neg (by simp [not_lt.mpr hlow, not_lt.mpr hhigh])

theorem Live.strLearn_str_same : ((l.strLearn k seen want true).str k).unwritten =
    ((l.str k).relearned (l.jumpHeld k want) l.recd.clkSec.toNat).flags.unwritten := by
  rw [l.strLearn_of_inside k hlow hhigh, (Live.strDue_writes _ k).rest, Live.count_str, Live.modStr_str_same, Live.jumpNoted_str,
    Live.jumpNoted_recd]

theorem Live.strLearn_details : (l.strLearn k seen want true).fc.details =
    l.fc.details ++ if l.jumpHeld k want = want then [] else [l.detailOf 0x7002 (oStr k)] := by
  rw [l.strLearn_of_inside k hlow hhigh, Live.less_fc (Live.strDue_writes _ k).keep (by decide), Live.count_fc, Live.modStr_fc,
    Live.jumpNoted_details]

end Inside
end Learn

/-! ## EMPTY_ANCHOR (R324, Table 9.2) -/

/-- The string after its EMPTY anchor, which ends the cycle. -/
def Str.emptied (s : Str) : Str :=
  { s with emptya := true, fulla := false, emptyDone := true, cycle := false, cycleVoid := false }

/-- `r` is the string `q` after its EMPTY anchor, which may also end the demand of an exercise. -/
def Str.EmptyOf (q r : Str) : Prop := ∃ d, r = { (q.anchored (sat64 (truncR q.qeffU))).emptied with demand := d }

/-- A native cycle that ends learns the capacity that was drawn (R328). -/
def Live.cycleEnd (l : Live) (k : Nat) : Live :=
  if (l.str k).learns then l.strLearn k (l.str k).mah (l.str k).mah true else l

/-- The anchor sets A to the whole capacity. -/
def Live.emptied (l : Live) (k : Nat) : Live := (l.anchor k (sat64 (truncR (l.str k).qeffU))).modStr k Str.emptied

/-- An exercise of the string that runs is complete (Table 9.2). -/
def Live.exComplete (l : Live) (k : Nat) : Live :=
  if l.gauge.ex = .running && l.gauge.exStr = k then
    { l.exEnd false with gauge := { (l.exEnd false).gauge with xlast := (l.exEnd false).recd.clkSec } }
  else l

section Complete
variable (l : Live) (k : Nat)

/-- The end of an exercise takes the demand of its string, and nothing else of a string. -/
theorem Live.exEnd_str (abort : Bool) (m : Nat) : ∃ d, (l.exEnd abort).str m = { l.str m with demand := d } := by
  have h : (l.exEnd abort).str m = (l.modStr l.gauge.exStr fun q => { q with demand := 0 }).str m := by
    unfold Live.exEnd
    extract_lets e l1 l2
    split <;> rfl
  rw [h, Live.modStr_str]
  split
  next hm => exact ⟨0, by rw [hm]⟩
  next => exact ⟨(l.str m).demand, rfl⟩

theorem Live.exComplete_str : ∃ d, (l.exComplete k).str k = { l.str k with demand := d } := by
  unfold Live.exComplete
  split
  · exact l.exEnd_str false k
  · exact ⟨(l.str k).demand, rfl⟩

theorem Live.exComplete_fc : (l.exComplete k).fc = l.fc := by
  unfold Live.exComplete
  split <;> rfl

theorem Live.exComplete_of_running (hex : l.gauge.ex = .running) (hstr : l.gauge.exStr = k) :
    (l.exComplete k).gauge.ex = .idle ∧ (l.exComplete k).gauge.xlast = l.recd.clkSec := by
  unfold Live.exComplete
  rw [if_pos (by simp [hex, hstr])]
  exact ⟨rfl, rfl⟩

end Complete

section Emptied
variable (l : Live) (k : Nat)

theorem Live.emptied_str_same : (l.emptied k).str k = ((l.str k).anchored (sat64 (truncR (l.str k).qeffU))).emptied := by
  rw [Live.emptied, Live.modStr_str_same, Live.anchor_str_same]

theorem Live.emptied_fc : (l.emptied k).fc = l.fc := l.count_fc 108

theorem Live.emptied_clkSec : (l.emptied k).recd.clkSec = l.recd.clkSec := l.count_clkSec 108

theorem Live.emptied_exercise : (l.emptied k).gauge.ex = l.gauge.ex ∧ (l.emptied k).gauge.exStr = l.gauge.exStr :=
  ⟨(congrArg Gauge.ex (l.count_gauge 108) :), (congrArg Gauge.exStr (l.count_gauge 108) :)⟩

theorem Live.anchored_str : (l.str k).EmptyOf (((l.emptied k).exComplete k).str k) := by
  rw [Str.EmptyOf, ← l.emptied_str_same k]
  exact (l.emptied k).exComplete_str k

theorem Live.anchored_fc : ((l.emptied k).exComplete k).fc = l.fc := ((l.emptied k).exComplete_fc k).trans (l.emptied_fc k)

end Emptied

/-- What the end of a cycle leaves of the string: a RESETLEARN that waits waits on. -/
theorem Live.cycleEnd_reset (l : Live) (k : Nat) : ((l.cycleEnd k).str k).reset = (l.str k).reset := by
  unfold Live.cycleEnd
  split
  · by_cases hout : (l.str k).mah < l.qnom k / 2 ∨ 6 / 5 * l.qnom k < (l.str k).mah
    · rw [l.strLearn_of_outside k hout, Live.raise_str]
    · obtain ⟨hlow, hhigh⟩ := not_or.mp hout
      exact (congrArg Str.reset (l.strLearn_str_same k (not_lt.mp hlow) (not_lt.mp hhigh)) :)
  · rfl

section Empty
variable {s : State} {n : Fin 16}

theorem emptyAnchor_of_not (h : s.live.emptyDue n = false) : exec (.emptyAnchor n) s = .next s := by
  show execEmptyAnchor n s = _
  unfold execEmptyAnchor
  exact upd_congr (g := id) (if_pos (by simp [h]))

/-- The learning is firmware's (R26). -/
theorem emptyAnchor_of_coresDown (hlearns : (s.live.str n).learns = true) (hcores : s.live.coresUp = false) :
    exec (.emptyAnchor n) s = .next s := by
  show execEmptyAnchor n s = _
  unfold execEmptyAnchor
  exact upd_congr (g := id) (if_pos (by simp [hlearns, hcores]))

/-- The parts of the event in the order of R324. -/
theorem exec_emptyAnchor_of_due (hdue : s.live.emptyDue n = true) (hreset : (s.live.str n).reset = false)
    (hready : (s.live.str n).learns = true → s.live.coresUp = true) :
    exec (.emptyAnchor n) s = .next { s with live := ((s.live.cycleEnd n).emptied n).exComplete n } := by
  have hkept : ((((s.live.cycleEnd n).emptied n).exComplete n).str n).reset = false := by
    obtain ⟨d, hstr⟩ : ((s.live.cycleEnd n).str n).EmptyOf _ := (s.live.cycleEnd n).anchored_str n
    rw [hstr]
    exact (s.live.cycleEnd_reset n).trans hreset
  have hgo : ¬ ((!s.live.emptyDue n || ((s.live.str n).learns && !s.live.coresUp)) = true) := by simpa [hdue] using hready
  show execEmptyAnchor n s = _
  unfold execEmptyAnchor
  exact upd_congr (g := fun l => ((l.cycleEnd n).emptied n).exComplete n) ((if_neg hgo).trans (if_neg (ne_true_of_eq_false hkept)))

section Due
variable (hdue : s.live.emptyDue n = true) (hreset : (s.live.str n).reset = false)
include hdue hreset

/-- An event that learns nothing sends no detail, and completes the exercise that runs. -/
theorem emptyAnchor_of_not_learns (hlearns : (s.live.str n).learns = false) : Gives (exec (.emptyAnchor n) s) (fun t =>
    (s.live.str n).EmptyOf (t.live.str n) ∧ t.live.fc = s.live.fc ∧ (s.live.gauge.ex = .running → s.live.gauge.exStr = n →
      t.live.gauge.ex = .idle ∧ t.live.gauge.xlast = s.live.recd.clkSec)) := by
  have hend : s.live.cycleEnd n = s.live := if_neg (ne_true_of_eq_false hlearns)
  have hexec := exec_emptyAnchor_of_due hdue hreset (fun h => absurd (hlearns.symm.trans h) (by decide))
  rw [hend] at hexec
  refine ⟨_, hexec, s.live.anchored_str n, s.live.anchored_fc n, fun hex hstr => ?_⟩
  obtain ⟨hex', hstr'⟩ := s.live.emptied_exercise n
  obtain ⟨hidle, hlast⟩ := (s.live.emptied n).exComplete_of_running n (hex'.trans hex) (hstr'.trans hstr)
  exact ⟨hidle, hlast.trans (s.live.emptied_clkSec n)⟩

section Learns
variable (hlearns : (s.live.str n).learns = true) (hcores : s.live.coresUp = true)
include hlearns hcores

/-- A capacity out of range is not learned (R328). -/
theorem emptyAnchor_of_outside
    (hout : (s.live.str n).mah < s.live.qnom n / 2 ∨ 6 / 5 * s.live.qnom n < (s.live.str n).mah) :
    Gives (exec (.emptyAnchor n) s) (fun t =>
      (s.live.str n).EmptyOf (t.live.str n) ∧ Raised s t [s.live.detailOf 0x7001 (oStr n)]) := by
  have hend : s.live.cycleEnd n = s.live.raise 0x7001 (oStr n) := (if_pos hlearns).trans (s.live.strLearn_of_outside n hout)
  have hexec := exec_emptyAnchor_of_due hdue hreset (fun _ => hcores)
  rw [hend] at hexec
  exact ⟨_, hexec, Live.anchored_str _ n, (congrArg Fc.details (Live.anchored_fc _ n) :)⟩

/-- A capacity in range is learned within the jump limit, before the anchor sets A to it (R324, R328). -/
theorem emptyAnchor_of_inside (hlow : s.live.qnom n / 2 ≤ (s.live.str n).mah)
    (hhigh : (s.live.str n).mah ≤ 6 / 5 * s.live.qnom n) :
    Gives (exec (.emptyAnchor n) s) (fun t =>
      (∃ q : Str, q.unwritten = ((s.live.str n).relearned (s.live.jumpHeld n (s.live.str n).mah) s.live.recd.clkSec.toNat).flags.unwritten ∧
        q.EmptyOf (t.live.str n)) ∧
      Raised s t (if s.live.jumpHeld n (s.live.str n).mah = (s.live.str n).mah then [] else [s.live.detailOf 0x7002 (oStr n)])) := by
  have hend : s.live.cycleEnd n = s.live.strLearn n (s.live.str n).mah (s.live.str n).mah true := if_pos hlearns
  refine ⟨_, exec_emptyAnchor_of_due hdue hreset (fun _ => hcores),
    ⟨(s.live.cycleEnd n).str n, ?_, (s.live.cycleEnd n).anchored_str n⟩, ?_⟩
  · rw [hend, s.live.strLearn_str_same n hlow hhigh]
  · show (((s.live.cycleEnd n).emptied n).exComplete n).fc.details = _
    rw [Live.anchored_fc, hend, s.live.strLearn_details n hlow hhigh]

end Learns
end Due
end Empty

section Fields
variable {q r : Str} (h : q.EmptyOf r)
include h

theorem Str.EmptyOf.anchor : r.a = sat64 (truncR q.qeffU) ∧ r.uncert = false ∧ r.emptya = true ∧ r.fulla = false ∧
    r.emptyDone = true ∧ r.cycle = false := by
  obtain ⟨d, rfl⟩ := h
  exact ⟨rfl, rfl, rfl, rfl, rfl, rfl⟩

/-- The anchor leaves what the string has learned, and with it the unit of its capacity. -/
theorem Str.EmptyOf.capacity : r.qcap = q.qcap ∧ r.fade = q.fade ∧ r.learned = q.learned ∧ r.stale = q.stale ∧ r.nlearn = q.nlearn ∧
    r.tlearn = q.tlearn ∧ r.qeffU = q.qeffU := by
  obtain ⟨d, rfl⟩ := h
  exact ⟨rfl, rfl, rfl, rfl, rfl, rfl, rfl⟩

end Fields

/-- What a string has learned is no mark of its record's writes. -/
theorem Str.learned_of_unwritten {q : Str} {s : Str} {c : Rat} {sec : Nat} (h : q.unwritten = (s.relearned c sec).flags.unwritten) :
    q.qcap = c ∧ q.fade = 1 ∧ q.learned = true ∧ q.stale = false ∧ q.nlearn = s.nlearn + 1 ∧ q.tlearn = sec :=
  ⟨(congrArg Str.qcap h :), (congrArg Str.fade h :), (congrArg Str.learned h :), (congrArg Str.stale h :), (congrArg Str.nlearn h :),
    (congrArg Str.tlearn h :)⟩

/-- Settles O43: the FULL anchor is `Str.filled`; the EMPTY anchor is `Str.EmptyOf` the string as the learning leaves it. -/
theorem anchorsSetTheAccumulator : Obligations.AnchorsSetTheAccumulator := by
  intro s n l q
  refine ⟨fun hlive hnew hrun hlong => ?_, fullAnchor_of_not, fun hdue hreset => ⟨fun hlearns => ?_, emptyAnchor_of_coresDown,
    fun hlearns hcores hout => ?_, fun hlearns hcores hlow hhigh => ?_⟩, emptyAnchor_of_not⟩
  · obtain ⟨t, hexec, hstr, hother, hframe⟩ := fullAnchor_fills hlive hnew hrun hlong
    exact ⟨t, hexec, (congrArg Str.a hstr :), (congrArg Str.uncert hstr :), (congrArg Str.fulla hstr :), (congrArg Str.emptya hstr :),
      (congrArg Str.fullDone hstr :), (congrArg Str.cycle hstr :), (congrArg Str.qcap hstr :), hother, hframe⟩
  · obtain ⟨t, hexec, hstr, hfc, hexercise⟩ := emptyAnchor_of_not_learns hdue hreset hlearns
    obtain ⟨ha, huncert, hemptya, hfulla, hdone, hcycle⟩ := hstr.anchor
    exact ⟨t, hexec, ha, huncert, hemptya, hfulla, hdone, hcycle, hstr.capacity.1, hfc, hexercise⟩
  · obtain ⟨t, hexec, hstr, hraised⟩ := emptyAnchor_of_outside hdue hreset hlearns hcores hout
    obtain ⟨_, huncert, hemptya, _, _, _⟩ := hstr.anchor
    obtain ⟨hqcap, _, _, _, hnlearn, _, _⟩ := hstr.capacity
    exact ⟨t, hexec, hraised, hqcap, hnlearn, huncert, hemptya⟩
  · obtain ⟨t, hexec, ⟨k, hk, hstr⟩, hraised⟩ := emptyAnchor_of_inside hdue hreset hlearns hcores hlow hhigh
    obtain ⟨ha, huncert, hemptya, _, _, hcycle⟩ := hstr.anchor
    obtain ⟨hqcap, hfade, hlearned, hstale, hnlearn, htlearn, hunit⟩ := hstr.capacity
    obtain ⟨kqcap, kfade, klearned, kstale, knlearn, ktlearn⟩ := Str.learned_of_unwritten hk
    exact ⟨t, hexec, hqcap.trans kqcap, hlearned.trans klearned, hstale.trans kstale, hfade.trans kfade, hnlearn.trans knlearn,
      htlearn.trans ktlearn, by rw [ha, hunit], huncert, hcycle, hemptya, hraised⟩

end Sys2Proof.Machine
end

section
/-! PROOFS. The measurement of a current step (R325, R326), and a capacity that is stale (R327). -/
open Sys2Proof Sys2Proof.Machine
namespace Sys2Proof.Machine

/-! ## A step and its measurement -/

/-- I1 and V1 of a step: the means of the newest eight samples (R325). -/
def Str.stepI1 (q : Str) : Rat := sumR ((q.hist.take 8).map (·.2.1)) / 8
def Str.stepV1 (q : Str) : Rat := sumR ((q.hist.take 8).map (·.1)) / 8

/-- The resistance that a step shows. -/
def Str.stepR (q : Str) : Rat := -(q.stepV1 - q.stepV0) / (q.stepI1 - q.stepI0)

/-- The resistance at 25 °C (R326). -/
def Live.stepRn (l : Live) (k : Nat) (q : Str) : Rat := q.stepR / (1 + (l.sf k 3 7 0 80 : Rat) / 10000 * (25 - q.tcell))

/-- A step measures the string: the conditions of R325 and R326. -/
structure Live.StepGood (l : Live) (k : Nat) (q : Str) : Prop where
  ok : q.stepOk = true
  length : (q.hist.take 8).length = 8
  steady : ∀ x ∈ q.hist.take 8, x.2.2 = true ∧ |x.2.1 - q.stepI1| ≤ |q.stepI1 - q.stepI0| / 10
  large : l.dimin k ≤ |q.stepI1 - q.stepI0|
  moved : q.stepI1 ≠ q.stepI0
  warm : 0 ≤ q.tcell
  cool : q.tcell ≤ 45
  low : 1 / 10000 ≤ q.stepR
  high : q.stepR ≤ 2

/-- `StepGood` as the model computes it, with the magnitudes written as cases of the sign. -/
def Live.stepGood (l : Live) (k : Nat) (q : Str) : Bool :=
  let di := q.stepI1 - q.stepI0
  let adi := if di < 0 then -di else di
  q.stepOk && (q.hist.take 8).length = 8 &&
    (q.hist.take 8).all (fun x => x.2.2 && (if x.2.1 < q.stepI1 then q.stepI1 - x.2.1 else x.2.1 - q.stepI1) ≤ adi / 10) &&
    l.dimin k ≤ adi && di ≠ 0 && 0 ≤ q.tcell && q.tcell ≤ 45 && 1 / 10000 ≤ q.stepR && q.stepR ≤ 2

theorem ite_neg_eq_abs (x : Rat) : (if x < 0 then -x else x) = |x| := by
  split
  next h => exact (abs_of_neg h).symm
  next h => exact (abs_of_nonneg (not_lt.mp h)).symm

theorem ite_sub_eq_abs (x y : Rat) : (if x < y then y - x else x - y) = |x - y| := by
  rw [← ite_neg_eq_abs]
  simp only [sub_neg, neg_sub]

theorem Live.stepGood_iff {l : Live} {k : Nat} {q : Str} : l.stepGood k q = true ↔ l.StepGood k q := by
  simp only [Live.stepGood, ite_neg_eq_abs, ite_sub_eq_abs, Bool.and_eq_true, decide_eq_true_eq, List.all_eq_true, ne_eq, sub_eq_zero]
  constructor
  · rintro ⟨⟨⟨⟨⟨⟨⟨⟨ok, length⟩, steady⟩, large⟩, moved⟩, warm⟩, cool⟩, low⟩, high⟩
    exact ⟨ok, length, steady, large, moved, warm, cool, low, high⟩
  · rintro ⟨ok, length, steady, large, moved, warm, cool, low, high⟩
    exact ⟨⟨⟨⟨⟨⟨⟨⟨ok, length⟩, steady⟩, large⟩, moved⟩, warm⟩, cool⟩, low⟩, high⟩

/-- The string with a resistance `r`, `rn` at 25 °C, smoothed by one eighth once it has been measured (R326). -/
def Str.weighed (s : Str) (r rn : Rat) : Str :=
  if s.measured then { s with rhat := s.rhat + (r - s.rhat) / 8, rn := s.rn + (rn - s.rn) / 8 }
  else { s with rhat := r, rn := rn, measured := true }

theorem Str.weighed_rhat (s : Str) (r rn : Rat) :
    (s.weighed r rn).rhat = (if s.measured then s.rhat + (r - s.rhat) / 8 else r) ∧ (s.weighed r rn).measured = true := by
  unfold Str.weighed
  split
  next h => exact ⟨rfl, h⟩
  next h => exact ⟨rfl, rfl⟩

theorem Str.weighed_rest (s : Str) (r rn : Rat) : (s.weighed r rn).stepAt = s.stepAt ∧ (s.weighed r rn).a = s.a ∧
    (s.weighed r rn).qcap = s.qcap := by
  unfold Str.weighed
  split <;> exact ⟨rfl, rfl, rfl⟩

/-- F of a string that is stale follows its resistance (R327). -/
def Live.faded (l : Live) (k : Nat) : Live :=
  if (l.str k).stale then l.modStr k fun s => ({ s with fade := l.fadeOf k }).flags else l

/-- The string without F and the anchor flags, which follow it. -/
def Str.unfaded (s : Str) : Str := { s with fade := 0, fulla := false, emptya := false }

section Faded
variable (l : Live) (k : Nat)

theorem Live.faded_str_same : ((l.faded k).str k).unfaded = (l.str k).unfaded := by
  unfold Live.faded
  split
  · rw [Live.modStr_str_same]
    rfl
  · rfl

theorem Live.faded_str_other {m : Nat} (hm : m ≠ k) : (l.faded k).str m = l.str m := by
  unfold Live.faded
  split
  · exact Live.modStr_str_other l k _ m hm
  · rfl

theorem Live.faded_keep : Live.less 8192 (l.faded k) = Live.less 8192 l := by
  unfold Live.faded
  split
  · exact Live.modStr_keep l k _ _ rfl
  · rfl

/-- The step is over. -/
def Live.stepOver : Live := l.modStr k fun s => { s with stepAt := none }

/-- A step that measures the string is counted. -/
def Live.stepTaken (q : Str) : Live :=
  (((l.stepOver k).modStr k fun s => s.weighed q.stepR (l.stepRn k q)).count 109).faded k

theorem Live.stepTaken_str_same (q : Str) : ((l.stepTaken k q).str k).unfaded =
    (({ l.str k with stepAt := none } : Str).weighed q.stepR (l.stepRn k q)).unfaded := by
  rw [Live.stepTaken, Live.faded_str_same, Live.count_str, Live.modStr_str_same, Live.stepOver, Live.modStr_str_same]

theorem Live.stepTaken_str_other (q : Str) {m : Nat} (hm : m ≠ k) : (l.stepTaken k q).str m = l.str m := by
  rw [Live.stepTaken, Live.faded_str_other _ k hm, Live.count_str, Live.modStr_str_other _ k _ m hm]
  exact Live.modStr_str_other l k _ m hm

theorem Live.stepTaken_keep (q : Str) : Live.less 68165632 (l.stepTaken k q) = Live.less 68165632 l :=
  (Live.less_le rfl (Live.faded_keep _ k)).trans (by simp [Live.stepOver])

end Faded

section Measure
variable {s : State} {n : Fin 16} {a b : Nat} (hat : (s.live.str n).stepAt = some a)
  (hstart : s.live.tileStart (s.live.strTile n) = some b)
include hat hstart

theorem impedanceMeasure_of_lt (hshort : b < a + 200000) : exec (.impedanceMeasure n) s = .next s := by
  show execImpedanceMeasure n s = _
  unfold execImpedanceMeasure
  refine upd_congr (g := id) ?_
  simp only [Fin.toNat_eq_val, hat, hstart]
  exact if_pos hshort

section Long
variable (hlong : a + 200000 ≤ b)
include hlong

theorem exec_impedanceMeasure_of_good (hgood : s.live.stepGood n (s.live.str n) = true) : exec (.impedanceMeasure n) s =
    .next { s with live := s.live.stepTaken n (s.live.str n) } := by
  show execImpedanceMeasure n s = _
  unfold execImpedanceMeasure
  refine upd_congr (g := fun l => l.stepTaken n (s.live.str n)) ?_
  simp only [Fin.toNat_eq_val, hat, hstart]
  rw [if_neg (Nat.not_lt_of_le hlong)]
  exact if_neg (c := (!s.live.stepGood n (s.live.str n)) = true) (by simp [hgood])

theorem exec_impedanceMeasure_of_bad (hbad : s.live.stepGood n (s.live.str n) = false) :
    exec (.impedanceMeasure n) s = .next { s with live := s.live.stepOver n } := by
  show execImpedanceMeasure n s = _
  unfold execImpedanceMeasure
  refine upd_congr (g := fun l => l.stepOver n) ?_
  simp only [Fin.toNat_eq_val, hat, hstart]
  rw [if_neg (Nat.not_lt_of_le hlong)]
  exact if_pos (c := (!s.live.stepGood n (s.live.str n)) = true) (by simp [hbad])

/-- A step that does not measure the string ends, and nothing else changes. -/
theorem impedanceMeasure_of_bad (hbad : s.live.stepGood n (s.live.str n) = false) : Gives (exec (.impedanceMeasure n) s) (fun t =>
    t.live.str n = { s.live.str n with stepAt := none } ∧ (∀ m, m ≠ n.val → t.live.str m = s.live.str m) ∧
      SameBut [.gauge, .recd, .w1c] s t) :=
  ⟨_, exec_impedanceMeasure_of_bad hat hstart hlong hbad, Live.modStr_str_same _ _ _, fun m hm => Live.modStr_str_other _ _ _ m hm,
    live_sameBut (m := 8192) (by simp [Live.stepOver]) _ (by decide)⟩

theorem impedanceMeasure_of_good (hgood : s.live.stepGood n (s.live.str n) = true) : Gives (exec (.impedanceMeasure n) s) (fun t =>
    (t.live.str n).unfaded = (({ s.live.str n with stepAt := none } : Str).weighed (s.live.str n).stepR
      (s.live.stepRn n (s.live.str n))).unfaded ∧ (∀ m, m ≠ n.val → t.live.str m = s.live.str m) ∧ SameBut [.gauge, .recd, .w1c] s t) :=
  ⟨_, exec_impedanceMeasure_of_good hat hstart hlong hgood, s.live.stepTaken_str_same n _,
    fun _ hm => s.live.stepTaken_str_other n _ hm, live_sameBut (s.live.stepTaken_keep n _) _ (by decide)⟩

/-- The clause of R325 and R326 on a step that is measured. -/
theorem impedanceMeasure_measures : Gives (exec (.impedanceMeasure n) s) (fun t =>
    (t.live.str n).stepAt = none ∧ (t.live.str n).a = (s.live.str n).a ∧ (t.live.str n).qcap = (s.live.str n).qcap ∧
      (∀ m, m ≠ n.val → t.live.str m = s.live.str m) ∧ SameBut [.gauge, .recd, .w1c] s t ∧
      (¬ s.live.StepGood n (s.live.str n) → t.live.str n = { s.live.str n with stepAt := none }) ∧
      (s.live.StepGood n (s.live.str n) → (t.live.str n).rhat =
        (if (s.live.str n).measured then (s.live.str n).rhat + ((s.live.str n).stepR - (s.live.str n).rhat) / 8
          else (s.live.str n).stepR) ∧ (t.live.str n).measured = true)) := by
  by_cases hgood : s.live.StepGood n (s.live.str n)
  · obtain ⟨t, hexec, hstr, hother, hframe⟩ := impedanceMeasure_of_good hat hstart hlong (Live.stepGood_iff.mpr hgood)
    let q : Str := { s.live.str n with stepAt := none }
    obtain ⟨hrhat, hmeasured⟩ := q.weighed_rhat (s.live.str n).stepR (s.live.stepRn n (s.live.str n))
    obtain ⟨hstep, ha, hqcap⟩ := q.weighed_rest (s.live.str n).stepR (s.live.stepRn n (s.live.str n))
    exact ⟨t, hexec, (congrArg Str.stepAt hstr :).trans hstep, (congrArg Str.a hstr :).trans ha, (congrArg Str.qcap hstr :).trans hqcap,
      hother, hframe, fun h => absurd hgood h,
      fun _ => ⟨(congrArg Str.rhat hstr :).trans hrhat, (congrArg Str.measured hstr :).trans hmeasured⟩⟩
  · obtain ⟨t, hexec, hstr, hother, hframe⟩ :=
      impedanceMeasure_of_bad hat hstart hlong (Bool.eq_false_iff.mpr (mt Live.stepGood_iff.mp hgood))
    exact ⟨t, hexec, (congrArg Str.stepAt hstr :), (congrArg Str.a hstr :), (congrArg Str.qcap hstr :), hother, hframe, fun _ => hstr,
      fun h => absurd h hgood⟩

end Long
end Measure

/-- A step that misses one of the conditions does not measure the string. -/
theorem Live.StepGood.not_of_fails {l : Live} {k : Nat} {q : Str} (h : q.stepOk = false ∨ (q.hist.take 8).length < 8 ∨
    (∃ x ∈ q.hist.take 8, x.2.2 = false) ∨ q.stepR < 1 / 10000 ∨ 2 < q.stepR ∨ q.tcell < 0 ∨ 45 < q.tcell) : ¬ l.StepGood k q := by
  intro g
  rcases h with h | h | ⟨x, hx, h⟩ | h | h | h | h
  · exact absurd (h.symm.trans g.ok) (by decide)
  · exact absurd g.length (Nat.ne_of_lt h)
  · exact absurd (h.symm.trans (g.steady x hx).1) (by decide)
  · exact absurd g.low (not_le.mpr h)
  · exact absurd g.high (not_le.mpr h)
  · exact absurd g.warm (not_le.mpr h)
  · exact absurd g.cool (not_le.mpr h)

/-! ## CAP_STALE (R327, R342) -/

section Stale
variable {s : State} {n : Fin 16}

theorem capStale_of_stale (h : (s.live.str n).stale = true) : exec (.capStale n) s = .next s := by
  show execCapStale n s = _
  unfold execCapStale
  exact upd_congr (g := id) (if_neg (by simp [h]))

theorem capStale_marks (hcores : s.live.coresUp = true) (hlive : (s.live.str n).live = true) (hfresh : (s.live.str n).stale = false)
    (hage : s.live.ageStale n = true) (hwait : (s.live.emptyDue n && (s.live.str n).learns) = false) :
    Gives (exec (.capStale n) s) (fun t => (t.live.str n).stale = true ∧ Raised s t [s.live.detailOf 0x7003 (oStr n)] ∧
      ((t.live.str n).due = true ∨ (t.live.str n).writing.isSome = true)) := by
  have hexec : exec (.capStale n) s =
      s.upd fun l => ((l.modStr n fun q => { q with stale := true }).raise 0x7003 (oStr n)).strDue n := by
    show execCapStale n s = _
    unfold execCapStale
    exact upd_congr (if_pos (by simpa [hcores, hlive, hfresh, hage] using Bool.and_eq_false_iff.mp hwait))
  let k := (s.live.modStr n fun q => { q with stale := true }).raise 0x7003 (oStr n)
  have hw : k.Writes (k.strDue n) n := k.strDue_writes n
  have hstr : k.str n = { s.live.str n with stale := true } := Live.modStr_str_same _ _ _
  refine ⟨_, hexec, (congrArg Str.stale (hw.rest.trans (congrArg Str.unwritten hstr)) :), ?_, k.strDue_pends n⟩
  exact (congrArg Fc.details (Live.less_fc hw.keep (by decide)) :)

end Stale

end Sys2Proof.Machine
end

section
/-! PROOFS. The journal and the verification of learned records (R338 to R340), the exercise that waits too long (Table 9.2), and the
timed reads of pack monitors and air sensors (R318, R355). -/
open Sys2Proof Sys2Proof.Machine
namespace Sys2Proof.Machine

/-! ## JOURNAL_PERIOD (R340) -/

theorem journalPeriod_writes {s : State} {n : Fin 16} (hcores : s.live.coresUp = true) (hlive : (s.live.str n).live = true)
    (hnew : (s.live.str n).a ≠ (s.live.str n).lastAcc) (hidle : (s.live.str n).writing = none)
    (hage : ((s.live.sf n 9 31 24 24 * 3600 * secTicks : Nat) : Int) ≤
      (s.live.sinceWrite n).getD ((s.live.now : Int) - (s.live.str n).madeAt)) :
    Gives (exec (.journalPeriod n) s) (fun t => ((t.live.str n).due = true ∨ (t.live.str n).writing.isSome = true) ∧
      (t.live.str n).a = (s.live.str n).a ∧ (∀ m, m ≠ n.val → t.live.str m = s.live.str m) ∧ SameBut [.gauge, .therm] s t) := by
  have hexec : exec (.journalPeriod n) s = s.upd fun l => l.strDue n := by
    show execJournalPeriod n s = _
    unfold execJournalPeriod
    refine upd_congr (if_pos ?_)
    simp only [Bool.and_eq_true, decide_eq_true_eq]
    exact ⟨⟨⟨⟨hcores, hlive⟩, hnew⟩, by simp [hidle]⟩, hage⟩
  have hw := s.live.strDue_writes n
  exact ⟨_, hexec, s.live.strDue_pends n, (congrArg Str.a hw.rest :), hw.other, live_sameBut hw.keep _ (by decide)⟩

/-! ## LEARNED_RECORD_DONE (R338, R339) -/

/-- The string whose write is over. -/
def Str.written (s : Str) : Str := { s with writing := none }

/-- The string whose record `x` has been verified at tick `now`. -/
def Str.recorded (s : Str) (now : Nat) (x : List Byte) : Str := { s with wroteAt := some (now : Int), lastAcc := (GaugeRec.ofBytes x).acc }

/-! ### What lets a write start is no part of a string -/

section Starts
variable (l : Live) (n : Nat) (f : Str → Str)

@[simp] theorem Live.modStr_recErase : (l.modStr n f).recErase = l.recErase := rfl
@[simp] theorem Live.modStr_coresUp : (l.modStr n f).coresUp = l.coresUp := rfl
@[simp] theorem Live.flashEnd_recErase : (l.flashEnd n).recErase = l.recErase := rfl
@[simp] theorem Live.flashEnd_coresUp : (l.flashEnd n).coresUp = l.coresUp := rfl
@[simp] theorem Live.slotFill_recErase (b : Bool) (x : List Byte) : (l.slotFill n b x).recErase = l.recErase := rfl

end Starts

/-! ### A slot that is erased or kept -/

/-- A slot is erased, where an erase may start. -/
def Live.slotClear (l : Live) (k : Nat) (b : Bool) : Live := if l.recErase then l.slotErase k b else l

section Clear
variable (l : Live) (k : Nat) (b : Bool)

theorem Live.slotClear_str (m : Nat) : (l.slotClear k b).str m = l.str m := by
  unfold Live.slotClear
  split <;> rfl

@[simp] theorem Live.slotClear_keep (m : Nat) (h : 8192 ||| m = m) : Live.less m (l.slotClear k b) = Live.less m l := by
  unfold Live.slotClear
  split
  · exact l.slotErase_keep k b m h
  · rfl

theorem Live.slotClear_slotRec_same (h : l.recErase = true) : (l.slotClear k b).slotRec k b = none := by
  rw [Live.slotClear, if_pos h, Live.slotRec_slotErase_same]

theorem Live.slotClear_slotRec_of_ne {c : Bool} (h : slotPage k c ≠ slotPage k b) : (l.slotClear k b).slotRec k c = l.slotRec k c := by
  unfold Live.slotClear
  split
  · exact l.slotRec_slotErase_of_ne k b h
  · rfl

end Clear

/-- Slot `b` holds the record that has been verified. -/
def Live.slotKept (l : Live) (k : Nat) (b : Bool) (x : List Byte) : Live :=
  (l.slotFill k b x).modStr k fun s => s.recorded l.now x

theorem Live.slotKept_str_same (l : Live) (k : Nat) (b : Bool) (x : List Byte) :
    (l.slotKept k b x).str k = (l.str k).recorded l.now x := Live.modStr_str_same _ k _

theorem Live.slotKept_slotRec (l : Live) (k : Nat) (b : Bool) (x : List Byte) :
    (l.slotKept k b x).slotRec k b = some (GaugeRec.ofBytes x) := l.slotRec_slotFill_same k b x

/-! ### The three ends of a write -/

/-- The write in progress is over. -/
def Live.writeOver (l : Live) (k : Nat) : Live := (l.flashEnd (16 + k)).modStr k Str.written

/-- A record that reads back stands in slot `b`, and the older one goes. -/
def Live.recordKept (l : Live) (k : Nat) (b : Bool) (x : List Byte) : Live :=
  (((l.writeOver k).slotKept k b x).slotClear k (!b)).count 111

/-- A second attempt has failed too: the slot holds no record, and the fault is sent. -/
def Live.recordLost (l : Live) (k : Nat) (b : Bool) : Live := ((l.writeOver k).slotClear k b).raise 0x7007 (oStr k)

/-- A first attempt has failed: a second is asked for. -/
def Live.recordRetried (l : Live) (k : Nat) (b : Bool) (x : List Byte) : Live :=
  (l.writeOver k).modStr k fun s => { s with retry := some (b, x) }

section Records
variable (l : Live) (k : Nat) (b : Bool) (x : List Byte)

theorem Live.writeOver_str_same : (l.writeOver k).str k = (l.str k).written := Live.modStr_str_same _ k _

theorem Live.writeOver_recErase : (l.writeOver k).recErase = l.recErase := by simp [Live.writeOver]

theorem Live.recordKept_str_same : (l.recordKept k b x).str k = (l.str k).written.recorded l.now x := by
  rw [Live.recordKept, Live.count_str, Live.slotClear_str, Live.slotKept_str_same, Live.writeOver_str_same]
  rfl

theorem Live.recordKept_fc : (l.recordKept k b x).fc = l.fc := Live.same_fc (by simp [Live.recordKept, Live.slotKept, Live.writeOver])

theorem Live.recordKept_slotRec : (l.recordKept k b x).slotRec k b = some (GaugeRec.ofBytes x) := by
  rw [Live.recordKept, Live.slotRec_congr (congrArg Gauge.flash (Live.count_gauge _ 111)),
    Live.slotClear_slotRec_of_ne _ k (!b) (slotPage_ne k b).symm, Live.slotKept_slotRec]

theorem Live.recordKept_slotRec_other (h : l.recErase = true) : (l.recordKept k b x).slotRec k (!b) = none := by
  rw [Live.recordKept, Live.slotRec_congr (congrArg Gauge.flash (Live.count_gauge _ 111)), Live.slotClear_slotRec_same]
  simpa [Live.slotKept, Live.writeOver] using h

theorem Live.recordLost_str_same : (l.recordLost k b).str k = (l.str k).written := by
  rw [Live.recordLost, Live.raise_str, Live.slotClear_str, Live.writeOver_str_same]

theorem Live.recordLost_details : (l.recordLost k b).fc.details = l.fc.details ++ [l.detailOf 0x7007 (oStr k)] := by
  have hkeep : Live.less 24576 ((l.writeOver k).slotClear k b) = Live.less 24576 l := by simp [Live.writeOver]
  rw [← Live.detailOf_congr (Live.less_now hkeep (by decide)), ← Live.less_fc hkeep (by decide)]
  rfl

theorem Live.recordLost_slotRec (h : l.recErase = true) : (l.recordLost k b).slotRec k b = none :=
  (l.writeOver k).slotClear_slotRec_same k b ((l.writeOver_recErase k).trans h)

theorem Live.recordLost_slotRec_other : (l.recordLost k b).slotRec k (!b) = l.slotRec k (!b) :=
  (l.writeOver k).slotClear_slotRec_of_ne k b (slotPage_ne k b)

theorem Live.recordRetried_fc : (l.recordRetried k b x).fc = l.fc := Live.same_fc (by simp [Live.recordRetried, Live.writeOver])

theorem Live.recordRetried_coresUp : (l.recordRetried k b x).coresUp = l.coresUp := by simp [Live.recordRetried, Live.writeOver]

theorem Live.recordRetried_recErase : (l.recordRetried k b x).recErase = l.recErase := by simp [Live.recordRetried, Live.writeOver]

theorem Live.recordRetried_str_same : (l.recordRetried k b x).str k = { (l.str k).written with retry := some (b, x) } := by
  rw [Live.recordRetried, Live.modStr_str_same, Live.writeOver_str_same]

end Records

section Done
variable {s : State} {n : Fin 16} {b again : Bool} {x : List Byte}

/-- The read-back ends the write, and firmware goes on with what is due (R26). -/
theorem exec_learnedRecordDone (ok : Bool) (hwriting : (s.live.str n).writing = some (b, x, again)) :
    exec (.learnedRecordDone n ok) s = .next { s with live := (if ok then s.live.recordKept n b x
      else if again then s.live.recordLost n b else s.live.recordRetried n b x).strWrite n } := by
  show execLearnedRecordDone n ok s = _
  unfold execLearnedRecordDone
  refine upd_congr (g := fun l => (if ok then l.recordKept n b x
    else if again then l.recordLost n b else l.recordRetried n b x).strWrite n) ?_
  simp only [Fin.toNat_eq_val, hwriting]
  split
  · rfl
  split
  · rfl
  · rfl

section Idle
variable (hdue : (s.live.str n).due = false) (hretry : (s.live.str n).retry = none)
include hdue hretry

theorem learnedRecordDone_ok (hwriting : (s.live.str n).writing = some (b, x, again)) :
    exec (.learnedRecordDone n true) s = .next { s with live := s.live.recordKept n b x } := by
  have hstr := s.live.recordKept_str_same n b x
  have hidle : (s.live.recordKept n b x).strWrite n = s.live.recordKept n b x :=
    Live.strWrite_of_idle ((congrArg Str.due hstr :).trans hdue) ((congrArg Str.retry hstr :).trans hretry)
  rw [exec_learnedRecordDone true hwriting, if_pos rfl, hidle]

theorem learnedRecordDone_lost (hwriting : (s.live.str n).writing = some (b, x, true)) :
    exec (.learnedRecordDone n false) s = .next { s with live := s.live.recordLost n b } := by
  have hstr := s.live.recordLost_str_same n b
  have hidle : (s.live.recordLost n b).strWrite n = s.live.recordLost n b :=
    Live.strWrite_of_idle ((congrArg Str.due hstr :).trans hdue) ((congrArg Str.retry hstr :).trans hretry)
  rw [exec_learnedRecordDone false hwriting, if_neg (by decide), if_pos rfl, hidle]

end Idle

/-- The one retry of R338 waits where no erase may start (R339). -/
theorem learnedRecordDone_retries (hwriting : (s.live.str n).writing = some (b, x, false)) :
    Gives (exec (.learnedRecordDone n false) s) (fun t => t.live.fc = s.live.fc ∧
      (t.live.str n).wroteAt = (s.live.str n).wroteAt ∧ (t.live.str n).lastAcc = (s.live.str n).lastAcc ∧
      (s.live.coresUp = false ∨ s.live.recErase = false → (t.live.str n).writing = none ∧ (t.live.str n).retry = some (b, x)) ∧
      (s.live.coresUp = true → s.live.recErase = true →
        (t.live.str n).writing = some (b, x, true) ∧ (t.live.str n).retry = none)) := by
  have hexec := exec_learnedRecordDone false hwriting
  have hstr := s.live.recordRetried_str_same n b x
  have hfc := s.live.recordRetried_fc n b x
  rw [← s.live.recordRetried_coresUp n b x, ← s.live.recordRetried_recErase n b x]
  rw [if_neg (by decide), if_neg (by decide)] at hexec
  generalize s.live.recordRetried n b x = k at hexec hstr hfc ⊢
  have hretry : (k.str n).retry = some (b, x) := (congrArg Str.retry hstr :)
  have hover : (k.str n).writing = none := (congrArg Str.writing hstr :)
  have hw := k.strWrite_writes n
  have hrest := hw.rest.trans (congrArg Str.unwritten hstr)
  refine ⟨_, hexec, (Live.less_fc hw.keep (by decide)).trans hfc, (congrArg Str.wroteAt hrest :), (congrArg Str.lastAcc hrest :),
    fun hwait => ?_, fun hcores herase => ?_⟩
  · rw [Live.strWrite_of_wait hwait hretry]
    exact ⟨hover, hretry⟩
  · rw [Live.strWrite_of_retry hcores herase hover hretry, Live.slotWrite_str_same]
    exact ⟨rfl, rfl⟩

end Done

/-! ## EXERCISE_TIMEOUT (Table 9.2) -/

theorem exerciseTimeout_of_not {s : State} (h : s.live.gauge.ex ≠ .due) : exec .exerciseTimeout s = .next s := by
  show execExerciseTimeout s = _
  unfold execExerciseTimeout
  exact upd_congr (g := id) (if_neg (by simp [h]))

/-- A host's exercise waits 1 h, and a scheduled one to the end of its hour. -/
theorem exerciseTimeout_ends {s : State} (hex : s.live.gauge.ex = .due)
    (hlate : if s.live.gauge.exHost then s.live.gauge.exAt + 3600000 ≤ s.live.bond else s.live.clockHour ≠ s.live.cf 0x7FFF 0 15 8) :
    Gives (exec .exerciseTimeout s) (fun t => t.live.gauge.ex = .idle ∧
      Raised s t [s.live.detailOf 0x7005 (oStr s.live.gauge.exStr)]) := by
  have hexec : exec .exerciseTimeout s = s.upd fun l => l.exEnd true := by
    show execExerciseTimeout s = _
    unfold execExerciseTimeout
    refine upd_congr (if_pos ?_)
    cases hhost : s.live.gauge.exHost
    all_goals simpa [hex, hhost] using hlate
  exact ⟨_, hexec, rfl, rfl⟩

/-! ## The timed reads (R318, R355, R501) -/

/-- A transfer that is asked for is due or under way. -/
theorem Live.piAsk_asked (l : Live) (p : Nat) (a : Asker) :
    ((l.piAsk p a).pi p).due.contains a = true ∨ ((l.piAsk p a).pi p).active = some a := by
  rw [Live.piAsk, Live.modPi_pi_same]
  split
  next h => simpa using h
  next => exact .inl (by simp)

section Reads
variable {s : State}

theorem packMonitorRead_of_lt {n : Fin 16} (h : s.live.now < (s.live.str n).pkAt + 200000000) :
    exec (.packMonitorRead n) s = .next s := by
  show execPackMonitorRead n s = _
  unfold execPackMonitorRead
  exact upd_congr (g := id) (if_neg (by simp [secTicks, Nat.not_le_of_lt h]))

theorem packMonitorRead_asks {n : Fin 16} (hworks : s.live.working = true) (hlive : (s.live.str n).live = true)
    (hon : s.live.cb (oStr n) 9 18 = true) (hlong : (s.live.str n).pkAt + 200000000 ≤ s.live.now) {p : Nat}
    (hp : (if s.live.cb (oStr n) 9 17 then 1 else 0) = p) :
    Gives (exec (.packMonitorRead n) s) (fun t => t.live.str n = { s.live.str n with pkAt := s.live.now } ∧
      ((t.live.pi p).due.contains (.gauge n) = true ∨ (t.live.pi p).active = some (.gauge n)) ∧ SameBut [.gauge, .ports] s t) := by
  have hexec : exec (.packMonitorRead n) s =
      s.upd fun l => (l.modStr n fun q => { q with pkAt := s.live.now }).piAsk p (.gauge n) := by
    subst hp
    show execPackMonitorRead n s = _
    unfold execPackMonitorRead
    exact upd_congr (if_pos (by simp [hworks, hlive, hon, secTicks, hlong]))
  exact ⟨_, hexec, Live.modStr_str_same _ _ _, Live.piAsk_asked _ p _, live_sameBut (m := 532480) (by simp) _ (by decide)⟩

/-- An enabled air sensor is read a second after the last read. -/
theorem airSensorRead_asks {k : Fin 4} (hdom : s.live.pwr.on.getLsbD 4 = true) (hworks : s.live.working = true)
    (hon : s.live.airEn k = true) (hlong : ∀ a, (tget {} s.live.therm.air k).askAt = some a → a + 200000000 ≤ s.live.now) :
    Gives (exec (.airSensorRead k) s) (fun t =>
      tget {} t.live.therm.air k = { tget {} s.live.therm.air k with askAt := some s.live.now } ∧
      ((t.live.pi (s.live.airPort k)).due.contains (.air k) = true ∨ (t.live.pi (s.live.airPort k)).active = some (.air k)) ∧
      SameBut [.therm, .ports] s t) := by
  let a : AirSensor := { tget {} s.live.therm.air k with askAt := some s.live.now }
  have hexec : exec (.airSensorRead k) s =
      s.upd fun l => ({ l with therm := { l.therm with air := tput {} l.therm.air k a } }).piAsk (l.airPort k) (.air k) := by
    show execAirSensorRead k s = _
    unfold execAirSensorRead
    refine upd_congr (if_pos ?_)
    cases hask : (tget {} s.live.therm.air k).askAt with
    | none => simp [Live.dom, hdom, hworks, hon]
    | some at_ => simp [Live.dom, hdom, hworks, hon, secTicks, hlong at_ hask]
  exact ⟨_, hexec, tget_tput_same _ _ _ _, Live.piAsk_asked _ _ _, live_sameBut (m := 540672) (by simp) _ (by decide)⟩

end Reads

/-- Settles O44: a step is measured when it is `Live.StepGood`; a record that reads back is `Live.recordKept`, and one that does not is
tried again or `Live.recordLost`. -/
theorem measurementsJournalsAndTimedReads : Obligations.MeasurementsJournalsAndTimedReads := by
  refine ⟨fun s n a b hat hstart => ⟨impedanceMeasure_of_lt hat hstart, fun hlong => ?_⟩, fun s n k => ⟨?_, capStale_of_stale, ?_,
    fun b x again hwriting hdue hretry => ⟨?_, fun hfirst => ?_, fun hagain => ?_⟩, exerciseTimeout_ends, exerciseTimeout_of_not,
    fun hworks hlive hon hlong => packMonitorRead_asks hworks hlive hon hlong rfl, packMonitorRead_of_lt, airSensorRead_asks⟩⟩
  · obtain ⟨t, hexec, hstep, ha, hqcap, hother, hframe, hbad, hgood⟩ := impedanceMeasure_measures hat hstart hlong
    exact ⟨t, hexec, hstep, ha, hqcap, hother, hframe, fun h => hbad (Live.StepGood.not_of_fails h),
      fun ok length steady large moved warm cool low high => hgood ⟨ok, length, steady, large, moved, warm, cool, low, high⟩⟩
  · exact fun hcores hlive hfresh hage hwait => capStale_marks hcores hlive hfresh (decide_eq_true hage) hwait
  · exact fun hcores hlive hnew hidle hage => journalPeriod_writes hcores hlive hnew hidle (by simpa [secTicks, mul_assoc] using hage)
  · have hstr := s.live.recordKept_str_same n b x
    exact ⟨_, learnedRecordDone_ok hdue hretry hwriting, s.live.recordKept_slotRec n b x, (congrArg Str.writing hstr :),
      (congrArg Str.lastAcc hstr :), (congrArg Str.wroteAt hstr :), s.live.recordKept_slotRec_other n b x, s.live.recordKept_fc n b x⟩
  · exact learnedRecordDone_retries (hfirst ▸ hwriting)
  · have hstr := s.live.recordLost_str_same n b
    exact ⟨_, learnedRecordDone_lost hdue hretry (hagain ▸ hwriting), (congrArg Str.writing hstr :), s.live.recordLost_slotRec n b,
      s.live.recordLost_slotRec_other n b, s.live.recordLost_details n b⟩

end Sys2Proof.Machine
end

section
/-! PROOFS. The read of the die sensors: what readings that agree make of the die's band, and the detail that a hotter band sends
beside its own when the record of a core-voltage tug overwrites one that was not flushed. -/
open Sys2Proof Sys2Proof.Machine
namespace Sys2Proof.Machine

/-! ## Numbered lists -/

section Numbered
variable {α : Type}

theorem numbered_map_snd (n : Nat) (xs : List α) : (numbered n xs).map (·.2) = xs := by
  induction xs generalizing n with
  | nil => rfl
  | cons x xs ih => exact congrArg (x :: ·) (ih (n + 1))

theorem numbered_fst_mem {n : Nat} {xs : List α} {p : Nat × α} (h : p ∈ numbered n xs) : n ≤ p.1 ∧ p.1 < n + xs.length := by
  induction xs generalizing n with
  | nil => cases h
  | cons x xs ih =>
    rw [List.length_cons]
    rcases List.mem_cons.mp h with rfl | h
    · exact ⟨le_refl n, by omega⟩
    · obtain ⟨hlo, hhi⟩ := ih h
      omega

theorem numbered_snd_mem {n : Nat} {xs : List α} {p : Nat × α} (h : p ∈ numbered n xs) : p.2 ∈ xs := by
  rw [← numbered_map_snd n xs]
  exact List.mem_map_of_mem h

/-- All items but one. -/
theorem numbered_others_length {n i : Nat} {xs : List α} (hlo : n ≤ i) (hhi : i < n + xs.length) :
    ((numbered n xs).filter (fun q => q.1 ≠ i)).length + 1 = xs.length := by
  induction xs generalizing n with
  | nil => exact absurd hhi (by simpa using hlo)
  | cons x xs ih =>
    rw [List.length_cons] at hhi
    rcases Nat.eq_or_lt_of_le hlo with rfl | hlt
    · have hrest : (numbered (n + 1) xs).filter (fun q => q.1 ≠ n) = numbered (n + 1) xs :=
        List.filter_eq_self.mpr fun q hq => decide_eq_true (by have := (numbered_fst_mem hq).1; omega)
      rw [numbered, List.filter_cons_of_neg (by simp), hrest, List.length_cons, ← List.length_map (f := (·.2)), numbered_map_snd]
    · rw [numbered, List.filter_cons_of_pos (by simpa using hlt.ne), List.length_cons, List.length_cons, ih hlt (by omega)]

end Numbered

/-! ## DIE_SENSOR_READ of readings that agree (R349, R350) -/

theorem median7_mem {xs : List Rat} (h : xs.length = 7) : median7 xs ∈ xs := by
  have hlt : 3 < (xs.mergeSort (fun a b => a ≤ b)).length := by
    rw [List.length_mergeSort]
    omega
  rw [median7, List.getElem?_eq_getElem hlt]
  exact List.mem_mergeSort.mp (List.getElem_mem hlt)

theorem DieSensor.read_of_agrees {d : DieSensor} {t : Rat} {others : List Rat} (hwhole : d.broken = false) (hlo : -60 ≤ t) (hhi : t ≤ 200)
    (hmedian : |t - median7 others| ≤ 15) : d.read t others = { t := t } := by
  have hoff : ¬ 15 < |t - median7 others| := not_lt.mpr hmedian
  have hout : (t < -60 || 200 < t) = false := by simp [hlo, hhi]
  simp [DieSensor.read, ite_sub_eq_abs, hoff, hout, hwhole]

/-- The eight readings, each in range and no two more than 15 °C apart. -/
structure DieAgree (ts : List Rat) : Prop where
  length : ts.length = 8
  low : ∀ t ∈ ts, -60 ≤ t
  high : ∀ t ∈ ts, t ≤ 200
  near : ∀ t ∈ ts, ∀ u ∈ ts, t ≤ u + 15

/-- What a sensor makes of its own reading and those of the others. -/
def Live.dieNew (l : Live) (ts : List Rat) (p : Nat × Rat) : Nat × DieSensor :=
  (p.1, (tget {} l.therm.die p.1).read p.2 (((numbered 0 ts).filter (fun q => q.1 ≠ p.1)).map (·.2)))

/-- A sensor's new state is kept, and one newly found broken is counted and reported. -/
def Live.diePut (l : Live) (p : Nat × DieSensor) : Live :=
  let was := (tget {} l.therm.die p.1).broken
  let l := { l with therm := { l.therm with die := tput {} l.therm.die p.1 p.2 } }
  if p.2.broken && !was then (l.count 107).raise 0x8005 0x8FFF p.1 else l

theorem Live.dieNew_of_agrees {l : Live} {ts : List Rat} (h : DieAgree ts) (hwhole : ∀ i, i < 8 → (tget {} l.therm.die i).broken = false)
    {p : Nat × Rat} (hp : p ∈ numbered 0 ts) : l.dieNew ts p = (p.1, { t := p.2 }) := by
  have hi := (numbered_fst_mem hp).2
  have ht := numbered_snd_mem hp
  let others := ((numbered 0 ts).filter (fun q => q.1 ≠ p.1)).map (·.2)
  have hlength : others.length = 7 := by
    have := numbered_others_length (Nat.zero_le p.1) hi
    have := h.length
    simp only [others, List.length_map]
    omega
  have hmedian : median7 others ∈ ts := by
    obtain ⟨q, hq, hqm⟩ := List.mem_map.mp (median7_mem hlength)
    exact hqm ▸ numbered_snd_mem (List.mem_filter.mp hq).1
  refine congrArg (Prod.mk p.1) (DieSensor.read_of_agrees (hwhole p.1 (by have := h.length; omega)) (h.low _ ht) (h.high _ ht) ?_)
  rw [abs_le]
  have := h.near _ ht _ hmedian
  have := h.near _ hmedian _ ht
  constructor <;> linarith

theorem Live.forL_diePut_of_whole {l : Live} {ps : List (Nat × DieSensor)} (h : ∀ p ∈ ps, p.2.broken = false) :
    ∃ die, l.forL ps Live.diePut = { l with therm := { l.therm with die := die } } := by
  induction ps generalizing l with
  | nil => exact ⟨_, rfl⟩
  | cons p ps ih =>
    have hput : l.diePut p = { l with therm := { l.therm with die := tput {} l.therm.die p.1 p.2 } } := by
      simp [Live.diePut, h p List.mem_cons_self]
    obtain ⟨die, hrest⟩ := ih (l := l.diePut p) fun q hq => h q (List.mem_cons_of_mem p hq)
    exact ⟨die, hrest.trans (by rw [hput])⟩

/-- The controller after a read of die temperature `top`: the band has still to be judged. -/
def Live.dieHeld (l : Live) (die : Tbl DieSensor) (top : Rat) : Live :=
  { l with therm := { l.therm with dieAt := some l.now, die := die, tdie := top } }

/-- The readings in degrees. -/
def dieTemps (xs : List Int) : List Rat := xs.map (fun x => (x : Rat) / 16)

theorem dieSensorRead_of_agrees {s : State} {xs : List Int} {top : Rat} {b : Nat} (hdom : s.live.dom 4 = true)
    (hdue : s.live.dieDue = true) (h : DieAgree (dieTemps xs)) (hwhole : ∀ i, i < 8 → (tget {} s.live.therm.die i).broken = false)
    (htop : (dieTemps xs).max?.getD 0 = top) (hband : bandStep s.live.therm.dband top = b) :
    ∃ die, exec (.dieSensorRead xs) s = .next { s with live := (s.live.dieHeld die top).dieBand b } := by
  subst htop hband
  let ts := dieTemps xs
  let read : Live := { s.live with therm := { s.live.therm with dieAt := some s.live.now } }
  have hlength : xs.length = 8 := by simpa [dieTemps] using h.length
  have hnew : (numbered 0 ts).map (read.dieNew ts) = (numbered 0 ts).map fun p => (p.1, { t := p.2 }) :=
    List.map_congr_left fun p hp => Live.dieNew_of_agrees (l := read) h hwhole hp
  have hsound : ∀ q ∈ (numbered 0 ts).map (read.dieNew ts), q.2.broken = false := by
    rw [hnew]
    intro q hq
    obtain ⟨p, -, rfl⟩ := List.mem_map.mp hq
    rfl
  obtain ⟨die, hput⟩ := Live.forL_diePut_of_whole (l := read) hsound
  have hmax : (((numbered 0 ts).map (read.dieNew ts)).map (fun p => if p.2.broken then 125 else p.2.t)).max?.getD 0 = ts.max?.getD 0 := by
    rw [hnew, List.map_map]
    exact congrArg (fun us : List Rat => us.max?.getD 0) (numbered_map_snd 0 ts)
  refine ⟨die, ?_⟩
  change execDieSensorRead xs s = s.upd fun l => (l.dieHeld die (ts.max?.getD 0)).dieBand (bandStep l.therm.dband (ts.max?.getD 0))
  unfold execDieSensorRead
  refine upd_congr ((if_neg (by simp [hdom, hdue, hlength])).trans ?_)
  show (let l := read.forL ((numbered 0 ts).map (read.dieNew ts)) Live.diePut
    let top := (((numbered 0 ts).map (read.dieNew ts)).map (fun p => if p.2.broken then 125 else p.2.t)).max?.getD 0
    let l := { l with therm := { l.therm with tdie := top } }
    l.dieBand (bandStep l.therm.dband top)) = _
  rw [hput, hmax]
  rfl

/-! ## A record that overwrites one not flushed (R516) -/

/-- The event ring is full of records that are not flushed, and none has been overwritten yet. -/
structure Recorder.Full (r : Recorder) : Prop where
  ring : 1024 ≤ r.ring.length
  unfl : 1024 ≤ r.unfl
  first : r.dropRun = false

section Counters
variable (l : Live) (n : Nat)

theorem Live.addCtr_recd (k : Nat) : ∃ cs, (l.addCtr n k).recd = { l.recd with ctrs := cs } := by
  unfold Live.addCtr
  dsimp only
  split <;> exact ⟨_, rfl⟩

theorem Live.bumpCtr_recd (k : Nat) : ∃ cs, (l.bumpCtr n k).recd = { l.recd with ctrs := cs } := by
  unfold Live.bumpCtr
  extract_lets sum c set
  split
  · obtain ⟨cs, h⟩ := set.addCtr_recd (n + 1) (sum / 2 ^ 32)
    exact ⟨cs, h⟩
  split
  · exact ⟨_, rfl⟩
  · exact l.addCtr_recd n k

/-- A count changes nothing of the recorder but its counters. -/
theorem Live.count_recd : ∃ cs, (l.count n).recd = { l.recd with ctrs := cs } := by
  unfold Live.count Live.countWith
  split
  · exact l.bumpCtr_recd n 1
  · split
    · exact l.bumpCtr_recd n 1
    · exact ⟨_, rfl⟩
  · exact ⟨_, rfl⟩

end Counters

section Full
variable {l : Live} (hdom : l.dom 6 = true) (hfull : l.recd.Full)
include hdom hfull

theorem Live.record_details_of_full (etype : Nat) (pay : List Byte) :
    (l.record etype pay).fc.details = l.fc.details ++ [l.detailOf 0xE004 0xB000] := by
  obtain ⟨hring, hunfl, hfirst⟩ := hfull
  unfold Live.record
  extract_lets r mk lost r' k1 k2
  have hfc : k2.fc = l.fc := (k1.count_fc 114).trans (Live.count_fc _ 112)
  have hnow : k2.now = l.now := Live.same_now (by simp [k2, k1])
  rw [if_pos hdom, if_pos (by simp [lost, r, hring, hunfl]), if_neg (by simp [r, hfirst])]
  show k2.fc.details ++ [k2.detailOf 0xE004 0xB000] = _
  rw [hfc, Live.detailOf_congr hnow]

/-- A tug that starts is recorded (R308). -/
theorem Live.tug_details_of_full (htugs : l.pp.tugs = []) (obj word lsb win lose asked applied : Nat) :
    (l.tug obj word lsb win lose asked applied).fc.details = l.fc.details ++ [l.detailOf 0xE004 0xB000] := by
  unfold Live.tug
  extract_lets same goes k
  obtain ⟨cs, hrecd⟩ := k.count_recd 96
  have hpwr : (k.count 96).pwr = l.pwr := Live.same_pwr (by simp [k])
  have hfc : (k.count 96).fc = l.fc := Live.same_fc (by simp [k])
  have hnow : (k.count 96).now = l.now := Live.same_now (by simp [k])
  rw [if_neg (by simp [htugs]), Live.record_details_of_full (by rw [Live.dom, hpwr]; exact hdom)
    (by rw [hrecd]; exact ⟨hfull.ring, hfull.unfl, hfull.first⟩), hfc, Live.detailOf_congr hnow]

end Full

/-! ## A hotter band under a core-voltage pin (R158, R159) -/

theorem Live.vcoreTug_of_limited {l : Live} {b : Nat} (hpin : l.vcpin ≠ 0) (htarget : l.vcpin ≠ vcTarget b) (hlimited : l.vcFor b ≠ l.vcpin) :
    l.vcoreTug b = l.tug 0x3FFF 0 24 1 3 l.vcpin (l.vcFor b) := by
  simp [Live.vcoreTug, hpin, htarget, hlimited]

theorem Live.vcpin_congr {l k : Live} (h : k.host = l.host) : k.vcpin = l.vcpin := by
  rw [Live.vcpin, Live.hw, h, Live.vcpin, Live.hw]

theorem Live.vcFor_congr {l k : Live} (h : k.host = l.host) (b : Nat) : k.vcFor b = l.vcFor b := by
  rw [Live.vcFor, Live.vcpin_congr h, Live.vcFor]

/-- The die enters band `b`, hotter than the engine's, where it raises no fault of its own; the pin is outside the window of `b`, and no
tug goes on: the record of the tug that starts finds the event ring full. -/
theorem Live.dieBand_details_of_full {l : Live} {b : Nat} (hdom : l.dom 6 = true) (hfull : l.recd.Full) (htugs : l.pp.tugs = [])
    (hnew : b ≠ l.therm.dband) (hcool : b < 4) (hhot : l.loop.eband < b)
    (hpin : l.vcpin ≠ 0) (htarget : l.vcpin ≠ vcTarget b) (hlimited : l.vcFor b ≠ l.vcpin) :
    (l.dieBand b).fc.details = l.fc.details ++ [l.detailOf 0xE004 0xB000] := by
  unfold Live.dieBand
  extract_lets old therm k1 k2 k3
  obtain ⟨cs, hrecd⟩ := Live.count_recd { l with therm := { therm with dband := b } } 105
  have h2 : k2 = k1 := by simp only [k2]; rw [if_neg (by omega), if_neg (by omega)]
  let k := k1.modLoop fun e => { e with eband := b, vcnow := k1.vcFor b }
  have hfc : k.fc = l.fc := Live.same_fc (by simp [k, k1])
  have hnow : k.now = l.now := Live.same_now (by simp [k, k1])
  have hhost : k.host = l.host := Live.same_host (by simp [k, k1])
  have hpp : k.pp = l.pp := Live.same_pp (by simp [k, k1])
  have hpwr : k.pwr = l.pwr := Live.same_pwr (by simp [k, k1])
  have hloop : k1.loop = l.loop := Live.same_loop (by simp [k1])
  have h3 : k3 = k.tug 0x3FFF 0 24 1 3 k.vcpin (k.vcFor b) := by
    have htug : k.vcoreTug b = k.tug 0x3FFF 0 24 1 3 k.vcpin (k.vcFor b) := by
      apply Live.vcoreTug_of_limited <;> simpa only [Live.vcpin_congr hhost, Live.vcFor_congr hhost]
    simp only [k3, h2]
    rw [hloop, if_pos hhot, ← htug]
  have hsnap : k3.snapBand.fc = k3.fc := Live.same_fc (by simp)
  rw [if_neg hnew, hsnap, h3, Live.tug_details_of_full (by rw [Live.dom, hpwr]; exact hdom)
    (by rw [show k.recd = _ from hrecd]; exact ⟨hfull.ring, hfull.unfl, hfull.first⟩) (by rw [hpp]; exact htugs), hfc, Live.detailOf_congr hnow]

/-! ## The refutation of O45 -/

/-- The event ring is full, and none of its records is flushed. -/
def fullRecorder : Recorder := { ring := List.replicate 1024 {}, unfl := 1024, rseq := 1024 }

/-- RUN in band `T2` with `VCPIN` at the 20 that is also the target of `T2`, so that no tug goes on. -/
def pinnedLive : Live :=
  { Live.reset.setHw 0x3FFF 0 (put 20 24 8) with
    pwr := { st := .run, on := 0xFF }, therm := { dband := 2 }, loop := { eband := 2 }, recd := fullRecorder }
def pinnedState : State := { State.reset with live := pinnedLive }

/-- All eight sensors read 95 °C, where `T3` begins. -/
def hotReadings : List Int := List.replicate 8 1520

theorem fullRecorder_full : fullRecorder.Full := ⟨List.length_replicate.ge, le_refl 1024, rfl⟩

/-- The window of `T3` begins at 30, above the pin (Table 4.5). -/
theorem pinnedLive_limited : pinnedLive.vcpin ≠ 0 ∧ pinnedLive.vcpin ≠ vcTarget 3 ∧ pinnedLive.vcFor 3 ≠ pinnedLive.vcpin := by
  decide +kernel

theorem dieTemps_hotReadings : dieTemps hotReadings = List.replicate 8 95 := by decide +kernel

theorem hotReadings_agree : DieAgree (dieTemps hotReadings) := by
  have h : ∀ t ∈ dieTemps hotReadings, t = 95 := fun t ht => List.eq_of_mem_replicate (dieTemps_hotReadings ▸ ht)
  refine ⟨rfl, fun t ht => ?_, fun t ht => ?_, fun t ht u hu => ?_⟩
  · norm_num [h t ht]
  · norm_num [h t ht]
  · norm_num [h t ht, h u hu]

/-- Refutes O45: the die enters `T3`, where the pin is below the window, so that a tug starts and is recorded (R159, R308); the record
overwrites one that was not flushed, and `REC_DROP` is raised (R516), where the statement has no detail at all.  No premise of its clause
on readings that agree says that the event ring has room. -/
theorem not_temperaturesFollowTheirSensors : ¬ Obligations.TemperaturesFollowTheirSensors := by
  intro hall
  obtain ⟨hread, -⟩ := hall pinnedState rfl (by decide)
  obtain ⟨hpin, htarget, hlimited⟩ := pinnedLive_limited
  have hdom : pinnedLive.dom 6 = true := rfl
  have hwhole : ∀ i, i < 8 → (tget {} pinnedState.live.therm.die i).broken = false := fun _ _ => rfl
  have htop : (dieTemps hotReadings).max?.getD 0 = 95 := congrArg (·.max?.getD 0) dieTemps_hotReadings
  have hband : bandStep pinnedLive.therm.dband 95 = 3 := by decide +kernel
  obtain ⟨t, hnext, -, -, -, hraised⟩ := hread hotReadings rfl (by decide) (by decide) hwhole rfl
  obtain ⟨die, hexec⟩ := dieSensorRead_of_agrees rfl rfl hotReadings_agree hwhole htop hband
  have hstatement : t.live.fc.details = [] := by
    have hb : bandStep pinnedState.live.therm.dband ((hotReadings.map (fun x => (x : Rat) / 16)).max?.getD 0) = 3 :=
      (congrArg (bandStep pinnedLive.therm.dband) htop).trans hband
    rw [hraised, hb]
    rfl
  have hmodel : t.live.fc.details = [pinnedLive.detailOf 0xE004 0xB000] := by
    cases hnext.symm.trans hexec
    exact Live.dieBand_details_of_full (l := pinnedLive.dieHeld die 95) hdom fullRecorder_full rfl (show 3 ≠ 2 by decide) (by decide)
      (show 2 < 3 by decide) hpin htarget hlimited
  simp [hstatement] at hmodel

end Sys2Proof.Machine
end

section
/-! PROOFS. The queue; the resets, the wakes and the ways to COLD (R540 to R545, R554, R558, R559). -/
open Sys2Proof Sys2Proof.Machine
namespace Sys2Proof.Machine

/-- Settles O1: `step` takes the queue apart and runs its head. -/
theorem stepRunsFrontCommand : Obligations.StepRunsFrontCommand := by
  intro c rest s hqueue
  simp only [step, hqueue]

/-! ## Commands with a test -/

/-- A command whose test holds changes the controller's part, and one whose test fails changes nothing. -/
theorem upd_of_pos {s : State} {f : Live → Live} {c : Prop} [Decidable c] {a b : Live} (hf : f s.live = if c then a else b) (h : c) :
    s.upd f = .next { s with live := a } := by
  rw [State.upd, hf, if_pos h]

theorem upd_of_neg {s : State} {f : Live → Live} {c : Prop} [Decidable c] {a b : Live} (hf : f s.live = if c then a else b) (h : ¬c) :
    s.upd f = .next { s with live := b } := by
  rw [State.upd, hf, if_neg h]

/-! ## What a record and a count leave of the recorder -/

/-- The recorder without its rings of records and its counters. -/
def Recorder.still (r : Recorder) : Recorder :=
  { r with ring := [], unfl := 0, unflAt := 0, dropRun := false, d0q := [], d0lost := 0, rseq := 0, ctrs := [] }

theorem Live.count_still (l : Live) (n : Nat) : (l.count n).recd.still = l.recd.still := by
  obtain ⟨cs, h⟩ := l.count_recd n
  rw [h]
  rfl

theorem Live.record_still (l : Live) (etype : Nat) (pay : List Byte) : (l.record etype pay).recd.still = l.recd.still := by
  unfold Live.record
  extract_lets r mk lost r' l1 l2
  have h1 : l1.recd.still = l.recd.still := Live.count_still _ 112
  have h2 : l2.recd.still = l.recd.still := (Live.count_still l1 114).trans h1
  split
  · split
    · split
      · exact h2
      · exact h2
    · exact h1
  · split <;> rfl

theorem Live.setPower_still (l : Live) (st : PwrSt) (cause : Nat) : (l.setPower st cause).recd.still = l.recd.still := by
  unfold Live.setPower
  split
  · rfl
  · exact l.record_still _ _

theorem Live.updateRecord_still (l : Live) (old : Nat) : (l.updateRecord old).recd.still = l.recd.still := by
  unfold Live.updateRecord
  split
  · rfl
  · exact l.record_still _ _

theorem Live.stgDrop_still (l : Live) : l.stgDrop.recd.still = l.recd.still := by
  unfold Live.stgDrop
  split
  · rfl
  · exact Live.updateRecord_still _ _

theorem Live.txnRollback_still (l : Live) (outcome : Nat) : (l.txnRollback outcome).recd.still = l.recd.still := by
  unfold Live.txnRollback
  split
  · exact Live.count_still _ 122
  · rfl

/-! ## What the close of the sessions leaves -/

/-- What a session's close may not reach: the memories of flash and of the recorder. -/
structure Live.SameMemories (l k : Live) : Prop where
  otp : k.sec.otp = l.sec.otp
  bankA : k.sec.bankA = l.sec.bankA
  bankB : k.sec.bankB = l.sec.bankB
  images : k.img.slots = l.img.slots
  keeper : k.keeper = l.keeper
  gauge : k.gauge = l.gauge
  host : k.host = l.host
  recd : k.recd.still = l.recd.still

namespace Live.SameMemories
variable {l k j : Live}

theorem refl (l : Live) : l.SameMemories l := ⟨rfl, rfl, rfl, rfl, rfl, rfl, rfl, rfl⟩

theorem trans (a : l.SameMemories k) (b : k.SameMemories j) : l.SameMemories j where
  otp := b.otp.trans a.otp
  bankA := b.bankA.trans a.bankA
  bankB := b.bankB.trans a.bankB
  images := b.images.trans a.images
  keeper := b.keeper.trans a.keeper
  gauge := b.gauge.trans a.gauge
  host := b.host.trans a.host
  recd := b.recd.trans a.recd

theorem area0 (h : l.SameMemories k) : k.recd.area0 = l.recd.area0 := by injection h.recd
theorem area1 (h : l.SameMemories k) : k.recd.area1 = l.recd.area1 := by injection h.recd
theorem bootcnt (h : l.SameMemories k) : k.recd.bootcnt = l.recd.bootcnt := by injection h.recd
theorem clkSet (h : l.SameMemories k) : k.recd.clkSet = l.recd.clkSet := by injection h.recd
theorem clkSec (h : l.SameMemories k) : k.recd.clkSec = l.recd.clkSec := by injection h.recd
theorem stored (h : l.SameMemories k) : k.keeper.stored = l.keeper.stored := congrArg Keeper.stored h.keeper
theorem learned (h : l.SameMemories k) : k.gauge.flash = l.gauge.flash := congrArg Gauge.flash h.gauge
theorem settings (h : l.SameMemories k) : k.host.filter (fun p => storedKey p.1) = l.host.filter (fun p => storedKey p.1) := by
  rw [h.host]

end Live.SameMemories

theorem Live.stgDrop_memories (l : Live) : l.SameMemories l.stgDrop where
  otp := l.stgDrop_otp
  bankA := by
    unfold Live.stgDrop Live.withUpdate
    split
    · rfl
    · rw [Live.updateRecord_sec]
      rfl
  bankB := by
    unfold Live.stgDrop Live.withUpdate
    split
    · rfl
    · rw [Live.updateRecord_sec]
      rfl
  images := congrArg Img.slots (Live.same_img (by simp))
  keeper := Live.same_keeper (by simp)
  gauge := Live.same_gauge (by simp)
  host := Live.same_host (by simp)
  recd := l.stgDrop_still

theorem Live.txnRollback_memories (l : Live) (outcome : Nat) : l.SameMemories (l.txnRollback outcome) where
  otp := congrArg Sec.otp (l.txnRollback_sec outcome)
  bankA := congrArg Sec.bankA (l.txnRollback_sec outcome)
  bankB := congrArg Sec.bankB (l.txnRollback_sec outcome)
  images := by
    unfold Live.txnRollback
    split
    · have h : ((l.txnEnd outcome 5).count 122).img = (l.txnEnd outcome 5).img := Live.same_img (by simp)
      rw [h]
      rfl
    · rfl
  keeper := Live.same_keeper (by simp)
  gauge := Live.same_gauge (by simp)
  host := Live.same_host (by simp)
  recd := l.txnRollback_still outcome

theorem Live.closeSess_memories (l : Live) (n : Nat) : l.SameMemories (l.closeSess n) := by
  unfold Live.closeSess Live.stgClose
  extract_lets a b c
  have ha : l.SameMemories a := by
    simp only [a]
    split
    · exact l.txnRollback_memories 3
    · exact .refl l
  have hb : l.SameMemories b := by
    simp only [b]
    split
    · exact ha.trans a.stgDrop_memories
    · exact ha
  have hc : l.SameMemories c := by
    simp only [c]
    split
    · exact ⟨hb.otp, hb.bankA, hb.bankB, hb.images, hb.keeper, hb.gauge, hb.host, hb.recd⟩
    · exact hb
  exact ⟨hc.otp, hc.bankA, hc.bankB, hc.images, hc.keeper, hc.gauge, hc.host, hc.recd⟩

theorem Live.closeAll_memories (l : Live) : l.SameMemories l.closeAll := by
  unfold Live.closeAll Live.each
  generalize List.range 16 = ns
  induction ns generalizing l with
  | nil => exact .refl l
  | cons n ns ih =>
    refine Live.SameMemories.trans ?_ (ih _)
    dsimp only
    split
    · exact l.closeSess_memories n
    · exact .refl l

/-! ## Resets (R540, R542, R543) -/

/-- A reset leaves flash, and nothing of the domains beyond D0. -/
structure Reset (s t : State) : Prop where
  flash : FlashKept s t
  empty : DomainsEmpty t

namespace Reset
variable {s t : State}

theorem modPwr (h : Reset s t) (f : Pwr → Pwr) (gens : Tbl Live) :
    Reset s { t with live := t.live.modPwr f, gens := gens } where
  flash := { h.flash with }
  empty := { h.empty with }

theorem strap (h : Reset s t) (x : Straps) : Reset s { t with live := t.live.strap x } where
  flash := { h.flash with }
  empty := { h.empty with }

end Reset

theorem flashOnly_reset (s : State) : Reset s { s with live := s.live.flashOnly, gens := [] } where
  flash := by
    have h := s.live.stgDrop_memories
    unfold Live.flashOnly
    generalize s.live.stgDrop = k at h ⊢
    exact
      { otp := h.otp, bankA := h.bankA, bankB := h.bankB, images := h.images, epoch := h.stored,
        learned := h.learned, area0 := h.area0, area1 := h.area1, bootcnt := h.bootcnt,
        settings := h.settings }
  empty := ⟨rfl, rfl, rfl, rfl, rfl, rfl, rfl, rfl, rfl, rfl, rfl, rfl, rfl, rfl, rfl, rfl⟩

theorem resetState_reset (s : State) : Reset s { s with live := s.live.resetState } where
  flash := by
    have h := s.live.closeAll_memories
    unfold Live.resetState
    generalize s.live.closeAll = k at h ⊢
    exact
      { otp := h.otp, bankA := h.bankA, bankB := h.bankB, images := h.images, epoch := rfl,
        learned := h.learned, area0 := h.area0, area1 := h.area1, bootcnt := h.bootcnt,
        settings := h.settings }
  empty := by
    unfold Live.resetState
    generalize s.live.closeAll = k
    exact ⟨rfl, rfl, rfl, rfl, rfl, rfl, rfl, rfl, rfl, rfl, rfl, rfl, rfl, rfl, rfl, rfl⟩

theorem Live.strap_now (l : Live) (x : Straps) : (l.strap x).now = l.now := rfl
theorem Live.strap_recd (l : Live) (x : Straps) : (l.strap x).recd = l.recd := rfl
theorem Live.release_now (l : Live) (cause : Nat) : (l.release cause).now = l.resetState.now := by simp [Live.release]
theorem Live.release_recd (l : Live) (cause : Nat) : (l.release cause).recd = l.resetState.recd := by simp [Live.release]

/-- Settles O6: both resets come to D0 alone, and the close of the sessions reaches no memory. -/
theorem resetsKeepFlashAndDropTheRest : Obligations.ResetsKeepFlashAndDropTheRest := by
  intro s straps sampled stageOne
  have hpower := (flashOnly_reset s).strap straps
  have hvin := (flashOnly_reset s).modPwr (fun p => { p with st := .off, on := 0 }) []
  have hlow := (resetState_reset s).modPwr (fun p => { p with resetLow := true }) []
  have hhigh := ((resetState_reset s).modPwr (fun p => { p with cause := BitVec.ofNat 8 1 }) s.gens).strap straps
  have hnow := s.live.resetState_now
  obtain ⟨hset, hsec⟩ := s.live.resetState_clk
  refine ⟨?_, ?_, ?_, ?_, ?_, ?_⟩
  · exact ⟨_, rfl, hpower.flash, hpower.empty, ⟨rfl, rfl, rfl, rfl, rfl⟩, ⟨rfl, rfl, rfl, rfl⟩, rfl, rfl, rfl, rfl, rfl⟩
  · exact ⟨_, rfl, hvin.flash, hvin.empty, rfl, rfl, rfl, rfl, rfl⟩
  · intro hon
    have hexec : exec .resetAssert s =
        .next { s with live := s.live.resetState.modPwr fun p => { p with resetLow := true }, gens := [] } := if_neg hon
    refine ⟨_, hexec, hlow.flash, hlow.empty, ?_⟩
    refine ⟨rfl, rfl, ?_, ?_, ?_, rfl, rfl, rfl, rfl, rfl⟩
    · simpa using hnow
    · simpa using hset
    · simpa using hsec
  · intro hoff
    exact if_pos hoff
  · intro hon hreset
    have hexec : exec (.resetRelease straps) s = .next { s with live := (s.live.release 1).strap straps } :=
      upd_of_pos rfl (by simp [hon, hreset])
    refine ⟨_, hexec, hhigh.flash, hhigh.empty, ?_⟩
    refine ⟨⟨rfl, rfl, rfl, rfl, rfl⟩, ⟨rfl, rfl, rfl, rfl⟩, rfl, ?_, ?_, ?_, rfl, rfl, rfl, rfl⟩
    · rw [Live.strap_now, Live.release_now, hnow]
    · rw [Live.strap_recd, Live.release_recd, hset]
    · rw [Live.strap_recd, Live.release_recd, hsec]
  · intro h
    exact upd_of_neg rfl (by rcases h with h | h <;> simp [h])

/-! ## Wakes and the ways to COLD (R545, R554, R558, R559) -/

/-- What the staged shutdown has come to when it looks at the RELEASE courses. -/
def Live.shutdownAsked (l : Live) : Live :=
  ((l.record 0x04 [BitVec.ofNat 8 PwrSt.holdup.code, BitVec.ofNat 8 PwrSt.cold.code, 5]).sendRelease.leaseClear).modK
    fun k => { k with coldAfter := 2 }

theorem Live.shutdownAsked_keeper (l : Live) : l.shutdownAsked.keeper =
    { l.keeper with live := false, hbout := if l.keeper.live then false else l.keeper.hbout, releaseRings := l.ringsIn .running,
                    coldAfter := 2 } := by
  let k := l.record 0x04 [BitVec.ofNat 8 PwrSt.holdup.code, BitVec.ofNat 8 PwrSt.cold.code, 5]
  have hkeeper : k.keeper = l.keeper := Live.same_keeper (by simp [k])
  have hrings : k.ringsIn .running = l.ringsIn .running := by
    have h : k.rings = l.rings := Live.same_rings (by simp [k])
    simp only [Live.ringsIn, Live.ring_congr h]
  change { k.sendRelease.leaseClear.keeper with coldAfter := 2 } = _
  rw [Live.leaseClear_keeper, ← hkeeper, ← hrings]
  rfl

theorem Live.shutdownEnd_keeper (l : Live) : l.shutdownEnd.keeper = l.keeper := by
  have h := l.closeAll_keeper
  unfold Live.shutdownEnd
  generalize l.closeAll = k at h ⊢
  exact h

theorem Live.shutdownEnd_pwr (l : Live) : l.shutdownEnd.pwr.st = .cold ∧ l.shutdownEnd.pwr.shut = true ∧ l.shutdownEnd.pwr.on = 1 := by
  unfold Live.shutdownEnd
  generalize l.closeAll = k
  exact ⟨rfl, rfl, rfl⟩

theorem Live.releaseCheck_of_shutdown {l : Live} (h : l.keeper.coldAfter = 2) (hrings : l.keeper.releaseRings = [])
    (hreleasing : l.keeper.releasing = []) :
    l.releaseCheck = (l.modK fun k => { k with coldAfter := 0 }).shutdownEnd := by
  simp [Live.releaseCheck, h, hrings, hreleasing]

/-- A shutdown that has cleared lease-live leaves it clear, whether it ends now or waits. -/
theorem Live.releaseCheck_live {l : Live} (h : l.keeper.coldAfter = 2) (hlive : l.keeper.live = false) :
    l.releaseCheck.keeper.live = false := by
  by_cases hover : l.keeper.releaseRings = [] ∧ l.keeper.releasing = []
  · rw [Live.releaseCheck_of_shutdown h hover.1 hover.2, Live.shutdownEnd_keeper]
    exact hlive
  · have hwaits : (l.keeper.coldAfter = 0 || !l.keeper.releaseRings.isEmpty || !l.keeper.releasing.isEmpty) = true := by
      simpa [h, imp_iff_not_or] using hover
    rw [Live.releaseCheck, if_pos hwaits]
    exact hlive

section Ways
variable {s : State}

theorem wakeRequest_boots (hcold : s.live.pwr.st = .cold) (hshut : s.live.pwr.shut = false) (hwatch : s.live.keeper.st = .watch) :
    Gives (exec .wakeRequest s) (fun t => t.live.pwr.st = .boot ∧ t.live.pwr.stage = 2 ∧ t.live.pwr.svcBoot = true ∧
      t.live.pwr.on = 0x81 ∧ t.live.pwr.cause = 4) := by
  refine ⟨_, upd_of_pos rfl (by simp [hcold, hshut, hwatch]), ?_⟩
  have hpwr := s.live.setPower_pwr .boot 6
  exact ⟨congrArg Pwr.st hpwr, rfl, rfl, rfl, rfl⟩

theorem powerReturn_boots (hcold : s.live.pwr.st = .cold) (hshut : s.live.pwr.shut = true) (hpfail : s.live.pwr.pfailN = true)
    (hlong : s.live.pwr.pfailAt + fld (s.live.hw 0xD200 0) 30 23 * 2000000 ≤ s.live.now) :
    Gives (exec .powerReturn s) (fun t => t.live.pwr.st = .boot ∧ t.live.pwr.stage = 1 ∧ t.live.pwr.cause = 5 ∧
      t.live.pwr.on = 1 ∧ t.live.pwr.shut = false) := by
  have hpwr : (s.live.release 5).pwr = { s.live.resetState.pwr with cause := 5 } := rfl
  rw [Live.resetState_pwr] at hpwr
  have hexec : exec .powerReturn s = .next { s with live := s.live.release 5 } := by
    show execPowerReturn s = _
    simp [execPowerReturn, State.upd, hcold, hshut, hpfail, hlong]
  refine ⟨_, hexec, ?_⟩
  simp only [hpwr, and_self]

theorem serviceIdleTimeout_cold (hlean : s.live.pwr.st = .lean) (hservice : s.live.pwr.service = true)
    (hclosed : ∀ n, n < 16 → (s.live.sess n).opened = false)
    (hidle : s.live.pwr.idleAt + fld (s.live.hw 0xD200 0) 22 15 * 200000000 ≤ s.live.now) :
    Gives (exec .serviceIdleTimeout s) (fun t => t.live.pwr.st = .cold ∧ t.live.pwr.on = 1 ∧ t.live.keeper = s.live.keeper) := by
  obtain ⟨at_, hpwr⟩ := s.live.enterCold_pwr 7
  have hexec : exec .serviceIdleTimeout s = .next { s with live := s.live.enterCold 7 } := by
    show execServiceIdleTimeout s = _
    have hall : (List.range 16).all (fun n => !(s.live.sess n).opened) = true := by simpa using hclosed
    simp only [execServiceIdleTimeout, State.upd, hall, hlean, hservice, secTicks, hidle, decide_true, Bool.and_self, if_true]
  refine ⟨_, hexec, ?_⟩
  simp only [hpwr, Live.enterCold_keeper, and_self]

theorem stagedShutdown_clears (hholdup : s.live.pwr.st = .holdup) (hfinal : s.live.pp.final = true) (hsnap : s.live.recd.snap = none)
    (hwrites : s.live.recWrites = 0) (hafter : s.live.keeper.coldAfter = 0) :
    Gives (exec .stagedShutdown s) (fun t => t.live.keeper.live = false ∧
      ((∀ n, n < 8 → (s.live.ring n).st ≠ .running) → s.live.keeper.releasing = [] →
        t.live.pwr.st = .cold ∧ t.live.pwr.shut = true ∧ t.live.pwr.on = 1)) := by
  have hexec : exec .stagedShutdown s = .next { s with live := s.live.shutdownAsked.releaseCheck } :=
    upd_of_pos rfl (by simp [hholdup, hfinal, hsnap, hwrites, hafter])
  have hkeeper := s.live.shutdownAsked_keeper
  have hafter : s.live.shutdownAsked.keeper.coldAfter = 2 := by rw [hkeeper]
  refine ⟨_, hexec, Live.releaseCheck_live hafter (by rw [hkeeper]), fun hrings hreleasing => ?_⟩
  have hnone : s.live.ringsIn .running = [] := by
    simpa [Live.ringsIn, List.filter_eq_nil_iff] using hrings
  rw [Live.releaseCheck_of_shutdown hafter (by rw [hkeeper]; exact hnone) (by rw [hkeeper]; exact hreleasing)]
  exact Live.shutdownEnd_pwr _

end Ways

/-- Settles O8. -/
theorem wakeShutdownAndPowerReturn : Obligations.WakeShutdownAndPowerReturn := by
  intro s
  exact ⟨wakeRequest_boots, fun hcold => upd_of_neg rfl (by simp [hcold]), powerReturn_boots, serviceIdleTimeout_cold,
    stagedShutdown_clears⟩

end Sys2Proof.Machine
end

section
/-! PROOFS. The recorder: the flush ring, captures, snapshots, trace pulses, the shelf clock and the occupancy samples
(chapter "Black box, trace and counters"). -/
open Sys2Proof Sys2Proof.Machine
namespace Sys2Proof.Machine

/-- A command that makes nothing of the controller's part has no effect. -/
theorem upd_idle {s : State} {f : Live → Live} (h : f s.live = s.live) : s.upd f = .next s := by
  rw [State.upd, h]

/-- A change that makes `k` of the controller's part leaves every part alone that `k` has as it was. -/
theorem upd_keeps_of_eq {m : Nat} {s : State} {f : Live → Live} {k : Live} (h : f s.live = k) (hk : Live.less m k = Live.less m s.live)
    (ps : List Part) (hps : allParts.all (fun p => ps.contains p || !m.testBit p.bit) = true) {P : State → Prop}
    (hP : P { s with live := k }) : Gives (s.upd f) (fun t => P t ∧ SameBut ps s t) :=
  upd_gives_of_eq h ⟨hP, live_sameBut hk ps hps⟩

/-! ## The flush ring (R518 to R520) -/

theorem nextPage_ne (p : Nat) : nextPage p ≠ p := by
  unfold nextPage
  split <;> omega

theorem nextPage_nextPage_ne (p : Nat) : nextPage (nextPage p) ≠ p := by
  unfold nextPage
  split <;> split <;> omega

theorem Live.erasePage_of_allowed {l : Live} (h : l.flashErase = true) (p : Nat) :
    l.erasePage p = l.modRec fun r => { r with flash := tdrop r.flash p } := if_pos h

theorem Live.erasePage_flash_same {l : Live} (h : l.flashErase = true) (p : Nat) : tfind (l.erasePage p).recd.flash p = none := by
  rw [Live.erasePage_of_allowed h]
  exact tfind_tdrop_same _ p

theorem Live.erasePage_flash_other (l : Live) {p q : Nat} (h : q ≠ p) : tfind (l.erasePage p).recd.flash q = tfind l.recd.flash q := by
  unfold Live.erasePage
  split
  · exact tfind_tdrop_other _ _ _ h
  · rfl

/-- An erase changes the pages alone. -/
theorem Live.erasePage_recd (l : Live) (p : Nat) : ∃ pages, l.erasePage p = { l with recd := { l.recd with flash := pages } } := by
  unfold Live.erasePage
  split
  · exact ⟨_, rfl⟩
  · exact ⟨_, rfl⟩

theorem Live.keepErased_recd (l : Live) : ∃ pages, l.keepErased = { l with recd := { l.recd with flash := pages } } := by
  unfold Live.keepErased
  obtain ⟨pages, h⟩ := l.erasePage_recd l.recd.wpos
  obtain ⟨pages', h'⟩ := (l.erasePage l.recd.wpos).erasePage_recd (nextPage l.recd.wpos)
  exact ⟨pages', by rw [h', h]⟩

theorem Live.keepErased_flash {l : Live} {p : Nat} (h0 : p ≠ l.recd.wpos) (h1 : p ≠ nextPage l.recd.wpos) :
    tfind l.keepErased.recd.flash p = tfind l.recd.flash p := by
  rw [Live.keepErased, Live.erasePage_flash_other _ h1, Live.erasePage_flash_other _ h0]

/-- The page at the write position is erased, where an erase may start. -/
theorem Live.keepErased_wpos {l : Live} (h : l.flashErase = true) : tfind l.keepErased.recd.flash l.recd.wpos = none := by
  rw [Live.keepErased, Live.erasePage_flash_other _ (nextPage_ne _).symm]
  exact Live.erasePage_flash_same h _

/-- A page that starts takes the write position and the next `PSEQ`; the event ring and the capture slots stay. -/
theorem Live.startPage_recd (l : Live) (page : FlushPage) :
    ∃ pages, (l.startPage page).recd = { l.recd with
      flash := pages, pseq := (l.recd.pseq + 1) % 2 ^ 32
      job := some { pos := l.recd.wpos, page := { page with pseq := (l.recd.pseq + 1) % 2 ^ 32, boot := BitVec.ofNat 16 l.recd.bootcnt.toNat } } } := by
  obtain ⟨pages, h⟩ := l.erasePage_recd l.recd.wpos
  exact ⟨pages, by rw [Live.startPage, h]; rfl⟩

theorem Live.startEvents_of_can {l : Live} (hcan : l.canFlush = true) (hany : l.recd.unfl ≠ 0) :
    l.startEvents = l.startPage { recs := l.unflushed } := if_pos (by simp [hcan, hany])

theorem Live.startCapture_of_none {l : Live} (h : l.flushingSlot = none) : l.startCapture = l := by
  simp only [Live.startCapture, h]

theorem flushPage_starts {s : State} (hdue : s.live.flushDue = true) (hcan : s.live.canFlush = true) (hany : s.live.recd.unfl ≠ 0) :
    Gives (exec .flushPage s) (fun t => ∃ j, t.live.recd.job = some j ∧ j.pos = s.live.recd.wpos ∧ j.page.recs = s.live.unflushed ∧
      j.page.pseq = (s.live.recd.pseq + 1) % 2 ^ 32 ∧ t.live.recd.pseq = (s.live.recd.pseq + 1) % 2 ^ 32 ∧
      t.live.recd.ring = s.live.recd.ring) := by
  obtain ⟨pages, hrecd⟩ := s.live.startPage_recd { recs := s.live.unflushed }
  show Gives (execFlushPage s) _
  unfold execFlushPage
  refine upd_gives_of_eq (k := s.live.startPage { recs := s.live.unflushed }) ?_ ?_
  · exact (if_pos hdue).trans (Live.startEvents_of_can hcan hany)
  · dsimp only
    rw [hrecd]
    exact ⟨_, rfl, rfl, rfl, rfl, rfl, rfl⟩

theorem flushPage_idle {s : State} (hdue : s.live.flushDue = false) (hslot : s.live.flushingSlot = none) : exec .flushPage s = .next s := by
  show execFlushPage s = _
  unfold execFlushPage
  refine upd_idle ?_
  rw [if_neg (by simp [hdue])]
  exact Live.startCapture_of_none hslot

/-! ## The end of a page (R519, R520) -/

theorem Live.flushingSlot_congr {l k : Live} (h : k.recd.caps = l.recd.caps) : k.flushingSlot = l.flushingSlot := by
  have hslot : k.capSlot = l.capSlot := funext fun n => by rw [Live.capSlot, h]; rfl
  simp only [Live.flushingSlot, hslot]

/-- The records of a page are flash data. -/
def Live.eventsFlushed (l : Live) (p : FlushPage) : Live :=
  let left := l.recd.unfl - p.recs.length
  let at_ := match (l.recd.ring.take left).reverse with | [] => l.now | e :: _ => l.whenTick e.tick
  { l with recd := { l.recd with unfl := left, unflAt := at_, flushNow := l.recd.flushNow - p.recs.length } }

theorem Live.pageFlushed_of_events {l : Live} {p : FlushPage} (h : p.capture = false) : l.pageFlushed p = l.eventsFlushed p := by
  refine (if_neg (by simp [h])).trans ?_
  rfl

/-- The page in progress has been programmed at its position. -/
def Live.pageDone (l : Live) (j : FlushJob) (ok : Bool) : Live :=
  (l.modRec fun r => { r with flash := tset r.flash j.pos { j.page with ok := ok }, wpos := nextPage j.pos, job := none }).flashEnd 0

/-- The page is programmed again, at the write position. -/
def Live.pageRetried (l : Live) (page : FlushPage) : Live :=
  (l.modRec fun r => { r with job := some { pos := r.wpos, page := page, retried := true, wait := !l.flashProgram } }).flashBegin 0

theorem Live.pageRetried_job (l : Live) (page : FlushPage) :
    (l.pageRetried page).recd.job = some { pos := l.recd.wpos, page := page, retried := true, wait := !l.flashProgram } := rfl

theorem flushPageDone_idle {s : State} (hjob : s.live.recd.job = none) (ok : Bool) : exec (.flushPageDone ok) s = .next s := by
  show execFlushPageDone ok s = _
  unfold execFlushPageDone
  refine upd_idle ?_
  rw [hjob]

section PageDone
variable {s : State} {j : FlushJob}

theorem flushPageDone_waits (hjob : s.live.recd.job = some j) (hwait : j.wait = true) (hband : s.live.flashProgram = false) (ok : Bool) :
    exec (.flushPageDone ok) s = .next s := by
  show execFlushPageDone ok s = _
  unfold execFlushPageDone
  refine upd_idle ?_
  rw [hjob]
  exact if_pos (by simp [hwait, hband])

/-- A page that reads back: it is counted as flushed, two pages are erased ahead, and the next capture page starts. -/
theorem exec_flushPageDone_ok (hjob : s.live.recd.job = some j) (hgo : j.wait = false ∨ s.live.flashProgram = true) :
    exec (.flushPageDone true) s = s.upd fun l => ((((l.pageDone j true).pageFlushed j.page).count 113).keepErased).startCapture := by
  show execFlushPageDone _ s = _
  unfold execFlushPageDone
  refine upd_congr ?_
  rw [hjob]
  exact if_neg (by rcases hgo with h | h <;> simp [h])

theorem exec_flushPageDone_bad (hjob : s.live.recd.job = some j) (hgo : j.wait = false ∨ s.live.flashProgram = true) :
    exec (.flushPageDone false) s = s.upd fun l =>
      if j.retried then (l.pageDone j false).keepErased.raise 0xE002 0xB000
      else
        let k := (l.pageDone j false).erasePage (l.pageDone j false).recd.wpos
        if k.pageErased k.recd.wpos then k.pageRetried j.page
        else k.raise 0xE002 0xB000 := by
  show execFlushPageDone _ s = _
  unfold execFlushPageDone
  refine upd_congr ?_
  rw [hjob]
  exact if_neg (by rcases hgo with h | h <;> simp [h])

variable (hjob : s.live.recd.job = some j) (hgo : j.wait = false ∨ s.live.flashProgram = true)
include hjob hgo

theorem flushPageDone_flushes (hevents : j.page.capture = false) (hslot : s.live.flushingSlot = none) :
    Gives (exec (.flushPageDone true) s) (fun t => t.live.recd.job = none ∧ t.live.recd.wpos = nextPage j.pos ∧
      t.live.recd.unfl = s.live.recd.unfl - j.page.recs.length ∧ tfind t.live.recd.flash j.pos = some { j.page with ok := true } ∧
      (s.live.flashErase = true → tfind t.live.recd.flash (nextPage j.pos) = none)) := by
  rw [exec_flushPageDone_ok hjob hgo]
  let m := s.live.pageDone j true
  let k := (m.eventsFlushed j.page).count 113
  obtain ⟨cs, hk⟩ := (m.eventsFlushed j.page).count_recd 113
  have hjob' : k.recd.job = none := (congrArg Recorder.job hk :)
  have hwpos : k.recd.wpos = nextPage j.pos := (congrArg Recorder.wpos hk :)
  have hunfl : k.recd.unfl = s.live.recd.unfl - j.page.recs.length := (congrArg Recorder.unfl hk :)
  have hflash : k.recd.flash = tset s.live.recd.flash j.pos { j.page with ok := true } := (congrArg Recorder.flash hk :)
  have hcaps : k.recd.caps = s.live.recd.caps := (congrArg Recorder.caps hk :)
  have herase : k.flashErase = s.live.flashErase := by
    have htherm : k.therm = (m.eventsFlushed j.page).therm := Live.same_therm (by simp [k])
    rw [Live.flashErase, htherm]
    rfl
  obtain ⟨pages, hpages⟩ := k.keepErased_recd
  have hslot' : k.keepErased.flushingSlot = none := by
    rw [← hslot, hpages]
    exact Live.flushingSlot_congr hcaps
  have hlive : (((m.pageFlushed j.page).count 113).keepErased).startCapture = k.keepErased := by
    rw [Live.pageFlushed_of_events hevents]
    exact Live.startCapture_of_none hslot'
  refine upd_gives_of_eq (k := k.keepErased) hlive ?_
  refine ⟨by rw [hpages]; exact hjob', by rw [hpages]; exact hwpos, by rw [hpages]; exact hunfl, ?_, fun h => ?_⟩
  · show tfind k.keepErased.recd.flash j.pos = _
    rw [Live.keepErased_flash, hflash, tfind_tset_same]
    · rw [hwpos]
      exact (nextPage_ne _).symm
    · rw [hwpos]
      exact (nextPage_nextPage_ne _).symm
  · rw [← hwpos]
    exact Live.keepErased_wpos (herase.trans h)

theorem flushPageDone_fails (hretried : j.retried = true) :
    Gives (exec (.flushPageDone false) s) (fun t => t.live.recd.job = none ∧ Raised s t [s.live.detailOf 0xE002 0xB000]) := by
  rw [exec_flushPageDone_bad hjob hgo]
  obtain ⟨pages, hpages⟩ := (s.live.pageDone j false).keepErased_recd
  refine upd_gives_of_eq (k := (s.live.pageDone j false).keepErased.raise 0xE002 0xB000) ?_ ?_
  · exact if_pos hretried
  · rw [hpages]
    exact ⟨rfl, rfl⟩

theorem flushPageDone_retries (hretried : j.retried = false) (herase : s.live.flashErase = true) :
    Gives (exec (.flushPageDone false) s) (fun t =>
      t.live.recd.job = some { pos := nextPage j.pos, page := j.page, retried := true } ∧ t.live.fc = s.live.fc) := by
  rw [exec_flushPageDone_bad hjob hgo]
  let m := s.live.pageDone j false
  obtain ⟨pages, hpages⟩ := m.erasePage_recd m.recd.wpos
  have hprogram : (m.erasePage m.recd.wpos).flashProgram = true := by
    have hcool : s.live.therm.dband < 4 := by simpa [Live.flashErase] using herase
    rw [hpages]
    exact decide_eq_true (Nat.lt_succ_of_lt hcool)
  have hwpos : (m.erasePage m.recd.wpos).recd.wpos = nextPage j.pos := by
    rw [hpages]
    rfl
  have herased : (m.erasePage m.recd.wpos).pageErased (m.erasePage m.recd.wpos).recd.wpos = true := by
    rw [hwpos, Live.pageErased, show nextPage j.pos = m.recd.wpos from rfl, Live.erasePage_flash_same (l := m) herase]
    rfl
  refine upd_gives_of_eq (k := (m.erasePage m.recd.wpos).pageRetried j.page) ?_ ⟨?_, ?_⟩
  · exact (if_neg (by simp [hretried])).trans (if_pos herased)
  · dsimp only
    rw [Live.pageRetried_job, hwpos, hprogram]
    rfl
  · show (m.erasePage m.recd.wpos).fc = _
    rw [hpages]
    rfl

end PageDone

/-! ## Captures (R522) -/

theorem captureFreeze_idle {s : State} {c : Fin 4} (h : (s.live.capSlot c).state ≠ 2 ∨ (s.live.capSlot c).post ≠ 0) :
    exec (.captureFreeze c) s = .next s :=
  upd_of_neg rfl (by simpa [imp_iff_not_or] using h)

/-- The next capture page changes of the recorder what a page that starts changes. -/
theorem Live.startCapture_recd (l : Live) :
    ∃ pages n job, l.startCapture.recd = { l.recd with flash := pages, pseq := n, job := job } := by
  unfold Live.startCapture
  split
  · exact ⟨_, _, _, rfl⟩
  · split
    · obtain ⟨pages, h⟩ := l.startPage_recd _
      exact ⟨_, _, _, h⟩
    · exact ⟨_, _, _, rfl⟩

/-- With D6 on, a record is the newest of the event ring, with its payload. -/
theorem Live.record_head_pay {l : Live} (hdom : l.dom 6 = true) (etype : Nat) (pay : List Byte) :
    ∃ e, (l.record etype pay).recd.ring.head? = some e ∧ e.etype = BitVec.ofNat 8 etype ∧ e.pay = (pay ++ List.replicate 16 0).take 16 := by
  unfold Live.record
  extract_lets r mk lost r' l1 l2
  have h1 : l1.recd.ring = r'.ring := by
    obtain ⟨cs, h⟩ := Live.count_recd { l with recd := r' } 112
    rw [show l1.recd = _ from h]
  have h2 : l2.recd.ring = r'.ring := by
    obtain ⟨cs, h⟩ := l1.count_recd 114
    rw [show l2.recd = _ from h, h1]
  rw [if_pos hdom]
  split
  · split
    · exact ⟨mk false, by rw [h2]; rfl, rfl, rfl⟩
    · exact ⟨mk false, by rw [Live.raise_recd, h2]; rfl, rfl, rfl⟩
  · exact ⟨mk false, by rw [h1]; rfl, rfl, rfl⟩

theorem Live.record_head {l : Live} (hdom : l.dom 6 = true) (etype : Nat) (pay : List Byte) :
    ∃ e, (l.record etype pay).recd.ring.head? = some e ∧ e.etype = BitVec.ofNat 8 etype := by
  obtain ⟨e, hhead, htype, -⟩ := l.record_head_pay hdom etype pay
  exact ⟨e, hhead, htype⟩

/-- The slot freezes and waits for its flush. -/
def CapSlot.frozen (c : CapSlot) (first : Nat) : CapSlot := { c with state := 4, count := c.count + 1, page := 0, first := first }

theorem captureFreeze_flushes {s : State} {c : Fin 4} (hstate : (s.live.capSlot c).state = 2) (hpost : (s.live.capSlot c).post = 0) :
    Gives (exec (.captureFreeze c) s) (fun t => (t.live.capSlot c).state = 4 ∧ (t.live.capSlot c).count = (s.live.capSlot c).count + 1 ∧
      (t.live.capSlot c).points = (s.live.capSlot c).points ∧
      (s.live.pwr.on.getLsbD 6 = true → ∃ e, t.live.recd.ring.head? = some e ∧ e.etype = 7)) := by
  let first := (s.live.recd.pseq + 1) % 2 ^ 32
  let l1 := s.live.modCapSlot c fun k => k.frozen first
  let l2 := l1.record 0x07 ([BitVec.ofNat 8 c.val, 0] ++ leBytes (s.live.capSlot c).trigCode.toNat 2 ++ leBytes first 4)
  obtain ⟨pages, n, job, hrecd⟩ := l2.startCapture_recd
  have hslot : l2.startCapture.capSlot c = (s.live.capSlot c).frozen first := by
    have hcaps : l2.startCapture.recd.caps = l1.recd.caps := by
      rw [hrecd]
      exact (congrArg Recorder.caps (l1.record_still _ _) :)
    have hsame : l2.startCapture.capSlot c = l1.capSlot c := by rw [Live.capSlot, hcaps]; rfl
    rw [hsame]
    exact Live.modCapSlot_capSlot_same _ _ _
  show Gives (execCaptureFreeze c s) _
  unfold execCaptureFreeze
  refine upd_gives_of_eq (k := l2.startCapture) ?_ ?_
  · exact if_pos (by simp [hstate, hpost])
  · dsimp only
    rw [hslot]
    refine ⟨rfl, rfl, rfl, fun hdom => ?_⟩
    rw [hrecd]
    exact l1.record_head hdom 0x07 _

/-! ## Snapshots (R524 to R526, R538) -/

theorem Live.modArea_area (l : Live) (a : Nat) (f : SnapArea → SnapArea) : (l.modArea a f).area a = f (l.area a) := by
  unfold Live.modArea Live.area
  by_cases h : a = 0
  · simp [h]
  · simp [h]

theorem Live.area_congr {l k : Live} (h : k.recd.still = l.recd.still) (a : Nat) : k.area a = l.area a := by
  have h0 : k.recd.area0 = l.recd.area0 := (congrArg Recorder.area0 h :)
  have h1 : k.recd.area1 = l.recd.area1 := (congrArg Recorder.area1 h :)
  rw [Live.area, h0, h1]
  rfl

theorem Live.enterCold_memories (l : Live) (cause : Nat) (a : Nat) : (l.enterCold cause).area a = l.area a ∧ (l.enterCold cause).recd.snap = none := by
  have hclose := l.closeAll_memories
  unfold Live.enterCold
  generalize l.closeAll = k at hclose ⊢
  have hstill := k.d0Only.setPower_still .cold cause
  constructor
  · rw [Live.area_congr hstill, ← Live.area_congr hclose.recd]
    rfl
  · exact (congrArg Recorder.snap hstill :)


section Snapshot
variable {s : State} {j : SnapJob} (hsnap : s.live.recd.snap = some j)

include hsnap

theorem snapshotPageDone_waits (h : j.waiting = true ∨ s.live.recd.job.isSome = true) (ok : Bool) :
    exec (.snapshotPageDone ok) s = .next s := by
  show execSnapshotPageDone ok s = _
  unfold execSnapshotPageDone
  refine upd_idle ?_
  rw [hsnap]
  exact if_pos (by simpa using h)

/-- A page of the snapshot has been programmed. -/
def SnapJob.programmed (j : SnapJob) (ok : Bool) (a : SnapArea) : SnapArea :=
  { a with erased := false, hdrOk := (if j.page = 0 then ok else a.hdrOk), content := j.content, reported := false
           pages := (if ok then a.pages ++ [j.page] else a.pages), badPages := (if ok then a.badPages else a.badPages ++ [j.page]) }

/-- The commit goes on with its next page. -/
def Live.snapGoesOn (l : Live) (j : SnapJob) (ok : Bool) : Live :=
  ((l.modArea j.area (j.programmed ok)).modRec fun r => { r with snap := some { j with page := if j.page = 7 then 0 else j.page + 1 } }).flashBegin 1

/-- The commit has ended. -/
def Live.snapEnds (l : Live) (j : SnapJob) (ok : Bool) : Live :=
  (((l.modArea j.area (j.programmed ok)).modRec fun r => { r with snap := none }).flashEnd 1).armWatch

section Program
variable (hwaiting : j.waiting = false) (hjob : s.live.recd.job = none) (ok : Bool)
include hwaiting hjob

theorem exec_snapshotPageDone : exec (.snapshotPageDone ok) s = s.upd fun l =>
    if j.page = 0 then
      if (l.snapEnds j ok).pwr.st = .holdup && (l.snapEnds j ok).pwr.coldDue then (l.snapEnds j ok).enterCold 2 else l.snapEnds j ok
    else l.snapGoesOn j ok := by
  show execSnapshotPageDone ok s = _
  unfold execSnapshotPageDone
  refine upd_congr ?_
  rw [hsnap]
  exact if_neg (by simp [hwaiting, hjob])

theorem snapshotPageDone_next (hpage : j.page ≠ 0) :
    Gives (exec (.snapshotPageDone ok) s) (fun t =>
      t.live.recd.snap = some { j with page := if j.page = 7 then 0 else j.page + 1 } ∧ (t.live.area j.area).hdrOk = (s.live.area j.area).hdrOk ∧
      (t.live.area j.area).content = j.content) := by
  rw [exec_snapshotPageDone hsnap hwaiting hjob]
  have harea : (s.live.snapGoesOn j ok).area j.area = j.programmed ok (s.live.area j.area) :=
    s.live.modArea_area j.area (j.programmed ok)
  refine upd_gives_of_eq (k := s.live.snapGoesOn j ok) ?_ ⟨rfl, ?_⟩
  · exact if_neg hpage
  · dsimp only
    rw [harea]
    exact ⟨if_neg hpage, rfl⟩

theorem snapshotPageDone_ends (hpage : j.page = 0) :
    Gives (exec (.snapshotPageDone ok) s) (fun t => t.live.recd.snap = none ∧ (t.live.area j.area).hdrOk = ok ∧
      (t.live.area j.area).content = j.content) := by
  rw [exec_snapshotPageDone hsnap hwaiting hjob]
  let k := s.live.snapEnds j ok
  have harea : k.area j.area = j.programmed ok (s.live.area j.area) := s.live.modArea_area j.area (j.programmed ok)
  have hlast : (j.programmed ok (s.live.area j.area)).hdrOk = ok := if_pos hpage
  refine upd_gives_of_eq (k := if k.pwr.st = .holdup && k.pwr.coldDue then k.enterCold 2 else k) ?_ ?_
  · exact if_pos hpage
  dsimp only
  split
  next =>
    obtain ⟨hcold, hnone⟩ := k.enterCold_memories 2 j.area
    rw [hcold, hnone, harea]
    exact ⟨rfl, hlast, rfl⟩
  next =>
    rw [harea]
    exact ⟨rfl, hlast, rfl⟩

end Program

theorem recSnapFail_raises (hlate : j.late = false) (hover : j.askedAt + 5000000 ≤ s.live.now) :
    Gives (exec .recSnapFail s) (fun t => Raised s t [s.live.detailOf 0xE005 0xB000] ∧
      t.live.recd = { s.live.recd with snap := some { j with late := true } }) := by
  show Gives (execRecSnapFail s) _
  unfold execRecSnapFail
  refine upd_gives_of_eq (k := (s.live.modRec fun r => { r with snap := some { j with late := true } }).raise 0xE005 0xB000) ?_ ⟨rfl, rfl⟩
  rw [hsnap]
  exact if_pos (by simp [hlate, hover])

theorem recSnapFail_idle (h : j.late = true ∨ s.live.now < j.askedAt + 5000000) : exec .recSnapFail s = .next s := by
  show execRecSnapFail s = _
  unfold execRecSnapFail
  refine upd_idle ?_
  rw [hsnap]
  exact if_neg (by simpa [imp_iff_not_or] using h)

end Snapshot

section Armed
variable {s : State} {at_ : Nat} (hsince : s.live.recd.notArmed = some at_)
include hsince

theorem recNotArmed_raises (hrun : s.live.pwr.st = .run) (hnone : s.live.recd.armed = none) (hlong : at_ + 200000000 ≤ s.live.now)
    (hstands : s.live.stands 0xE003 0xB000 = false)
    (hwaits : s.live.fc.details.any (fun d => d.code.toNat = 0xE003 && d.obj.toNat = 0xB000) = false) :
    Gives (exec .recNotArmed s) (fun t => Raised s t [s.live.detailOf 0xE003 0xB000] ∧ SameBut [.fc] s t) := by
  have honce : s.live.raiseOnce 0xE003 0xB000 = s.live.raise 0xE003 0xB000 := if_neg (by simpa [hstands] using hwaits)
  show Gives (execRecNotArmed s) _
  unfold execRecNotArmed
  refine upd_keeps_of_eq (m := 32768) (k := s.live.raise 0xE003 0xB000) ?_ (by simp) [.fc] (by decide) rfl
  rw [hsince, ← honce]
  exact if_pos (by simp [hrun, hnone, secTicks, hlong])

theorem recNotArmed_idle (hshort : s.live.now < at_ + 200000000) : exec .recNotArmed s = .next s := by
  show execRecNotArmed s = _
  unfold execRecNotArmed
  refine upd_idle ?_
  rw [hsince]
  exact if_neg (by simp [secTicks, Nat.not_le.mpr hshort])

end Armed

theorem snapshotAreaArmed_arms {s : State} {a : Fin 2} (hup : s.live.recUp = true) (hdue : s.live.recd.armDue = true)
    (hsnap : s.live.recd.snap = none) (harmed : s.live.recd.armed = none) (hold : s.live.recd.newest ≠ some a.val)
    (herase : s.live.flashErase = true) :
    Gives (exec (.snapshotAreaArmed a) s) (fun t => t.live.recd.armed = some a.val ∧ t.live.area a = {} ∧ t.live.recd.notArmed = none ∧
      t.live.recd.armDue = false) := by
  have hexec : exec (.snapshotAreaArmed a) s = .next { s with live :=
      ((s.live.modArea a fun _ => {}).modRec fun r => { r with armed := some a.val, armDue := false }).armWatch } :=
    upd_of_pos rfl (by simp [hup, hdue, hsnap, harmed, hold, herase])
  refine ⟨_, hexec, rfl, s.live.modArea_area a fun _ => {}, ?_, rfl⟩
  exact if_neg (by simp)

theorem snapshotAreaArmed_idle {s : State} {a : Fin 2} (h : s.live.recd.newest = some a.val ∨ s.live.recd.armed ≠ none ∨ s.live.recd.armDue = false) :
    exec (.snapshotAreaArmed a) s = .next s := by
  refine upd_of_neg rfl ?_
  rcases h with h | h | h
  · simp [h]
  · simp [h]
  · simp [h]

/-! ## Trace pulses (R529) -/

theorem Live.setGpio_low (l : Live) (g : Fin 16) : (l.setGpio g false).pins.gpioOut.getLsbD g = false := by
  have hbit : ∀ g : Fin 16, (BitVec.ofNat 16 (2 ^ g.val)).getLsbD g = true := by decide
  show (l.pins.gpioOut &&& ~~~(BitVec.ofNat 16 (2 ^ g.val))).getLsbD g = false
  rw [BitVec.getLsbD_and, BitVec.getLsbD_not, hbit g]
  simp

section Pulse
variable {s : State} {ch : Fin 8} {at_ : Nat} (hpulse : (s.live.trace ch).pulse = some at_)
include hpulse

theorem tracePulseEnd_falls (hover : at_ + 200 * s.live.cf (0xB100 + ch) 3 31 24 ≤ s.live.now) :
    Gives (exec (.tracePulseEnd ch) s) (fun t => t.live.trace ch = { s.live.trace ch with pulse := none } ∧
      (∀ g : Fin 16, s.live.cf (0xB100 + ch) 0 8 5 = g.val → t.live.pins.gpioOut.getLsbD g = false)) := by
  show Gives (execTracePulseEnd ch s) _
  unfold execTracePulseEnd
  refine upd_gives_of_eq
    (k := (s.live.setGpio (s.live.cf (0xB100 + ch.val) 0 8 5) false).modTrace ch fun c => { c with pulse := none }) ?_ ⟨?_, fun g hg => ?_⟩
  · rw [hpulse]
    exact if_pos hover
  · exact Live.modTrace_trace_same _ _ _
  · show (s.live.setGpio (s.live.cf (0xB100 + ch.val) 0 8 5) false).pins.gpioOut.getLsbD g = false
    rw [hg]
    exact s.live.setGpio_low g

theorem tracePulseEnd_idle (h : s.live.now < at_ + 200 * s.live.cf (0xB100 + ch) 3 31 24) : exec (.tracePulseEnd ch) s = .next s := by
  show execTracePulseEnd ch s = _
  unfold execTracePulseEnd
  refine upd_idle ?_
  rw [hpulse]
  exact if_neg (by omega)

end Pulse

/-! ## The shelf clock (R514) -/

theorem shelfClockTick_counts {s : State} (hdom : s.live.pwr.on.getLsbD 0 = true) (hdue : s.live.recd.clkAt + 200000000 ≤ s.live.now) :
    Gives (exec .shelfClockTick s) (fun t =>
      t.live.recd = { s.live.recd with clkSec := s.live.recd.clkSec + 1, clkAt := s.live.recd.clkAt + 200000000 } ∧ SameBut [.recd] s t) := by
  have hticks : (200000000 : Nat) = secTicks := rfl
  rw [hticks] at hdue ⊢
  have htest : (s.live.dom 0 && decide (s.live.recd.clkAt + secTicks ≤ s.live.now)) = true := by
    simp [Live.dom, hdom, hdue]
  show Gives (execShelfClockTick s) _
  unfold execShelfClockTick
  refine upd_keeps_of_eq (m := 1048576)
    (k := s.live.modRec fun r => { r with clkSec := r.clkSec + 1, clkAt := r.clkAt + secTicks }) ?_ (by simp) [.recd] (by decide) rfl
  exact if_pos htest

theorem shelfClockTick_idle {s : State} (h : s.live.now < s.live.recd.clkAt + 200000000) : exec .shelfClockTick s = .next s := by
  show execShelfClockTick s = _
  unfold execShelfClockTick
  refine upd_idle ?_
  exact if_neg (by simp [secTicks, Nat.not_le.mpr h])

theorem sclockWrite_sets {s : State} (hdom : s.live.pwr.on.getLsbD 1 = true) (secs : Word) :
    Gives (exec (.sclockWrite secs) s) (fun t => t.live.recd.clkSec = secs ∧ t.live.recd.clkSet = true ∧ t.live.recd.clkAt = s.live.now) := by
  have hexec : exec (.sclockWrite secs) s = .next { s with live := s.live.setClock secs } := upd_of_pos rfl hdom
  have hstill : (s.live.setClock secs).recd.still = { s.live.recd with clkSec := secs, clkSet := true, clkAt := s.live.now }.still :=
    Live.record_still _ _ _
  exact ⟨_, hexec, (congrArg Recorder.clkSec hstill :), (congrArg Recorder.clkSet hstill :), (congrArg Recorder.clkAt hstill :)⟩

/-! ## Occupancy (R531) -/

theorem Live.addCtr_ctr_same (l : Live) (n k : Nat) : (l.addCtr n k).ctr n =
    { val := BitVec.ofNat 32 ((l.ctr n).val.toNat + k), ovf := (l.ctr n).ovf || decide (2 ^ 32 ≤ (l.ctr n).val.toNat + k) } := by
  unfold Live.addCtr
  extract_lets c sum wraps a
  exact tget_tput_same _ _ _ _

theorem Live.addCtr_ctr_other (l : Live) {n m : Nat} (k : Nat) (h : m ≠ n) : (l.addCtr n k).ctr m = l.ctr m := by
  unfold Live.addCtr
  extract_lets c sum wraps a
  have ha : a.recd = l.recd := by
    simp only [a]
    split <;> rfl
  refine (tget_tput_other _ _ _ _ _ h).trans ?_
  rw [ha]
  rfl

/-- A counter that belongs to no pair of course traffic stands alone (R530). -/
theorem Live.bumpCtr_of_ge {l : Live} {n : Nat} (hn : 64 ≤ n) (k : Nat) : l.bumpCtr n k = l.addCtr n k := by
  have hpair : l.chained n = false := by simp [Live.chained, Nat.not_lt.mpr hn]
  rw [Live.bumpCtr, if_neg (by simp [hpair]), if_neg (by simp [Nat.not_lt.mpr hn])]

/-- A bump reaches its own counter, and with a chain the next one below 64. -/
theorem Live.bumpCtr_ctr_other (l : Live) {n m : Nat} (k : Nat) (h : m ≠ n) (hm : 64 ≤ m) : (l.bumpCtr n k).ctr m = l.ctr m := by
  unfold Live.bumpCtr
  extract_lets sum set
  split
  next hchain =>
    have hn : n + 1 ≠ m := by
      simp only [Live.chained, Bool.and_eq_true, decide_eq_true_eq] at hchain
      omega
    rw [Live.addCtr_ctr_other _ _ hn.symm]
    exact tget_tput_other _ _ _ _ _ h
  next =>
    split
    · rfl
    · exact l.addCtr_ctr_other k h

/-- The sample of one counter. -/
def Live.occStep (v : Nat) (l : Live) (n : Nat) : Live :=
  if fld (l.ctrWord n 2) 29 28 = 1 && fld (l.ctrWord n 2) 6 0 < l.occupancy n v then l.bumpCtr n 200 else l

/-- What the samples read is the same in both states, and so is counter `n`. -/
structure Live.OccAlike (n : Nat) (l k : Live) : Prop where
  keep : Live.less 68157440 k = Live.less 68157440 l
  unfl : k.recd.unfl = l.recd.unfl
  ctr : k.ctr n = l.ctr n

theorem Live.OccAlike.trans {n : Nat} {l k j : Live} (a : l.OccAlike n k) (b : k.OccAlike n j) : l.OccAlike n j :=
  ⟨b.keep.trans a.keep, b.unfl.trans a.unfl, b.ctr.trans a.ctr⟩

theorem Live.occStep_alike {n m : Nat} (hn : 64 ≤ n) (hm : n ≠ m) (v : Nat) (l : Live) : l.OccAlike n (l.occStep v m) := by
  unfold Live.occStep
  split
  · obtain ⟨cs, h⟩ := l.bumpCtr_recd m 200
    exact ⟨by simp, by rw [h], l.bumpCtr_ctr_other 200 hm hn⟩
  · exact ⟨rfl, rfl, rfl⟩

/-- A count changes the recorder and the overflow bits alone. -/
theorem Live.eq_of_counted {l k : Live} (h : Live.less 68157440 k = Live.less 68157440 l) : k = { l with recd := k.recd, w1c := k.w1c } := by
  have hparts := congrArg (fun x : Live => { x with recd := k.recd, w1c := k.w1c }) h
  exact hparts

/-- Of the recorder, the occupancy counts the unflushed records alone. -/
theorem Live.occupancy_congr (l : Live) {r : Recorder} (h : r.unfl = l.recd.unfl) (w : Tbl Nat) (n v : Nat) :
    ({ l with recd := r, w1c := w } : Live).occupancy n v = l.occupancy n v := by
  unfold Live.occupancy
  dsimp only
  rw [h]
  rfl

theorem Live.OccAlike.step {n : Nat} (hn : 64 ≤ n) (v : Nat) {l k : Live} (h : l.OccAlike n k) :
    (k.occStep v n).ctr n = (l.occStep v n).ctr n := by
  have himg : k.img = l.img := Live.less_img h.keep (by decide)
  have hword : k.ctrWord n 2 = l.ctrWord n 2 := by simp only [Live.ctrWord, Live.given, Live.cw, himg]
  have hocc : k.occupancy n v = l.occupancy n v := by
    rw [Live.eq_of_counted h.keep]
    exact l.occupancy_congr h.unfl _ n v
  unfold Live.occStep
  rw [hword, hocc]
  split
  · rw [Live.bumpCtr_of_ge hn, Live.bumpCtr_of_ge hn, Live.addCtr_ctr_same, Live.addCtr_ctr_same, h.ctr]
  · exact h.ctr

/-- Each counter is sampled once, on what the block held when the sample began. -/
theorem Live.occSamples_ctr {n : Nat} (hn : 64 ≤ n) (v : Nat) (l : Live) (m : Nat) :
    (n < m → (l.each m (Live.occStep v)).ctr n = (l.occStep v n).ctr n) ∧ (m ≤ n → l.OccAlike n (l.each m (Live.occStep v))) := by
  induction m with
  | zero => exact ⟨fun h => absurd h (Nat.not_lt_zero n), fun _ => ⟨rfl, rfl, rfl⟩⟩
  | succ m ih =>
    obtain ⟨hdone, hahead⟩ := ih
    rw [Live.each_succ]
    refine ⟨fun h => ?_, fun h => (hahead (by omega)).trans (Live.occStep_alike hn (by omega) v _)⟩
    by_cases hm : m = n
    · subst hm
      exact (hahead (Nat.le_refl m)).step hn v
    · rw [(Live.occStep_alike hn (Ne.symm hm) v _).ctr]
      exact hdone (by omega)

theorem occupancySample_idle {s : State} (hdue : s.live.occDue = false) (v : Byte) : exec (.occupancySample v) s = .next s :=
  upd_of_neg rfl (by simp [hdue])

theorem occupancySample_ctr {s : State} (hdom : s.live.pwr.on.getLsbD 6 = true) (hdue : s.live.occDue = true) (v : Byte) (n : Fin 128)
    (hn : 64 ≤ n.val) :
    Gives (exec (.occupancySample v) s) (fun t => t.live.ctr n =
      if fld (s.live.ctrWord n 2) 29 28 = 1 ∧ fld (s.live.ctrWord n 2) 6 0 < s.live.occupancy n v.toNat then (s.live.bumpCtr n 200).ctr n
      else s.live.ctr n) := by
  let k := s.live.modRec fun r => { r with occAt := some s.live.now }
  have hexec : exec (.occupancySample v) s = .next { s with live := k.each 128 (Live.occStep v.toNat) } :=
    upd_of_pos rfl (by simp [Live.dom, hdom, hdue])
  have halike : s.live.OccAlike n k := ⟨by simp [k], rfl, rfl⟩
  refine ⟨_, hexec, ?_⟩
  show (k.each 128 (Live.occStep v.toNat)).ctr n = _
  rw [(Live.occSamples_ctr hn v.toNat k 128).1 n.isLt, halike.step hn, Live.occStep]
  simp only [Bool.and_eq_true, decide_eq_true_eq]
  split <;> rfl

/-- Settles O60. -/
theorem recorderKeepsItsMemories : Obligations.RecorderKeepsItsMemories := by
  intro s c ch a ok l r
  refine ⟨flushPage_starts, flushPage_idle, fun hjob => flushPageDone_idle hjob ok,
    fun j hjob hwait hband => flushPageDone_waits hjob hwait hband ok, fun j hjob hgo => ?_, captureFreeze_flushes, captureFreeze_idle,
    fun j hsnap => ?_, fun at_ hsince => ?_, snapshotAreaArmed_arms, snapshotAreaArmed_idle, fun at_ hpulse => ?_, shelfClockTick_counts,
    shelfClockTick_idle, fun secs hdom => sclockWrite_sets hdom secs, fun v n hn hdom hdue => occupancySample_ctr hdom hdue v n hn,
    occupancySample_idle⟩
  · exact ⟨flushPageDone_flushes hjob hgo, flushPageDone_fails hjob hgo, flushPageDone_retries hjob hgo⟩
  · refine ⟨fun h => snapshotPageDone_waits hsnap h ok, fun hwaiting hjob => ?_, recSnapFail_raises hsnap, recSnapFail_idle hsnap⟩
    exact ⟨snapshotPageDone_next hsnap hwaiting hjob ok, snapshotPageDone_ends hsnap hwaiting hjob ok⟩
  · exact ⟨recNotArmed_raises hsince, recNotArmed_idle hsince⟩
  · exact ⟨tracePulseEnd_falls hpulse, tracePulseEnd_idle hpulse⟩

end Sys2Proof.Machine
end

section
/-! PROOFS. The sense front end: its conversions and their range (R615, Table 11.3). -/
open Sys2Proof Sys2Proof.Machine
namespace Sys2Proof.Machine

section Conversions
variable {s : State} {code : Half} {c : Fin 16}

theorem adcConversion_early (h : s.live.now < s.live.adc.lastAt + 200) (ch : Option (Fin 16)) : exec (.adcConversion ch code) s = .next s := by
  show execAdcConversion ch code s = _
  unfold execAdcConversion
  refine upd_idle ?_
  exact if_pos (by simp [h])

section Free
variable (hdom : s.live.pwr.on.getLsbD 4 = true) (hfree : s.live.adc.lastAt + 200 ≤ s.live.now)
include hdom hfree

theorem adcConversion_reference (hdue : s.live.adc.refDue = true) :
    Gives (exec (.adcConversion none code) s) (fun t => t.live.adc.refDue = false ∧ t.live.adc.refOk = refGood code ∧
      t.live.adc.lastAt = s.live.now ∧ Raised s t (if refGood code then [] else [s.live.detailOf 0xF001 0]) ∧ SameBut [.adc, .fc] s t) := by
  have hlive : s.live.adcRef code = if refGood code then
      { s.live with adc := { s.live.adc with refDue := false, refOk := refGood code, lastAt := s.live.now } }
      else ({ s.live with adc := { s.live.adc with refDue := false, refOk := refGood code, lastAt := s.live.now } } : Live).raise 0xF001 0 := rfl
  show Gives (execAdcConversion none code s) _
  unfold execAdcConversion
  refine upd_gives_of_eq (k := s.live.adcRef code) ?_ ?_
  · refine (if_neg (by simp [Live.dom, hdom, hfree])).trans ?_
    exact if_pos hdue
  · have hsame : SameBut [.adc, .fc] s { s with live := s.live.adcRef code } :=
      live_sameBut (m := 4227072) (by simp) _ (by decide)
    refine ⟨?_, ?_, ?_, ?_, hsame⟩
    · dsimp only
      rw [hlive]
      split <;> rfl
    · dsimp only
      rw [hlive]
      split <;> rfl
    · dsimp only
      rw [hlive]
      split <;> rfl
    · unfold Raised
      dsimp only
      rw [hlive]
      split
      · simp
      · rfl

theorem adcConversion_channel (hdue : s.live.adc.refDue = false) (hnext : s.live.adcNext = some c) :
    Gives (exec (.adcConversion (some c) code) s) (fun t => tget 0 t.live.adc.codes c = code ∧ c.val ∈ t.live.adc.done ∧
      (∀ m, m ≠ c.val → tget 0 t.live.adc.codes m = tget 0 s.live.adc.codes m) ∧
      tget 0 t.live.adc.runs c = (if code = 0 ∨ code = 0xFFFF then tget 0 s.live.adc.runs c + 1 else 0) ∧
      t.live.adc.lastAt = s.live.now ∧ t.live.adc.next = c + 1) := by
  have hadc : (((s.live.adcStore c code).auxPointReading c code).ppConversion c code).adc = (s.live.adcStore c code).adc :=
    Live.same_adc (by simp)
  show Gives (execAdcConversion (some c) code s) _
  unfold execAdcConversion
  refine upd_gives_of_eq (k := ((s.live.adcStore c code).auxPointReading c code).ppConversion c code) ?_ ?_
  · refine (if_neg (by simp [Live.dom, hdom, hfree])).trans ?_
    exact if_neg (by simp [hdue, hnext])
  · dsimp only
    rw [hadc]
    refine ⟨tget_tput_same _ _ _ _, ?_, fun m hm => tget_tput_other _ _ _ _ _ hm, ?_, rfl, rfl⟩
    · show c.val ∈ (if s.live.adc.done.contains c.val then s.live.adc.done else s.live.adc.done ++ [c.val])
      split
      next h => exact List.contains_iff_mem.mp h
      next => simp
    · refine (tget_tput_same _ _ _ _).trans ?_
      simp only [Bool.or_eq_true, decide_eq_true_eq]

theorem adcConversion_out_of_turn (h : s.live.adc.refDue = true ∨ s.live.adcNext ≠ some c.val) :
    exec (.adcConversion (some c) code) s = .next s := by
  show execAdcConversion (some c) code s = _
  unfold execAdcConversion
  refine upd_idle ?_
  refine (if_neg (by simp [Live.dom, hdom, hfree])).trans ?_
  exact if_pos (by simpa using h)

end Free

/-! ## The range of a channel (Table 11.3) -/

theorem adcRange_raises (hrun : 16 ≤ tget 0 s.live.adc.runs c) (hnew : c.val ∉ s.live.adc.raised) (hbound : c.val ∈ s.live.adcBound) :
    Gives (exec (.adcRange c) s) (fun t => Raised s t [s.live.detailOf 0xF002 0 c] ∧
      t.live.adc = { s.live.adc with raised := s.live.adc.raised ++ [c.val] } ∧ SameBut [.adc, .fc] s t) := by
  let k : Live := { s.live with adc := { s.live.adc with raised := s.live.adc.raised ++ [c.val] } }
  show Gives (execAdcRange c s) _
  unfold execAdcRange
  refine upd_gives_of_eq (k := k.raise 0xF002 0 c) ?_ ⟨rfl, rfl, ?_⟩
  · exact if_pos (by simp [hrun, hnew, hbound])
  · exact live_sameBut (m := 4227072) (by simp [k]) _ (by decide)

theorem adcRange_idle (h : tget 0 s.live.adc.runs c < 16 ∨ c.val ∈ s.live.adc.raised) : exec (.adcRange c) s = .next s := by
  show execAdcRange c s = _
  unfold execAdcRange
  refine upd_idle (if_neg ?_)
  rcases h with h | h
  · simp [Nat.not_le.mpr h]
  · simp [h]

end Conversions

/-- Settles O42. -/
theorem conversionsGoRoundRobin : Obligations.ConversionsGoRoundRobin := by
  intro s code c l
  refine ⟨adcConversion_early, fun hdom hfree => ⟨fun hdue => ?_, adcConversion_channel hdom hfree, fun _ hnext => ?_⟩, adcRange_raises,
    adcRange_idle⟩
  · exact ⟨adcConversion_out_of_turn hdom hfree (.inl hdue), adcConversion_reference hdom hfree hdue⟩
  · exact adcConversion_out_of_turn hdom hfree (.inr hnext)

end Sys2Proof.Machine
end

section
/-! PROOFS. The refutation of O46: a RESET that a block may not take again escalates into an occurrence that stands (R373, R394). -/
open Sys2Proof Sys2Proof.Machine
namespace Sys2Proof.Machine

/-- The first detail in the order of arrival is the one that is taken. -/
theorem exec_occurrenceTaken {s : State} {d : Detail} {xs : List Detail} (hdom : s.live.pwr.on.getLsbD 1 = true)
    (hfirst : s.live.ordered = d :: xs) :
    exec (.occurrenceTaken none) s = .next { s with live := (s.live.modFc fun f => { f with details := xs }).take d } := by
  show execOccurrenceTaken none s = _
  unfold execOccurrenceTaken
  refine congrArg (fun l => Host.Outcome.next { s with live := l }) ?_
  refine (if_neg (by simp [Live.dom, hdom])).trans ?_
  dsimp only
  rw [hfirst]

/-- `FC_RESET_ESC` stands. -/
def standingEscalation : Occ := { d := { code := 0x9005, obj := 0x9FFF }, cls := .safe }

/-- A fault of the Loop Engine, routed RESET. -/
def engineFault : Detail := { code := 0x3004, obj := 0x3FFF }

/-- RUN outside the safe state; the Loop Engine has been reset three times in the last second, `FC_RESET_ESC` stands, and another fault
of the engine waits. -/
def escalatedLive : Live :=
  { pwr := { st := .run, on := 0xFF }, fc := { details := [engineFault], table := [standingEscalation], blocks := [(8, { resets := [0, 0, 0] })] } }
def escalatedState : State := { State.reset with live := escalatedLive }

theorem escalatedLive_ordered : escalatedLive.ordered = [engineFault] := List.mergeSort_singleton _

/-- The escalation of the engine's fault is absorbed by the one that stands, which counts it. -/
theorem escalatedLive_absorbs :
    ((escalatedLive.modFc fun f => { f with details := [] }).take engineFault).fc.table.map (·.nrep) = [1, 0] := by
  decide +kernel

/-- Refutes O46: for a RESET its clause has the table begin with the entries that stood before, as they were; where the block has no
reset left (R394) and `FC_RESET_ESC` stands, the escalation is absorbed by that entry, whose repeats then count 1 (R373). -/
theorem not_occurrencesAreTakenAndRouted : ¬ Obligations.OccurrencesAreTakenAndRouted := by
  intro hall
  obtain ⟨-, htaken, -⟩ := hall escalatedState engineFault []
  obtain ⟨-, hrouted⟩ := htaken rfl escalatedLive_ordered
  obtain ⟨-, hnew⟩ := hrouted .reset (by decide +kernel)
  obtain ⟨t, hnext, ⟨-, htable⟩, -⟩ := hnew (by decide +kernel) (by decide +kernel)
  obtain ⟨more, htable⟩ := htable rfl
  have hstatement : (t.live.fc.table.map (·.nrep)).head? = some 0 := by
    have hheads := congrArg (fun os : List Occ => (os.map (·.nrep)).head?) htable
    simpa [Function.comp_def, escalatedState, escalatedLive, standingEscalation] using hheads
  have hmodel : t.live.fc.table.map (·.nrep) = [1, 0] := by
    have hexec := exec_occurrenceTaken (s := escalatedState) rfl escalatedLive_ordered
    cases hnext.symm.trans hexec
    exact escalatedLive_absorbs
  simp [hmodel] at hstatement

end Sys2Proof.Machine
end

section
/-! PROOFS. The refutation of O50: a first block of a checkpoint that stands whole in the other buffer is acknowledged and not kept (R426). -/
open Sys2Proof Sys2Proof.Machine
namespace Sys2Proof.Machine

/-- A block that a buffer holds already is acknowledged, and no buffer changes (R426). -/
theorem exec_ckptData_held {s : State} {f : MateHdr} (hup : s.live.kUp = true) (hcrc : f.crcOk = true)
    (hcompat : s.live.keeper.incompat = false)
    (hheld : (s.live.keeper.bufA.holds f || s.live.keeper.bufB.holds f) = true) :
    exec (.ckptData f) s = .next { s with live := s.live.ckptReply f 0 } := by
  show execCkptData f s = _
  unfold execCkptData
  refine congrArg (fun l => Host.Outcome.next { s with live := l }) ?_
  refine (if_neg (by simp [hup])).trans <| (if_neg (by simp [hcrc])).trans <| (if_neg (by simp [hcompat])).trans ?_
  exact if_pos hheld

/-- The first block of checkpoint 1, of two blocks, sent again. -/
def repeatedBlock : MateHdr := { seq := 1, data := [0, 0, 2, 0, 1, 0, 0, 0] }

/-- Buffer A holds checkpoint 1 whole; buffer B is empty, so it is the one that fills. -/
def completeState : State :=
  { State.reset with
    live := { keeper := { bufA := { state := 2, blk := 2, seq := 1, blocks := [(0, repeatedBlock.data), (1, [7])] } } } }

/-- Refutes O50: a first block has the buffer that fills take it in, unless a buffer holds it already; where the other buffer holds
the checkpoint whole and its block 0 comes once more, the block is acknowledged and the buffer that fills stays empty. -/
theorem not_blocksGoOverTheMateLink : ¬ Obligations.BlocksGoOverTheMateLink := by
  intro hall
  obtain ⟨hcheckpoints, -⟩ := hall completeState repeatedBlock 0
  obtain ⟨-, -, htaken⟩ := hcheckpoints (by decide +kernel)
  obtain ⟨hfirst, -⟩ := htaken rfl rfl
  obtain ⟨t, hnext, -, -, hstarted, -⟩ := hfirst rfl (by decide +kernel) (by decide +kernel) (by decide +kernel)
  have hexec := exec_ckptData_held (s := completeState) (f := repeatedBlock) (by decide +kernel) rfl rfl (by decide +kernel)
  cases hnext.symm.trans hexec
  exact absurd hstarted (by decide +kernel)

end Sys2Proof.Machine
end

section
/-! PROOFS. The test port and debug access (R568 to R572, R620, Table 18.4). -/
open Sys2Proof Sys2Proof.Machine
namespace Sys2Proof.Machine

/-! ## The boundary scan (R568, R620) -/

section Scan
variable {s : State} (hon : s.live.pwr.st ≠ .off)
include hon

theorem jtagOn_of_on : s.live.jtagOn = true := by simp [Live.jtagOn, hon]

omit hon in
theorem upd_setPins_gives (s : State) (f : Pins → Pins) :
    Gives (s.upd fun l => l.setPins f) (fun t => t.live.pins = f s.live.pins ∧ SameBut [.pins] s t) :=
  upd_gives_sameBut (m := 8388608) rfl [.pins] (by decide) rfl

theorem jtagIdcode_gives : Gives (exec .jtagIdcode s) (fun t =>
    t.live.pins = { s.live.pins with tdo := (List.range 32).map (fun i => s.live.idcode.getLsbD i), extest := false } ∧ SameBut [.pins] s t) := by
  have hexec : exec .jtagIdcode s = s.upd fun l =>
      l.setPins fun p => { p with tdo := (List.range 32).map (fun i => s.live.idcode.getLsbD i), extest := false } :=
    upd_congr (if_pos (jtagOn_of_on hon))
  exact gives_of_eq hexec (upd_setPins_gives s _)

theorem jtagBypass_gives (bits : List Bool) : Gives (exec (.jtagBypass bits) s) (fun t =>
    t.live.pins = { s.live.pins with tdo := bypassBits bits, extest := false } ∧ SameBut [.pins] s t) := by
  have hexec : exec (.jtagBypass bits) s = s.upd fun l => l.setPins fun p => { p with tdo := bypassBits bits, extest := false } :=
    upd_congr (if_pos (jtagOn_of_on hon))
  exact gives_of_eq hexec (upd_setPins_gives s _)

theorem jtagSamplePreload_gives (ps bits : List Bool) : Gives (exec (.jtagSamplePreload ps bits) s) (fun t =>
    t.live.pins = { s.live.pins with tdo := ps, bsr := bits, extest := false } ∧ SameBut [.pins] s t) := by
  have hexec : exec (.jtagSamplePreload ps bits) s = s.upd fun l => l.setPins fun p => { p with tdo := ps, bsr := bits, extest := false } :=
    upd_congr (if_pos (jtagOn_of_on hon))
  exact gives_of_eq hexec (upd_setPins_gives s _)

theorem jtagExtest_honoured (bits : List Bool) (hlease : s.live.keeper.live = false) (hlc : s.live.sec.lc ≠ 2) :
    Gives (exec (.jtagExtest true bits) s) (fun t =>
      t.live.pins = { s.live.pins with bsr := bits, extest := true } ∧ SameBut [.pins] s t) := by
  have hexec : exec (.jtagExtest true bits) s = s.upd fun l => l.setPins fun p => { p with bsr := bits, extest := true } := by
    show execJtagExtest true bits s = _
    unfold execJtagExtest
    refine upd_congr ?_
    exact (if_neg (by simp [jtagOn_of_on hon])).trans (if_pos (by simp [hlease, hlc]))
  exact gives_of_eq hexec (upd_setPins_gives s _)

theorem jtagExtest_bypasses {te : Bool} (bits : List Bool) (hbar : te = false ∨ s.live.keeper.live = true ∨ s.live.sec.lc = 2) :
    Gives (exec (.jtagExtest te bits) s) (fun t =>
      t.live.pins = { s.live.pins with tdo := bypassBits bits, extest := false } ∧ SameBut [.pins] s t) := by
  have hno : ¬((te && !s.live.keeper.live && decide (s.live.sec.lc ≠ 2)) = true) := by
    rcases hbar with h | h | h <;> simp [h]
  have hexec : exec (.jtagExtest te bits) s = s.upd fun l => l.setPins fun p => { p with tdo := bypassBits bits, extest := false } := by
    show execJtagExtest te bits s = _
    unfold execJtagExtest
    refine upd_congr ?_
    exact (if_neg (by simp [jtagOn_of_on hon])).trans (if_neg hno)
  exact gives_of_eq hexec (upd_setPins_gives s _)

end Scan

/-! ## A debug session (R568 to R570) -/

section Session
variable {s : State}

/-- `TRST_N` ends the debug session, forgets its nonce and resets the port (R570). -/
def Live.jtagReset (l : Live) : Live :=
  (l.dbgEnd.modSec fun s => { s with dbg := { s.dbg with nonce := [] } }).setPins fun p => { p with extest := false }

theorem Live.jtagReset_keep (l : Live) : Live.less 10485760 l.jtagReset = Live.less 10485760 l := by
  simp [Live.jtagReset]

theorem Live.jtagReset_dbg (l : Live) : l.jtagReset.sec.dbg =
    { l.sec.dbg with mode := 0, halted := [], stepped := [], coresHalted := false, nonce := [] } := rfl

theorem trstLow_gives : Gives (exec .trstLow s) (fun t =>
    t.live.sec.dbg = { s.live.sec.dbg with mode := 0, halted := [], stepped := [], coresHalted := false, nonce := [] } ∧
      t.live.pins = { s.live.pins with extest := false } ∧ SameBut [.sec, .pins] s t) :=
  ⟨_, rfl, s.live.jtagReset_dbg, rfl, live_sameBut s.live.jtagReset_keep [.sec, .pins] (by decide)⟩

theorem dbgauthLockEnd_gives {at_ : Nat} (hlock : s.live.sec.dbg.lockEnd = some at_) (hdue : at_ ≤ s.live.now) :
    Gives (exec .dbgauthLockEnd s) (fun t => t.live.sec.dbg = { s.live.sec.dbg with lockEnd := none } ∧ SameBut [.sec] s t) := by
  show Gives (execDbgauthLockEnd s) _
  unfold execDbgauthLockEnd
  refine upd_keeps_of_eq (m := 2097152) (k := s.live.modSec fun c => { c with dbg := { c.dbg with lockEnd := none } }) ?_ rfl [.sec] (by decide) rfl
  simp only [hlock]
  exact if_pos hdue

theorem dbgauthLockEnd_early {at_ : Nat} (hlock : s.live.sec.dbg.lockEnd = some at_) (hearly : s.live.now < at_) :
    exec .dbgauthLockEnd s = .next s := by
  show execDbgauthLockEnd s = _
  unfold execDbgauthLockEnd
  refine upd_idle ?_
  simp only [hlock]
  exact if_neg (Nat.not_le.mpr hearly)

/-- A request takes the nonce and ends the session that was. -/
def Live.dbgAsked (l : Live) : Live := (l.modSec fun s => { s with dbg := { s.dbg with nonce := [] } }).dbgEnd

/-- The key that opens a mode has signed the nonce (R568). -/
def Live.dbgSigned (l : Live) (mode : BitVec 2) (hmac : List Byte) : Bool :=
  !l.sec.dbg.nonce.isEmpty &&
    (l.dbgKeys mode.toNat).any (fun k => hmacSha256 k (l.sec.dbg.nonce ++ [BitVec.ofNat 8 mode.toNat] ++ l.uid) = hmac)

theorem Live.dbgSigned_iff (l : Live) (mode : BitVec 2) (hmac : List Byte) : l.dbgSigned mode hmac = true ↔
    ¬ l.sec.dbg.nonce = [] ∧
      (l.dbgKeys mode.toNat).any (fun k => hmacSha256 k (l.sec.dbg.nonce ++ [BitVec.ofNat 8 mode.toNat] ++ l.uid) = hmac) = true := by
  rw [Live.dbgSigned, Bool.and_eq_true, Bool.not_eq_true', List.isEmpty_eq_false_iff]

section Open
variable (hon : s.live.pwr.st ≠ .off) (hreset : s.live.pwr.resetLow = false)
include hon hreset

theorem dbgauth_nonce : Gives (exec (.dbgauth .nonce) s) (fun t => t.live.sec.dbg.nonce.length = 16 ∧
    t.live.pins.dbgOut = t.live.sec.dbg.nonce ∧ t.live.sec.dbg.mode = s.live.sec.dbg.mode) := by
  show Gives (execDbgauth .nonce s) _
  unfold execDbgauth
  refine upd_gives_of_eq (k := ((s.live.drawBytes 16).2.modSec fun c =>
    { c with dbg := { c.dbg with nonce := (s.live.drawBytes 16).1 } }).setPins fun p => { p with dbgOut := (s.live.drawBytes 16).1 }) ?_ ?_
  · exact if_neg (by simp [jtagOn_of_on hon, hreset])
  · refine ⟨?_, rfl, rfl⟩
    simp [Live.setPins, Live.modSec, Live.drawBytes]

theorem dbgauth_close : Gives (exec (.dbgauth .close) s) (fun t =>
    t.live.sec.dbg = { s.live.sec.dbg with mode := 0, halted := [], stepped := [], coresHalted := false } ∧ SameBut [.sec] s t) := by
  have hexec : exec (.dbgauth .close) s = s.upd Live.dbgEnd := by
    show execDbgauth .close s = _
    unfold execDbgauth
    refine upd_congr ?_
    exact if_neg (by simp [jtagOn_of_on hon, hreset])
  exact gives_of_eq hexec (upd_gives_sameBut (m := 2097152) rfl [.sec] (by decide) rfl)

theorem dbgauth_barred (m : BitVec 2) (hmac : List Byte) (hbar : s.live.pwr.st = .holdup ∨ s.live.sec.dbg.lockEnd ≠ none) :
    exec (.dbgauth (.request m hmac)) s = .next s := by
  show execDbgauth (.request m hmac) s = _
  unfold execDbgauth
  refine upd_idle ((if_neg (by simp [jtagOn_of_on hon, hreset])).trans (if_pos ?_))
  simpa [Option.isSome_iff_ne_none] using hbar

section Heard
variable {m : BitVec 2} {hmac : List Byte} (hup : s.live.pwr.st ≠ .holdup) (hunlocked : s.live.sec.dbg.lockEnd = none)
include hup hunlocked

theorem exec_dbgauth_signed (hkey : s.live.dbgSigned m hmac = true) :
    exec (.dbgauth (.request m hmac)) s = s.upd fun l =>
      let k := (l.dbgAsked.modSec fun s => { s with dbg := { s.dbg with mode := m.toNat, fails := [] } }).count 127
      if m.toNat = 2 then k.raise 0xC003 0xE000 else k := by
  show execDbgauth (.request m hmac) s = _
  unfold execDbgauth
  refine upd_congr ?_
  refine (if_neg (by simp [jtagOn_of_on hon, hreset])).trans <| (if_neg (by simp [hup, hunlocked])).trans ?_
  exact if_pos hkey

theorem dbgauth_opens (hkey : s.live.dbgSigned m hmac = true) :
    Gives (exec (.dbgauth (.request m hmac)) s) (fun t => t.live.sec.dbg.mode = m.toNat ∧ t.live.sec.dbg.nonce = [] ∧
      (m.toNat = 2 → s.live.detailOf 0xC003 0xE000 ∈ t.live.fc.details)) := by
  rw [exec_dbgauth_signed hon hreset hup hunlocked hkey]
  refine upd_gives_of_eq rfl ?_
  generalize hk : (s.live.dbgAsked.modSec fun s => { s with dbg := { s.dbg with mode := m.toNat, fails := [] } }).count 127 = k
  have hsec : k.sec = (s.live.dbgAsked.modSec fun s => { s with dbg := { s.dbg with mode := m.toNat, fails := [] } }).sec := by
    subst hk; exact Live.same_sec (by simp)
  have hnow : k.now = s.live.now := by subst hk; exact (Live.less_now (Live.count_keep _ _ 68157440 rfl) (by decide)).trans rfl
  dsimp only
  split
  next h =>
    refine ⟨by rw [Live.raise_sec, hsec]; rfl, by rw [Live.raise_sec, hsec]; rfl, fun _ => ?_⟩
    rw [← Live.detailOf_congr hnow]
    exact List.mem_append_right _ (List.mem_singleton.mpr rfl)
  next h => exact ⟨by rw [hsec]; rfl, by rw [hsec]; rfl, fun h2 => absurd h2 h⟩

theorem dbgauth_fails (hkey : s.live.dbgSigned m hmac = false) :
    Gives (exec (.dbgauth (.request m hmac)) s) (fun t =>
      let tries := ((s.live.now :: s.live.sec.dbg.fails).filter (fun t => s.live.now < t + 200000000)).length
      t.live.sec.dbg.mode = 0 ∧ t.live.sec.dbg.nonce = [] ∧
        (3 ≤ tries → t.live.sec.dbg.lockEnd = some (s.live.now + fld (s.live.hw 0xD000 0) 23 16 * 200000000)) ∧
        (tries < 3 → t.live.sec.dbg.lockEnd = none)) := by
  have hexec : exec (.dbgauth (.request m hmac)) s = s.upd fun l =>
      let f := (l.now :: l.sec.dbg.fails).filter (fun t => l.now < t + secTicks)
      if 3 ≤ f.length then
        l.dbgAsked.modSec fun s => { s with dbg := { s.dbg with fails := [], lockEnd := some (l.now + fld (l.hw 0xD000 0) 23 16 * secTicks) } }
      else l.dbgAsked.modSec fun s => { s with dbg := { s.dbg with fails := f } } := by
    show execDbgauth (.request m hmac) s = _
    unfold execDbgauth
    refine upd_congr ?_
    refine (if_neg (by simp [jtagOn_of_on hon, hreset])).trans <| (if_neg (by simp [hup, hunlocked])).trans ?_
    exact if_neg (ne_true_of_eq_false hkey)
  rw [hexec]
  refine upd_gives_of_eq rfl ?_
  have hsec : (200000000 : Nat) = secTicks := rfl
  dsimp only
  rw [hsec]
  split
  next h => exact ⟨rfl, rfl, fun _ => rfl, fun h' => absurd h (Nat.not_le.mpr h')⟩
  next h => exact ⟨rfl, rfl, fun h' => absurd h' h, fun _ => hunlocked⟩

end Heard
end Open
end Session

/-! ## Debug accesses (R571, R572, Table 18.4) -/

/-- DBGACC refuses a request and tells why, and the Secure Core is as it was. -/
def DbgAnswers (s : State) (r : DbgReq) (a : DbgAns) : Prop :=
  Gives (exec (.dbgacc r) s) (fun t => t.live.pins.dbgAns = a ∧ t.live.sec = s.live.sec)

section Access
variable {s : State} (hon : s.live.pwr.st ≠ .off)

/-- The newest generation, as the published objects of DBGACC are read. -/
def State.dbgNewest (s : State) : Live := (tfind s.gens s.live.msgs.gen).getD s.live

include hon

theorem exec_dbgacc (r : DbgReq) : exec (.dbgacc r) s = .next { s with live := s.live.dbgAccess s.dbgNewest r } := by
  show execDbgacc r s = _
  unfold execDbgacc
  refine upd_of_neg (f := fun l => if !l.jtagOn then l else l.dbgAccess ((tfind s.gens l.msgs.gen).getD l) r) rfl ?_
  simp [jtagOn_of_on hon]

theorem dbgAnswers_of_say {r : DbgReq} {a : DbgAns} {out : List Byte} (h : s.live.dbgAccess s.dbgNewest r = s.live.dbgSay a out) :
    DbgAnswers s r a :=
  ⟨_, exec_dbgacc hon r, by rw [h]; rfl, by rw [h]; rfl⟩

theorem dbgAnswers_refused_of_none (hreach : s.live.reach = .none) (r : DbgReq) : DbgAnswers s r .refused := by
  have hlease (f : Live → Live) : s.live.dbgLease f = s.live.dbgSay .refused [] := if_pos (by simp [hreach])
  have hfull (f : Live → Live) : s.live.dbgFull f = s.live.dbgSay .refused [] := if_neg (by simp [hreach])
  have hread (out : List Byte) : s.live.dbgRead out = s.live.dbgSay .refused [] := if_neg (by simp [hreach])
  refine dbgAnswers_of_say hon (out := []) ?_
  cases r with
  | readObj => exact if_pos hreach
  | readD0 => exact if_pos hreach
  | readOtp => exact if_neg (by simp [hreach])
  | haltLane | stepLane => simp only [Live.dbgAccess, hlease]
  | resumeLane | haltCores | resumeCores | stepCores => simp only [Live.dbgAccess, hfull]
  | readLane | readTrace | readSample => simp only [Live.dbgAccess, hread]
  | readMem => exact if_pos (by simp [hreach])
  | writeMem => simp only [Live.dbgAccess, hlease, hfull, ite_self]

theorem dbgAnswers_refused_of_not_full (hreach : s.live.reach ≠ .f) (n : Fin 8) :
    DbgAnswers s (.haltLane n) .refused ∧ DbgAnswers s .haltCores .refused :=
  ⟨dbgAnswers_of_say hon (if_pos hreach), dbgAnswers_of_say hon (if_neg hreach)⟩

theorem dbgacc_readOtp (hreach : s.live.reach = .aPlus ∨ s.live.reach = .f) (lv : Fin 3) (a : Fin 512) :
    Gives (exec (.dbgacc (.readOtp lv a)) s) (fun t => t.live.pins.dbgAns = .ok ∧
      t.live.pins.dbgOut = leBytes (s.live.fuseRead a lv).read.toNat 5 ∧ t.live.sec = s.live.sec) := by
  have hsay : s.live.dbgAccess s.dbgNewest (.readOtp lv a) = s.live.dbgSay .ok (leBytes (s.live.fuseRead a lv).read.toNat 5) :=
    if_pos (by simpa using hreach)
  refine ⟨_, exec_dbgacc hon _, ?_⟩
  rw [hsay]
  exact ⟨rfl, rfl, rfl⟩

section Full
variable (hreach : s.live.reach = .f)
include hreach

theorem dbgAnswers_lease (hlease : s.live.keeper.live = true) (n : Fin 8) :
    DbgAnswers s (.haltLane n) .lease ∧ DbgAnswers s (.stepLane n) .lease ∧ ∀ a v, DbgAnswers s (.writeMem .loop a v) .lease := by
  have hbar (f : Live → Live) : s.live.dbgLease f = s.live.dbgSay .lease [] := (if_neg (by simp [hreach])).trans (if_pos hlease)
  refine ⟨dbgAnswers_of_say hon (out := []) ?_, dbgAnswers_of_say hon (out := []) ?_, fun a v => dbgAnswers_of_say hon (out := []) ?_⟩ <;>
    simp [Live.dbgAccess, hbar, loopSpace]

theorem dbgacc_haltLane (hlease : s.live.keeper.live = false) (n : Fin 8) :
    Gives (exec (.dbgacc (.haltLane n)) s) (fun t => t.live.pins.dbgAns = .ok ∧ n.val ∈ t.live.sec.dbg.halted ∧
      t.live.loop = s.live.loop) := by
  have hsay : s.live.dbgAccess s.dbgNewest (.haltLane n) =
      (s.live.modDbg fun d => { d with halted := (d.halted.filter (· ≠ n.val)) ++ [n.val] }).dbgSay .ok [] :=
    (if_neg (by simp [hreach])).trans (if_neg (by simp [hlease]))
  refine ⟨_, exec_dbgacc hon _, ?_⟩
  rw [hsay]
  exact ⟨rfl, List.mem_append_right _ (List.mem_singleton.mpr rfl), rfl⟩

theorem dbgacc_resumeLane (n : Fin 8) :
    Gives (exec (.dbgacc (.resumeLane n)) s) (fun t => t.live.pins.dbgAns = .ok ∧ n.val ∉ t.live.sec.dbg.halted) := by
  have hsay : s.live.dbgAccess s.dbgNewest (.resumeLane n) =
      (s.live.modDbg fun d => { d with halted := d.halted.filter (· ≠ n.val), stepped := d.stepped.filter (· ≠ n.val) }).dbgSay .ok [] :=
    if_pos hreach
  refine ⟨_, exec_dbgacc hon _, ?_⟩
  rw [hsay]
  refine ⟨rfl, fun hmem => ?_⟩
  simp [Live.dbgSay, Live.setPins, Live.modDbg, Live.modSec] at hmem

end Full
end Access

/-- Settles O57: what each clause asks is what its command makes of the state that its premises describe. -/
theorem testPortAndDebugAccess : Obligations.TestPortAndDebugAccess := by
  intro s bits ps hmac m n
  refine ⟨fun hon => ⟨jtagIdcode_gives hon, jtagBypass_gives hon bits, jtagSamplePreload_gives hon ps bits,
    jtagExtest_honoured hon bits, fun _ => jtagExtest_bypasses hon bits, fun hreset => ?_, dbgAnswers_refused_of_none hon,
    fun hreach => ⟨fun hlease => dbgAnswers_lease hon hreach hlease n, fun hlease => dbgacc_haltLane hon hreach hlease n,
      dbgacc_resumeLane hon hreach n⟩,
    fun hreach _ => dbgAnswers_refused_of_not_full hon hreach n, fun lv a hreach => dbgacc_readOtp hon hreach lv a⟩,
    trstLow_gives, fun at_ hlock => ⟨dbgauthLockEnd_gives hlock, dbgauthLockEnd_early hlock⟩⟩
  refine ⟨dbgauth_nonce hon hreset, dbgauth_close hon hreset, dbgauth_barred hon hreset m hmac, fun hup hunlocked => ⟨fun hkey => ?_, fun hkey => ?_⟩⟩
  · exact dbgauth_opens hon hreset hup hunlocked ((s.live.dbgSigned_iff m hmac).mpr hkey)
  · exact dbgauth_fails hon hreset hup hunlocked (Bool.eq_false_iff.mpr fun h => hkey ((s.live.dbgSigned_iff m hmac).mp h))

end Sys2Proof.Machine
end

section
/-! PROOFS. What a request that is served leaves of the controller before its operation, and what its reply leaves (R463, R467). -/
open Sys2Proof Sys2Proof.Machine
namespace Sys2Proof.Machine

/-! ## Counts -/

/-- Counters have counted, and nothing else is different. -/
def Live.JustCounted (l k : Live) : Prop := ∃ cs w, k = { l with recd := { l.recd with ctrs := cs }, w1c := w }

theorem Live.JustCounted.refl (l : Live) : l.JustCounted l := ⟨l.recd.ctrs, l.w1c, rfl⟩

theorem Live.JustCounted.trans {l k j : Live} : l.JustCounted k → k.JustCounted j → l.JustCounted j
  | ⟨_, _, hk⟩, ⟨cs, w, hj⟩ => ⟨cs, w, by rw [hj, hk]⟩

theorem Live.JustCounted.of_recd {l k : Live} (hkeep : Live.less 68157440 k = Live.less 68157440 l)
    (hrecd : ∃ cs, k.recd = { l.recd with ctrs := cs }) : l.JustCounted k := by
  obtain ⟨cs, hcs⟩ := hrecd
  exact ⟨cs, k.w1c, (Live.eq_of_counted hkeep).trans (by rw [hcs])⟩

theorem Live.countWith_counted (l : Live) (n k : Nat) (a : CntAttr) : l.JustCounted (l.countWith n k a) := by
  refine .of_recd (by simp) ?_
  unfold Live.countWith
  split
  · exact l.bumpCtr_recd n k
  · split
    · exact l.bumpCtr_recd n k
    · exact ⟨_, rfl⟩
  · exact ⟨_, rfl⟩

theorem Live.count_counted (l : Live) (n : Nat) : l.JustCounted (l.count n) := l.countWith_counted n 1 {}

theorem Live.countStatus_counted (l : Live) (a : CntAttr) (st : Nat) : l.JustCounted (l.countStatus a st) := by
  unfold Live.countStatus
  split
  · exact l.countWith_counted 74 1 a
  · exact l.countWith_counted 73 1 a
  · exact l.countWith_counted 78 1 a
  · exact l.countWith_counted 77 1 a
  · exact .refl l

/-! ## A request that is taken -/

section Request
variable (l : Live) (q : Req)

/-- The messages' part when a request has been taken: the batch goes on, and the port holds the request. -/
def Live.takenMsgs : Msgs :=
  { l.msgs with batch := (l.batch (MsgHdr.port_ q.h)).tail,
                ports := tmod {} l.msgs.ports (MsgHdr.port_ q.h) fun p => { p with inbox := some q.frame } }

theorem Live.taken_eq : ∃ cs w, (l.setBatch (l.batch (MsgHdr.port_ q.h)).tail).takeReq q =
    { l with msgs := l.takenMsgs q, recd := { l.recd with ctrs := cs }, w1c := w } := by
  have harrive : ({ l with msgs := l.takenMsgs q } : Live).JustCounted ((l.setBatch (l.batch (MsgHdr.port_ q.h)).tail).arrive q q.frame) := by
    unfold Live.arrive
    dsimp only
    split
    · exact Live.countWith_counted _ _ _ _
    · split
      · exact Live.countWith_counted _ _ _ _
      · exact .refl _
  exact harrive.trans (Live.countWith_counted _ _ _ _)

/-- When the transaction was last used, once a request under a session has been heard (R479). -/
def Live.heardAt (n : Nat) : Nat := if l.img.txn.st = .opened ∧ l.img.txn.owner = n then l.now else l.img.txn.lastAt

theorem Live.touchSess_eq (n : Nat) : l.touchSess n =
    { l with msgs := { l.msgs with sess := tmod {} l.msgs.sess n fun k => { k with lastAt := l.now } },
             img := { l.img with txn := { l.img.txn with lastAt := l.heardAt n } } } := by
  unfold Live.touchSess Live.heardAt
  by_cases h : l.img.txn.st = .opened ∧ l.img.txn.owner = n
  · rw [if_pos h]
    exact if_pos (Bool.and_eq_true_iff.mpr ⟨decide_eq_true h.1, decide_eq_true h.2⟩)
  · rw [if_neg h]
    exact if_neg fun hn => h ⟨of_decide_eq_true (Bool.and_eq_true_iff.mp hn).1, of_decide_eq_true (Bool.and_eq_true_iff.mp hn).2⟩

/-- The messages' part when a session's request has passed its port's checks. -/
def Live.askedMsgs : Msgs :=
  { l.takenMsgs q with sess := tmod {} l.msgs.sess (MsgHdr.sess_ q.h) fun k => { k with lastAt := l.now } }

/-- The transaction's part then. -/
def Live.heardImg : Img := { l.img with txn := { l.img.txn with lastAt := l.heardAt (MsgHdr.sess_ q.h) } }

theorem Live.asked_eq : ∃ cs w, l.asked q =
    { l with msgs := l.askedMsgs q, img := l.heardImg q, recd := { l.recd with ctrs := cs }, w1c := w } := by
  obtain ⟨cs, w, htaken⟩ := l.taken_eq q
  refine ⟨cs, w, ?_⟩
  unfold Live.asked
  rw [htaken, Live.touchSess_eq]
  rfl

/-- The messages' part before the operation: the session keeps the request as its last (R467). -/
def Live.begunMsgs : Msgs :=
  { l.askedMsgs q with sess := tmod {} (l.askedMsgs q).sess (MsgHdr.sess_ q.h) fun k =>
      { k with last := some (q.h.seq, q.mop_, q.mcrc), reply := [] } }

theorem Live.begun_eq : ∃ cs w, l.begun q =
    { l with msgs := l.begunMsgs q, img := l.heardImg q, recd := { l.recd with ctrs := cs }, w1c := w } := by
  obtain ⟨cs, w, hasked⟩ := l.asked_eq q
  refine ⟨cs, w, ?_⟩
  unfold Live.begun
  rw [hasked]
  rfl

theorem Live.asked_keep : Live.less 68550656 (l.asked q) = Live.less 68550656 l := by
  obtain ⟨cs, w, h⟩ := l.asked_eq q
  rw [h]
  rfl

theorem Live.begun_keep : Live.less 68550656 (l.begun q) = Live.less 68550656 l := by
  obtain ⟨cs, w, h⟩ := l.begun_eq q
  rw [h]
  rfl

end Request

/-! ## A request that is served -/

section Served
variable {s : State} {q : Req} {check : Check} {run : State → Nat → Nat → Run} {st : Nat} {data : List Byte}
  (hs : Served s.live q.h q.mop q.cls q.body) (hmop : q.mop ≠ 2)
include hs hmop

/-- A check of the operation refuses the request. -/
theorem serve_refused (hcheck : check { s with live := s.live.asked q } q.h.sess.toNat (s.live.sess q.h.sess.toNat).cls = st) (hst : st ≠ 0) :
    s.serve q check run = { s with live := (s.live.asked q).answer q st [] } := by
  rw [State.serve_served s q check run hs hmop, if_neg (by rw [hcheck]; exact hst), hcheck]

/-- The operation runs and answers. -/
theorem serve_answered {t : State} (hcheck : check { s with live := s.live.asked q } q.h.sess.toNat (s.live.sess q.h.sess.toNat).cls = 0)
    (hrun : run { s with live := s.live.begun q } q.h.sess.toNat (s.live.sess q.h.sess.toNat).cls = (t, some (st, data))) :
    s.serve q check run = { t with live := t.live.answerKept q st data } := by
  rw [State.serve_served s q check run hs hmop, if_pos hcheck, hrun]

/-- The operation runs and answers nothing now. -/
theorem serve_silent {t : State} (hcheck : check { s with live := s.live.asked q } q.h.sess.toNat (s.live.sess q.h.sess.toNat).cls = 0)
    (hrun : run { s with live := s.live.begun q } q.h.sess.toNat (s.live.sess q.h.sess.toNat).cls = (t, none)) :
    s.serve q check run = t := by
  rw [State.serve_served s q check run hs hmop, if_pos hcheck, hrun]

/-- An operation on the controller's own part gives the request its reply, and nothing more but what the reply leaves. -/
theorem serve_onLive_gives {f : Live → Nat → Nat → Live × Nat × List Byte} {k : Live}
    (hf : f (s.live.begun q) q.h.sess.toNat (s.live.sess q.h.sess.toNat).cls = (k, st, data)) {P : State → Prop}
    (hP : P { s with live := k.answerKept q st data }) :
    Gives (.next (s.serve q noCheck (onLive f))) (fun t => Replied t q.h q.mop st data ∧ P t) := by
  have hrun : onLive f { s with live := s.live.begun q } q.h.sess.toNat (s.live.sess q.h.sess.toNat).cls = ({ s with live := k }, some (st, data)) := by
    unfold onLive
    dsimp only
    rw [hf]
  refine ⟨_, rfl, ?_⟩
  rw [serve_answered hs hmop rfl hrun]
  exact ⟨answerKept_replied s k q st data, hP⟩

end Served

theorem answerKept_sec (l : Live) (q : Req) (st : Nat) (data : List Byte) : (l.answerKept q st data).sec = l.sec := Live.same_sec (by simp)
theorem begun_sec (l : Live) (q : Req) : (l.begun q).sec = l.sec := Live.less_sec (l.begun_keep q) (by decide)

end Sys2Proof.Machine
end

section
/-! PROOFS. FUSE_CMD (R577, R579, R580, R582, R584). -/
open Sys2Proof Sys2Proof.Machine
namespace Sys2Proof.Machine

/-! ## Programming a word (R582) -/

section Burning
variable (l : Live) (a : Nat) (enc : BitVec 40) (env : FuseEnv)

theorem burnWord_sec : (l.burnWord a enc env).2.sec =
    { l.sec with otp := tput {} l.sec.otp a (burn enc env (l.otpw a)).word,
                 intent := if (burn enc env (l.otpw a)).result = 2 then some (a, enc) else none } :=
  Live.same_sec (x := (l.burnWord a enc env).2) (y := l.modSec fun s => { s with
    otp := tput {} s.otp a (burn enc env (l.otpw a)).word, intent := if (burn enc env (l.otpw a)).result = 2 then some (a, enc) else none })
    (by unfold Live.burnWord; simp)

theorem burnWord_otpw_same : (l.burnWord a enc env).2.otpw a = (burn enc env (l.otpw a)).word := by
  unfold Live.otpw
  rw [burnWord_sec]
  exact tget_tput_same _ _ _ _

theorem burnWord_otpw_other {m : Nat} (h : m ≠ a) : (l.burnWord a enc env).2.otpw m = l.otpw m := by
  unfold Live.otpw
  rw [burnWord_sec]
  exact tget_tput_other _ _ _ _ _ h

theorem lcNow_congr {k : Live} (h : ∀ i < 4, k.otpw (128 + i) = l.otpw (128 + i)) : k.lcNow = l.lcNow := by
  have hdata (i : Nat) (hi : i < 4) : k.otpData (128 + i) = l.otpData (128 + i) := by rw [Live.otpData, h i hi, Live.otpData]
  have hblank (i : Nat) (hi : i < 4) : k.otpBlank (128 + i) = l.otpBlank (128 + i) := by rw [Live.otpBlank, h i hi, Live.otpBlank]
  unfold Live.lcNow Live.runLen
  rw [show List.range 4 = [0, 1, 2, 3] from rfl]
  simp only [List.takeWhile, hdata 0 (by decide), hdata 1 (by decide), hdata 2 (by decide), hdata 3 (by decide), hblank 0 (by decide),
    hblank 1 (by decide), hblank 2 (by decide), hblank 3 (by decide)]

/-- The word is burnt, and the outcome is what the burning came to. -/
def Live.fuseBurned : Live × FuseOut :=
  let b := burn enc env (l.otpw a)
  ((l.burnWord a enc env).2, { result := b.result, reason := b.reason, pulses := b.pulses, read := b.word.norm })

theorem fuseRun_one : l.fuseRun env [(a, enc)] {} = l.fuseBurned a enc env := by
  unfold Live.fuseRun
  dsimp only
  rw [Nat.zero_add]
  split <;> rfl

end Burning

theorem fuseBurned_lcNow {l : Live} {a : Nat} (enc : BitVec 40) (env : FuseEnv) (hplain : a < 128 ∨ 131 < a) :
    (l.fuseBurned a enc env).1.lcNow = l.lcNow :=
  lcNow_congr l fun i hi => burnWord_otpw_other l a enc env (by omega)

/-- Where the lifecycle is as it was, no RETURNED step has been programmed, and nothing is zeroised. -/
theorem not_returned {l : Live} {r : Live × FuseOut} (env : FuseEnv) (h : r.1.lcNow = l.lcNow) :
    (if !decide (3 ≤ l.lcNow) && decide (3 ≤ r.1.lcNow) then r.1.returned env else r.1, r.2) = r := by
  rw [h, if_neg (by simp)]

theorem not_lifecycleWord {a : Nat} (hplain : a < 128 ∨ 131 < a) : (decide (128 ≤ a) && decide (a ≤ 131)) = false := by
  rw [Bool.and_eq_false_iff, decide_eq_false_iff_not, decide_eq_false_iff_not]
  omega

/-! ## The commands, one branch each -/

section Program
variable {l : Live} {c a : Nat} {val : Word} (env : FuseEnv)

theorem fuseProgram_of_class (h : l.fuseClass c a val = false) : l.fuseProgram c a val env = (l, l.fuseNo a 4 3) := if_pos (by simp [h])

section Admitted
variable (hclass : l.fuseClass c a val = true)
include hclass

theorem fuseProgram_of_locked (h : l.locked (regionOf a) = true) : l.fuseProgram c a val env = (l, l.fuseNo a 3 0) :=
  (if_neg (by simp [hclass])).trans (if_pos h)

section Unlocked
variable (hunlocked : l.locked (regionOf a) = false)
include hunlocked

theorem fuseProgram_of_pattern (h : l.fusePattern a val = false) : l.fuseProgram c a val env = (l, l.fuseNo a 4 7) :=
  (if_neg (by simp [hclass])).trans <| (if_neg (by simp [hunlocked])).trans (if_pos (by simp [h]))

section Pattern
variable (hpattern : l.fusePattern a val = true)
include hpattern

theorem fuseProgram_of_written (h : l.otpBlank a = false) : l.fuseProgram c a val env = (l, l.fuseNo a 4 4) :=
  (if_neg (by simp [hclass])).trans <| (if_neg (by simp [hunlocked])).trans <| (if_neg (by simp [hpattern])).trans (if_pos (by simp [h]))

section Plain
variable (hblank : l.otpBlank a = true) (hplain : a < 128 ∨ 131 < a)
include hblank hplain

theorem fuseProgram_of_barred (h : l.fuseBar ≠ 0) : l.fuseProgram c a val env = (l, l.fuseNo a 4 l.fuseBar) :=
  (if_neg (by simp [hclass])).trans <| (if_neg (by simp [hunlocked])).trans <| (if_neg (by simp [hpattern])).trans <|
    (if_neg (by simp [hblank])).trans <| (if_neg (by rw [not_lifecycleWord hplain]; exact Bool.false_ne_true)).trans (if_pos h)

theorem fuseProgram_burns (hbar : l.fuseBar = 0) : l.fuseProgram c a val env = l.fuseBurned a (otpEnc val) env := by
  have hwords : l.fuseWords a val = [(a, otpEnc val)] := by
    unfold Live.fuseWords
    rw [not_lifecycleWord hplain]
    rfl
  refine (if_neg (by simp [hclass])).trans <| (if_neg (by simp [hunlocked])).trans <| (if_neg (by simp [hpattern])).trans <|
    (if_neg (by simp [hblank])).trans <| (if_neg (by rw [not_lifecycleWord hplain]; exact Bool.false_ne_true)).trans <| (if_neg (by simp [hbar])).trans ?_
  rw [hwords, fuseRun_one]
  exact not_returned env (fuseBurned_lcNow _ env hplain)

end Plain
end Pattern
end Unlocked
end Admitted
end Program

section Reburn
variable {l : Live} {c a : Nat} {val : Word} (env : FuseEnv)

theorem fuseReburn_of_class (h : l.reburnClass c a val = false) : l.fuseReburn c a val env = (l, l.fuseNo a 4 3) := if_pos (by simp [h])

section Admitted
variable (hclass : l.reburnClass c a val = true) (hunlocked : l.locked (regionOf a) = false)
include hclass hunlocked

theorem fuseReburn_of_no_subset
    (h : (l.otpw a).norm &&& ~~~(otpEnc val) ≠ 0 ∨ ((l.otpw a).norm = 0 ∧ l.sec.intent ≠ some (a, otpEnc val))) :
    l.fuseReburn c a val env = (l, l.fuseNo a 4 5) :=
  (if_neg (by simp [hclass])).trans <| (if_neg (by simp [hunlocked])).trans (if_pos (by simpa using h))

theorem fuseReburn_burns (hsubset : (l.otpw a).norm &&& ~~~(otpEnc val) = 0)
    (hbegun : (l.otpw a).norm ≠ 0 ∨ l.sec.intent = some (a, otpEnc val)) (hbar : l.fuseBar = 0) (hplain : a < 128 ∨ 131 < a) :
    l.fuseReburn c a val env = l.fuseBurned a (otpEnc val) env := by
  have hsub : ¬((decide ((l.otpw a).norm &&& ~~~(otpEnc val) ≠ 0) ||
      (decide ((l.otpw a).norm = 0) && decide (l.sec.intent ≠ some (a, otpEnc val)))) = true) := by
    simpa [hsubset, Classical.or_iff_not_imp_left] using hbegun
  refine (if_neg (by simp [hclass])).trans <| (if_neg (by simp [hunlocked])).trans <| (if_neg hsub).trans <| (if_neg (by simp [hbar])).trans ?_
  rw [fuseRun_one]
  exact not_returned env (fuseBurned_lcNow _ env hplain)

end Admitted
end Reburn

section Lock
variable {l : Live} {c r k : Nat} (env : FuseEnv)

theorem fuseLock_of_none (h : lockWord r = none) : l.fuseLock c r env = (l, { result := 4, reason := 3 }) := by
  unfold Live.fuseLock
  rw [h]

variable (hword : lockWord r = some k)
include hword

theorem fuseLock_of_class (h : l.mayLock c r = false) : l.fuseLock c r env = (l, l.fuseNo k 4 3) := by
  unfold Live.fuseLock
  rw [hword]
  exact if_pos (by simp [h])

theorem fuseLock_of_locked (hclass : l.mayLock c r = true) (h : l.locked r = true) : l.fuseLock c r env = (l, l.fuseNo k 3 0) := by
  unfold Live.fuseLock
  rw [hword]
  exact (if_neg (by simp [hclass])).trans (if_pos h)

theorem fuseLock_burns (hclass : l.mayLock c r = true) (hunlocked : l.locked r = false) (hready : l.lockReady r = true) (hbar : l.fuseBar = 0) :
    l.fuseLock c r env = l.fuseBurned k (otpEnc (lockPattern r)) env := by
  unfold Live.fuseLock
  rw [hword]
  refine (if_neg (by simp [hclass])).trans <| (if_neg (by simp [hunlocked])).trans <| (if_neg (by simp [hready])).trans <|
    (if_neg (by simp [hbar])).trans ?_
  exact fuseRun_one l k _ env

end Lock

/-! ## The messages that carry them -/

/-- What a command meets of the controller under a request: the messages' part, the image's, the recorder and the overflow bits may
differ from what the request met. -/
def Live.underRequest (l : Live) (msgs : Msgs) (img : Img) (recd : Recorder) (w1c : Tbl Nat) : Live :=
  { l with msgs := msgs, img := img, recd := recd, w1c := w1c }

section UnderRequest
variable (l : Live) (M : Msgs) (I : Img) (R : Recorder) (W : Tbl Nat)

@[simp] theorem underRequest_mayProgram (c a : Nat) (val : Word) : (l.underRequest M I R W).mayProgram c a val = l.mayProgram c a val := rfl
@[simp] theorem underRequest_mayStep (c i : Nat) : (l.underRequest M I R W).mayStep c i = l.mayStep c i := rfl
@[simp] theorem underRequest_mayLock (c r : Nat) : (l.underRequest M I R W).mayLock c r = l.mayLock c r := rfl
@[simp] theorem underRequest_locked (r : Nat) : (l.underRequest M I R W).locked r = l.locked r := rfl
@[simp] theorem underRequest_lockReady (r : Nat) : (l.underRequest M I R W).lockReady r = l.lockReady r := rfl
@[simp] theorem underRequest_fuseBar : (l.underRequest M I R W).fuseBar = l.fuseBar := rfl
@[simp] theorem underRequest_otpBlank (a : Nat) : (l.underRequest M I R W).otpBlank a = l.otpBlank a := rfl
@[simp] theorem underRequest_bootEntries : (l.underRequest M I R W).bootEntries = l.bootEntries := rfl
@[simp] theorem underRequest_fuseClass (c a : Nat) (val : Word) : (l.underRequest M I R W).fuseClass c a val = l.fuseClass c a val := by
  simp [Live.fuseClass]
@[simp] theorem underRequest_fusePattern (a : Nat) (val : Word) : (l.underRequest M I R W).fusePattern a val = l.fusePattern a val := by
  rw [Live.fusePattern, Live.fusePattern, underRequest_bootEntries]
@[simp] theorem underRequest_reburnClass (c a : Nat) (val : Word) : (l.underRequest M I R W).reburnClass c a val = l.reburnClass c a val := by
  simp [Live.reburnClass]

end UnderRequest

section Carried
variable {s : State} {h : MsgHdr} {body : List Byte} {g : Live → Nat → Nat → Live × FuseOut}
  (hs : Served s.live h 0x80 2 body)
include hs

/-- A command that programs nothing. -/
theorem fuse_programs_nothing {o : FuseOut} (hg : ∀ M I R W, g (s.live.underRequest M I R W) h.sess.toNat (s.live.sess h.sess.toNat).cls =
    (s.live.underRequest M I R W, o)) :
    Gives (.next (s.serve (ownerReq h 0x80 body) noCheck (onLive fun l n c => fuseAnswer (g l n c))))
      (fun t => Replied t h 0x80 0 o.octets ∧ t.live.sec = s.live.sec) := by
  obtain ⟨cs, w, hbegun⟩ := s.live.begun_eq (ownerReq h 0x80 body)
  refine serve_onLive_gives (q := ownerReq h 0x80 body) hs (show 0x80 ≠ 2 by decide) (f := fun l n c => fuseAnswer (g l n c)) (k := s.live.begun (ownerReq h 0x80 body))
    ?_ (P := fun t => t.live.sec = s.live.sec) ?_
  · rw [hbegun]
    exact congrArg fuseAnswer (hg _ _ _ _)
  · exact (answerKept_sec _ _ _ _).trans (begun_sec _ _)

/-- A command that programs a word. -/
theorem fuse_programs {a : Nat} {enc : BitVec 40} {env : FuseEnv}
    (hg : ∀ M I R W, g (s.live.underRequest M I R W) h.sess.toNat (s.live.sess h.sess.toNat).cls = (s.live.underRequest M I R W).fuseBurned a enc env) :
    Gives (.next (s.serve (ownerReq h 0x80 body) noCheck (onLive fun l n c => fuseAnswer (g l n c)))) (fun t =>
      let b := burn enc env (s.live.otpw a)
      Replied t h 0x80 0 ({ result := b.result, reason := b.reason, pulses := b.pulses, read := b.word.norm } : FuseOut).octets ∧
        t.live.otpw a = b.word ∧ (∀ m, m ≠ a → t.live.otpw m = s.live.otpw m) ∧
        t.live.sec.intent = (if b.result = 2 then some (a, enc) else none)) := by
  obtain ⟨cs, w, hbegun⟩ := s.live.begun_eq (ownerReq h 0x80 body)
  refine serve_onLive_gives (q := ownerReq h 0x80 body) hs (show 0x80 ≠ 2 by decide) (f := fun l n c => fuseAnswer (g l n c))
    (k := ((s.live.underRequest (s.live.begunMsgs (ownerReq h 0x80 body)) (s.live.heardImg (ownerReq h 0x80 body))
      { s.live.recd with ctrs := cs } w).fuseBurned a enc env).1) ?_ ?_
  · rw [hbegun]
    exact congrArg fuseAnswer (hg _ _ _ _)
  · unfold Live.otpw
    rw [answerKept_sec]
    exact ⟨burnWord_otpw_same _ a enc env, fun m hm => burnWord_otpw_other _ a enc env hm, congrArg Sec.intent (burnWord_sec _ a enc env)⟩

end Carried

/-- Settles O56: each clause is one branch of its command, under a request that changes nothing the command looks at. -/
theorem otpCommandsFollowTheirTables : Obligations.OtpCommandsFollowTheirTables := by
  intro s h a val env
  refine ⟨fun hs => ⟨fun hclass => ?_, fun hclass => ⟨fun hlocked => ?_, fun hunlocked => ⟨fun hpattern => ?_, fun hpattern hwritten => ?_,
      fun hpattern hblank hplain => ⟨fun hbar => ?_, fun hbar => ?_⟩⟩⟩⟩,
    fun hs => ⟨fun hclass hunlocked => ⟨fun hno => ?_, fun hsubset hbegun hbar hplain => ?_⟩, fun hclass => ?_⟩,
    fun hs => ?_, fun hs => ?_, fun hs => ?_,
    fun r hs => ⟨fun hword => ?_, fun k hword => ⟨fun hclass => ?_, fun hclass hlocked => ?_, fun hclass hunlocked hready hbar => ?_⟩⟩⟩
  · exact fuse_programs_nothing hs fun _ _ _ _ => fuseProgram_of_class env (by simpa using hclass)
  · exact fuse_programs_nothing hs fun _ _ _ _ => fuseProgram_of_locked env (by simpa using hclass) (by simpa using hlocked)
  · exact fuse_programs_nothing hs fun _ _ _ _ => fuseProgram_of_pattern env (by simpa using hclass) (by simpa using hunlocked)
      (by simpa using hpattern)
  · exact fuse_programs_nothing hs fun _ _ _ _ => fuseProgram_of_written env (by simpa using hclass) (by simpa using hunlocked)
      (by simpa using hpattern) (by simpa using hwritten)
  · exact fuse_programs_nothing hs fun _ _ _ _ => fuseProgram_of_barred env (by simpa using hclass) (by simpa using hunlocked)
      (by simpa using hpattern) (by simpa using hblank) hplain hbar
  · exact fuse_programs hs fun _ _ _ _ => fuseProgram_burns env (by simpa using hclass) (by simpa using hunlocked)
      (by simpa using hpattern) (by simpa using hblank) hplain hbar
  · exact fuse_programs_nothing hs fun _ _ _ _ => fuseReburn_of_no_subset env (by simpa using hclass) (by simpa using hunlocked) hno
  · exact fuse_programs hs fun _ _ _ _ => fuseReburn_burns env (by simpa using hclass) (by simpa using hunlocked) hsubset hbegun hbar hplain
  · exact fuse_programs_nothing hs fun _ _ _ _ => fuseReburn_of_class env (by simpa using hclass)
  · exact fuse_programs_nothing hs (g := fun l _ _ => (l, l.fuseRead a 0)) fun _ _ _ _ => rfl
  · exact fuse_programs_nothing hs (g := fun l _ _ => (l, l.fuseRead a 1)) fun _ _ _ _ => rfl
  · exact fuse_programs_nothing hs (g := fun l _ _ => (l, l.fuseRead a 2)) fun _ _ _ _ => rfl
  · exact fuse_programs_nothing hs fun _ _ _ _ => fuseLock_of_none env hword
  · exact fuse_programs_nothing hs fun _ _ _ _ => fuseLock_of_class env hword (by simpa using hclass)
  · exact fuse_programs_nothing hs fun _ _ _ _ => fuseLock_of_locked env hword (by simpa using hclass) (by simpa using hlocked)
  · obtain ⟨t, hnext, -, hword, hother, -⟩ := fuse_programs (g := fun l _ c => l.fuseLock c r env) hs
      fun _ _ _ _ => fuseLock_burns env hword (by simpa using hclass) (by simpa using hunlocked) (by simpa using hready) hbar
    exact ⟨t, hnext, hword, hother⟩

end Sys2Proof.Machine
end

section
/-! PROOFS. Requests of a session that the recovery ROM serves, or that the session's pending AUTH waits for (R463, R466, R600). -/
open Sys2Proof Sys2Proof.Machine
namespace Sys2Proof.Machine

/-- A request reaches a free port in its turn, under an open or a pending session of that port; the session's state, its class and the
power state let its operation run. -/
structure Heard (l : Live) (q : Req) : Prop where
  takes : l.portTakes (MsgHdr.port_ q.h) q.frame = true
  served : l.serving (MsgHdr.port_ q.h) = .firmware ∨ l.serving (MsgHdr.port_ q.h) = .rom
  turn : l.turn (MsgHdr.port_ q.h) = true
  body : bodyOk q.mop q.body = true
  rom : l.pwr.recovery = true → romServes q.mop = true
  number : q.h.sess ≠ 0
  open_ : ((l.sess q.h.sess.toNat).opened || (l.sess q.h.sess.toNat).pendg) = true
  port : (l.sess q.h.sess.toNat).port = q.h.port
  fresh : (l.sess q.h.sess.toNat).repeats q = false
  admitted : (if (l.sess q.h.sess.toNat).pendg then q.mop ≠ 0x02 && q.mop ≠ 0x03
    else q.mop = 0x02 || (l.sess q.h.sess.toNat).cls < q.cls : Bool) = false
  power : l.pwr.st = .holdup → holdupServes q.mop q.body = true

section HeardRequest
variable {s : State} {q : Req}

/-- A port that firmware or the ROM serves takes the request in its turn. -/
theorem serve_in_turn (check : Check) (run : State → Nat → Nat → Run) (htakes : s.live.portTakes (MsgHdr.port_ q.h) q.frame = true)
    (hserved : s.live.serving (MsgHdr.port_ q.h) = .firmware ∨ s.live.serving (MsgHdr.port_ q.h) = .rom)
    (hturn : s.live.turn (MsgHdr.port_ q.h) = true) :
    s.serve q check run = ({ s with live := s.live.setBatch (s.live.batch (MsgHdr.port_ q.h)).tail } : State).serveFw q check run := by
  unfold State.serve
  rw [if_neg (by simp [htakes])]
  have hturned : s.serveTurn q check run =
      ({ s with live := s.live.setBatch (s.live.batch (MsgHdr.port_ q.h)).tail } : State).serveFw q check run := if_pos hturn
  rcases hserved with h | h <;> rw [h] <;> exact hturned

theorem serve_heard (run : State → Nat → Nat → Run) (hq : Heard s.live q) {t : State} {st : Nat} {data : List Byte}
    (hrun : run { s with live := s.live.begun q } q.h.sess.toNat (s.live.sess q.h.sess.toNat).cls = (t, some (st, data))) :
    s.serve q noCheck run = { t with live := t.live.answerKept q st data } := by
  have hnumber : q.h.sess.toNat ≠ 0 := fun h => hq.number (BitVec.eq_of_toNat_eq h)
  have hnum : MsgHdr.sess_ q.h = q.h.sess.toNat := rfl
  rw [serve_in_turn noCheck run hq.takes hq.served hq.turn]
  have hsess : ((s.live.setBatch (s.live.batch (MsgHdr.port_ q.h)).tail).takeReq q).sess q.h.sess.toNat = s.live.sess q.h.sess.toNat :=
    Live.takeReq_sess _ q _
  have hpwr : ((s.live.setBatch (s.live.batch (MsgHdr.port_ q.h)).tail).takeReq q).pwr = s.live.pwr := Live.takeReq_pwr _ q
  have hcls : ((s.live.asked q).sess q.h.sess.toNat).cls = (s.live.sess q.h.sess.toNat).cls := by
    refine (congrArg Session.cls (Live.touchSess_sess _ _)).trans ?_
    rw [hnum, hsess]
  have hrom : (!bodyOk q.mop q.body || (s.live.pwr.recovery && !romServes q.mop)) = false := by
    rw [hq.body]
    cases hrec : s.live.pwr.recovery with
    | false => rfl
    | true => rw [hq.rom hrec]; rfl
  have hup : ¬((decide (s.live.pwr.st = .holdup) && !holdupServes q.mop q.body) = true) := by
    intro h
    rw [Bool.and_eq_true, decide_eq_true_eq] at h
    rw [hq.power h.1] at h
    exact absurd h.2 Bool.false_ne_true
  have hport : ¬((!((s.live.sess q.h.sess.toNat).opened || (s.live.sess q.h.sess.toNat).pendg) ||
      decide ((s.live.sess q.h.sess.toNat).port ≠ MsgHdr.port_ q.h)) = true) := by
    rw [hq.open_, hq.port]
    simp [MsgHdr.port_]
  have hserveOp : ({ s with live := s.live.asked q } : State).serveOp q noCheck run = { t with live := t.live.answerKept q st data } := by
    unfold State.serveOp
    dsimp only
    simp only [hnum, hcls, Live.asked_pwr]
    refine (if_neg (fun h => h rfl)).trans <| (if_neg hup).trans ?_
    rw [if_neg hnumber]
    have hbegun : (s.live.asked q).modSess q.h.sess.toNat (fun k => { k with last := some (q.h.seq, q.mop_, q.mcrc), reply := [] }) =
        s.live.begun q := rfl
    rw [hbegun, hrun]
  unfold State.serveFw
  dsimp only
  rw [hnum, hsess, hpwr, if_neg (by rw [hrom]; exact Bool.false_ne_true), if_neg hnumber,
    if_neg hport, if_neg (by rw [hq.fresh]; exact Bool.false_ne_true), if_neg (by rw [hq.admitted]; exact Bool.false_ne_true)]
  exact hserveOp

end HeardRequest

end Sys2Proof.Machine
end

section
/-! PROOFS. Update packages: staged, sealed, armed and confirmed, and the recovery ROM (R590 to R600). -/
open Sys2Proof Sys2Proof.Machine
namespace Sys2Proof.Machine

/-! ## The update state and its record (R603) -/

section WithUpdate
variable (l : Live) (f : Live → Live)

theorem withUpdate_sec : (l.withUpdate f).sec = (f l).sec := Live.same_sec (by simp [Live.withUpdate])
theorem withUpdate_pwr : (l.withUpdate f).pwr = (f l).pwr := Live.same_pwr (by simp [Live.withUpdate])
theorem withUpdate_moor : (l.withUpdate f).moor = (f l).moor := Live.same_moor (by simp [Live.withUpdate])

end WithUpdate

theorem setBoot_bootRec (l : Live) (f : BootRec → BootRec) : (l.setBoot f).bootRec = { f l.bootRec with seq := (f l.bootRec).seq + 1 } := rfl

/-- With staging under way, dropping it empties it and keeps its reason (R590). -/
theorem stgDrop_stg {l : Live} (h : l.sec.stg.state ≠ 0) : l.stgDrop.sec.stg = { reason := l.sec.stg.reason } := by
  unfold Live.stgDrop
  rw [if_neg h, withUpdate_sec]
  rfl

/-! ## UPDATE_BLOCK (R590, R591) -/

section Block
variable {l : Live} {n off : Nat} {crc : Word} {data : List Byte}

theorem blockReply_eq (st why : Nat) :
    l.blockReply st why = (l.stgReason why, st, leBytes l.sec.stg.bytes.length 4 ++ [BitVec.ofNat 8 why]) := rfl

theorem updateBlock_of_other (h : l.sec.stg.state = 1 ∨ l.sec.stg.state = 2) (howner : l.sec.stg.owner ≠ n) :
    l.updateBlock n off crc data = (l, 0x01, leBytes l.sec.stg.bytes.length 4 ++ [0]) :=
  if_pos (by simpa [howner] using h)

section Mine
variable (hmine : l.sec.stg.state = 0 ∨ (l.sec.stg.state = 1 ∧ l.sec.stg.owner = n))
include hmine

theorem not_staged_by_other : ¬(((decide (l.sec.stg.state = 1) || decide (l.sec.stg.state = 2)) && decide (l.sec.stg.owner ≠ n)) = true) := by
  rcases hmine with h | ⟨h, howner⟩
  · simp [h]
  · simp [howner]

theorem updateBlock_of_crc (h : crc32 data ≠ crc.toNat) : l.updateBlock n off crc data = l.blockReply 0x0C 1 :=
  (if_neg (not_staged_by_other hmine)).trans (if_pos h)

section Sound
variable (hcrc : crc32 data = crc.toNat)
include hcrc

theorem updateBlock_not_begun (hst : l.sec.stg.state = 0) (hoff : off ≠ 0) : l.updateBlock n off crc data = l.blockReply 0x0C 2 :=
  (if_neg (not_staged_by_other hmine)).trans <| (if_neg (not_not.mpr hcrc)).trans <| (if_neg (by simp [hst])).trans
    (if_pos (by simp [hst, hoff]))

theorem updateBlock_repeated (hst : l.sec.stg.state = 1) (hoff : off ≠ l.sec.stg.bytes.length) (hlast : l.sec.stg.lastOff = off)
    (hlen : l.sec.stg.lastLen = data.length) : l.updateBlock n off crc data = l.blockReply 0 0 :=
  (if_neg (not_staged_by_other hmine)).trans <| (if_neg (not_not.mpr hcrc)).trans (if_pos (by simp [hst, hoff, hlast, hlen]))

theorem updateBlock_astray (hst : l.sec.stg.state = 1) (hoff : off ≠ l.sec.stg.bytes.length)
    (hnot : ¬(l.sec.stg.lastOff = off ∧ l.sec.stg.lastLen = data.length)) : l.updateBlock n off crc data = l.blockReply 0x0C 2 := by
  have hnew : ¬((decide (l.sec.stg.state = 1) && decide (l.sec.stg.lastOff = off) && decide (l.sec.stg.lastLen = data.length) &&
      decide (off ≠ l.sec.stg.bytes.length)) = true) := fun h => hnot (by simp at h; exact ⟨h.1.1.2, h.1.2⟩)
  exact (if_neg (not_staged_by_other hmine)).trans <| (if_neg (not_not.mpr hcrc)).trans <| (if_neg hnew).trans (if_pos (by simp [hst, hoff]))

/-- Where its place in the package and the flash allow it, the block is stored. -/
theorem updateBlock_stores
    (hplace : (l.sec.stg.state = 0 ∧ off = 0 ∧ (l.ustate = 0 ∨ l.ustate = 6 ∨ l.ustate = 7)) ∨
      (l.sec.stg.state = 1 ∧ off = l.sec.stg.bytes.length))
    (hroom : off + data.length ≤ 131072) (herase : l.flashErase = true) :
    l.updateBlock n off crc data = (((l.withUpdate fun l => l.stgPut n off data).count 126).blockReply 0 0) := by
  have hprogram : l.flashProgram = true := by
    simp only [Live.flashErase, Live.flashProgram, decide_eq_true_eq] at herase ⊢
    omega
  refine (if_neg (not_staged_by_other hmine)).trans <| (if_neg (not_not.mpr hcrc)).trans <| (if_neg ?_).trans <| (if_neg ?_).trans <|
    (if_neg (Nat.not_lt.mpr hroom)).trans (if_neg (by simp [hprogram, herase]))
  · rcases hplace with ⟨hst, -⟩ | ⟨-, hoff⟩
    · simp [hst]
    · simp [hoff]
  · rcases hplace with ⟨hst, hoff, hu⟩ | ⟨hst, hoff⟩
    · rcases hu with hu | hu | hu <;> simp [hst, hoff, hu]
    · simp [hst, hoff]

end Sound
end Mine

/-- What storing a block makes of staging. -/
theorem stores_sec : (((l.withUpdate fun l => l.stgPut n off data).count 126).blockReply 0 0).1.sec =
    { l.sec with stg := { state := 1, owner := n, bytes := if off = 0 then data else l.sec.stg.bytes ++ data, lastOff := off,
                          lastLen := data.length, kind := pkgKind (if off = 0 then data else l.sec.stg.bytes ++ data), reason := 0 } } := by
  have hsec : ((l.withUpdate fun l => l.stgPut n off data).count 126).sec = (l.stgPut n off data).sec :=
    (Live.same_sec (Live.count_keep _ _ _ (by decide))).trans (withUpdate_sec _ _)
  show ({ ((l.withUpdate fun l => l.stgPut n off data).count 126).sec with
    stg := { ((l.withUpdate fun l => l.stgPut n off data).count 126).sec.stg with reason := 0 } } : Sec) = _
  rw [hsec]
  rfl

theorem stores_reply : (((l.withUpdate fun l => l.stgPut n off data).count 126).blockReply 0 0).2 =
    (0, leBytes (if off = 0 then data else l.sec.stg.bytes ++ data).length 4 ++ [0]) := by
  have hbytes := congrArg (fun c : Sec => c.stg.bytes) (stores_sec (l := l) (n := n) (off := off) (data := data))
  rw [blockReply_eq] at hbytes ⊢
  exact congrArg (fun b : List Byte => ((0 : Nat), leBytes b.length 4 ++ [BitVec.ofNat 8 0])) hbytes

end Block

/-! ## UPDATE_SEAL (R594) -/

section Seal
variable {l : Live} {n : Nat}

theorem updateSeal_of_state (h : l.sec.stg.state ≠ 1) : l.updateSeal n = (l.stgReason 2, 0x0C, [2]) := if_pos h

theorem updateSeal_of_other (hst : l.sec.stg.state = 1) (howner : l.sec.stg.owner ≠ n) : l.updateSeal n = (l, 0x01, [0]) :=
  (if_neg (not_not.mpr hst)).trans (if_pos howner)

section Mine
variable (hst : l.sec.stg.state = 1) (howner : l.sec.stg.owner = n)
include hst howner

theorem updateSeal_seals (hok : l.pkgCheck l.sec.stg.bytes = 0) :
    ∃ k, l.updateSeal n = (k, 0, [0]) ∧ k.sec.stg.state = 2 ∧ k.sec.stg.bytes = l.sec.stg.bytes := by
  refine ⟨_, (if_neg (not_not.mpr hst)).trans <| (if_neg (not_not.mpr howner)).trans (if_pos hok), ?_, ?_⟩
  · rw [withUpdate_sec]
    rfl
  · rw [withUpdate_sec]
    show (l.countWith 125 (l.checkVerifies (l.pkgCheck l.sec.stg.bytes)) {}).sec.stg.bytes = _
    rw [Live.same_sec (Live.countWith_keep _ _ _ _ _ (by decide))]

theorem updateSeal_drops (hbad : l.pkgCheck l.sec.stg.bytes ≠ 0) :
    ∃ k, l.updateSeal n = (k, 0x0C, [BitVec.ofNat 8 (l.pkgCheck l.sec.stg.bytes)]) ∧ k.sec.stg.state = 0 ∧ k.sec.stg.bytes = [] ∧
      l.detailOf 0xC004 0xE001 (l.pkgCheck l.sec.stg.bytes) ∈ k.fc.details := by
  generalize hwhy : l.pkgCheck l.sec.stg.bytes = why at hbad ⊢
  have hsec : (l.countWith 125 (l.checkVerifies why) {}).sec = l.sec := Live.same_sec (Live.countWith_keep _ _ _ _ _ (by decide))
  have hstg : (((l.countWith 125 (l.checkVerifies why) {}).stgReason why).stgDrop).sec.stg = { reason := why } := by
    refine stgDrop_stg (l := (l.countWith 125 (l.checkVerifies why) {}).stgReason why) ?_
    show (l.countWith 125 (l.checkVerifies why) {}).sec.stg.state ≠ 0
    rw [hsec, hst]
    decide
  have hnow : (((l.countWith 125 (l.checkVerifies why) {}).stgReason why).stgDrop).now = l.now := Live.same_now (by simp)
  have hseal : l.updateSeal n =
      ((((l.countWith 125 (l.checkVerifies why) {}).stgReason why).stgDrop).raise 0xC004 0xE001 why, 0x0C, [BitVec.ofNat 8 why]) := by
    unfold Live.updateSeal
    dsimp only
    rw [if_neg (not_not.mpr hst), if_neg (not_not.mpr howner), hwhy, if_neg hbad]
  refine ⟨_, hseal, ?_, ?_, ?_⟩
  · rw [Live.raise_sec, hstg]
  · rw [Live.raise_sec, hstg]
  · rw [← Live.detailOf_congr hnow]
    exact List.mem_append_right _ (List.mem_singleton.mpr rfl)

end Mine
end Seal

/-! ## UPDATE_ARM and UPDATE_CONFIRM (R595, R596) -/

/-- The package is armed: the boot record says so, with its length, and staging is free (R596). -/
def Live.armed (l : Live) : Live :=
  l.withUpdate fun k =>
    (k.setBoot fun r => { r with state := 3, plen := l.sec.stg.bytes.length }).modSec fun s => { s with stg := { s.stg with state := 0, reason := 0 } }

theorem Live.armed_bootRec (l : Live) :
    l.armed.bootRec = { l.bootRec with state := 3, plen := l.sec.stg.bytes.length, seq := l.bootRec.seq + 1 } := by
  unfold Live.bootRec Live.armed
  rw [withUpdate_sec]
  rfl

theorem Live.armed_pwr (l : Live) : l.armed.pwr = l.pwr := withUpdate_pwr _ _

section Arm
variable {l : Live} {n : Nat} (restart : Bool)

theorem updateArm_of_safe (h : l.fc.safe = true) : l.updateArm n restart = (l, 0x0C, [0]) := if_pos h

section NotSafe
variable (hsafe : l.fc.safe = false)
include hsafe

theorem updateArm_of_state (h : l.sec.stg.state ≠ 2) : l.updateArm n restart = (l.stgReason 2, 0x0C, [2]) :=
  (if_neg (by simp [hsafe])).trans (if_pos h)

section Sealed
variable (hst : l.sec.stg.state = 2)
include hst

theorem updateArm_of_other (howner : l.sec.stg.owner ≠ n) : l.updateArm n restart = (l, 0x01, [0]) :=
  (if_neg (by simp [hsafe])).trans <| (if_neg (not_not.mpr hst)).trans (if_pos howner)

section Mine
variable (howner : l.sec.stg.owner = n)
include howner

theorem updateArm_relays (hkind : pkgKind l.sec.stg.bytes = 2) : l.updateArm n restart = (l.relayOpen, 0, [0]) :=
  (if_neg (by simp [hsafe])).trans <| (if_neg (not_not.mpr hst)).trans <| (if_neg (not_not.mpr howner)).trans (if_pos hkind)

variable (hkind : pkgKind l.sec.stg.bytes ≠ 2)
include hkind

theorem updateArm_of_check {st why : Nat} (hcheck : l.armCheck restart = (st, why)) (hst' : st ≠ 0) :
    l.updateArm n restart = (l.stgReason why, st, [BitVec.ofNat 8 why]) := by
  refine (if_neg (by simp [hsafe])).trans <| (if_neg (not_not.mpr hst)).trans <| (if_neg (not_not.mpr howner)).trans <|
    (if_neg hkind).trans ?_
  dsimp only
  rw [hcheck]
  exact if_pos hst'

theorem updateArm_arms (hcheck : l.armCheck restart = (0, 0)) :
    ∃ k, l.updateArm n restart = (k, 0, [0]) ∧ k.bootRec.state = 3 ∧ k.bootRec.bact = l.bootRec.bact ∧
      k.pwr.restart = if restart then some 6 else l.pwr.restart := by
  have harm : l.updateArm n restart = (if restart then l.armed.modPwr fun p => { p with restart := some 6 } else l.armed, 0, [0]) := by
    refine (if_neg (by simp [hsafe])).trans <| (if_neg (not_not.mpr hst)).trans <| (if_neg (not_not.mpr howner)).trans <|
      (if_neg hkind).trans ?_
    dsimp only
    rw [hcheck]
    rfl
  refine ⟨_, harm, ?_⟩
  cases restart with
  | true => exact ⟨(congrArg BootRec.state l.armed_bootRec :), (congrArg BootRec.bact l.armed_bootRec :), rfl⟩
  | false => exact ⟨(congrArg BootRec.state l.armed_bootRec :), (congrArg BootRec.bact l.armed_bootRec :), (congrArg Pwr.restart l.armed_pwr :)⟩

end Mine
end Sealed
end NotSafe

theorem relayOpen_moor (l : Live) : l.relayOpen.moor.fwImage = pkgPayload l.sec.stg.bytes :=
  (congrArg Moor.fwImage (withUpdate_moor _ _)).trans rfl

theorem relayOpen_boot (l : Live) : l.relayOpen.bootRec.state = 4 := by
  show (Option.getD l.relayOpen.sec.boot {}).state = 4
  unfold Live.relayOpen
  rw [withUpdate_sec]
  rfl

end Arm

section Confirm
variable {l : Live} (env : FuseEnv)

theorem arvStep_boot (l : Live) : (l.arvStep env).sec.boot = l.sec.boot := by
  have hburn (a : Nat) (enc : BitVec 40) : (l.burnWord a enc env).2.sec.boot = l.sec.boot := by rw [burnWord_sec]
  have hend (k : Live) (g : Nat) :
      (if g ≤ k.arvN then k.modSec fun s => { s with arvGoal := none } else k.raiseOnce 0xC008 0xE001).sec.boot = k.sec.boot := by
    split
    · rfl
    · exact congrArg Sec.boot (Live.same_sec (by simp))
  unfold Live.arvStep
  split
  · rfl
  · refine (hend _ _).trans ?_
    split
    · rfl
    · exact hburn _ _

theorem arvSteps_boot (n : Nat) (l : Live) : (l.arvSteps env n).sec.boot = l.sec.boot := by
  induction n generalizing l with
  | zero => rfl
  | succ n ih => exact (ih _).trans (arvStep_boot env l)

theorem updateConfirm_refuses (h : l.ustate ≠ 5 ∨ l.sec.running ≠ some l.bootRec.bact) :
    l.updateConfirm env = (l.stgReason 2, 0x0C, [2]) := by
  unfold Live.updateConfirm
  split
  next b hrun => exact if_pos (by simpa [hrun] using h)
  next => rfl

theorem updateConfirm_confirms (hu : l.ustate = 5) (hrun : l.sec.running = some l.bootRec.bact) :
    ∃ k, l.updateConfirm env = (k, 0, [0]) ∧ k.bootRec.state = 6 ∧ k.bootRec.trial = 0 ∧ k.bootRec.bact = l.bootRec.bact := by
  have hboot : ∃ k, l.updateConfirm env = (k, 0, [0]) ∧
      k.sec.boot = (l.withUpdate fun l => l.setBoot fun r => { r with state := 6, trial := 0 }).sec.boot := by
    unfold Live.updateConfirm
    rw [hrun]
    refine ⟨_, if_neg (by simp [hu]), ?_⟩
    split
    · exact arvSteps_boot env 64 _
    · rfl
  obtain ⟨k, hk, hboot⟩ := hboot
  rw [withUpdate_sec] at hboot
  have hrec : k.bootRec = { l.bootRec with state := 6, trial := 0, seq := l.bootRec.seq + 1 } := by
    unfold Live.bootRec
    rw [hboot]
    rfl
  exact ⟨k, hk, by rw [hrec], by rw [hrec], by rw [hrec]⟩

end Confirm
end Sys2Proof.Machine
end

section
/-! PROOFS. RECOVERY (R600), and the messages that carry the update commands (Table 18.14, Table 18.16). -/
open Sys2Proof Sys2Proof.Machine
namespace Sys2Proof.Machine

/-! ## RECOVERY (R600) -/

section Recovery
variable {l : Live} {off : Nat} {crc : Word} {data : List Byte}

theorem recReply_eq (st why : Nat) :
    l.recReply st why = (l.stgReason why, st, [BitVec.ofNat 8 why, 0, 0, 0] ++ leBytes l.sec.recBytes.length 4) := rfl

theorem recoveryEnter_restarts (h : l.pwr.recovery = false) :
    l.recoveryEnter = (l.modPwr fun p => { p with restart := some 7 }).recReply 0 0 := if_neg (by simp [h])

section InRom
variable (hrom : l.pwr.recovery = true)
include hrom

theorem recoveryBlock_of_crc (h : crc32 data ≠ crc.toNat) : l.recoveryBlock off crc data = l.recReply 0x0C 1 :=
  (if_neg (by simp [hrom])).trans (if_pos h)

/-- The recovery ROM takes the octets up to now into the bank that it writes. -/
def Live.recStored (l : Live) (off : Nat) (data b : List Byte) : Live :=
  ((l.modSec fun s => { s with recBytes := b, recOff := off, recLen := data.length }).setBank l.recBank b).count 126

theorem recoveryBlock_stores (hcrc : crc32 data = crc.toNat) (hnext : off = l.sec.recBytes.length) (hroom : off + data.length ≤ 131072)
    (herase : l.flashErase = true) :
    l.recoveryBlock off crc data = (l.recStored off data (l.sec.recBytes ++ data)).recReply 0 0 := by
  have hprogram : l.flashProgram = true := by
    simp only [Live.flashErase, Live.flashProgram, decide_eq_true_eq] at herase ⊢
    omega
  have hbytes : (if off = 0 then data else l.sec.recBytes ++ data) = l.sec.recBytes ++ data := by
    split
    next h0 => rw [List.length_eq_zero_iff.mp (hnext.symm.trans h0), List.nil_append]
    next => rfl
  refine (if_neg (by simp [hrom])).trans <| (if_neg (not_not.mpr hcrc)).trans <| (if_neg (by simp [hnext])).trans <|
    (if_neg (by simp [hnext])).trans <| (if_neg (Nat.not_lt.mpr hroom)).trans <| (if_neg (by simp [hprogram, herase])).trans ?_
  dsimp only
  rw [hbytes]
  rfl

theorem recoveryAbort_empties : l.recoveryAbort = (l.modSec fun s => { s with recBytes := [], recOff := 0, recLen := 0 }).recReply 0 0 :=
  if_neg (by simp [hrom])

/-- The recovery ROM has verified the bank, and its octets are used up. -/
def Live.recChecked (l : Live) : Live :=
  (l.countWith 125 l.bankVerifies {}).modSec fun s => { s with recBytes := [], recOff := 0, recLen := 0 }

omit hrom in
theorem Live.recChecked_sec (l : Live) : l.recChecked.sec = { l.sec with recBytes := [], recOff := 0, recLen := 0 } :=
  congrArg (fun c : Sec => { c with recBytes := [], recOff := 0, recLen := 0 })
    (Live.same_sec (Live.countWith_keep l 125 l.bankVerifies {} _ (by decide)))

omit hrom in
theorem Live.recChecked_bankWhy (l : Live) (b : Bool) : (l.countWith 125 l.bankVerifies {}).bankWhy b = l.bankWhy b := by
  obtain ⟨cs, w, h⟩ := l.countWith_counted 125 l.bankVerifies {}
  rw [h]
  rfl

omit hrom in
theorem Live.recChecked_bankValid (l : Live) (b : Bool) : l.recChecked.bankValid b = l.bankValid b := by
  obtain ⟨cs, w, h⟩ := l.countWith_counted 125 l.bankVerifies {}
  unfold Live.recChecked
  rw [h]
  rfl

theorem recoveryFinish_refuses {why : Nat} (hwhy : l.bankWhy l.recBank = why) (hne : why ≠ 0) :
    l.recoveryFinish = l.recChecked.recReply 0x0C why := by
  unfold Live.recoveryFinish
  rw [if_neg (by simp [hrom])]
  dsimp only
  rw [l.recChecked_bankWhy, hwhy]
  exact if_pos hne

theorem recoveryFinish_restarts (hok : l.bankWhy l.recBank = 0) :
    l.recoveryFinish = ((l.recChecked.withUpdate fun k => k.setBoot fun r => { r with
      bact := l.recBank, state := if l.bankValid (!l.recBank) then 5 else 6, trial := 0, plen := 0 }).modPwr fun p =>
        { p with restart := some 7 }).recReply 0 0 := by
  unfold Live.recoveryFinish
  rw [if_neg (by simp [hrom])]
  dsimp only
  rw [l.recChecked_bankWhy, hok]
  refine (if_neg (not_not.mpr rfl)).trans ?_
  rw [← l.recChecked_bankValid]
  rfl

end InRom
end Recovery

section Banks
variable (l : Live) (off : Nat) (data b : List Byte)

theorem Live.recStored_sec : (l.recStored off data b).sec =
    ((l.modSec fun s => { s with recBytes := b, recOff := off, recLen := data.length }).setBank l.recBank b).sec :=
  Live.same_sec (Live.count_keep _ _ _ (by decide))

theorem setBank_bank_same (bk : Bool) : (l.setBank bk b).bank bk = b := by cases bk <;> rfl
theorem setBank_bank_other (bk : Bool) : (l.setBank bk b).bank (!bk) = l.bank (!bk) := by cases bk <;> rfl

theorem bank_congr {l k : Live} (h : k.sec = l.sec) (bk : Bool) : k.bank bk = l.bank bk := by
  unfold Live.bank
  rw [h]

theorem Live.recStored_bank_same : (l.recStored off data b).bank l.recBank = b :=
  (bank_congr (l.recStored_sec off data b) _).trans (setBank_bank_same _ b _)

theorem Live.recStored_bank_other : (l.recStored off data b).bank (!l.recBank) = l.bank (!l.recBank) :=
  (bank_congr (l.recStored_sec off data b) _).trans (setBank_bank_other _ b _)

theorem Live.recStored_recBytes : (l.recStored off data b).sec.recBytes = b := by
  rw [l.recStored_sec]
  unfold Live.setBank
  cases l.recBank <;> rfl

end Banks

/-- A block that the recovery ROM stores stands behind the others, and the other bank is as it was. -/
theorem recoveryBlock_writes {l : Live} {off : Nat} {crc : Word} {data : List Byte} (hrom : l.pwr.recovery = true)
    (hcrc : crc32 data = crc.toNat) (hnext : off = l.sec.recBytes.length) (hroom : off + data.length ≤ 131072) (herase : l.flashErase = true) :
    ∃ k, l.recoveryBlock off crc data = (k, 0, [0, 0, 0, 0] ++ leBytes (l.sec.recBytes ++ data).length 4) ∧
      k.sec.recBytes = l.sec.recBytes ++ data ∧ k.bank l.recBank = l.sec.recBytes ++ data ∧ k.bank (!l.recBank) = l.bank (!l.recBank) := by
  have hbytes := l.recStored_recBytes off data (l.sec.recBytes ++ data)
  have hreply : (l.recStored off data (l.sec.recBytes ++ data)).recReply 0 0 =
      ((l.recStored off data (l.sec.recBytes ++ data)).stgReason 0, 0, [0, 0, 0, 0] ++ leBytes (l.sec.recBytes ++ data).length 4) := by
    rw [recReply_eq, hbytes]
    rfl
  exact ⟨_, (recoveryBlock_stores hrom hcrc hnext hroom herase).trans hreply, hbytes, l.recStored_bank_same _ _ _, l.recStored_bank_other _ _ _⟩

/-- A bank that is valid is named by the boot record, and a restart follows. -/
theorem recoveryFinish_names {l : Live} (hrom : l.pwr.recovery = true) (hok : l.bankWhy l.recBank = 0) :
    ∃ k, l.recoveryFinish = (k, 0, [0, 0, 0, 0] ++ leBytes 0 4) ∧ k.bootRec.bact = l.recBank ∧
      k.bootRec.state = (if l.bankValid (!l.recBank) then 5 else 6) ∧ k.pwr.restart = some 7 := by
  have hfinish := recoveryFinish_restarts hrom hok
  generalize hj : (l.recChecked.withUpdate fun k => k.setBoot fun r => { r with
      bact := l.recBank, state := if l.bankValid (!l.recBank) then 5 else 6, trial := 0, plen := 0 }) = j at hfinish
  have hsec : j.sec = (l.recChecked.setBoot fun r => { r with
      bact := l.recBank, state := if l.bankValid (!l.recBank) then 5 else 6, trial := 0, plen := 0 }).sec := by
    rw [← hj, withUpdate_sec]
  have hbytes : j.sec.recBytes = [] := by rw [hsec]; rfl
  have hboot : j.sec.boot = (l.recChecked.setBoot fun r => { r with
      bact := l.recBank, state := if l.bankValid (!l.recBank) then 5 else 6, trial := 0, plen := 0 }).sec.boot := by rw [hsec]
  refine ⟨(j.modPwr fun p => { p with restart := some 7 }).stgReason 0, hfinish.trans ((recReply_eq 0 0).trans ?_), ?_, ?_, rfl⟩
  · exact congrArg (fun b : List Byte => ((j.modPwr fun p => { p with restart := some 7 }).stgReason 0, 0, [0, 0, 0, 0] ++ leBytes b.length 4)) hbytes
  · show (j.sec.boot.getD {}).bact = _
    rw [hboot]
    rfl
  · show (j.sec.boot.getD {}).state = _
    rw [hboot]
    rfl

theorem recoveryFinish_rejects {l : Live} (hrom : l.pwr.recovery = true) (hbad : l.bankWhy l.recBank ≠ 0) :
    ∃ k, l.recoveryFinish = (k, 0x0C, [BitVec.ofNat 8 (l.bankWhy l.recBank), 0, 0, 0] ++ leBytes 0 4) ∧ k.sec.boot = l.sec.boot := by
  have hbytes : l.recChecked.sec.recBytes = [] := rfl
  refine ⟨_, (recoveryFinish_refuses hrom rfl hbad).trans ((recReply_eq _ _).trans rfl), ?_⟩
  show l.recChecked.sec.boot = _
  rw [l.recChecked_sec]

/-! ## The messages that carry them -/

section Carried
variable {s : State} {h : MsgHdr} {mop : Nat} {body : List Byte} {f : Live → Nat → Nat → Live × Nat × List Byte} {st : Nat} {data : List Byte}
  (P : Sec → Pwr → Moor → Fc → Prop)

/-- The operation answers this, under any request that the controller meets as `s` has it, and leaves these parts so. -/
def Answers (s : State) (h : MsgHdr) (f : Live → Nat → Nat → Live × Nat × List Byte) (st : Nat) (data : List Byte)
    (P : Sec → Pwr → Moor → Fc → Prop) : Prop :=
  ∀ M x R W, ∃ k, f (s.live.underRequest M { s.live.img with txn := x } R W) h.sess.toNat (s.live.sess h.sess.toNat).cls = (k, st, data) ∧
    P k.sec k.pwr k.moor k.fc

theorem answerKept_parts {k : Live} (q : Req) (hP : P k.sec k.pwr k.moor k.fc) :
    P (k.answerKept q st data).sec (k.answerKept q st data).pwr (k.answerKept q st data).moor (k.answerKept q st data).fc := by
  rw [answerKept_sec, show (k.answerKept q st data).pwr = k.pwr from Live.same_pwr (by simp),
    show (k.answerKept q st data).moor = k.moor from Live.same_moor (by simp), show (k.answerKept q st data).fc = k.fc from Live.same_fc (by simp)]
  exact hP

theorem update_gives (hs : Served s.live h mop 2 body) (hmop : mop ≠ 2) (hf : Answers s h f st data P) :
    Gives (.next (s.serve (ownerReq h mop body) noCheck (onLive f)))
      (fun t => Replied t h mop st data ∧ P t.live.sec t.live.pwr t.live.moor t.live.fc) := by
  obtain ⟨cs, w, hbegun⟩ := s.live.begun_eq (ownerReq h mop body)
  obtain ⟨k, hk, hP⟩ := hf (s.live.begunMsgs (ownerReq h mop body))
    { s.live.img.txn with lastAt := s.live.heardAt (MsgHdr.sess_ h) } { s.live.recd with ctrs := cs } w
  refine serve_onLive_gives (q := ownerReq h mop body) hs hmop (f := f) (k := k) ?_
    (P := fun t => P t.live.sec t.live.pwr t.live.moor t.live.fc) (answerKept_parts P _ hP)
  rw [hbegun]
  exact hk

theorem recovery_gives (hq : Heard s.live (ownerReq h mop body)) (hf : Answers s h f st data P) :
    Gives (.next (s.serve (ownerReq h mop body) noCheck (onLive f)))
      (fun t => Replied t h mop st data ∧ P t.live.sec t.live.pwr t.live.moor t.live.fc) := by
  obtain ⟨cs, w, hbegun⟩ := s.live.begun_eq (ownerReq h mop body)
  obtain ⟨k, hk, hP⟩ := hf (s.live.begunMsgs (ownerReq h mop body))
    { s.live.img.txn with lastAt := s.live.heardAt (MsgHdr.sess_ h) } { s.live.recd with ctrs := cs } w
  have hrun : onLive f { s with live := s.live.begun (ownerReq h mop body) } h.sess.toNat (s.live.sess h.sess.toNat).cls =
      ({ s with live := k }, some (st, data)) := by
    unfold onLive
    dsimp only
    rw [hbegun]
    exact congrArg (fun r : Live × Nat × List Byte => (({ s with live := r.1 } : State), some r.2)) hk
  refine ⟨_, rfl, ?_⟩
  rw [serve_heard (onLive f) hq hrun]
  exact ⟨answerKept_replied s k _ st data, answerKept_parts P _ hP⟩

end Carried

section UnderRequest
variable (l : Live) (M : Msgs) (I : Img) (x : Txn) (R : Recorder) (W : Tbl Nat)

@[simp] theorem underRequest_pkgCheck (b : List Byte) : (l.underRequest M I R W).pkgCheck b = l.pkgCheck b := rfl
@[simp] theorem underRequest_bankWhy (b : Bool) : (l.underRequest M I R W).bankWhy b = l.bankWhy b := rfl
@[simp] theorem underRequest_bankValid (b : Bool) : (l.underRequest M I R W).bankValid b = l.bankValid b := rfl
@[simp] theorem underRequest_updateStatus : (l.underRequest M I R W).updateStatus = l.updateStatus := rfl
@[simp] theorem underRequest_armCheck (restart : Bool) :
    (l.underRequest M { l.img with txn := x } R W).armCheck restart = l.armCheck restart := by
  unfold Live.armCheck
  rfl

end UnderRequest

/-- A block that an update message carries has at most 224 octets (Table 18.16). -/
theorem updateBlock_data_le {off crc : Nat} {data : List Byte} (h : bodyOk 0x70 (leBytes off 4 ++ leBytes crc 4 ++ data) = true) :
    data.length ≤ 224 := by
  have hlen : (leBytes off 4 ++ leBytes crc 4 ++ data).length = 8 + data.length := by simp [leBytes]; omega
  simp only [bodyOk, hlen, blockLen] at h
  simp at h
  omega

theorem recoveryBlock_data_le {off crc : Nat} {data : List Byte}
    (h : bodyOk 0x7F ([1, 0, 0, 0] ++ leBytes off 4 ++ leBytes crc 4 ++ data) = true) : data.length ≤ 224 := by
  have hlen : ([1, 0, 0, 0] ++ leBytes off 4 ++ leBytes crc 4 ++ data).length = 12 + data.length := by simp [leBytes]; omega
  have hhead : oct ([1, 0, 0, 0] ++ leBytes off 4 ++ leBytes crc 4 ++ data) 0 = 1 := rfl
  simp only [bodyOk, hhead, hlen, blockLen] at h
  simp at h
  omega

/-! ## The commands under their requests -/

section Clauses
variable {s : State} {h : MsgHdr} {off crc : Word} {data : List Byte}

section Blocks
variable (hs : Served s.live h 0x70 2 (leBytes off.toNat 4 ++ leBytes crc.toNat 4 ++ data))
include hs

/-- A block that is not stored leaves what staging holds. -/
theorem updateBlock_leaves {st why : Nat}
    (hreply : ∀ M x R W, (s.live.underRequest M { s.live.img with txn := x } R W).updateBlock h.sess.toNat off.toNat crc data =
      (s.live.underRequest M { s.live.img with txn := x } R W).blockReply st why) :
    Gives (exec (.updateBlock h off crc data) s) (fun t =>
      Replied t h 0x70 st (leBytes s.live.sec.stg.bytes.length 4 ++ [BitVec.ofNat 8 why]) ∧
        t.live.sec.stg.bytes = s.live.sec.stg.bytes ∧ t.live.sec.stg.state = s.live.sec.stg.state) :=
  update_gives (fun sec _ _ _ => sec.stg.bytes = s.live.sec.stg.bytes ∧ sec.stg.state = s.live.sec.stg.state) hs (by decide)
    fun M x R W => ⟨_, (hreply M x R W).trans (blockReply_eq st why), rfl, rfl⟩

/-- A block that is stored stands behind the others, or first. -/
theorem updateBlock_takes {b : List Byte} (hb : (if off.toNat = 0 then data else s.live.sec.stg.bytes ++ data) = b)
    (hstore : ∀ M x R W, (s.live.underRequest M { s.live.img with txn := x } R W).updateBlock h.sess.toNat off.toNat crc data =
      ((((s.live.underRequest M { s.live.img with txn := x } R W).withUpdate fun l =>
        l.stgPut h.sess.toNat off.toNat data).count 126).blockReply 0 0)) :
    Gives (exec (.updateBlock h off crc data) s) (fun t => Replied t h 0x70 0 (leBytes b.length 4 ++ [0]) ∧
      t.live.sec.stg.bytes = b ∧ t.live.sec.stg.state = 1 ∧ t.live.sec.stg.owner = h.sess.toNat ∧ t.live.sec.otp = s.live.sec.otp) := by
  refine update_gives (fun sec _ _ _ => sec.stg.bytes = b ∧ sec.stg.state = 1 ∧ sec.stg.owner = h.sess.toNat ∧ sec.otp = s.live.sec.otp)
    hs (by decide) fun M x R W => ⟨_, (hstore M x R W).trans (Prod.ext rfl (stores_reply.trans ?_)), ?_⟩
  · exact congrArg (fun b : List Byte => ((0 : Nat), leBytes b.length 4 ++ [0])) hb
  · rw [stores_sec]
    exact ⟨hb, rfl, rfl, rfl⟩

end Blocks
section Seals
variable (hs : Served s.live h 0x71 2 [])
include hs

theorem updateSeal_gives (hst : s.live.sec.stg.state = 1) (howner : s.live.sec.stg.owner = h.sess.toNat) :
    Gives (exec (.updateSeal h) s) (fun t => if s.live.pkgCheck s.live.sec.stg.bytes = 0 then
        Replied t h 0x71 0 [0] ∧ t.live.sec.stg.state = 2 ∧ t.live.sec.stg.bytes = s.live.sec.stg.bytes
      else Replied t h 0x71 0x0C [BitVec.ofNat 8 (s.live.pkgCheck s.live.sec.stg.bytes)] ∧ t.live.sec.stg.state = 0 ∧
        t.live.sec.stg.bytes = [] ∧ s.live.detailOf 0xC004 0xE001 (s.live.pkgCheck s.live.sec.stg.bytes) ∈ t.live.fc.details) := by
  by_cases hok : s.live.pkgCheck s.live.sec.stg.bytes = 0
  · simp only [if_pos hok]
    exact update_gives (fun sec _ _ _ => sec.stg.state = 2 ∧ sec.stg.bytes = s.live.sec.stg.bytes) hs (by decide)
      fun M x R W => updateSeal_seals (l := s.live.underRequest M { s.live.img with txn := x } R W) hst howner hok
  · simp only [if_neg hok]
    exact update_gives (fun sec _ _ fc => sec.stg.state = 0 ∧ sec.stg.bytes = [] ∧
        s.live.detailOf 0xC004 0xE001 (s.live.pkgCheck s.live.sec.stg.bytes) ∈ fc.details) hs (by decide)
      fun M x R W => updateSeal_drops (l := s.live.underRequest M { s.live.img with txn := x } R W) hst howner hok

end Seals

section Arms
variable {restart : Bool} (hs : Served s.live h 0x72 2 [if restart then 1 else 0])
include hs

theorem updateArm_gives (hsafe : s.live.fc.safe = false) (hst : s.live.sec.stg.state = 2) (howner : s.live.sec.stg.owner = h.sess.toNat) :
    (pkgKind s.live.sec.stg.bytes = 2 → Gives (exec (.updateArm h restart) s) (fun t => Replied t h 0x72 0 [0] ∧
      t.live.moor.fwImage = pkgPayload s.live.sec.stg.bytes ∧ t.live.bootRec.state = 4)) ∧
    (pkgKind s.live.sec.stg.bytes ≠ 2 → s.live.armCheck restart = (0, 0) → Gives (exec (.updateArm h restart) s) (fun t =>
      Replied t h 0x72 0 [0] ∧ t.live.bootRec.state = 3 ∧ t.live.bootRec.bact = s.live.bootRec.bact ∧
        t.live.pwr.restart = if restart then some 6 else s.live.pwr.restart)) ∧
    (∀ st why, pkgKind s.live.sec.stg.bytes ≠ 2 → s.live.armCheck restart = (st, why) → st ≠ 0 →
      Gives (exec (.updateArm h restart) s) (fun t => Replied t h 0x72 st [BitVec.ofNat 8 why] ∧ t.live.sec.boot = s.live.sec.boot ∧
        t.live.pwr = s.live.pwr)) := by
  refine ⟨fun hkind => ?_, fun hkind hcheck => ?_, fun st why hkind hcheck hne => ?_⟩
  · exact update_gives (fun sec _ moor _ => moor.fwImage = pkgPayload s.live.sec.stg.bytes ∧ (sec.boot.getD {}).state = 4) hs (by decide)
      fun M x R W => ⟨_, updateArm_relays (l := s.live.underRequest M { s.live.img with txn := x } R W) restart hsafe hst howner hkind,
        relayOpen_moor _, relayOpen_boot _⟩
  · exact update_gives (fun sec pwr _ _ => (sec.boot.getD {}).state = 3 ∧ (sec.boot.getD {}).bact = s.live.bootRec.bact ∧
        pwr.restart = if restart then some 6 else s.live.pwr.restart) hs (by decide)
      fun M x R W => updateArm_arms (l := s.live.underRequest M { s.live.img with txn := x } R W) restart hsafe hst howner hkind
        ((underRequest_armCheck _ _ _ _ _ _).trans hcheck)
  · exact update_gives (fun sec pwr _ _ => sec.boot = s.live.sec.boot ∧ pwr = s.live.pwr) hs (by decide)
      fun M x R W => ⟨_, updateArm_of_check (l := s.live.underRequest M { s.live.img with txn := x } R W) restart hsafe hst howner hkind
        ((underRequest_armCheck _ _ _ _ _ _).trans hcheck) hne, rfl, rfl⟩

end Arms

section Recoveries

theorem heard_by_rom {body : List Byte} (htakes : s.live.portTakes h.port (msgFrame (MsgHdr.msess h) 0x7F body) = true)
    (hrom : s.live.serving h.port = .rom) (hturn : s.live.turn h.port = true) (hpower : s.live.pwr.st ≠ .holdup) (hnumber : h.sess ≠ 0)
    (hopened : (s.live.sess h.sess.toNat).opened = true) (hauthed : (s.live.sess h.sess.toNat).pendg = false)
    (hport : (s.live.sess h.sess.toNat).port = h.port) (hcls : 2 ≤ (s.live.sess h.sess.toNat).cls)
    (hfresh : (s.live.sess h.sess.toNat).repeats { h := h, mop := 0x7F, body := body } = false) (hbody : bodyOk 0x7F body = true) :
    Heard s.live (ownerReq h 0x7F body) where
  takes := htakes
  served := .inr hrom
  turn := hturn
  body := hbody
  rom := fun _ => rfl
  number := hnumber
  open_ := by rw [show (ownerReq h 0x7F body).h = h from rfl, hopened, Bool.true_or]
  port := hport
  fresh := hfresh
  admitted := by
    rw [show (ownerReq h 0x7F body).h = h from rfl, hauthed]
    simp only [ownerReq, Bool.false_eq_true, if_false]
    simp
    omega
  power := fun h => absurd h hpower

theorem recovery_of_firmware {p : Nat} (hfw : s.live.serving p = .firmware) : s.live.pwr.recovery = false := by
  by_contra hno
  unfold Live.serving at hfw
  rw [if_pos (Bool.not_eq_false _ ▸ hno)] at hfw
  split at hfw <;> exact absurd hfw (by decide)

theorem recovery_of_rom (hrom : s.live.serving h.port = .rom) : s.live.pwr.recovery = true := by
  by_contra hno
  unfold Live.serving at hrom
  rw [if_neg hno] at hrom
  split at hrom
  · split at hrom <;> exact absurd hrom (by decide)
  · split at hrom <;> exact absurd hrom (by decide)

section InRom
variable {body : List Byte} (hrom : s.live.pwr.recovery = true) (hq : Heard s.live (ownerReq h 0x7F body))
include hrom hq

theorem recoveryBlock_gives (hbody : body = [1, 0, 0, 0] ++ leBytes off.toNat 4 ++ leBytes crc.toNat 4 ++ data) :
    (crc32 data ≠ crc.toNat → Gives (exec (.recoveryBlock h off crc data) s) (fun t =>
      Replied t h 0x7F 0x0C ([1, 0, 0, 0] ++ leBytes s.live.sec.recBytes.length 4) ∧ t.live.sec.recBytes = s.live.sec.recBytes)) ∧
    (crc32 data = crc.toNat → off.toNat = s.live.sec.recBytes.length → off.toNat + data.length ≤ 131072 → s.live.flashErase = true →
      Gives (exec (.recoveryBlock h off crc data) s) (fun t =>
        Replied t h 0x7F 0 ([0, 0, 0, 0] ++ leBytes (s.live.sec.recBytes ++ data).length 4) ∧
          t.live.sec.recBytes = s.live.sec.recBytes ++ data ∧ t.live.bank s.live.recBank = s.live.sec.recBytes ++ data ∧
          t.live.bank (!s.live.recBank) = s.live.bank (!s.live.recBank))) := by
  subst hbody
  refine ⟨fun hcrc => ?_, fun hcrc hnext hroom herase => ?_⟩
  · exact recovery_gives (fun sec _ _ _ => sec.recBytes = s.live.sec.recBytes) hq fun M x R W =>
      ⟨_, (recoveryBlock_of_crc (l := s.live.underRequest M { s.live.img with txn := x } R W) hrom hcrc).trans (recReply_eq _ _), rfl⟩
  · exact recovery_gives (fun sec _ _ _ => sec.recBytes = s.live.sec.recBytes ++ data ∧
        (if s.live.recBank then sec.bankB else sec.bankA) = s.live.sec.recBytes ++ data ∧
        (if (!s.live.recBank) then sec.bankB else sec.bankA) = s.live.bank (!s.live.recBank)) hq fun M x R W =>
      recoveryBlock_writes (l := s.live.underRequest M { s.live.img with txn := x } R W) hrom hcrc hnext hroom herase

theorem recoveryFinish_gives (hbody : body = [2]) : Gives (exec (.recoveryFinish h) s) (fun t =>
    if s.live.bankWhy s.live.recBank = 0 then Replied t h 0x7F 0 ([0, 0, 0, 0] ++ leBytes 0 4) ∧ t.live.bootRec.bact = s.live.recBank ∧
      t.live.bootRec.state = (if s.live.bankValid (!s.live.recBank) then 5 else 6) ∧ t.live.pwr.restart = some 7
    else Replied t h 0x7F 0x0C ([BitVec.ofNat 8 (s.live.bankWhy s.live.recBank), 0, 0, 0] ++ leBytes 0 4) ∧
      t.live.sec.boot = s.live.sec.boot) := by
  subst hbody
  by_cases hok : s.live.bankWhy s.live.recBank = 0
  · simp only [if_pos hok]
    exact recovery_gives (fun sec pwr _ _ => (sec.boot.getD {}).bact = s.live.recBank ∧
        (sec.boot.getD {}).state = (if s.live.bankValid (!s.live.recBank) then 5 else 6) ∧ pwr.restart = some 7) hq fun M x R W =>
      recoveryFinish_names (l := s.live.underRequest M { s.live.img with txn := x } R W) hrom hok
  · simp only [if_neg hok]
    exact recovery_gives (fun sec _ _ _ => sec.boot = s.live.sec.boot) hq fun M x R W =>
      recoveryFinish_rejects (l := s.live.underRequest M { s.live.img with txn := x } R W) hrom hok

theorem recoveryAbort_gives (hbody : body = [3]) : Gives (exec (.recoveryAbort h) s) (fun t =>
    Replied t h 0x7F 0 ([0, 0, 0, 0] ++ leBytes 0 4) ∧ t.live.sec.recBytes = [] ∧ t.live.sec.boot = s.live.sec.boot) := by
  subst hbody
  exact recovery_gives (fun sec _ _ _ => sec.recBytes = [] ∧ sec.boot = s.live.sec.boot) hq fun M x R W =>
    ⟨_, (recoveryAbort_empties (l := s.live.underRequest M { s.live.img with txn := x } R W) hrom).trans (recReply_eq 0 0), rfl, rfl⟩

end InRom

end Recoveries

end Clauses

/-- Settles O55: each clause is one branch of its command, under a request that changes nothing the command looks at. -/
theorem updatesAreStagedAndArmed : Obligations.UpdatesAreStagedAndArmed := by
  intro s h off crc data
  refine ⟨fun hs => ⟨fun hst howner => ?_, fun hmine => ⟨fun hcrc => ?_, fun hcrc => ⟨fun hst hu hoff herase => ?_, fun hst hoff => ?_,
      fun hst hoff hroom herase => ?_, fun hst hoff => ?_⟩⟩⟩,
    fun hs => ⟨fun hst => ?_, fun hst howner => ?_, fun hst howner => updateSeal_gives hs hst howner⟩,
    fun restart hs => ⟨fun hsafe => ?_, fun hsafe => ⟨fun hst => ?_, fun hst howner => ?_, fun hst howner => updateArm_gives hs hsafe hst howner⟩⟩,
    fun env hs => ⟨fun hno => ?_, fun hu hrun => ?_⟩, fun hs => ?_, fun hs => ?_,
    fun body htakes hrom hturn hpower hnumber hopened hauthed hport hcls hfresh hbody => ?_⟩
  · exact update_gives (fun sec _ _ _ => sec.stg.bytes = s.live.sec.stg.bytes ∧ sec.stg.state = s.live.sec.stg.state) hs (by decide)
      fun M x R W => ⟨_, updateBlock_of_other (l := s.live.underRequest M { s.live.img with txn := x } R W) hst howner, rfl, rfl⟩
  · exact updateBlock_leaves hs fun M x R W => updateBlock_of_crc hmine hcrc
  · have hzero : off.toNat = 0 := by rw [hoff]; rfl
    have hle := updateBlock_data_le hs.body
    exact updateBlock_takes hs (if_pos hzero) fun M x R W =>
      updateBlock_stores hmine hcrc (.inl ⟨hst, hzero, hu⟩) (by omega) herase
  · exact updateBlock_leaves hs fun M x R W => updateBlock_not_begun hmine hcrc hst fun h0 => hoff (BitVec.eq_of_toNat_eq h0)
  · have hbytes : (if off.toNat = 0 then data else s.live.sec.stg.bytes ++ data) = s.live.sec.stg.bytes ++ data := by
      split
      next h0 => rw [List.length_eq_zero_iff.mp (hoff.symm.trans h0), List.nil_append]
      next => rfl
    obtain ⟨t, hnext, hreply, hstored, hstate, howner, -⟩ := updateBlock_takes hs hbytes fun M x R W =>
      updateBlock_stores hmine hcrc (.inr ⟨hst, hoff⟩) hroom herase
    rw [List.length_append] at hreply
    exact ⟨t, hnext, hreply, hstored, hstate, howner⟩
  · by_cases hlast : s.live.sec.stg.lastOff = off.toNat ∧ s.live.sec.stg.lastLen = data.length
    · simp only [if_pos hlast]
      obtain ⟨t, hnext, hreply, hsame⟩ := updateBlock_leaves hs fun M x R W => updateBlock_repeated hmine hcrc hst hoff hlast.1 hlast.2
      exact ⟨t, hnext, hsame, hreply⟩
    · simp only [if_neg hlast]
      obtain ⟨t, hnext, hreply, hsame⟩ := updateBlock_leaves hs fun M x R W => updateBlock_astray hmine hcrc hst hoff hlast
      exact ⟨t, hnext, hsame, hreply⟩
  · obtain ⟨t, hnext, hreply, -⟩ := update_gives (fun _ _ _ _ => True) hs (by decide) (f := fun l n _ => l.updateSeal n)
      fun M x R W => ⟨_, updateSeal_of_state (l := s.live.underRequest M { s.live.img with txn := x } R W) hst, trivial⟩
    exact ⟨t, hnext, hreply⟩
  · obtain ⟨t, hnext, hreply, -⟩ := update_gives (fun _ _ _ _ => True) hs (by decide) (f := fun l n _ => l.updateSeal n)
      fun M x R W => ⟨_, updateSeal_of_other (l := s.live.underRequest M { s.live.img with txn := x } R W) hst howner, trivial⟩
    exact ⟨t, hnext, hreply⟩
  · exact update_gives (fun sec _ _ _ => sec = s.live.sec) hs (by decide)
      fun M x R W => ⟨_, updateArm_of_safe (l := s.live.underRequest M { s.live.img with txn := x } R W) restart hsafe, rfl⟩
  · obtain ⟨t, hnext, hreply, -⟩ := update_gives (fun _ _ _ _ => True) hs (by decide) (f := fun l n _ => l.updateArm n restart)
      fun M x R W => ⟨_, updateArm_of_state (l := s.live.underRequest M { s.live.img with txn := x } R W) restart hsafe hst, trivial⟩
    exact ⟨t, hnext, hreply⟩
  · obtain ⟨t, hnext, hreply, -⟩ := update_gives (fun _ _ _ _ => True) hs (by decide) (f := fun l n _ => l.updateArm n restart)
      fun M x R W => ⟨_, updateArm_of_other (l := s.live.underRequest M { s.live.img with txn := x } R W) restart hsafe hst howner, trivial⟩
    exact ⟨t, hnext, hreply⟩
  · exact update_gives (fun sec _ _ _ => sec.boot = s.live.sec.boot) hs (by decide)
      fun M x R W => ⟨_, updateConfirm_refuses (l := s.live.underRequest M { s.live.img with txn := x } R W) env hno, rfl⟩
  · exact update_gives (fun sec _ _ _ => (sec.boot.getD {}).state = 6 ∧ (sec.boot.getD {}).trial = 0 ∧
        (sec.boot.getD {}).bact = s.live.bootRec.bact) hs (by decide)
      fun M x R W => updateConfirm_confirms (l := s.live.underRequest M { s.live.img with txn := x } R W) env hu hrun
  · exact update_gives (fun sec _ _ _ => sec = s.live.sec) hs (by decide) (f := fun l _ _ => (l, 0, l.updateStatus))
      fun M x R W => ⟨_, rfl, rfl⟩
  · have hrec : s.live.pwr.recovery = false := recovery_of_firmware hs.firmware
    exact update_gives (fun _ pwr _ _ => pwr.restart = some 7) hs (by decide)
      fun M x R W => ⟨_, (recoveryEnter_restarts (l := s.live.underRequest M { s.live.img with txn := x } R W) hrec).trans (recReply_eq 0 0), rfl⟩
  · have hrec := recovery_of_rom hrom
    have hq := heard_by_rom htakes hrom hturn hpower hnumber hopened hauthed hport hcls hfresh hbody
    refine ⟨fun hblock => ?_, recoveryFinish_gives hrec hq, recoveryAbort_gives hrec hq⟩
    obtain ⟨hbad, hgood⟩ := recoveryBlock_gives (off := off) (crc := crc) (data := data) hrec hq hblock
    refine ⟨hbad, fun hcrc hoff hempty herase => ?_, fun hcrc hnext hroom herase => ?_⟩
    · have hle : data.length ≤ 224 := recoveryBlock_data_le (hblock ▸ hbody)
      have hzero : off.toNat = 0 := by rw [hoff]; rfl
      have h := hgood hcrc (by rw [hempty, hzero]; rfl) (by omega) herase
      rw [hempty] at h
      exact h
    · obtain ⟨t, ht, hreply, hbytes, hbank, -⟩ := hgood hcrc hnext hroom herase
      exact ⟨t, ht, hreply, hbytes, hbank⟩

end Sys2Proof.Machine
end

section
/-! PROOFS. The two-wire target and the host serial port (R491 to R500, R505, R506). -/
open Sys2Proof Sys2Proof.Machine
namespace Sys2Proof.Machine

/-! ## Counts leave the rest -/

section Counts
variable {l k : Live} (h : l.JustCounted k)
include h

theorem Live.JustCounted.mport (p : Nat) : k.mport p = l.mport p := by
  obtain ⟨cs, w, rfl⟩ := h
  rfl

theorem Live.JustCounted.ports : k.ports = l.ports := by
  obtain ⟨cs, w, rfl⟩ := h
  rfl

theorem Live.JustCounted.now : k.now = l.now := by
  obtain ⟨cs, w, rfl⟩ := h
  rfl

end Counts

theorem Live.countAlt_counted (l : Live) (n k : Nat) (isAlt : Bool) : l.JustCounted (l.countAlt n k isAlt) := by
  unfold Live.countAlt
  split
  · exact l.countWith_counted n k {}
  · exact .refl l

/-! ## Request octets that a port takes (R494, R506) -/

section Write
variable {l : Live} {port : Fin 3} {b : List Byte}

theorem reply_mport (l : Live) (p : Nat) (m o : Byte) (st : Nat) (data : List Byte) :
    (l.reply p m o st data).mport p = { l.mport p with reply := some (msgFrame m o (BitVec.ofNat 8 st :: data)), inbox := none } :=
  Live.modMport_mport_same _ _ _

theorem portOut_mport (l : Live) (p : Nat) (out : List Byte) (acks : List Bool) :
    (l.portOut p out acks).mport p = { l.mport p with out := out, acks := acks } := Live.modMport_mport_same _ _ _

theorem portWrite_busy (h : (l.mport port).inbox ≠ none ∨ l.pstat port = 1 ∨ l.pstat port = 2) :
    (l.portWrite port b).1.mport port = l.mport port := by
  have hbusy : ((l.mport port).inbox.isSome || decide (l.pstat port = 1) || decide (l.pstat port = 2)) = true := by
    simpa [Option.isSome_iff_ne_none, or_assoc] using h
  unfold Live.portWrite
  dsimp only
  rw [if_pos hbusy]
  exact (l.countWith_counted _ _ _).mport _

section Free
variable (hinbox : (l.mport port).inbox = none) (hready : l.pstat port ≠ 1) (hbusy : l.pstat port ≠ 2)
include hinbox hready hbusy

theorem portWrite_free : l.portWrite port b = match takeOctets b with
    | .nothing => (l, 0)
    | .bad n => (((l.countWith (if port.val = 1 then 81 else 85) (b.length - n) {}).countStatus { req := some port.val } 0x03).reply port 0 0 0x03 [], n)
    | .part => (l.torn port b, b.length)
    | .whole f =>
      let k := (l.countWith (if port.val = 1 then 80 else 84) 1 (l.reqAttr (frameReq port f))).modMport port fun m => { m with inbox := some f }
      (if f.length < b.length then k.countWith (if port.val = 1 then 81 else 85) (b.length - f.length) {} else k, f.length) :=
  if_neg (by simp [hinbox, hready, hbusy])

theorem portWrite_whole {f : List Byte} (h : takeOctets b = .whole f) :
    (l.portWrite port b).1.mport port = { l.mport port with inbox := some f } := by
  have hinside : ((l.countWith (if port.val = 1 then 80 else 84) 1 (l.reqAttr (frameReq port f))).modMport port fun m =>
      { m with inbox := some f }).mport port = { l.mport port with inbox := some f } := by
    rw [Live.modMport_mport_same, (l.countWith_counted _ _ _).mport]
  rw [portWrite_free hinbox hready hbusy, h]
  dsimp only
  split
  · exact ((Live.countWith_counted _ _ _ _).mport _).trans hinside
  · exact hinside

theorem portWrite_bad {m : Nat} (h : takeOctets b = .bad m) :
    ((l.portWrite port b).1.mport port).reply = some (msgFrame 0 0 [0x03]) := by
  rw [portWrite_free hinbox hready hbusy, h]
  dsimp only
  rw [reply_mport]
  rfl

theorem portWrite_part (h : takeOctets b = .part) (hlen : 4 ≤ b.length) :
    ((l.portWrite port b).1.mport port).reply = some (msgFrame (b.getD 2 0) (b.getD 3 0) [0x0B]) := by
  rw [portWrite_free hinbox hready hbusy, h]
  unfold Live.torn
  dsimp only
  rw [if_pos hlen, reply_mport]
  rfl

end Free
end Write

/-! ## Reply octets that a port gives (R492, R493) -/

section Read
variable {s : State} {p n : Nat} {out : List Byte}

/-- With no restart that waits, the octets are out, and a reply that has gone out whole is consumed. -/
theorem readDone_mport (hrestart : s.live.pwr.restart = none) :
    let t := ({ s with live := s.live.portOut p out [] } : State).readDone p n
    (t.live.mport p).out = out ∧
      (∀ f, (s.live.mport p).reply = some f → (t.live.mport p).reply = if f.length < n then none else some f) ∧
      ((s.live.mport p).reply = none → (t.live.mport p).reply = none) := by
  have hreply : ((s.live.portOut p out []).mport p).reply = (s.live.mport p).reply := by rw [portOut_mport]
  have hout : ((s.live.portOut p out []).mport p).out = out := by rw [portOut_mport]
  unfold State.readDone
  dsimp only
  split
  next f hf =>
    rw [hreply] at hf
    split
    next hlt =>
      unfold State.consume
      dsimp only
      have hrestart' : ((s.live.portOut p out []).modMport p fun m => { m with reply := none }).pwr.restart = none := hrestart
      rw [hrestart']
      dsimp only
      rw [Live.modMport_mport_same]
      refine ⟨hout, fun g hg => ?_, fun _ => rfl⟩
      rw [hf] at hg
      cases hg
      exact (if_pos hlt).symm
    next hle =>
      refine ⟨hout, fun g hg => ?_, fun hnone => ?_⟩
      · dsimp only
        rw [hreply, hg]
        rw [hf] at hg
        cases hg
        exact (if_neg hle).symm
      · exact hreply.trans hnone
  next hf =>
    rw [hreply] at hf
    refine ⟨hout, fun g hg => ?_, fun hnone => hreply.trans hnone⟩
    rw [hf] at hg
    cases hg

end Read

/-! ## The two-wire target (R491 to R500) -/

section Target
variable {s : State} {k : Bool} {b : List Byte} {n : Nat}

theorem twWrite_silent (h : s.live.twAcks k = false) : exec (.twWriteTransfer k b) s = .next s := by
  show execTwWriteTransfer k b s = _
  unfold execTwWriteTransfer
  exact upd_idle (if_pos (by simp [h]))

theorem twRead_silent (h : s.live.twAcks k = false) (last : Bool) : exec (.twReadTransfer k n last) s = .next s :=
  if_pos (by simp [h])

theorem twWrite_acked (h : s.live.twAcks k = true) : exec (.twWriteTransfer k b) s = s.upd fun l =>
    (l.portWrite 1 b).1.portOut 1 [] ((List.range b.length).map (· < (l.portWrite 1 b).2)) := by
  show execTwWriteTransfer k b s = _
  unfold execTwWriteTransfer
  refine upd_congr ?_
  exact if_neg (by simp [h])

theorem twRead_acked (h : s.live.twAcks k = true) (last : Bool) : exec (.twReadTransfer k n last) s = .next
    (({ s with live := s.live.portOut 1 ((s.live.statusByte 1 :: s.live.readOctets 1 (n - 1)).take n) [] } : State).readDone 1 (n - 1)) :=
  if_neg (by simp [h])

theorem twAddressMatch_holds (hst : s.live.pwr.st ≠ .off) (hreset : s.live.pwr.resetLow = false) (hdom : s.live.pwr.on.getLsbD 1 = false)
    (hmatch : s.live.ports.matchAt = none) (hready : s.live.ports.respReady = false) :
    Gives (exec .twAddressMatch s) (fun t => t.live.ports.matchAt = some s.live.now) := by
  have hcount := s.live.countAlt_counted 83 1 false
  show Gives (execTwAddressMatch s) _
  unfold execTwAddressMatch
  refine upd_gives_of_eq (k := { s.live.countAlt 83 1 false with
    ports := { (s.live.countAlt 83 1 false).ports with matchAt := some (s.live.countAlt 83 1 false).now } }) ?_ (congrArg some hcount.now)
  have hoff : s.live.dom 1 = false := hdom
  refine (if_neg (by simp [hoff, hst, hreset, hmatch])).trans ?_
  exact if_neg (by rw [hcount.ports, hready]; exact Bool.false_ne_true)

theorem twAddressMatch_on (hdom : s.live.pwr.on.getLsbD 1 = true) : exec .twAddressMatch s = .next s := by
  show execTwAddressMatch s = _
  unfold execTwAddressMatch
  exact upd_idle (if_pos (by simp [Live.dom, hdom]))

section Matching
variable {at_ : Nat} (hmatch : s.live.ports.matchAt = some at_)
include hmatch

theorem twWakeFail_early (hearly : s.live.now < at_ + 12000) : exec .twWakeFail s = .next s := by
  show execTwWakeFail s = _
  unfold execTwWakeFail
  refine upd_idle ?_
  simp only [hmatch]
  exact if_neg (Nat.not_le.mpr hearly)

theorem responderReady_gives (hearly : s.live.now < at_ + 12000) : Gives (exec .responderReady s) (fun t =>
    t.live.ports = { s.live.ports with matchAt := none, respReady := true } ∧ SameBut [.ports] s t) := by
  show Gives (execResponderReady s) _
  unfold execResponderReady
  refine upd_keeps_of_eq (m := 524288) (k := { s.live with ports := { s.live.ports with matchAt := none, respReady := true } })
    ?_ rfl [.ports] (by decide) rfl
  simp only [hmatch]
  exact if_pos hearly

theorem responderReady_late (hlate : at_ + 12000 ≤ s.live.now) : exec .responderReady s = .next s := by
  show execResponderReady s = _
  unfold execResponderReady
  refine upd_idle ?_
  simp only [hmatch]
  exact if_neg (Nat.not_lt.mpr hlate)

theorem twWakeFail_gives (hlate : at_ + 12000 ≤ s.live.now) :
    Gives (exec .twWakeFail s) (fun t => t.live.ports = { s.live.ports with matchAt := none }) := by
  show Gives (execTwWakeFail s) _
  unfold execTwWakeFail
  refine upd_gives_of_eq (k := ({ s.live with ports := { s.live.ports with matchAt := none } } : Live).countAlt 83 1 true) ?_
    (Live.countAlt_counted _ 83 1 true).ports
  simp only [hmatch]
  exact if_pos hlate

end Matching

theorem twSclTimeout_gives (hdom : s.live.pwr.on.getLsbD 1 = true) (hmode : fld (s.live.hw 0xD100 0) 31 30 ≠ 0) :
    Gives (exec .twSclTimeout s) (fun t => t.live.ports = { s.live.ports with sclto := true } ∧
      Raised s t [s.live.detailOf 0xD010 0xD100 1]) := by
  refine upd_gives_of_eq (f := fun l => l.twTimeout false)
    (k := (({ s.live with ports := { s.live.ports with sclto := true } } : Live).w1cSet 0xD100 1 31).raise 0xD010 0xD100 1) ?_ ⟨rfl, rfl⟩
  exact (if_neg (by simp [Live.dom, hdom, hmode])).trans (if_neg Bool.false_ne_true)

theorem twSdaTimeout_gives (hdom : s.live.pwr.on.getLsbD 1 = true) (hmode : fld (s.live.hw 0xD100 0) 31 30 ≠ 0) :
    Gives (exec .twSdaTimeout s) (fun t => t.live.ports = { s.live.ports with sdato := true } ∧
      Raised s t [s.live.detailOf 0xD011 0xD100 1]) := by
  refine upd_gives_of_eq (f := fun l => l.twTimeout true)
    (k := (({ s.live with ports := { s.live.ports with sdato := true } } : Live).w1cSet 0xD100 1 30).raise 0xD011 0xD100 1) ?_ ⟨rfl, rfl⟩
  exact (if_neg (by simp [Live.dom, hdom, hmode])).trans (if_pos rfl)

theorem twTimeout_off (hmode : fld (s.live.hw 0xD100 0) 31 30 = 0) : exec .twSclTimeout s = .next s ∧ exec .twSdaTimeout s = .next s := by
  have hoff (sda : Bool) : s.live.twTimeout sda = s.live := if_pos (by simp [hmode])
  exact ⟨upd_idle (f := fun l => l.twTimeout false) (hoff false), upd_idle (f := fun l => l.twTimeout true) (hoff true)⟩

end Target

/-! ## The host serial port (R505, R506) -/

section HostPort
variable {s : State} {b : List Byte} {n : Nat}

theorem hsp_off (h : s.live.hspUp = false) (c : Byte) : exec (.hspWriteMessage b) s = .next s ∧ exec (.hspReadMessage n) s = .next s ∧
    exec (.hspStatus n) s = .next s ∧ exec (.hspReservedCmd c n) s = .next s := by
  refine ⟨?_, if_pos (by simp [h]), ?_, ?_⟩
  · show execHspWriteMessage b s = _
    unfold execHspWriteMessage
    exact upd_idle (if_pos (by simp [h]))
  · show execHspStatus n s = _
    unfold execHspStatus
    exact upd_idle (if_neg (by simp [h]))
  · show execHspReservedCmd c n s = _
    unfold execHspReservedCmd
    exact upd_idle (if_pos (by simp [h]))

section Up
variable (h : s.live.hspUp = true)
include h

theorem hspWrite_up : exec (.hspWriteMessage b) s = s.upd fun l =>
    (l.portWrite 0 b).1.portOut 0 (List.replicate (b.length + 1) (l.statusByte 0)) [] := by
  show execHspWriteMessage b s = _
  unfold execHspWriteMessage
  refine upd_congr ?_
  exact if_neg (by simp [h])

theorem hspRead_up : exec (.hspReadMessage n) s = .next
    (({ s with live := s.live.portOut 0 (s.live.statusByte 0 :: s.live.readOctets 0 n) [] } : State).readDone 0 n) :=
  if_neg (by simp [h])

theorem hspStatus_gives : Gives (exec (.hspStatus n) s) (fun t =>
    t.live.mport 0 = { s.live.mport 0 with out := List.replicate (n + 1) (s.live.statusByte 0), acks := [] } ∧ SameBut [.msgs] s t) := by
  show Gives (execHspStatus n s) _
  unfold execHspStatus
  refine upd_keeps_of_eq (m := 262144) (k := s.live.portOut 0 (List.replicate (n + 1) (s.live.statusByte 0)) []) ?_ (by simp) [.msgs]
    (by decide) (portOut_mport _ _ _ _)
  exact if_pos h

theorem hspReserved_gives {c : Byte} (hc : c = 0 ∨ 3 < c.toNat) : Gives (exec (.hspReservedCmd c n) s) (fun t =>
    (t.live.mport 0).out = s.live.statusByte 0 :: List.replicate n 0xFF ∧ (t.live.mport 0).inbox = (s.live.mport 0).inbox ∧
      (t.live.mport 0).reply = (s.live.mport 0).reply) := by
  have hother : (decide (1 ≤ c.toNat) && decide (c.toNat ≤ 3)) = false := by
    rcases hc with rfl | hc
    · rfl
    · simp [Nat.not_le.mpr hc]
  show Gives (execHspReservedCmd c n s) _
  unfold execHspReservedCmd
  refine upd_gives_of_eq (k := (s.live.count 85).portOut 0 (s.live.statusByte 0 :: List.replicate n 0xFF) []) ?_ ?_
  · exact if_neg (by simp [h, hother])
  · dsimp only
    rw [portOut_mport, (s.live.count_counted 85).mport]
    exact ⟨rfl, rfl, rfl⟩

end Up
end HostPort

/-! ## Both ports -/

section Both
variable {s : State} {b : List Byte} {port : Fin 3} {out : List Byte} {acks : Live → List Bool} {e : Host.Outcome State Fault Refusal}
  (he : e = s.upd fun l => (l.portWrite port b).1.portOut port out (acks l))
include he

/-- A port that is free takes a message whole, or answers octets that are none. -/
theorem port_takes (hinbox : (s.live.mport port).inbox = none) (hready : s.live.pstat port ≠ 1) (hbusy : s.live.pstat port ≠ 2) :
    (∀ f, takeOctets b = .whole f → Gives e (fun t =>
      (t.live.mport port).inbox = some f ∧ (t.live.mport port).reply = (s.live.mport port).reply)) ∧
    (∀ m, takeOctets b = .bad m → Gives e (fun t => (t.live.mport port).reply = some (msgFrame 0 0 [0x03]))) ∧
    (takeOctets b = .part → 4 ≤ b.length → Gives e (fun t =>
      (t.live.mport port).reply = some (msgFrame (b.getD 2 0) (b.getD 3 0) [0x0B]))) := by
  refine ⟨fun f hf => gives_of_eq he (upd_gives_of_eq rfl ?_), fun m hm => gives_of_eq he (upd_gives_of_eq rfl ?_),
    fun hpart hlen => gives_of_eq he (upd_gives_of_eq rfl ?_)⟩
  · dsimp only
    rw [portOut_mport, portWrite_whole hinbox hready hbusy hf]
    exact ⟨rfl, rfl⟩
  · dsimp only
    rw [portOut_mport]
    exact portWrite_bad hinbox hready hbusy hm
  · dsimp only
    rw [portOut_mport]
    exact portWrite_part hinbox hready hbusy hpart hlen

/-- A port that holds a request or a reply takes no octet. -/
theorem port_busy (h : (s.live.mport port).inbox ≠ none ∨ s.live.pstat port = 1 ∨ s.live.pstat port = 2) :
    Gives e (fun t => (t.live.mport port).inbox = (s.live.mport port).inbox ∧ (t.live.mport port).reply = (s.live.mport port).reply) := by
  refine gives_of_eq he (upd_gives_of_eq rfl ?_)
  dsimp only
  rw [portOut_mport, portWrite_busy h]
  exact ⟨rfl, rfl⟩

end Both

/-- Settles O58: each clause is one branch of its transfer; what a count changes, no port sees. -/
theorem portsTakeAndGiveOctets : Obligations.PortsTakeAndGiveOctets := by
  intro s k b n
  refine ⟨fun h => ⟨twWrite_silent h, twRead_silent h⟩, fun h => ⟨?_, ?_, fun last hrestart => ?_⟩, hsp_off,
    fun h => ⟨?_, ?_, fun hrestart => ?_, hspStatus_gives h, fun c => hspReserved_gives h⟩,
    twAddressMatch_holds, twAddressMatch_on,
    fun at_ hmatch => ⟨fun hearly => ⟨twWakeFail_early hmatch hearly, responderReady_gives hmatch hearly⟩,
      fun hlate => ⟨responderReady_late hmatch hlate, twWakeFail_gives hmatch hlate⟩⟩,
    fun hdom hmode => ⟨twSclTimeout_gives hdom hmode, twSdaTimeout_gives hdom hmode⟩, twTimeout_off⟩
  · exact port_takes (port := 1) (acks := fun l => (List.range b.length).map (· < (l.portWrite 1 b).2)) (twWrite_acked h)
  · exact port_busy (port := 1) (acks := fun l => (List.range b.length).map (· < (l.portWrite 1 b).2)) (twWrite_acked h)
  · exact ⟨_, twRead_acked h last, readDone_mport hrestart⟩
  · exact port_takes (port := 0) (acks := fun _ => []) (hspWrite_up h)
  · exact port_busy (port := 0) (acks := fun _ => []) (hspWrite_up h)
  · exact ⟨_, hspRead_up h, readDone_mport hrestart⟩

end Sys2Proof.Machine
end

section
/-! PROOFS. Transfers of the initiator ports (R500 to R504). -/
open Sys2Proof Sys2Proof.Machine
namespace Sys2Proof.Machine

section Transfers
variable {s : State} {p : Fin 2}

/-! ## The port's idle, and a count -/

/-- With no setting that waits, the port's idle changes nothing. -/
theorem piIdle_of_none {l : Live} (h : l.ports.waiting = []) (n : Nat) : l.piIdle n = l := by
  have hports : ({ l.ports with waiting := [] } : Ports) = l.ports := by rw [← h]
  unfold Live.piIdle
  rw [h]
  exact congrArg (fun ps => { l with ports := ps }) hports

section Counted
variable {l k : Live} (h : l.JustCounted k)
include h

theorem Live.JustCounted.fc : k.fc = l.fc := by
  obtain ⟨cs, w, rfl⟩ := h
  rfl

theorem Live.JustCounted.therm : k.therm = l.therm := by
  obtain ⟨cs, w, rfl⟩ := h
  rfl

theorem Live.JustCounted.gauge : k.gauge = l.gauge := by
  obtain ⟨cs, w, rfl⟩ := h
  rfl

end Counted

/-- The transfer in hand is over. -/
def Live.piOver (l : Live) (n : Nat) : Live := l.modPi n fun k => { k with active := none, xfer := none }

theorem piOver_pi (l : Live) (n : Nat) : (l.piOver n).pi n = { l.pi n with active := none, xfer := none } := Live.modPi_pi_same _ _ _

theorem pi_congr {l k : Live} (h : k.ports = l.ports) (n : Nat) : k.pi n = l.pi n := by
  unfold Live.pi
  rw [h]

/-! ## A transfer starts (R501, R504) -/

theorem pi2cStart_idle {lost : Bool} (h : nextAsker (s.live.pi p).due = none ∨ (s.live.pi p).active ≠ none) :
    exec (.pi2cTransferStart p lost) s = .next s := by
  show execPi2cTransferStart p lost s = _
  unfold execPi2cTransferStart
  refine upd_idle ?_
  dsimp only
  split
  next => rfl
  next a ha =>
    have hactive : (s.live.pi p).active ≠ none := h.resolve_left (by simp [ha])
    exact if_pos (by simp [Option.isSome_iff_ne_none, hactive])

theorem pi2cStart_recovering {lost : Bool} (hon : s.live.piOn p = true) (hrec : (s.live.pi p).recovering = true) :
    exec (.pi2cTransferStart p lost) s = .next s := by
  show execPi2cTransferStart p lost s = _
  unfold execPi2cTransferStart
  refine upd_idle ?_
  dsimp only
  split
  next => rfl
  next a ha =>
    rw [hon, hrec]
    split
    · rfl
    · rfl

section Due
variable {a : Asker} (hdue : nextAsker (s.live.pi p).due = some a) (hruns : s.live.piRuns p = true) (hidle : (s.live.pi p).active = none)
include hdue hruns hidle

theorem pi2cStart_gives (hon : s.live.piOn p = true) (hrec : (s.live.pi p).recovering = false) :
    Gives (exec (.pi2cTransferStart p false) s) (fun t =>
      t.live.pi p = { s.live.pi p with due := (s.live.pi p).due.erase a, active := some a, xfer := s.live.askerXfer a } ∧ SameBut [.ports] s t) := by
  show Gives (execPi2cTransferStart p false s) _
  unfold execPi2cTransferStart
  refine upd_keeps_of_eq (m := 524288) (k := s.live.modPi p fun k => { k with due := k.due.erase a, active := some a, xfer := s.live.askerXfer a })
    ?_ (by simp) [.ports] (by decide) (Live.modPi_pi_same _ _ _)
  dsimp only
  rw [hdue]
  exact (if_neg (by simp [hruns, hidle])).trans <| (if_neg (by simp [hon])).trans <| (if_neg (by simp [hrec])).trans (if_neg Bool.false_ne_true)

theorem pi2cStart_disabled {w : Nat} (ha : a = .firmware w) (hoff : s.live.piOn p = false) (hwait : s.live.ports.waiting = []) (lost : Bool) :
    Gives (exec (.pi2cTransferStart p lost) s) (fun t =>
      t.live.pi p = { s.live.pi p with due := (s.live.pi p).due.erase a, xfer := none } ∧ t.live.gauge = s.live.gauge) := by
  subst ha
  have hcount := ((s.live.modPi p fun k => { k with due := k.due.erase (.firmware w) }).piOver p).count_counted 87
  generalize hk : (((s.live.modPi p fun k => { k with due := k.due.erase (.firmware w) }).piOver p).count 87) = k at hcount
  have hfail : (s.live.modPi p fun k => { k with due := k.due.erase (.firmware w) }).piFail p (.firmware w) = k := by
    refine Eq.trans ?_ (piIdle_of_none (l := k) (by rw [hcount.ports]; exact hwait) p)
    rw [← hk]
    rfl
  show Gives (execPi2cTransferStart p lost s) _
  unfold execPi2cTransferStart
  refine upd_gives_of_eq (k := k) ?_ ⟨?_, hcount.gauge⟩
  · dsimp only
    rw [hdue]
    exact (if_neg (by simp [hruns, hidle])).trans <| (if_pos (by simp [hoff])).trans hfail
  · dsimp only
    rw [pi_congr hcount.ports, piOver_pi, Live.modPi_pi_same, hidle]

end Due

/-! ## A transfer ends (R501, R503) -/

section Active
variable {a : Asker} (hactive : (s.live.pi p).active = some a) (hruns : s.live.piRuns p = true) 
include hactive hruns

theorem pi2cDone_done (data : List Byte) : exec (.pi2cTransferDone p (.done data)) s = s.upd fun l =>
    (((l.piOver p).count 86).askerDone a data).piIdle p := by
  show execPi2cTransferDone p (.done data) s = _
  unfold execPi2cTransferDone
  refine upd_congr ?_
  dsimp only
  rw [hactive]
  exact if_neg (by simp [hruns])

theorem pi2cDone_nack : exec (.pi2cTransferDone p .nack) s = s.upd fun l => (((l.piOver p).count 87).askerFail a).piIdle p := by
  show execPi2cTransferDone p .nack s = _
  unfold execPi2cTransferDone
  refine upd_congr ?_
  dsimp only
  rw [hactive]
  exact if_neg (by simp [hruns])

theorem pi2cDone_arb : exec (.pi2cTransferDone p .arbLost) s = s.upd fun l => l.piArb p a := by
  show execPi2cTransferDone p .arbLost s = _
  unfold execPi2cTransferDone
  refine upd_congr ?_
  dsimp only
  rw [hactive]
  exact if_neg (by simp [hruns])

end Active

/-! ### An air sensor's transfer (R355) -/

theorem airDone_some (l : Live) (j : Nat) (b : List Byte) : tget {} (l.airDone j (some b)).therm.air j =
    { tget {} l.therm.air j with t := tempBytes b, fails := 0, broken := false, read := true } := tget_tput_same _ _ _ _

theorem airDone_none (l : Live) (j : Nat) :
    tget {} (l.airDone j none).therm.air j = { tget {} l.therm.air j with
      fails := (tget {} l.therm.air j).fails + 1, broken := (tget {} l.therm.air j).broken || 3 ≤ (tget {} l.therm.air j).fails + 1 } ∧
    (l.airDone j none).fc.details = l.fc.details ++ (if (tget {} l.therm.air j).fails = 2 then [l.detailOf 0x8006 0x8FFF j] else []) := by
  unfold Live.airDone
  dsimp only
  by_cases h : (tget {} l.therm.air j).fails = 2
  · rw [if_pos (by rw [h]), if_pos h]
    exact ⟨tget_tput_same _ _ _ _, rfl⟩
  · rw [if_neg (fun h' => h (by omega)), if_neg h, List.append_nil]
    exact ⟨tget_tput_same _ _ _ _, rfl⟩

section AirSensor
variable {j : Nat} (hactive : (s.live.pi p).active = some (.air j)) (hruns : s.live.piRuns p = true) (hwait : s.live.ports.waiting = [])
include hactive hruns hwait

theorem pi2cDone_air (data : List Byte) : Gives (exec (.pi2cTransferDone p (.done data)) s) (fun t =>
    t.live.pi p = { s.live.pi p with active := none, xfer := none } ∧
      tget {} t.live.therm.air j = { tget {} s.live.therm.air j with t := tempBytes data, fails := 0, broken := false, read := true } ∧
      t.live.fc = s.live.fc) := by
  have hcount := (s.live.piOver p).count_counted 86
  generalize hk : (s.live.piOver p).count 86 = k at hcount
  have hidle : ((k.askerDone (.air j) data).piIdle p) = k.airDone j (some data) := piIdle_of_none (by
    show k.ports.waiting = []
    rw [hcount.ports]
    exact hwait) p
  rw [pi2cDone_done hactive hruns]
  refine upd_gives_of_eq (k := k.airDone j (some data)) (by rw [hk]; exact hidle) ⟨?_, ?_, ?_⟩
  · exact (pi_congr hcount.ports p).trans (piOver_pi _ _)
  · dsimp only
    rw [airDone_some, hcount.therm]
    rfl
  · exact hcount.fc

theorem pi2cNack_air : Gives (exec (.pi2cTransferDone p .nack) s) (fun t =>
    t.live.pi p = { s.live.pi p with active := none, xfer := none } ∧
      tget {} t.live.therm.air j = { tget {} s.live.therm.air j with
        fails := (tget {} s.live.therm.air j).fails + 1,
        broken := (tget {} s.live.therm.air j).broken || 3 ≤ (tget {} s.live.therm.air j).fails + 1 } ∧
      Raised s t (if (tget {} s.live.therm.air j).fails = 2 then [s.live.detailOf 0x8006 0x8FFF j] else [])) := by
  have hcount := (s.live.piOver p).count_counted 87
  generalize hk : (s.live.piOver p).count 87 = k at hcount
  have hports : (k.airDone j none).ports = k.ports := Live.same_ports (by simp)
  have hidle : ((k.askerFail (.air j)).piIdle p) = k.airDone j none := piIdle_of_none (by
    show (k.airDone j none).ports.waiting = []
    rw [hports, hcount.ports]
    exact hwait) p
  obtain ⟨hair, hdetails⟩ := airDone_none k j
  rw [pi2cDone_nack hactive hruns]
  refine upd_gives_of_eq (k := k.airDone j none) (by rw [hk]; exact hidle) ⟨?_, ?_, ?_⟩
  · exact (pi_congr (hports.trans hcount.ports) p).trans (piOver_pi _ _)
  · refine hair.trans ?_
    rw [hcount.therm]
    rfl
  · unfold Raised
    refine hdetails.trans ?_
    rw [hcount.therm, hcount.fc, Live.detailOf_congr hcount.now]
    rfl

end AirSensor

/-! ### A transfer that firmware asked for -/

section Firmware
variable {w : Nat} (hactive : (s.live.pi p).active = some (.firmware w)) (hruns : s.live.piRuns p = true) (hwait : s.live.ports.waiting = [])

/-- A failed transfer of firmware's is counted, and nothing is told. -/
theorem piFail_firmware {l : Live} (hwait : l.ports.waiting = []) (n : Nat) : l.piFail n (.firmware w) = (l.piOver n).count 87 :=
  piIdle_of_none (by
    show ((l.piOver n).count 87).ports.waiting = []
    rw [((l.piOver n).count_counted 87).ports]
    exact hwait) n

theorem piFail_pi {l : Live} (hwait : l.ports.waiting = []) (n : Nat) :
    (l.piFail n (.firmware w)).pi n = { l.pi n with active := none, xfer := none } := by
  rw [piFail_firmware hwait, pi_congr ((l.piOver n).count_counted 87).ports, piOver_pi]

theorem piFail_fc {l : Live} (hwait : l.ports.waiting = []) (n : Nat) : (l.piFail n (.firmware w)).fc = l.fc := by
  rw [piFail_firmware hwait, ((l.piOver n).count_counted 87).fc]
  rfl

/-- A bit of the port's status is set and told; of the port, what `f` makes of it stands. -/
theorem alarm_pi (l : Live) (n : Nat) (f : Pi2c → Pi2c) (b code aux : Nat) :
    (((l.modPi n f).w1cSet (oPi n) 4 b).raise code (oPi n) aux).pi n = f (l.pi n) := Live.modPi_pi_same _ _ _

include hactive hruns hwait

theorem pi2cDone_firmware (data : List Byte) : Gives (exec (.pi2cTransferDone p (.done data)) s) (fun t =>
    t.live.pi p = { s.live.pi p with active := none, xfer := none } ∧ t.live.fc = s.live.fc) := by
  have hcount := (s.live.piOver p).count_counted 86
  generalize hk : (s.live.piOver p).count 86 = k at hcount
  have hidle : ((k.askerDone (.firmware w) data).piIdle p) = k := piIdle_of_none (by
    show k.ports.waiting = []
    rw [hcount.ports]
    exact hwait) p
  rw [pi2cDone_done hactive hruns]
  exact upd_gives_of_eq (k := k) (by rw [hk]; exact hidle) ⟨(pi_congr hcount.ports p).trans (piOver_pi _ _), hcount.fc⟩

theorem pi2cNack_firmware : Gives (exec (.pi2cTransferDone p .nack) s) (fun t =>
    t.live.pi p = { s.live.pi p with active := none, xfer := none } ∧ t.live.fc = s.live.fc) := by
  rw [pi2cDone_nack hactive hruns]
  exact upd_gives_of_eq (k := s.live.piFail p (.firmware w)) rfl ⟨piFail_pi hwait p, piFail_fc hwait p⟩

theorem pi2cArb_firmware : Gives (exec (.pi2cTransferDone p .arbLost) s) (fun t =>
    t.live.pi p = { s.live.pi p with active := none, xfer := none, arbl := true } ∧
      Raised s t [s.live.detailOf 0xD013 (0xD102 + p) (2 + p)]) := by
  rw [pi2cDone_arb hactive hruns]
  refine upd_gives_of_eq rfl ⟨?_, ?_⟩
  · refine (piFail_pi (by exact hwait) p).trans ?_
    rw [alarm_pi]
  · exact congrArg Fc.details (piFail_fc (by exact hwait) p)

theorem pi2cTimeout_firmware (hperiod : fld (s.live.hw (0xD102 + p) 0) 27 26 ≠ 0) : Gives (exec (.pi2cTimeout p) s) (fun t =>
    t.live.pi p = { s.live.pi p with active := none, xfer := none, pto := true } ∧
      Raised s t [s.live.detailOf 0xD014 (0xD102 + p) (2 + p)]) := by
  have hactive' : ((((s.live.modPi p fun k => { k with pto := true }).w1cSet (oPi p) 4 28).raise 0xD014 (oPi p) (2 + p.val)).pi p).active =
      some (.firmware w) := by
    rw [alarm_pi]
    exact hactive
  show Gives (execPi2cTimeout p s) _
  unfold execPi2cTimeout
  refine upd_gives_of_eq (k := (((s.live.modPi p fun k => { k with pto := true }).w1cSet (oPi p) 4 28).raise 0xD014 (oPi p) (2 + p.val)).piFail p
    (.firmware w)) ?_ ⟨?_, ?_⟩
  · refine (if_neg (by simp [hruns, oPi, hperiod])).trans ?_
    dsimp only
    rw [hactive']
  · refine (piFail_pi (by exact hwait) p).trans ?_
    rw [alarm_pi]
  · exact congrArg Fc.details (piFail_fc (by exact hwait) p)

end Firmware

theorem pi2cTimeout_off (h : fld (s.live.hw (0xD102 + p) 0) 27 26 = 0) : exec (.pi2cTimeout p) s = .next s := by
  show execPi2cTimeout p s = _
  unfold execPi2cTimeout
  exact upd_idle (if_pos (by simp [oPi, h]))

/-! ## Bus recovery (R504) -/

section Recovering
variable (hdom : s.live.pwr.on.getLsbD 1 = true) (hon : bit (s.live.hw (0xD102 + p) 0) 29 = true) (hidle : (s.live.pi p).active = none)
  (hrec : (s.live.pi p).recovering = true)
include hdom hon hidle hrec

theorem busRecovery_frees : Gives (exec (.busRecovery p true) s) (fun t =>
    t.live.pi p = { s.live.pi p with recovering := false, stuck := false, dis := false } ∧ SameBut [.ports] s t) := by
  show Gives (execBusRecovery p true s) _
  unfold execBusRecovery
  refine upd_keeps_of_eq (m := 524288) (k := s.live.modPi p fun k => { k with recovering := false, stuck := false, dis := false })
    ?_ (by simp) [.ports] (by decide) (Live.modPi_pi_same _ _ _)
  exact (if_neg (by simp [Live.dom, hdom, oPi, hon, hidle])).trans <| (if_neg (by simp [hrec])).trans (if_pos rfl)

theorem busRecovery_disables (hdue : (s.live.pi p).due = []) : Gives (exec (.busRecovery p false) s) (fun t =>
    t.live.pi p = { s.live.pi p with recovering := false, stuck := true, dis := true, recoverAt := s.live.now } ∧
      Raised s t [s.live.detailOf 0xD012 (0xD102 + p) (2 + p)]) := by
  show Gives (execBusRecovery p false s) _
  unfold execBusRecovery
  refine upd_gives_of_eq (k := (s.live.modPi p fun k => { k with
    recovering := false, stuck := true, dis := true, recoverAt := s.live.now, due := [] }).raise 0xD012 (oPi p) (2 + p.val)) ?_ ⟨?_, rfl⟩
  · refine (if_neg (by simp [Live.dom, hdom, oPi, hon, hidle])).trans <| (if_neg (by simp [hrec])).trans <| (if_neg Bool.false_ne_true).trans ?_
    dsimp only
    rw [hdue]
    rfl
  · refine (Live.modPi_pi_same s.live p _).trans ?_
    rw [← hdue]

end Recovering

theorem busRecovery_waits (hdis : (s.live.pi p).dis = true) (hrec : (s.live.pi p).recovering = false)
    (hagain : bit (s.live.hw (0xD102 + p) 0) 28 = false) (freed : Bool) : exec (.busRecovery p freed) s = .next s := by
  show execBusRecovery p freed s = _
  unfold execBusRecovery
  refine upd_idle ?_
  dsimp only
  split
  · rfl
  · exact if_pos (by simp [hdis, hrec, oPi, hagain])

end Transfers
/-- Settles O59: with no setting that waits for the port's idle, an end of a transfer changes the port, its counter and what its asker
is told; each clause is one branch of its event. -/
theorem initiatorPortsRunTransfers : Obligations.InitiatorPortsRunTransfers := by
  intro s p
  refine ⟨fun a hdue hruns hidle => ⟨pi2cStart_gives hdue hruns hidle, fun hoff hwait w ha => pi2cStart_disabled hdue hruns hidle ha hoff hwait⟩,
    fun hon hrec lost => pi2cStart_recovering hon hrec,
    fun j hactive hruns hwait => ⟨pi2cDone_air hactive hruns hwait, pi2cNack_air hactive hruns hwait⟩,
    fun h lost => pi2cStart_idle h,
    fun w hactive hruns hwait => ⟨pi2cDone_firmware hactive hruns hwait, pi2cNack_firmware hactive hruns hwait,
      pi2cArb_firmware hactive hruns hwait, pi2cTimeout_firmware hactive hruns hwait⟩,
    pi2cTimeout_off, fun hdom hon hidle hrec => ⟨busRecovery_frees hdom hon hidle hrec, busRecovery_disables hdom hon hidle hrec⟩,
    fun hdis hrec hagain freed => busRecovery_waits hdis hrec hagain freed⟩

end Sys2Proof.Machine
end

section
/-! PROOFS. What moves of the keeper core leave of it, and of the details that name it (R404, R413, R418, R431, Table 12.3). -/
open Sys2Proof Sys2Proof.Machine
namespace Sys2Proof.Machine

/-! ## Details of the keeper core stay (R544) -/

/-- `k` comes of `l` by changes that take no detail of the keeper core back. -/
def Live.Tells (l k : Live) : Prop := ∀ d ∈ l.fc.details, d.code.toNat / 4096 = 0xA → d ∈ k.fc.details

theorem Live.Tells.refl (l : Live) : l.Tells l := fun _ h _ => h

theorem Live.Tells.trans {l k j : Live} (a : l.Tells k) (b : k.Tells j) : l.Tells j := fun d hd hclass => b d (a d hd hclass) hclass

theorem Live.Tells.of_subset {l k : Live} (h : l.fc.details ⊆ k.fc.details) : l.Tells k := fun _ hd _ => h hd

theorem Live.Tells.of_fc {l k : Live} (h : k.fc = l.fc) : l.Tells k := .of_subset (by rw [h]; exact List.Subset.refl _)

theorem Live.raise_tells (l : Live) (code obj aux : Nat) : l.Tells (l.raise code obj aux) := .of_subset (List.subset_append_left _ _)

theorem Live.modK_tells (l : Live) (f : Keeper → Keeper) : l.Tells (l.modK f) := .of_fc rfl

theorem Live.setPower_tells (l : Live) (st : PwrSt) (cause : Nat) : l.Tells (l.setPower st cause) := .of_subset (l.setPower_details st cause)

theorem Live.record_tells (l : Live) (etype : Nat) (pay : List Byte) : l.Tells (l.record etype pay) := .of_subset (l.record_leads etype pay).details

theorem Live.d0Only_tells (l : Live) : l.Tells l.d0Only := fun d hd hclass => List.mem_filter.mpr ⟨hd, by simp [hclass]⟩

theorem Live.updateRecord_tells (l : Live) (old : Nat) : l.Tells (l.updateRecord old) := by
  unfold Live.updateRecord
  split
  · exact .refl l
  · exact l.record_tells _ _

theorem Live.stgDrop_tells (l : Live) : l.Tells l.stgDrop := by
  unfold Live.stgDrop
  split
  · exact .refl l
  · have hdrop : l.Tells ((l.setBoot fun b => { b with state := 0 }).modSec fun s => { s with stg := { reason := s.stg.reason } }) := .of_fc rfl
    exact hdrop.trans (Live.updateRecord_tells _ l.ustate)

theorem Live.closeSess_tells (l : Live) (n : Nat) : l.Tells (l.closeSess n) := by
  unfold Live.closeSess
  extract_lets l1 l2 l3
  have hroll : (l.txnRollback 3).fc = l.fc := Live.same_fc (by simp)
  have h1 : l.Tells l1 := by
    unfold l1
    split
    · exact .of_fc hroll
    · exact .refl l
  have h2 : l1.Tells l2 := by
    unfold l2 Live.stgClose
    split
    · exact l1.stgDrop_tells
    · exact .refl l1
  have h3 : l2.Tells l3 := by
    unfold l3
    split
    · exact .of_fc rfl
    · exact .refl l2
  exact (h1.trans h2).trans (h3.trans (.of_fc rfl))

theorem Live.closeAll_tells (l : Live) : l.Tells l.closeAll := by
  unfold Live.closeAll Live.each
  generalize List.range 16 = ns
  induction ns generalizing l with
  | nil => exact .refl l
  | cons n ns ih =>
    refine Live.Tells.trans ?_ (ih _)
    dsimp only
    split
    · exact l.closeSess_tells n
    · exact .refl l

theorem Live.enterCold_tells (l : Live) (cause : Nat) : l.Tells (l.enterCold cause) :=
  l.closeAll_tells.trans (l.closeAll.d0Only_tells.trans (Live.setPower_tells _ _ _))

theorem Live.toCold_tells (l : Live) : l.Tells l.toCold := by
  unfold Live.toCold
  split
  · split
    · exact .of_fc rfl
    · exact l.enterCold_tells 2
  · split
    · exact .of_fc rfl
    · exact l.enterCold_tells 2
  · exact l.enterCold_tells 2
  · exact l.enterCold_tells 2
  · exact .refl l

theorem Live.keeperTo_tells (l : Live) (st : KSt) : l.Tells (l.keeperTo st) := by
  unfold Live.keeperTo
  split
  · exact .refl l
  · exact (l.record_tells _ _).trans (.of_fc rfl)

theorem Live.leaseClear_tells (l : Live) : l.Tells l.leaseClear := .of_fc (Live.same_fc (by simp))

theorem Live.txnCancel_tells (l : Live) : l.Tells l.txnCancel := .of_fc (Live.same_fc (by simp))

theorem Live.shutdownEnd_tells (l : Live) : l.Tells l.shutdownEnd := by
  have h := l.closeAll_tells
  unfold Live.shutdownEnd
  generalize l.closeAll = k at h ⊢
  exact h.trans (k.d0Only_tells.trans (.of_fc rfl))

theorem Live.releaseCheck_tells (l : Live) : l.Tells l.releaseCheck := by
  unfold Live.releaseCheck
  dsimp only
  split
  · exact .refl l
  · split
    · have hgo (k : Live) : k.Tells k.goSend := .of_fc (Live.same_fc (by simp))
      exact (l.modK_tells _).trans ((hgo _).trans (Live.toCold_tells _))
    · exact (l.modK_tells _).trans (Live.shutdownEnd_tells _)

theorem Live.keeperYield_tells (l : Live) : l.Tells l.keeperYield :=
  (l.leaseClear_tells.trans (Live.txnCancel_tells _)).trans <| (Live.keeperTo_tells _ .watch).trans <|
    (Live.modK_tells _ _).trans (Live.toCold_tells _)

theorem Live.releaseYield_tells (l : Live) : l.Tells l.releaseYield :=
  (l.modK_tells _).trans <| ((Live.leaseClear_tells l.sendRelease).trans (Live.txnCancel_tells _)).trans <|
    (Live.keeperTo_tells _ .watch).trans <| (Live.modK_tells _ _).trans (Live.releaseCheck_tells _)

theorem Live.keeperWake_tells (l : Live) : l.Tells l.keeperWake := by
  unfold Live.keeperWake
  split
  · exact (l.setPower_tells .boot 2).trans (.of_fc rfl)
  · exact .of_fc rfl
  · split
    · exact (l.setPower_tells .boot 2).trans ((Live.record_tells _ _ _).trans (.of_fc rfl))
    · exact .refl l
  · exact .refl l

/-! ## The keeper core's own part -/

theorem Live.keeperTo_keeper (l : Live) (st : KSt) : (l.keeperTo st).keeper = { l.keeper with st := st } := by
  unfold Live.keeperTo
  split
  next h => rw [← h]
  next =>
    have hrec (etype : Nat) (pay : List Byte) : (l.record etype pay).keeper = l.keeper := Live.same_keeper (by simp)
    show { (l.record 0x05 _).keeper with st := st } = _
    rw [hrec]

theorem Live.txnCancel_keeper (l : Live) : l.txnCancel.keeper = l.keeper := Live.same_keeper (by simp)

theorem Live.toCold_keeper (l : Live) : l.toCold.keeper = l.keeper := by
  unfold Live.toCold
  split
  · split
    · rfl
    · exact l.enterCold_keeper 2
  · split
    · rfl
    · exact l.enterCold_keeper 2
  · exact l.enterCold_keeper 2
  · exact l.enterCold_keeper 2
  · rfl

theorem Live.keeperYield_keeper (l : Live) : l.keeperYield.keeper =
    { l.keeper with live := false, hbout := if l.keeper.live then false else l.keeper.hbout, st := .watch, hand := .none, handIn := false } := by
  unfold Live.keeperYield
  rw [Live.toCold_keeper]
  show { (l.leaseClear.txnCancel.keeperTo .watch).keeper with hand := .none, handIn := false } = _
  rw [Live.keeperTo_keeper, Live.txnCancel_keeper, Live.leaseClear_keeper]

theorem Live.keeperWake_keeper (l : Live) : l.keeperWake.keeper = l.keeper := Live.same_keeper (by simp)

/-- A keeper core that has released says so on the mate link, and nothing else of it changes. -/
theorem Live.goSend_keeper (l : Live) : ∃ n fs b, l.goSend.keeper = { l.keeper with frames := n, sent := fs, goBond := b } := by
  unfold Live.goSend
  split
  · exact ⟨_, _, _, rfl⟩
  · exact ⟨_, _, _, rfl⟩

theorem Live.releaseCheck_keeper (l : Live) :
    ∃ c n fs b, l.releaseCheck.keeper = { l.keeper with coldAfter := c, frames := n, sent := fs, goBond := b } := by
  unfold Live.releaseCheck
  dsimp only
  split
  · exact ⟨_, _, _, _, rfl⟩
  · split
    · rw [Live.toCold_keeper]
      obtain ⟨n, fs, b, h⟩ := Live.goSend_keeper (l.modK fun k => { k with coldAfter := 0 })
      exact ⟨0, n, fs, b, h⟩
    · rw [Live.shutdownEnd_keeper]
      exact ⟨_, _, _, _, rfl⟩

/-- A RELEASE is due on every running ring, and the lease is cleared. -/
theorem Live.released_keeper (l : Live) : l.sendRelease.leaseClear.txnCancel.keeper =
    { l.keeper with releaseRings := l.ringsIn .running, live := false, hbout := if l.keeper.live then false else l.keeper.hbout } := by
  rw [Live.txnCancel_keeper, Live.leaseClear_keeper]
  rfl

theorem Live.releaseYield_keeper (l : Live) : ∃ c n fs b, l.releaseYield.keeper =
    { l.keeper with live := false, hbout := if l.keeper.live then false else l.keeper.hbout, releaseRings := l.ringsIn .running,
                    st := .watch, hand := .none, handIn := false, tieWait := false, coldAfter := c, frames := n, sent := fs, goBond := b } := by
  obtain ⟨c, n, fs, b, h⟩ := Live.releaseCheck_keeper (((l.sendRelease.leaseClear.txnCancel).keeperTo .watch).modK fun k =>
    { k with hand := .none, handIn := false, tieWait := false, coldAfter := 1 })
  refine ⟨c, n, fs, b, h.trans ?_⟩
  show { ((l.sendRelease.leaseClear.txnCancel).keeperTo .watch).keeper with
    hand := .none, handIn := false, tieWait := false, coldAfter := c, frames := n, sent := fs, goBond := b } = _
  rw [Live.keeperTo_keeper, Live.released_keeper]

end Sys2Proof.Machine
end

section
/-! PROOFS. Heartbeat, STATUS frames and planned handover (R404, R414, R418, R424, R431). -/
open Sys2Proof Sys2Proof.Machine
namespace Sys2Proof.Machine

/-- A detail of the keeper core that is raised is there after changes that take none back. -/
theorem raised_tells {l k : Live} {code obj aux : Nat} (h : (l.raise code obj aux).Tells k)
    (hclass : (BitVec.ofNat 16 code).toNat / 4096 = 0xA) : l.detailOf code obj aux ∈ k.fc.details :=
  h _ (List.mem_append_right _ (List.mem_singleton.mpr rfl)) hclass

section Heartbeat
variable {s : State}

/-! ## HBOUT (R404) -/

theorem heartbeatToggle_gives (hup : s.live.kUp = true) (hlive : s.live.keeper.live = true) (hgrid : s.live.tick % 20000 = 0)
    (hnew : s.live.keeper.hboutAt ≠ s.live.now) : Gives (exec .heartbeatToggle s) (fun t =>
      t.live.keeper = { s.live.keeper with hbout := !s.live.keeper.hbout, hboutAt := s.live.now } ∧ SameBut [.keeper] s t) := by
  show Gives (execHeartbeatToggle s) _
  unfold execHeartbeatToggle
  refine upd_keeps_of_eq (m := 65536) (k := s.live.modK fun k => { k with hbout := !k.hbout, hboutAt := s.live.now }) ?_ rfl [.keeper]
    (by decide) rfl
  exact if_pos (by simp [hup, hlive, hgrid, hnew])

theorem heartbeatToggle_idle (h : s.live.keeper.live = false ∨ s.live.tick % 20000 ≠ 0) : exec .heartbeatToggle s = .next s := by
  show execHeartbeatToggle s = _
  unfold execHeartbeatToggle
  refine upd_idle (if_neg ?_)
  rcases h with h | h <;> simp [h]

/-! ## A counted edge of HBIN (Table 12.3) -/

/-- The claimant notes the edge. -/
def Live.edgeNoted (l : Live) : Live :=
  l.modK fun k => { k with hbinAt := some l.now, silence := false, brokenRaised := false, waited := false }

/-- What an edge comes to, by the keeper core's state. -/
def Live.edgeActs (l : Live) : Live :=
  match l.keeper.st with
  | .claiming | .keeper =>
    if l.keeper.roleB then (l.raise 0xA007 0xA000).releaseYield
    else (l.raise 0xA007 0xA000).modK fun k => { k with tieWait := true }
  | .warming | .waiting => if l.keeper.handIn then l else (l.count 119).keeperYield
  | _ => l

theorem exec_hbinEdge (hup : s.live.kUp = true) : exec .hbinEdge s = .next { s with live := s.live.edgeNoted.edgeActs } := by
  show execHbinEdge s = _
  unfold execHbinEdge
  exact upd_of_neg (f := fun l => if !l.kUp then l else l.edgeNoted.edgeActs) rfl (by simp [hup])

section Acts
variable (l : Live)

/-- The edge stays noted. -/
theorem edgeActs_noted : l.edgeActs.keeper.hbinAt = l.keeper.hbinAt ∧ l.edgeActs.keeper.silence = l.keeper.silence := by
  obtain ⟨c, n, fs, b, hrelease⟩ := Live.releaseYield_keeper (l.raise 0xA007 0xA000)
  have hyield := Live.keeperYield_keeper (l.count 119)
  rw [show (l.count 119).keeper = l.keeper from Live.same_keeper (by simp)] at hyield
  unfold Live.edgeActs
  split
  · split
    · rw [hrelease]
      exact ⟨rfl, rfl⟩
    · exact ⟨rfl, rfl⟩
  · split
    · rw [hrelease]
      exact ⟨rfl, rfl⟩
    · exact ⟨rfl, rfl⟩
  · split
    · exact ⟨rfl, rfl⟩
    · rw [hyield]
      exact ⟨rfl, rfl⟩
  · split
    · exact ⟨rfl, rfl⟩
    · rw [hyield]
      exact ⟨rfl, rfl⟩
  · exact ⟨rfl, rfl⟩

theorem edgeActs_held (h : l.keeper.st = .claiming ∨ l.keeper.st = .keeper) : l.edgeActs =
    if l.keeper.roleB then (l.raise 0xA007 0xA000).releaseYield else (l.raise 0xA007 0xA000).modK fun k => { k with tieWait := true } := by
  unfold Live.edgeActs
  rcases h with h | h <;> rw [h]

theorem edgeActs_warm (h : l.keeper.st = .warming ∨ l.keeper.st = .waiting) : l.edgeActs =
    if l.keeper.handIn then l else (l.count 119).keeperYield := by
  unfold Live.edgeActs
  rcases h with h | h <;> rw [h]

/-- A second heartbeat against a claimant or a keeper is a tie: ROLE B releases, ROLE A waits (R418). -/
theorem edgeActs_tie (h : l.keeper.st = .claiming ∨ l.keeper.st = .keeper) :
    l.detailOf 0xA007 0xA000 ∈ l.edgeActs.fc.details ∧
      (l.keeper.roleB = true → l.edgeActs.keeper.st = .watch ∧ l.edgeActs.keeper.live = false) ∧
      (l.keeper.roleB = false → l.edgeActs.keeper.st = l.keeper.st ∧ l.edgeActs.keeper.live = l.keeper.live ∧ l.edgeActs.keeper.tieWait = true) := by
  have hdetail : l.detailOf 0xA007 0xA000 ∈ (l.raise 0xA007 0xA000).fc.details := List.mem_append_right _ (List.mem_singleton.mpr rfl)
  obtain ⟨c, n, fs, b, hrelease⟩ := Live.releaseYield_keeper (l.raise 0xA007 0xA000)
  rw [edgeActs_held l h]
  cases hrole : l.keeper.roleB with
  | true =>
    rw [if_pos rfl, hrelease]
    exact ⟨raised_tells (Live.releaseYield_tells _) (by decide), fun _ => ⟨rfl, rfl⟩, fun hno => absurd hno (by decide)⟩
  | false =>
    rw [if_neg Bool.false_ne_true]
    exact ⟨hdetail, fun hno => absurd hno (by decide), fun _ => ⟨rfl, rfl, rfl⟩⟩

/-- A claimant that warms or waits yields to a heartbeat, but for a planned handover (R414, R431). -/
theorem edgeActs_yields (h : l.keeper.st = .warming ∨ l.keeper.st = .waiting) :
    (l.keeper.handIn = false → l.edgeActs.keeper.st = .watch ∧ l.edgeActs.keeper.live = false) ∧
      (l.keeper.handIn = true → l.edgeActs.keeper.st = l.keeper.st) := by
  rw [edgeActs_warm l h]
  refine ⟨fun hand => ?_, fun hand => by rw [if_pos hand]⟩
  rw [if_neg (by simp [hand]), Live.keeperYield_keeper]
  exact ⟨rfl, rfl⟩

end Acts

theorem hbinEdge_gives (hup : s.live.kUp = true) : Gives (exec .hbinEdge s) (fun t =>
    t.live.keeper.hbinAt = some s.live.now ∧ t.live.keeper.silence = false ∧
      (s.live.keeper.st = .claiming ∨ s.live.keeper.st = .keeper → s.live.detailOf 0xA007 0xA000 ∈ t.live.fc.details ∧
        (s.live.keeper.roleB = true → t.live.keeper.st = .watch ∧ t.live.keeper.live = false) ∧
        (s.live.keeper.roleB = false →
          t.live.keeper.st = s.live.keeper.st ∧ t.live.keeper.live = s.live.keeper.live ∧ t.live.keeper.tieWait = true)) ∧
      (s.live.keeper.st = .warming ∨ s.live.keeper.st = .waiting →
        (s.live.keeper.handIn = false → t.live.keeper.st = .watch ∧ t.live.keeper.live = false) ∧
        (s.live.keeper.handIn = true → t.live.keeper.st = s.live.keeper.st))) := by
  obtain ⟨hat, hsilence⟩ := edgeActs_noted s.live.edgeNoted
  exact ⟨_, exec_hbinEdge hup, hat, hsilence, edgeActs_tie s.live.edgeNoted, edgeActs_yields s.live.edgeNoted⟩

/-! ## Silence (R404, R418, Table 12.3) -/

/-- The claimant notes the silence. -/
def Live.silenceNoted (l : Live) : Live := l.modK fun k => { k with silence := true }

/-- What silence comes to, by the keeper core's state. -/
def Live.silenceActs (l : Live) : Live :=
  match l.keeper.st with
  | .watch =>
    if l.mateHeard && l.keeper.mateLease then
      if l.keeper.brokenRaised then l else (l.raise 0xA002 0xA000).modK fun k => { k with brokenRaised := true }
    else if l.retired then l
    else
      let l := ((l.raise 0xA001 0xA000).keeperTo .warming).keeperWake
      if l.hearsA then l.keeperYield else l
  | .claiming | .keeper =>
    if l.keeper.tieWait then
      let l := (l.sendRelease.leaseClear.txnCancel).keeperTo .claiming
      l.modK fun k => { k with tieWait := false, stored := k.epoch + 1, claimDue := true }
    else l
  | _ => l

theorem exec_heartbeatSilence (hup : s.live.kUp = true) (hdue : s.live.waitFrom + 200000 ≤ s.live.now) :
    exec .heartbeatSilence s = .next { s with live := s.live.silenceNoted.silenceActs } := by
  show execHeartbeatSilence s = _
  unfold execHeartbeatSilence
  exact upd_of_neg (f := fun l => if !l.kUp || l.now < l.waitFrom + 200000 then l else l.silenceNoted.silenceActs) rfl
    (by simp [hup, hdue])

theorem heartbeatSilence_early (h : s.live.now < s.live.waitFrom + 200000) : exec .heartbeatSilence s = .next s := by
  show execHeartbeatSilence s = _
  unfold execHeartbeatSilence
  exact upd_idle (if_pos (by simp [h]))

section Watch
variable {l : Live} (hst : l.keeper.st = .watch)
include hst

theorem silenceActs_watch : l.silenceActs =
    if l.mateHeard && l.keeper.mateLease then
      if l.keeper.brokenRaised then l else (l.raise 0xA002 0xA000).modK fun k => { k with brokenRaised := true }
    else if l.retired then l
    else if (((l.raise 0xA001 0xA000).keeperTo .warming).keeperWake).hearsA then (((l.raise 0xA001 0xA000).keeperTo .warming).keeperWake).keeperYield
      else ((l.raise 0xA001 0xA000).keeperTo .warming).keeperWake := by
  unfold Live.silenceActs
  rw [hst]

/-- The lease's broken heartbeat is told, and nothing else follows. -/
theorem silenceActs_broken (hheard : l.mateHeard = true) (hlease : l.keeper.mateLease = true) (hnew : l.keeper.brokenRaised = false) :
    l.silenceActs = (l.raise 0xA002 0xA000).modK fun k => { k with brokenRaised := true } := by
  rw [silenceActs_watch hst, if_pos (by simp [hheard, hlease]), if_neg (by simp [hnew])]

section NoLease
variable (hlost : l.mateHeard = false ∨ l.keeper.mateLease = false)
include hlost

omit hst in
theorem not_mateLease : ¬((l.mateHeard && l.keeper.mateLease) = true) := by
  rcases hlost with h | h <;> simp [h]

theorem silenceActs_retired (h : l.retired = true) : l.silenceActs = l := by
  rw [silenceActs_watch hst, if_neg (not_mateLease hlost), if_pos h]

/-- The keeper core has lost its keeper, and warms and wakes. -/
def Live.warmed (l : Live) : Live := ((l.raise 0xA001 0xA000).keeperTo .warming).keeperWake

omit hst hlost in
theorem warmed_keeper (l : Live) : l.warmed.keeper = { l.keeper with st := .warming } := by
  unfold Live.warmed
  rw [Live.keeperWake_keeper, Live.keeperTo_keeper]
  rfl

omit hst hlost in
theorem warmed_hearsA (l : Live) : l.warmed.hearsA = l.hearsA := by
  have hnow : l.warmed.now = l.now := Live.same_now (by simp [Live.warmed])
  unfold Live.hearsA Live.mateHeard Live.tlTicks
  rw [warmed_keeper, hnow]

omit hst hlost in
theorem warmed_tells (l : Live) : l.detailOf 0xA001 0xA000 ∈ l.warmed.fc.details :=
  raised_tells ((Live.keeperTo_tells _ .warming).trans (Live.keeperWake_tells _)) (by decide)

omit hst hlost in
/-- Out of COLD the wake is a full boot from stage 2, with the cause of a keeper action. -/
theorem warmed_boots (l : Live) (hcold : l.pwr.st = .cold) : l.warmed.pwr.st = .boot ∧ l.warmed.pwr.stage = 2 ∧ l.warmed.pwr.cause = 3 := by
  have hpwr : ((l.raise 0xA001 0xA000).keeperTo .warming).pwr = l.pwr := Live.same_pwr (by simp)
  have hboot (k : Live) : (k.setPower .boot 2).pwr.st = .boot := by rw [Live.setPower_pwr]
  unfold Live.warmed Live.keeperWake
  rw [hpwr, hcold]
  exact ⟨hboot _, rfl, rfl⟩

section Serving
variable (hserves : l.retired = false)
include hserves

theorem silenceActs_warms (hhears : l.hearsA = false) : l.silenceActs = l.warmed := by
  rw [silenceActs_watch hst, if_neg (not_mateLease hlost), if_neg (by simp [hserves])]
  exact if_neg (ne_true_of_eq_false ((warmed_hearsA l).trans hhears))

theorem silenceActs_yields (hhears : l.hearsA = true) : l.silenceActs = l.warmed.keeperYield := by
  rw [silenceActs_watch hst, if_neg (not_mateLease hlost), if_neg (by simp [hserves])]
  exact if_pos ((warmed_hearsA l).trans hhears)

end Serving
end NoLease
end Watch

/-- ROLE A claims again once the heartbeat that tied is silent (R418). -/
theorem silenceActs_reclaims {l : Live} (hst : l.keeper.st = .claiming ∨ l.keeper.st = .keeper) (hwait : l.keeper.tieWait = true) :
    l.silenceActs.keeper.st = .claiming ∧ l.silenceActs.keeper.live = false ∧ l.silenceActs.keeper.stored = l.keeper.epoch + 1 ∧
      l.silenceActs.keeper.claimDue = true ∧ l.silenceActs.keeper.releaseRings = l.ringsIn .running := by
  have hacts : l.silenceActs.keeper = { l.keeper with
      releaseRings := l.ringsIn .running, live := false, hbout := if l.keeper.live then false else l.keeper.hbout, st := .claiming,
      tieWait := false, stored := l.keeper.epoch + 1, claimDue := true } := by
    have hk : ((l.sendRelease.leaseClear.txnCancel).keeperTo .claiming).keeper = { l.keeper with
        releaseRings := l.ringsIn .running, live := false, hbout := if l.keeper.live then false else l.keeper.hbout, st := .claiming } := by
      rw [Live.keeperTo_keeper, Live.released_keeper]
    have hcase : l.silenceActs = ((l.sendRelease.leaseClear.txnCancel).keeperTo .claiming).modK fun k =>
        { k with tieWait := false, stored := k.epoch + 1, claimDue := true } := by
      unfold Live.silenceActs
      rcases hst with h | h <;> rw [h] <;> exact if_pos hwait
    rw [hcase]
    show { ((l.sendRelease.leaseClear.txnCancel).keeperTo .claiming).keeper with
      tieWait := false, stored := ((l.sendRelease.leaseClear.txnCancel).keeperTo .claiming).keeper.epoch + 1, claimDue := true } = _
    rw [hk]
  rw [hacts]
  exact ⟨rfl, rfl, rfl, rfl, rfl⟩

/-! ## STATUS frames (R424) -/

section Status
variable {f : MateHdr}

theorem mateStatus_dropped (h : s.live.kUp = false ∨ f.crcOk = false) : exec (.mateStatus f) s = .next s := by
  show execMateStatus f s = _
  unfold execMateStatus
  exact upd_idle (if_pos (by rcases h with h | h <;> simp [h]))

/-- The version that a STATUS frame gives is outside what the firmware accepts. -/
def Live.mateBad (l : Live) (f : MateHdr) : Bool :=
  match l.mateRange with | some r => !(r.1 ≤ leNat (sliceB f.data 2 2) && leNat (sliceB f.data 2 2) ≤ r.2) | none => false

/-- The mate's STATUS is noted. -/
def Live.mateNoted (l : Live) (f : MateHdr) : Live :=
  l.modK fun k =>
    { k with mateAt := some l.now, mateState := (f.data.getD 0 0).toNat, mateB := f.flags.getLsbD 0, mateLease := f.flags.getLsbD 1,
             mateSafe := f.flags.getLsbD 2, mateEpoch := f.epoch, mateVer := BitVec.ofNat 16 (leNat (sliceB f.data 2 2)),
             mateBond := leNat (sliceB f.data 8 8), incompat := l.mateBad f, downRaised := false }

/-- And a version that is newly incompatible is told. -/
def Live.mateTold (l : Live) (f : MateHdr) : Live :=
  if l.mateBad f && !l.keeper.incompat then (l.mateNoted f).raise 0xA008 0xA000 else l.mateNoted f

/-- A claimant of ROLE B yields where it hears a mate of ROLE A on its way to the lease. -/
def Live.mateActs (l : Live) (f : MateHdr) : Live :=
  if ((l.mateTold f).keeper.st = .warming || (l.mateTold f).keeper.st = .waiting) && (l.mateTold f).hearsA then (l.mateTold f).keeperYield
  else l.mateTold f

theorem exec_mateStatus (hup : s.live.kUp = true) (hcrc : f.crcOk = true) (hlen : 16 ≤ f.data.length) :
    exec (.mateStatus f) s = .next { s with live := s.live.mateActs f } := by
  show execMateStatus f s = _
  unfold execMateStatus
  exact upd_of_neg (f := fun l => if !l.kUp || !f.crcOk || f.data.length < 16 then l else l.mateActs f) rfl (by simp [hup, hcrc, hlen])

theorem mateTold_keeper (l : Live) (f : MateHdr) : (l.mateTold f).keeper = (l.mateNoted f).keeper := by
  unfold Live.mateTold
  split <;> rfl

theorem mateTold_now (l : Live) (f : MateHdr) : (l.mateTold f).now = l.now := by
  unfold Live.mateTold
  split <;> rfl

/-- A mate of ROLE A between WARMING and KEEPER is heard by ROLE B outside a planned handover. -/
theorem mateTold_hearsA (l : Live) (f : MateHdr) (hrole : l.keeper.roleB = true) (hmate : f.flags.getLsbD 0 = false)
    (hlo : 1 ≤ (f.data.getD 0 0).toNat) (hhi : (f.data.getD 0 0).toNat ≤ 4) (hand : l.keeper.handIn = false) : (l.mateTold f).hearsA = true := by
  unfold Live.hearsA Live.mateHeard
  rw [mateTold_keeper, mateTold_now]
  simp only [Live.mateNoted, Live.modK, hrole, hmate, hand, Bool.and_eq_true, decide_eq_true_eq, Bool.not_false]
  exact ⟨⟨⟨⟨⟨trivial, Nat.le_add_right _ _⟩, trivial⟩, trivial⟩, hlo⟩, hhi⟩

theorem mateTold_not_hearsA (l : Live) (f : MateHdr) (h : l.keeper.roleB = false ∨ l.keeper.handIn = true) : (l.mateTold f).hearsA = false := by
  unfold Live.hearsA
  rw [mateTold_keeper]
  rcases h with h | h <;> simp [Live.mateNoted, Live.modK, h]

/-- Either the claimant stays what it was, or it yields; what STATUS noted stands. -/
theorem mateActs_keeper (l : Live) (f : MateHdr) : (l.mateActs f).keeper = (l.mateNoted f).keeper ∨
    (l.mateActs f).keeper = { (l.mateNoted f).keeper with
      live := false, hbout := if l.keeper.live then false else l.keeper.hbout, st := .watch, hand := .none, handIn := false } := by
  unfold Live.mateActs
  split
  · refine .inr ?_
    rw [Live.keeperYield_keeper, mateTold_keeper]
    rfl
  · exact .inl (mateTold_keeper l f)

theorem mateActs_tells (l : Live) (f : MateHdr) : (l.mateTold f).Tells (l.mateActs f) := by
  unfold Live.mateActs
  split
  · exact Live.keeperYield_tells _
  · exact .refl _

theorem mateStatus_gives (hup : s.live.kUp = true) (hcrc : f.crcOk = true) (hlen : 16 ≤ f.data.length) :
    Gives (exec (.mateStatus f) s) (fun t => t.live.keeper.mateAt = some s.live.now ∧ t.live.keeper.mateEpoch = f.epoch ∧
      t.live.keeper.mateB = f.flags.getLsbD 0 ∧ t.live.keeper.mateLease = f.flags.getLsbD 1 ∧ t.live.keeper.downRaised = false ∧
      t.live.keeper.mateBond = leNat (sliceB f.data 8 8) ∧
      (s.live.keeper.st = .warming ∨ s.live.keeper.st = .waiting → s.live.keeper.roleB = true → f.flags.getLsbD 0 = false →
        1 ≤ (f.data.getD 0 0).toNat → (f.data.getD 0 0).toNat ≤ 4 → s.live.keeper.handIn = false → t.live.keeper.st = .watch) ∧
      (¬ (s.live.keeper.st = .warming ∨ s.live.keeper.st = .waiting) ∨ s.live.keeper.roleB = false ∨ s.live.keeper.handIn = true →
        t.live.keeper.st = s.live.keeper.st) ∧
      (∀ lo hi, s.live.mateRange = some (lo, hi) → leNat (sliceB f.data 2 2) < lo → s.live.keeper.incompat = false →
        t.live.keeper.incompat = true ∧ s.live.detailOf 0xA008 0xA000 ∈ t.live.fc.details)) := by
  refine ⟨_, exec_mateStatus hup hcrc hlen, ?_⟩
  have hst : (s.live.mateTold f).keeper.st = s.live.keeper.st := by rw [mateTold_keeper]; rfl
  have hyields (hwarm : s.live.keeper.st = .warming ∨ s.live.keeper.st = .waiting) (hhears : (s.live.mateTold f).hearsA = true) :
      (s.live.mateActs f).keeper.st = .watch := by
    unfold Live.mateActs
    rw [hst, hhears, if_pos (by simpa using hwarm), Live.keeperYield_keeper]
  have hstays (hno : ¬ (s.live.keeper.st = .warming ∨ s.live.keeper.st = .waiting) ∨ (s.live.mateTold f).hearsA = false) :
      (s.live.mateActs f).keeper.st = s.live.keeper.st := by
    unfold Live.mateActs
    rw [hst]
    refine (congrArg (fun k : Live => k.keeper.st) (if_neg ?_)).trans hst
    rcases hno with h | h
    · simpa using fun hwarm => absurd hwarm h
    · simp [h]
  have hbad (lo hi : Nat) (hrange : s.live.mateRange = some (lo, hi)) (hlow : leNat (sliceB f.data 2 2) < lo) : s.live.mateBad f = true := by
    unfold Live.mateBad
    rw [hrange]
    simp [Nat.not_le.mpr hlow]
  have htold (hb : s.live.mateBad f = true) (hnew : s.live.keeper.incompat = false) :
      s.live.detailOf 0xA008 0xA000 ∈ (s.live.mateActs f).fc.details := by
    refine raised_tells (l := s.live.mateNoted f) ?_ (by decide)
    have hacts := mateActs_tells s.live f
    rwa [Live.mateTold, if_pos (by simp [hb, hnew])] at hacts
  have hincompat : (s.live.mateActs f).keeper.incompat = s.live.mateBad f := by
    rcases mateActs_keeper s.live f with h | h <;> rw [h] <;> rfl
  have hfields : (s.live.mateActs f).keeper.mateAt = some s.live.now ∧ (s.live.mateActs f).keeper.mateEpoch = f.epoch ∧
      (s.live.mateActs f).keeper.mateB = f.flags.getLsbD 0 ∧ (s.live.mateActs f).keeper.mateLease = f.flags.getLsbD 1 ∧
      (s.live.mateActs f).keeper.downRaised = false ∧ (s.live.mateActs f).keeper.mateBond = leNat (sliceB f.data 8 8) := by
    rcases mateActs_keeper s.live f with h | h <;> rw [h] <;> exact ⟨rfl, rfl, rfl, rfl, rfl, rfl⟩
  obtain ⟨hat, hepoch, hb, hlease, hdown, hbond⟩ := hfields
  refine ⟨hat, hepoch, hb, hlease, hdown, hbond, fun hwarm hrole hmate hlo hhi hand => hyields hwarm (mateTold_hearsA _ _ hrole hmate hlo hhi hand),
    fun hno => hstays (hno.imp_right (mateTold_not_hearsA _ _)), fun lo hi hrange hlow hnew => ?_⟩
  have hb := hbad lo hi hrange hlow
  exact ⟨hincompat.trans hb, htold hb hnew⟩

end Status

theorem kprMateDown_gives (hup : s.live.kUp = true) (hmate : s.live.keeper.mateen = true) (hnew : s.live.keeper.downRaised = false)
    (hdue : max s.live.keeper.resetAt (s.live.keeper.mateAt.getD 0) + 10 * 200000 ≤ s.live.now) :
    Gives (exec .kprMateDown s) (fun t => Raised s t [s.live.detailOf 0xA003 0xA000] ∧
      t.live.keeper = { s.live.keeper with downRaised := true } ∧ SameBut [.fc, .keeper] s t) := by
  have hticks : (200000 : Nat) = bondTicks := rfl
  rw [hticks] at hdue
  show Gives (execKprMateDown s) _
  unfold execKprMateDown
  refine upd_gives_of_eq (k := (s.live.raise 0xA003 0xA000).modK fun k => { k with downRaised := true }) ?_
    ⟨rfl, rfl, live_sameBut (m := 98304) (by simp) [.fc, .keeper] (by decide)⟩
  exact if_pos (by simp [hup, hmate, hnew, hdue])

/-! ## Planned handover (R431) -/

section Handover
variable {f : MateHdr}

theorem handoverReq_warms (hup : s.live.kUp = true) (hcrc : f.crcOk = true) (hst : s.live.keeper.st = .watch) (hserves : s.live.retired = false) :
    Gives (exec (.handoverReq f) s) (fun t => t.live.keeper.st = .warming ∧ t.live.keeper.handIn = true) := by
  show Gives (execHandoverReq f s) _
  unfold execHandoverReq
  refine upd_gives_of_eq (k := ((s.live.modK fun k => { k with handIn := true, readySent := false, goSeen := false }).keeperTo .warming).keeperWake)
    ?_ ?_
  · exact if_pos (by simp [hup, hcrc, hst, hserves])
  · dsimp only
    rw [Live.keeperWake_keeper, Live.keeperTo_keeper]
    exact ⟨rfl, rfl⟩

theorem handoverReq_ignored (h : s.live.keeper.st ≠ .watch ∨ s.live.retired = true) : exec (.handoverReq f) s = .next s := by
  show execHandoverReq f s = _
  unfold execHandoverReq
  exact upd_idle (if_neg (by rcases h with h | h <;> simp [h]))

theorem handoverReady_gives (hup : s.live.kUp = true) (hcrc : f.crcOk = true) {at_ : Nat} (hasked : s.live.keeper.hand = .asked at_) :
    Gives (exec (.handoverReady f) s) (fun t => t.live.keeper = { s.live.keeper with hand := .ready } ∧ SameBut [.keeper] s t) := by
  show Gives (execHandoverReady f s) _
  unfold execHandoverReady
  refine upd_keeps_of_eq (m := 65536) (k := s.live.modK fun k => { k with hand := .ready }) ?_ rfl [.keeper] (by decide) rfl
  simp only [hasked]
  exact if_pos (by simp [hup, hcrc])

theorem handoverGo_gives (hup : s.live.kUp = true) (hcrc : f.crcOk = true) (hand : s.live.keeper.handIn = true) :
    Gives (exec (.handoverGo f) s) (fun t => t.live.keeper = { s.live.keeper with goSeen := true } ∧ SameBut [.keeper] s t) := by
  show Gives (execHandoverGo f s) _
  unfold execHandoverGo
  refine upd_keeps_of_eq (m := 65536) (k := s.live.modK fun k => { k with goSeen := true }) ?_ rfl [.keeper] (by decide) rfl
  exact if_pos (by simp [hup, hcrc, hand])

theorem kprHandoverFail_gives {at_ : Nat} (hasked : s.live.keeper.hand = .asked at_) (hdue : at_ + 400000000 ≤ s.live.now) :
    Gives (exec .kprHandoverFail s) (fun t => t.live.keeper = { s.live.keeper with hand := .none } ∧
      Raised s t [s.live.detailOf 0xA00B 0xA000] ∧ SameBut [.fc, .keeper] s t) := by
  show Gives (execKprHandoverFail s) _
  unfold execKprHandoverFail
  refine upd_gives_of_eq (k := (s.live.modK fun k => { k with hand := .none }).raise 0xA00B 0xA000) ?_
    ⟨rfl, rfl, live_sameBut (m := 98304) (by simp) [.fc, .keeper] (by decide)⟩
  simp only [hasked]
  exact if_pos hdue

theorem kprHandoverFail_early {at_ : Nat} (hasked : s.live.keeper.hand = .asked at_) (hearly : s.live.now < at_ + 400000000) :
    exec .kprHandoverFail s = .next s := by
  show execKprHandoverFail s = _
  unfold execKprHandoverFail
  refine upd_idle ?_
  simp only [hasked]
  exact if_neg (Nat.not_le.mpr hearly)

end Handover

/-- What silence gives a keeper core in WATCH (Table 12.3). -/
theorem heartbeatSilence_watch (hup : s.live.kUp = true) (hdue : s.live.waitFrom + 200000 ≤ s.live.now) (hst : s.live.keeper.st = .watch) :
    (s.live.mateHeard = true → s.live.keeper.mateLease = true → s.live.keeper.brokenRaised = false →
      Gives (exec .heartbeatSilence s) (fun t => t.live.keeper.st = .watch ∧ Raised s t [s.live.detailOf 0xA002 0xA000] ∧
        SameBut [.fc, .keeper] s t)) ∧
    (s.live.mateHeard = false ∨ s.live.keeper.mateLease = false →
      (s.live.retired = false → s.live.hearsA = true → Gives (exec .heartbeatSilence s) (fun t => t.live.keeper.st = .watch ∧
        s.live.detailOf 0xA001 0xA000 ∈ t.live.fc.details)) ∧
      (s.live.retired = false → s.live.hearsA = false → Gives (exec .heartbeatSilence s) (fun t => t.live.keeper.st = .warming ∧
        s.live.detailOf 0xA001 0xA000 ∈ t.live.fc.details ∧
        (s.live.pwr.st = .cold → t.live.pwr.st = .boot ∧ t.live.pwr.stage = 2 ∧ t.live.pwr.cause = 3))) ∧
      (s.live.retired = true → Gives (exec .heartbeatSilence s) (fun t => t.live.keeper.st = .watch ∧ SameBut [.keeper] s t))) := by
  have hst' : s.live.silenceNoted.keeper.st = .watch := hst
  refine ⟨fun hheard hlease hnew => ?_, fun hlost => ⟨fun hserves hhears => ?_, fun hserves hhears => ?_, fun hretired => ?_⟩⟩
  · refine ⟨_, exec_heartbeatSilence hup hdue, ?_⟩
    rw [silenceActs_broken hst' hheard hlease hnew]
    exact ⟨hst, rfl, live_sameBut (m := 98304) (s := s) (by simp [Live.silenceNoted]) [.fc, .keeper] (by decide)⟩
  · refine ⟨_, exec_heartbeatSilence hup hdue, ?_⟩
    rw [silenceActs_yields hst' hlost hserves hhears]
    refine ⟨?_, Live.keeperYield_tells _ _ (warmed_tells s.live.silenceNoted) (by show (BitVec.ofNat 16 0xA001).toNat / 4096 = 0xA; decide)⟩
    dsimp only
    rw [Live.keeperYield_keeper]
  · refine ⟨_, exec_heartbeatSilence hup hdue, ?_⟩
    rw [silenceActs_warms hst' hlost hserves hhears]
    refine ⟨?_, warmed_tells s.live.silenceNoted, warmed_boots s.live.silenceNoted⟩
    dsimp only
    rw [warmed_keeper]
  · refine ⟨_, exec_heartbeatSilence hup hdue, ?_⟩
    rw [silenceActs_retired hst' hlost hretired]
    exact ⟨hst, live_sameBut (m := 65536) (s := s) (by simp [Live.silenceNoted]) [.keeper] (by decide)⟩

/-- Settles O48: each event of the keeper core is its row of Table 12.3. -/
theorem keeperFollowsItsTable : Obligations.KeeperFollowsItsTable := by
  intro s f
  refine ⟨heartbeatToggle_gives, heartbeatToggle_idle, hbinEdge_gives, fun hup hdue => ⟨fun hst => ?_, fun hst => ?_, fun hst hwait => ?_⟩,
    heartbeatSilence_early, mateStatus_gives, mateStatus_dropped, kprMateDown_gives, rfl,
    fun hup hcrc => ⟨handoverReq_warms hup hcrc, handoverReq_ignored, fun at_ hasked => handoverReady_gives hup hcrc hasked,
      handoverGo_gives hup hcrc⟩,
    fun at_ hasked => ⟨kprHandoverFail_gives hasked, kprHandoverFail_early hasked⟩⟩
  · exact (heartbeatSilence_watch hup hdue hst).1
  · exact (heartbeatSilence_watch hup hdue hst).2
  · exact ⟨_, exec_heartbeatSilence hup hdue, silenceActs_reclaims (l := s.live.silenceNoted) hst hwait⟩

end Heartbeat
end Sys2Proof.Machine
end

section
/-! PROOFS. The way to the lease: WAITING, the wait, the claim and the end of the claim window (R413 to R419). -/
open Sys2Proof Sys2Proof.Machine
namespace Sys2Proof.Machine

section Claims
variable {s : State}

/-! ## WARMING to WAITING, and the wait (R413) -/

/-- No station's lease is known. -/
theorem leases_forgotten (l : Live) (is : List Nat) (i : Nat) (h : i ∈ is ∨ (l.stn i).leaseSeen = false) :
    ((l.forL is fun l i => l.modStn i fun s => { s with leaseSeen := false, leaseRep := false }).stn i).leaseSeen = false := by
  induction is generalizing l with
  | nil => exact h.resolve_left List.not_mem_nil
  | cons j js ih =>
    refine ih _ ?_
    rw [Live.modStn_stn]
    by_cases hj : i = j
    · exact .inr (by rw [if_pos hj])
    · rw [if_neg hj]
      exact h.imp_left fun hmem => (List.mem_cons.mp hmem).resolve_left hj

/-- The keeper core waits for its claim. -/
def Live.waitBegun (l : Live) : Live :=
  (l.keeperTo .waiting).modK fun k => { k with waitBond := l.bond, passSeen := false, readySent := false }

theorem waitBegun_keeper (l : Live) :
    l.waitBegun.keeper = { l.keeper with st := .waiting, waitBond := l.bond, passSeen := false, readySent := false } := by
  show { (l.keeperTo .waiting).keeper with waitBond := l.bond, passSeen := false, readySent := false } = _
  rw [Live.keeperTo_keeper]

theorem waitBegun_stns (l : Live) : l.waitBegun.stns = l.stns := by
  have hmoor : (l.keeperTo .waiting).moor = l.moor := Live.same_moor (by simp)
  exact congrArg Moor.stns hmoor

theorem warmingDone_waits (hst : s.live.keeper.st = .warming) (hwork : s.live.working = true) (hstart : s.live.img.atStart = none) :
    Gives (exec .warmingDone s) (fun t => t.live.keeper.st = .waiting ∧ t.live.keeper.waitBond = s.live.bond ∧
      t.live.keeper.passSeen = false ∧ ∀ p ∈ s.live.stns, (t.live.stn p.1).leaseSeen = false) := by
  show Gives (execWarmingDone s) _
  unfold execWarmingDone
  refine upd_gives_of_eq (k := s.live.waitBegun.forL (s.live.waitBegun.stns.map (·.1))
    fun l i => l.modStn i fun s => { s with leaseSeen := false, leaseRep := false }) ?_ ?_
  · refine if_pos ?_
    simp [hst, hwork, hstart]
  · have hkeeper := Live.forL_keeps Live.keeper s.live.waitBegun (s.live.waitBegun.stns.map (·.1))
      (fun l i => l.modStn i fun s => { s with leaseSeen := false, leaseRep := false }) fun _ _ => rfl
    dsimp only
    rw [hkeeper, waitBegun_keeper, waitBegun_stns]
    exact ⟨rfl, rfl, rfl, fun p hp => leases_forgotten _ _ _ (.inl (List.mem_map_of_mem hp))⟩

theorem warmingDone_idle (h : s.live.keeper.st ≠ .warming ∨ s.live.working = false) : exec .warmingDone s = .next s := by
  show execWarmingDone s = _
  unfold execWarmingDone
  refine upd_idle (if_neg ?_)
  rcases h with h | h <;> simp [h]

theorem claimWaitExpiry_waited (hup : s.live.kUp = true) (hst : s.live.keeper.st = .warming ∨ s.live.keeper.st = .waiting)
    (hdue : s.live.waitFrom + s.live.claimTicks ≤ s.live.now) :
    Gives (exec .claimWaitExpiry s) (fun t => t.live.keeper = { s.live.keeper with waited := true } ∧ SameBut [.keeper] s t) := by
  show Gives (execClaimWaitExpiry s) _
  unfold execClaimWaitExpiry
  refine upd_keeps_of_eq (m := 65536) (k := s.live.modK fun k => { k with waited := true }) ?_ rfl [.keeper] (by decide) rfl
  generalize s.live.waitFrom + s.live.claimTicks = due at hdue
  exact if_pos (by simp [hup, hst, hdue])

theorem claimWaitExpiry_early (h : s.live.now < s.live.waitFrom + s.live.claimTicks) : exec .claimWaitExpiry s = .next s := by
  show execClaimWaitExpiry s = _
  unfold execClaimWaitExpiry
  exact upd_idle (if_neg (by simp [h]))

/-! ## The claim at its epoch (R415, R416) -/

/-- HANDOVER_READY is for a planned handover alone (R431). -/
theorem readySend_of_noHandover {l : Live} (h : l.keeper.handIn = false) : l.readySend = l := if_neg (by simp [h])

/-- The claim is due at the epoch, and CLAIM_NOTICE says so to the mate. -/
def Live.claimed (l : Live) (e : Half) : Live :=
  ((l.keeperTo .claiming).modK fun k => { k with stored := e, claimDue := true }).mateNote 0x04 e []

theorem mateNote_sent (l : Live) (ftype : Nat) (e : Half) (data : List Byte) : (l.mateNote ftype e data).keeper =
    { l.keeper with frames := (l.mateNote ftype e data).keeper.frames, sent := (l.mateNote ftype e data).keeper.sent } := rfl

theorem mateNote_head (l : Live) (ftype : Nat) (e : Half) (data : List Byte) :
    ∃ g, (l.mateNote ftype e data).keeper.sent.head? = some g ∧ g.ftype = BitVec.ofNat 8 ftype ∧ g.epoch = e := ⟨_, rfl, rfl, rfl⟩

theorem claimed_sends (l : Live) (e : Half) : (l.claimed e).keeper.st = .claiming ∧ (l.claimed e).keeper.claimDue = true ∧
    (l.claimed e).keeper.stored = e ∧ (l.claimed e).keeper.live = l.keeper.live ∧
    ∃ g, (l.claimed e).keeper.sent.head? = some g ∧ g.ftype = 4 ∧ g.epoch = e := by
  have hk := mateNote_sent ((l.keeperTo .claiming).modK fun k => { k with stored := e, claimDue := true }) 0x04 e []
  have hto := Live.keeperTo_keeper l .claiming
  have hst : (l.keeperTo .claiming).keeper.st = .claiming := by rw [hto]
  have hlive : (l.keeperTo .claiming).keeper.live = l.keeper.live := by rw [hto]
  exact ⟨(congrArg Keeper.st hk).trans hst, congrArg Keeper.claimDue hk, congrArg Keeper.stored hk, (congrArg Keeper.live hk).trans hlive,
    mateNote_head _ _ _ _⟩

theorem claimStart_claims (hand : s.live.keeper.handIn = false) (hst : s.live.keeper.st = .waiting) (hwork : s.live.working = true)
    (hready : s.live.claimReady = true) (hwait : s.live.keeper.waited = true ∨ s.live.keeper.goSeen = true)
    (hhears : s.live.hearsA = false) (hflash : s.live.flashProgram = true) :
    Gives (exec .claimStart s) (fun t => t.live.keeper.st = .claiming ∧ t.live.keeper.claimDue = true ∧
      t.live.keeper.stored = s.live.claimEpoch ∧ t.live.keeper.live = s.live.keeper.live ∧
      ∃ g, t.live.keeper.sent.head? = some g ∧ g.ftype = 4 ∧ g.epoch = s.live.claimEpoch) := by
  show Gives (execClaimStart s) _
  unfold execClaimStart
  refine upd_gives_of_eq (k := s.live.claimed s.live.claimEpoch) ?_ ?_
  · simp only [readySend_of_noHandover hand]
    exact if_pos (by simp [hst, hwork, hready, hwait, hhears, hflash])
  · exact claimed_sends s.live s.live.claimEpoch

theorem claimStart_idle (hand : s.live.keeper.handIn = false)
    (h : s.live.keeper.st ≠ .waiting ∨ s.live.claimReady = false ∨ (s.live.keeper.waited = false ∧ s.live.keeper.goSeen = false) ∨
      s.live.hearsA = true) : exec .claimStart s = .next s := by
  show execClaimStart s = _
  unfold execClaimStart
  refine upd_idle ?_
  simp only [readySend_of_noHandover hand]
  refine if_neg ?_
  rcases h with h | h | ⟨h, h'⟩ | h
  · simp [h]
  · simp [h]
  · simp [h, h']
  · simp [h]

/-! ## The end of the claim window (R417) -/

/-- Rails whose V_t is asked. -/
def Keeper.asks (k : Keeper) (w : List Nat) : Keeper := { k with vtWait := w }

/-- Rails whose V_t the checkpoint does not give are asked for, and nothing else of the keeper core changes (R422). -/
theorem Live.ckptRestore_keeper (l : Live) : ∃ w, l.ckptRestore.keeper = l.keeper.asks w := by
  unfold Live.ckptRestore
  extract_lets askVt
  have hask (k : Live) (hk : k.keeper = l.keeper) : ∃ w, (askVt k).keeper = l.keeper.asks w := by
    refine ⟨k.railNums, ?_⟩
    unfold askVt
    refine (Live.forL_keeps Live.keeper _ _ _ fun j r => ?_).trans (congrArg (·.asks k.railNums) hk)
    split
    · split
      · exact Live.same_keeper (by simp)
      · rfl
    · rfl
  clear_value askVt
  generalize l.keeper.loaded = loaded
  cases loaded with
  | none => exact hask l rfl
  | some b =>
    have hsections : ((l.withSection b 2 (fun l c => l.restoreGauge c (b.rcv - b.lag))).withSection b 3 Live.restoreTherm).keeper = l.keeper :=
      Live.same_keeper (by simp)
    dsimp only
    split
    · refine ⟨l.keeper.vtWait, Eq.trans ?_ (rfl : l.keeper = l.keeper.asks l.keeper.vtWait)⟩
      refine Live.same_keeper (x := Live.withSection _ b 7 Live.restoreBarred) (y := l) ?_
      simp
    · exact hask _ hsections

/-- The window has ended: every bound station holds the lease, or its time is over. -/
def Live.windowEnds (l : Live) : Prop :=
  (l.boundStns ≠ [] ∧ l.boundStns.all (fun p => l.leaseOk p.2) = true) ∨ l.keeper.claimAt + l.claimTicks ≤ l.now

/-- Bound stations that report another lease. -/
def Live.refusals (l : Live) : Nat :=
  (l.boundStns.filter (fun p => p.2.leaseSeen && p.2.lease.state ≠ 0 && !l.leaseOk p.2)).length

/-- The window is closed: who refused is counted, and told, as is that no station accepted. -/
def Live.windowClosed (l : Live) : Live :=
  if l.refusals ≠ 0 || !(l.boundStns.any fun p => l.leaseOk p.2)
  then (l.modK fun k => { k with nrefuse := l.refusals }).raise 0xA005 0xA000 l.refusals
  else l.modK fun k => { k with nrefuse := l.refusals }

theorem windowClosed_keeper (l : Live) : l.windowClosed.keeper = { l.keeper with nrefuse := l.refusals } :=
  (apply_ite Live.keeper _ _ _).trans (ite_self _)

theorem windowClosed_refused {l : Live} (h : l.boundStns.any (fun p => l.leaseOk p.2) = false) :
    l.detailOf 0xA005 0xA000 l.refusals ∈ l.windowClosed.fc.details := by
  unfold Live.windowClosed
  rw [if_pos (by simp [h])]
  exact List.mem_append_right _ (List.mem_singleton.mpr rfl)

section Window
variable (hst : s.live.keeper.st = .claiming) (hlive : s.live.keeper.live = true)
include hst hlive

theorem claimWindowEnd_open (h : ¬s.live.windowEnds) : exec .claimWindowEnd s = .next s := by
  show execClaimWindowEnd s = _
  unfold execClaimWindowEnd
  refine upd_idle ((if_neg (by simp [hst, hlive])).trans (if_neg ?_))
  intro hends
  refine h ?_
  simpa [Live.windowEnds] using hends

theorem claimWindowEnd_keeper (hends : s.live.windowEnds) (hacc : s.live.boundStns.any (fun p => s.live.leaseOk p.2) = true) :
    Gives (exec .claimWindowEnd s) (fun t => t.live.keeper.st = .keeper ∧ t.live.keeper.live = true ∧ t.live.keeper.epoch = s.live.keeper.epoch) := by
  show Gives (execClaimWindowEnd s) _
  unfold execClaimWindowEnd
  refine upd_gives_of_eq (k := (s.live.windowClosed.keeperTo .keeper).ckptRestore) ?_ ?_
  · refine (if_neg (by simp [hst, hlive])).trans ((if_pos ?_).trans (if_pos hacc))
    simpa [Live.windowEnds] using hends
  · obtain ⟨w, hw⟩ := Live.ckptRestore_keeper (s.live.windowClosed.keeperTo .keeper)
    rw [Live.keeperTo_keeper, windowClosed_keeper] at hw
    dsimp only
    rw [hw]
    exact ⟨rfl, hlive, rfl⟩

theorem claimWindowEnd_yields (hends : s.live.windowEnds) (hacc : s.live.boundStns.any (fun p => s.live.leaseOk p.2) = false) :
    Gives (exec .claimWindowEnd s) (fun t => t.live.keeper.st = .watch ∧ t.live.keeper.live = false ∧
      ∃ d ∈ t.live.fc.details, d.code = 0xA005 ∧ d.obj = 0xA000) := by
  show Gives (execClaimWindowEnd s) _
  unfold execClaimWindowEnd
  refine upd_gives_of_eq (k := s.live.windowClosed.keeperYield) ?_ ?_
  · refine (if_neg (by simp [hst, hlive])).trans ((if_pos ?_).trans (if_neg (by simp [hacc])))
    simpa [Live.windowEnds] using hends
  · have hk := Live.keeperYield_keeper s.live.windowClosed
    exact ⟨congrArg Keeper.st hk, congrArg Keeper.live hk, _,
      Live.keeperYield_tells s.live.windowClosed _ (windowClosed_refused hacc) (by show (BitVec.ofNat 16 0xA005).toNat / 4096 = 0xA; decide), rfl, rfl⟩

end Window

/-! ## Every station of a ring that no slot answers on is read (R419) -/

/-- A request that reads state index `w`. -/
def MgmtReq.reads (q : MgmtReq) (w : Nat) : Bool := q.mop = 8 && q.mtag.toNat = w

theorem MgmtReq.reads_iff {q : MgmtReq} {w : Nat} : q.reads w = true ↔ q.mop = 8 ∧ q.mtag.toNat = w := by simp [MgmtReq.reads]

/-- Such a read is asked of the station, or waits. -/
def Stn.Reads (p : Stn) (w : Nat) : Prop := ∃ q : MgmtReq, q.reads w = true ∧ (q ∈ p.queue ∨ p.req = some q)

theorem Stn.reads_iff (p : Stn) (w : Nat) :
    p.Reads w ↔ (p.queue.any (·.reads w) || (match p.req with | some q => q.reads w | none => false)) = true := by
  unfold Stn.Reads
  cases p.req <;> grind

/-- Sending what waits loses no request that is to be answered. -/
theorem stnPump_reads (l : Live) (i c j w : Nat) (h : (l.stn j).Reads w) : ((l.stnPump i c).stn j).Reads w := by
  by_cases hj : j = i
  · subst hj
    induction c generalizing l with
    | zero => exact h
    | succ c ih =>
      obtain ⟨q, hq, hmem⟩ := h
      unfold Live.stnPump
      dsimp only
      split
      next r rest hreq hqueue =>
        have hin : q = r ∨ q ∈ rest := by
          rw [hreq, hqueue] at hmem
          simpa using hmem
        split
        next hquiet =>
          refine ih _ ⟨q, hq, .inl ?_⟩
          rw [Live.modStn_stn_same]
          exact hin.resolve_left (by rintro rfl; simp [MgmtReq.quiet, (MgmtReq.reads_iff.mp hq).1] at hquiet)
        next =>
          rw [Live.modStn_stn_same]
          exact ⟨q, hq, hin.symm.imp_right fun heq => congrArg some heq.symm⟩
      next => exact ⟨q, hq, hmem⟩
  · rw [(l.stnPump_talks i c).others j hj]
    exact h

theorem stnAsk_reads (l : Live) (i : Nat) (q : MgmtReq) (j w : Nat) (h : (l.stn j).Reads w) : ((l.stnAsk i q).stn j).Reads w := by
  refine stnPump_reads _ _ _ _ _ ?_
  obtain ⟨r, hr, hmem⟩ := h
  rw [Live.modStn_stn]
  split
  next hj => exact ⟨r, hr, by rw [← hj]; exact hmem.imp_left fun h => List.mem_append_left _ h⟩
  next => exact ⟨r, hr, hmem⟩

/-- A read is asked for unless one like it already is. -/
theorem stateRead_of_reads {l : Live} {i w : Nat} (h : (l.stn i).Reads w) : l.stateRead i w = l := if_pos (((l.stn i).reads_iff w).mp h)

theorem stateRead_asks {l : Live} {i w : Nat} (h : ¬(l.stn i).Reads w) : l.stateRead i w = l.stnAsk i ((l.stn i).bySlot 8 w 0) :=
  if_neg (mt ((l.stn i).reads_iff w).mpr h)

theorem stateRead_keeps_reads (l : Live) (i v j w : Nat) (h : (l.stn j).Reads w) : ((l.stateRead i v).stn j).Reads w := by
  by_cases hasked : (l.stn i).Reads v
  · rwa [stateRead_of_reads hasked]
  · rw [stateRead_asks hasked]
    exact stnAsk_reads _ _ _ _ _ h

theorem stateRead_reads (l : Live) (i w : Nat) (hw : w < 256) : ((l.stateRead i w).stn i).Reads w := by
  by_cases hasked : (l.stn i).Reads w
  · rwa [stateRead_of_reads hasked]
  · rw [stateRead_asks hasked]
    refine stnPump_reads _ _ _ _ _ ⟨(l.stn i).bySlot 8 w 0, MgmtReq.reads_iff.mpr ⟨rfl, ?_⟩, .inl ?_⟩
    · simp [Stn.bySlot, Nat.mod_eq_of_lt hw]
    · rw [Live.modStn_stn_same]
      exact List.mem_append_right _ (List.mem_singleton.mpr rfl)

theorem stateReads_read (l : Live) (is : List Nat) (w i : Nat) (hw : w < 256) (h : i ∈ is ∨ (l.stn i).Reads w) :
    ((l.forL is fun l i => l.stateRead i w).stn i).Reads w := by
  induction is generalizing l with
  | nil => exact h.resolve_left List.not_mem_nil
  | cons j js ih =>
    refine ih _ ?_
    rcases h with h | h
    · rcases List.mem_cons.mp h with rfl | h
      · exact .inr (stateRead_reads l _ w hw)
      · exact .inl h
    · exact .inr (stateRead_keeps_reads l _ _ _ _ h)

theorem dmissAllSlots_reads {r : Fin 8} (hst : s.live.keeper.st = .keeper) (hrun : 8 ≤ (s.live.ring r).dmissRun) :
    Gives (exec (.dmissAllSlots r) s) (fun t => (t.live.ring r).dmissRun = 0 ∧
      ∀ p ∈ s.live.boundStns, p.2.ring = r.val → ∃ q : MgmtReq, q.mop = 8 ∧ q.mtag = 3 ∧
        (q ∈ (t.live.stn p.1).queue ∨ (t.live.stn p.1).req = some q)) := by
  show Gives (execDmissAllSlots r s) _
  unfold execDmissAllSlots
  refine upd_gives_of_eq (k := (s.live.modRing r fun g => { g with dmissRun := 0 }).forL
    ((s.live.boundStns.filter (fun p => p.2.ring = r.val)).map (·.1)) fun l i => l.stateRead i 3) ?_ ⟨?_, ?_⟩
  · exact if_pos (by simp [hst, hrun])
  · have hbare := Live.forL_keeps (fun l => (l.ring r).bare.dmissRun) (s.live.modRing r fun g => { g with dmissRun := 0 })
      ((s.live.boundStns.filter (fun p => p.2.ring = r.val)).map (·.1)) (fun l i => l.stateRead i 3)
      fun l i => congrArg Ring.dmissRun (stateRead_bare l i 3 r)
    exact hbare.trans (congrArg Ring.dmissRun (s.live.modRing_ring_same r _))
  · intro p hp hring
    obtain ⟨q, hreads, hmem⟩ := stateReads_read (s.live.modRing r fun g => { g with dmissRun := 0 })
      ((s.live.boundStns.filter (fun p => p.2.ring = r.val)).map (·.1)) 3 p.1 (by decide)
      (.inl (List.mem_map_of_mem (List.mem_filter.mpr ⟨hp, by simpa using hring⟩)))
    obtain ⟨hmop, htag⟩ := MgmtReq.reads_iff.mp hreads
    exact ⟨q, hmop, BitVec.eq_of_toNat_eq htag, hmem⟩

theorem dmissAllSlots_idle {r : Fin 8} (h : s.live.keeper.st ≠ .keeper ∨ (s.live.ring r).dmissRun < 8) : exec (.dmissAllSlots r) s = .next s := by
  show execDmissAllSlots r s = _
  unfold execDmissAllSlots
  refine upd_idle (if_neg ?_)
  rcases h with h | h <;> simp [h]

/-- Settles O49: each step on the way to the lease, and the read of every station of a ring whose slots are all silent. -/
theorem claimsGoByEpoch : Obligations.ClaimsGoByEpoch := by
  intro s r
  refine ⟨warmingDone_waits, warmingDone_idle, fun hup hst => ⟨claimWaitExpiry_waited hup hst, claimWaitExpiry_early⟩,
    fun hand => ⟨claimStart_claims hand, claimStart_idle hand⟩,
    fun hst hlive => ⟨claimWindowEnd_keeper hst hlive, claimWindowEnd_yields hst hlive, claimWindowEnd_open hst hlive⟩,
    dmissAllSlots_reads, dmissAllSlots_idle⟩

end Claims
end Sys2Proof.Machine
end

section
/-! PROOFS. Requests that a check lets through or refuses, and the sessions they are under (R463, R467). -/
open Sys2Proof Sys2Proof.Machine
namespace Sys2Proof.Machine

/-! ## What a check gives -/

section Checked
variable {s : State} {q : Req} {check : Check} {run : State → Nat → Nat → Run} {st : Nat} {data : List Byte} {P : State → Prop}
  (hs : Served s.live q.h q.mop q.cls q.body) (hmop : q.mop ≠ 2)
include hs hmop

theorem serve_refused_gives (hcheck : check { s with live := s.live.asked q } q.h.sess.toNat (s.live.sess q.h.sess.toNat).cls = st) (hst : st ≠ 0)
    (hP : P { s with live := (s.live.asked q).answer q st [] }) :
    Gives (.next (s.serve q check run)) (fun t => Replied t q.h q.mop st [] ∧ P t) := by
  refine ⟨_, rfl, ?_⟩
  rw [serve_refused hs hmop hcheck hst]
  exact ⟨answer_replied s _ q st [], hP⟩

theorem serve_answered_gives {t : State} (hcheck : check { s with live := s.live.asked q } q.h.sess.toNat (s.live.sess q.h.sess.toNat).cls = 0)
    (hrun : run { s with live := s.live.begun q } q.h.sess.toNat (s.live.sess q.h.sess.toNat).cls = (t, some (st, data)))
    (hP : P { t with live := t.live.answerKept q st data }) :
    Gives (.next (s.serve q check run)) (fun t => Replied t q.h q.mop st data ∧ P t) := by
  refine ⟨_, rfl, ?_⟩
  rw [serve_answered hs hmop hcheck hrun]
  exact ⟨answerKept_replied t t.live q st data, hP⟩

theorem serve_onLive_answered {f : Live → Nat → Nat → Live × Nat × List Byte} {k : Live}
    (hcheck : check { s with live := s.live.asked q } q.h.sess.toNat (s.live.sess q.h.sess.toNat).cls = 0)
    (hf : f (s.live.begun q) q.h.sess.toNat (s.live.sess q.h.sess.toNat).cls = (k, st, data))
    (hP : P { s with live := k.answerKept q st data }) :
    Gives (.next (s.serve q check (onLive f))) (fun t => Replied t q.h q.mop st data ∧ P t) := by
  refine serve_answered_gives hs hmop hcheck (t := { s with live := k }) ?_ hP
  unfold onLive
  dsimp only
  rw [hf]

end Checked

theorem Gives.left {o : Host.Outcome State Fault Refusal} {P Q : State → Prop} : Gives o (fun t => P t ∧ Q t) → Gives o P :=
  fun ⟨t, ht, hP, _⟩ => ⟨t, ht, hP⟩

/-! ## The sessions -/

section Sessions
variable (l : Live) (q : Req) (st : Nat) (data : List Byte)

/-- The session of a request that has passed its port's checks has just been used. -/
theorem asked_sess : (l.asked q).sess q.h.sess.toNat = { l.sess q.h.sess.toNat with lastAt := l.now } := by
  obtain ⟨cs, w, h⟩ := l.asked_eq q
  rw [h]
  exact tget_tmod_same ({} : Session) l.msgs.sess q.h.sess.toNat fun k => { k with lastAt := l.now }

theorem asked_sess_other {j : Nat} (hj : j ≠ q.h.sess.toNat) : (l.asked q).sess j = l.sess j := by
  obtain ⟨cs, w, h⟩ := l.asked_eq q
  rw [h]
  exact tget_tmod_other ({} : Session) l.msgs.sess q.h.sess.toNat (fun k => { k with lastAt := l.now }) j hj

theorem begun_sess : (l.begun q).sess q.h.sess.toNat =
    { l.sess q.h.sess.toNat with lastAt := l.now, last := some (q.h.seq, q.mop_, q.mcrc), reply := [] } := by
  show ((l.asked q).modSess q.h.sess.toNat _).sess q.h.sess.toNat = _
  rw [Live.modSess_sess_same, asked_sess]

theorem begun_sess_other {j : Nat} (hj : j ≠ q.h.sess.toNat) : (l.begun q).sess j = l.sess j :=
  ((l.asked q).modSess_sess_other _ _ _ hj).trans (asked_sess_other l q hj)

theorem countStatus_msgs (a : CntAttr) : (l.countStatus a st).msgs = l.msgs := by
  obtain ⟨cs, w, h⟩ := l.countStatus_counted a st
  rw [h]

/-- A reply is kept by its session, and changes nothing else of any. -/
theorem answerKept_sess (j : Nat) : ∃ r, (l.answerKept q st data).sess j = { l.sess j with reply := r } := by
  have hsess (p : Nat) (m o : Byte) : ((l.countStatus (l.reqAttr q) st).reply p m o st data).sess j = l.sess j := by
    show tget {} (l.countStatus (l.reqAttr q) st).msgs.sess j = _
    rw [countStatus_msgs]
    rfl
  unfold Live.answerKept Live.replyKept
  rw [Live.modSess_sess]
  split
  next h =>
    subst h
    rw [hsess]
    split
    · exact ⟨_, rfl⟩
    · exact ⟨_, rfl⟩
  next => exact ⟨_, hsess _ _ _⟩

theorem answer_sess (j : Nat) : (l.answer q st data).sess j = l.sess j := by
  show tget {} (l.countStatus (l.reqAttr q) st).msgs.sess j = _
  rw [countStatus_msgs]
  rfl

theorem answerKept_msgs : ∃ ps ss, (l.answerKept q st data).msgs = { l.msgs with ports := ps, sess := ss } := by
  have hkept (k : Live) (p n : Nat) (m o : Byte) : ∃ ps ss, (k.replyKept p n m o st data).msgs = { k.msgs with ports := ps, sess := ss } :=
    ⟨_, _, rfl⟩
  have h := hkept (l.countStatus (l.reqAttr q) st) (MsgHdr.port_ q.h) (MsgHdr.sess_ q.h) (MsgHdr.msess q.h) q.mop_
  rwa [countStatus_msgs] at h

theorem answerKept_recd : ∃ cs, (l.answerKept q st data).recd = { l.recd with ctrs := cs } := by
  obtain ⟨cs, w, h⟩ := l.countStatus_counted (l.reqAttr q) st
  exact ⟨cs, by
    show (l.countStatus (l.reqAttr q) st).recd = _
    rw [h]⟩

end Sessions

/-! ## Counters -/

/-- A request counts at its port and as taken, and nowhere else. -/
theorem countWith_ctr_other (l : Live) {n m : Nat} (k : Nat) (a : CntAttr) (h : m ≠ n) (hn : 64 ≤ n) : (l.countWith n k a).ctr m = l.ctr m := by
  unfold Live.countWith
  rw [Live.bumpCtr_of_ge hn]
  split
  · exact l.addCtr_ctr_other k h
  · split
    · exact l.addCtr_ctr_other k h
    · rfl
  · rfl

theorem begun_ctr (l : Live) (q : Req) {m : Nat} (h72 : m ≠ 72) (h80 : m ≠ 80) (h84 : m ≠ 84) : (l.begun q).ctr m = l.ctr m := by
  have htouch (k : Live) (n : Nat) : (k.touchSess n).ctr m = k.ctr m := by rw [Live.touchSess_eq]; rfl
  have htake (k : Live) : (k.takeReq q).ctr m = k.ctr m := by
    unfold Live.takeReq Live.arrive
    dsimp only
    rw [countWith_ctr_other _ _ _ h72 (by decide)]
    split
    · exact countWith_ctr_other _ _ _ h84 (by decide)
    · split
      · exact countWith_ctr_other _ _ _ h80 (by decide)
      · rfl
  refine (htouch _ _).trans ((htake _).trans rfl)

theorem setCtr_ctr (l : Live) (n : Nat) (c : Counter) (m : Nat) : (l.setCtr n c).ctr m = if m = n then c else l.ctr m := tget_tput _ _ _ _ _

/-- Counters that are cleared are zero, and the others are what they were. -/
theorem clearCtrs_ctr (l : Live) (ns : List Nat) (m : Nat) :
    (l.forL ns fun l n => l.setCtr n {}).ctr m = if m ∈ ns then {} else l.ctr m := by
  induction ns generalizing l with
  | nil => simp [Live.forL]
  | cons n ns ih =>
    refine (ih (l.setCtr n {})).trans ?_
    rw [setCtr_ctr]
    by_cases hns : m ∈ ns <;> by_cases hn : m = n <;> simp [hns, hn]

end Sys2Proof.Machine
end

section
/-! PROOFS. Events, disagreements, counters, samples and records are read (R475, R476, R482, R532 to R535). -/
open Sys2Proof Sys2Proof.Machine
namespace Sys2Proof.Machine

/-! ## Events (R482) -/

section Events
variable {s : State} {h : MsgHdr}

/-- The request of EVENT_POLL. -/
def pollReq (h : MsgHdr) (most : Byte) : Req := { h := h, mop := 0x30, body := [most], tclass := 3 }

/-- The events after a session's pointer, oldest first. -/
def Live.eventsAfter (l : Live) (n : Nat) : List HostEvent := (l.msgs.events.filter (fun e => (l.sess n).ptr < e.seq)).reverse

/-- The pointer after the last event that is given. -/
def Live.pointedAt (l : Live) (n : Nat) (es : List HostEvent) : Live :=
  l.modSess n fun k => { k with ptr := match es.getLast? with | some e => e.seq | none => k.ptr }

/-- Events were lost between the session's pointer and the oldest of those after it. -/
def Live.eventsLost (l : Live) (n : Nat) : Bool :=
  match (l.eventsAfter n).head? with | some e => (l.sess n).ptr + 1 < e.seq | none => false

theorem eventPoll_gives_data (l : Live) (n most : Nat) : ∃ k, (l.pointedAt n ((l.eventsAfter n).take most)).JustCounted k ∧
    l.eventPoll n most = (k, 0, [if l.eventsLost n then 1 else 0, BitVec.ofNat 8 ((l.eventsAfter n).take most).length, 0, 0] ++
      ((l.eventsAfter n).take most).flatMap HostEvent.octets) := by
  refine ⟨if l.eventsLost n then (l.pointedAt n ((l.eventsAfter n).take most)).countWith 79 1
    { cls := some (l.sess n).cls, req := some (l.sess n).port, tclass := some 3 } else l.pointedAt n ((l.eventsAfter n).take most), ?_, rfl⟩
  split
  · exact Live.countWith_counted _ _ _ _
  · exact .refl _

theorem begun_eventsAfter (l : Live) (q : Req) : (l.begun q).eventsAfter q.h.sess.toNat = l.eventsAfter q.h.sess.toNat := by
  have hevents : (l.begun q).msgs.events = l.msgs.events := by
    obtain ⟨cs, w, hb⟩ := l.begun_eq q
    rw [hb]
    rfl
  unfold Live.eventsAfter
  rw [hevents, begun_sess]

theorem begun_eventsLost (l : Live) (q : Req) : (l.begun q).eventsLost q.h.sess.toNat = l.eventsLost q.h.sess.toNat := by
  unfold Live.eventsLost
  rw [begun_eventsAfter, begun_sess]

/-- EVENT_POLL answers with the events it takes, and points its session after the last of them. -/
theorem eventPoll_replies {most : Byte} (hs : Served s.live h 0x30 0 [most]) : Gives (exec (.eventPoll h most) s) (fun t =>
    Replied t h 0x30 0 ([if s.live.eventsLost h.sess.toNat then 1 else 0,
        BitVec.ofNat 8 ((s.live.eventsAfter h.sess.toNat).take most.toNat).length, 0, 0] ++
      ((s.live.eventsAfter h.sess.toNat).take most.toNat).flatMap HostEvent.octets) ∧
    (t.live.sess h.sess.toNat).ptr = (match ((s.live.eventsAfter h.sess.toNat).take most.toNat).getLast? with
      | some e => e.seq | none => (s.live.sess h.sess.toNat).ptr) ∧
    t.live.msgs.events = s.live.msgs.events) := by
  obtain ⟨k, ⟨cs, w, hk⟩, hpoll⟩ := eventPoll_gives_data (s.live.begun (pollReq h most)) h.sess.toNat most.toNat
  have hafter : (s.live.begun (pollReq h most)).eventsAfter h.sess.toNat = s.live.eventsAfter h.sess.toNat := begun_eventsAfter _ (pollReq h most)
  have hlost : (s.live.begun (pollReq h most)).eventsLost h.sess.toNat = s.live.eventsLost h.sess.toNat := begun_eventsLost _ (pollReq h most)
  rw [hafter, hlost] at hpoll
  rw [hafter] at hk
  refine serve_onLive_answered (q := pollReq h most) hs (by simp [pollReq]) rfl hpoll ⟨?_, ?_⟩
  · obtain ⟨r, hr⟩ := answerKept_sess k (pollReq h most) 0 ([if s.live.eventsLost h.sess.toNat then 1 else 0,
        BitVec.ofNat 8 ((s.live.eventsAfter h.sess.toNat).take most.toNat).length, 0, 0] ++
      ((s.live.eventsAfter h.sess.toNat).take most.toNat).flatMap HostEvent.octets) h.sess.toNat
    have hsess : (k.sess h.sess.toNat).ptr = (match ((s.live.eventsAfter h.sess.toNat).take most.toNat).getLast? with
        | some e => e.seq | none => (s.live.sess h.sess.toNat).ptr) := by
      have hpoint : k.sess h.sess.toNat = ((s.live.begun (pollReq h most)).pointedAt h.sess.toNat
        ((s.live.eventsAfter h.sess.toNat).take most.toNat)).sess h.sess.toNat := by rw [hk]; rfl
      have hptr : ((s.live.begun (pollReq h most)).sess h.sess.toNat).ptr = (s.live.sess h.sess.toNat).ptr :=
        (congrArg Session.ptr (begun_sess s.live (pollReq h most)) :)
      rw [hpoint, Live.pointedAt, Live.modSess_sess_same, hptr]
    exact (congrArg Session.ptr hr).trans hsess
  · obtain ⟨ps, ss, hmsgs⟩ := answerKept_msgs k (pollReq h most) 0 ([if s.live.eventsLost h.sess.toNat then 1 else 0,
        BitVec.ofNat 8 ((s.live.eventsAfter h.sess.toNat).take most.toNat).length, 0, 0] ++
      ((s.live.eventsAfter h.sess.toNat).take most.toNat).flatMap HostEvent.octets)
    have hevents : k.msgs.events = s.live.msgs.events := by
      obtain ⟨cs', w', hb⟩ := s.live.begun_eq (pollReq h most)
      rw [hk, hb]
      rfl
    exact (congrArg Msgs.events hmsgs).trans hevents

theorem eventPoll_none {most : Byte} (hs : Served s.live h 0x30 0 [most]) (hnone : s.live.eventsAfter h.sess.toNat = []) :
    Gives (exec (.eventPoll h most) s) (fun t =>
      Replied t h 0x30 0 [0, 0, 0, 0] ∧ (t.live.sess h.sess.toNat).ptr = (s.live.sess h.sess.toNat).ptr) := by
  obtain ⟨t, ht, hreply, hptr, -⟩ := eventPoll_replies hs
  simp only [Live.eventsLost, hnone, List.take_nil] at hreply hptr
  exact ⟨t, ht, hreply, hptr⟩

theorem eventPoll_some {most : Byte} (hs : Served s.live h 0x30 0 [most]) {e f : HostEvent} {rest : List HostEvent}
    (hafter : s.live.eventsAfter h.sess.toNat = e :: rest) (hlast : ((s.live.eventsAfter h.sess.toNat).take most.toNat).getLast? = some f) :
    Gives (exec (.eventPoll h most) s) (fun t =>
      Replied t h 0x30 0 ([if (s.live.sess h.sess.toNat).ptr + 1 < e.seq then 1 else 0,
          BitVec.ofNat 8 ((s.live.eventsAfter h.sess.toNat).take most.toNat).length, 0, 0] ++
        ((s.live.eventsAfter h.sess.toNat).take most.toNat).flatMap HostEvent.octets) ∧
      (t.live.sess h.sess.toNat).ptr = f.seq ∧ t.live.msgs.events = s.live.msgs.events) := by
  obtain ⟨t, ht, hreply, hptr, hevents⟩ := eventPoll_replies hs
  have hlost : s.live.eventsLost h.sess.toNat = decide ((s.live.sess h.sess.toNat).ptr + 1 < e.seq) := by
    unfold Live.eventsLost
    rw [hafter]
    rfl
  rw [hlost] at hreply
  simp only [decide_eq_true_eq] at hreply
  rw [hlast] at hptr
  exact ⟨t, ht, hreply, hptr, hevents⟩

end Events

/-! ## Disagreements (R475) -/

section Disagreements
variable {s : State} {row : Fin 32} {obj : Half}

/-- A disagreement as it is listed. -/
def Live.disEntry (l : Live) (row : Fin 32) (obj : Half) (w want got : Nat) : Disagree :=
  { obj := obj, word := BitVec.ofNat 8 w, kind := row, intent := BitVec.ofNat 32 want, obs := BitVec.ofNat 32 got,
    since := BitVec.ofNat 32 (l.msgs.gen + 1) }

/-- The list takes it. -/
def Live.disNoted (l : Live) (k : Nat) (d : Disagree) : Live := { l with msgs := { l.msgs with dis := tset l.msgs.dis k d } }

theorem disNoted_keep (l : Live) (k : Nat) (d : Disagree) : Live.less 262144 (l.disNoted k d) = Live.less 262144 l := rfl

theorem disagreement_none (h : s.live.disCase row obj.toNat = none) : exec (.disagreementListed row obj) s = .next s := by
  show execDisagreementListed row obj s = _
  unfold execDisagreementListed
  refine upd_idle ?_
  simp only [h]

section Case
variable {w want got : Nat} (hcase : s.live.disCase row obj.toNat = some (w, want, got))
include hcase

theorem disagreement_early (h : tget 0 s.live.msgs.disRun (65536 * row.val + obj.toNat) + 1 < s.live.graceBonds ∨
    s.live.disListed row obj.toNat = true) : exec (.disagreementListed row obj) s = .next s := by
  show execDisagreementListed row obj s = _
  unfold execDisagreementListed
  refine upd_idle ?_
  simp only [hcase]
  exact if_pos (by rcases h with h | h <;> simp [h])

section Due
variable (hup : s.live.fwUp = true)
  (hdue : s.live.graceBonds ≤ tget 0 s.live.msgs.disRun (65536 * row.val + obj.toNat) + 1)
  (hnew : s.live.disListed row obj.toNat = false)
include hup hdue hnew

theorem disagreement_listed {k : Nat} (hfree : (List.range 32).find? (fun e => (tfind s.live.msgs.dis e).isNone) = some k) :
    Gives (exec (.disagreementListed row obj) s) (fun t =>
      (∃ d, tfind t.live.msgs.dis k = some d ∧ d.obj = obj ∧ d.kind = row ∧ d.word = BitVec.ofNat 8 w ∧ d.intent = BitVec.ofNat 32 want ∧
        d.obs = BitVec.ofNat 32 got) ∧
      (∃ v, t.live.msgs.events.head? = some v ∧ v.kind = 7 ∧ v.obj = obj) ∧ SameBut [.msgs] s t) := by
  show Gives (execDisagreementListed row obj s) _
  unfold execDisagreementListed
  refine upd_gives_of_eq (k := (s.live.disNoted k (s.live.disEntry row obj w want got)).hostEvent 7 0 obj.toNat k) ?_
    ⟨⟨_, tfind_tset_same _ _ _, rfl, rfl, rfl, rfl, rfl⟩, ⟨_, rfl, rfl, ?_⟩, live_sameBut (m := 262144) (s := s) (by simp [disNoted_keep]) [.msgs] (by decide)⟩
  · simp only [hcase]
    refine (if_neg ?_).trans ?_
    · simp [hup, hnew, Nat.not_lt.mpr hdue]
    · simp only [hfree]
      rfl
  · simp

theorem disagreement_overflows (hfull : (List.range 32).find? (fun e => (tfind s.live.msgs.dis e).isNone) = none) :
    Gives (exec (.disagreementListed row obj) s) (fun t => t.live.msgs.dovfl = true ∧ t.live.msgs.dis = s.live.msgs.dis) := by
  show Gives (execDisagreementListed row obj s) _
  unfold execDisagreementListed
  refine upd_gives_of_eq (k := ({ s.live with msgs := { s.live.msgs with dovfl := true } } : Live).w1cSet 0xD001 1 21) ?_ ⟨?_, ?_⟩
  · simp only [hcase]
    refine (if_neg ?_).trans ?_
    · simp [hup, hnew, Nat.not_lt.mpr hdue]
    · simp only [hfull]
  · have hmsgs : (({ s.live with msgs := { s.live.msgs with dovfl := true } } : Live).w1cSet 0xD001 1 21).msgs =
        ({ s.live with msgs := { s.live.msgs with dovfl := true } } : Live).msgs := Live.same_msgs (by simp)
    exact (congrArg Msgs.dovfl hmsgs :)
  · have hmsgs : (({ s.live with msgs := { s.live.msgs with dovfl := true } } : Live).w1cSet 0xD001 1 21).msgs =
        ({ s.live with msgs := { s.live.msgs with dovfl := true } } : Live).msgs := Live.same_msgs (by simp)
    exact (congrArg Msgs.dis hmsgs :)

end Due
end Case
end Disagreements

/-! ## Counters (R532, R533) -/

section Counters
variable {s : State} {h : MsgHdr} {first count flags : Byte}

/-- The request of COUNTER_READ. -/
def counterReq (h : MsgHdr) (first count flags : Byte) : Req :=
  { h := h, mop := 0x40, body := [first, count, flags], obj := some (0xC000 + first.toNat), tclass := 4 }

theorem asked_counterCheck (l : Live) (q : Req) (a b c d : Nat) : (l.asked q).counterCheck a b c d = l.counterCheck a b c d := by
  obtain ⟨cs, w, he⟩ := l.asked_eq q
  rw [he]
  rfl

theorem counterRead_refused (hs : Served s.live h 0x40 0 [first, count, flags]) {st : Nat}
    (hcheck : s.live.counterCheck first.toNat count.toNat flags.toNat (s.live.sess h.sess.toNat).cls = st) (hst : st ≠ 0) :
    Gives (exec (.counterRead h first count flags) s) (fun t => Replied t h 0x40 st []) :=
  (serve_refused_gives (q := counterReq h first count flags) (P := fun _ => True) hs (by simp [counterReq])
    ((asked_counterCheck _ _ _ _ _ _).trans hcheck) hst trivial).left

/-- The counters that COUNTER_READ names. -/
def counterNames (first count : Byte) : List Nat := (List.range count.toNat).map (first.toNat + ·)

theorem mem_counterNames {n : Nat} : n ∈ counterNames first count ↔ first.toNat ≤ n ∧ n < first.toNat + count.toNat := by
  simp only [counterNames, List.mem_map, List.mem_range]
  constructor
  · rintro ⟨i, hi, rfl⟩
    omega
  · rintro ⟨hlo, hhi⟩
    exact ⟨n - first.toNat, by omega, by omega⟩

/-- What a counter is read as: its number, its overflow, the tick and its value (R532). -/
def Live.counterOctets (l : Live) (n : Nat) : List Byte :=
  [BitVec.ofNat 8 n, if (l.ctr n).ovf then 1 else 0] ++ leBytes l.tick 6 ++ leBytes (l.ctr n).val.toNat 4

theorem begun_counterOctets (l : Live) (q : Req) {n : Nat} (hn : n < 72) : (l.begun q).counterOctets n = l.counterOctets n := by
  have htick : (l.begun q).tick = l.tick := by
    obtain ⟨cs, w, he⟩ := l.begun_eq q
    rw [he]
    rfl
  unfold Live.counterOctets
  rw [begun_ctr l q (by omega) (by omega) (by omega), htick]

theorem counterRead_gives (hs : Served s.live h 0x40 0 [first, count, flags])
    (hcheck : s.live.counterCheck first.toNat count.toNat flags.toNat (s.live.sess h.sess.toNat).cls = 0) :
    Gives (exec (.counterRead h first count flags) s) (fun t =>
      (∀ n, n < first.toNat ∨ first.toNat + count.toNat ≤ n → n ≠ 72 → n ≠ 80 → n ≠ 84 → t.live.ctr n = s.live.ctr n) ∧
      (flags = 1 → ∀ n, first.toNat ≤ n → n < first.toNat + count.toNat → t.live.ctr n = {}) ∧
      (first.toNat + count.toNat ≤ 72 → Replied t h 0x40 0 ([count, 0, 0, 0] ++ (counterNames first count).flatMap s.live.counterOctets))) := by
  have hread : (s.live.begun (counterReq h first count flags)).counterRead first.toNat count.toNat (flags = 1) =
      (if flags = 1 then (s.live.begun (counterReq h first count flags)).forL (counterNames first count) fun l n => l.setCtr n {}
        else s.live.begun (counterReq h first count flags), 0,
        [BitVec.ofNat 8 count.toNat, 0, 0, 0] ++ (counterNames first count).flatMap (s.live.begun (counterReq h first count flags)).counterOctets) := by
    unfold Live.counterRead
    by_cases hf : flags = 1 <;> simp only [hf, decide_true, decide_false, if_true, if_false] <;> rfl
  obtain ⟨t, ht, hreply, hclear⟩ := serve_onLive_answered (q := counterReq h first count flags) (s := s)
    (check := fun s _ c => s.live.counterCheck first.toNat count.toNat flags.toNat c)
    (f := fun l _ _ => l.counterRead first.toNat count.toNat (flags = 1)) hs (by simp [counterReq])
    ((asked_counterCheck _ _ _ _ _ _).trans hcheck) hread
    (P := fun t => ∀ n, t.live.ctr n = if flags = 1 ∧ n ∈ counterNames first count then {} else (s.live.begun (counterReq h first count flags)).ctr n)
    (fun n => by
      show (if flags = 1 then (s.live.begun (counterReq h first count flags)).forL (counterNames first count) fun l n => l.setCtr n {}
        else s.live.begun (counterReq h first count flags)).ctr n = _
      by_cases hf : flags = 1
      · rw [if_pos hf, clearCtrs_ctr]
        simp [hf]
      · rw [if_neg hf, if_neg fun hand => hf hand.1])
  refine ⟨t, ht, fun n hn h72 h80 h84 => ?_, fun hf n hlo hhi => ?_, fun hlow => ?_⟩
  · rw [hclear, if_neg, begun_ctr _ _ h72 h80 h84]
    rintro ⟨-, hmem⟩
    obtain ⟨hlo, hhi⟩ := mem_counterNames.mp hmem
    omega
  · rw [hclear, if_pos ⟨hf, mem_counterNames.mpr ⟨hlo, hhi⟩⟩]
  · have hoctets : (counterNames first count).flatMap (s.live.begun (counterReq h first count flags)).counterOctets =
        (counterNames first count).flatMap s.live.counterOctets := by
      refine List.flatMap_congr fun n hn => begun_counterOctets _ _ ?_
      exact Nat.lt_of_lt_of_le (mem_counterNames.mp hn).2 hlow
    rw [hoctets, BitVec.ofNat_toNat, BitVec.setWidth_eq] at hreply
    exact hreply

end Counters

/-! ## Samples and records (R534, R535) -/

section Records
variable {s : State} {h : MsgHdr}

/-- The request of SAMPLE_READ. -/
def sampleReq (h : MsgHdr) (first : Half) (count : Byte) : Req := { h := h, mop := 0x41, body := leBytes first.toNat 2 ++ [count], cls := 1, tclass := 4 }

section Sample
variable {first : Half} {count : Byte} (hs : Served s.live h 0x41 1 (leBytes first.toNat 2 ++ [count]))
include hs

theorem sampleRead_outside (hout : 512 < first.toNat + count.toNat) :
    Gives (exec (.sampleRead h first count) s) (fun t => Replied t h 0x41 0x04 []) :=
  (serve_refused_gives (q := sampleReq h first count) (P := fun _ => True) hs (by simp [sampleReq]) (if_pos hout) (by decide) trivial).left

theorem sampleRead_gives (hin : first.toNat + count.toNat ≤ 512) (hdom : s.live.domUp 6 = true) :
    Gives (exec (.sampleRead h first count) s) (fun t => Replied t h 0x41 0 (s.live.sampleRead first.toNat count.toNat)) := by
  have hdom' : (s.live.asked (sampleReq h first count)).domUp 6 = true := by
    obtain ⟨cs, w, he⟩ := s.live.asked_eq (sampleReq h first count)
    rw [he]
    exact hdom
  have hdata : (s.live.begun (sampleReq h first count)).sampleRead first.toNat count.toNat = s.live.sampleRead first.toNat count.toNat := by
    obtain ⟨cs, w, he⟩ := s.live.begun_eq (sampleReq h first count)
    rw [he]
    rfl
  refine (serve_onLive_answered (q := sampleReq h first count) (f := fun l _ _ => (l, 0, l.sampleRead first.toNat count.toNat))
    (P := fun _ => True) hs (by simp [sampleReq]) ?_ (by rw [hdata]) trivial).left
  exact (if_neg (Nat.not_lt.mpr hin)).trans (if_neg (by simp [hdom']))

end Sample

/-- The request of RECORD_READ. -/
def recordReq (h : MsgHdr) (source which : Byte) (start : Word) (blocks : Byte) : Req :=
  { h := h, mop := 0x50, body := [source, which] ++ leBytes start.toNat 4 ++ [blocks], cls := 1, tclass := 4 }

/-- Counts and the parts of the messages leave what a source holds. -/
theorem recordFrom_congr (l : Live) {ms : Msgs} {im : Img} {cs : Tbl Counter} {w : Tbl Nat} (a b c : Nat) :
    ({ l with msgs := ms, img := im, recd := { l.recd with ctrs := cs }, w1c := w } : Live).recordFrom a b c = l.recordFrom a b c := rfl

section Record
variable {source which : Byte} {start : Word} {blocks : Byte} (hs : Served s.live h 0x50 1 ([source, which] ++ leBytes start.toNat 4 ++ [blocks]))
include hs

theorem recordRead_refused (hnone : s.live.recordFrom source.toNat which.toNat start.toNat = none) :
    Gives (exec (.recordRead h source which start blocks) s) (fun t => Replied t h 0x50 0x04 []) := by
  refine (serve_refused_gives (q := recordReq h source which start blocks) (P := fun _ => True) hs (by simp [recordReq]) (if_pos ?_) (by decide) trivial).left
  obtain ⟨cs, w, he⟩ := s.live.asked_eq (recordReq h source which start blocks)
  dsimp only
  rw [he, recordFrom_congr, hnone]
  rfl

theorem recordRead_gives {a : Nat} {b : List Byte} (hfrom : s.live.recordFrom source.toNat which.toNat start.toNat = some (a, b))
    (hdom : s.live.domUp 6 = true) : Gives (exec (.recordRead h source which start blocks) s) (fun t =>
      Replied t h 0x50 0 ([source, BitVec.ofNat 8 (min blocks.toNat (cdiv b.length 32))] ++ leBytes a 4 ++
        padTo (32 * min blocks.toNat (cdiv b.length 32)) 0 b)) := by
  have hasked : (s.live.asked (recordReq h source which start blocks)).recordFrom source.toNat which.toNat start.toNat = some (a, b) := by
    obtain ⟨cs, w, he⟩ := s.live.asked_eq (recordReq h source which start blocks)
    rw [he, recordFrom_congr, hfrom]
  have hbegun : (s.live.begun (recordReq h source which start blocks)).recordFrom source.toNat which.toNat start.toNat = some (a, b) := by
    obtain ⟨cs, w, he⟩ := s.live.begun_eq (recordReq h source which start blocks)
    rw [he, recordFrom_congr, hfrom]
  have hdom' : (s.live.asked (recordReq h source which start blocks)).domUp 6 = true := by
    obtain ⟨cs, w, he⟩ := s.live.asked_eq (recordReq h source which start blocks)
    rw [he]
    exact hdom
  have hread : (s.live.begun (recordReq h source which start blocks)).recordRead source.toNat which.toNat start.toNat blocks.toNat =
      (0, [source, BitVec.ofNat 8 (min blocks.toNat (cdiv b.length 32))] ++ leBytes a 4 ++ padTo (32 * min blocks.toNat (cdiv b.length 32)) 0 b) := by
    unfold Live.recordRead
    rw [hbegun]
    simp only [blocks32, BitVec.ofNat_toNat, BitVec.setWidth_eq]
  refine (serve_onLive_answered (q := recordReq h source which start blocks)
    (f := fun l _ _ => (l, l.recordRead source.toNat which.toNat start.toNat blocks.toNat)) (P := fun _ => True) hs (by simp [recordReq]) ?_
    (by rw [hread]) trivial).left
  have hpass : ¬((s.live.asked (recordReq h source which start blocks)).recordFrom source.toNat which.toNat start.toNat).isNone = true := by
    rw [hasked]
    exact Bool.false_ne_true
  exact (if_neg hpass).trans (if_neg (by simp [hdom']))

end Record
end Records

/-- Settles O53: events, disagreements, counters, samples and records. -/
theorem eventsCountersAndRecordsAreRead : Obligations.EventsCountersAndRecordsAreRead := by
  refine ⟨fun s h => ⟨fun most hs => ⟨eventPoll_none hs, fun e rest hafter f hlast => eventPoll_some hs hafter hlast⟩,
      fun row obj w want got hcase hup => ⟨disagreement_early hcase, fun hdue hnew =>
        ⟨fun k hfree => disagreement_listed hcase hup hdue hnew hfree, disagreement_overflows hcase hup hdue hnew⟩⟩,
      fun row obj => disagreement_none⟩,
    fun s h first count flags at_ source which start blocks => ⟨fun hs => ⟨fun st => counterRead_refused hs, counterRead_gives hs⟩,
      fun hs => ⟨sampleRead_outside hs, sampleRead_gives hs⟩,
      fun hs => ⟨recordRead_refused hs, fun a b hfrom => recordRead_gives hs hfrom⟩⟩⟩

end Sys2Proof.Machine
end

section
/-! PROOFS. READ, WRITE and pins (R463, R471 to R474, R477, R484). -/
open Sys2Proof Sys2Proof.Machine
namespace Sys2Proof.Machine

/-! ## Numbers as octets (R9) -/

theorem leBytes_length (v n : Nat) : (leBytes v n).length = n := by simp [leBytes]

theorem leBytes_succ (v n : Nat) : leBytes v (n + 1) = BitVec.ofNat 8 v :: leBytes (v >>> 8) n := by
  simp only [leBytes, List.range_succ_eq_map, List.map_cons, List.map_map, Nat.mul_zero, Nat.shiftRight_zero]
  refine congrArg _ (List.map_congr_left fun i _ => ?_)
  simp only [Function.comp_apply, Nat.succ_eq_add_one, ← Nat.shiftRight_add]
  rw [show 8 * (i + 1) = 8 + 8 * i by omega]

theorem leNat_leBytes (v n : Nat) : leNat (leBytes v n) = v % 256 ^ n := by
  induction n generalizing v with
  | zero => simp [leBytes, leNat, Nat.mod_one]
  | succ n ih =>
    rw [leBytes_succ, leNat, ih, Nat.pow_succ, Nat.mul_comm (256 ^ n), Nat.mod_mul, BitVec.toNat_ofNat, Nat.shiftRight_eq_div_pow]

theorem sliceB_leBytes (v n : Nat) (bs : List Byte) : sliceB (leBytes v n ++ bs) 0 n = leBytes v n := by
  simp [sliceB, leBytes_length]

theorem numAt_leBytes {v n : Nat} (hv : v < 256 ^ n) (bs : List Byte) : numAt (leBytes v n ++ bs) 0 n = v := by
  rw [numAt, sliceB_leBytes, leNat_leBytes, Nat.mod_eq_of_lt hv]

/-! ## The pinned generations (R473) -/

/-- A table's entry changed where it stands leaves what each entry counts for, if it does for that entry. -/
theorem flatMap_tput {α β : Type} [DecidableEq α] (d : α) (t : Tbl α) (k : Nat) (v : α) (f : α → List β) (hthere : tget d t k ≠ d)
    (hv : v ≠ d) (hf : f v = f (tget d t k)) : (tput d t k v).flatMap (fun p => f p.2) = t.flatMap (fun p => f p.2) := by
  induction t with
  | nil => exact absurd rfl hthere
  | cons p t ih =>
    obtain ⟨j, w⟩ := p
    rw [tget] at hthere hf
    rw [tput]
    by_cases hlt : k < j
    · rw [if_pos hlt] at hthere
      exact absurd rfl hthere
    · rw [if_neg hlt] at hthere hf ⊢
      by_cases heq : k = j
      · rw [if_pos heq] at hf ⊢
        rw [if_neg hv, List.flatMap_cons, List.flatMap_cons, hf]
      · rw [if_neg heq] at hthere hf ⊢
        rw [List.flatMap_cons, List.flatMap_cons, ih hthere hf]

/-- A change of an open session that leaves its pins leaves what is pinned. -/
theorem modSess_pinned (l : Live) (n : Nat) (f : Session → Session) (hopen : (l.sess n).opened = true) (hf : (f (l.sess n)).opened = true)
    (hpins : (f (l.sess n)).pins = (l.sess n).pins) : (l.modSess n f).pinned = l.pinned := by
  have hne {k : Session} (h : k.opened = true) : k ≠ {} := by
    rintro rfl
    exact absurd h Bool.false_ne_true
  refine congrArg List.dedup (flatMap_tput ({} : Session) l.msgs.sess n (f (l.sess n)) (fun k : Session => k.pins.map (·.1)) (hne hopen) (hne hf) ?_)
  exact congrArg (List.map (·.1)) hpins

section Request
variable {s : State} {q : Req} (hopen : (s.live.sess q.h.sess.toNat).opened = true)
include hopen

theorem asked_pinned : (s.live.asked q).pinned = s.live.pinned := by
  obtain ⟨cs, w, he⟩ := s.live.asked_eq q
  rw [he]
  exact modSess_pinned s.live q.h.sess.toNat (fun k => { k with lastAt := s.live.now }) hopen hopen rfl

theorem begun_pinned : (s.live.begun q).pinned = s.live.pinned := by
  have hasked : ((s.live.asked q).sess q.h.sess.toNat).opened = true := by rw [asked_sess]; exact hopen
  exact (modSess_pinned (s.live.asked q) q.h.sess.toNat (fun k => { k with last := some (q.h.seq, q.mop_, q.mcrc), reply := [] }) hasked hasked
    rfl).trans (asked_pinned hopen)

theorem asked_pinnedGen (k : Nat) : ({ s with live := s.live.asked q } : State).pinnedGen k = s.pinnedGen k := by
  unfold State.pinnedGen
  rw [asked_pinned hopen]

theorem begun_pinnedGen (k : Nat) : ({ s with live := s.live.begun q } : State).pinnedGen k = s.pinnedGen k := by
  unfold State.pinnedGen
  rw [begun_pinned hopen]

end Request

/-! ## READ (R471 to R474) -/

section Reads
variable {s : State} {h : MsgHdr} {obj : Half} {first count flags : Byte} {gen : List Byte}

/-- What a message does before its operation leaves every object, its length and its zone. -/
theorem asked_objects (l : Live) (q : Req) (o : Nat) : (l.asked q).objHere o = l.objHere o ∧ (l.asked q).objLen o = l.objLen o ∧
    (l.asked q).zoneAdmits o = l.zoneAdmits o ∧ (l.asked q).zoneHere o = l.zoneHere o ∧ (l.asked q).asleep o = l.asleep o ∧
    (l.asked q).inShadow o = l.inShadow o := by
  obtain ⟨cs, w, he⟩ := l.asked_eq q
  rw [he]
  exact ⟨rfl, rfl, rfl, rfl, rfl, rfl⟩

theorem asked_newest (s : State) (q : Req) : ({ s with live := s.live.asked q } : State).newest = s.newest ∨
    (({ s with live := s.live.asked q } : State).newest = s.live.asked q ∧ s.newest = s.live) := by
  have hms : (s.live.asked q).msgs.published = s.live.msgs.published ∧ (s.live.asked q).msgs.gen = s.live.msgs.gen := by
    obtain ⟨cs, w, he⟩ := s.live.asked_eq q
    rw [he]
    exact ⟨rfl, rfl⟩
  unfold State.newest
  dsimp only
  rw [hms.1, hms.2]
  split
  · cases tfind s.gens s.live.msgs.gen with
    | none => exact .inr ⟨rfl, rfl⟩
    | some g => exact .inl rfl
  · exact .inr ⟨rfl, rfl⟩

theorem asked_readGen {q : Req} (hopen : (s.live.sess q.h.sess.toNat).opened = true) (body : List Byte) (o : Nat) :
    (({ s with live := s.live.asked q } : State).readGen body).objHere o = (s.readGen body).objHere o ∧
    (({ s with live := s.live.asked q } : State).readGen body).objLen o = (s.readGen body).objLen o := by
  have hnewest : ({ s with live := s.live.asked q } : State).newest.objHere o = s.newest.objHere o ∧
      ({ s with live := s.live.asked q } : State).newest.objLen o = s.newest.objLen o := by
    obtain ⟨hhere, hlen, -⟩ := asked_objects s.live q o
    rcases asked_newest s q with hn | ⟨hn, hn'⟩
    · rw [hn]
      exact ⟨rfl, rfl⟩
    · rw [hn, hn']
      exact ⟨hhere, hlen⟩
  unfold State.readGen
  rw [asked_pinnedGen hopen]
  split
  · cases s.pinnedGen (numAt body 5 6) with
    | none => exact hnewest
    | some g => exact ⟨rfl, rfl⟩
  · exact hnewest

theorem asked_readCheck {q : Req} (hopen : (s.live.sess q.h.sess.toNat).opened = true) (body : List Byte) (c : Nat) :
    ({ s with live := s.live.asked q } : State).readCheck body c = s.readCheck body c := by
  obtain ⟨-, -, hzone, -, hasleep, hshadow⟩ := asked_objects s.live q (numAt body 0 2)
  obtain ⟨hhere, hlen⟩ := asked_readGen hopen body (numAt body 0 2)
  have hpwr : (s.live.asked q).pwr = s.live.pwr := Live.asked_pwr _ _
  have hhost (o w : Nat) : (s.live.asked q).hw o w = s.live.hw o w := by
    obtain ⟨cs, w, he⟩ := s.live.asked_eq q
    rw [he]
    rfl
  have hdom (d : Nat) : (s.live.asked q).domUp d = s.live.domUp d := by
    obtain ⟨cs, w, he⟩ := s.live.asked_eq q
    rw [he]
    rfl
  unfold State.readCheck
  dsimp only
  simp only [hzone, hasleep, hshadow, hhere, hlen, hpwr, hhost, hdom]

/-- The body of READ. -/
def readBody (obj : Half) (first count flags : Byte) (gen : List Byte) : List Byte := leBytes obj.toNat 2 ++ [first, count, flags] ++ gen

/-- The request of READ. -/
def readReq (h : MsgHdr) (obj : Half) (first count flags : Byte) (gen : List Byte) : Req :=
  { h := h, mop := 0x10, body := readBody obj first count flags gen, obj := some obj.toNat, tclass := 0 }

theorem half_lt (obj : Half) : obj.toNat < 256 ^ 2 := obj.isLt

theorem readBody_obj : numAt (readBody obj first count flags gen) 0 2 = obj.toNat := by
  rw [readBody, List.append_assoc]
  exact numAt_leBytes (half_lt obj) _

theorem readBody_octets : oct (readBody obj first count flags gen) 2 = first.toNat ∧ oct (readBody obj first count flags gen) 3 = count.toNat ∧
    oct (readBody obj first count flags gen) 4 = flags.toNat := ⟨rfl, rfl, rfl⟩

theorem readBody_gen (k : BitVec 48) : numAt (readBody obj first count flags (leBytes k.toNat 6)) 5 6 = k.toNat := by
  have hdrop : (readBody obj first count flags (leBytes k.toNat 6)).drop 5 = leBytes k.toNat 6 := rfl
  rw [numAt, sliceB, hdrop, List.take_of_length_le (Nat.le_of_eq (leBytes_length _ _)), leNat_leBytes]
  exact Nat.mod_eq_of_lt k.isLt

section Served
variable (hs : Served s.live h 0x10 0 (readBody obj first count flags gen))
include hs

theorem msgRead_refused {st : Nat} (hcheck : s.readCheck (readBody obj first count flags gen) (s.live.sess h.sess.toNat).cls = st) (hst : st ≠ 0) :
    Gives (exec (.msgRead h obj first count flags gen) s) (fun t => Replied t h 0x10 st []) :=
  (serve_refused_gives (q := readReq h obj first count flags gen) (P := fun _ => True) hs (by simp [readReq])
    ((asked_readCheck hs.opened _ _).trans hcheck) hst trivial).left

theorem msgRead_gives {st : Nat} {data : List Byte} (hcheck : s.readCheck (readBody obj first count flags gen) (s.live.sess h.sess.toNat).cls = 0)
    (hread : ({ s with live := s.live.begun (readReq h obj first count flags gen) } : State).read (readBody obj first count flags gen) h.sess.toNat =
      (st, data)) :
    Gives (exec (.msgRead h obj first count flags gen) s) (fun t => Replied t h 0x10 st data ∧ t.gens = s.gens) :=
  serve_answered_gives (q := readReq h obj first count flags gen) (run := fun s n _ => (s, some (s.read (readBody obj first count flags gen) n)))
    (t := { s with live := s.live.begun (readReq h obj first count flags gen) }) hs (by simp [readReq]) ((asked_readCheck hs.opened _ _).trans hcheck)
    (by rw [← hread]; rfl) rfl

end Served

/-- The newest generation is one that is published and kept. -/
def State.Newest (s : State) (g : Live) : Prop := s.live.msgs.published = true ∧ tfind s.gens s.live.msgs.gen = some g

theorem begun_newest {g : Live} (hg : s.Newest g) (q : Req) : ({ s with live := s.live.begun q } : State).newest = g := by
  obtain ⟨hpub, hfind⟩ := hg
  obtain ⟨cs, w, he⟩ := s.live.begun_eq q
  have hpub' : (s.live.begun q).msgs.published = true := by
    rw [he]
    exact hpub
  have hgen : (s.live.begun q).msgs.gen = s.live.msgs.gen := by
    rw [he]
    rfl
  unfold State.newest
  rw [if_pos hpub']
  dsimp only
  rw [hgen, hfind]
  rfl

theorem map_range_add (f : Nat → Word) (a n : Nat) : ((List.range n).map (a + ·)).map f = (List.range n).map (fun i => f (a + i)) := List.map_map

section Newest
variable {g : Live} (hg : s.Newest g)
include hg

theorem read_newest (q : Req) (n : Nat) : ({ s with live := s.live.begun q } : State).read (readBody obj first count 0 gen) n =
    (0, readData g obj.toNat false false ((List.range count.toNat).map (fun i => g.objWord obj.toNat (first.toNat + i)))) := by
  have hread : ({ s with live := s.live.begun q } : State).readGen (readBody obj first count 0 gen) = g := by
    unfold State.readGen
    rw [if_neg (by rw [readBody_octets.2.2]; decide)]
    exact begun_newest hg q
  unfold State.read
  dsimp only
  rw [readBody_octets.2.2, readBody_octets.2.1, readBody_octets.1, readBody_obj, if_neg (by simp), if_neg (by decide), hread, map_range_add]
  rfl

theorem read_shadow (q : Req) (n : Nat) : ({ s with live := s.live.begun q } : State).read (readBody obj first count 1 gen) n =
    if s.live.img.txn.st ≠ .opened then (0x06, []) else if s.live.img.txn.owner ≠ n then (0x07, [])
    else (0, readData g obj.toNat true false
      ((List.range count.toNat).map (fun i => shadowWord s.live.img.txn.image.1 g obj.toNat (first.toNat + i)))) := by
  obtain ⟨cs, w, he⟩ := s.live.begun_eq q
  have htxn : (s.live.begun q).img.txn.st = s.live.img.txn.st ∧ (s.live.begun q).img.txn.owner = s.live.img.txn.owner ∧
      (s.live.begun q).img.txn.image = s.live.img.txn.image := by
    rw [he]
    exact ⟨rfl, rfl, rfl⟩
  obtain ⟨hst, howner, himage⟩ := htxn
  unfold State.read
  dsimp only
  rw [readBody_octets.2.2, readBody_octets.2.1, readBody_octets.1, readBody_obj, begun_newest hg q, hst, howner, himage, if_neg (by simp),
    if_pos (by decide), map_range_add]

end Newest

theorem read_pinned {q : Req} (hopen : (s.live.sess q.h.sess.toNat).opened = true) (k : BitVec 48) (n : Nat) :
    ({ s with live := s.live.begun q } : State).read (readBody obj first count 2 (leBytes k.toNat 6)) n =
      match s.pinnedGen k.toNat with
      | some g => (0, readData g obj.toNat false true ((List.range count.toNat).map (fun i => g.objWord obj.toNat (first.toNat + i))))
      | none => (0x0A, []) := by
  unfold State.read State.readGen
  dsimp only
  rw [readBody_octets.2.2, readBody_octets.2.1, readBody_octets.1, readBody_obj, readBody_gen, begun_pinnedGen hopen]
  cases s.pinnedGen k.toNat with
  | none => rfl
  | some g =>
    dsimp only
    rw [if_neg (by simp), if_neg (by decide), if_pos (by decide), map_range_add]
    rfl

end Reads

/-! ## WRITE (R477, R484) -/

section Writes
variable {s : State} {h : MsgHdr} {obj : Half} {first : Byte} {words : List Word}

/-- The body of WRITE. -/
def writeBody (obj : Half) (first : Byte) (words : List Word) : List Byte :=
  leBytes obj.toNat 2 ++ [first, BitVec.ofNat 8 words.length] ++ words.flatMap (fun w => leBytes w.toNat 4)

/-- The request of WRITE. -/
def writeReq (h : MsgHdr) (obj : Half) (first : Byte) (words : List Word) : Req :=
  { h := h, mop := 0x11, body := writeBody obj first words, cls := 1, obj := some obj.toNat, tclass := 1 }

theorem writeBody_obj : numAt (writeBody obj first words) 0 2 = obj.toNat := by
  rw [writeBody, List.append_assoc]
  exact numAt_leBytes (half_lt obj) _

theorem writeWords_one (v : Word) : writeWords (writeBody obj first [v]) = [(first.toNat, v)] := by
  have hcount : oct (writeBody obj first [v]) 3 = 1 := rfl
  have hfirst : oct (writeBody obj first [v]) 2 = first.toNat := rfl
  have hword : numAt (writeBody obj first [v]) (4 + 4 * 0) 4 = v.toNat := by
    have hdrop : (writeBody obj first [v]).drop (4 + 4 * 0) = leBytes v.toNat 4 ++ [] := rfl
    rw [numAt, sliceB, hdrop]
    exact numAt_leBytes v.isLt []
  rw [writeWords, hcount, hfirst, List.range_one, List.map_singleton, hword, BitVec.ofNat_toNat, BitVec.setWidth_eq, Nat.add_zero]

theorem asked_writeCheck (s : State) (q : Req) (body : List Byte) (c : Nat) :
    ({ s with live := s.live.asked q } : State).writeCheck body c = s.writeCheck body c := by
  obtain ⟨hhere, hlen, hadmits, hzone, hasleep, hshadow⟩ := asked_objects s.live q (numAt body 0 2)
  have hrest : (∀ d, (s.live.asked q).domUp d = s.live.domUp d) ∧ (s.live.asked q).leaseCheck true = s.live.leaseCheck true := by
    obtain ⟨cs, w, he⟩ := s.live.asked_eq q
    rw [he]
    exact ⟨fun _ => rfl, rfl⟩
  unfold State.writeCheck
  dsimp only
  simp only [hhere, hlen, hadmits, hzone, hasleep, hshadow, hrest.1, hrest.2]

/-- No word that WRITE names has a reserved bit set. -/
def wordsClean (oid : Nat) (ws : List (Nat × Word)) : Bool := ws.all (fun p => p.2 &&& rsvMask oid p.1 = 0)

theorem not_clean (oid : Nat) (ws : List (Nat × Word)) : ws.any (fun p => p.2 &&& rsvMask oid p.1 ≠ 0) = !wordsClean oid ws := by
  simp only [wordsClean, List.all_eq_not_any_not, Bool.not_not, decide_not]

/-- WRITE of words with reserved bits, or of more than one effect, is refused (R477). -/
theorem writeObj_refused (l : Live) {body : List Byte} (n : Nat)
    (hbad : 2 ≤ (writeEffs (numAt body 0 2) (writeWords body)).length ∨ wordsClean (numAt body 0 2) (writeWords body) = false) :
    l.writeObj body n = (l, 0x0C, []) := by
  unfold Live.writeObj
  dsimp only
  rw [not_clean]
  cases heffs : writeEffs (numAt body 0 2) (writeWords body) with
  | nil =>
    have hunclean : wordsClean (numAt body 0 2) (writeWords body) = false := hbad.resolve_left (by rw [heffs]; exact Nat.not_succ_le_zero 1)
    exact if_pos (by rw [hunclean]; rfl)
  | cons e es =>
    cases es with
    | nil =>
      have hunclean : wordsClean (numAt body 0 2) (writeWords body) = false := hbad.resolve_left (by rw [heffs]; exact Nat.not_succ_le_self 1)
      exact if_pos (by rw [hunclean]; rfl)
    | cons e' es => rfl

section Clean
variable {body : List Byte} (l : Live) (n : Nat) (hclean : wordsClean (numAt body 0 2) (writeWords body) = true)
include hclean

theorem writeObj_none (heffs : writeEffs (numAt body 0 2) (writeWords body) = []) : l.writeObj body n = (l, 0, []) := by
  unfold Live.writeObj
  dsimp only
  rw [not_clean, hclean, heffs]
  rfl

theorem writeObj_shadow (heffs : writeEffs (numAt body 0 2) (writeWords body) = [0]) : l.writeObj body n =
    if l.shadowFree n ≠ 0 then (l, l.shadowFree n, []) else (l.writeShadow (numAt body 0 2) (writeWords body), 0, []) := by
  unfold Live.writeObj
  dsimp only
  rw [not_clean, hclean, heffs]
  rfl

theorem writeObj_bond (heffs : writeEffs (numAt body 0 2) (writeWords body) = [1]) (hok : l.writeOk (numAt body 0 2) (writeWords body) = true) :
    l.writeObj body n = (l.forL ((writeWords body).filter (fun p => wordEff (numAt body 0 2) p.1 = some 1))
      fun l p => l.pend (numAt body 0 2) p.1 (p.2 &&& writeMask (numAt body 0 2) p.1), 0, []) := by
  unfold Live.writeObj
  dsimp only
  rw [not_clean, hclean, heffs, hok]
  rfl

theorem writeObj_now (heffs : writeEffs (numAt body 0 2) (writeWords body) = [3]) (hok : l.writeOk (numAt body 0 2) (writeWords body) = true) :
    l.writeObj body n = (l.forL ((writeWords body).filter (fun p => wordEff (numAt body 0 2) p.1 = some 3))
      fun l p => l.writeNow (numAt body 0 2) p.1 p.2, 0, []) := by
  unfold Live.writeObj
  dsimp only
  rw [not_clean, hclean, heffs, hok]
  rfl

end Clean

/-- Words that wait for the bond boundary are put at the end of those that wait. -/
theorem pends_bondWrites (l : Live) (o : Nat) (f : Nat × Word → Word) (ps : List (Nat × Word)) :
    (l.forL ps fun l p => l.pend o p.1 (f p)).bondWrites = l.bondWrites ++ ps.map (fun p => (key o p.1, f p)) := by
  induction ps generalizing l with
  | nil => exact (List.append_nil _).symm
  | cons p ps ih =>
    refine (ih (l.pend o p.1 (f p))).trans ?_
    simp [Live.pend]

theorem pends_host (l : Live) (o : Nat) (f : Nat × Word → Word) (ps : List (Nat × Word)) :
    (l.forL ps fun l p => l.pend o p.1 (f p)).host = l.host := Live.forL_keeps Live.host l ps _ fun _ _ => rfl

/-- What the request itself leaves: the words that firmware and the host write, and the transaction but for its last use. -/
theorem begun_parts (l : Live) (q : Req) : (l.begun q).host = l.host ∧ (l.begun q).bondWrites = l.bondWrites ∧ (l.begun q).img = l.heardImg q := by
  obtain ⟨cs, w, he⟩ := l.begun_eq q
  rw [he]
  exact ⟨rfl, rfl, rfl⟩

theorem answered_parts (k : Live) (q : Req) (st : Nat) (data : List Byte) : (k.answerKept q st data).host = k.host ∧
    (k.answerKept q st data).bondWrites = k.bondWrites ∧ (k.answerKept q st data).img = k.img :=
  ⟨Live.less_host (Live.answerKept_keep k q st data 68419584 (by decide)) (by decide),
    Live.less_bondWrites (Live.answerKept_keep k q st data 68419584 (by decide)) (by decide), Live.same_img (by simp)⟩

theorem begun_answered (l : Live) (q : Req) (st : Nat) (data : List Byte) : ((l.begun q).answerKept q st data).host = l.host ∧
    ((l.begun q).answerKept q st data).bondWrites = l.bondWrites ∧ ((l.begun q).answerKept q st data).img.txn.shadow = l.img.txn.shadow := by
  obtain ⟨hhost, hbond, himg⟩ := answered_parts (l.begun q) q st data
  obtain ⟨hhost', hbond', himg'⟩ := begun_parts l q
  exact ⟨hhost.trans hhost', hbond.trans hbond', congrArg (·.txn.shadow) (himg.trans himg')⟩

theorem begun_writeOk (l : Live) (q : Req) (o : Nat) (ws : List (Nat × Word)) : (l.begun q).writeOk o ws = l.writeOk o ws := by
  obtain ⟨cs, w, he⟩ := l.begun_eq q
  rw [he]
  rfl

theorem begun_shadowFree (l : Live) (q : Req) (n : Nat) : (l.begun q).shadowFree n = l.shadowFree n := by
  obtain ⟨cs, w, he⟩ := l.begun_eq q
  rw [he]
  rfl

/-- A setting of the host unit takes its value at once. -/
theorem writeNow_setting (l : Live) {o : Nat} (ho : o = 0xD000) (w : Nat) (v : Word) :
    l.writeNow o w v = l.setHw o w (mergeWord o w (l.hw o w) v) := by
  subst ho
  rfl

theorem writeShadow_one (l : Live) {o w : Nat} (v : Word) (heff : wordEff o w = some 0) (hraw : l.img.txn.raw = none) :
    l.writeShadow o [(w, v)] = l.modTxn fun t =>
      { t with shadow := t.shadow.edit (key o w) (mergeWord o w (l.img.txn.image.1.word o w) v), edited := true } := by
  unfold Live.writeShadow Live.forL
  rw [List.foldl_cons, List.foldl_nil, if_neg (by simp [heff])]
  simp only [Live.modTxn, hraw]

section Served
variable (hs : Served s.live h 0x11 1 (writeBody obj first words)) {P : State → Prop}
include hs

theorem msgWrite_refused {st : Nat} (hcheck : s.writeCheck (writeBody obj first words) (s.live.sess h.sess.toNat).cls = st) (hst : st ≠ 0) :
    Gives (exec (.msgWrite h obj first words) s) (fun t =>
      Replied t h 0x11 st [] ∧ t.live.host = s.live.host ∧ t.live.bondWrites = s.live.bondWrites) := by
  refine serve_refused_gives (q := writeReq h obj first words) hs (by simp [writeReq]) ((asked_writeCheck _ _ _ _).trans hcheck) hst ?_
  have hkeep : Live.less 68550656 ((s.live.asked (writeReq h obj first words)).answer (writeReq h obj first words) st []) = Live.less 68550656 s.live :=
    (Live.answer_keep _ _ _ _ _ (by decide)).trans (s.live.asked_keep _)
  exact ⟨Live.less_host hkeep (by decide), Live.less_bondWrites hkeep (by decide)⟩

theorem msgWrite_gives (hsafe : safexitBit (writeBody obj first words) = false) {k : Live} {st : Nat} {data : List Byte}
    (hcheck : s.writeCheck (writeBody obj first words) (s.live.sess h.sess.toNat).cls = 0)
    (hwrite : (s.live.begun (writeReq h obj first words)).writeObj (writeBody obj first words) h.sess.toNat = (k, st, data))
    (hP : P { s with live := k.answerKept (writeReq h obj first words) st data }) :
    Gives (exec (.msgWrite h obj first words) s) (fun t => Replied t h 0x11 st data ∧ P t) := by
  refine serve_answered_gives (q := writeReq h obj first words) (run := fun s n _ => s.write (writeBody obj first words) n)
    (t := { s with live := k }) hs (by simp [writeReq]) ((asked_writeCheck _ _ _ _).trans hcheck) ?_ hP
  have hrun (t : State) : t.write (writeBody obj first words) h.sess.toNat =
      ({ t with live := (t.live.writeObj (writeBody obj first words) h.sess.toNat).1 },
        some (t.live.writeObj (writeBody obj first words) h.sess.toNat).2) := by
    unfold State.write
    dsimp only
    rw [hsafe, Bool.and_false, if_neg Bool.false_ne_true]
  refine (hrun _).trans ?_
  dsimp only
  rw [hwrite]

section Checked
variable (hsafe : safexitBit (writeBody obj first words) = false)
  (hcheck : s.writeCheck (writeBody obj first words) (s.live.sess h.sess.toNat).cls = 0)
include hsafe hcheck

theorem msgWrite_bad (hbad : 2 ≤ (writeEffs obj.toNat (writeWords (writeBody obj first words))).length ∨
    wordsClean obj.toNat (writeWords (writeBody obj first words)) = false) :
    Gives (exec (.msgWrite h obj first words) s) (fun t => Replied t h 0x11 0x0C [] ∧ t.live.host = s.live.host ∧
      t.live.bondWrites = s.live.bondWrites ∧ t.live.img.txn.shadow = s.live.img.txn.shadow) :=
  msgWrite_gives hs hsafe hcheck (writeObj_refused _ _ (by rw [writeBody_obj]; exact hbad)) (begun_answered _ _ _ _)

section Clean
variable (hclean : wordsClean obj.toNat (writeWords (writeBody obj first words)) = true)
include hclean

theorem msgWrite_none (heffs : writeEffs obj.toNat (writeWords (writeBody obj first words)) = []) :
    Gives (exec (.msgWrite h obj first words) s) (fun t => Replied t h 0x11 0 [] ∧ t.live.host = s.live.host ∧
      t.live.bondWrites = s.live.bondWrites ∧ t.live.img.txn.shadow = s.live.img.txn.shadow) :=
  msgWrite_gives hs hsafe hcheck (writeObj_none _ _ (by rw [writeBody_obj]; exact hclean) (by rw [writeBody_obj]; exact heffs))
    (begun_answered _ _ _ _)

theorem msgWrite_bond (heffs : writeEffs obj.toNat (writeWords (writeBody obj first words)) = [1])
    (hok : s.live.writeOk obj.toNat (writeWords (writeBody obj first words)) = true) :
    Gives (exec (.msgWrite h obj first words) s) (fun t => Replied t h 0x11 0 [] ∧
      t.live.bondWrites = s.live.bondWrites ++ ((writeWords (writeBody obj first words)).filter (fun p => wordEff obj.toNat p.1 = some 1)).map
        (fun p => (key obj.toNat p.1, p.2 &&& writeMask obj.toNat p.1)) ∧ t.live.host = s.live.host) := by
  obtain ⟨hhost, hbond, -⟩ := begun_parts s.live (writeReq h obj first words)
  refine msgWrite_gives hs hsafe hcheck (writeObj_bond _ _ (by rw [writeBody_obj]; exact hclean) (by rw [writeBody_obj]; exact heffs)
    (by rw [writeBody_obj, begun_writeOk]; exact hok)) ⟨?_, ?_⟩
  · rw [(answered_parts _ _ _ _).2.1, writeBody_obj, pends_bondWrites, hbond]
  · rw [(answered_parts _ _ _ _).1, pends_host, hhost]

theorem msgWrite_shadow {st : Nat} (heffs : writeEffs obj.toNat (writeWords (writeBody obj first words)) = [0])
    (hfree : s.live.shadowFree h.sess.toNat = st) (hst : st ≠ 0) :
    Gives (exec (.msgWrite h obj first words) s) (fun t => Replied t h 0x11 st []) := by
  refine (msgWrite_gives (P := fun _ => True) (k := s.live.begun (writeReq h obj first words)) (st := st) (data := []) hs hsafe hcheck ((writeObj_shadow _ _ (by rw [writeBody_obj]; exact hclean)
    (by rw [writeBody_obj]; exact heffs)).trans ?_) trivial).left
  rw [begun_shadowFree, hfree]
  exact if_pos hst

end Clean
end Checked
end Served

/-! One word -/

theorem wordEff_of_writeEffs {o a e : Nat} {v : Word} (h : writeEffs o [(a, v)] = [e]) : wordEff o a = some e := by
  unfold writeEffs at h
  cases he : wordEff o a with
  | none => simp [he] at h
  | some x => simpa [he] using h

section One
variable {v : Word} (hs : Served s.live h 0x11 1 (writeBody obj first [v])) (hsafe : safexitBit (writeBody obj first [v]) = false)
  (hcheck : s.writeCheck (writeBody obj first [v]) (s.live.sess h.sess.toNat).cls = 0)
  (hclean : wordsClean obj.toNat (writeWords (writeBody obj first [v])) = true)
include hs hsafe hcheck hclean

theorem msgWrite_now (heffs : writeEffs obj.toNat (writeWords (writeBody obj first [v])) = [3])
    (hok : s.live.writeOk obj.toNat (writeWords (writeBody obj first [v])) = true) (hobj : obj.toNat = 0xD000) :
    Gives (exec (.msgWrite h obj first [v]) s) (fun t => Replied t h 0x11 0 [] ∧
      t.live.hw obj.toNat first.toNat = mergeWord obj.toNat first.toNat (s.live.hw obj.toNat first.toNat) v ∧
      t.live.bondWrites = s.live.bondWrites) := by
  obtain ⟨hhost, hbond, -⟩ := begun_parts s.live (writeReq h obj first [v])
  have heff : wordEff obj.toNat first.toNat = some 3 := wordEff_of_writeEffs (by rw [← writeWords_one]; exact heffs)
  refine msgWrite_gives hs hsafe hcheck (k := (s.live.begun (writeReq h obj first [v])).setHw obj.toNat first.toNat
    (mergeWord obj.toNat first.toNat ((s.live.begun (writeReq h obj first [v])).hw obj.toNat first.toNat) v))
    ((writeObj_now _ _ (by rw [writeBody_obj]; exact hclean) (by rw [writeBody_obj]; exact heffs)
    (by rw [writeBody_obj, begun_writeOk]; exact hok)).trans ?_) ⟨?_, ?_⟩
  · rw [writeWords_one, writeBody_obj, List.filter_singleton, heff]
    refine congrArg (fun k : Live => (k, 0, ([] : List Byte))) ?_
    exact writeNow_setting _ hobj _ _
  · have hread : ((s.live.begun (writeReq h obj first [v])).hw obj.toNat first.toNat) = s.live.hw obj.toNat first.toNat :=
      congrArg (tget 0 · _) hhost
    refine (congrArg (tget 0 · _) (answered_parts _ _ _ _).1).trans ?_
    rw [← hread]
    exact Live.setHw_hw_same _ _ _ _
  · exact (answered_parts _ _ _ _).2.1.trans hbond

theorem msgWrite_edit (heffs : writeEffs obj.toNat (writeWords (writeBody obj first [v])) = [0]) (hst : s.live.img.txn.st = .opened)
    (howner : s.live.img.txn.owner = h.sess.toNat) (hraw : s.live.img.txn.raw = none) :
    Gives (exec (.msgWrite h obj first [v]) s) (fun t => Replied t h 0x11 0 [] ∧ t.live.img.cur = s.live.img.cur ∧
      t.live.img.txn.shadow = s.live.img.txn.shadow.edit (key obj.toNat first.toNat)
        (mergeWord obj.toNat first.toNat (s.live.img.txn.image.1.word obj.toNat first.toNat) v)) := by
  have heff : wordEff obj.toNat first.toNat = some 0 := wordEff_of_writeEffs (by rw [← writeWords_one]; exact heffs)
  have hfree : s.live.shadowFree h.sess.toNat = 0 := by
    unfold Live.shadowFree
    rw [hst]
    exact if_pos howner
  refine msgWrite_gives hs hsafe hcheck ((writeObj_shadow _ _ (by rw [writeBody_obj]; exact hclean) (by rw [writeBody_obj]; exact heffs)).trans
    (if_neg (by rw [begun_shadowFree, hfree]; decide))) ?_
  rw [writeWords_one, writeBody_obj, (answered_parts _ _ _ _).2.2, writeShadow_one _ _ heff (by rw [(begun_parts _ _).2.2]; exact hraw),
    (begun_parts _ _).2.2]
  dsimp only [Live.modTxn]
  rw [(begun_parts _ _).2.2]
  exact ⟨rfl, rfl⟩

end One
end Writes

/-! ## Pins (R473) -/

section Pins
variable {s : State} {h : MsgHdr} {g : Live}

/-- The newest generation is never dropped. -/
theorem prune_newest (s : State) (hpub : s.live.msgs.published = true) : tfind s.prune.gens s.live.msgs.gen = tfind s.gens s.live.msgs.gen := by
  show tfind (s.gens.filter fun p => (s.live.msgs.published && p.1 = s.live.msgs.gen) || s.live.pinned.contains p.1) _ = _
  generalize s.gens = gens
  induction gens with
  | nil => rfl
  | cons p gens ih =>
    obtain ⟨j, v⟩ := p
    rw [List.filter_cons]
    by_cases hj : s.live.msgs.gen = j
    · rw [if_pos (by simp [hpub, hj])]
      simp [tfind, hj]
    · split
      · rw [tfind, tfind, if_neg hj, if_neg hj, ih]
      · rw [ih, tfind, if_neg hj]

/-- The request of SNAP_PIN, and that of SNAP_RELEASE. -/
def pinReq (h : MsgHdr) : Req := { h := h, mop := 0x12 }
def unpinReq (h : MsgHdr) (k : BitVec 48) : Req := { h := h, mop := 0x13, body := leBytes k.toNat 6 }

theorem begun_gen (q : Req) : (s.live.begun q).msgs.gen = s.live.msgs.gen ∧ (s.live.begun q).msgs.published = s.live.msgs.published ∧
    (s.live.begun q).now = s.live.now := by
  obtain ⟨cs, w, he⟩ := s.live.begun_eq q
  rw [he]
  exact ⟨rfl, rfl, rfl⟩

section Pin
variable (hs : Served s.live h 0x12 0 [])
include hs

theorem snapPin_full (hnew : s.live.pinned.contains s.live.msgs.gen = false) (hfull : 2 ≤ s.live.pinned.length) :
    Gives (exec (.snapPin h) s) (fun t => Replied t h 0x12 0x01 [] ∧ t.gens = s.gens) := by
  refine serve_answered_gives (q := pinReq h) (run := fun s n _ => s.pin n) (t := { s with live := s.live.begun (pinReq h) }) hs (by simp [pinReq])
    rfl ?_ rfl
  unfold State.pin
  dsimp only
  rw [begun_pinned (q := pinReq h) hs.opened, (begun_gen (s := s) (pinReq h)).1]
  exact if_pos (by rw [hnew]; simp [hfull])

/-- A session that pins the newest generation. -/
def Session.pinning (k : Session) (g till : Nat) : Session := { k with pins := (k.pins.filter (fun p => p.1 ≠ g)) ++ [(g, till)] }

theorem snapPin_pins (hg : s.Newest g) (hroom : s.live.pinned.contains s.live.msgs.gen = true ∨ s.live.pinned.length < 2) :
    Gives (exec (.snapPin h) s) (fun t => Replied t h 0x12 0 (leBytes s.live.msgs.gen 6) ∧
      (s.live.msgs.gen, s.live.now + 10000000) ∈ (t.live.sess h.sess.toNat).pins ∧ tfind t.gens s.live.msgs.gen = some g) := by
  obtain ⟨hpub, hfind⟩ := hg
  obtain ⟨hgen, hpub', hnow⟩ := begun_gen (s := s) (pinReq h)
  refine serve_answered_gives (q := pinReq h) (run := fun s n _ => s.pin n)
    (t := { s with live := (s.live.begun (pinReq h)).modSess h.sess.toNat (·.pinning s.live.msgs.gen (s.live.now + 10000000)) }) hs
    (by simp [pinReq]) rfl ?_ ⟨?_, hfind⟩
  · unfold State.pin
    dsimp only
    rw [begun_pinned (q := pinReq h) hs.opened, hgen, hpub', hnow, hfind, hpub]
    refine (if_neg ?_).trans rfl
    rcases hroom with hin | hfew
    · rw [hin]
      simp
    · simp [Nat.not_le.mpr hfew]
  · obtain ⟨r, hr⟩ := answerKept_sess ((s.live.begun (pinReq h)).modSess h.sess.toNat (·.pinning s.live.msgs.gen (s.live.now + 10000000))) (pinReq h) 0
      (leBytes s.live.msgs.gen 6) h.sess.toNat
    dsimp only
    rw [hr, Live.modSess_sess_same]
    exact List.mem_append_right _ (List.mem_singleton.mpr rfl)

end Pin

theorem begun_pins (k : BitVec 48) : ((s.live.begun (unpinReq h k)).sess h.sess.toNat).pins = (s.live.sess h.sess.toNat).pins :=
  (congrArg Session.pins (begun_sess s.live (unpinReq h k)) :)

section Unpin
variable {k : BitVec 48} (hs : Served s.live h 0x13 0 (leBytes k.toNat 6))
include hs

theorem snapRelease_unknown (hnone : (s.live.sess h.sess.toNat).pins.any (fun p => p.1 = k.toNat) = false) :
    Gives (exec (.snapRelease h k) s) (fun t => Replied t h 0x13 0x0A []) := by
  refine (serve_answered_gives (q := unpinReq h k) (run := fun s n _ => s.unpin n k.toNat) (t := { s with live := s.live.begun (unpinReq h k) })
    (P := fun _ => True) hs (by simp [unpinReq]) rfl ?_ trivial).left
  unfold State.unpin
  exact if_neg (by
    show ¬((s.live.begun (unpinReq h k)).sess h.sess.toNat).pins.any _ = true
    rw [begun_pins k, hnone]
    exact Bool.false_ne_true)

/-- The state with a session's pin gone. -/
def State.unpinned (s : State) (n g : Nat) : State :=
  { s with live := s.live.modSess n fun k => { k with pins := k.pins.filter (fun p => p.1 ≠ g) } }

theorem snapRelease_gives (hsome : (s.live.sess h.sess.toNat).pins.any (fun p => p.1 = k.toNat) = true) :
    Gives (exec (.snapRelease h k) s) (fun t => Replied t h 0x13 0 [] ∧
      (t.live.sess h.sess.toNat).pins = (s.live.sess h.sess.toNat).pins.filter (fun p => p.1 ≠ k.toNat) ∧
      (s.live.msgs.published = true → tfind t.gens s.live.msgs.gen = tfind s.gens s.live.msgs.gen)) := by
  refine serve_answered_gives (q := unpinReq h k) (run := fun s n _ => s.unpin n k.toNat)
    (t := (({ s with live := s.live.begun (unpinReq h k) } : State).unpinned h.sess.toNat k.toNat).prune) hs (by simp [unpinReq]) rfl ?_ ⟨?_, fun hpub => ?_⟩
  · unfold State.unpin
    exact if_pos (by
      show ((s.live.begun (unpinReq h k)).sess h.sess.toNat).pins.any _ = true
      rw [begun_pins k, hsome])
  · obtain ⟨r, hr⟩ := answerKept_sess (({ s with live := s.live.begun (unpinReq h k) } : State).unpinned h.sess.toNat k.toNat).live (unpinReq h k) 0 []
      h.sess.toNat
    refine (congrArg Session.pins hr).trans ((congrArg Session.pins (Live.modSess_sess_same _ _ _)).trans ?_)
    exact congrArg (List.filter _) (begun_pins k)
  · obtain ⟨cs, w, he⟩ := s.live.begun_eq (unpinReq h k)
    have hpub' : (s.live.begun (unpinReq h k)).msgs.published = true := by
      rw [he]
      exact hpub
    have hgen : (s.live.begun (unpinReq h k)).msgs.gen = s.live.msgs.gen := by
      rw [he]
      rfl
    have hprune := prune_newest (({ s with live := s.live.begun (unpinReq h k) } : State).unpinned h.sess.toNat k.toNat) hpub'
    rw [← hgen]
    exact hprune

end Unpin

/-- Pins whose time is over. -/
def Session.expired (k : Session) (g now : Nat) : Session := { k with pins := k.pins.filter (fun p => p.1 ≠ g || now < p.2) }

theorem expire_sess (l : Live) (g : Nat) (ns : List Nat) (hns : ns.Nodup) (m : Nat) :
    (l.forL ns fun l n => l.modSess n (·.expired g l.now)).sess m = if m ∈ ns then (l.sess m).expired g l.now else l.sess m := by
  induction ns generalizing l with
  | nil => simp [Live.forL]
  | cons n ns ih =>
    obtain ⟨hn, hns⟩ := List.nodup_cons.mp hns
    refine (ih (l.modSess n (·.expired g l.now)) hns).trans ?_
    rw [Live.modSess_sess]
    by_cases hm : m = n
    · subst hm
      rw [if_neg hn, if_pos rfl, if_pos List.mem_cons_self]
    · rw [if_neg hm]
      by_cases hin : m ∈ ns
      · rw [if_pos hin, if_pos (List.mem_cons_of_mem n hin)]
        rfl
      · rw [if_neg hin, if_neg (by simp [hm, hin])]

theorem snapPinExpiry_gives (s : State) (k : BitVec 48) (m : Fin 16) : Gives (exec (.snapPinExpiry k) s) (fun t =>
    (t.live.sess m).pins = (s.live.sess m).pins.filter (fun p => p.1 ≠ k.toNat || s.live.now < p.2) ∧
    (s.live.msgs.published = true → tfind t.gens s.live.msgs.gen = tfind s.gens s.live.msgs.gen)) := by
  have hsess := expire_sess s.live k.toNat (List.range 16) List.nodup_range m
  rw [if_pos (List.mem_range.mpr m.isLt)] at hsess
  refine ⟨_, rfl, congrArg Session.pins hsess, fun hpub => ?_⟩
  have hms (r : Msgs → Nat × Bool) (hr : ∀ ms ss, r { ms with sess := ss } = r ms) :
      r (s.live.each 16 fun l n => l.modSess n (·.expired k.toNat l.now)).msgs = r s.live.msgs :=
    Live.each_keeps (fun l => r l.msgs) s.live 16 _ fun l n => hr _ _
  have hkept := hms (fun ms => (ms.gen, ms.published)) fun _ _ => rfl
  have hgen : (s.live.each 16 fun l n => l.modSess n (·.expired k.toNat l.now)).msgs.gen = s.live.msgs.gen := congrArg Prod.fst hkept
  have hpub' : (s.live.each 16 fun l n => l.modSess n (·.expired k.toNat l.now)).msgs.published = true := (congrArg Prod.snd hkept).trans hpub
  have hprune := prune_newest { s with live := s.live.each 16 fun l n => l.modSess n (·.expired k.toNat l.now) } hpub'
  dsimp only at hprune
  rw [hgen] at hprune
  exact hprune

end Pins

/-- Settles O52: READ of one generation, WRITE of words of one effect, and the pins. -/
theorem readsWritesAndPins : Obligations.ReadsWritesAndPins := by
  intro s h obj first count g
  refine ⟨fun flags gen hs => ⟨fun st => msgRead_refused hs, fun hcheck => ⟨?_, ?_, ?_⟩⟩, fun words hs hsafe =>
      ⟨fun st => msgWrite_refused hs, fun hcheck => ⟨msgWrite_bad hs hsafe hcheck, msgWrite_none hs hsafe hcheck, msgWrite_bond hs hsafe hcheck,
        ?_, fun hclean heffs => ⟨?_, ?_, ?_, ?_⟩⟩⟩,
    fun hs hg => ⟨snapPin_pins hs hg, snapPin_full hs⟩, fun k hs => ⟨snapRelease_gives hs, snapRelease_unknown hs⟩, snapPinExpiry_gives s⟩
  · rintro rfl hg
    obtain ⟨t, ht, hreply, hgens⟩ := msgRead_gives hs hcheck (read_newest hg _ _)
    exact ⟨t, ht, hgens, hreply⟩
  · rintro k rfl rfl
    have hread := read_pinned (first := first) (count := count) (obj := obj) (q := readReq h obj first count 2 (leBytes k.toNat 6)) hs.opened k h.sess.toNat
    refine ⟨fun hgen => ?_, fun hgen => ?_⟩
    · rw [hgen] at hread
      exact (msgRead_gives hs hcheck hread).left
    · rw [hgen] at hread
      exact (msgRead_gives hs hcheck hread).left
  · rintro rfl hg
    have hread := read_shadow (first := first) (count := count) (obj := obj) (gen := gen) hg (readReq h obj first count 1 gen) h.sess.toNat
    refine ⟨fun hst => ?_, fun hst howner => ?_, fun hst howner => ?_⟩
    · rw [if_pos hst] at hread
      exact (msgRead_gives hs hcheck hread).left
    · rw [if_neg (not_not_intro hst), if_pos howner] at hread
      exact (msgRead_gives hs hcheck hread).left
    · rw [if_neg (not_not_intro hst), if_neg (not_not_intro howner)] at hread
      exact (msgRead_gives hs hcheck hread).left
  · rintro hclean v rfl heffs hok hobj
    exact msgWrite_now hs hsafe hcheck hclean heffs hok hobj
  · intro hst
    refine msgWrite_shadow hs hsafe hcheck hclean heffs ?_ (by decide)
    unfold Live.shadowFree
    rcases hst with hst | hst <;> rw [hst]
  · intro hst
    refine msgWrite_shadow hs hsafe hcheck hclean heffs ?_ (by decide)
    unfold Live.shadowFree
    rw [hst]
  · intro hst howner
    refine msgWrite_shadow hs hsafe hcheck hclean heffs ?_ (by decide)
    unfold Live.shadowFree
    rw [hst]
    exact if_neg howner
  · rintro v rfl hst howner hraw
    exact msgWrite_edit hs hsafe hcheck hclean heffs hst howner hraw

end Sys2Proof.Machine
end

section
/-! PROOFS. Sessions open, authenticate, close and time out (R461 to R468). -/
open Sys2Proof Sys2Proof.Machine
namespace Sys2Proof.Machine

/-! ## A session closes (R468) -/

section Close
variable (l : Live) (n : Nat)

/-- The end of a transaction is an event, and leaves the sessions and the ports. -/
theorem txnRollback_sessions (outcome : Nat) : (l.txnRollback outcome).msgs.sess = l.msgs.sess ∧ (l.txnRollback outcome).msgs.ports = l.msgs.ports := by
  unfold Live.txnRollback
  split
  · obtain ⟨cs, w, hc⟩ := (l.txnEnd outcome 5).count_counted 122
    rw [hc]
    exact ⟨rfl, rfl⟩
  · exact ⟨rfl, rfl⟩

/-- What a session that closes takes back of the transaction. -/
def Live.rolledBack (l : Live) (n : Nat) : Live := if l.img.txn.st = .opened && l.img.txn.owner = n then l.txnRollback 3 else l

/-- The staging of a session that closes is discarded, and the idle time of service starts. -/
def Live.idled (l : Live) (n : Nat) : Live := if (l.sess n).opened then l.modPwr fun p => { p with idleAt := l.now } else l

theorem closeSess_eq : l.closeSess n = (((l.rolledBack n).stgClose n).idled n).modSess n fun _ => {} := rfl

theorem idled_parts : (l.idled n).msgs = l.msgs ∧ (l.idled n).img = l.img := by
  unfold Live.idled
  split <;> exact ⟨rfl, rfl⟩

theorem stgClose_parts : (l.stgClose n).msgs = l.msgs ∧ (l.stgClose n).img = l.img := ⟨Live.same_msgs (by simp), Live.same_img (by simp)⟩

theorem rolledBack_sessions : (l.rolledBack n).msgs.sess = l.msgs.sess ∧ (l.rolledBack n).msgs.ports = l.msgs.ports := by
  unfold Live.rolledBack
  split
  · exact txnRollback_sessions l 3
  · exact ⟨rfl, rfl⟩

theorem closed_msgs : (((l.rolledBack n).stgClose n).idled n).msgs = (l.rolledBack n).msgs :=
  (idled_parts _ n).1.trans (stgClose_parts _ n).1

theorem closeSess_sess : (l.closeSess n).sess n = {} := Live.modSess_sess_same _ _ _

theorem closeSess_sess_other {j : Nat} (hj : j ≠ n) : (l.closeSess n).sess j = l.sess j := by
  rw [closeSess_eq, Live.modSess_sess_other _ _ _ _ hj]
  show tget {} (((l.rolledBack n).stgClose n).idled n).msgs.sess j = _
  rw [closed_msgs, (rolledBack_sessions l n).1]
  rfl

theorem closeSess_mport (p : Nat) : (l.closeSess n).mport p = l.mport p := by
  show tget {} (((l.rolledBack n).stgClose n).idled n).msgs.ports p = _
  rw [closed_msgs, (rolledBack_sessions l n).2]
  rfl

theorem closeSess_img : (l.closeSess n).img = (l.rolledBack n).img := (idled_parts _ n).2.trans (stgClose_parts _ n).2

/-- An open transaction of the session is rolled back. -/
theorem closeSess_rolls (hst : l.img.txn.st = .opened) (howner : l.img.txn.owner = n) : (l.closeSess n).img.txn.st = .idle := by
  obtain ⟨cs, w, hc⟩ := (l.txnEnd 3 5).count_counted 122
  rw [closeSess_img, Live.rolledBack, if_pos (by simp [hst, howner]), Live.txnRollback, if_pos hst, hc]
  rfl

theorem closeSess_txn (hst : l.img.txn.st ≠ .opened) : (l.closeSess n).img = l.img := by
  rw [closeSess_img, Live.rolledBack, if_neg (by simp [hst])]

end Close

/-! ## Replies and sessions -/

section Replies
variable (k : Live) (q : Req) (st : Nat) (data : List Byte)

/-- A reply reaches no session but the request's own. -/
theorem answerKept_sess_other {j : Nat} (hj : j ≠ q.h.sess.toNat) : (k.answerKept q st data).sess j = k.sess j := by
  unfold Live.answerKept Live.replyKept
  exact (Live.modSess_sess_other _ _ _ _ hj).trans (answer_sess k q st data j)

/-- Nor one that is neither open nor pending. -/
theorem answerKept_sess_closed (h : k.sess q.h.sess.toNat = {}) : (k.answerKept q st data).sess q.h.sess.toNat = {} := by
  have hsess : ((k.countStatus (k.reqAttr q) st).reply (MsgHdr.port_ q.h) (MsgHdr.msess q.h) q.mop_ st data).sess q.h.sess.toNat = {} :=
    (answer_sess k q st data _).trans h
  unfold Live.answerKept Live.replyKept
  refine (Live.modSess_sess_same _ _ _).trans ?_
  rw [show MsgHdr.sess_ q.h = q.h.sess.toNat from rfl, hsess]
  rfl

theorem answerKept_lockEnd (p : Nat) : ((k.answerKept q st data).mport p).lockEnd = (k.mport p).lockEnd := by
  have hcount : (k.countStatus (k.reqAttr q) st).mport p = k.mport p := congrArg (fun ms : Msgs => tget ({} : MsgPort) ms.ports p) (countStatus_msgs k st _)
  have hreply := Live.modMport_mport (k.countStatus (k.reqAttr q) st) (MsgHdr.port_ q.h)
    (fun p => { p with reply := some (msgFrame (MsgHdr.msess q.h) q.mop_ (BitVec.ofNat 8 st :: data)), inbox := none }) p
  refine (congrArg MsgPort.lockEnd hreply :).trans ?_
  rw [← hcount]
  split
  next hp => rw [hp]
  next => rfl

end Replies

/-! ## OPEN (R465) -/

/-- A request under session 0, to a port that firmware serves in its turn, is OPEN or is denied (R463). -/
structure Knocks (l : Live) (q : Req) : Prop where
  takes : l.portTakes (MsgHdr.port_ q.h) q.frame = true
  served : l.serving (MsgHdr.port_ q.h) = .firmware
  turn : l.turn (MsgHdr.port_ q.h) = true
  number : q.h.sess = 0
  opens : q.mop = 1
  body : bodyOk q.mop q.body = true
  power : l.pwr.st = .holdup → holdupServes q.mop q.body = true

/-- The controller once its port has taken the request. -/
def Live.knocked (l : Live) (q : Req) : Live := (l.setBatch (l.batch (MsgHdr.port_ q.h)).tail).takeReq q

theorem knocked_eq (l : Live) (q : Req) : ∃ cs w, l.knocked q = { l with msgs := l.takenMsgs q, recd := { l.recd with ctrs := cs }, w1c := w } :=
  l.taken_eq q

section Knock
variable {s : State} {q : Req} (hq : Knocks s.live q) {check : Check} {run : State → Nat → Nat → Run}
include hq

omit hq in
theorem knocked_pwr : (s.live.knocked q).pwr = s.live.pwr := Live.takeReq_pwr _ q

theorem serve_knocks : s.serve q check run = ({ s with live := s.live.knocked q } : State).serveOp q check run := by
  have hnum : MsgHdr.sess_ q.h = 0 := congrArg BitVec.toNat hq.number
  have hrom : (!bodyOk q.mop q.body || ((s.live.knocked q).pwr.recovery && !romServes q.mop)) = false := by
    rw [hq.body, hq.opens]
    simp [romServes]
  rw [serve_in_turn check run hq.takes (.inl hq.served) hq.turn]
  unfold State.serveFw
  exact (if_neg (ne_true_of_eq_false hrom)).trans <| (if_pos hnum).trans (if_pos hq.opens)

variable {st : Nat} {data : List Byte} {P : State → Prop}

theorem serve_knock_refused (hcheck : check { s with live := s.live.knocked q } 0 (s.live.sess 0).cls = st) (hst : st ≠ 0)
    (hP : P { s with live := (s.live.knocked q).answer q st [] }) :
    Gives (.next (s.serve q check run)) (fun t => Replied t q.h q.mop st [] ∧ P t) := by
  have hnum : MsgHdr.sess_ q.h = 0 := congrArg BitVec.toNat hq.number
  have hsess : (s.live.knocked q).sess 0 = s.live.sess 0 := Live.takeReq_sess _ q 0
  refine ⟨_, rfl, ?_⟩
  rw [serve_knocks hq]
  unfold State.serveOp
  simp only [hnum, hsess, hcheck]
  rw [if_pos hst]
  exact ⟨answer_replied s _ q st [], hP⟩

theorem serve_knock_answered {t : State} (hcheck : check { s with live := s.live.knocked q } 0 (s.live.sess 0).cls = 0)
    (hrun : run { s with live := s.live.knocked q } 0 (s.live.sess 0).cls = (t, some (st, data)))
    (hP : P { t with live := t.live.answerKept q st data }) :
    Gives (.next (s.serve q check run)) (fun t => Replied t q.h q.mop st data ∧ P t) := by
  have hnum : MsgHdr.sess_ q.h = 0 := congrArg BitVec.toNat hq.number
  have hsess : (s.live.knocked q).sess 0 = s.live.sess 0 := Live.takeReq_sess _ q 0
  have hup : ¬((decide (s.live.pwr.st = .holdup) && !holdupServes q.mop q.body) = true) := by
    rw [Bool.and_eq_true, decide_eq_true_eq]
    rintro ⟨hst, hno⟩
    rw [hq.power hst] at hno
    exact absurd hno Bool.false_ne_true
  refine ⟨_, rfl, ?_⟩
  rw [serve_knocks hq]
  unfold State.serveOp
  simp only [hnum, hsess, hcheck, knocked_pwr]
  rw [if_neg (fun h => h rfl), if_neg hup]
  simp only [if_true, hrun]
  exact ⟨answerKept_replied t t.live q st data, hP⟩

end Knock

section Open
variable {s : State} {h : MsgHdr} {c : BitVec 2}

/-- The request of OPEN. -/
def openReq (h : MsgHdr) (c : BitVec 2) : Req := { h := h, mop := 0x01, body := [c.setWidth 8] }

theorem knocked_openCheck (l : Live) (q : Req) (p k : Nat) : (l.knocked q).openCheck p k = l.openCheck p k := by
  obtain ⟨cs, w, he⟩ := knocked_eq l q
  have hlock : (l.knocked q).mport p = { l.mport p with inbox := ((l.knocked q).mport p).inbox } := by
    rw [he]
    have hget := tget_tmod ({} : MsgPort) l.msgs.ports (MsgHdr.port_ q.h) (fun p => { p with inbox := some q.frame }) p
    by_cases hp : p = MsgHdr.port_ q.h
    · subst hp
      rw [if_pos rfl] at hget
      exact hget.trans (by rw [show ({ l with msgs := l.takenMsgs q, recd := { l.recd with ctrs := cs }, w1c := w } : Live).mport _ = _ from hget]; rfl)
    · rw [if_neg hp] at hget
      exact hget.trans (by rw [show ({ l with msgs := l.takenMsgs q, recd := { l.recd with ctrs := cs }, w1c := w } : Live).mport _ = _ from hget]; rfl)
  have hopens : (l.knocked q).classOpens k = l.classOpens k := by
    rw [he]
    rfl
  unfold Live.openCheck
  rw [hlock, hopens]

theorem knocked_sess (l : Live) (q : Req) (j : Nat) : (l.knocked q).sess j = l.sess j := by
  obtain ⟨cs, w, he⟩ := knocked_eq l q
  rw [he]
  rfl

theorem knocked_freeSess (l : Live) (q : Req) : (l.knocked q).freeSess = l.freeSess := by
  unfold Live.freeSess
  simp only [knocked_sess]

theorem knocked_clock (l : Live) (q : Req) : (l.knocked q).now = l.now ∧ (l.knocked q).msgs.evSeq = l.msgs.evSeq := by
  obtain ⟨cs, w, he⟩ := knocked_eq l q
  rw [he]
  exact ⟨rfl, rfl⟩

/-- The free session that is taken is not number 0. -/
theorem freeSess_pos {l : Live} {m : Nat} (h : l.freeSess = some m) : m ≠ 0 := by
  unfold Live.freeSess at h
  split at h
  · cases h
  · have := List.mem_of_find?_eq_some h
    simp at this
    exact this.2

section Heard
variable (hport : h.port.val ≠ 2) (hknocks : Knocks s.live (openReq h c))
include hport hknocks

theorem msgOpen_denied (hno : s.live.classOpens c.toNat = false ∨ (c ≠ 0 ∧ (s.live.mport h.port).lockEnd ≠ none)) :
    Gives (exec (.msgOpen h c) s) (fun t => Replied t h 0x01 0x02 [] ∧ ∀ m, t.live.sess m = s.live.sess m) := by
  have hcheck : s.live.openCheck h.port.val c.toNat = 2 := by
    refine (if_neg hport).trans (if_pos ?_)
    rcases hno with hno | ⟨hc, hlock⟩
    · simp [hno]
    · simp [Option.isSome_iff_ne_none.mpr hlock, show c.toNat ≠ 0 from fun h0 => hc (BitVec.eq_of_toNat_eq h0)]
  exact serve_knock_refused hknocks ((knocked_openCheck _ _ _ _).trans hcheck) (by decide)
    fun m => (answer_sess _ _ _ _ m).trans (knocked_sess _ _ m)

section Allowed
variable (hopens : s.live.classOpens c.toNat = true) (hlock : c ≠ 0 → (s.live.mport h.port).lockEnd = none)
include hopens hlock

/-- OPEN that is not denied opens a session, if one is free. -/
theorem msgOpen_opens {k : Live} {st : Nat} {data : List Byte}
    (hrun : (s.live.knocked (openReq h c)).openSess h.port.val c.toNat = (k, st, data)) {P : State → Prop}
    (hP : P { s with live := k.answerKept (openReq h c) st data }) :
    Gives (exec (.msgOpen h c) s) (fun t => Replied t h 0x01 st data ∧ P t) := by
  have hcheck : s.live.openCheck h.port.val c.toNat = 0 := by
    refine (if_neg hport).trans (if_neg ?_)
    by_cases hc : c = 0
    · simp [hc] at hopens ⊢
      exact hopens
    · simp [hopens, hlock hc]
  refine serve_knock_answered (t := { s with live := k }) hknocks ((knocked_openCheck _ _ _ _).trans hcheck) ?_ hP
  unfold onLive
  dsimp only
  rw [show MsgHdr.port_ h = h.port.val from rfl, hrun]

theorem msgOpen_busy (hfree : s.live.freeSess = none) : Gives (exec (.msgOpen h c) s) (fun t => Replied t h 0x01 0x01 []) := by
  refine (msgOpen_opens (P := fun _ => True) hport hknocks hopens hlock (k := s.live.knocked (openReq h c)) ?_ trivial).left
  unfold Live.openSess
  rw [knocked_freeSess, hfree]

section Found
variable {m : Nat} (hfree : s.live.freeSess = some m)
include hfree

/-- A session of class MONITOR is open at once. -/
theorem msgOpen_monitor (hc : c = 0) : Gives (exec (.msgOpen h c) s) (fun t => Replied t h 0x01 0 [BitVec.ofNat 8 m, 0, 0, 0] ∧
    t.live.sess m = { port := h.port, openAt := s.live.now, lastAt := s.live.now, ptr := s.live.msgs.evSeq, opened := true }) := by
  obtain ⟨hnow, hseq⟩ := knocked_clock s.live (openReq h c)
  refine msgOpen_opens hport hknocks hopens hlock (k := (s.live.knocked (openReq h c)).modSess m fun _ =>
    { port := h.port, openAt := s.live.now, lastAt := s.live.now, ptr := s.live.msgs.evSeq, opened := true }) ?_ ?_
  · unfold Live.openSess
    rw [knocked_freeSess, hfree, hnow, hseq]
    exact (if_neg hport).trans (if_pos (congrArg BitVec.toNat hc))
  · refine (answerKept_sess_other _ _ _ _ ?_).trans (Live.modSess_sess_same _ _ _)
    rw [hknocks.number]
    exact freeSess_pos hfree

/-- One of another class waits for AUTH, with a nonce. -/
theorem msgOpen_pends (hc : c ≠ 0) : Gives (exec (.msgOpen h c) s) (fun t => ∃ nonce, nonce.length = 16 ∧
    Replied t h 0x01 0 ([BitVec.ofNat 8 m, 0, 0, 0] ++ nonce) ∧
    t.live.sess m = { port := h.port, openAt := s.live.now, lastAt := s.live.now, ptr := s.live.msgs.evSeq, pendg := true, cls := c.toNat,
                      nonce := nonce }) := by
  obtain ⟨hnow, hseq⟩ := knocked_clock s.live (openReq h c)
  obtain ⟨t, ht, hreply, hsess⟩ := msgOpen_opens hport hknocks hopens hlock (st := 0)
    (data := [BitVec.ofNat 8 m, 0, 0, 0] ++ ((s.live.knocked (openReq h c)).drawBytes 16).1)
    (k := ((s.live.knocked (openReq h c)).drawBytes 16).2.modSess m fun _ =>
      { port := h.port, openAt := s.live.now, lastAt := s.live.now, ptr := s.live.msgs.evSeq, pendg := true, cls := c.toNat,
        nonce := ((s.live.knocked (openReq h c)).drawBytes 16).1 })
    (by
      unfold Live.openSess
      rw [knocked_freeSess, hfree, hnow, hseq]
      exact (if_neg hport).trans (if_neg fun h0 => hc (BitVec.eq_of_toNat_eq h0)))
    (P := fun t => t.live.sess m =
      { port := h.port, openAt := s.live.now, lastAt := s.live.now, ptr := s.live.msgs.evSeq, pendg := true, cls := c.toNat,
        nonce := ((s.live.knocked (openReq h c)).drawBytes 16).1 })
    ((answerKept_sess_other _ _ _ _ (by rw [hknocks.number]; exact freeSess_pos hfree)).trans (Live.modSess_sess_same _ _ _))
  exact ⟨t, ht, ((s.live.knocked (openReq h c)).drawBytes 16).1, by simp [Live.drawBytes], hreply, hsess⟩

end Found
end Allowed
end Heard
end Open

/-! ## AUTH (R466) -/

section Auth
variable {s : State} {h : MsgHdr} {hmac : List Byte}

/-- The request of AUTH. -/
def authReq (h : MsgHdr) (hmac : List Byte) : Req := { h := h, mop := 0x02, body := hmac }

theorem begun_auth (l : Live) (q : Req) : (∀ c, (l.begun q).classKey c = l.classKey c) ∧
    (l.begun q).authText q.h.sess.toNat = l.authText q.h.sess.toNat := by
  have hsess := begun_sess l q
  obtain ⟨cs, w, he⟩ := l.begun_eq q
  refine ⟨fun c => by rw [he]; rfl, ?_⟩
  have huid : (l.begun q).uid = l.uid := by
    rw [he]
    rfl
  unfold Live.authText
  rw [hsess, huid]

/-- The AUTH failures at a port within the last second, with one more now. -/
def Live.tries (l : Live) (p : Nat) : List Nat := (l.now :: (l.mport p).fails).filter (fun t => l.now < t + 200000000)

/-- What a wrong key leaves: no session, and a failure more at the port. -/
def Live.missed (l : Live) (a : CntAttr) (n p : Nat) : Live :=
  ((l.closeSess n).countWith 76 1 a).modMport p fun x => { x with fails := l.tries p }

/-- The third failure locks the port. -/
def Live.lockedOut (l : Live) (a : CntAttr) (n p : Nat) : Live :=
  (((l.closeSess n).countWith 76 1 a).modMport p fun x =>
    { x with fails := [], lockEnd := some (l.now + fld (l.hw 0xD000 0) 23 16 * 200000000) }).raise 0xB006 0xD000 p

theorem authFailed_eq (l : Live) (a : CntAttr) (n p : Nat) :
    l.authFailed a n p = if 3 ≤ (l.tries p).length then l.lockedOut a n p else l.missed a n p := by
  have hnow : ((l.closeSess n).countWith 76 1 a).now = l.now := Live.same_now (by simp)
  have hhost : ((l.closeSess n).countWith 76 1 a).host = l.host := Live.same_host (by simp)
  have hport : ((l.closeSess n).countWith 76 1 a).mport p = l.mport p := by
    have hmsgs : ((l.closeSess n).countWith 76 1 a).msgs = (l.closeSess n).msgs := Live.same_msgs (by simp)
    exact (congrArg (fun ms : Msgs => tget ({} : MsgPort) ms.ports p) hmsgs).trans (closeSess_mport l n p)
  have hhw : ((l.closeSess n).countWith 76 1 a).hw 0xD000 0 = l.hw 0xD000 0 := congrArg (tget 0 · (key 0xD000 0)) hhost
  unfold Live.authFailed Live.lockedOut Live.missed Live.tries
  dsimp only
  rw [hnow, hport, hhw]
  rfl

theorem lockedOut_sess (l : Live) (a : CntAttr) (n p : Nat) : (l.lockedOut a n p).sess n = {} :=
  (Live.countWith_sess _ _ _ _ _).trans (closeSess_sess l n)

theorem missed_sess (l : Live) (a : CntAttr) (n p : Nat) : (l.missed a n p).sess n = {} :=
  (Live.countWith_sess _ _ _ _ _).trans (closeSess_sess l n)

theorem missed_lockEnd (l : Live) (a : CntAttr) (n p : Nat) : ((l.missed a n p).mport p).lockEnd = (l.mport p).lockEnd := by
  have hmsgs : ((l.closeSess n).countWith 76 1 a).msgs = (l.closeSess n).msgs := Live.same_msgs (by simp)
  have hport : ((l.closeSess n).countWith 76 1 a).mport p = l.mport p :=
    (congrArg (fun ms : Msgs => tget ({} : MsgPort) ms.ports p) hmsgs).trans (closeSess_mport l n p)
  refine (congrArg MsgPort.lockEnd (Live.modMport_mport_same _ _ _)).trans ?_
  exact (congrArg MsgPort.lockEnd hport :)

theorem lockedOut_lockEnd (l : Live) (a : CntAttr) (n p : Nat) :
    ((l.lockedOut a n p).mport p).lockEnd = some (l.now + fld (l.hw 0xD000 0) 23 16 * 200000000) :=
  congrArg MsgPort.lockEnd (Live.modMport_mport_same _ _ _)

theorem lockedOut_told (l : Live) (a : CntAttr) (n p : Nat) : l.detailOf 0xB006 0xD000 p ∈ (l.lockedOut a n p).fc.details := by
  have hnow : ((l.closeSess n).countWith 76 1 a).now = l.now := Live.same_now (by simp)
  rw [← Live.detailOf_congr hnow]
  exact List.mem_append_right _ (List.mem_singleton.mpr rfl)

/-- What the request itself leaves of the port that it comes through. -/
theorem begun_port (l : Live) (q : Req) (p : Nat) : ((l.begun q).mport p).fails = (l.mport p).fails ∧
    ((l.begun q).mport p).lockEnd = (l.mport p).lockEnd ∧ (l.begun q).now = l.now ∧ (l.begun q).host = l.host := by
  obtain ⟨cs, w, he⟩ := l.begun_eq q
  have hport : (l.begun q).mport p = (l.modMport (MsgHdr.port_ q.h) fun p => { p with inbox := some q.frame }).mport p := by
    rw [he]
    rfl
  rw [hport, Live.modMport_mport, he]
  split
  next hp => rw [hp]; exact ⟨rfl, rfl, rfl, rfl⟩
  next => exact ⟨rfl, rfl, rfl, rfl⟩

section Pending
variable (hq : Heard s.live (authReq h hmac))
include hq

theorem msgAuth_gives {k : Live} {st : Nat} {data : List Byte} (hrun : (s.live.begun (authReq h hmac)).authSess h.sess.toNat hmac = (k, st, data))
    {P : State → Prop} (hP : P { s with live := k.answerKept (authReq h hmac) st data }) :
    Gives (exec (.msgAuth h hmac) s) (fun t => Replied t h 0x02 st data ∧ P t) := by
  have hserve := serve_heard (onLive fun l n _ => l.authSess n hmac) hq (t := { s with live := k }) (st := st) (data := data) (by
    unfold onLive
    dsimp only
    rw [show (authReq h hmac).h.sess.toNat = h.sess.toNat from rfl, hrun])
  refine ⟨_, rfl, ?_⟩
  have hreq : s.serve { h := h, mop := 0x02, body := hmac } noCheck (onLive fun l n _ => l.authSess n hmac) =
      { s with live := k.answerKept (authReq h hmac) st data } := hserve
  rw [hreq]
  exact ⟨answerKept_replied s k (authReq h hmac) st data, hP⟩

/-- The right key opens the session. -/
theorem msgAuth_opens {key : List Byte} (hkey : s.live.classKey (s.live.sess h.sess.toNat).cls = some key)
    (hgood : hmacSha256 key (s.live.authText h.sess.toNat) = hmac) :
    Gives (exec (.msgAuth h hmac) s) (fun t => Replied t h 0x02 0 [] ∧ (t.live.sess h.sess.toNat).opened = true ∧
      (t.live.sess h.sess.toNat).pendg = false ∧ (t.live.sess h.sess.toNat).nonce = [] ∧
      (t.live.sess h.sess.toNat).cls = (s.live.sess h.sess.toNat).cls) := by
  have hsess := begun_sess s.live (authReq h hmac)
  obtain ⟨hclass, htext⟩ := begun_auth s.live (authReq h hmac)
  refine msgAuth_gives hq (k := (s.live.begun (authReq h hmac)).modSess h.sess.toNat fun k =>
    { k with opened := true, pendg := false, nonce := [], ptr := (s.live.begun (authReq h hmac)).msgs.evSeq }) ?_ ?_
  · unfold Live.authSess
    have hcls : ((s.live.begun (authReq h hmac)).sess h.sess.toNat).cls = (s.live.sess h.sess.toNat).cls := (congrArg Session.cls hsess :)
    have htext' : (s.live.begun (authReq h hmac)).authText h.sess.toNat = s.live.authText h.sess.toNat := htext
    dsimp only
    rw [hcls, hclass, hkey, htext']
    exact if_pos (by simp [hgood])
  · obtain ⟨r, hr⟩ := answerKept_sess ((s.live.begun (authReq h hmac)).modSess h.sess.toNat fun k =>
      { k with opened := true, pendg := false, nonce := [], ptr := (s.live.begun (authReq h hmac)).msgs.evSeq }) (authReq h hmac) 0 [] h.sess.toNat
    dsimp only
    rw [hr, Live.modSess_sess_same]
    exact ⟨rfl, rfl, rfl, (congrArg Session.cls hsess :)⟩

/-- A wrong key closes the session; the third at a port within a second locks it out. -/
theorem msgAuth_fails (hbad : ∀ key, s.live.classKey (s.live.sess h.sess.toNat).cls = some key → hmacSha256 key (s.live.authText h.sess.toNat) ≠ hmac) :
    Gives (exec (.msgAuth h hmac) s) (fun t => Replied t h 0x02 0x02 [] ∧ t.live.sess h.sess.toNat = {} ∧
      (3 ≤ (s.live.tries h.port).length →
        (t.live.mport h.port).lockEnd = some (s.live.now + fld (s.live.hw 0xD000 0) 23 16 * 200000000) ∧
        s.live.detailOf 0xB006 0xD000 h.port ∈ t.live.fc.details) ∧
      ((s.live.tries h.port).length < 3 → (t.live.mport h.port).lockEnd = (s.live.mport h.port).lockEnd)) := by
  have hsess := begun_sess s.live (authReq h hmac)
  obtain ⟨hclass, htext⟩ := begun_auth s.live (authReq h hmac)
  obtain ⟨hfails, hlock, hnow, hhost⟩ := begun_port s.live (authReq h hmac) h.port
  have hcls : ((s.live.begun (authReq h hmac)).sess h.sess.toNat).cls = (s.live.sess h.sess.toNat).cls := (congrArg Session.cls hsess :)
  have hport : ((s.live.begun (authReq h hmac)).sess h.sess.toNat).port = h.port.val := (congrArg Session.port hsess :).trans hq.port
  have htext' : (s.live.begun (authReq h hmac)).authText h.sess.toNat = s.live.authText h.sess.toNat := htext
  have htries : (s.live.begun (authReq h hmac)).tries h.port = s.live.tries h.port := by
    unfold Live.tries
    rw [hfails, hnow]
  have hrun : (s.live.begun (authReq h hmac)).authSess h.sess.toNat hmac = ((s.live.begun (authReq h hmac)).authFailed
      { cls := some (s.live.sess h.sess.toNat).cls, req := some h.port.val, tclass := some 7 } h.sess.toNat h.port, 0x02, []) := by
    unfold Live.authSess
    dsimp only
    rw [hcls, hclass, htext', hport]
    cases hkey : s.live.classKey (s.live.sess h.sess.toNat).cls with
    | none => exact if_neg Bool.false_ne_true
    | some key => exact if_neg (by simp [hbad key hkey])
  rw [authFailed_eq, htries] at hrun
  refine msgAuth_gives hq hrun ?_
  dsimp only
  by_cases hthree : 3 ≤ (s.live.tries h.port).length
  · rw [if_pos hthree]
    refine ⟨answerKept_sess_closed _ (authReq h hmac) _ _ (lockedOut_sess _ _ _ _), fun _ => ⟨?_, ?_⟩, fun hno => absurd hthree (Nat.not_le.mpr hno)⟩
    · rw [answerKept_lockEnd, lockedOut_lockEnd, hnow]
      rw [show (s.live.begun (authReq h hmac)).hw 0xD000 0 = s.live.hw 0xD000 0 from congrArg (tget 0 · (key 0xD000 0)) hhost]
    · have hfc (k : Live) : (k.answerKept (authReq h hmac) 2 []).fc = k.fc := Live.same_fc (by simp)
      rw [hfc, ← Live.detailOf_congr hnow]
      exact lockedOut_told _ _ _ _
  · rw [if_neg hthree]
    refine ⟨answerKept_sess_closed _ (authReq h hmac) _ _ (missed_sess _ _ _ _), fun hno => absurd hno hthree, fun _ => ?_⟩
    rw [answerKept_lockEnd, missed_lockEnd, hlock]

end Pending
end Auth

/-! ## CLOSE, and the time-outs (R465, R466, R468) -/

section Close
variable {s : State}

theorem msgClose_closes {h : MsgHdr} (hs : Served s.live h 0x03 0 []) : Gives (exec (.msgClose h) s) (fun t =>
    Replied t h 0x03 0 [] ∧ t.live.sess h.sess.toNat = {} ∧
      (s.live.img.txn.st = .opened → s.live.img.txn.owner = h.sess.toNat → t.live.img.txn.st = .idle) ∧
      (s.live.img.txn.st = .pending → t.live.img.txn.st = .pending)) := by
  have himg : (s.live.begun { h := h, mop := 0x03 }).img = s.live.heardImg { h := h, mop := 0x03 } := (begun_parts _ _).2.2
  have htxn : (s.live.begun { h := h, mop := 0x03 }).img.txn.st = s.live.img.txn.st ∧
      (s.live.begun { h := h, mop := 0x03 }).img.txn.owner = s.live.img.txn.owner := by
    rw [himg]
    exact ⟨rfl, rfl⟩
  have hkept (k : Live) : (k.answerKept { h := h, mop := 0x03 } 0 []).img = k.img := (answered_parts k _ _ _).2.2
  refine serve_onLive_answered (q := { h := h, mop := 0x03 }) (f := fun l n _ => (l.closeSess n, 0, [])) hs (by simp) rfl rfl
    ⟨answerKept_sess_closed _ { h := h, mop := 0x03 } _ _ (closeSess_sess _ _), fun hst howner => ?_, fun hst => ?_⟩
  · dsimp only
    rw [hkept]
    exact closeSess_rolls _ _ (htxn.1.trans hst) (htxn.2.trans howner)
  · dsimp only
    rw [hkept, closeSess_txn _ _ (by rw [htxn.1, hst]; decide), htxn.1, hst]

theorem sessionAuthTimeout_closes {m : Fin 16} (hpend : (s.live.sess m).pendg = true) (hdue : (s.live.sess m).openAt + 2000000000 ≤ s.live.now) :
    Gives (exec (.sessionAuthTimeout m) s) (fun t => t.live.sess m = {} ∧ ∀ j, j ≠ m.val → t.live.sess j = s.live.sess j) := by
  show Gives (execSessionAuthTimeout m s) _
  unfold execSessionAuthTimeout
  refine upd_gives_of_eq (k := s.live.closeSess m) ?_ ⟨closeSess_sess _ _, fun j hj => closeSess_sess_other _ _ hj⟩
  exact if_pos (by simp [hpend, hdue])

theorem sessionAuthTimeout_early {m : Fin 16} (h : (s.live.sess m).pendg = false ∨ s.live.now < (s.live.sess m).openAt + 2000000000) :
    exec (.sessionAuthTimeout m) s = .next s := by
  show execSessionAuthTimeout m s = _
  unfold execSessionAuthTimeout
  exact upd_idle (if_neg (by rcases h with h | h <;> simp [h]))

theorem sessionIdleTimeout_closes {m : Fin 16} (hopen : (s.live.sess m).opened = true) (hdue : (s.live.sess m).lastAt + s.live.sidle ≤ s.live.now) :
    Gives (exec (.sessionIdleTimeout m) s) (fun t => t.live.sess m = {} ∧ ∀ j, j ≠ m.val → t.live.sess j = s.live.sess j) := by
  show Gives (execSessionIdleTimeout m s) _
  unfold execSessionIdleTimeout
  refine upd_gives_of_eq (k := s.live.closeSess m) ?_ ⟨closeSess_sess _ _, fun j hj => closeSess_sess_other _ _ hj⟩
  exact if_pos (by simp [hopen, hdue])

theorem sessionIdleTimeout_early {m : Fin 16} (h : (s.live.sess m).opened = false ∨ s.live.now < (s.live.sess m).lastAt + s.live.sidle) :
    exec (.sessionIdleTimeout m) s = .next s := by
  show execSessionIdleTimeout m s = _
  unfold execSessionIdleTimeout
  exact upd_idle (if_neg (by rcases h with h | h <;> simp [h]))

theorem authLockEnd_ends {p : Fin 3} {at_ : Nat} (hlock : (s.live.mport p).lockEnd = some at_) (hdue : at_ ≤ s.live.now) :
    Gives (exec (.authLockEnd p) s) (fun t => t.live.mport p = { s.live.mport p with lockEnd := none } ∧ SameBut [.msgs] s t) := by
  show Gives (execAuthLockEnd p s) _
  unfold execAuthLockEnd
  refine upd_gives_of_eq (k := s.live.modMport p fun p => { p with lockEnd := none }) ?_
    ⟨Live.modMport_mport_same _ _ _, live_sameBut (m := 262144) (s := s) (by simp) [.msgs] (by decide)⟩
  simp only [hlock]
  exact if_pos hdue

theorem authLockEnd_early {p : Fin 3} {at_ : Nat} (hlock : (s.live.mport p).lockEnd = some at_) (hearly : s.live.now < at_) :
    exec (.authLockEnd p) s = .next s := by
  show execAuthLockEnd p s = _
  unfold execAuthLockEnd
  refine upd_idle ?_
  simp only [hlock]
  exact if_neg (Nat.not_le.mpr hearly)

end Close

/-! ## Requests that are answered BAD_CRC or REFUSED (R461, R462) -/

section Bad
variable {s : State} {p : Fin 3} {frame : List Byte}

/-- The request that a frame's header names. -/
def badReq (p : Fin 3) (frame : List Byte) : Req :=
  { h := { port := p, sess := BitVec.ofNat 4 ((frame.getD 2 0).toNat / 16), seq := BitVec.ofNat 4 (frame.getD 2 0).toNat }, mop := oct frame 3 }

theorem badReq_msess : MsgHdr.msess (badReq p frame).h = frame.getD 2 0 := by
  have hm := (frame.getD 2 0).isLt
  refine BitVec.eq_of_toNat_eq ?_
  simp only [MsgHdr.msess, badReq, BitVec.toNat_ofNat]
  omega

theorem badReq_mop : (badReq p frame).mop_ = frame.getD 3 0 := by simp [Req.mop_, badReq, oct]

/-- The frame fails its checks, and the reply says how. -/
def badStatus (frame : List Byte) : Option Nat :=
  if !frameLenOk frame || !frameCrcOk frame then some 0x03
  else if !bodyOk (oct frame 3) (sliceB frame 4 (frame.length - 6)) then some 0x0C else none

/-- The port takes the frame in its turn. -/
def Live.frameTaken (l : Live) (p : Fin 3) (frame : List Byte) : Live :=
  ((l.arrive (badReq p frame) frame).setBatch (l.batch p).tail).countWith 72 1 ((l.arrive (badReq p frame) frame).reqAttr (badReq p frame))

theorem frameTaken_sess (l : Live) (j : Nat) : (l.frameTaken p frame).sess j = l.sess j := by
  unfold Live.frameTaken Live.arrive
  rw [Live.countWith_sess]
  dsimp only
  split
  · exact Live.countWith_sess _ _ _ _ _
  · split
    · exact Live.countWith_sess _ _ _ _ _
    · rfl

section Taken
variable (htakes : s.live.portTakes p frame = true) (hserved : s.live.serving p = .firmware) (hturn : s.live.turn p = true)
include htakes hserved hturn

theorem msgBadRequest_says {st : Nat} (hbad : badStatus frame = some st) : Gives (exec (.msgBadRequest p frame) s) (fun t =>
    (t.live.mport p).reply = some (msgFrame (frame.getD 2 0) (frame.getD 3 0) [BitVec.ofNat 8 st]) ∧ (t.live.mport p).inbox = none ∧
      ∀ j, t.live.sess j = s.live.sess j) := by
  have hexec : exec (.msgBadRequest p frame) s = .next { s with live := (s.live.frameTaken p frame).answer (badReq p frame) st [] } := by
    have hfault : (!frameLenOk frame || !frameCrcOk frame || !bodyOk (oct frame 3) (sliceB frame 4 (frame.length - 6))) = true := by
      unfold badStatus at hbad
      cases hcrc : (!frameLenOk frame || !frameCrcOk frame) with
      | true => rfl
      | false =>
        rw [hcrc, if_neg Bool.false_ne_true] at hbad
        split at hbad
        next h => rw [h]; rfl
        next => cases hbad
    show execMsgBadRequest p frame s = _
    unfold execMsgBadRequest
    refine upd_congr (g := fun l => (l.frameTaken p frame).answer (badReq p frame) st []) ((if_neg ?_).trans ((if_neg ?_).trans ?_))
    · simp only [htakes, hserved, hfault]
      decide
    · have hhead : (s.live.batch p).head? = some p.val := of_decide_eq_true hturn
      simp [hserved, hhead]
    · simp only [hserved]
      unfold badStatus at hbad
      split
      next hcrc =>
        rw [if_pos hcrc] at hbad
        cases hbad
        rfl
      next hcrc =>
        rw [if_neg hcrc] at hbad
        split at hbad
        next => cases hbad; rfl
        next => cases hbad
  refine ⟨_, hexec, ?_⟩
  have hport := answer_replied s (s.live.frameTaken p frame) (badReq p frame) st []
  obtain ⟨hreply, hinbox⟩ := hport
  refine ⟨?_, hinbox, fun j => (answer_sess _ _ _ _ j).trans (frameTaken_sess _ j)⟩
  rw [← badReq_msess (p := p), ← badReq_mop (p := p)]
  exact hreply

end Taken

theorem msgBadRequest_sound (hgood : badStatus frame = none) : exec (.msgBadRequest p frame) s = .next s := by
  show execMsgBadRequest p frame s = _
  unfold execMsgBadRequest
  refine upd_idle (if_pos ?_)
  unfold badStatus at hgood
  split at hgood
  next => cases hgood
  next hcrc =>
    split at hgood
    next => cases hgood
    next hbody => simp [hcrc, hbody]

theorem msgBadRequest_full (h : s.live.portTakes p frame = false) : exec (.msgBadRequest p frame) s = .next s := by
  show execMsgBadRequest p frame s = _
  unfold execMsgBadRequest
  exact upd_idle (if_pos (by simp [h]))

end Bad

/-- Settles O51: OPEN, AUTH, CLOSE, the time-outs, and requests that fail their checks. -/
theorem sessionsOpenAndClose : Obligations.SessionsOpenAndClose := by
  intro s h c
  refine ⟨fun hsess hport hfree hpower => ?_, fun hmac hlen hfree hpower hsess hpend hport hfresh => ?_, msgClose_closes,
    fun m => ⟨sessionAuthTimeout_closes, sessionAuthTimeout_early, sessionIdleTimeout_closes, sessionIdleTimeout_early⟩,
    fun p at_ hlock => ⟨authLockEnd_ends hlock, authLockEnd_early hlock⟩,
    fun p frame htakes hserved hturn => ⟨fun hbad => ?_, fun hgood hbody => ?_, fun hgood hbody => ?_⟩, fun p frame => msgBadRequest_full⟩
  · obtain ⟨htakes, hserved, hturn⟩ := hfree
    have hknocks : Knocks s.live (openReq h c) := by
      refine ⟨htakes, hserved, hturn, hsess, rfl, ?_, fun hst => ?_⟩
      · have hc := c.isLt
        simp only [openReq, bodyOk, oct, List.getD_cons_zero, BitVec.toNat_setWidth, List.length_singleton, decide_true, Bool.true_and,
          decide_eq_true_eq]
        omega
      · have hc : c = 0 := by_contra fun hne => hpower hne hst
        rw [hc]
        rfl
    exact ⟨msgOpen_denied hport hknocks, fun hopens hlock => ⟨msgOpen_busy hport hknocks hopens hlock,
      fun m hm => ⟨msgOpen_monitor hport hknocks hopens hlock hm, msgOpen_pends hport hknocks hopens hlock hm⟩⟩⟩
  · obtain ⟨htakes, hserved, hturn⟩ := hfree
    have hq : Heard s.live (authReq h hmac) :=
      { takes := htakes, served := .inl hserved, turn := hturn, body := decide_eq_true hlen, rom := fun _ => rfl, number := hsess,
        open_ := by
          rw [show (authReq h hmac).h.sess.toNat = h.sess.toNat from rfl, hpend, Bool.or_true]
        port := hport, fresh := hfresh
        admitted := by
          rw [show (authReq h hmac).h.sess.toNat = h.sess.toNat from rfl, hpend]
          rfl
        power := fun hst => absurd hst hpower }
    exact ⟨fun key hkey hgood => msgAuth_opens hq hkey hgood, msgAuth_fails hq⟩
  · exact msgBadRequest_says htakes hserved hturn (if_pos hbad)
  · exact msgBadRequest_says htakes hserved hturn ((if_neg (ne_true_of_eq_false hgood)).trans (if_pos hbody))
  · exact msgBadRequest_sound ((if_neg (ne_true_of_eq_false hgood)).trans (if_neg (ne_true_of_eq_false hbody)))

end Sys2Proof.Machine
end

section
/-! PROOFS. The transaction (R430, R455, R478 to R481, Table 14.7). -/
open Sys2Proof Sys2Proof.Machine
namespace Sys2Proof.Machine

/-! ## What a request leaves of the transaction -/

section Txn
variable (l : Live) (q : Req)

theorem begun_txn : (l.begun q).img.txn = { l.img.txn with lastAt := l.heardAt q.h.sess.toNat } ∧ (l.begun q).img.cur = l.img.cur ∧
    (l.begun q).img.slots = l.img.slots ∧ (l.begun q).keeper = l.keeper ∧ (l.begun q).now = l.now := by
  obtain ⟨cs, w, he⟩ := l.begun_eq q
  rw [he]
  exact ⟨rfl, rfl, rfl, rfl, rfl⟩

theorem asked_txn : (l.asked q).img.txn = { l.img.txn with lastAt := l.heardAt q.h.sess.toNat } ∧ (l.asked q).keeper = l.keeper ∧
    (l.asked q).fc = l.fc := by
  obtain ⟨cs, w, he⟩ := l.asked_eq q
  rw [he]
  exact ⟨rfl, rfl, rfl⟩

theorem answer_img (k : Live) (st : Nat) (data : List Byte) : (k.answer q st data).img = k.img := Live.same_img (by simp)

theorem answerKept_img (k : Live) (st : Nat) (data : List Byte) : (k.answerKept q st data).img = k.img := (answered_parts k q st data).2.2

/-- Check 6 is made of the lease as it stands (R463). -/
theorem asked_leaseCheck (refuse : Bool) : (l.asked q).leaseCheck refuse = l.leaseCheck refuse := by
  obtain ⟨-, hkeeper, hfc⟩ := asked_txn l q
  unfold Live.leaseCheck
  rw [hkeeper, hfc]

end Txn

theorem leaseCheck_live {l : Live} (h : l.keeper.live = true) (refuse : Bool) : l.leaseCheck refuse = 0 := if_pos h

/-- A transaction that is rolled back is idle, with its outcome. -/
theorem txnRollback_img {l : Live} (hst : l.img.txn.st = .opened) (outcome : Nat) :
    (l.txnRollback outcome).img.txn.st = .idle ∧ (l.txnRollback outcome).img.txn.outcome = outcome ∧ (l.txnRollback outcome).img.cur = l.img.cur := by
  obtain ⟨cs, w, hc⟩ := (l.txnEnd outcome 5).count_counted 122
  rw [Live.txnRollback, if_pos hst, hc]
  exact ⟨rfl, rfl, rfl⟩

/-! ## TXN_BEGIN, TXN_ROLLBACK and TXN_STATUS -/

section Simple
variable {s : State} {h : MsgHdr}

/-- The requests about the transaction. -/
def txnReq (h : MsgHdr) (mop cls : Nat) : Req := { h := h, mop := mop, cls := cls, tclass := 2 }

theorem txnBegin_unleased (hs : Served s.live h 0x20 1 []) (hlease : s.live.keeper.live = false) :
    Gives (exec (.txnBegin h) s) (fun t => Replied t h 0x20 0x08 [] ∧ t.live.img.txn.st = s.live.img.txn.st) := by
  refine serve_refused_gives (q := txnReq h 0x20 1) hs (by simp [txnReq])
    ((asked_leaseCheck _ _ _).trans (if_neg (ne_true_of_eq_false hlease))) (by decide) ?_
  dsimp only
  rw [answer_img, (asked_txn _ _).1]

section Leased
variable (hs : Served s.live h 0x20 1 []) (hlease : s.live.keeper.live = true)
include hs hlease

theorem txnBegin_gives {k : Live} {st : Nat} {data : List Byte} (hopen : (s.live.begun (txnReq h 0x20 1)).txnOpen h.sess.toNat = (k, st, data)) :
    Gives (exec (.txnBegin h) s) (fun t => Replied t h 0x20 st data ∧ t.live.img = k.img) :=
  serve_onLive_answered (q := txnReq h 0x20 1) (f := fun l n _ => l.txnOpen n) hs (by simp [txnReq])
    ((asked_leaseCheck _ _ _).trans (leaseCheck_live hlease _)) hopen (answerKept_img _ _ _ _)

theorem txnBegin_opens (hst : s.live.img.txn.st = .idle) : Gives (exec (.txnBegin h) s) (fun t =>
    Replied t h 0x20 0 (leBytes (s.live.img.txn.num + 1).toNat 2) ∧ t.live.img.txn.st = .opened ∧
      t.live.img.txn.num = s.live.img.txn.num + 1 ∧ t.live.img.txn.owner = h.sess.toNat ∧ t.live.img.txn.shadow = s.live.img.cur ∧
      t.live.img.txn.raw = none) := by
  obtain ⟨htxn, hcur, -⟩ := begun_txn s.live (txnReq h 0x20 1)
  obtain ⟨t, ht, hreply, himg⟩ := txnBegin_gives hs hlease (st := 0) (data := leBytes (s.live.img.txn.num + 1).toNat 2)
    (k := (s.live.begun (txnReq h 0x20 1)).modTxn fun t =>
      { t with st := .opened, num := t.num + 1, owner := h.sess.toNat, shadow := (s.live.begun (txnReq h 0x20 1)).img.cur, raw := none,
               edited := false, edits := [], lastAt := (s.live.begun (txnReq h 0x20 1)).now })
    (by
      have hst' : (s.live.begun (txnReq h 0x20 1)).img.txn.st = .idle := by rw [htxn]; exact hst
      have hnum : (s.live.begun (txnReq h 0x20 1)).img.txn.num = s.live.img.txn.num := by rw [htxn]
      unfold Live.txnOpen
      simp only [hst']
      rw [← hnum]
      rfl)
  refine ⟨t, ht, hreply, ?_⟩
  rw [himg]
  dsimp only [Live.modTxn]
  rw [htxn]
  exact ⟨rfl, rfl, rfl, hcur, rfl⟩

theorem txnBegin_open (hst : s.live.img.txn.st = .opened) :
    Gives (exec (.txnBegin h) s) (fun t => Replied t h 0x20 (if s.live.img.txn.owner = h.sess.toNat then 0x0C else 0x07) []) := by
  refine (txnBegin_gives hs hlease (k := s.live.begun (txnReq h 0x20 1)) ?_).left
  unfold Live.txnOpen
  simp only [(begun_txn _ _).1, hst]

theorem txnBegin_busy (hst : s.live.img.txn.st = .committing ∨ s.live.img.txn.st = .pending) :
    Gives (exec (.txnBegin h) s) (fun t => Replied t h 0x20 0x01 []) := by
  refine (txnBegin_gives hs hlease (k := s.live.begun (txnReq h 0x20 1)) ?_).left
  unfold Live.txnOpen
  rcases hst with hst | hst <;> simp only [(begun_txn _ _).1, hst]

end Leased

section Rollback
variable (hs : Served s.live h 0x22 1 [])
include hs

/-- What TXN_ROLLBACK does. -/
def Live.rollbackBy (l : Live) (n : Nat) : Live × Nat × List Byte :=
  if l.img.txn.st ≠ .opened then (l, 0x06, []) else if l.img.txn.owner ≠ n then (l, 0x07, []) else (l.txnRollback 3, 0, [])

theorem txnRollback_gives {k : Live} {st : Nat} (hroll : (s.live.begun (txnReq h 0x22 1)).rollbackBy h.sess.toNat = (k, st, [])) :
    Gives (exec (.txnRollback h) s) (fun t => Replied t h 0x22 st [] ∧ t.live.img = k.img) :=
  serve_onLive_answered (q := txnReq h 0x22 1) (f := fun l n _ => l.rollbackBy n) hs (by simp [txnReq]) rfl hroll (answerKept_img _ _ _ _)

theorem txnRollback_closed (hst : s.live.img.txn.st ≠ .opened) :
    Gives (exec (.txnRollback h) s) (fun t => Replied t h 0x22 0x06 [] ∧ t.live.img.txn.st = s.live.img.txn.st) := by
  obtain ⟨t, ht, hreply, himg⟩ := txnRollback_gives hs (k := s.live.begun (txnReq h 0x22 1)) (if_pos (by rw [(begun_txn _ _).1]; exact hst))
  exact ⟨t, ht, hreply, by rw [himg, (begun_txn _ _).1]⟩

theorem txnRollback_other (hst : s.live.img.txn.st = .opened) (howner : s.live.img.txn.owner ≠ h.sess.toNat) :
    Gives (exec (.txnRollback h) s) (fun t => Replied t h 0x22 0x07 [] ∧ t.live.img.txn.st = .opened) := by
  obtain ⟨t, ht, hreply, himg⟩ := txnRollback_gives hs (k := s.live.begun (txnReq h 0x22 1))
    ((if_neg (by rw [(begun_txn _ _).1]; exact not_not_intro hst)).trans (if_pos (by rw [(begun_txn _ _).1]; exact howner)))
  exact ⟨t, ht, hreply, by rw [himg, (begun_txn _ _).1]; exact hst⟩

theorem txnRollback_owner (hst : s.live.img.txn.st = .opened) (howner : s.live.img.txn.owner = h.sess.toNat) :
    Gives (exec (.txnRollback h) s) (fun t => Replied t h 0x22 0 [] ∧ t.live.img.txn.st = .idle ∧ t.live.img.txn.outcome = 3 ∧
      t.live.img.cur = s.live.img.cur) := by
  have hst' : (s.live.begun (txnReq h 0x22 1)).img.txn.st = .opened := by rw [(begun_txn _ _).1]; exact hst
  obtain ⟨t, ht, hreply, himg⟩ := txnRollback_gives hs (k := (s.live.begun (txnReq h 0x22 1)).txnRollback 3)
    ((if_neg (not_not_intro hst')).trans (if_neg (by rw [(begun_txn _ _).1]; exact not_not_intro howner)))
  obtain ⟨hidle, hout, hcur⟩ := txnRollback_img hst' 3
  refine ⟨t, ht, hreply, ?_⟩
  rw [himg]
  exact ⟨hidle, hout, hcur.trans (begun_txn _ _).2.1⟩

end Rollback

section Status
variable (hs : Served s.live h 0x23 0 [])
include hs

theorem txnStatus_gives {data : List Byte} (hdata : (s.live.begun (txnReq h 0x23 0)).txnStatus = data) :
    Gives (exec (.txnStatus h) s) (fun t => Replied t h 0x23 0 data) :=
  (serve_onLive_answered (q := txnReq h 0x23 0) (f := fun l _ _ => (l, 0, l.txnStatus)) (P := fun _ => True) hs (by simp [txnReq]) rfl
    (by rw [hdata]) trivial).left

theorem txnStatus_other (hother : s.live.img.txn.st ≠ .opened ∨ s.live.img.txn.owner ≠ h.sess.toNat) :
    Gives (exec (.txnStatus h) s) (fun t => Replied t h 0x23 0 s.live.txnStatus) := by
  obtain ⟨htxn, -, -, -, hnow⟩ := begun_txn s.live (txnReq h 0x23 0)
  refine txnStatus_gives hs ?_
  have hat : s.live.heardAt h.sess.toNat = s.live.img.txn.lastAt := if_neg fun ⟨hst, howner⟩ => hother.elim (· hst) (· howner)
  have hsame : (s.live.begun (txnReq h 0x23 0)).img.txn = s.live.img.txn := by
    rw [htxn, show (txnReq h 0x23 0).h.sess.toNat = h.sess.toNat from rfl, hat]
  unfold Live.txnStatus
  rw [hsame, hnow]

theorem txnStatus_owner (hst : s.live.img.txn.st = .opened) (howner : s.live.img.txn.owner = h.sess.toNat) :
    Gives (exec (.txnStatus h) s) (fun t => Replied t h 0x23 0 ([1, BitVec.ofNat 8 h.sess.toNat] ++ leBytes s.live.img.txn.num.toNat 2 ++
      [BitVec.ofNat 8 s.live.img.txn.outcome, 0] ++ leBytes 100 2 ++ leBytes s.live.img.txn.lastAct 8)) := by
  obtain ⟨htxn, -, -, -, hnow⟩ := begun_txn s.live (txnReq h 0x23 0)
  refine txnStatus_gives hs ?_
  have hat : s.live.heardAt h.sess.toNat = s.live.now := if_pos ⟨hst, howner⟩
  have hleft : (s.live.now + txnTicks - s.live.now) / 20000000 = 100 := by
    rw [Nat.add_sub_cancel_left]
    rfl
  unfold Live.txnStatus
  simp only [htxn, hnow, show (txnReq h 0x23 0).h.sess.toNat = h.sess.toNat from rfl, hat, hst, howner, if_true, hleft]
  rfl

end Status
end Simple

/-! ## A commit that fails (R480) -/

section Fails
variable (l : Live)

/-- The transaction stays open and says so; nothing that is in force or stored has changed. -/
def CommitFailed (l k : Live) : Prop :=
  k.img.txn.st = .opened ∧ k.img.txn.outcome = 6 ∧ k.img.cur = l.img.cur ∧ k.img.slots = l.img.slots

theorem modTxn_img (f : Txn → Txn) : (l.modTxn f).img = { l.img with txn := f l.img.txn } := rfl

theorem count_img (n : Nat) : (l.count n).img = l.img := Live.same_img (by simp)

/-- A held TXN_COMMIT is answered once. -/
theorem answerCommit_img (st : Nat) (data : List Byte) :
    (l.answerCommit st data).img = { l.img with txn := { l.img.txn with held := none } } := by
  unfold Live.answerCommit
  cases hheld : l.img.txn.held with
  | none =>
    dsimp only
    rw [← hheld]
  | some held =>
    obtain ⟨p, m⟩ := held
    dsimp only
    have himg (a : CntAttr) : ((l.countStatus a st).replyKept p (m.toNat / 16) m 0x21 st data).img = l.img := Live.same_img (by simp)
    rw [modTxn_img, himg]

theorem answerCommit_reply {p : Nat} {m : Byte} (hheld : l.img.txn.held = some (p, m)) (st : Nat) (data : List Byte) :
    ((l.answerCommit st data).mport p).reply = some (msgFrame m 0x21 (BitVec.ofNat 8 st :: data)) ∧
      ((l.answerCommit st data).mport p).inbox = none := by
  unfold Live.answerCommit
  rw [hheld]
  have hreply (k : Live) : ((k.replyKept p (m.toNat / 16) m 0x21 st data).modTxn fun t => { t with held := none }).mport p =
      { k.mport p with reply := some (msgFrame m 0x21 (BitVec.ofNat 8 st :: data)), inbox := none } := 
    Live.modMport_mport_same k p fun x => { x with reply := some (msgFrame m 0x21 (BitVec.ofNat 8 st :: data)), inbox := none }
  dsimp only
  rw [hreply]
  exact ⟨rfl, rfl⟩

theorem commitFail_img (rs : List VRep) : (l.commitFail rs).img = { l.img with txn := { l.img.txn with
    held := none, st := .opened, outcome := 6, ready := {}, mateOk := false, lastAt := l.now } } := by
  unfold Live.commitFail
  dsimp only
  rw [count_img, modTxn_img, answerCommit_img]

theorem commitFail_failed (rs : List VRep) : CommitFailed l (l.commitFail rs) := by
  unfold CommitFailed
  rw [commitFail_img]
  exact ⟨rfl, rfl, rfl, rfl⟩

/-- The status and the report that a failed commit answers. -/
def Live.commitReport (l : Live) (rs : List VRep) : List Byte :=
  leBytes l.img.txn.num.toNat 2 ++ [BitVec.ofNat 8 rs.length, 0] ++ rs.flatMap VRep.octets

theorem commitFail_reply {p : Nat} {m : Byte} (hheld : l.img.txn.held = some (p, m)) (r : VRep) (rs : List VRep) :
    ((l.commitFail (r :: rs)).mport p).reply =
      some (msgFrame m 0x21 (BitVec.ofNat 8 (reasonStatus r.reason) :: l.commitReport (r :: rs))) ∧
      ((l.commitFail (r :: rs)).mport p).inbox = none := by
  have hcount (k : Live) : (k.count 121).mport p = k.mport p := by
    obtain ⟨cs, w, hc⟩ := k.count_counted 121
    rw [hc]
    rfl
  unfold Live.commitFail
  dsimp only
  rw [hcount]
  exact answerCommit_reply l hheld _ _

theorem commitFail_fc (rs : List VRep) : (l.commitFail rs).fc = l.fc := Live.same_fc (by simp)

end Fails

/-! ## A commit that runs -/

section Starts
variable (l : Live)

/-- The transaction with its TXN_COMMIT held. -/
def Txn.heldBy (t : Txn) (h : MsgHdr) (at_ : Nat) : Txn := { t with lastAt := at_, held := some (h.port.val, MsgHdr.msess h) }

theorem heldImage (t : Txn) (h : MsgHdr) (at_ : Nat) : (t.heldBy h at_).image = t.image := rfl

/-- The controller once the commit may run. -/
def Live.commitHeld (h : MsgHdr) : Live :=
  (l.begun (txnReq h 0x21 1)).modTxn fun t => { t with held := some (h.port.val, MsgHdr.msess h) }

theorem commitHeld_img (h : MsgHdr) : (l.commitHeld h).img.txn = l.img.txn.heldBy h (l.heardAt h.sess.toNat) ∧ (l.commitHeld h).img.cur = l.img.cur ∧
    (l.commitHeld h).img.slots = l.img.slots := by
  obtain ⟨htxn, hcur, hslots, -⟩ := begun_txn l (txnReq h 0x21 1)
  refine ⟨?_, hcur, hslots⟩
  show { (l.begun (txnReq h 0x21 1)).img.txn with held := some (h.port.val, MsgHdr.msess h) } = _
  rw [htxn]
  rfl

/-- What the validator finds does not hang on the request. -/
theorem commitHeld_validate (h : MsgHdr) (i : Image) (strip : Bool) : (l.commitHeld h).validate i strip = l.validate i strip := by
  obtain ⟨cs, w, he⟩ := l.begun_eq (txnReq h 0x21 1)
  unfold Live.commitHeld
  rw [he]
  rfl

/-- The commit waits for its store, and the mate gets the image where it must confirm it. -/
def Live.committing (i : Image) (plan : Plan) : Live :=
  let l := l.modTxn fun t => { t with st := .committing, ready := i, mateOk := false, syncAt := l.now }
  let l := l.modLoop fun e =>
    { e with pendSched := (numbered 0 plan.lanes).foldl (fun c p => tput (0, []) c p.1 p.2) [], pendDec := plan.dec }
  if l.needsMate then
    (l.modK fun k => { k with imgTx := cut1024 (i.octets.length + 1) i.octets, imgAcked := 0 }).imgSend 0
  else l

theorem commitStart_eq : l.commitStart =
    if !(l.validate l.img.txn.image.1 l.img.txn.image.2).1.isEmpty then l.commitFail (l.validate l.img.txn.image.1 l.img.txn.image.2).1
    else l.committing l.img.txn.image.1 (l.validate l.img.txn.image.1 l.img.txn.image.2).2 := rfl

theorem committing_parts (i : Image) (plan : Plan) : (l.committing i plan).img =
    { l.img with txn := { l.img.txn with st := .committing, ready := i, mateOk := false, syncAt := l.now } } ∧ (l.committing i plan).msgs = l.msgs := by
  unfold Live.committing
  dsimp only
  split
  · have hsend (k : Live) : (k.imgSend 0).img = k.img ∧ (k.imgSend 0).msgs = k.msgs := ⟨Live.same_img (by simp), Live.same_msgs (by simp)⟩
    obtain ⟨himg, hmsgs⟩ := hsend (((l.modTxn fun t => { t with st := .committing, ready := i, mateOk := false, syncAt := l.now }).modLoop fun e =>
      { e with pendSched := (numbered 0 plan.lanes).foldl (fun c p => tput (0, []) c p.1 p.2) [], pendDec := plan.dec }).modK fun k =>
        { k with imgTx := cut1024 (i.octets.length + 1) i.octets, imgAcked := 0 })
    exact ⟨himg, hmsgs⟩
  · exact ⟨rfl, rfl⟩

theorem commitStart_commits {l : Live} (hvalid : (l.validate l.img.txn.image.1 l.img.txn.image.2).1 = []) : l.commitStart.img =
    { l.img with txn := { l.img.txn with st := .committing, ready := l.img.txn.image.1, mateOk := false, syncAt := l.now } } ∧
      l.commitStart.msgs = l.msgs := by
  rw [commitStart_eq, if_neg (by rw [hvalid]; decide)]
  exact committing_parts _ _ _

/-- The request leaves its port's reply. -/
theorem begun_reply (q : Req) (p : Nat) : ((l.begun q).mport p).reply = (l.mport p).reply := by
  obtain ⟨cs, w, he⟩ := l.begun_eq q
  have hport : (l.begun q).mport p = (l.modMport (MsgHdr.port_ q.h) fun p => { p with inbox := some q.frame }).mport p := by
    rw [he]
    rfl
  rw [hport, Live.modMport_mport]
  split
  next hp => rw [hp]
  next => rfl

end Starts

/-! ## TXN_COMMIT (R480) -/

section Commit
variable {s : State} {h : MsgHdr} (hs : Served s.live h 0x21 1 [])
include hs

theorem txnCommit_unleased (hlease : s.live.keeper.live = false) : Gives (exec (.txnCommit h) s) (fun t =>
    Replied t h 0x21 (if s.live.fc.safe then 0x0C else 0x08) [] ∧ t.live.img.txn.st = s.live.img.txn.st) := by
  have hcheck : (s.live.asked (txnReq h 0x21 1)).leaseCheck true = if s.live.fc.safe then 0x0C else 0x08 :=
    (asked_leaseCheck _ _ _).trans ((if_neg (ne_true_of_eq_false hlease)).trans (by rw [Bool.true_and]))
  refine serve_refused_gives (q := txnReq h 0x21 1) hs (by simp [txnReq]) hcheck (by split <;> decide) ?_
  dsimp only
  rw [answer_img, (asked_txn _ _).1]

section Leased
variable (hlease : s.live.keeper.live = true)
include hlease

theorem txnCommit_gives {t : State} {st : Nat} {data : List Byte}
    (hcommit : ({ s with live := s.live.begun (txnReq h 0x21 1) } : State).commit (txnReq h 0x21 1) h.sess.toNat (s.live.sess h.sess.toNat).cls =
      (t, some (st, data))) :
    Gives (exec (.txnCommit h) s) (fun u => Replied u h 0x21 st data ∧ u.live.img = t.live.img) :=
  serve_answered_gives (q := txnReq h 0x21 1) (run := fun s n c => s.commit (txnReq h 0x21 1) n c) hs (by simp [txnReq])
    ((asked_leaseCheck _ _ _).trans (leaseCheck_live hlease _)) hcommit (answerKept_img _ _ _ _)

theorem txnCommit_closed (hst : s.live.img.txn.st = .idle ∨ s.live.img.txn.st = .pending) :
    Gives (exec (.txnCommit h) s) (fun t => Replied t h 0x21 0x06 []) := by
  refine (txnCommit_gives hs hlease (t := { s with live := s.live.begun (txnReq h 0x21 1) }) ?_).left
  unfold State.commit
  rcases hst with hst | hst <;> simp only [(begun_txn _ _).1, hst]

theorem txnCommit_busy (hst : s.live.img.txn.st = .committing) : Gives (exec (.txnCommit h) s) (fun t => Replied t h 0x21 0x01 []) := by
  refine (txnCommit_gives hs hlease (t := { s with live := s.live.begun (txnReq h 0x21 1) }) ?_).left
  unfold State.commit
  simp only [(begun_txn _ _).1, hst]

section Opened
variable (hst : s.live.img.txn.st = .opened)
include hst

theorem txnCommit_other (howner : s.live.img.txn.owner ≠ h.sess.toNat) : Gives (exec (.txnCommit h) s) (fun t => Replied t h 0x21 0x07 []) := by
  refine (txnCommit_gives hs hlease (t := { s with live := s.live.begun (txnReq h 0x21 1) }) ?_).left
  unfold State.commit
  simp only [(begun_txn _ _).1, hst]
  exact if_pos howner

omit hs hlease hst in
theorem begun_shadowDenied (l : Live) (q : Req) (c : Nat) : (l.begun q).shadowDenied c = l.shadowDenied c := by
  obtain ⟨cs, w, he⟩ := l.begun_eq q
  rw [he]
  rfl

section Owner
variable (howner : s.live.img.txn.owner = h.sess.toNat)
include howner

theorem txnCommit_denied (hdenied : s.live.shadowDenied (s.live.sess h.sess.toNat).cls = true) : Gives (exec (.txnCommit h) s) (fun t =>
    Replied t h 0x21 0x02 (leBytes s.live.img.txn.num.toNat 2 ++ [0, 0]) ∧ CommitFailed s.live t.live) := by
  obtain ⟨htxn, hcur, hslots, -⟩ := begun_txn s.live (txnReq h 0x21 1)
  obtain ⟨t, ht, hreply, himg⟩ := txnCommit_gives hs hlease (st := 0x02) (data := leBytes s.live.img.txn.num.toNat 2 ++ [0, 0])
    (t := { s with live := ((s.live.begun (txnReq h 0x21 1)).modTxn fun t => { t with outcome := 6 }).count 121 }) (by
      unfold State.commit
      simp only [htxn, hst]
      exact (if_neg (not_not_intro howner)).trans (if_pos ((begun_shadowDenied _ _ _).trans hdenied)))
  refine ⟨t, ht, hreply, ?_⟩
  obtain ⟨cs, w, hc⟩ := ((s.live.begun (txnReq h 0x21 1)).modTxn fun t => { t with outcome := 6 }).count_counted 121
  unfold CommitFailed
  rw [himg, hc]
  dsimp only [Live.modTxn]
  rw [htxn]
  exact ⟨hst, rfl, hcur, hslots⟩

/-- The commit runs, and its reply is held. -/
theorem txnCommit_starts (hallowed : s.live.shadowDenied (s.live.sess h.sess.toNat).cls = false) :
    exec (.txnCommit h) s = .next { s with live := (s.live.commitHeld h).commitStart } := by
  refine congrArg Host.Outcome.next (serve_silent (q := txnReq h 0x21 1) (check := fun s _ _ => s.live.leaseCheck true)
    (run := fun s n c => s.commit (txnReq h 0x21 1) n c) hs (by simp [txnReq])
    ((asked_leaseCheck _ _ _).trans (leaseCheck_live hlease _)) ?_)
  unfold State.commit
  simp only [(begun_txn _ _).1, hst]
  refine (if_neg (not_not_intro howner)).trans ((if_neg ?_).trans rfl)
  rw [begun_shadowDenied]
  exact ne_true_of_eq_false hallowed

theorem txnCommit_fails (hallowed : s.live.shadowDenied (s.live.sess h.sess.toNat).cls = false) {r : VRep} {rs : List VRep}
    (hbad : (s.live.validate s.live.img.txn.image.1 s.live.img.txn.image.2).1 = r :: rs) :
    Gives (exec (.txnCommit h) s) (fun t => CommitFailed s.live t.live ∧ Replied t h 0x21 (reasonStatus r.reason) (s.live.commitReport (r :: rs))) := by
  refine ⟨_, txnCommit_starts hs hlease hst howner hallowed, ?_⟩
  obtain ⟨htxn, hcur, hslots⟩ := commitHeld_img s.live h
  have hfail : (s.live.commitHeld h).commitStart = (s.live.commitHeld h).commitFail (r :: rs) := by
    rw [commitStart_eq, commitHeld_validate, htxn, heldImage, hbad]
    rfl
  dsimp only
  rw [hfail]
  obtain ⟨hopen, hout, hcur', hslots'⟩ := commitFail_failed (s.live.commitHeld h) (r :: rs)
  refine ⟨⟨hopen, hout, hcur'.trans hcur, hslots'.trans hslots⟩, ?_⟩
  have hreport : (s.live.commitHeld h).commitReport (r :: rs) = s.live.commitReport (r :: rs) := by
    unfold Live.commitReport
    rw [htxn]
    rfl
  have hreply := commitFail_reply (s.live.commitHeld h) (p := h.port.val) (m := MsgHdr.msess h) (by rw [htxn]; rfl) r rs
  rw [hreport] at hreply
  exact hreply

theorem txnCommit_commits (hallowed : s.live.shadowDenied (s.live.sess h.sess.toNat).cls = false)
    (hgood : (s.live.validate s.live.img.txn.image.1 s.live.img.txn.image.2).1 = []) :
    Gives (exec (.txnCommit h) s) (fun t => t.live.img.txn.st = .committing ∧ t.live.img.txn.ready = s.live.img.txn.image.1 ∧
      t.live.img.txn.held = some (h.port.val, MsgHdr.msess h) ∧ (t.live.mport h.port).reply = (s.live.mport h.port).reply ∧
      t.live.img.cur = s.live.img.cur) := by
  refine ⟨_, txnCommit_starts hs hlease hst howner hallowed, ?_⟩
  obtain ⟨htxn, hcur, -⟩ := commitHeld_img s.live h
  have hvalid : ((s.live.commitHeld h).validate (s.live.commitHeld h).img.txn.image.1 (s.live.commitHeld h).img.txn.image.2).1 = [] := by
    rw [commitHeld_validate, htxn, heldImage, hgood]
  obtain ⟨himg, hmsgs⟩ := commitStart_commits hvalid
  have hport : ((s.live.commitHeld h).commitStart.mport h.port).reply = ((s.live.begun (txnReq h 0x21 1)).mport h.port).reply :=
    congrArg (fun ms : Msgs => (tget ({} : MsgPort) ms.ports h.port.val).reply) hmsgs
  dsimp only
  rw [himg, htxn, hport]
  exact ⟨rfl, congrArg Prod.fst (heldImage _ _ _), rfl, begun_reply _ _ _, hcur⟩

end Owner
end Opened
end Leased
end Commit

end Sys2Proof.Machine
end

section
/-! PROOFS. The stages of a commit, the time-outs of the transaction, and IMAGE_WRITE (R430, R455, R478, R479). -/
open Sys2Proof Sys2Proof.Machine
namespace Sys2Proof.Machine

section Stages
variable {s : State}

/-- A commit that fails leaves nothing but its report. -/
theorem commitBroken_gives {o : Host.Outcome State Fault Refusal} {l : Live} (reason : Nat) (ho : o = .next { s with live := l.commitBroken reason })
    (himg : l.img = s.live.img) : Gives o (fun t => CommitFailed s.live t.live) := by
  refine ⟨_, ho, ?_⟩
  obtain ⟨hopen, hout, hcur, hslots⟩ := commitFail_failed l [{ reason := reason }]
  rw [himg] at hcur hslots
  exact ⟨hopen, hout, hcur, hslots⟩

/-! ## COMMIT_COMPLETE (R455) -/

/-- The slot as a commit stages it. -/
def Live.slotStaged (l : Live) (i : Image) : StoreSlot :=
  let top := match l.newerSlot (·.used) with | some m => (l.storeSlot m).sseq | none => 0
  let s : StoreSlot := { used := true, sseq := top + 1, hash := i.hash, act := 0xFFFFFFFF, img := i }
  { s with scrc := BitVec.ofNat 32 (crc32 s.head) }

theorem stageImage_storeSlot (l : Live) (n : Nat) (i : Image) (m : Nat) :
    (l.stageImage n i).storeSlot m = if m = n then l.slotStaged i else l.storeSlot m :=
  tget_tmod ({} : StoreSlot) l.img.slots n (fun _ => l.slotStaged i) m

/-- The image is staged in its slot, and the other slots stay. -/
theorem stageImage_slots (l : Live) (n : Nat) (i : Image) : ((l.stageImage n i).storeSlot n).img = i ∧ ((l.stageImage n i).storeSlot n).used = true ∧
    (∀ m, m ≠ n → (l.stageImage n i).storeSlot m = l.storeSlot m) ∧ (l.stageImage n i).img.cur = l.img.cur ∧ (l.stageImage n i).img.txn = l.img.txn := by
  refine ⟨?_, ?_, fun m hm => ?_, rfl, rfl⟩
  · rw [stageImage_storeSlot, if_pos rfl]
    rfl
  · rw [stageImage_storeSlot, if_pos rfl]
    rfl
  · rw [stageImage_storeSlot, if_neg hm]

section Complete
variable {ok : Bool}

theorem commitComplete_waits (h : s.live.img.txn.st ≠ .committing ∨ s.live.needsMate = true ∨ s.live.fwWork = false) :
    exec (.commitComplete ok) s = .next s := by
  show execCommitComplete ok s = _
  unfold execCommitComplete
  refine upd_idle (if_pos ?_)
  rcases h with h | h | h <;> simp [h]

section Due
variable (hst : s.live.img.txn.st = .committing) (hmate : s.live.needsMate = false) (hfw : s.live.fwWork = true)
include hst hmate hfw

theorem commitComplete_unstored (h : ok = false ∨ s.live.flashErase = false ∨ s.live.flashProgram = false) :
    Gives (exec (.commitComplete ok) s) (fun t => CommitFailed s.live t.live ∧ Raised s t [s.live.detailOf 0xB003 0x0001]) := by
  have hexec : exec (.commitComplete ok) s = .next { s with live := (s.live.raise 0xB003 0x0001).commitBroken 0x10 } := by
    show execCommitComplete ok s = _
    unfold execCommitComplete
    refine upd_congr (g := fun l => (l.raise 0xB003 0x0001).commitBroken 0x10) ((if_neg ?_).trans (if_pos ?_))
    · simp [hst, hmate, hfw]
    · rcases h with h | h | h <;> simp [h]
  obtain ⟨t, ht, hfailed⟩ := commitBroken_gives 0x10 hexec rfl
  refine ⟨t, ht, hfailed, ?_⟩
  rw [hexec] at ht
  cases ht
  unfold Raised
  dsimp only [Live.commitBroken]
  rw [commitFail_fc]
  rfl

/-- The slot that a commit stages. -/
def Live.stageSlot (l : Live) : Nat := if l.img.slot = some 0 then 1 else 0

theorem commitComplete_stores (hok : ok = true) (herase : s.live.flashErase = true) (hprogram : s.live.flashProgram = true) :
    exec (.commitComplete ok) s = .next { s with live := ((s.live.stageImage s.live.stageSlot s.live.img.txn.ready).answerCommit 0
      (leBytes s.live.img.txn.num.toNat 2 ++ leBytes (s.live.bond + 2) 8)).modTxn fun t => { t with st := .pending, actBond := s.live.bond + 2 } } := by
  show execCommitComplete ok s = _
  unfold execCommitComplete
  refine upd_congr (g := fun l => ((l.stageImage l.stageSlot l.img.txn.ready).answerCommit 0
    (leBytes l.img.txn.num.toNat 2 ++ leBytes (l.bond + 2) 8)).modTxn fun t => { t with st := .pending, actBond := l.bond + 2 })
    ((if_neg ?_).trans ((if_neg ?_).trans rfl))
  · simp [hst, hmate, hfw]
  · simp [hok, herase, hprogram]

theorem commitComplete_gives (hok : ok = true) (herase : s.live.flashErase = true) (hprogram : s.live.flashProgram = true) :
    Gives (exec (.commitComplete ok) s) (fun t => t.live.img.txn.st = .pending ∧ t.live.img.txn.actBond = s.live.bond + 2 ∧
      t.live.img.txn.held = none ∧ (t.live.storeSlot s.live.stageSlot).img = s.live.img.txn.ready ∧
      (t.live.storeSlot s.live.stageSlot).used = true ∧ (∀ m, m ≠ s.live.stageSlot → t.live.storeSlot m = s.live.storeSlot m) ∧
      t.live.img.cur = s.live.img.cur ∧ (∀ p m, s.live.img.txn.held = some (p, m) →
        (t.live.mport p).reply = some (msgFrame m 0x21 (0 :: (leBytes s.live.img.txn.num.toNat 2 ++ leBytes (s.live.bond + 2) 8))))) := by
  refine ⟨_, commitComplete_stores hst hmate hfw hok herase hprogram, ?_⟩
  obtain ⟨himage, hused, hothers, hcur, htxn⟩ := stageImage_slots s.live s.live.stageSlot s.live.img.txn.ready
  have himg := answerCommit_img (s.live.stageImage s.live.stageSlot s.live.img.txn.ready) 0
    (leBytes s.live.img.txn.num.toNat 2 ++ leBytes (s.live.bond + 2) 8)
  have hslot (m : Nat) : (((s.live.stageImage s.live.stageSlot s.live.img.txn.ready).answerCommit 0
      (leBytes s.live.img.txn.num.toNat 2 ++ leBytes (s.live.bond + 2) 8)).modTxn fun t =>
        { t with st := .pending, actBond := s.live.bond + 2 }).storeSlot m =
      (s.live.stageImage s.live.stageSlot s.live.img.txn.ready).storeSlot m :=
    (congrArg (fun i : Img => tget ({} : StoreSlot) i.slots m) himg :)
  refine ⟨rfl, rfl, ?_, ?_, ?_, fun m hm => ?_, ?_, fun p m hheld => ?_⟩
  · exact congrArg (fun i : Img => i.txn.held) himg
  · rw [hslot]
    exact himage
  · rw [hslot]
    exact hused
  · rw [hslot]
    exact hothers m hm
  · exact (congrArg Img.cur himg).trans hcur
  · exact (answerCommit_reply _ (by rw [htxn]; exact hheld) _ _).1

end Due
end Complete

/-! ## IMG_ACK and IMAGE_SYNC_TIMEOUT (R430) -/

section Ack
variable {f : MateHdr}

theorem imgAck_dropped (h : s.live.kUp = false ∨ f.crcOk = false ∨ s.live.img.txn.st ≠ .committing) : exec (.imgAck f) s = .next s := by
  show execImgAck f s = _
  unfold execImgAck
  refine upd_idle (if_pos ?_)
  rcases h with h | h | h <;> simp [h]

/-- A block that the image has is sent. -/
theorem imgSend_gives (l : Live) {k : Nat} (hk : k < l.keeper.imgTx.length) : (l.imgSend k).keeper.imgAcked = l.keeper.imgAcked ∧
    ∃ g, (l.imgSend k).keeper.sent.head? = some g ∧ g.ftype = 5 ∧ g.data = l.keeper.imgTx.getD k [] := by
  have hget : l.keeper.imgTx[k]? = some (l.keeper.imgTx.getD k []) := by simp [hk]
  unfold Live.imgSend
  rw [hget]
  exact ⟨rfl, _, rfl, rfl, rfl⟩

/-- What an acknowledgement in its turn does. -/
def Live.imgAcks (l : Live) (f : MateHdr) : Live :=
  match (f.data.getD 0 2).toNat with
  | 0 =>
    let l' := l.modK fun k => { k with imgAcked := k.imgAcked + 1 }
    if l'.keeper.imgAcked < l'.keeper.imgTx.length then l'.imgSend l'.keeper.imgAcked
    else if sliceB f.data 4 32 = l.img.txn.ready.hash then (l'.modTxn fun t => { t with mateOk := true }).count 123
    else l'.commitBroken 0x0F
  | 1 => l.imgSend f.idx.toNat
  | _ => l.commitBroken 0x0F

section Turn
variable (hup : s.live.kUp = true) (hcrc : f.crcOk = true) (hst : s.live.img.txn.st = .committing) (hmate : s.live.img.txn.mateOk = false)
  (hidx : f.idx.toNat = s.live.keeper.imgAcked)
include hup hcrc hst hmate hidx

theorem exec_imgAck : exec (.imgAck f) s = .next { s with live := s.live.imgAcks f } := by
  show execImgAck f s = _
  unfold execImgAck
  refine upd_congr (g := fun l => l.imgAcks f) ((if_neg ?_).trans rfl)
  simp [hup, hcrc, hst, hmate, hidx]

theorem imgAck_next (hack : f.data.getD 0 2 = 0) (hmore : s.live.keeper.imgAcked + 1 < s.live.keeper.imgTx.length) :
    Gives (exec (.imgAck f) s) (fun t => t.live.keeper.imgAcked = s.live.keeper.imgAcked + 1 ∧
      ∃ g, t.live.keeper.sent.head? = some g ∧ g.ftype = 5 ∧ g.data = s.live.keeper.imgTx.getD (s.live.keeper.imgAcked + 1) []) := by
  refine ⟨_, exec_imgAck hup hcrc hst hmate hidx, ?_⟩
  have hacks : s.live.imgAcks f = (s.live.modK fun k => { k with imgAcked := k.imgAcked + 1 }).imgSend (s.live.keeper.imgAcked + 1) := by
    unfold Live.imgAcks
    rw [hack]
    exact if_pos hmore
  dsimp only
  rw [hacks]
  exact imgSend_gives (s.live.modK fun k => { k with imgAcked := k.imgAcked + 1 }) hmore

section Last
variable (hack : f.data.getD 0 2 = 0) (hlast : s.live.keeper.imgTx.length ≤ s.live.keeper.imgAcked + 1)
include hack hlast

omit hup hcrc hst hmate hidx in
theorem imgAcks_last : s.live.imgAcks f = if sliceB f.data 4 32 = s.live.img.txn.ready.hash
    then ((s.live.modK fun k => { k with imgAcked := k.imgAcked + 1 }).modTxn fun t => { t with mateOk := true }).count 123
    else (s.live.modK fun k => { k with imgAcked := k.imgAcked + 1 }).commitBroken 0x0F := by
  unfold Live.imgAcks
  rw [hack]
  exact if_neg (Nat.not_lt.mpr hlast)

theorem imgAck_confirms (hhash : sliceB f.data 4 32 = s.live.img.txn.ready.hash) :
    Gives (exec (.imgAck f) s) (fun t => t.live.img.txn = { s.live.img.txn with mateOk := true }) := by
  refine ⟨_, exec_imgAck hup hcrc hst hmate hidx, ?_⟩
  dsimp only
  rw [imgAcks_last hack hlast, if_pos hhash, count_img]
  rfl

theorem imgAck_differs (hhash : sliceB f.data 4 32 ≠ s.live.img.txn.ready.hash) :
    Gives (exec (.imgAck f) s) (fun t => CommitFailed s.live t.live) := by
  refine commitBroken_gives 0x0F (l := s.live.modK fun k => { k with imgAcked := k.imgAcked + 1 }) ?_ rfl
  rw [exec_imgAck hup hcrc hst hmate hidx, imgAcks_last hack hlast, if_neg hhash]

end Last

theorem imgAck_again (hack : f.data.getD 0 2 = 1) (hin : f.idx.toNat < s.live.keeper.imgTx.length) :
    Gives (exec (.imgAck f) s) (fun t => t.live.img = s.live.img ∧
      ∃ g, t.live.keeper.sent.head? = some g ∧ g.ftype = 5 ∧ g.data = s.live.keeper.imgTx.getD f.idx.toNat []) := by
  refine ⟨_, exec_imgAck hup hcrc hst hmate hidx, ?_⟩
  have hacks : s.live.imgAcks f = s.live.imgSend f.idx.toNat := by
    unfold Live.imgAcks
    rw [hack]
    rfl
  dsimp only
  rw [hacks]
  exact ⟨Live.same_img (by simp), (imgSend_gives s.live hin).2⟩

theorem imgAck_refused (hack : f.data.getD 0 2 = 2) : Gives (exec (.imgAck f) s) (fun t => CommitFailed s.live t.live) := by
  refine commitBroken_gives 0x0F (l := s.live) ?_ rfl
  have hacks : s.live.imgAcks f = s.live.commitBroken 0x0F := by
    unfold Live.imgAcks
    rw [hack]
    rfl
  rw [exec_imgAck hup hcrc hst hmate hidx, hacks]

end Turn

theorem imageSyncTimeout_fails (hst : s.live.img.txn.st = .committing) (hmate : s.live.needsMate = true)
    (hdue : s.live.img.txn.syncAt + 400000000 ≤ s.live.now) : Gives (exec .imageSyncTimeout s) (fun t => CommitFailed s.live t.live) := by
  refine commitBroken_gives 0x0F (l := s.live) ?_ rfl
  show execImageSyncTimeout s = _
  unfold execImageSyncTimeout
  exact upd_of_pos rfl (by simp [hst, hmate, hdue])

theorem imageSyncTimeout_early (h : s.live.img.txn.st ≠ .committing ∨ s.live.needsMate = false ∨ s.live.now < s.live.img.txn.syncAt + 400000000) :
    exec .imageSyncTimeout s = .next s := by
  show execImageSyncTimeout s = _
  unfold execImageSyncTimeout
  refine upd_idle (if_neg ?_)
  rcases h with h | h | h <;> simp [h]

end Ack

/-! ## TXN_TIMEOUT (R479) -/

theorem txnTimeout_ends (hst : s.live.img.txn.st = .opened) (hdue : s.live.img.txn.lastAt + 2000000000 ≤ s.live.now) :
    Gives (exec .txnTimeout s) (fun t => t.live.img.txn.st = .idle ∧ t.live.img.txn.outcome = 4 ∧ t.live.img.cur = s.live.img.cur ∧
      Raised s t [s.live.detailOf 0xB007 (0xD010 + s.live.img.txn.owner) s.live.img.txn.num.toNat]) := by
  have hexec : exec .txnTimeout s = .next { s with
      live := (s.live.raise 0xB007 (0xD010 + s.live.img.txn.owner) s.live.img.txn.num.toNat).txnRollback 4 } := by
    show execTxnTimeout s = _
    unfold execTxnTimeout
    refine upd_congr (g := fun l => (l.raise 0xB007 (0xD010 + l.img.txn.owner) l.img.txn.num.toNat).txnRollback 4) (if_pos ?_)
    simp [hst, txnTicks, hdue]
  obtain ⟨hidle, hout, hcur⟩ := txnRollback_img (l := s.live.raise 0xB007 (0xD010 + s.live.img.txn.owner) s.live.img.txn.num.toNat) hst 4
  have hfc (k : Live) : (k.txnRollback 4).fc = k.fc := Live.same_fc (by simp)
  refine ⟨_, hexec, hidle, hout, hcur, ?_⟩
  unfold Raised
  dsimp only
  rw [hfc]
  rfl

theorem txnTimeout_early (h : s.live.img.txn.st ≠ .opened ∨ s.live.now < s.live.img.txn.lastAt + 2000000000) : exec .txnTimeout s = .next s := by
  show execTxnTimeout s = _
  unfold execTxnTimeout
  refine upd_idle (if_neg ?_)
  rcases h with h | h
  · simp [h]
  · simp [txnTicks, Nat.not_le.mpr h]

end Stages

/-! ## IMAGE_WRITE (R478) -/

section Write
variable {s : State} {h : MsgHdr} {off : Word} {data : List Byte}

/-- The request of IMAGE_WRITE. -/
def imageReq (h : MsgHdr) (off : Word) (data : List Byte) : Req :=
  { h := h, mop := 0x60, body := leBytes off.toNat 4 ++ data, cls := 2, tclass := 6 }

/-- The image that is written raw, with more of its octets (R478). -/
def Txn.written (t : Txn) (off : Nat) (data : List Byte) : Txn :=
  { t with
    raw := some ((numbered off data).foldl (fun r p => tput 0xFF r p.1 p.2) (t.raw.getD []))
    edited := if t.raw.isNone then false else t.edited
    edits := if t.raw.isNone then [] else t.edits }

/-- Octets that are put from a place on read back, and no other place changes. -/
theorem tget_written {α : Type} [DecidableEq α] (d : α) (xs : List α) (n : Nat) (t : Tbl α) :
    (∀ i, i < xs.length → tget d ((numbered n xs).foldl (fun r p => tput d r p.1 p.2) t) (n + i) = xs.getD i d) ∧
      ∀ a, a < n ∨ n + xs.length ≤ a → tget d ((numbered n xs).foldl (fun r p => tput d r p.1 p.2) t) a = tget d t a := by
  refine ⟨fun i hi => ?_, fun a ha => ?_⟩
  · rw [tget_foldl_numbered, if_neg (by omega), Nat.add_sub_cancel_left]
    simp [hi]
  · rw [tget_foldl_numbered]
    rcases ha with ha | ha
    · rw [if_pos ha]
    · rw [if_neg (by omega), List.getElem?_eq_none (by omega)]
      rfl

section Served
variable (hs : Served s.live h 0x60 2 (leBytes off.toNat 4 ++ data))
include hs

theorem imageWrite_unleased (hlease : s.live.keeper.live = false) :
    Gives (exec (.imageWrite h off data) s) (fun t => Replied t h 0x60 0x08 [] ∧ t.live.img.txn.raw = s.live.img.txn.raw) := by
  refine serve_refused_gives (q := imageReq h off data) hs (by simp [imageReq])
    ((asked_leaseCheck _ _ _).trans (if_neg (ne_true_of_eq_false hlease))) (by decide) ?_
  dsimp only
  rw [answer_img, (asked_txn _ _).1]

section Leased
variable (hlease : s.live.keeper.live = true)
include hlease

theorem imageWrite_gives {k : Live} {st : Nat} {out : List Byte}
    (hwrite : (s.live.begun (imageReq h off data)).imageWrite h.sess.toNat off.toNat data = (k, st, out)) :
    Gives (exec (.imageWrite h off data) s) (fun t => Replied t h 0x60 st out ∧ t.live.img = k.img) :=
  serve_onLive_answered (q := imageReq h off data) (f := fun l n _ => l.imageWrite n off.toNat data) hs (by simp [imageReq])
    ((asked_leaseCheck _ _ _).trans (leaseCheck_live hlease _)) hwrite (answerKept_img _ _ _ _)

theorem imageWrite_long (hlong : 258048 < off.toNat + data.length) :
    Gives (exec (.imageWrite h off data) s) (fun t => Replied t h 0x60 0x0C [] ∧ t.live.img.txn.raw = s.live.img.txn.raw) := by
  obtain ⟨t, ht, hreply, himg⟩ := imageWrite_gives hs hlease (k := s.live.begun (imageReq h off data)) (if_pos hlong)
  exact ⟨t, ht, hreply, by rw [himg, (begun_txn _ _).1]⟩

section Fits
variable (hfits : off.toNat + data.length ≤ 258048)
include hfits

theorem imageWrite_denied {st : Nat} (hfree : s.live.shadowFree h.sess.toNat = st) (hst : st ≠ 0) :
    Gives (exec (.imageWrite h off data) s) (fun t => Replied t h 0x60 st []) := by
  refine (imageWrite_gives hs hlease (k := s.live.begun (imageReq h off data)) ?_).left
  unfold Live.imageWrite
  simp only [begun_shadowFree, hfree]
  exact (if_neg (Nat.not_lt.mpr hfits)).trans (if_pos hst)

theorem imageWrite_writes (hst : s.live.img.txn.st = .opened) (howner : s.live.img.txn.owner = h.sess.toNat) :
    Gives (exec (.imageWrite h off data) s) (fun t => Replied t h 0x60 0 [] ∧ t.live.img.cur = s.live.img.cur ∧
      ∃ r, t.live.img.txn.raw = some r ∧ (∀ i, i < data.length → tget 0xFF r (off.toNat + i) = data.getD i 0) ∧
        ∀ a, a < off.toNat ∨ off.toNat + data.length ≤ a → tget 0xFF r a = tget 0xFF (s.live.img.txn.raw.getD []) a) := by
  obtain ⟨htxn, hcur, -⟩ := begun_txn s.live (imageReq h off data)
  have hfree : s.live.shadowFree h.sess.toNat = 0 := by
    unfold Live.shadowFree
    rw [hst]
    exact if_pos howner
  obtain ⟨t, ht, hreply, himg⟩ := imageWrite_gives hs hlease (st := 0) (out := [])
    (k := (s.live.begun (imageReq h off data)).modTxn (·.written off.toNat data)) (by
      unfold Live.imageWrite
      simp only [begun_shadowFree, hfree]
      exact (if_neg (Nat.not_lt.mpr hfits)).trans (if_neg fun hno => hno rfl))
  obtain ⟨hin, hout⟩ := tget_written (0xFF : Byte) data off.toNat (s.live.img.txn.raw.getD [])
  refine ⟨t, ht, hreply, by rw [himg]; exact hcur, _, ?_, fun i hi => (hin i hi).trans ?_, hout⟩
  · rw [himg, modTxn_img, htxn]
    rfl
  · simp [hi]

end Fits
end Leased
end Served
end Write

/-- Settles O54: each event of a transaction is its row of Table 14.7. -/
theorem transactionsFollowTheTable : Obligations.TransactionsFollowTheTable := by
  intro s h f
  refine ⟨fun hs => ⟨txnBegin_unleased hs, fun hl => ⟨txnBegin_opens hs hl, txnBegin_open hs hl, txnBegin_busy hs hl⟩⟩,
    fun hs => ⟨txnRollback_closed hs, txnRollback_other hs, txnRollback_owner hs⟩,
    fun hs => ⟨txnStatus_other hs, txnStatus_owner hs⟩,
    fun hs => ⟨txnCommit_unleased hs, fun hl => ⟨txnCommit_closed hs hl, txnCommit_busy hs hl, txnCommit_other hs hl,
      fun hst howner => ⟨txnCommit_denied hs hl hst howner, fun hallowed => ?_⟩⟩⟩,
    fun ok => ⟨commitComplete_waits, fun hst hmate hfw => ⟨commitComplete_gives hst hmate hfw, commitComplete_unstored hst hmate hfw⟩⟩,
    fun hup hcrc hst hmate hidx => ⟨imgAck_next hup hcrc hst hmate hidx,
      fun hack hlast => ⟨imgAck_confirms hup hcrc hst hmate hidx hack hlast, imgAck_differs hup hcrc hst hmate hidx hack hlast⟩,
      imgAck_again hup hcrc hst hmate hidx, imgAck_refused hup hcrc hst hmate hidx⟩,
    imgAck_dropped, imageSyncTimeout_fails, imageSyncTimeout_early, txnTimeout_ends, txnTimeout_early,
    fun off data hs => ⟨imageWrite_unleased hs, fun hl => ⟨imageWrite_long hs hl, fun hfits => ⟨fun hst => ?_, fun hst howner => ?_,
      imageWrite_writes hs hl hfits⟩⟩⟩⟩
  · cases hvalid : (s.live.validate s.live.img.txn.image.1 s.live.img.txn.image.2).1 with
    | nil => exact txnCommit_commits hs hl hst howner hallowed hvalid
    | cons r rs => exact txnCommit_fails hs hl hst howner hallowed hvalid
  · refine imageWrite_denied hs hl hfits ?_ (by decide)
    unfold Live.shadowFree
    rcases hst with hst | hst <;> rw [hst]
  · refine imageWrite_denied hs hl hfits ?_ (by decide)
    unfold Live.shadowFree
    rw [hst]
    exact if_neg howner

end Sys2Proof.Machine
end

section
/-! PROOFS. What the reactions of the collector leave of its own state, and what taking an occurrence does (R373, R374, R390). -/
open Sys2Proof Sys2Proof.Machine
namespace Sys2Proof.Machine.Live

theorem held_table {l k : Live} (h : k.held = l.held) : k.fc.table = l.fc.table :=
  show k.held.table = l.held.table from congrArg Fc.table h

theorem held_blocks {l k : Live} (h : k.held = l.held) : k.fc.blocks = l.fc.blocks :=
  show k.held.blocks = l.held.blocks from congrArg Fc.blocks h

/-! ## What only sends details -/

/-- A record may find the event ring full, which sends a detail (R517). -/
theorem record_held (l : Live) (etype : Nat) (pay : List Byte) : (l.record etype pay).held = l.held := by
  unfold Live.record
  extract_lets r mk lost r' l1 l2
  have h1 : less 268402687 l1 = less 268402687 l := by simp [l1]
  have h2 : less 268402687 l2 = less 268402687 l := by simpa [l2] using h1
  split
  · split
    · split
      · exact held_of_less h2
      · exact raise_held h2 _ _ _
    · exact held_of_less h1
  · split <;> exact held_of_less (by simp)

theorem traceFire_held (l : Live) (t kind : Nat) (value : W24) : (l.traceFire t kind value).held = l.held := by
  unfold Live.traceFire
  extract_lets l1
  have h1 : l1.held = l.held := l.record_held _ _
  split
  · exact (held_of_less (by simp)).trans h1
  · exact h1

theorem traceAsk_held (l : Live) (t kind : Nat) : (l.traceAsk t kind).held = l.held := by
  unfold Live.traceAsk
  split
  · exact (held_of_less (by simp)).trans (l.traceFire_held t kind 0)
  · rfl

theorem traceOccurrence_held (l : Live) (code : Half) : (l.traceOccurrence code).held = l.held := by
  refine each_keeps held l 8 _ fun k t => ?_
  split
  · exact k.traceAsk_held t 4
  · rfl

theorem packDone_held (l : Live) (k : Nat) (data : Option (List Byte)) : (l.packDone k data).held = l.held := by
  unfold Live.packDone
  split
  · exact held_of_less (by simp)
  · dsimp only
    split
    · exact raise_held (by simp) _ _ _
    · exact held_of_less (by simp)

theorem airDone_held (l : Live) (i : Nat) (data : Option (List Byte)) : (l.airDone i data).held = l.held := by
  unfold Live.airDone
  split
  · rfl
  · dsimp only
    split <;> rfl

theorem askerFail_held (l : Live) (a : Asker) : (l.askerFail a).held = l.held := by
  cases a with
  | gauge k => exact l.packDone_held k none
  | air i => exact l.airDone_held i none
  | firmware _ => rfl

theorem keeperTo_held (l : Live) (st : KSt) : (l.keeperTo st).held = l.held := by
  unfold Live.keeperTo
  split
  · rfl
  · refine (held_of_less ?_).trans (l.record_held 0x05 ([BitVec.ofNat 8 l.keeper.st.code, BitVec.ofNat 8 st.code] ++ leBytes l.keeper.epoch.toNat 2))
    simp

/-- The reset of an initiator port tells its asker; that of another block stays outside the collector (Table 11.8). -/
theorem resetAction_held (l : Live) (b : Nat) : (l.resetAction b).held = l.held := by
  have hport (k : Live) (p : Nat) : (match (k.pi p).active with | some a => k.askerFail a | none => k).held = k.held := by
    split
    · exact k.askerFail_held _
    · rfl
  unfold Live.resetAction
  split
  · split
    · rfl
    · extract_lets l1 l2
      have h1 : less 268402687 l1 = less 268402687 l := by simp [l1]
      have h2 : less 268402687 l2 = less 268402687 l1 := less_each fun k s => by simp
      exact held_of_less ((ringTrain_keep _ _ _ (by decide)).trans (h2.trans h1))
  · split
    · exact held_of_less (by simp)
    · refine held_of_less (less_each fun k p => ?_)
      split
      · simp
      · rfl
    · rfl
    · exact held_of_less (by simp)
    · exact (held_of_less (modPi_keep _ _ _ _ (by decide))).trans (hport l 0)
    · exact (held_of_less (modPi_keep _ _ _ _ (by decide))).trans (hport l 1)
    · exact held_of_less (by simp)
    · exact held_of_less (by simp)
    · rfl

/-- The safe latch sets itself, and what follows from it only sends details (R387, R388). -/
theorem safeLatch_held {l : Live} (hsafe : l.fc.safe = false) (code obj : Nat) :
    (l.safeLatch code obj).held = { l.held with safe := true, safeCode := BitVec.ofNat 16 code, safeObj := BitVec.ofNat 16 obj } := by
  unfold Live.safeLatch
  rw [if_neg (by simp [hsafe])]
  extract_lets l1 l2 l3 l4 l5 l6
  have h1 : l1.held = { l.held with safe := true, safeCode := BitVec.ofNat 16 code, safeObj := BitVec.ofNat 16 obj } := rfl
  have h3 : less 268402687 l3 = less 268402687 l1 := by simp [l3, l2, less_ite]
  have h4 : less 268402687 l4 = less 268402687 l3 := by simp [l4]
  have h5 : l5.held = l4.held := (held_of_less (by simp [l5])).trans (l4.keeperTo_held .released)
  have h6 : less 268402687 l6 = less 268402687 l5 := less_forL fun k r => by simp
  have h7 : (l6.snapRequest 2).held = l6.held := held_of_less (by simp)
  rw [h7, held_of_less h6, h5, held_of_less h4, held_of_less h3, h1]

end Sys2Proof.Machine.Live

namespace Sys2Proof.Machine

/-! ## The entries of the table -/

/-- An entry is kept: it stands as it stood, and a condition that was reported is reported still. -/
structure Occ.Kept (x y : Occ) : Prop where
  d : y.d = x.d
  cls : y.cls = x.cls
  wire : y.wire = x.wire
  conseq : y.conseq = x.conseq
  stands : y.stands = x.stands
  cond : x.cond = true → y.cond = true

/-- Every entry of the table is kept. -/
def Live.KeepsTable (l k : Live) : Prop := ∀ x ∈ l.fc.table, ∃ y ∈ k.fc.table, x.Kept y

namespace Live.KeepsTable

theorem trans {l k j : Live} (a : l.KeepsTable k) (b : k.KeepsTable j) : l.KeepsTable j := by
  intro x hx
  obtain ⟨y, hy, hxy⟩ := a x hx
  obtain ⟨z, hz, hyz⟩ := b y hy
  exact ⟨z, hz, hyz.d.trans hxy.d, hyz.cls.trans hxy.cls, hyz.wire.trans hxy.wire, hyz.conseq.trans hxy.conseq,
    hyz.stands.trans hxy.stands, fun h => hyz.cond (hxy.cond h)⟩

theorem of_subset {l k : Live} (h : l.fc.table ⊆ k.fc.table) : l.KeepsTable k :=
  fun x hx => ⟨x, h hx, rfl, rfl, rfl, rfl, rfl, id⟩

theorem of_table {l k : Live} (h : k.fc.table = l.fc.table) : l.KeepsTable k := of_subset (by rw [h]; exact List.Subset.refl _)

theorem of_fc {l k : Live} (h : k.fc = l.fc) : l.KeepsTable k := of_table (congrArg Fc.table h)

theorem of_map {l k : Live} {f : Occ → Occ} (h : k.fc.table = l.fc.table.map f) (hf : ∀ x : Occ, x.Kept (f x)) : l.KeepsTable k := by
  intro x hx
  exact ⟨f x, by rw [h]; exact List.mem_map_of_mem hx, hf x⟩

end Live.KeepsTable

/-- A repeated raise marks its entry (R373). -/
theorem Live.absorb_keepsTable (l : Live) (d : Detail) : l.KeepsTable (l.absorb d true) := by
  unfold Live.absorb
  refine .of_map (congrArg Fc.table (Live.count_fc _ 94)) fun x => ?_
  split
  · exact ⟨rfl, rfl, rfl, rfl, rfl, fun _ => rfl⟩
  · exact ⟨rfl, rfl, rfl, rfl, rfl, id⟩

theorem Live.recordOcc_keepsTable (l : Live) (o : Occ) : l.KeepsTable (l.recordOcc o) := by
  unfold Live.recordOcc
  split
  · exact .of_subset (List.subset_append_left _ _)
  · exact .of_table (congrArg Fc.table (Live.count_fc _ 95) :)

theorem Live.brickReset_keepsTable (l : Live) (b : Nat) : l.KeepsTable (l.brickReset b) := by
  unfold Live.brickReset
  split
  · refine .of_map rfl fun x => ?_
    split <;> exact ⟨rfl, rfl, rfl, rfl, rfl, id⟩
  · exact .of_table rfl

theorem Live.blockReset_keepsTable (l : Live) (b : Nat) : l.KeepsTable (l.blockReset b) := by
  unfold Live.blockReset
  extract_lets l1 l2
  have h2 : l2.fc.table = l1.fc.table := (congrArg Fc.table (Live.count_fc _ 93) :)
  exact (l.brickReset_keepsTable b).trans (.of_table ((Live.held_table (l2.resetAction_held b)).trans h2))

theorem Live.safeLatch_keepsTable (l : Live) (code obj : Nat) : l.KeepsTable (l.safeLatch code obj) := by
  by_cases hsafe : l.fc.safe = true
  · unfold Live.safeLatch
    rw [if_pos hsafe]
    exact .of_table rfl
  · have hheld := Live.safeLatch_held (by simpa using hsafe) code obj
    exact .of_table (congrArg Fc.table hheld :)

/-! ## A new occurrence (R373, R374, R377) -/

/-- A new occurrence is counted. -/
def Live.occCounted (l : Live) (wire shadowed : Bool) : Live :=
  let l := l.count 88
  let l := if wire then l.count 89 else l
  if shadowed then l.count 90 else l

/-- It is recorded, and the recorder's triggers see it. -/
def Live.occEntered (l : Live) (o : Occ) : Live :=
  (((l.occCounted o.wire o.conseq).recordOcc o).capOccurrence o.d.code o.cls).traceOccurrence o.d.code

/-- Its class reacts. -/
def Live.occReacts (n : Nat) (l : Live) (d : Detail) (cls : Cls) : Live :=
  let l := l.hostEvent 1 d.code.toNat d.obj.toNat d.aux.toNat
  match cls with
  | .isolate => l.isolate d
  | .safe => l.safeLatch d.code.toNat d.obj.toNat
  | .reset =>
    (match blockOf d with
     | none => l
     | some b =>
       if l.rstmax ≤ ((l.block b).resets.filter (fun x => l.bond < x + 1000)).length then
         Live.takeOcc n l (l.ownDetail 0x9005 b) false true true
       else l.blockReset b)
  | _ => l

/-- The entry of a new occurrence. -/
def occEntry (d : Detail) (cls : Cls) (wire cond : Bool) (win : Option Nat) : Occ :=
  { d := d, cls := cls, wire := wire, conseq := win.isSome, cond := cond, window := win.getD 0 }

/-- A new occurrence, recorded and answered. -/
def Live.occAnswered (n : Nat) (l : Live) (o : Occ) : Live :=
  if o.conseq || (l.occEntered o).fc.safe || o.cls = .log then l.occEntered o else (l.occEntered o).occReacts n o.d o.cls

theorem takeOcc_new {l : Live} {d : Detail} {cls : Cls} (hroute : l.routeOf d.code.toNat = some cls)
    (hnew : l.fc.table.any (fun o => o.same d) = false) (n : Nat) (wire cond fresh : Bool) :
    let o := occEntry d cls wire cond (if fresh then none else l.windowOf d)
    l.takeOcc (n + 1) d wire cond fresh =
      if (d.code ≠ 0x9004 && 63 ≤ (l.occCounted wire o.conseq).tableUsed) && !(l.occAnswered n o).fc.full then
        Live.takeOcc n ((l.occAnswered n o).modFc fun f => { f with full := true }) ((l.occAnswered n o).ownDetail 0x9004 0) false true true
      else l.occAnswered n o := by
  intro o
  conv_lhs => unfold Live.takeOcc
  rw [hroute]
  refine (if_neg (by simp [hnew])).trans ?_
  extract_lets win l1 l2 l3 full l4 l5 l6 l7
  have h3 : l3 = l.occCounted wire o.conseq := rfl
  have h5 : l5 = l.occEntered o := rfl
  have h7 : l7 = l.occAnswered n o := by
    unfold Live.occAnswered
    rw [← h5]
    clear_value l5
    rfl
  rw [← h3, ← h7]

/-! ## Taking keeps the table -/

theorem Live.occCounted_fc (l : Live) (wire shadowed : Bool) : (l.occCounted wire shadowed).fc = l.fc :=
  Live.same_fc (by simp [Live.occCounted, Live.less_ite])

theorem Live.occEntered_held (l : Live) (o : Occ) : (l.occEntered o).held = ((l.occCounted o.wire o.conseq).recordOcc o).held :=
  (Live.traceOccurrence_held _ _).trans (Live.held_of_less (by simp))

theorem Live.occEntered_keepsTable (l : Live) (o : Occ) : l.KeepsTable (l.occEntered o) :=
  ((Live.KeepsTable.of_fc (l.occCounted_fc o.wire o.conseq)).trans (Live.recordOcc_keepsTable _ o)).trans
    (.of_table (Live.held_table (l.occEntered_held o)))

/-- With a free entry, the occurrence is in the table. -/
theorem Live.occEntered_of_free {l : Live} (o : Occ) (hfree : l.tableUsed < 63) :
    (l.occEntered o).held = { l.held with table := l.fc.table ++ [o] } := by
  have hfc := l.occCounted_fc o.wire o.conseq
  have hused : (l.occCounted o.wire o.conseq).tableUsed < 63 := by rwa [Live.tableUsed, hfc]
  rw [occEntered_held, Live.recordOcc, if_pos (by simp [hused])]
  show { (l.occCounted o.wire o.conseq).held with table := (l.occCounted o.wire o.conseq).fc.table ++ [o] } = _
  rw [Live.held, hfc]
  rfl

/-- Taking keeps the table. -/
def TakeKeeps (n : Nat) : Prop := ∀ (l : Live) (d : Detail) (wire fresh : Bool), l.KeepsTable (l.takeOcc n d wire true fresh)

theorem Live.occReacts_keepsTable {n : Nat} (ih : TakeKeeps n) (l : Live) (d : Detail) (cls : Cls) : l.KeepsTable (l.occReacts n d cls) := by
  unfold Live.occReacts
  extract_lets l1
  have h1 : l.KeepsTable l1 := .of_fc (Live.same_fc (by simp [l1]))
  cases cls with
  | isolate => exact h1.trans (.of_fc (Live.same_fc (by simp)))
  | safe => exact h1.trans (l1.safeLatch_keepsTable _ _)
  | reset =>
    dsimp only
    split
    · exact h1
    · split
      · exact h1.trans (ih l1 _ false true)
      · exact h1.trans (l1.blockReset_keepsTable _)
  | _ => exact h1

theorem Live.occAnswered_keeps_entered {n : Nat} (ih : TakeKeeps n) (l : Live) (o : Occ) : (l.occEntered o).KeepsTable (l.occAnswered n o) := by
  unfold Live.occAnswered
  split
  · exact .of_table rfl
  · exact Live.occReacts_keepsTable ih _ _ _

theorem takeOcc_keepsTable (n : Nat) : TakeKeeps n := by
  induction n with
  | zero => exact fun _ _ _ _ => .of_table rfl
  | succ n ih =>
    intro l d wire fresh
    cases hroute : l.routeOf d.code.toNat with
    | none =>
      unfold Live.takeOcc
      rw [hroute]
      exact .of_table rfl
    | some cls =>
      cases hsame : l.fc.table.any (fun o => o.same d) with
      | true =>
        unfold Live.takeOcc
        rw [hroute]
        dsimp only
        rw [if_pos hsame]
        exact l.absorb_keepsTable d
      | false =>
        rw [takeOcc_new hroute hsame]
        generalize occEntry d cls wire true (if fresh then none else l.windowOf d) = o
        have hanswered := (l.occEntered_keepsTable o).trans (l.occAnswered_keeps_entered ih o)
        split
        · have hfull : (l.occAnswered n o).KeepsTable ((l.occAnswered n o).modFc fun f => { f with full := true }) := .of_table rfl
          exact hanswered.trans (hfull.trans (ih _ _ false true))
        · exact hanswered

/-- An occurrence taken afresh with an entry free: it is recorded and answered (R373, R374). -/
theorem takeOcc_fresh {l : Live} {d : Detail} {cls : Cls} (hroute : l.routeOf d.code.toNat = some cls)
    (hnew : l.fc.table.any (fun o => o.same d) = false) (hfree : l.tableUsed < 63) (n : Nat) (wire : Bool) :
    l.takeOcc (n + 1) d wire true true = l.occAnswered n (occEntry d cls wire true none) := by
  have hused : (l.occCounted wire false).tableUsed < 63 := by rwa [Live.tableUsed, l.occCounted_fc]
  rw [takeOcc_new hroute hnew]
  exact if_neg (by simp [occEntry, hused])

end Sys2Proof.Machine
end

section
/-! PROOFS. The end of a shadow window (R391, R393), and the close of its block. -/
open Sys2Proof Sys2Proof.Machine
namespace Sys2Proof.Machine

/-! ## Pruning the table (R374) -/

theorem Live.logSync_table (l : Live) : l.logSync.fc.table = l.fc.table ∧ l.logSync.fc.blocks = l.fc.blocks ∧ l.logSync.fc.safe = l.fc.safe := by
  unfold Live.logSync
  split <;> exact ⟨rfl, rfl, rfl⟩

theorem Live.tablePrune_sublist (l : Live) : l.tablePrune.fc.table.Sublist l.fc.table := by
  unfold Live.tablePrune
  extract_lets k
  have hk : k.fc.table = l.fc.table := l.logSync_table.1
  show (if k.coresUp then k.fc.table.filter (fun o => o.stands || o.seq.isNone) else k.fc.table).Sublist _
  split
  · exact hk ▸ List.filter_sublist
  · exact hk ▸ List.Sublist.refl _

theorem Live.tablePrune_blocks (l : Live) : l.tablePrune.fc.blocks = l.fc.blocks := l.logSync_table.2.1

theorem Live.tablePrune_safe (l : Live) : l.tablePrune.fc.safe = l.fc.safe := l.logSync_table.2.2

/-! ## BLOCK_BACK (R391) -/

section Back
variable {s : State} {b : Fin 16}

theorem exec_blockBack_idle (h : s.live.winOpen b = false ∨ s.live.blockBack b = false) : exec (.blockBack b) s = .next s := by
  show execBlockBack b s = _
  unfold execBlockBack
  refine upd_idle (if_neg ?_)
  rcases h with h | h <;> simp [h]

/-- What a block's return sets going: the age of the lanes, or a snapshot that waited. -/
def Live.backWork (l : Live) (b : Fin 16) : Live :=
  let l := if b = 8 then l.each 8 fun l n => l.modLane n fun k => { k with since := l.now } else l
  if b = 11 then
    match l.recd.snapDue with
    | some c => (l.modRec fun r => { r with snapDue := none }).snapRequest c
    | none => l
  else l

theorem Live.backWork_fc (l : Live) (b : Fin 16) : (l.backWork b).fc = l.fc := by
  unfold Live.backWork
  extract_lets l1
  have h1 : l1.fc = l.fc := by
    refine Live.same_fc ?_
    simp only [l1, Live.less_ite]
    rw [Live.less_each fun k n => by simp, ite_self]
  split
  · split
    · exact (Live.same_fc (by simp)).trans h1
    · exact h1
  · exact h1

theorem blockBack_gives (hopen : s.live.winOpen b = true) (hnot : (s.live.block b).back = false) (hback : s.live.blockBack b = true) :
    Gives (exec (.blockBack b) s) (fun t => (t.live.block b).back = true ∧ (t.live.block b).closeAt = (s.live.block b).closeAt) := by
  have hblock : (((s.live.modBlock b fun k => { k with back := true }).backWork b).block b) = { s.live.block b with back := true } := by
    rw [Live.block, Live.backWork_fc]
    exact Live.modBlock_block_same _ _ _
  have hexec : exec (.blockBack b) s = s.upd fun l => (l.modBlock b fun k => { k with back := true }).backWork b := by
    show execBlockBack b s = _
    unfold execBlockBack
    exact upd_congr (if_pos (by simp [hopen, hnot, hback]))
  exact ⟨_, hexec, (congrArg Block.back hblock :), (congrArg Block.closeAt hblock :)⟩

end Back

/-! ## SHADOW_WINDOW_CLOSE (R391, R393) -/

/-- A consequence that stands in the window of a block. -/
def Occ.ofWindow (b : Nat) (o : Occ) : Bool := o.conseq && o.stands && o.window = b

/-- A consequence whose window closes does not stand any more. -/
def Live.windowOver (l : Live) (b : Nat) (o : Occ) : Occ := if o.ofWindow b then { o with window := 16, cond := l.condOf o } else o

/-- The window is shut: its consequences are past, and the table is pruned. -/
def Live.windowShut (l : Live) (b : Nat) : Live :=
  ((l.modFc fun f => { f with table := f.table.map (l.windowOver b) }).modBlock b fun k => { k with closeAt := none }).tablePrune

/-- What is raised at the close, in the order of the subsystems (R32). -/
def Live.windowRaises (l : Live) (b : Nat) : List (Detail × Bool) :=
  let again := (l.fc.table.filter (fun o => o.ofWindow b && l.condOf o)).map (fun o => ({ o.d with tick := l.tick }, o.wire))
  let esc : List (Detail × Bool) := if (l.block b).back then [] else [(l.ownDetail 0x9005 b, false)]
  (again ++ esc).mergeSort (fun a b => a.1.before b.1)

theorem Live.windowRaises_eq (l : Live) (b : Nat) : l.windowRaises b =
    (((l.fc.table.filter (Occ.ofWindow b)).filter l.condOf).map (fun o : Occ => ({ o.d with tick := l.tick }, o.wire)) ++
      if (l.block b).back then [] else [(l.ownDetail 0x9005 b, false)]).mergeSort (fun a b => a.1.before b.1) := by
  rw [List.filter_filter]
  unfold Live.windowRaises
  simp only [Bool.and_comm]

theorem Live.windowShut_closeAt (l : Live) (b : Nat) : ((l.windowShut b).block b).closeAt = none := by
  have hblock : ((l.windowShut b).block b) = { l.block b with closeAt := none } := by
    rw [Live.block, Live.windowShut, Live.tablePrune_blocks]
    exact Live.modBlock_block_same _ _ _
  exact congrArg Block.closeAt hblock

theorem Live.windowShut_safe (l : Live) (b : Nat) : (l.windowShut b).fc.safe = l.fc.safe := Live.tablePrune_safe _

theorem Live.windowShut_keep (l : Live) (b : Nat) : Live.less 32768 (l.windowShut b) = Live.less 32768 l := by
  simp [Live.windowShut]

theorem Live.windowShut_sublist (l : Live) (b : Nat) : (l.windowShut b).fc.table.Sublist (l.fc.table.map (l.windowOver b)) :=
  Live.tablePrune_sublist _

theorem Live.windowOver_d (l : Live) (b : Nat) (o : Occ) : (l.windowOver b o).d = o.d := by
  unfold Live.windowOver
  split <;> rfl

/-- What stands after the close stood in no window of this block, and stands as it stood. -/
theorem Live.windowOver_stands {l : Live} {b : Nat} {o : Occ} (h : (l.windowOver b o).stands = true) :
    o.ofWindow b = false ∧ l.windowOver b o = o := by
  unfold Live.windowOver at h ⊢
  split at h
  · simp [Occ.stands] at h
  next hmine => exact ⟨by simpa using hmine, if_neg hmine⟩

theorem Live.windowShut_mem {l : Live} {b : Nat} {o : Occ} (h : o ∈ (l.windowShut b).fc.table) (hstands : o.stands = true) :
    o ∈ l.fc.table ∧ o.ofWindow b = false := by
  obtain ⟨x, hx, rfl⟩ := List.mem_map.mp ((l.windowShut_sublist b).subset h)
  obtain ⟨hmine, hsame⟩ := Live.windowOver_stands hstands
  rw [hsame]
  exact ⟨hx, hmine⟩

/-- Nothing stands in the shut table that stood outside this window before. -/
theorem Live.windowShut_none_same {l : Live} {b : Nat} {d : Detail} (h : ∀ x ∈ l.fc.table, x.same d = true → x.ofWindow b = true) :
    (l.windowShut b).fc.table.any (fun o => o.same d) = false := by
  refine List.any_eq_false.mpr fun y hy hsame => ?_
  obtain ⟨hstands, -, -⟩ : y.stands = true ∧ y.d.code = d.code ∧ y.d.obj = d.obj := by simpa [Occ.same, and_assoc] using hsame
  obtain ⟨hmem, hmine⟩ := Live.windowShut_mem hy hstands
  rw [h y hmem hsame] at hmine
  exact absurd hmine (by decide)

theorem Live.windowShut_used (l : Live) (b : Nat) : (l.windowShut b).tableUsed ≤ l.tableUsed := by
  unfold Live.tableUsed
  refine ((l.windowShut_sublist b).filter _).length_le.trans ?_
  rw [List.filter_map, List.length_map]
  refine (List.monotone_filter_right _ fun o ho => ?_).length_le
  obtain ⟨hstands, hcode⟩ : (l.windowOver b o).stands = true ∧ (l.windowOver b o).d.code ≠ 0x9004 := by simpa using ho
  have hsame := (Live.windowOver_stands hstands).2
  rw [hsame] at hstands hcode
  simpa [hstands] using hcode

/-- A new occurrence of class SAFE is in the table and sets the latch. -/
theorem occAnswered_safe {l : Live} {o : Occ} (hcls : o.cls = .safe) (hconseq : o.conseq = false) (hfree : l.tableUsed < 63)
    (hsafe : l.fc.safe = false) (n : Nat) : (l.occAnswered n o).fc.safe = true ∧ (l.occAnswered n o).fc.blocks = l.fc.blocks ∧
      (l.occAnswered n o).fc.table = l.fc.table ++ [o] := by
  obtain ⟨k, hk⟩ : ∃ k, k = l.occEntered o := ⟨_, rfl⟩
  have hheld : k.held = { l.held with table := l.fc.table ++ [o] } := hk ▸ Live.occEntered_of_free o hfree
  have hcalm : k.fc.safe = false := (congrArg Fc.safe hheld :).trans hsafe
  have hlatch := Live.safeLatch_held (l := k.hostEvent 1 o.d.code.toNat o.d.obj.toNat o.d.aux.toNat)
    ((congrArg Fc.safe (Live.same_fc (by simp) : (k.hostEvent 1 o.d.code.toNat o.d.obj.toNat o.d.aux.toNat).fc = k.fc)).trans hcalm)
    o.d.code.toNat o.d.obj.toNat
  have hevent : (k.hostEvent 1 o.d.code.toNat o.d.obj.toNat o.d.aux.toNat).held = k.held := Live.held_of_less (by simp)
  have hanswer : l.occAnswered n o = (k.hostEvent 1 o.d.code.toNat o.d.obj.toNat o.d.aux.toNat).safeLatch o.d.code.toNat o.d.obj.toNat := by
    unfold Live.occAnswered
    rw [← hk, if_neg (by simp [hcls, hconseq, hcalm]), hcls]
    rfl
  rw [hevent, hheld] at hlatch
  rw [hanswer]
  exact ⟨(congrArg Fc.safe hlatch :), (congrArg Fc.blocks hlatch :), (congrArg Fc.table hlatch :)⟩

theorem Live.table_held (l : Live) : l.held.table = l.fc.table := rfl

/-- A new occurrence is in the table after its reaction. -/
theorem occAnswered_entry {l : Live} (o : Occ) (hfree : l.tableUsed < 63) (n : Nat) : ∃ x ∈ (l.occAnswered n o).fc.table, o.Kept x := by
  have hentered : (l.occEntered o).fc.table = l.fc.table ++ [o] := by
    rw [← Live.table_held, Live.occEntered_of_free o hfree]
  exact l.occAnswered_keeps_entered (takeOcc_keepsTable n) o o (hentered ▸ List.mem_append_right _ (List.mem_singleton_self o))

theorem Live.forL_single {α : Type} (l : Live) (x : α) (f : Live → α → Live) : l.forL [x] f = f l x := rfl

section Close
variable {s : State} {b : Fin 16} {at_ : Nat} (hat : (s.live.block b).closeAt = some at_)
include hat

theorem exec_shadowWindowClose_early (h : s.live.now < at_) : exec (.shadowWindowClose b) s = .next s := by
  show execShadowWindowClose b s = _
  unfold execShadowWindowClose
  refine upd_idle ?_
  rw [hat]
  exact if_pos h

theorem exec_shadowWindowClose (h : at_ ≤ s.live.now) : exec (.shadowWindowClose b) s =
    s.upd fun l => (l.windowShut b).forL (l.windowRaises b) fun l x => l.takeOcc 4 x.1 x.2 true true := by
  show execShadowWindowClose b s = _
  unfold execShadowWindowClose
  refine upd_congr ?_
  rw [hat]
  exact if_neg (Nat.not_lt.mpr h)

/-- One raise at the close. -/
theorem exec_shadowWindowClose_one (h : at_ ≤ s.live.now) {d : Detail} {wire : Bool} (hraises : s.live.windowRaises b = [(d, wire)])
    {k : Live} (htake : (s.live.windowShut b).takeOcc 4 d wire true true = k) :
    exec (.shadowWindowClose b) s = .next { s with live := k } := by
  rw [exec_shadowWindowClose hat h, State.upd, hraises, Live.forL_single, htake]

variable (hdue : at_ ≤ s.live.now)
include hdue

/-- Nothing is raised. -/
theorem shadowWindowClose_quiet (hnone : s.live.fc.table.filter (Occ.ofWindow b) = []) (hback : (s.live.block b).back = true) :
    Gives (exec (.shadowWindowClose b) s) (fun t => (t.live.block b).closeAt = none ∧ SameBut [.fc] s t) := by
  have hraises : s.live.windowRaises b = [] := by
    simp [Live.windowRaises_eq, hnone, hback]
  rw [exec_shadowWindowClose hat hdue]
  refine upd_gives_of_eq (k := s.live.windowShut b) (by rw [hraises]; rfl) ?_
  exact ⟨Live.windowShut_closeAt _ _, live_sameBut (Live.windowShut_keep _ _) _ (by decide)⟩

/-- A block that is not back escalates. -/
theorem shadowWindowClose_escalates (hnone : s.live.fc.table.filter (Occ.ofWindow b) = []) (hback : (s.live.block b).back = false)
    (hfree : s.live.tableUsed < 63) (hnew : s.live.stands 0x9005 0x9FFF = false) (hsafe : s.live.fc.safe = false) :
    Gives (exec (.shadowWindowClose b) s) (fun t => (t.live.block b).closeAt = none ∧ t.live.fc.safe = true ∧
      ∃ o ∈ t.live.fc.table, o.d.code = 0x9005 ∧ o.d.aux.toNat = b ∧ o.cls = .safe) := by
  have hraises : s.live.windowRaises b = [(s.live.ownDetail 0x9005 b, false)] := by
    simp [Live.windowRaises_eq, hnone, hback]
  have hsame : (s.live.windowShut b).fc.table.any (fun x => x.same (s.live.ownDetail 0x9005 b)) = false := by
    refine Live.windowShut_none_same fun x hx hsame => ?_
    simp only [Occ.same, Bool.and_eq_true, decide_eq_true_eq] at hsame
    obtain ⟨⟨hstands, hcode⟩, hobj⟩ := hsame
    have hnot := List.any_eq_false.mp hnew x hx
    rw [hcode, hobj, hstands] at hnot
    exact absurd rfl hnot
  have hfree' := (s.live.windowShut_used b).trans_lt hfree
  have htake : (s.live.windowShut b).takeOcc 4 (s.live.ownDetail 0x9005 b) false true true = _ :=
    takeOcc_fresh (cls := .safe) rfl hsame hfree' 3 false
  have hexec := exec_shadowWindowClose_one hat hdue hraises htake
  obtain ⟨hlatched, hblocks, htable⟩ := occAnswered_safe (o := occEntry (s.live.ownDetail 0x9005 b) .safe false true none) rfl rfl hfree'
    ((s.live.windowShut_safe b).trans hsafe) 3
  generalize (s.live.windowShut b).occAnswered 3 _ = k at hexec hlatched hblocks htable
  have hentry : occEntry (s.live.ownDetail 0x9005 b) .safe false true none ∈ k.fc.table := by
    rw [htable]
    exact List.mem_append_right _ (List.mem_singleton_self _)
  have hshut : (k.block b).closeAt = none := by
    rw [Live.block, hblocks]
    exact Live.windowShut_closeAt _ _
  exact ⟨_, hexec, hshut, hlatched, _, hentry, rfl, Nat.mod_eq_of_lt (by omega), rfl⟩

/-- A consequence that still stands is raised afresh. -/
theorem shadowWindowClose_raises {o : Occ} {k : Cls} (hone : s.live.fc.table.filter (Occ.ofWindow b) = [o]) (hcond : s.live.condOf o = true)
    (hback : (s.live.block b).back = true) (hsame : s.live.fc.table.filter (fun x => x.same o.d) = [o])
    (hroute : s.live.routeOf o.d.code.toNat = some k) (hfree : s.live.tableUsed < 63) :
    Gives (exec (.shadowWindowClose b) s) (fun t => ∃ x ∈ t.live.fc.table, x.d = { o.d with tick := s.live.tick } ∧ x.cls = k ∧
      x.wire = o.wire ∧ x.cond = true ∧ x.conseq = false ∧ x.stands = true) := by
  obtain ⟨d, hd⟩ : ∃ d : Detail, d = { o.d with tick := s.live.tick } := ⟨_, rfl⟩
  have hraises : s.live.windowRaises b = [(d, o.wire)] := by
    simp [Live.windowRaises_eq, hone, hback, hcond, hd]
  have hmine : o.ofWindow b = true := by
    have hmem : o ∈ s.live.fc.table.filter (Occ.ofWindow b) := hone ▸ List.mem_singleton_self o
    exact (List.mem_filter.mp hmem).2
  have hnew : (s.live.windowShut b).fc.table.any (fun x => x.same d) = false := by
    refine Live.windowShut_none_same fun x hx hx' => ?_
    rw [hd] at hx'
    have hmem : x ∈ s.live.fc.table.filter (fun x => x.same o.d) := List.mem_filter.mpr ⟨hx, hx'⟩
    rw [hsame] at hmem
    rwa [List.mem_singleton.mp hmem]
  have himg : (s.live.windowShut b).img = s.live.img := Live.less_img (s.live.windowShut_keep b) (by decide)
  have hroute' : (s.live.windowShut b).routeOf d.code.toNat = some k := by
    rw [Live.routeOf, himg, hd]
    exact hroute
  have hfree' := (s.live.windowShut_used b).trans_lt hfree
  have htake : (s.live.windowShut b).takeOcc 4 d o.wire true true = _ := takeOcc_fresh hroute' hnew hfree' 3 o.wire
  have hexec := exec_shadowWindowClose_one hat hdue hraises htake
  obtain ⟨x, hx, hkept⟩ := occAnswered_entry (occEntry d k o.wire true none) hfree' 3
  generalize (s.live.windowShut b).occAnswered 3 _ = j at hexec hx
  exact ⟨_, hexec, x, hx, hkept.d.trans hd, hkept.cls, hkept.wire, hkept.cond rfl, hkept.conseq, hkept.stands⟩

end Close

end Sys2Proof.Machine
end

section
/-! PROOFS. The fault log, the clear of an occurrence, and the end of the safe state (R385, R389, R399, R400). -/
open Sys2Proof Sys2Proof.Machine
namespace Sys2Proof.Machine

/-! ## The tables of the log -/

theorem tget_tset_same {α : Type} (d : α) (t : Tbl α) (k : Nat) (v : α) : tget d (tset t k v) k = v := by
  induction t with
  | nil => simp [tset, tget]
  | cons p t ih =>
    obtain ⟨j, w⟩ := p
    unfold tset
    split
    · simp [tget]
    · split
      · simp [tget]
      next hlt hne => simpa [tget, hlt, hne] using ih

/-- A table whose entries keep their numbers and a view of their values reads the same by that view. -/
theorem tget_map_view {α β : Type} (d : α) (t : Tbl α) (g : Nat × α → Nat × α) (view : α → β) (hkey : ∀ p, (g p).1 = p.1)
    (hview : ∀ p, view (g p).2 = view p.2) (k : Nat) : view (tget d (t.map g) k) = view (tget d t k) := by
  induction t with
  | nil => rfl
  | cons p t ih =>
    obtain ⟨hj, hv⟩ := And.intro (hkey p) (hview p)
    obtain ⟨j, w⟩ := p
    rw [List.map_cons]
    generalize g (j, w) = q at hj hv
    obtain ⟨j', w'⟩ := q
    obtain rfl : j' = j := hj
    unfold tget
    split
    · rfl
    · split
      · exact hv
      · exact ih

/-! ## FAULT_LOG_COPY (R398 to R400) -/

theorem Occ.payload_length (o : Occ) (seq : Nat) : (o.payload seq).length = 16 := by
  simp [Occ.payload, leBytes_length]

/-- The log's copies keep their places, their numbers and their use. -/
theorem Live.logSync_logAt (l : Live) (n : Nat) : (l.logSync.logAt n).seq = (l.logAt n).seq ∧ (l.logSync.logAt n).used = (l.logAt n).used := by
  unfold Live.logSync
  split
  · exact ⟨rfl, rfl⟩
  · have hview := tget_map_view ({} : LogEntry) l.fc.log (fun p =>
      match l.fc.table.find? (fun o => o.seq = some p.2.seq) with
      | some o => (p.1, { p.2 with o := o })
      | none => p) (fun e => (e.seq, e.used)) (fun p => by dsimp only; split <;> rfl) (fun p => by dsimp only; split <;> rfl) n
    exact Prod.mk.inj hview

theorem Live.tablePrune_nextSeq (l : Live) : l.tablePrune.fc.nextSeq = l.fc.nextSeq := by
  show l.logSync.fc.nextSeq = l.fc.nextSeq
  unfold Live.logSync
  split <;> rfl

theorem Live.tablePrune_logAt (l : Live) (n : Nat) :
    (l.tablePrune.logAt n).seq = (l.logAt n).seq ∧ (l.tablePrune.logAt n).used = (l.logAt n).used := l.logSync_logAt n

/-- The occurrence gets the next number and its place in the log. -/
def Live.logMarked (l : Live) (o : Occ) : Live :=
  let seq := l.fc.nextSeq
  let p := l.logPlace seq
  let o' : Occ := { o with seq := some seq }
  let l := if p.2 then l.w1cSet 0x9FFF 0 29 else l
  l.modFc fun f =>
    { f with nextSeq := (seq + 1) % 2 ^ 32, ovfl := f.ovfl || p.2,
             table := f.table.map (fun x => if x.seq.isNone && x.d = o.d && x.cleared = o.cleared && x.window = o.window then o' else x),
             log := tset f.log p.1 { o := o', boot := BitVec.ofNat 16 l.recd.bootcnt.toNat, seq := seq, used := true } }

theorem Live.logMarked_fc (l : Live) (o : Occ) : ((l.logMarked o).logAt (l.logPlace l.fc.nextSeq).1).seq = l.fc.nextSeq ∧
    ((l.logMarked o).logAt (l.logPlace l.fc.nextSeq).1).used = true ∧ (l.logMarked o).fc.nextSeq = (l.fc.nextSeq + 1) % 2 ^ 32 := by
  unfold Live.logMarked
  extract_lets seq p o' l1
  refine ⟨?_, ?_, rfl⟩
  · exact congrArg LogEntry.seq (tget_tset_same ({} : LogEntry) l1.fc.log p.1 _)
  · exact congrArg LogEntry.used (tget_tset_same ({} : LogEntry) l1.fc.log p.1 _)

theorem Live.log_held (l : Live) : l.held.log = l.fc.log := rfl

section Log
variable {s : State} (hup : s.live.coresUp = true)
include hup

theorem faultLogCopy_idle (hnone : s.live.fc.table.filter (fun o => o.seq.isNone) = []) : exec .faultLogCopy s = .next s := by
  show execFaultLogCopy s = _
  unfold execFaultLogCopy
  refine upd_idle ((if_neg (by simp [hup])).trans ?_)
  dsimp only
  rw [hnone]
  rfl

variable {o : Occ} {rest : List Occ} (htodo : s.live.fc.table.filter (fun o => o.seq.isNone) = o :: rest)
  (hgap : ∀ x ∈ o :: rest, x.d.code ≠ 0x9006)
include htodo hgap

theorem exec_faultLogCopy : exec .faultLogCopy s =
    s.upd fun l => ((l.logMarked o).record 0x01 (o.payload l.fc.nextSeq)).tablePrune := by
  show execFaultLogCopy s = _
  unfold execFaultLogCopy
  refine upd_congr ((if_neg (by simp [hup])).trans ?_)
  have hfirst : (o :: rest).find? (fun o => o.d.code = 0x9006) = none := List.find?_eq_none.mpr fun x hx => by simpa using hgap x hx
  dsimp only
  rw [htodo, hfirst]
  rfl

theorem faultLogCopy_gives : Gives (exec .faultLogCopy s) (fun t => t.live.fc.nextSeq = (s.live.fc.nextSeq + 1) % 2 ^ 32 ∧
    (t.live.logAt (s.live.logPlace s.live.fc.nextSeq).1).seq = s.live.fc.nextSeq ∧
    (t.live.logAt (s.live.logPlace s.live.fc.nextSeq).1).used = true ∧
    (s.live.pwr.on.getLsbD 6 = true → ∃ r, t.live.recd.ring.head? = some r ∧ r.etype = 1 ∧ r.pay = o.payload s.live.fc.nextSeq)) := by
  obtain ⟨k, hk⟩ : ∃ k, k = (s.live.logMarked o).record 0x01 (o.payload s.live.fc.nextSeq) := ⟨_, rfl⟩
  have hheld : k.held = (s.live.logMarked o).held := hk ▸ Live.record_held _ _ _
  obtain ⟨hseq, hused⟩ := k.tablePrune_logAt (s.live.logPlace s.live.fc.nextSeq).1
  obtain ⟨hnumber, huse, hnext⟩ := s.live.logMarked_fc o
  have hlog (n : Nat) : k.logAt n = (s.live.logMarked o).logAt n := by
    rw [Live.logAt, ← Live.log_held, hheld]
    rfl
  rw [hlog] at hseq hused
  rw [exec_faultLogCopy hup htodo hgap]
  refine upd_gives_of_eq (k := k.tablePrune) (by rw [hk]) ⟨?_, hseq.trans hnumber, hused.trans huse, fun hon => ?_⟩
  · exact k.tablePrune_nextSeq.trans ((congrArg Fc.nextSeq hheld :).trans hnext)
  · have hpwr : (s.live.logMarked o).pwr = s.live.pwr := Live.same_pwr (by simp [Live.logMarked, Live.less_ite])
    have hdom : (s.live.logMarked o).dom 6 = true := by rwa [Live.dom, hpwr]
    obtain ⟨r, hhead, htype, hpay⟩ := Live.record_head_pay hdom 0x01 (o.payload s.live.fc.nextSeq)
    rw [List.take_left' (o.payload_length _)] at hpay
    have hrecd : k.tablePrune.recd = k.recd := Live.same_recd (by simp)
    exact ⟨r, by rw [hrecd, hk]; exact hhead, htype, hpay⟩

end Log

/-! ## FAULT_CLEAR (R385) -/

/-- A request that is taken leaves what a lasting condition is judged by. -/
theorem begun_lasting (l : Live) (q : Req) (d : Detail) : (l.begun q).lasting d = l.lasting d := by
  obtain ⟨cs, w, he⟩ := l.begun_eq q
  have hlock (a : Nat) : ((l.begun q).mport a).lockEnd = (l.mport a).lockEnd := by
    have hport : (l.begun q).mport a =
        tget ({} : MsgPort) (tmod ({} : MsgPort) l.msgs.ports (MsgHdr.port_ q.h) fun p => { p with inbox := some q.frame }) a := by
      rw [he]
      rfl
    rw [hport, tget_tmod]
    split
    next h => exact h ▸ rfl
    next => rfl
  unfold Live.lasting
  simp only [hlock]
  rw [he]
  rfl

theorem begun_dom (l : Live) (q : Req) (n : Nat) : (l.begun q).dom n = l.dom n := by
  rw [Live.dom, Live.less_pwr (l.begun_keep q) (by decide), Live.dom]

theorem begun_condOf (l : Live) (q : Req) (o : Occ) : (l.begun q).condOf o = l.condOf o := by
  unfold Live.condOf
  rw [begun_lasting, begun_dom]

theorem begun_mayClear (l : Live) (q : Req) (o : Occ) : (l.begun q).mayClear o = l.mayClear o := by
  rw [Live.mayClear, begun_condOf, begun_dom, Live.mayClear]

/-- Nothing of an occurrence stands once it is cleared. -/
theorem Live.clearOcc_table (l : Live) (o : Occ) (sess port : Nat) : ∀ x ∈ (l.clearOcc o sess port).fc.table, x.same o.d = false := by
  unfold Live.clearOcc
  extract_lets l1 l2 l3
  have h2 : l2.fc = l1.tablePrune.fc := Live.same_fc (by simp [l2])
  have h3 : l3.fc.table = l2.fc.table := Live.held_table (l2.record_held _ _)
  have hend : ((l3.hostEvent 2 o.d.code.toNat o.d.obj.toNat o.d.aux.toNat).count 91).fc = l3.fc := Live.same_fc (by simp)
  rw [hend, h3, h2]
  intro x hx
  obtain ⟨y, hy, rfl⟩ := List.mem_map.mp (l1.tablePrune_sublist.subset hx)
  split
  · simp [Occ.same, Occ.stands]
  next h => simpa using h

/-- The clear is the newest host event. -/
theorem Live.clearOcc_event (l : Live) (o : Occ) (sess port : Nat) : ∃ e, (l.clearOcc o sess port).msgs.events.head? = some e ∧
    e.kind = 2 ∧ e.code = o.d.code ∧ e.obj = o.d.obj := by
  unfold Live.clearOcc
  extract_lets l1 l2 l3
  have hmsgs : ((l3.hostEvent 2 o.d.code.toNat o.d.obj.toNat o.d.aux.toNat).count 91).msgs =
      (l3.hostEvent 2 o.d.code.toNat o.d.obj.toNat o.d.aux.toNat).msgs := Live.same_msgs (by simp)
  rw [hmsgs]
  refine ⟨_, rfl, rfl, ?_, ?_⟩ <;> simp

section Clear
variable {s : State} {h : MsgHdr} {code obj : Half} (hs : Served s.live h 0x31 1 (leBytes code.toNat 2 ++ leBytes obj.toNat 2))
  (hcode : code ≠ 0xFFFF) (hmay : s.live.mayClearObj (s.live.sess h.sess.toNat).cls obj.toNat = true)

/-- The request of a FAULT_CLEAR. -/
def faultClearReq (h : MsgHdr) (code obj : Half) : Req :=
  { h := h, mop := 0x31, body := leBytes code.toNat 2 ++ leBytes obj.toNat 2, cls := 1, obj := some obj.toNat, tclass := 3 }

theorem asked_clearable (l : Live) (q : Req) (o : Nat) : (∀ c, (l.asked q).mayClearObj c o = l.mayClearObj c o) ∧
    (l.asked q).asleep o = l.asleep o ∧ (l.asked q).domUp (objDom o) = l.domUp (objDom o) := by
  obtain ⟨cs, w, he⟩ := l.asked_eq q
  rw [he]
  exact ⟨fun _ => rfl, rfl, rfl⟩

include hs hcode hmay

theorem faultClear_sleeping (hdown : s.live.asleep obj.toNat = true ∨ s.live.domUp (objDom obj.toNat) = false) :
    Gives (exec (.faultClear h code obj) s) (fun t => Replied t h 0x31 0x09 [] ∧ t.live.fc = s.live.fc) := by
  show Gives (execFaultClear h code obj s) _
  unfold execFaultClear
  refine serve_refused_gives (q := faultClearReq h code obj) (st := 9) hs (by simp [faultClearReq]) ?_ (by decide) ?_
  · obtain ⟨hmayc, hasleep, hup⟩ := asked_clearable s.live (faultClearReq h code obj) obj.toNat
    have hadmit : ¬ (!(s.live.asked (faultClearReq h code obj)).mayClearObj (s.live.sess h.sess.toNat).cls obj.toNat) = true := by
      simp [hmayc, hmay]
    refine (if_neg hcode).trans ((if_neg hadmit).trans (if_pos ?_))
    rw [hasleep, hup]
    rcases hdown with hdown | hdown <;> simp [hdown]
  · exact (Live.same_fc (by simp)).trans (Live.less_fc (s.live.asked_keep (faultClearReq h code obj)) (by decide))

section Awake
variable (hawake : s.live.asleep obj.toNat = false) (hup : s.live.domUp (objDom obj.toNat) = true)
include hawake hup

/-- A clear that passes its checks is answered by its work. -/
theorem faultClear_serves {k : Live} {st : Nat} {data : List Byte}
    (hwork : (s.live.begun (faultClearReq h code obj)).faultClear
      (fun o => (s.live.begun (faultClearReq h code obj)).mayClearObj (s.live.sess h.sess.toNat).cls o.d.obj.toNat) code obj h.sess.toNat
      (MsgHdr.port_ h) = (k, st, data))
    {P : State → Prop} (hP : P { s with live := k.answerKept (faultClearReq h code obj) st data }) :
    Gives (exec (.faultClear h code obj) s) (fun t => Replied t h 0x31 st data ∧ P t) := by
  show Gives (execFaultClear h code obj s) _
  unfold execFaultClear
  refine serve_onLive_answered (q := faultClearReq h code obj)
    (f := fun l n c => l.faultClear (fun o => l.mayClearObj c o.d.obj.toNat) code obj n (MsgHdr.port_ h)) hs (by simp [faultClearReq]) ?_ hwork hP
  obtain ⟨hmayc, hasleep, hdomUp⟩ := asked_clearable s.live (faultClearReq h code obj) obj.toNat
  have hadmit : ¬ (!(s.live.asked (faultClearReq h code obj)).mayClearObj (s.live.sess h.sess.toNat).cls obj.toNat) = true := by
    simp [hmayc, hmay]
  refine (if_neg hcode).trans ((if_neg hadmit).trans (if_neg ?_))
  rw [hasleep, hdomUp]
  simp [hawake, hup]

theorem faultClear_unknown (hnone : s.live.fc.table.find? (fun o => o.stands && o.d.code = code && o.d.obj = obj) = none) :
    Gives (exec (.faultClear h code obj) s) (fun t => Replied t h 0x31 0x04 [] ∧ t.live.fc = s.live.fc) := by
  have hfc : (s.live.begun (faultClearReq h code obj)).fc = s.live.fc := Live.less_fc (s.live.begun_keep _) (by decide)
  refine faultClear_serves hs hcode hmay hawake hup (k := s.live.begun (faultClearReq h code obj)) ?_ ?_
  · unfold Live.faultClear
    rw [if_neg hcode, hfc, hnone]
  · exact (Live.same_fc (by simp)).trans hfc

variable {o : Occ} (hsome : s.live.fc.table.find? (fun o => o.stands && o.d.code = code && o.d.obj = obj) = some o)
include hsome

theorem faultClear_held (hheld : s.live.mayClear o = false) :
    Gives (exec (.faultClear h code obj) s) (fun t => Replied t h 0x31 0x0E [] ∧ t.live.fc.table = s.live.fc.table) := by
  have hfc : (s.live.begun (faultClearReq h code obj)).fc = s.live.fc := Live.less_fc (s.live.begun_keep _) (by decide)
  refine faultClear_serves hs hcode hmay hawake hup (k := (s.live.begun (faultClearReq h code obj)).count 92) ?_ ?_
  · unfold Live.faultClear
    rw [if_neg hcode, hfc, hsome]
    exact if_neg (by simp [begun_mayClear, hheld])
  · exact congrArg Fc.table (((Live.same_fc (by simp)).trans (Live.count_fc _ 92)).trans hfc)

theorem faultClear_clears (hclear : s.live.mayClear o = true) :
    Gives (exec (.faultClear h code obj) s) (fun t => Replied t h 0x31 0 [] ∧ (∀ x ∈ t.live.fc.table, x.same o.d = false) ∧
      ∃ e, t.live.msgs.events.head? = some e ∧ e.kind = 2 ∧ e.code = code ∧ e.obj = obj) := by
  have hfc : (s.live.begun (faultClearReq h code obj)).fc = s.live.fc := Live.less_fc (s.live.begun_keep _) (by decide)
  obtain ⟨⟨-, hocode⟩, hoobj⟩ : (o.stands = true ∧ o.d.code = code) ∧ o.d.obj = obj := by simpa using List.find?_some hsome
  obtain ⟨k, hk⟩ : ∃ k, k = (s.live.begun (faultClearReq h code obj)).clearOcc o h.sess.toNat (MsgHdr.port_ h) := ⟨_, rfl⟩
  refine faultClear_serves hs hcode hmay hawake hup (k := k) ?_ ⟨?_, ?_⟩
  · unfold Live.faultClear
    rw [if_neg hcode, hfc, hsome, hk]
    exact if_pos (by rw [begun_mayClear, hclear])
  · have hkept : (k.answerKept (faultClearReq h code obj) 0 []).fc = k.fc := Live.same_fc (by simp)
    dsimp only
    rw [hkept, hk]
    exact Live.clearOcc_table _ _ _ _
  · obtain ⟨e, hhead, hkind, hecode, heobj⟩ := Live.clearOcc_event (s.live.begun (faultClearReq h code obj)) o h.sess.toNat (MsgHdr.port_ h)
    obtain ⟨ps, ss, hmsgs⟩ := answerKept_msgs k (faultClearReq h code obj) 0 []
    dsimp only
    rw [hmsgs]
    exact ⟨e, hk ▸ hhead, hkind, hecode.trans hocode, heobj.trans hoobj⟩

end Awake

end Clear

/-! ## SAFEXIT (R389) -/

theorem exec_safexit_held {s : State} (h : s.live.safeHeld = true ∨ s.live.dom 1 = false) : exec .safexit s = .next s := by
  show execSafexit s = _
  unfold execSafexit
  rw [if_neg (by rcases h with h | h <;> simp [h])]
  rfl

theorem safexit_resets {s : State} (hfree : s.live.safeHeld = false) (hdom : s.live.dom 1 = true) :
    Gives (exec .safexit s) (fun t => t.live.pwr.st = .boot ∧ t.live.pwr.stage = 1 ∧ t.live.pwr.cause = 2 ∧ t.live.fc.safe = false ∧
      t.live.now = s.live.now ∧ t.gens = []) := by
  have hexec : exec .safexit s = .next { s with live := s.live.release 2, gens := [] } := by
    show execSafexit s = _
    unfold execSafexit
    rw [if_pos (by simp [hfree, hdom])]
  have hpwr : (s.live.release 2).pwr = { s.live.resetState.pwr with cause := 2 } := rfl
  rw [Live.resetState_pwr] at hpwr
  have hfc : (s.live.release 2).fc = {} := rfl
  have hnow : (s.live.release 2).now = s.live.now := Live.same_now (by simp)
  refine ⟨_, hexec, ?_, ?_, ?_, congrArg Fc.safe hfc, hnow, rfl⟩
  all_goals
    dsimp only
    rw [hpwr]

/-! ## Windows, logs and clears -/

/-- Settles O47, event by event: the return of a block, the close of its window, the copy to the log, a clear, and the end of
the safe state. -/
theorem windowsLogsAndClears : Obligations.WindowsLogsAndClears := by
  unfold Obligations.WindowsLogsAndClears
  intro s b l
  refine ⟨blockBack_gives, exec_blockBack_idle, fun at_ hat => ⟨exec_shadowWindowClose_early hat, fun hdue hnone => ⟨?_, ?_⟩, ?_⟩,
    fun hfw hcores => ?_, fun h code obj hs hcode hmay => ⟨faultClear_sleeping hs hcode hmay, fun hawake hup => ⟨?_, fun o hsome => ⟨?_, ?_⟩⟩⟩,
    exec_safexit_held, safexit_resets⟩
  · exact shadowWindowClose_quiet hat hdue hnone
  · exact shadowWindowClose_escalates hat hdue hnone
  · exact fun o k hdue hone hcond hback hsame hroute hfree => shadowWindowClose_raises hat hdue hone hcond hback hsame hroute hfree
  · have hup : l.coresUp = true := by simp [Live.coresUp, hfw, hcores]
    exact ⟨faultLogCopy_idle hup, fun o rest htodo hgap => faultLogCopy_gives hup htodo hgap⟩
  · exact faultClear_unknown hs hcode hmay hawake hup
  · exact faultClear_held hs hcode hmay hawake hup hsome
  · exact faultClear_clears hs hcode hmay hawake hup hsome

end Sys2Proof.Machine
end
